-- ==== Sys2Proof/Word.lean ====
section
/-! DEFINITION. The machine's word types, and the coordinates of one register field. -/

namespace Sys2Proof

/-- One 64-bit word: a sample cell, a register image, a microinstruction, a bank word. -/
abbrev Word := BitVec 64

/-- One byte of the address space. -/
abbrev Byte := BitVec 8

/-- Sparse data by key: strictly rising keys, no entry equal to what an unlisted key reads as. -/
abbrev SMap (α : Type) := List (Nat × α)

/-- The coordinates of one register field: the register's byte address, the field's lowest bit, its width,
and its reset value as the register tables give it (R74 and the other register pages). -/
structure Fld where
  addr : Nat
  lo : Nat
  width : Nat
  rst : Nat
deriving DecidableEq, Repr

/-- The access codes of the register tables (the table before R9). -/
inductive Access where
  | rw | ro | wo | w1c | rc | rws | rwl
deriving DecidableEq, Repr

/-- One row of a register table: a register, where it lies, how often it repeats, its access code and the
fields of its first copy. `view` is true for a register that shows the selected member of a set. -/
structure RegRow where
  name : String
  addr : Nat
  stride : Nat
  count : Nat
  acc : Access
  flds : List Fld
deriving DecidableEq, Repr

end Sys2Proof
end

