-- ==== Sys2Proof/Syntax.lean ====
section
/-! DEFINITION. The commands of the block: one constructor per row of spec/opcode_table.json, with the operands the
row carries. A tile instruction's operands lie in the tile's frame and a ring command's in the ring, so those rows name the
tile or the ring; an event of the world outside carries what the block measures or receives with it. -/

namespace Sys2Proof

/-- A tile number (R45). -/
abbrev TileIx := Fin 1024
/-- A ring number (R348). -/
abbrev RingIx := Fin 64
/-- A crosspoint number (chapter Routing, Mixing and Gain). -/
abbrev XpIx := Fin 1024
/-- A clock monitor number (chapter Rate Domains and Bridges). -/
abbrev MonIx := Fin 6
/-- A bank or a rate bridge. -/
abbrev EightIx := Fin 8
/-- An analog input channel. -/
abbrev SixIx := Fin 6
/-- A serial port, a speaker channel, a headphone channel or an archive lane. -/
abbrev FourIx := Fin 4
/-- A bias output. -/
abbrev ThreeIx := Fin 3
/-- A jack, a chain port, a PDM clock or a bridge leg. -/
abbrev TwoIx := Fin 2
/-- A unit of the chain (R4). -/
abbrev UnitIx := Fin 16
/-- A housekeeping channel. -/
abbrev SixteenIx := Fin 16

/-- What a cold start reads from balls and strap (R2, R383, R461). -/
structure PowerInputs where
  /-- Level of CHAIN_HEAD. -/
  head : Bool
  /-- The nearest strap row of R383, 0 to 7. -/
  strap : Nat
  /-- The reading lies in a guard band. -/
  margin : Bool
  /-- ADDR voltage in mV. -/
  addrMv : Nat
  /-- CK_XO starts within its bound. -/
  xoOk : Bool
  /-- The identity fuses as read (R464). -/
  fuses : Nat
  /-- Bit k < 3: copy k of the NVS system image disagrees with what the start recovers; bit 3: no copy and no vote has a good CRC (R495). -/
  sysBad : Nat
deriving DecidableEq, Repr

/-- What the converters and pins give the block at a domain-A frame boundary. -/
structure FrameInputs where
  /-- The code of each AIN converter, channel 0 first, 24-bit two's complement. -/
  ain : List Nat
  /-- Bit n: the AIN converter n reports over-range for the sample. -/
  overRange : Nat
  /-- The high-quality decimator output of each PDM microphone in units of 2^-23, before it saturates. -/
  pdm : List Int
  /-- PVDD in mV. -/
  pvdd : Nat
  /-- The load current of each speaker channel in the frame that ended, in mA, as its sense converter saw it (R261, R265). -/
  amps : List Nat
  /-- Bit n: the output of headphone channel n was current-limited (R297). -/
  hpoLimit : Nat
  /-- Of each clock monitor, the mean of the last 16 periods in 1/256 CK_XO cycle, 0 where there is none (R153). -/
  mon : List Nat
  /-- Bit m: the clock that monitor m watches had an edge in the frame that ended (R143). -/
  edges : Nat
  /-- The measured domain-B strobe rate in 1/16 Hz (R153). -/
  measB : Nat
  /-- The 384 kHz samples of each AIN channel in the frame that ended, after the programmable gain and the minimum-phase
  decimation, in units of 2^-32 (R127). -/
  low : List (List Int)
  /-- Crosspoints whose store entries an uncorrectable soft error struck in that frame (R124). -/
  xpBad : List Nat
deriving DecidableEq, Repr

/-- The scope of the load that a lend stream belongs to; the spec gives the chain no encoding of it (R170, R172, R178). -/
inductive LendScope where
  /-- A full load. -/
  | full
  /-- A partial load of shelf `h`. -/
  | shelf (h : Fin 16)
  /-- A load that only verifies. -/
  | verify
deriving DecidableEq, Repr

/-- A tunnel unit (chapter The Reninait Chain): its header word and its data words. -/
structure TunUnit where
  hdr : Nat
  data : List Nat
deriving DecidableEq, Repr

/-- What training finds at a chain port (R321, R324 to R326, R330). -/
structure LinkInfo where
  /-- One-way delay in bit times of 1.6 ns. -/
  delay : Nat
  /-- The position the sender's TRAIN frames carry. -/
  pos : Nat
  /-- ADDR_VALID in the ECHO frames of the unit beyond. -/
  addrValid : Bool
  /-- On a satellite's upstream port, the offset of its frame boundary from the aligned position in ns. -/
  offset : Int
  /-- The head's frame number at that boundary. -/
  headFrame : Nat
deriving DecidableEq, Repr

/-- A chain frame as a port receives it (R315 to R317). -/
structure ChainFrame where
  /-- No SOF came at the expected time. -/
  missing : Bool
  /-- The control CRC holds. -/
  crcOk : Bool
  /-- The sixteen words of the control field. -/
  ctl : List Nat
  /-- The slots' words, slot 0 first. -/
  slots : List Nat
  /-- Bit i: slot i holds an invalid code group or a disparity error. -/
  badSlots : Nat
  /-- Bit g: the CRC of slot group g fails. -/
  badGroups : Nat
deriving DecidableEq, Repr

/-- How an attempt at an auxiliary-bus transfer ends (R400 to R404). -/
inductive AuxOutcome where
  /-- The STOP was sent. -/
  | done
  /-- A target gives NACK on byte `index`. -/
  | nack (index : Nat)
  /-- Arbitration lost on a bit. -/
  | arbLost (index bit : Nat)
  /-- SDA low before a STOP or repeated START that follows byte `index`. -/
  | arbCond (index : Nat)
  /-- The bus is not free in time, or, `started`, a target holds SCL low too long. -/
  | timeout (started : Bool)
deriving DecidableEq, Repr

/-- How a bus clear ends (R405). -/
inductive ClearOutcome where
  /-- SDA reads high after `pulses` pulses, 0 when it was high at the start. -/
  | released (pulses : Nat)
  /-- SDA is low after the ninth pulse. -/
  | stuck
  /-- SCL does not rise in time, after `pulses` pulses. -/
  | timeout (pulses : Nat)
deriving DecidableEq, Repr

/-- The commands of the block, one constructor per row of the opcode table. -/
inductive Instr where
  /-- `POWER_ON` (R461). Supplies become valid and the device runs the cold start-up: straps, oscillator, core power, PLL, fuses, NVS and bank initialisation up to core release. -/
  | powerOn (p : PowerInputs)
  /-- `RESET_N` (R459). RESET_N held low for 2 CK_AON cycles requests a COLD reset, which folds, drains and applies the reset for as long as the ball stays low. -/
  | resetN
  /-- `RESET_RELEASE` (R459). After the start-up steps of its depth, a reset releases its blocks, posts SYS_RESET, sets SYS_SUM.RESET and clears the RESET fold cause. -/
  | resetRelease (p : PowerInputs)
  /-- `SYS_RESET` (R458). A write of SYS_RESET with WARM 1 and KEY 0xC3A5 requests a WARM reset; any other write changes nothing. -/
  | sysReset (v : Word)
  /-- `BOOT_LOAD` (R462). Once every unit in the candidate's UNIT_MASK is dealt, BOOT_WAIT expires or no downstream signal appears, the head starts the boot load of the selected slot. -/
  | bootLoad
  /-- `SYS_LOCK` (R11). A write of SYS_LOCK.LOCK with 1 sets the lock, after which RWL fields ignore writes until a WARM or COLD reset. -/
  | sysLock (v : Word)
  /-- `FOLD_NOW` (R518). A write of SYS_FOLD.FOLD_NOW passes directly to the keeper and sets the SW fold cause. -/
  | foldNow (v : Word)
  /-- `REGISTER_WRITE` (R12). A write to a register without a row of its own applies the field access codes (RW, W1C, RWS, RWL, WO) and is ignored where those codes say so. -/
  | registerWrite (addr : Nat) (v : Word)
  /-- `RC_REGISTER_READ` (R388). A read of an RC register or peak field removes exactly the snapshot value when its eighth byte has been sent or a tunnelled read returns. -/
  | rcRegisterRead (addr : Nat)
  /-- `FRAME_BOUNDARY` (R5). At each domain-A frame boundary the head increments the chain frame number and domain-A ticks, ports, router pass and frame-rate work begin. -/
  | frameBoundary (x : FrameInputs)
  /-- `DOMAIN_B_STROBE` (R135). A domain-B strobe starts one tick of the domain-B tiles, crosspoints, ports and IEC 60958 transmitter. -/
  | domainBStrobe (phase : Nat)
  /-- `DOMAIN_C_STROBE` (R139). A domain-C strobe starts a domain-C tick, the low-power decimator outputs, the archive write and handover copying. -/
  | domainCStrobe (pcm : List Int) (phase : Nat)
  /-- `TILE_TICK` (R51). A tile bound to a domain starts a tick at its domain's boundary or strobe and runs PARAM, FETCH and RUN. -/
  | tileTick (t : TileIx) (fetchOver : Nat)
  /-- `NOP` (R66). Tile instruction that does nothing for one cycle. -/
  | nop (t : TileIx)
  /-- `END` (R66). Tile instruction that ends RUN, waits for the section engine and leads to COMMIT. -/
  | endRun (t : TileIx)
  /-- `MOV` (R66). Tile instruction that copies SRCA to DST with its flags. -/
  | mov (t : TileIx)
  /-- `MOVF` (R66). Tile instruction that copies SRCA to DST, clearing the S, P, X and C flags set in IMM. -/
  | movf (t : TileIx)
  /-- `LDI` (R66). Tile instruction that writes a new cell with AUDIO = IMM x 2^8 and V = 1. -/
  | ldi (t : TileIx)
  /-- `ADD` (R66). Tile instruction that writes SRCA + SRCB, saturated, with ORed flags. -/
  | add (t : TileIx)
  /-- `SUB` (R66). Tile instruction that writes SRCA - SRCB, saturated, with ORed flags. -/
  | sub (t : TileIx)
  /-- `ABS` (R66). Tile instruction that writes the magnitude of SRCA. -/
  | abs (t : TileIx)
  /-- `MAX` (R66). Tile instruction that writes the larger of SRCA and SRCB. -/
  | max (t : TileIx)
  /-- `MIN` (R66). Tile instruction that writes the smaller of SRCA and SRCB. -/
  | min (t : TileIx)
  /-- `MULI` (R66). Tile instruction that multiplies SRCA by the immediate gain and writes DST. -/
  | muli (t : TileIx)
  /-- `SHL` (R66). Tile instruction that scales SRCA by a signed power of two. -/
  | shl (t : TileIx)
  /-- `TSTF` (R66). Tile instruction that sets T when SRCA carries any flag in the IMM mask. -/
  | tstf (t : TileIx)
  /-- `CMP` (R66). Tile instruction that sets ZF and NF from SRCA - SRCB without a write. -/
  | cmp (t : TileIx)
  /-- `MUL` (R66). Tile instruction that loads the accumulator with SRCA x SRCB. -/
  | mul (t : TileIx)
  /-- `MAC` (R66). Tile instruction that adds SRCA x SRCB to the accumulator. -/
  | mac (t : TileIx)
  /-- `MSU` (R66). Tile instruction that subtracts SRCA x SRCB from the accumulator. -/
  | msu (t : TileIx)
  /-- `MACI` (R66). Tile instruction that adds SRCA times the immediate gain to the accumulator. -/
  | maci (t : TileIx)
  /-- `ACLR` (R66). Tile instruction that clears the accumulator and its flags. -/
  | aclr (t : TileIx)
  /-- `ACRD` (R62). Tile instruction that waits for pending multiplies and writes the scaled, rounded accumulator to DST. -/
  | acrd (t : TileIx)
  /-- `ACWR` (R66). Tile instruction that loads the accumulator from SRCA, sign-extended. -/
  | acwr (t : TileIx)
  /-- `LDS` (R66). Tile instruction that loads a state-RAM cell addressed through an address register. -/
  | lds (t : TileIx)
  /-- `STS` (R66). Tile instruction that stores SRCA into a state-RAM cell. -/
  | sts (t : TileIx)
  /-- `ADDA` (R66). Tile instruction that advances an address register's pointer modulo its length. -/
  | adda (t : TileIx)
  /-- `LDB` (R60). Tile instruction that reads a bank word through the shelf gateway, stalling on arbitration. -/
  | ldb (t : TileIx) (stalls : Nat)
  /-- `STB` (R66). Tile instruction that writes SRCA to a bank word through the gateway. -/
  | stb (t : TileIx) (stalls : Nat)
  /-- `RECIP` (R66). Tile instruction that writes the saturated reciprocal of SRCA in 8 cycles. -/
  | recip (t : TileIx)
  /-- `VFIR` (R66). Tile vector instruction that accumulates the dot product of two state-RAM regions. -/
  | vfir (t : TileIx)
  /-- `VLMS` (R66). Tile vector instruction that updates a coefficient region by SRCA times a history region. -/
  | vlms (t : TileIx)
  /-- `JMP` (R66). Tile instruction that jumps on its condition, decrementing LC under COND LOOP. -/
  | jmp (t : TileIx)
  /-- `SETLC` (R66). Tile instruction that loads the loop counter. -/
  | setlc (t : TileIx)
  /-- `SEC` (R83). Tile instruction that starts a run of sections on the section engine with the given input and pre-operation. -/
  | sec (t : TileIx)
  /-- `SECW` (R62). Tile instruction that waits until the section engine is idle. -/
  | secw (t : TileIx)
  /-- `SEC_RUN_DONE` (R86). The section engine finishes the last section of a run and writes SR, releasing any waiting SECW or SR reader. -/
  | secRunDone (t : TileIx)
  /-- `ILLEGAL_INSTRUCTION` (R68). An illegal instruction is not executed; the tile acts on it as on END and stops with reason 2. -/
  | illegalInstruction (t : TileIx)
  /-- `CURR_READ` (R55). An instruction waiting on a CURR input completes 2 cycles after the producer executes END. -/
  | currRead (t : TileIx) (stalls : Nat)
  /-- `TILE_OVERRUN` (R69). A tile reaches its budget or the next tick before END; RUN stops, outputs publish as repeat fills and counters advance. -/
  | tileOverrun (t : TileIx) (at_ : Nat)
  /-- `ECC_WRITE_BACK` (R49). A corrected configuration or state-RAM word is written back in the next free port cycle unless a newer write came first. -/
  | eccWriteBack (addr : Nat)
  /-- `STOP` (R70). A write of FAB_TILE_CMD.STOP stops the selected tile after its current tick, with reason 5. -/
  | stop
  /-- `RESTART` (R70). A write of FAB_TILE_CMD.RESTART returns a STOPPED tile to READY and posts TILE_RESTART. -/
  | restart
  /-- `FAB_PARAM_WR` (R72). A write of FAB_PARAM_WR pushes (TILE, PIDX, FAB_PARAM_DATA) into the shelf's parameter queue. -/
  | fabParamWr (v : Word)
  /-- `CONFIG_MEMORY_WRITE` (R71). A host write to a tile frame lands between two ticks of that tile, whole, and sets MODIFIED. -/
  | configMemoryWrite (addr : Nat) (v : Word)
  /-- `STATE_RAM_WRITE` (R48). A host write to tile state RAM lands in a cycle in which the tile leaves the port free. -/
  | stateRamWrite (addr : Nat) (v : Word)
  /-- `COEF_GROUP` (R96). Command that validates a coefficient group block in bank 6 and stages it for an atomic flip. -/
  | coefGroup (r : RingIx)
  /-- `COEF_GROUP_STAGE` (R98). A group that waited behind another group touching the same sections stages once that group has flipped. -/
  | coefGroupStage (r : RingIx)
  /-- `COEF_GROUP_FLIP` (R96). At the flip boundary all select bits of the group flip together and the command completes. -/
  | coefGroupFlip (r : RingIx)
  /-- `ROUTE_SET` (R113). ROUTE with OP SET validates and queues new descriptors as route or gain changes. -/
  | routeSet (r : RingIx)
  /-- `ROUTE_CLEAR` (R113). ROUTE with OP CLEAR validates and queues fading crosspoints out to FREE. -/
  | routeClear (r : RingIx)
  /-- `ROUTE_QUERY` (R119). ROUTE with OP QUERY writes descriptor and status words of the target crosspoints to bank 6. -/
  | routeQuery (r : RingIx)
  /-- `ROUTE_CHANGE_BEGIN` (R115). At the first admissible boundary a queued change's new descriptor becomes active with the old path still live. -/
  | routeChangeBegin (x : XpIx)
  /-- `ROUTE_FADE_END` (R116). After its last fade tick a route change drops the old path and releases its sink and reservation. -/
  | routeFadeEnd (x : XpIx)
  /-- `XP_ZC_TIMEOUT` (R120). A gain change waiting for a zero crossing reaches its timeout and steps, incrementing ZC_TIMEOUTS. -/
  | xpZcTimeout (x : XpIx)
  /-- `GAIN_RAMP_END` (R121). A gain ramp reaches its last tick and the gain change ends. -/
  | gainRampEnd (x : XpIx)
  /-- `CLK_DOMB_CFG_WRITE` (R137). A host write of CLK_DOMB_CFG changes the domain-B source or policy, or is ignored whole if it holds a reserved code. -/
  | clkDombCfgWrite (v : Word)
  /-- `DOMB_LOCKED` (R137). The domain-B generator comes within 10 ppm and 1/64 period of its source and enters LOCKED. -/
  | dombLocked (meas : Nat)
  /-- `DOMB_HOLD_END` (R137). Domain B has been in HOLDOVER for HOLD_MS and falls to FREE at the nominal rate. -/
  | dombHoldEnd
  /-- `CLK_STOP` (R143). A monitored clock shows no edge for 2 frames; the port enters holdover and domain B may enter HOLDOVER. -/
  | clkStop (m : MonIx)
  /-- `CLK_SLIP` (R143). A misplaced FSYNC edge or preamble realigns the port's frame and repeats the disrupted frame's slots with P. -/
  | clkSlip (m : MonIx) (offset : Nat)
  /-- `CLK_RESUME` (R143). After STOPPED, 16 consistent periods qualify the clock and the holdover ends. -/
  | clkResume (m : MonIx) (period rate : Nat)
  /-- `CLK_RATE` (R143). The mean of the last 16 periods differs from the tracked rate by more than 0.5 %. -/
  | clkRate (m : MonIx) (meas : Nat)
  /-- `BRG_CFG_WRITE` (R145). A write of BRG_CFGb enables, disables or reconfigures a bridge, setting CFG_ERR if invalid. -/
  | brgCfgWrite (b : EightIx) (v : Word)
  /-- `BRG_SETTLE` (R147). The bridge's ratio estimate comes within 10 ppm with the FIFO centred and it enters SETTLE. -/
  | brgSettle (b : EightIx) (ratio : Nat)
  /-- `BRG_LOCK` (R147). SETTLE x 16 output ticks elapse and the bridge enters LOCKED. -/
  | brgLock (b : EightIx)
  /-- `BRG_UNLOCK` (R147). The measured ratio moves more than 0.5 % from the locked ratio and the bridge returns to ACQUIRE. -/
  | brgUnlock (b : EightIx) (ratio : Nat)
  /-- `BRIDGE_HOLD` (R147). No input strobe reaches the bridge for 4 nominal periods and it enters HOLD. -/
  | bridgeHold (b : EightIx)
  /-- `BRIDGE_RESUME` (R147). The first input strobe after STOPPED returns the bridge from HOLD to ACQUIRE. -/
  | bridgeResume (b : EightIx)
  /-- `BRG_SLIP` (R148). A phase step beyond 8 input periods re-centres the bridge FIFO, dropping or repeating cells. -/
  | brgSlip (b : EightIx)
  /-- `CODEX_LOAD` (R170). Command for a full codex load: checks the source and starts teardown of the selected units. -/
  | codexLoad (r : RingIx) (busy : Nat) (low : Nat)
  /-- `CODEX_LOAD_VERIFY` (R172). CODEX_LOAD with VERIFY 1 reads and checks the image without teardown or writing. -/
  | codexLoadVerify (r : RingIx) (busy : Nat) (low : Nat)
  /-- `CODEX_LOAD_SHELF` (R178). CODEX_LOAD with SCOPE SHELF scans the image and reloads one shelf while the others run. -/
  | codexLoadShelf (r : RingIx) (busy : Nat) (low : Nat)
  /-- `LOAD_TEARDOWN` (R170). After the 10 ms port-mute ramp, at the next boundary every tile becomes EMPTY, crosspoints FREE, bridges OFF and ports stopped. -/
  | loadTeardown
  /-- `LOAD_VERIFY_END` (R170). After the last image byte the CRC and content are checked on each selected unit; this is the load's commit point. -/
  | loadVerifyEnd
  /-- `SHELF_STOP` (R178). Once staged groups touching it have flipped, the reloading shelf's tiles stop at the next boundary and its parameter entries are discarded. -/
  | shelfStop
  /-- `LOAD_START` (R171). At the start frame loaded tiles become READY, crosspoints install, bridges enable and ports release. -/
  | loadStart
  /-- `LEND_CHUNK` (R342). A satellite receives a lend chunk, writes its stream words or relays them downstream. -/
  | lendChunk (hdr : Nat) (ws : List Nat) (scope : LendScope)
  /-- `LEND_NAK` (R343). A LEND_CTL NAK makes the head resend the stream from the expected offset. -/
  | lendNak (u : UnitIx) (offset : Nat)
  /-- `LEND_PAUSE` (R343). A LEND_CTL PAUSE from a relay above half full pauses the streams it holds. -/
  | lendPause (u : UnitIx)
  /-- `LEND_RESUME` (R343). A LEND_CTL RESUME from a relay below a quarter full resumes its streams. -/
  | lendResume (u : UnitIx)
  /-- `LEND_DONE` (R343). A LEND_CTL DONE reports a satellite's step-4 status to the head. -/
  | lendDone (u : UnitIx) (status : Nat)
  /-- `AUTO_LEND` (R177). The head lends the edition in force, without a command, to a newly dealt unit or one whose fabric became EMPTY through a reset. -/
  | autoLend (u : UnitIx)
  /-- `SLOT_ERASE` (R179). Command that erases the 64 blocks of a flash slot. -/
  | slotErase (r : RingIx) (busy : Option Nat)
  /-- `SLOT_WRITE` (R179). Command that programs words from bank 6 into a slot, never the commit word. -/
  | slotWrite (r : RingIx) (busy : Option Nat)
  /-- `SLOT_COMMIT` (R179). SLOT_COMMIT with REVOKE 0 reads the slot back, checks header and CRC and programs the commit word. -/
  | slotCommit (r : RingIx) (busy : Bool)
  /-- `SLOT_REVOKE` (R179). SLOT_COMMIT with REVOKE 1 programs the slot's commit word to 0. -/
  | slotRevoke (r : RingIx) (busy : Bool)
  /-- `SAP_CFG_WRITE` (R188). A write of SAP_CFGn configures a port, stopping a running port at the next boundary and rejecting an invalid configuration. -/
  | sapCfgWrite (p : FourIx) (v : Word)
  /-- `SAP_MUTE_WRITE` (R195). A write of SAP_MUTEn starts a 10 ms mute or release ramp on a port direction. -/
  | sapMuteWrite (p : FourIx) (v : Word)
  /-- `PORT_MUTE_RAMP_END` (R195). A port mute or release ramp completes after 10 ms. -/
  | portMuteRampEnd (p : FourIx) (tx : Bool)
  /-- `SAP_RX_FRAME` (R191). A receive frame completes and is handed off, or discarded if the previous frame has not been taken. -/
  | sapRxFrame (p : FourIx) (din : List Bool)
  /-- `SAP_TX_FRAME` (R193). A transmit frame starts and takes the value delivered for each slot. -/
  | sapTxFrame (p : FourIx)
  /-- `START_BALL_EDGE` (R200). An edge on the START ball held 4 CK_XO cycles is a start trigger. -/
  | startBallEdge (rising : Bool)
  /-- `SAP_START_GO` (R200). A write of SAP_START.GO is a start trigger. -/
  | sapStartGo (v : Word)
  /-- `START` (R205). Command that fixes a common start frame S for armed ports across the chain. -/
  | start (r : RingIx)
  /-- `PORT_START` (R202). At boundary S every unit starts its armed ports. -/
  | portStart
  /-- `SPD_RX_CFG_WRITE` (R206). A write of SPD_RX_CFG enables the receiver into SEARCH or turns it OFF. -/
  | spdRxCfgWrite (v : Word)
  /-- `SPD_LOCK` (R206). 64 consecutive frames with correct preambles at a supported rate bring the receiver to LOCKED. -/
  | spdLock (rate : Nat)
  /-- `SPD_UNLOCK` (R206). A lost preamble or unsupported rate returns the receiver from LOCKED to SEARCH. -/
  | spdUnlock
  /-- `SPD_SUBFRAME` (R207). A received subframe produces one cell for its channel. -/
  | spdSubframe (ch : Bool) (slots : Nat) (start : Bool) (err : Option Nat)
  /-- `SPD_BLOCK_END` (R208). At the end of a complete block the channel-status and user bits are latched and BLOCK_SEQ increments. -/
  | spdBlockEnd
  /-- `TX_CS_COMMIT` (R211). A write of SPD_TX_CS5 commits all six channel-status words for the next block start. -/
  | txCsCommit (v : Word)
  /-- `TX_UD_COMMIT` (R211). A write of SPD_TX_UD5 commits all six user-bit words for the next block start. -/
  | txUdCommit (v : Word)
  /-- `SPD_TX_BLOCK_START` (R210). Every 192 frames the transmitter starts a block and takes the committed or received status. -/
  | spdTxBlockStart
  /-- `AIN_CFG_WRITE` (R224). A write of AIN_CFGn changes a channel's enable, mode, gain or filters, rejecting an invalid configuration. -/
  | ainCfgWrite (n : SixIx) (v : Word)
  /-- `AIN_STARTING_END` (R224). The start's inserted-zero cells elapse and the channel moves from STARTING to SETTLING. -/
  | ainStartingEnd (n : SixIx)
  /-- `AIN_SETTLE_END` (R230). The last settling window ends and the channel moves to RUNNING. -/
  | ainSettleEnd (n : SixIx)
  /-- `AIN_ZC_TIMEOUT` (R219). A PGA change waiting for a zero crossing reaches ZC_TO + 1 ms and steps. -/
  | ainZcTimeout (n : SixIx)
  /-- `AIN_BIAS_CFG_WRITE` (R220). A write of AIN_BIAS_CFG enables, disables or sets the voltage of bias outputs. -/
  | ainBiasCfgWrite (v : Word)
  /-- `BIAS_RAMP_DONE` (R220). A bias output finishes its 5 ms ramp and its ON bit is set. -/
  | biasRampDone (k : ThreeIx)
  /-- `AIN_BIAS_FAULT` (R220). A bias output in current limit for 1 ms is switched off and its FAULT bit set. -/
  | ainBiasFault (k : ThreeIx)
  /-- `PDM_CFG_WRITE` (R236). A write of PDM_CFG changes decimator enables, clock rates and MIC_PWR, or is rejected. -/
  | pdmCfgWrite (v : Word)
  /-- `PDM_CLOCK_CHANGE` (R226). A requested PDM clock rate change takes effect at the first domain-C strobe after the request. -/
  | pdmClockChange (c : TwoIx)
  /-- `PDM_CLOCK_START` (R237). A PDM clock starts no earlier than 1 ms after MIC_PWR has switched on. -/
  | pdmClockStart (c : TwoIx)
  /-- `PRIV_ENGAGE` (R255). PRIV_N falls; microphone clocks, MIC_PWR and biases stop and privacy mute engages. -/
  | privEngage
  /-- `PRIV_RELEASED` (R255). PRIV_N high for 1,639 CK_AON cycles releases privacy mute and re-enables MIC_PWR and biases. -/
  | privReleased
  /-- `WAKE_ARCH_CFG_WRITE` (R240). A write of WAKE_ARCH_CFG changes the archive lanes, or is rejected. -/
  | wakeArchCfgWrite (v : Word)
  /-- `WAKE_CTL_WRITE` (R243). A write of WAKE_CTL sets spotter and handover policy; EN from 0 to 1 starts a model check. -/
  | wakeCtlWrite (v : Word)
  /-- `CHECK` (R243). A write of WAKE_CMD.CHECK starts a check of the wake model. -/
  | check
  /-- `MODEL_CHECK_DONE` (R243). The model check ends and the model STATE reads READY or BAD. -/
  | modelCheckDone
  /-- `SPOTTER_HOP` (R244). At each hop boundary of 160 positions the spotter scores the hop and judges a detection. -/
  | spotterHop (score : Nat) (lane : FourIx)
  /-- `HANDOVER` (R247). Command that starts a handover of archive history into the bank-6 stream buffer. -/
  | handover (r : RingIx)
  /-- `HO_GO` (R247). A write of WAKE_CMD.HO_GO starts a handover with SRC NOW and the defaults of WAKE_HO_CFG. -/
  | hoGo
  /-- `HO_STOP` (R252). A write of WAKE_CMD.HO_STOP ends the handover with END STOP. -/
  | hoStop
  /-- `HO_AUTO` (R246). After a detection with HO_AUTO 1, a handover with SRC DETECT starts at the first boundary with the fabric running. -/
  | hoAuto
  /-- `SPK_CFG_WRITE` (R272). A write of SPK_CFGn starts or stops a channel, mutes it or changes its scale; other fields wait for the next start. -/
  | spkCfgWrite (n : FourIx) (v : Word)
  /-- `SPK_CTL_WRITE` (R287). A write of SPK_CTL sets pairing, spread, relay time and retries, rejecting a pairing change on a channel not OFF. -/
  | spkCtlWrite (v : Word)
  /-- `SPK_START` (R268). At the first boundary after EN is written 1, the channel enters STARTING and closes its relay. -/
  | spkStart (n : FourIx)
  /-- `SPK_LOAD_CHECK` (R270). The 2 ms load-check pulse ends and the load impedance is judged against LOW_Z and OPEN_Z. -/
  | spkLoadCheck (n : FourIx) (z : Nat)
  /-- `SPK_RAMP_DONE` (R268). The channel's 10 ms start ramp ends at full gain. -/
  | spkRampDone (n : FourIx)
  /-- `SPK_STOP` (R269). The 10 ms stop ramp of a channel whose EN was written 0 ends and the bridge holds zero output. -/
  | spkStop (n : FourIx)
  /-- `SPK_REST` (R269). Both leg currents fall below 20 mA and the relay time for release begins. -/
  | spkRest (n : FourIx)
  /-- `SPK_RELAY_RELEASE` (R271). After RLY_T the relay is released and the bridge goes to high impedance. -/
  | spkRelayRelease (n : FourIx)
  /-- `SPK_RELAY_HELD` (R271). Leg currents stay above 20 mA for 10 ms; the relay is held closed with FAULT_CAUSE 7. -/
  | spkRelayHeld (n : FourIx) (posMa negMa : Nat)
  /-- `SPK_PVDD_UV` (R273). PVDD falls below 5.5 V and every switching bridge goes to high impedance. -/
  | spkPvddUv (mv : Nat)
  /-- `SPK_PVDD_OV` (R273). PVDD rises above 19.0 V and every switching bridge goes to high impedance. -/
  | spkPvddOv (mv : Nat)
  /-- `PVDD_RECOVERY` (R273). PVDD stays in range for 10 ms and affected channels resume at step 3 of the start. -/
  | pvddRecovery (mv : Nat)
  /-- `SPK_DC_FAULT` (R276). The mean output over the last 10 blocks exceeds 1.5 V; the channel goes FAULTED. -/
  | spkDcFault (n : FourIx) (meanMv : Int)
  /-- `CURRENT_LIMIT` (R277). A leg current passes 7.5 A; the leg stops driving for the rest of the carrier period and ILIM increments. -/
  | currentLimit (n : FourIx) (leg : TwoIx) (again : Bool)
  /-- `SPK_RETRY` (R277). 500 ms after a latch with retries left, the channel restarts from step 2 of the start. -/
  | spkRetry (n : FourIx)
  /-- `SPK_RECOVERED` (R278). A retried channel runs 500 ms after its ramp without a latch and RETRY resets. -/
  | spkRecovered (n : FourIx)
  /-- `SPK_CLEAR` (R278). SPK_CMD.CLEAR returns a LATCHED or FAULTED channel to OFF and restarts it if EN is 1. -/
  | spkClear (n : FourIx)
  /-- `STAGE_TEMP_READ` (R279). Every 1 ms the four stage sensors are read and the shared thermal gain adjusted. -/
  | stageTempRead (temps : List Nat)
  /-- `PILOT_WINDOW_END` (R281). A pilot-tone window ends; an accepted window sets Z12 and VC_TEMP, otherwise DROPPED increments. -/
  | pilotWindowEnd (n : FourIx) (z12 : Nat)
  /-- `TWEET` (R286). SPK_CMD.TWEET on a RUNNING channel starts a 100 ms 21 kHz tweeter check. -/
  | tweet (n : FourIx)
  /-- `TWEET_DONE` (R286). The tweeter check ends and sets TW_Z, TW_VALID and possibly TW_OPEN. -/
  | tweetDone (n : FourIx) (z : Nat)
  /-- `HPO_CFG_WRITE` (R296). A write of HPO_CFGn starts or stops a headphone channel or sets volume and mute, rejecting a bad VOL. -/
  | hpoCfgWrite (n : FourIx) (v : Word)
  /-- `HPO_START` (R296). At the first boundary after EN is written 1 the channel starts the charge pump and servo. -/
  | hpoStart (n : FourIx)
  /-- `HPO_RAMP_DONE` (R296). The headphone channel's 10 ms start ramp ends. -/
  | hpoRampDone (n : FourIx)
  /-- `HPO_STOP_DONE` (R296). The 10 ms stop ramp ends, the stage turns off and the pump stops if no channel needs it. -/
  | hpoStopDone (n : FourIx)
  /-- `HPO_SHORT` (R297). A channel limited in every frame for 10 ms latches with its driver at high impedance. -/
  | hpoShort (n : FourIx)
  /-- `HPO_RESTART` (R297). 500 ms after a latch the channel restarts at step 3 of its start. -/
  | hpoRestart (n : FourIx)
  /-- `HPO_RECOVERED` (R297). A channel runs 500 ms after its ramp without a latch and RETRY resets. -/
  | hpoRecovered (n : FourIx)
  /-- `HPO_CP_FAULT` (R298). CPVSS misses its level; the charge pump stops and every channel not OFF reads FAULTED. -/
  | hpoCpFault (mv : Int)
  /-- `HPO_CLEAR` (R297). HPO_CMD.CLEAR returns a LATCHED or FAULTED channel to OFF and clears a pump fault. -/
  | hpoClear (n : FourIx)
  /-- `DET_JACK_CFG_WRITE` (R301). A write of DET_JACKn_CFG configures a jack, rejecting a shared or reserved bias. -/
  | detJackCfgWrite (j : TwoIx) (v : Word)
  /-- `JACK_EDGE` (R303). A level change on JDn starts or restarts the insertion debounce or the removal debounce. -/
  | jackEdge (j : TwoIx) (level : Bool)
  /-- `DET_INSERT` (R303). The insertion debounce ends and the jack enters WAIT. -/
  | detInsert (j : TwoIx)
  /-- `JACK_SEAT_END` (R303). The seat time ends and the detector drives the named bias on to identify the accessory. -/
  | jackSeatEnd (j : TwoIx)
  /-- `DET_SAMPLE` (R302). At each 1 kHz sample the detector measures the microphone line code. -/
  | detSample (j : TwoIx) (code : Nat)
  /-- `DET_REMOVE` (R305). Removal held for the removal debounce mutes the outputs, releases buttons and empties the jack. -/
  | detRemove (j : TwoIx)
  /-- `REIDENT` (R307). DET_CMD.REIDENT reruns identification on a READY jack. -/
  | reident (j : TwoIx)
  /-- `LINK_DETECT` (R321). A chain port sees swing for 100 us and starts training. -/
  | linkDetect (p : TwoIx)
  /-- `CHN_LINK_UP` (R321). Training completes; the port carries AUDIO frames and a satellite aligns domain A. -/
  | chnLinkUp (p : TwoIx) (k : LinkInfo)
  /-- `CHN_LINK_DOWN` (R322). A port leaves UP on loss of signal, lost frames or CRC failures and retrains. -/
  | chnLinkDown (p : TwoIx) (cause : Nat)
  /-- `RETRAIN_UP` (R322). CHN_CMD.RETRAIN_UP retrains the upstream port. -/
  | retrainUp
  /-- `RETRAIN_DN` (R322). CHN_CMD.RETRAIN_DN retrains the downstream port. -/
  | retrainDn
  /-- `CHAIN_FRAME_RX` (R315). A chain frame is received whole; its slots, control field and tunnel units are taken and errors marked. -/
  | chainFrameRx (p : TwoIx) (f : ChainFrame)
  /-- `DEAL` (R327). CHN_CMD.DEAL starts a deal of chain addresses, with FORCE if set. -/
  | deal (force : Bool)
  /-- `DEAL_RSP` (R334). A DEAL_RSP unit brings a satellite's address, position, tail flag and identity to the head. -/
  | dealRsp (u : TunUnit)
  /-- `CHN_DEAL_DONE` (R327). A tail response or the deal timeout ends the deal; the head updates the roster and PRESENT. -/
  | chnDealDone
  /-- `TOPO_ATTACH` (R330). A TOPO ATTACH unit reports an unaddressed unit beyond a port; the head may start a deal. -/
  | topoAttach (u : TunUnit)
  /-- `DETACH_TIMEOUT` (R331). A port not back UP within DETACH_T makes its upstream end send TOPO DETACH. -/
  | detachTimeout (p : TwoIx)
  /-- `TOPO_DETACH` (R331). A TOPO DETACH unit makes the head drop the units beyond and complete their tunnel traffic LINK_DOWN. -/
  | topoDetach (u : TunUnit)
  /-- `IDLE` (R334). An IDLE tunnel unit carries nothing and is ignored. -/
  | idleUnit (u : TunUnit)
  /-- `WRITE` (R334). A tunnelled WRITE unit acts on the satellite as a whole-word host write. -/
  | write (u : TunUnit)
  /-- `READ` (R334). A tunnelled READ unit reads a word on the satellite and returns READ_RSP. -/
  | read (u : TunUnit)
  /-- `READ_RSP` (R339). A READ_RSP unit completes the head's tunnel access with the value and status. -/
  | readRsp (u : TunUnit)
  /-- `CMD` (R340). CMD units carry a proxy-ring command word into the same-numbered ring on the satellite. -/
  | cmd (u : TunUnit)
  /-- `CPL` (R340). A CPL unit posts a satellite completion into the proxy ring's completion ring. -/
  | cpl (u : TunUnit)
  /-- `EVENT` (R341). An EVENT unit carries a forwarded satellite event that the head posts into FWD_RING. -/
  | event (u : TunUnit)
  /-- `ACK` (R335). An ACK unit advances the in-order count and frees the sender's replay buffer, or signals RESTART. -/
  | ack (u : TunUnit)
  /-- `TUNNEL_RESEND` (R335). With no ACK advance within 2p + 8 frames the sender resends every unacknowledged unit. -/
  | tunnelResend (v : UnitIx)
  /-- `RESET_RPT` (R337). A RESET_RPT unit makes the head complete outstanding units, restart sequences and acknowledge with RESTART. -/
  | resetRpt (u : TunUnit)
  /-- `CHN_TUN_GO` (R339). A write of CHN_TUN_GO.GO sends one tunnelled read or write to a satellite. -/
  | chnTunGo
  /-- `CHN_TUN_TIMEOUT` (R339). No tunnel response within TUN_TO ms completes the access TIMEOUT. -/
  | chnTunTimeout
  /-- `RING_CFG_WRITE` (R352). A write of RING_CFGn configures or enables a ring, or is refused. -/
  | ringCfgWrite (r : RingIx) (v : Word)
  /-- `RING_TAIL_WRITE` (R350). A host write of a ring's TAIL advances it, readying commands or refusing a bad pointer. -/
  | ringTailWrite (r : RingIx) (v : Word)
  /-- `RING_HEAD_WRITE` (R350). A host write of a ring's HEAD frees completion or event space, releasing a CPL_WAIT ring. -/
  | ringHeadWrite (r : RingIx) (v : Word)
  /-- `SKIP` (R373). RING_RESUME MODE SKIP moves HEAD past the failing command and runs on. -/
  | skip (r : RingIx)
  /-- `RETRY` (R373). RING_RESUME MODE RETRY rereads and re-executes the failing command with the same SEQ. -/
  | retry (r : RingIx)
  /-- `FLUSH` (R373). RING_RESUME MODE FLUSH completes every queued command HALTED and idles the ring. -/
  | flush (r : RingIx)
  /-- `RING_NOP` (R360). Command NOP completes OK with no effect. -/
  | ringNop (r : RingIx)
  /-- `WAIT_FRAME` (R361). WAIT with MODE FRAME waits for the boundary of a given frame. -/
  | waitFrame (r : RingIx)
  /-- `WAIT_FRAMES` (R361). WAIT with MODE FRAMES waits for a count of boundaries. -/
  | waitFrames (r : RingIx)
  /-- `WAIT_EVENT` (R361). WAIT with MODE EVENT waits for an event code or a timeout. -/
  | waitEvent (r : RingIx)
  /-- `WAIT_POWER` (R440). WAIT with MODE POWER on ring 0 enters the state set in PWR_MODE. -/
  | waitPower (r : RingIx)
  /-- `WAIT_END` (R361). A waiting WAIT's condition is met or its timeout expires and it completes. -/
  | waitEnd (r : RingIx)
  /-- `FENCE` (R361). Command that snapshots the last SEQ of the masked rings and waits for their completions. -/
  | fence (r : RingIx)
  /-- `FENCE_END` (R361). Every snapshotted command has completed, or the timeout runs out, and the FENCE completes. -/
  | fenceEnd (r : RingIx)
  /-- `ABORT` (R375). Command that cancels or marks a target command according to its state relative to its commit point. -/
  | abort (r : RingIx)
  /-- `FOLD` (R519). Command that sets the SW fold cause and completes once the keeper reads FOLDED. -/
  | fold (r : RingIx)
  /-- `PARAM` (R362). Command that pushes parameter values into the shelf queue and completes once applied. -/
  | param (r : RingIx)
  /-- `CALIBRATE_ALL` (R476). CALIBRATE with TARGET ALL calibrates every target whose precondition holds. -/
  | calibrateAll (r : RingIx)
  /-- `CALIBRATE_AIN` (R476). CALIBRATE of an AIN channel measures offset and gain with the channel OFF. -/
  | calibrateAin (r : RingIx)
  /-- `CALIBRATE_SPK` (R476). CALIBRATE of a speaker channel measures output offset through the sense converter. -/
  | calibrateSpk (r : RingIx)
  /-- `CALIBRATE_HPO` (R476). CALIBRATE of a headphone channel measures driver offset through the DC servo. -/
  | calibrateHpo (r : RingIx)
  /-- `CALIBRATE_HKA` (R476). CALIBRATE of the housekeeping ADC measures offset and gain against the reference. -/
  | calibrateHka (r : RingIx)
  /-- `CAL_INSTALL` (R477). A target's measurement ends and its new trims are installed. -/
  | calInstall (target : Nat) (offset gain : Int)
  /-- `HKA_AUTO_CAL` (R479). CAL_PERIOD or a die-temperature move of CAL_DT triggers a background HKA calibration. -/
  | hkaAutoCal
  /-- `BANK_TEST` (R422). Command that runs a transparent region test on a named region. -/
  | bankTest (r : RingIx)
  /-- `NVS_READ` (R509). Command that copies NVS words into bank 6. -/
  | nvsRead (r : RingIx)
  /-- `NVS_WRITE` (R509). Command that writes the host record of the system image through the journal. -/
  | nvsWrite (r : RingIx) (failing : List Nat)
  /-- `ANNALS_FLUSH` (R500). Command that flushes the annals buffer to the ring. -/
  | annalsFlush (r : RingIx)
  /-- `ANNALS_FREEZE` (R502). ANNALS_FREEZE with ON 1 stops every flush except the power-fail flush. -/
  | annalsFreeze (r : RingIx)
  /-- `ANNALS_UNFREEZE` (R502). ANNALS_FREEZE with ON 0 ends the freeze and lets deferred flushes act. -/
  | annalsUnfreeze (r : RingIx)
  /-- `ANNALS_CLEAR` (R508). Command that compares the clear key and on a match clears the annals ring. -/
  | annalsClear (r : RingIx)
  /-- `CLEAR_KEY_SET` (R507). Command that compares the old clear key and on a match installs a new one. -/
  | clearKeySet (r : RingIx) (failing : List Nat)
  /-- `AUX_XFER` (R400). Command that performs an auxiliary-bus write and read transfer with a target. -/
  | auxXfer (r : RingIx) (read : List Nat) (o : AuxOutcome)
  /-- `AUX_CLEAR` (R405). Command that clocks the auxiliary bus until SDA is released, then sends STOP. -/
  | auxClear (r : RingIx) (o : ClearOutcome)
  /-- `RESET_WARM` (R378). RESET command with DEPTH 1 requests a WARM reset without a completion. -/
  | resetWarm (r : RingIx)
  /-- `RESET_FABRIC` (R378). RESET command with DEPTH 2 requests a FABRIC reset without a completion. -/
  | resetFabric (r : RingIx)
  /-- `HOST_BUS_WRITE` (R385). The eighth byte of a host-bus write group arrives and the group is applied as one 64-bit write. -/
  | hostBusWrite (addr : Nat) (v : Word) (stretch : Nat)
  /-- `HOST_BUS_READ` (R387). A host-bus read group takes a snapshot of its word and sends its eight bytes. -/
  | hostBusRead (addr stretch : Nat)
  /-- `HOST_TRANSACTION_END` (R386). A host transaction ends at STOP or repeated START and an incomplete group is discarded. -/
  | hostTransactionEnd (addr received : Nat) (hs : Bool)
  /-- `TWB_TIMEOUT` (R392). SCL unchanged for TIMEOUT ms during a transaction makes the target release the bus and abandon it. -/
  | twbTimeout (addr received : Nat) (sdaLow : Bool)
  /-- `ALERT_RESPONSE` (R397). A read of the alert response address makes alerting units arbitrate their address byte and mark sources answered. -/
  | alertResponse (won : Bool)
  /-- `DORMANT_ADDRESS_MATCH` (R394). In DORMANT an address byte matching the unit stretches SCL, starts the multiplier and may wake the device. -/
  | dormantAddressMatch (own : Bool) (stretch : Nat)
  /-- `BANK_RELEASE` (R418). A restored bank finishes canary, sweep or initialisation and is released READY or LOST. -/
  | bankRelease (b : EightIx) (canaryOk : Bool)
  /-- `REGION_TEST` (R421). The curator starts a transparent region test of a queued or rotation region. -/
  | regionTest (b : EightIx) (region : Nat)
  /-- `REGION_TEST_END` (R421). A region test's march ends, a failing row is repaired and the region is restored. -/
  | regionTestEnd (b : EightIx) (failing : List Nat)
  /-- `PWR_PL_WRITE` (R433). A write of PWR_PL.TARGET requests a performance level, refused below the minimum level. -/
  | pwrPlWrite (v : Word)
  /-- `POWER_GOOD` (R434). VCORE_PG rises after a raise request and the level change waits for the next boundary. -/
  | powerGood
  /-- `PL_CHANGE` (R434). At a frame boundary the PLL divider changes and the new tick budget applies. -/
  | plChange
  /-- `PWR_PG_TIMEOUT` (R434). VCORE_PG fails to rise within PG_TO; VSEL returns to the level in force. -/
  | pwrPgTimeout
  /-- `PWR_PG_LOST` (R431). VCORE_PG falls unrequested for more than 10 us; a FATAL event is posted and the outputs fold. -/
  | pwrPgLost
  /-- `SLEEP_ENTRY` (R442). Once no ring executes and all outputs rest, the device enters STANDBY or DORMANT. -/
  | sleepEntry
  /-- `PWR_ENTRY_TIMEOUT` (R441). Entry conditions not met within ENTRY_TO complete the WAIT POWER with TIMEOUT. -/
  | pwrEntryTimeout
  /-- `WAKE` (R445). A write of PWR_CMD.WAKE is a wake source. -/
  | wake
  /-- `WAKE_TIMER` (R445). PWR_TIMER cycles of CK_AON since entry expire and wake the device. -/
  | wakeTimer
  /-- `SLEEP_EXIT` (R446). A recognised wake restarts the oscillator, core, PLL and banks and returns the device to ACTIVE. -/
  | sleepExit (cycles rcCycles : Nat)
  /-- `PWR_XO_FAIL` (R452). CK_XO stops or drifts; its consumers switch to the multiplier and a FATAL event is posted. -/
  | pwrXoFail (cause : Nat)
  /-- `PWR_LFX_FAIL` (R452). LFX shows no edge for 4 RC periods and CK_AON switches to the RC oscillator. -/
  | pwrLfxFail
  /-- `PWR_LFX_RESUME` (R452). LFX runs for 1 s within tolerance and CK_AON switches back. -/
  | pwrLfxResume (cycles : Nat)
  /-- `CURATOR_WINDOW` (R470). A new 1,024-cycle window renews the curator's budget for a bank. -/
  | curatorWindow (b : EightIx)
  /-- `SCRUB_READ` (R473). The curator reads the next word of a scrubbed array and acts on its ECC result. -/
  | scrubRead (array tile upset : Nat)
  /-- `CURATOR_WRITE_BACK` (R475). A corrected word is written back unless another requester wrote it first. -/
  | curatorWriteBack (addr : Nat)
  /-- `TELEMETRY` (R481). Every PERIOD x 100 ms the curator posts the selected telemetry kinds into its ring. -/
  | telemetry
  /-- `SECTOR_MOVE` (R510). The curator copies a FAILING NVS sector into a spare and updates the sector map. -/
  | sectorMove (failing : List Nat)
  /-- `HKA_SCAN` (R486). Every SCAN ms the converter converts each enabled channel in order, or skips the scan. -/
  | hkaScan
  /-- `CONV` (R486). A write of HKA_CMD.CONV queues one conversion of a channel. -/
  | conv (c : SixteenIx)
  /-- `HKA_CONVERSION_DONE` (R484). A conversion's window ends and HKA_RESc is written whole. -/
  | hkaConversionDone (c : SixteenIx) (code : Int) (locked : Bool)
  /-- `TACH_EDGE` (R485). A filtered TACH edge measures the period and may start or end a locked window. -/
  | tachEdge (period : Nat)
  /-- `HKA_TACH_LOST` (R485). No valid TACH period for 200 ms clears TACH_OK. -/
  | hkaTachLost
  /-- `PFAIL` (R501). PFAIL_N falls; the keeper sets PFAIL, records NVS_PFAIL, ends a freeze and flushes the annals. -/
  | pfail
  /-- `PFAIL_CLEAR` (R517). PFAIL_N high for 100 ms clears the PFAIL fold cause. -/
  | pfailClear
  /-- `ANNALS_AUTO_FLUSH` (R500). 10 s after the last flush the annals buffer is flushed. -/
  | annalsAutoFlush
  /-- `FLUSH_DONE` (R500). A flush writes and verifies its entries and the next time-log slot. -/
  | flushDone (failing : List Nat) (logFails : Nat)
  /-- `NVS_FREEZE_TO` (R502). A freeze lasting FREEZE_TO seconds ends. -/
  | nvsFreezeTo
  /-- `NVS_CAL_SET` (R504). A write of NVS_CAL_SET sets calendar seconds and makes calendar time EXACT. -/
  | nvsCalSet (v : Word)
  /-- `FAULT_N_LOW` (R517). FAULT_N low for 2 us with FAULT_IN_EN sets the FAULT_N fold cause. -/
  | faultNLow
  /-- `FAULT_N_HIGH` (R517). FAULT_N high for 10 ms clears an unlatched FAULT_N cause. -/
  | faultNHigh
  /-- `KEEP_FOLDED` (R520). Every channel reads FOLDED, OFF, LATCHED or FAULTED and the keeper reads FOLDED. -/
  | keepFolded
  /-- `KEEP_FORCED` (R520). 60 ms after the fold request any output still switching is forced to high impedance. -/
  | keepForced (mask : Nat)
  /-- `RELEASE` (R521). KEEP_CMD.RELEASE clears the causes it may clear and, if none remains, releases the fold. -/
  | release
  /-- `KEEP_CMD_FOLD` (R517). KEEP_CMD.FOLD sets the SW fold cause. -/
  | keepCmdFold
  /-- `KICK` (R522). A write of KEEP_HB restarts the heartbeat if KICK is 0x5A5A and counts a bad kick otherwise. -/
  | kick (v : Word)
  /-- `KEEP_WDT` (R522). The heartbeat expires, setting WATCHDOG and possibly requesting a WARM reset. -/
  | keepWdt
  /-- `KEEP_THERM_CLR` (R524). Every sensor at or below THERM_CLR for 1 s clears the THERMAL cause. -/
  | keepThermClr
  /-- `SPD_TX_CFG_WRITE` (R199). A write of SPD_TX_CFG enables, arms, disables or mutes the IEC 60958 transmitter. -/
  | spdTxCfgWrite (v : Word)
  /-- `POWER_LOSS` (R181). VDDA or VDDIO leaves its range and the unit loses power, abandoning flash, NVS and clear operations in progress. -/
  | powerLoss
  /-- `PRIV_N_RISE` (R255). PRIV_N rises while privacy mute is engaged and the release timing starts, WAKE_PRIV_STAT.RELEASING reading 1. -/
  | privNRise
  /-- `SPK_ZERO_STATE_END` (R268). RLY_T and the 1 ms zero state of a starting speaker channel end, and the load check or the ramp begins, STATE reading RUNNING when LOAD_CHK is 0. -/
  | spkZeroStateEnd (n : FourIx)
  /-- `HPO_SERVO_END` (R296). The charge pump reaches its level and the 1 ms servo of a starting headphone channel ends, so the ramp begins and STATE reads RUNNING. -/
  | hpoServoEnd (n : FourIx)
  /-- `TRAINING_TIMEOUT` (R321). A training step that exceeds its bound, or the 100 ms after CHN_DELAY_RANGE, returns the port to DETECT and posts CHN_LINK_DOWN with cause 4. -/
  | trainingTimeout (p : TwoIx)
  /-- `RETURN_TO_DORMANT` (R394). With DORMANT_WAKE 0, 1 ms after the STOP of a transaction served in DORMANT the device stops the multiplier and returns to DORMANT. -/
  | returnToDormant
deriving DecidableEq, Repr

end Sys2Proof
end

