-- ==== Sys2Proof/Decode.lean ====
section
/-! DEFINITION. The table's bits: spec/opcode_table.json gives none of its rows a bit pattern, since the rows are commands
and events and no words of an instruction memory. The microinstruction words of the tiles, which the block itself decodes, are
in Machine/MicroOp.lean. -/

namespace Sys2Proof

/-- The command that a word spells by the table's bits: no row has any. -/
def decodeTableWord (_nbits _w : Nat) : Option Instr := none

end Sys2Proof
end

