-- ==== Sys2Proof/Config.lean ====
section
/-! DEFINITION. What the spec leaves to the implementation: free values, each a constant with no body, so that no proof
can see which number it is. A value the spec bounds is used only after it has been brought within the bound. -/

namespace Sys2Proof

/-- The `n`-th value of a result that the spec leaves undefined or unstated. -/
opaque Config.freeWord : Nat → BitVec 64

/-- The error of the linear gain of a gain code, in units of 2^-32, before it is brought within R107's bound. -/
opaque Config.gainErr : Nat → Int

/-- The error of RECIP's result for an AUDIO field, in units of 2^-32, before it is brought within R66's bound. -/
opaque Config.recipErr : Int → Int

/-- The error of the LIMIT section's T / u, in units of 2^-56, before it is brought within RECIP's bound (R80). -/
opaque Config.limitErr : Int → Int → Int

/-- Whether RECIP of 0 saturates to the negative end; R66 names only ±128. -/
opaque Config.recipZeroNeg : Bool

/-- A coefficient of a rate bridge's interpolation kernel in units of 2^-48, by RATIO, the fraction of the read position in units of
2^-44 and the place of the cell from the newest that the kernel covers: R149 bounds what the kernel does and gives no coefficients. -/
opaque Config.bridgeTap : Nat → Nat → Nat → Int

/-- Whether the section engine's SQUARE rounds an inexact product up: R83 names no rounding for it. -/
opaque Config.squareUp : Int → Bool

/-- How many cells a bridge's kernel covers on the newer and on the older side of its read position, by RATIO (R34 and R148 give
neither). -/
opaque Config.bridgeSpan : Nat → Nat × Nat

/-- A coefficient of the interpolation of a speaker channel to the carrier rate, in units of 2^-32: at 96 kHz or not, by the CK_PWM
cycle in the frame and the place of the cell from the newest. R260 gives its phase and latency, and no coefficients. -/
opaque Config.speakerTap : Bool → Nat → Nat → Int

/-- A coefficient of the interpolation of a headphone channel to 384 kHz, in units of 2^-32: at 96 kHz or not, by the sample in the
frame and the place of the cell from the newest (R294). -/
opaque Config.headphoneTap : Bool → Nat → Nat → Int

/-- The on-resistance of a speaker bridge in mΩ, before it is brought within R261's bound. -/
opaque Config.bridgeOhm : Nat → Nat

/-- Whether an inexact coil temperature is rounded up: R283 names no rounding. -/
opaque Config.coilUp : Int → Bool

/-- Which frame of a run is the longer one on the chain: R315 gives the mean only. -/
opaque Config.longFrame : Nat

/-- The factory offset trim of a target, and at index 256 on the default that is loaded when the system area is bad (R476, R495). -/
opaque Config.factoryOffset : Nat → BitVec 24

/-- The factory and default gain trims. -/
opaque Config.factoryGain : Nat → BitVec 24

end Sys2Proof
end

