-- ==== Sys2Proof/Machine/Map.lean ====
section
/-! DEFINITION. Sparse maps in one canonical form, and the bit-field, sign and saturation helpers. -/

namespace Sys2Proof

/-- The value listed for key `k`, if any. -/
def mapFind {α : Type} : SMap α → Nat → Option α
  | [], _ => none
  | (k', v) :: m, k => if k = k' then some v else mapFind m k

/-- `m` with `v` listed for key `k`, in key order. -/
def mapInsert {α : Type} : SMap α → Nat → α → SMap α
  | [], k, v => [(k, v)]
  | (k', v') :: m, k, v =>
    if k = k' then (k, v) :: m
    else if k < k' then (k, v) :: (k', v') :: m
    else (k', v') :: mapInsert m k v

/-- `m` without an entry for key `k`. -/
def mapErase {α : Type} : SMap α → Nat → SMap α
  | [], _ => []
  | (k', v') :: m, k =>
    if k = k' then mapErase m k else (k', v') :: mapErase m k

/-- The value at key `k`, where an unlisted key reads as `d`. -/
def mapGet {α : Type} (d : α) (m : SMap α) (k : Nat) : α := (mapFind m k).getD d

/-- `m` with value `v` at key `k`; writing the default removes the entry. -/
def mapSet {α : Type} [DecidableEq α] (d : α) (m : SMap α) (k : Nat) (v : α) : SMap α :=
  if v = d then mapErase m k else mapInsert m k v

/-- All keys of `m` are above `k`. -/
def mapAbove {α : Type} (k : Nat) : SMap α → Bool
  | [] => true
  | (k', _) :: _ => k < k'

/-- The canonical form: keys strictly rising, no entry equal to the default `d`. -/
def mapWf {α : Type} [DecidableEq α] (d : α) : SMap α → Bool
  | [] => true
  | (k, v) :: m => v ≠ d && mapAbove k m && mapWf d m

/-- Bits `lo + n - 1 .. lo` of `w`. -/
def bits (w lo n : Nat) : Nat := (w >>> lo) % 2 ^ n

/-- Bit `i` of `w`. -/
def bitOf (w i : Nat) : Bool := (w >>> i) % 2 == 1

/-- `w` with bit `i` set. -/
def setBitN (w i : Nat) : Nat := if bitOf w i then w else w + 2 ^ i

/-- `w` with bit `i` cleared. -/
def clrBitN (w i : Nat) : Nat := if bitOf w i then w - 2 ^ i else w

/-- A truth value as a bit. -/
def b2n (b : Bool) : Nat := if b then 1 else 0

/-- The two's-complement value of the low `n` bits of `w`. -/
def toSigned (n w : Nat) : Int :=
  if w % 2 ^ n < 2 ^ (n - 1) then (w % 2 ^ n : Nat) else (w % 2 ^ n : Nat) - (2 ^ n : Nat)

/-- The `n`-bit two's-complement code of `i`, wrapping. -/
def fromSigned (n : Nat) (i : Int) : Nat := (i % (2 ^ n : Nat)).toNat

/-- `i` saturated to `n`-bit two's complement. -/
def satSigned (n : Nat) (i : Int) : Int :=
  if i > (2 ^ (n - 1) : Nat) - 1 then (2 ^ (n - 1) : Nat) - 1
  else if i < -((2 ^ (n - 1) : Nat) : Int) then -((2 ^ (n - 1) : Nat) : Int)
  else i

/-- `i` saturated to `n` bits, unsigned. -/
def satNat (n i : Nat) : Nat := min i (2 ^ n - 1)

/-- `ceil (a / b)`. -/
def ceilDiv (a b : Nat) : Nat := (a + b - 1) / b

/-- How many of the low `n` bits of `w` are 1. -/
def popCount : Nat → Nat → Nat
  | 0, _ => 0
  | n + 1, w => w % 2 + popCount n (w / 2)

/-- The indices below `n`, in order, whose bit is set in `w`. -/
def bitList (n w : Nat) : List Nat := (List.range n).filter (bitOf w)

/-- The word whose bit `i` is `p i`, for `i < n`. -/
def maskOf (n : Nat) (p : Nat → Bool) : Nat :=
  (List.range n).foldl (fun a i => if p i then a + 2 ^ i else a) 0

/-- Frame number `f` is later than `g` (R7). -/
def later (f g : Nat) : Bool :=
  let d := (f + 2 ^ 32 - g % 2 ^ 32) % 2 ^ 32
  decide (1 ≤ d) && decide (d ≤ 2 ^ 31 - 1)

/-- The largest natural whose square is at most `n`, by `fuel` steps of bisection between `lo` and `hi`. -/
def isqrtLoop : Nat → Nat → Nat → Nat → Nat
  | 0, lo, _, _ => lo
  | f + 1, lo, hi, n =>
    let mid := (lo + hi + 1) / 2
    if mid * mid ≤ n then isqrtLoop f mid hi n else isqrtLoop f lo (mid - 1) n

/-- The integer square root of `n < 2^160`. -/
def isqrt (n : Nat) : Nat := isqrtLoop 82 0 (2 ^ 80) n

/-- The little-endian value of a list of bytes. -/
def leNat : List Nat → Nat
  | [] => 0
  | b :: r => b % 256 + 256 * leNat r

/-- The `n` little-endian bytes of `w`. -/
def leBytes : Nat → Nat → List Nat
  | 0, _ => []
  | n + 1, w => w % 256 :: leBytes n (w / 256)

end Sys2Proof
end

