-- ==== Sys2Proof/Machine/Regs.lean ====
section
/-! DEFINITION. Every register field of the twenty register pages, and the table of the registers themselves, as the
register tables of spec/ give them (R529, R532 and each chapter's own register page). A register that shows the
selected member of a set (FAB_TILE_STAT and the like) has one copy per member, `0x1000000` apart: the copies
are the storage behind the register, and the register's own address shows the selected one. -/

namespace Sys2Proof

/-! ### Registers of spec/02_fabric.md -/

def FAB_CTL_OVR_EVT_EN : Fld := ⟨0xE04000, 0, 1, 0x1⟩
def FAB_CTL_OVR_LIMIT : Fld := ⟨0xE04000, 8, 8, 0x8⟩
def FAB_CTL_STATE_ECC_STOP : Fld := ⟨0xE04000, 16, 1, 0x0⟩
def FAB_STAT_FAB_STATE : Fld := ⟨0xE04008, 0, 2, 0x0⟩
def FAB_STAT_MIN_PL : Fld := ⟨0xE04008, 2, 2, 0x0⟩
def FAB_STAT_CUR_PL : Fld := ⟨0xE04008, 4, 2, 0x0⟩
def FAB_STAT_BUDGET_A : Fld := ⟨0xE04008, 16, 14, 0x0⟩
def FAB_STAT_ACTIVE_TILES : Fld := ⟨0xE04008, 32, 11, 0x0⟩
def FAB_OVR_SUM_SHELF_OVR : Fld := ⟨0xE04010, 0, 16, 0x0⟩
def FAB_STOP_SUM_SHELF_STOP : Fld := ⟨0xE04018, 0, 16, 0x0⟩
def FAB_TILE_SEL_TILE : Fld := ⟨0xE04020, 0, 10, 0x0⟩
def FAB_TILE_STAT_STATE (t : Nat) : Fld := ⟨0xE04028 + 0x1000000 * t, 0, 2, 0x0⟩
def FAB_TILE_STAT_DOMAIN (t : Nat) : Fld := ⟨0xE04028 + 0x1000000 * t, 2, 2, 0x0⟩
def FAB_TILE_STAT_LAST_CYC (t : Nat) : Fld := ⟨0xE04028 + 0x1000000 * t, 4, 14, 0x0⟩
def FAB_TILE_STAT_OVR_CONSEC (t : Nat) : Fld := ⟨0xE04028 + 0x1000000 * t, 18, 8, 0x0⟩
def FAB_TILE_STAT_STOP_PC (t : Nat) : Fld := ⟨0xE04028 + 0x1000000 * t, 26, 8, 0x0⟩
def FAB_TILE_STAT_STOP_REASON (t : Nat) : Fld := ⟨0xE04028 + 0x1000000 * t, 34, 3, 0x0⟩
def FAB_TILE_STAT_PARAM_PEND (t : Nat) : Fld := ⟨0xE04028 + 0x1000000 * t, 37, 1, 0x0⟩
def FAB_TILE_MAXCYC_MAX_CYC (t : Nat) : Fld := ⟨0xE04030 + 0x1000000 * t, 0, 14, 0x0⟩
def FAB_TILE_OVRCNT_OVR_COUNT (t : Nat) : Fld := ⟨0xE04038 + 0x1000000 * t, 0, 32, 0x0⟩
def FAB_TILE_CMD_STOP : Fld := ⟨0xE04040, 0, 1, 0x0⟩
def FAB_TILE_CMD_RESTART : Fld := ⟨0xE04040, 1, 1, 0x0⟩
def FAB_PARAM_DATA_DATA : Fld := ⟨0xE04048, 0, 64, 0x0⟩
def FAB_PARAM_WR_TILE : Fld := ⟨0xE04050, 0, 10, 0x0⟩
def FAB_PARAM_WR_PIDX : Fld := ⟨0xE04050, 16, 4, 0x0⟩
def FAB_PARAM_LVL_LEVEL (sh : Nat) : Fld := ⟨0xE04058 + 0x1000000 * sh, 0, 7, 0x0⟩
def FAB_PARAM_DROP_SHELF_DROP : Fld := ⟨0xE04060, 0, 16, 0x0⟩
def FAB_GW_STAT_FETCH_OVER (sh : Nat) : Fld := ⟨0xE04068 + 0x1000000 * sh, 0, 14, 0x0⟩
def FAB_GW_STAT_STALL_CYC (sh : Nat) : Fld := ⟨0xE04068 + 0x1000000 * sh, 16, 32, 0x0⟩
def FAB_LANE_STAT_LANES_IN (sh : Nat) : Fld := ⟨0xE04070 + 0x1000000 * sh, 0, 9, 0x0⟩
def FAB_LANE_STAT_LANES_OUT (sh : Nat) : Fld := ⟨0xE04070 + 0x1000000 * sh, 16, 13, 0x0⟩
def FAB_ECC_CNT_STATE_UE : Fld := ⟨0xE04078, 0, 16, 0x0⟩
def FAB_ECC_CNT_PROG_UE : Fld := ⟨0xE04078, 16, 16, 0x0⟩
def FAB_ECC_CNT_CORRECTED : Fld := ⟨0xE04078, 32, 16, 0x0⟩

/-! ### Registers of spec/05_rate_domains.md -/

def CLK_DOMA_STAT_RATE : Fld := ⟨0xE02000, 0, 1, 0x0⟩
def CLK_DOMA_STAT_SRC : Fld := ⟨0xE02000, 1, 1, 0x0⟩
def CLK_DOMA_STAT_STATE : Fld := ⟨0xE02000, 2, 2, 0x0⟩
def CLK_DOMB_CFG_SRC : Fld := ⟨0xE02008, 0, 3, 0x0⟩
def CLK_DOMB_CFG_RATE : Fld := ⟨0xE02008, 4, 3, 0x2⟩
def CLK_DOMB_CFG_AUTO_RATE : Fld := ⟨0xE02008, 12, 1, 0x0⟩
def CLK_DOMB_CFG_HOLD_MS : Fld := ⟨0xE02008, 16, 16, 0x3E8⟩
def CLK_DOMB_STAT_STATE : Fld := ⟨0xE02010, 0, 3, 0x0⟩
def CLK_DOMB_STAT_RATE : Fld := ⟨0xE02010, 4, 3, 0x2⟩
def CLK_DOMB_STAT_MAXRATE : Fld := ⟨0xE02010, 8, 3, 0x2⟩
def CLK_DOMB_STAT_MEAS : Fld := ⟨0xE02010, 32, 32, 0x0⟩
def CLK_DOMC_STAT_STATE : Fld := ⟨0xE02018, 0, 2, 0x1⟩
def CLK_DOMC_STAT_SLEW_LEFT : Fld := ⟨0xE02018, 8, 9, 0x0⟩
def CLK_DOMC_STAT_REF : Fld := ⟨0xE02018, 20, 1, 0x0⟩
def CLK_MON_CFG_EN : Fld := ⟨0xE02020, 0, 6, 0x3F⟩
def CLK_MON_CFG_EVT_EN : Fld := ⟨0xE02020, 8, 1, 0x1⟩
def CLK_EVT_SUM_STOP : Fld := ⟨0xE02028, 0, 6, 0x0⟩
def CLK_EVT_SUM_SLIP : Fld := ⟨0xE02028, 8, 6, 0x0⟩
def CLK_EVT_SUM_RATE : Fld := ⟨0xE02028, 16, 6, 0x0⟩
def CLK_EVT_SUM_DOMB_FAULT : Fld := ⟨0xE02028, 24, 1, 0x0⟩
def CLK_EVT_SUM_HOLD_END : Fld := ⟨0xE02028, 25, 1, 0x0⟩
def CLK_EVT_SUM_DOMA_HOLD : Fld := ⟨0xE02028, 26, 1, 0x0⟩
def CLK_MON_STAT_STATE (n : Nat) : Fld := ⟨0xE02040 + 0x10 * n, 0, 2, 0x0⟩
def CLK_MON_STAT_PERIOD (n : Nat) : Fld := ⟨0xE02040 + 0x10 * n, 16, 32, 0x0⟩
def CLK_MON_CNT_SLIPS (n : Nat) : Fld := ⟨0xE02048 + 0x10 * n, 0, 16, 0x0⟩
def CLK_MON_CNT_STOPS (n : Nat) : Fld := ⟨0xE02048 + 0x10 * n, 16, 16, 0x0⟩
def CLK_MON_CNT_RATE_CHG (n : Nat) : Fld := ⟨0xE02048 + 0x10 * n, 32, 16, 0x0⟩
def BRG_CFG_EN (n : Nat) : Fld := ⟨0xE12000 + 0x20 * n, 0, 1, 0x0⟩
def BRG_CFG_IN_DOM (n : Nat) : Fld := ⟨0xE12000 + 0x20 * n, 1, 2, 0x0⟩
def BRG_CFG_OUT_DOM (n : Nat) : Fld := ⟨0xE12000 + 0x20 * n, 3, 2, 0x0⟩
def BRG_CFG_CHANS (n : Nat) : Fld := ⟨0xE12000 + 0x20 * n, 5, 5, 0x0⟩
def BRG_CFG_SETTLE (n : Nat) : Fld := ⟨0xE12000 + 0x20 * n, 16, 8, 0x10⟩
def BRG_STAT_STATE (n : Nat) : Fld := ⟨0xE12008 + 0x20 * n, 0, 3, 0x0⟩
def BRG_STAT_CFG_ERR (n : Nat) : Fld := ⟨0xE12008 + 0x20 * n, 3, 1, 0x0⟩
def BRG_STAT_FILL (n : Nat) : Fld := ⟨0xE12008 + 0x20 * n, 8, 8, 0x0⟩
def BRG_STAT_SETTLE_LEFT (n : Nat) : Fld := ⟨0xE12008 + 0x20 * n, 16, 12, 0x0⟩
def BRG_RATIO_RATIO (n : Nat) : Fld := ⟨0xE12010 + 0x20 * n, 0, 48, 0x0⟩
def BRG_CNT_SLIPS (n : Nat) : Fld := ⟨0xE12018 + 0x20 * n, 0, 16, 0x0⟩
def BRG_CNT_RELOCKS (n : Nat) : Fld := ⟨0xE12018 + 0x20 * n, 16, 16, 0x0⟩
def BRG_SUM_UNLOCK : Fld := ⟨0xE12100, 0, 8, 0x0⟩
def BRG_SUM_SLIP : Fld := ⟨0xE12100, 8, 8, 0x0⟩
def BRG_CTL_EVT_EN : Fld := ⟨0xE12108, 0, 1, 0x1⟩

/-! ### Registers of spec/07_serial_ports.md -/

def SAP_CFG_EN (n : Nat) : Fld := ⟨0xE05000 + 0x40 * n, 0, 1, 0x0⟩
def SAP_CFG_ROLE (n : Nat) : Fld := ⟨0xE05000 + 0x40 * n, 1, 1, 0x0⟩
def SAP_CFG_FMT (n : Nat) : Fld := ⟨0xE05000 + 0x40 * n, 2, 2, 0x0⟩
def SAP_CFG_DOM (n : Nat) : Fld := ⟨0xE05000 + 0x40 * n, 4, 1, 0x0⟩
def SAP_CFG_SLOTS (n : Nat) : Fld := ⟨0xE05000 + 0x40 * n, 5, 5, 0x1⟩
def SAP_CFG_SWIDTH (n : Nat) : Fld := ⟨0xE05000 + 0x40 * n, 10, 2, 0x2⟩
def SAP_CFG_WLEN (n : Nat) : Fld := ⟨0xE05000 + 0x40 * n, 12, 2, 0x2⟩
def SAP_CFG_DELAY (n : Nat) : Fld := ⟨0xE05000 + 0x40 * n, 14, 1, 0x0⟩
def SAP_CFG_FS_LONG (n : Nat) : Fld := ⟨0xE05000 + 0x40 * n, 15, 1, 0x0⟩
def SAP_CFG_BCLK_INV (n : Nat) : Fld := ⟨0xE05000 + 0x40 * n, 16, 1, 0x0⟩
def SAP_CFG_FS_INV (n : Nat) : Fld := ⟨0xE05000 + 0x40 * n, 17, 1, 0x0⟩
def SAP_CFG_START_MODE (n : Nat) : Fld := ⟨0xE05000 + 0x40 * n, 18, 1, 0x0⟩
def SAP_CFG_TX_UNUSED (n : Nat) : Fld := ⟨0xE05000 + 0x40 * n, 19, 1, 0x0⟩
def SAP_CFG_ALIGN (n : Nat) : Fld := ⟨0xE05000 + 0x40 * n, 20, 1, 0x0⟩
def SAP_CFG_ALIGN_LAG (n : Nat) : Fld := ⟨0xE05000 + 0x40 * n, 21, 4, 0x2⟩
def SAP_RXMASK_RX_EN (n : Nat) : Fld := ⟨0xE05008 + 0x40 * n, 0, 32, 0x3⟩
def SAP_TXMASK_TX_EN (n : Nat) : Fld := ⟨0xE05010 + 0x40 * n, 0, 32, 0x3⟩
def SAP_STAT_STATE (n : Nat) : Fld := ⟨0xE05018 + 0x40 * n, 0, 3, 0x0⟩
def SAP_STAT_CFG_ERR (n : Nat) : Fld := ⟨0xE05018 + 0x40 * n, 3, 1, 0x0⟩
def SAP_STAT_TX_MUTED (n : Nat) : Fld := ⟨0xE05018 + 0x40 * n, 4, 1, 0x0⟩
def SAP_STAT_RX_MUTED (n : Nat) : Fld := ⟨0xE05018 + 0x40 * n, 5, 1, 0x0⟩
def SAP_STAT_START_FRAME (n : Nat) : Fld := ⟨0xE05018 + 0x40 * n, 32, 32, 0x0⟩
def SAP_CNT_RX_OVR (n : Nat) : Fld := ⟨0xE05020 + 0x40 * n, 0, 16, 0x0⟩
def SAP_CNT_TX_UNR (n : Nat) : Fld := ⟨0xE05020 + 0x40 * n, 16, 16, 0x0⟩
def SAP_CNT_TX_DROP (n : Nat) : Fld := ⟨0xE05020 + 0x40 * n, 32, 16, 0x0⟩
def SAP_CNT_DISCARD (n : Nat) : Fld := ⟨0xE05020 + 0x40 * n, 48, 16, 0x0⟩
def SAP_MUTE_TX_MUTE (n : Nat) : Fld := ⟨0xE05028 + 0x40 * n, 0, 1, 0x0⟩
def SAP_MUTE_RX_MUTE (n : Nat) : Fld := ⟨0xE05028 + 0x40 * n, 1, 1, 0x0⟩
def SAP_START_CFG_BALL_EN : Fld := ⟨0xE05100, 0, 1, 0x1⟩
def SAP_START_CFG_BALL_EDGE : Fld := ⟨0xE05100, 1, 1, 0x0⟩
def SAP_START_CFG_LEAD : Fld := ⟨0xE05100, 8, 8, 0x14⟩
def SAP_START_CFG_LOCAL : Fld := ⟨0xE05100, 16, 1, 0x0⟩
def SAP_START_GO : Fld := ⟨0xE05108, 0, 1, 0x0⟩
def SAP_START_STAT_START_FRAME : Fld := ⟨0xE05110, 0, 32, 0x0⟩
def SAP_START_STAT_PENDING : Fld := ⟨0xE05110, 32, 1, 0x0⟩
def SAP_START_STAT_ARMED : Fld := ⟨0xE05110, 33, 6, 0x0⟩
def SAP_START_STAT_IGNORED : Fld := ⟨0xE05110, 40, 8, 0x0⟩
def SAP_SUM_RX_OVR : Fld := ⟨0xE05118, 0, 4, 0x0⟩
def SAP_SUM_TX_UNR : Fld := ⟨0xE05118, 4, 4, 0x0⟩
def SAP_SUM_DISCARD : Fld := ⟨0xE05118, 8, 4, 0x0⟩
def SAP_SUM_START_LATE : Fld := ⟨0xE05118, 12, 1, 0x0⟩
def SAP_SUM_CFG_ERR : Fld := ⟨0xE05118, 13, 1, 0x0⟩
def SAP_CTL_EVT_EN : Fld := ⟨0xE05120, 0, 1, 0x1⟩
def SPD_RX_CFG_EN : Fld := ⟨0xE06000, 0, 1, 0x0⟩
def SPD_RX_CFG_MUTE_NONPCM : Fld := ⟨0xE06000, 1, 1, 0x0⟩
def SPD_RX_CFG_START_MODE : Fld := ⟨0xE06000, 2, 1, 0x0⟩
def SPD_RX_STAT_STATE : Fld := ⟨0xE06008, 0, 2, 0x0⟩
def SPD_RX_STAT_NONPCM : Fld := ⟨0xE06008, 2, 1, 0x0⟩
def SPD_RX_STAT_RATE : Fld := ⟨0xE06008, 4, 3, 0x0⟩
def SPD_RX_STAT_BLOCK_SEQ : Fld := ⟨0xE06008, 8, 16, 0x0⟩
def SPD_RX_CNT_PARITY : Fld := ⟨0xE06010, 0, 16, 0x0⟩
def SPD_RX_CNT_BIPHASE : Fld := ⟨0xE06010, 16, 16, 0x0⟩
def SPD_RX_CNT_RX_OVR : Fld := ⟨0xE06010, 32, 16, 0x0⟩
def SPD_RX_CS_DATA (n : Nat) : Fld := ⟨0xE06018 + 0x8 * n, 0, 64, 0x0⟩
def SPD_RX_UD_DATA (n : Nat) : Fld := ⟨0xE06048 + 0x8 * n, 0, 64, 0x0⟩
def SPD_TX_CFG_EN : Fld := ⟨0xE06078, 0, 1, 0x0⟩
def SPD_TX_CFG_CS_SRC : Fld := ⟨0xE06078, 1, 1, 0x0⟩
def SPD_TX_CFG_UD_SRC : Fld := ⟨0xE06078, 2, 1, 0x0⟩
def SPD_TX_CFG_CS_AUTO_FS : Fld := ⟨0xE06078, 3, 1, 0x1⟩
def SPD_TX_CFG_START_MODE : Fld := ⟨0xE06078, 4, 1, 0x0⟩
def SPD_TX_CFG_MUTE : Fld := ⟨0xE06078, 5, 1, 0x0⟩
def SPD_TX_CS_DATA (n : Nat) : Fld := ⟨0xE06080 + 0x8 * n, 0, 64, 0x0⟩
def SPD_TX_UD_DATA (n : Nat) : Fld := ⟨0xE060B0 + 0x8 * n, 0, 64, 0x0⟩
def SPD_TX_STAT_STATE : Fld := ⟨0xE060E0, 0, 2, 0x0⟩
def SPD_TX_STAT_MUTED : Fld := ⟨0xE060E0, 2, 1, 0x0⟩
def SPD_TX_STAT_CS_PEND : Fld := ⟨0xE060E0, 3, 1, 0x0⟩
def SPD_TX_STAT_BLOCK_SEQ : Fld := ⟨0xE060E0, 16, 16, 0x0⟩
def SPD_SUM_LOCK : Fld := ⟨0xE060E8, 0, 1, 0x0⟩
def SPD_SUM_UNLOCK : Fld := ⟨0xE060E8, 1, 1, 0x0⟩
def SPD_SUM_CS_CHG : Fld := ⟨0xE060E8, 2, 1, 0x0⟩
def SPD_SUM_PARITY : Fld := ⟨0xE060E8, 3, 1, 0x0⟩
def SPD_SUM_NONPCM_CHG : Fld := ⟨0xE060E8, 4, 1, 0x0⟩
def SPD_CTL_EVT_EN : Fld := ⟨0xE060F0, 0, 1, 0x1⟩

/-! ### Registers of spec/08_analog_capture.md -/

def AIN_CFG_EN (n : Nat) : Fld := ⟨0xE07000 + 0x20 * n, 0, 1, 0x0⟩
def AIN_CFG_INMODE (n : Nat) : Fld := ⟨0xE07000 + 0x20 * n, 1, 2, 0x0⟩
def AIN_CFG_PGA (n : Nat) : Fld := ⟨0xE07000 + 0x20 * n, 3, 7, 0x0⟩
def AIN_CFG_FILT (n : Nat) : Fld := ⟨0xE07000 + 0x20 * n, 10, 1, 0x0⟩
def AIN_CFG_HPF (n : Nat) : Fld := ⟨0xE07000 + 0x20 * n, 11, 3, 0x0⟩
def AIN_CFG_PGA_ZC (n : Nat) : Fld := ⟨0xE07000 + 0x20 * n, 14, 1, 0x1⟩
def AIN_CFG_ZC_TO (n : Nat) : Fld := ⟨0xE07000 + 0x20 * n, 15, 5, 0x7⟩
def AIN_CFG_BIAS_SEL (n : Nat) : Fld := ⟨0xE07000 + 0x20 * n, 20, 2, 0x0⟩
def AIN_STAT_STATE (n : Nat) : Fld := ⟨0xE07008 + 0x20 * n, 0, 2, 0x0⟩
def AIN_STAT_CFG_ERR (n : Nat) : Fld := ⟨0xE07008 + 0x20 * n, 3, 1, 0x0⟩
def AIN_STAT_OVR (n : Nat) : Fld := ⟨0xE07008 + 0x20 * n, 4, 1, 0x0⟩
def AIN_STAT_ZC_WAIT (n : Nat) : Fld := ⟨0xE07008 + 0x20 * n, 5, 1, 0x0⟩
def AIN_STAT_PGA_APPLIED (n : Nat) : Fld := ⟨0xE07008 + 0x20 * n, 8, 7, 0x0⟩
def AIN_STAT_SETTLE_LEFT (n : Nat) : Fld := ⟨0xE07008 + 0x20 * n, 32, 16, 0x0⟩
def AIN_CNT_OVR_CELLS (n : Nat) : Fld := ⟨0xE07010 + 0x20 * n, 0, 16, 0x0⟩
def AIN_CNT_ZC_TIMEOUTS (n : Nat) : Fld := ⟨0xE07010 + 0x20 * n, 16, 16, 0x0⟩
def AIN_CNT_GAIN_STEPS (n : Nat) : Fld := ⟨0xE07010 + 0x20 * n, 32, 16, 0x0⟩
def AIN_BIAS_CFG_EN (k : Nat) : Fld := ⟨0xE07100, 0 + 4 * k, 1, 0x0⟩
def AIN_BIAS_CFG_VOLT (k : Nat) : Fld := ⟨0xE07100, 1 + 4 * k, 2, 0x0⟩
def AIN_BIAS_STAT_ON : Fld := ⟨0xE07108, 0, 3, 0x0⟩
def AIN_BIAS_STAT_FAULT : Fld := ⟨0xE07108, 8, 3, 0x0⟩
def AIN_BIAS_STAT_PRIV : Fld := ⟨0xE07108, 16, 3, 0x0⟩
def AIN_SUM_OVR : Fld := ⟨0xE07110, 0, 6, 0x0⟩
def AIN_SUM_ZC_TO : Fld := ⟨0xE07110, 8, 6, 0x0⟩
def AIN_SUM_BIAS_FAULT : Fld := ⟨0xE07110, 16, 3, 0x0⟩
def AIN_SUM_CFG_ERR : Fld := ⟨0xE07110, 24, 6, 0x0⟩
def AIN_CTL_EVT_EN : Fld := ⟨0xE07118, 0, 1, 0x1⟩

/-! ### Registers of spec/09_wake_archive.md -/

def PDM_CFG_LP_EN : Fld := ⟨0xE08000, 0, 8, 0x0⟩
def PDM_CFG_HQ_EN : Fld := ⟨0xE08000, 8, 8, 0x0⟩
def PDM_CFG_CLK0_ACT : Fld := ⟨0xE08000, 16, 1, 0x0⟩
def PDM_CFG_CLK0_STBY : Fld := ⟨0xE08000, 17, 1, 0x1⟩
def PDM_CFG_CLK1_ACT : Fld := ⟨0xE08000, 18, 1, 0x0⟩
def PDM_CFG_CLK1_STBY : Fld := ⟨0xE08000, 19, 1, 0x1⟩
def PDM_CFG_MIC_PWR_EN : Fld := ⟨0xE08000, 24, 1, 0x0⟩
def PDM_STAT_CLK0_STATE : Fld := ⟨0xE08008, 0, 2, 0x0⟩
def PDM_STAT_CLK1_STATE : Fld := ⟨0xE08008, 2, 2, 0x0⟩
def PDM_STAT_MIC_PWR_ON : Fld := ⟨0xE08008, 4, 1, 0x0⟩
def PDM_STAT_CFG_ERR : Fld := ⟨0xE08008, 5, 1, 0x0⟩
def WAKE_CTL_EN : Fld := ⟨0xE08010, 0, 1, 0x0⟩
def WAKE_CTL_WAKE_EN : Fld := ⟨0xE08010, 1, 1, 0x0⟩
def WAKE_CTL_HO_AUTO : Fld := ⟨0xE08010, 2, 1, 0x0⟩
def WAKE_CTL_ALERT_EN : Fld := ⟨0xE08010, 3, 1, 0x0⟩
def WAKE_CTL_EVT_EN : Fld := ⟨0xE08010, 8, 1, 0x1⟩
def WAKE_CFG_THRESH : Fld := ⟨0xE08018, 0, 8, 0xC0⟩
def WAKE_CFG_HOLD : Fld := ⟨0xE08018, 8, 3, 0x2⟩
def WAKE_CFG_REFRACT : Fld := ⟨0xE08018, 16, 8, 0x64⟩
def WAKE_CFG_SPOT_MODE : Fld := ⟨0xE08018, 24, 1, 0x0⟩
def WAKE_CFG_SPOT_LANE : Fld := ⟨0xE08018, 26, 2, 0x0⟩
def WAKE_CFG_SPOT_LANE2 : Fld := ⟨0xE08018, 28, 2, 0x0⟩
def WAKE_ARCH_CFG_LANES : Fld := ⟨0xE08020, 0, 2, 0x0⟩
def WAKE_ARCH_CFG_LANE_MIC (k : Nat) : Fld := ⟨0xE08020, 4 + 4 * k, 3, 0x0⟩
def WAKE_ARCH_STAT_POS : Fld := ⟨0xE08028, 0, 32, 0x0⟩
def WAKE_ARCH_STAT_LOST : Fld := ⟨0xE08028, 32, 1, 0x0⟩
def WAKE_ARCH_STAT_WRAPPED : Fld := ⟨0xE08028, 33, 1, 0x0⟩
def WAKE_ARCH_GAP_GAP_POS : Fld := ⟨0xE08030, 0, 32, 0x0⟩
def WAKE_ARCH_GAP_GAP_VALID : Fld := ⟨0xE08030, 32, 1, 0x0⟩
def WAKE_ANCHOR_FRAME : Fld := ⟨0xE08038, 0, 32, 0x0⟩
def WAKE_ANCHOR_POS : Fld := ⟨0xE08038, 32, 32, 0x0⟩
def WAKE_MODEL_STAT_STATE : Fld := ⟨0xE08040, 0, 2, 0x0⟩
def WAKE_MODEL_STAT_LEN : Fld := ⟨0xE08040, 8, 18, 0x0⟩
def WAKE_MODEL_STAT_REGION : Fld := ⟨0xE08040, 32, 20, 0x0⟩
def WAKE_DET_TRIG_POS : Fld := ⟨0xE08048, 0, 32, 0x0⟩
def WAKE_DET_SCORE : Fld := ⟨0xE08048, 32, 8, 0x0⟩
def WAKE_DET_LANE : Fld := ⟨0xE08048, 40, 2, 0x0⟩
def WAKE_HO_CFG_BASE : Fld := ⟨0xE08050, 0, 17, 0x0⟩
def WAKE_HO_CFG_SIZE : Fld := ⟨0xE08050, 17, 4, 0xA⟩
def WAKE_HO_CFG_CTRL : Fld := ⟨0xE08050, 21, 17, 0x400⟩
def WAKE_HO_CFG_LANES : Fld := ⟨0xE08050, 38, 4, 0x1⟩
def WAKE_HO_CFG_LOOKBACK : Fld := ⟨0xE08050, 42, 7, 0x10⟩
def WAKE_HO_STAT_STATE : Fld := ⟨0xE08058, 0, 3, 0x0⟩
def WAKE_HO_STAT_END : Fld := ⟨0xE08058, 4, 3, 0x0⟩
def WAKE_HO_STAT_STATUS : Fld := ⟨0xE08058, 8, 8, 0x0⟩
def WAKE_HO_STAT_START_POS : Fld := ⟨0xE08058, 16, 32, 0x0⟩
def WAKE_HO_STAT_CLIPPED : Fld := ⟨0xE08058, 48, 16, 0x0⟩
def WAKE_HO_POS_SEAM_IDX : Fld := ⟨0xE08060, 0, 32, 0x0⟩
def WAKE_HO_POS_SEAM_POS : Fld := ⟨0xE08060, 32, 32, 0x0⟩
def WAKE_CMD_CHECK : Fld := ⟨0xE08068, 0, 1, 0x0⟩
def WAKE_CMD_HO_STOP : Fld := ⟨0xE08068, 1, 1, 0x0⟩
def WAKE_CMD_HO_GO : Fld := ⟨0xE08068, 2, 1, 0x0⟩
def WAKE_PRIV_STAT_ENGAGED : Fld := ⟨0xE08070, 0, 1, 0x0⟩
def WAKE_PRIV_STAT_LED : Fld := ⟨0xE08070, 1, 1, 0x0⟩
def WAKE_PRIV_STAT_RELEASING : Fld := ⟨0xE08070, 2, 1, 0x0⟩
def WAKE_CNT_DETECTS : Fld := ⟨0xE08078, 0, 16, 0x0⟩
def WAKE_CNT_REFRACT_SUPP : Fld := ⟨0xE08078, 16, 16, 0x0⟩
def WAKE_CNT_PRIV_ENGAGES : Fld := ⟨0xE08078, 32, 16, 0x0⟩
def WAKE_CNT_HO_ENDS : Fld := ⟨0xE08078, 48, 16, 0x0⟩
def WAKE_SUM_DETECT : Fld := ⟨0xE08080, 0, 1, 0x0⟩
def WAKE_SUM_MODEL_BAD : Fld := ⟨0xE08080, 1, 1, 0x0⟩
def WAKE_SUM_HO_END : Fld := ⟨0xE08080, 2, 1, 0x0⟩
def WAKE_SUM_ARCH_LOST : Fld := ⟨0xE08080, 3, 1, 0x0⟩
def WAKE_SUM_PRIV_CHG : Fld := ⟨0xE08080, 4, 1, 0x0⟩
def WAKE_SUM_CFG_ERR : Fld := ⟨0xE08080, 5, 1, 0x0⟩
def WAKE_SUM_GAP : Fld := ⟨0xE08080, 6, 1, 0x0⟩

/-! ### Registers of spec/10_speaker_stages.md -/

def SPK_CTL_EVT_EN : Fld := ⟨0xE0A000, 0, 1, 0x1⟩
def SPK_CTL_PAIR01 : Fld := ⟨0xE0A000, 1, 1, 0x0⟩
def SPK_CTL_PAIR23 : Fld := ⟨0xE0A000, 2, 1, 0x0⟩
def SPK_CTL_SPREAD : Fld := ⟨0xE0A000, 4, 2, 0x1⟩
def SPK_CTL_RLY_T : Fld := ⟨0xE0A000, 8, 4, 0x4⟩
def SPK_CTL_RETRIES : Fld := ⟨0xE0A000, 12, 2, 0x3⟩
def SPK_SAG_CFG_HEADROOM : Fld := ⟨0xE0A008, 0, 8, 0x14⟩
def SPK_SAG_CFG_FLOOR : Fld := ⟨0xE0A008, 8, 8, 0x18⟩
def SPK_SAG_CFG_REL : Fld := ⟨0xE0A008, 16, 4, 0x1⟩
def SPK_SAG_CFG_EN : Fld := ⟨0xE0A008, 24, 1, 0x1⟩
def SPK_PVDD_STAT_PVDD : Fld := ⟨0xE0A010, 0, 16, 0x0⟩
def SPK_PVDD_STAT_UV : Fld := ⟨0xE0A010, 16, 1, 0x0⟩
def SPK_PVDD_STAT_OV : Fld := ⟨0xE0A010, 17, 1, 0x0⟩
def SPK_THERM_STAT_TEMP (k : Nat) : Fld := ⟨0xE0A018, 0 + 8 * k, 8, 0x0⟩
def SPK_THERM_STAT_WARN : Fld := ⟨0xE0A018, 32, 1, 0x0⟩
def SPK_THERM_STAT_FOLDBACK : Fld := ⟨0xE0A018, 33, 1, 0x0⟩
def SPK_THERM_STAT_FOLD_GAIN : Fld := ⟨0xE0A018, 40, 8, 0x0⟩
def SPK_THERM_CFG_FOLD_FLOOR : Fld := ⟨0xE0A020, 0, 8, 0x12⟩
def SPK_CMD_CH : Fld := ⟨0xE0A028, 0, 2, 0x0⟩
def SPK_CMD_CLEAR : Fld := ⟨0xE0A028, 4, 1, 0x0⟩
def SPK_CMD_TWEET : Fld := ⟨0xE0A028, 5, 1, 0x0⟩
def SPK_SUM_SHORT : Fld := ⟨0xE0A030, 0, 4, 0x0⟩
def SPK_SUM_DC : Fld := ⟨0xE0A030, 4, 4, 0x0⟩
def SPK_SUM_OPEN : Fld := ⟨0xE0A030, 8, 4, 0x0⟩
def SPK_SUM_VC_HOT : Fld := ⟨0xE0A030, 12, 4, 0x0⟩
def SPK_SUM_SAG : Fld := ⟨0xE0A030, 16, 1, 0x0⟩
def SPK_SUM_THERM_WARN : Fld := ⟨0xE0A030, 17, 1, 0x0⟩
def SPK_SUM_PVDD_UV : Fld := ⟨0xE0A030, 18, 1, 0x0⟩
def SPK_SUM_PVDD_OV : Fld := ⟨0xE0A030, 19, 1, 0x0⟩
def SPK_SUM_RELAY_HELD : Fld := ⟨0xE0A030, 20, 4, 0x0⟩
def SPK_SUM_TWEETER_OPEN : Fld := ⟨0xE0A030, 24, 4, 0x0⟩
def SPK_SUM_CFG_ERR : Fld := ⟨0xE0A030, 28, 1, 0x0⟩
def SPK_CFG_EN (n : Nat) : Fld := ⟨0xE0A100 + 0x40 * n, 0, 1, 0x0⟩
def SPK_CFG_FS_V (n : Nat) : Fld := ⟨0xE0A100 + 0x40 * n, 1, 8, 0x68⟩
def SPK_CFG_MUTE (n : Nat) : Fld := ⟨0xE0A100 + 0x40 * n, 9, 1, 0x0⟩
def SPK_CFG_PILOT_EN (n : Nat) : Fld := ⟨0xE0A100 + 0x40 * n, 10, 1, 0x0⟩
def SPK_CFG_VC_FOLD_EN (n : Nat) : Fld := ⟨0xE0A100 + 0x40 * n, 11, 1, 0x0⟩
def SPK_CFG_RLY_EN (n : Nat) : Fld := ⟨0xE0A100 + 0x40 * n, 12, 1, 0x1⟩
def SPK_CFG_IMP_WIN (n : Nat) : Fld := ⟨0xE0A100 + 0x40 * n, 13, 3, 0x1⟩
def SPK_CFG_LOAD_CHK (n : Nat) : Fld := ⟨0xE0A100 + 0x40 * n, 16, 1, 0x1⟩
def SPK_STAT_STATE (n : Nat) : Fld := ⟨0xE0A108 + 0x40 * n, 0, 3, 0x0⟩
def SPK_STAT_RELAY (n : Nat) : Fld := ⟨0xE0A108 + 0x40 * n, 3, 1, 0x0⟩
def SPK_STAT_HIZ (n : Nat) : Fld := ⟨0xE0A108 + 0x40 * n, 4, 1, 0x0⟩
def SPK_STAT_RETRY (n : Nat) : Fld := ⟨0xE0A108 + 0x40 * n, 5, 2, 0x0⟩
def SPK_STAT_CFG_ERR (n : Nat) : Fld := ⟨0xE0A108 + 0x40 * n, 7, 1, 0x0⟩
def SPK_STAT_SAG_RED (n : Nat) : Fld := ⟨0xE0A108 + 0x40 * n, 8, 8, 0x0⟩
def SPK_STAT_PHASE (n : Nat) : Fld := ⟨0xE0A108 + 0x40 * n, 16, 7, 0x0⟩
def SPK_STAT_SAG_ACTIVE (n : Nat) : Fld := ⟨0xE0A108 + 0x40 * n, 24, 1, 0x0⟩
def SPK_STAT_FAULT_CAUSE (n : Nat) : Fld := ⟨0xE0A108 + 0x40 * n, 25, 3, 0x0⟩
def SPK_CNT_CLIP (n : Nat) : Fld := ⟨0xE0A110 + 0x40 * n, 0, 16, 0x0⟩
def SPK_CNT_ILIM (n : Nat) : Fld := ⟨0xE0A110 + 0x40 * n, 16, 16, 0x0⟩
def SPK_CNT_SAG_FRAMES (n : Nat) : Fld := ⟨0xE0A110 + 0x40 * n, 32, 16, 0x0⟩
def SPK_CNT_SHORTS (n : Nat) : Fld := ⟨0xE0A110 + 0x40 * n, 48, 16, 0x0⟩
def SPK_IMP_Z12 (n : Nat) : Fld := ⟨0xE0A118 + 0x40 * n, 0, 16, 0x0⟩
def SPK_IMP_VC_TEMP (n : Nat) : Fld := ⟨0xE0A118 + 0x40 * n, 16, 16, 0x0⟩
def SPK_IMP_TW_Z (n : Nat) : Fld := ⟨0xE0A118 + 0x40 * n, 32, 16, 0x0⟩
def SPK_IMP_IMP_VALID (n : Nat) : Fld := ⟨0xE0A118 + 0x40 * n, 48, 1, 0x0⟩
def SPK_IMP_TW_VALID (n : Nat) : Fld := ⟨0xE0A118 + 0x40 * n, 49, 1, 0x0⟩
def SPK_IMP_TW_OPEN (n : Nat) : Fld := ⟨0xE0A118 + 0x40 * n, 50, 1, 0x0⟩
def SPK_IMP_DROPPED (n : Nat) : Fld := ⟨0xE0A118 + 0x40 * n, 56, 8, 0x0⟩
def SPK_VC_R_REF (n : Nat) : Fld := ⟨0xE0A120 + 0x40 * n, 0, 16, 0xFA0⟩
def SPK_VC_ALPHA (n : Nat) : Fld := ⟨0xE0A120 + 0x40 * n, 16, 12, 0xF5A⟩
def SPK_VC_T_REF (n : Nat) : Fld := ⟨0xE0A120 + 0x40 * n, 28, 12, 0x190⟩
def SPK_VC_TMAX (n : Nat) : Fld := ⟨0xE0A120 + 0x40 * n, 40, 8, 0x96⟩
def SPK_DIAG_OPEN_Z (n : Nat) : Fld := ⟨0xE0A128 + 0x40 * n, 0, 8, 0x40⟩
def SPK_DIAG_LOW_Z (n : Nat) : Fld := ⟨0xE0A128 + 0x40 * n, 8, 8, 0x18⟩
def SPK_DIAG_TW_OPEN_Z (n : Nat) : Fld := ⟨0xE0A128 + 0x40 * n, 16, 8, 0x20⟩

/-! ### Registers of spec/11_headphones_detection.md -/

def HPO_CTL_EVT_EN : Fld := ⟨0xE09000, 0, 1, 0x1⟩
def HPO_STAT_CP_STATE : Fld := ⟨0xE09008, 0, 2, 0x0⟩
def HPO_STAT_JACK_MUTED : Fld := ⟨0xE09008, 4, 4, 0x0⟩
def HPO_CMD_CH : Fld := ⟨0xE09010, 0, 2, 0x0⟩
def HPO_CMD_CLEAR : Fld := ⟨0xE09010, 4, 1, 0x0⟩
def HPO_SUM_SHORT : Fld := ⟨0xE09018, 0, 4, 0x0⟩
def HPO_SUM_CLIP : Fld := ⟨0xE09018, 4, 4, 0x0⟩
def HPO_SUM_CP_FAULT : Fld := ⟨0xE09018, 8, 1, 0x0⟩
def HPO_SUM_CFG_ERR : Fld := ⟨0xE09018, 9, 1, 0x0⟩
def HPO_CFG_EN (n : Nat) : Fld := ⟨0xE09100 + 0x20 * n, 0, 1, 0x0⟩
def HPO_CFG_MODE (n : Nat) : Fld := ⟨0xE09100 + 0x20 * n, 1, 1, 0x0⟩
def HPO_CFG_MUTE (n : Nat) : Fld := ⟨0xE09100 + 0x20 * n, 2, 1, 0x0⟩
def HPO_CFG_VOL (n : Nat) : Fld := ⟨0xE09100 + 0x20 * n, 16, 16, 0x8000⟩
def HPO_STAT_STATE (n : Nat) : Fld := ⟨0xE09108 + 0x20 * n, 0, 3, 0x0⟩
def HPO_STAT_MUTED (n : Nat) : Fld := ⟨0xE09108 + 0x20 * n, 3, 1, 0x0⟩
def HPO_STAT_CFG_ERR (n : Nat) : Fld := ⟨0xE09108 + 0x20 * n, 4, 1, 0x0⟩
def HPO_STAT_RETRY (n : Nat) : Fld := ⟨0xE09108 + 0x20 * n, 5, 2, 0x0⟩
def HPO_STAT_VOL_APPLIED (n : Nat) : Fld := ⟨0xE09108 + 0x20 * n, 16, 16, 0x8000⟩
def HPO_CNT_CLIP (n : Nat) : Fld := ⟨0xE09110 + 0x20 * n, 0, 16, 0x0⟩
def HPO_CNT_ILIM (n : Nat) : Fld := ⟨0xE09110 + 0x20 * n, 16, 16, 0x0⟩
def HPO_CNT_SHORTS (n : Nat) : Fld := ⟨0xE09110 + 0x20 * n, 32, 16, 0x0⟩
def DET_CTL_EVT_EN : Fld := ⟨0xE0C000, 0, 1, 0x1⟩
def DET_CTL_WAKE_EN : Fld := ⟨0xE0C000, 1, 1, 0x0⟩
def DET_BTN_TH_TH0 : Fld := ⟨0xE0C008, 0, 10, 0x2C⟩
def DET_BTN_TH_TH1 : Fld := ⟨0xE0C008, 16, 10, 0x64⟩
def DET_BTN_TH_TH2 : Fld := ⟨0xE0C008, 32, 10, 0xA0⟩
def DET_BTN_TH_TH3 : Fld := ⟨0xE0C008, 48, 10, 0xD2⟩
def DET_BTN_CFG_PRESS_DB : Fld := ⟨0xE0C010, 0, 6, 0x14⟩
def DET_BTN_CFG_REL_DB : Fld := ⟨0xE0C010, 8, 6, 0x14⟩
def DET_SUM_INSERT : Fld := ⟨0xE0C018, 0, 2, 0x0⟩
def DET_SUM_REMOVE : Fld := ⟨0xE0C018, 2, 2, 0x0⟩
def DET_SUM_ID : Fld := ⟨0xE0C018, 4, 2, 0x0⟩
def DET_SUM_BTN : Fld := ⟨0xE0C018, 6, 2, 0x0⟩
def DET_SUM_CFG_ERR : Fld := ⟨0xE0C018, 8, 1, 0x0⟩
def DET_CMD_REIDENT : Fld := ⟨0xE0C020, 0, 2, 0x0⟩
def DET_JACK_CFG_EN (n : Nat) : Fld := ⟨0xE0C100 + 0x20 * n, 0, 1, 0x0⟩
def DET_JACK_CFG_POL (n : Nat) : Fld := ⟨0xE0C100 + 0x20 * n, 1, 1, 0x0⟩
def DET_JACK_CFG_INS_DB (n : Nat) : Fld := ⟨0xE0C100 + 0x20 * n, 4, 4, 0x3⟩
def DET_JACK_CFG_REM_DB (n : Nat) : Fld := ⟨0xE0C100 + 0x20 * n, 8, 4, 0x0⟩
def DET_JACK_CFG_ID_DELAY (n : Nat) : Fld := ⟨0xE0C100 + 0x20 * n, 12, 4, 0x3⟩
def DET_JACK_CFG_BIAS (n : Nat) : Fld := ⟨0xE0C100 + 0x20 * n, 16, 2, 0x0⟩
def DET_JACK_CFG_HPO_MASK (n : Nat) : Fld := ⟨0xE0C100 + 0x20 * n, 20, 4, 0x0⟩
def DET_JACK_CFG_AUTO_MUTE (n : Nat) : Fld := ⟨0xE0C100 + 0x20 * n, 24, 1, 0x1⟩
def DET_JACK_CFG_BTN_EN (n : Nat) : Fld := ⟨0xE0C100 + 0x20 * n, 25, 1, 0x0⟩
def DET_JACK_STAT_STATE (n : Nat) : Fld := ⟨0xE0C108 + 0x20 * n, 0, 3, 0x0⟩
def DET_JACK_STAT_TYPE (n : Nat) : Fld := ⟨0xE0C108 + 0x20 * n, 4, 3, 0x0⟩
def DET_JACK_STAT_BTN (n : Nat) : Fld := ⟨0xE0C108 + 0x20 * n, 8, 4, 0x0⟩
def DET_JACK_STAT_CFG_ERR (n : Nat) : Fld := ⟨0xE0C108 + 0x20 * n, 12, 1, 0x0⟩
def DET_JACK_STAT_CODE (n : Nat) : Fld := ⟨0xE0C108 + 0x20 * n, 16, 10, 0x0⟩

/-! ### Registers of spec/12_reninait_chain.md -/

def CHN_CTL_EVT_EN : Fld := ⟨0xE0D000, 0, 1, 0x1⟩
def CHN_CTL_AUTO_DEAL : Fld := ⟨0xE0D000, 1, 1, 0x1⟩
def CHN_CTL_FWD_EN : Fld := ⟨0xE0D000, 2, 1, 0x1⟩
def CHN_CTL_FWD_SEV : Fld := ⟨0xE0D000, 4, 2, 0x1⟩
def CHN_CTL_FWD_RING : Fld := ⟨0xE0D000, 8, 6, 0x3F⟩
def CHN_CTL_DETACH_T : Fld := ⟨0xE0D000, 16, 8, 0x14⟩
def CHN_CTL_TUN_TO : Fld := ⟨0xE0D000, 24, 8, 0x32⟩
def CHN_STAT_ROLE : Fld := ⟨0xE0D008, 0, 1, 0x0⟩
def CHN_STAT_ADDR_VALID : Fld := ⟨0xE0D008, 1, 1, 0x0⟩
def CHN_STAT_ADDR : Fld := ⟨0xE0D008, 2, 4, 0x0⟩
def CHN_STAT_POS : Fld := ⟨0xE0D008, 8, 4, 0x0⟩
def CHN_STAT_HIGHEST : Fld := ⟨0xE0D008, 12, 4, 0x0⟩
def CHN_STAT_DEAL_STATE : Fld := ⟨0xE0D008, 16, 2, 0x0⟩
def CHN_STAT_PRESENT : Fld := ⟨0xE0D008, 32, 16, 0x0⟩
def CHN_CMD_DEAL : Fld := ⟨0xE0D010, 0, 1, 0x0⟩
def CHN_CMD_FORCE : Fld := ⟨0xE0D010, 1, 1, 0x0⟩
def CHN_CMD_RETRAIN_UP : Fld := ⟨0xE0D010, 2, 1, 0x0⟩
def CHN_CMD_RETRAIN_DN : Fld := ⟨0xE0D010, 3, 1, 0x0⟩
def CHN_SUM_LINK_DOWN : Fld := ⟨0xE0D018, 0, 2, 0x0⟩
def CHN_SUM_ATTACH : Fld := ⟨0xE0D018, 2, 1, 0x0⟩
def CHN_SUM_DETACH : Fld := ⟨0xE0D018, 3, 1, 0x0⟩
def CHN_SUM_DEAL_DONE : Fld := ⟨0xE0D018, 4, 1, 0x0⟩
def CHN_SUM_ROSTER_CHG : Fld := ⟨0xE0D018, 5, 1, 0x0⟩
def CHN_SUM_DEAL_FULL : Fld := ⟨0xE0D018, 6, 1, 0x0⟩
def CHN_SUM_FWD_DROP : Fld := ⟨0xE0D018, 7, 1, 0x0⟩
def CHN_SUM_REALIGN : Fld := ⟨0xE0D018, 8, 1, 0x0⟩
def CHN_SUM_DELAY_RANGE : Fld := ⟨0xE0D018, 9, 1, 0x0⟩
def CHN_SUM_SAT_RESET : Fld := ⟨0xE0D018, 10, 1, 0x0⟩
def CHN_PORT_STAT_STATE (n : Nat) : Fld := ⟨0xE0D020 + 0x10 * n, 0, 3, 0x0⟩
def CHN_PORT_STAT_SIGNAL (n : Nat) : Fld := ⟨0xE0D020 + 0x10 * n, 3, 1, 0x0⟩
def CHN_PORT_STAT_DELAY (n : Nat) : Fld := ⟨0xE0D020 + 0x10 * n, 16, 16, 0x0⟩
def CHN_PORT_STAT_FREE_SLOTS (n : Nat) : Fld := ⟨0xE0D020 + 0x10 * n, 32, 8, 0x0⟩
def CHN_PORT_CNT_CODE_ERR (n : Nat) : Fld := ⟨0xE0D028 + 0x10 * n, 0, 16, 0x0⟩
def CHN_PORT_CNT_CTRL_CRC (n : Nat) : Fld := ⟨0xE0D028 + 0x10 * n, 16, 16, 0x0⟩
def CHN_PORT_CNT_GRP_CRC (n : Nat) : Fld := ⟨0xE0D028 + 0x10 * n, 32, 16, 0x0⟩
def CHN_PORT_CNT_RETRAINS (n : Nat) : Fld := ⟨0xE0D028 + 0x10 * n, 48, 16, 0x0⟩
def CHN_ROSTER_SEL_UNIT : Fld := ⟨0xE0D040, 0, 4, 0x0⟩
def CHN_ROSTER_ID0_ID_LO (u : Nat) : Fld := ⟨0xE0D048 + 0x1000000 * u, 0, 64, 0x0⟩
def CHN_ROSTER_ID1_ID_HI (u : Nat) : Fld := ⟨0xE0D050 + 0x1000000 * u, 0, 64, 0x0⟩
def CHN_ROSTER_STAT_PRESENT (u : Nat) : Fld := ⟨0xE0D058 + 0x1000000 * u, 0, 1, 0x0⟩
def CHN_ROSTER_STAT_EVER (u : Nat) : Fld := ⟨0xE0D058 + 0x1000000 * u, 1, 1, 0x0⟩
def CHN_ROSTER_STAT_POS (u : Nat) : Fld := ⟨0xE0D058 + 0x1000000 * u, 2, 4, 0x0⟩
def CHN_ROSTER_STAT_STICKY (u : Nat) : Fld := ⟨0xE0D058 + 0x1000000 * u, 6, 1, 0x0⟩
def CHN_ROSTER_STAT_CHANGED (u : Nat) : Fld := ⟨0xE0D058 + 0x1000000 * u, 7, 1, 0x0⟩
def CHN_TUN_ADDR_ADDR : Fld := ⟨0xE0D060, 0, 24, 0x0⟩
def CHN_TUN_ADDR_UNIT : Fld := ⟨0xE0D060, 24, 4, 0x0⟩
def CHN_TUN_ADDR_OP : Fld := ⟨0xE0D060, 28, 1, 0x0⟩
def CHN_TUN_WDATA_DATA : Fld := ⟨0xE0D068, 0, 64, 0x0⟩
def CHN_TUN_GO_GO : Fld := ⟨0xE0D070, 0, 1, 0x0⟩
def CHN_TUN_STAT_BUSY : Fld := ⟨0xE0D078, 0, 1, 0x0⟩
def CHN_TUN_STAT_STATUS : Fld := ⟨0xE0D078, 8, 8, 0x0⟩
def CHN_TUN_STAT_SEQ : Fld := ⟨0xE0D078, 16, 16, 0x0⟩
def CHN_TUN_RDATA_DATA : Fld := ⟨0xE0D080, 0, 64, 0x0⟩
def CHN_FWD_CNT_DROPPED : Fld := ⟨0xE0D088, 0, 16, 0x0⟩

/-! ### Registers of spec/13_rings_ordering.md -/

def RING_CFG_KIND (n : Nat) : Fld := ⟨0xE03000 + 0x20 * n, 0, 2, 0x0⟩
def RING_CFG_EN (n : Nat) : Fld := ⟨0xE03000 + 0x20 * n, 2, 1, 0x0⟩
def RING_CFG_SIZE (n : Nat) : Fld := ⟨0xE03000 + 0x20 * n, 3, 4, 0x0⟩
def RING_CFG_BASE (n : Nat) : Fld := ⟨0xE03000 + 0x20 * n, 7, 17, 0x0⟩
def RING_CFG_CPL_RING (n : Nat) : Fld := ⟨0xE03000 + 0x20 * n, 24, 6, 0x0⟩
def RING_CFG_UNIT (n : Nat) : Fld := ⟨0xE03000 + 0x20 * n, 30, 4, 0x0⟩
def RING_CFG_PTRW (n : Nat) : Fld := ⟨0xE03000 + 0x20 * n, 40, 17, 0x0⟩
def RING_CFG_WM (n : Nat) : Fld := ⟨0xE03000 + 0x20 * n, 57, 4, 0x0⟩
def RING_HEAD_HEAD (n : Nat) : Fld := ⟨0xE03008 + 0x20 * n, 0, 16, 0x0⟩
def RING_TAIL_TAIL (n : Nat) : Fld := ⟨0xE03010 + 0x20 * n, 0, 16, 0x0⟩
def RING_STAT_STATE (n : Nat) : Fld := ⟨0xE03018 + 0x20 * n, 0, 3, 0x0⟩
def RING_STAT_CFG_ERR (n : Nat) : Fld := ⟨0xE03018 + 0x20 * n, 3, 1, 0x0⟩
def RING_STAT_PTR_ERR (n : Nat) : Fld := ⟨0xE03018 + 0x20 * n, 4, 1, 0x0⟩
def RING_STAT_HALT_STATUS (n : Nat) : Fld := ⟨0xE03018 + 0x20 * n, 8, 8, 0x0⟩
def RING_STAT_LEVEL (n : Nat) : Fld := ⟨0xE03018 + 0x20 * n, 16, 13, 0x0⟩
def RING_STAT_NEXT_SEQ (n : Nat) : Fld := ⟨0xE03018 + 0x20 * n, 32, 16, 0x0⟩
def RING_STAT_HALT_SEQ (n : Nat) : Fld := ⟨0xE03018 + 0x20 * n, 48, 16, 0x0⟩
def RING_RESUME_RING : Fld := ⟨0xE03800, 0, 6, 0x0⟩
def RING_RESUME_MODE : Fld := ⟨0xE03800, 8, 2, 0x0⟩
def RING_HALT_SUM_HALTED : Fld := ⟨0xE03808, 0, 64, 0x0⟩
def RING_LOST_SUM_LOST : Fld := ⟨0xE03810, 0, 64, 0x0⟩
def RING_EVT_CFG_RING : Fld := ⟨0xE03818, 0, 6, 0x2⟩
def RING_EVT_CFG_MIN_SEV : Fld := ⟨0xE03818, 8, 2, 0x0⟩
def RING_GLOBAL_RESETS : Fld := ⟨0xE03820, 0, 16, 0x0⟩
def RING_GLOBAL_LAST_DEPTH : Fld := ⟨0xE03820, 16, 2, 0x0⟩

/-! ### Registers of spec/14_two_wire.md -/

def TWB_CFG_GF : Fld := ⟨0xE0E000, 0, 4, 0x2⟩
def TWB_CFG_TIMEOUT : Fld := ⟨0xE0E000, 8, 8, 0x19⟩
def TWB_CFG_DORMANT_WAKE : Fld := ⟨0xE0E000, 16, 1, 0x1⟩
def TWB_CFG_HS_EN : Fld := ⟨0xE0E000, 17, 1, 0x1⟩
def TWB_STAT_ADDR : Fld := ⟨0xE0E008, 0, 7, 0x0⟩
def TWB_STAT_STRAP : Fld := ⟨0xE0E008, 8, 3, 0x0⟩
def TWB_STAT_STRAP_MARGIN : Fld := ⟨0xE0E008, 11, 1, 0x0⟩
def TWB_STAT_HS : Fld := ⟨0xE0E008, 12, 1, 0x0⟩
def TWB_STAT_BUSY : Fld := ⟨0xE0E008, 13, 1, 0x0⟩
def TWB_STAT_ANSWERED : Fld := ⟨0xE0E008, 16, 5, 0x0⟩
def TWB_STAT_STRETCH_MAX : Fld := ⟨0xE0E008, 32, 16, 0x0⟩
def TWB_CNT_PARTIALS : Fld := ⟨0xE0E010, 0, 16, 0x0⟩
def TWB_CNT_TIMEOUTS : Fld := ⟨0xE0E010, 16, 16, 0x0⟩
def TWB_CNT_NACKS : Fld := ⟨0xE0E010, 32, 16, 0x0⟩
def TWB_CNT_DROPS : Fld := ⟨0xE0E010, 48, 16, 0x0⟩
def TWB_ALERT_CFG_EN : Fld := ⟨0xE0E018, 0, 1, 0x1⟩
def TWB_ALERT_CFG_SEV_EN : Fld := ⟨0xE0E018, 1, 1, 0x0⟩
def TWB_ALERT_CFG_SEV : Fld := ⟨0xE0E018, 2, 2, 0x3⟩
def TWB_ALERT_CFG_FWD_SEV : Fld := ⟨0xE0E018, 4, 2, 0x3⟩
def TWB_ALERT_STAT_SRC : Fld := ⟨0xE0E020, 0, 5, 0x0⟩
def TWB_ALERT_STAT_FWD_UNIT : Fld := ⟨0xE0E020, 16, 16, 0x0⟩
def TWB_AUX_CFG_SPEED : Fld := ⟨0xE0E028, 0, 2, 0x1⟩
def TWB_AUX_CFG_GF : Fld := ⟨0xE0E028, 4, 4, 0x2⟩
def TWB_AUX_CFG_TO : Fld := ⟨0xE0E028, 8, 8, 0x19⟩
def TWB_AUX_CFG_ARB_RETRY : Fld := ⟨0xE0E028, 16, 3, 0x0⟩
def TWB_AUX_STAT_STATE : Fld := ⟨0xE0E030, 0, 3, 0x0⟩
def TWB_AUX_STAT_SCL : Fld := ⟨0xE0E030, 4, 1, 0x1⟩
def TWB_AUX_STAT_SDA : Fld := ⟨0xE0E030, 5, 1, 0x1⟩
def TWB_AUX_STAT_BUS_BUSY : Fld := ⟨0xE0E030, 6, 1, 0x0⟩
def TWB_AUX_CNT_ARB_LOST : Fld := ⟨0xE0E038, 0, 16, 0x0⟩
def TWB_AUX_CNT_ARB_COND : Fld := ⟨0xE0E038, 16, 16, 0x0⟩
def TWB_AUX_CNT_NACKS : Fld := ⟨0xE0E038, 32, 16, 0x0⟩
def TWB_AUX_CNT_STUCK : Fld := ⟨0xE0E038, 48, 16, 0x0⟩
def TWB_SUM_PARTIAL : Fld := ⟨0xE0E040, 0, 1, 0x0⟩
def TWB_SUM_TIMEOUT : Fld := ⟨0xE0E040, 1, 1, 0x0⟩
def TWB_SUM_DROP : Fld := ⟨0xE0E040, 2, 1, 0x0⟩
def TWB_SUM_AUX_ARB : Fld := ⟨0xE0E040, 3, 1, 0x0⟩
def TWB_SUM_AUX_COND : Fld := ⟨0xE0E040, 4, 1, 0x0⟩
def TWB_SUM_AUX_NACK : Fld := ⟨0xE0E040, 5, 1, 0x0⟩
def TWB_SUM_AUX_STUCK : Fld := ⟨0xE0E040, 6, 1, 0x0⟩
def TWB_CTL_EVT_EN : Fld := ⟨0xE0E048, 0, 1, 0x1⟩

/-! ### Registers of spec/15_memory_banks.md -/

def MEM_CTL_EVT_EN : Fld := ⟨0xE0F000, 0, 1, 0x1⟩
def MEM_CTL_TEST_EN : Fld := ⟨0xE0F000, 1, 1, 0x1⟩
def MEM_RET_CFG_RET_EN : Fld := ⟨0xE0F008, 0, 8, 0xC0⟩
def MEM_BANK_STAT_STATE (k : Nat) : Fld := ⟨0xE0F010, 0 + 4 * k, 3, 0x0⟩
def MEM_BANK_STAT_SPARES (k : Nat) : Fld := ⟨0xE0F010, 32 + 4 * k, 4, 0x0⟩
def MEM_LOST_SUM_LOST : Fld := ⟨0xE0F018, 0, 8, 0x0⟩
def MEM_SEL_BANK : Fld := ⟨0xE0F020, 0, 3, 0x0⟩
def MEM_ECC_CNT_CORRECTED (b : Nat) : Fld := ⟨0xE0F028 + 0x1000000 * b, 0, 16, 0x0⟩
def MEM_ECC_CNT_UNCORR (b : Nat) : Fld := ⟨0xE0F028 + 0x1000000 * b, 16, 16, 0x0⟩
def MEM_ECC_LAST_WORD (b : Nat) : Fld := ⟨0xE0F030 + 0x1000000 * b, 0, 17, 0x0⟩
def MEM_ECC_LAST_CLASS (b : Nat) : Fld := ⟨0xE0F030 + 0x1000000 * b, 17, 3, 0x0⟩
def MEM_ECC_LAST_VALID (b : Nat) : Fld := ⟨0xE0F030 + 0x1000000 * b, 24, 1, 0x0⟩
def MEM_ARB_CNT_HOST_STALL (b : Nat) : Fld := ⟨0xE0F038 + 0x1000000 * b, 0, 16, 0x0⟩
def MEM_ARB_CNT_CP_STALL (b : Nat) : Fld := ⟨0xE0F038 + 0x1000000 * b, 16, 16, 0x0⟩
def MEM_ARB_CNT_AGED (b : Nat) : Fld := ⟨0xE0F038 + 0x1000000 * b, 32, 16, 0x0⟩
def MEM_ARB_CNT_CUR_YIELD (b : Nat) : Fld := ⟨0xE0F038 + 0x1000000 * b, 48, 16, 0x0⟩
def MEM_TEST_STAT_BANK : Fld := ⟨0xE0F040, 0, 3, 0x0⟩
def MEM_TEST_STAT_REGION : Fld := ⟨0xE0F040, 8, 11, 0x0⟩
def MEM_TEST_STAT_BUSY : Fld := ⟨0xE0F040, 20, 1, 0x0⟩
def MEM_TEST_STAT_FAIL : Fld := ⟨0xE0F040, 21, 1, 0x0⟩
def MEM_TEST_STAT_TESTED : Fld := ⟨0xE0F040, 32, 32, 0x0⟩
def MEM_SUM_UE : Fld := ⟨0xE0F048, 0, 1, 0x0⟩
def MEM_SUM_REPAIR : Fld := ⟨0xE0F048, 1, 1, 0x0⟩
def MEM_SUM_RETIRE : Fld := ⟨0xE0F048, 2, 1, 0x0⟩
def MEM_SUM_LOST : Fld := ⟨0xE0F048, 3, 1, 0x0⟩

/-! ### Registers of spec/16_power_clocks.md -/

def PWR_CTL_EVT_EN : Fld := ⟨0xE01000, 0, 1, 0x1⟩
def PWR_CTL_PG_TO : Fld := ⟨0xE01000, 8, 8, 0x2⟩
def PWR_CTL_ENTRY_TO : Fld := ⟨0xE01000, 16, 8, 0x64⟩
def PWR_PL_TARGET : Fld := ⟨0xE01008, 0, 2, 0x3⟩
def PWR_STAT_CUR_PL : Fld := ⟨0xE01010, 0, 2, 0x3⟩
def PWR_STAT_STATE : Fld := ⟨0xE01010, 2, 3, 0x0⟩
def PWR_STAT_PL_BUSY : Fld := ⟨0xE01010, 5, 1, 0x0⟩
def PWR_STAT_PL_ERR : Fld := ⟨0xE01010, 6, 1, 0x0⟩
def PWR_STAT_VSEL : Fld := ⟨0xE01010, 8, 2, 0x3⟩
def PWR_STAT_PG : Fld := ⟨0xE01010, 10, 1, 0x1⟩
def PWR_STAT_XO_OK : Fld := ⟨0xE01010, 11, 1, 0x1⟩
def PWR_STAT_AON_SRC : Fld := ⟨0xE01010, 12, 1, 0x0⟩
def PWR_MODE_MODE : Fld := ⟨0xE01018, 0, 2, 0x0⟩
def PWR_MODE_WAKE_PL : Fld := ⟨0xE01018, 4, 2, 0x2⟩
def PWR_WAKE_EN_TIMER : Fld := ⟨0xE01020, 0, 1, 0x0⟩
def PWR_WAKE_EN_START : Fld := ⟨0xE01020, 1, 1, 0x0⟩
def PWR_WAKE_EN_CHAIN : Fld := ⟨0xE01020, 2, 1, 0x1⟩
def PWR_WAKE_STAT_CAUSE : Fld := ⟨0xE01028, 0, 4, 0x0⟩
def PWR_WAKE_STAT_LEFT : Fld := ⟨0xE01028, 4, 2, 0x0⟩
def PWR_WAKE_STAT_SLEPT : Fld := ⟨0xE01028, 32, 32, 0x0⟩
def PWR_TIMER_COUNT : Fld := ⟨0xE01030, 0, 32, 0x0⟩
def PWR_CMD_WAKE : Fld := ⟨0xE01038, 0, 1, 0x0⟩
def PWR_CNT_SLEEPS : Fld := ⟨0xE01040, 0, 16, 0x0⟩
def PWR_CNT_PL_CHANGES : Fld := ⟨0xE01040, 16, 16, 0x0⟩
def PWR_CNT_PG_TIMEOUTS : Fld := ⟨0xE01040, 32, 16, 0x0⟩
def PWR_CNT_ENTRY_TIMEOUTS : Fld := ⟨0xE01040, 48, 16, 0x0⟩
def PWR_SUM_PL_REFUSED : Fld := ⟨0xE01048, 0, 1, 0x0⟩
def PWR_SUM_PG_TIMEOUT : Fld := ⟨0xE01048, 1, 1, 0x0⟩
def PWR_SUM_PG_LOST : Fld := ⟨0xE01048, 2, 1, 0x0⟩
def PWR_SUM_XO_FAIL : Fld := ⟨0xE01048, 3, 1, 0x0⟩
def PWR_SUM_LFX_FAIL : Fld := ⟨0xE01048, 4, 1, 0x0⟩
def PWR_SUM_ENTRY_TO : Fld := ⟨0xE01048, 5, 1, 0x0⟩
def PWR_SEQ_SLEEP_SEQ : Fld := ⟨0xE01050, 0, 32, 0x0⟩

/-! ### Registers of spec/17_reset_startup.md -/

def SYS_ID0_ID_LO : Fld := ⟨0xE00000, 0, 64, 0x0⟩
def SYS_ID1_ID_HI : Fld := ⟨0xE00008, 0, 64, 0x0⟩
def SYS_CTL_EVT_EN : Fld := ⟨0xE00010, 0, 1, 0x1⟩
def SYS_CTL_BOOT_WAIT : Fld := ⟨0xE00010, 8, 8, 0x14⟩
def SYS_STAT_ID_OK : Fld := ⟨0xE00018, 0, 1, 0x0⟩
def SYS_STAT_BOOT_STATE : Fld := ⟨0xE00018, 1, 3, 0x0⟩
def SYS_STAT_RST_DEPTH : Fld := ⟨0xE00018, 8, 2, 0x0⟩
def SYS_STAT_RST_CAUSE : Fld := ⟨0xE00018, 12, 2, 0x0⟩
def SYS_BOOT_REASON_A : Fld := ⟨0xE00020, 0, 3, 0x0⟩
def SYS_BOOT_REASON_B : Fld := ⟨0xE00020, 4, 3, 0x0⟩
def SYS_BOOT_SLOT : Fld := ⟨0xE00020, 8, 1, 0x0⟩
def SYS_BOOT_LOADED : Fld := ⟨0xE00020, 9, 1, 0x0⟩
def SYS_BOOT_MODIFIED : Fld := ⟨0xE00020, 10, 1, 0x0⟩
def SYS_BOOT_EDITION : Fld := ⟨0xE00020, 32, 32, 0x0⟩
def SYS_UNIT_SEL_UNIT : Fld := ⟨0xE00028, 0, 4, 0x0⟩
def SYS_UNIT_STAT_EDITION (u : Nat) : Fld := ⟨0xE00030 + 0x1000000 * u, 0, 32, 0x0⟩
def SYS_UNIT_STAT_LOADED (u : Nat) : Fld := ⟨0xE00030 + 0x1000000 * u, 32, 1, 0x0⟩
def SYS_UNIT_STAT_STATUS (u : Nat) : Fld := ⟨0xE00030 + 0x1000000 * u, 40, 8, 0x0⟩
def SYS_LOCK_LOCK : Fld := ⟨0xE00038, 0, 1, 0x0⟩
def SYS_RESET_WARM : Fld := ⟨0xE00040, 0, 1, 0x0⟩
def SYS_RESET_KEY : Fld := ⟨0xE00040, 48, 16, 0x0⟩
def SYS_FOLD_FOLD_NOW : Fld := ⟨0xE00048, 0, 1, 0x0⟩
def SYS_SCRATCH_DATA : Fld := ⟨0xE00050, 0, 64, 0x0⟩
def SYS_SUM_RESET : Fld := ⟨0xE00058, 0, 1, 0x0⟩
def SYS_SUM_ID_BAD : Fld := ⟨0xE00058, 1, 1, 0x0⟩
def SYS_SUM_BOOT_EMPTY : Fld := ⟨0xE00058, 2, 1, 0x0⟩

/-! ### Registers of spec/18_curator_housekeeping.md -/

def CUR_CTL_SCRUB_EN : Fld := ⟨0xE11000, 0, 1, 0x1⟩
def CUR_CTL_CAL_EN : Fld := ⟨0xE11000, 1, 1, 0x1⟩
def CUR_CTL_TEL_EN : Fld := ⟨0xE11000, 2, 1, 0x0⟩
def CUR_CTL_EVT_EN : Fld := ⟨0xE11000, 8, 1, 0x1⟩
def CUR_CTL_CAL_PERIOD : Fld := ⟨0xE11000, 16, 8, 0x3C⟩
def CUR_CTL_CAL_DT : Fld := ⟨0xE11000, 24, 8, 0xA⟩
def CUR_BUDGET_CAP : Fld := ⟨0xE11008, 0, 5, 0x14⟩
def CUR_BUDGET_YIELD_N : Fld := ⟨0xE11008, 8, 5, 0x10⟩
def CUR_STAT_CAL_BUSY : Fld := ⟨0xE11010, 0, 1, 0x0⟩
def CUR_STAT_CAL_TARGET : Fld := ⟨0xE11010, 8, 8, 0x0⟩
def CUR_STAT_SCRUB_PASSES : Fld := ⟨0xE11010, 32, 16, 0x0⟩
def CUR_SCRUB_POS_FRAME_WORD : Fld := ⟨0xE11018, 0, 9, 0x0⟩
def CUR_SCRUB_POS_SRAM_CELL : Fld := ⟨0xE11018, 16, 8, 0x0⟩
def CUR_ECC_CNT_CFG_CORR : Fld := ⟨0xE11020, 0, 16, 0x0⟩
def CUR_ECC_CNT_CFG_UE : Fld := ⟨0xE11020, 16, 16, 0x0⟩
def CUR_ECC_CNT_SRAM_CORR : Fld := ⟨0xE11020, 32, 16, 0x0⟩
def CUR_ECC_CNT_SRAM_UE : Fld := ⟨0xE11020, 48, 16, 0x0⟩
def CUR_ECC_LAST_ADDR : Fld := ⟨0xE11028, 0, 24, 0x0⟩
def CUR_ECC_LAST_VALID : Fld := ⟨0xE11028, 24, 1, 0x0⟩
def CUR_CAL_SEL_TARGET : Fld := ⟨0xE11030, 0, 8, 0x0⟩
def CUR_CAL_VAL_OFFSET (x : Nat) : Fld := ⟨0xE11038 + 0x1000000 * x, 0, 24, 0x0⟩
def CUR_CAL_VAL_GAIN (x : Nat) : Fld := ⟨0xE11038 + 0x1000000 * x, 24, 24, 0x0⟩
def CUR_CAL_VAL_AGE (x : Nat) : Fld := ⟨0xE11038 + 0x1000000 * x, 48, 16, 0x0⟩
def CUR_TEL_CFG_RING : Fld := ⟨0xE11040, 0, 6, 0x2⟩
def CUR_TEL_CFG_PERIOD : Fld := ⟨0xE11040, 8, 8, 0xA⟩
def CUR_TEL_CFG_KINDS : Fld := ⟨0xE11040, 16, 2, 0x3⟩
def CUR_CNT_TEL_DROP : Fld := ⟨0xE11048, 0, 16, 0x0⟩
def CUR_CNT_CAL_RUNS : Fld := ⟨0xE11048, 16, 16, 0x0⟩
def CUR_CNT_WB_CANCEL : Fld := ⟨0xE11048, 32, 16, 0x0⟩
def CUR_SUM_SCRUB_UE : Fld := ⟨0xE11050, 0, 1, 0x0⟩
def CUR_SUM_CAL_RANGE : Fld := ⟨0xE11050, 1, 1, 0x0⟩
def CUR_SUM_TEL_DROP : Fld := ⟨0xE11050, 2, 1, 0x0⟩
def HKA_CTL_EVT_EN : Fld := ⟨0xE0B000, 0, 1, 0x1⟩
def HKA_CTL_KEEP_ON : Fld := ⟨0xE0B000, 1, 1, 0x0⟩
def HKA_CTL_WIN : Fld := ⟨0xE0B000, 8, 8, 0xA⟩
def HKA_CTL_SCAN : Fld := ⟨0xE0B000, 16, 16, 0x64⟩
def HKA_SCAN_EN_EN : Fld := ⟨0xE0B008, 0, 16, 0x1FF0⟩
def HKA_SCAN_EN_LOCK : Fld := ⟨0xE0B008, 32, 16, 0x0⟩
def HKA_CMD_CONV : Fld := ⟨0xE0B010, 0, 1, 0x0⟩
def HKA_CMD_CH : Fld := ⟨0xE0B010, 8, 4, 0x0⟩
def HKA_STAT_BUSY : Fld := ⟨0xE0B018, 0, 1, 0x0⟩
def HKA_STAT_POWERED : Fld := ⟨0xE0B018, 1, 1, 0x0⟩
def HKA_STAT_CUR_CH : Fld := ⟨0xE0B018, 8, 4, 0x0⟩
def HKA_STAT_TACH_OK : Fld := ⟨0xE0B018, 12, 1, 0x0⟩
def HKA_STAT_REF_BAD : Fld := ⟨0xE0B018, 13, 1, 0x0⟩
def HKA_AUX_CFG_SPK_CH : Fld := ⟨0xE0B020, 0, 2, 0x0⟩
def HKA_AUX_CFG_TACH_DB : Fld := ⟨0xE0B020, 8, 8, 0x8⟩
def HKA_AUX_CFG_TACH_POL : Fld := ⟨0xE0B020, 16, 1, 0x0⟩
def HKA_SUM_REF_BAD : Fld := ⟨0xE0B028, 0, 1, 0x0⟩
def HKA_SUM_SUPPLY : Fld := ⟨0xE0B028, 1, 1, 0x0⟩
def HKA_SUM_TACH_LOST : Fld := ⟨0xE0B028, 2, 1, 0x0⟩
def HKA_SUM_OVR : Fld := ⟨0xE0B028, 3, 1, 0x0⟩
def HKA_CNT_CONVS : Fld := ⟨0xE0B030, 0, 32, 0x0⟩
def HKA_CNT_TACH_LOSSES : Fld := ⟨0xE0B030, 32, 16, 0x0⟩
def HKA_CNT_SKIPS : Fld := ⟨0xE0B030, 48, 16, 0x0⟩
def HKA_RES_CODE (n : Nat) : Fld := ⟨0xE0B100 + 0x8 * n, 0, 18, 0x0⟩
def HKA_RES_VALUE (n : Nat) : Fld := ⟨0xE0B100 + 0x8 * n, 24, 24, 0x0⟩
def HKA_RES_VALID (n : Nat) : Fld := ⟨0xE0B100 + 0x8 * n, 48, 1, 0x0⟩
def HKA_RES_LOCKED (n : Nat) : Fld := ⟨0xE0B100 + 0x8 * n, 49, 1, 0x0⟩
def HKA_RES_OVR (n : Nat) : Fld := ⟨0xE0B100 + 0x8 * n, 50, 1, 0x0⟩
def HKA_RES_SEQ (n : Nat) : Fld := ⟨0xE0B100 + 0x8 * n, 56, 8, 0x0⟩

/-! ### Registers of spec/19_annals.md -/

def NVS_CTL_EVT_EN : Fld := ⟨0xE10000, 0, 1, 0x1⟩
def NVS_CTL_TSEL : Fld := ⟨0xE10000, 1, 1, 0x0⟩
def NVS_CTL_MIN_SEV : Fld := ⟨0xE10000, 4, 2, 0x1⟩
def NVS_CTL_FREEZE_TO : Fld := ⟨0xE10000, 8, 8, 0x1E⟩
def NVS_STAT_BUF_LEVEL : Fld := ⟨0xE10008, 0, 9, 0x0⟩
def NVS_STAT_FROZEN : Fld := ⟨0xE10008, 9, 1, 0x0⟩
def NVS_STAT_FLUSHING : Fld := ⟨0xE10008, 10, 1, 0x0⟩
def NVS_STAT_READ_ONLY : Fld := ⟨0xE10008, 11, 1, 0x0⟩
def NVS_STAT_KEY_LOCK : Fld := ⟨0xE10008, 12, 1, 0x0⟩
def NVS_STAT_KEY_TRIES : Fld := ⟨0xE10008, 13, 2, 0x0⟩
def NVS_STAT_SYS_OK : Fld := ⟨0xE10008, 15, 1, 0x1⟩
def NVS_STAT_RING_SECTORS : Fld := ⟨0xE10008, 16, 8, 0x3C⟩
def NVS_STAT_SPARES_LEFT : Fld := ⟨0xE10008, 24, 4, 0x8⟩
def NVS_OPTIME_OP_SEC : Fld := ⟨0xE10010, 0, 32, 0x0⟩
def NVS_OPTIME_PCYC : Fld := ⟨0xE10010, 32, 24, 0x0⟩
def NVS_CALTIME_CAL_SEC : Fld := ⟨0xE10018, 0, 40, 0x0⟩
def NVS_TIMEQ_OP_TQ : Fld := ⟨0xE10020, 0, 2, 0x0⟩
def NVS_TIMEQ_CAL_TQ : Fld := ⟨0xE10020, 2, 2, 0x2⟩
def NVS_TIMEQ_OP_BOUND : Fld := ⟨0xE10020, 16, 16, 0x0⟩
def NVS_TIMEQ_CAL_BOUND : Fld := ⟨0xE10020, 32, 16, 0x0⟩
def NVS_CAL_SET_CAL_SEC : Fld := ⟨0xE10028, 0, 40, 0x0⟩
def NVS_RING_STAT_OLDEST : Fld := ⟨0xE10030, 0, 13, 0x0⟩
def NVS_RING_STAT_NEXT : Fld := ⟨0xE10030, 16, 13, 0x0⟩
def NVS_RING_STAT_COUNT : Fld := ⟨0xE10030, 32, 13, 0x0⟩
def NVS_CNT_FLUSHES : Fld := ⟨0xE10038, 0, 16, 0x0⟩
def NVS_CNT_REPEATS : Fld := ⟨0xE10038, 16, 16, 0x0⟩
def NVS_CNT_DROPPED : Fld := ⟨0xE10038, 32, 16, 0x0⟩
def NVS_CNT_VERIFY_FAIL : Fld := ⟨0xE10038, 48, 16, 0x0⟩
def NVS_SECTOR_SEL_SECTOR : Fld := ⟨0xE10040, 0, 7, 0x0⟩
def NVS_SECTOR_STAT_STATE (x : Nat) : Fld := ⟨0xE10048 + 0x1000000 * x, 0, 3, 0x0⟩
def NVS_SECTOR_STAT_LOGICAL (x : Nat) : Fld := ⟨0xE10048 + 0x1000000 * x, 8, 6, 0x0⟩
def NVS_SUM_LOST : Fld := ⟨0xE10050, 0, 1, 0x0⟩
def NVS_SUM_SPARE : Fld := ⟨0xE10050, 1, 1, 0x0⟩
def NVS_SUM_SHRINK : Fld := ⟨0xE10050, 2, 1, 0x0⟩
def NVS_SUM_READ_ONLY : Fld := ⟨0xE10050, 3, 1, 0x0⟩
def NVS_SUM_KEY_FAIL : Fld := ⟨0xE10050, 4, 1, 0x0⟩
def NVS_SUM_SYS : Fld := ⟨0xE10050, 5, 1, 0x0⟩
def NVS_SUM_FREEZE_TO : Fld := ⟨0xE10050, 6, 1, 0x0⟩

/-! ### Registers of spec/20_keeper.md -/

def KEEP_CTL_EVT_EN : Fld := ⟨0xE13000, 0, 1, 0x1⟩
def KEEP_CTL_FAULT_IN_EN : Fld := ⟨0xE13000, 1, 1, 0x1⟩
def KEEP_CTL_FAULT_LATCH : Fld := ⟨0xE13000, 2, 1, 0x0⟩
def KEEP_CTL_FAULT_DRV : Fld := ⟨0xE13000, 8, 7, 0x0⟩
def KEEP_CTL_THERM_CLR : Fld := ⟨0xE13000, 16, 8, 0x8C⟩
def KEEP_STAT_CAUSE : Fld := ⟨0xE13008, 0, 7, 0x0⟩
def KEEP_STAT_STATE : Fld := ⟨0xE13008, 8, 2, 0x0⟩
def KEEP_STAT_FAULT_IN : Fld := ⟨0xE13008, 10, 1, 0x0⟩
def KEEP_STAT_DRIVING : Fld := ⟨0xE13008, 11, 1, 0x0⟩
def KEEP_STAT_FORCED : Fld := ⟨0xE13008, 12, 1, 0x0⟩
def KEEP_STAT_KICKED : Fld := ⟨0xE13008, 13, 1, 0x0⟩
def KEEP_STAT_WDT_LEFT : Fld := ⟨0xE13008, 32, 16, 0x0⟩
def KEEP_CMD_RELEASE : Fld := ⟨0xE13010, 0, 1, 0x0⟩
def KEEP_CMD_FOLD : Fld := ⟨0xE13010, 1, 1, 0x0⟩
def KEEP_WDT_CFG_EN : Fld := ⟨0xE13018, 0, 1, 0x0⟩
def KEEP_WDT_CFG_ACTION : Fld := ⟨0xE13018, 1, 1, 0x0⟩
def KEEP_WDT_CFG_PERIOD : Fld := ⟨0xE13018, 16, 10, 0x64⟩
def KEEP_HB_KICK : Fld := ⟨0xE13020, 0, 16, 0x0⟩
def KEEP_CNT_FOLDS : Fld := ⟨0xE13028, 0, 16, 0x0⟩
def KEEP_CNT_WDT_EXP : Fld := ⟨0xE13028, 16, 16, 0x0⟩
def KEEP_CNT_BAD_KICKS : Fld := ⟨0xE13028, 32, 16, 0x0⟩
def KEEP_CNT_FORCED : Fld := ⟨0xE13028, 48, 16, 0x0⟩
def KEEP_SUM_CAUSE : Fld := ⟨0xE13030, 0, 7, 0x0⟩
def KEEP_SUM_FORCED : Fld := ⟨0xE13030, 8, 1, 0x0⟩

/-- The registers of spec/02_fabric.md. -/
def regTable02 : List RegRow := [
  ⟨"FAB_CTL", 0xE04000, 0x0, 1, .rw, [FAB_CTL_OVR_EVT_EN, FAB_CTL_OVR_LIMIT, FAB_CTL_STATE_ECC_STOP]⟩,
  ⟨"FAB_STAT", 0xE04008, 0x0, 1, .ro, [FAB_STAT_FAB_STATE, FAB_STAT_MIN_PL, FAB_STAT_CUR_PL, FAB_STAT_BUDGET_A, FAB_STAT_ACTIVE_TILES]⟩,
  ⟨"FAB_OVR_SUM", 0xE04010, 0x0, 1, .w1c, [FAB_OVR_SUM_SHELF_OVR]⟩,
  ⟨"FAB_STOP_SUM", 0xE04018, 0x0, 1, .ro, [FAB_STOP_SUM_SHELF_STOP]⟩,
  ⟨"FAB_TILE_SEL", 0xE04020, 0x0, 1, .rw, [FAB_TILE_SEL_TILE]⟩,
  ⟨"FAB_TILE_STAT", 0xE04028, 0x0, 1, .ro, [FAB_TILE_STAT_STATE 0, FAB_TILE_STAT_DOMAIN 0, FAB_TILE_STAT_LAST_CYC 0, FAB_TILE_STAT_OVR_CONSEC 0, FAB_TILE_STAT_STOP_PC 0, FAB_TILE_STAT_STOP_REASON 0, FAB_TILE_STAT_PARAM_PEND 0]⟩,
  ⟨"FAB_TILE_MAXCYC", 0xE04030, 0x0, 1, .rc, [FAB_TILE_MAXCYC_MAX_CYC 0]⟩,
  ⟨"FAB_TILE_OVRCNT", 0xE04038, 0x0, 1, .rc, [FAB_TILE_OVRCNT_OVR_COUNT 0]⟩,
  ⟨"FAB_TILE_CMD", 0xE04040, 0x0, 1, .wo, [FAB_TILE_CMD_STOP, FAB_TILE_CMD_RESTART]⟩,
  ⟨"FAB_PARAM_DATA", 0xE04048, 0x0, 1, .rw, [FAB_PARAM_DATA_DATA]⟩,
  ⟨"FAB_PARAM_WR", 0xE04050, 0x0, 1, .wo, [FAB_PARAM_WR_TILE, FAB_PARAM_WR_PIDX]⟩,
  ⟨"FAB_PARAM_LVL", 0xE04058, 0x0, 1, .ro, [FAB_PARAM_LVL_LEVEL 0]⟩,
  ⟨"FAB_PARAM_DROP", 0xE04060, 0x0, 1, .w1c, [FAB_PARAM_DROP_SHELF_DROP]⟩,
  ⟨"FAB_GW_STAT", 0xE04068, 0x0, 1, .rc, [FAB_GW_STAT_FETCH_OVER 0, FAB_GW_STAT_STALL_CYC 0]⟩,
  ⟨"FAB_LANE_STAT", 0xE04070, 0x0, 1, .ro, [FAB_LANE_STAT_LANES_IN 0, FAB_LANE_STAT_LANES_OUT 0]⟩,
  ⟨"FAB_ECC_CNT", 0xE04078, 0x0, 1, .rc, [FAB_ECC_CNT_STATE_UE, FAB_ECC_CNT_PROG_UE, FAB_ECC_CNT_CORRECTED]⟩]

/-- The registers of spec/05_rate_domains.md. -/
def regTable05 : List RegRow := [
  ⟨"CLK_DOMA_STAT", 0xE02000, 0x0, 1, .ro, [CLK_DOMA_STAT_RATE, CLK_DOMA_STAT_SRC, CLK_DOMA_STAT_STATE]⟩,
  ⟨"CLK_DOMB_CFG", 0xE02008, 0x0, 1, .rw, [CLK_DOMB_CFG_SRC, CLK_DOMB_CFG_RATE, CLK_DOMB_CFG_AUTO_RATE, CLK_DOMB_CFG_HOLD_MS]⟩,
  ⟨"CLK_DOMB_STAT", 0xE02010, 0x0, 1, .ro, [CLK_DOMB_STAT_STATE, CLK_DOMB_STAT_RATE, CLK_DOMB_STAT_MAXRATE, CLK_DOMB_STAT_MEAS]⟩,
  ⟨"CLK_DOMC_STAT", 0xE02018, 0x0, 1, .ro, [CLK_DOMC_STAT_STATE, CLK_DOMC_STAT_SLEW_LEFT, CLK_DOMC_STAT_REF]⟩,
  ⟨"CLK_MON_CFG", 0xE02020, 0x0, 1, .rw, [CLK_MON_CFG_EN, CLK_MON_CFG_EVT_EN]⟩,
  ⟨"CLK_EVT_SUM", 0xE02028, 0x0, 1, .w1c, [CLK_EVT_SUM_STOP, CLK_EVT_SUM_SLIP, CLK_EVT_SUM_RATE, CLK_EVT_SUM_DOMB_FAULT, CLK_EVT_SUM_HOLD_END, CLK_EVT_SUM_DOMA_HOLD]⟩,
  ⟨"CLK_MONn_STAT", 0xE02040, 0x10, 6, .ro, [CLK_MON_STAT_STATE 0, CLK_MON_STAT_PERIOD 0]⟩,
  ⟨"CLK_MONn_CNT", 0xE02048, 0x10, 6, .rc, [CLK_MON_CNT_SLIPS 0, CLK_MON_CNT_STOPS 0, CLK_MON_CNT_RATE_CHG 0]⟩,
  ⟨"BRG_CFGb", 0xE12000, 0x20, 8, .rw, [BRG_CFG_EN 0, BRG_CFG_IN_DOM 0, BRG_CFG_OUT_DOM 0, BRG_CFG_CHANS 0, BRG_CFG_SETTLE 0]⟩,
  ⟨"BRG_STATb", 0xE12008, 0x20, 8, .ro, [BRG_STAT_STATE 0, BRG_STAT_CFG_ERR 0, BRG_STAT_FILL 0, BRG_STAT_SETTLE_LEFT 0]⟩,
  ⟨"BRG_RATIOb", 0xE12010, 0x20, 8, .ro, [BRG_RATIO_RATIO 0]⟩,
  ⟨"BRG_CNTb", 0xE12018, 0x20, 8, .rc, [BRG_CNT_SLIPS 0, BRG_CNT_RELOCKS 0]⟩,
  ⟨"BRG_SUM", 0xE12100, 0x0, 1, .w1c, [BRG_SUM_UNLOCK, BRG_SUM_SLIP]⟩,
  ⟨"BRG_CTL", 0xE12108, 0x0, 1, .rw, [BRG_CTL_EVT_EN]⟩]

/-- The registers of spec/07_serial_ports.md. -/
def regTable07 : List RegRow := [
  ⟨"SAP_CFGn", 0xE05000, 0x40, 4, .rw, [SAP_CFG_EN 0, SAP_CFG_ROLE 0, SAP_CFG_FMT 0, SAP_CFG_DOM 0, SAP_CFG_SLOTS 0, SAP_CFG_SWIDTH 0, SAP_CFG_WLEN 0, SAP_CFG_DELAY 0, SAP_CFG_FS_LONG 0, SAP_CFG_BCLK_INV 0, SAP_CFG_FS_INV 0, SAP_CFG_START_MODE 0, SAP_CFG_TX_UNUSED 0, SAP_CFG_ALIGN 0, SAP_CFG_ALIGN_LAG 0]⟩,
  ⟨"SAP_RXMASKn", 0xE05008, 0x40, 4, .rw, [SAP_RXMASK_RX_EN 0]⟩,
  ⟨"SAP_TXMASKn", 0xE05010, 0x40, 4, .rw, [SAP_TXMASK_TX_EN 0]⟩,
  ⟨"SAP_STATn", 0xE05018, 0x40, 4, .ro, [SAP_STAT_STATE 0, SAP_STAT_CFG_ERR 0, SAP_STAT_TX_MUTED 0, SAP_STAT_RX_MUTED 0, SAP_STAT_START_FRAME 0]⟩,
  ⟨"SAP_CNTn", 0xE05020, 0x40, 4, .rc, [SAP_CNT_RX_OVR 0, SAP_CNT_TX_UNR 0, SAP_CNT_TX_DROP 0, SAP_CNT_DISCARD 0]⟩,
  ⟨"SAP_MUTEn", 0xE05028, 0x40, 4, .rw, [SAP_MUTE_TX_MUTE 0, SAP_MUTE_RX_MUTE 0]⟩,
  ⟨"SAP_START_CFG", 0xE05100, 0x0, 1, .rw, [SAP_START_CFG_BALL_EN, SAP_START_CFG_BALL_EDGE, SAP_START_CFG_LEAD, SAP_START_CFG_LOCAL]⟩,
  ⟨"SAP_START", 0xE05108, 0x0, 1, .wo, [SAP_START_GO]⟩,
  ⟨"SAP_START_STAT", 0xE05110, 0x0, 1, .ro, [SAP_START_STAT_START_FRAME, SAP_START_STAT_PENDING, SAP_START_STAT_ARMED, SAP_START_STAT_IGNORED]⟩,
  ⟨"SAP_SUM", 0xE05118, 0x0, 1, .w1c, [SAP_SUM_RX_OVR, SAP_SUM_TX_UNR, SAP_SUM_DISCARD, SAP_SUM_START_LATE, SAP_SUM_CFG_ERR]⟩,
  ⟨"SAP_CTL", 0xE05120, 0x0, 1, .rw, [SAP_CTL_EVT_EN]⟩,
  ⟨"SPD_RX_CFG", 0xE06000, 0x0, 1, .rw, [SPD_RX_CFG_EN, SPD_RX_CFG_MUTE_NONPCM, SPD_RX_CFG_START_MODE]⟩,
  ⟨"SPD_RX_STAT", 0xE06008, 0x0, 1, .ro, [SPD_RX_STAT_STATE, SPD_RX_STAT_NONPCM, SPD_RX_STAT_RATE, SPD_RX_STAT_BLOCK_SEQ]⟩,
  ⟨"SPD_RX_CNT", 0xE06010, 0x0, 1, .rc, [SPD_RX_CNT_PARITY, SPD_RX_CNT_BIPHASE, SPD_RX_CNT_RX_OVR]⟩,
  ⟨"SPD_RX_CSk", 0xE06018, 0x8, 6, .ro, [SPD_RX_CS_DATA 0]⟩,
  ⟨"SPD_RX_UDk", 0xE06048, 0x8, 6, .ro, [SPD_RX_UD_DATA 0]⟩,
  ⟨"SPD_TX_CFG", 0xE06078, 0x0, 1, .rw, [SPD_TX_CFG_EN, SPD_TX_CFG_CS_SRC, SPD_TX_CFG_UD_SRC, SPD_TX_CFG_CS_AUTO_FS, SPD_TX_CFG_START_MODE, SPD_TX_CFG_MUTE]⟩,
  ⟨"SPD_TX_CSk", 0xE06080, 0x8, 6, .rw, [SPD_TX_CS_DATA 0]⟩,
  ⟨"SPD_TX_UDk", 0xE060B0, 0x8, 6, .rw, [SPD_TX_UD_DATA 0]⟩,
  ⟨"SPD_TX_STAT", 0xE060E0, 0x0, 1, .ro, [SPD_TX_STAT_STATE, SPD_TX_STAT_MUTED, SPD_TX_STAT_CS_PEND, SPD_TX_STAT_BLOCK_SEQ]⟩,
  ⟨"SPD_SUM", 0xE060E8, 0x0, 1, .w1c, [SPD_SUM_LOCK, SPD_SUM_UNLOCK, SPD_SUM_CS_CHG, SPD_SUM_PARITY, SPD_SUM_NONPCM_CHG]⟩,
  ⟨"SPD_CTL", 0xE060F0, 0x0, 1, .rw, [SPD_CTL_EVT_EN]⟩]

/-- The registers of spec/08_analog_capture.md. -/
def regTable08 : List RegRow := [
  ⟨"AIN_CFGn", 0xE07000, 0x20, 6, .rw, [AIN_CFG_EN 0, AIN_CFG_INMODE 0, AIN_CFG_PGA 0, AIN_CFG_FILT 0, AIN_CFG_HPF 0, AIN_CFG_PGA_ZC 0, AIN_CFG_ZC_TO 0, AIN_CFG_BIAS_SEL 0]⟩,
  ⟨"AIN_STATn", 0xE07008, 0x20, 6, .ro, [AIN_STAT_STATE 0, AIN_STAT_CFG_ERR 0, AIN_STAT_OVR 0, AIN_STAT_ZC_WAIT 0, AIN_STAT_PGA_APPLIED 0, AIN_STAT_SETTLE_LEFT 0]⟩,
  ⟨"AIN_CNTn", 0xE07010, 0x20, 6, .rc, [AIN_CNT_OVR_CELLS 0, AIN_CNT_ZC_TIMEOUTS 0, AIN_CNT_GAIN_STEPS 0]⟩,
  ⟨"AIN_BIAS_CFG", 0xE07100, 0x0, 1, .rw, [AIN_BIAS_CFG_EN 0, AIN_BIAS_CFG_EN 1, AIN_BIAS_CFG_EN 2, AIN_BIAS_CFG_VOLT 0, AIN_BIAS_CFG_VOLT 1, AIN_BIAS_CFG_VOLT 2]⟩,
  ⟨"AIN_BIAS_STAT", 0xE07108, 0x0, 1, .ro, [AIN_BIAS_STAT_ON, AIN_BIAS_STAT_FAULT, AIN_BIAS_STAT_PRIV]⟩,
  ⟨"AIN_SUM", 0xE07110, 0x0, 1, .w1c, [AIN_SUM_OVR, AIN_SUM_ZC_TO, AIN_SUM_BIAS_FAULT, AIN_SUM_CFG_ERR]⟩,
  ⟨"AIN_CTL", 0xE07118, 0x0, 1, .rw, [AIN_CTL_EVT_EN]⟩]

/-- The registers of spec/09_wake_archive.md. -/
def regTable09 : List RegRow := [
  ⟨"PDM_CFG", 0xE08000, 0x0, 1, .rws, [PDM_CFG_LP_EN, PDM_CFG_HQ_EN, PDM_CFG_CLK0_ACT, PDM_CFG_CLK0_STBY, PDM_CFG_CLK1_ACT, PDM_CFG_CLK1_STBY, PDM_CFG_MIC_PWR_EN]⟩,
  ⟨"PDM_STAT", 0xE08008, 0x0, 1, .ro, [PDM_STAT_CLK0_STATE, PDM_STAT_CLK1_STATE, PDM_STAT_MIC_PWR_ON, PDM_STAT_CFG_ERR]⟩,
  ⟨"WAKE_CTL", 0xE08010, 0x0, 1, .rws, [WAKE_CTL_EN, WAKE_CTL_WAKE_EN, WAKE_CTL_HO_AUTO, WAKE_CTL_ALERT_EN, WAKE_CTL_EVT_EN]⟩,
  ⟨"WAKE_CFG", 0xE08018, 0x0, 1, .rws, [WAKE_CFG_THRESH, WAKE_CFG_HOLD, WAKE_CFG_REFRACT, WAKE_CFG_SPOT_MODE, WAKE_CFG_SPOT_LANE, WAKE_CFG_SPOT_LANE2]⟩,
  ⟨"WAKE_ARCH_CFG", 0xE08020, 0x0, 1, .rws, [WAKE_ARCH_CFG_LANES, WAKE_ARCH_CFG_LANE_MIC 0, WAKE_ARCH_CFG_LANE_MIC 1, WAKE_ARCH_CFG_LANE_MIC 2, WAKE_ARCH_CFG_LANE_MIC 3]⟩,
  ⟨"WAKE_ARCH_STAT", 0xE08028, 0x0, 1, .ro, [WAKE_ARCH_STAT_POS, WAKE_ARCH_STAT_LOST, WAKE_ARCH_STAT_WRAPPED]⟩,
  ⟨"WAKE_ARCH_GAP", 0xE08030, 0x0, 1, .ro, [WAKE_ARCH_GAP_GAP_POS, WAKE_ARCH_GAP_GAP_VALID]⟩,
  ⟨"WAKE_ANCHOR", 0xE08038, 0x0, 1, .ro, [WAKE_ANCHOR_FRAME, WAKE_ANCHOR_POS]⟩,
  ⟨"WAKE_MODEL_STAT", 0xE08040, 0x0, 1, .ro, [WAKE_MODEL_STAT_STATE, WAKE_MODEL_STAT_LEN, WAKE_MODEL_STAT_REGION]⟩,
  ⟨"WAKE_DET", 0xE08048, 0x0, 1, .ro, [WAKE_DET_TRIG_POS, WAKE_DET_SCORE, WAKE_DET_LANE]⟩,
  ⟨"WAKE_HO_CFG", 0xE08050, 0x0, 1, .rws, [WAKE_HO_CFG_BASE, WAKE_HO_CFG_SIZE, WAKE_HO_CFG_CTRL, WAKE_HO_CFG_LANES, WAKE_HO_CFG_LOOKBACK]⟩,
  ⟨"WAKE_HO_STAT", 0xE08058, 0x0, 1, .ro, [WAKE_HO_STAT_STATE, WAKE_HO_STAT_END, WAKE_HO_STAT_STATUS, WAKE_HO_STAT_START_POS, WAKE_HO_STAT_CLIPPED]⟩,
  ⟨"WAKE_HO_POS", 0xE08060, 0x0, 1, .ro, [WAKE_HO_POS_SEAM_IDX, WAKE_HO_POS_SEAM_POS]⟩,
  ⟨"WAKE_CMD", 0xE08068, 0x0, 1, .wo, [WAKE_CMD_CHECK, WAKE_CMD_HO_STOP, WAKE_CMD_HO_GO]⟩,
  ⟨"WAKE_PRIV_STAT", 0xE08070, 0x0, 1, .ro, [WAKE_PRIV_STAT_ENGAGED, WAKE_PRIV_STAT_LED, WAKE_PRIV_STAT_RELEASING]⟩,
  ⟨"WAKE_CNT", 0xE08078, 0x0, 1, .rc, [WAKE_CNT_DETECTS, WAKE_CNT_REFRACT_SUPP, WAKE_CNT_PRIV_ENGAGES, WAKE_CNT_HO_ENDS]⟩,
  ⟨"WAKE_SUM", 0xE08080, 0x0, 1, .w1c, [WAKE_SUM_DETECT, WAKE_SUM_MODEL_BAD, WAKE_SUM_HO_END, WAKE_SUM_ARCH_LOST, WAKE_SUM_PRIV_CHG, WAKE_SUM_CFG_ERR, WAKE_SUM_GAP]⟩]

/-- The registers of spec/10_speaker_stages.md. -/
def regTable10 : List RegRow := [
  ⟨"SPK_CTL", 0xE0A000, 0x0, 1, .rw, [SPK_CTL_EVT_EN, SPK_CTL_PAIR01, SPK_CTL_PAIR23, SPK_CTL_SPREAD, SPK_CTL_RLY_T, SPK_CTL_RETRIES]⟩,
  ⟨"SPK_SAG_CFG", 0xE0A008, 0x0, 1, .rw, [SPK_SAG_CFG_HEADROOM, SPK_SAG_CFG_FLOOR, SPK_SAG_CFG_REL, SPK_SAG_CFG_EN]⟩,
  ⟨"SPK_PVDD_STAT", 0xE0A010, 0x0, 1, .ro, [SPK_PVDD_STAT_PVDD, SPK_PVDD_STAT_UV, SPK_PVDD_STAT_OV]⟩,
  ⟨"SPK_THERM_STAT", 0xE0A018, 0x0, 1, .ro, [SPK_THERM_STAT_TEMP 0, SPK_THERM_STAT_TEMP 1, SPK_THERM_STAT_TEMP 2, SPK_THERM_STAT_TEMP 3, SPK_THERM_STAT_WARN, SPK_THERM_STAT_FOLDBACK, SPK_THERM_STAT_FOLD_GAIN]⟩,
  ⟨"SPK_THERM_CFG", 0xE0A020, 0x0, 1, .rw, [SPK_THERM_CFG_FOLD_FLOOR]⟩,
  ⟨"SPK_CMD", 0xE0A028, 0x0, 1, .wo, [SPK_CMD_CH, SPK_CMD_CLEAR, SPK_CMD_TWEET]⟩,
  ⟨"SPK_SUM", 0xE0A030, 0x0, 1, .w1c, [SPK_SUM_SHORT, SPK_SUM_DC, SPK_SUM_OPEN, SPK_SUM_VC_HOT, SPK_SUM_SAG, SPK_SUM_THERM_WARN, SPK_SUM_PVDD_UV, SPK_SUM_PVDD_OV, SPK_SUM_RELAY_HELD, SPK_SUM_TWEETER_OPEN, SPK_SUM_CFG_ERR]⟩,
  ⟨"SPK_CFGn", 0xE0A100, 0x40, 4, .rw, [SPK_CFG_EN 0, SPK_CFG_FS_V 0, SPK_CFG_MUTE 0, SPK_CFG_PILOT_EN 0, SPK_CFG_VC_FOLD_EN 0, SPK_CFG_RLY_EN 0, SPK_CFG_IMP_WIN 0, SPK_CFG_LOAD_CHK 0]⟩,
  ⟨"SPK_STATn", 0xE0A108, 0x40, 4, .ro, [SPK_STAT_STATE 0, SPK_STAT_RELAY 0, SPK_STAT_HIZ 0, SPK_STAT_RETRY 0, SPK_STAT_CFG_ERR 0, SPK_STAT_SAG_RED 0, SPK_STAT_PHASE 0, SPK_STAT_SAG_ACTIVE 0, SPK_STAT_FAULT_CAUSE 0]⟩,
  ⟨"SPK_CNTn", 0xE0A110, 0x40, 4, .rc, [SPK_CNT_CLIP 0, SPK_CNT_ILIM 0, SPK_CNT_SAG_FRAMES 0, SPK_CNT_SHORTS 0]⟩,
  ⟨"SPK_IMPn", 0xE0A118, 0x40, 4, .ro, [SPK_IMP_Z12 0, SPK_IMP_VC_TEMP 0, SPK_IMP_TW_Z 0, SPK_IMP_IMP_VALID 0, SPK_IMP_TW_VALID 0, SPK_IMP_TW_OPEN 0, SPK_IMP_DROPPED 0]⟩,
  ⟨"SPK_VCn", 0xE0A120, 0x40, 4, .rw, [SPK_VC_R_REF 0, SPK_VC_ALPHA 0, SPK_VC_T_REF 0, SPK_VC_TMAX 0]⟩,
  ⟨"SPK_DIAGn", 0xE0A128, 0x40, 4, .rw, [SPK_DIAG_OPEN_Z 0, SPK_DIAG_LOW_Z 0, SPK_DIAG_TW_OPEN_Z 0]⟩]

/-- The registers of spec/11_headphones_detection.md. -/
def regTable11 : List RegRow := [
  ⟨"HPO_CTL", 0xE09000, 0x0, 1, .rw, [HPO_CTL_EVT_EN]⟩,
  ⟨"HPO_STAT", 0xE09008, 0x0, 1, .ro, [HPO_STAT_CP_STATE, HPO_STAT_JACK_MUTED]⟩,
  ⟨"HPO_CMD", 0xE09010, 0x0, 1, .wo, [HPO_CMD_CH, HPO_CMD_CLEAR]⟩,
  ⟨"HPO_SUM", 0xE09018, 0x0, 1, .w1c, [HPO_SUM_SHORT, HPO_SUM_CLIP, HPO_SUM_CP_FAULT, HPO_SUM_CFG_ERR]⟩,
  ⟨"HPO_CFGn", 0xE09100, 0x20, 4, .rw, [HPO_CFG_EN 0, HPO_CFG_MODE 0, HPO_CFG_MUTE 0, HPO_CFG_VOL 0]⟩,
  ⟨"HPO_STATn", 0xE09108, 0x20, 4, .ro, [HPO_STAT_STATE 0, HPO_STAT_MUTED 0, HPO_STAT_CFG_ERR 0, HPO_STAT_RETRY 0, HPO_STAT_VOL_APPLIED 0]⟩,
  ⟨"HPO_CNTn", 0xE09110, 0x20, 4, .rc, [HPO_CNT_CLIP 0, HPO_CNT_ILIM 0, HPO_CNT_SHORTS 0]⟩,
  ⟨"DET_CTL", 0xE0C000, 0x0, 1, .rws, [DET_CTL_EVT_EN, DET_CTL_WAKE_EN]⟩,
  ⟨"DET_BTN_TH", 0xE0C008, 0x0, 1, .rws, [DET_BTN_TH_TH0, DET_BTN_TH_TH1, DET_BTN_TH_TH2, DET_BTN_TH_TH3]⟩,
  ⟨"DET_BTN_CFG", 0xE0C010, 0x0, 1, .rws, [DET_BTN_CFG_PRESS_DB, DET_BTN_CFG_REL_DB]⟩,
  ⟨"DET_SUM", 0xE0C018, 0x0, 1, .w1c, [DET_SUM_INSERT, DET_SUM_REMOVE, DET_SUM_ID, DET_SUM_BTN, DET_SUM_CFG_ERR]⟩,
  ⟨"DET_CMD", 0xE0C020, 0x0, 1, .wo, [DET_CMD_REIDENT]⟩,
  ⟨"DET_JACKn_CFG", 0xE0C100, 0x20, 2, .rws, [DET_JACK_CFG_EN 0, DET_JACK_CFG_POL 0, DET_JACK_CFG_INS_DB 0, DET_JACK_CFG_REM_DB 0, DET_JACK_CFG_ID_DELAY 0, DET_JACK_CFG_BIAS 0, DET_JACK_CFG_HPO_MASK 0, DET_JACK_CFG_AUTO_MUTE 0, DET_JACK_CFG_BTN_EN 0]⟩,
  ⟨"DET_JACKn_STAT", 0xE0C108, 0x20, 2, .ro, [DET_JACK_STAT_STATE 0, DET_JACK_STAT_TYPE 0, DET_JACK_STAT_BTN 0, DET_JACK_STAT_CFG_ERR 0, DET_JACK_STAT_CODE 0]⟩]

/-- The registers of spec/12_reninait_chain.md. -/
def regTable12 : List RegRow := [
  ⟨"CHN_CTL", 0xE0D000, 0x0, 1, .rw, [CHN_CTL_EVT_EN, CHN_CTL_AUTO_DEAL, CHN_CTL_FWD_EN, CHN_CTL_FWD_SEV, CHN_CTL_FWD_RING, CHN_CTL_DETACH_T, CHN_CTL_TUN_TO]⟩,
  ⟨"CHN_STAT", 0xE0D008, 0x0, 1, .ro, [CHN_STAT_ROLE, CHN_STAT_ADDR_VALID, CHN_STAT_ADDR, CHN_STAT_POS, CHN_STAT_HIGHEST, CHN_STAT_DEAL_STATE, CHN_STAT_PRESENT]⟩,
  ⟨"CHN_CMD", 0xE0D010, 0x0, 1, .wo, [CHN_CMD_DEAL, CHN_CMD_FORCE, CHN_CMD_RETRAIN_UP, CHN_CMD_RETRAIN_DN]⟩,
  ⟨"CHN_SUM", 0xE0D018, 0x0, 1, .w1c, [CHN_SUM_LINK_DOWN, CHN_SUM_ATTACH, CHN_SUM_DETACH, CHN_SUM_DEAL_DONE, CHN_SUM_ROSTER_CHG, CHN_SUM_DEAL_FULL, CHN_SUM_FWD_DROP, CHN_SUM_REALIGN, CHN_SUM_DELAY_RANGE, CHN_SUM_SAT_RESET]⟩,
  ⟨"CHN_PORTp_STAT", 0xE0D020, 0x10, 2, .ro, [CHN_PORT_STAT_STATE 0, CHN_PORT_STAT_SIGNAL 0, CHN_PORT_STAT_DELAY 0, CHN_PORT_STAT_FREE_SLOTS 0]⟩,
  ⟨"CHN_PORTp_CNT", 0xE0D028, 0x10, 2, .rc, [CHN_PORT_CNT_CODE_ERR 0, CHN_PORT_CNT_CTRL_CRC 0, CHN_PORT_CNT_GRP_CRC 0, CHN_PORT_CNT_RETRAINS 0]⟩,
  ⟨"CHN_ROSTER_SEL", 0xE0D040, 0x0, 1, .rw, [CHN_ROSTER_SEL_UNIT]⟩,
  ⟨"CHN_ROSTER_ID0", 0xE0D048, 0x0, 1, .ro, [CHN_ROSTER_ID0_ID_LO 0]⟩,
  ⟨"CHN_ROSTER_ID1", 0xE0D050, 0x0, 1, .ro, [CHN_ROSTER_ID1_ID_HI 0]⟩,
  ⟨"CHN_ROSTER_STAT", 0xE0D058, 0x0, 1, .ro, [CHN_ROSTER_STAT_PRESENT 0, CHN_ROSTER_STAT_EVER 0, CHN_ROSTER_STAT_POS 0, CHN_ROSTER_STAT_STICKY 0, CHN_ROSTER_STAT_CHANGED 0]⟩,
  ⟨"CHN_TUN_ADDR", 0xE0D060, 0x0, 1, .rw, [CHN_TUN_ADDR_ADDR, CHN_TUN_ADDR_UNIT, CHN_TUN_ADDR_OP]⟩,
  ⟨"CHN_TUN_WDATA", 0xE0D068, 0x0, 1, .rw, [CHN_TUN_WDATA_DATA]⟩,
  ⟨"CHN_TUN_GO", 0xE0D070, 0x0, 1, .wo, [CHN_TUN_GO_GO]⟩,
  ⟨"CHN_TUN_STAT", 0xE0D078, 0x0, 1, .ro, [CHN_TUN_STAT_BUSY, CHN_TUN_STAT_STATUS, CHN_TUN_STAT_SEQ]⟩,
  ⟨"CHN_TUN_RDATA", 0xE0D080, 0x0, 1, .ro, [CHN_TUN_RDATA_DATA]⟩,
  ⟨"CHN_FWD_CNT", 0xE0D088, 0x0, 1, .rc, [CHN_FWD_CNT_DROPPED]⟩]

/-- The registers of spec/13_rings_ordering.md. -/
def regTable13 : List RegRow := [
  ⟨"RING_CFGn", 0xE03000, 0x20, 64, .rw, [RING_CFG_KIND 0, RING_CFG_EN 0, RING_CFG_SIZE 0, RING_CFG_BASE 0, RING_CFG_CPL_RING 0, RING_CFG_UNIT 0, RING_CFG_PTRW 0, RING_CFG_WM 0]⟩,
  ⟨"RING_HEADn", 0xE03008, 0x20, 64, .rw, [RING_HEAD_HEAD 0]⟩,
  ⟨"RING_TAILn", 0xE03010, 0x20, 64, .rw, [RING_TAIL_TAIL 0]⟩,
  ⟨"RING_STATn", 0xE03018, 0x20, 64, .ro, [RING_STAT_STATE 0, RING_STAT_CFG_ERR 0, RING_STAT_PTR_ERR 0, RING_STAT_HALT_STATUS 0, RING_STAT_LEVEL 0, RING_STAT_NEXT_SEQ 0, RING_STAT_HALT_SEQ 0]⟩,
  ⟨"RING_RESUME", 0xE03800, 0x0, 1, .wo, [RING_RESUME_RING, RING_RESUME_MODE]⟩,
  ⟨"RING_HALT_SUM", 0xE03808, 0x0, 1, .ro, [RING_HALT_SUM_HALTED]⟩,
  ⟨"RING_LOST_SUM", 0xE03810, 0x0, 1, .w1c, [RING_LOST_SUM_LOST]⟩,
  ⟨"RING_EVT_CFG", 0xE03818, 0x0, 1, .rw, [RING_EVT_CFG_RING, RING_EVT_CFG_MIN_SEV]⟩,
  ⟨"RING_GLOBAL", 0xE03820, 0x0, 1, .ro, [RING_GLOBAL_RESETS, RING_GLOBAL_LAST_DEPTH]⟩]

/-- The registers of spec/14_two_wire.md. -/
def regTable14 : List RegRow := [
  ⟨"TWB_CFG", 0xE0E000, 0x0, 1, .rws, [TWB_CFG_GF, TWB_CFG_TIMEOUT, TWB_CFG_DORMANT_WAKE, TWB_CFG_HS_EN]⟩,
  ⟨"TWB_STAT", 0xE0E008, 0x0, 1, .ro, [TWB_STAT_ADDR, TWB_STAT_STRAP, TWB_STAT_STRAP_MARGIN, TWB_STAT_HS, TWB_STAT_BUSY, TWB_STAT_ANSWERED, TWB_STAT_STRETCH_MAX]⟩,
  ⟨"TWB_CNT", 0xE0E010, 0x0, 1, .rc, [TWB_CNT_PARTIALS, TWB_CNT_TIMEOUTS, TWB_CNT_NACKS, TWB_CNT_DROPS]⟩,
  ⟨"TWB_ALERT_CFG", 0xE0E018, 0x0, 1, .rws, [TWB_ALERT_CFG_EN, TWB_ALERT_CFG_SEV_EN, TWB_ALERT_CFG_SEV, TWB_ALERT_CFG_FWD_SEV]⟩,
  ⟨"TWB_ALERT_STAT", 0xE0E020, 0x0, 1, .w1c, [TWB_ALERT_STAT_SRC, TWB_ALERT_STAT_FWD_UNIT]⟩,
  ⟨"TWB_AUX_CFG", 0xE0E028, 0x0, 1, .rw, [TWB_AUX_CFG_SPEED, TWB_AUX_CFG_GF, TWB_AUX_CFG_TO, TWB_AUX_CFG_ARB_RETRY]⟩,
  ⟨"TWB_AUX_STAT", 0xE0E030, 0x0, 1, .ro, [TWB_AUX_STAT_STATE, TWB_AUX_STAT_SCL, TWB_AUX_STAT_SDA, TWB_AUX_STAT_BUS_BUSY]⟩,
  ⟨"TWB_AUX_CNT", 0xE0E038, 0x0, 1, .rc, [TWB_AUX_CNT_ARB_LOST, TWB_AUX_CNT_ARB_COND, TWB_AUX_CNT_NACKS, TWB_AUX_CNT_STUCK]⟩,
  ⟨"TWB_SUM", 0xE0E040, 0x0, 1, .w1c, [TWB_SUM_PARTIAL, TWB_SUM_TIMEOUT, TWB_SUM_DROP, TWB_SUM_AUX_ARB, TWB_SUM_AUX_COND, TWB_SUM_AUX_NACK, TWB_SUM_AUX_STUCK]⟩,
  ⟨"TWB_CTL", 0xE0E048, 0x0, 1, .rw, [TWB_CTL_EVT_EN]⟩]

/-- The registers of spec/15_memory_banks.md. -/
def regTable15 : List RegRow := [
  ⟨"MEM_CTL", 0xE0F000, 0x0, 1, .rw, [MEM_CTL_EVT_EN, MEM_CTL_TEST_EN]⟩,
  ⟨"MEM_RET_CFG", 0xE0F008, 0x0, 1, .rws, [MEM_RET_CFG_RET_EN]⟩,
  ⟨"MEM_BANK_STAT", 0xE0F010, 0x0, 1, .ro, [MEM_BANK_STAT_STATE 0, MEM_BANK_STAT_STATE 1, MEM_BANK_STAT_STATE 2, MEM_BANK_STAT_STATE 3, MEM_BANK_STAT_STATE 4, MEM_BANK_STAT_STATE 5, MEM_BANK_STAT_STATE 6, MEM_BANK_STAT_STATE 7, MEM_BANK_STAT_SPARES 0, MEM_BANK_STAT_SPARES 1, MEM_BANK_STAT_SPARES 2, MEM_BANK_STAT_SPARES 3, MEM_BANK_STAT_SPARES 4, MEM_BANK_STAT_SPARES 5, MEM_BANK_STAT_SPARES 6, MEM_BANK_STAT_SPARES 7]⟩,
  ⟨"MEM_LOST_SUM", 0xE0F018, 0x0, 1, .w1c, [MEM_LOST_SUM_LOST]⟩,
  ⟨"MEM_SEL", 0xE0F020, 0x0, 1, .rw, [MEM_SEL_BANK]⟩,
  ⟨"MEM_ECC_CNT", 0xE0F028, 0x0, 1, .rc, [MEM_ECC_CNT_CORRECTED 0, MEM_ECC_CNT_UNCORR 0]⟩,
  ⟨"MEM_ECC_LAST", 0xE0F030, 0x0, 1, .ro, [MEM_ECC_LAST_WORD 0, MEM_ECC_LAST_CLASS 0, MEM_ECC_LAST_VALID 0]⟩,
  ⟨"MEM_ARB_CNT", 0xE0F038, 0x0, 1, .rc, [MEM_ARB_CNT_HOST_STALL 0, MEM_ARB_CNT_CP_STALL 0, MEM_ARB_CNT_AGED 0, MEM_ARB_CNT_CUR_YIELD 0]⟩,
  ⟨"MEM_TEST_STAT", 0xE0F040, 0x0, 1, .ro, [MEM_TEST_STAT_BANK, MEM_TEST_STAT_REGION, MEM_TEST_STAT_BUSY, MEM_TEST_STAT_FAIL, MEM_TEST_STAT_TESTED]⟩,
  ⟨"MEM_SUM", 0xE0F048, 0x0, 1, .w1c, [MEM_SUM_UE, MEM_SUM_REPAIR, MEM_SUM_RETIRE, MEM_SUM_LOST]⟩]

/-- The registers of spec/16_power_clocks.md. -/
def regTable16 : List RegRow := [
  ⟨"PWR_CTL", 0xE01000, 0x0, 1, .rws, [PWR_CTL_EVT_EN, PWR_CTL_PG_TO, PWR_CTL_ENTRY_TO]⟩,
  ⟨"PWR_PL", 0xE01008, 0x0, 1, .rw, [PWR_PL_TARGET]⟩,
  ⟨"PWR_STAT", 0xE01010, 0x0, 1, .ro, [PWR_STAT_CUR_PL, PWR_STAT_STATE, PWR_STAT_PL_BUSY, PWR_STAT_PL_ERR, PWR_STAT_VSEL, PWR_STAT_PG, PWR_STAT_XO_OK, PWR_STAT_AON_SRC]⟩,
  ⟨"PWR_MODE", 0xE01018, 0x0, 1, .rw, [PWR_MODE_MODE, PWR_MODE_WAKE_PL]⟩,
  ⟨"PWR_WAKE_EN", 0xE01020, 0x0, 1, .rws, [PWR_WAKE_EN_TIMER, PWR_WAKE_EN_START, PWR_WAKE_EN_CHAIN]⟩,
  ⟨"PWR_WAKE_STAT", 0xE01028, 0x0, 1, .ro, [PWR_WAKE_STAT_CAUSE, PWR_WAKE_STAT_LEFT, PWR_WAKE_STAT_SLEPT]⟩,
  ⟨"PWR_TIMER", 0xE01030, 0x0, 1, .rws, [PWR_TIMER_COUNT]⟩,
  ⟨"PWR_CMD", 0xE01038, 0x0, 1, .wo, [PWR_CMD_WAKE]⟩,
  ⟨"PWR_CNT", 0xE01040, 0x0, 1, .rc, [PWR_CNT_SLEEPS, PWR_CNT_PL_CHANGES, PWR_CNT_PG_TIMEOUTS, PWR_CNT_ENTRY_TIMEOUTS]⟩,
  ⟨"PWR_SUM", 0xE01048, 0x0, 1, .w1c, [PWR_SUM_PL_REFUSED, PWR_SUM_PG_TIMEOUT, PWR_SUM_PG_LOST, PWR_SUM_XO_FAIL, PWR_SUM_LFX_FAIL, PWR_SUM_ENTRY_TO]⟩,
  ⟨"PWR_SEQ", 0xE01050, 0x0, 1, .ro, [PWR_SEQ_SLEEP_SEQ]⟩]

/-- The registers of spec/17_reset_startup.md. -/
def regTable17 : List RegRow := [
  ⟨"SYS_ID0", 0xE00000, 0x0, 1, .ro, [SYS_ID0_ID_LO]⟩,
  ⟨"SYS_ID1", 0xE00008, 0x0, 1, .ro, [SYS_ID1_ID_HI]⟩,
  ⟨"SYS_CTL", 0xE00010, 0x0, 1, .rws, [SYS_CTL_EVT_EN, SYS_CTL_BOOT_WAIT]⟩,
  ⟨"SYS_STAT", 0xE00018, 0x0, 1, .ro, [SYS_STAT_ID_OK, SYS_STAT_BOOT_STATE, SYS_STAT_RST_DEPTH, SYS_STAT_RST_CAUSE]⟩,
  ⟨"SYS_BOOT", 0xE00020, 0x0, 1, .ro, [SYS_BOOT_REASON_A, SYS_BOOT_REASON_B, SYS_BOOT_SLOT, SYS_BOOT_LOADED, SYS_BOOT_MODIFIED, SYS_BOOT_EDITION]⟩,
  ⟨"SYS_UNIT_SEL", 0xE00028, 0x0, 1, .rw, [SYS_UNIT_SEL_UNIT]⟩,
  ⟨"SYS_UNIT_STAT", 0xE00030, 0x0, 1, .ro, [SYS_UNIT_STAT_EDITION 0, SYS_UNIT_STAT_LOADED 0, SYS_UNIT_STAT_STATUS 0]⟩,
  ⟨"SYS_LOCK", 0xE00038, 0x0, 1, .rw, [SYS_LOCK_LOCK]⟩,
  ⟨"SYS_RESET", 0xE00040, 0x0, 1, .wo, [SYS_RESET_WARM, SYS_RESET_KEY]⟩,
  ⟨"SYS_FOLD", 0xE00048, 0x0, 1, .wo, [SYS_FOLD_FOLD_NOW]⟩,
  ⟨"SYS_SCRATCH", 0xE00050, 0x0, 1, .rws, [SYS_SCRATCH_DATA]⟩,
  ⟨"SYS_SUM", 0xE00058, 0x0, 1, .w1c, [SYS_SUM_RESET, SYS_SUM_ID_BAD, SYS_SUM_BOOT_EMPTY]⟩]

/-- The registers of spec/18_curator_housekeeping.md. -/
def regTable18 : List RegRow := [
  ⟨"CUR_CTL", 0xE11000, 0x0, 1, .rw, [CUR_CTL_SCRUB_EN, CUR_CTL_CAL_EN, CUR_CTL_TEL_EN, CUR_CTL_EVT_EN, CUR_CTL_CAL_PERIOD, CUR_CTL_CAL_DT]⟩,
  ⟨"CUR_BUDGET", 0xE11008, 0x0, 1, .rw, [CUR_BUDGET_CAP, CUR_BUDGET_YIELD_N]⟩,
  ⟨"CUR_STAT", 0xE11010, 0x0, 1, .ro, [CUR_STAT_CAL_BUSY, CUR_STAT_CAL_TARGET, CUR_STAT_SCRUB_PASSES]⟩,
  ⟨"CUR_SCRUB_POS", 0xE11018, 0x0, 1, .ro, [CUR_SCRUB_POS_FRAME_WORD, CUR_SCRUB_POS_SRAM_CELL]⟩,
  ⟨"CUR_ECC_CNT", 0xE11020, 0x0, 1, .rc, [CUR_ECC_CNT_CFG_CORR, CUR_ECC_CNT_CFG_UE, CUR_ECC_CNT_SRAM_CORR, CUR_ECC_CNT_SRAM_UE]⟩,
  ⟨"CUR_ECC_LAST", 0xE11028, 0x0, 1, .ro, [CUR_ECC_LAST_ADDR, CUR_ECC_LAST_VALID]⟩,
  ⟨"CUR_CAL_SEL", 0xE11030, 0x0, 1, .rw, [CUR_CAL_SEL_TARGET]⟩,
  ⟨"CUR_CAL_VAL", 0xE11038, 0x0, 1, .ro, [CUR_CAL_VAL_OFFSET 0, CUR_CAL_VAL_GAIN 0, CUR_CAL_VAL_AGE 0]⟩,
  ⟨"CUR_TEL_CFG", 0xE11040, 0x0, 1, .rw, [CUR_TEL_CFG_RING, CUR_TEL_CFG_PERIOD, CUR_TEL_CFG_KINDS]⟩,
  ⟨"CUR_CNT", 0xE11048, 0x0, 1, .rc, [CUR_CNT_TEL_DROP, CUR_CNT_CAL_RUNS, CUR_CNT_WB_CANCEL]⟩,
  ⟨"CUR_SUM", 0xE11050, 0x0, 1, .w1c, [CUR_SUM_SCRUB_UE, CUR_SUM_CAL_RANGE, CUR_SUM_TEL_DROP]⟩,
  ⟨"HKA_CTL", 0xE0B000, 0x0, 1, .rw, [HKA_CTL_EVT_EN, HKA_CTL_KEEP_ON, HKA_CTL_WIN, HKA_CTL_SCAN]⟩,
  ⟨"HKA_SCAN_EN", 0xE0B008, 0x0, 1, .rw, [HKA_SCAN_EN_EN, HKA_SCAN_EN_LOCK]⟩,
  ⟨"HKA_CMD", 0xE0B010, 0x0, 1, .wo, [HKA_CMD_CONV, HKA_CMD_CH]⟩,
  ⟨"HKA_STAT", 0xE0B018, 0x0, 1, .ro, [HKA_STAT_BUSY, HKA_STAT_POWERED, HKA_STAT_CUR_CH, HKA_STAT_TACH_OK, HKA_STAT_REF_BAD]⟩,
  ⟨"HKA_AUX_CFG", 0xE0B020, 0x0, 1, .rw, [HKA_AUX_CFG_SPK_CH, HKA_AUX_CFG_TACH_DB, HKA_AUX_CFG_TACH_POL]⟩,
  ⟨"HKA_SUM", 0xE0B028, 0x0, 1, .w1c, [HKA_SUM_REF_BAD, HKA_SUM_SUPPLY, HKA_SUM_TACH_LOST, HKA_SUM_OVR]⟩,
  ⟨"HKA_CNT", 0xE0B030, 0x0, 1, .rc, [HKA_CNT_CONVS, HKA_CNT_TACH_LOSSES, HKA_CNT_SKIPS]⟩,
  ⟨"HKA_RESc", 0xE0B100, 0x8, 16, .ro, [HKA_RES_CODE 0, HKA_RES_VALUE 0, HKA_RES_VALID 0, HKA_RES_LOCKED 0, HKA_RES_OVR 0, HKA_RES_SEQ 0]⟩]

/-- The registers of spec/19_annals.md. -/
def regTable19 : List RegRow := [
  ⟨"NVS_CTL", 0xE10000, 0x0, 1, .rws, [NVS_CTL_EVT_EN, NVS_CTL_TSEL, NVS_CTL_MIN_SEV, NVS_CTL_FREEZE_TO]⟩,
  ⟨"NVS_STAT", 0xE10008, 0x0, 1, .ro, [NVS_STAT_BUF_LEVEL, NVS_STAT_FROZEN, NVS_STAT_FLUSHING, NVS_STAT_READ_ONLY, NVS_STAT_KEY_LOCK, NVS_STAT_KEY_TRIES, NVS_STAT_SYS_OK, NVS_STAT_RING_SECTORS, NVS_STAT_SPARES_LEFT]⟩,
  ⟨"NVS_OPTIME", 0xE10010, 0x0, 1, .ro, [NVS_OPTIME_OP_SEC, NVS_OPTIME_PCYC]⟩,
  ⟨"NVS_CALTIME", 0xE10018, 0x0, 1, .ro, [NVS_CALTIME_CAL_SEC]⟩,
  ⟨"NVS_TIMEQ", 0xE10020, 0x0, 1, .ro, [NVS_TIMEQ_OP_TQ, NVS_TIMEQ_CAL_TQ, NVS_TIMEQ_OP_BOUND, NVS_TIMEQ_CAL_BOUND]⟩,
  ⟨"NVS_CAL_SET", 0xE10028, 0x0, 1, .wo, [NVS_CAL_SET_CAL_SEC]⟩,
  ⟨"NVS_RING_STAT", 0xE10030, 0x0, 1, .ro, [NVS_RING_STAT_OLDEST, NVS_RING_STAT_NEXT, NVS_RING_STAT_COUNT]⟩,
  ⟨"NVS_CNT", 0xE10038, 0x0, 1, .rc, [NVS_CNT_FLUSHES, NVS_CNT_REPEATS, NVS_CNT_DROPPED, NVS_CNT_VERIFY_FAIL]⟩,
  ⟨"NVS_SECTOR_SEL", 0xE10040, 0x0, 1, .rw, [NVS_SECTOR_SEL_SECTOR]⟩,
  ⟨"NVS_SECTOR_STAT", 0xE10048, 0x0, 1, .ro, [NVS_SECTOR_STAT_STATE 0, NVS_SECTOR_STAT_LOGICAL 0]⟩,
  ⟨"NVS_SUM", 0xE10050, 0x0, 1, .w1c, [NVS_SUM_LOST, NVS_SUM_SPARE, NVS_SUM_SHRINK, NVS_SUM_READ_ONLY, NVS_SUM_KEY_FAIL, NVS_SUM_SYS, NVS_SUM_FREEZE_TO]⟩]

/-- The registers of spec/20_keeper.md. -/
def regTable20 : List RegRow := [
  ⟨"KEEP_CTL", 0xE13000, 0x0, 1, .rws, [KEEP_CTL_EVT_EN, KEEP_CTL_FAULT_IN_EN, KEEP_CTL_FAULT_LATCH, KEEP_CTL_FAULT_DRV, KEEP_CTL_THERM_CLR]⟩,
  ⟨"KEEP_STAT", 0xE13008, 0x0, 1, .ro, [KEEP_STAT_CAUSE, KEEP_STAT_STATE, KEEP_STAT_FAULT_IN, KEEP_STAT_DRIVING, KEEP_STAT_FORCED, KEEP_STAT_KICKED, KEEP_STAT_WDT_LEFT]⟩,
  ⟨"KEEP_CMD", 0xE13010, 0x0, 1, .wo, [KEEP_CMD_RELEASE, KEEP_CMD_FOLD]⟩,
  ⟨"KEEP_WDT_CFG", 0xE13018, 0x0, 1, .rwl, [KEEP_WDT_CFG_EN, KEEP_WDT_CFG_ACTION, KEEP_WDT_CFG_PERIOD]⟩,
  ⟨"KEEP_HB", 0xE13020, 0x0, 1, .wo, [KEEP_HB_KICK]⟩,
  ⟨"KEEP_CNT", 0xE13028, 0x0, 1, .rc, [KEEP_CNT_FOLDS, KEEP_CNT_WDT_EXP, KEEP_CNT_BAD_KICKS, KEEP_CNT_FORCED]⟩,
  ⟨"KEEP_SUM", 0xE13030, 0x0, 1, .w1c, [KEEP_SUM_CAUSE, KEEP_SUM_FORCED]⟩]

/-- Every register of the device (R532). -/
def regTable : List RegRow :=
  regTable02 ++ regTable05 ++ regTable07 ++ regTable08 ++ regTable09 ++ regTable10 ++ regTable11 ++ regTable12 ++ regTable13 ++ regTable14 ++ regTable15 ++ regTable16 ++ regTable17 ++ regTable18 ++ regTable19 ++ regTable20

end Sys2Proof
end

