-- ==== Sys2Proof/Machine/State.lean ====
section
/-! DEFINITION. The state of the block: every register field, memory, buffer, queue and hidden phase the spec names, as
plain data, and the state right after a cold reset. Register fields live in `regs`, keyed by the field's address and lowest
bit; storage that no register shows has a field of its own here. -/

namespace Sys2Proof.Machine

/-- The block has no fault: every command of the opcode table has an effect in the spec, so no meaning raises one. -/
inductive Fault
deriving DecidableEq, Repr

/-- Why a command has no outcome. -/
inductive Refusal where
  /-- Raised by `exec` alone, for a command that has no meaning yet; safe, since nothing is claimed of such a command. -/
  | notModelled (mnemonic : String)
deriving DecidableEq, Repr

/-- An event waiting for its ring (R355). `sat` is the forwarding satellite's slot in the order of R357, 0 for a local event. -/
structure Ev where
  code : Nat
  sev : Nat
  unit : Nat
  fwd : Bool
  frame : Nat
  orig : Nat
  payload : Nat
deriving DecidableEq, Repr

/-- An annals entry (R496). -/
structure Entry where
  code : Nat
  sev : Nat
  tsel : Bool
  tq : Nat
  rep : Nat
  bound : Nat
  time : Nat
  payload : Nat
deriving DecidableEq, Repr

/-- A run of the section engine in progress (R83, R86). -/
structure SecRun where
  first : Nat
  count : Nat
  cell : Word
  pos : Nat
  /-- The RUN cycle after which the next section ends. -/
  nextEnd : Nat
deriving DecidableEq, Repr

/-- A publication of a tile: the tick that made it and the cells of OUT0 to OUT7 (R51, R57). -/
structure Pub where
  tick : Nat
  cells : List Word
deriving DecidableEq, Repr

/-- A pending parameter entry (R72); `cmd` names the ring whose PARAM command queued it, and the command's SEQ. -/
structure ParamEntry where
  tile : Nat
  idx : Nat
  val : Word
  cmd : Option (Nat × Nat)
deriving DecidableEq, Repr

/-- The state of one tile that no register shows (R47, R82, R91). -/
structure Tile where
  /-- D0 to D15. -/
  d : SMap Word
  acc0 : Int
  acc1 : Int
  accF0 : Nat
  accF1 : Nat
  /-- IN0 to IN7 as latched; `none` for a CURR input not yet read in this tick. -/
  inp : SMap (Option Word)
  /-- OUT0 to OUT7. -/
  out : SMap Word
  /-- The cells of the last COMMIT that END led to; `none` before the first (R27, R69). -/
  com : Option (SMap Word)
  /-- Publications, newest first. -/
  pubs : List Pub
  /-- PTR of A0 to A3. -/
  ptr : SMap Nat
  lc : Nat
  sr : Word
  t : Bool
  zf : Bool
  nf : Bool
  pc : Nat
  /-- RUN cycles used in this tick. -/
  cyc : Nat
  /-- The tick budget in force for this tick (R52, R53). -/
  budget : Nat
  /-- The frame in which the tick began (R21). -/
  tickFrame : Nat
  /-- The number of the domain's tick that the tile took last. -/
  tickNo : Nat
  /-- The tick `tickNo` has ended, in RUN cycle `endCyc`. -/
  ended : Bool
  endCyc : Nat
  /-- The cycles of the last multiply into each accumulator (R62). -/
  mul0 : Nat
  mul1 : Nat
  /-- The section run in progress, and the cycle of the last one's end. -/
  run : Option SecRun
  secEnd : Nat
  /-- s1 and s2 of the sections, in units of 2^-56 (R82). -/
  secS : SMap (Int × Int)
  /-- The inactive copies of the coefficient slots, and the select bits (R91). -/
  shadow : SMap Word
  sel : Nat
  /-- Slots as they were before a flip that came in the middle of this tick: the engine uses them until the tick ends (R96). -/
  oldSlots : SMap Word
  /-- Remaining settle ticks of each section (R97). -/
  settle : SMap Nat
  /-- Flips the tile has not applied yet: sections to initialise, and sections with their settle window (R96 step 4). -/
  applyInit : Nat
  applySettle : SMap Nat
  /-- Sections whose reserved KIND has been reported (R77). -/
  warned : Nat
  /-- Entries moved out of the shelf queue (R72). -/
  pend : List ParamEntry
  /-- FAB_TILE_CMD.STOP waits for the end of the tick (R70). -/
  stopReq : Bool
  /-- An instruction waits on this CURR input (R55). -/
  waitIn : Option Nat
  /-- Host writes to program words that wait for the end of the tick (R71). -/
  late : List (Nat × Word)
  /-- Ticks taken by each BANK input since its descriptor was loaded (R54). -/
  bpos : SMap Nat
deriving DecidableEq, Repr

/-- A tile as a reset or a load leaves it (R47, R82). -/
def Tile.reset : Tile :=
  { d := [], acc0 := 0, acc1 := 0, accF0 := 0, accF1 := 0, inp := [], out := [], com := none, pubs := [], ptr := [], lc := 0, sr := 0
    t := false, zf := false, nf := false, pc := 0, cyc := 0, budget := 0, tickFrame := 0, tickNo := 0, ended := true
    endCyc := 0, mul0 := 0, mul1 := 0, run := none, secEnd := 0, secS := [], shadow := [], sel := 0, oldSlots := [], settle := []
    applyInit := 0, applySettle := [], warned := 0, pend := [], stopReq := false, waitIn := none, late := [], bpos := [] }

/-- The annals engine's storage (R498 to R502); `frm` of a buffered entry is its frame of occurrence. -/
structure Annals where
  buf : List (Nat × Entry)
  /-- The entry a flush wrote last, and its ring slot: the last recorded entry while the buffer is empty. -/
  lastFlushed : Option (Nat × Entry)
  /-- That entry gained repeats since it was written (R499). -/
  rewrite : Bool
  /-- Occurrences dropped while 255 entries wait, and the frames of the first and last (R502). -/
  drops : Nat
  dropFirst : Nat
  dropLast : Nat
  /-- A flush trigger waits (R500, R502, R512). -/
  flushReq : Bool
  /-- The rings whose ANNALS_FLUSH ends with the flush in progress, and with the next one. -/
  flushCmds : List Nat
  flushNext : List Nat
  /-- Frames into the current second of the operating time and of the calendar (R503, R504). -/
  subSec : Nat
  subCal : Nat
  /-- Seconds counted on the RC oscillator while each form was not UNKNOWN (R504). -/
  rcOp : Nat
  rcCal : Nat
deriving DecidableEq, Repr

/-- The annals engine at a COLD reset. -/
def Annals.reset : Annals :=
  { buf := [], lastFlushed := none, rewrite := false, drops := 0, dropFirst := 0, dropLast := 0
    flushReq := false, flushCmds := [], flushNext := [], subSec := 0, subCal := 0, rcOp := 0, rcCal := 0 }

/-- The newest slot of the time log (R504, R506): its position and sequence number, and what it holds. -/
structure TimeLog where
  slot : Nat
  seq : Nat
  opSec : Nat
  pcyc : Nat
  tq : Nat
  bound : Nat
deriving DecidableEq, Repr

/-- A crosspoint change waiting in a queue or in progress (R113, R115): the ring that asked for it and its SEQ, the
frame it was queued in, the new descriptor (`none` for a CLEAR). -/
structure XpChange where
  ring : Nat
  seq : Nat
  queuedAt : Nat
  at_ : Option Nat
  fadeK : Nat
  power : Bool
  desc : Option (Nat × Nat)
  /-- The domain it was validated with (R102). -/
  dom : Nat
  /-- The crosspoints of the same ROUTE. -/
  group : List Nat
deriving DecidableEq, Repr

/-- What a crosspoint does (R119). -/
inductive XpPhase where
  | steady
  | fading
  | zcWait
  | ramping
deriving DecidableEq, Repr

/-- A crosspoint (R106): its descriptor and domain (`none`: FREE), its change in progress and those that wait. -/
structure Xp where
  desc : Option (Nat × Nat)
  dom : Nat
  phase : XpPhase
  /-- The old path of a fade, with its domain. -/
  old : Option (Nat × Nat)
  oldDom : Nat
  /-- Fade length exponent and shape. -/
  fadeK : Nat
  power : Bool
  /-- Ticks elapsed in the new path's domain and in the old path's. -/
  pos : Nat
  posOld : Nat
  /-- The gain in force before a ramp or step, and the one it leads to. -/
  gainFrom : Nat
  gainTo : Nat
  /-- The gain code in force (R119 APPLIED). -/
  applied : Nat
  /-- The next cell carries S: a step was taken (R121). -/
  stepS : Bool
  /-- The source's AUDIO in the last tick, for the zero crossing. -/
  lastSrc : Int
  zcTimeouts : Nat
  /-- The change in progress, for its command's completion. -/
  cur : Option XpChange
  queue : List XpChange
deriving DecidableEq, Repr

/-- A FREE crosspoint. -/
def Xp.reset : Xp :=
  { desc := none, dom := 1, phase := .steady, old := none, oldDom := 1, fadeK := 0, power := false, pos := 0, posOld := 0
    gainFrom := 0, gainTo := 0, applied := 0, stepS := false, lastSrc := 0, zcTimeouts := 0, cur := none, queue := [] }

/-- A command in execution on a ring (R359). -/
structure Exec where
  seq : Nat
  words : List Nat
  retried : Bool
  /-- The commit point has passed (R376). -/
  committed : Bool
  startFrame : Nat
  /-- A per-command count or deadline: boundaries left of a WAIT, values left of a PARAM. -/
  left : Nat
  /-- A per-command result gathered so far. -/
  result : Nat
  /-- A load discarded values of a PARAM (R362); a wait's timeout has run out. -/
  lost : Bool
  /-- Units or targets still outstanding, as a mask, and the snapshot of a FENCE. -/
  mask : Nat
  snap : List (Nat × Nat)
deriving DecidableEq, Repr

/-- What the command processor keeps of a ring beside its registers. -/
structure Ring where
  /-- The count up to which commands have been made ready and given a SEQ (R353). -/
  ready : Nat
  exec : Option Exec
  /-- A completion that waits for space (R359 CPL_WAIT). -/
  waiting : Option (Nat × Nat)
  /-- SEQs marked by ABORT (R375). -/
  marks : List Nat
  /-- A RETRY is due: the failing command runs again with its SEQ. -/
  retrySeq : Option Nat
  /-- NW at the first reading of the failing command. -/
  haltNw : Nat
  /-- The last SEQ whose completion posted, plus one; the SEQs below it have all completed. -/
  doneSeq : Nat
  /-- STREAM: the level was below the watermark at the last boundary (R351). -/
  below : Bool
  /-- EVENT: drops since the last marker, and the frames of the first and last dropped events (R358). -/
  drops : Nat
  dropFirst : Nat
  dropLast : Nat
  /-- A FLUSH is under way: it waits for completion space. -/
  flushing : Bool
  /-- The status of each completed SEQ. -/
  hist : SMap Nat
deriving DecidableEq, Repr

/-- A ring as a reset leaves it. -/
def Ring.reset : Ring :=
  { ready := 0, exec := none, waiting := none, marks := [], retrySeq := none, haltNw := 0, doneSeq := 0, below := true
    drops := 0, dropFirst := 0, dropLast := 0, flushing := false, hist := [] }

/-- A COEF_GROUP past its commit point (R96): the words it gives, the sections it touches, and when it may flip. -/
structure Group where
  ring : Nat
  seq : Nat
  settle : Nat
  at_ : Option Nat
  staged : Bool
  stagedAt : Nat
  /-- Tile, slot and word, in block order. -/
  words : List (Nat × Nat × Word)
  /-- Tile and section. -/
  secs : List (Nat × Nat)
deriving DecidableEq, Repr

/-- Where a load stands (R170, R178). -/
inductive LoadPhase where
  /-- The mute ramp before the teardown boundary. -/
  | teardown
  /-- Records are being written. -/
  | write
  /-- The image is being read and checked, without a write. -/
  | scan
  /-- A partial load waits for staged groups. -/
  | wait
  /-- Past the commit point on this unit. -/
  | done
deriving DecidableEq, Repr

/-- A load in progress: a CODEX_LOAD or the boot load on the head, a lend on a satellite (R170, R174, R178). -/
structure Load where
  /-- The ring of the CODEX_LOAD; `none` for the boot load and on a satellite. -/
  ring : Option Nat
  /-- 0 full, 1 one shelf, 2 verify only. -/
  kind : Nat
  shelf : Nat
  slot : Nat
  boot : Bool
  units : Nat
  edition : Nat
  minPl : Nat
  at_ : Option Nat
  phase : LoadPhase
  /-- An ABORT came before the teardown (R173). -/
  cancel : Bool
  /-- The status this unit reached at step 4. -/
  own : Option Nat
  /-- The start frame, once it is fixed (R171). -/
  startF : Option Nat
  tiles : List Nat
  xps : SMap Xp
  rings : List (Nat × Nat)
deriving DecidableEq, Repr

/-- A lend stream at the head (R174, R176, R342). -/
structure Lend where
  edition : Nat
  stream : List Nat
  /-- The next stream word to send. -/
  pos : Nat
  paused : Bool
  /-- CRC failures so far. -/
  fails : Nat
  /-- The satellite's status, once it is final. -/
  status : Option Nat
  /-- Lent without a command (R177); its own start frame. -/
  auto : Bool
  startF : Option Nat
deriving DecidableEq, Repr

/-- What a satellite tells the head of a lend (R343); the spec gives the unit's TYPE and not its fields. -/
inductive LendMsg where
  | nak (offset : Nat)
  | pause (unit : Nat)
  | resume (unit : Nat)
  | done (status : Nat)
deriving DecidableEq, Repr

/-- What a port puts on its pins in a frame (R185, R187): FSYNC's level in each BCLK (empty: not driven), DOUT's (`none`: high
impedance; empty: throughout), and whether data is launched on BCLK's rising edge. -/
structure SapLine where
  fsync : List Bool
  dout : List (Option Bool)
  launchRising : Bool
deriving DecidableEq, Repr

/-- One serial audio port beyond its registers (R190 to R197). -/
structure Port where
  /-- The complete frame the router has not taken, slot 0 first. -/
  rxNew : Option (List Word)
  /-- A frame has been taken since the port started. -/
  rxGot : Bool
  /-- The last cell each receive slot delivered. -/
  rxLast : SMap Word
  /-- The last tick delivered fills. -/
  rxRun : Bool
  /-- Held cells of an ALIGN port, by slot (R196). -/
  held : SMap (List Word)
  /-- Cells discarded in the present run, those of them since the last tick, and the frame of the last. -/
  discards : Nat
  discardNow : Bool
  discardFrame : Nat
  /-- A frame has started whose slots have not all been received (R191). -/
  rxDue : Bool
  /-- The slots of the disrupted frame repeat (R143). -/
  slip : Bool
  /-- The cells the router delivered last, and whether a frame has not sent them yet. -/
  txVal : SMap Word
  txNew : Bool
  /-- The cells the last frame sent, and whether it was a fill. -/
  txSent : SMap Word
  txRun : Bool
  /-- The pins in the present frame, and bits that follow in the next one. -/
  line : SapLine
  carry : List (Option Bool)
  /-- How far the mute ramps have gone, in ticks (R195). -/
  rxRamp : Nat
  txRamp : Nat
  /-- A configuration that waits for the boundary at which the port stops (R213). -/
  pendCfg : Option Nat
  /-- The clock is qualified again: the next frame start ends the holdover (R194). -/
  resume : Bool
  /-- The port begins at the next boundary (R199), begins at the next B strobe (R202). -/
  beginNext : Bool
  beginB : Bool
deriving DecidableEq, Repr

/-- A port at reset. -/
def Port.reset : Port :=
  { rxNew := none, rxGot := false, rxLast := [], rxRun := false, held := [], discards := 0, discardNow := false
    discardFrame := 0, rxDue := false, slip := false, txVal := [], txNew := false, txSent := [], txRun := false
    line := { fsync := [], dout := [], launchRising := false }, carry := [], rxRamp := 0, txRamp := 0, pendCfg := none
    resume := false, beginNext := false, beginB := false }

/-- The preambles of IEC 60958 subframes (R210): of channel 1 at a block's start, of channel 1 otherwise, of channel 2. -/
inductive Preamble where
  | block
  | first
  | second
deriving DecidableEq, Repr

/-- A subframe on SPDIF_OUT: its preamble, and time slots 4 to 31, slot k as bit k (R210). -/
structure Subframe where
  preamble : Preamble
  slots : Nat
deriving DecidableEq, Repr

/-- The IEC 60958 receiver and transmitter beyond their registers (R206 to R212). -/
structure Spd where
  /-- The receiver waits for a common start (R199). -/
  armed : Bool
  /-- Channel 1's cell of the frame being received; the complete frame; the last cells; a frame has been taken. -/
  half : Option Word
  rxNew : Option (Word × Word)
  rxGot : Bool
  last : Option (Word × Word)
  slip : Bool
  /-- The block being received (R208): frames since its block-start preamble, and the channel-status and user bits of both channels. -/
  capPos : Option Nat
  capC : Nat × Nat
  capU : Nat × Nat
  /-- A parity error in this block, and in the one before it. -/
  parNow : Bool
  parPrev : Bool
  latched : Bool
  /-- Committed and not yet taken words, those taken from the registers, and those being sent (R211, R212). -/
  csPend : Option (List Nat)
  udPend : Option (List Nat)
  csReg : List Nat
  udReg : List Nat
  cs : List Nat
  ud : List Nat
  /-- Frames sent in the present block; a block is due at the start. -/
  pos : Nat
  txRamp : Nat
  beginNext : Bool
  beginB : Bool
  /-- The two subframes sent last. -/
  wire : Option (Subframe × Subframe)
deriving DecidableEq, Repr

/-- The IEC 60958 interface at reset. -/
def Spd.reset : Spd :=
  { armed := false, half := none, rxNew := none, rxGot := false, last := none, slip := false, capPos := none, capC := (0, 0)
    capU := (0, 0), parNow := false
    parPrev := false, latched := false, csPend := none, udPend := none, csReg := [0, 0, 0, 0, 0, 0]
    udReg := [0, 0, 0, 0, 0, 0], cs := [0, 0, 0, 0, 0, 0], ud := [0, 0, 0, 0, 0, 0]
    pos := 192, txRamp := 0, beginNext := false, beginB := false, wire := none }

/-- One rate bridge beyond its registers (R147, R148). -/
structure Brg where
  /-- Output ticks since the bridge entered ACQUIRE. -/
  since : Nat
  gotInput : Bool
  /-- Input cells by channel, newest first. -/
  fifo : SMap (List Word)
  lastOut : SMap Word
  /-- When the newest input cell came, in CK_XO cycles; the read position behind it, and how far that is from where it belongs, in units of
  2^-44 input periods (R148). -/
  inAt : Nat
  lag : Int
  phaseErr : Int
  /-- The ratio at which the bridge locked (R147). -/
  locked : Nat
deriving DecidableEq, Repr

/-- A bridge that is OFF. -/
def Brg.reset : Brg := { since := 0, gotInput := false, fifo := [], lastOut := [], inAt := 0, lag := 0, phaseErr := 0, locked := 0 }

/-- One analog input channel beyond its registers (R219, R224, R229). -/
structure Ain where
  /-- Inserted zeros still to come. -/
  zeros : Nat
  /-- Cells, inserted zeros among them, to the end of the latest window, and to the end of the window of a bias output (R230). -/
  win : Nat
  biasWin : Nat
  /-- BIAS_SEL in force. -/
  sel : Nat
  /-- The channel starts at the next frame boundary. -/
  begin_ : Bool
  /-- AUDIO of the last converted cell, and whether it carried C. -/
  last : Option Int
  lastC : Bool
  /-- The frame of the write whose gain step waits for a zero crossing. -/
  pend : Option Nat
deriving DecidableEq, Repr

/-- A channel that is OFF. -/
def Ain.reset : Ain :=
  { zeros := 0, win := 0, biasWin := 0, sel := 0, begin_ := false, last := none, lastC := false, pend := none }

/-- A handover in progress (R248 to R251). -/
structure Handover where
  /-- The ring whose HANDOVER command has not completed. -/
  ring : Option Nat
  lanes : List Nat
  size : Nat
  base : Nat
  ctrl : Nat
  /-- The next position to copy. -/
  next : Nat
  wcount : Nat
  /-- Positions of the seam that still carry S. -/
  seamLeft : Nat
deriving DecidableEq, Repr

/-- The wake engine beyond its registers (R239 to R255). -/
structure Wake where
  /-- Consecutive hops at or above THRESH, hop boundaries left of the refractory time and one more, and the position of the last hop
  scored. -/
  run : Nat
  refract : Nat
  lastHop : Nat
  /-- A detection has occurred since cold reset. -/
  detected : Bool
  /-- A detection waits for HO_AUTO. -/
  hoDue : Bool
  ho : Option Handover
  /-- OPTIME seconds at the engage of privacy mute. -/
  privAt : Nat
  /-- The first position written once bank 7 is released follows a gap, with its cause (R240, R254). -/
  gap : Option Nat
deriving DecidableEq, Repr

/-- The wake engine at a COLD reset. -/
def Wake.reset : Wake :=
  { run := 0, refract := 0, lastHop := 0, detected := false, hoDue := false, ho := none, privAt := 0, gap := none }

/-- Where a speaker channel stands in its start and stop sequences (R268, R269, R273). -/
inductive SpkPhase where
  /-- At rest. -/
  | idle
  /-- Start step 1: PVDD is out of range. -/
  | check
  /-- Start steps 2 and 3: relay and zero state. -/
  | zero
  /-- Start step 4. -/
  | load
  /-- Start step 5, the ramp. -/
  | ramp
  /-- Full gain. -/
  | play
  /-- Stop step 1, or the fold ramp. -/
  | stop
  /-- Stop step 2: leg currents fall. -/
  | rest
  /-- Stop step 3: RLY_T. -/
  | release
  /-- At high impedance until PVDD recovers. -/
  | trip
deriving DecidableEq, Repr

/-- One speaker channel beyond its registers. -/
structure Spk where
  phase : SpkPhase
  /-- EN asks for a start at the next boundary. -/
  startReq : Bool
  /-- The stop under way was caused by a fold: it ends FOLDED. -/
  folding : Bool
  /-- Frames of RLY_T still to pass before the zero state, or before the stop's end. -/
  wait : Nat
  /-- Frames at rest: the leg currents have not fallen (R271). -/
  age : Nat
  /-- The held fields as the last start took them (R272): RLY_EN, LOAD_CHK, IMP_WIN. -/
  rly : Bool
  loadChk : Bool
  impWin : Nat
  /-- Position of the stage-3 ramp and of the mute ramp, in frames. -/
  rampPos : Nat
  mutePos : Nat
  /-- Scale before a change, and frames of its ramp left (stage 4). -/
  fsFrom : Nat
  fsLeft : Nat
  /-- Sag reduction in 1/1536 dB, coil reduction in 1/96000 dB. -/
  sag : Nat
  coil : Nat
  /-- Consecutive limited carrier periods. -/
  limRun : Nat
  /-- The frame of a latch whose retry is pending. -/
  retryAt : Option Nat
  /-- Frames played at full gain. -/
  played : Nat
  /-- The pilot window in progress is spoilt (R282), and the frames of it that have gone by. -/
  dirty : Bool
  winPos : Nat
  /-- A tweeter check runs, and for how many CK_PWM cycles so far (R286). -/
  tweet : Bool
  tweetAt : Nat
  /-- CK_PWM cycles of the pilot tone, and of the load-check pulse, so far (R270, R281). -/
  pilotAt : Nat
  loadAt : Nat
  /-- Position of the fold ramp of stage 10, in frames. -/
  foldLeft : Nat
  /-- The carrier offset has reached its stagger (R264). -/
  settled : Bool
  /-- The values leaving stage 7, newest first, in units of 2^-32 of 1/8 V, and those without the gain of stage 5 (R274). -/
  hist : List Int
  demand : List Int
  /-- The targets of the loop in the carrier periods of the frame that begins, in µV (stage 11). -/
  out : List Int
deriving DecidableEq, Repr

/-- A speaker channel at reset. -/
def Spk.reset : Spk :=
  { phase := .idle, startReq := false, folding := false, wait := 0, rly := false, loadChk := false, impWin := 0, rampPos := 0
    mutePos := 0, fsFrom := 0, fsLeft := 0, sag := 0, coil := 0, limRun := 0, retryAt := none, played := 0, dirty := false
    winPos := 0, tweet := false, tweetAt := 0, pilotAt := 0, loadAt := 0, foldLeft := 0, settled := false, age := 0, hist := []
    demand := [], out := [] }

/-- The carrier of the speaker stages (R262 to R264). -/
structure Carrier where
  /-- Carrier periods, modulo a sweep of 160, the period in force, and the CK_PWM cycles from the frame boundary to the next one. -/
  count : Nat
  period : Nat
  next : Nat
  /-- The periods that start in this frame: their start in CK_PWM cycles, and their length. -/
  starts : List (Nat × Nat)
  /-- The channels that are staggered, as a mask. -/
  ranked : Nat
deriving DecidableEq, Repr

/-- The carrier at a reset. -/
def Carrier.reset : Carrier := { count := 0, period := 128, next := 0, starts := [], ranked := 0 }

/-- One headphone channel beyond its registers (R294 to R297). -/
structure Hpo where
  /-- EN asks for a start at the next boundary. -/
  startReq : Bool
  folding : Bool
  /-- MODE as the last start took it. -/
  mode : Nat
  /-- The start ramp runs, or full gain is reached. -/
  ramping : Bool
  /-- Positions of the stage-6, stage-5 and stage-7 ramps, in 384 kHz samples. -/
  rampPos : Nat
  mutePos : Nat
  foldLeft : Nat
  /-- Volume in 1/6 gain code, and the amplitude ramp of a move to or from MUTE, in 384 kHz samples. -/
  vol : Int
  volAmp : Nat
  /-- Consecutive frames limited, frames played since the ramp, the frame of the latch. -/
  limRun : Nat
  played : Nat
  latchAt : Nat
  /-- The values leaving stage 1, newest first, in units of 2^-32. -/
  hist : List Int
  /-- The samples that the driver plays in this frame, in µV (R295). -/
  out : List Int
deriving DecidableEq, Repr

/-- A headphone channel at reset. -/
def Hpo.reset : Hpo :=
  { startReq := false, folding := false, mode := 0, ramping := false, rampPos := 0, mutePos := 0, foldLeft := 0, vol := -46080, volAmp := 0
    limRun := 0, played := 0, latchAt := 0, hist := [], out := [] }

/-- One jack detector beyond its registers (R300 to R306). -/
structure Jack where
  /-- The level of JDn. -/
  level : Bool
  /-- BIAS and POL as the present insertion took them. -/
  bias : Nat
  pol : Bool
  /-- A removal is being debounced. -/
  removing : Bool
  /-- The jack mute holds its outputs; its 1 ms form runs. -/
  mute : Bool
  fast : Bool
  /-- Samples until the bias has ramped, the samples of this attempt, and the attempts made. -/
  settle : Nat
  samples : List Nat
  attempts : Nat
  /-- The seat time has ended in sleep: the identification follows the wake (R307). -/
  seated : Bool
  /-- Decoded button (`none`: no button), the candidate, how long it has held, and how long the button was held. -/
  btn : Option Nat
  cand : Option Nat
  count : Nat
  heldMs : Nat
deriving DecidableEq, Repr

/-- A jack detector at reset: the pull-up holds JDn high. -/
def Jack.reset : Jack :=
  { level := true, bias := 0, pol := false, removing := false, mute := false, fast := false, settle := 0, samples := [], attempts := 0, seated := false
    btn := none, cand := none, count := 0, heldMs := 0 }

/-- What a DEAL_RSP pair reports of an address (R327, R334). -/
structure DealRsp where
  pos : Nat
  tail : Bool
  idLo : Nat
  idHi : Nat
  /-- Words received, one bit each. -/
  got : Nat
deriving DecidableEq, Repr

/-- The chain interface beyond its registers. A satellite keeps its one tunnel partner, the head, under key 0. -/
structure Chain where
  /-- Sequenced units that wait for room in the replay buffer, and those sent and not acknowledged (R335). -/
  sendq : SMap (List TunUnit)
  replay : SMap (List TunUnit)
  /-- The next SEQ to send, and the next to accept. -/
  txSeq : SMap Nat
  rxSeq : SMap Nat
  /-- Units of this unit that leave in the next frames. -/
  outbox : List TunUnit
  /-- The control fields that left upstream and downstream in the last frame (R317). -/
  ctlUp : List Nat
  ctlDn : List Nat
  /-- Units for other units on their way through, with true for upstream (R332). -/
  relay : List (Bool × TunUnit)
  /-- The frame of the last ACK advance or, before one, of the first send. -/
  ackFrame : SMap Nat
  /-- The head's access in progress: unit, SEQ, 1 for a read, frame of GO (R339). -/
  access : Option (Nat × Nat × Nat × Nat)
  /-- Words of a completion and of an event received so far, by unit. -/
  cplWord : SMap Nat
  evWord : SMap (List Nat)
  /-- On a satellite, ring and SEQ of commands that came through the tunnel. -/
  remote : List (Nat × Nat)
  /-- On the head, completions of proxy rings that wait for space: ring and words. -/
  cplWait : List (Nat × Nat × Nat)
  /-- Events to forward (R341). -/
  fwdOut : List Ev
  /-- A deal is to start at the next frame, with FORCE; one is under way; its start frame and its answers. -/
  dealReq : Option Bool
  dealing : Bool
  dealForce : Bool
  dealFrame : Nat
  dealSeq : Nat
  rsps : SMap DealRsp
  /-- The address of an earlier deal since the last cold reset (R328). -/
  held : Option Nat
  /-- The DEAL_SEQ this satellite has answered. -/
  seenDeal : Option Nat
  /-- SAP_S, START_UNITS and LOAD_S as the control field carries them (R318). -/
  sapS : Option Nat
  sapUnits : Nat
  loadS : Option Nat
  /-- Control CRC results of the last 64 frames of a port, newest first, and consecutive missing frames (R322). -/
  crcBad : SMap (List Bool)
  missing : SMap Nat
  /-- The frame in which a port left UP, plus 1 (R331). -/
  downAt : SMap Nat
  /-- The frame in which a port found its hop too long (R321 step 4). -/
  rangeAt : SMap Nat
  /-- The upstream link, on the head the downstream link, has been UP since the last cold or warm reset (R324, R327). -/
  wasUp : Bool
  /-- A satellite waits for RESTART (R337); its resets since COLD, the depth of the last, the frame of the last report. -/
  restart : Bool
  resets : Nat
  depth : Nat
  rptFrame : Option Nat
  /-- On the head, the last report acknowledged for a unit, plus 1, with no deal since (R337). -/
  lastRpt : SMap Nat
deriving DecidableEq, Repr

/-- The chain interface at a COLD reset. -/
def Chain.reset : Chain :=
  { sendq := [], replay := [], txSeq := [], rxSeq := [], outbox := [], ctlUp := [], ctlDn := [], relay := [], ackFrame := [], access := none
    cplWord := [], evWord := [], remote := [], cplWait := [], fwdOut := [], dealReq := none, dealing := false, dealForce := false
    dealFrame := 0, dealSeq := 0, rsps := [], held := none, seenDeal := none, sapS := none, sapUnits := 0, loadS := none
    crcBad := [], missing := [], downAt := [], rangeAt := [], wasUp := false, restart := false, resets := 0, depth := 0, rptFrame := none
    lastRpt := [] }

/-- A region test in progress (R421): its region, and the ring of its BANK_TEST. -/
structure Test where
  region : Nat
  ring : Option Nat
deriving DecidableEq, Repr


/-- A calibration that runs or waits (R476, R479, R488): the ring of its CALIBRATE (`none`: the background calibration), whether
TARGET is ALL, the targets left, and the trims of the targets already installed. -/
structure CalRun where
  ring : Option Nat
  all : Bool
  todo : List Nat
  saved : List (Nat × Nat × Nat × Nat)
deriving DecidableEq, Repr

/-- The register fields that reset to something other than the field table's value: rings 0, 1, 2 and 63 (R352, R380). -/
def resetRegs : SMap Nat :=
  [(0x380C0002, 0x1),
   (0x380C0003, 0x2),
   (0x380C0007, 0x1FC00),
   (0x380C0018, 0x1),
   (0x380C0600, 0x1),
   (0x380C0800, 0x1),
   (0x380C0802, 0x1),
   (0x380C0803, 0x2),
   (0x380C0807, 0x1FC40),
   (0x380C0E00, 0x1),
   (0x380C1000, 0x2),
   (0x380C1002, 0x1),
   (0x380C1003, 0x4),
   (0x380C1007, 0x1FD00),
   (0x380C1600, 0x1),
   (0x380DF800, 0x2),
   (0x380DF802, 0x1),
   (0x380DF803, 0x4),
   (0x380DF807, 0x1FE00),
   (0x380DFE00, 0x1)]

/-- The state of the block. -/
structure State where
  /-- The commands that wait, first in, first out. -/
  pending : List Instr
  /-- Register fields by key; an unlisted field holds its reset value. -/
  regs : SMap Nat
  /-- The bytes of configuration memory, the banks and tile state RAM at their device addresses (R529); an unlisted byte reads 0. -/
  mem : List Host.Cell
  /-- Error marks of memory words, by word address: 1 correctable, 2 uncorrectable (R49). -/
  ecc : SMap Nat
  /-- Words with a corrected copy waiting to be written back: 1 one that a read corrected (R49), 2 one that the scrub corrected (R475). -/
  wb : SMap Nat
  /-- Largest value of a peak field since the last snapshot (R388). -/
  peaks : SMap Nat
  /-- The model's own counter of free values taken. -/
  fresh : Nat
  /-- The chain frame number (R5). -/
  frame : Nat
  /-- Ticks of domain A begun since reset. -/
  tickA : Nat
  /-- Ticks of domain B begun since reset. -/
  tickB : Nat
  /-- Ticks of domain C begun since reset. -/
  tickC : Nat
  /-- The always-on event buffer: local events not yet in a ring (R357, R378). -/
  evq : List Ev
  /-- Forwarded events not yet in a ring (R341). -/
  fwdq : List Ev
  /-- Codes of the events of this frame (R361). -/
  occ : List Nat
  /-- The tiles. -/
  tiles : SMap Tile
  /-- Switch grants by 256 * shelf + lane: 1 + 8 * tile + output, 0 for none (R57). -/
  lanes : SMap Nat
  /-- The shelves' parameter queues (R72). -/
  paramq : SMap (List ParamEntry)
  /-- The cell of each EDGE_IN as it stood at its domain's last tick, by 1024 × domain + INDEX (R110). -/
  edgeIn : SMap Word
  /-- The cell each EDGE_IN completed last, by INDEX. -/
  edgeNew : SMap Word
  /-- What the last pass delivered to each EDGE_OUT for its domain's next tick, by 1024 × domain + INDEX (R110). -/
  edgeNext : SMap Word
  /-- The cell each EDGE_OUT took at its domain's last tick, by INDEX (R110). -/
  edgeOut : SMap Word
  /-- Exchange cells that domains B and C have swapped since the last frame boundary, as they stood at it (R110). -/
  xpre : SMap Word
  /-- The low-latency sum of each headphone output in the frame that ended, at 384 kHz in units of 2^-32 (R127). -/
  lowSum : SMap (List Int)
  /-- Exchange cells written since their last swap, by index from 0x1_E000 (R103). -/
  xback : SMap Word
  /-- The crosspoints (R106). -/
  xps : SMap Xp
  /-- Crosspoint store entries with an uncorrectable error (R114, R124). -/
  xpEcc : SMap Nat
  /-- What the command processor keeps of each ring. -/
  rings : SMap Ring
  /-- The annals engine. -/
  annals : Annals
  /-- The bytes of the nonvolatile store (R493); an unlisted byte reads 0. -/
  nvs : List Host.Cell
  /-- The role read from CHAIN_HEAD (R2). -/
  isHead : Bool
  /-- Regions queued for a curator test: bank and region (R413, R422). -/
  testq : List (Nat × Nat)
  /-- A full load of this unit is between its teardown step and its start step (R170, R534). -/
  loadAll : Bool
  /-- The shelf a partial load has stopped and not yet started (R178, R534). -/
  loadShelf : Option Nat
  /-- On a satellite, completions to be carried to the head: ring and words (R340). -/
  cplOut : List (Nat × Nat × Nat)
  /-- COEF_GROUPs between their commit point and their flip, in the order of their commit points (R96, R98). -/
  groups : List Group
  /-- The frame in which domain B's last tick began. -/
  frB : Nat
  /-- The frame in which domain C's last tick began. -/
  frC : Nat
  /-- The serial audio ports. -/
  ports : SMap Port
  /-- The IEC 60958 interface. -/
  spd : Spd
  /-- The rate bridges. -/
  brgs : SMap Brg
  /-- The frame in which domain B entered HOLDOVER (R137). -/
  holdSince : Nat
  /-- SRC INTERNAL has been written: domain B is FREE from its next strobe (R137). -/
  dombFree : Bool
  /-- By monitor, the frame of its last entry to STOPPED (R143). -/
  monStop : SMap Nat
  /-- By monitor, the tracked rate in 1/16 Hz (R143). -/
  monRate : SMap Nat
  /-- Strobes of the present slew of domain C, and after it (R140). -/
  slewTotal : Nat
  /-- Its initial offset in CK_XO cycles. -/
  slewOffset : Int
  /-- The rate at which domain B is held, in 1/16 Hz (R136, R137). -/
  heldB : Nat
  /-- The analog input channels. -/
  ains : SMap Ain
  /-- Bit k: bias output k is ramping (R220). -/
  biasRamp : Nat
  /-- By bias output, the cells left of the window of its ramp (R229). -/
  biasLeft : SMap Nat
  /-- Bit m: high-quality decimator m is off since a FABRIC or WARM reset (R227). -/
  hqOff : Nat
  /-- Bit c: privacy mute was released and PDM clock c has not restarted since (R255). -/
  micMute : Nat
  /-- Settling cells left of each high-quality decimator (R229). -/
  hqWin : SMap Nat
  /-- Settling cells left of each low-power decimator (R229). -/
  lpWin : SMap Nat
  /-- Domain-C ticks begun when MIC_PWR switched on last (R237). -/
  micAt : Nat
  /-- The wake engine. -/
  wake : Wake
  /-- The carrier of the speaker stages (R262 to R264). -/
  carrier : Carrier
  /-- The speaker channels. -/
  spks : SMap Spk
  /-- The shared thermal reduction in 1/1000 dB (R279). -/
  thermRed : Nat
  /-- The wake source that has asserted first, by CAUSE (R445). -/
  wakeReq : Option Nat
  /-- Bit k: a jack's detector drives bias k on (R303, R304). -/
  detBias : Nat
  /-- The headphone channels. -/
  hpos : SMap Hpo
  /-- The jack detectors. -/
  jacks : SMap Jack
  /-- The chain interface. -/
  chain : Chain
  /-- The bytes the target sent last on the host bus, the first one first (R387, R397). -/
  busOut : List Nat
  /-- Where a read without an address phase continues (R384). -/
  busAddr : Nat
  /-- The host transaction in progress began while every address was in reach (R393). -/
  busAwake : Bool
  /-- A snapshot whose eighth byte has not been sent: its address and the word (R387, R388). -/
  busSnap : Option (Nat × Nat)
  /-- A forwarded FATAL is a cause of the unanswered source FWD (R397). -/
  fwdFatal : Bool
  /-- The rings whose command waits for or uses the auxiliary bus, in the order of their start (R399). -/
  auxq : List Nat
  /-- State, logical index and use (0 system, 1 journal, 2 ring, 3 spare or retired) of each NVS sector that is not as shipped (R493, R510). -/
  sectors : SMap (Nat × Nat × Nat)
  /-- The sequence number of the NVS system image (R494). -/
  sysSeq : Nat
  /-- The newest slot of the time log (R505, R506). -/
  tlog : TimeLog
  /-- The clear key counts as unset (R495). -/
  keyUnset : Bool
  /-- The region test in progress in each bank (R421, R422). -/
  tests : SMap Test
  /-- Rings whose BANK_TEST waits for its bank, in the order of their start (R422). -/
  bankWait : List Nat
  /-- The spare that holds a row, 1 to 8, by 2048 * bank + row (R423). -/
  repairs : SMap Nat
  /-- Banks retired, as the NVS records them (R424). -/
  retired : Nat
  /-- The sleep-entry count in the canary of each bank that retained its contents (R417). -/
  canary : SMap Nat
  /-- A full load of this unit mutes the transmit slots, from its mute step to its start step (R170, R195). -/
  loadMute : Bool
  /-- The frame in which the fold in force began (R527). -/
  foldAt : Nat
  /-- The frame in which THERMAL was set (R527). -/
  thermAt : Nat
  /-- Frames since the last valid kick (R522). -/
  wdtCount : Nat
  /-- A WARM reset is due once the keeper reads FOLDED (R522). -/
  wdtReset : Bool
  /-- A reset in progress: depth, cause, and whether it has been applied (R459). -/
  rst : Option (Nat × Nat × Bool)
  /-- The level change in progress (R434, R435). -/
  plTo : Option Nat
  /-- The level request that waits (R437). -/
  plWait : Option Nat
  /-- VCORE_PG missed PG_TO, and VSEL is back at the level in force (R434). -/
  plLate : Bool
  /-- MIN_PL of the image of a CODEX_LOAD in progress that selects this unit, else 0 (R433). -/
  loadMin : Nat
  /-- The frame in which IDLE was entered. -/
  idleAt : Nat
  /-- In DORMANT the multiplier runs for a host transaction (R394). -/
  dormBus : Bool
  /-- The next word the curator scrubs in each bank (R473). -/
  scrubBank : SMap Nat
  /-- The channels the scan in progress has still to convert (R486). -/
  hkaScan : List Nat
  /-- Channels queued by HKA_CMD.CONV, in order (R486). -/
  hkaConv : List Nat
  /-- The conversion in progress came from HKA_CMD.CONV (R486). -/
  hkaQueued : Bool
  /-- The calibration in progress, first, and those that wait (R476, R479, R488). -/
  cals : List CalRun
  /-- The die temperatures at the last HKA calibration, sensor 0 first (R479). -/
  calTemps : List Nat
  /-- Cycles of each bank the curator has held in the present window (R470). -/
  curUsed : SMap Nat
  /-- Bit b: CAP has stopped the curator in bank b in the present window (R471). -/
  curHalt : Nat
  /-- Clipped frames since the last output telemetry: 0 to 3 speaker, 4 to 7 headphone channels (R482). -/
  clips : SMap Nat
  /-- Telemetry events not yet in their ring (R481). -/
  telq : List (Nat × Ev)
  /-- A run of telemetry drops is under way (R481). -/
  telRun : Bool
  /-- The conversion in progress is tied to TACH (R485). -/
  hkaLock : Bool
  /-- The most recent TACH period in µs (R485). -/
  tachLast : Option Nat
  /-- The last valid TACH period (R485). -/
  tachGood : Option Nat
  /-- The loss of the TACH period has been posted (R485). -/
  tachLost : Bool
  /-- Bit c: the supply of channel c was out of its band at its last result (R487). -/
  hkaOut : Nat
  /-- The bytes of the codex flash, slot B from 0x400000 (R156); an unlisted byte reads 0xFF. -/
  flash : List Host.Cell
  /-- The load in progress. -/
  load : Option Load
  /-- The head's lend streams, by unit. -/
  lends : SMap Lend
  /-- The lend chunk of the frame sent last: header and stream words (R342). -/
  lendOut : Option (Nat × List Nat)
  /-- The stream words a satellite has received for itself. -/
  lendIn : List Nat
  /-- Chunks for other units that wait for the downstream hop (R342). -/
  lendRelay : List (Nat × List Nat)
  /-- The satellites that the head is to tell of the end of their load, and whether it was cancelled (R170, R173). -/
  lendEnds : List (Nat × Bool)
  /-- The units whose streams this satellite has paused (R343). -/
  lendHeld : List Nat
  /-- What this satellite has told the head of its lend in the present frame (R343). -/
  lendMsgs : List LendMsg
  /-- The slot the boot selected (R167, R168). -/
  bootSlot : Option Nat
  /-- The frame of the core release (R468). -/
  bootAt : Nat
  /-- Ports stay stopped from a full load's teardown to a start step (R559). -/
  portHold : Bool
  /-- The cells that the chain transmit slots carried in the last frame, 128 per port. -/
  chainSlots : SMap Word
  /-- The position of the chain transmit slots' mute ramp (R170). -/
  chainRamp : Nat
deriving DecidableEq, Repr

/-- The machine right after a COLD reset is applied, with no command waiting (R460, R461). -/
def State.reset : State :=
  { pending := []
    regs := resetRegs
    mem := []
    ecc := []
    wb := []
    peaks := []
    fresh := 0
    frame := 0
    tickA := 0
    tickB := 0
    tickC := 0
    evq := []
    fwdq := []
    occ := []
    tiles := []
    lanes := []
    paramq := []
    edgeIn := []
    edgeNew := []
    edgeNext := []
    edgeOut := []
    xpre := []
    lowSum := []
    xback := []
    xps := []
    xpEcc := []
    rings := []
    annals := Annals.reset
    nvs := []
    isHead := false
    testq := []
    loadAll := false
    loadShelf := none
    cplOut := []
    groups := []
    frB := 0
    frC := 0
    ports := []
    spd := Spd.reset
    brgs := []
    holdSince := 0
    dombFree := false
    monStop := []
    monRate := []
    slewTotal := 0
    slewOffset := 0
    heldB := 0
    ains := []
    biasRamp := 0
    biasLeft := []
    hqOff := 0
    micMute := 0
    hqWin := []
    lpWin := []
    micAt := 0
    wake := Wake.reset
    carrier := Carrier.reset
    spks := []
    thermRed := 0
    wakeReq := none
    detBias := 0
    hpos := []
    jacks := []
    chain := Chain.reset
    busOut := []
    busAddr := 0
    busAwake := false
    busSnap := none
    fwdFatal := false
    auxq := []
    sectors := []
    sysSeq := 0
    tlog := { slot := 0, seq := 0, opSec := 0, pcyc := 0, tq := 0, bound := 0 }
    keyUnset := false
    tests := []
    bankWait := []
    repairs := []
    retired := 0
    canary := []
    loadMute := false
    foldAt := 0
    thermAt := 0
    wdtCount := 0
    wdtReset := false
    rst := none
    plTo := none
    plWait := none
    plLate := false
    loadMin := 0
    idleAt := 0
    dormBus := false
    scrubBank := []
    hkaScan := []
    hkaConv := []
    hkaQueued := false
    cals := []
    calTemps := []
    curUsed := []
    curHalt := 0
    clips := []
    telq := []
    telRun := false
    hkaLock := false
    tachLast := none
    tachGood := none
    tachLost := false
    hkaOut := 0
    flash := []
    load := none
    lends := []
    lendOut := none
    lendIn := []
    lendRelay := []
    lendEnds := []
    lendHeld := []
    lendMsgs := []
    bootSlot := none
    bootAt := 0
    portHold := false
    chainSlots := []
    chainRamp := 0 }

end Sys2Proof.Machine
end

