-- ==== Sys2Proof/Machine/Ops.lean ====
section
/-! DEFINITION. The named operations over the state: register fields, memory words with their error marks, the banks as
their requesters see them, events, annals entries and alerts. Every meaning is written with these. -/

namespace Sys2Proof.Machine

/-- What a step answers. -/
abbrev Result := Host.Outcome State Fault Refusal

/-! ### Register fields -/

/-- The row of the register table that holds device address `a` (R532). -/
def rowAt (a : Nat) : Option RegRow :=
  regTable.find? (fun r =>
    if r.stride = 0 then a == r.addr
    else decide (r.addr ≤ a) && decide (a < r.addr + r.stride * r.count) && (a - r.addr) % r.stride == 0)

/-- The register at `a` as it would hold the image `v`: reserved bits hold nothing (R560). -/
def regImage (a v : Nat) : Nat :=
  match rowAt a with
  | some r => r.flds.foldl (fun w f => w + 2 ^ f.lo * bits v f.lo f.width) 0
  | none => 0

/-- The key of a field in `State.regs`. -/
def Fld.key (f : Fld) : Nat := f.addr * 64 + f.lo

/-- The value of a field; a field that nothing has written reads as its reset value. -/
def State.get (s : State) (f : Fld) : Nat := mapGet f.rst s.regs (Fld.key f)

/-- The state with `v` in the field `f`, reduced to the field's width. -/
def State.put (s : State) (f : Fld) (v : Nat) : State :=
  { s with regs := mapSet f.rst s.regs (Fld.key f) (v % 2 ^ f.width) }

/-- The field reads 1. -/
def State.on (s : State) (f : Fld) : Bool := s.get f == 1

/-- The field counts up by `n` and saturates. -/
def State.bumpBy (s : State) (f : Fld) (n : Nat) : State := s.put f (satNat f.width (s.get f + n))

/-- The field counts up by one and saturates. -/
def State.bump (s : State) (f : Fld) : State := s.bumpBy f 1

/-- Bit `i` of the field is set. -/
def State.setBit (s : State) (f : Fld) (i : Nat) : State := s.put f (setBitN (s.get f) i)

/-- Bit `i` of the field is cleared. -/
def State.clrBit (s : State) (f : Fld) (i : Nat) : State := s.put f (clrBitN (s.get f) i)

/-- Bit `i` of the field. -/
def State.bit (s : State) (f : Fld) (i : Nat) : Bool := bitOf (s.get f) i

/-- A peak field takes `v` if it is larger, and so does the peak since the last snapshot (R388). -/
def State.peak (s : State) (f : Fld) (v : Nat) : State :=
  let v := satNat f.width v
  let s := s.put f (max (s.get f) v)
  { s with peaks := mapSet 0 s.peaks (Fld.key f) (max (mapGet 0 s.peaks (Fld.key f)) v) }

/-- A free value: the model's counter moves on, and the value is `Config.freeWord` of the old count. -/
def State.free (s : State) : Word × State := (Config.freeWord s.fresh, { s with fresh := s.fresh + 1 })

/-! ### Memory words -/

/-- The byte at device address `a`. -/
def State.memByte (s : State) (a : Nat) : Byte := mapGet 0 s.mem a

/-- The memory with byte `v` at `a`, in canonical form. -/
def State.memPutByte (s : State) (a : Nat) (v : Byte) : State := { s with mem := mapSet 0 s.mem a v }

/-- The little-endian value of the `n` bytes of `m` from `a`. -/
def cellsRead (d : Byte) (m : List Host.Cell) (a : Nat) : Nat → Nat
  | 0 => 0
  | n + 1 => (mapGet d m a).toNat + 256 * cellsRead d m (a + 1) n

/-- `m` with the `n` little-endian bytes of `v` from `a`. -/
def cellsWrite (d : Byte) (m : List Host.Cell) (a v : Nat) : Nat → List Host.Cell
  | 0 => m
  | n + 1 => cellsWrite d (mapSet d m a (BitVec.ofNat 8 v)) (a + 1) (v / 256) n

/-- The 64-bit word at device address `a`, a multiple of 8. -/
def State.memWord (s : State) (a : Nat) : Word := BitVec.ofNat 64 (cellsRead 0 s.mem a 8)

/-- A whole-word write at `a`: it replaces an uncorrectable word and cancels a waiting write-back, which counts where the
write-back is the curator's (R49, R413, R475). -/
def State.memPut (s : State) (a : Nat) (v : Word) : State :=
  let s := if mapGet 0 s.wb (a / 8) = 2 then s.bump CUR_CNT_WB_CANCEL else s
  { s with mem := cellsWrite 0 s.mem a v.toNat 8, ecc := mapErase s.ecc (a / 8), wb := mapErase s.wb (a / 8) }

/-- What a read finds of a word's error marks. -/
def State.mark (s : State) (a : Nat) : Nat := mapGet 0 s.ecc (a / 8)

/-- A corrected word waits to be written back: `k` 1 by the memory's own port, 2 by the curator (R49, R413, R475). -/
def State.queueWb (s : State) (a k : Nat) : State := { s with wb := mapSet 0 s.wb (a / 8) k }

/-- The write-back of a corrected word lands: the word is clean; without a waiting copy nothing happens (R49, R475). -/
def State.landWb (s : State) (a k : Nat) : State :=
  if mapGet 0 s.wb (a / 8) = k then
    { s with wb := mapErase s.wb (a / 8), ecc := if mapGet 0 s.ecc (a / 8) = 1 then mapErase s.ecc (a / 8) else s.ecc }
  else s

/-- The device address of tile `t`'s frame word at offset `o` (R45). -/
def frameAddr (t o : Nat) : Nat := t * 0x1000 + o

/-- The device address of cell `i` of tile `t`'s state RAM (R45). -/
def ramAddr (t i : Nat) : Nat := 0xC00000 + t * 0x800 + (i % 256) * 8

/-- The device address of word `w` of bank `b` (R531). -/
def bankAddr (b w : Nat) : Nat := 0x400000 + b * 0x100000 + 8 * w

/-- The NVS word at byte `a`. -/
def State.nvsWord (s : State) (a : Nat) : Nat := cellsRead 0 s.nvs a 8

/-- The NVS with word `v` at byte `a`. -/
def State.nvsPut (s : State) (a v : Nat) : State := { s with nvs := cellsWrite 0 s.nvs a v 8 }

/-! ### Sample cells -/

/-- A cell from its AUDIO field, TAG and flags (R16). -/
def mkCell (audio : Int) (tag flags : Nat) : Word :=
  BitVec.ofNat 64 (fromSigned 40 audio * 2 ^ 24 + (tag % 65536) * 256 + flags % 256)

/-- AUDIO of a cell (R17). -/
def audioOf (c : Word) : Int := toSigned 40 (c.toNat >>> 24)
/-- TAG of a cell. -/
def tagOf (c : Word) : Nat := bits c.toNat 8 16
/-- The flags of a cell. -/
def flagsOf (c : Word) : Nat := c.toNat % 256

/-- Flag bits of a cell (R16). -/
def flagV : Nat := 0x01
/-- S: settling. -/
def flagS : Nat := 0x02
/-- P: repeat fill. -/
def flagP : Nat := 0x04
/-- M: muted by rule. -/
def flagM : Nat := 0x08
/-- C: clipped or limited. -/
def flagC : Nat := 0x10
/-- Z: no source. -/
def flagZ : Nat := 0x20
/-- X: interpolated while not locked. -/
def flagX : Nat := 0x40
/-- E: uncorrected error. -/
def flagE : Nat := 0x80

/-- The cell with further flags. -/
def orFlags (c : Word) (f : Nat) : Word := c ||| BitVec.ofNat 64 (f % 256)

/-- The low 16 bits of the chain frame number: the tag of a cell produced in this frame (R21). -/
def State.tag (s : State) : Nat := s.frame % 65536

/-- An inserted zero (R24). -/
def State.zeroCell (s : State) : Word := mkCell 0 s.tag flagZ

/-- The cell delivered in place of a damaged word (R24). -/
def State.errCell (s : State) : Word := mkCell 0 s.tag flagE

/-- A repeat fill of `c` produced in frame tag `tag` (R27); `none` is a stream without a previous cell (R24). -/
def repeatFill (tag : Nat) : Option Word → Word
  | some c => mkCell (audioOf c) tag (flagsOf c ||| flagP)
  | none => mkCell 0 tag (flagZ ||| flagP)

/-- A value saturated to the audio field, with C if it saturated (R20). -/
def satAudio (v : Int) : Int × Nat :=
  let w := satSigned 40 v
  (w, if w = v then 0 else flagC)

/-- `v / 2^n`, rounded half up if `rnd`, else truncated towards negative infinity. -/
def shiftRound (rnd : Bool) (v : Int) (n : Nat) : Int :=
  if n = 0 then v else (v + (if rnd then (2 ^ (n - 1) : Nat) else (0 : Nat))) / ((2 ^ n : Nat) : Int)

/-- Narrowing to an N-bit word (R19): the code, and whether it saturated. -/
def narrow (n : Nat) (audio : Int) : Nat × Bool :=
  let v := if n < 33 then shiftRound true audio (33 - n) else audio
  let w := satSigned n v
  (fromSigned n w, decide (w ≠ v))

/-- Widening of an N-bit word (R18). -/
def widen (n w : Nat) : Int := toSigned n w * (2 ^ (33 - n) : Nat)

/-! ### Events, annals and alerts -/

/-- Payload fields packed from bit 0 on, each with its width (R560). -/
def pack : List (Nat × Nat) → Nat
  | [] => 0
  | (w, v) :: r => v % 2 ^ w + 2 ^ w * pack r

/-- A 16-bit payload field. -/
def p16 (v : Nat) : Nat × Nat := (16, v)
/-- A 32-bit payload field. -/
def p32 (v : Nat) : Nat × Nat := (32, v)
/-- A signed 16-bit payload field. -/
def p16i (v : Int) : Nat × Nat := (16, fromSigned 16 v)
/-- A signed 32-bit payload field. -/
def p32i (v : Int) : Nat × Nat := (32, fromSigned 32 v)

/-- Severity INFO. -/
def sevInfo : Nat := 0
/-- Severity WARN. -/
def sevWarn : Nat := 1
/-- Severity FAULT. -/
def sevFault : Nat := 2
/-- Severity FATAL. -/
def sevFatal : Nat := 3

/-- The gate of a block's events, and whether it gates every severity or only INFO and WARN. A block without a
gate of its own posts always. -/
def blockGate : Nat → Option (Fld × Bool)
  | 0x00 => some (SYS_CTL_EVT_EN, false)
  | 0x01 => some (PWR_CTL_EVT_EN, false)
  | 0x02 => some (CLK_MON_CFG_EVT_EN, true)
  | 0x05 => some (SAP_CTL_EVT_EN, true)
  | 0x06 => some (SPD_CTL_EVT_EN, true)
  | 0x07 => some (AIN_CTL_EVT_EN, true)
  | 0x08 => some (WAKE_CTL_EVT_EN, true)
  | 0x09 => some (HPO_CTL_EVT_EN, false)
  | 0x0A => some (SPK_CTL_EVT_EN, false)
  | 0x0B => some (HKA_CTL_EVT_EN, false)
  | 0x0C => some (DET_CTL_EVT_EN, true)
  | 0x0D => some (CHN_CTL_EVT_EN, false)
  | 0x0E => some (TWB_CTL_EVT_EN, false)
  | 0x0F => some (MEM_CTL_EVT_EN, false)
  | 0x10 => some (NVS_CTL_EVT_EN, false)
  | 0x11 => some (CUR_CTL_EVT_EN, false)
  | 0x12 => some (BRG_CTL_EVT_EN, true)
  | 0x13 => some (KEEP_CTL_EVT_EN, false)
  | _ => none

/-- The block's gate admits an event of severity `sev` to the rings. -/
def State.gateOpen (s : State) (code sev : Nat) : Bool :=
  match blockGate (code / 256) with
  | some (f, everySev) => s.on f || (!everySev && decide (2 ≤ sev))
  | none => true

/-- The annals engine's storage, with NVS_STAT.BUF_LEVEL following the buffer. -/
def State.setAnnals (s : State) (a : Annals) : State :=
  { s.put NVS_STAT_BUF_LEVEL a.buf.length with annals := a }

/-- A flush trigger (R500): it is deferred while frozen (R502) or while a flush runs (R512). -/
def State.triggerFlush (s : State) : State :=
  if s.on NVS_STAT_FROZEN || s.on NVS_STAT_FLUSHING then
    { s with annals := { s.annals with flushReq := true } }
  else s.put NVS_STAT_FLUSHING 1

/-- A new entry in the form that NVS_CTL.TSEL chooses (R496, R503). -/
def State.newEntry (s : State) (code sev payload : Nat) : Entry :=
  let cal := s.on NVS_CTL_TSEL
  let tq := if cal then s.get NVS_TIMEQ_CAL_TQ else s.get NVS_TIMEQ_OP_TQ
  { code := code, sev := sev, tsel := cal, tq := tq, rep := 0
    bound := if tq = 1 then (if cal then s.get NVS_TIMEQ_CAL_BOUND else s.get NVS_TIMEQ_OP_BOUND) else 0
    time := if cal then s.get NVS_CALTIME_CAL_SEC else s.get NVS_OPTIME_OP_SEC + 2 ^ 32 * s.get NVS_OPTIME_PCYC
    payload := payload % 2 ^ 128 }

/-- An entry in its place: by frame of occurrence, and within a frame by source block (R498); NVS_CLEARED stays the first entry
of the cleared ring (R508). -/
def insertEntry (fe : Nat × Entry) : List (Nat × Entry) → List (Nat × Entry)
  | [] => [fe]
  | x :: r =>
    if x.1 = fe.1 ∧ fe.2.code / 256 < x.2.code / 256 ∧ x.2.code ≠ 0x1001 then fe :: x :: r else x :: insertEntry fe r

/-- The last element's REPEAT counts up. -/
def bumpLast : List (Nat × Entry) → List (Nat × Entry)
  | [] => []
  | [(f, e)] => [(f, { e with rep := satNat 16 (e.rep + 1) })]
  | x :: r => x :: bumpLast r

/-- The same code and payload (R499). -/
def Entry.same (e : Entry) (code payload : Nat) : Bool := e.code == code && e.payload == payload % 2 ^ 128

/-- The annals record an occurrence (R497 to R502). -/
def State.record (s : State) (code sev payload : Nat) : State :=
  let a := s.annals
  match a.buf.getLast?, a.lastFlushed with
  | some (_, e), _ =>
    if e.same code payload then (s.setAnnals { a with buf := bumpLast a.buf }).bump NVS_CNT_REPEATS
    else if 255 ≤ a.buf.length && (s.on NVS_STAT_FROZEN || s.on NVS_STAT_READ_ONLY || decide (256 ≤ a.buf.length)) then
      ((s.setAnnals { a with drops := a.drops + 1, dropLast := s.frame
                             dropFirst := if a.drops = 0 then s.frame else a.dropFirst }).bump NVS_CNT_DROPPED).put NVS_SUM_LOST 1
    else
      let s := s.setAnnals { a with buf := insertEntry (s.frame, s.newEntry code sev payload) a.buf }
      if 2 ≤ sev || 192 ≤ s.annals.buf.length then s.triggerFlush else s
  | none, some (_, e) =>
    if e.same code payload then
      (s.setAnnals { a with lastFlushed := a.lastFlushed.map (fun x => (x.1, { x.2 with rep := satNat 16 (x.2.rep + 1) })),
                            rewrite := true }).bump NVS_CNT_REPEATS
    else
      let s := s.setAnnals { a with buf := [(s.frame, s.newEntry code sev payload)] }
      if 2 ≤ sev then s.triggerFlush else s
  | none, none =>
    let s := s.setAnnals { a with buf := [(s.frame, s.newEntry code sev payload)] }
    if 2 ≤ sev then s.triggerFlush else s

/-- An alert source bit is set and its answered mark cleared; nothing while TWB_ALERT_CFG.EN is 0 (R395, R396). -/
def State.alert (s : State) (src : Nat) : State :=
  if s.on TWB_ALERT_CFG_EN then (s.setBit TWB_ALERT_STAT_SRC src).clrBit TWB_STAT_ANSWERED src else s

/-- ALERT_N is driven low (R396): the level of the ball, true for high. -/
def State.alertN (s : State) : Bool :=
  (List.range 5).all (fun i => !(s.bit TWB_ALERT_STAT_SRC i && !s.bit TWB_STAT_ANSWERED i))

/-- An event occurs (R361, R395, R497): the annals, the alerts and the waiting rings see it whatever gate posts it, and a satellite
forwards it (R341). -/
def State.occur (s : State) (code sev payload : Nat) : State :=
  let s := { s with occ := s.occ ++ [code] }
  let s := if !s.isHead && s.gateOpen code sev && s.on CHN_CTL_FWD_EN && decide (s.get CHN_CTL_FWD_SEV ≤ sev) then
      { s with chain := { s.chain with fwdOut := s.chain.fwdOut ++ [{ code := code, sev := sev, unit := 0, fwd := true
                                                                      frame := s.frame, orig := s.frame
                                                                      payload := payload % 2 ^ 128 }] } }
    else s
  let s := if s.get NVS_CTL_MIN_SEV ≤ sev then s.record code sev payload else s
  let s := if sev = 3 then s.alert 0 else s
  if s.on TWB_ALERT_CFG_SEV_EN && decide (s.get TWB_ALERT_CFG_SEV ≤ sev) then s.alert 1 else s

/-- An event of the unit occurs, and the event buffer takes it if the block's gate and MIN_SEV admit it (R355, R356). -/
def State.post (s : State) (code sev payload : Nat) : State :=
  if code / 256 = 0x13 ∧ ¬ s.gateOpen code sev then s
  else
    let s := if s.gateOpen code sev && decide (s.get RING_EVT_CFG_MIN_SEV ≤ sev) then
        { s with evq := s.evq ++ [{ code := code, sev := sev, unit := 0, fwd := false, frame := s.frame
                                    orig := s.frame, payload := payload % 2 ^ 128 }] }
      else s
    s.occur code sev payload

/-- An event that the annals record whatever NVS_CTL.MIN_SEV says, because its own rule records it. -/
def State.postRec (s : State) (code sev payload : Nat) : State :=
  let s := s.post code sev payload
  if sev < s.get NVS_CTL_MIN_SEV then s.record code sev payload else s

/-! ### The banks as their requesters see them -/

/-- A read of bank `b` is uncorrectable (R413): counters, MEM_ECC_LAST and MEM_UE, and the region is queued for a test. -/
def State.memUe (s : State) (b w cls : Nat) : State :=
  let s := s.bump (MEM_ECC_CNT_UNCORR b)
  let s := ((s.put (MEM_ECC_LAST_WORD b) w).put (MEM_ECC_LAST_CLASS b) cls).put (MEM_ECC_LAST_VALID b) 1
  let s := (s.put MEM_SUM_UE 1).post 0x0F01 sevWarn (pack [p16 b, p32 w, p16 cls])
  { s with testq := s.testq ++ [(b, w / 64)] }

/-- A read of bank `b` was corrected (R413). -/
def State.memCorrected (s : State) (b w : Nat) : State :=
  let s := (s.bump (MEM_ECC_CNT_CORRECTED b)).queueWb (bankAddr b w) 2
  { s with testq := s.testq ++ [(b, w / 64)] }

/-- The bank has been released (R418): READY or LOST. -/
def State.bankUp (s : State) (b : Nat) : Bool :=
  s.get (MEM_BANK_STAT_STATE b) == 2 || s.get (MEM_BANK_STAT_STATE b) == 3

/-- The bank is retired (R424). -/
def State.bankRetired (s : State) (b : Nat) : Bool := s.get (MEM_BANK_STAT_STATE b) == 4

/-- A word read of a released bank with its ECC outcome: the word, and whether it is uncorrectable (R103, R413). Only the scrub,
class 4, reads the back copies of exchange cells (R105). -/
def State.bankWord (s : State) (cls b w : Nat) : (Word × Bool) × State :=
  if b = 5 ∧ 0x1C000 ≤ w ∧ w < 0x1E000 ∧ cls ≠ 4 then ((0, false), s)
  else
    let a := bankAddr b w
    if s.mark a = 2 then ((s.memWord a, true), s.memUe b w cls)
    else if s.mark a = 1 then ((s.memWord a, false), s.memCorrected b w)
    else ((s.memWord a, false), s)

/-- A tile's read of a bank word: the cell that R24, R419, R420 and R424 deliver. Every tile reaches every bank, whichever shelf owns it
(DESIGN CHOICE, log 54). -/
def State.bankTileRead (s : State) (b w : Nat) : Word × State :=
  if ¬ s.bankUp b then (s.zeroCell, s)
  else if s.bit MEM_LOST_SUM_LOST b then (s.zeroCell, s)
  else
    let r := s.bankWord 0 b w
    (if r.1.2 then s.errCell else r.1.1, r.2)

/-- A read by the command processor (class 2) or the host window (class 3): a retired bank reads 0 and, to a command, is an
error (R424). -/
def State.bankCmdRead (s : State) (cls b w : Nat) : (Word × Bool) × State :=
  if s.bankRetired b then ((0, true), s) else s.bankWord cls b w

/-- Exchange cell `i` is the sink of at least one crosspoint (R104). -/
def State.xchSink (s : State) (i : Nat) : Bool :=
  s.xps.any (fun kx =>
    let hit := fun (d : Option (Nat × Nat)) => match d with
      | some (w0, _) => bits w0 37 3 == 3 && bits w0 20 17 == 0x1E000 + i
      | none => false
    hit kx.2.desc || hit kx.2.old)

/-- A write of a bank word by a tile, the host or an engine: discarded in a retired or unreleased bank (R419, R424), without
effect in the back-copy words, and to the back copy of an exchange cell that no crosspoint feeds (R103, R104). A write
into the model region takes the wake model out of use (R243). -/
def State.bankWrite (s : State) (b w : Nat) (v : Word) : State :=
  if ¬ s.bankUp b then s
  else if b = 5 ∧ 0x1C000 ≤ w ∧ w < 0x1E000 then s
  else if b = 5 ∧ 0x1E000 ≤ w then
    if s.xchSink (w - 0x1E000) then s
    else
      let back := bankAddr 5 (w - 0x2000) / 8
      { s with xback := mapInsert s.xback (w - 0x1E000) v, ecc := mapErase s.ecc back, wb := mapErase s.wb back }
  else if b = 7 ∧ 256000 * (s.get WAKE_ARCH_CFG_LANES + 1) ≤ 8 * w then
    (s.memPut (bankAddr b w) v).put WAKE_MODEL_STAT_STATE 0
  else s.memPut (bankAddr b w) v

/-- The tile, as hidden state. -/
def State.tile (s : State) (t : Nat) : Tile := mapGet Tile.reset s.tiles t
/-- The state with tile `t` replaced. -/
def State.setTile (s : State) (t : Nat) (x : Tile) : State := { s with tiles := mapSet Tile.reset s.tiles t x }
/-- The crosspoint. -/
def State.xp (s : State) (x : Nat) : Xp := mapGet Xp.reset s.xps x
/-- The state with crosspoint `x` replaced. -/
def State.setXp (s : State) (x : Nat) (v : Xp) : State := { s with xps := mapSet Xp.reset s.xps x v }
/-- What the command processor keeps of ring `r`. -/
def State.ring (s : State) (r : Nat) : Ring := mapGet Ring.reset s.rings r
/-- The state with ring `r`'s storage replaced. -/
def State.setRing (s : State) (r : Nat) (v : Ring) : State := { s with rings := mapSet Ring.reset s.rings r v }

/-- The domain-A rate is 96 kHz. -/
def State.rate96 (s : State) : Bool := s.on CLK_DOMA_STAT_RATE

/-- The nominal rate in Hz of a domain-B rate code (R153). -/
def rateHz (c : Nat) : Nat := match c with | 0 => 32000 | 1 => 44100 | 2 => 48000 | 3 => 88200 | 4 => 96000 | _ => 0

/-- DOMB_MAXRATE in Hz, the domain-B rate the codex declares for budgets and reservations (R52, R111, R134). -/
def State.maxRateB (s : State) : Nat := rateHz (s.get CLK_DOMB_STAT_MAXRATE)

/-- The nominal domain-B rate in Hz. -/
def State.rateB (s : State) : Nat := rateHz (s.get CLK_DOMB_STAT_RATE)

/-- A full load of this unit has passed its step 1 (R181). -/
def State.fullLoad (s : State) : Bool := match s.load with
  | some l => l.kind == 0 && (l.ring.isNone || bitOf l.units 0)
  | none => false

/-- The shelf under a partial load of this unit (R95, R181). -/
def State.partLoad (s : State) : Option Nat := match s.load with
  | some l => if l.kind = 1 ∧ bitOf l.units 0 then some l.shelf else none
  | none => none

/-- The target of the calibration in progress (R476). -/
def State.calTarget (s : State) : Option Nat := (s.cals.head?).bind (fun c => c.todo.head?)

/-- Target `t` is under CALIBRATE: a start of its channel waits (R488). -/
def State.calibrating (s : State) (t : Nat) : Bool := s.calTarget == some t

/-- Frames in one second. -/
def State.framesPerSec (s : State) : Nat := if s.rate96 then 96000 else 48000

/-- Frames in `ms` milliseconds. -/
def State.framesOfMs (s : State) (ms : Nat) : Nat := ms * (if s.rate96 then 96 else 48)

/-- The unit is ACTIVE, IDLE or ENTERING: its clocked blocks run (R440, R442). -/
def State.awake (s : State) : Bool := decide (s.get PWR_STAT_STATE ≤ 1) || s.get PWR_STAT_STATE == 4

/-- A wake source asserts in a state in which it can wake the unit, or during an entry; the first one is kept (R445, R447). -/
def State.wakeBy (s : State) (cause : Nat) : State :=
  let st := s.get PWR_STAT_STATE
  let ok : Bool := match cause with
    | 1 => st != 3
    | 3 => st == 3 || st == 4
    | 6 => decide (2 ≤ st)
    | _ => true
  if ok && decide (1 ≤ st) && decide (st ≤ 4) && s.wakeReq.isNone then { s with wakeReq := some cause } else s

end Sys2Proof.Machine
end

