-- ==== Sys2Proof/Machine/MicroOp.lean ====
section
/-! DEFINITION. Microinstructions: their fields and encoding (R65), the legality of an encoding (R68, R84) and the costs of the
opcode table (R66). -/

namespace Sys2Proof.Machine

/-- A microinstruction's fields (R65). -/
structure Micro where
  opc : BitVec 6
  dst : BitVec 6
  srca : BitVec 6
  srcb : BitVec 6
  cond : BitVec 3
  acs : BitVec 1
  mod : BitVec 4
  imm : BitVec 32
deriving DecidableEq, Repr

/-- The fields of a microinstruction word (R65). -/
def decodeMicro (w : Word) : Micro :=
  { opc := w.extractLsb' 58 6, dst := w.extractLsb' 52 6, srca := w.extractLsb' 46 6, srcb := w.extractLsb' 40 6
    cond := w.extractLsb' 37 3, acs := w.extractLsb' 36 1, mod := w.extractLsb' 32 4, imm := w.extractLsb' 0 32 }

/-- The word of a microinstruction (R65). -/
def encodeMicro (m : Micro) : Word :=
  m.opc ++ m.dst ++ m.srca ++ m.srcb ++ m.cond ++ m.acs ++ m.mod ++ m.imm

/-- The immediate as a number. -/
def Micro.i (m : Micro) : Nat := m.imm.toNat
/-- Rounds half up instead of truncating. -/
def Micro.rnd (m : Micro) : Bool := m.mod.getLsbD 0
/-- LDB and STB add LC to the address. -/
def Micro.bidx (m : Micro) : Bool := m.mod.getLsbD 1
/-- The shift s of SHL and ACRD: IMM[5:0], signed. -/
def Micro.shift (m : Micro) : Int := toSigned 6 m.i

/-- The opcodes of R66. -/
def opcodes : List Nat :=
  [0x00, 0x01, 0x02, 0x03, 0x04, 0x05, 0x06, 0x07, 0x08, 0x09, 0x0A, 0x0B, 0x0C, 0x0D, 0x10, 0x11, 0x12, 0x13, 0x14, 0x15,
   0x16, 0x18, 0x19, 0x1A, 0x1B, 0x1C, 0x1D, 0x1E, 0x1F, 0x20, 0x21, 0x22, 0x23]

/-- The opcode's operation names DST (R66, R68). -/
def usesDst (o : Nat) : Bool := [0x02, 0x03, 0x04, 0x05, 0x06, 0x07, 0x08, 0x09, 0x0A, 0x0B, 0x15, 0x18, 0x1B, 0x1D, 0x22].contains o
/-- The opcode's operation names SRCA. -/
def usesA (o : Nat) : Bool :=
  [0x02, 0x03, 0x05, 0x06, 0x07, 0x08, 0x09, 0x0A, 0x0B, 0x0C, 0x0D, 0x10, 0x11, 0x12, 0x13, 0x16, 0x19, 0x1C, 0x1D, 0x1F, 0x22].contains o
/-- The opcode's operation names SRCB. -/
def usesB (o : Nat) : Bool := [0x05, 0x06, 0x08, 0x09, 0x0D, 0x10, 0x11, 0x12, 0x22].contains o

/-- The operand code may be read (R65). -/
def readable (c : Nat) : Bool := c ≤ 0x31
/-- The operand code may be written (R65). -/
def writable (c : Nat) : Bool := c ≤ 0x0F || (0x18 ≤ c && c ≤ 0x1F) || c == 0x31

/-- A SEC whose fields R84 makes illegal. -/
def secIllegal (m : Micro) : Bool :=
  let first := bits m.i 0 6
  let count := bits m.i 6 6
  count == 0 || decide (51 < first + count) || bits m.i 14 2 == 3 || bits m.i 13 1 == 1 || bits m.i 16 16 != 0 ||
  m.dst.toNat != 0x31 || m.srcb.toNat != 0x31

/-- The illegal instructions of R68 and R84. -/
def Micro.illegal (m : Micro) : Bool :=
  let o := m.opc.toNat
  !(opcodes.contains o) ||
  (usesDst o && !writable m.dst.toNat) || (usesA o && !readable m.srca.toNat) || (usesB o && !readable m.srcb.toNat) ||
  (o == 0x20 && decide (191 < bits m.i 0 8)) || (m.cond.toNat == 7 && o != 0x20) || bits m.mod.toNat 2 2 != 0 ||
  (o == 0x22 && secIllegal m)

/-- The cycles of an executed instruction, without waits, stalls and a taken jump's second cycle (R66). -/
def Micro.cost (m : Micro) : Nat :=
  match m.opc.toNat with
  | 0x1B => 2
  | 0x1C => 2
  | 0x1D => 8
  | 0x1E => bits m.i 0 8 + 4
  | 0x1F => bits m.i 0 8 + 4
  | _ => 1

/-- The vector length N (R66). -/
def Micro.vlen (m : Micro) : Nat := bits m.i 0 8 + 1

end Sys2Proof.Machine
end

