-- ==== Sys2Proof/Machine/Flags.lean ====
section
/-! DEFINITION. Conditions and status flags of the tile program (R65, R66), and the flags and tags of the cells its
instructions produce (R20 to R32, R64, R67). -/

namespace Sys2Proof.Machine

/-- The condition of an instruction other than a taken-jump test (R65). -/
def condHolds (x : Tile) (c : Nat) : Bool :=
  match c with
  | 0 => true
  | 1 => x.zf
  | 2 => !x.zf
  | 3 => x.nf
  | 4 => !x.nf
  | 5 => x.t
  | 6 => !x.t
  | _ => decide (x.lc ≠ 0)

/-- ZF and NF from the AUDIO field of a result (R65). -/
def setZN (x : Tile) (audio : Int) : Tile := { x with zf := decide (audio = 0), nf := decide (audio < 0) }

/-- A result cell of an arithmetic instruction: saturated, C if it saturated, the ORed flags, the tick's tag (R20, R21, R64, R67). -/
def aluCell (x : Tile) (v : Int) (flags : Nat) : Word :=
  let r := satAudio v
  mkCell r.1 x.tickFrame (flags ||| r.2)

/-- The flags an instruction may clear: S, P, X and C (R30). -/
def clearable : Nat := flagS ||| flagP ||| flagX ||| flagC

/-- An accumulator value saturated to 96 bits, and C if it saturated (R67). -/
def satAcc (v : Int) : Int × Nat :=
  let w := satSigned 96 v
  (w, if w = v then 0 else flagC)

/-- The value of accumulator `a`. -/
def Tile.acc (x : Tile) (a : Nat) : Int := if a = 0 then x.acc0 else x.acc1
/-- The flags of accumulator `a`. -/
def Tile.accF (x : Tile) (a : Nat) : Nat := if a = 0 then x.accF0 else x.accF1
/-- Accumulator `a` takes a value and flags, saturating (R67). -/
def Tile.setAcc (x : Tile) (a : Nat) (v : Int) (f : Nat) : Tile :=
  let r := satAcc v
  if a = 0 then { x with acc0 := r.1, accF0 := (f ||| r.2) % 256 } else { x with acc1 := r.1, accF1 := (f ||| r.2) % 256 }
/-- A multiply into accumulator `a` issued in RUN cycle `c` (R62). -/
def Tile.noteMul (x : Tile) (a c : Nat) : Tile := if a = 0 then { x with mul0 := c } else { x with mul1 := c }
/-- The cycle of the last multiply into accumulator `a`. -/
def Tile.mulAt (x : Tile) (a : Nat) : Nat := if a = 0 then x.mul0 else x.mul1

/-- The reciprocal of AUDIO `a` in units of 2^-32, with relative error below 2^-24, before saturation (R66). -/
def recipValue (a : Int) : Int :=
  let n := a.natAbs
  let q : Int := (2 ^ 64 / n : Nat)
  let lo : Int := ((2 ^ 64 - 2 ^ 40) / n + 1 : Nat)
  let hi : Int := ((2 ^ 64 + 2 ^ 40 - 1) / n : Nat)
  let v := max lo (min hi (q + Config.recipErr a))
  if a < 0 then -v else v

/-- RECIP's result (R66): the reciprocal, or the saturated value whose sign for 0 the spec leaves open. -/
def recipResult (a : Int) : Int :=
  if a = 0 then (if Config.recipZeroNeg then -(2 ^ 40 : Int) else 2 ^ 40) else recipValue a

/-! ### Arithmetic of the opcode table -/

/-- SRCA × 2^s with the modifier's rounding of dropped bits (R65, R66 SHL). -/
def shlValue (rnd : Bool) (a s : Int) : Int :=
  if 0 ≤ s then a * (2 ^ s.toNat : Nat) else shiftRound rnd a (-s).toNat

/-- The accumulator scaled by 2^s and reduced to 32 fraction bits (R66 ACRD). -/
def acrdValue (rnd : Bool) (acc s : Int) : Int := shiftRound rnd acc (32 - s).toNat

/-- SRCA × g(IMM) reduced to 32 fraction bits (R66 MULI). -/
def muliValue (rnd : Bool) (a : Int) (imm : Nat) : Int := shiftRound rnd (a * toSigned 32 imm) 24

/-- A product with 64 fraction bits (R66 MUL). -/
def mulValue (a b : Int) : Int := a * b

/-- SRCA × g(IMM) with 64 fraction bits (R66 MACI). -/
def maciValue (a : Int) (imm : Nat) : Int := a * toSigned 32 imm * 2 ^ 8

/-- SRCA × cell reduced to 32 fraction bits (R66 VLMS). -/
def vlmsValue (rnd : Bool) (a b : Int) : Int := shiftRound rnd (a * b) 32

end Sys2Proof.Machine
end

