-- ==== Sys2Proof/Machine/RingOps.lean ====
section
/-! DEFINITION. The ring engine's shared operations: pointers and storage, the command at a ring's HEAD, its checks,
its completion and the halt, and the writing of events (chapter Rings, Commands and Ordering). -/

namespace Sys2Proof.Machine

/-! ### Completion status codes (R15) -/

/-- Command finished. -/
def stOk : Nat := 0x00
/-- ABORT arrived after the commit point. -/
def stAlreadyDone : Nat := 0x01
/-- ABORT arrived before the commit point. -/
def stCancelled : Nat := 0x02
/-- The ring halted at an earlier command. -/
def stHalted : Nat := 0x03
/-- Malformed or out-of-range argument. -/
def stBadArg : Nat := 0x04
/-- A wait ran out of time. -/
def stTimeout : Nat := 0x05
/-- Uncorrectable memory error. -/
def stEcc : Nat := 0x06
/-- A resource is unavailable. -/
def stNoResource : Nat := 0x07
/-- Not allowed. -/
def stNotPermitted : Nat := 0x08
/-- The link to the unit is not up. -/
def stLinkDown : Nat := 0x09
/-- The archive's contents are lost. -/
def stArchiveLost : Nat := 0x0A
/-- The auxiliary bus stays low. -/
def stBusStuck : Nat := 0x0B
/-- Arbitration lost on a data bit. -/
def stArbLost : Nat := 0x0C
/-- Arbitration lost at a condition. -/
def stArbCondition : Nat := 0x0D

/-- A code that R15 defines; no completion or response carries another. -/
def stDefined (status : Nat) : Bool := decide (status ≤ stArbCondition)

/-! ### Pointers and storage -/

/-- Words a ring holds (R349). -/
def State.ringSize (s : State) (r : Nat) : Nat := 2 ^ (s.get (RING_CFG_SIZE r) + 4)

/-- The ring's level (R350). -/
def State.ringLevel (s : State) (r : Nat) : Nat :=
  (s.get (RING_TAIL_TAIL r) + 65536 - s.get (RING_HEAD_HEAD r)) % 65536

/-- The level a register read shows follows the pointers. -/
def State.showLevel (s : State) (r : Nat) : State := s.put (RING_STAT_LEVEL r) (s.ringLevel r)

/-- HEAD takes the count `v`. -/
def State.setHead (s : State) (r v : Nat) : State := (s.put (RING_HEAD_HEAD r) v).showLevel r

/-- TAIL takes the count `v`. -/
def State.setTail (s : State) (r v : Nat) : State := (s.put (RING_TAIL_TAIL r) v).showLevel r

/-- The bank-6 word of entry count `i` (R349). -/
def State.ringWord (s : State) (r i : Nat) : Nat := (s.get (RING_CFG_BASE r) + i % s.ringSize r) % 0x20000

/-- The ring is enabled with kind `k`. -/
def State.ringIs (s : State) (r k : Nat) : Bool := s.on (RING_CFG_EN r) && s.get (RING_CFG_KIND r) == k

/-- Bank-6 word `w` as a command reads it. -/
def State.read6 (s : State) (w : Nat) : (Word × Bool) × State := s.bankCmdRead 2 6 w

/-- Bank-6 word `w` without the effects of a read on the error counters. -/
def State.peek6 (s : State) (w : Nat) : Nat := (s.memWord (bankAddr 6 w)).toNat

/-- Bank-6 words from `w` on, with whether any is uncorrectable. -/
def State.read6s (s : State) (w : Nat) : Nat → (List Nat × Bool) × State
  | 0 => (([], false), s)
  | n + 1 =>
    let r := s.read6 w
    let q := r.2.read6s (w + 1) n
    ((r.1.1.toNat :: q.1.1, r.1.2 || q.1.2), q.2)

/-- Words `l` written to bank 6 from word `w` on. -/
def State.write6 (s : State) (w : Nat) : List Nat → State
  | [] => s
  | v :: l => (s.bankWrite 6 w (BitVec.ofNat 64 v)).write6 (w + 1) l

/-- The producer's words go to the ring at TAIL, wrapping, and TAIL moves past them (R349, R350). -/
def State.ringPush (s : State) (r : Nat) : List Nat → State
  | [] => s
  | v :: l =>
    let tl := s.get (RING_TAIL_TAIL r)
    ((s.bankWrite 6 (s.ringWord r tl) (BitVec.ofNat 64 v)).setTail r (tl + 1)).ringPush r l

/-! ### Commands -/

/-- Commands that TAIL now covers become ready and take their sequence numbers (R353). -/
def State.makeReady (s : State) (r : Nat) : Nat → State
  | 0 => s
  | fuel + 1 =>
    let q := s.ring r
    let have_ := (s.get (RING_TAIL_TAIL r) + 65536 - q.ready) % 65536
    let nw := bits (s.peek6 (s.ringWord r q.ready)) 8 3 + 1
    if have_ = 0 ∨ have_ < nw then s
    else ((s.setRing r { q with ready := (q.ready + nw) % 65536 }).put (RING_STAT_NEXT_SEQ r)
            (s.get (RING_STAT_NEXT_SEQ r) + 1)).makeReady r fuel

/-- The sequence number of the command whose turn it is: the failing one's under RETRY. -/
def State.headSeq (s : State) (r : Nat) : Nat :=
  match (s.ring r).retrySeq with
  | some q => q
  | none => (s.ring r).doneSeq

/-- A WAIT POWER for STANDBY or DORMANT is in execution on ring 0 and has not ended: no command starts (R441). -/
def State.holdStarts (s : State) : Bool :=
  match (s.ring 0).exec with
  | some e => (e.words.headD 0) % 256 == 0x01 && bits (e.words.headD 0) 16 2 == 2 && decide (2 ≤ e.mask)
  | none => false

/-- Ring `r` may start the command at HEAD (R359, R364): a local, enabled COMMAND ring, not halted or waiting for
completion space, nothing in execution, and a ready command at HEAD. -/
def State.canStart (s : State) (r : Nat) : Bool :=
  s.ringIs r 0 && s.get (RING_CFG_UNIT r) == 0 && s.bankUp 6 && !s.holdStarts &&
  (s.get (RING_STAT_STATE r) == 1 || s.get (RING_STAT_STATE r) == 2) &&
  (s.ring r).exec.isNone && (s.ring r).waiting.isNone &&
  ((s.ring r).retrySeq.isSome || (s.ring r).ready != s.get (RING_HEAD_HEAD r))

/-- The words of the command at HEAD, by count, without the effects of a read. -/
def State.headWords (s : State) (r : Nat) : List Nat :=
  let h := s.get (RING_HEAD_HEAD r)
  let nw := bits (s.peek6 (s.ringWord r h)) 8 3 + 1
  (List.range nw).map (fun i => s.peek6 (s.ringWord r (h + i)))

/-- Any word of the command at HEAD is uncorrectable, or bank 6 is retired (R413, R424). -/
def State.headBad (s : State) (r : Nat) : Bool :=
  let h := s.get (RING_HEAD_HEAD r)
  (List.range (s.headWords r).length).any (fun i => s.mark (bankAddr 6 (s.ringWord r (h + i))) == 2)

/-- Word counts and argument bits of each opcode (R360): the words allowed, and the mask of argument bits per word. -/
def cmdShape : Nat → Option (List Nat × List Nat)
  | 0x00 => some ([1], [0])
  | 0x01 => some ([2], [0x0000FFFF00030000, 0xFFFFFFFF])
  | 0x02 => some ([2], [0x0000FFFF00000000, 0xFFFFFFFFFFFFFFFF])
  | 0x03 => some ([1], [0x0000FFFF003F0000])
  | 0x04 => some ([1], [0])
  | 0x05 => some ([2, 3, 4, 5, 6, 7, 8], [0xF3FF0000])
  | 0x06 => some ([2], [0x001FFFF001FF0000, 0xFFFFFFFF])
  | 0x07 => some ([2, 4, 6, 8], [0x001FFFF007FF0000, 0x3FFFFFFFFFFFFFFF])
  | 0x08 => some ([2], [0x0000FFFF01FF0000, 0xFFFFFFFF])
  | 0x09 => some ([2], [0x0000FFFF00010000, 0xFFFFFFFF])
  | 0x0A => some ([1], [0x0FFF0000])
  | 0x0B => some ([1], [0x00010000])
  | 0x0C => some ([2], [0x001FFFF03FFF0000, 0x3FFFFF])
  | 0x0D => some ([1], [0x00030000])
  | 0x0E => some ([1], [0x00FF0000])
  | 0x0F => some ([1], [0x000007FF00070000])
  | 0x10 => some ([2], [0x0007FFFF1FFF0000, 0x1FFFF])
  | 0x11 => some ([2], [0x0007FFFF1FFF0000, 0x1FFFF])
  | 0x12 => some ([1], [0])
  | 0x13 => some ([1], [0x00010000])
  | 0x14 => some ([2], [0, 0xFFFFFFFFFFFFFFFF])
  | 0x15 => some ([3], [0, 0xFFFFFFFFFFFFFFFF, 0xFFFFFFFFFFFFFFFF])
  | 0x18 => some ([2], [0x0000FFFFFF7F0000, 0x1FFFF])
  | 0x19 => some ([1], [0])
  | 0x1A => some ([1], [0x00030000])
  | _ => none

/-- Word `i` of a command keeps its reserved bits 0; a word without a mask of its own carries a value. -/
def maskOk (masks : List Nat) (i w : Nat) : Bool :=
  match masks[i]? with
  | some m => (if i = 0 then (w / 2048 * 2048) &&& (m ^^^ 0xFFFFFFFFFFFFF800) else w &&& (m ^^^ 0xFFFFFFFFFFFFFFFF)) == 0
  | none => true

/-- The command's form is outside the table of R360: a reserved opcode, a word count outside the table or a
reserved bit set (R363). -/
def cmdMalformed (ws : List Nat) : Bool :=
  match ws with
  | [] => true
  | w0 :: _ =>
    match cmdShape (w0 % 256) with
    | none => true
    | some (ns, masks) => !(ns.contains ws.length) || !((ws.zipIdx).all (fun p => maskOk masks p.2 p.1))

/-- The two words of a completion (R354). -/
def cplWords (s : State) (r seq opc status result : Nat) (retried : Bool) : Nat × Nat :=
  (seq % 65536 + 2 ^ 16 * (opc % 256) + 2 ^ 24 * (status % 256) + 2 ^ 32 * (r % 64) + 2 ^ 42 * b2n retried,
   s.frame % 2 ^ 32 + 2 ^ 32 * (result % 2 ^ 32))

/-- The completion ring of ring `r`, a number of six bits (R352). -/
def State.cplRing (s : State) (r : Nat) : Nat := s.get (RING_CFG_CPL_RING r) % 64

/-- The completion ring of `r` cannot take an entry: it is full, or no enabled COMPLETION ring. -/
def State.cplFull (s : State) (r : Nat) : Bool :=
  let c := s.cplRing r
  !s.ringIs c 1 || decide (s.ringSize c < s.ringLevel c + 2)

/-- A status that halts the ring (R372); HALTED itself is posted by FLUSH alone, after which the ring reads IDLE (R373). -/
def halts (status : Nat) : Bool := !(status == stOk || status == stAlreadyDone || status == stCancelled || status == stHalted)

/-- What follows a posted completion: the ring moves on past the command, or halts at it (R372, R377). -/
def State.afterCpl (s : State) (r : Nat) (w : Nat × Nat) : State :=
  let w0 := w.1
  let seq := w0 % 65536
  let status := bits w0 24 8
  let h := s.get (RING_HEAD_HEAD r)
  let q := s.ring r
  let nw := if q.retrySeq.isSome then q.haltNw else bits (s.peek6 (s.ringWord r h)) 8 3 + 1
  let done := if q.retrySeq.isSome then q.doneSeq else (seq + 1) % 65536
  let s := s.setRing r { q with exec := none, waiting := none, retrySeq := none, doneSeq := done
                                marks := q.marks.filter (fun m => m != seq), haltNw := nw
                                hist := mapInsert q.hist seq status }
  let s := if s.isHead then s else { s with cplOut := s.cplOut ++ [(r, w.1, w.2)] }
  if halts status then
    (((s.put (RING_STAT_STATE r) 3).put (RING_STAT_HALT_SEQ r) seq).put (RING_STAT_HALT_STATUS r) status).post 0x0301 sevWarn
      (pack [p16 r, p16 seq, p16 status])
  else
    (s.setHead r ((h + nw) % 65536)).put (RING_STAT_STATE r) 1

/-- The command in execution on ring `r`, or at its HEAD, completes (R354, R359, R372). -/
def State.complete (s : State) (r seq opc status result : Nat) : State :=
  let retried := (s.ring r).retrySeq.isSome
  let w := cplWords s r seq opc status result retried
  if s.cplFull r then
    (s.setRing r { s.ring r with exec := none, waiting := some w }).put (RING_STAT_STATE r) 4
  else
    (s.ringPush (s.cplRing r) [w.1, w.2]).afterCpl r w

/-- The command in execution on ring `r` completes. -/
def State.finish (s : State) (r status result : Nat) : State :=
  match (s.ring r).exec with
  | some e => s.complete r e.seq ((e.words.headD 0) % 256) status result
  | none => s

/-- FLUSH (R373): every ready command posts HALTED, a marked one CANCELLED (R375), in SEQ order; then HEAD moves to TAIL and
the ring reads IDLE. Without completion space the flush waits (R359). -/
def State.flushRun (s : State) (r : Nat) : Nat → State
  | 0 => s
  | n + 1 =>
    let q := s.ring r
    if q.ready = s.get (RING_HEAD_HEAD r) then
      let tl := s.get (RING_TAIL_TAIL r)
      ((s.setRing r { q with ready := tl, flushing := false }).setHead r tl).put (RING_STAT_STATE r) 1
    else
      let st := if q.marks.contains q.doneSeq then stCancelled else stHalted
      let w := cplWords s r q.doneSeq ((s.headWords r).headD 0) st 0 false
      if s.cplFull r then (s.setRing r { q with waiting := some w, flushing := true }).put (RING_STAT_STATE r) 4
      else ((s.ringPush (s.cplRing r) [w.1, w.2]).afterCpl r w).flushRun r n

/-- A ring that waits for completion space gets it: the completion is written, with the frame in which it posts, and the ring goes on
(R354, R359). -/
def State.cplRelease (s : State) (r : Nat) : State :=
  match (s.ring r).waiting with
  | some w =>
    if s.cplFull r then s
    else
      let w := (w.1, s.frame % 2 ^ 32 + w.2 / 2 ^ 32 * 2 ^ 32)
      let s := (s.ringPush (s.cplRing r) [w.1, w.2]).afterCpl r w
      if (s.ring r).flushing then s.flushRun r 4097 else s
  | none => s

/-- Every ring whose completion waits tries again. -/
def State.cplReleaseAll (s : State) : State := (List.range 64).foldl State.cplRelease s

/-- The command now in execution on ring `r`, replaced. -/
def State.setExec (s : State) (r : Nat) (f : Exec → Exec) : State :=
  s.setRing r { s.ring r with exec := (s.ring r).exec.map f }

/-- The processor takes up the command at the HEAD of ring `r`. A reserved or malformed one completes BAD_ARG, a marked
one CANCELLED, one whose words are damaged ECC; a command of another opcode leaves the state; a command of opcode `opc`
starts and acts by `k`, which gets its sequence number and its words (R353, R363, R373, R375). -/
def State.command (s : State) (r opc : Nat) (sel : List Nat → Bool) (k : Nat → List Nat → State → State) : State :=
  if ¬ s.canStart r then s
  else
    let ws := s.headWords r
    let seq := s.headSeq r
    let o := ws.headD 0 % 256
    if (s.ring r).marks.contains seq then s.complete r seq o stCancelled 0
    else if s.headBad r then s.complete r seq o stEcc 0
    else if (s.ring r).retrySeq.isSome && ws.length != (s.ring r).haltNw then s.complete r seq o stBadArg 0
    else if cmdMalformed ws then s.complete r seq o stBadArg 0
    else if o ≠ opc ∨ ¬ sel ws then s
    else
      let e : Exec := { seq := seq, words := ws, retried := (s.ring r).retrySeq.isSome, committed := false
                        startFrame := s.frame, left := 0, result := 0, lost := false, mask := 0, snap := [] }
      k seq ws ((s.setRing r { s.ring r with exec := some e }).put (RING_STAT_STATE r) 2)

/-- The command in execution on ring `r` has opcode `opc`. -/
def State.executing (s : State) (r opc : Nat) : Bool :=
  match (s.ring r).exec with
  | some e => e.words.headD 0 % 256 == opc
  | none => false

/-- The rings whose command in execution has opcode `opc`. -/
def State.executors (s : State) (opc : Nat) : List Nat := (List.range 64).filter (fun r => s.executing r opc)

/-! ### Events into their ring -/

/-- The four words of an event (R355). -/
def evWords (e : Ev) : List Nat :=
  [e.code % 65536 + 2 ^ 16 * (e.sev % 4) + 2 ^ 18 * (e.unit % 16) + 2 ^ 22 * b2n e.fwd + 2 ^ 32 * (e.frame % 2 ^ 32),
   e.orig % 2 ^ 32, e.payload % 2 ^ 64, e.payload / 2 ^ 64 % 2 ^ 64]

/-- Free words of ring `r`. -/
def State.ringFree (s : State) (r : Nat) : Nat := s.ringSize r - s.ringLevel r

/-- The LOST marker, once space for two events is free (R358): an event of the ring block too, which the annals see (R379, R497). -/
def State.lostMarker (s : State) (r : Nat) : State :=
  let q := s.ring r
  if q.drops ≠ 0 ∧ 8 ≤ s.ringFree r then
    let m : Ev := { code := 0x0302, sev := sevWarn, unit := 0, fwd := false, frame := q.dropFirst, orig := q.dropFirst
                    payload := q.drops % 2 ^ 32 + 2 ^ 32 * (q.dropLast % 2 ^ 32) }
    ((s.ringPush r (evWords m)).setRing r { q with drops := 0 }).occur m.code m.sev m.payload
  else s

/-- One event goes into event ring `r`, or is dropped there (R358). -/
def State.writeEvent (s : State) (r : Nat) (e : Ev) : State :=
  let q := s.ring r
  if s.ringFree r ≤ 4 ∨ q.drops ≠ 0 then
    (s.setRing r { q with drops := q.drops + 1, dropLast := e.frame
                          dropFirst := if q.drops = 0 then e.frame else q.dropFirst }).setBit RING_LOST_SUM_LOST r
  else s.ringPush r (evWords e)

/-- The order of R357 within one frame: local events by block, then forwarded ones by unit and block. -/
def evBefore (a b : Ev) : Bool :=
  if a.unit ≠ b.unit then decide (a.unit < b.unit) else decide (a.code / 256 < b.code / 256)

/-- Stable insertion by `evBefore`, within the frame the events are collected in. -/
def insertEv (e : Ev) : List Ev → List Ev
  | [] => [e]
  | x :: r => if x.frame = e.frame ∧ evBefore e x then e :: x :: r else x :: insertEv e r

/-- Events in the order in which they are written (R357). -/
def orderEvs (l : List Ev) : List Ev := l.foldl (fun acc e => insertEv e acc) []

/-- The events `l` go into ring `r`, if it is an enabled EVENT ring; to no ring otherwise (R356). -/
def State.writeEvents (s : State) (r : Nat) (l : List Ev) : State :=
  if s.ringIs r 2 then (orderEvs l).foldl (fun s e => s.writeEvent r e) (s.lostMarker r) else s

end Sys2Proof.Machine
end

