-- ==== Sys2Proof/Machine/Operands.lean ====
section
/-! DEFINITION. The operand forms of a tile: its frame and state RAM with their error marks (R45 to R49), the address
registers (R47), the input descriptors (R54 to R60) and the operand codes (R65). -/

namespace Sys2Proof.Machine

/-- The tile is in state `st`: 0 EMPTY, 1 READY, 2 RUNNING, 3 STOPPED. -/
def State.tileState (s : State) (t : Nat) : Nat := s.get (FAB_TILE_STAT_STATE t)

/-- TILE_CFG.DOMAIN (R46). -/
def State.tileDomain (s : State) (t : Nat) : Nat := bits (s.memWord (frameAddr t 0xE00)).toNat 0 2

/-- TILE_CFG.OUTS (R46), at most 8. -/
def State.tileOuts (s : State) (t : Nat) : Nat := min 8 (bits (s.memWord (frameAddr t 0xE00)).toNat 2 4)

/-- Ticks of domain `d` begun so far. -/
def State.domTick (s : State) (d : Nat) : Nat := if d = 1 then s.tickA else if d = 2 then s.tickB else s.tickC

/-- The fabric clock in units of 1 kHz at the level in force (R52). -/
def State.fabKHz (s : State) : Nat := 24576 * 2 ^ s.get PWR_STAT_CUR_PL

/-- The tick budget of domain `d` at the level in force (R52). -/
def State.budgetOf (s : State) (d : Nat) : Nat :=
  if d = 1 then s.fabKHz / (if s.rate96 then 96 else 48) - 64
  else if d = 2 then s.fabKHz * 1000000 / (s.maxRateB * 1005) - 64
  else s.fabKHz * 1000 / 16032 - 64

/-- A load covers tile `t` now: its host and parameter writes are discarded (R170, R178, R534). -/
def State.loadCovers (s : State) (t : Nat) : Bool := s.loadAll || s.loadShelf == some (t / 64)

/-- One more corrected error seen by a tile, and the word queued for its write-back (R49). -/
def State.fabCorrected (s : State) (a : Nat) : State := (s.bump FAB_ECC_CNT_CORRECTED).queueWb a 1

/-- The tile reads the frame word at `a`: a corrected read is counted and queued for its write-back (R49). An uncorrectable
TILE_CFG, input or address-register descriptor is used as it stands; the spec names no report for it (DESIGN CHOICE, log 31). -/
def State.noteWord (s : State) (a : Nat) : State := if s.mark a = 1 then s.fabCorrected a else s

/-! ### The end of a tick that an error or an overrun cuts short -/

/-- Host writes to program words that waited for the end of the tick land (R71). -/
def State.landLate (s : State) (t : Nat) : State :=
  let x := s.tile t
  x.late.foldl (fun s p => s.memPut p.1 p.2) (s.setTile t { x with late := [] })

/-- The cells of a publication of `n` outputs from the OUT registers `m`. -/
def outCells (m : SMap Word) (n : Nat) : List Word := (List.range n).map (fun i => mapGet 0 m i)

/-- Repeat fills of the last committed outputs (R27, R69). -/
def fillCells (tag : Nat) (com : Option (SMap Word)) (n : Nat) : List Word :=
  (List.range n).map (fun i => repeatFill tag (com.map (fun m => mapGet 0 m i)))

/-- A publication goes to the shelf bus and the switch; the three newest are all that a reader can reach (R51, R55, R57). -/
def Tile.publish (x : Tile) (cells : List Word) : Tile :=
  { x with pubs := ({ tick := x.tickNo, cells := cells } :: x.pubs).take 4 }

/-- Steps 1 and 2 of R69: RUN stops, every output is published as a repeat fill, CURR waiters are released. The section
engine has finished the section in progress before this. -/
def State.cutTick (s : State) (t endCyc : Nat) : State :=
  let x := s.tile t
  let x := { x with ended := true, endCyc := endCyc, waitIn := none, out := x.com.getD [] }
  (s.setTile t (x.publish (fillCells s.tag x.com (s.tileOuts t)))).landLate t

/-- The tile becomes STOPPED with a reason and the PC at which it stopped (R70). -/
def State.stopTile (s : State) (t reason pc : Nat) : State :=
  let s := ((s.put (FAB_TILE_STAT_STATE t) 3).put (FAB_TILE_STAT_STOP_PC t) pc).put (FAB_TILE_STAT_STOP_REASON t) reason
  let s := s.setTile t { s.tile t with stopReq := false }
  if reason = 5 then s else s.post 0x0402 sevFault (pack [p16 t, p16 reason, p16 pc])

/-! ### Reading the tile's memories -/

/-- Cell `i` of the tile's state RAM: the cell delivered, and whether the read was uncorrectable (R49). -/
def State.readRam (s : State) (t i : Nat) : (Word × Bool) × State :=
  let a := ramAddr t i
  match s.mark a with
  | 2 => ((s.errCell, true),
          (s.bump FAB_ECC_CNT_STATE_UE).post 0x0403 sevWarn (pack [p16 t, p16 (i % 256)]))
  | 1 => ((s.memWord a, false), s.fabCorrected a)
  | _ => ((s.memWord a, false), s)

/-- An uncorrectable state-RAM read stops the tile (R49, FAB_CTL.STATE_ECC_STOP). -/
def State.ramStops (s : State) : Bool := s.on FAB_CTL_STATE_ECC_STOP

/-- BASE and LEN of address register `n` (R47). A LEN above 256, which only a direct write can leave, acts as 256 (DESIGN
CHOICE, log 30). -/
def State.areg (s : State) (t n : Nat) : Nat × Nat :=
  let w := (s.memWord (frameAddr t (0xE48 + 8 * (n % 4)))).toNat
  let len := bits w 8 9
  (bits w 0 8, if len = 0 ∨ 256 < len then 256 else len)

/-- The state-RAM cell that address register `n` gives for offset `o` (R47). -/
def State.aregCell (s : State) (t n o : Nat) : Nat :=
  let bl := s.areg t n
  (bl.1 + (mapGet 0 (s.tile t).ptr (n % 4) + o) % bl.2) % 256

/-- Parameter word `p` as the program reads it (R47, R49). -/
def State.readParam (s : State) (t p : Nat) : Word × State :=
  let a := frameAddr t (0xE80 + 8 * p)
  let x := s.tile t
  match s.mark a with
  | 2 => (s.errCell, s.post 0x0408 sevWarn (pack [p16 t, p16 p]))
  | 1 => (mkCell (audioOf (s.memWord a)) x.tickFrame 0, s.fabCorrected a)
  | _ => (mkCell (audioOf (s.memWord a)) x.tickFrame 0, s)

/-- The state-RAM access through address register `n` reads its descriptor word (R49). -/
def State.noteAreg (s : State) (t n : Nat) : State := s.noteWord (frameAddr t (0xE48 + 8 * (n % 4)))

/-- An operand read: IN, D and OUT registers keep their TAG, the others have the tick's (R22, R65). SR keeps the TAG of the tick
that ran the section, also where a later tick moves it out (DESIGN CHOICE, log 28). -/
def State.readOperand (s : State) (t c : Nat) : Word × State :=
  let x := s.tile t
  if c < 0x10 then (mapGet 0 x.d c, s)
  else if c < 0x18 then ((mapGet none x.inp (c - 0x10)).getD 0, s)
  else if c < 0x20 then (mapGet 0 x.out (c - 0x18), s)
  else if c < 0x30 then s.readParam t (c - 0x20)
  else if c = 0x30 then (x.sr, s)
  else (mkCell 0 x.tickFrame 0, s)

/-- An operand write: D or OUT; ZERO discards (R65). -/
def Tile.writeOperand (x : Tile) (c : Nat) (v : Word) : Tile :=
  if c < 0x10 then { x with d := mapSet 0 x.d c v }
  else if 0x18 ≤ c ∧ c < 0x20 then { x with out := mapSet 0 x.out (c - 0x18) v }
  else x

/-- The CURR input that operand code `c` still waits for (R55). -/
def Tile.pendingIn (x : Tile) (c : Nat) : Option Nat :=
  if 0x10 ≤ c ∧ c < 0x18 ∧ mapGet none x.inp (c - 0x10) = none then some (c - 0x10) else none

/-- The CURR input a legal instruction waits for, if any. -/
def Tile.waitsFor (x : Tile) (m : Micro) : Option Nat :=
  let o := m.opc.toNat
  match (if usesA o then x.pendingIn m.srca.toNat else none) with
  | some n => some n
  | none => if usesB o then x.pendingIn m.srcb.toNat else none

/-- The instruction waits for the section engine: it reads SR, or is SECW, SEC or END, while a run is in progress (R62, R86, R87). -/
def Tile.waitsEngine (x : Tile) (m : Micro) : Bool :=
  let o := m.opc.toNat
  x.run.isSome && (o == 0x01 || o == 0x22 || o == 0x23 || (usesA o && m.srca.toNat == 0x30) || (usesB o && m.srcb.toNat == 0x30))

/-- The instruction completes no earlier than the cycle after the last run's end (R86, R87). -/
def Tile.afterEngine (x : Tile) (m : Micro) : Nat :=
  let o := m.opc.toNat
  if o == 0x01 || o == 0x22 || o == 0x23 || (usesA o && m.srca.toNat == 0x30) || (usesB o && m.srcb.toNat == 0x30) then x.secEnd else 0

/-! ### Inputs (R54 to R60) -/

/-- A tile whose outputs readers see as inserted zeros: EMPTY, or bound to NONE (R50, R55, R58). -/
def State.tileAbsent (s : State) (t : Nat) : Bool := s.tileState t == 0 || s.tileDomain t == 0

/-- The newest publication of tile `p` whose tick `ok` admits: its output `o`, or an inserted zero. -/
def State.pubCell (s : State) (p o : Nat) (ok : Nat → Bool) : Word :=
  match (s.tile p).pubs.find? (fun q => ok q.tick) with
  | some q => (q.cells[o]?).getD s.zeroCell
  | none => s.zeroCell

/-- The bank address of a BANK input in its `k`-th tick (R54). -/
def bankInAddr (d k : Nat) : Nat :=
  let a := bits d 20 20
  let n := bits d 48 4
  if n = 0 then a else a / 2 ^ n * 2 ^ n + (a % 2 ^ n + k) % 2 ^ n

/-- The address of input descriptor `n` of tile `t` (R45). -/
def inAddr (t n : Nat) : Nat := frameAddr t (0xE08 + 8 * n)

/-- Input descriptor `n` of tile `t` (R54). -/
def State.inDesc (s : State) (t n : Nat) : Nat := (s.memWord (inAddr t n)).toNat

/-- Latches input `n` of tile `t` at FETCH of its domain's tick `k`: a CURR input is left open until an instruction uses it
(R54 to R60). A reserved KIND delivers an inserted zero, and a BANK input's address advances by one word for each FETCH of the
tile since its load, the first one reading BADDR itself (DESIGN CHOICE, log 32 and 33). -/
def State.fetchInput (s : State) (t k n : Nat) : Option Word × State :=
  let d := s.inDesc t n
  let s := s.noteWord (inAddr t n)
  match bits d 0 3 with
  | 1 =>
    let p := t / 64 * 64 + bits d 8 6
    let o := bits d 16 3
    if s.tileAbsent p then (some s.zeroCell, s)
    else if bitOf d 3 then (none, s)
    else (some (s.pubCell p o (fun j => decide (j < k))), s)
  | 2 =>
    let g := mapGet 0 s.lanes (256 * (t / 64) + bits d 8 8)
    if g = 0 ∨ s.tileAbsent ((g - 1) / 8) then (some s.zeroCell, s)
    else (some (s.pubCell ((g - 1) / 8) ((g - 1) % 8) (fun j => decide (j + 2 ≤ k))), s)
  | 3 =>
    let x := s.tile t
    let a := bankInAddr d (mapGet 0 x.bpos n)
    let s := s.setTile t { x with bpos := mapSet 0 x.bpos n (mapGet 0 x.bpos n + 1) }
    let r := s.bankTileRead (a / 0x20000) (a % 0x20000)
    (some r.1, r.2)
  | _ => (some s.zeroCell, s)

/-- Latches the eight inputs in order. -/
def State.fetchInputs (s : State) (t k : Nat) : List Nat → State
  | [] => s
  | n :: l =>
    let r := s.fetchInput t k n
    let x := r.2.tile t
    (r.2.setTile t { x with inp := mapSet none x.inp n r.1 }).fetchInputs t k l

/-- The tile has a BANK input (R60). -/
def State.hasBankIn (s : State) (t : Nat) : Bool := (List.range 8).any (fun n => bits (s.inDesc t n) 0 3 == 3)

/-- The cell of a CURR input of tile `t`, once its producer has ended the same tick or will not run, and the cycle of this
tile before which it cannot be read (R55). A producer that this tick's start overran released its readers with repeat fills
before they run (R69 step 2). -/
def State.currCell (s : State) (t n : Nat) : Option (Word × Nat) :=
  let d := s.inDesc t n
  let p := t / 64 * 64 + bits d 8 6
  let y := s.tile p
  let cell := s.pubCell p (bits d 16 3) (fun j => decide (j ≤ (s.tile t).tickNo))
  if s.tileAbsent p then some (s.zeroCell, 0)
  else if y.tickNo = (s.tile t).tickNo ∧ y.ended then some (cell, y.endCyc + 1)
  else if s.tileState p = 3 then some (cell, 0)
  else none

/-- The CURR input `n` of tile `t` is latched with `cell`, readable from cycle `c` on (R55). -/
def State.latchCurr (s : State) (t n : Nat) (cell : Word) (c : Nat) : State :=
  let x := s.tile t
  s.setTile t { x with inp := mapSet none x.inp n (some cell), waitIn := none, cyc := max x.cyc c }

end Sys2Proof.Machine
end

