-- ==== Sys2Proof/Machine/Sections.lean ====
section
/-! DEFINITION. The section engine: sections, their functions and states, runs, and the flags they add
(chapter Section Engines and Fixed Processing, R75 to R91). -/

namespace Sys2Proof.Machine

/-- The device address of coefficient slot `i` (R75). -/
def slotAddr (t i : Nat) : Nat := frameAddr t (0x600 + 8 * i)

/-- COEF of a slot word, in units of 2^-36 (R76). -/
def coefOf (w : Word) : Int := toSigned 40 (w.toNat >>> 24)

/-- Slot `i` as the engine reads it: the active copy, but the old one to the end of a tick in which the select bit
flipped (R91, R96 step 4). -/
def State.slotWord (s : State) (t i : Nat) : Word :=
  match mapFind (s.tile t).oldSlots i with
  | some w => w
  | none => s.memWord (slotAddr t i)

/-- KIND of section `sec` (R76, R77). -/
def State.secKind (s : State) (t sec : Nat) : Nat := (s.slotWord t (5 * sec)).toNat % 16

/-- Engine cycles of a section of KIND `k` (R77). -/
def kindCycles (k : Nat) : Nat := if k ≤ 2 then 6 else 1

/-- The slots of a section that the engine reads for KIND `k` (R89). -/
def kindSlots (k sec : Nat) : List Nat :=
  match k with
  | 0 => [5 * sec, 5 * sec + 1, 5 * sec + 2, 5 * sec + 3, 5 * sec + 4]
  | 1 => [5 * sec, 5 * sec + 1]
  | 2 => [5 * sec, 5 * sec + 1, 5 * sec + 2, 5 * sec + 3]
  | _ => [5 * sec]

/-- The initial s1 and s2 of a section of KIND `k` (R82). -/
def initState (k : Nat) : Int × Int := if k = 2 then (2 ^ 56, 0) else (0, 0)

/-- s1 and s2 of the section (R82). The private store of a tile is initialised when a load makes the tile READY; no run can
reach it before. -/
def State.secState (s : State) (t sec : Nat) : Int × Int := mapGet (0, 0) (s.tile t).secS sec

/-- The section's state is replaced. -/
def State.setSec (s : State) (t sec : Nat) (v : Int × Int) : State :=
  let x := s.tile t
  s.setTile t { x with secS := mapSet (0, 0) x.secS sec v }

/-- The section is initialised (R82). -/
def State.initSec (s : State) (t sec : Nat) : State := s.setSec t sec (initState (s.secKind t sec))

/-- A state variable saturated to 64 bits, and C if it saturated (R88). -/
def satState (v : Int) : Int × Nat :=
  let w := satSigned 64 v
  (w, if w = v then 0 else flagC)

/-- T / u in units of 2^-56, with relative error below 2^-24 as RECIP has it (R66, R80); where no multiple of 2^-56 lies that
near, the quotient is truncated. -/
def limitRatio (t u : Int) : Int :=
  let q := t * 2 ^ 52 / u
  let lo := (t * 2 ^ 52 - t * 2 ^ 28) / u + 1
  let hi := (t * 2 ^ 52 + t * 2 ^ 28 - 1) / u
  if lo ≤ hi then max lo (min hi (q + Config.limitErr t u)) else q

/-- One section's output AUDIO before saturation, its new state, and C (R78 to R81, R88). `x` is the input in units of
2^-32, `c` reads slot `i` of the section. -/
def sectionValue (k : Nat) (x : Int) (st : Int × Int) (c : Nat → Int) : Int × (Int × Int) × Nat :=
  match k with
  | 0 =>
    let y := c 0 * x + st.1 * 2 ^ 12
    let a := satState (shiftRound true (c 1 * x * 2 ^ 36 - c 3 * y + st.2 * 2 ^ 48) 48)
    let b := satState (shiftRound true (c 2 * x * 2 ^ 36 - c 4 * y) 48)
    (shiftRound true y 36, (a.1, b.1), a.2 ||| b.2)
  | 1 =>
    let d := x * 2 ^ 24 - st.1
    let kk := if 0 < d then c 0 else c 1
    let a := satState (shiftRound true (st.1 * 2 ^ 36 + kk * d) 36)
    (shiftRound true a.1 24, (a.1, st.2), a.2)
  | 2 =>
    let u := (x.natAbs : Int)
    let t := c 0
    let gmin := c 3 * 2 ^ 20
    let gt : Int :=
      if u * 2 ^ 4 ≤ t then 2 ^ 56
      else if t ≤ 0 then gmin
      else
        max gmin (limitRatio t u)
    let kk := if gt < st.1 then c 1 else c 2
    let a := satState (shiftRound true (st.1 * 2 ^ 36 + kk * (gt - st.1)) 36)
    let y := shiftRound true a.1 24
    (y, (a.1, st.2), a.2 ||| (if y < 2 ^ 32 then flagC else 0))
  | _ => (x, st, 0)

/-- The slots the engine reads to run the section (R89): without a readable KIND, no more than its first slot. -/
def State.engineSlots (s : State) (t sec : Nat) : List Nat :=
  if s.mark (slotAddr t (5 * sec)) = 2 then [5 * sec] else kindSlots (s.secKind t sec) sec

/-- The uncorrectable slots among those that the engine reads (R89). -/
def State.badSlots (s : State) (t sec : Nat) : List Nat := (s.engineSlots t sec).filter (fun i => s.mark (slotAddr t i) == 2)

/-- Corrected reads of the section's slots are counted (R49, R89). -/
def State.noteSlots (s : State) (t sec : Nat) : State :=
  (s.engineSlots t sec).foldl (fun s i => s.noteWord (slotAddr t i)) s

/-- S of a section inside its settle window (R97). -/
def Tile.settleS (x : Tile) (sec : Nat) : Nat := if mapGet 0 x.settle sec = 0 then 0 else flagS

/-- The engine runs section `sec` of tile `t` on `cell` (R77 to R89). -/
def State.runSection (s : State) (t sec : Nat) (cell : Word) : Word × State :=
  let x := s.tile t
  let s := s.noteSlots t sec
  match s.badSlots t sec with
  | i :: l =>
    (mkCell 0 x.tickFrame (flagsOf cell ||| flagE ||| x.settleS sec),
     (i :: l).foldl (fun (s : State) (i : Nat) => s.post 0x0407 sevWarn (pack [p16 t, p16 i])) s)
  | [] =>
    let k := s.secKind t sec
    let s := if 3 < k ∧ ¬ bitOf x.warned sec then
        (s.setTile t { s.tile t with warned := setBitN x.warned sec }).post 0x0406 sevWarn (pack [p16 t, p16 sec, p16 k])
      else s
    let r := sectionValue k (audioOf cell) (s.secState t sec) (fun i => coefOf (s.slotWord t (5 * sec + i)))
    let y := satAudio r.1
    let out := mkCell y.1 x.tickFrame (flagsOf cell ||| r.2.2 ||| y.2 ||| x.settleS sec)
    (out, if k ≤ 2 then s.setSec t sec r.2.1 else s)

/-- The engine runs `n` sections of the run in progress, in order; each one's output is the next one's input (R85). -/
def State.runSections (s : State) (t : Nat) : Nat → State
  | 0 => s
  | n + 1 =>
    match (s.tile t).run with
    | none => s
    | some q =>
      let r := s.runSection t (q.first + q.pos) q.cell
      let x := r.2.tile t
      let nxt := q.first + q.pos + 1
      let q' : SecRun := { q with cell := r.1, pos := q.pos + 1, nextEnd := q.nextEnd + kindCycles (s.secKind t nxt) }
      (r.2.setTile t { x with run := some q', sr := r.1, secEnd := q.nextEnd }).runSections t n

/-- Sections of the run that have begun before cycle `limit` ends: those the engine finishes when the tile overruns (R87). -/
def State.sectionsBegun (s : State) (t limit : Nat) (q : SecRun) : Nat :=
  let step := fun (acc : Nat × Nat) (i : Nat) =>
    if acc.2 ≤ limit then (acc.1 + 1, acc.2 + kindCycles (s.secKind t (q.first + i))) else acc
  ((List.range q.count).drop q.pos).foldl step (0, q.nextEnd + 1 - kindCycles (s.secKind t (q.first + q.pos))) |>.1

/-- The run's last cycle (R86). -/
def State.runEnd (s : State) (t : Nat) (q : SecRun) : Nat :=
  ((List.range q.count).drop (q.pos + 1)).foldl (fun e i => e + kindCycles (s.secKind t (q.first + i))) q.nextEnd

/-- The operation on the input before the first section (R83). -/
def preOp (pre : Nat) (x : Tile) (cell : Word) : Word :=
  let a := audioOf cell
  if pre = 1 then aluCell x (a.natAbs : Nat) (flagsOf cell)
  else if pre = 2 then
    let q := a * a / 2 ^ 32
    let q := if a * a % 2 ^ 32 ≠ 0 ∧ Config.squareUp a then q + 1 else q
    aluCell x q (flagsOf cell)
  else cell

/-- SEC issues in RUN cycle `c` (R83, R86): the run starts in the next cycle. -/
def State.startRun (s : State) (t c imm : Nat) (cell : Word) : State :=
  let first := bits imm 0 6
  let count := bits imm 6 6
  let s := if bitOf imm 12 then (List.range count).foldl (fun s i => s.initSec t (first + i)) s else s
  let x := s.tile t
  let q : SecRun := { first := first, count := count, cell := preOp (bits imm 14 2) x cell, pos := 0
                      nextEnd := c + kindCycles (s.secKind t first) }
  s.setTile t { x with run := some q }

/-- SEC_RUN_DONE (R86): the engine finishes the run within the tick's budget; SR takes the last output. -/
def secRunDone (t : Nat) (s : State) : State :=
  match (s.tile t).run with
  | none => s
  | some q =>
    let e := s.runEnd t q
    if s.tileState t = 2 ∧ e ≤ (s.tile t).budget then
      let s := s.runSections t (q.count - q.pos)
      s.setTile t { s.tile t with run := none, secEnd := e }
    else s

/-- The engine at an overrun in cycle `limit`: it finishes the section in progress and runs no other (R87). -/
def State.cutRun (s : State) (t limit : Nat) : State :=
  match (s.tile t).run with
  | none => s
  | some q =>
    let s := s.runSections t (s.sectionsBegun t limit q)
    s.setTile t { s.tile t with run := none }

/-- A stop by reason 3 or 4 in the cycle behind the instructions already executed: the engine finishes the section in progress
(R87), the tick ends as an overrun does, and nothing is counted (R70). -/
def State.errorStop (s : State) (t reason : Nat) : State :=
  let x := s.tile t
  ((s.cutRun t x.cyc).cutTick t x.cyc).stopTile t reason x.pc

end Sys2Proof.Machine
end

