-- ==== Sys2Proof/Machine/Fabric.lean ====
section
/-! DEFINITION. The tile program: the tick's phases and its end (R51 to R63, R69 to R71), and a meaning for every tile
instruction (R61 to R68). An instruction's command names the tile; the instruction itself is the word at the tile's PC, and a
command that names another opcode than the one there changes nothing. -/

namespace Sys2Proof.Machine

/-! ### COMMIT and the tick's end -/

/-- COMMIT after END in RUN cycle `c` (R51, R69, R70): the outputs are published, the counters follow, and a tile that
`stop` names stops with that reason. -/
def State.commitTile (s : State) (t c : Nat) (stop : Option Nat) : State :=
  let x := s.tile t
  let cells := outCells x.out (s.tileOuts t)
  let s := s.setTile t ({ x with ended := true, endCyc := c, com := some x.out, waitIn := none, cyc := c }.publish cells)
  let s := (s.put (FAB_TILE_STAT_LAST_CYC t) (satNat 14 c)).peak (FAB_TILE_MAXCYC_MAX_CYC t) c
  let s := s.put (FAB_TILE_STAT_OVR_CONSEC t) 0
  let s := s.landLate t
  match stop with
  | some r => s.stopTile t r x.pc
  | none => if x.stopReq then s.stopTile t 5 x.pc else s.put (FAB_TILE_STAT_STATE t) 1

/-- END executes in RUN cycle `c` (R66). -/
def State.endTick (s : State) (t c : Nat) : State := s.commitTile t c none

/-- The instruction at the PC has been executed in cycles up to `c`; the program goes on at `npc`, or the tick ends behind
instruction 191 (R63), once the section engine is idle (R87). -/
def State.nextInstr (s : State) (t c npc : Nat) (jumped : Bool) : State :=
  let x := s.tile t
  if x.pc = 191 ∧ ¬ jumped then
    match x.run with
    | none => (s.setTile t { x with cyc := max c x.secEnd }).endTick t (max c x.secEnd)
    | some q =>
      let e := s.runEnd t q
      if e ≤ x.budget then
        let s := s.runSections t (q.count - q.pos)
        let x := s.tile t
        (s.setTile t { x with run := none, secEnd := e, cyc := max c e }).endTick t (max c e)
      else s.setTile t { x with cyc := x.budget, pc := 191 }
  else s.setTile t { x with cyc := c, pc := npc }

/-- Fetches the instruction at the PC: its word, or `none` for an uncorrectable one (R49). -/
def State.fetchMicro (s : State) (t : Nat) : Option Micro :=
  let a := frameAddr t (8 * (s.tile t).pc)
  if s.mark a = 2 then none else some (decodeMicro (s.memWord a))

/-- A fetch that was corrected is counted (R49). -/
def State.noteFetch (s : State) (t : Nat) : State := s.noteWord (frameAddr t (8 * (s.tile t).pc))

/-- The CURR inputs that instruction `m` uses first are latched where their cells can be read without a wait for the producer's
END (R55). -/
def State.readyCurrs (s : State) (t : Nat) (m : Micro) : State :=
  [m.srca.toNat, m.srcb.toNat].foldl (fun (s : State) (c : Nat) =>
    let uses := if c = m.srca.toNat then usesA m.opc.toNat || (usesB m.opc.toNat && m.srcb.toNat == c) else usesB m.opc.toNat
    match (if uses then (s.tile t).pendingIn c else none) with
    | none => s
    | some n => match s.currCell t n with
      | none => s
      | some (cell, k) => s.latchCurr t n cell k) s

/-- The cycle in which the instruction `m` completes, before stalls: one after another, after the multiplies an ACRD waits
for (R62), and after the engine's last run for a reader of SR (R86). -/
def Tile.doneCycle (x : Tile) (m : Micro) : Nat :=
  let c := x.cyc + m.cost
  let c := if m.opc.toNat = 0x15 ∧ 0 < x.mulAt m.acs.toNat then max c (x.mulAt m.acs.toNat + 3) else c
  if x.afterEngine m = 0 then c else max c (x.afterEngine m + m.cost)

/-- A tile instruction's effect: the state after it, the next PC and the cycle it ends in; `none` when an
uncorrectable state-RAM read has stopped the tile (R49). -/
abbrev Effect := Nat → Micro → Nat → State → State

/-- The instruction ends in cycle `c` and the program goes on with the next one. -/
def State.advance (s : State) (t c : Nat) : State := s.nextInstr t c ((s.tile t).pc + 1) false

/-- Runs the instruction at the PC of tile `t` if its opcode is `opc` (R61): an uncorrectable fetch stops the tile with
reason 3; an illegal instruction is not executed here, whatever its condition (R68; DESIGN CHOICE, log 34); a false condition costs one cycle; an instruction that waits
on a CURR input or on the section engine leaves all as it is; one that would end past the budget does not end (R69). -/
def State.runMicro (s : State) (t opc stalls : Nat) (eff : Effect) : State :=
  if s.tileState t ≠ 2 then s
  else
    match s.fetchMicro t with
    | none => (s.bump FAB_ECC_CNT_PROG_UE).errorStop t 3
    | some m =>
      let x := s.tile t
      if m.opc.toNat ≠ opc ∨ m.illegal then s
      else if m.opc.toNat ≠ 0x20 ∧ ¬ condHolds x m.cond.toNat then
        if x.budget < x.cyc + 1 then s else (s.noteFetch t).advance t (x.cyc + 1)
      else
        let s' := s.readyCurrs t m
        let x := s'.tile t
        match x.waitsFor m with
        | some n => s'.setTile t { x with waitIn := some n }
        | none =>
          if x.waitsEngine m then s
          else
            let c := x.doneCycle m + stalls
            if x.budget < c then s else eff t m c (s'.noteFetch t)

/-- A result goes to DST and sets ZF and NF (R65). -/
def State.writeResult (s : State) (t dst : Nat) (v : Word) : State :=
  let x := setZN (s.tile t) (audioOf v)
  s.setTile t (x.writeOperand dst v)

/-! ### The effects, one for each opcode of R66 -/

/-- 0x00 NOP. -/
def opNop : Effect := fun t _ c s => s.advance t c

/-- 0x01 END. -/
def opEnd : Effect := fun t _ c s => s.endTick t c

/-- 0x02 MOV. -/
def opMov : Effect := fun t m c s =>
  let r := s.readOperand t m.srca.toNat
  (r.2.writeResult t m.dst.toNat r.1).advance t c

/-- 0x03 MOVF: only S, P, X and C can be cleared (R30). -/
def opMovf : Effect := fun t m c s =>
  let r := s.readOperand t m.srca.toNat
  let keep := 255 ^^^ (m.i % 256 &&& clearable)
  let v := mkCell (audioOf r.1) (tagOf r.1) (flagsOf r.1 &&& keep)
  (r.2.writeResult t m.dst.toNat v).advance t c

/-- 0x04 LDI: a new cell with V = 1 (R31, R64). -/
def opLdi : Effect := fun t m c s =>
  (s.writeResult t m.dst.toNat (mkCell (toSigned 32 m.i * 2 ^ 8) (s.tile t).tickFrame flagV)).advance t c

/-- A two-operand ALU instruction. -/
def alu2 (f : Int → Int → Int) : Effect := fun t m c s =>
  let a := s.readOperand t m.srca.toNat
  let b := a.2.readOperand t m.srcb.toNat
  let v := aluCell (s.tile t) (f (audioOf a.1) (audioOf b.1)) (flagsOf a.1 ||| flagsOf b.1)
  (b.2.writeResult t m.dst.toNat v).advance t c

/-- A one-operand ALU instruction. -/
def alu1 (f : Micro → Int → Int) : Effect := fun t m c s =>
  let a := s.readOperand t m.srca.toNat
  (a.2.writeResult t m.dst.toNat (aluCell (s.tile t) (f m (audioOf a.1)) (flagsOf a.1))).advance t c

/-- 0x05 ADD. -/
def opAdd : Effect := alu2 (fun a b => a + b)
/-- 0x06 SUB. -/
def opSub : Effect := alu2 (fun a b => a - b)
/-- 0x07 ABS. -/
def opAbs : Effect := alu1 (fun _ a => (a.natAbs : Int))
/-- 0x08 MAX. -/
def opMax : Effect := alu2 (fun a b => if a < b then b else a)
/-- 0x09 MIN. -/
def opMin : Effect := alu2 (fun a b => if b < a then b else a)
/-- 0x0A MULI. -/
def opMuli : Effect := alu1 (fun m a => muliValue m.rnd a m.i)
/-- 0x0B SHL. -/
def opShl : Effect := alu1 (fun m a => shlValue m.rnd a m.shift)
/-- 0x1D RECIP. -/
def opRecip : Effect := alu1 (fun _ a => recipResult a)

/-- 0x0C TSTF. -/
def opTstf : Effect := fun t m c s =>
  let a := s.readOperand t m.srca.toNat
  (a.2.setTile t { a.2.tile t with t := (flagsOf a.1 &&& m.i % 256) != 0 }).advance t c

/-- 0x0D CMP. -/
def opCmp : Effect := fun t m c s =>
  let a := s.readOperand t m.srca.toNat
  let b := a.2.readOperand t m.srcb.toNat
  (b.2.setTile t (setZN (b.2.tile t) (satAudio (audioOf a.1 - audioOf b.1)).1)).advance t c

/-- A multiply into the accumulator: `f` gives the new value from the old one and the product, `keep` keeps the old flags. -/
def macOp (keep : Bool) (f : Int → Int → Int) : Effect := fun t m c s =>
  let a := s.readOperand t m.srca.toNat
  let b := a.2.readOperand t m.srcb.toNat
  let x := b.2.tile t
  let n := m.acs.toNat
  let old := if keep then x.accF n else 0
  let x := (x.setAcc n (f (x.acc n) (mulValue (audioOf a.1) (audioOf b.1))) (old ||| flagsOf a.1 ||| flagsOf b.1)).noteMul n c
  (b.2.setTile t x).advance t c

/-- 0x10 MUL. -/
def opMul : Effect := macOp false (fun _ p => p)
/-- 0x11 MAC. -/
def opMac : Effect := macOp true (fun a p => a + p)
/-- 0x12 MSU. -/
def opMsu : Effect := macOp true (fun a p => a - p)

/-- 0x13 MACI. -/
def opMaci : Effect := fun t m c s =>
  let a := s.readOperand t m.srca.toNat
  let x := a.2.tile t
  let n := m.acs.toNat
  let x := (x.setAcc n (x.acc n + maciValue (audioOf a.1) m.i) (x.accF n ||| flagsOf a.1)).noteMul n c
  (a.2.setTile t x).advance t c

/-- 0x14 ACLR. -/
def opAclr : Effect := fun t m c s => (s.setTile t ((s.tile t).setAcc m.acs.toNat 0 0)).advance t c

/-- 0x15 ACRD. -/
def opAcrd : Effect := fun t m c s =>
  let x := s.tile t
  let n := m.acs.toNat
  (s.writeResult t m.dst.toNat (aluCell x (acrdValue m.rnd (x.acc n) m.shift) (x.accF n))).advance t c

/-- 0x16 ACWR: the AUDIO value at the accumulator's scale, with the cell's flags. -/
def opAcwr : Effect := fun t m c s =>
  let a := s.readOperand t m.srca.toNat
  (a.2.setTile t ((a.2.tile t).setAcc m.acs.toNat (audioOf a.1 * 2 ^ 32) (flagsOf a.1))).advance t c

/-- The state-RAM cell an LDS, STS or ADDA names (R66). -/
def State.microCell (s : State) (t : Nat) (m : Micro) : Nat := s.aregCell t (bits m.i 8 2) (bits m.i 0 8)

/-- 0x18 LDS: an uncorrectable read stops the tile where FAB_CTL says so (R49, R70). -/
def opLds : Effect := fun t m c s =>
  let s := s.noteAreg t (bits m.i 8 2)
  let r := s.readRam t (s.microCell t m)
  if r.1.2 && r.2.ramStops then r.2.errorStop t 4
  else (r.2.writeResult t m.dst.toNat r.1.1).advance t c

/-- 0x19 STS. -/
def opSts : Effect := fun t m c s =>
  let s := s.noteAreg t (bits m.i 8 2)
  let r := s.readOperand t m.srca.toNat
  (r.2.memPut (ramAddr t (s.microCell t m)) r.1).advance t c

/-- 0x1A ADDA. -/
def opAdda : Effect := fun t m c s =>
  let n := bits m.i 8 2
  let s := s.noteAreg t n
  let x := s.tile t
  (s.setTile t { x with ptr := mapSet 0 x.ptr n ((mapGet 0 x.ptr n + bits m.i 0 8) % (s.areg t n).2) }).advance t c

/-- The 20-bit bank address of an LDB or STB (R66). -/
def microBank (x : Tile) (m : Micro) : Nat := (bits m.i 0 20 + (if m.bidx then x.lc else 0)) % 2 ^ 20

/-- Gateway stalls of an access are counted (R60, R74): those of an LDB or STB that completes; a BANK input's wait in FETCH counts
in FETCH_OVER alone (DESIGN CHOICE, log 36). -/
def State.gatewayStall (s : State) (t stalls : Nat) : State := s.bumpBy (FAB_GW_STAT_STALL_CYC (t / 64)) stalls

/-- 0x1B LDB with `stalls` gateway stalls. -/
def opLdb (stalls : Nat) : Effect := fun t m c s =>
  let s := s.gatewayStall t stalls
  let a := microBank (s.tile t) m
  let r := s.bankTileRead (a / 0x20000) (a % 0x20000)
  (r.2.writeResult t m.dst.toNat r.1).advance t c

/-- 0x1C STB with `stalls` gateway stalls. -/
def opStb (stalls : Nat) : Effect := fun t m c s =>
  let s := s.gatewayStall t stalls
  let a := microBank (s.tile t) m
  let r := s.readOperand t m.srca.toNat
  (r.2.bankWrite (a / 0x20000) (a % 0x20000) r.1).advance t c

/-- The two regions' cells of a vector instruction's elements from `i` on, summed: product, flags, and whether a read was
uncorrectable and stops the tile. -/
def State.vfirLoop (s : State) (t a b : Nat) (acc : Int) (fl i : Nat) : Nat → (Int × Nat × Bool) × State
  | 0 => ((acc, fl, false), s)
  | n + 1 =>
    let p := s.readRam t (s.aregCell t a i)
    let q := p.2.readRam t (p.2.aregCell t b i)
    if (p.1.2 || q.1.2) && s.ramStops then ((acc, fl, true), q.2)
    else q.2.vfirLoop t a b (acc + audioOf p.1.1 * audioOf q.1.1) (fl ||| flagsOf p.1.1 ||| flagsOf q.1.1) (i + 1) n

/-- 0x1E VFIR. -/
def opVfir : Effect := fun t m c s =>
  let s := (s.noteAreg t (bits m.i 8 2)).noteAreg t (bits m.i 10 2)
  let x := s.tile t
  let n := m.acs.toNat
  let r := s.vfirLoop t (bits m.i 8 2) (bits m.i 10 2) (x.acc n) (x.accF n) 0 m.vlen
  if r.1.2.2 then r.2.errorStop t 4
  else (r.2.setTile t ((r.2.tile t).setAcc n r.1.1 r.1.2.1)).advance t c

/-- Elements of a VLMS from `i` on: each coefficient cell is read, updated and written; true when a read stops the tile. -/
def State.vlmsLoop (s : State) (t a b : Nat) (rnd : Bool) (g : Int) (gf i : Nat) : Nat → Bool × State
  | 0 => (false, s)
  | n + 1 =>
    let p := s.readRam t (s.aregCell t a i)
    let q := p.2.readRam t (p.2.aregCell t b i)
    if (p.1.2 || q.1.2) && s.ramStops then (true, q.2)
    else
      let v := aluCell (s.tile t) (audioOf q.1.1 + vlmsValue rnd g (audioOf p.1.1)) (flagsOf q.1.1 ||| flagsOf p.1.1 ||| gf)
      (q.2.memPut (ramAddr t (q.2.aregCell t b i)) v).vlmsLoop t a b rnd g gf (i + 1) n

/-- 0x1F VLMS. -/
def opVlms : Effect := fun t m c s =>
  let s := (s.noteAreg t (bits m.i 8 2)).noteAreg t (bits m.i 10 2)
  let g := s.readOperand t m.srca.toNat
  let r := g.2.vlmsLoop t (bits m.i 8 2) (bits m.i 10 2) m.rnd (audioOf g.1) (flagsOf g.1) 0 m.vlen
  if r.1 then r.2.errorStop t 4 else r.2.advance t c

/-- 0x20 JMP: taken, it costs a second cycle; COND LOOP counts LC down (R65, R66). -/
def opJmp : Effect := fun t m c s =>
  let x := s.tile t
  if condHolds x m.cond.toNat then
    if x.budget < c + 1 then s
    else
      let x := if m.cond.toNat = 7 then { x with lc := x.lc - 1 } else x
      (s.setTile t x).nextInstr t (c + 1) (bits m.i 0 8) true
  else s.advance t c

/-- 0x21 SETLC. -/
def opSetlc : Effect := fun t m c s => (s.setTile t { s.tile t with lc := bits m.i 0 16 }).advance t c

/-- 0x22 SEC (R83, R86). -/
def opSec : Effect := fun t m c s =>
  let r := s.readOperand t m.srca.toNat
  (r.2.startRun t c m.i r.1).advance t c

/-- 0x23 SECW: the engine is idle when it executes (R62). -/
def opSecw : Effect := fun t _ c s => s.advance t c

/-- The effect of an opcode; `stalls` are those of a bank access. -/
def effectOf (stalls o : Nat) : Effect :=
  match o with
  | 0x01 => opEnd | 0x02 => opMov | 0x03 => opMovf | 0x04 => opLdi | 0x05 => opAdd | 0x06 => opSub | 0x07 => opAbs
  | 0x08 => opMax | 0x09 => opMin | 0x0A => opMuli | 0x0B => opShl | 0x0C => opTstf | 0x0D => opCmp | 0x10 => opMul
  | 0x11 => opMac | 0x12 => opMsu | 0x13 => opMaci | 0x14 => opAclr | 0x15 => opAcrd | 0x16 => opAcwr | 0x18 => opLds
  | 0x19 => opSts | 0x1A => opAdda | 0x1B => opLdb stalls | 0x1C => opStb stalls | 0x1D => opRecip | 0x1E => opVfir | 0x1F => opVlms
  | 0x20 => opJmp | 0x21 => opSetlc | 0x22 => opSec | 0x23 => opSecw
  | _ => opNop

/-! ### The rows -/

/-- NOP (R66). -/
def execNop (t : TileIx) (s : State) : Result := .next (s.runMicro t.val 0x00 0 opNop)
/-- END (R66, R87). -/
def execEndRun (t : TileIx) (s : State) : Result := .next (s.runMicro t.val 0x01 0 opEnd)
/-- MOV (R66). -/
def execMov (t : TileIx) (s : State) : Result := .next (s.runMicro t.val 0x02 0 opMov)
/-- MOVF (R66, R30). -/
def execMovf (t : TileIx) (s : State) : Result := .next (s.runMicro t.val 0x03 0 opMovf)
/-- LDI (R66, R31). -/
def execLdi (t : TileIx) (s : State) : Result := .next (s.runMicro t.val 0x04 0 opLdi)
/-- ADD (R66, R67). -/
def execAdd (t : TileIx) (s : State) : Result := .next (s.runMicro t.val 0x05 0 opAdd)
/-- SUB (R66, R67). -/
def execSub (t : TileIx) (s : State) : Result := .next (s.runMicro t.val 0x06 0 opSub)
/-- ABS (R66, R67). -/
def execAbs (t : TileIx) (s : State) : Result := .next (s.runMicro t.val 0x07 0 opAbs)
/-- MAX (R66). -/
def execMax (t : TileIx) (s : State) : Result := .next (s.runMicro t.val 0x08 0 opMax)
/-- MIN (R66). -/
def execMin (t : TileIx) (s : State) : Result := .next (s.runMicro t.val 0x09 0 opMin)
/-- MULI (R66, R65). -/
def execMuli (t : TileIx) (s : State) : Result := .next (s.runMicro t.val 0x0A 0 opMuli)
/-- SHL (R66, R65). -/
def execShl (t : TileIx) (s : State) : Result := .next (s.runMicro t.val 0x0B 0 opShl)
/-- TSTF (R66). -/
def execTstf (t : TileIx) (s : State) : Result := .next (s.runMicro t.val 0x0C 0 opTstf)
/-- CMP (R66). -/
def execCmp (t : TileIx) (s : State) : Result := .next (s.runMicro t.val 0x0D 0 opCmp)
/-- MUL (R66, R64). -/
def execMul (t : TileIx) (s : State) : Result := .next (s.runMicro t.val 0x10 0 opMul)
/-- MAC (R66, R64). -/
def execMac (t : TileIx) (s : State) : Result := .next (s.runMicro t.val 0x11 0 opMac)
/-- MSU (R66, R64). -/
def execMsu (t : TileIx) (s : State) : Result := .next (s.runMicro t.val 0x12 0 opMsu)
/-- MACI (R66, R64). -/
def execMaci (t : TileIx) (s : State) : Result := .next (s.runMicro t.val 0x13 0 opMaci)
/-- ACLR (R66, R64). -/
def execAclr (t : TileIx) (s : State) : Result := .next (s.runMicro t.val 0x14 0 opAclr)
/-- ACRD (R62, R66). -/
def execAcrd (t : TileIx) (s : State) : Result := .next (s.runMicro t.val 0x15 0 opAcrd)
/-- ACWR (R66). -/
def execAcwr (t : TileIx) (s : State) : Result := .next (s.runMicro t.val 0x16 0 opAcwr)
/-- LDS (R66, R49). -/
def execLds (t : TileIx) (s : State) : Result := .next (s.runMicro t.val 0x18 0 opLds)
/-- STS (R66). -/
def execSts (t : TileIx) (s : State) : Result := .next (s.runMicro t.val 0x19 0 opSts)
/-- ADDA (R66). -/
def execAdda (t : TileIx) (s : State) : Result := .next (s.runMicro t.val 0x1A 0 opAdda)
/-- LDB (R60, R66): the stalls are what arbitration gives. -/
def execLdb (t : TileIx) (stalls : Nat) (s : State) : Result := .next (s.runMicro t.val 0x1B stalls (opLdb stalls))
/-- STB (R60, R66): the stalls are what arbitration gives. -/
def execStb (t : TileIx) (stalls : Nat) (s : State) : Result := .next (s.runMicro t.val 0x1C stalls (opStb stalls))
/-- RECIP (R66). -/
def execRecip (t : TileIx) (s : State) : Result := .next (s.runMicro t.val 0x1D 0 opRecip)
/-- VFIR (R66, R62). -/
def execVfir (t : TileIx) (s : State) : Result := .next (s.runMicro t.val 0x1E 0 opVfir)
/-- VLMS (R66, R62). -/
def execVlms (t : TileIx) (s : State) : Result := .next (s.runMicro t.val 0x1F 0 opVlms)
/-- JMP (R66). -/
def execJmp (t : TileIx) (s : State) : Result := .next (s.runMicro t.val 0x20 0 opJmp)
/-- SETLC (R66). -/
def execSetlc (t : TileIx) (s : State) : Result := .next (s.runMicro t.val 0x21 0 opSetlc)
/-- SEC (R83). -/
def execSec (t : TileIx) (s : State) : Result := .next (s.runMicro t.val 0x22 0 opSec)
/-- SECW (R62). -/
def execSecw (t : TileIx) (s : State) : Result := .next (s.runMicro t.val 0x23 0 opSecw)
/-- SEC_RUN_DONE (R86). -/
def execSecRunDone (t : TileIx) (s : State) : Result := .next (secRunDone t.val s)

/-- ILLEGAL_INSTRUCTION (R68, R70): the tile acts on an illegal instruction as on END, once the engine is idle, and stops with
reason 2. An uncorrectable fetch stops it with reason 3 (R49). -/
def illegalInstruction (t : Nat) (s : State) : State :=
  if s.tileState t ≠ 2 then s
  else
    match s.fetchMicro t with
    | none => (s.bump FAB_ECC_CNT_PROG_UE).errorStop t 3
    | some m =>
      let x := s.tile t
      let c := max x.cyc x.secEnd + 1
      if m.illegal ∧ x.run = none ∧ c ≤ x.budget then (s.noteFetch t).commitTile t c (some 2) else s

/-- ILLEGAL_INSTRUCTION. -/
def execIllegalInstruction (t : TileIx) (s : State) : Result := .next (illegalInstruction t.val s)

/-- CURR_READ (R55): the producer has ended its tick, so the waiting instruction takes the cell and completes two cycles
after the producer's END; an STB then has its gateway `stalls` (R60). -/
def currRead (t stalls : Nat) (s : State) : State :=
  let x := s.tile t
  match x.waitIn with
  | none => s
  | some n =>
    match s.currCell t n with
    | none => s
    | some (cell, c) =>
      let s := s.latchCurr t n cell c
      match s.fetchMicro t with
      | none => s
      | some m =>
        let k := if m.opc.toNat = 0x1C then stalls else 0
        s.runMicro t m.opc.toNat k (effectOf k m.opc.toNat)

/-- CURR_READ. -/
def execCurrRead (t : TileIx) (stalls : Nat) (s : State) : Result := .next (currRead t.val stalls s)

/-! ### Overrun, STOP and RESTART -/

/-- The instruction at the PC can still end within the budget. -/
def State.microFits (s : State) (t : Nat) : Bool :=
  match s.fetchMicro t with
  | none => true
  | some m =>
    let x := s.tile t
    if m.illegal then decide (max x.cyc x.secEnd + 1 ≤ x.budget)
    else if m.opc.toNat ≠ 0x20 ∧ ¬ condHolds x m.cond.toNat then decide (x.cyc + 1 ≤ x.budget)
    else match x.waitsFor m with
      | some _ => false
      | none =>
        if x.waitsEngine m then (match x.run with | some q => decide (s.runEnd t q + 1 ≤ x.budget) | none => true)
        else if m.opc.toNat = 0x20 ∧ condHolds x m.cond.toNat then decide (x.doneCycle m + 1 ≤ x.budget)
        else if m.opc.toNat = 0x1B ∨ m.opc.toNat = 0x1C then false
        else decide (x.doneCycle m ≤ x.budget)

/-- What a vector instruction or an STB at the PC has done when RUN stops in cycle `c`, before its last cycle: the spec gives its
cycles and not which of them makes which write, so how many of its elements are done is free (R62, R69 step 1). -/
def State.cutInstr (s : State) (t c : Nat) : State :=
  match s.fetchMicro t with
  | none => s
  | some m =>
    let x := s.tile t
    let r := c - max x.cyc (x.afterEngine m)
    if m.illegal || !condHolds x m.cond.toNat || (x.waitsFor m).isSome || x.waitsEngine m || r == 0 then s
    else
      let k := s.free.1.toNat % (min m.vlen r + 1)
      let s1 := s.free.2
      match m.opc.toNat with
      | 0x1C =>
        let a := microBank x m
        let q := s1.readOperand t m.srca.toNat
        if s.free.1.getLsbD 63 then q.2.bankWrite (a / 0x20000) (a % 0x20000) q.1 else s1
      | 0x1E =>
        let n := m.acs.toNat
        let q := s1.vfirLoop t (bits m.i 8 2) (bits m.i 10 2) (x.acc n) (x.accF n) 0 k
        if q.1.2.2 then q.2.errorStop t 4 else q.2.setTile t ((q.2.tile t).setAcc n q.1.1 q.1.2.1)
      | 0x1F =>
        let g := s1.readOperand t m.srca.toNat
        let q := g.2.vlmsLoop t (bits m.i 8 2) (bits m.i 10 2) m.rnd (audioOf g.1) (flagsOf g.1) 0 k
        if q.1 then q.2.errorStop t 4 else q.2
      | _ => s

/-- TILE_OVERRUN (R69): RUN has reached the budget, or, in RUN cycle `at_`, the domain's next tick has arrived, before END. That next
tick is not run; the repeat fills are there before its readers run. -/
def tileOverrun (t at_ : Nat) (s : State) : State :=
  let x := s.tile t
  let now := s.domTick (s.tileDomain t)
  if s.tileState t ≠ 2 ∨ (x.tickNo = now ∧ s.microFits t) then s
  else
    let c := if x.tickNo = now then x.budget else min x.budget (max (max x.cyc x.secEnd) at_)
    let s := (s.cutInstr t c).cutRun t c
    if s.tileState t ≠ 2 then s
    else
    let s := s.cutTick t c
    let s := s.setTile t { s.tile t with cyc := c, tickNo := now, endCyc := if x.tickNo = now then c else 0 }
    let old := s.get (FAB_TILE_STAT_OVR_CONSEC t)
    let s := (s.bump (FAB_TILE_STAT_OVR_CONSEC t)).bump (FAB_TILE_OVRCNT_OVR_COUNT t)
    let s := (s.setBit FAB_OVR_SUM_SHELF_OVR (t / 64)).peak (FAB_TILE_MAXCYC_MAX_CYC t) c
    let s := if old = 0 ∧ s.on FAB_CTL_OVR_EVT_EN then
        s.post 0x0401 sevWarn (pack [p16 t, p16 (s.get PWR_STAT_CUR_PL), p32 c]) else s
    let lim := s.get FAB_CTL_OVR_LIMIT
    if lim ≠ 0 ∧ s.get (FAB_TILE_STAT_OVR_CONSEC t) = lim then s.stopTile t 1 x.pc
    else if x.stopReq then s.stopTile t 5 x.pc
    else s.put (FAB_TILE_STAT_STATE t) 1

/-- TILE_OVERRUN. -/
def execTileOverrun (t : TileIx) (at_ : Nat) (s : State) : Result := .next (tileOverrun t.val at_ s)

/-- FAB_TILE_CMD.STOP (R70): after the current tick, or at once between ticks. -/
def stopCmd (t : Nat) (s : State) : State :=
  match s.tileState t with
  | 2 => s.setTile t { s.tile t with stopReq := true }
  | 1 => s.stopTile t 5 (s.tile t).pc
  | _ => s

/-- STOP on the selected tile. -/
def execStop (s : State) : Result := .next (stopCmd (s.get FAB_TILE_SEL_TILE) s)

/-- FAB_TILE_CMD.RESTART (R70, R77): a STOPPED tile returns to READY with OVR_CONSEC at 0. STOP_REASON returns to 0 and STOP_PC stays
(DESIGN CHOICE, log 35). -/
def restartCmd (t : Nat) (s : State) : State :=
  if s.tileState t ≠ 3 then s
  else
    let s := ((s.put (FAB_TILE_STAT_STATE t) 1).put (FAB_TILE_STAT_OVR_CONSEC t) 0).put (FAB_TILE_STAT_STOP_REASON t) 0
    (s.setTile t { s.tile t with warned := 0 }).post 0x0405 sevInfo (pack [p16 t])

/-- RESTART on the selected tile. -/
def execRestart (s : State) : Result := .next (restartCmd (s.get FAB_TILE_SEL_TILE) s)

/-! ### Host writes to the fabric, and write-backs -/

/-- A write to a coefficient slot makes a reserved KIND of its section report again (R77). -/
def State.rewarn (s : State) (a : Nat) : State :=
  let o := a % 0x1000
  if 0x600 ≤ o ∧ o < 0xDF8 then
    let t := a / 0x1000
    s.setTile t { s.tile t with warned := clrBitN (s.tile t).warned ((o - 0x600) / 40) }
  else s

/-- CONFIG_MEMORY_WRITE (R71, R90, R169, R534): whole words; program words of a running tile wait for the end of its
tick; a write to a frame under a load is discarded. -/
def configWrite (a : Nat) (v : Word) (s : State) : State :=
  if 0x400000 ≤ a ∨ a % 8 ≠ 0 then s
  else
    let t := a / 0x1000
    if s.loadCovers t then s
    else
      let s := s.put SYS_BOOT_MODIFIED 1
      if a % 0x1000 < 0x600 ∧ s.tileState t = 2 then s.setTile t { s.tile t with late := (s.tile t).late ++ [(a, v)] }
      else (s.memPut a v).rewarn a

/-- CONFIG_MEMORY_WRITE. -/
def execConfigMemoryWrite (addr : Nat) (v : Word) (s : State) : Result := .next (configWrite addr v s)

/-- STATE_RAM_WRITE (R48, R534). -/
def stateRamWrite (a : Nat) (v : Word) (s : State) : State :=
  if a < 0xC00000 ∨ 0xE00000 ≤ a ∨ a % 8 ≠ 0 ∨ s.loadCovers ((a - 0xC00000) / 0x800) then s else s.memPut a v

/-- STATE_RAM_WRITE. -/
def execStateRamWrite (addr : Nat) (v : Word) (s : State) : Result := .next (stateRamWrite addr v s)

/-- ECC_WRITE_BACK (R49): the corrected word of configuration memory or state RAM lands unless a newer write came first. -/
def eccWriteBack (a : Nat) (s : State) : State :=
  if a < 0x400000 ∨ (0xC00000 ≤ a ∧ a < 0xE00000) then s.landWb a 1 else s

/-- ECC_WRITE_BACK. -/
def execEccWriteBack (addr : Nat) (s : State) : Result := .next (eccWriteBack addr s)

/-! ### Parameters (R72, R73) -/

/-- The entries of shelf `h`'s queue. -/
def State.shelfQueue (s : State) (h : Nat) : List ParamEntry := mapGet [] s.paramq h

/-- The shelf's queue is replaced, with FAB_PARAM_LVL. -/
def State.setShelfQueue (s : State) (h : Nat) (q : List ParamEntry) : State :=
  { s.put (FAB_PARAM_LVL_LEVEL h) q.length with paramq := mapSet [] s.paramq h q }

/-- A parameter entry is discarded: its shelf's bit and PARAM_DROP (R73). -/
def State.paramDrop (s : State) (t idx : Nat) : State :=
  (s.setBit FAB_PARAM_DROP_SHELF_DROP (t / 64)).post 0x0404 sevWarn (pack [p16 t, p16 idx])

/-- FAB_PARAM_WR (R72, R73). -/
def fabParamWr (v : Nat) (s : State) : State :=
  let t := bits v 0 10
  let idx := bits v 16 4
  let q := s.shelfQueue (t / 64)
  if s.loadCovers t ∨ 64 ≤ q.length then s.paramDrop t idx
  else s.setShelfQueue (t / 64) (q ++ [{ tile := t, idx := idx, val := BitVec.ofNat 64 (s.get FAB_PARAM_DATA_DATA), cmd := none }])

/-- FAB_PARAM_WR. -/
def execFabParamWr (v : Word) (s : State) : Result := .next (fabParamWr v.toNat s)

/-- At a frame boundary a shelf moves up to 32 entries into its tiles' pending registers (R72). -/
def State.moveParams (s : State) (h : Nat) : State :=
  let q := s.shelfQueue h
  if q.isEmpty then s
  else
    let s := (q.take 32).foldl (fun s e => s.setTile e.tile { s.tile e.tile with pend := (s.tile e.tile).pend ++ [e] }) s
    s.setShelfQueue h (q.drop 32)

/-- A PARAM command's entry has been applied or discarded; the last one completes the command (R362). -/
def State.paramDone (s : State) (cmd : Option (Nat × Nat)) (lost : Bool) : State :=
  match cmd with
  | none => s
  | some (r, seq) =>
    match (s.ring r).exec with
    | some e =>
      if e.seq = seq ∧ e.words.headD 0 % 256 = 0x05 then
        let e := { e with left := e.left - 1, lost := e.lost || lost }
        let s := s.setExec r (fun _ => e)
        if e.left = 0 ∧ e.mask = 0 then (if e.lost then s.finish r stNoResource 0 else s.finish r stOk s.frame) else s
      else s
    | none => s

/-- The PARAM phase: the tile applies its pending entries in order (R51, R72). -/
def State.applyParams (s : State) (t : Nat) : State :=
  let x := s.tile t
  let l := x.pend
  l.foldl (fun s e => (s.memPut (frameAddr t (0xE80 + 8 * e.idx)) e.val).paramDone e.cmd false)
    (s.setTile t { x with pend := [] })

/-! ### The start of a tick -/

/-- Flips the tile has not applied yet take effect: sections whose KIND changed are initialised and the settle windows
start (R96 step 4, R97); windows already running move on by one tick, and where two overlap on a section the later end counts. -/
def State.applyFlips (s : State) (t : Nat) : State :=
  let x := s.tile t
  let old := (x.settle.map (fun p => (p.1, p.2 - 1))).filter (fun p => p.2 != 0)
  let new := x.applySettle.foldl (fun m p => mapSet 0 m p.1 (max p.2 (mapGet 0 m p.1))) old
  let s := s.setTile t { x with settle := new, applySettle := [], applyInit := 0, oldSlots := [] }
  (bitList 51 x.applyInit).foldl (fun s i => s.initSec t i) s

/-- TILE_TICK (R50, R51, R60, R70): LC, SR, T, ZF and NF keep their values from the tick before (DESIGN CHOICE, log 29). A tile whose domain has ticked applies its parameters; READY, it latches its inputs and
starts RUN at instruction 0, with the cycles that FETCH ran over charged to the budget; STOPPED, it publishes repeat fills. -/
def tileTick (t fetchOver : Nat) (s : State) : State :=
  let d := s.tileDomain t
  let k := s.domTick d
  let st := s.tileState t
  if d = 0 ∨ (st ≠ 1 ∧ st ≠ 3) ∨ (s.tile t).tickNo = k then s
  else
    let s := ((s.noteWord (frameAddr t 0xE00)).applyParams t).applyFlips t
    let x := { s.tile t with tickNo := k, tickFrame := s.tag }
    if st = 3 then
      s.setTile t ({ x with ended := true }.publish (fillCells s.tag x.com (s.tileOuts t)))
    else
      let fo := if s.hasBankIn t then fetchOver else 0
      let s := s.setTile t { x with ended := false, pc := 0, cyc := fo, budget := s.budgetOf d, mul0 := 0, mul1 := 0
                                    secEnd := 0, run := none, waitIn := none, out := x.com.getD x.out }
      let s := s.fetchInputs t k (List.range 8)
      let s := if fo = 0 then s else s.peak (FAB_GW_STAT_FETCH_OVER (t / 64)) fo
      s.put (FAB_TILE_STAT_STATE t) 2

/-- TILE_TICK. -/
def execTileTick (t : TileIx) (fetchOver : Nat) (s : State) : Result := .next (tileTick t.val fetchOver s)

end Sys2Proof.Machine
end

