-- ==== Sys2Proof/Machine/CoefGroup.lean ====
section
/-! DEFINITION. COEF_GROUP: the check of a group block, staging, the flip and its completion (R92 to R99). -/

namespace Sys2Proof.Machine

/-- A coefficient word for slot `i` keeps its reserved fields 0 and names no reserved KIND (R76, R95). -/
def coefWordOk (i w : Nat) : Bool := bits w 4 20 == 0 && (if i % 5 = 0 then decide (w % 16 ≤ 3) else w % 16 == 0)

/-- A run header's failure, if any (R93, R95); during a load, whose teardown empties the tiles, NO_RESOURCE comes first (R181). -/
def State.groupHeader (s : State) (w : Nat) : Option Nat :=
  let t := bits w 0 10
  let first := bits w 16 8
  let count := bits w 24 8 + 1
  if bits w 10 6 ≠ 0 ∨ bits w 32 31 ≠ 0 ∨ 254 < first ∨ 255 < first + count then some stBadArg
  else if s.fullLoad ∨ s.partLoad = some (t / 64) then some stNoResource
  else if s.tileState t = 0 ∨ s.tileDomain t = 0 then some stBadArg
  else none

/-- The words of one run, from bank-6 word `a`; the status and the bad word on failure. -/
def State.groupRun (s : State) (t slot a : Nat) : Nat → Except (Nat × Nat) (List (Nat × Nat × Word))
  | 0 => .ok []
  | n + 1 =>
    if 0x20000 ≤ a then .error (stBadArg, a)
    else if s.mark (bankAddr 6 a) = 2 then .error (stEcc, a)
    else
      let w := s.peek6 a
      if ¬ coefWordOk slot w then .error (stBadArg, a)
      else match s.groupRun t (slot + 1) (a + 1) n with
        | .ok l => .ok ((t, slot, BitVec.ofNat 64 w) :: l)
        | .error e => .error e

/-- The group block from bank-6 word `a`, run by run, with at most `left` words (R93, R95). -/
def State.groupBlock (s : State) (a left : Nat) : Nat → Except (Nat × Nat) (List (Nat × Nat × Word))
  | 0 => .error (stBadArg, a)
  | fuel + 1 =>
    if left = 0 ∨ 0x20000 ≤ a then .error (stBadArg, a)
    else if s.mark (bankAddr 6 a) = 2 then .error (stEcc, a)
    else
      let h := s.peek6 a
      match s.groupHeader h with
      | some st => .error (st, a)
      | none =>
        let n := bits h 24 8 + 1
        if left < n + 1 then .error (stBadArg, a)
        else match s.groupRun (bits h 0 10) (bits h 16 8) (a + 1) n with
          | .error e => .error e
          | .ok l =>
            if bitOf h 63 then .ok l
            else match s.groupBlock (a + 1 + n) (left - (n + 1)) fuel with
              | .ok l' => .ok (l ++ l')
              | .error e => .error e

/-- A staged group touches a section of `g`. -/
def State.groupBlocked (s : State) (g : Group) : Bool :=
  s.groups.any (fun h => h.staged && !(h.ring == g.ring && h.seq == g.seq) && h.secs.any (fun p => g.secs.contains p))

/-- Step 2 of R96: the active slots of each touched section go to the shadow, then the group's words (R94). -/
def State.stageGroup (s : State) (g : Group) : State :=
  let s := g.secs.foldl (fun s p => (List.range 5).foldl (fun s i =>
    let x := s.tile p.1
    let slot := 5 * p.2 + i
    s.setTile p.1 { x with shadow := mapSet 0 x.shadow slot (s.memWord (slotAddr p.1 slot)) }) s) s
  let s := g.words.foldl (fun s w =>
    let x := s.tile w.1
    s.setTile w.1 { x with shadow := mapSet 0 x.shadow w.2.1 w.2.2 }) s
  let g' := { g with staged := true, stagedAt := s.frame }
  { s with groups := s.groups.map (fun h => if h.ring = g.ring ∧ h.seq = g.seq then g' else h) }

/-- COEF_GROUP's validation, commit point and staging (R95, R96 steps 1 and 2). -/
def coefGroup (r : Nat) (s : State) : State :=
  s.command r 0x06 (fun _ => true) (fun seq ws s =>
    let w0 := ws.headD 0
    match s.groupBlock (bits w0 36 17) 4096 4096 with
    | .error (st, a) =>
      (if st = stEcc then s.memUe 6 a 2 else s).finish r st 0
    | .ok l =>
      let g : Group := { ring := r, seq := seq, settle := bits w0 16 8
                         at_ := if bitOf w0 24 then some (bits (ws.getD 1 0) 0 32) else none
                         staged := false, stagedAt := s.frame, words := l
                         secs := (l.map (fun p => (p.1, p.2.1 / 5))).eraseDups }
      let s := (s.setExec r (fun e => { e with committed := true }))
      let blocked := s.groupBlocked g
      let s := { s with groups := s.groups ++ [g] }
      if blocked then s else s.stageGroup g)

/-- COEF_GROUP. -/
def execCoefGroup (r : RingIx) (s : State) : Result := .next (coefGroup r.val s)

/-- The ring's group, if it has one. -/
def State.groupOf (s : State) (r : Nat) : Option Group := s.groups.find? (fun g => g.ring == r)

/-- COEF_GROUP_STAGE (R98): a waiting group stages once the groups it waited for have flipped. -/
def coefGroupStage (r : Nat) (s : State) : State :=
  match s.groupOf r with
  | some g => if g.staged || s.groupBlocked g then s else s.stageGroup g
  | none => s

/-- COEF_GROUP_STAGE. -/
def execCoefGroupStage (r : RingIx) (s : State) : Result := .next (coefGroupStage r.val s)

/-- One section's select bit flips (R91, R96): the copies change places, an engine in the middle of a tick goes on with the
old one, a changed KIND is to be initialised and the settle window is to start at the tile's next tick. -/
def State.flipSection (s : State) (t sec settle : Nat) : State :=
  let oldKind := (s.memWord (slotAddr t (5 * sec))).toNat % 16
  let s := (List.range 5).foldl (fun s i =>
    let slot := 5 * sec + i
    let x := s.tile t
    let act := s.memWord (slotAddr t slot)
    let new := mapGet 0 x.shadow slot
    let old := if s.tileState t = 2 ∧ mapFind x.oldSlots slot = none then mapInsert x.oldSlots slot act else x.oldSlots
    (s.setTile t { x with shadow := mapSet 0 x.shadow slot act, oldSlots := old }).memPut (slotAddr t slot) new) s
  let x := s.tile t
  let newKind := (s.memWord (slotAddr t (5 * sec))).toNat % 16
  s.setTile t { x with sel := if bitOf x.sel sec then clrBitN x.sel sec else setBitN x.sel sec
                       applyInit := if newKind = oldKind then x.applyInit else setBitN x.applyInit sec
                       warned := clrBitN x.warned sec
                       applySettle := mapInsert x.applySettle sec (max settle (mapGet 0 x.applySettle sec)) }

/-- COEF_GROUP_FLIP (R96 steps 3 to 5): at the boundary all select bits of the group flip and the command completes. -/
def coefGroupFlip (r : Nat) (s : State) : State :=
  match s.groupOf r with
  | none => s
  | some g =>
    let due : Bool := match g.at_ with | some f => !later f s.frame | none => true
    if !g.staged || g.stagedAt == s.frame || !due then s
    else
      let s := g.secs.foldl (fun s p => s.flipSection p.1 p.2 g.settle) s
      let s := { s with groups := s.groups.filter (fun h => !(h.ring == g.ring && h.seq == g.seq)) }
      s.finish r stOk s.frame

/-- COEF_GROUP_FLIP. -/
def execCoefGroupFlip (r : RingIx) (s : State) : Result := .next (coefGroupFlip r.val s)

end Sys2Proof.Machine
end

