-- ==== Sys2Proof/Machine/Crc.lean ====
section
/-! DEFINITION. The CRC-32 of R159. -/

namespace Sys2Proof

/-- One byte shifted through the reflected polynomial, `n` bits left. -/
def crcBits : Nat → Nat → Nat
  | 0, c => c
  | n + 1, c => crcBits n (if c % 2 = 1 then (c / 2) ^^^ 0xEDB88320 else c / 2)

/-- The CRC register after a list of bytes. -/
def crcLoop : Nat → List Nat → Nat
  | c, [] => c
  | c, b :: r => crcLoop (crcBits 8 (c ^^^ (b % 256))) r

/-- CRC-32 of IEEE 802.3 over a list of bytes (R159). -/
def crc32 (l : List Nat) : Nat := crcLoop 0xFFFFFFFF l ^^^ 0xFFFFFFFF

end Sys2Proof
end

