-- ==== Sys2Proof/Machine/Router.lean ====
section
/-! DEFINITION. The router: endpoints, crosspoints, the pass with its fades and gains, exchange cells, and the ROUTE
command (chapter Routing, Mixing and Gain). Each tick of a domain starts a pass over the sources as they stood at that tick;
its sinks take their values at the domain's next tick (R110). In domains B and C the pass is evaluated at the tick itself; in
domain A, whose changes begin at the boundary that starts the pass (R115), when the frame ends. -/

namespace Sys2Proof.Machine

/-! ### Endpoints (R101, R102) -/

/-- CLASS of an endpoint code. -/
def epClass (e : Nat) : Nat := bits e 17 3
/-- INDEX of an endpoint code. -/
def epIndex (e : Nat) : Nat := bits e 0 17

/-- The domain of serial port `n`: 1 A, 2 B. -/
def State.sapDom (s : State) (n : Nat) : Nat := s.get (SAP_CFG_DOM n) + 1

/-- The domain of EDGE_IN `i`; `none` for a reserved index. Domain 0 is a bridge side without a domain. -/
def State.edgeInDom (s : State) (i : Nat) : Option Nat :=
  if i < 0x80 then some (s.sapDom (i / 32))
  else if i ≤ 0x81 then some 2
  else if 0x90 ≤ i ∧ i ≤ 0x95 then some 1
  else if 0xA0 ≤ i ∧ i ≤ 0xA7 then some 1
  else if 0xB0 ≤ i ∧ i ≤ 0xB7 then some 3
  else if 0x100 ≤ i ∧ i < 0x200 then some 1
  else if 0x200 ≤ i ∧ i < 0x280 then some (s.get (BRG_CFG_OUT_DOM ((i - 0x200) / 16)))
  else none

/-- The domain of EDGE_OUT `i`; `none` for a reserved index. -/
def State.edgeOutDom (s : State) (i : Nat) : Option Nat :=
  if i < 0x80 then some (s.sapDom (i / 32))
  else if i ≤ 0x81 then some 2
  else if 0x90 ≤ i ∧ i ≤ 0x93 then some 1
  else if 0x98 ≤ i ∧ i ≤ 0x9B then some 1
  else if 0x100 ≤ i ∧ i < 0x200 then some 1
  else if 0x200 ≤ i ∧ i < 0x280 then some (s.get (BRG_CFG_IN_DOM ((i - 0x200) / 16)))
  else none

/-- The source, the sink and the LOWLAT and FOLLOW bits of a descriptor (R106). -/
def xpSrc (d : Nat × Nat) : Nat := bits d.1 0 20
/-- The sink endpoint. -/
def xpSnk (d : Nat × Nat) : Nat := bits d.1 20 20
/-- LOWLAT. -/
def xpLow (d : Nat × Nat) : Bool := bitOf d.1 40
/-- INV. -/
def xpInv (d : Nat × Nat) : Bool := bitOf d.1 41
/-- FOLLOW. -/
def xpFollow (d : Nat × Nat) : Bool := bitOf d.1 42
/-- GAIN, the 16-bit code. -/
def xpGain (d : Nat × Nat) : Nat := bits d.2 0 16
/-- GMODE. -/
def xpGmode (d : Nat × Nat) : Nat := bits d.2 16 2
/-- The zero-crossing timeout in ms. -/
def xpZcMs (d : Nat × Nat) : Nat := bits d.2 18 5 + 1
/-- RAMP_K. -/
def xpRampK (d : Nat × Nat) : Nat := bits d.2 23 4
/-- The index of the FOLLOW cell from 0x1_E000. -/
def xpFollowIx (d : Nat × Nat) : Nat := bits d.2 28 17 - 0x1E000

/-- The gain code MUTE (R107). -/
def gainMute : Nat := 0x8000

/-- A valid gain code (R107). -/
def gainOk (g : Nat) : Bool := g == gainMute || (decide (-7680 ≤ toSigned 16 g) && decide (toSigned 16 g ≤ 1536))

/-- The descriptors in force and fading out, each with its domain. -/
def Xp.live (x : Xp) : List (Nat × (Nat × Nat)) :=
  x.desc.toList.map (fun d => (x.dom, d)) ++ x.old.toList.map (fun d => (x.oldDom, d))

/-- Every descriptor a crosspoint holds, in force, fading out or waiting in its queue, each with its domain (R114). -/
def Xp.paths (x : Xp) : List (Nat × (Nat × Nat)) :=
  x.live ++ x.queue.flatMap (fun c => c.desc.toList.map (fun d => (c.dom, d)))

/-- The descriptor the crosspoint's last change leaves (R113). -/
def Xp.lastDesc (x : Xp) : Option (Nat × Nat) :=
  match x.queue.getLast? with
  | some c => c.desc
  | none => x.desc

/-- A SET that differs only in GAIN, GMODE, ZC_TO or RAMP_K (R113). -/
def gainOnly (d e : Nat × Nat) : Bool := d.1 == e.1 && d.2 / 2 ^ 27 == e.2 / 2 ^ 27

/-- The domain of a stored descriptor, read from its edges (R102). -/
def State.edgesDom (s : State) (d : Nat × Nat) : Option Nat :=
  if epClass (xpSrc d) = 1 then s.edgeInDom (epIndex (xpSrc d))
  else if epClass (xpSnk d) = 2 then s.edgeOutDom (epIndex (xpSnk d))
  else none

/-- The crosspoints whose descriptors lead into sink `snk`, each with the domain that it had when it was validated (R102). -/
def State.sinkDoms (s : State) (snk : Nat) : List (Nat × Nat) :=
  s.xps.flatMap (fun kx => (kx.2.paths.filter (fun p => xpSnk p.2 == snk)).map (fun p => (kx.1, p.1)))

/-- The domain a descriptor for crosspoint `x` gets, or none where R101, R102 or R126 reject it. -/
def State.xpDomain (s : State) (x : Nat) (d : Nat × Nat) : Option Nat :=
  let sc := epClass (xpSrc d)
  let kc := epClass (xpSnk d)
  let si := epIndex (xpSrc d)
  let ki := epIndex (xpSnk d)
  let srcDom : Option (Option Nat) :=
    if sc = 0 then (if si = 0 then some none else none)
    else if sc = 1 then (match s.edgeInDom si with | some 0 => none | some m => some (some m) | none => none)
    else if sc = 3 then (if 0x1E000 ≤ si then some none else none)
    else none
  let snkDom : Option (Option Nat) :=
    if kc = 2 then (match s.edgeOutDom ki with | some 0 => none | some m => some (some m) | none => none)
    else if kc = 3 then (if 0x1E000 ≤ ki then some none else none)
    else none
  match srcDom, snkDom with
  | some a, some b =>
    if sc = 3 ∧ kc = 3 then none
    else
      let own : Option Nat := match a, b with
        | some m, some n => if m = n then some m else none
        | some m, none => some m
        | none, some n => some n
        | none, none => some ((((s.sinkDoms (xpSnk d)).find? (fun p => p.1 != x)).map (fun p => p.2)).getD 1)
      match own with
      | none => none
      | some m => if (s.sinkDoms (xpSnk d)).all (fun p => p.2 == m) then some m else none
  | _, _ => none

/-- The low-latency rules of R126, for a descriptor of crosspoint `x`. -/
def State.lowOk (s : State) (x : Nat) (d : Nat × Nat) : Bool :=
  if xpLow d then
    let lows := s.xps.filter (fun kx => kx.1 != x && kx.2.paths.any (fun p => xpLow p.2))
    epClass (xpSrc d) == 1 && decide (0x90 ≤ epIndex (xpSrc d)) && decide (epIndex (xpSrc d) ≤ 0x95) &&
    epClass (xpSnk d) == 2 && decide (0x98 ≤ epIndex (xpSnk d)) && decide (epIndex (xpSnk d) ≤ 0x9B) && !xpFollow d &&
    decide (lows.length < 4) &&
    decide ((lows.filter (fun kx => kx.2.paths.any (fun p => xpLow p.2 && xpSnk p.2 == xpSnk d))).length < 2)
  else true

/-- Reserved bits and ranges of a descriptor (R106, R107). -/
def descFieldsOk (d : Nat × Nat) : Bool :=
  bits d.1 43 21 == 0 && bits d.2 27 1 == 0 && bits d.2 45 19 == 0 && gainOk (xpGain d) && xpGmode d != 3 &&
  decide (xpRampK d ≤ 10) && (!xpFollow d || decide (0x1E000 ≤ bits d.2 28 17))

/-- The reservation of a non-LOWLAT crosspoint of domain `dom` (R111). -/
def State.xpReserve (s : State) (dom : Nat) (d : Nat × Nat) : Nat :=
  if xpLow d then 0
  else if dom = 2 then 2 * ceilDiv (1005 * s.maxRateB) (1000 * s.framesPerSec)
  else 2

/-- The reservation limit (R111). -/
def State.reserveLimit (s : State) : Nat := if s.rate96 then 1920 else 3968

/-- The reservation all crosspoints hold, each descriptor in the domain it was validated with (R102, R111, R114). -/
def State.reserved (s : State) : Nat :=
  (s.xps.map (fun kx => (kx.2.paths.map (fun p => s.xpReserve p.1 p.2)).sum)).sum

/-- How many descriptors lead into sink `snk` (R109, R114). -/
def State.feeders (s : State) (snk : Nat) : Nat :=
  (s.xps.map (fun kx => (kx.2.paths.filter (fun p => xpSnk p.2 == snk && !xpLow p.2)).length)).sum

/-- Changes that wait in crosspoint queues (R114). -/
def State.queuedChanges (s : State) : Nat := (s.xps.map (fun kx => kx.2.queue.length)).sum

/-! ### Gain (R107) and fade weights (R116) -/

/-- A fixed-point power with 128 fraction bits, `base ^ e`, `n` bits of `e`. -/
def powFix : Nat → Nat → Nat → Nat → Nat
  | 0, acc, _, _ => acc
  | n + 1, acc, base, e => powFix n (if e % 2 = 1 then acc * base / 2 ^ 128 else acc) (base * base / 2 ^ 128) (e / 2)

/-- 10^(e / (1280 × 1024)) with 128 fraction bits: `e` counts 1/1024 of a gain code. -/
def dbFix (e : Int) : Nat :=
  if 0 ≤ e then powFix 24 (2 ^ 128) 340282964706730781432627625529783280910 e.toNat
  else powFix 24 (2 ^ 128) 340281769136196294606949493243940087195 (-e).toNat

/-- The linear gain in units of 2^-32 of `e` / 1024 gain codes: 10^(e / 1310720) within R107's relative error, to the next
unit, and exactly 1 at 0 dB. -/
def dbGain (e : Int) : Int :=
  if e = 0 then 2 ^ 32
  else
    let g := dbFix e / 2 ^ 96
    let tol : Int := (g / 2 ^ 24 : Nat)
    (g : Int) + max (-tol) (min (tol + 1) (Config.gainErr (e % 2 ^ 32).toNat))

/-- The linear gain of a gain code (R107). -/
def gainLin (code : Nat) : Int := if code = gainMute then 0 else dbGain (toSigned 16 code * 1024)

/-- sin of `x`, a value with 128 fraction bits between 0 and π/2, from `n` terms on: `t` is the term and `k` its degree. -/
def sinLoop : Nat → Int → Int → Nat → Int → Int
  | 0, _, _, _, acc => acc
  | n + 1, x2, t, k, acc => sinLoop n x2 (-(t * x2 / 2 ^ 128) / ((k + 1) * (k + 2) : Nat)) (k + 2) (acc + t)

/-- sin(π/2 × m / n) with 128 fraction bits; exact at 0 and 1. -/
def sinFix (m n : Nat) : Int :=
  if n ≤ m then 2 ^ 128
  else
    let x : Int := (1069028584064966747859680373161870783301 * m / (2 * n) : Nat)
    sinLoop 32 (x * x / 2 ^ 128) x 1 0

/-- The weights of fade tick `j` of N = 2^k, new and old, with 128 fraction bits (R116). -/
def fadeWeights (power : Bool) (j k : Nat) : Int × Int :=
  let n := 2 ^ k
  if n ≤ j + 1 then (2 ^ 128, 0)
  else if power then (sinFix (j + 1) n, sinFix (n - (j + 1)) n)
  else let w : Int := ((j + 1) * 2 ^ (128 - k) : Nat); (w, 2 ^ 128 - w)

/-- The gain in force in ramp tick `i` of 2^k (R121): linear in decibels, or in amplitude when an end is MUTE. -/
def rampGain (g0 g1 i k : Nat) : Int :=
  let n := 2 ^ k
  if n ≤ i + 1 then gainLin g1
  else if g0 = gainMute ∨ g1 = gainMute then
    shiftRound true (gainLin g0 * ((n - (i + 1) : Nat) : Int) + gainLin g1 * ((i + 1 : Nat) : Int)) k
  else
    dbGain (toSigned 16 g0 * 1024 + (toSigned 16 g1 - toSigned 16 g0) * ((i + 1 : Nat) : Int) * ((2 ^ (10 - k) : Nat) : Int))

/-- The largest code at most `hi` whose gain does not pass `g`, by bisection. -/
def codeSearch (g : Int) : Nat → Int → Int → Int
  | 0, lo, _ => lo
  | n + 1, lo, hi =>
    let mid := (lo + hi + 1) / 2
    if dbGain (mid * 1024) ≤ g then codeSearch g n mid hi else codeSearch g n lo (mid - 1)

/-- The gain code nearest to a linear gain (R119 APPLIED). -/
def nearestCode (g : Int) : Nat :=
  if g * 2 < dbGain (-7680 * 1024) then gainMute
  else
    let c := codeSearch g 15 (-7680) 1536
    let up := if c < 1536 then c + 1 else c
    fromSigned 16 (if dbGain (up * 1024) - g < g - dbGain (c * 1024) then up else c)

/-! ### The pass (R108 to R110, R116, R120, R121) -/

/-- The front copy of exchange cell `i` as the router reads it (R24, R103, R420). -/
def State.xchFront (s : State) (i : Nat) : Word × State := s.bankTileRead 5 (0x1E000 + i)

/-- The front copy that a pass of domain `dom` reads: domain A's reads the cells as they stood at its frame boundary, which
swaps of the other domains have since replaced (R110). -/
def State.xchRead (s : State) (dom i : Nat) : Word × State :=
  match (if dom = 1 then mapFind s.xpre i else none) with
  | some c => (c, s)
  | none => s.xchFront i

/-- The place of edge `i` among the cells that passes of domain `dom` read and write. -/
def edgeKey (dom i : Nat) : Nat := 1024 * dom + i

/-- A source's cell as it stood at the tick (R101, R102, R110). -/
def State.srcCell (s : State) (dom e : Nat) : Word × State :=
  if epClass e = 1 then ((mapFind s.edgeIn (edgeKey dom (epIndex e))).getD s.zeroCell, s)
  else if epClass e = 3 then s.xchRead dom (epIndex e - 0x1E000)
  else (s.zeroCell, s)

/-- A crosspoint path's output (R108): source × gain × FOLLOW. `src` is the source's cell, `g` the gain in units of 2^-32. -/
def State.pathCell (s : State) (dom : Nat) (d : Nat × Nat) (src : Word) (g : Int) : Word × State :=
  let g := if xpInv d then -g else g
  let f : (Int × Nat) × State :=
    if xpFollow d then
      let r := s.xchRead dom (xpFollowIx d)
      ((max 0 (min (2 ^ 32) (audioOf r.1)), flagsOf r.1), r.2)
    else ((2 ^ 32, 0), s)
  let v := satAudio (shiftRound true (audioOf src * g * f.1.1) 64)
  (mkCell v.1 (tagOf src) (flagsOf src ||| f.1.2 ||| v.2), f.2)

/-- The step of a gain change in this tick: the new gain applies to the whole cell, which carries S (R120, R121). -/
def Xp.step (x : Xp) : Xp :=
  { x with phase := .steady, applied := x.gainTo, gainFrom := x.gainTo, pos := 0, stepS := true }

/-- A ROUTE change has begun or ended: its command completes when its last one has (R115, R122). -/
def State.routeProgress (s : State) (c : XpChange) (isEnd : Bool) : State :=
  match (s.ring c.ring).exec with
  | some e =>
    let w0 := e.words.headD 0
    if e.seq = c.seq ∧ w0 % 256 = 0x07 ∧ bitOf w0 25 = isEnd ∧ 0 < e.left then
      let s := s.setExec c.ring (fun e => { e with left := e.left - 1 })
      if e.left = 1 then s.finish c.ring stOk e.result else s
    else s
  | none => s

/-- The step of crosspoint `n`'s gain change is taken: the change begins and ends at it (R122). -/
def State.takeStep (s : State) (n : Nat) : State :=
  let x := s.xp n
  let s := s.setXp n { x.step with cur := none }
  match x.cur with
  | some c => (s.routeProgress c false).routeProgress c true
  | none => s

/-- Ticks of a zero-crossing timeout (R120). -/
def State.zcTicks (s : State) (dom ms : Nat) : Nat :=
  let f := if dom = 1 then s.framesPerSec else if dom = 2 then s.rateB else 16000
  (ms * f + 500) / 1000

/-- A step taken at the timeout (R120). -/
def State.zcTimeoutStep (s : State) (n : Nat) : State :=
  let x := s.xp n
  let s := s.setXp n { x with zcTimeouts := satNat 16 (x.zcTimeouts + 1) }
  (s.post 0x0410 sevInfo (pack [p16 n, p32 x.pos])).takeStep n

/-- The gain change of crosspoint `n` that waits for a step, in one tick with source AUDIO `a` (R120, R121). -/
def State.zcTick (s : State) (n : Nat) (a : Int) : State :=
  let x := s.xp n
  match x.phase, x.desc with
  | .zcWait, some d =>
    if xpGmode d = 1 || decide (a = 0) || (decide (a < 0) != decide (x.lastSrc < 0)) then s.takeStep n
    else if s.zcTicks x.dom (xpZcMs d) ≤ x.pos then s.zcTimeoutStep n
    else s.setXp n { x with pos := x.pos + 1 }
  | _, _ => s

/-- A ramp outside domain A begins at its first tick, which reports it (R122); in domain A that is the boundary itself. -/
def State.rampBegins (s : State) (n : Nat) : State :=
  let x := s.xp n
  match x.cur with
  | some c => if x.phase == .ramping && x.dom != 1 && x.pos == 0 then s.routeProgress c false else s
  | none => s

/-- The path of descriptor `d`, in force on crosspoint `n`, in one tick: what its sink takes, and the crosspoint after it (R108,
R116, R120, R121). -/
def State.newPath (s : State) (dom n : Nat) (d : Nat × Nat) : (Nat × Word) × State :=
  let src := s.srcCell dom (xpSrc d)
  let s := (src.2.rampBegins n).zcTick n (audioOf src.1)
  let x := s.xp n
  let g : Int := match x.phase with
    | .ramping => rampGain x.gainFrom x.gainTo x.pos (xpRampK d)
    | _ => gainLin x.applied
  let p := s.pathCell dom d src.1 g
  let fading := x.phase == .fading && decide (x.pos < 2 ^ x.fadeK)
  let sflag := if fading || x.stepS || (x.phase == .ramping && decide (x.pos < 2 ^ xpRampK d)) then flagS else 0
  let cell := if fading then
      let w := (fadeWeights x.power x.pos x.fadeK).1
      mkCell (shiftRound true (audioOf p.1 * w) 128) (tagOf p.1) (flagsOf p.1 ||| sflag)
    else orFlags p.1 sflag
  let moves := x.phase == .fading || x.phase == .ramping
  ((xpSnk d, cell), p.2.setXp n { p.2.xp n with
    stepS := false, lastSrc := audioOf src.1, pos := if moves then x.pos + 1 else x.pos })

/-- A tick of crosspoint `n`'s fade has passed in its old path's domain: after tick N - 1 that path is dropped, and with it its
sink and its reservation (R116). -/
def State.oldTicked (s : State) (n : Nat) : State :=
  let x := s.xp n
  s.setXp n { x with posOld := x.posOld + 1, old := if 2 ^ x.fadeK ≤ x.posOld + 1 then none else x.old }

/-- The path of descriptor `d` that fades out on crosspoint `n`, in one tick (R116, R117). -/
def State.oldPath (s : State) (dom n : Nat) (d : Nat × Nat) : (Nat × Word) × State :=
  let x := s.xp n
  let src := s.srcCell dom (xpSrc d)
  let p := src.2.pathCell dom d src.1 (gainLin x.gainFrom)
  let w := (fadeWeights x.power x.posOld x.fadeK).2
  ((xpSnk d, mkCell (shiftRound true (audioOf p.1 * w) 128) (tagOf p.1) (flagsOf p.1 ||| flagS)), p.2.oldTicked n)

/-- What one crosspoint gives its sinks in one tick of domain `dom`: each sink with its term (R108, R116). A LOWLAT path gives
cells to none (R127). -/
def State.xpTick (s : State) (dom n : Nat) : List (Nat × Word) × State :=
  let r : List (Nat × Word) × State := match (s.xp n).desc with
    | some d => if (s.xp n).dom = dom ∧ ¬ xpLow d then let q := s.newPath dom n d; ([q.1], q.2) else ([], s)
    | none => ([], s)
  let x := r.2.xp n
  match x.old with
  | some d =>
    if x.phase == .fading && x.oldDom == dom && !xpLow d then
      let q := r.2.oldPath dom n d
      (r.1 ++ [q.1], q.2)
    else r
  | none => r

/-! ### The low-latency path (R126, R127) -/

/-- The samples of the 384 kHz stream in one frame. -/
def State.lowCount (s : State) : Nat := if s.rate96 then 4 else 8

/-- The source samples of a LOWLAT path in one frame, in units of 2^-32: 0 while its AIN channel is OFF (R120, R127). `low` is what
the minimum-phase filters of the six channels gave. -/
def State.lowSrc (s : State) (low : List (List Int)) (d : Nat × Nat) : List Int :=
  let n := epIndex (xpSrc d) - 0x90
  (List.range s.lowCount).map (fun m => if s.get (AIN_STAT_STATE n) = 0 then 0 else (low.getD n []).getD m 0)

/-- The weights of fade tick `j` of 2^k at each of `cnt` samples, for the old or the new path: from the tick before to this one's
at the last sample, linearly (R127; DESIGN CHOICE, log 38). -/
def lowWeights (power old : Bool) (j k cnt : Nat) : List Int :=
  let now := fadeWeights power j k
  let was : Int × Int := if j = 0 then (0, 2 ^ 128) else fadeWeights power (j - 1) k
  let a := if old then was.2 else was.1
  let b := if old then now.2 else now.1
  (List.range cnt).map (fun m => a + (b - a) * ((m + 1 : Nat) : Int) / ((cnt : Nat) : Int))

/-- The terms of a path: source × gain × weight, rounded as R108 and R116 round a cell's (DESIGN CHOICE, log 38). -/
def lowTerms (inv : Bool) (smp gains weights : List Int) : List Int :=
  ((smp.zip gains).zip weights).map (fun (p : (Int × Int) × Int) =>
    shiftRound true (shiftRound true (p.1.1 * (if inv then -p.1.2 else p.1.2)) 32 * p.2) 128)

/-- The first sample that is 0 or of another sign than the one before it (R120, R127). -/
def crossAt (prev : Int) : List Int → Nat → Option Nat
  | [], _ => none
  | a :: l, m => if a = 0 || (decide (a < 0) != decide (prev < 0)) then some m else crossAt a l (m + 1)

/-- The step of a waiting gain change in this frame: the sample from which the new gain applies, if it is taken (R120, R127). -/
def State.lowStep (s : State) (n : Nat) (d : Nat × Nat) (smp : List Int) : Option Nat × State :=
  let x := s.xp n
  if x.phase != .zcWait then (none, s)
  else match (if xpGmode d = 1 then some 0 else crossAt x.lastSrc smp 0) with
    | some m => (some m, s.takeStep n)
    | none =>
      if s.zcTicks 1 (xpZcMs d) ≤ x.pos then (some 0, s.zcTimeoutStep n)
      else (none, s.setXp n { x with pos := x.pos + 1 })

/-- The LOWLAT path in force on crosspoint `n` in one frame: its output's samples (R127). -/
def State.lowNew (s : State) (low : List (List Int)) (n : Nat) (d : Nat × Nat) : List Int × State :=
  let smp := s.lowSrc low d
  let was := (s.xp n).applied
  let q := s.lowStep n d smp
  let s := q.2
  let x := s.xp n
  let gain := fun (m : Nat) => match x.phase with
    | .ramping => rampGain x.gainFrom x.gainTo x.pos (xpRampK d)
    | _ => match q.1 with
      | some k => gainLin (if m < k then was else x.applied)
      | none => gainLin x.applied
  let fading := x.phase == .fading && decide (x.pos < 2 ^ x.fadeK)
  let ws := if fading then lowWeights x.power false x.pos x.fadeK s.lowCount else List.replicate s.lowCount (2 ^ 128)
  let moves := x.phase == .fading || x.phase == .ramping
  (lowTerms (xpInv d) smp ((List.range s.lowCount).map gain) ws,
   s.setXp n { x with stepS := false, lastSrc := smp.getLastD 0, pos := if moves then x.pos + 1 else x.pos })

/-- The LOWLAT path that fades out on crosspoint `n` in one frame (R116, R127). -/
def State.lowOld (s : State) (low : List (List Int)) (n : Nat) (d : Nat × Nat) : List Int × State :=
  let x := s.xp n
  (lowTerms (xpInv d) (s.lowSrc low d) (List.replicate s.lowCount (gainLin x.gainFrom))
     (lowWeights x.power true x.posOld x.fadeK s.lowCount), s.oldTicked n)

/-- A path's samples are added into the stream of its headphone output (R127). -/
def State.lowAdd (s : State) (d : Nat × Nat) (l : List Int) : State :=
  let k := epIndex (xpSnk d) - 0x98
  let sum := mapGet (List.replicate s.lowCount 0) s.lowSum k
  { s with lowSum := mapInsert s.lowSum k ((sum.zip l).map (fun (p : Int × Int) => p.1 + p.2)) }

/-- The LOWLAT paths of crosspoint `n` in one frame. -/
def State.lowTick (s : State) (low : List (List Int)) (n : Nat) : State :=
  let s := match (s.xp n).desc with
    | some d => if xpLow d then let q := s.lowNew low n d; q.2.lowAdd d q.1 else s
    | none => s
  match (s.xp n).old with
  | some d => if xpLow d ∧ (s.xp n).phase = .fading then let q := s.lowOld low n d; q.2.lowAdd d q.1 else s
  | none => s

/-- The low-latency path in the frame that ends (R127). -/
def State.lowPass (s : State) (low : List (List Int)) : State :=
  (s.xps.map (fun k => k.1)).foldl (fun s n => s.lowTick low n) { s with lowSum := [] }

/-! ### Sinks, swaps and edges (R103, R109, R110) -/

/-- The crosspoints' terms of one pass, with each crosspoint's two fade terms into one sink already summed (R116). -/
def State.passTerms (s : State) (dom : Nat) : List Nat → List (Nat × Word × Nat) × State
  | [] => ([], s)
  | n :: l =>
    let r := s.xpTick dom n
    let mine := match r.1 with
      | [a, b] =>
        if a.1 = b.1 then
          let v := satAudio (audioOf a.2 + audioOf b.2)
          [(a.1, mkCell v.1 (tagOf a.2) (flagsOf a.2 ||| flagsOf b.2 ||| v.2), 2)]
        else [(a.1, a.2, 1), (b.1, b.2, 1)]
      | r => r.map (fun p => (p.1, p.2, 1))
    let q := r.2.passTerms dom l
    (mine ++ q.1, q.2)

/-- A sink's value from its terms (R21, R22, R109). -/
def sinkCell (tag : Nat) (terms : List (Nat × Word × Nat)) : Word :=
  match terms with
  | [(_, c, 1)] => c
  | _ =>
    let v := satAudio ((terms.map (fun t => audioOf t.2.1)).sum)
    mkCell v.1 tag ((terms.foldl (fun f t => f ||| flagsOf t.2.1) 0) ||| v.2)

/-- The address of exchange cell `i`'s back copy (R103). -/
def backAddr (i : Nat) : Nat := bankAddr 5 (0x1C000 + i)

/-- A whole-word write of a back copy, which leaves it without error (R105, R413). -/
def State.backPut (s : State) (i : Nat) (c : Word) : State :=
  { s with xback := mapInsert s.xback i c, ecc := mapErase s.ecc (backAddr i / 8), wb := mapErase s.wb (backAddr i / 8) }

/-- The pass delivers a sink's value: an exchange cell's into its back copy, an edge's for its domain's next tick (R103, R110). -/
def State.deliver (s : State) (dom : Nat) (snk : Nat) (c : Word) : State :=
  if epClass snk = 3 then (if s.bankUp 5 then s.backPut (epIndex snk - 0x1E000) c else s)
  else { s with edgeNext := mapInsert s.edgeNext (edgeKey dom (epIndex snk)) c }

/-- The edges of domain `dom` take what the last pass delivered; a side that has since moved to another domain takes nothing
(R102, R110). -/
def State.takeSinks (s : State) (dom : Nat) : State :=
  let mine := fun (p : Nat × Word) => p.1 / 1024 == dom
  let due := (s.edgeNext.filter mine).filter (fun p => s.edgeOutDom (p.1 % 1024) == some dom)
  { s with edgeOut := due.foldl (fun m p => mapInsert m (p.1 % 1024) p.2) (s.edgeOut.filter (fun p => s.edgeOutDom p.1 != some dom))
           edgeNext := s.edgeNext.filter (fun p => !mine p) }

/-- A crosspoint whose store entry is damaged becomes FREE at once (R124). -/
def State.storeError (s : State) (n : Nat) : State :=
  if mapGet 0 s.xpEcc n = 2 then
    let x := s.xp n
    let s := { s with xpEcc := mapErase s.xpEcc n }
    let s := (s.setXp n { Xp.reset with queue := x.queue }).post 0x0411 sevFault (pack [p16 n])
    match x.cur with
    | some c =>
      let begun := x.phase != .zcWait && !(x.phase == .ramping && x.dom != 1 && x.pos == 0)
      (if begun then s else s.routeProgress c false).routeProgress c true
    | none => s
  else s

/-- The damaged store entries are met. -/
def State.storeErrors (s : State) : State := (s.xpEcc.map (fun k => k.1)).foldl State.storeError s

/-- Store entries take uncorrectable soft errors (R124), which the next pass, or a ROUTE that names them, meets. -/
def State.xpStrike (s : State) (l : List Nat) : State :=
  { s with xpEcc := (l.filter (fun n => decide (n < 1024))).foldl (fun m n => mapInsert m n 2) s.xpEcc }

/-- The pass of domain `dom` over the sources as they stood at its tick, in the frame of that tick (R21, R110). -/
def State.routerPass (s : State) (dom : Nat) : State :=
  let s := s.storeErrors
  let r := s.passTerms dom (s.xps.map (fun k => k.1))
  let sinks := (r.1.map (fun t => t.1)).eraseDups
  sinks.foldl (fun s k => s.deliver dom k (sinkCell (s.frame % 65536) (r.1.filter (fun t => t.1 == k)))) r.2

/-- The domain in which exchange cell `i` swaps (R103): that of the crosspoints it is the sink or FOLLOW cell of. Where crosspoints
of two domains name one cell, the lowest-numbered decides (DESIGN CHOICE, log 37). -/
def State.xchDom (s : State) (i : Nat) : Nat :=
  ((s.xps.flatMap (fun kx => kx.2.live)).find? (fun p =>
    (epClass (xpSnk p.2) == 3 && epIndex (xpSnk p.2) == 0x1E000 + i) || (xpFollow p.2 && xpFollowIx p.2 == i))).elim 1 (fun p => p.1)

/-- Cell `i` swaps: its front copy takes the back copy `c`, with the error of a damaged one (R103, R105). The cell that a pass of
domain A still reads is kept. -/
def State.swapCell (s : State) (dom i : Nat) (c : Word) : State :=
  let was := s.bankTileRead 5 (0x1E000 + i)
  let s : State := if dom = 1 ∨ (mapFind s.xpre i).isSome then s else { s with xpre := mapInsert s.xpre i was.1 }
  let bad := s.mark (backAddr i) == 2
  let s := s.memPut (bankAddr 5 (0x1E000 + i)) c
  let s : State := { s with xback := mapErase s.xback i, ecc := mapErase s.ecc (backAddr i / 8) }
  if bad then { s with ecc := mapInsert s.ecc (bankAddr 5 (0x1E000 + i) / 8) 2 } else s

/-- The swap of domain `dom`'s exchange cells: those whose back copies were written since the last one (R103). -/
def State.swapCells (s : State) (dom : Nat) : State :=
  if ¬ s.bankUp 5 then s
  else (s.xback.filter (fun p => s.xchDom p.1 == dom)).foldl (fun (t : State) p => t.swapCell dom p.1 p.2) s

/-- The edges of domain `dom` become its sources as they stand (R110). -/
def State.latchEdges (s : State) (dom : Nat) : State :=
  let due := s.edgeNew.filter (fun p => s.edgeInDom p.1 == some dom)
  { s with edgeIn := due.foldl (fun m p => mapInsert m (edgeKey dom p.1) p.2) (s.edgeIn.filter (fun p => p.1 / 1024 != dom)) }

/-- An edge cell completes. -/
def State.edgePut (s : State) (i : Nat) (c : Word) : State := { s with edgeNew := mapInsert s.edgeNew i c }

/-- An edge has no source any more: its readers get inserted zeros (R24). -/
def State.edgeClear (s : State) (i : Nat) : State := { s with edgeNew := mapErase s.edgeNew i }

/-- The cell an output edge has taken; a sink that no crosspoint feeds receives inserted zeros (R109). -/
def State.outCell (s : State) (i : Nat) : Word := (mapFind s.edgeOut i).getD s.zeroCell

/-- A tick of domain `dom` at the router begins: its sinks take their values and its exchange cells swap (R103, R110). -/
def State.routerTake (s : State) (dom : Nat) : State := (s.takeSinks dom).swapCells dom

/-! ### The ROUTE command (R112 to R119) -/

/-- The target crosspoints of a ROUTE. -/
def routeTargets (ws : List Nat) : List Nat :=
  let w1 := ws.getD 1 0
  [bits w1 32 10, bits w1 42 10, bits w1 52 10].take (bits (ws.headD 0) 18 2)

/-- The descriptors of a SET. -/
def routeDescs (ws : List Nat) : List (Nat × Nat) :=
  (List.range (bits (ws.headD 0) 18 2)).map (fun i => (ws.getD (2 + 2 * i) 0, ws.getD (3 + 2 * i) 0))

/-- The checks of R114 that hold for every OP; a failing status or none. -/
def State.routeCheck (s : State) (ws : List Nat) : Option Nat :=
  let w0 := ws.headD 0
  let op := bits w0 16 2
  let cnt := bits w0 18 2
  let xs := routeTargets ws
  if op = 3 ∨ cnt = 0 ∨ 10 < bits w0 20 4 ∨ ws.length ≠ (if op = 0 then 2 + 2 * cnt else 2) ∨ ¬ xs.Nodup then some stBadArg
  else if op = 2 ∧ 0x20000 < bits w0 36 17 + 3 * cnt then some stBadArg
  else if op ≠ 2 ∧ s.fullLoad then some stNoResource
  else if xs.any (fun x => mapGet 0 s.xpEcc x == 2) then some stEcc
  else none

/-- A ROUTE ends without effect (R114); a damaged store entry that it met is FREE (R124). -/
def State.routeFail (s : State) (r st : Nat) (ws : List Nat) : State :=
  (if st = stEcc then (routeTargets ws).foldl State.storeError s else s).finish r st 0

/-- The change of one crosspoint joins its queue (R115 step 2). -/
def State.queueChange (s : State) (x : Nat) (c : XpChange) : State :=
  let v := s.xp x
  s.setXp x { v with queue := v.queue ++ [c] }

/-- The change a ROUTE asks of a crosspoint: descriptor `d` in domain `dom`, or none. -/
def routeChange (r seq now : Nat) (ws : List Nat) (d : Option (Nat × Nat)) (dom : Nat) : XpChange :=
  let w0 := ws.headD 0
  { ring := r, seq := seq, queuedAt := now, at_ := if bitOf w0 26 then some (bits (ws.getD 1 0) 0 32) else none
    fadeK := bits w0 20 4, power := bitOf w0 24, desc := d, dom := dom, group := routeTargets ws }

/-- The descriptors of a SET are checked one after another, each against those before it (R114); the status of the
first failure, or the state with all of them queued. `full`: 32 changes were already queued before this ROUTE. -/
def State.routeSetAll (s : State) (r seq : Nat) (ws : List Nat) (full : Bool) : List (Nat × (Nat × Nat)) → Except Nat State
  | [] => .ok s
  | (x, d) :: l =>
    if ¬ descFieldsOk d ∨ ¬ s.lowOk x d then .error stBadArg
    else match s.xpDomain x d with
      | none => .error stBadArg
      | some dom =>
        let s' := s.queueChange x (routeChange r seq s.frame ws (some d) dom)
        if 8 < s'.feeders (xpSnk d) ∨ s.reserveLimit < s'.reserved ∨ full then .error stNoResource
        else s'.routeSetAll r seq ws full l

/-- The ROUTE is past its commit point and its changes are queued. -/
def State.routeCommitted (s : State) (r n : Nat) : State :=
  s.setExec r (fun e => { e with committed := true, left := n })

/-- ROUTE SET (R113, R114, R115 steps 1 and 2); a reserved OP completes BAD_ARG here. -/
def routeSet (r : Nat) (s : State) : State :=
  s.command r 0x07 (fun ws => bits (ws.headD 0) 16 2 == 0 || bits (ws.headD 0) 16 2 == 3) (fun seq ws s =>
    match s.routeCheck ws with
    | some st => s.routeFail r st ws
    | none =>
      match s.routeSetAll r seq ws (decide (32 ≤ s.queuedChanges)) ((routeTargets ws).zip (routeDescs ws)) with
      | .error st => s.routeFail r st ws
      | .ok s' => s'.routeCommitted r (routeTargets ws).length)

/-- ROUTE SET. -/
def execRouteSet (r : RingIx) (s : State) : Result := .next (routeSet r.val s)

/-- ROUTE CLEAR (R113 to R115). -/
def routeClear (r : Nat) (s : State) : State :=
  s.command r 0x07 (fun ws => bits (ws.headD 0) 16 2 == 1) (fun seq ws s =>
    match s.routeCheck ws with
    | some st => s.routeFail r st ws
    | none =>
      if 32 ≤ s.queuedChanges then s.finish r stNoResource 0
      else
        let s := (routeTargets ws).foldl (fun s x => s.queueChange x (routeChange r seq s.frame ws none 1)) s
        s.routeCommitted r (routeTargets ws).length)

/-- ROUTE CLEAR. -/
def execRouteClear (r : RingIx) (s : State) : Result := .next (routeClear r.val s)

/-- STATE of a crosspoint's status word (R119). -/
def Xp.stateCode (x : Xp) : Nat :=
  match x.phase with
  | .fading => 2
  | .zcWait => 3
  | .ramping => 4
  | .steady => if x.desc.isNone then 0 else 1

/-- APPLIED: the gain code in force this tick, during a ramp the nearest one (R119). Domain A's tick of the frame in progress is
counted when the frame ends, the other domains' at the strobe. -/
def Xp.appliedCode (x : Xp) : Nat :=
  match x.phase, x.desc with
  | .ramping, some d =>
    if x.dom = 1 then nearestCode (rampGain x.gainFrom x.gainTo x.pos (xpRampK d))
    else if x.pos = 0 then x.gainFrom
    else nearestCode (rampGain x.gainFrom x.gainTo (x.pos - 1) (xpRampK d))
  | _, _ => x.applied

/-- POS: ticks elapsed in the fade, wait or ramp; in a CLEAR's fade, those of the path that fades out (R119). -/
def Xp.elapsed (x : Xp) : Nat := if x.desc.isNone then x.posOld else x.pos

/-- The three words a QUERY writes for a crosspoint (R119). -/
def Xp.queryWords (x : Xp) : List Nat :=
  let d := x.desc.getD (0, 0)
  [d.1, d.2, x.stateCode + 2 ^ 3 * (x.queue.length % 32) + 2 ^ 8 * (x.elapsed % 2048) + 2 ^ 32 * (x.zcTimeouts % 65536)
     + 2 ^ 48 * (x.appliedCode % 65536)]

/-- ROUTE QUERY (R119). -/
def routeQuery (r : Nat) (s : State) : State :=
  s.command r 0x07 (fun ws => bits (ws.headD 0) 16 2 == 2) (fun _ ws s =>
    match s.routeCheck ws with
    | some st => s.routeFail r st ws
    | none =>
      let l := (routeTargets ws).flatMap (fun x => (s.xp x).queryWords)
      (s.write6 (bits (ws.headD 0) 36 17) l).finish r stOk s.frame)

/-- ROUTE QUERY. -/
def execRouteQuery (r : RingIx) (s : State) : Result := .next (routeQuery r.val s)

/-! ### Changes begin and end (R115 to R122) -/

/-- The change at the head of crosspoint `n`'s queue may begin (R115 step 3, R118). -/
def State.changeReady (s : State) (n : Nat) : Bool :=
  let x := s.xp n
  match x.queue with
  | c :: _ =>
    x.phase == .steady && c.queuedAt != s.frame && (match c.at_ with | some f => !later f s.frame | none => true)
  | [] => false

/-- Change `c` of crosspoint `n` begins (R113, R115, R121, R122), in the domain it was validated with (R102). -/
def State.beginChange (s : State) (n : Nat) (c : XpChange) : State :=
  let x := { s.xp n with queue := (s.xp n).queue.tail }
  match x.desc, c.desc with
  | none, none => ((s.setXp n x).routeProgress c false).routeProgress c true
  | some e, some d =>
    if gainOnly d e then
      let x := { x with desc := some d, gainFrom := x.applied, gainTo := xpGain d, pos := 0, cur := some c }
      if xpGmode d = 2 then
        let s := s.setXp n { x with phase := .ramping }
        if x.dom = 1 then s.routeProgress c false else s
      else s.setXp n { x with phase := .zcWait }
    else
      (s.setXp n { x with desc := some d, dom := c.dom, old := some e, oldDom := x.dom, gainFrom := x.applied
                          applied := xpGain d, gainTo := xpGain d, phase := .fading, pos := 0, posOld := 0, fadeK := c.fadeK
                          power := c.power, zcTimeouts := 0, cur := some c }).routeProgress c false
  | none, some d =>
    (s.setXp n { x with desc := some d, dom := c.dom, old := none, gainFrom := xpGain d, applied := xpGain d
                        gainTo := xpGain d, phase := .fading, pos := 0, posOld := 0, fadeK := c.fadeK, power := c.power
                        zcTimeouts := 0, cur := some c }).routeProgress c false
  | some e, none =>
    (s.setXp n { x with desc := none, old := some e, oldDom := x.dom, gainFrom := x.applied, phase := .fading, pos := 0
                        posOld := 0, fadeK := c.fadeK, power := c.power, cur := some c }).routeProgress c false

/-- ROUTE_CHANGE_BEGIN (R115 step 3): at the first admissible boundary all crosspoints of the change's ROUTE begin. -/
def routeChangeBegin (n : Nat) (s : State) : State :=
  match (s.xp n).queue with
  | [] => s
  | c :: _ =>
    let same := fun (m : Nat) => match (s.xp m).queue with | d :: _ => d.ring == c.ring && d.seq == c.seq | [] => false
    if c.group.all (fun m => same m && s.changeReady m) then
      let s := match (s.ring c.ring).exec with
        | some e => if e.seq = c.seq then s.setExec c.ring (fun e => { e with result := s.frame }) else s
        | none => s
      c.group.foldl (fun s m => match (s.xp m).queue with | d :: _ => s.beginChange m d | [] => s) s
    else s

/-- ROUTE_CHANGE_BEGIN. -/
def execRouteChangeBegin (x : XpIx) (s : State) : Result := .next (routeChangeBegin x.val s)

/-- ROUTE_FADE_END (R115 step 5, R116): both paths have run their N ticks; the old one is dropped. -/
def routeFadeEnd (n : Nat) (s : State) : State :=
  let x := s.xp n
  let k := 2 ^ x.fadeK
  if x.phase == .fading && (x.desc.isNone || decide (k ≤ x.pos)) && (x.old.isNone || decide (k ≤ x.posOld)) then
    -- step 5
    let s := s.setXp n (if x.desc.isNone then { Xp.reset with queue := x.queue }
      else { x with phase := .steady, old := none, pos := 0, posOld := 0, cur := none })
    match x.cur with
    | some c => s.routeProgress c true
    | none => s
  else s

/-- ROUTE_FADE_END. -/
def execRouteFadeEnd (x : XpIx) (s : State) : Result := .next (routeFadeEnd x.val s)

/-- XP_ZC_TIMEOUT (R120): the wait has reached its timeout and the step is taken. -/
def xpZcTimeout (n : Nat) (s : State) : State :=
  let x := s.xp n
  match x.phase, x.desc with
  | .zcWait, some d => if xpGmode d = 0 ∧ s.zcTicks x.dom (xpZcMs d) ≤ x.pos then s.zcTimeoutStep n else s
  | _, _ => s

/-- XP_ZC_TIMEOUT. -/
def execXpZcTimeout (x : XpIx) (s : State) : Result := .next (xpZcTimeout x.val s)

/-- GAIN_RAMP_END (R121, R122): the last ramp tick has passed. -/
def gainRampEnd (n : Nat) (s : State) : State :=
  let x := s.xp n
  match x.phase, x.desc with
  | .ramping, some d =>
    if 2 ^ xpRampK d ≤ x.pos then
      let s := s.setXp n { x with phase := .steady, applied := x.gainTo, gainFrom := x.gainTo, pos := 0, cur := none }
      match x.cur with
      | some c => s.routeProgress c true
      | none => s
    else s
  | _, _ => s

/-- GAIN_RAMP_END. -/
def execGainRampEnd (x : XpIx) (s : State) : Result := .next (gainRampEnd x.val s)

end Sys2Proof.Machine
end

