-- ==== Sys2Proof/Machine/Ports.lean ====
section
/-! DEFINITION. The serial audio ports, their common start, and the IEC 60958 receiver and transmitter
(chapter Serial Audio Ports and IEC 60958 Interface). -/

namespace Sys2Proof.Machine

/-- Hidden state of port `n`. -/
def State.port (s : State) (n : Nat) : Port := mapGet Port.reset s.ports n
/-- Port `n`'s hidden state is replaced. -/
def State.setPort (s : State) (n : Nat) (p : Port) : State := { s with ports := mapSet Port.reset s.ports n p }

/-- Register image of SAP_CFGn. -/
def sapImage (s : State) (n : Nat) : Nat :=
  s.get (SAP_CFG_EN n) + 2 * s.get (SAP_CFG_ROLE n) + 2 ^ 2 * s.get (SAP_CFG_FMT n) + 2 ^ 4 * s.get (SAP_CFG_DOM n)
  + 2 ^ 5 * s.get (SAP_CFG_SLOTS n) + 2 ^ 10 * s.get (SAP_CFG_SWIDTH n) + 2 ^ 12 * s.get (SAP_CFG_WLEN n)
  + 2 ^ 14 * s.get (SAP_CFG_DELAY n) + 2 ^ 15 * s.get (SAP_CFG_FS_LONG n) + 2 ^ 16 * s.get (SAP_CFG_BCLK_INV n)
  + 2 ^ 17 * s.get (SAP_CFG_FS_INV n) + 2 ^ 18 * s.get (SAP_CFG_START_MODE n) + 2 ^ 19 * s.get (SAP_CFG_TX_UNUSED n)
  + 2 ^ 20 * s.get (SAP_CFG_ALIGN n) + 2 ^ 21 * s.get (SAP_CFG_ALIGN_LAG n)

/-- The word length of a WLEN code (R216). -/
def wlenBits (c : Nat) : Nat := match c with | 0 => 16 | 1 => 20 | 2 => 24 | _ => 32
/-- The slot width of a SWIDTH code; 64 in 64-bit slot mode (R187, R216). -/
def slotBits (fmt c : Nat) : Nat := if fmt = 3 then 64 else match c with | 0 => 16 | 1 => 24 | _ => 32


/-- A SAP_CFG image is invalid (R188). `maxB` is DOMB_MAXRATE in Hz, `src` CLK_DOMB_CFG.SRC. -/
def sapInvalid (n v maxB src : Nat) (r96 : Bool) : Bool :=
  let fmt := bits v 2 2
  let slots := bits v 5 5 + 1
  let w := slotBits fmt (bits v 10 2)
  let fs := if bitOf v 4 then maxB else if r96 then 96000 else 48000
  (fmt ≤ 1 && slots != 2) || (fmt != 3 && decide (w < wlenBits (bits v 12 2))) || decide (49152000 < fs * slots * w) ||
  (bitOf v 20 && (bitOf v 4 || fmt != 3 || bits v 21 4 == 0)) || (fmt != 3 && bits v 10 2 == 3) ||
  (bitOf v 1 && src == n + 1)

/-- Port `n`'s state code (R216): 0 OFF, 1 ARMED, 2 WAIT_FS, 3 RUNNING, 4 HOLDOVER. -/
def State.sapState (s : State) (n : Nat) : Nat := s.get (SAP_STAT_STATE n)

/-! ### What the clock monitors count of a port (R141 to R143) -/

/-- Monitor `m` is enabled and watches a clock that is in use (R142). -/
def State.monActive (s : State) (m : Nat) : Bool :=
  s.bit CLK_MON_CFG_EN m && s.awake &&
  (if m < 4 then s.on (SAP_CFG_EN m) && !s.on (SAP_CFG_ROLE m)
   else if m = 4 then s.on SPD_RX_CFG_EN
   else !s.isHead)

/-- The state a monitor reports (R153): 0 IDLE, 1 RUNNING, 2 STOPPED, 3 QUALIFYING. -/
def State.monState (s : State) (m : Nat) : Nat :=
  if s.monActive m then (if s.get (CLK_MON_STAT_STATE m) = 0 then 1 else s.get (CLK_MON_STAT_STATE m)) else 0

/-- The monitor of a domain-B source: 0 to 3 a port's, 4 the receiver's (R134). -/
def State.sourceMon (s : State) : Option Nat :=
  let c := s.get CLK_DOMB_CFG_SRC
  if 1 ≤ c ∧ c ≤ 5 then some (c - 1) else none

/-- A slip is counted in monitor `m` (R141, R143). -/
def State.countSlip (s : State) (m : Nat) : State := (s.bump (CLK_MON_CNT_SLIPS m)).setBit CLK_EVT_SUM_SLIP m

/-- A fill of a follower's hand-off shows the residual drift of its clock, which its monitor counts (R141). -/
def State.followerSlip (s : State) (m : Nat) : State :=
  if s.monActive m && s.sourceMon != some m then s.countSlip m else s

/-- Slot `i` of port `n` is enabled by mask field `f` and exists (R190). -/
def State.slotOn (s : State) (f : Fld) (n i : Nat) : Bool := s.bit f i && decide (i ≤ s.get (SAP_CFG_SLOTS n))

/-- Port `n` leaves its run: nothing is received, its slots' queues are emptied, and it is no longer to begin. Its mute ramps and an
open run of discards go on (R190, R195, R198). -/
def State.sapQuiet (s : State) (n : Nat) : State :=
  let p := s.port n
  let s := s.setPort n { Port.reset with rxRamp := p.rxRamp, txRamp := p.txRamp, discards := p.discards
                                         discardNow := p.discardNow, discardFrame := p.discardFrame }
  (List.range 32).foldl (fun s i => s.edgeClear (32 * n + i)) s

/-- The port's fields take an image. -/
def State.putSapCfg (s : State) (n v : Nat) : State :=
  let s := (((s.put (SAP_CFG_EN n) (bits v 0 1)).put (SAP_CFG_ROLE n) (bits v 1 1)).put (SAP_CFG_FMT n) (bits v 2 2)).put
    (SAP_CFG_DOM n) (bits v 4 1)
  let s := (((s.put (SAP_CFG_SLOTS n) (bits v 5 5)).put (SAP_CFG_SWIDTH n) (bits v 10 2)).put (SAP_CFG_WLEN n) (bits v 12 2)).put
    (SAP_CFG_DELAY n) (bits v 14 1)
  let s := (((s.put (SAP_CFG_FS_LONG n) (bits v 15 1)).put (SAP_CFG_BCLK_INV n) (bits v 16 1)).put (SAP_CFG_FS_INV n)
    (bits v 17 1)).put (SAP_CFG_START_MODE n) (bits v 18 1)
  ((s.put (SAP_CFG_TX_UNUSED n) (bits v 19 1)).put (SAP_CFG_ALIGN n) (bits v 20 1)).put (SAP_CFG_ALIGN_LAG n) (bits v 21 4)

/-- An enabled, validly configured port arms or is to begin at the next boundary (R199). -/
def State.sapArm (s : State) (n : Nat) : State :=
  if s.on (SAP_CFG_EN n) && !s.on (SAP_STAT_CFG_ERR n) && !s.portHold then
    if s.on (SAP_CFG_START_MODE n) then s.put (SAP_STAT_STATE n) 1
    else s.setPort n { s.port n with beginNext := true }
  else s

/-- An image's fields, without its reserved bits. -/
def sapFields (v : Nat) : Nat := v % 2 ^ 25

/-- Port `n`'s configuration `v` is invalid: it is left OFF, and the event carries the register image (R188, R214). -/
def State.sapReject (s : State) (n v : Nat) : State :=
  let s := ((s.put (SAP_STAT_CFG_ERR n) 1).put (SAP_STAT_STATE n) 0).sapQuiet n
  (s.put SAP_SUM_CFG_ERR 1).post 0x0506 sevWarn (pack [p16 n, (64, sapFields v)])

/-- The image is invalid for port `n` as domain B is now declared and sourced (R188). -/
def State.sapBad (s : State) (n v : Nat) : Bool :=
  sapInvalid n v (rateHz (s.get CLK_DOMB_STAT_MAXRATE)) (s.get CLK_DOMB_CFG_SRC) s.rate96

/-- A port configuration is written (R188, R199, R213): a port that runs stops at the next boundary, at which the new one applies;
any other takes it at once. -/
def sapCfgWrite (n v : Nat) (s : State) : State :=
  if s.sapBad n v then (s.putSapCfg n v).sapReject n v
  else
    let s := s.put (SAP_STAT_CFG_ERR n) 0
    if 3 ≤ s.sapState n then s.setPort n { s.port n with pendCfg := some (sapFields v) }
    else (((s.putSapCfg n v).put (SAP_STAT_STATE n) 0).sapQuiet n).sapArm n

/-- SAP_CFG_WRITE. -/
def execSapCfgWrite (p : FourIx) (v : Word) (s : State) : Result := .next (sapCfgWrite p.val v.toNat s)

/-- SAP_MUTE_WRITE (R195): the mutes the ramps follow. -/
def sapMuteWrite (n v : Nat) (s : State) : State :=
  (s.put (SAP_MUTE_TX_MUTE n) (bits v 0 1)).put (SAP_MUTE_RX_MUTE n) (bits v 1 1)

/-- SAP_MUTE_WRITE. -/
def execSapMuteWrite (p : FourIx) (v : Word) (s : State) : Result := .next (sapMuteWrite p.val v.toNat s)

/-! ### Mute ramps (R195) -/

/-- The device mutes every transmit slot: during a fold and during a load's teardown (R195). -/
def State.forcedMute (s : State) : Bool := s.get KEEP_STAT_STATE == 1 || s.get KEEP_STAT_STATE == 2 || s.loadMute

/-- Ticks of a 10 ms ramp in domain `dom`. -/
def State.rampTicks (s : State) (dom : Nat) : Nat :=
  max 1 (if dom = 1 then s.framesPerSec / 100 else s.rateB / 100)

/-- A ramp's next position: towards its length while muted, towards 0 on release. -/
def rampStep (len pos : Nat) (mute : Bool) : Nat := if mute then min len (pos + 1) else pos - 1

/-- A cell under a mute ramp that has gone from `old` to `pos` of `len` ticks: a mute cell of the frame `tag` with M on the way down
and at rest, S on the way back; unchanged outside (R21, R24, R27, R195). -/
def rampCell (tag len old pos : Nat) (mute : Bool) (c : Word) : Word :=
  let a := shiftRound true (2 * audioOf c * ((len - pos : Nat) : Int) + (len : Int)) 0 / (2 * (len : Int))
  if mute then mkCell a tag (flagsOf c ||| flagM)
  else if old = 0 then c
  else mkCell a (tagOf c) (flagsOf c ||| flagS)

/-- PORT_MUTE_RAMP_END (R195): the ramp to mute is complete, or the release is. -/
def portMuteRampEnd (n : Nat) (tx : Bool) (s : State) : State :=
  let len := s.rampTicks (s.sapDom n)
  let p := s.port n
  if tx then
    if s.on (SAP_MUTE_TX_MUTE n) || s.forcedMute then (if len ≤ p.txRamp then s.put (SAP_STAT_TX_MUTED n) 1 else s)
    else s.put (SAP_STAT_TX_MUTED n) 0
  else if s.on (SAP_MUTE_RX_MUTE n) then (if len ≤ p.rxRamp then s.put (SAP_STAT_RX_MUTED n) 1 else s)
  else s.put (SAP_STAT_RX_MUTED n) 0

/-- PORT_MUTE_RAMP_END. -/
def execPortMuteRampEnd (p : FourIx) (tx : Bool) (s : State) : Result := .next (portMuteRampEnd p.val tx s)

/-! ### Receive -/

/-- The width of port `n`'s slots in bit times, and where its data starts after the FSYNC edge (R187). -/
def State.slotWidth (s : State) (n : Nat) : Nat := slotBits (s.get (SAP_CFG_FMT n)) (s.get (SAP_CFG_SWIDTH n))
/-- Data start after the FSYNC edge, in BCLK. -/
def State.dataDelay (s : State) (n : Nat) : Nat :=
  match s.get (SAP_CFG_FMT n) with | 0 => 1 | 1 => 0 | _ => s.get (SAP_CFG_DELAY n)
/-- The slots of a frame. -/
def State.slotCount (s : State) (n : Nat) : Nat := s.get (SAP_CFG_SLOTS n) + 1
/-- BCLK periods of a frame. -/
def State.frameBits (s : State) (n : Nat) : Nat := s.slotCount n * s.slotWidth n

/-- The number that `w` bits spell, the most significant first (R187); bits that are missing read 0. -/
def msbNat (w : Nat) (l : List Bool) : Nat := ((l ++ List.replicate w false).take w).foldl (fun a b => 2 * a + b2n b) 0
/-- The `w` bits of `v`, the most significant first. -/
def msbBits (w v : Nat) : List Bool := (List.range w).map (fun k => bitOf v (w - 1 - k))

/-- The cell of slot `i` in a frame sampled on DIN from its FSYNC edge on: the word is in the slot's first WLEN bit times (R18, R35,
R187, R189). -/
def State.rxCell (s : State) (n i : Nat) (din : List Bool) : Word :=
  let w := s.slotWidth n
  let v := msbNat w (din.drop (s.dataDelay n + w * i))
  if s.get (SAP_CFG_FMT n) = 3 then BitVec.ofNat 64 v
  else
    let k := wlenBits (s.get (SAP_CFG_WLEN n))
    mkCell (widen k (v / 2 ^ (w - k))) s.tag flagV

/-- `k` cells of port `n` are discarded (R196, R198). -/
def State.sapDiscard (s : State) (n k : Nat) : State :=
  let s := (s.bumpBy (SAP_CNT_DISCARD n) k).setBit SAP_SUM_DISCARD n
  let p := s.port n
  s.setPort n { p with discards := p.discards + k, discardNow := true, discardFrame := s.frame }

/-- A cell arrives in slot `i` of an ALIGN port (R196): it replaces a held one of its tag. The queue holds 16; a cell that finds it
full is discarded (DESIGN CHOICE, log 43). -/
def State.alignCell (s : State) (n i : Nat) (c : Word) : State :=
  let q := mapGet [] (s.port n).held i
  let put := fun (s : State) (l : List Word) => s.setPort n { s.port n with held := mapSet [] (s.port n).held i l }
  if q.any (fun x => tagOf x == tagOf c) then (put s (q.filter (fun x => tagOf x != tagOf c) ++ [c])).sapDiscard n 1
  else if 16 ≤ q.length then s.sapDiscard n 1
  else put s (q ++ [c])

/-- SAP_RX_FRAME (R189 to R192, R196): the frame of a running port that started last is completely received; `din` is what DIN held at
its sampling edges, from the FSYNC edge on. The slots of a disrupted frame repeat (R143). -/
def sapRxFrame (n : Nat) (din : List Bool) (s : State) : State :=
  if s.sapState n ≠ 3 ∨ ¬ (s.port n).rxDue then s
  else
    let slip := (s.port n).slip
    let s := s.setPort n { s.port n with rxDue := false, slip := false }
    let p := s.port n
    let cells := (List.range (s.slotCount n)).map (fun i =>
      if slip then repeatFill s.tag (mapFind p.rxLast i) else s.rxCell n i din)
    if s.on (SAP_CFG_ALIGN n) then
      if slip then s
      else (cells.zipIdx).foldl (fun s c => if s.slotOn (SAP_RXMASK_RX_EN n) n c.2 then s.alignCell n c.2 c.1 else s) s
    else if p.rxNew.isSome && p.rxGot then (s.bump (SAP_CNT_RX_OVR n)).setBit SAP_SUM_RX_OVR n
    else s.setPort n { p with rxNew := some cells }

/-- SAP_RX_FRAME. -/
def execSapRxFrame (p : FourIx) (din : List Bool) (s : State) : Result := .next (sapRxFrame p.val din s)

/-- A receive slot delivers cell `c` in this tick, under the receive mute. -/
def State.rxDeliver (s : State) (n i len old pos : Nat) (c : Word) : State :=
  let p := s.port n
  (s.setPort n { p with rxLast := mapInsert p.rxLast i c }).edgePut (32 * n + i)
    (rampCell s.tag len old pos (s.on (SAP_MUTE_RX_MUTE n)) c)

/-- A receive slot delivers an inserted zero in this tick, which a mute marks too (R24, R25, R190). -/
def State.rxZero (s : State) (n i len old pos : Nat) : State :=
  let mute := s.on (SAP_MUTE_RX_MUTE n)
  if mute || old != 0 then s.edgePut (32 * n + i) (rampCell s.tag len old pos mute s.zeroCell) else s.edgeClear (32 * n + i)

/-- A tick's fill of an enabled slot (R192, R194, R197). -/
def State.rxFill (s : State) (n i len old pos : Nat) : State :=
  s.rxDeliver n i len old pos (repeatFill s.tag (mapFind (s.port n).rxLast i))

/-- A tick with fills is counted and, after one without, posted (R141, R192, R197, R198). -/
def State.rxCountFill (s : State) (n : Nat) : State :=
  let s := ((s.bump (SAP_CNT_RX_OVR n)).setBit SAP_SUM_RX_OVR n).followerSlip n
  let s := if (s.port n).rxRun then s else s.post 0x0501 sevWarn (pack [p16 n, p32 s.frame])
  s.setPort n { s.port n with rxRun := true }

/-- The tick's turn of a run of discards (R198). -/
def State.discardTick (s : State) (n : Nat) : State :=
  let p := s.port n
  if p.discardNow then s.setPort n { p with discardNow := false }
  else if p.discards = 0 then s
  else (s.setPort n { p with discards := 0 }).post 0x0503 sevWarn (pack [p16 n, p32 p.discards, p32 p.discardFrame])

/-- The tag that an ALIGN port expects in this frame (R196). -/
def State.alignTag (s : State) (n : Nat) : Nat := (s.frame + 65536 - s.get (SAP_CFG_ALIGN_LAG n)) % 65536

/-- What the tick does with one cell of slot `i`'s queue (R196): it is discarded, delivered now, or held. -/
def State.alignJudge (s : State) (n i : Nat) (r : Option Word × List Word) (c : Word) : (Option Word × List Word) × State :=
  let e := s.alignTag n
  let d := toSigned 16 (tagOf c + 65536 - e)
  if d < 0 then (r, s.sapDiscard n 1)
  else if d = 0 then ((some c, r.2), s)
  else if d < 16 then ((r.1, r.2 ++ [c]), s)
  else (r, (s.sapDiscard n 1).post 0x0507 sevWarn (pack [p16 n, p16 i, p16 (tagOf c), p16 e]))

/-- Slot `i` of an ALIGN port at the tick: the cell it delivers, if one has its tag, and the queue with what is still held (R196,
R197). -/
def State.alignSlot (s : State) (n i : Nat) : Option Word × State :=
  let r := (mapGet [] (s.port n).held i).foldl (fun (r : (Option Word × List Word) × State) c => r.2.alignJudge n i r.1 c) ((none, []), s)
  (r.1.1, r.2.setPort n { r.2.port n with held := mapSet [] (r.2.port n).held i r.1.2 })

/-- The enabled slots of an ALIGN port at the tick: whether one of them got a fill (R197). -/
def State.alignTick (s : State) (n len old pos : Nat) (ons : List Nat) : State :=
  let r := ons.foldl (fun (r : Bool × State) i =>
    let q := r.2.alignSlot n i
    match q.1 with
    | some c => (r.1, q.2.rxDeliver n i len old pos c)
    | none => (true, q.2.rxFill n i len old pos)) (false, s)
  if r.1 then r.2.rxCountFill n else r.2.setPort n { r.2.port n with rxRun := false }

/-- The enabled slots of any other running port at the tick (R191, R192). -/
def State.frameTick (s : State) (n len old pos : Nat) (ons : List Nat) : State :=
  let p := s.port n
  match p.rxNew with
  | some cells =>
    let s := s.setPort n { p with rxNew := none, rxGot := true, rxRun := false }
    ons.foldl (fun s i => s.rxDeliver n i len old pos (cells.getD i 0)) s
  | none =>
    if p.rxGot then (ons.foldl (fun s i => s.rxFill n i len old pos) s).rxCountFill n
    else ons.foldl (fun s i => s.rxZero n i len old pos) s

/-- The receive side of port `n` at a tick of its domain (R190 to R198). -/
def State.portRxTick (s : State) (n : Nat) : State :=
  let p := s.port n
  let st := s.sapState n
  let len := s.rampTicks (s.sapDom n)
  let mute := s.on (SAP_MUTE_RX_MUTE n)
  let old := p.rxRamp
  let pos := rampStep len old mute
  let s := s.setPort n { p with rxRamp := pos }
  let s := if mute then s else s.put (SAP_STAT_RX_MUTED n) 0
  let ons := (List.range 32).filter (fun i => (st == 3 || st == 4) && s.slotOn (SAP_RXMASK_RX_EN n) n i)
  let s := ((List.range 32).filter (fun i => !ons.contains i)).foldl (fun s i => s.rxZero n i len old pos) s
  let s :=
    if st = 4 then ons.foldl (fun s i => s.rxFill n i len old pos) s
    else if st ≠ 3 then s
    else if s.on (SAP_CFG_ALIGN n) then s.alignTick n len old pos ons
    else s.frameTick n len old pos ons
  s.discardTick n

/-! ### Transmit -/

/-- A crosspoint names EDGE_OUT `i` as its sink, one in a fade its old one too (R109, R190). -/
def State.edgeFed (s : State) (i : Nat) : Bool :=
  s.xps.any (fun kx => kx.2.live.any (fun p => epClass (xpSnk p.2) == 2 && epIndex (xpSnk p.2) == i))

/-- The transmit side of port `n` at a tick of its domain, after the router has delivered (R193, R195). Values count as new, and as
dropped, only while the port runs. -/
def State.portTxTick (s : State) (n : Nat) : State :=
  let p := s.port n
  let len := s.rampTicks (s.sapDom n)
  let mute := s.on (SAP_MUTE_TX_MUTE n) || s.forcedMute
  let pos := rampStep len p.txRamp mute
  let vals := (List.range 32).foldl (fun m i =>
    if s.slotOn (SAP_TXMASK_TX_EN n) n i then mapInsert m i (rampCell s.tag len p.txRamp pos mute (s.outCell (32 * n + i))) else m) []
  let runs := s.sapState n == 3
  let s := s.setPort n { p with txVal := vals, txNew := runs, txRamp := pos }
  let s := if mute then s else s.put (SAP_STAT_TX_MUTED n) 0
  if p.txNew && runs then s.bump (SAP_CNT_TX_DROP n) else s

/-- The bits a slot puts on DOUT (R35, R189, R190): none is high impedance. The cell of a path that ends with its delivery is still
sent (R116). -/
def State.slotLine (s : State) (n i : Nat) (c : Option Word) : List (Option Bool) :=
  let w := s.slotWidth n
  if s.slotOn (SAP_TXMASK_TX_EN n) n i && (s.edgeFed (32 * n + i) || (mapFind s.edgeOut (32 * n + i)).isSome) then
    let c := c.getD 0
    let k := wlenBits (s.get (SAP_CFG_WLEN n))
    let v := if s.get (SAP_CFG_FMT n) = 3 then c.toNat else (narrow k (audioOf c)).1 * 2 ^ (w - k)
    (msbBits w v).map some
  else List.replicate w (if s.on (SAP_CFG_TX_UNUSED n) then none else some false)

/-- FSYNC's level in each BCLK of a frame that a controller starts (R187). -/
def State.fsyncWave (s : State) (n : Nat) : List Bool :=
  let len := s.frameBits n
  let fmt := s.get (SAP_CFG_FMT n)
  let high := if fmt ≤ 1 then len / 2 else if s.on (SAP_CFG_FS_LONG n) then s.slotWidth n else 1
  (List.range len).map (fun k => (decide (k < high) != (fmt == 0)) != s.on (SAP_CFG_FS_INV n))

/-- Port `n` puts the slots' bits on its pins in the frame that starts, and FSYNC if it is the controller (R184, R185, R187). Bits that
the data start moves beyond the frame follow in the next one. -/
def State.sapSend (s : State) (n : Nat) (data : List (Option Bool)) : State :=
  let p := s.port n
  let carry := (p.carry ++ List.replicate (s.dataDelay n) (some false)).take (s.dataDelay n)
  let bits := carry ++ data
  let len := s.frameBits n
  s.setPort n { p with
    line := { fsync := if s.on (SAP_CFG_ROLE n) then s.fsyncWave n else [], dout := bits.take len
              launchRising := s.on (SAP_CFG_BCLK_INV n) }
    carry := bits.drop len }

/-- A frame of a running port starts: it sends the values delivered since the last frame, or fills (R193). `first` frames send the
newest values. -/
def State.sapRunFrame (s : State) (n : Nat) (first : Bool) : State :=
  let p := s.port n
  let slots := List.range (s.slotCount n)
  if p.txNew || first then
    (s.setPort n { p with txNew := false, txRun := false, rxDue := true, txSent := p.txVal }).sapSend n
      (slots.flatMap (fun i => s.slotLine n i (mapFind p.txVal i)))
  else
    let fill := slots.foldl (fun m i => mapInsert m i (repeatFill s.tag (mapFind p.txSent i))) []
    let s := ((s.bump (SAP_CNT_TX_UNR n)).setBit SAP_SUM_TX_UNR n).followerSlip n
    let s := if p.txRun then s else s.post 0x0502 sevWarn (pack [p16 n, p32 s.frame])
    (s.setPort n { s.port n with txRun := true, rxDue := true, txSent := fill }).sapSend n
      (slots.flatMap (fun i => s.slotLine n i (mapFind fill i)))

/-- A frame of port `n` starts (R190, R193, R194, R202, R559): a waiting target begins with it, one whose clock has been qualified
again resumes, and an enabled port that does not run sends 0, or before it is armed high impedance under TX_UNUSED. -/
def State.sapFrameStart (s : State) (n : Nat) : State :=
  let st := s.sapState n
  let idle := fun (b : Option Bool) => s.sapSend n (List.replicate (s.frameBits n) b)
  if ¬ s.on (SAP_CFG_EN n) ∨ ¬ s.awake then s
  else if st = 2 then (((s.put (SAP_STAT_STATE n) 3).put (SAP_STAT_START_FRAME n) s.frame)).sapRunFrame n true
  else if st = 3 then s.sapRunFrame n false
  else if st = 4 then
    if (s.port n).resume then ((s.setPort n { s.port n with resume := false }).put (SAP_STAT_STATE n) 3).sapRunFrame n true else s
  else if st = 1 then idle (some false)
  else idle (if s.on (SAP_CFG_TX_UNUSED n) then none else some false)

/-- SAP_TX_FRAME (R186, R193, R202): FSYNC starts a frame of a target port. A controller's frames start at its domain's boundaries
and strobes (R185), with no event of their own. -/
def sapTxFrame (n : Nat) (s : State) : State := if s.on (SAP_CFG_ROLE n) then s else s.sapFrameStart n

/-- SAP_TX_FRAME. -/
def execSapTxFrame (p : FourIx) (s : State) : Result := .next (sapTxFrame p.val s)

/-- A tick of port `n`'s domain (R185, R191 to R193): its slots take their values, a controller's frame starts, and the router gets
what was received. -/
def State.portTick (s : State) (n : Nat) : State :=
  let s := s.portTxTick n
  (if s.on (SAP_CFG_ROLE n) then s.sapFrameStart n else s).portRxTick n

/-! ### The common start (R199 to R205) -/

/-- The units of a mask that are not linked: those other than this one that the head does not see, all of them while its
downstream port is not UP (R203). -/
def State.unlinked (s : State) (mask : Nat) : Nat :=
  maskOf 16 (fun u => bitOf mask u && u != 0 && !(s.bit CHN_STAT_PRESENT u && s.get (CHN_PORT_STAT_STATE 1) == 5))

/-- The least lead of a start (R201, R204). -/
def State.startLead (s : State) : Nat :=
  let l := max 2 (s.get SAP_START_CFG_LEAD)
  if s.isHead then max l (2 + s.get CHN_STAT_HIGHEST) else l

/-- A trigger fixes the start frame (R201). -/
def State.fixStart (s : State) (at_ : Option Nat) : State :=
  let f := (s.frame + s.startLead) % 2 ^ 32
  let f := match at_ with | some a => if later a f then a else f | none => f
  (s.put SAP_START_STAT_START_FRAME f).put SAP_START_STAT_PENDING 1

/-- This unit accepts triggers (R204). -/
def State.triggerOk (s : State) : Bool := s.isHead || s.on SAP_START_CFG_LOCAL

/-- A trigger from the ball or from SAP_START.GO; ignored and counted while one is pending (R201). -/
def State.trigger (s : State) : State :=
  if ¬ s.triggerOk then s
  else if s.on SAP_START_STAT_PENDING then s.bump SAP_START_STAT_IGNORED
  else s.fixStart none

/-- START_BALL_EDGE (R200, R445). -/
def startBallEdge (rising : Bool) (s : State) : State :=
  let hit := s.on SAP_START_CFG_BALL_EDGE != rising
  let s := if hit && s.on PWR_WAKE_EN_START then s.wakeBy 5 else s
  if hit && s.on SAP_START_CFG_BALL_EN && s.awake then s.trigger else s

/-- START_BALL_EDGE. -/
def execStartBallEdge (rising : Bool) (s : State) : Result := .next (startBallEdge rising s)

/-- SAP_START_GO (R200). -/
def sapStartGo (v : Nat) (s : State) : State := if bitOf v 0 then s.trigger else s

/-- SAP_START_GO. -/
def execSapStartGo (v : Word) (s : State) : Result := .next (sapStartGo v.toNat s)

/-- A START command in execution on ring `r` acts as a trigger (R201, R203, R205). -/
def State.startCmd (s : State) (r : Nat) (ws : List Nat) : State :=
  let w0 := ws.headD 0
  let s := s.fixStart (if bitOf w0 16 then some (bits (ws.getD 1 0) 0 32) else none)
  s.setExec r (fun e => { e with committed := true, result := s.get SAP_START_STAT_START_FRAME
                                 mask := s.unlinked (bits w0 32 16) })

/-- START (R200, R201, R204): it waits while a start is pending. -/
def start (r : Nat) (s : State) : State :=
  s.command r 0x09 (fun _ => true) (fun _ ws s =>
    if ¬ s.triggerOk then s.finish r stNotPermitted 0
    else if s.on SAP_START_STAT_PENDING then s
    else s.startCmd r ws)

/-- START. -/
def execStart (r : RingIx) (s : State) : Result := .next (start r.val s)

/-- Port `n` begins its run at this boundary or waits for its clock (R202); a target whose clock has stopped is in HOLDOVER (R213). -/
def State.sapBegin (s : State) (n : Nat) : State :=
  let s := s.setPort n { s.port n with beginNext := false, txNew := false }
  if s.on (SAP_CFG_ROLE n) then
    if s.on (SAP_CFG_DOM n) then s.setPort n { s.port n with beginB := true }
    else (s.put (SAP_STAT_STATE n) 3).put (SAP_STAT_START_FRAME n) s.frame
  else if 2 ≤ s.monState n then (s.put (SAP_STAT_STATE n) 4).put (SAP_STAT_START_FRAME n) s.frame
  else s.put (SAP_STAT_STATE n) 2

/-- An armed port starts at boundary S: a domain-A controller's first counted frame is the one that starts now (R202). -/
def State.sapStartNow (s : State) (n : Nat) : State :=
  let s := s.sapBegin n
  if s.sapState n = 3 then s.sapRunFrame n true else s

/-- The armed ports: SAP0 to SAP3, the receiver, the transmitter (R216). -/
def State.armedMask (s : State) : Nat :=
  maskOf 6 (fun i => if i < 4 then s.sapState i == 1 else if i = 4 then s.spd.armed else s.get SPD_TX_STAT_STATE == 1)

/-- Every armed port begins (R202). -/
def State.startArmed (s : State) : State :=
  let m := s.armedMask
  let s := (bitList 4 m).foldl (fun s n => s.sapStartNow n) s
  let s := if bitOf m 4 then { s with spd := { s.spd with armed := false } } else s
  let s := if bitOf m 5 then { s with spd := { s.spd with beginB := true } } else s
  s.post 0x0504 sevInfo (pack [p32 (s.get SAP_START_STAT_START_FRAME), p16 m])

/-- A START command that waited for a pending start acts in this frame (R201). -/
def State.startWaiting (s : State) : State :=
  match (s.executors 0x09).find? (fun r => match (s.ring r).exec with | some e => !e.committed | none => false) with
  | some r => match (s.ring r).exec with | some e => s.startCmd r e.words | none => s
  | none => s

/-- PORT_START (R202, R205): boundary S has come; the armed ports start, and the START command that fixed S completes. -/
def portStart (s : State) : State :=
  if ¬ s.on SAP_START_STAT_PENDING ∨ later (s.get SAP_START_STAT_START_FRAME) s.frame then s
  else
    let s := s.startArmed.put SAP_START_STAT_PENDING 0
    let s := (s.executors 0x09).foldl (fun s r => match (s.ring r).exec with
      | some e => if e.committed then s.finish r (if e.mask = 0 then stOk else stLinkDown) e.result else s
      | none => s) s
    s.startWaiting

/-- PORT_START. -/
def execPortStart (s : State) : Result := .next (portStart s)

/-- A satellite receives a start frame (R203): a late one starts its ports at the next boundary. -/
def State.startFromHead (s : State) (f : Nat) : State :=
  let s := (s.put SAP_START_STAT_START_FRAME f).put SAP_START_STAT_PENDING 1
  if later f s.frame then s
  else (s.put SAP_SUM_START_LATE 1).post 0x0505 sevWarn (pack [p32 f, p32 s.frame])

/-- What a frame boundary does to the ports that stop or begin at it (R199, R213). -/
def State.portBoundary (s : State) (n : Nat) : State :=
  let p := s.port n
  match p.pendCfg with
  | some v => (((s.putSapCfg n v).put (SAP_STAT_STATE n) 0).sapQuiet n).sapArm n
  | none => if p.beginNext then s.sapBegin n else s

/-- A domain-B strobe starts the domain-B ports that wait for one (R202). -/
def State.portStrobeB (s : State) (n : Nat) : State :=
  let p := s.port n
  if p.beginB then ((s.setPort n { p with beginB := false, txNew := false }).put (SAP_STAT_STATE n) 3).put (SAP_STAT_START_FRAME n) s.frame
  else s

/-- A target port's monitor reports STOPPED, or domain B, which it sources, is in FAULT: the port enters HOLDOVER (R136, R194). -/
def State.portHoldover (s : State) (n : Nat) : State :=
  if s.sapState n = 2 ∨ s.sapState n = 3 then s.put (SAP_STAT_STATE n) 4
  else s.setPort n { s.port n with resume := false }
/-- The clock of a port in HOLDOVER is good again: the port resumes at its next frame start (R143, R194). -/
def State.portResume (s : State) (n : Nat) : State :=
  if s.sapState n = 4 then s.setPort n { s.port n with resume := true } else s

/-! ### IEC 60958 receiver (R206 to R209) -/

/-- The receiver stops: its endpoints deliver inserted zeros, and the block it was receiving is not complete (R206, R208). -/
def State.rxQuiet (s : State) : State :=
  ({ s with spd := { s.spd with half := none, rxNew := none, rxGot := false, last := none, slip := false, capPos := none } }.edgeClear
    0x80).edgeClear 0x81

/-- SPD_SUM.UNLOCK is set when the receiver leaves LOCKED (R217). -/
def State.rxLeaves (s : State) : State := if s.get SPD_RX_STAT_STATE = 2 then s.put SPD_SUM_UNLOCK 1 else s

/-- The receiver's clock stops, or domain B, which it sources, is in FAULT: it holds (R136, R206). -/
def State.rxHoldover (s : State) : State :=
  if s.get SPD_RX_STAT_STATE = 2 then s.rxLeaves.put SPD_RX_STAT_STATE 3 else s

/-- The receiver's clock is good again (R206). -/
def State.rxResume (s : State) : State :=
  if s.get SPD_RX_STAT_STATE = 3 then (s.put SPD_RX_STAT_STATE 1).rxQuiet else s

/-- SPD_RX_CFG_WRITE (R199, R206): EN takes the receiver to SEARCH at once; with START_MODE GROUP it is ARMED until a start, and
counts no frame before. -/
def spdRxCfgWrite (v : Nat) (s : State) : State :=
  let s := ((s.put SPD_RX_CFG_EN (bits v 0 1)).put SPD_RX_CFG_MUTE_NONPCM (bits v 1 1)).put SPD_RX_CFG_START_MODE (bits v 2 1)
  if ¬ bitOf v 0 then
    let s := (s.rxLeaves.put SPD_RX_STAT_STATE 0).rxQuiet
    { s with spd := { s.spd with armed := false } }
  else if s.get SPD_RX_STAT_STATE = 0 ∧ ¬ s.portHold then
    { s.put SPD_RX_STAT_STATE 1 with spd := { s.spd with armed := bitOf v 2 } }
  else if bitOf v 2 then s
  else { s with spd := { s.spd with armed := false } }

/-- SPD_RX_CFG_WRITE. -/
def execSpdRxCfgWrite (v : Word) (s : State) : Result := .next (spdRxCfgWrite v.toNat s)

/-- SPD_LOCK (R206). -/
def spdLock (rate : Nat) (s : State) : State :=
  if s.get SPD_RX_STAT_STATE = 1 ∧ rate ≤ 4 then
    (((s.put SPD_RX_STAT_STATE 2).put SPD_RX_STAT_RATE rate).put SPD_SUM_LOCK 1).post 0x0601 sevInfo (pack [p16 rate])
  else s

/-- SPD_LOCK. -/
def execSpdLock (rate : Nat) (s : State) : Result := .next (spdLock rate s)

/-- SPD_UNLOCK (R206). -/
def spdUnlock (s : State) : State :=
  if s.get SPD_RX_STAT_STATE = 2 then
    ((s.rxLeaves.put SPD_RX_STAT_STATE 1).rxQuiet).post 0x0602 sevWarn (pack [p32 s.frame])
  else s

/-- SPD_UNLOCK. -/
def execSpdUnlock (s : State) : Result := .next (spdUnlock s)

/-- The last delivered cell of a channel. -/
def Spd.lastOf (d : Spd) (ch : Bool) : Option Word := d.last.map (fun p => if ch then p.2 else p.1)

/-- A glitch of the clock that monitor `m` watches, `offset` from where the edge belongs: the slip is counted and posted (R143). -/
def State.monGlitch (s : State) (m offset : Nat) : State := (s.countSlip m).post 0x0202 sevInfo (pack [p16 m, p32 offset])

/-- The bits of a subframe that the block capture takes: the user bit and the channel-status bit, of channel `ch` (R208). A block-start
preamble begins a block. -/
def Spd.capture (d : Spd) (ch : Bool) (slots : Nat) (start : Bool) : Spd :=
  let d := if start && !ch then { d with capPos := some 0, capC := (0, 0), capU := (0, 0) } else d
  match d.capPos with
  | none => d
  | some k =>
    let at_ := fun (w i : Nat) => if k < 192 then w + 2 ^ k * bits slots i 1 else w
    if ch then { d with capPos := some (k + 1), capC := (d.capC.1, at_ d.capC.2 30), capU := (d.capU.1, at_ d.capU.2 29) }
    else { d with capC := (at_ d.capC.1 30, d.capC.2), capU := (at_ d.capU.1 29, d.capU.2) }

/-- The channel-2 subframe completes a frame of cells `a` and `c`: it waits for a tick, or is discarded (R192). Before the first take
the newest waits (R191). -/
def State.spdFrame (s : State) (a c : Word) : State :=
  let d := s.spd
  if d.rxNew.isSome && d.rxGot then
    { (s.bump SPD_RX_CNT_RX_OVR).followerSlip 4 with spd := { d with half := none, slip := false } }
  else { s with spd := { d with half := none, slip := false, rxNew := some (a, c) } }

/-- A subframe of wrong parity is counted, and posted once for a run (R207, R215). -/
def State.parityError (s : State) : State :=
  let d := s.spd
  let s := (s.bump SPD_RX_CNT_PARITY).put SPD_SUM_PARITY 1
  let s := if !d.parNow && !d.parPrev then s.post 0x0604 sevWarn (pack [p32 s.frame]) else s
  { s with spd := { s.spd with parNow := true } }

/-- A biphase or preamble error, `off` cells from where the edge belongs: its frame repeats, its block is not latched (R143, R207,
R208). -/
def State.biphaseError (s : State) (off : Nat) : State :=
  let s := (s.bump SPD_RX_CNT_BIPHASE).monGlitch 4 off
  { s with spd := { s.spd with slip := true, capPos := none } }

/-- SPD_SUBFRAME (R207, R208): bit k of `slots` is time slot k, `start` a block-start preamble, `err` a biphase or preamble error. Frames
of an armed receiver do not count before the start (R202). -/
def spdSubframe (ch : Bool) (slots : Nat) (start : Bool) (err : Option Nat) (s : State) : State :=
  if s.get SPD_RX_STAT_STATE ≠ 2 then s
  else
    let parOk := popCount 28 (bits slots 4 28) % 2 == 0
    let s := match err with
      | some off => s.biphaseError off
      | none =>
        let s : State := { s with spd := s.spd.capture ch slots start }
        if parOk then s else s.parityError
    let d := s.spd
    let fill := fun (c : Bool) => repeatFill s.tag (d.lastOf c)
    let plain := mkCell (widen 24 (bits slots 4 24)) s.tag (if bitOf slots 28 then 0 else flagV)
    let c := if err.isSome || !parOk then fill ch else plain
    if d.armed then s
    else if ¬ ch then { s with spd := { d with half := some c } }
    else match d.half with
      | none => { s with spd := { d with slip := false } }
      | some a => if d.slip then s.spdFrame (fill false) (fill true) else s.spdFrame a c

/-- SPD_SUBFRAME. -/
def execSpdSubframe (ch : Bool) (slots : Nat) (start : Bool) (err : Option Nat) (s : State) : Result :=
  .next (spdSubframe ch slots start err s)

/-- While NONPCM and MUTE_NONPCM are 1, every receiver cell holds AUDIO 0 with M, with no ramp (R209). -/
def State.nonpcmMute (s : State) (c : Word) : Word :=
  if s.on SPD_RX_STAT_NONPCM && s.on SPD_RX_CFG_MUTE_NONPCM then mkCell 0 s.tag (flagsOf c ||| flagM) else c

/-- The receiver's two endpoints deliver cells. -/
def State.spdGive (s : State) (a b : Word) : State := (s.edgePut 0x80 (s.nonpcmMute a)).edgePut 0x81 (s.nonpcmMute b)

/-- The receiver at a domain-B tick (R192, R206). -/
def State.spdRxTick (s : State) : State :=
  let d := s.spd
  let fill := fun (c : Bool) => repeatFill s.tag (d.lastOf c)
  let give := fun (s : State) (a b : Word) => { s with spd := { s.spd with last := some (a, b) } }.spdGive a b
  match s.get SPD_RX_STAT_STATE with
  | 2 => match d.rxNew with
    | some (a, b) => give { s with spd := { d with rxNew := none, rxGot := true } } a b
    | none =>
      if d.rxGot then ((give s (fill false) (fill true)).bump SPD_RX_CNT_RX_OVR).followerSlip 4 else s.spdGive s.zeroCell s.zeroCell
  | 3 => give s (fill false) (fill true)
  | 1 => s.spdGive s.zeroCell s.zeroCell
  | _ => (s.edgeClear 0x80).edgeClear 0x81

/-- Six latched words into their registers. -/
def State.putSix (s : State) (f : Nat → Fld) (ws : List Nat) : State :=
  (List.range 6).foldl (fun s k => s.put (f k) (ws.getD k 0)) s

/-- Six registers' values. -/
def State.getSix (s : State) (f : Nat → Fld) : List Nat := (List.range 6).map (fun k => s.get (f k))

/-- The captured bits of a block as six register words: channel 1's, then channel 2's (R208). -/
def sixWords (c : Nat × Nat) : List Nat := (List.range 3).map (fun k => bits c.1 (64 * k) 64) ++ (List.range 3).map (fun k => bits c.2 (64 * k) 64)

/-- SPD_BLOCK_END (R208, R209): a block of 192 frames is complete without a glitch; its channel-status and user bits are latched
together. -/
def spdBlockEnd (s : State) : State :=
  if s.get SPD_RX_STAT_STATE ≠ 2 ∨ s.spd.capPos ≠ some 192 then s
  else
    let ws := sixWords s.spd.capC
    let changed := s.spd.latched && s.getSix SPD_RX_CS_DATA != ws
    let old := s.get SPD_RX_STAT_NONPCM
    let s := (s.putSix SPD_RX_CS_DATA ws).putSix SPD_RX_UD_DATA (sixWords s.spd.capU)
    let s := s.put SPD_RX_STAT_BLOCK_SEQ (s.get SPD_RX_STAT_BLOCK_SEQ + 1)
    let s := { s with spd := { s.spd with latched := true, parPrev := s.spd.parNow, parNow := false, capPos := none } }
    let s := if changed then (s.put SPD_SUM_CS_CHG 1).post 0x0603 sevInfo (pack [p32 (ws.getD 0 0)]) else s
    let n := bits (ws.getD 0 0) 1 1
    let s := s.put SPD_RX_STAT_NONPCM n
    if n = old then s else (s.put SPD_SUM_NONPCM_CHG 1).post 0x0605 sevInfo (pack [p16 n])

/-- SPD_BLOCK_END. -/
def execSpdBlockEnd (s : State) : Result := .next (spdBlockEnd s)

/-! ### IEC 60958 transmitter (R210 to R212) -/

/-- SPD_TX_CFG_WRITE (R199, R195). -/
def spdTxCfgWrite (v : Nat) (s : State) : State :=
  let s := ((((s.put SPD_TX_CFG_EN (bits v 0 1)).put SPD_TX_CFG_CS_SRC (bits v 1 1)).put SPD_TX_CFG_UD_SRC (bits v 2 1)).put
    SPD_TX_CFG_CS_AUTO_FS (bits v 3 1)).put SPD_TX_CFG_START_MODE (bits v 4 1)
  let s := s.put SPD_TX_CFG_MUTE (bits v 5 1)
  if ¬ bitOf v 0 then
    { s.put SPD_TX_STAT_STATE 0 with spd := { s.spd with beginNext := false, beginB := false, pos := 192 } }
  else if s.get SPD_TX_STAT_STATE = 2 ∨ s.portHold then s
  else if bitOf v 4 then { s.put SPD_TX_STAT_STATE 1 with spd := { s.spd with beginNext := false } }
  else { s.put SPD_TX_STAT_STATE 0 with spd := { s.spd with beginNext := !s.spd.beginB } }

/-- SPD_TX_CFG_WRITE. -/
def execSpdTxCfgWrite (v : Word) (s : State) : Result := .next (spdTxCfgWrite v.toNat s)

/-- TX_CS_COMMIT (R211): the write of SPD_TX_CS5 commits all six words. -/
def txCsCommit (v : Nat) (s : State) : State :=
  let s := (s.put (SPD_TX_CS_DATA 5) v).put SPD_TX_STAT_CS_PEND 1
  { s with spd := { s.spd with csPend := some (s.getSix SPD_TX_CS_DATA) } }

/-- TX_CS_COMMIT. -/
def execTxCsCommit (v : Word) (s : State) : Result := .next (txCsCommit v.toNat s)

/-- TX_UD_COMMIT (R211). -/
def txUdCommit (v : Nat) (s : State) : State :=
  let s := (s.put (SPD_TX_UD_DATA 5) v).put SPD_TX_STAT_CS_PEND 1
  { s with spd := { s.spd with udPend := some (s.getSix SPD_TX_UD_DATA) } }

/-- TX_UD_COMMIT. -/
def execTxUdCommit (v : Word) (s : State) : Result := .next (txUdCommit v.toNat s)

/-- The channel-status code of a domain-B rate code (R211). -/
def fsCode (c : Nat) : Nat := match c with | 0 => 3 | 1 => 0 | 2 => 2 | 3 => 8 | _ => 10

/-- Bits 24 to 27 of a channel's first word replaced (R211). -/
def putFs (w code : Nat) : Nat := w % 2 ^ 24 + code * 2 ^ 24 + w / 2 ^ 28 * 2 ^ 28

/-- SPD_TX_BLOCK_START (R210 to R212): a block starts, and the transmitter takes the committed or received words. -/
def spdTxBlockStart (s : State) : State :=
  let d := s.spd
  if s.get SPD_TX_STAT_STATE ≠ 2 ∨ d.pos < 192 then s
  else
    let csReg := d.csPend.getD d.csReg
    let udReg := d.udPend.getD d.udReg
    let cs := if s.on SPD_TX_CFG_CS_SRC then s.getSix SPD_RX_CS_DATA else csReg
    let ud := if s.on SPD_TX_CFG_UD_SRC then s.getSix SPD_RX_UD_DATA else udReg
    let s := s.put SPD_TX_STAT_BLOCK_SEQ (s.get SPD_TX_STAT_BLOCK_SEQ + 1)
    { s.put SPD_TX_STAT_CS_PEND 0 with
        spd := { d with cs := cs, ud := ud, csReg := csReg, udReg := udReg, csPend := none, udPend := none, pos := 0 } }

/-- SPD_TX_BLOCK_START. -/
def execSpdTxBlockStart (s : State) : Result := .next (spdTxBlockStart s)

/-- The channel status in use, with the rate code where the device inserts it: not while a block's words come from the receiver
(R211, R212). -/
def State.txStatus (s : State) : List Nat :=
  let cs := s.spd.cs
  if s.on SPD_TX_CFG_CS_AUTO_FS && !s.on SPD_TX_CFG_CS_SRC && !s.on SPD_TX_CFG_UD_SRC then
    let c := fsCode (s.get CLK_DOMB_STAT_RATE)
    [putFs (cs.getD 0 0) c, cs.getD 1 0, cs.getD 2 0, putFs (cs.getD 3 0) c, cs.getD 4 0, cs.getD 5 0]
  else cs

/-- A subframe: its preamble, and time slots 4 to 31, slot k as bit k (R36, R210). -/
def subframe (pre : Preamble) (c : Word) (ub cb : Nat) : Subframe :=
  let body := (narrow 24 (audioOf c)).1 + 2 ^ 24 * (1 - flagsOf c % 2) + 2 ^ 25 * ub + 2 ^ 26 * cb
  { preamble := pre, slots := 2 ^ 4 * (body + 2 ^ 27 * (popCount 27 body % 2)) }

/-- Bit `k` of channel `ch`'s 192 bits. -/
def blockBit (ws : List Nat) (ch k : Nat) : Nat := bits (ws.getD (3 * ch + k / 64) 0) (k % 64) 1

/-- The transmitter at a domain-B strobe (R210): one frame. -/
def State.spdTxTick (s : State) : State :=
  let d := s.spd
  let s := if d.beginB then { s.put SPD_TX_STAT_STATE 2 with spd := { d with beginB := false, pos := 192 } } else s
  let d := s.spd
  let len := s.rampTicks 2
  let mute := s.on SPD_TX_CFG_MUTE || s.forcedMute
  let pos := rampStep len d.txRamp mute
  let s := s.put SPD_TX_STAT_MUTED (b2n (mute && decide (len ≤ pos)))
  if s.get SPD_TX_STAT_STATE ≠ 2 then { s with spd := { d with txRamp := pos } }
  else
    let s := if 192 ≤ d.pos then spdTxBlockStart s else s
    let d := s.spd
    let cell := fun (i : Nat) => rampCell s.tag len d.txRamp pos mute (s.outCell i)
    let cs := s.txStatus
    let pre : Preamble := if d.pos = 0 then .block else .first
    let w := fun (p : Preamble) (ch : Nat) => subframe p (cell (0x80 + ch)) (blockBit d.ud ch d.pos) (blockBit cs ch d.pos)
    { s with spd := { d with txRamp := pos, pos := d.pos + 1, wire := some (w pre 0, w .second 1) } }

/-- A frame boundary lets an immediate transmitter begin at the next strobe (R199, R202). -/
def State.spdBoundary (s : State) : State :=
  if s.spd.beginNext then { s with spd := { s.spd with beginNext := false, beginB := true } } else s

end Sys2Proof.Machine
end

