-- ==== Sys2Proof/Machine/Rates.lean ====
section
/-! DEFINITION. The rate domains, the clock monitors and the rate bridges (chapter Rate Domains and Bridges). -/

namespace Sys2Proof.Machine

/-! ### Domain A and domain C (R133, R139, R140) -/

/-- A satellite's domain A enters HOLDOVER (R133, R151). -/
def State.domaHold (s : State) : State :=
  if s.isHead ∨ s.get CLK_DOMA_STAT_STATE = 2 then s
  else ((s.put CLK_DOMA_STAT_STATE 2).put CLK_EVT_SUM_DOMA_HOLD 1).post 0x0208 sevWarn (pack [p32 s.frame])

/-- Domain C is LOCKED_A again, after a slew (R140, R151). -/
def State.domcLocked (s : State) : State :=
  ((s.put CLK_DOMC_STAT_STATE 0).put CLK_DOMC_STAT_SLEW_LEFT 0).post 0x0207 sevInfo
    (pack [p32 s.slewTotal, p32i s.slewOffset])

/-- Domain C leaves FREE, or finds its strobes off the marked frames: it slews over at most 256 strobes, 3 cycles a
strobe (R140). The phase offset is the hardware's; the model takes a free one within the bound of 768 cycles. -/
def State.domcSlew (s : State) : State :=
  let w := s.free.1.toNat
  let s := s.free.2
  let off := w % 769
  let n := ceilDiv off 3
  let s := { s with slewTotal := n, slewOffset := if bitOf w 60 then -(off : Int) else (off : Int) }
  if n = 0 then s.domcLocked else (s.put CLK_DOMC_STAT_STATE 2).put CLK_DOMC_STAT_SLEW_LEFT n

/-- Domain C runs on its own (R139): STANDBY, start-up, or an acquiring satellite. -/
def State.domcFree (s : State) : State := (s.put CLK_DOMC_STAT_STATE 1).put CLK_DOMC_STAT_SLEW_LEFT 0

/-- A domain-C strobe of a slew brings it one step nearer to the marked frames (R140). -/
def State.domcStep (s : State) : State :=
  if s.get CLK_DOMC_STAT_STATE = 2 then
    let l := s.get CLK_DOMC_STAT_SLEW_LEFT - 1
    if l = 0 then s.domcLocked else s.put CLK_DOMC_STAT_SLEW_LEFT l
  else s

/-! ### Domain B (R134 to R137) -/

/-- What follows the clock of monitor `m` holds: a port, the IEC 60958 receiver, domain A (R133, R143, R194, R206). -/
def State.clockHold (s : State) (m : Nat) : State :=
  if m < 4 then s.portHoldover m else if m = 4 then s.rxHoldover else s.domaHold

/-- What follows the clock of monitor `m` goes on: the port from its next frame, the receiver from SEARCH (R143, R206). -/
def State.clockGo (s : State) (m : Nat) : State :=
  if m < 4 then s.portResume m else if m = 4 then s.rxResume else s

/-- A port or receiver that only domain B's state held goes on: its own clock runs (R137). -/
def State.sourceGo (s : State) : Option Nat → State
  | some m => if s.monState m = 1 then s.clockGo m else s
  | none => s

/-- CLK_DOMB_CFG.SRC names a port in controller role: that port's configuration is invalid (R188). -/
def State.sourceConflict (s : State) (src : Nat) : State :=
  let n := src - 1
  if 1 ≤ src ∧ src ≤ 4 ∧ s.on (SAP_CFG_ROLE n) ∧ ¬ s.on (SAP_STAT_CFG_ERR n) then s.sapReject n (sapImage s n) else s

/-- CLK_DOMB_CFG_WRITE (R134, R137, R558). A reserved code in SRC or RATE makes the device ignore the write as a whole; INTERNAL takes
effect at the next strobe. -/
def clkDombCfgWrite (v : Nat) (s : State) : State :=
  let src := bits v 0 3
  let rate := bits v 4 3
  if 6 ≤ src ∨ 5 ≤ rate then s
  else
    let was := s.sourceMon
    let s := (((s.put CLK_DOMB_CFG_SRC src).put CLK_DOMB_CFG_RATE rate).put CLK_DOMB_CFG_AUTO_RATE (bits v 12 1)).put
      CLK_DOMB_CFG_HOLD_MS (bits v 16 16)
    let s : State := if src = 0 then { s with dombFree := true }
      else { (s.put CLK_DOMB_STAT_RATE rate).put CLK_DOMB_STAT_STATE 1 with dombFree := false }
    (s.sourceGo was).sourceConflict src

/-- CLK_DOMB_CFG_WRITE. -/
def execClkDombCfgWrite (v : Word) (s : State) : Result := .next (clkDombCfgWrite v.toNat s)

/-- SRC INTERNAL takes effect: domain B is FREE at the nominal rate written (R137). -/
def State.dombStrobe (s : State) : State :=
  if s.dombFree then
    { (s.put CLK_DOMB_STAT_RATE (s.get CLK_DOMB_CFG_RATE)).put CLK_DOMB_STAT_STATE 0 with dombFree := false }
  else s

/-- DOMB_LOCKED (R137): `meas` is the measured strobe rate in 1/16 Hz. -/
def dombLocked (meas : Nat) (s : State) : State :=
  if s.get CLK_DOMB_STAT_STATE = 1 then (s.put CLK_DOMB_STAT_STATE 2).put CLK_DOMB_STAT_MEAS meas else s

/-- DOMB_LOCKED. -/
def execDombLocked (meas : Nat) (s : State) : Result := .next (dombLocked meas s)

/-- Domain B enters HOLDOVER at the rate it has (R136, R137, R150). -/
def State.dombHold (s : State) : State :=
  let st := s.get CLK_DOMB_STAT_STATE
  if st = 1 ∨ st = 2 then
    { s.put CLK_DOMB_STAT_STATE 3 with
        holdSince := s.frame
        heldB := if s.get CLK_DOMB_STAT_MEAS = 0 then 16 * rateHz (s.get CLK_DOMB_STAT_RATE) else s.get CLK_DOMB_STAT_MEAS }
  else s

/-- The frame number `k` before the present one, modulo 2^32; of a frame number, how many frames ago it was (R7). -/
def State.frameAgo (s : State) (k : Nat) : Nat := (s.frame + 2 ^ 32 - k) % 2 ^ 32

/-- DOMB_HOLD_END (R137): HOLD_MS milliseconds of HOLDOVER have passed. -/
def dombHoldEnd (s : State) : State :=
  let ms := s.get CLK_DOMB_CFG_HOLD_MS
  if s.get CLK_DOMB_STAT_STATE = 3 ∧ ms ≠ 0 ∧ s.framesOfMs ms ≤ s.frameAgo s.holdSince then
    ((s.put CLK_DOMB_STAT_STATE 0).put CLK_EVT_SUM_HOLD_END 1).post 0x0206 sevWarn (pack [p32 ms])
  else s

/-- DOMB_HOLD_END. -/
def execDombHoldEnd (s : State) : Result := .next (dombHoldEnd s)

/-- The supported rate within 0.1 % of `r`, in 1/16 Hz (R137). -/
def standardRate (r : Nat) : Option Nat :=
  (List.range 5).find? (fun c => decide (1000 * ((r : Int) - 16 * (rateHz c : Nat)).natAbs ≤ 16 * rateHz c))

/-- `r` lies within ±0.5 % of `h`. -/
def nearRate (r h : Nat) : Bool := decide (1000 * ((r : Int) - (h : Int)).natAbs ≤ 5 * h)

/-- Domain B enters FAULT at rate `meas`: its source's cells repeat with P (R136, R137, R151). -/
def State.dombFault (s : State) (meas : Nat) : State :=
  if s.get CLK_DOMB_STAT_STATE = 4 then s
  else
    let s := ((s.put CLK_DOMB_STAT_STATE 4).put CLK_EVT_SUM_DOMB_FAULT 1).post 0x0205 sevFault
      (pack [p32 meas, p16 (s.get CLK_DOMB_STAT_MAXRATE), p16 (s.get CLK_DOMB_CFG_AUTO_RATE)])
    match s.sourceMon with | some m => s.clockHold m | none => s

/-- The source turns out to run at `meas`, beyond ±0.5 % of the rate in force (R137). -/
def State.dombNewRate (s : State) (meas : Nat) : State :=
  match standardRate meas with
  | some c =>
    if c = s.get CLK_DOMB_STAT_RATE then
      (if s.get CLK_DOMB_STAT_STATE = 1 then s else s.put CLK_DOMB_STAT_STATE 1)
    else if s.on CLK_DOMB_CFG_AUTO_RATE && decide (c ≤ s.get CLK_DOMB_STAT_MAXRATE) then
      (s.put CLK_DOMB_STAT_RATE c).put CLK_DOMB_STAT_STATE 1
    else s.dombFault meas
  | none => s.dombFault meas

/-- Domain B's source is qualified at `meas` after a stop (R137). -/
def State.dombResume (s : State) (meas : Nat) : State :=
  if s.get CLK_DOMB_STAT_STATE = 3 then
    if nearRate meas s.heldB then (s.put CLK_DOMB_STAT_STATE 2).put CLK_DOMB_STAT_MEAS meas else s.dombNewRate meas
  else if nearRate meas (16 * rateHz (s.get CLK_DOMB_STAT_RATE)) then s.put CLK_DOMB_STAT_STATE 1
  else s.dombNewRate meas

/-! ### The clock monitors (R142, R143) -/

/-- The rate in 1/16 Hz of a period in 1/256 CK_XO cycle, and the reverse (R153). -/
def rateOfPeriod (p : Nat) : Nat := 24576000 * 256 * 16 / p

/-- The nominal rate in 1/16 Hz of the clock that monitor `m` watches (R142). -/
def State.monNominal (s : State) (m : Nat) : Nat :=
  16 * (if m < 4 then (if s.sapDom m = 2 then s.rateB else s.framesPerSec)
        else if m = 4 then rateHz (s.get SPD_RX_STAT_RATE) else s.framesPerSec)

/-- The rate that monitor `m` tracks: the one it last found, at first the nominal one (R143; DESIGN CHOICE, log 41). -/
def State.tracked (s : State) (m : Nat) : Nat := (mapFind s.monRate m).getD (s.monNominal m)

/-- Monitor `m` in one frame (R142, R143, R153): IDLE while it is not active, QUALIFYING once a stopped clock has edges again; `p` is the
mean of the last 16 periods where there is one. -/
def State.monBoundary (s : State) (m p : Nat) (edge : Bool) : State :=
  if ¬ s.monActive m then
    if s.get (CLK_MON_STAT_STATE m) = 0 then s
    else { s.put (CLK_MON_STAT_STATE m) 0 with monRate := mapErase s.monRate m }
  else
    let st := s.get (CLK_MON_STAT_STATE m)
    let s := if st = 0 then s.put (CLK_MON_STAT_STATE m) 1 else if st = 2 ∧ edge then s.put (CLK_MON_STAT_STATE m) 3 else s
    if p = 0 ∨ 2 ≤ st then s
    else
      let s := s.put (CLK_MON_STAT_PERIOD m) p
      if (mapFind s.monRate m).isSome then s else { s with monRate := mapInsert s.monRate m (rateOfPeriod p) }

/-- Monitor `m` enters STOPPED (R143). -/
def State.monStopped (s : State) (m : Nat) : State :=
  let s := ((s.put (CLK_MON_STAT_STATE m) 2).bump (CLK_MON_CNT_STOPS m)).setBit CLK_EVT_SUM_STOP m
  { s with monStop := mapSet 0 s.monStop m s.frame }

/-- CLK_STOP (R143): no edge for 2 frames. -/
def clkStop (m : Nat) (s : State) : State :=
  if s.monState m ≠ 1 ∧ s.monState m ≠ 3 then s
  else
    let s := s.monStopped m
    let s := s.post 0x0201 sevWarn (pack [p16 m, p32 (s.frameAgo 2)])
    let s := s.clockHold m
    if s.sourceMon == some m then s.dombHold else s

/-- CLK_STOP. -/
def execClkStop (m : MonIx) (s : State) : Result := .next (clkStop m.val s)

/-- CLK_SLIP (R143): the port's frame is realigned and the disrupted frame's slots repeat with P. -/
def clkSlip (m offset : Nat) (s : State) : State :=
  if s.monState m ≠ 1 then s
  else
    let s := s.monGlitch m offset
    if m < 4 then s.setPort m { s.port m with slip := true }
    else if m = 4 then { s with spd := { s.spd with slip := true, capPos := none } }
    else s

/-- CLK_SLIP. -/
def execClkSlip (m : MonIx) (offset : Nat) (s : State) : Result := .next (clkSlip m.val offset s)

/-- CLK_RESUME (R137, R143): 16 consistent periods after STOPPED; `period` in 1/256 CK_XO cycle, `rate` in 1/16 Hz. -/
def clkResume (m period rate : Nat) (s : State) : State :=
  if s.monState m ≠ 2 ∧ s.monState m ≠ 3 then s
  else
    let s := (s.put (CLK_MON_STAT_STATE m) 1).put (CLK_MON_STAT_PERIOD m) period
    let s := s.post 0x0204 sevInfo (pack [p16 m, p32 (s.frameAgo (mapGet 0 s.monStop m))])
    let s : State := { s with monRate := mapInsert s.monRate m rate }
    let s := if s.sourceMon = some m then s.dombResume rate else s
    if s.sourceMon = some m ∧ s.get CLK_DOMB_STAT_STATE = 4 then s else s.clockGo m

/-- CLK_RESUME. -/
def execClkResume (m : MonIx) (period rate : Nat) (s : State) : Result := .next (clkResume m.val period rate s)

/-- Monitor `m` finds the rate `meas` in place of `old` (R143, R151); domain B follows its source (R136, R137). -/
def State.rateChange (s : State) (m old meas : Nat) : State :=
  let s := (s.bump (CLK_MON_CNT_RATE_CHG m)).setBit CLK_EVT_SUM_RATE m
  let s := { s with monRate := mapInsert s.monRate m meas }
  let s := s.post 0x0203 sevWarn (pack [p16 m, p32 old, p32 meas])
  if s.sourceMon ≠ some m then s
  else
    let s := s.dombNewRate meas
    if s.get CLK_DOMB_STAT_STATE = 4 then s else s.clockGo m

/-- CLK_RATE (R137, R143): the mean of the last 16 periods has left the tracked rate by more than 0.5 %. -/
def clkRate (m meas : Nat) (s : State) : State :=
  if s.monState m ≠ 1 ∨ nearRate meas (s.tracked m) then s else s.rateChange m (s.tracked m) meas

/-- CLK_RATE. -/
def execClkRate (m : MonIx) (meas : Nat) (s : State) : Result := .next (clkRate m.val meas s)

/-! ### Rate bridges (R144 to R148) -/

/-- A bridge's hidden state. -/
def State.brg (s : State) (b : Nat) : Brg := mapGet Brg.reset s.brgs b
/-- A bridge's hidden state is replaced. -/
def State.setBrg (s : State) (b : Nat) (x : Brg) : State := { s with brgs := mapSet Brg.reset s.brgs b x }

/-- A bridge configuration image is invalid (R145). Every supported pair of rates has a ratio from 1:6 to 6:1. -/
def brgInvalid (v : Nat) : Bool :=
  bitOf v 0 && (bits v 1 2 == bits v 3 2 || bits v 1 2 == 0 || bits v 3 2 == 0 || bits v 5 5 == 0 || decide (16 < bits v 5 5))

/-- A bridge's state code (R146). -/
def State.brgState (s : State) (b : Nat) : Nat := s.get (BRG_STAT_STATE b)

/-- The bridge leaves SETTLE or LOCKED, if it is in one (R154). -/
def State.brgLeaves (s : State) (b : Nat) : State :=
  if s.brgState b = 2 ∨ s.brgState b = 3 then s.setBit BRG_SUM_UNLOCK b else s

/-- The bridge goes OFF: its outputs are inserted zeros (R146, R147). -/
def State.brgOff (s : State) (b : Nat) : State :=
  let s := (((s.brgLeaves b).put (BRG_STAT_STATE b) 0).put (BRG_STAT_FILL b) 0).put (BRG_STAT_SETTLE_LEFT b) 0
  let s := s.setBrg b Brg.reset
  (List.range 16).foldl (fun s c => s.edgeClear (0x200 + 16 * b + c)) s

/-- The bridge's fields take an image. -/
def State.putBrgCfg (s : State) (b v : Nat) : State :=
  ((((s.put (BRG_CFG_EN b) (bits v 0 1)).put (BRG_CFG_IN_DOM b) (bits v 1 2)).put (BRG_CFG_OUT_DOM b) (bits v 3 2)).put
    (BRG_CFG_CHANS b) (bits v 5 5)).put (BRG_CFG_SETTLE b) (bits v 16 8)

/-- BRG_CFG_WRITE (R145, R147). -/
def brgCfgWrite (b v : Nat) (s : State) : State :=
  let s := (s.brgOff b).putBrgCfg b v
  s.put (BRG_STAT_CFG_ERR b) (b2n (brgInvalid v))

/-- BRG_CFG_WRITE. -/
def execBrgCfgWrite (b : EightIx) (v : Word) (s : State) : Result := .next (brgCfgWrite b.val v.toNat s)

/-- The bridge enters ACQUIRE (R147). -/
def State.brgAcquire (s : State) (b : Nat) : State :=
  ((s.put (BRG_STAT_STATE b) 1).put (BRG_STAT_SETTLE_LEFT b) 0).setBrg b { s.brg b with since := 0 }

/-- BRG_SETTLE (R147): the ratio estimate is within 10 ppm with the FIFO centred. -/
def brgSettle (b ratio : Nat) (s : State) : State :=
  if s.brgState b = 1 then
    let s := (s.put (BRG_STAT_STATE b) 2).put (BRG_RATIO_RATIO b) ratio
    (s.put (BRG_STAT_SETTLE_LEFT b) (16 * s.get (BRG_CFG_SETTLE b))).setBrg b { s.brg b with locked := s.get (BRG_RATIO_RATIO b) }
  else s

/-- BRG_SETTLE. -/
def execBrgSettle (b : EightIx) (ratio : Nat) (s : State) : Result := .next (brgSettle b.val ratio s)

/-- BRG_LOCK (R147): SETTLE × 16 output ticks have elapsed. -/
def brgLock (b : Nat) (s : State) : State :=
  if s.brgState b = 2 ∧ s.get (BRG_STAT_SETTLE_LEFT b) = 0 then
    (s.put (BRG_STAT_STATE b) 3).post 0x1202 sevInfo (pack [p16 b, (48, s.get (BRG_RATIO_RATIO b)), p32 (s.brg b).since])
  else s

/-- BRG_LOCK. -/
def execBrgLock (b : EightIx) (s : State) : Result := .next (brgLock b.val s)

/-- BRG_UNLOCK (R147, R150): the measured ratio is `ratio`. Beyond 0.5 % of the locked one the bridge returns to ACQUIRE, and in ACQUIRE
it only restarts; a smaller change is tracked. -/
def brgUnlock (b ratio : Nat) (s : State) : State :=
  let old := s.get (BRG_RATIO_RATIO b)
  let st := s.brgState b
  if st = 0 ∨ st = 4 then s
  else
    let near := nearRate ratio (if st = 1 then old else (s.brg b).locked)
    let s := if near || st == 1 then s
      else ((s.bump (BRG_CNT_RELOCKS b)).brgLeaves b).post 0x1201 sevWarn (pack [p16 b, (48, (s.brg b).locked), (48, ratio)])
    let s := s.put (BRG_RATIO_RATIO b) ratio
    if near then s else s.brgAcquire b

/-- BRG_UNLOCK. -/
def execBrgUnlock (b : EightIx) (ratio : Nat) (s : State) : Result := .next (brgUnlock b.val ratio s)

/-- BRIDGE_HOLD (R147): no input strobe for 4 nominal periods. -/
def bridgeHold (b : Nat) (s : State) : State :=
  if s.brgState b = 0 ∨ s.brgState b = 4 then s else ((s.brgLeaves b).put (BRG_STAT_STATE b) 4).put (BRG_STAT_SETTLE_LEFT b) 0

/-- BRIDGE_HOLD. -/
def execBridgeHold (b : EightIx) (s : State) : Result := .next (bridgeHold b.val s)

/-- BRIDGE_RESUME (R147). -/
def bridgeResume (b : Nat) (s : State) : State := if s.brgState b = 4 then s.brgAcquire b else s

/-- BRIDGE_RESUME. -/
def execBridgeResume (b : EightIx) (s : State) : Result := .next (bridgeResume b.val s)

/-! A bridge reads its FIFO at a position that lies `lag` input periods behind the newest cell. It moves with the ratio, and is steered
so that an output cell, readable at the tick after the one that computes it, lies 36 output ticks behind its input (R148). Positions
and periods are in units of 2^-44 input periods. -/

/-- The nominal rate of a domain in Hz. -/
def State.domHz (s : State) (d : Nat) : Nat := if d = 1 then s.framesPerSec else if d = 2 then s.rateB else 16000

/-- The ratio a bridge interpolates at (R146): the locked one in SETTLE, else the measured one, at first the nominal one. -/
def State.brgRatio (s : State) (b : Nat) : Nat :=
  let r := if s.brgState b = 2 then (s.brg b).locked else s.get (BRG_RATIO_RATIO b)
  if r ≠ 0 then r else 2 ^ 44 * s.domHz (s.get (BRG_CFG_OUT_DOM b)) / max 1 (s.domHz (s.get (BRG_CFG_IN_DOM b)))

/-- Input periods in one output tick. -/
def State.brgStep (s : State) (b : Nat) : Int := ((2 ^ 88 / max 1 (s.brgRatio b) : Nat) : Int)

/-- The FIFO length of a bridge (R148): 256 above an input rate of three times the output rate. -/
def State.brgDepth (s : State) (b : Nat) : Nat :=
  if 3 * s.domHz (s.get (BRG_CFG_OUT_DOM b)) < s.domHz (s.get (BRG_CFG_IN_DOM b)) then 256 else 128

/-- The time now in CK_XO cycles, `phase` of them after the last frame boundary. -/
def State.xoNow (s : State) (phase : Nat) : Nat := s.tickA * (if s.rate96 then 256 else 512) + phase

/-- Where the read position belongs at an output tick at time `now`: 35 output ticks back, less the newest cell's age (R148). -/
def State.brgCentre (s : State) (b now : Nat) : Int :=
  let age := (now - (s.brg b).inAt) * 2 ^ 44 * s.domHz (s.get (BRG_CFG_IN_DOM b)) / 24576000
  35 * s.brgStep b - ((age : Nat) : Int)

/-- FILL: the input cells ahead of the read position (R154). -/
def State.brgFill (s : State) (b : Nat) : State := s.put (BRG_STAT_FILL b) (satNat 8 ((s.brg b).lag / 2 ^ 44).toNat)

/-- The read position advances by one output tick (R148): in SETTLE and LOCKED a phase error moves it by 0.1 % of the rate at most; in
ACQUIRE it stays centred. -/
def State.brgAdvance (s : State) (b now : Nat) : State :=
  let x := s.brg b
  let step := s.brgStep b
  let c := s.brgCentre b now
  let p := x.lag - step
  let err := c - p
  let move := max (-(step / 1000)) (min (step / 1000) err)
  (s.setBrg b { x with lag := if s.brgState b = 1 then c else p + move, phaseErr := if s.brgState b = 1 then 0 else err }).brgFill b

/-- Cells `i` to `i + k - 1` of a FIFO are read again: they carry P (R148). -/
def repeatCells (i k : Nat) (q : List Word) : List Word :=
  q.take i ++ ((q.drop i).take k).map (fun c => orFlags c flagP) ++ q.drop (i + k)

/-- BRG_SLIP (R148): a phase step of more than 8 input periods re-centres the FIFO: cells are dropped (−) or repeated (+). -/
def brgSlip (b : Nat) (s : State) : State :=
  let x := s.brg b
  if (s.brgState b = 2 ∨ s.brgState b = 3) ∧ 8 * 2 ^ 44 < x.phaseErr.natAbs then
    let k := (x.phaseErr + 2 ^ 43) / 2 ^ 44
    let i := (x.lag / 2 ^ 44).toNat
    let s := (s.setBrg b { x with lag := x.lag + k * 2 ^ 44, phaseErr := x.phaseErr - k * 2 ^ 44
                                  fifo := x.fifo.map (fun p => (p.1, repeatCells i k.toNat p.2)) }).brgFill b
    ((s.bump (BRG_CNT_SLIPS b)).setBit BRG_SUM_SLIP b).post 0x1203 sevWarn (pack [p16 b, p32i k])
  else s

/-- BRG_SLIP. -/
def execBrgSlip (b : EightIx) (s : State) : Result := .next (brgSlip b.val s)

/-- The input cells of bridge `b`'s input domain tick at time `now` enter its FIFOs (R148). -/
def State.brgInput (s : State) (b now : Nat) : State :=
  if s.brgState b = 0 then s
  else
    let x := s.brg b
    let s := s.setBrg b { x with gotInput := true, inAt := now, lag := x.lag + 2 ^ 44 }
    ((List.range (s.get (BRG_CFG_CHANS b))).foldl (fun s c =>
      let x := s.brg b
      let q := (s.outCell (0x200 + 16 * b + c) :: mapGet [] x.fifo c).take (s.brgDepth b)
      s.setBrg b { x with fifo := mapSet [] x.fifo c q }) s).brgFill b

/-- The cells that the kernel covers at the read position, newest first (R34): where the FIFO holds none yet, inserted zeros (DEDUCED,
log 40). -/
def State.brgWindow (s : State) (b c : Nat) : List Word :=
  let q := mapGet [] (s.brg b).fifo c
  let w := Config.bridgeSpan (s.brgRatio b)
  let i := ((s.brg b).lag / 2 ^ 44).toNat - w.1
  (List.range (min 256 (w.1 + w.2 + 1))).map (fun j => (q[i + j]?).getD s.zeroCell)

/-- The output cell of channel `c` (R34, R146): the kernel's coefficients are not given (log 40); its flags are those of the cells that the
kernel covers. -/
def State.brgCell (s : State) (b c : Nat) : Word :=
  let win := s.brgWindow b c
  let frac := ((s.brg b).lag % 2 ^ 44).toNat
  let sum := (win.zipIdx.map (fun (p : Word × Nat) => audioOf p.1 * Config.bridgeTap (s.brgRatio b) frac p.2)).sum
  let v := satAudio (shiftRound true sum 48)
  mkCell v.1 s.tag (win.foldl (fun f x => f ||| flagsOf x) v.2)

/-- An enabled bridge leaves OFF at its next output tick (R147). -/
def State.brgEnable (s : State) (b : Nat) : State :=
  if s.brgState b = 0 ∧ s.on (BRG_CFG_EN b) ∧ !s.on (BRG_STAT_CFG_ERR b) ∧ s.awake ∧ !s.loadAll then s.brgAcquire b
  else s

/-- The cells bridge `b` completes in its output tick at time `now`. -/
def State.brgCells (s : State) (b now : Nat) : State :=
  let st := s.brgState b
  if st = 0 then s
  else
    let x := s.brg b
    let s := (s.setBrg b { x with since := x.since + 1 }).brgAdvance b now
    let s := if st = 2 then s.put (BRG_STAT_SETTLE_LEFT b) (s.get (BRG_STAT_SETTLE_LEFT b) - 1) else s
    (List.range (s.get (BRG_CFG_CHANS b))).foldl (fun s c =>
      let x := s.brg b
      let v := match st with
        | 1 => if x.gotInput then orFlags (s.brgCell b c) flagX else mkCell 0 s.tag (flagZ ||| flagX)
        | 2 => orFlags (s.brgCell b c) flagS
        | 3 => s.brgCell b c
        | _ => orFlags (repeatFill s.tag (mapFind x.lastOut c)) flagX
      (s.setBrg b { x with lastOut := mapInsert x.lastOut c v }).edgePut (0x200 + 16 * b + c) v) s

/-- The bridges whose output side lies in domain `dom`, at that domain's tick at time `now`. -/
def State.brgOutTick (s : State) (dom now : Nat) : State :=
  (List.range 8).foldl (fun s b =>
    if s.get (BRG_CFG_OUT_DOM b) = dom then (s.brgEnable b).brgCells b now else s) s

/-- The bridges whose input side lies in domain `dom`, at its tick. -/
def State.brgInTick (s : State) (dom now : Nat) : State :=
  (List.range 8).foldl (fun s b => if s.get (BRG_CFG_IN_DOM b) = dom then s.brgInput b now else s) s

end Sys2Proof.Machine
end

