-- ==== Sys2Proof/Machine/Capture.lean ====
section
/-! DEFINITION. Analog inputs, bias outputs and PDM microphones (chapter Analog and PDM Capture; R235 to R237). -/

namespace Sys2Proof.Machine

/-- Channel `n`'s hidden state. -/
def State.ain (s : State) (n : Nat) : Ain := mapGet Ain.reset s.ains n
/-- Channel `n`'s hidden state is replaced. -/
def State.setAin (s : State) (n : Nat) (x : Ain) : State := { s with ains := mapSet Ain.reset s.ains n x }

/-- Privacy mute is engaged (R255). -/
def State.privacy (s : State) : Bool := s.on WAKE_PRIV_STAT_ENGAGED

/-- A count of cells that doubles at 96 kHz. -/
def State.atRate (s : State) (n : Nat) : Nat := if s.rate96 then 2 * n else n

/-- F, the span of a decimation filter (R221). -/
def State.spanF (s : State) (filt : Nat) : Nat :=
  if filt = 0 then (if s.rate96 then 48 else 40) else (if s.rate96 then 32 else 24)

/-- H, the settling count of a high-pass filter (R222). -/
def State.spanH (s : State) (hpf : Nat) : Nat :=
  s.atRate (match hpf with | 0 => 0 | 1 => 15279 | 2 => 1528 | 3 => 382 | _ => 191)

/-- F and H of the filters in force on channel `n`. -/
def State.spanFH (s : State) (n : Nat) : Nat := s.spanF (s.get (AIN_CFG_FILT n)) + s.spanH (s.get (AIN_CFG_HPF n))

/-- A channel's state code (R234): 0 OFF, 1 STARTING, 2 SETTLING, 3 RUNNING. -/
def State.ainState (s : State) (n : Nat) : Nat := s.get (AIN_STAT_STATE n)

/-- The cells of S that remain: those to the end of the latest window that are no inserted zeros (R230). -/
def State.showSettle (s : State) (n : Nat) : State :=
  let x := s.ain n
  s.put (AIN_STAT_SETTLE_LEFT n) (satNat 16 (max x.win x.biasWin - x.zeros))

/-- A channel with a window leaves RUNNING (R224). -/
def State.ainUnsettled (s : State) (n : Nat) : State :=
  if s.ainState n = 3 then (s.showSettle n).put (AIN_STAT_STATE n) 2 else s.showSettle n

/-- A settling window opens on a running channel: `z` inserted zeros and then `a` cells, from the next cell on (R229, R230). -/
def State.ainSettle (s : State) (n z a : Nat) : State :=
  let x := s.ain n
  (s.setAin n { x with zeros := max x.zeros z, win := max x.win (z + a) }).ainUnsettled n

/-- The window of a bias output opens on a channel: `ramp` cells of it, then F (R229). -/
def State.ainBiasSettle (s : State) (n ramp : Nat) : State :=
  let x := s.ain n
  (s.setAin n { x with biasWin := max x.biasWin (ramp + s.spanF (s.get (AIN_CFG_FILT n))) }).ainUnsettled n

/-- The cells left of the window of the ramp of the bias output that BIAS_SEL names; none once the ramp's cells have gone by. -/
def State.biasLeftOf (s : State) (n : Nat) : Nat :=
  match s.get (AIN_CFG_BIAS_SEL n) with
  | 0 => 0
  | k + 1 => mapGet 0 s.biasLeft k

/-- The channel goes OFF: its endpoint delivers inserted zeros (R224). -/
def State.ainOff (s : State) (n : Nat) : State :=
  (((((s.put (AIN_STAT_STATE n) 0).put (AIN_STAT_SETTLE_LEFT n) 0).put (AIN_STAT_ZC_WAIT n) 0).put (AIN_STAT_OVR n) 0).setAin n
    Ain.reset).edgeClear (0x90 + n)

/-- An AIN_CFG image is invalid (R224). -/
def ainInvalid (v : Nat) : Bool :=
  bits v 1 2 == 3 || decide (84 < bits v 3 7) || decide (4 < bits v 11 3) || v / 2 ^ 22 != 0

/-- The gain step of channel `n` is taken (R219): the cells from this one on settle. -/
def State.ainStep (s : State) (n : Nat) : State :=
  let s := (s.put (AIN_STAT_PGA_APPLIED n) (s.get (AIN_CFG_PGA n))).bump (AIN_CNT_GAIN_STEPS n)
  let s := (s.put (AIN_STAT_ZC_WAIT n) 0).setAin n { s.ain n with pend := none }
  s.ainSettle n 0 (s.spanF (s.get (AIN_CFG_FILT n)))

/-- The channel's fields take an image. -/
def State.putAinCfg (s : State) (n v : Nat) : State :=
  let s := (((s.put (AIN_CFG_EN n) (bits v 0 1)).put (AIN_CFG_INMODE n) (bits v 1 2)).put (AIN_CFG_PGA n) (bits v 3 7)).put
    (AIN_CFG_FILT n) (bits v 10 1)
  (((s.put (AIN_CFG_HPF n) (bits v 11 3)).put (AIN_CFG_PGA_ZC n) (bits v 14 1)).put (AIN_CFG_ZC_TO n) (bits v 15 5)).put
    (AIN_CFG_BIAS_SEL n) (bits v 20 2)

/-- What the changed fields of a SETTLING or RUNNING channel do (R219, R224, R229). `old` is the state before the write. -/
def State.ainChanges (s old : State) (n : Nat) : State :=
  let was := fun (f : Fld) => old.get f != s.get f
  let f := s.spanF (s.get (AIN_CFG_FILT n))
  let s := if was (AIN_CFG_INMODE n) then s.ainSettle n (s.atRate 24) (s.spanFH n) else s
  let s := if was (AIN_CFG_PGA n) then
      if s.on (AIN_CFG_PGA_ZC n) then
        (s.put (AIN_STAT_ZC_WAIT n) 1).setAin n { s.ain n with pend := some ((s.ain n).pend.getD s.frame) }
      else s.ainStep n
    else s
  let s := if was (AIN_CFG_FILT n) then s.ainSettle n 0 (max f (old.spanF (old.get (AIN_CFG_FILT n)))) else s
  let s := if was (AIN_CFG_HPF n) then s.ainSettle n 0 (s.spanFH n) else s
  if was (AIN_CFG_BIAS_SEL n) then (s.setAin n { s.ain n with sel := s.get (AIN_CFG_BIAS_SEL n) }).ainBiasSettle n (s.atRate 240) else s

/-- AIN_CFG_WRITE (R224, R232). The fields of a STARTING channel apply when STARTING ends. -/
def ainCfgWrite (n v : Nat) (s : State) : State :=
  let old := s
  let s := s.putAinCfg n v
  if ainInvalid v then
    (((s.ainOff n).put (AIN_STAT_CFG_ERR n) 1).setBit AIN_SUM_CFG_ERR n).post 0x0704 sevWarn (pack [p16 n, (64, regImage (0xE07000 + 0x20 * n) v)])
  else
    let s := s.put (AIN_STAT_CFG_ERR n) 0
    if ¬ bitOf v 0 then s.ainOff n
    else if s.ainState n = 0 then s.setAin n { s.ain n with begin_ := true }
    else if s.ainState n = 1 then s
    else s.ainChanges old n

/-- AIN_CFG_WRITE. -/
def execAinCfgWrite (n : SixIx) (v : Word) (s : State) : Result := .next (ainCfgWrite n.val v.toNat s)

/-- A channel that is to start begins STARTING at this boundary (R224, R229); the window of a bias output whose ramp is under way
runs over its start. -/
def State.ainBegin (s : State) (n : Nat) : State :=
  if (s.ain n).begin_ && s.awake && s.ainState n == 0 && !s.calibrating (1 + n) then
    let z := s.atRate 24
    let s := (s.put (AIN_STAT_STATE n) 1).put (AIN_STAT_PGA_APPLIED n) (s.get (AIN_CFG_PGA n))
    let s := s.setAin n { Ain.reset with zeros := z, win := z + s.spanFH n, sel := s.get (AIN_CFG_BIAS_SEL n) }
    if 0 < s.biasLeftOf n then s.ainBiasSettle n (s.biasLeftOf n) else s.showSettle n
  else s

/-- AIN_STARTING_END (R224, R232): the zeros have elapsed; the window follows the configuration then in force, a BIAS_SEL written
since the start with a window of its own (R229). -/
def ainStartingEnd (n : Nat) (s : State) : State :=
  if s.ainState n = 1 ∧ (s.ain n).zeros = 0 then
    let s := (s.put (AIN_STAT_STATE n) 2).put (AIN_STAT_PGA_APPLIED n) (s.get (AIN_CFG_PGA n))
    let changed := (s.ain n).sel != s.get (AIN_CFG_BIAS_SEL n)
    let s := s.setAin n { s.ain n with win := s.spanFH n, sel := s.get (AIN_CFG_BIAS_SEL n) }
    if changed then s.ainBiasSettle n (s.atRate 240)
    else if 0 < s.biasLeftOf n then s.ainBiasSettle n (s.biasLeftOf n)
    else s.showSettle n
  else s

/-- AIN_STARTING_END. -/
def execAinStartingEnd (n : SixIx) (s : State) : Result := .next (ainStartingEnd n.val s)

/-- AIN_SETTLE_END (R224, R230). -/
def ainSettleEnd (n : Nat) (s : State) : State :=
  let x := s.ain n
  if s.ainState n = 2 ∧ x.zeros = 0 ∧ x.win = 0 ∧ x.biasWin = 0 then s.put (AIN_STAT_STATE n) 3 else s

/-- AIN_SETTLE_END. -/
def execAinSettleEnd (n : SixIx) (s : State) : Result := .next (ainSettleEnd n.val s)

/-- AIN_ZC_TIMEOUT (R219): ZC_TO + 1 ms after the first write. -/
def ainZcTimeout (n : Nat) (s : State) : State :=
  match (s.ain n).pend with
  | some f =>
    if s.framesOfMs (s.get (AIN_CFG_ZC_TO n) + 1) ≤ s.frameAgo f then
      let s := (s.bump (AIN_CNT_ZC_TIMEOUTS n)).setBit AIN_SUM_ZC_TO n
      (s.post 0x0703 sevInfo (pack [p16 n, p16 (s.get (AIN_CFG_PGA n))])).ainStep n
    else s
  | none => s

/-- AIN_ZC_TIMEOUT. -/
def execAinZcTimeout (n : SixIx) (s : State) : Result := .next (ainZcTimeout n.val s)

/-- A cell under privacy mute (R24, R25, R231). -/
def privMute (mute : Bool) (c : Word) : Word := if mute then mkCell 0 (tagOf c) (flagsOf c ||| flagM) else c

/-- The converted cell of channel `n` in this frame (R221, R223, R229): `code` is the converter's 24-bit word. -/
def State.ainConvert (s : State) (n code : Nat) (ovr mute : Bool) : State :=
  let a := widen 24 code
  let x := s.ain n
  let cross := decide (a = 0) || (match x.last with | some p => decide (p < 0) != decide (a < 0) | none => false)
  let s := if x.pend.isSome && cross then s.ainStep n else s
  let x := s.ain n
  let fl := flagV ||| (if 0 < x.win ∨ 0 < x.biasWin then flagS else 0) ||| (if ovr then flagC else 0)
  let s := s.setAin n { x with win := x.win - 1, biasWin := x.biasWin - 1, last := some a, lastC := ovr }
  let s := (s.put (AIN_STAT_OVR n) (b2n ovr)).showSettle n
  let s := if ovr then (s.bump (AIN_CNT_OVR_CELLS n)).setBit AIN_SUM_OVR n else s
  let s := if ovr && !x.lastC then s.post 0x0701 sevWarn (pack [p16 n, p32 s.frame]) else s
  s.edgePut (0x90 + n) (privMute mute (mkCell a s.tag fl))

/-- Channel `n` in one frame (R224, R231): BIAS_SEL is the one in force, which a write during STARTING does not change (R232). An
inserted zero carries no C (R234). -/
def State.ainFrame (s : State) (n code : Nat) (ovr : Bool) : State :=
  let s := s.ainBegin n
  let x := s.ain n
  let mute := s.privacy && (if s.ainState n = 0 then s.get (AIN_CFG_BIAS_SEL n) else x.sel) != 0
  if s.ainState n = 0 then
    if mute then s.edgePut (0x90 + n) (privMute true s.zeroCell) else s.edgeClear (0x90 + n)
  else if s.ainState n = 1 ∨ 0 < x.zeros then
    let s := (s.setAin n { x with zeros := x.zeros - 1, win := x.win - 1, biasWin := x.biasWin - 1, last := none, lastC := false }).showSettle n
    (s.put (AIN_STAT_OVR n) 0).edgePut (0x90 + n) (privMute mute s.zeroCell)
  else s.ainConvert n code ovr mute

/-! ### Bias outputs (R220, R231) -/

/-- Bias `k` begins its ramp; the channels that name it settle (R229). -/
def State.biasStart (s : State) (k : Nat) : State :=
  let s := { s.clrBit AIN_BIAS_STAT_ON k with biasRamp := setBitN s.biasRamp k, biasLeft := mapSet 0 s.biasLeft k (s.atRate 240) }
  (List.range 6).foldl (fun s n => if (s.ain n).sel = k + 1 ∧ s.ainState n ≠ 0 then s.ainBiasSettle n (s.atRate 240) else s) s

/-- Bias `k` is off. -/
def State.biasOff (s : State) (k : Nat) : State :=
  { s.clrBit AIN_BIAS_STAT_ON k with biasRamp := clrBitN s.biasRamp k, biasLeft := mapSet 0 s.biasLeft k 0 }

/-- A frame of every bias output's window has gone by. -/
def State.biasFrame (s : State) : State :=
  { s with biasLeft := (List.range 3).foldl (fun m k => mapSet 0 m k (mapGet 0 m k - 1)) s.biasLeft }

/-- Bias `k` may run: enabled or driven by a jack's detector (R303), not faulted, no privacy mute, the unit awake. -/
def State.biasMay (s : State) (k : Nat) : Bool :=
  (s.on (AIN_BIAS_CFG_EN k) || bitOf s.detBias k) && !s.bit AIN_BIAS_STAT_FAULT k && !s.privacy && s.awake

/-- The enabled biases ramp again (R224, R231). -/
def State.biasRestart (s : State) : State :=
  (List.range 3).foldl (fun s k => if s.biasMay k then s.biasStart k else s) s

/-- AIN_BIAS_CFG_WRITE (R220): EN written to 0 and then to 1 brings a faulted output back. -/
def ainBiasCfgWrite (v : Nat) (s : State) : State :=
  (List.range 3).foldl (fun s k =>
    let was := s.on (AIN_BIAS_CFG_EN k)
    let en := bitOf v (4 * k)
    let s := (s.put (AIN_BIAS_CFG_EN k) (b2n en)).put (AIN_BIAS_CFG_VOLT k) (bits v (4 * k + 1) 2)
    if ¬ en then (if bitOf s.detBias k then s else s.biasOff k).clrBit AIN_BIAS_STAT_FAULT k
    else if ¬ was ∧ s.biasMay k then s.biasStart k
    else s) s

/-- BIAS_RAMP_DONE (R220). -/
def biasRampDone (k : Nat) (s : State) : State :=
  if bitOf s.biasRamp k && s.biasMay k then
    { s.setBit AIN_BIAS_STAT_ON k with biasRamp := clrBitN s.biasRamp k }
  else s

/-- BIAS_RAMP_DONE. -/
def execBiasRampDone (k : ThreeIx) (s : State) : Result := .next (biasRampDone k.val s)

/-- AIN_BIAS_FAULT (R220): 1 ms in current limit. -/
def ainBiasFault (k : Nat) (s : State) : State :=
  if s.biasMay k then
    ((((s.biasOff k).setBit AIN_BIAS_STAT_FAULT k).setBit AIN_SUM_BIAS_FAULT k)).post 0x0702 sevFault (pack [p16 k, p32 s.frame])
  else s

/-! ### PDM microphones (R225 to R229, R235 to R237) -/

/-- CLKk_STATE. -/
def pdmState (c : Nat) : Fld := if c = 0 then PDM_STAT_CLK0_STATE else PDM_STAT_CLK1_STATE
/-- CLKk_ACT. -/
def pdmAct (c : Nat) : Fld := if c = 0 then PDM_CFG_CLK0_ACT else PDM_CFG_CLK1_ACT
/-- CLKk_STBY. -/
def pdmStby (c : Nat) : Fld := if c = 0 then PDM_CFG_CLK0_STBY else PDM_CFG_CLK1_STBY

/-- The unit is in DORMANT. -/
def State.dormant (s : State) : Bool := s.get PWR_STAT_STATE == 3

/-- MIC_PWR is to be on (R237). -/
def State.micWant (s : State) : Bool := s.on PDM_CFG_MIC_PWR_EN && !s.privacy && !s.dormant

/-- Clock `c` is to run (R235). -/
def State.pdmWant (s : State) (c : Nat) : Bool :=
  (bits (s.get PDM_CFG_LP_EN) (4 * c) 4 != 0 || bits (s.get PDM_CFG_HQ_EN) (4 * c) 4 != 0) &&
  s.on PDM_STAT_MIC_PWR_ON && !s.privacy && !s.dormant

/-- The rate code clock `c` is to have: 1 for 3.072 MHz, 2 for 768 kHz (R226, R235). -/
def State.pdmRate (s : State) (c : Nat) : Nat :=
  1 + (if s.get PWR_STAT_STATE = 2 ∨ s.get PWR_STAT_STATE = 4 then s.get (pdmStby c) else s.get (pdmAct c))

/-- MIC_PWR and the clocks that must stop follow their conditions (R235, R237). -/
def State.pdmRefresh (s : State) : State :=
  let on := s.on PDM_STAT_MIC_PWR_ON
  let s := if s.micWant && !on then { s.put PDM_STAT_MIC_PWR_ON 1 with micAt := s.tickC }
           else if !s.micWant && on then s.put PDM_STAT_MIC_PWR_ON 0 else s
  (List.range 2).foldl (fun s c => if s.pdmWant c then s else s.put (pdmState c) 0) s

/-- F_HQ (R227). -/
def State.spanHq (s : State) : Nat := if s.rate96 then 52 else 44

/-- A window on the decimators of clock `c` after a start or a rate change (R229, R230); in sleep the high-quality ones are off. -/
def State.pdmSettle (s : State) (c : Nat) : State :=
  (List.range 4).foldl (fun s i =>
    let m := 4 * c + i
    let s := if s.bit PDM_CFG_HQ_EN m && s.awake then
        { s with hqWin := mapSet 0 s.hqWin m (max (mapGet 0 s.hqWin m) (s.atRate 480 + s.spanHq)) } else s
    if s.bit PDM_CFG_LP_EN m then { s with lpWin := mapSet 0 s.lpWin m (max (mapGet 0 s.lpWin m) 176) } else s) s

/-- PDM_CLOCK_CHANGE (R226): the first domain-C strobe after the request. -/
def pdmClockChange (c : Nat) (s : State) : State :=
  if s.get (pdmState c) ≠ 0 ∧ s.pdmWant c ∧ s.get (pdmState c) ≠ s.pdmRate c then
    (s.put (pdmState c) (s.pdmRate c)).pdmSettle c
  else s

/-- PDM_CLOCK_CHANGE. -/
def execPdmClockChange (c : TwoIx) (s : State) : Result := .next (pdmClockChange c.val s)

/-- PDM_CLOCK_START (R237, R255): at least 1 ms, 16 domain-C ticks, after MIC_PWR has switched on. -/
def pdmClockStart (c : Nat) (s : State) : State :=
  if s.get (pdmState c) = 0 ∧ s.pdmWant c ∧ s.micAt + 16 ≤ s.tickC then
    { (s.put (pdmState c) (s.pdmRate c)).pdmSettle c with micMute := clrBitN s.micMute c }
  else s

/-- PDM_CLOCK_START. -/
def execPdmClockStart (c : TwoIx) (s : State) : Result := .next (pdmClockStart c.val s)

/-- Microphone `j` of an archive lane in a WAKE_ARCH_CFG image. -/
def laneMic (v j : Nat) : Nat := bits v (4 * j + 4) 3

/-- The image of WAKE_ARCH_CFG in force. -/
def State.archImage (s : State) : Nat :=
  s.get WAKE_ARCH_CFG_LANES + ((List.range 4).map (fun j => s.get (WAKE_ARCH_CFG_LANE_MIC j) * 2 ^ (4 * j + 4))).sum

/-- The images are rejected together (R236): a high-quality decimator on a 768 kHz clock, or a lane without its
low-power decimator. -/
def pdmReject (pdm arch : Nat) : Bool :=
  (bits pdm 8 4 != 0 && bitOf pdm 16) || (bits pdm 12 4 != 0 && bitOf pdm 18) ||
  (List.range (bits arch 0 2 + 1)).any (fun j => !bitOf pdm (laneMic arch j))

/-- A rejected write of the PDM/WAKE page (R236, R258). -/
def State.pdmCfgErr (s : State) (addr v : Nat) : State :=
  ((s.put PDM_STAT_CFG_ERR 1).put WAKE_SUM_CFG_ERR 1).post 0x0809 sevWarn (pack [p32 addr, (64, regImage addr v)])

/-- PDM_CFG_WRITE (R229, R235 to R237). DESIGN CHOICE (log 45): a write with HQ_EN m at 1 brings back a high-quality decimator that
a reset left off (R227). -/
def pdmCfgWrite (v : Nat) (s : State) : State :=
  if pdmReject v s.archImage then s.pdmCfgErr 0xE08000 v
  else
    let lp := s.get PDM_CFG_LP_EN
    let hq := s.get PDM_CFG_HQ_EN
    let s := (((s.put PDM_CFG_LP_EN (bits v 0 8)).put PDM_CFG_HQ_EN (bits v 8 8)).put PDM_CFG_CLK0_ACT (bits v 16 1)).put
      PDM_CFG_CLK0_STBY (bits v 17 1)
    let s := (((s.put PDM_CFG_CLK1_ACT (bits v 18 1)).put PDM_CFG_CLK1_STBY (bits v 19 1)).put PDM_CFG_MIC_PWR_EN (bits v 24 1)).put
      PDM_STAT_CFG_ERR 0
    let s := (List.range 8).foldl (fun s m =>
      let s := if bitOf v m && !bitOf lp m then { s with lpWin := mapSet 0 s.lpWin m (max (mapGet 0 s.lpWin m) 16) } else s
      if bitOf v (8 + m) && (!bitOf hq m || bitOf s.hqOff m) then { s with hqWin := mapSet 0 s.hqWin m (max (mapGet 0 s.hqWin m) s.spanHq) } else s) s
    { s with hqOff := maskOf 8 (fun m => bitOf s.hqOff m && !bitOf v (8 + m)) }.pdmRefresh

/-- PDM_CFG_WRITE. -/
def execPdmCfgWrite (v : Word) (s : State) : Result := .next (pdmCfgWrite v.toNat s)

/-- A decimator's cell (R18, R24, R228): `w` in units of 2^-(n-1), saturated to n bits. -/
def pdmAudio (n : Nat) (w : Int) : Int × Nat :=
  let v := satSigned n w
  (v * (2 ^ (33 - n) : Nat), if v = w then 0 else flagC)

/-- M of privacy mute stays on microphone `m`'s path until the first output of its decimator after the release (R255): its clock has
not restarted, and is to. -/
def State.micHeld (s : State) (m : Nat) : Bool := bitOf s.micMute (m / 4) && s.micWant && s.get (pdmState (m / 4)) == 0

/-- High-quality decimator `m` is enabled, and no reset has left it off (R227). -/
def State.hqOn (s : State) (m : Nat) : Bool := s.bit PDM_CFG_HQ_EN m && !bitOf s.hqOff m

/-- The high-quality decimator of microphone `m` in one frame (R227, R231, R255). -/
def State.hqFrame (s : State) (m : Nat) (w : Int) : State :=
  if s.privacy || (s.hqOn m && s.micHeld m) then s.edgePut (0xA0 + m) (mkCell 0 s.tag (flagV ||| flagM))
  else if s.hqOn m && s.get (pdmState (m / 4)) != 0 && s.awake then
    let l := mapGet 0 s.hqWin m
    let a := pdmAudio 24 w
    { s with hqWin := mapSet 0 s.hqWin m (l - 1) }.edgePut (0xA0 + m)
      (mkCell a.1 s.tag (flagV ||| a.2 ||| (if 0 < l then flagS else 0)))
  else s.edgeClear (0xA0 + m)

/-- The low-power decimator's sample at a domain-C strobe: its 20-bit value and flags, or none while it is stopped. -/
def State.lpSample (s : State) (m : Nat) (w : Int) : Option (Int × Nat) :=
  if s.privacy || (s.bit PDM_CFG_LP_EN m && s.micHeld m) then some (0, flagV ||| flagM)
  else if s.bit PDM_CFG_LP_EN m && s.get (pdmState (m / 4)) != 0 then
    let v := satSigned 20 w
    some (v, flagV ||| (if v = w then 0 else flagC) ||| (if 0 < mapGet 0 s.lpWin m then flagS else 0))
  else none

/-- The low-power decimator of microphone `m` at a domain-C strobe (R228). -/
def State.lpStrobe (s : State) (m : Nat) (w : Int) : State :=
  let x := s.lpSample m w
  let s := { s with lpWin := if x.isSome && s.get (pdmState (m / 4)) != 0 then mapSet 0 s.lpWin m (mapGet 0 s.lpWin m - 1) else s.lpWin }
  match x with
  | some (v, f) => s.edgePut (0xB0 + m) (mkCell (v * 2 ^ 13) s.tag f)
  | none => s.edgeClear (0xB0 + m)

/-- Sleep takes the analog inputs, the biases and the high-quality decimators (R224, R227, R232). -/
def State.captureSleep (s : State) : State :=
  let s := (List.range 6).foldl State.ainOff s
  let s := (List.range 3).foldl State.biasOff s
  ((List.range 8).foldl (fun s m => s.edgeClear (0xA0 + m)) s).pdmRefresh

/-- After sleep, enabled channels start, enabled biases ramp and enabled high-quality decimators run again (R224, R229). -/
def State.captureWake (s : State) : State :=
  let s := { s with hqWin := (List.range 8).foldl (fun m i => if s.hqOn i then mapSet 0 m i s.spanHq else m) [] }
  let s := (List.range 6).foldl (fun s n =>
    if s.on (AIN_CFG_EN n) && !s.on (AIN_STAT_CFG_ERR n) then s.setAin n { Ain.reset with begin_ := true } else s) s
  s.biasRestart.pdmRefresh

end Sys2Proof.Machine
end

