-- ==== Sys2Proof/Machine/Wake.lean ====
section
/-! DEFINITION. The wake engine: the archive, the model, the spotter, the handover and privacy mute (chapter Wake
Listening and the Archive). -/

namespace Sys2Proof.Machine

/-- The modulus of archive positions (R239). -/
def archMod : Nat := 4194304000

/-- Archive lanes in use, m (R238). -/
def State.lanes_ (s : State) : Nat := s.get WAKE_ARCH_CFG_LANES + 1

/-- Bytes of the model region (R238). -/
def State.modelRegion (s : State) : Nat := 1048576 - 256000 * s.lanes_

/-- Bank-7 word and half of lane `j` of position `p` (R239). -/
def State.halfAt (s : State) (p j : Nat) : Nat × Nat :=
  let k := s.lanes_ * (p % 64000) + j
  (k / 2, k % 2)

/-- The half-cell of lane `j` at position `p`. -/
def State.halfCell (s : State) (p j : Nat) : Nat :=
  let a := s.halfAt p j
  bits (s.memWord (bankAddr 7 a.1)).toNat (32 * a.2) 32

/-- A read of it with its ECC outcome (R413): whether its word is uncorrectable. -/
def State.halfRead (s : State) (p j : Nat) : Bool × State :=
  let r := s.bankWord 0 7 (s.halfAt p j).1
  (r.1.2, r.2)

/-- A half-cell is stored (R239). DEDUCED (log 46): an uncorrectable word stays so (R413) unless both of its halves belong to this
position, which makes the write one of a whole word. -/
def State.putHalf (s : State) (p j v : Nat) : State :=
  let a := s.halfAt p j
  let w := (s.memWord (bankAddr 7 a.1)).toNat
  let w := if a.2 = 0 then v % 2 ^ 32 + w / 2 ^ 32 * 2 ^ 32 else w % 2 ^ 32 + v % 2 ^ 32 * 2 ^ 32
  let whole : Bool := if a.2 = 0 then decide (j + 1 < s.lanes_) else decide (1 ≤ j)
  let t := s.bankWrite 7 a.1 (BitVec.ofNat 64 w)
  if s.mark (bankAddr 7 a.1) = 2 ∧ ¬ whole then { t with ecc := s.ecc } else t

/-- The half-cell a lane stores at this strobe (R41, R239): `x` is its microphone's sample. -/
def State.laneHalf (s : State) (x : Option (Int × Nat)) : Nat :=
  if s.privacy then flagM ||| flagV
  else match x with
    | some (v, f) => fromSigned 20 v * 2 ^ 12 + f
    | none => flagZ

/-- The archive position after `p` (R239). -/
def archNext (p : Nat) : Nat := (p + 1) % archMod

/-- The writer at a domain-C strobe (R239 to R241, R254): position, half-cells and anchor; it waits for the release of bank 7. `x`
gives each microphone's sample. Hop boundaries count the refractory time (R244). -/
def State.archStrobe (s : State) (x : Nat → Option (Int × Nat)) : State :=
  if s.dormant || !s.bankUp 7 then s
  else
    let p := archNext (s.get WAKE_ARCH_STAT_POS)
    let s : State := { s.put WAKE_ARCH_STAT_POS p with
      wake := { s.wake with refract := if p % 160 = 0 then s.wake.refract - 1 else s.wake.refract } }
    let s := if p = 0 then s.put WAKE_ARCH_STAT_WRAPPED 1 else s
    let s := (List.range s.lanes_).foldl (fun s j => s.putHalf p j (s.laneHalf (x (s.get (WAKE_ARCH_CFG_LANE_MIC j))))) s
    if s.get CLK_DOMC_STAT_STATE = 0 then (s.put WAKE_ANCHOR_FRAME s.frame).put WAKE_ANCHOR_POS p else s

/-- A gap (R240): the positions from the next one on follow it. -/
def State.archGap (s : State) (cause : Nat) : State :=
  let g := archNext (s.get WAKE_ARCH_STAT_POS)
  (((s.put WAKE_ARCH_GAP_GAP_POS g).put WAKE_ARCH_GAP_GAP_VALID 1).put WAKE_SUM_GAP 1).post 0x0806 sevInfo
    (pack [p32 g, p16 cause])

/-- A handover runs: CATCHUP or LIVE. -/
def State.hoRunning (s : State) : Bool := s.get WAKE_HO_STAT_STATE == 1 || s.get WAKE_HO_STAT_STATE == 2

/-- WAKE_ARCH_CFG_WRITE (R236, R238, R240, R257). -/
def wakeArchCfgWrite (v : Nat) (s : State) : State :=
  let pdm := s.get PDM_CFG_LP_EN + 2 ^ 8 * s.get PDM_CFG_HQ_EN + 2 ^ 16 * s.get PDM_CFG_CLK0_ACT + 2 ^ 18 * s.get PDM_CFG_CLK1_ACT
  if pdmReject pdm v || s.on WAKE_CTL_EN || s.hoRunning then s.pdmCfgErr 0xE08020 v
  else
    let old := s.archImage
    let s := (s.put PDM_STAT_CFG_ERR 0).put WAKE_ARCH_CFG_LANES (bits v 0 2)
    let s := (List.range 4).foldl (fun s j => s.put (WAKE_ARCH_CFG_LANE_MIC j) (laneMic v j)) s
    let s := s.put WAKE_MODEL_STAT_REGION s.modelRegion
    if s.archImage = old then s else s.archGap 1

/-- WAKE_ARCH_CFG_WRITE. -/
def execWakeArchCfgWrite (v : Word) (s : State) : Result := .next (wakeArchCfgWrite v.toNat s)

/-! ### The model (R242, R243) -/

/-- A check of the model begins; it ends once bank 7 is released (R243). -/
def State.modelCheck (s : State) : State := (s.put WAKE_MODEL_STAT_REGION s.modelRegion).put WAKE_MODEL_STAT_STATE 1

/-- WAKE_CTL_WRITE (R243, R246). -/
def wakeCtlWrite (v : Nat) (s : State) : State :=
  let rise := bitOf v 0 && !s.on WAKE_CTL_EN
  let s := (((s.put WAKE_CTL_EN (bits v 0 1)).put WAKE_CTL_WAKE_EN (bits v 1 1)).put WAKE_CTL_HO_AUTO (bits v 2 1)).put
    WAKE_CTL_ALERT_EN (bits v 3 1)
  let s := s.put WAKE_CTL_EVT_EN (bits v 8 1)
  if rise then s.modelCheck else s

/-- WAKE_CTL_WRITE. -/
def execWakeCtlWrite (v : Word) (s : State) : Result := .next (wakeCtlWrite v.toNat s)

/-- CHECK (R243). -/
def execCheck (s : State) : Result := .next s.modelCheck

/-- The bytes of the model, with those of its CRC field taken as 0. -/
def State.modelBytes (s : State) (len : Nat) : List Nat :=
  (List.range len).map (fun i =>
    if 12 ≤ i ∧ i < 16 then 0 else (s.memByte (0x400000 + 7 * 0x100000 + 256000 * s.lanes_ + i)).toNat)

/-- What is wrong with the model in the region, if anything (R242, R258): 0 MAGIC, 1 FORMAT, 2 LEN, 3 CRC. -/
def State.modelFault (s : State) : Option Nat :=
  let b := 32000 * s.lanes_
  let w0 := (s.memWord (bankAddr 7 b)).toNat
  let w1 := (s.memWord (bankAddr 7 (b + 1))).toNat
  let len := bits w1 0 32
  if bits w0 0 32 ≠ 0x574B4D31 then some 0
  else if bits w0 32 16 ≠ 1 then some 1
  else if len % 8 ≠ 0 ∨ len < 64 ∨ min 196608 s.modelRegion < len then some 2
  else if crc32 (s.modelBytes len) ≠ bits w1 32 32 then some 3
  else none

/-- MODEL_CHECK_DONE (R243). -/
def modelCheckDone (s : State) : State :=
  if s.get WAKE_MODEL_STAT_STATE ≠ 1 ∨ ¬ s.bankUp 7 then s
  else
    let s := s.put WAKE_MODEL_STAT_LEN (bits (s.memWord (bankAddr 7 (32000 * s.lanes_ + 1))).toNat 0 32)
    match s.modelFault with
    | none => s.put WAKE_MODEL_STAT_STATE 2
    | some r => ((s.put WAKE_MODEL_STAT_STATE 3).put WAKE_SUM_MODEL_BAD 1).post 0x0802 sevFault (pack [p16 r])

/-- MODEL_CHECK_DONE. -/
def execModelCheckDone (s : State) : Result := .next (modelCheckDone s)

/-! ### The spotter (R44, R244 to R246) -/

/-- Every half-cell of the hop that ends at `t` counts as silence on lane `j` (R44, R244). -/
def State.hopSilent (s : State) (t j : Nat) : Bool :=
  (List.range 160).all (fun i => (s.halfCell ((t + archMod - i) % archMod) j &&& (flagM ||| flagZ)) != 0)

/-- A detection (R244, R246). -/
def State.detect (s : State) (t score lane : Nat) : State :=
  let s := ((s.put WAKE_DET_TRIG_POS t).put WAKE_DET_SCORE score).put WAKE_DET_LANE lane
  let s := ((s.bump WAKE_CNT_DETECTS).put WAKE_SUM_DETECT 1).post 0x0801 sevInfo
    (pack [p32 t, p16 score, p16 lane, p32 s.frame])
  let s := if s.on WAKE_CTL_ALERT_EN then s.alert 3 else s
  let s := if s.on WAKE_CTL_WAKE_EN then s.wakeBy 1 else s
  let w := s.wake
  { s with wake := { w with
      run := 0, refract := s.get WAKE_CFG_REFRACT + 1, detected := true
      hoDue := w.hoDue || (s.on WAKE_CTL_HO_AUTO && !s.hoRunning) } }

/-- The spotter's reads of the hop that ends at `t`, on lane `j` (R413). -/
def State.hopReads (s : State) (t j : Nat) : State :=
  (List.range 160).foldl (fun s i => (s.halfRead ((t + archMod - i) % archMod) j).2) s

/-- SPOTTER_HOP (R244): `score` is the engine's score of the hop, `lane` the lane with less energy below 250 Hz in WIND. A hop that
does not follow the last one scored starts a new run. -/
def spotterHop (score lane : Nat) (s : State) : State :=
  let t := s.get WAKE_ARCH_STAT_POS
  if ¬ (s.on WAKE_CTL_EN && s.get WAKE_MODEL_STAT_STATE == 2 && !s.dormant && t % 160 == 0 && s.wake.lastHop != t) then s
  else
    let l := if s.on WAKE_CFG_SPOT_MODE && lane == s.get WAKE_CFG_SPOT_LANE2 then lane else s.get WAKE_CFG_SPOT_LANE
    let score := if s.hopSilent t l then 0 else min 255 score
    let w := s.wake
    let before := if w.lastHop = (t + archMod - 160) % archMod then w.run else 0
    let run := if s.get WAKE_CFG_THRESH ≤ score ∧ ¬ s.hopSilent t l then before + 1 else 0
    let due := decide (s.get WAKE_CFG_HOLD + 1 ≤ run)
    let s := { s.hopReads t l with wake := { w with run := if due then 0 else run, lastHop := t } }
    if ¬ due then s
    else if w.refract ≠ 0 then s.bump WAKE_CNT_REFRACT_SUPP
    else s.detect t score l

/-- SPOTTER_HOP. -/
def execSpotterHop (score : Nat) (lane : FourIx) (s : State) : Result := .next (spotterHop score lane.val s)

/-! ### Handover (R247 to R254) -/

/-- The handover ends for reason `e`; `status` completes a command that has not completed (R252). -/
def State.hoEnd (s : State) (e status : Nat) : State :=
  match s.wake.ho with
  | none => s
  | some h =>
    let s := if s.get WAKE_HO_STAT_STATE = 1 then s.put WAKE_HO_STAT_STATUS status else s
    let s := { (s.put WAKE_HO_STAT_STATE 3).put WAKE_HO_STAT_END e with wake := { s.wake with ho := none } }
    let s := if e = 1 then s
      else ((s.bump WAKE_CNT_HO_ENDS).put WAKE_SUM_HO_END 1).post 0x0804 sevWarn (pack [p16 e, p32 h.wcount])
    match h.ring with
    | some r => s.finish r status 0
    | none => s

/-- The arguments of a handover are invalid (R247). -/
def State.hoBad (s : State) (now : Bool) (lookback lanes : Nat) : Bool :=
  let n := 2 ^ s.get WAKE_HO_CFG_SIZE
  let b := s.get WAKE_HO_CFG_BASE
  let c := s.get WAKE_HO_CFG_CTRL
  let inBuf := fun (x : Nat) => decide (b ≤ x) && decide (x < b + n)
  decide (lookback < 16) || decide (64 < lookback) || lanes == 0 || decide (2 ^ s.lanes_ ≤ lanes) ||
  (!now && !s.wake.detected) || decide (s.get WAKE_HO_CFG_SIZE < 10) || decide (16 < s.get WAKE_HO_CFG_SIZE) ||
  decide (0x20000 < b + n) || b % n != 0 || inBuf c || inBuf (c + 1) || c == 0x1FFFF

/-- Position `q` is earlier than `r` (R239). -/
def archEarlier (q r : Nat) : Bool :=
  let d := (r + archMod - q % archMod) % archMod
  decide (1 ≤ d) && decide (d ≤ archMod / 2 - 1)

/-- The first position of a handover, moved later where a bound demands it (R249). -/
def State.hoFirst (s : State) (now : Bool) (lookback : Nat) : Nat × Nat :=
  let pos := s.get WAKE_ARCH_STAT_POS
  let r := if now then pos else s.get WAKE_DET_TRIG_POS
  let i0 := (r + archMod + 1 - 1000 * lookback) % archMod
  let low := fun (i b : Nat) => if archEarlier i b then b else i
  let i := low i0 ((pos + archMod - 63935) % archMod)
  let i := if s.on WAKE_ARCH_GAP_GAP_VALID then low i (s.get WAKE_ARCH_GAP_GAP_POS) else i
  let i := if s.on WAKE_ARCH_STAT_WRAPPED then i else low i 0
  (i, (i + archMod - i0) % archMod)

/-- A handover starts (R247, R249, R250 step 1), for the command of ring `ring` if one asks for it; or the status it fails
with. After a loss of the archive it writes nothing and ends LOST (R254), which is so for good once bank 7 is retired (R424). -/
def State.hoStart (s : State) (ring : Option Nat) (now : Bool) (lookback lanes : Nat) : State :=
  let fail := fun (s : State) (st : Nat) =>
    match ring with
    | some r => s.finish r st 0
    | none => s.put WAKE_HO_STAT_STATUS st
  if s.hoBad now lookback lanes then fail s stBadArg
  else if s.hoRunning then fail s stNoResource
  else
    let h : Handover := { ring := ring, lanes := bitList 4 lanes, size := 2 ^ s.get WAKE_HO_CFG_SIZE
                          base := s.get WAKE_HO_CFG_BASE, ctrl := s.get WAKE_HO_CFG_CTRL, next := (s.hoFirst now lookback).1
                          wcount := 0, seamLeft := 0 }
    let i := s.hoFirst now lookback
    let s := { s with wake := { s.wake with ho := some h } }
    let s := (s.put WAKE_HO_STAT_STATE 1).put WAKE_HO_STAT_END 0
    if s.on WAKE_ARCH_STAT_LOST ∨ s.bankRetired 7 then (s.put WAKE_ARCH_STAT_LOST (b2n (s.bankRetired 7))).hoEnd 5 stArchiveLost
    else ((s.put WAKE_HO_STAT_START_POS i.1).put WAKE_HO_STAT_CLIPPED (satNat 16 i.2)).bankWrite 6 h.ctrl 0

/-- HANDOVER (R247, R250). -/
def handover (r : Nat) (s : State) : State :=
  s.command r 0x0A (fun _ => true) (fun _ ws s =>
    let w := ws.headD 0
    s.hoStart (some r) (bitOf w 16) (bits w 17 7) (bits w 24 4))

/-- HANDOVER. -/
def execHandover (r : RingIx) (s : State) : Result := .next (handover r.val s)

/-- HO_GO (R247). -/
def hoGo (s : State) : State := s.hoStart none true (s.get WAKE_HO_CFG_LOOKBACK) (s.get WAKE_HO_CFG_LANES)

/-- HO_GO. -/
def execHoGo (s : State) : Result := .next (hoGo s)

/-- HO_STOP (R252). -/
def hoStop (s : State) : State := s.hoEnd 1 stCancelled

/-- HO_STOP. -/
def execHoStop (s : State) : Result := .next (hoStop s)

/-- HO_AUTO (R246): a detection waits, the fabric runs and no handover does. -/
def hoAuto (s : State) : State :=
  if s.wake.hoDue && s.awake && !s.hoRunning then
    { s with wake := { s.wake with hoDue := false } }.hoStart none false (s.get WAKE_HO_CFG_LOOKBACK) (s.get WAKE_HO_CFG_LANES)
  else s

/-- HO_AUTO. -/
def execHoAuto (s : State) : Result := .next (hoAuto s)

/-- The frame tag of archive position `p` (R241). -/
def State.archTag (s : State) (p : Nat) : Nat :=
  let k := if s.rate96 then 6 else 3
  let back := (s.get WAKE_ANCHOR_POS + archMod - p % archMod) % archMod
  ((s.get WAKE_ANCHOR_FRAME + k * archMod - k * back) % 65536)

/-- A half-cell expanded (R42, R241, R251); one in a damaged word gives E and none of its stored flags (R24). -/
def State.expand (s : State) (p j : Nat) (seam : Bool) : Word × State :=
  let h := s.halfCell p j
  let r := s.halfRead p j
  let fs := if seam then flagS else 0
  (if r.1 then mkCell 0 (s.archTag p) (flagE ||| fs) else mkCell (toSigned 24 (h / 256) * 512) (s.archTag p) (h % 256 ||| fs), r.2)

/-- There is room for one more position (R248). -/
def State.hoRoom (s : State) (h : Handover) : Bool :=
  let rc := (s.memWord (bankAddr 6 (h.ctrl + 1))).toNat
  decide ((h.wcount + 2 ^ 64 - rc) % 2 ^ 64 + h.lanes.length ≤ h.size)

/-- One position is copied into the stream (R248, R251). -/
def State.hoCopy (s : State) (h : Handover) : State :=
  let n := h.wcount / max 1 h.lanes.length
  let l := h.lanes.length
  let s := (h.lanes.zipIdx).foldl (fun s jk =>
    let c := s.expand h.next jk.1 (decide (0 < h.seamLeft))
    c.2.bankWrite 6 (h.base + (n * l + jk.2) % h.size) c.1) s
  let h := { h with next := archNext h.next, wcount := h.wcount + l, seamLeft := h.seamLeft - 1 }
  ({ s with wake := { s.wake with ho := some h } }).bankWrite 6 h.ctrl (BitVec.ofNat 64 h.wcount)

/-- The copy has reached the position just written: the seam (R250 step 3). -/
def State.hoSeam (s : State) (h : Handover) : State :=
  let idx := h.wcount / max 1 h.lanes.length
  let s := { s with wake := { s.wake with ho := some { h with ring := none, seamLeft := 16 } } }
  let s := ((s.put WAKE_HO_STAT_STATE 2).put WAKE_HO_POS_SEAM_IDX idx).put WAKE_HO_POS_SEAM_POS h.next
  let s := (s.put WAKE_HO_STAT_STATUS stOk).post 0x0803 sevInfo (pack [p32 h.next, p32 idx, p32 (s.get WAKE_HO_STAT_CLIPPED)])
  match h.ring with
  | some r => s.finish r stOk h.next
  | none => s

/-- Up to `n` positions are copied at a strobe of the catch-up, oldest first (R250 step 2). -/
def State.hoCatch (s : State) (pos : Nat) : Nat → State
  | 0 => s
  | n + 1 =>
    match s.wake.ho with
    | none => s
    | some h =>
      if s.get WAKE_HO_STAT_STATE = 1 ∧ 64000 ≤ (pos + archMod - h.next) % archMod then s.hoEnd 2 stNoResource
      else if ¬ s.hoRoom h then s
      else if h.next = pos then
        let s := s.hoSeam h
        match s.wake.ho with
        | some h => s.hoCopy h
        | none => s
      else (s.hoCopy h).hoCatch pos n

/-- The handover at a domain-C strobe, after the writer (R250, R252). -/
def State.hoStrobe (s : State) : State :=
  let pos := s.get WAKE_ARCH_STAT_POS
  match s.wake.ho with
  | none => s
  | some h =>
    if s.get WAKE_HO_STAT_STATE = 2 then
      (if s.hoRoom h then s.hoCopy h else s.hoEnd 2 stNoResource)
    else if archEarlier pos h.next then s
    else s.hoCatch pos 4

/-- Entry to DORMANT clears the spotter's hop state (R245). -/
def State.hopClear (s : State) : State := { s with wake := { s.wake with run := 0, refract := 0, lastHop := 0 } }

/-- The writer goes on with the release of bank 7, after a gap (R240, R254). -/
def State.archRelease (s : State) : State :=
  match s.wake.gap with
  | some cause => { s with wake := { s.wake with gap := none } }.archGap cause
  | none => s

/-- The archive is to continue after a gap once bank 7 is released; the first cause stays. -/
def State.gapDue (s : State) (cause : Nat) : State := { s with wake := { s.wake with gap := some (s.wake.gap.getD cause) } }

/-- Bank 7 is marked LOST (R252, R254). DESIGN CHOICE (log 47): R258 names no cause of its own for the gap that follows, which posts with 0. -/
def State.archLost (s : State) : State :=
  let s := (s.hoEnd 5 stArchiveLost).gapDue 0
  let s := ((s.put WAKE_ARCH_STAT_LOST 1).put WAKE_MODEL_STAT_STATE 0).put WAKE_SUM_ARCH_LOST 1
  s.post 0x0805 sevFault (pack [p32 (s.get WAKE_ARCH_STAT_POS)])

end Sys2Proof.Machine
end

