-- ==== Sys2Proof/Machine/Speaker.lean ====
section
/-! DEFINITION. The speaker power stages (chapter Speaker Power Stages). -/

namespace Sys2Proof.Machine

/-- A speaker channel's hidden state. -/
def State.spk (s : State) (n : Nat) : Spk := mapGet Spk.reset s.spks n
/-- A speaker channel's hidden state is replaced. -/
def State.setSpk (s : State) (n : Nat) (x : Spk) : State := { s with spks := mapSet Spk.reset s.spks n x }

/-- A fold is in force: outputs are folded or folding (R289). -/
def State.folded (s : State) : Bool := s.get KEEP_STAT_STATE == 1 || s.get KEEP_STAT_STATE == 2

/-- Channel `n` is the upper half of a parallel pair (R287). -/
def State.spkUpper (s : State) (n : Nat) : Bool := (n == 1 && s.on SPK_CTL_PAIR01) || (n == 3 && s.on SPK_CTL_PAIR23)

/-- The channel that controls and reports channel `n` (R287). -/
def State.spkOwner (s : State) (n : Nat) : Nat := if s.spkUpper n then n - 1 else n

/-- A channel's state code (R293): 0 OFF, 1 STARTING, 2 RUNNING, 3 STOPPING, 4 LATCHED, 5 FAULTED, 6 FOLDED. -/
def State.spkState (s : State) (n : Nat) : Nat := s.get (SPK_STAT_STATE n)

/-- The channel's bridge switches: it is STARTING after relay closure, RUNNING or STOPPING, and not at high impedance. -/
def State.spkSwitching (s : State) (n : Nat) : Bool :=
  decide (1 ≤ s.spkState n) && decide (s.spkState n ≤ 3) && !s.on (SPK_STAT_HIZ n)

/-- A clipped frame counts for the telemetry: `i` is the speaker channel, or 4 plus the headphone channel (R482). -/
def State.countClip (s : State) (i : Nat) : State := { s with clips := mapInsert s.clips i (mapGet 0 s.clips i + 1) }

/-- Frames of a 10 ms ramp. -/
def State.rampFrames (s : State) : Nat := s.framesPerSec / 100

/-- Frames of RLY_T for a channel, none without a relay (R271). -/
def State.rlyFrames (s : State) (n : Nat) : Nat :=
  if (s.spk n).rly then s.framesOfMs (2 * (s.get SPK_CTL_RLY_T + 1)) else 0

/-- The bridge goes to high impedance. -/
def State.spkHiz (s : State) (n : Nat) : State := s.put (SPK_STAT_HIZ n) 1

/-! ### The carrier and its stagger (R262 to R264) -/

/-- CK_PWM cycles of a frame. -/
def State.pwmFrame (s : State) : Nat := if s.rate96 then 512 else 1024

/-- The carrier period that starts now, the `count`-th of a sweep (R263). -/
def State.carrierP (s : State) (count : Nat) : Nat × State :=
  match s.get SPK_CTL_SPREAD with
  | 1 =>
    let k := count / 8 % 20
    (123 + (if k ≤ 10 then k else 20 - k), s)
  | 2 => (123 + s.free.1.toNat % 11, s.free.2)
  | _ => (128, s)

/-- The carrier periods that start in a frame of `len` cycles, the first one `at_` cycles after the boundary. -/
def State.carrierRun (s : State) (len : Nat) : Nat → Nat → Nat → State
  | 0, _, _ => s
  | fuel + 1, count, at_ =>
    if len ≤ at_ then { s with carrier := { s.carrier with count := count, next := at_ - len } }
    else
      let r := s.carrierP count
      let t := r.2
      let t : State := { t with carrier := { t.carrier with period := r.1, starts := t.carrier.starts ++ [(at_, r.1)] } }
      t.carrierRun len fuel ((count + 1) % 160) (at_ + r.1)

/-- The carrier in one frame: every channel shares it (R263). -/
def State.carrierFrame (s : State) : State :=
  ({ s with carrier := { s.carrier with starts := [] } }).carrierRun s.pwmFrame 12 s.carrier.count s.carrier.next

/-- The channel takes part in the stagger (R264): STARTING after relay closure, RUNNING or in a stop ramp. -/
def State.spkRanked (s : State) (n : Nat) : Bool :=
  s.spkSwitching n && !s.spkUpper n && (s.spk n).phase != .rest && (s.spk n).phase != .release

/-- The stagger of rank `r` of `n` channels at period `p`: round(r × p / n). -/
def staggerAt (r n p : Nat) : Nat := (2 * r * p + n) / (2 * n)

/-- The offset `o` one carrier period of `p` cycles later, at most 2 cycles nearer to `t` in the shorter direction. -/
def staggerStep (o t p : Nat) : Nat :=
  let up := (t + p - o % p) % p
  if 2 * up ≤ p then (o + min 2 up) % p else (o + p - min 2 (p - up)) % p

/-- The offset of channel `n`, of rank `r` among `l`, over the carrier periods of a frame. -/
def State.staggerOne (s : State) (n r l : Nat) : State :=
  s.carrier.starts.foldl (fun (s : State) q =>
    let t := staggerAt r l q.2
    let o := if (s.spk n).settled then t else staggerStep (s.get (SPK_STAT_PHASE n)) t q.2
    (s.put (SPK_STAT_PHASE n) o).setSpk n { s.spk n with settled := o == t }) s

/-- The stagger in one frame (R264): after a change of the set every offset moves to its new place. -/
def State.staggerFrame (s : State) : State :=
  let on := (List.range 4).filter s.spkRanked
  let m := maskOf 4 s.spkRanked
  let s := if m = s.carrier.ranked then s
    else { (List.range 4).foldl (fun (s : State) n => s.setSpk n { s.spk n with settled := false }) s with
           carrier := { s.carrier with ranked := m } }
  (List.range 4).foldl (fun s n =>
    match on.findIdx? (fun k => k == n) with
    | some r => s.staggerOne n r on.length
    | none => s.put (SPK_STAT_PHASE n) 0) s

/-! ### Start and stop (R268 to R272) -/

/-- Start steps 2 and 3 (R268): the relay closes with the bridge at high impedance. -/
def State.spkRelay (s : State) (n : Nat) : State :=
  let s := s.setSpk n { s.spk n with
    startReq := false, folding := false, rly := s.on (SPK_CFG_RLY_EN n), loadChk := s.on (SPK_CFG_LOAD_CHK n)
    impWin := s.get (SPK_CFG_IMP_WIN n), phase := .zero, rampPos := 0, limRun := 0, played := 0, fsLeft := 0
    retryAt := none, foldLeft := s.rampFrames, hist := [], demand := [], out := [] }
  let s := ((s.put (SPK_STAT_STATE n) 1).put (SPK_STAT_FAULT_CAUSE n) 0).put (SPK_STAT_RELAY n) (s.get (SPK_CFG_RLY_EN n))
  let w := s.rlyFrames n
  (s.setSpk n { s.spk n with wait := w }).put (SPK_STAT_HIZ n) (b2n (w != 0))

/-- Start step 1 waits: PVDD is out of range (R268, R273). -/
def State.spkCheck (s : State) (n : Nat) : State :=
  let s := (s.put (SPK_STAT_STATE n) 1).put (SPK_STAT_FAULT_CAUSE n) (if s.on SPK_PVDD_STAT_UV then 3 else 4)
  (s.put (SPK_STAT_HIZ n) 1).setSpk n { s.spk n with startReq := false, phase := .check }

/-- SPK_START (R268 step 1): the first boundary after the write of EN. -/
def spkStart (n : Nat) (s : State) : State :=
  if (s.spk n).startReq && s.spkState n == 0 && s.on (SPK_CFG_EN n) && !s.folded && s.awake && !s.spkUpper n &&
      !s.calibrating (0x10 + n) then
    if s.on SPK_PVDD_STAT_UV ∨ s.on SPK_PVDD_STAT_OV then s.spkCheck n else s.spkRelay n
  else s

/-- SPK_START. -/
def execSpkStart (n : FourIx) (s : State) : Result := .next (spkStart n.val s)

/-- A pilot window begins: what spoils it is seen from now on (R282). -/
def State.spkWindow (s : State) (n : Nat) : State := s.setSpk n { s.spk n with dirty := (s.spk n).tweet, winPos := 0 }

/-- The start ramp begins: STATE reads RUNNING (R268 step 5). -/
def State.spkRampUp (s : State) (n : Nat) : State :=
  ((s.put (SPK_STAT_STATE n) 2).setSpk n { s.spk n with phase := .ramp, rampPos := 0, pilotAt := 0 }).spkWindow n

/-- SPK_ZERO_STATE_END (R268 steps 2 to 4): RLY_T and the zero state have gone by. -/
def spkZeroStateEnd (n : Nat) (s : State) : State :=
  if s.spkState n = 1 ∧ (s.spk n).phase = .zero ∧ (s.spk n).wait = 0 then
    let s := s.put (SPK_STAT_HIZ n) 0
    if (s.spk n).loadChk then s.setSpk n { s.spk n with phase := .load, loadAt := 0 } else s.spkRampUp n
  else s

/-- SPK_ZERO_STATE_END. -/
def execSpkZeroStateEnd (n : FourIx) (s : State) : Result := .next (spkZeroStateEnd n.val s)

/-- A short latch (R277 steps 2, 3 and 6). -/
def State.spkLatch (s : State) (n leg : Nat) : State :=
  let rt := s.get (SPK_STAT_RETRY n)
  let s := (((s.put (SPK_STAT_STATE n) 4).put (SPK_STAT_FAULT_CAUSE n) 1).bump (SPK_CNT_SHORTS n)).setBit SPK_SUM_SHORT n
  let s := (s.spkHiz n).setSpk n { s.spk n with
    phase := .rest, age := 0, retryAt := some s.frame, limRun := 0, tweet := false, rampPos := 0, startReq := false
    folding := false }
  let s := s.post 0x0A01 sevFault (pack [p16 n, p16 leg, p16 rt])
  if s.get SPK_CTL_RETRIES ≤ rt then
    ((s.put (SPK_STAT_STATE n) 5).setSpk n { s.spk n with retryAt := none }).post 0x0A04 sevFault (pack [p16 n, p16 1])
  else s

/-- SPK_LOAD_CHECK (R270): `z` in mΩ. A short found this way names a leg the spec does not state. -/
def spkLoadCheck (n z : Nat) (s : State) : State :=
  if s.spkState n = 1 ∧ (s.spk n).phase = .load then
    if 16 * z < 1000 * s.get (SPK_DIAG_LOW_Z n) then s.free.2.spkLatch n (s.free.1.toNat % 2)
    else
      let s := if 1000 * s.get (SPK_DIAG_OPEN_Z n) < z then
          (s.setBit SPK_SUM_OPEN n).post 0x0A06 sevWarn (pack [p16 n, p32 z])
        else s
      s.spkRampUp n
  else s

/-- SPK_LOAD_CHECK. -/
def execSpkLoadCheck (n : FourIx) (z : Nat) (s : State) : Result := .next (spkLoadCheck n.val z s)

/-- SPK_RAMP_DONE (R268 step 5). -/
def spkRampDone (n : Nat) (s : State) : State :=
  if (s.spk n).phase = .ramp ∧ s.rampFrames ≤ (s.spk n).rampPos then s.setSpk n { s.spk n with phase := .play, played := 0 }
  else s

/-- SPK_RAMP_DONE. -/
def execSpkRampDone (n : FourIx) (s : State) : Result := .next (spkRampDone n.val s)

/-- The stop goes on without its ramp: the relay is released once the leg currents have fallen (R271, R273). -/
def State.spkToRest (s : State) (n : Nat) (fold : Bool) : State :=
  (s.put (SPK_STAT_STATE n) 3).setSpk n { s.spk n with phase := .rest, age := 0, folding := fold, tweet := false }

/-- EN is written 0 (R269, R273). -/
def State.spkDisable (s : State) (n : Nat) : State :=
  let x := s.spk n
  let s := s.setSpk n { x with startReq := false }
  let x := s.spk n
  match s.spkState n, x.phase with
  | 2, .trip => s.spkToRest n false
  | 1, _ => s.spkToRest n false
  | 2, _ => (s.put (SPK_STAT_STATE n) 3).setSpk n { x with phase := .stop, tweet := false }
  | _, _ => s

/-- EN is written 1 (R268, R289, R291). -/
def State.spkEnable (s : State) (n : Nat) : State :=
  if s.spkUpper n then s
  else if s.spkState n = 0 ∧ s.folded then
    (((s.put (SPK_STAT_STATE n) 6).put (SPK_STAT_FAULT_CAUSE n) 6).put (SPK_STAT_RELAY n) 0).spkHiz n
  else if s.spkState n = 0 ∨ s.spkState n = 3 then s.setSpk n { s.spk n with startReq := true }
  else s

/-- A rejected write of the SPK page (R287, R292). -/
def State.spkCfgErr (s : State) (addr v : Nat) : State :=
  (s.put SPK_SUM_CFG_ERR 1).post 0x0A0F sevWarn (pack [p32 addr, (64, regImage addr v)])

/-- The scale in force on channel `n` in 1/8 V, where SPK_CFG holds `fs`: stage 4 moves linearly (R260). -/
def State.spkFs (s : State) (n fs : Nat) : Nat :=
  let x := s.spk n
  let len := s.rampFrames
  if x.fsLeft = 0 then fs else (fs * (len - x.fsLeft) + x.fsFrom * x.fsLeft) / len

/-- The pilot tone and its first window begin (R281). -/
def State.spkPilot (s : State) (n : Nat) : State := (s.setSpk n { s.spk n with pilotAt := 0 }).spkWindow n

/-- SPK_CFG_WRITE (R268, R269, R272). -/
def spkCfgWrite (n v : Nat) (s : State) : State :=
  if bits v 1 8 < 16 then (s.put (SPK_STAT_CFG_ERR n) 1).spkCfgErr (0xE0A100 + 0x40 * n) v
  else
    let was := s.on (SPK_CFG_EN n)
    let fs := s.get (SPK_CFG_FS_V n)
    let pilot := s.on (SPK_CFG_PILOT_EN n)
    let s := (((s.put (SPK_CFG_EN n) (bits v 0 1)).put (SPK_CFG_FS_V n) (bits v 1 8)).put (SPK_CFG_MUTE n) (bits v 9 1)).put
      (SPK_CFG_PILOT_EN n) (bits v 10 1)
    let s := (((s.put (SPK_CFG_VC_FOLD_EN n) (bits v 11 1)).put (SPK_CFG_RLY_EN n) (bits v 12 1)).put (SPK_CFG_IMP_WIN n)
      (bits v 13 3)).put (SPK_CFG_LOAD_CHK n) (bits v 16 1)
    let s := s.put (SPK_STAT_CFG_ERR n) 0
    let s := if fs ≠ bits v 1 8 ∧ s.spkState n = 2 then
        s.setSpk n { s.spk n with fsFrom := s.spkFs n fs, fsLeft := s.rampFrames, dirty := true }
      else s
    let s := if bitOf v 10 && !pilot then s.spkPilot n else s
    if was && !bitOf v 0 then s.spkDisable n
    else if bitOf v 0 && (!was || s.spkState n == 0) then s.spkEnable n
    else s

/-- SPK_CFG_WRITE. -/
def execSpkCfgWrite (n : FourIx) (v : Word) (s : State) : Result := .next (spkCfgWrite n.val v.toNat s)

/-- A channel that has become the upper half of a pair forgets a start that its EN had asked for (R287). -/
def State.spkUpperIdle (s : State) : State :=
  (List.range 4).foldl (fun (s : State) n => if s.spkUpper n then s.setSpk n { s.spk n with startReq := false } else s) s

/-- SPK_CTL_WRITE (R287): a pairing change needs both channels OFF. -/
def spkCtlWrite (v : Nat) (s : State) : State :=
  let busy := fun (a b : Nat) (f : Fld) (k : Nat) => s.get f != bits v k 1 && (s.spkState a != 0 || s.spkState b != 0)
  if busy 0 1 SPK_CTL_PAIR01 1 || busy 2 3 SPK_CTL_PAIR23 2 then s.spkCfgErr 0xE0A000 v
  else
    let s := (((s.put SPK_CTL_EVT_EN (bits v 0 1)).put SPK_CTL_PAIR01 (bits v 1 1)).put SPK_CTL_PAIR23 (bits v 2 1)).put
      SPK_CTL_SPREAD (bits v 4 2)
    ((s.put SPK_CTL_RLY_T (bits v 8 4)).put SPK_CTL_RETRIES (bits v 12 2)).spkUpperIdle

/-- SPK_CTL_WRITE. -/
def execSpkCtlWrite (v : Word) (s : State) : Result := .next (spkCtlWrite v.toNat s)

/-- SPK_STOP (R269 step 1, R289): the ramp to zero, or the fold ramp, has ended. -/
def spkStop (n : Nat) (s : State) : State :=
  if s.spkState n = 3 ∧ (s.spk n).phase = .stop ∧ ((s.spk n).rampPos = 0 ∨ (s.spk n).foldLeft = 0) then
    s.setSpk n { s.spk n with phase := .rest, age := 0 }
  else s

/-- SPK_STOP. -/
def execSpkStop (n : FourIx) (s : State) : Result := .next (spkStop n.val s)

/-- SPK_REST (R269 step 2, R277 step 4): both leg currents are below 20 mA, and RLY_T begins. -/
def spkRest (n : Nat) (s : State) : State :=
  if (s.spk n).phase = .rest then s.setSpk n { s.spk n with phase := .release, wait := s.rlyFrames n } else s

/-- SPK_REST. -/
def execSpkRest (n : FourIx) (s : State) : Result := .next (spkRest n.val s)

/-- SPK_RELAY_RELEASE (R269 steps 3 and 4, R271, R289): RLY_T has gone by. -/
def spkRelayRelease (n : Nat) (s : State) : State :=
  let x := s.spk n
  if x.phase ≠ .release ∨ x.wait ≠ 0 then s
  else
    let s := ((s.put (SPK_STAT_RELAY n) 0).spkHiz n).setSpk n { x with phase := .idle, folding := false, mutePos := 0 }
    if s.spkState n = 3 then
      let s := s.put (SPK_STAT_STATE n) (if x.folding then 6 else 0)
      if x.folding then s else s.setSpk n { s.spk n with startReq := s.on (SPK_CFG_EN n) }
    else s

/-- SPK_RELAY_RELEASE. -/
def execSpkRelayRelease (n : FourIx) (s : State) : Result := .next (spkRelayRelease n.val s)

/-- SPK_RELAY_HELD (R271): the leg currents, in mA, stay above 20 mA for 10 ms. -/
def spkRelayHeld (n posMa negMa : Nat) (s : State) : State :=
  if (s.spk n).phase = .rest ∧ s.rampFrames ≤ (s.spk n).age ∧ s.on (SPK_STAT_RELAY n) ∧ s.get (SPK_STAT_FAULT_CAUSE n) ≠ 7 then
    ((s.put (SPK_STAT_FAULT_CAUSE n) 7).setBit SPK_SUM_RELAY_HELD n).post 0x0A0E sevFault
      (pack [p16 n, p16 posMa, p16 negMa])
  else s

/-- SPK_RELAY_HELD. -/
def execSpkRelayHeld (n : FourIx) (posMa negMa : Nat) (s : State) : Result := .next (spkRelayHeld n.val posMa negMa s)

/-! ### PVDD (R273) -/

/-- PVDD leaves its range: cause 3 or 4 (R273). -/
def State.spkTrip (s : State) (cause : Nat) : State :=
  (List.range 4).foldl (fun s n =>
    let x := s.spk n
    match s.spkState n with
    | 1 | 2 =>
      if x.phase = .check ∨ x.phase = .trip then s.put (SPK_STAT_FAULT_CAUSE n) cause
      else ((s.put (SPK_STAT_FAULT_CAUSE n) cause).setSpk n { x with phase := .trip, limRun := 0, tweet := false, rampPos := 0 }).spkHiz n
    | 3 =>
      let s := (s.put (SPK_STAT_FAULT_CAUSE n) cause).spkHiz n
      if x.phase = .stop then s.spkToRest n x.folding else s
    | _ => s) s

/-- SPK_PVDD_UV (R273). -/
def spkPvddUv (mv : Nat) (s : State) : State :=
  if mv < 5500 ∧ ¬ s.on SPK_PVDD_STAT_UV then
    (((s.put SPK_PVDD_STAT_UV 1).put SPK_SUM_PVDD_UV 1).spkTrip 3).post 0x0A0C sevWarn (pack [p16 mv])
  else s

/-- SPK_PVDD_UV. -/
def execSpkPvddUv (mv : Nat) (s : State) : Result := .next (spkPvddUv mv s)

/-- SPK_PVDD_OV (R273). -/
def spkPvddOv (mv : Nat) (s : State) : State :=
  if 19000 < mv ∧ ¬ s.on SPK_PVDD_STAT_OV then
    (((s.put SPK_PVDD_STAT_OV 1).put SPK_SUM_PVDD_OV 1).spkTrip 4).post 0x0A0D sevWarn (pack [p16 mv])
  else s

/-- SPK_PVDD_OV. -/
def execSpkPvddOv (mv : Nat) (s : State) : Result := .next (spkPvddOv mv s)

/-- PVDD_RECOVERY (R273): 10 ms between 5.8 V and 18.5 V. -/
def pvddRecovery (mv : Nat) (s : State) : State :=
  if (s.on SPK_PVDD_STAT_UV || s.on SPK_PVDD_STAT_OV) && decide (5800 ≤ mv) && decide (mv ≤ 18500) then
    let s := (s.put SPK_PVDD_STAT_UV 0).put SPK_PVDD_STAT_OV 0
    (List.range 4).foldl (fun s n =>
      let s := if s.get (SPK_STAT_FAULT_CAUSE n) = 3 ∨ s.get (SPK_STAT_FAULT_CAUSE n) = 4 then s.put (SPK_STAT_FAULT_CAUSE n) 0 else s
      match (s.spk n).phase with
      | .check => if s.folded then s else s.spkRelay n
      | .trip =>
        if s.on (SPK_CFG_EN n) && !s.folded then
          ((s.put (SPK_STAT_STATE n) 1).put (SPK_STAT_HIZ n) 0).setSpk n { s.spk n with
            phase := .zero, wait := 0, hist := [], demand := [], out := [] }
        else s
      | _ => s) s
  else s

/-- PVDD_RECOVERY. -/
def execPvddRecovery (mv : Nat) (s : State) : Result := .next (pvddRecovery mv s)

/-! ### Faults and retries (R276 to R278) -/

/-- SPK_DC_FAULT (R276). -/
def spkDcFault (n0 : Nat) (mean : Int) (s : State) : State :=
  let n := s.spkOwner n0
  if s.spkSwitching n ∧ 1500 < mean.natAbs then
    let s := ((s.put (SPK_STAT_STATE n) 5).put (SPK_STAT_FAULT_CAUSE n) 2).setBit SPK_SUM_DC n
    ((s.spkHiz n).setSpk n { s.spk n with phase := .rest, age := 0, retryAt := none, tweet := false, startReq := false
                                          rampPos := 0, folding := false }).post 0x0A05 sevFault (pack [p16 n, p16i mean])
  else s

/-- SPK_DC_FAULT. -/
def execSpkDcFault (n : FourIx) (meanMv : Int) (s : State) : Result := .next (spkDcFault n.val meanMv s)

/-- CURRENT_LIMIT (R277): one limited carrier period; `again` when the channel's previous period was limited too. -/
def currentLimit (n0 leg : Nat) (again : Bool) (s : State) : State :=
  let n := s.spkOwner n0
  if s.spkSwitching n then
    let k := if again then (s.spk n).limRun + 1 else 1
    let s := (s.bump (SPK_CNT_ILIM n)).setSpk n { s.spk n with limRun := k, dirty := true }
    if 4 ≤ k then s.spkLatch n leg else s
  else s

/-- CURRENT_LIMIT. -/
def execCurrentLimit (n : FourIx) (leg : TwoIx) (again : Bool) (s : State) : Result :=
  .next (currentLimit n.val leg.val again s)

/-- SPK_RETRY (R277 step 5, R289, R291): 500 ms after the latch. -/
def spkRetry (n : Nat) (s : State) : State :=
  match (s.spk n).retryAt with
  | some f =>
    if s.spkState n = 4 ∧ s.on (SPK_CFG_EN n) ∧ s.get (SPK_STAT_RETRY n) < s.get SPK_CTL_RETRIES ∧ !s.folded ∧
        !s.on SPK_PVDD_STAT_UV ∧ !s.on SPK_PVDD_STAT_OV ∧ s.framesOfMs 500 ≤ s.frameAgo f then
      let r := s.get (SPK_STAT_RETRY n) + 1
      ((s.put (SPK_STAT_RETRY n) r).post 0x0A02 sevInfo (pack [p16 n, p16 r])).spkRelay n
    else s
  | none => s

/-- SPK_RETRY. -/
def execSpkRetry (n : FourIx) (s : State) : Result := .next (spkRetry n.val s)

/-- SPK_RECOVERED (R278). -/
def spkRecovered (n : Nat) (s : State) : State :=
  if s.get (SPK_STAT_RETRY n) ≠ 0 ∧ (s.spk n).phase = .play ∧ s.framesOfMs 500 ≤ (s.spk n).played then
    (s.put (SPK_STAT_RETRY n) 0).post 0x0A03 sevInfo (pack [p16 n])
  else s

/-- SPK_RECOVERED. -/
def execSpkRecovered (n : FourIx) (s : State) : Result := .next (spkRecovered n.val s)

/-- SPK_CLEAR (R278). -/
def spkClear (n : Nat) (s : State) : State :=
  if s.spkState n = 4 ∨ s.spkState n = 5 then
    let s := ((s.put (SPK_STAT_RETRY n) 0).put (SPK_STAT_FAULT_CAUSE n) 0).put (SPK_STAT_STATE n) 0
    let s := s.setSpk n { s.spk n with retryAt := none }
    if s.on (SPK_CFG_EN n) then s.spkEnable n else s
  else s

/-- SPK_CLEAR. -/
def execSpkClear (n : FourIx) (s : State) : Result := .next (spkClear n.val s)

/-! ### Temperatures and impedance (R279 to R286) -/

/-- The pilot windows of every channel are spoilt by a gain change (R282). -/
def State.spkDirtyAll (s : State) : State :=
  (List.range 4).foldl (fun s n => s.setSpk n { s.spk n with dirty := true }) s

/-- STAGE_TEMP_READ (R279): the four codes, degrees plus 64. -/
def stageTempRead (temps : List Nat) (s : State) : State :=
  let t := fun (n : Nat) => temps.getD n 0 % 256
  let s := (List.range 4).foldl (fun s n => s.put (SPK_THERM_STAT_TEMP n) (t n)) s
  let hot := (List.range 4).foldl (fun b n => if t b < t n then n else b) 0
  let old := s.thermRed
  let red := if 199 ≤ t hot then min (1000 * min 24 (s.get SPK_THERM_CFG_FOLD_FLOOR)) (old + 10)
    else if t hot ≤ 194 then old - 1 else old
  let red := if 199 ≤ t hot then max red old else red
  let first := decide (199 ≤ t hot) && old == 0 && !s.on SPK_THERM_STAT_WARN
  let s := { s with thermRed := red }
  let s := ((s.put SPK_THERM_STAT_WARN (b2n (decide (199 ≤ t hot)))).put SPK_THERM_STAT_FOLDBACK (b2n (red != 0))).put
    SPK_THERM_STAT_FOLD_GAIN (red * 8 / 1000)
  let s := if red ≠ old then s.spkDirtyAll else s
  if first then (s.put SPK_SUM_THERM_WARN 1).post 0x0A0B sevWarn (pack [p16 hot, p16i ((t hot : Int) - 64)]) else s

/-- The coil temperature in 1/16 °C (R283), or none where the coil model divides by 0. The rule's worked example reads 1316 for
1316.03, so a positive quotient is rounded down or to the nearest; which of them is free (DESIGN CHOICE, log 63). -/
def State.coilTemp (s : State) (n z : Nat) : Option Int :=
  let d := s.get (SPK_VC_R_REF n) * s.get (SPK_VC_ALPHA n)
  if d = 0 then none
  else
    let num : Int := 16000000 * ((z : Int) - (s.get (SPK_VC_R_REF n) : Nat))
    let q := num / (d : Int)
    let up := num % (d : Int) ≠ 0 ∧ (num < 0 ∨ (d : Int) ≤ 2 * (num % (d : Int)))
    let q := if up ∧ Config.coilUp num then q + 1 else q
    some (satSigned 16 (toSigned 12 (s.get (SPK_VC_T_REF n)) + q))

/-- Frames of a pilot window: IMP_WIN + 1 seconds, as the start took it (R272, R281). -/
def State.windowFrames (s : State) (n : Nat) : Nat := ((s.spk n).impWin + 1) * s.framesPerSec

/-- An accepted window of impedance `z` in mΩ is judged (R285). -/
def State.pilotJudge (s : State) (n z : Nat) : State :=
  let s := if 1000 * s.get (SPK_DIAG_OPEN_Z n) < z then (s.setBit SPK_SUM_OPEN n).post 0x0A06 sevWarn (pack [p16 n, p32 z]) else s
  if 16 * z < 1000 * s.get (SPK_DIAG_LOW_Z n) then (s.setBit SPK_SUM_OPEN n).post 0x0A07 sevWarn (pack [p16 n, p32 z]) else s

/-- PILOT_WINDOW_END (R281 to R285): `z` in mΩ, over a whole window; the next window begins. -/
def pilotWindowEnd (n z : Nat) (s : State) : State :=
  if s.spkState n ≠ 2 ∨ ¬ s.on (SPK_CFG_PILOT_EN n) ∨ (s.spk n).winPos < s.windowFrames n then s
  else
    let bad := (s.spk n).dirty
    let s := s.spkWindow n
    if bad then s.bump (SPK_IMP_DROPPED n)
    else
      let old := if s.on (SPK_IMP_IMP_VALID n) then toSigned 16 (s.get (SPK_IMP_VC_TEMP n)) else -32768
      let vcs : Int × State := match s.coilTemp n z with
        | some v => (v, s)
        | none => (toSigned 16 s.free.1.toNat, s.free.2)
      let vc := vcs.1
      let s := ((vcs.2.put (SPK_IMP_Z12 n) (satNat 16 z)).put (SPK_IMP_VC_TEMP n) (fromSigned 16 vc)).put (SPK_IMP_IMP_VALID n) 1
      let tmax : Int := 16 * (s.get (SPK_VC_TMAX n) : Nat)
      let s := if old < tmax ∧ tmax ≤ vc then (s.setBit SPK_SUM_VC_HOT n).post 0x0A08 sevWarn (pack [p16 n, p16i vc]) else s
      s.pilotJudge n z

/-- PILOT_WINDOW_END. -/
def execPilotWindowEnd (n : FourIx) (z12 : Nat) (s : State) : Result := .next (pilotWindowEnd n.val z12 s)

/-- TWEET (R286). -/
def tweet (n : Nat) (s : State) : State :=
  if s.spkState n = 2 ∧ (s.spk n).phase ≠ .trip ∧ ¬ (s.spk n).tweet then
    s.setSpk n { s.spk n with tweet := true, tweetAt := 0, dirty := true }
  else s

/-- TWEET. -/
def execTweet (n : FourIx) (s : State) : Result := .next (tweet n.val s)

/-- CK_PWM cycles of the tweeter check's 100 ms (R286). -/
def tweetCycles : Nat := 4915200

/-- TWEET_DONE (R286): `z` in mΩ. -/
def tweetDone (n z : Nat) (s : State) : State :=
  if (s.spk n).tweet ∧ tweetCycles ≤ (s.spk n).tweetAt then
    let isOpen := decide (1000 * s.get (SPK_DIAG_TW_OPEN_Z n) < z)
    let s := s.setSpk n { s.spk n with tweet := false, dirty := true }
    let s := ((s.put (SPK_IMP_TW_Z n) (satNat 16 z)).put (SPK_IMP_TW_VALID n) 1).put (SPK_IMP_TW_OPEN n) (b2n isOpen)
    if isOpen then (s.setBit SPK_SUM_TWEETER_OPEN n).post 0x0A09 sevWarn (pack [p16 n, p32 z]) else s
  else s

/-- TWEET_DONE. -/
def execTweetDone (n : FourIx) (z : Nat) (s : State) : Result := .next (tweetDone n.val z s)

/-! ### One frame of a channel (R260, R261, R274, R281, R284, R286) -/

/-- The cells that the interpolation of stage 8 covers: linear phase, with a latency of 18 frames, or 21 at 96 kHz (R260). -/
def State.spkSpan (s : State) : Nat := if s.rate96 then 43 else 37

/-- Stage 8 at the `c`-th CK_PWM cycle of a frame, over the values `h`, newest first. -/
def State.spkInterp (s : State) (h : List Int) (c : Nat) : Int :=
  (h.zipIdx.map (fun (p : Int × Nat) => p.1 * Config.speakerTap s.rate96 c p.2)).sum / 2 ^ 32

/-- sin of `k` / `n` of a turn with 128 fraction bits. -/
def sinTurn (k n : Nat) : Int :=
  let r := 4 * (k % n) % n
  match 4 * (k % n) / n with
  | 0 => sinFix r n
  | 1 => sinFix (n - r) n
  | 2 => -(sinFix r n)
  | _ => -(sinFix (n - r) n)

/-- The test tones of stage 9 and the load-check pulse at the `c`-th cycle of a frame, in µV, with the scale `fs` in 1/8 V: the
12 Hz pilot at 0.0050119 of full scale (R281), the 21 kHz tone at -40 dBFS (R286), and the raised cosine of 100 mV over 2 ms (R270). -/
def State.spkTones (s : State) (n fs c : Nat) : Int :=
  let x := s.spk n
  let pilot : Int := if s.spkState n = 2 ∧ s.on (SPK_CFG_PILOT_EN n) then
      (fs * 6264875 : Nat) * sinTurn (x.pilotAt + c) 4096000 / (10000 * 2 ^ 128) else 0
  let tone : Int := if x.tweet ∧ x.tweetAt + c < tweetCycles then (fs * 1250 : Nat) * sinTurn (7 * (x.tweetAt + c)) 16384 / 2 ^ 128 else 0
  let t := x.loadAt + c
  let pulse : Int := if x.phase = .load ∧ t < 98304 then 50000 * (2 ^ 128 - sinTurn (t + 24576) 98304) / 2 ^ 128 else 0
  pilot + tone + pulse

/-- The curator's offset trim in µV (R268 step 3, R478). -/
def State.spkTrim (s : State) (n fs : Nat) : Int :=
  toSigned 24 (s.get (CUR_CAL_VAL_OFFSET (0x10 + n))) * (fs * 125000 : Nat) / 2 ^ 23

/-- The fold ramp of stage 10 runs: it has begun and goes on to zero (R289). -/
def State.spkFolds (s : State) (n : Nat) : Bool := (s.spk n).folding || decide ((s.spk n).foldLeft < s.rampFrames)

/-- The loop's target in the carrier period that starts at cycle `c`, in µV: stages 8 to 10 and the trim. -/
def State.spkTarget (s : State) (n fs c : Nat) : Int :=
  let x := s.spk n
  let f := s.pwmFrame
  let v := s.spkInterp x.hist c * 125000 / 2 ^ 32 + s.spkTones n fs c
  let v := if s.spkFolds n then v * ((x.foldLeft * f - c : Nat) : Int) / ((s.rampFrames * f : Nat) : Int) else v
  (if x.phase = .rest ∨ x.phase = .release then 0 else v) + s.spkTrim n fs

/-- The targets `l` exceed what the loop can reach from PVDD at a load current of `ma` (R261). -/
def State.spkOver (s : State) (n ma : Nat) (l : List Int) : Bool :=
  let room : Int := 1000 * (s.get SPK_PVDD_STAT_PVDD : Nat) - 200000 - (ma * min 180 (Config.bridgeOhm n) : Nat)
  l.any (fun v => decide (room < (v.natAbs : Int)))

/-- The sag reduction after one frame, in 1/1536 dB (R274, R275). `vd` and `vc` in mV. -/
def State.sagNext (s : State) (old : Nat) (vd : Nat) (vc : Int) : Nat :=
  if ¬ s.on SPK_SAG_CFG_EN then 0
  else
    let k := if s.rate96 then 1 else 2
    let vg : Int := (vd : Int) * dbGain (-((old * 128 / 3 : Nat) : Int))
    if vc * 2 ^ 32 < vg then max old (min (1536 * min 40 (s.get SPK_SAG_CFG_FLOOR)) (old + 16 * k))
    else if 1000 * vg < 891 * vc * 2 ^ 32 then old - k * (s.get SPK_SAG_CFG_REL + 1)
    else old

/-- The coil reduction after one frame, in 1/96000 dB (R284). -/
def State.coilNext (s : State) (n old : Nat) : Nat :=
  let k := if s.rate96 then 1 else 2
  let vc := toSigned 16 (s.get (SPK_IMP_VC_TEMP n))
  let tmax : Int := 16 * (s.get (SPK_VC_TMAX n) : Nat)
  if ¬ s.on (SPK_CFG_VC_FOLD_EN n) ∨ ¬ s.on (SPK_IMP_IMP_VALID n) then 0
  else if tmax ≤ vc then min (12 * 96000) (old + k)
  else if vc < tmax - 160 then old - k
  else old

/-- The demand Vd in mV (R274): the largest magnitude of the frame's interpolated samples without the sag gain. -/
def State.spkDemand (s : State) (n : Nat) : Nat :=
  (s.carrier.starts.map (fun (q : Nat × Nat) => (s.spkInterp (s.spk n).demand q.1 * 125 / 2 ^ 32).natAbs)).foldl max 0

/-- The coil gain of a RUNNING channel in one frame, and the scale's ramp (R260, R284). -/
def State.spkCoil (s : State) (n : Nat) : State :=
  let x := s.spk n
  let coil := s.coilNext n x.coil
  s.setSpk n { x with coil := coil, fsLeft := x.fsLeft - 1, dirty := x.dirty || coil != x.coil || x.fsLeft != 0 }

/-- The sag gain of a RUNNING channel in one frame (R274). -/
def State.spkSag (s : State) (n : Nat) : State :=
  let x := s.spk n
  let vc : Int := (s.get SPK_PVDD_STAT_PVDD : Nat) - 50 * (s.get SPK_SAG_CFG_HEADROOM : Nat)
  let sag := s.sagNext x.sag (s.spkDemand n) vc
  let s := s.setSpk n { x with sag := sag, dirty := x.dirty || sag != x.sag }
  let s := (s.put (SPK_STAT_SAG_RED n) (sag * 4 / 1536)).put (SPK_STAT_SAG_ACTIVE n) (b2n (sag != 0))
  let s := if sag ≠ 0 then s.bump (SPK_CNT_SAG_FRAMES n) else s
  if sag ≠ 0 ∧ x.sag = 0 then
    (s.put SPK_SUM_SAG 1).post 0x0A0A sevInfo (pack [p16 n, p16 (s.get SPK_PVDD_STAT_PVDD)])
  else s

/-- Relay and rest times of channel `n` go by (R268, R269, R271). -/
def State.spkWaits (s : State) (n : Nat) : State :=
  let x := s.spk n
  let s := s.setSpk n { x with wait := x.wait - 1, age := if x.phase = .rest then x.age + 1 else 0 }
  if x.phase = .zero ∧ x.wait = 1 then s.put (SPK_STAT_HIZ n) 0 else s

/-- Stages 1 to 3 on the cell `c`, and CLIP for the frame (R260, R261, R282): `clip` says that the loop clipped. The value is in units
of 2^-32. -/
def State.spkInput (s : State) (n : Nat) (c : Word) (clip : Bool) : Int × State :=
  let x := s.spk n
  let len := s.rampFrames
  let a := max (-(2 ^ 32)) (min (2 ^ 32) (audioOf c))
  let clipped := clip || a != audioOf c
  let s := if clipped then (s.bump (SPK_CNT_CLIP n)).countClip n else s
  let mute := rampStep len x.mutePos (s.on (SPK_CFG_MUTE n) || s.loadMute)
  let ramp : Nat := match x.phase with
    | .ramp => min len (x.rampPos + 1)
    | .stop => if x.folding then x.rampPos else x.rampPos - 1
    | _ => x.rampPos
  let spoil := (flagsOf c &&& (flagS ||| flagP ||| flagX ||| flagE)) != 0
  ((a * ((len - mute : Nat) : Int) * (ramp : Int)) / ((len * len : Nat) : Int),
   s.setSpk n { x with mutePos := mute, rampPos := ramp, dirty := x.dirty || clipped || spoil
                       played := if x.phase = .play then x.played + 1 else x.played, winPos := x.winPos + 1 })

/-- Stages 4 to 7 on the value `v` (R260): the gains multiply. -/
def State.spkScale (s : State) (n fs : Nat) (v : Int) : State :=
  let run : Bool := s.spkState n == 2
  let s := if run then s.spkCoil n else s
  let x := s.spk n
  let w := v * (fs : Int) * dbGain (-((s.thermRed * 8192 / 125 : Nat) : Int)) / 2 ^ 32
  let w := w * dbGain (-((x.coil * 256 / 375 : Nat) : Int)) / 2 ^ 32
  let s := s.setSpk n { x with demand := (w :: x.demand).take s.spkSpan }
  let s := if run then s.spkSag n else s
  let x := s.spk n
  s.setSpk n { x with hist := (w * dbGain (-((x.sag * 128 / 3 : Nat) : Int)) / 2 ^ 32 :: x.hist).take s.spkSpan }

/-- Stages 8 to 11: the targets of the frame's carrier periods; the tones' and the fold ramp's positions move on. -/
def State.spkDrive (s : State) (n fs : Nat) : State :=
  let x := s.spk n
  let f := s.pwmFrame
  let fold := if s.spkFolds n then x.foldLeft - 1 else x.foldLeft
  s.setSpk n { x with
    out := s.carrier.starts.map (fun (q : Nat × Nat) => s.spkTarget n fs q.1)
    pilotAt := (x.pilotAt + f) % 4096000, loadAt := x.loadAt + f, foldLeft := fold
    tweetAt := if x.tweet then x.tweetAt + f else x.tweetAt }

/-- One frame of channel `n` (R260, R261), whose load current in the frame that ended was `ma`. -/
def State.spkFrame (s : State) (n ma : Nat) : State :=
  if s.spkUpper n then s
  else
    let s := s.spkWaits n
    if ¬ s.spkSwitching n then s.setSpk n { s.spk n with out := [] }
    else
      let fs := s.spkFs n (s.get (SPK_CFG_FS_V n))
      let r := s.spkInput n (s.outCell (0x90 + n)) (s.spkOver n ma (s.spk n).out)
      (r.2.spkScale n fs r.1).spkDrive n fs

/-! ### Fold and sleep (R289, R290) -/

/-- A fold reaches the speaker stages; `cause` is FAULT_CAUSE 5 or 6. -/
def State.spkFold (s : State) (cause : Nat) : State :=
  (List.range 4).foldl (fun s n =>
    let x := s.spk n
    if s.spkUpper n then s else
    match s.spkState n with
    | 1 | 2 | 3 =>
      let s := s.put (SPK_STAT_FAULT_CAUSE n) cause
      if x.phase = .rest ∨ x.phase = .release then s.setSpk n { x with folding := true, startReq := false }
      else if s.spkState n = 1 ∨ x.phase = .trip then s.spkToRest n true
      else (s.put (SPK_STAT_STATE n) 3).setSpk n { x with phase := .stop, folding := true, tweet := false, startReq := false }
    | 0 => if x.startReq then
        ((s.put (SPK_STAT_STATE n) 6).put (SPK_STAT_FAULT_CAUSE n) cause).setSpk n { x with startReq := false }
      else s
    | _ => s) s

/-- The keeper releases a fold (R289). -/
def State.spkUnfold (s : State) : State :=
  (List.range 4).foldl (fun s n =>
    let x := s.spk n
    if s.spkUpper n then s else
    match s.spkState n with
    | 6 =>
      if s.on (SPK_CFG_EN n) then (if s.on SPK_PVDD_STAT_UV || s.on SPK_PVDD_STAT_OV then s.spkCheck n else s.spkRelay n)
      else (s.put (SPK_STAT_STATE n) 0).put (SPK_STAT_FAULT_CAUSE n) 0
    | 3 => s.setSpk n { x with folding := false, startReq := s.on (SPK_CFG_EN n) }
    | 4 => s.setSpk n { x with retryAt := x.retryAt.map (fun _ => s.frame) }
    | _ => s) s

/-- Every channel is OFF, LATCHED, FAULTED or FOLDED: sleep may go on (R290). -/
def State.spkQuiet (s : State) : Bool :=
  (List.range 4).all (fun n => s.spkState n == 0 || decide (4 ≤ s.spkState n))

/-- After sleep each channel with EN at 1 starts under R268 (R290). -/
def State.spkWake (s : State) : State :=
  (List.range 4).foldl (fun s n =>
    if s.spkUpper n then s
    else if s.spkState n = 0 ∨ s.spkState n = 6 then
      ((s.put (SPK_STAT_STATE n) 0).put (SPK_STAT_FAULT_CAUSE n) 0).setSpk n { s.spk n with startReq := s.on (SPK_CFG_EN n) }
    else s) s

end Sys2Proof.Machine
end

