-- ==== Sys2Proof/Machine/Headphone.lean ====
section
/-! DEFINITION. The headphone outputs (chapter Headphone Outputs and Accessory Detection). -/

namespace Sys2Proof.Machine

/-- A headphone channel's hidden state. -/
def State.hpo (s : State) (n : Nat) : Hpo := mapGet Hpo.reset s.hpos n
/-- A headphone channel's hidden state is replaced. -/
def State.setHpo (s : State) (n : Nat) (x : Hpo) : State := { s with hpos := mapSet Hpo.reset s.hpos n x }

/-- A jack's hidden state. -/
def State.jack (s : State) (j : Nat) : Jack := mapGet Jack.reset s.jacks j
/-- A jack's hidden state is replaced. -/
def State.setJack (s : State) (j : Nat) (x : Jack) : State := { s with jacks := mapSet Jack.reset s.jacks j x }

/-- A channel's state code (R308): 0 OFF, 1 STARTING, 2 RUNNING, 3 STOPPING, 4 LATCHED, 5 FAULTED, 6 FOLDED. -/
def State.hpoState (s : State) (n : Nat) : Nat := s.get (HPO_STAT_STATE n)

/-- 384 kHz samples of a 10 ms ramp (R294). -/
def hpoRamp : Nat := 3840

/-- The charge pump stops when no channel needs it (R296). -/
def State.pumpCheck (s : State) : State :=
  if s.get HPO_STAT_CP_STATE ≠ 3 ∧
      (List.range 4).all (fun n => (s.hpoState n == 0 || decide (4 ≤ s.hpoState n)) && !s.calibrating (0x18 + n)) then
    s.put HPO_STAT_CP_STATE 0
  else s

/-- The charge pump starts if it is off (R296 step 2). -/
def State.pumpStart (s : State) : State := if s.get HPO_STAT_CP_STATE = 0 then s.put HPO_STAT_CP_STATE 1 else s

/-- HPO_START (R296 step 1). -/
def hpoStart (n : Nat) (s : State) : State :=
  let x := s.hpo n
  if x.startReq && s.hpoState n == 0 && s.on (HPO_CFG_EN n) && !s.folded && s.awake && s.get HPO_STAT_CP_STATE != 3 &&
      !s.calibrating (0x18 + n) then
    ((s.put (HPO_STAT_STATE n) 1).setHpo n { x with
      startReq := false, folding := false, mode := s.get (HPO_CFG_MODE n), ramping := false, rampPos := 0, limRun := 0
      played := 0, foldLeft := hpoRamp, hist := [], out := [] }).pumpStart
  else s

/-- HPO_START. -/
def execHpoStart (n : FourIx) (s : State) : Result := .next (hpoStart n.val s)

/-- HPO_SERVO_END (R296 steps 2 to 4): the pump is at its level and the servo has settled. -/
def hpoServoEnd (n : Nat) (s : State) : State :=
  if s.hpoState n = 1 ∧ s.get HPO_STAT_CP_STATE ≠ 3 then
    ((s.put HPO_STAT_CP_STATE 2).put (HPO_STAT_STATE n) 2).setHpo n { s.hpo n with ramping := true, rampPos := 0 }
  else s

/-- HPO_SERVO_END. -/
def execHpoServoEnd (n : FourIx) (s : State) : Result := .next (hpoServoEnd n.val s)

/-- HPO_RAMP_DONE (R296 step 4). -/
def hpoRampDone (n : Nat) (s : State) : State :=
  let x := s.hpo n
  if s.hpoState n = 2 ∧ x.ramping ∧ hpoRamp ≤ x.rampPos then s.setHpo n { x with ramping := false, played := 0 } else s

/-- HPO_RAMP_DONE. -/
def execHpoRampDone (n : FourIx) (s : State) : Result := .next (hpoRampDone n.val s)

/-- HPO_STOP_DONE (R296, R299): stage 6 or 7 is at zero. -/
def hpoStopDone (n : Nat) (s : State) : State :=
  let x := s.hpo n
  if s.hpoState n = 3 ∧ (x.rampPos = 0 ∨ x.foldLeft = 0) then
    ((s.put (HPO_STAT_STATE n) (if x.folding then 6 else 0)).setHpo n { x with
      folding := false, startReq := !x.folding && s.on (HPO_CFG_EN n) }).pumpCheck
  else s

/-- HPO_STOP_DONE. -/
def execHpoStopDone (n : FourIx) (s : State) : Result := .next (hpoStopDone n.val s)

/-- A VOL code that HPO_CFGn takes (R296). -/
def volOk (g : Nat) : Bool := g == gainMute || (decide (-7680 ≤ toSigned 16 g) && decide (toSigned 16 g ≤ 0))

/-- HPO_CFG_WRITE (R296, R299). -/
def hpoCfgWrite (n v : Nat) (s : State) : State :=
  if ¬ volOk (bits v 16 16) then
    ((s.put (HPO_STAT_CFG_ERR n) 1).put HPO_SUM_CFG_ERR 1).post 0x0904 sevWarn (pack [p32 (0xE09100 + 0x20 * n), (64, regImage (0xE09100 + 0x20 * n) v)])
  else
    let was := s.on (HPO_CFG_EN n)
    let s := ((((s.put (HPO_CFG_EN n) (bits v 0 1)).put (HPO_CFG_MODE n) (bits v 1 1)).put (HPO_CFG_MUTE n) (bits v 2 1)).put
      (HPO_CFG_VOL n) (bits v 16 16)).put (HPO_STAT_CFG_ERR n) 0
    let x := s.hpo n
    if was && !bitOf v 0 then
      let s := s.setHpo n { x with startReq := false }
      if s.hpoState n = 1 ∨ s.hpoState n = 2 then
        (s.put (HPO_STAT_STATE n) 3).setHpo n { s.hpo n with ramping := false }
      else s
    else if bitOf v 0 && !was then
      (if s.hpoState n = 0 ∧ s.folded then s.put (HPO_STAT_STATE n) 6
       else if s.hpoState n = 0 ∨ s.hpoState n = 3 then s.setHpo n { x with startReq := true }
       else s)
    else s

/-- HPO_CFG_WRITE. -/
def execHpoCfgWrite (n : FourIx) (v : Word) (s : State) : Result := .next (hpoCfgWrite n.val v.toNat s)

/-- The channel belongs to a jack that is not READY (R297). -/
def State.jackNotReady (s : State) (n : Nat) : Bool :=
  (List.range 2).any (fun j => s.on (DET_JACK_CFG_EN j) && s.bit (DET_JACK_CFG_HPO_MASK j) n && s.get (DET_JACK_STAT_STATE j) != 5)

/-- HPO_SHORT (R297): limited in every frame for 10 ms. -/
def hpoShort (n : Nat) (s : State) : State :=
  let x := s.hpo n
  if s.hpoState n = 2 ∧ s.rampFrames ≤ x.limRun ∧ ¬ s.jackNotReady n then
    let rt := s.get (HPO_STAT_RETRY n) + 1
    let s := (((s.put (HPO_STAT_STATE n) 4).put (HPO_STAT_RETRY n) (min 3 rt)).bump (HPO_CNT_SHORTS n)).setBit HPO_SUM_SHORT n
    let s := (s.setHpo n { x with limRun := 0, latchAt := s.frame, rampPos := 0, ramping := false }).post 0x0901 sevFault
      (pack [p16 n, p16 (min 3 rt)])
    let s := if 3 ≤ rt then (s.put (HPO_STAT_STATE n) 5).post 0x0902 sevFault (pack [p16 n]) else s
    s.pumpCheck
  else s

/-- HPO_SHORT. -/
def execHpoShort (n : FourIx) (s : State) : Result := .next (hpoShort n.val s)

/-- HPO_RESTART (R297): 500 ms after the latch, at step 3. -/
def hpoRestart (n : Nat) (s : State) : State :=
  let x := s.hpo n
  if s.hpoState n = 4 ∧ s.on (HPO_CFG_EN n) ∧ !s.folded ∧ s.get HPO_STAT_CP_STATE ≠ 3 ∧ s.framesOfMs 500 ≤ s.frameAgo x.latchAt then
    ((s.put (HPO_STAT_STATE n) 1).setHpo n { x with mode := s.get (HPO_CFG_MODE n), rampPos := 0, played := 0
                                                    foldLeft := hpoRamp, hist := [], out := [] }).pumpStart
  else s

/-- HPO_RESTART. -/
def execHpoRestart (n : FourIx) (s : State) : Result := .next (hpoRestart n.val s)

/-- HPO_RECOVERED (R297). -/
def hpoRecovered (n : Nat) (s : State) : State :=
  let x := s.hpo n
  if s.get (HPO_STAT_RETRY n) ≠ 0 ∧ s.hpoState n = 2 ∧ !x.ramping ∧ s.framesOfMs 500 ≤ x.played then
    (s.put (HPO_STAT_RETRY n) 0).post 0x0905 sevInfo (pack [p16 n])
  else s

/-- HPO_RECOVERED. -/
def execHpoRecovered (n : FourIx) (s : State) : Result := .next (hpoRecovered n.val s)

/-- HPO_CP_FAULT (R298): `mv` is CPVSS. -/
def hpoCpFault (mv : Int) (s : State) : State :=
  if s.get HPO_STAT_CP_STATE = 1 ∨ s.get HPO_STAT_CP_STATE = 2 then
    let s := (s.put HPO_STAT_CP_STATE 3).put HPO_SUM_CP_FAULT 1
    let s := (List.range 4).foldl (fun s n =>
      if s.hpoState n = 0 then s
      else (s.put (HPO_STAT_STATE n) 5).setHpo n { s.hpo n with ramping := false, rampPos := 0, folding := false }) s
    s.post 0x0903 sevFault (pack [p16i mv])
  else s

/-- HPO_CP_FAULT. -/
def execHpoCpFault (mv : Int) (s : State) : Result := .next (hpoCpFault mv s)

/-- HPO_CLEAR (R297, R298). -/
def hpoClear (n : Nat) (s : State) : State :=
  let s := if s.get HPO_STAT_CP_STATE = 3 then s.put HPO_STAT_CP_STATE 0 else s
  if s.hpoState n = 4 ∨ s.hpoState n = 5 then
    let s := (s.put (HPO_STAT_STATE n) 0).put (HPO_STAT_RETRY n) 0
    if ¬ s.on (HPO_CFG_EN n) then s
    else if s.folded then s.put (HPO_STAT_STATE n) 6
    else s.setHpo n { s.hpo n with startReq := true }
  else s

/-- HPO_CLEAR. -/
def execHpoClear (n : FourIx) (s : State) : Result := .next (hpoClear n.val s)

/-- Channels held by a jack mute (R303, R305), and whether by its 1 ms form. -/
def State.jackMuted (s : State) (n : Nat) : Bool × Bool :=
  let js := (List.range 2).filter (fun j => (s.jack j).mute && s.bit (DET_JACK_CFG_HPO_MASK j) n)
  (!js.isEmpty, js.any (fun j => (s.jack j).fast))

/-- JACK_MUTED follows the jack mutes. -/
def State.showJackMute (s : State) : State := s.put HPO_STAT_JACK_MUTED (maskOf 4 (fun n => (s.jackMuted n).1))

/-- The volume after one 384 kHz sample (R294 stage 4): 1 dB per ms in dB, which is 1/6 gain code a sample, and 10 ms linear in
amplitude at MUTE. -/
def volStep (x : Hpo) (target : Nat) : Hpo :=
  if target = gainMute then
    if -46080 < x.vol then { x with vol := x.vol - 1 } else { x with volAmp := x.volAmp - 1 }
  else if x.volAmp < hpoRamp then { x with volAmp := x.volAmp + 1 }
  else
    let t := 6 * toSigned 16 target
    { x with vol := if x.vol < t then x.vol + 1 else if t < x.vol then x.vol - 1 else t }

/-- VOL_APPLIED: the nearest code (R308). -/
def volCode (x : Hpo) : Nat := if 2 * x.volAmp < hpoRamp then gainMute else fromSigned 16 ((x.vol + 3) / 6)

/-- The volume of a channel that does not run follows VOL. -/
def volSet (x : Hpo) (target : Nat) : Hpo :=
  if target = gainMute then { x with vol := -46080, volAmp := 0 } else { x with vol := 6 * toSigned 16 target, volAmp := hpoRamp }

/-- The cells that the interpolation of stage 2 covers (R294; DESIGN CHOICE, log 50): up to twice the latency of R129 and one. -/
def State.hpoSpan (s : State) : Nat := if s.rate96 then 39 else 35

/-- Stage 2 at the `i`-th 384 kHz sample of a frame, over the values `h`, newest first. -/
def State.hpoInterp (s : State) (h : List Int) (i : Nat) : Int :=
  (h.zipIdx.map (fun (p : Int × Nat) => p.1 * Config.headphoneTap s.rate96 i p.2)).sum / 2 ^ 32

/-- The peak of full scale in µV: 1.0 V rms in HP mode, 2.0 V rms in LINE mode (R295). -/
def hpoPeak (mode : Nat) : Nat := if mode = 0 then 1414214 else 2828427

/-- One 384 kHz sample `v` of stages 4 to 7 (R294): the channel's ramps move, and the sample in µV follows. `stop` is the stop ramp. -/
def hpoSample (x : Hpo) (vol : Nat) (stop mutes fast : Bool) (v : Int) : Hpo × Int :=
  let x := volStep x vol
  let x := { x with
    mutePos := if fast then min hpoRamp (x.mutePos + 10) else rampStep hpoRamp x.mutePos mutes
    rampPos := if stop then (if x.folding then x.rampPos else x.rampPos - 1) else min hpoRamp (x.rampPos + 1)
    foldLeft := if x.folding || decide (x.foldLeft < hpoRamp) then x.foldLeft - 1 else x.foldLeft }
  let g := if x.volAmp = 0 then 0 else v * dbGain (x.vol * 512 / 3) / 2 ^ 32
  let k : Int := (x.volAmp * (hpoRamp - x.mutePos) * x.rampPos * x.foldLeft : Nat)
  (x, g * k * (hpoPeak x.mode : Nat) / (hpoRamp ^ 4 * 2 ^ 32 : Nat))

/-- The samples of a frame, one after the other: the channel after them, and what its driver plays. -/
def hpoRun (x : Hpo) (vol : Nat) (stop mutes fast : Bool) : List Int → Hpo
  | [] => x
  | v :: l =>
    let r := hpoSample x vol stop mutes fast v
    hpoRun { r.1 with out := r.1.out ++ [r.2] } vol stop mutes fast l

/-- Stages 2 and 3 in one frame (R127, R294): the interpolated samples with the low-latency sum, before it saturates. -/
def State.hpoStream (s : State) (n : Nat) : List Int :=
  let low := mapGet [] s.lowSum n
  (List.range s.lowCount).map (fun i => s.hpoInterp (s.hpo n).hist i + low.getD i 0)

/-- A sample saturated to ±1.0. -/
def hpoSat (v : Int) : Int := max (-(2 ^ 32)) (min (2 ^ 32) v)

/-- One frame of headphone channel `n` (R294, R297): `lim` says that its output was current-limited. -/
def State.hpoFrame (s : State) (n : Nat) (lim : Bool) : State :=
  let x := s.hpo n
  let st := s.hpoState n
  let vol := s.get (HPO_CFG_VOL n)
  if st ≠ 2 ∧ st ≠ 3 then
    let x := volSet x vol
    (s.setHpo n { x with out := [] }).put (HPO_STAT_VOL_APPLIED n) (volCode x)
  else
    let c := s.outCell (0x98 + n)
    let a := hpoSat (audioOf c)
    let jm := s.jackMuted n
    let s := s.setHpo n { x with hist := (a :: x.hist).take s.hpoSpan }
    let l := s.hpoStream n
    let x := hpoRun { s.hpo n with out := [] } vol (st == 3) (s.on (HPO_CFG_MUTE n) || jm.1 || s.loadMute) jm.2 (l.map hpoSat)
    let x := { x with limRun := if lim then x.limRun + 1 else 0, played := if st = 2 ∧ !x.ramping then x.played + 1 else x.played }
    let s := ((s.setHpo n x).put (HPO_STAT_VOL_APPLIED n) (volCode x)).put (HPO_STAT_MUTED n) (b2n (decide (hpoRamp ≤ x.mutePos)))
    let s := if lim then s.bump (HPO_CNT_ILIM n) else s
    if a ≠ audioOf c ∨ l.any (fun v => hpoSat v != v) then ((s.bump (HPO_CNT_CLIP n)).setBit HPO_SUM_CLIP n).countClip (4 + n) else s

/-- A fold reaches the headphone outputs (R299). -/
def State.hpoFold (s : State) : State :=
  (List.range 4).foldl (fun s n =>
    let x := s.hpo n
    match s.hpoState n with
    | 1 | 2 | 3 => (s.put (HPO_STAT_STATE n) 3).setHpo n { x with folding := true, startReq := false, ramping := false }
    | 0 => if x.startReq then (s.put (HPO_STAT_STATE n) 6).setHpo n { x with startReq := false } else s
    | _ => s) s

/-- Folded channels with EN at 1 start again: the fold's release, or the exit from sleep (R299). -/
def State.hpoUnfold (s : State) : State :=
  (List.range 4).foldl (fun s n =>
    if s.hpoState n = 6 then
      (s.put (HPO_STAT_STATE n) 0).setHpo n { s.hpo n with startReq := s.on (HPO_CFG_EN n) }
    else if s.hpoState n = 3 then s.setHpo n { s.hpo n with folding := false, startReq := s.on (HPO_CFG_EN n) }
    else if s.hpoState n = 0 ∧ s.on (HPO_CFG_EN n) then s.setHpo n { s.hpo n with startReq := true }
    else s) s

/-- No headphone channel is under way. -/
def State.hpoQuiet (s : State) : Bool := (List.range 4).all (fun n => s.hpoState n == 0 || decide (4 ≤ s.hpoState n))

end Sys2Proof.Machine
end

