-- ==== Sys2Proof/Machine/Detect.lean ====
section
/-! DEFINITION. Jack detection and buttons, the bias rows that reach them, and privacy mute (chapters Headphone Outputs and
Accessory Detection, and Wake Listening and the Archive). -/

namespace Sys2Proof.Machine

/-- A jack's state code (R310): 0 DISABLED, 1 EMPTY, 2 DEBOUNCE, 3 WAIT, 4 IDENTIFYING, 5 READY, 6 PAUSED. -/
def State.jackState (s : State) (j : Nat) : Nat := s.get (DET_JACK_STAT_STATE j)

/-- The jack mute of `j` is applied or released (R303, R305). -/
def State.jackMute (s : State) (j : Nat) (on fast : Bool) : State :=
  (s.setJack j { s.jack j with mute := on && s.on (DET_JACK_CFG_AUTO_MUTE j), fast := on && fast }).showJackMute

/-- The outputs of jack `j` are held at zero at once (R303 step 1). -/
def State.jackHold (s : State) (j : Nat) : State :=
  let s := s.jackMute j true false
  if (s.jack j).mute then
    (List.range 4).foldl (fun s n =>
      if s.bit (DET_JACK_CFG_HPO_MASK j) n then s.setHpo n { s.hpo n with mutePos := hpoRamp } else s) s
  else s

/-- The detector drives the jack's bias on (R303 step 3). -/
def State.detBiasOn (s : State) (b : Nat) : State :=
  if b = 0 ∨ bitOf s.detBias (b - 1) then s
  else
    let was := s.biasMay (b - 1)
    let s := { s with detBias := setBitN s.detBias (b - 1) }
    if !was && s.biasMay (b - 1) then s.biasStart (b - 1) else s

/-- The bias returns to its EN (R304, R305). -/
def State.detBiasOff (s : State) (b : Nat) : State :=
  if b = 0 then s
  else
    let s := { s with detBias := clrBitN s.detBias (b - 1) }
    if s.on (AIN_BIAS_CFG_EN (b - 1)) then s else s.biasOff (b - 1)

/-- A pressed button is released, with its event (R305, R306). -/
def State.btnRelease (s : State) (j : Nat) : State :=
  let x := s.jack j
  match x.btn with
  | some k =>
    ((((s.setJack j { x with btn := none, cand := none, count := 0, heldMs := 0 }).put (DET_JACK_STAT_BTN j) 0).setBit
      DET_SUM_BTN j)).post 0x0C05 sevInfo (pack [p16 j, p16 k, p32 x.heldMs])
  | none => s.setJack j { x with cand := none, count := 0 }

/-- The jack's TYPE is set and it is READY (R303 step 5, R304). -/
def State.detReady (s : State) (j type code : Nat) : State :=
  let s := (((s.put (DET_JACK_STAT_STATE j) 5).put (DET_JACK_STAT_TYPE j) type).put (DET_JACK_STAT_CODE j) code).setBit DET_SUM_ID j
  let s := s.post 0x0C03 sevInfo (pack [p16 j, p16 type, p16 code])
  let s := if type = 2 ∨ type = 3 then s else s.detBiasOff (s.jack j).bias
  s.jackMute j false false

/-- Steps 3 to 5 begin (R303, R307); under privacy mute the jack pauses instead. -/
def State.identify (s : State) (j : Nat) : State :=
  let x := s.jack j
  if x.bias = 0 then s.detReady j 5 (s.get (DET_JACK_STAT_CODE j))
  else if s.privacy then s.put (DET_JACK_STAT_STATE j) 6
  else
    ((s.put (DET_JACK_STAT_STATE j) 4).setJack j { x with settle := 5, samples := [], attempts := 0 }).detBiasOn x.bias

/-- The insertion debounce starts (R303 step 1), with the configuration of this insertion. -/
def State.debounce (s : State) (j : Nat) : State :=
  let s := s.setJack j { s.jack j with
    bias := s.get (DET_JACK_CFG_BIAS j), pol := s.on (DET_JACK_CFG_POL j), removing := false, seated := false }
  (s.put (DET_JACK_STAT_STATE j) 2).jackHold j

/-- The jack level shows a plug. -/
def State.plugged (s : State) (j : Nat) : Bool :=
  let st := s.jackState j
  let pol := if st ≤ 1 then s.on (DET_JACK_CFG_POL j) else (s.jack j).pol
  (s.jack j).level == pol

/-- The jack is empty again (R305). -/
def State.jackEmpty (s : State) (j : Nat) : State :=
  let s := (s.btnRelease j).detBiasOff (s.jack j).bias
  let s := (s.put (DET_JACK_STAT_STATE j) 1).put (DET_JACK_STAT_TYPE j) 0
  s.setJack j { s.jack j with removing := false, samples := [] }

/-- DET_JACK_CFG_WRITE (R301, R310). -/
def detJackCfgWrite (j v : Nat) (s : State) : State :=
  if bits v 16 2 ≠ 0 ∧ bits v 16 2 = s.get (DET_JACK_CFG_BIAS (1 - j)) then
    ((s.put (DET_JACK_STAT_CFG_ERR j) 1).put DET_SUM_CFG_ERR 1).post 0x0C06 sevWarn (pack [p32 (0xE0C100 + 0x20 * j), (64, regImage (0xE0C100 + 0x20 * j) v)])
  else
    let was := s.on (DET_JACK_CFG_EN j)
    let s := ((((s.put (DET_JACK_CFG_EN j) (bits v 0 1)).put (DET_JACK_CFG_POL j) (bits v 1 1)).put (DET_JACK_CFG_INS_DB j)
      (bits v 4 4)).put (DET_JACK_CFG_REM_DB j) (bits v 8 4)).put (DET_JACK_CFG_ID_DELAY j) (bits v 12 4)
    let s := (((s.put (DET_JACK_CFG_BIAS j) (bits v 16 2)).put (DET_JACK_CFG_HPO_MASK j) (bits v 20 4)).put
      (DET_JACK_CFG_AUTO_MUTE j) (bits v 24 1)).put (DET_JACK_CFG_BTN_EN j) (bits v 25 1)
    let s := s.put (DET_JACK_STAT_CFG_ERR j) 0
    if bitOf v 0 && !was then
      let s := s.put (DET_JACK_STAT_STATE j) 1
      if s.plugged j then s.debounce j else s
    else if was && !bitOf v 0 then ((s.jackEmpty j).put (DET_JACK_STAT_STATE j) 0).jackMute j false false
    else
      let s := if bitOf v 25 then s else s.btnRelease j
      s.jackMute j ((s.jack j).mute) ((s.jack j).fast)

/-- DET_JACK_CFG_WRITE. -/
def execDetJackCfgWrite (j : TwoIx) (v : Word) (s : State) : Result := .next (detJackCfgWrite j.val v.toNat s)

/-- JACK_EDGE (R303, R305). -/
def jackEdge (j : Nat) (level : Bool) (s : State) : State :=
  let s := s.setJack j { s.jack j with level := level }
  let st := s.jackState j
  if st = 0 then s
  else if s.plugged j then
    (if st ≤ 2 then s.debounce j else s.setJack j { s.jack j with removing := false })
  else if st = 1 then s
  else if st = 2 then (s.put (DET_JACK_STAT_STATE j) 1).jackMute j false false
  else s.setJack j { s.jack j with removing := true }

/-- JACK_EDGE. -/
def execJackEdge (j : TwoIx) (level : Bool) (s : State) : Result := .next (jackEdge j.val level s)

/-- DET_INSERT (R303 step 2, R307). -/
def detInsert (j : Nat) (s : State) : State :=
  if s.jackState j = 2 ∧ s.plugged j then
    let s := ((s.put (DET_JACK_STAT_STATE j) 3).setBit DET_SUM_INSERT j).post 0x0C01 sevInfo (pack [p16 j, p32 s.frame])
    if s.on DET_CTL_WAKE_EN then s.wakeBy 2 else s
  else s

/-- DET_INSERT. -/
def execDetInsert (j : TwoIx) (s : State) : Result := .next (detInsert j.val s)

/-- JACK_SEAT_END (R303 step 3): in sleep the jack waits for the wake. -/
def jackSeatEnd (j : Nat) (s : State) : State :=
  if s.jackState j ≠ 3 then s
  else if s.awake then s.identify j
  else s.setJack j { s.jack j with seated := true }

/-- JACK_SEAT_END. -/
def execJackSeatEnd (j : TwoIx) (s : State) : Result := .next (jackSeatEnd j.val s)

/-- The TYPE of a mean code (R304). -/
def jackType (code : Nat) : Nat :=
  if code ≤ 44 then 1
  else if 220 ≤ code ∧ code ≤ 711 then 2
  else if 804 ≤ code ∧ code ≤ 893 then 3
  else if 1002 ≤ code then 4
  else 5

/-- A sample of the identification (R303 steps 3 to 5). -/
def State.identSample (s : State) (j code : Nat) : State :=
  let x := s.jack j
  if x.settle ≠ 0 then s.setJack j { x with settle := x.settle - 1 }
  else
    let l := code :: x.samples
    if l.length < 16 then s.setJack j { x with samples := l }
    else
      let hi := l.foldl max 0
      let lo := l.foldl min 1023
      let mean := l.sum / 16
      if hi - lo ≤ 32 then (s.setJack j { x with samples := [] }).detReady j (jackType mean) mean
      else if 4 ≤ x.attempts + 1 then (s.setJack j { x with samples := [] }).detReady j 5 mean
      else s.setJack j { x with samples := [], attempts := x.attempts + 1 }

/-- The button a code decodes to (R306). -/
def State.btnOf (s : State) (code : Nat) : Option Nat :=
  if code ≤ s.get DET_BTN_TH_TH0 then some 0
  else if code ≤ s.get DET_BTN_TH_TH1 then some 1
  else if code ≤ s.get DET_BTN_TH_TH2 then some 2
  else if code ≤ s.get DET_BTN_TH_TH3 then some 3
  else none

/-- A sample of the button decoder (R306). -/
def State.btnSample (s : State) (j code : Nat) : State :=
  let x := s.jack j
  let x := { x with heldMs := if x.btn.isSome then x.heldMs + 1 else 0 }
  let d := s.btnOf code
  if d = x.btn then s.setJack j { x with cand := d, count := 0 }
  else
    let n := if d = x.cand then x.count + 1 else 1
    let need := max 1 (if d.isSome then s.get DET_BTN_CFG_PRESS_DB else s.get DET_BTN_CFG_REL_DB)
    let s := s.setJack j { x with cand := d, count := n }
    if n < need then s
    else
      let s := s.btnRelease j
      match d with
      | some k =>
        (((s.setJack j { s.jack j with btn := some k, heldMs := 0 }).put (DET_JACK_STAT_BTN j) (2 ^ k)).setBit DET_SUM_BTN j).post
          0x0C04 sevInfo (pack [p16 j, p16 k])
      | none => s

/-- DET_SAMPLE (R302, R303, R306, R307): buttons are decoded while the bias has ramped. -/
def detSample (j code : Nat) (s : State) : State :=
  let code := min 1023 code
  let t := s.get (DET_JACK_STAT_TYPE j)
  if ¬ s.awake then s
  else if s.jackState j = 4 then s.identSample j code
  else if s.jackState j = 5 ∧ s.on (DET_JACK_CFG_BTN_EN j) ∧ (t = 2 ∨ t = 3) ∧ s.bit AIN_BIAS_STAT_ON ((s.jack j).bias - 1) then
    s.btnSample j code
  else s

/-- DET_SAMPLE. -/
def execDetSample (j : TwoIx) (code : Nat) (s : State) : Result := .next (detSample j.val code s)

/-- DET_REMOVE (R305, R307). -/
def detRemove (j : Nat) (s : State) : State :=
  if 3 ≤ s.jackState j ∧ (s.jack j).removing then
    let s := ((s.jackMute j true true).jackEmpty j).setBit DET_SUM_REMOVE j
    let s := s.post 0x0C02 sevInfo (pack [p16 j, p32 s.frame])
    if s.on DET_CTL_WAKE_EN then s.wakeBy 2 else s
  else s

/-- DET_REMOVE. -/
def execDetRemove (j : TwoIx) (s : State) : Result := .next (detRemove j.val s)

/-- REIDENT (R307). -/
def reident (j : Nat) (s : State) : State :=
  if s.jackState j = 5 then ((s.btnRelease j).jackMute j true false).identify j else s

/-- REIDENT. -/
def execReident (j : TwoIx) (s : State) : Result := .next (reident j.val s)

/-! ### Biases and privacy (R220, R255, R256, R307) -/

/-- Jack `j` uses bias `k`. -/
def State.jackUses (s : State) (j k : Nat) : Bool := decide (3 ≤ s.jackState j) && (s.jack j).bias == k + 1

/-- AIN_BIAS_CFG_WRITE (R220): a paused jack whose bias is enabled again identifies anew (R307). -/
def biasCfgWrite (v : Nat) (s : State) : State :=
  let t := ainBiasCfgWrite v s
  (List.range 2).foldl (fun t j =>
    if (List.range 3).any (fun k => !s.on (AIN_BIAS_CFG_EN k) && t.on (AIN_BIAS_CFG_EN k) && t.jackUses j k) &&
        t.jackState j == 6 && !t.privacy then t.identify j
    else t) t

/-- AIN_BIAS_CFG_WRITE. -/
def execAinBiasCfgWrite (v : Word) (s : State) : Result := .next (biasCfgWrite v.toNat s)

/-- What a bias fault does to the jacks (R307). -/
def State.jackBiasFault (s : State) (k : Nat) : State :=
  (List.range 2).foldl (fun s j =>
    if ¬ s.jackUses j k then s
    else if s.jackState j = 4 then s.detReady j 5 (s.get (DET_JACK_STAT_CODE j))
    else if s.jackState j = 5 then (s.btnRelease j).put (DET_JACK_STAT_STATE j) 6
    else s) s

/-- AIN_BIAS_FAULT. -/
def execAinBiasFault (k : ThreeIx) (s : State) : Result :=
  .next (if s.biasMay k.val then (ainBiasFault k.val s).jackBiasFault k.val else s)

/-- Privacy mute pauses a jack that is being identified or is READY (R307). -/
def State.jackPause (s : State) : State :=
  (List.range 2).foldl (fun s j =>
    if s.jackState j = 4 ∨ s.jackState j = 5 then (s.btnRelease j).put (DET_JACK_STAT_STATE j) 6 else s) s

/-- After privacy mute a paused jack identifies anew, and after sleep or a WARM reset one whose seat time has ended (R307). -/
def State.jackResume (s : State) : State :=
  (List.range 2).foldl (fun s j =>
    if s.jackState j = 6 ∨ (s.jackState j = 3 ∧ (s.jack j).seated) then (s.setJack j { s.jack j with seated := false }).identify j
    else s) s

/-- Entry to sleep and a WARM reset release buttons; an identification under way starts anew after the wake (R307). -/
def State.jackSleep (s : State) : State :=
  (List.range 2).foldl (fun s j =>
    let s := s.btnRelease j
    if s.jackState j = 4 then (s.put (DET_JACK_STAT_STATE j) 3).setJack j { s.jack j with seated := true } else s) s

/-- PRIV_ENGAGE: PRIV_N falls. A fall while the release is timed only stops the timing. -/
def privEngage (s : State) : State :=
  if s.on WAKE_PRIV_STAT_ENGAGED then s.put WAKE_PRIV_STAT_RELEASING 0
  else
    let s := ((s.put WAKE_PRIV_STAT_ENGAGED 1).put WAKE_PRIV_STAT_LED 1).put WAKE_PRIV_STAT_RELEASING 0
    let s := { s with wake := { s.wake with privAt := s.get NVS_OPTIME_OP_SEC }, micMute := 3 }
    let s := ((List.range 3).foldl State.biasOff s).put AIN_BIAS_STAT_PRIV 7
    let s := ((s.pdmRefresh.bump WAKE_CNT_PRIV_ENGAGES).put WAKE_SUM_PRIV_CHG 1)
    (s.post 0x0807 sevInfo (pack [p32 s.frame])).jackPause

/-- PRIV_ENGAGE. -/
def execPrivEngage (s : State) : Result := .next (privEngage s)

/-- PRIV_N_RISE: the release timing starts. -/
def privNRise (s : State) : State := if s.on WAKE_PRIV_STAT_ENGAGED then s.put WAKE_PRIV_STAT_RELEASING 1 else s

/-- PRIV_N_RISE. -/
def execPrivNRise (s : State) : Result := .next (privNRise s)

/-- PRIV_RELEASED: PRIV_N has been high for 1,639 CK_AON cycles. -/
def privReleased (s : State) : State :=
  if s.on WAKE_PRIV_STAT_ENGAGED && s.on WAKE_PRIV_STAT_RELEASING then
    let s := ((s.put WAKE_PRIV_STAT_ENGAGED 0).put WAKE_PRIV_STAT_LED 0).put WAKE_PRIV_STAT_RELEASING 0
    let s := ((s.put AIN_BIAS_STAT_PRIV 0).put WAKE_SUM_PRIV_CHG 1).post 0x0808 sevInfo
      (pack [p32 s.frame, p32 (s.get NVS_OPTIME_OP_SEC - s.wake.privAt)])
    s.pdmRefresh.biasRestart.jackResume
  else s

/-- PRIV_RELEASED. -/
def execPrivReleased (s : State) : Result := .next (privReleased s)

end Sys2Proof.Machine
end

