-- ==== Sys2Proof/Machine/Tunnel.lean ====
section
/-! DEFINITION. Sending through the tunnel: unit headers, sequences and replay buffers, and the head's side of a proxy ring
(R333 to R340, chapter The Reninait Chain; R374). -/

namespace Sys2Proof.Machine

/-- The chain interface with fields replaced. -/
def State.setChain (s : State) (f : Chain → Chain) : State := { s with chain := f s.chain }

/-- UNIT of a header (R333). -/
def tunUnit (h : Nat) : Nat := bits h 0 4
/-- TYPE of a header. -/
def tunType (h : Nat) : Nat := bits h 4 4
/-- SEQ of a header. -/
def tunSeq (h : Nat) : Nat := bits h 8 16
/-- ADDR of a header. -/
def tunAddr (h : Nat) : Nat := bits h 24 24
/-- RING of a header. -/
def tunRing (h : Nat) : Nat := bits h 48 6
/-- WORD of a header. -/
def tunWord (h : Nat) : Nat := bits h 54 3
/-- NW of a header. -/
def tunNw (h : Nat) : Nat := bits h 57 3
/-- STATUS of a header. -/
def tunStatus (h : Nat) : Nat := bits h 60 4

/-- A header (R333), SEQ 0. -/
def tunHdr (unit type addr ring word nw status : Nat) : Nat :=
  unit % 16 + 2 ^ 4 * (type % 16) + 2 ^ 24 * (addr % 2 ^ 24) + 2 ^ 48 * (ring % 64) + 2 ^ 54 * (word % 8) + 2 ^ 57 * (nw % 8)
  + 2 ^ 60 * (status % 16)

/-- The header with its SEQ. -/
def withSeq (h seq : Nat) : Nat := h % 2 ^ 8 + 2 ^ 8 * (seq % 65536) + h / 2 ^ 24 * 2 ^ 24

/-- The key under which a partner's sequences are kept: the unit on the head, 0 on a satellite. -/
def State.tunKey (s : State) (unit : Nat) : Nat := if s.isHead then unit else 0

/-- An unsequenced unit leaves. -/
def State.txPlain (s : State) (u : TunUnit) : State := s.setChain (fun c => { c with outbox := c.outbox ++ [u] })

/-- Waiting units of partner `k` move into its replay buffer, 64 at most, and leave (R335). -/
def State.txFill (s : State) (k : Nat) : Nat → State
  | 0 => s
  | n + 1 =>
    let c := s.chain
    match mapGet [] c.sendq k with
    | [] => s
    | u :: r =>
      let q := mapGet [] c.replay k
      if 64 ≤ q.length then s
      else
        let seq := mapGet 0 c.txSeq k
        let u := { u with hdr := withSeq u.hdr seq }
        (s.setChain (fun c => { c with
          sendq := mapSet [] c.sendq k r, replay := mapSet [] c.replay k (q ++ [u]), outbox := c.outbox ++ [u]
          txSeq := mapSet 0 c.txSeq k ((seq + 1) % 65536)
          ackFrame := if q.isEmpty then mapSet 0 c.ackFrame k s.frame else c.ackFrame })).txFill k n

/-- A sequenced unit is sent, or waits for room in the replay buffer (R335). -/
def State.txUnit (s : State) (u : TunUnit) : State :=
  let k := s.tunKey (tunUnit u.hdr)
  (s.setChain (fun c => { c with sendq := mapSet [] c.sendq k (mapGet [] c.sendq k ++ [u]) })).txFill k 64

/-- The address a satellite puts into its upstream units. -/
def State.ownAddr (s : State) : Nat := s.get CHN_STAT_ADDR

/-- Ring `r` is a proxy ring (R340). -/
def State.proxy (s : State) (r : Nat) : Bool := s.ringIs r 0 && s.get (RING_CFG_UNIT r) != 0

/-- Commands of a proxy ring that TAIL now covers go to their unit in enqueue order (R340). -/
def State.proxySend (s : State) (r : Nat) : Nat → State
  | 0 => s
  | fuel + 1 =>
    let q := s.ring r
    let have_ := (s.get (RING_TAIL_TAIL r) + 65536 - q.ready) % 65536
    let nw := bits (s.peek6 (s.ringWord r q.ready)) 8 3 + 1
    if have_ = 0 ∨ have_ < nw then s
    else
      let s := (List.range nw).foldl (fun s i =>
        s.txUnit { hdr := tunHdr (s.get (RING_CFG_UNIT r)) 4 0 r i (nw - 1) 0
                   data := [s.peek6 (s.ringWord r (q.ready + i))] }) s
      let s := ((s.setRing r { s.ring r with ready := (q.ready + nw) % 65536 }).put (RING_STAT_NEXT_SEQ r)
        (s.get (RING_STAT_NEXT_SEQ r) + 1))
      (if s.get (RING_STAT_STATE r) = 1 then s.put (RING_STAT_STATE r) 2 else s).proxySend r fuel

/-- The completion words `w` of a proxy ring's oldest command are written, and the ring moves on or halts (R340, R372, R374).
`last` is false while further completions of the same loss of a unit follow. -/
def State.proxyPost (s : State) (r : Nat) (w : Nat × Nat) (last : Bool) : State :=
  let s := s.ringPush (s.cplRing r) [w.1, w.2]
  let seq := w.1 % 65536
  let status := bits w.1 24 8
  let h := s.get (RING_HEAD_HEAD r)
  let nw := bits (s.peek6 (s.ringWord r h)) 8 3 + 1
  let s := s.setRing r { s.ring r with doneSeq := (seq + 1) % 65536, retrySeq := none, haltNw := nw
                                       hist := mapInsert (s.ring r).hist seq status }
  if halts status && last then
    (((s.put (RING_STAT_STATE r) 3).put (RING_STAT_HALT_SEQ r) seq).put (RING_STAT_HALT_STATUS r) status).post 0x0301 sevWarn
      (pack [p16 r, p16 seq, p16 status])
  else
    let s := s.setHead r ((h + nw) % 65536)
    s.put (RING_STAT_STATE r) (if s.get (RING_HEAD_HEAD r) = (s.ring r).ready then 1 else 2)

/-- A proxy completion is written, or waits behind those that wait (R359, R340). -/
def State.proxyCpl (s : State) (r : Nat) (w : Nat × Nat) (last : Bool) : State :=
  if s.chain.cplWait.any (fun x => x.1 == r) || s.cplFull r then
    (s.setChain (fun c => { c with cplWait := c.cplWait ++ [(r, w.1, w.2)] })).put (RING_STAT_STATE r) 4
  else s.proxyPost r w last

/-- Proxy completions that waited for space are written (R359). -/
def State.proxyRelease (s : State) : State :=
  let l := s.chain.cplWait
  l.foldl (fun s x => if s.cplFull x.1 then s.setChain (fun c => { c with cplWait := c.cplWait ++ [x] })
                      else s.proxyPost x.1 (x.2.1, x.2.2) true)
    (s.setChain (fun c => { c with cplWait := [] }))

/-- SEQs sent by a proxy ring and not completed, oldest first. -/
def State.proxyOpen (s : State) (r : Nat) : List Nat :=
  let a := (s.ring r).doneSeq
  (List.range ((s.get (RING_STAT_NEXT_SEQ r) + 65536 - a) % 65536)).map (fun i => (a + i) % 65536)

/-- A tunnel access ends (R339). -/
def State.accessEnd (s : State) (status : Nat) : State :=
  ((s.put CHN_TUN_STAT_BUSY 0).put CHN_TUN_STAT_STATUS status).setChain (fun c => { c with access := none })

/-- Every outstanding tunnelled command and access of unit `u` completes LINK_DOWN (R337, R338); how many units of traffic
that was. -/
def State.dropUnit (s : State) (u : Nat) : Nat × State :=
  let n := (mapGet [] s.chain.replay u).length + (mapGet [] s.chain.sendq u).length
  let s := s.setChain (fun c => { c with sendq := mapSet [] c.sendq u [], replay := mapSet [] c.replay u [] })
  let s := (List.range 64).foldl (fun s r =>
    if s.proxy r && s.get (RING_CFG_UNIT r) == u then
      let l := s.proxyOpen r
      l.foldl (fun s q =>
        let w0 := s.peek6 (s.ringWord r (s.get (RING_HEAD_HEAD r)))
        let w := cplWords s r q (w0 % 256) stLinkDown 0 false
        s.proxyCpl r (w.1 + 2 ^ 38 * u, w.2) (l.getLast? == some q)) s
    else s) s
  let s := match s.chain.access with
    | some a => if a.1 = u then s.accessEnd stLinkDown else s
    | none => s
  (n, s)

/-- Forwarded events of a satellite leave as EVENT units, four words each (R341). -/
def State.forwardEvents (s : State) : State :=
  let l := s.chain.fwdOut
  l.foldl (fun s e =>
    ((evWords e).zipIdx).foldl (fun s p =>
      s.txUnit { hdr := tunHdr s.ownAddr 6 0 0 p.2 3 0, data := [p.1] }) s)
    (s.setChain (fun c => { c with fwdOut := [] }))

/-- Completions of tunnelled commands leave as CPL units (R340). -/
def State.returnCpls (s : State) : State :=
  let l := s.cplOut
  l.foldl (fun s x =>
    if s.chain.remote.contains (x.1, x.2.1 % 65536) then
      let s := s.setChain (fun c => { c with remote := c.remote.filter (fun y => y != (x.1, x.2.1 % 65536)) })
      let s := s.txUnit { hdr := tunHdr s.ownAddr 5 0 x.1 0 1 (bits x.2.1 24 4), data := [x.2.1] }
      s.txUnit { hdr := tunHdr s.ownAddr 5 0 x.1 1 1 (bits x.2.1 24 4), data := [x.2.2] }
    else s) { s with cplOut := [] }

end Sys2Proof.Machine
end

