-- ==== Sys2Proof/Machine/Rings.lean ====
section
/-! DEFINITION. The ring commands of chapter Rings, Commands and Ordering: ring configuration and pointers, resuming a halted
ring, and NOP, WAIT, FENCE and PARAM. -/

namespace Sys2Proof.Machine

/-! ### Configuration (R352) -/

/-- Two ranges of words overlap. -/
def overlap (a n b m : Nat) : Bool := decide (a < b + m) && decide (b < a + n)

/-- A ring configuration image is invalid for ring `r` (R352). -/
def State.ringInvalid (s : State) (r v : Nat) : Bool :=
  let size := bits v 3 4
  let base := bits v 7 17
  let unit := bits v 30 4
  let cpl := bits v 24 6
  decide (8 < size) || base % 2 ^ (size + 4) != 0
  || (unit != 0 && (!s.isHead || bits v 0 2 != 0 || !s.bit CHN_STAT_PRESENT unit))
  || (bitOf v 2 &&
      ((List.range 64).any (fun q => q != r && s.on (RING_CFG_EN q) &&
         overlap base (2 ^ (size + 4)) (s.get (RING_CFG_BASE q)) (s.ringSize q))
       || (bits v 0 2 == 0 && (cpl == r || !s.ringIs cpl 1))))

/-- The ring's configuration fields take an image. -/
def State.putRingCfg (s : State) (r v : Nat) : State :=
  (((((((s.put (RING_CFG_KIND r) (bits v 0 2)).put (RING_CFG_EN r) (bits v 2 1)).put (RING_CFG_SIZE r) (bits v 3 4)).put
    (RING_CFG_BASE r) (bits v 7 17)).put (RING_CFG_CPL_RING r) (bits v 24 6)).put (RING_CFG_UNIT r) (bits v 30 4)).put
    (RING_CFG_PTRW r) (bits v 40 17)).put (RING_CFG_WM r) (bits v 57 4)

/-- The HEAD and TAIL words of STREAM ring `r` (R351). -/
def State.streamPtr (s : State) (r : Nat) (head : Bool) : Nat :=
  (s.get (RING_CFG_PTRW r) + b2n head) % 0x20000

/-- A ring's level, read from bank 6 for a STREAM ring (R350, R351). -/
def State.levelOf (s : State) (r : Nat) : Nat :=
  if s.ringIs r 3 then (s.peek6 (s.streamPtr r false) % 65536 + 65536 - s.peek6 (s.streamPtr r true) % 65536) % 65536
  else s.ringLevel r

/-- A ring takes a configuration write: it is DISABLED, or IDLE with a level of 0 (R352). -/
def State.ringOpen (s : State) (r : Nat) : Bool :=
  s.get (RING_STAT_STATE r) == 0 || (s.get (RING_STAT_STATE r) == 1 && s.levelOf r == 0)

/-- The ring takes a valid configuration; enabling it restarts its counts, those of a STREAM ring in bank 6 (R351, R352). -/
def State.ringInstall (s : State) (r v : Nat) : State :=
  let enables := bitOf v 2 && !s.on (RING_CFG_EN r)
  let s := if enables then
      (((s.setHead r 0).setTail r 0).put (RING_STAT_NEXT_SEQ r) 0).setRing r Ring.reset
    else s
  let s := ((s.putRingCfg r v).put (RING_STAT_STATE r) (bits v 2 1)).put (RING_STAT_CFG_ERR r) 0
  if enables && bits v 0 2 == 3 then (s.bankWrite 6 (s.streamPtr r false) 0).bankWrite 6 (s.streamPtr r true) 0 else s

/-- RING_CFG_WRITE (R352). -/
def ringCfgWrite (r v : Nat) (s : State) : State :=
  if s.ringOpen r && !s.ringInvalid r v then s.ringInstall r v
  else (s.put (RING_STAT_CFG_ERR r) 1).post 0x0304 sevWarn (pack [p16 r, (64, regImage (0xE03000 + 0x20 * r) v)])

/-- RING_CFG_WRITE. -/
def execRingCfgWrite (r : RingIx) (v : Word) (s : State) : Result := .next (ringCfgWrite r.val v.toNat s)

/-! ### Pointers (R350, R351) -/

/-- A pointer write is refused: PTR_ERR and RING_PTR_ERR (R350). -/
def State.ptrRefuse (s : State) (r ptr v : Nat) : State :=
  (s.put (RING_STAT_PTR_ERR r) 1).post 0x0303 sevWarn (pack [p16 r, p16 ptr, p16 v])

/-- RING_TAIL_WRITE (R350): the producer of a COMMAND or STREAM ring advances TAIL. -/
def ringTailWrite (r w : Nat) (s : State) : State :=
  let v := w % 65536
  if ¬ s.on (RING_CFG_EN r) then s
  else if s.ringIs r 3 then s.bankWrite 6 (s.streamPtr r false) (BitVec.ofNat 64 v)
  else if ¬ s.ringIs r 0 then s
  else
    let lvl := (v + 65536 - s.get (RING_HEAD_HEAD r)) % 65536
    if s.ringSize r < lvl ∨ lvl < s.ringLevel r then s.ptrRefuse r 1 v
    else
      let s := (s.put (RING_STAT_PTR_ERR r) 0).setTail r v
      if s.proxy r then s.proxySend r 4097 else s.makeReady r 4097

/-- RING_TAIL_WRITE. -/
def execRingTailWrite (r : RingIx) (v : Word) (s : State) : Result := .next (ringTailWrite r.val v.toNat s)

/-- RING_HEAD_WRITE (R350, R359): the consumer of a COMPLETION, EVENT or STREAM ring advances HEAD. -/
def ringHeadWrite (r w : Nat) (s : State) : State :=
  let v := w % 65536
  if ¬ s.on (RING_CFG_EN r) ∨ s.ringIs r 0 then s
  else if s.ringIs r 3 then s.bankWrite 6 (s.streamPtr r true) (BitVec.ofNat 64 v)
  else
    let lvl := (s.get (RING_TAIL_TAIL r) + 65536 - v) % 65536
    if s.ringLevel r < lvl then s.ptrRefuse r 0 v
    else
      let s := (s.put (RING_STAT_PTR_ERR r) 0).setHead r v
      if s.ringIs r 1 then s.cplReleaseAll.proxyRelease else s

/-- RING_HEAD_WRITE. -/
def execRingHeadWrite (r : RingIx) (v : Word) (s : State) : Result := .next (ringHeadWrite r.val v.toNat s)

/-- A STREAM ring's watermark at a frame boundary (R351). -/
def State.streamTick (s : State) (r : Nat) : State :=
  if ¬ s.ringIs r 3 ∨ ¬ s.bankUp 6 ∨ s.get (RING_CFG_WM r) = 0 then s
  else
    let lvl := s.levelOf r
    let q := s.ring r
    if s.get (RING_CFG_WM r) * s.ringSize r ≤ 16 * lvl then
      let s := s.setRing r { q with below := false }
      if q.below then s.post 0x0305 sevInfo (pack [p16 r, p32 lvl]) else s
    else s.setRing r { q with below := true }

/-! ### Resuming (R373, R374) -/

/-- A RING_RESUME for a proxy ring travels to its unit as a write of that unit's RING_RESUME (R374). -/
def State.proxyResume (s : State) (r mode : Nat) : State :=
  if s.proxy r then
    s.txUnit { hdr := tunHdr (s.get (RING_CFG_UNIT r)) 1 0xE03800 0 0 0 0, data := [r + 256 * mode] }
  else s

/-- A ring that runs on: a proxy ring is BUSY while commands are outstanding. -/
def State.ringRuns (s : State) (r : Nat) : State :=
  s.put (RING_STAT_STATE r) (if s.proxy r && (s.ring r).ready != s.get (RING_HEAD_HEAD r) then 2 else 1)

/-- HEAD moves past the failing command. -/
def State.passFailed (s : State) (r : Nat) : State :=
  s.setHead r ((s.get (RING_HEAD_HEAD r) + (s.ring r).haltNw) % 65536)

/-- SKIP (R373). -/
def skip (r : Nat) (s : State) : State :=
  if s.get (RING_STAT_STATE r) = 3 then ((s.passFailed r).ringRuns r).proxyResume r 0 else s

/-- SKIP. -/
def execSkip (r : RingIx) (s : State) : Result := .next (skip r.val s)

/-- RETRY (R373). -/
def retry (r : Nat) (s : State) : State :=
  if s.get (RING_STAT_STATE r) = 3 then
    ((s.setRing r { s.ring r with retrySeq := some (s.get (RING_STAT_HALT_SEQ r)) }).ringRuns r).proxyResume r 1
  else s

/-- RETRY. -/
def execRetry (r : RingIx) (s : State) : Result := .next (retry r.val s)

/-- FLUSH (R373). -/
def flush (r : Nat) (s : State) : State :=
  if s.get (RING_STAT_STATE r) = 3 then
    let s := s.passFailed r
    if s.proxy r then (s.ringRuns r).proxyResume r 2 else s.flushRun r 4097
  else s

/-- FLUSH. -/
def execFlush (r : RingIx) (s : State) : Result := .next (flush r.val s)

/-! ### NOP and WAIT (R360, R361) -/

/-- RING_NOP (R360). -/
def ringNop (r : Nat) (s : State) : State := s.command r 0x00 (fun _ => true) (fun _ _ s => s.finish r stOk 0)

/-- RING_NOP. -/
def execRingNop (r : RingIx) (s : State) : Result := .next (ringNop r.val s)

/-- MODE of a WAIT. -/
def waitMode (ws : List Nat) : Nat := bits (ws.headD 0) 16 2
/-- CODE of a WAIT. -/
def waitCode (ws : List Nat) : Nat := bits (ws.headD 0) 32 16
/-- The frame, count or timeout of a WAIT. -/
def waitArg (ws : List Nat) : Nat := ws.getD 1 0 % 2 ^ 32

/-- WAIT with MODE FRAME or FRAMES starts; it ends at once where its condition holds already (R361). -/
def State.waitStart (s : State) (r mode : Nat) : State :=
  s.command r 0x01 (fun ws => waitMode ws == mode) (fun _ ws s =>
    if waitCode ws ≠ 0 then s.finish r stBadArg 0
    else if (if mode = 0 then later (waitArg ws) s.frame else waitArg ws != 0) then
      s.setExec r (fun e => { e with left := waitArg ws })
    else s.finish r stOk s.frame)

/-- WAIT_FRAME (R361). -/
def waitFrame (r : Nat) (s : State) : State := s.waitStart r 0

/-- WAIT_FRAME. -/
def execWaitFrame (r : RingIx) (s : State) : Result := .next (waitFrame r.val s)

/-- WAIT_FRAMES (R361). -/
def waitFrames (r : Nat) (s : State) : State := s.waitStart r 1

/-- WAIT_FRAMES. -/
def execWaitFrames (r : RingIx) (s : State) : Result := .next (waitFrames r.val s)

/-- WAIT_EVENT (R361): events of this frame before the start do not count. -/
def waitEvent (r : Nat) (s : State) : State :=
  s.command r 0x01 (fun ws => waitMode ws == 3) (fun _ ws s =>
    s.setExec r (fun e => { e with left := waitArg ws, mask := s.occ.length }))

/-- WAIT_EVENT. -/
def execWaitEvent (r : RingIx) (s : State) : Result := .next (waitEvent r.val s)

/-- The event that a WAIT EVENT waits for has occurred in this frame since its start. -/
def State.eventSeen (s : State) (e : Exec) : Bool :=
  waitMode e.words == 3 && (s.occ.drop e.mask).contains (waitCode e.words)

/-- At the end of a frame, a WAIT EVENT whose event has occurred is met in that frame. -/
def State.waitOccur (s : State) (r : Nat) : State :=
  match (s.ring r).exec with
  | some e =>
    if e.words.headD 0 % 256 = 0x01 ∧ waitMode e.words = 3 ∧ ¬ e.committed then
      s.setExec r (fun e => { e with mask := 0, committed := s.eventSeen e, result := s.frame })
    else s
  | none => s

/-- At a frame boundary, now begun, waits on frames are met and timeouts run out (R361). -/
def State.waitTick (s : State) (r : Nat) : State :=
  match (s.ring r).exec with
  | some e =>
    if e.words.headD 0 % 256 = 0x01 ∧ waitMode e.words ≠ 2 ∧ ¬ e.committed then
      let mode := waitMode e.words
      let met := if mode = 0 then !later e.left s.frame else e.left == 1
      if met then s.setExec r (fun e => { e with committed := true, lost := mode == 3, result := s.frame })
      else if mode = 0 then s
      else s.setExec r (fun e => { e with left := e.left - 1 })
    else s
  | none => s

/-- WAIT_END (R361). -/
def waitEnd (r : Nat) (s : State) : State :=
  match (s.ring r).exec with
  | some e =>
    if e.words.headD 0 % 256 ≠ 0x01 then s
    else if e.committed then s.finish r (if e.lost then stTimeout else stOk) e.result
    else if s.eventSeen e then s.finish r stOk s.frame
    else s
  | none => s

/-- WAIT_END. -/
def execWaitEnd (r : RingIx) (s : State) : Result := .next (waitEnd r.val s)

/-! ### FENCE (R361) -/

/-- The commands of a snapshot that have not completed: pairs of a ring and the NEXT_SEQ it had. -/
def State.fenceOpen (s : State) (snap : List (Nat × Nat)) : List (Nat × Nat) :=
  snap.filter (fun p =>
    let done := (s.ring p.1).doneSeq
    done != s.get (RING_STAT_NEXT_SEQ p.1) && decide (32768 ≤ (done + 65536 - p.2) % 65536))

/-- FENCE (R361). -/
def fence (r : Nat) (s : State) : State :=
  s.command r 0x02 (fun _ => true) (fun _ ws s =>
    let snap := ((bitList 64 (ws.getD 1 0)).filter (fun q => q != r && s.ringIs q 0)).map
      (fun q => (q, s.get (RING_STAT_NEXT_SEQ q)))
    if (s.fenceOpen snap).isEmpty then s.finish r stOk 0
    else s.setExec r (fun e => { e with snap := snap, left := bits (ws.headD 0) 32 16 }))

/-- FENCE. -/
def execFence (r : RingIx) (s : State) : Result := .next (fence r.val s)

/-- A FENCE's condition and timeout at a frame boundary (R361). -/
def State.fenceTick (s : State) (r : Nat) : State :=
  match (s.ring r).exec with
  | some e =>
    if e.words.headD 0 % 256 = 0x02 ∧ ¬ e.committed then
      if (s.fenceOpen e.snap).isEmpty then s.setExec r (fun e => { e with committed := true })
      else if e.left = 1 then s.setExec r (fun e => { e with committed := true, lost := true })
      else s.setExec r (fun e => { e with left := e.left - 1 })
    else s
  | none => s

/-- FENCE_END (R361). -/
def fenceEnd (r : Nat) (s : State) : State :=
  match (s.ring r).exec with
  | some e =>
    if e.words.headD 0 % 256 ≠ 0x02 then s
    else if e.committed then s.finish r (if e.lost then stTimeout else stOk) 0
    else if (s.fenceOpen e.snap).isEmpty then s.finish r stOk 0
    else s
  | none => s

/-- FENCE_END. -/
def execFenceEnd (r : RingIx) (s : State) : Result := .next (fenceEnd r.val s)

/-! ### PARAM (R362) -/

/-- The values that a PARAM in execution has not yet put into its shelf's queue go there while it has space; a load that
covers the tile discards them (R73, R362). -/
def State.paramPush (s : State) (r : Nat) : Nat → State
  | 0 => s
  | n + 1 =>
    match (s.ring r).exec with
    | some e =>
      let w0 := e.words.headD 0
      let t := bits w0 16 10
      let k := e.words.length - 1 - e.mask
      if e.mask = 0 ∨ w0 % 256 ≠ 0x05 then s
      else if s.loadCovers t then
        (((s.setExec r (fun e => { e with mask := e.mask - 1 })).paramDrop t (bits w0 28 4 + k)).paramDone (some (r, e.seq))
          true).paramPush r n
      else
        let q := s.shelfQueue (t / 64)
        if 64 ≤ q.length then s
        else
          ((s.setExec r (fun e => { e with mask := e.mask - 1, committed := true })).setShelfQueue (t / 64)
            (q ++ [{ tile := t, idx := bits w0 28 4 + k, val := BitVec.ofNat 64 (e.words.getD (k + 1) 0)
                     cmd := some (r, e.seq) }])).paramPush r n
    | none => s

/-- PARAM (R360, R362). -/
def param (r : Nat) (s : State) : State :=
  s.command r 0x05 (fun _ => true) (fun _ ws s =>
    let nw := ws.length - 1
    if 15 < bits (ws.headD 0) 28 4 + nw - 1 then s.finish r stBadArg 0
    else (s.setExec r (fun e => { e with left := nw, mask := nw })).paramPush r 8)

/-- PARAM. -/
def execParam (r : RingIx) (s : State) : Result := .next (param r.val s)

/-! ### The rings at a frame boundary and at a reset -/

/-- What the command processor does at the end of a frame. -/
def State.ringsEnd (s : State) : State := (List.range 64).foldl State.waitOccur s

/-- What it does at a frame boundary once the frame number has moved on and the shelf queues have drained. -/
def State.ringsTick (s : State) : State :=
  let s := (List.range 64).foldl (fun s r => (s.waitTick r).fenceTick r) s
  let s := (List.range 64).foldl (fun s r => s.paramPush r 8) s
  (List.range 64).foldl State.streamTick s

/-- Every ring returns to its reset configuration, and its commands are lost (R352, R378, R420). -/
def State.ringsClear (s : State) : State :=
  let keep := s.regs.filter (fun p => decide (p.1 < 0xE03000 * 64) || decide (0xE03800 * 64 ≤ p.1))
  let regs := resetRegs.foldl (fun m p => if 0xE03000 * 64 ≤ p.1 ∧ p.1 < 0xE03800 * 64 then mapInsert m p.1 p.2 else m) keep
  { s with regs := regs, rings := [], cplOut := [], groups := [], auxq := [], bankWait := []
           annals := { s.annals with flushCmds := [], flushNext := [] }
           wake := { s.wake with ho := s.wake.ho.map (fun h => { h with ring := none }) } }

/-- A FABRIC or WARM reset discards every command and returns every ring to its reset configuration; events wait in the
always-on buffer, and bank 6 keeps its words (R378). `depth` is the LAST_DEPTH code. -/
def State.ringsReset (s : State) (depth : Nat) : State :=
  (s.ringsClear.bump RING_GLOBAL_RESETS).put RING_GLOBAL_LAST_DEPTH depth

end Sys2Proof.Machine
end

