-- ==== Sys2Proof/Machine/TwoWire.lean ====
section
/-! DEFINITION. The auxiliary controller, the alert response, and the end of a host-bus transaction (chapter Two-Wire Host and
Auxiliary Buses). -/

namespace Sys2Proof.Machine

/-! ### Host bus (R386, R392, R397) -/

/-- A group of `n` bytes is incomplete and is discarded (R386). -/
def State.partialGroup (s : State) (addr n : Nat) : State :=
  if 1 ≤ n ∧ n ≤ 7 then
    ((s.put TWB_SUM_PARTIAL 1).bump TWB_CNT_PARTIALS).post 0x0E01 sevWarn (pack [p32 addr, p32 n])
  else s

/-- HOST_TRANSACTION_END (R386). -/
def hostTransactionEnd (addr n : Nat) (hs : Bool) (s : State) : State :=
  { ((s.partialGroup addr n).put TWB_STAT_BUSY 0).put TWB_STAT_HS (b2n (hs && s.on TWB_CFG_HS_EN)) with busSnap := none, busAwake := false }

/-- HOST_TRANSACTION_END. -/
def execHostTransactionEnd (addr received : Nat) (hs : Bool) (s : State) : Result := .next (hostTransactionEnd addr received hs s)

/-- TWB_TIMEOUT (R392). -/
def twbTimeout (addr n : Nat) (sdaLow : Bool) (s : State) : State :=
  if s.get TWB_CFG_TIMEOUT = 0 then s
  else
    let s := { (s.partialGroup addr n).put TWB_STAT_BUSY 0 with busSnap := none, busAwake := false }
    ((s.put TWB_SUM_TIMEOUT 1).bump TWB_CNT_TIMEOUTS).post 0x0E02 sevWarn (pack [p32 addr, p16 (b2n sdaLow)])

/-- TWB_TIMEOUT. -/
def execTwbTimeout (addr received : Nat) (sdaLow : Bool) (s : State) : Result := .next (twbTimeout addr received sdaLow s)

/-- Alert sources without an answered mark. -/
def State.unanswered (s : State) : Nat := maskOf 5 (fun i => s.bit TWB_ALERT_STAT_SRC i && !s.bit TWB_STAT_ANSWERED i)

/-- The alert response byte (R397). -/
def State.alertByte (s : State) : Nat :=
  2 * s.get TWB_STAT_ADDR + b2n (bitOf s.unanswered 0 || (bitOf s.unanswered 2 && s.fwdFatal))

/-- ALERT_RESPONSE (R396, R397): `won` says that the unit sent its whole byte. -/
def alertResponse (won : Bool) (s : State) : State :=
  if s.unanswered = 0 then s
  else if ¬ won then { s with busOut := [] }
  else { s.put TWB_STAT_ANSWERED (s.get TWB_STAT_ANSWERED ||| s.get TWB_ALERT_STAT_SRC) with
           busOut := [s.alertByte], fwdFatal := s.fwdFatal && !s.bit TWB_ALERT_STAT_SRC 2 }

/-- ALERT_RESPONSE. -/
def execAlertResponse (won : Bool) (s : State) : Result := .next (alertResponse won s)

/-- A W1C write of TWB_ALERT_STAT: a cleared source loses its mark (R396). -/
def alertStatWrite (v : Nat) (s : State) : State :=
  let src := maskOf 5 (fun i => s.bit TWB_ALERT_STAT_SRC i && !bitOf v i)
  let s := s.put TWB_ALERT_STAT_FWD_UNIT (maskOf 16 (fun u => s.bit TWB_ALERT_STAT_FWD_UNIT u && !bitOf v (16 + u)))
  { (s.put TWB_ALERT_STAT_SRC src).put TWB_STAT_ANSWERED (maskOf 5 (fun i => s.bit TWB_STAT_ANSWERED i && bitOf src i)) with
      fwdFatal := s.fwdFatal && bitOf src 2 }

/-! ### Auxiliary controller (R399 to R405) -/

/-- The controller's state follows its queue: WAIT_FREE while a command waits for the bus. -/
def State.showAux (s : State) : State := s.put TWB_AUX_STAT_STATE (b2n !s.auxq.isEmpty)

/-- Ring `r`'s command leaves the auxiliary bus. -/
def State.auxDrop (s : State) (r : Nat) : State := { s with auxq := s.auxq.filter (fun q => q != r) }.showAux

/-- The auxiliary command of ring `r` completes. -/
def State.auxFinish (s : State) (r status result : Nat) : State := (s.auxDrop r).finish r status result

/-- The lines and BUS_BUSY as a transfer leaves them. -/
def State.auxLines (s : State) (scl sda busy : Nat) : State :=
  ((s.put TWB_AUX_STAT_SCL scl).put TWB_AUX_STAT_SDA sda).put TWB_AUX_STAT_BUS_BUSY busy

/-- WLEN of an AUX_XFER. -/
def auxWlen (ws : List Nat) : Nat := bits (ws.headD 0) 24 12
/-- RLEN. -/
def auxRlen (ws : List Nat) : Nat := bits (ws.headD 0) 36 12
/-- BUF. -/
def auxBuf (ws : List Nat) : Nat := ws.getD 1 0 % 2 ^ 17

/-- Bytes of bank 6 from byte `i` of word `w` on, stored one by one (R400). -/
def State.auxStore (s : State) (w : Nat) (l : List Nat) : State :=
  (l.zipIdx).foldl (fun s p =>
    let a := w + p.2 / 8
    let old := s.peek6 a
    let k := 8 * (p.2 % 8)
    s.bankWrite 6 a (BitVec.ofNat 64 (old % 2 ^ k + 2 ^ k * (p.1 % 256) + old / 2 ^ (k + 8) * 2 ^ (k + 8)))) s

/-- A transfer of this form can end so, with these bytes read (R401). -/
def auxPossible (ws : List Nat) (read : List Nat) (o : AuxOutcome) : Bool :=
  let w := auxWlen ws
  let l := auxRlen ws
  let adr := if w = 0 ∨ l = 0 then w else w + 1
  let last := adr + l
  match o with
  | .done => read.length == l
  | .nack i => decide (i ≤ adr) && read.isEmpty
  | .arbLost i b => decide (i ≤ last) && decide (b ≤ 7) && decide (read.length ≤ l)
  | .arbCond i => decide (i ≤ last) && decide (read.length ≤ l)
  | .timeout started => decide (read.length ≤ l) && (started || read.isEmpty)

/-- The transfer of ring `r` ends as `o` says (R400 to R404). -/
def State.auxEnd (s : State) (r : Nat) (ws read : List Nat) (o : AuxOutcome) : State :=
  let s := s.auxStore (auxBuf ws + ceilDiv (auxWlen ws) 8) read
  let s := s.setExec r (fun e => { e with committed := e.committed || o != .timeout false })
  match o with
  | .done => (s.auxLines 1 1 0).auxFinish r stOk 0
  | .nack i =>
    (((s.auxLines 1 1 0).bump TWB_AUX_CNT_NACKS).put TWB_SUM_AUX_NACK 1).auxFinish r stNoResource (i % 65536 + 2 ^ 19)
  | .arbLost i b =>
    let made := match (s.ring r).exec with | some e => e.left | none => 0
    let s := ((s.auxLines 1 0 1).bump TWB_AUX_CNT_ARB_LOST).put TWB_SUM_AUX_ARB 1
    if made < s.get TWB_AUX_CFG_ARB_RETRY then s.setExec r (fun e => { e with left := e.left + 1 })
    else
      (s.post 0x0E05 sevWarn (pack [p16 (bits (ws.headD 0) 16 7), p16 i, p16 b, p32 made])).auxFinish r stArbLost
        (i % 65536 + 2 ^ 16 * b)
  | .arbCond i =>
    (((s.auxLines 1 0 1).bump TWB_AUX_CNT_ARB_COND).put TWB_SUM_AUX_COND 1).auxFinish r stArbCondition i
  | .timeout started => (if started then s.auxLines 0 (s.get TWB_AUX_STAT_SDA) 1 else s).auxFinish r stTimeout 0

/-- The auxiliary bus is ring `r`'s, and its command in execution has opcode `opc`. -/
def State.auxTurn (s : State) (r opc : Nat) : Bool := s.auxq.head? == some r && s.executing r opc

/-- An auxiliary command starts and takes its place in the queue (R399). -/
def State.auxJoin (s : State) (r : Nat) : State := { s with auxq := s.auxq ++ [r] }.showAux

/-- The words of the bytes that AUX_XFER writes. -/
def State.auxSource (s : State) (ws : List Nat) : (List Nat × Bool) × State :=
  s.read6s (auxBuf ws) (ceilDiv (auxWlen ws) 8)

/-- AUX_XFER (R400 to R404): the command starts, and if the bus is its own, an attempt at the transfer ends as `o` says. -/
def auxXfer (r : Nat) (read : List Nat) (o : AuxOutcome) (s : State) : State :=
  let s := s.command r 0x18 (fun _ => true) (fun _ ws s =>
    if 0x20000 < auxBuf ws + ceilDiv (auxWlen ws) 8 + ceilDiv (auxRlen ws) 8 then s.finish r stBadArg 0
    else
      let q := s.auxSource ws
      if q.1.2 then q.2.finish r stEcc 0 else q.2.auxJoin r)
  match (s.ring r).exec with
  | some e => if s.auxTurn r 0x18 && auxPossible e.words read o then s.auxEnd r e.words read o else s
  | none => s

/-- AUX_XFER. -/
def execAuxXfer (r : RingIx) (read : List Nat) (o : AuxOutcome) (s : State) : Result := .next (auxXfer r.val read o s)

/-- AUX_CLEAR (R405). -/
def auxClear (r : Nat) (o : ClearOutcome) (s : State) : State :=
  let s := s.command r 0x19 (fun _ => true) (fun _ _ s => s.auxJoin r)
  if ¬ s.auxTurn r 0x19 then s
  else
    match o with
    | .released p => if p ≤ 9 then (s.auxLines 1 1 0).auxFinish r stOk p else s
    | .stuck =>
      ((((s.auxLines 1 0 1).bump TWB_AUX_CNT_STUCK).put TWB_SUM_AUX_STUCK 1).post 0x0E06 sevFault (pack [p32 9])).auxFinish r
        stBusStuck 9
    | .timeout p => if p ≤ 9 then (s.auxLines 0 (s.get TWB_AUX_STAT_SDA) 1).auxFinish r stTimeout p else s

/-- AUX_CLEAR. -/
def execAuxClear (r : RingIx) (o : ClearOutcome) (s : State) : Result := .next (auxClear r.val o s)

end Sys2Proof.Machine
end

