-- ==== Sys2Proof/Machine/Annals.lean ====
section
/-! DEFINITION. The nonvolatile store: its sectors, the flush of the annals, freezing, time, the clear key and the host record
(chapter The Annals and Nonvolatile Store). -/

namespace Sys2Proof.Machine

/-! ### Sectors (R493, R510, R511) -/

/-- State code, logical index and use of a sector as shipped. -/
def shipped (x : Nat) : Nat × Nat × Nat :=
  if x < 3 then (0, 0, 0) else if x = 3 then (1, 0, 1) else if x < 64 then (2, x - 4, 2) else (3, 0, 3)

/-- State code, logical index and use of sector `x`. -/
def State.sector (s : State) (x : Nat) : Nat × Nat × Nat := (mapFind s.sectors x).getD (shipped x)

/-- Sector `x` takes a state, logical index and use. -/
def State.setSector (s : State) (x : Nat) (v : Nat × Nat × Nat) : State :=
  { s with sectors := if v = shipped x then mapErase s.sectors x else mapInsert s.sectors x v }

/-- The physical sectors in order for which `p` holds. -/
def State.sectorsWhere (s : State) (p : Nat × Nat × Nat → Bool) : List Nat := (List.range 72).filter (fun x => p (s.sector x))

/-- The physical sector of ring sector `l`. -/
def State.ringSector (s : State) (l : Nat) : Nat :=
  (s.sectorsWhere (fun v => v.2.2 == 2 && v.2.1 == l)).headD 0

/-- Slots of the ring. -/
def State.ringSlots (s : State) : Nat := 128 * s.get NVS_STAT_RING_SECTORS

/-- The NVS byte address of ring slot `i`. -/
def State.slotByte (s : State) (i : Nat) : Nat := s.ringSector (i / 128) * 0x1000 + 32 * (i % 128)

/-- Slot `i` holds an entry (R496). -/
def State.slotFull (s : State) (i : Nat) : Bool := s.nvsWord (s.slotByte i) != 0

/-- The four words of an entry (R496). -/
def entryWords (e : Entry) : List Nat :=
  [e.code % 65536 + 2 ^ 16 * (e.sev % 4) + 2 ^ 23 * b2n e.tsel + 2 ^ 24 * (e.tq % 4) + 2 ^ 32 * (e.rep % 65536) + 2 ^ 48 * (e.bound % 65536),
   e.time % 2 ^ 64, e.payload % 2 ^ 64, e.payload / 2 ^ 64 % 2 ^ 64]

/-- Words written to the NVS from byte `a` on. -/
def State.nvsPuts (s : State) (a : Nat) : List Nat → State
  | [] => s
  | v :: l => (s.nvsPut a v).nvsPuts (a + 8) l

/-- Ring slot `i` becomes empty. -/
def State.slotClear (s : State) (i : Nat) : State := s.nvsPuts (s.slotByte i) [0, 0, 0, 0]

/-- The first slot from `i` on that holds an entry. -/
def State.oldestFrom (s : State) (i : Nat) : Nat → Nat
  | 0 => i
  | n + 1 => if s.slotFull i then i else s.oldestFrom ((i + 1) % s.ringSlots) n

/-- NVS_RING_STAT.OLDEST is the first entry from slot `i` on. -/
def State.setOldest (s : State) (i : Nat) : State :=
  s.put NVS_RING_STAT_OLDEST (if s.get NVS_RING_STAT_COUNT = 0 then s.get NVS_RING_STAT_NEXT else s.oldestFrom i s.ringSlots)

/-- Spares that no FAILING sector will take. -/
def State.sparesFree (s : State) : Nat := s.get NVS_STAT_SPARES_LEFT - (s.sectorsWhere (fun v => v.1 == 4)).length

/-- Ring sector `l` leaves the ring and its entries are lost: the indices close up (R511). Its physical sector takes `v`. -/
def State.ringShrink (s : State) (l : Nat) (v : Nat × Nat × Nat) : State :=
  let x := s.ringSector l
  let lost := ((List.range 128).filter (fun k => s.slotFull (128 * l + k))).length
  let n := s.get NVS_STAT_RING_SECTORS - 1
  let close := fun i => if i / 128 < l then i else if i / 128 = l then (if l < n then 128 * l else 0) else i - 128
  let next := close (s.get NVS_RING_STAT_NEXT)
  let old := close (s.get NVS_RING_STAT_OLDEST)
  let s := s.setSector x v
  let s := (List.range 72).foldl (fun s y =>
    let w := s.sector y
    if w.2.2 = 2 ∧ l < w.2.1 ∧ y ≠ x then s.setSector y (w.1, w.2.1 - 1, 2) else s) s
  let a := s.annals
  let s := s.setAnnals { a with
    lastFlushed := a.lastFlushed.bind (fun p => if p.1 / 128 = l then none else some (close p.1, p.2)) }
  let s := ((s.put NVS_STAT_RING_SECTORS n).put NVS_RING_STAT_NEXT next).put NVS_RING_STAT_COUNT (s.get NVS_RING_STAT_COUNT - lost)
  let s := ((s.setOldest old).put NVS_SUM_SHRINK 1).postRec 0x1006 sevFault (pack [p16 x, p32 lost, p32 n])
  if n < 4 ∧ ¬ s.on NVS_STAT_READ_ONLY then
    ((s.put NVS_STAT_READ_ONLY 1).put NVS_SUM_READ_ONLY 1).postRec 0x1007 sevFault (pack [p32 n])
  else s

/-- A verify failure at ring slot NEXT (R510, R511): the rest of the sector holds no entry, and the flush goes on in the
next logical sector. -/
def State.ringFail (s : State) : State :=
  let i := s.get NVS_RING_STAT_NEXT
  let l := i / 128
  let rest := (List.range (128 - i % 128)).map (fun k => i + k)
  let full := (rest.filter s.slotFull).length
  let old := s.get NVS_RING_STAT_OLDEST
  let s := (rest.foldl State.slotClear s).bump NVS_CNT_VERIFY_FAIL
  let s := s.put NVS_RING_STAT_COUNT (s.get NVS_RING_STAT_COUNT - full)
  if s.sparesFree = 0 then s.ringShrink l (5, 0, 3)
  else
    let s := s.setSector (s.ringSector l) (4, l, 2)
    (s.put NVS_RING_STAT_NEXT ((l + 1) % s.get NVS_STAT_RING_SECTORS * 128)).setOldest old

/-- An entry goes into slot NEXT, over the oldest entry if the slot holds one (R500). -/
def State.slotWrite (s : State) (e : Entry) : State :=
  let i := s.get NVS_RING_STAT_NEXT
  let over_ := s.slotFull i
  let s := s.nvsPuts (s.slotByte i) (entryWords e)
  let s := s.put NVS_RING_STAT_NEXT ((i + 1) % s.ringSlots)
  let s := s.setAnnals { s.annals with lastFlushed := some (i, e) }
  if over_ then s.setOldest ((i + 1) % s.ringSlots)
  else
    let s := s.put NVS_RING_STAT_COUNT (s.get NVS_RING_STAT_COUNT + 1)
    if s.get NVS_RING_STAT_COUNT = 1 then s.put NVS_RING_STAT_OLDEST i else s

/-- The `k`-th entry of a flush is written, again in the next sector after each verify failure (R510); whether it left the
buffer. -/
def State.flushEntry (s : State) (k : Nat) (e : Entry) (failing : List Nat) : Nat → Bool × State
  | 0 => (false, s)
  | n + 1 =>
    if s.on NVS_STAT_READ_ONLY then (false, s)
    else if failing.contains k then (s.ringFail).flushEntry k e (failing.erase k) n
    else (true, s.slotWrite e)

/-- The entries of a flush, oldest first; those that stay in the buffer. -/
def State.flushAll (s : State) (k : Nat) (failing : List Nat) : List (Nat × Entry) → List (Nat × Entry) × State
  | [] => ([], s)
  | fe :: r =>
    let q := s.flushEntry k fe.2 failing (failing.length + 1)
    if q.1 then q.2.flushAll (k + 1) failing r else (fe :: r, q.2)

/-! ### The system image (R494, R495) -/

/-- Sector `y` takes the contents of sector `x`. -/
def State.copySector (s : State) (x y : Nat) : State :=
  (List.range 512).foldl (fun s i => s.nvsPut (y * 0x1000 + 8 * i) (s.nvsWord (x * 0x1000 + 8 * i))) s

/-- FAILING system or journal sector `x`, without a spare, takes the ring sector that holds the oldest entries (R511). -/
def State.sysTake (s : State) (x : Nat) : State :=
  let use := (s.sector x).2.2
  let l := s.get NVS_RING_STAT_OLDEST / 128
  let y := s.ringSector l
  ((s.ringShrink l (use, 0, use)).copySector x y).setSector x (5, 0, 3)

/-- An update of the system image at `off` (R495): every copy is written, and the sequence number moves on. Sectors listed
in `failing` fail their verify. -/
def State.sysUpdate (s : State) (off : Nat) (ws : List Nat) (failing : List Nat) : State :=
  let s := (s.sectorsWhere (fun v => v.2.2 == 0)).foldl (fun s x => s.nvsPuts (x * 0x1000 + off) ws) s
  let s := { s with sysSeq := (s.sysSeq + 1) % 2 ^ 32 }
  (failing.filter (fun x => decide ((s.sector x).2.2 < 2))).foldl (fun s x =>
    let v := s.sector x
    if v.1 = 4 then s
    else
      let free := s.sparesFree
      let s := (s.bump NVS_CNT_VERIFY_FAIL).setSector x (4, 0, v.2.2)
      if free = 0 then s.sysTake x else s) s

/-- The physical sector of the first copy. -/
def State.sysCopy (s : State) : Nat := (s.sectorsWhere (fun v => v.2.2 == 0)).headD 0

/-- The clear key. -/
def State.clearKey (s : State) : Nat := s.nvsWord (s.sysCopy * 0x1000 + 0x200)

/-- SECTOR_MOVE (R480, R510, R511): a FAILING system or journal sector goes first. -/
def sectorMove (failing : List Nat) (s : State) : State :=
  if s.on NVS_STAT_FLUSHING then s
  else
    match (s.sectorsWhere (fun v => v.1 == 4 && v.2.2 != 2)) ++ s.sectorsWhere (fun v => v.1 == 4 && v.2.2 == 2) with
    | [] => s
    | x :: _ =>
      let v := s.sector x
      match s.sectorsWhere (fun w => w.1 == 3) with
      | [] => if v.2.2 = 2 then s.ringShrink v.2.1 (5, 0, 3) else s.sysTake x
      | y :: _ =>
        let s := ((s.copySector x y).setSector y (v.2.2, v.2.1, v.2.2)).setSector x (5, 0, 3)
        let s := (s.put NVS_STAT_SPARES_LEFT (s.get NVS_STAT_SPARES_LEFT - 1)).put NVS_SUM_SPARE 1
        (s.sysUpdate 0x400 [] failing).postRec 0x1005 sevWarn (pack [p16 x, p16 y, p32 (s.get NVS_STAT_SPARES_LEFT)])

/-- SECTOR_MOVE. -/
def execSectorMove (failing : List Nat) (s : State) : Result := .next (sectorMove failing s)

/-! ### Flush and freeze (R499 to R502) -/

/-- A waiting flush trigger acts, if no flush runs and no freeze holds. -/
def State.startFlush (s : State) : State :=
  let a := s.annals
  if a.flushReq && !s.on NVS_STAT_FLUSHING && !s.on NVS_STAT_FROZEN then
    { s.put NVS_STAT_FLUSHING 1 with annals := { a with flushReq := false, flushCmds := a.flushCmds ++ a.flushNext, flushNext := [] } }
  else s

/-- FLUSH_DONE (R499, R500, R506, R510): `failing` lists the entries of the flush, by position, that meet a verify failure,
once for each; `logFails` counts the time-log slots that fail theirs. -/
def flushDone (failing : List Nat) (logFails : Nat) (s : State) : State :=
  if ¬ s.on NVS_STAT_FLUSHING then s
  else
    let a := s.annals
    let ro := s.on NVS_STAT_READ_ONLY
    let s := match a.rewrite && !ro, a.lastFlushed with
      | true, some (i, e) => s.nvsPut (s.slotByte i) ((entryWords e).headD 0)
      | _, _ => s
    let n := a.buf.length
    let q := (s.setAnnals { a with buf := [], rewrite := a.rewrite && ro }).flushAll 0 failing a.buf
    let s := q.2.setAnnals { q.2.annals with buf := q.1 ++ q.2.annals.buf, flushCmds := [] }
    let done := n - q.1.length
    let s := { s with tlog := { slot := (s.tlog.slot + 1 + logFails) % 128, seq := (s.tlog.seq + 1) % 2 ^ 32
                                opSec := s.get NVS_OPTIME_OP_SEC, pcyc := s.get NVS_OPTIME_PCYC
                                tq := s.get NVS_TIMEQ_OP_TQ, bound := s.get NVS_TIMEQ_OP_BOUND } }
    let s := ((s.bumpBy NVS_CNT_VERIFY_FAIL logFails).bump NVS_CNT_FLUSHES).put NVS_STAT_FLUSHING 0
    (a.flushCmds.foldl (fun s r => if s.executing r 0x12 then s.finish r stOk done else s) s).startFlush

/-- FLUSH_DONE. -/
def execFlushDone (failing : List Nat) (logFails : Nat) (s : State) : Result := .next (flushDone failing logFails s)

/-- ANNALS_AUTO_FLUSH (R500). -/
def annalsAutoFlush (s : State) : State := s.triggerFlush

/-- ANNALS_AUTO_FLUSH. -/
def execAnnalsAutoFlush (s : State) : Result := .next (annalsAutoFlush s)

/-- ANNALS_FLUSH (R500, R502, R512). -/
def annalsFlush (r : Nat) (s : State) : State :=
  s.command r 0x12 (fun _ => true) (fun _ _ s =>
    { s with annals := { s.annals with flushReq := true, flushNext := s.annals.flushNext ++ [r] } }.startFlush)

/-- ANNALS_FLUSH. -/
def execAnnalsFlush (r : RingIx) (s : State) : Result := .next (annalsFlush r.val s)

/-- The freeze begins: a flush in progress stops and is due again (R502). -/
def State.freeze (s : State) : State :=
  let a := s.annals
  { (s.put NVS_STAT_FROZEN 1).put NVS_STAT_FLUSHING 0 with
    annals := { a with flushReq := a.flushReq || s.on NVS_STAT_FLUSHING, flushCmds := [], flushNext := a.flushCmds ++ a.flushNext } }

/-- The freeze ends: dropped occurrences are recorded in one NVS_LOST entry, and deferred triggers act (R502). -/
def State.unfreeze (s : State) : State :=
  if ¬ s.on NVS_STAT_FROZEN then s
  else
    let s := s.put NVS_STAT_FROZEN 0
    let a := s.annals
    let s := if a.drops = 0 then s else
      ({ s with annals := { a with drops := 0 } }).postRec 0x1002 sevWarn (pack [p32 a.drops, p32 a.dropFirst, p32 a.dropLast])
    s.startFlush

/-- ANNALS_FREEZE (R502). -/
def annalsFreeze (r : Nat) (s : State) : State :=
  s.command r 0x13 (fun ws => bitOf (ws.headD 0) 16) (fun _ _ s => s.freeze.finish r stOk s.annals.buf.length)

/-- ANNALS_FREEZE. -/
def execAnnalsFreeze (r : RingIx) (s : State) : Result := .next (annalsFreeze r.val s)

/-- ANNALS_UNFREEZE (R502). -/
def annalsUnfreeze (r : Nat) (s : State) : State :=
  s.command r 0x13 (fun ws => !bitOf (ws.headD 0) 16) (fun _ _ s => s.unfreeze.finish r stOk s.unfreeze.annals.buf.length)

/-- ANNALS_UNFREEZE. -/
def execAnnalsUnfreeze (r : RingIx) (s : State) : Result := .next (annalsUnfreeze r.val s)

/-- NVS_FREEZE_TO (R502). -/
def nvsFreezeTo (s : State) : State :=
  if s.on NVS_STAT_FROZEN then
    ((s.put NVS_SUM_FREEZE_TO 1).post 0x100B sevWarn (pack [p32 s.annals.buf.length])).unfreeze
  else s

/-- NVS_FREEZE_TO. -/
def execNvsFreezeTo (s : State) : Result := .next (nvsFreezeTo s)

/-- What PFAIL_N does to the annals (R501). -/
def State.annalsPfail (s : State) : State :=
  let s := s.postRec 0x100A sevInfo (pack [p32 s.frame, p32 s.annals.buf.length])
  { s.unfreeze with annals := { s.unfreeze.annals with flushReq := true } }.startFlush

/-! ### Time (R503 to R505) -/

/-- The trims' targets (R476). -/
def calTargets : List Nat := [0x01, 0x02, 0x03, 0x04, 0x05, 0x06, 0x10, 0x11, 0x12, 0x13, 0x18, 0x19, 0x1A, 0x1B, 0x20]

/-- The growth of a bound when `n` seconds join `old` ones counted on the RC oscillator (R504). -/
def rcGrowth (old n : Nat) : Nat := ceilDiv (3 * (old + n)) 100 - ceilDiv (3 * old) 100

/-- `n` operating seconds pass, on the RC oscillator if `rc` (R503, R504). -/
def State.opSeconds (s : State) (n : Nat) (rc : Bool) : State :=
  let s := s.put NVS_OPTIME_OP_SEC (s.get NVS_OPTIME_OP_SEC + n)
  let s := calTargets.foldl (fun s t => s.bumpBy (CUR_CAL_VAL_AGE t) n) s
  if rc && s.get NVS_TIMEQ_OP_TQ != 2 && n != 0 then
    let old := s.annals.rcOp
    let s := (s.put NVS_TIMEQ_OP_TQ 1).bumpBy NVS_TIMEQ_OP_BOUND (rcGrowth old n)
    { s with annals := { s.annals with rcOp := old + n } }
  else s

/-- `n` calendar seconds pass. -/
def State.calSeconds (s : State) (n : Nat) (rc : Bool) : State :=
  let s := s.put NVS_CALTIME_CAL_SEC (s.get NVS_CALTIME_CAL_SEC + n)
  if rc && s.get NVS_TIMEQ_CAL_TQ != 2 && n != 0 then
    let old := s.annals.rcCal
    let s := (s.put NVS_TIMEQ_CAL_TQ 1).bumpBy NVS_TIMEQ_CAL_BOUND (rcGrowth old n)
    { s with annals := { s.annals with rcCal := old + n } }
  else s

/-- A frame passes for both clocks. -/
def State.timeFrame (s : State) (rc : Bool) : State :=
  let a := s.annals
  let n := s.framesPerSec
  let up := decide (n ≤ a.subSec + 1)
  let upCal := decide (n ≤ a.subCal + 1)
  let s := { s with annals := { a with subSec := if up then 0 else a.subSec + 1, subCal := if upCal then 0 else a.subCal + 1 } }
  let s := if up then s.opSeconds 1 rc else s
  if upCal then s.calSeconds 1 rc else s

/-- NVS_CAL_SET (R504). -/
def nvsCalSet (v : Nat) (s : State) : State :=
  let old := s.get NVS_CALTIME_CAL_SEC
  let q := s.get NVS_TIMEQ_CAL_TQ
  let s := ((s.put NVS_CALTIME_CAL_SEC v).put NVS_TIMEQ_CAL_TQ 0).put NVS_TIMEQ_CAL_BOUND 0
  ({ s with annals := { s.annals with rcCal := 0, subCal := 0 } }).postRec 0x100C sevInfo (pack [(40, old), (40, v), p16 q])

/-- NVS_CAL_SET. -/
def execNvsCalSet (v : Word) (s : State) : Result := .next (nvsCalSet v.toNat s)

/-! ### Key, clear and host record (R507 to R509) -/

/-- The key commands cannot run: the annals are frozen or read-only, or the key is locked (R507). -/
def State.keyStop (s : State) : Option Nat :=
  if s.on NVS_STAT_FROZEN || s.on NVS_STAT_READ_ONLY then some stNoResource
  else if s.on NVS_STAT_KEY_LOCK then some stNotPermitted
  else none

/-- A key comparison fails (R507). -/
def State.keyMiss (s : State) (opc : Nat) : State :=
  let s := (s.put NVS_STAT_KEY_TRIES (s.get NVS_STAT_KEY_TRIES + 1)).put NVS_SUM_KEY_FAIL 1
  if s.get NVS_STAT_KEY_TRIES = 3 then (s.put NVS_STAT_KEY_LOCK 1).postRec 0x1003 sevFault (pack [p16 opc]) else s

/-- ANNALS_CLEAR (R507, R508). -/
def annalsClear (r : Nat) (s : State) : State :=
  s.command r 0x14 (fun _ => true) (fun _ ws s =>
    match s.keyStop with
    | some st => s.finish r st 0
    | none =>
      if s.keyUnset then s.finish r stNotPermitted 0
      else if s.clearKey ≠ ws.getD 1 0 then (s.keyMiss 0x14).finish r stNotPermitted 0
      else
        let inRing := s.get NVS_RING_STAT_COUNT
        let inBuf := s.annals.buf.length
        let s := (List.range s.ringSlots).foldl State.slotClear (s.put NVS_STAT_KEY_TRIES 0)
        let s := ((s.put NVS_RING_STAT_OLDEST 0).put NVS_RING_STAT_NEXT 0).put NVS_RING_STAT_COUNT 0
        let s := (s.put NVS_TIMEQ_OP_TQ 0).put NVS_TIMEQ_OP_BOUND 0
        let s := s.setAnnals { s.annals with buf := [], lastFlushed := none, rewrite := false, rcOp := 0 }
        (s.postRec 0x1001 sevInfo (pack [p32 inRing, p32 inBuf])).finish r stOk 0)

/-- ANNALS_CLEAR. -/
def execAnnalsClear (r : RingIx) (s : State) : Result := .next (annalsClear r.val s)

/-- CLEAR_KEY_SET (R507); an unset key matches any old key (R495). -/
def clearKeySet (r : Nat) (failing : List Nat) (s : State) : State :=
  s.command r 0x15 (fun _ => true) (fun _ ws s =>
    match s.keyStop with
    | some st => s.finish r st 0
    | none =>
      if ¬ s.keyUnset ∧ s.clearKey ≠ ws.getD 1 0 then (s.keyMiss 0x15).finish r stNotPermitted 0
      else
        let s := (s.put NVS_STAT_KEY_TRIES 0).sysUpdate 0x200 [ws.getD 2 0] failing
        ({ s with keyUnset := false }.postRec 0x1004 sevInfo 0).finish r stOk 0)

/-- CLEAR_KEY_SET. -/
def execClearKeySet (r : RingIx) (failing : List Nat) (s : State) : Result := .next (clearKeySet r.val failing s)

/-- WORDS, NADDR and ADDR of an NVS command. -/
def nvsArgs (ws : List Nat) : Nat × Nat × Nat := (bits (ws.headD 0) 16 13, bits (ws.headD 0) 32 19, ws.getD 1 0 % 2 ^ 17)

/-- The counts and addresses of an NVS command are in range (R360). -/
def nvsArgsOk (ws : List Nat) : Bool :=
  let a := nvsArgs ws
  decide (1 ≤ a.1) && decide (a.1 ≤ 4096) && a.2.1 % 8 == 0 && decide (a.2.2 + a.1 ≤ 0x20000)

/-- The NVS word at byte `a` as NVS_READ returns it: the clear key reads 0 (R509); where the spec gives no encoding of
what the system area, the journal and the time log hold, the word is free. -/
def State.nvsView (s : State) (a : Nat) : Nat × State :=
  let v := s.sector (a / 0x1000)
  let o := a % 0x1000
  if v.2.2 = 0 ∧ o = 0x200 then (0, s)
  else if v.2.2 = 1 ∨ (v.2.2 = 0 ∧ o < 0xC00) then (s.free.1.toNat, s.free.2)
  else (s.nvsWord a, s)

/-- Words of the NVS from byte `a` on, as NVS_READ returns them. -/
def State.nvsViews (s : State) (a : Nat) : Nat → List Nat × State
  | 0 => ([], s)
  | n + 1 =>
    let v := s.nvsView a
    let q := v.2.nvsViews (a + 8) n
    (v.1 :: q.1, q.2)

/-- NVS_READ (R509). -/
def nvsRead (r : Nat) (s : State) : State :=
  s.command r 0x10 (fun _ => true) (fun _ ws s =>
    let a := nvsArgs ws
    if ¬ nvsArgsOk ws ∨ 0x48000 < a.2.1 + 8 * a.1 then s.finish r stBadArg 0
    else
      let q := s.nvsViews a.2.1 a.1
      (q.2.write6 a.2.2 q.1).finish r stOk a.1)

/-- NVS_READ. -/
def execNvsRead (r : RingIx) (s : State) : Result := .next (nvsRead r.val s)

/-- NVS_WRITE (R509). -/
def nvsWrite (r : Nat) (failing : List Nat) (s : State) : State :=
  s.command r 0x11 (fun _ => true) (fun _ ws s =>
    let a := nvsArgs ws
    if ¬ nvsArgsOk ws then s.finish r stBadArg 0
    else if a.2.1 < 0xC00 ∨ 0x1000 < a.2.1 + 8 * a.1 then s.finish r stNotPermitted 0
    else
      let q := s.read6s a.2.2 a.1
      if q.1.2 then q.2.finish r stEcc 0 else (q.2.sysUpdate a.2.1 q.1.1 failing).finish r stOk a.1)

/-- NVS_WRITE. -/
def execNvsWrite (r : RingIx) (failing : List Nat) (s : State) : Result := .next (nvsWrite r.val failing s)

/-! ### Cold reset (R495, R505) -/

/-- The system image as a COLD reset recovers it (R495): bit k of `bad` says that copy k disagrees with the result, and bit 3 that
neither the vote nor a copy has a good CRC. The CRC results that NVS_SYS_BAD reports are free. -/
def State.sysRecover (s : State) (bad : Nat) : State :=
  if bitOf bad 3 then
    let c0 := s.free
    let c1 := c0.2.free
    let c2 := c1.2.free
    ({ (c2.2.put NVS_STAT_SYS_OK 0).put NVS_SUM_SYS 1 with keyUnset := true }).post 0x1009 sevFatal
      (pack [p32 c0.1.toNat, p32 c1.1.toNat, p32 c2.1.toNat])
  else
    let copies := s.sectorsWhere (fun v => v.2.2 == 0)
    let good := ((List.range 3).filter (fun k => !bitOf bad k)).headD 0
    (bitList 3 bad).foldl (fun s k =>
      ((s.copySector (copies.getD good 0) (copies.getD k 0)).put NVS_SUM_SYS 1).post 0x1008 sevWarn
        (pack [p16 k, p32 s.sysSeq])) ({ s.put NVS_STAT_SYS_OK 1 with keyUnset := false })

/-- The time registers as a COLD reset loads them from the time log (R505). -/
def State.timeRecover (s : State) : State :=
  let l := s.tlog
  let s := (s.put NVS_OPTIME_OP_SEC l.opSec).put NVS_OPTIME_PCYC (l.pcyc + 1)
  let s := (s.put NVS_TIMEQ_OP_TQ l.tq).put NVS_TIMEQ_OP_BOUND l.bound
  ((s.put NVS_TIMEQ_CAL_TQ 2).put NVS_TIMEQ_CAL_BOUND 0).put NVS_CALTIME_CAL_SEC 0

end Sys2Proof.Machine
end

