-- ==== Sys2Proof/Machine/Memory.lean ====
section
/-! DEFINITION. The banks: release after a wake, region tests, spare rows and retirement (chapter Memory Banks). -/

namespace Sys2Proof.Machine

/-! ### Release (R418 to R420) -/

/-- The word addresses, divided by 8, of bank `b`'s words from `w`, `n` of them, that carry mark `k`. -/
def State.marked (s : State) (b w n k : Nat) : List Nat :=
  (s.ecc.filter (fun p => p.2 == k && decide (bankAddr b w ≤ 8 * p.1) && decide (8 * p.1 < bankAddr b (w + n)))).map (fun p => p.1)

/-- Every word of bank `b` is written 0 with valid check bits (R418). -/
def State.bankInit (s : State) (b : Nat) : State :=
  let lo := bankAddr b 0
  let hi := bankAddr (b + 1) 0
  { s with xback := if b = 5 then [] else s.xback
           mem := s.mem.filter (fun c => decide (c.1 < lo) || decide (hi ≤ c.1))
           ecc := s.ecc.filter (fun c => decide (8 * c.1 < lo) || decide (hi ≤ 8 * c.1))
           wb := s.wb.filter (fun c => decide (8 * c.1 < lo) || decide (hi ≤ 8 * c.1)) }

/-- Words with a correctable error among `l` are corrected and clean. -/
def State.cleanWords (s : State) (b : Nat) (l : List Nat) : State :=
  l.foldl (fun s a => { s.bump (MEM_ECC_CNT_CORRECTED b) with ecc := mapErase s.ecc a, wb := mapErase s.wb a }) s

/-- Reads of the uncorrectable words `l` are recorded, without queueing a region test. -/
def State.recordUe (s : State) (b cls : Nat) (l : List Nat) : State :=
  { l.foldl (fun s a => s.memUe b (a - bankAddr b 0 / 8) cls) s with testq := s.testq }

/-- What the loss of a bank means for its users (R420). -/
def State.lostUse (s : State) (b : Nat) : State :=
  if b = 4 then
    ((List.range 16).foldl (fun s u => (s.dropUnit u).2) s).setChain (fun c => { c with relay := [] })
  else if b = 5 then { s with edgeIn := [], edgeNew := [] }
  else if b = 6 then (s.hoEnd 5 stArchiveLost).ringsClear
  else if b = 7 then s.archLost
  else s

/-- A bank is marked LOST (R420): `cause` 0 canary, 1 sweep, with `n` uncorrectable words. -/
def State.bankLost (s : State) (b cause n : Nat) : State :=
  let s := ((s.setBit MEM_LOST_SUM_LOST b).put MEM_SUM_LOST 1).alert 4
  let s := s.postRec 0x0F02 (if b = 6 then sevFatal else sevFault) (pack [p16 b, p16 cause, p32 n])
  ((s.bankInit b).lostUse b).put (MEM_BANK_STAT_STATE b) 3

/-- The WAIT POWER that a sleep left completes once bank 6 is released (R448). -/
def State.wakeDone (s : State) : State :=
  match (s.ring 0).exec with
  | some e => if (e.words.headD 0) % 256 = 0x01 ∧ waitMode e.words = 2 ∧ e.committed then s.finish 0 stOk e.result else s
  | none => s

/-- BANK_RELEASE (R418 to R420, R448): a RESTORING bank whose canary was written is swept, another is initialised. -/
def bankRelease (b : Nat) (canaryOk : Bool) (s : State) : State :=
  if s.get (MEM_BANK_STAT_STATE b) ≠ 1 then s
  else
    let kept := (mapFind s.canary b).isSome
    let good := canaryOk && mapFind s.canary b == some (s.get PWR_SEQ_SLEEP_SEQ)
    let s := { s with canary := mapErase s.canary b }
    let bad := s.marked b 0 0x20000 2
    let s :=
      if ¬ kept then (s.bankInit b).put (MEM_BANK_STAT_STATE b) 2
      else if ¬ good then s.bankLost b 0 0
      else
        let s := (s.cleanWords b (s.marked b 0 0x20000 1)).recordUe b 5 bad
        if bad.isEmpty then s.put (MEM_BANK_STAT_STATE b) 2 else s.bankLost b 1 bad.length
    if b = 7 then s.archRelease.modelCheck else if b = 6 then s.wakeDone else s

/-- BANK_RELEASE. -/
def execBankRelease (b : EightIx) (canaryOk : Bool) (s : State) : Result := .next (bankRelease b.val canaryOk s)

/-! ### Region tests (R421, R422) -/

/-- MEM_TEST_STAT.BUSY follows the tests. -/
def State.showTests (s : State) : State := s.put MEM_TEST_STAT_BUSY (b2n !s.tests.isEmpty)

/-- A region test starts: its words are saved, corrected under R413, as reads of class `cls`. -/
def State.testStart (s : State) (b region cls : Nat) (ring : Option Nat) : State :=
  let s := s.cleanWords b (s.marked b (64 * region) 64 1)
  let s := s.recordUe b cls (s.marked b (64 * region) 64 2)
  let s := (s.put MEM_TEST_STAT_BANK b).put MEM_TEST_STAT_REGION region
  ({ s with tests := mapInsert s.tests b { region := region, ring := ring } }).showTests

/-- Bank `b` can take a region test now. -/
def State.testFree (s : State) (b : Nat) : Bool := s.bankUp b && (mapFind s.tests b).isNone

/-- REGION_TEST (R422, R472): a queued region of the bank goes ahead of the rotation, which pauses in IDLE. -/
def regionTest (b region : Nat) (s : State) : State :=
  if ¬ s.testFree b ∨ ¬ s.on MEM_CTL_TEST_EN ∨ 2048 ≤ region ∨ ¬ s.awake then s
  else
    match s.testq.find? (fun p => p.1 == b) with
    | some p =>
      if p.2 = region then ({ s with testq := s.testq.filter (fun q => q != p) }).testStart b region 4 none else s
    | none => if s.get PWR_STAT_STATE = 0 then s.testStart b region 4 none else s

/-- REGION_TEST. -/
def execRegionTest (b : EightIx) (region : Nat) (s : State) : Result := .next (regionTest b.val region s)

/-- Spare rows of bank `b` in use (R423). -/
def State.spares (s : State) (b : Nat) : Nat := s.get (MEM_BANK_STAT_SPARES b)

/-- A failing row is mapped to the next spare, or retires the bank (R423, R424). -/
def State.repairRow (s : State) (b row : Nat) : State :=
  let used := s.spares b
  if used < 8 then
    let s := ({ s with repairs := mapInsert s.repairs (2048 * b + row) (used + 1) }).put (MEM_BANK_STAT_SPARES b) (used + 1)
    ((s.sysUpdate 0x300 [] []).put MEM_SUM_REPAIR 1).post 0x0F03 sevWarn (pack [p16 b, p16 row, p32 (7 - used)])
  else
    let s := ({ s with retired := setBitN s.retired b }).put (MEM_BANK_STAT_STATE b) 4
    let s := (s.sysUpdate 0x300 [] []).put MEM_SUM_RETIRE 1
    let s := s.post 0x0F04 (if 4 ≤ b ∧ b ≤ 6 then sevFatal else sevFault) (pack [p16 b, p16 row])
    if b = 7 then s.archLost else s

/-- A BANK_TEST of ring `r` gets its bank, or completes NO_RESOURCE (R422). -/
def State.bankTestBegin (s : State) (r b region : Nat) : State :=
  if ¬ s.bankUp b then s.finish r stNoResource 0
  else if (mapFind s.tests b).isSome then { s with bankWait := s.bankWait ++ [r] }
  else s.testStart b region 2 (some r)

/-- BANK and REGION of a BANK_TEST. -/
def bankTestArgs (ws : List Nat) : Nat × Nat := (bits (ws.headD 0) 16 3, bits (ws.headD 0) 32 11)

/-- The oldest BANK_TEST that waits for bank `b`. -/
def State.bankWaiter (s : State) (b : Nat) : Option Nat :=
  s.bankWait.find? (fun r => match (s.ring r).exec with
    | some e => (bankTestArgs e.words).1 == b
    | none => false)

/-- The next BANK_TEST that waits for bank `b` starts. -/
def State.bankTestNext (s : State) (b : Nat) : State :=
  match s.bankWaiter b with
  | some r =>
    let s := { s with bankWait := s.bankWait.filter (fun q => q != r) }
    match (s.ring r).exec with
    | some e => s.bankTestBegin r b (bankTestArgs e.words).2
    | none => s
  | none => s

/-- REGION_TEST_END (R421 to R424): `failing` lists the offsets of words that the march finds failing. -/
def regionTestEnd (b : Nat) (failing : List Nat) (s : State) : State :=
  match mapFind s.tests b with
  | none => s
  | some q =>
    let bad := (List.range 64).filter failing.contains
    let s := ({ s with tests := mapErase s.tests b }).showTests
    let s := (s.put MEM_TEST_STAT_FAIL (b2n !bad.isEmpty)).put MEM_TEST_STAT_TESTED (s.get MEM_TEST_STAT_TESTED + 1)
    let s := if bad.isEmpty then s else s.repairRow b q.region
    let s := match q.ring, bad with
      | some r, [] => s.finish r stOk 0
      | some r, o :: _ => s.finish r stOk (1 + o)
      | none, _ => s
    s.bankTestNext b

/-- REGION_TEST_END. -/
def execRegionTestEnd (b : EightIx) (failing : List Nat) (s : State) : Result := .next (regionTestEnd b.val failing s)

/-- BANK_TEST (R360, R422). -/
def bankTest (r : Nat) (s : State) : State :=
  s.command r 0x0F (fun _ => true) (fun _ ws s => s.bankTestBegin r (bankTestArgs ws).1 (bankTestArgs ws).2)

/-- BANK_TEST. -/
def execBankTest (r : RingIx) (s : State) : Result := .next (bankTest r.val s)

/-- Every region test stops with its region restored (R425); a BANK_TEST completes CANCELLED. -/
def State.testsStop (s : State) : State :=
  let l := s.tests
  let w := s.bankWait
  let s := ({ s with tests := [], bankWait := [] }).showTests
  let s := l.foldl (fun s p => match p.2.ring with | some r => s.finish r stCancelled 0 | none => s) s
  w.foldl (fun s r => s.finish r stCancelled 0) s

/-- Banks that are to sleep write their canaries (R416, R417); the others lose their contents. -/
def State.banksSleep (s : State) (dormant : Bool) : State :=
  (List.range 8).foldl (fun s b =>
    if s.bankRetired b then s
    else if b = 7 ∧ ¬ dormant then s
    else
      let s := if s.bit MEM_RET_CFG_RET_EN b then { s with canary := mapInsert s.canary b (s.get PWR_SEQ_SLEEP_SEQ) }
        else { s with canary := mapErase s.canary b }
      s.put (MEM_BANK_STAT_STATE b) 0) s

/-- On wake the banks that slept are restored (R418). -/
def State.banksWake (s : State) : State :=
  (List.range 8).foldl (fun s b => if s.get (MEM_BANK_STAT_STATE b) = 0 then s.put (MEM_BANK_STAT_STATE b) 1 else s) s

/-- A COLD reset initialises every bank and reloads the repair maps and retirement (R418, R423, R424). -/
def State.banksCold (s : State) : State :=
  (List.range 8).foldl (fun s b =>
    let n := (s.repairs.filter (fun p => p.1 / 2048 == b)).foldl (fun m p => max m p.2) 0
    let s := (s.bankInit b).put (MEM_BANK_STAT_SPARES b) n
    s.put (MEM_BANK_STAT_STATE b) (if bitOf s.retired b then 4 else 2)) ({ s with canary := [] })

/-- The release of bank 7 at a COLD reset (R243, R424): its model is checked; retired, it is LOST for good. -/
def State.coldRelease7 (s : State) : State := if s.bankRetired 7 then s.put WAKE_ARCH_STAT_LOST 1 else s.modelCheck

end Sys2Proof.Machine
end

