-- ==== Sys2Proof/Machine/Curator.lean ====
section
/-! DEFINITION. The curator and the housekeeping converter: scrubbing, calibration, telemetry and conversions (chapter The Curator
and Housekeeping ADC). -/

namespace Sys2Proof.Machine

/-! ### Budget and scrubbing (R470 to R475) -/

/-- CURATOR_WINDOW (R470): the budget of bank `b` is renewed. -/
def curatorWindow (b : Nat) (s : State) : State :=
  { s with curUsed := mapErase s.curUsed b, curHalt := clrBitN s.curHalt b }

/-- CURATOR_WINDOW. -/
def execCuratorWindow (b : EightIx) (s : State) : Result := .next (curatorWindow b.val s)

/-- The cycles of a bank the curator may hold in a window (R470). -/
def State.curCap (s : State) : Nat := max 1 (min 20 (s.get CUR_BUDGET_CAP))

/-- The curator takes one cycle of bank `b`, or CAP stops it (R470, R471). -/
def State.curTake (s : State) (b : Nat) : Bool × State :=
  let n := mapGet 0 s.curUsed b
  if n < s.curCap then (true, { s with curUsed := mapInsert s.curUsed b (n + 1) })
  else if bitOf s.curHalt b then (false, s)
  else (false, { s.bump (MEM_ARB_CNT_CUR_YIELD b) with curHalt := setBitN s.curHalt b })

/-- A soft error of kind `k` (1 correctable, 2 not) strikes the word at `a`. -/
def State.strike (s : State) (a k : Nat) : State :=
  if k = 0 then s else { s with ecc := mapSet 0 s.ecc (a / 8) (max k (s.mark a)) }

/-- The curator has a write-back, or a region test that an error has queued, to serve in bank `b` before it scrubs (R472). -/
def State.scrubWaits (s : State) (b : Nat) : Bool :=
  s.wb.any (fun p => p.2 == 2 && decide (bankAddr b 0 ≤ 8 * p.1) && decide (8 * p.1 < bankAddr (b + 1) 0)) ||
  (s.on MEM_CTL_TEST_EN && s.testq.any (fun p => p.1 == b))

/-- The scrub of one word of bank `b` (R472 to R474). -/
def State.scrubBankRead (s : State) (b upset : Nat) : State :=
  if ¬ s.bankUp b ∨ s.scrubWaits b then s
  else
    let w := mapGet 0 s.scrubBank b
    let q := s.curTake b
    if ¬ q.1 then q.2
    else
      let s := (q.2.strike (bankAddr b w) upset).bankWord 4 b w
      let s := { s.2 with scrubBank := mapSet 0 s.2.scrubBank b ((w + 1) % 0x20000) }
      if b = 0 ∧ w = 0x1FFFF then s.put CUR_STAT_SCRUB_PASSES (s.get CUR_STAT_SCRUB_PASSES + 1) else s

/-- What the scrub finds of the tile-array word at `a`, which carries an error mark (R474); `area` 0 configuration memory, 1 state
RAM. -/
def State.scrubMarked (s : State) (area a : Nat) : State :=
  if s.mark a = 2 then
    let s := s.bump (if area = 0 then CUR_ECC_CNT_CFG_UE else CUR_ECC_CNT_SRAM_UE)
    let s := ((s.put CUR_ECC_LAST_ADDR a).put CUR_ECC_LAST_VALID 1).put CUR_SUM_SCRUB_UE 1
    s.post 0x1101 sevWarn (pack [p16 area, p32 a])
  else if s.mark a = 1 then (s.bump (if area = 0 then CUR_ECC_CNT_CFG_CORR else CUR_ECC_CNT_SRAM_CORR)).queueWb a 2
  else s

/-- The scrub of one word of every tile's frame or state RAM (R473, R474): only marked words have an effect. -/
def State.scrubTiles (s : State) (area tile upset : Nat) : State :=
  let pos := if area = 0 then s.get CUR_SCRUB_POS_FRAME_WORD else s.get CUR_SCRUB_POS_SRAM_CELL
  let addr := fun t => if area = 0 then frameAddr t (8 * pos) else ramAddr t pos
  let s := s.strike (addr tile) upset
  let s := (s.ecc.filter (fun p =>
      let t := if area = 0 then 8 * p.1 / 0x1000 else (8 * p.1 - 0xC00000) / 0x800
      decide (t < 1024) && 8 * p.1 == addr t)).foldl (fun s p => s.scrubMarked area (8 * p.1)) s
  if area = 0 then s.put CUR_SCRUB_POS_FRAME_WORD (pos + 1) else s.put CUR_SCRUB_POS_SRAM_CELL (pos + 1)

/-- SCRUB_READ (R473, R488): `array` 0 to 7 a bank, 8 the tile frames, 9 tile state RAM; a soft error of kind `upset` strikes the
word, of tile `tile` in a tile array, before it is read. -/
def scrubRead (array tile upset : Nat) (s : State) : State :=
  if ¬ s.on CUR_CTL_SCRUB_EN ∨ s.get PWR_STAT_STATE ≠ 0 then s
  else if array < 8 then s.scrubBankRead array (min upset 2)
  else if array = 8 then s.scrubTiles 0 (tile % 1024) (min upset 2)
  else if array = 9 then s.scrubTiles 1 (tile % 1024) (min upset 2)
  else s

/-- SCRUB_READ. -/
def execScrubRead (array tile upset : Nat) (s : State) : Result := .next (scrubRead array tile upset s)

/-- CURATOR_WRITE_BACK (R472, R475): a write-back into a bank takes a cycle of its budget. -/
def curatorWriteBack (a : Nat) (s : State) : State :=
  if mapGet 0 s.wb (a / 8) ≠ 2 ∨ ¬ s.awake then s
  else if 0x400000 ≤ a ∧ a < 0xC00000 then
    let q := s.curTake ((a - 0x400000) / 0x100000)
    if q.1 then q.2.landWb a 2 else q.2
  else s.landWb a 2

/-- CURATOR_WRITE_BACK. -/
def execCuratorWriteBack (addr : Nat) (s : State) : Result := .next (curatorWriteBack addr s)

/-! ### The converter (R483 to R487) -/

/-- `n / d` rounded to nearest. -/
def nearest (n : Int) (d : Nat) : Int := (2 * n + d) / (2 * d : Nat)

/-- VALUE of a CODE of channel `c` (R483). -/
def hkaValue (c code : Nat) : Int :=
  let k : Int := (code : Nat)
  match c with
  | 0 | 1 | 2 => nearest (k * 1250000) (2 ^ 18)
  | 3 => k
  | 4 | 15 => nearest (k * 20000) (2 ^ 18)
  | 5 | 7 => nearest (k * 5000) (2 ^ 18)
  | 6 => nearest (k * 1250) (2 ^ 18)
  | 8 => nearest ((k - 131072) * 1000000) 131072
  | 13 => nearest (k * 16000) (2 ^ 18)
  | 14 => nearest ((k - 131072) * 16000) (2 ^ 18)
  | _ => nearest (k * 255 * 16 - 64 * 16 * (2 ^ 18 : Nat)) (2 ^ 18)

/-- VALUE of a result, signed. -/
def State.hkaVal (s : State) (c : Nat) : Int := toSigned 24 (s.get (HKA_RES_VALUE c))

/-- VCORE in mV for each VSEL code (R430). -/
def vselMv (v : Nat) : Int := if v = 0 then 650 else if v = 1 then 700 else if v = 2 then 780 else 900

/-- A supply result lies outside its band (R487). -/
def State.supplyOut (s : State) (c : Nat) (v : Int) : Bool :=
  match c with
  | 5 => decide (v < 3135) || decide (3465 < v)
  | 7 => decide (90 < (v - 1800).natAbs) && decide (165 < (v - 3300).natAbs)
  | 6 => decide (3 * vselMv (s.get PWR_STAT_VSEL) < 100 * ((v - vselMv (s.get PWR_STAT_VSEL)).natAbs : Nat))
  | _ => false

/-- The supply checks of R487: one event each time a supply leaves its band. -/
def State.supplyCheck (s : State) (c : Nat) : State :=
  if (c ≠ 5 ∧ c ≠ 6 ∧ c ≠ 7) ∨ (c = 6 ∧ s.on PWR_STAT_PL_BUSY) then s
  else if ¬ s.supplyOut c (s.hkaVal c) then { s with hkaOut := clrBitN s.hkaOut c }
  else if bitOf s.hkaOut c then s
  else (({ s with hkaOut := setBitN s.hkaOut c }).put HKA_SUM_SUPPLY 1).post 0x0B02 sevWarn (pack [p16 c, p32i (s.hkaVal c)])

/-- HKA_RESc is written whole (R483, R484). -/
def State.hkaResult (s : State) (c : Nat) (code : Int) (locked : Bool) : State :=
  let k := (max 0 (min 262143 code)).toNat
  let ovr := decide ((k : Int) ≠ code)
  let s := (s.put (HKA_RES_CODE c) k).put (HKA_RES_VALUE c) (fromSigned 24 (hkaValue c k))
  let s := ((s.put (HKA_RES_VALID c) 1).put (HKA_RES_LOCKED c) (b2n locked)).put (HKA_RES_OVR c) (b2n ovr)
  let s := (s.put (HKA_RES_SEQ c) (s.get (HKA_RES_SEQ c) + 1)).bump HKA_CNT_CONVS
  let s := if ovr then s.put HKA_SUM_OVR 1 else s
  s.supplyCheck c

/-- The TACH channel's result: the most recent measured period, at once (R484). Before the first, the value is free. -/
def State.hkaTach (s : State) : State :=
  match s.tachLast with
  | some p => s.hkaResult 3 (p : Nat) false
  | none => let q := s.free; q.2.hkaResult 3 (bits q.1.toNat 0 18 : Nat) false

/-- The next conversion begins, queued ones first; while the converter is under calibration none begins (R479, R486, R488). A locked
channel's window is tied to TACH where its period is valid then (R485). -/
def State.hkaNext (s : State) : Nat → State
  | 0 => s
  | n + 1 =>
    if s.on HKA_STAT_BUSY ∨ s.calibrating 0x20 then s
    else
      match s.hkaConv ++ s.hkaScan with
      | [] => if s.on HKA_CTL_KEEP_ON then s else s.put HKA_STAT_POWERED 0
      | c :: _ =>
        let s := if s.hkaConv.isEmpty then { s with hkaScan := s.hkaScan.drop 1, hkaQueued := false }
          else { s with hkaConv := s.hkaConv.drop 1, hkaQueued := true }
        if c = 3 then (s.hkaTach).hkaNext n
        else { ((s.put HKA_STAT_BUSY 1).put HKA_STAT_POWERED 1).put HKA_STAT_CUR_CH c with
                 hkaLock := s.bit HKA_SCAN_EN_LOCK c && s.tachGood.isSome && s.tachGood == s.tachLast }

/-- The converter takes up its next conversion, if it is idle. -/
def State.hkaGo (s : State) : State := s.hkaNext 33

/-- HKA_SCAN (R486, R488): in IDLE scans pause; a scan that still runs makes this one skip. -/
def hkaScan (s : State) : State :=
  if s.get PWR_STAT_STATE ≠ 0 then s
  else if s.hkaScan ≠ [] ∨ (s.on HKA_STAT_BUSY ∧ ¬ s.hkaQueued) then (s.bump HKA_CNT_SKIPS).post 0x0B04 sevInfo (pack [p32 s.frame])
  else ({ s with hkaScan := bitList 16 (s.get HKA_SCAN_EN_EN) }).hkaGo

/-- HKA_SCAN. -/
def execHkaScan (s : State) : Result := .next (hkaScan s)

/-- CONV (R486). -/
def conv (c : Nat) (s : State) : State :=
  if ¬ s.awake ∨ c ∈ s.hkaConv then s else ({ s with hkaConv := s.hkaConv ++ [c] }).hkaGo

/-- CONV. -/
def execConv (c : SixteenIx) (s : State) : Result := .next (conv c.val s)

/-! ### Calibration (R476 to R479) -/

/-- The precondition of a target (R476). -/
def State.calOk (s : State) (t : Nat) : Bool :=
  if t = 0x20 then !s.on HKA_STAT_REF_BAD
  else if t < 0x10 then s.ainState (t - 1) == 0 && !s.on HKA_STAT_REF_BAD
  else if t < 0x18 then s.spkState (t - 0x10) == 0 && !s.folded && !s.on SPK_PVDD_STAT_UV && !s.on SPK_PVDD_STAT_OV
  else s.hpoState (t - 0x18) == 0 && !s.folded && s.get HPO_STAT_CP_STATE != 3

/-- CUR_STAT shows the calibration in progress. -/
def State.showCal (s : State) : State :=
  (s.put CUR_STAT_CAL_BUSY (b2n s.calTarget.isSome)).put CUR_STAT_CAL_TARGET (s.calTarget.getD 0)

/-- The calibration in front ends: its command completes with `status`. -/
def State.calEnd (s : State) (c : CalRun) (status : Nat) : State :=
  let s := { s with cals := s.cals.drop 1 }
  match c.ring with
  | some r => s.finish r status 0
  | none => s

/-- The calibration in front goes on to its next target whose precondition holds, and after its last one to the
calibration behind it (R476, R488). -/
def State.calNext (s : State) : Nat → State
  | 0 => s
  | n + 1 =>
    match s.cals with
    | [] => s
    | c :: r =>
      match c.todo with
      | [] => (s.calEnd c stOk).calNext n
      | t :: ts =>
        if s.calOk t then (if 0x18 ≤ t ∧ t < 0x20 then s.pumpStart else s)
        else if c.all then ({ s with cals := { c with todo := ts } :: r }).calNext n
        else (s.calEnd c stNotPermitted).calNext n

/-- The calibrations go on; then the converter and the charge pump. -/
def State.calGo (s : State) : State := (((s.calNext 2048).showCal).pumpCheck).hkaGo

/-- A CALIBRATE of the targets `ts` joins the queue, behind those that run. -/
def State.calStart (s : State) (ring : Option Nat) (all : Bool) (ts : List Nat) : State :=
  let c : CalRun := { ring := ring, all := all, todo := ts, saved := [] }
  let first := s.cals.isEmpty
  let s := { s with cals := s.cals ++ [c] }
  if first then s.calGo else s

/-- TARGET of a CALIBRATE. -/
def calArg (ws : List Nat) : Nat := bits (ws.headD 0) 16 8

/-- A CALIBRATE of ring `r` whose TARGET lies from `lo` to `hi` (R360, R476). A TARGET that names nothing is BAD_ARG whichever row
brings it. -/
def calibrate (r lo hi : Nat) (s : State) : State :=
  let good := fun t => t == 0 || calTargets.contains t
  s.command r 0x0E (fun ws => !good (calArg ws) || (decide (lo ≤ calArg ws) && decide (calArg ws ≤ hi))) (fun _ ws s =>
    let t := calArg ws
    if ¬ good t then s.finish r stBadArg 0
    else if t = 0 then s.calStart (some r) true calTargets
    else s.calStart (some r) false [t])

/-- CALIBRATE_ALL. -/
def execCalibrateAll (r : RingIx) (s : State) : Result := .next (calibrate r.val 0x00 0x00 s)
/-- CALIBRATE_AIN. -/
def execCalibrateAin (r : RingIx) (s : State) : Result := .next (calibrate r.val 0x01 0x06 s)
/-- CALIBRATE_SPK. -/
def execCalibrateSpk (r : RingIx) (s : State) : Result := .next (calibrate r.val 0x10 0x13 s)
/-- CALIBRATE_HPO. -/
def execCalibrateHpo (r : RingIx) (s : State) : Result := .next (calibrate r.val 0x18 0x1B s)
/-- CALIBRATE_HKA. -/
def execCalibrateHka (r : RingIx) (s : State) : Result := .next (calibrate r.val 0x20 0x20 s)

/-- A value within a span. -/
def within (lo hi v : Int) : Int := max lo (min hi v)

/-- A measured offset (2^-23 of full scale) and gain (2^-20) become target `t`'s trims, each within its span (R477, R478). An output
stage measures its offset alone. -/
def State.installTrim (s : State) (t : Nat) (offset gain : Int) : State :=
  let gain := if 0x10 ≤ t ∧ t < 0x20 then (s.get (CUR_CAL_VAL_GAIN t) : Int) else gain
  let o := within (-125829) 125829 offset
  let g := if 0x10 ≤ t ∧ t < 0x20 then gain else within 1017119 1080033 gain
  let s := (s.put (CUR_CAL_VAL_OFFSET t) (fromSigned 24 o)).put (CUR_CAL_VAL_GAIN t) g.toNat
  let s := (s.put (CUR_CAL_VAL_AGE t) 0).bump CUR_CNT_CAL_RUNS
  let s := if t = 0x20 then
      { s with calTemps := (List.range 4).map (fun n => s.get (SPK_THERM_STAT_TEMP n)) } else s
  if o = offset ∧ g = gain then s
  else (s.put CUR_SUM_CAL_RANGE 1).post 0x1102 sevWarn (pack [p16 t, p32i offset, p32i gain])

/-- Target `t` measures at its channel's start (R479). -/
def State.calAtStart (s : State) (t : Nat) : Bool :=
  s.on CUR_CTL_CAL_EN && calTargets.contains t &&
  (if t = 0x20 then false
   else if t < 0x10 then s.ainState (t - 1) == 1 && !s.on HKA_STAT_REF_BAD
   else if t < 0x18 then s.spkState (t - 0x10) == 1 && decide ((s.spk (t - 0x10)).phase = .zero)
   else s.hpoState (t - 0x18) == 1 && s.get HPO_STAT_CP_STATE == 2)

/-- CAL_INSTALL (R477, R479). -/
def calInstall (t : Nat) (offset gain : Int) (s : State) : State :=
  match s.cals with
  | c :: r =>
    if c.todo.head? = some t ∧ ¬ (t = 0x20 ∧ s.on HKA_STAT_BUSY) then
      let old := (t, s.get (CUR_CAL_VAL_OFFSET t), s.get (CUR_CAL_VAL_GAIN t), s.get (CUR_CAL_VAL_AGE t))
      (({ s with cals := { c with todo := c.todo.drop 1, saved := c.saved ++ [old] } :: r }).installTrim t offset gain).calGo
    else if s.calAtStart t then s.installTrim t offset gain
    else s
  | [] => if s.calAtStart t then s.installTrim t offset gain else s

/-- CAL_INSTALL. -/
def execCalInstall (target : Nat) (offset gain : Int) (s : State) : Result := .next (calInstall target offset gain s)

/-- HKA_AUTO_CAL (R479, R488): after CAL_PERIOD, or after a die temperature has moved more than CAL_DT. -/
def hkaAutoCal (s : State) : State :=
  let temps := (List.range 4).map (fun n => s.get (SPK_THERM_STAT_TEMP n))
  let moved := (s.calTemps.zip temps).any (fun p => decide (max 1 (s.get CUR_CTL_CAL_DT) < max p.1 p.2 - min p.1 p.2))
  let due := decide (max 1 (s.get CUR_CTL_CAL_PERIOD) ≤ s.get (CUR_CAL_VAL_AGE 0x20)) || moved
  if s.on CUR_CTL_CAL_EN && s.get PWR_STAT_STATE == 0 && due && s.cals.all (fun c => c.ring.isSome) then
    s.calStart none false [0x20]
  else s

/-- HKA_AUTO_CAL. -/
def execHkaAutoCal (s : State) : Result := .next (hkaAutoCal s)

/-- The measurement in progress stops if its target satisfies `p`: the trims in force stay and the command is NOT_PERMITTED
(R488). -/
def State.calStop (s : State) (p : Nat → Bool) : State :=
  match s.cals with
  | c :: _ =>
    match c.todo.head? with
    | some t => if p t then (s.calEnd c stNotPermitted).calGo else s
    | none => s
  | [] => s

/-- A fold stops the measurement of an output stage (R488). -/
def State.calFold (s : State) : State := s.calStop (fun t => decide (0x10 ≤ t) && decide (t < 0x20))

/-- The calibration of ring `r` is abandoned: every trim that it has installed is restored (R477). -/
def State.calAbort (s : State) (r : Nat) : State :=
  let mine := fun (c : CalRun) => c.ring == some r
  let s := (s.cals.filter mine).foldl (fun s c => c.saved.foldl (fun s v =>
    ((s.put (CUR_CAL_VAL_OFFSET v.1) v.2.1).put (CUR_CAL_VAL_GAIN v.1) v.2.2.1).put (CUR_CAL_VAL_AGE v.1) v.2.2.2) s) s
  ({ s with cals := s.cals.filter (fun c => !mine c) }).calGo

/-! ### Results -/

/-- A REF result is judged (R487, R488). -/
def State.refCheck (s : State) (code : Nat) : State :=
  let d := (code : Int) - 131072
  if 655360 < 1000 * d.natAbs then
    (((s.put HKA_STAT_REF_BAD 1).put HKA_SUM_REF_BAD 1).post 0x0B01 sevFault (pack [p32 code])).calStop
      (fun t => decide (t < 0x10) || t == 0x20)
  else if 10000 * d.natAbs ≤ 25 * 131072 then s.put HKA_STAT_REF_BAD 0
  else s

/-- HKA_CONVERSION_DONE (R484 to R487): `code` is the conversion's code before it is clamped; `locked`: the window
spanned whole TACH periods. -/
def hkaConversionDone (c : Nat) (code : Int) (locked : Bool) (s : State) : State :=
  if ¬ s.on HKA_STAT_BUSY ∨ s.get HKA_STAT_CUR_CH ≠ c then s
  else
    let s := (s.put HKA_STAT_BUSY 0).hkaResult c code (locked && s.hkaLock)
    let s := if c = 8 then s.refCheck (s.get (HKA_RES_CODE 8)) else s
    s.hkaGo

/-- HKA_CONVERSION_DONE. -/
def execHkaConversionDone (c : SixteenIx) (code : Int) (locked : Bool) (s : State) : Result :=
  .next (hkaConversionDone c.val code locked s)

/-- TACH_EDGE (R485): `period` in µs since the edge before. TACH_OK stays until 200 ms have brought no valid period. -/
def tachEdge (period : Nat) (s : State) : State :=
  if ¬ s.awake then s
  else
    let near := match s.tachLast with
      | some q => decide (100 * (max period q - min period q) ≤ 2 * q)
      | none => false
    let good := decide (1000 ≤ period) && decide (period ≤ 100000) && near
    let s : State := { s with tachLast := some period }
    if good then { s.put HKA_STAT_TACH_OK 1 with tachGood := some period, tachLost := false } else s

/-- TACH_EDGE. -/
def execTachEdge (period : Nat) (s : State) : Result := .next (tachEdge period s)

/-- HKA_TACH_LOST (R485): without a valid period so far, the payload is free. -/
def hkaTachLost (s : State) : State :=
  if s.tachLost ∨ ¬ s.awake then s
  else
    let s := { s.put HKA_STAT_TACH_OK 0 with tachLost := true }
    let s := (s.put HKA_SUM_TACH_LOST 1).bump HKA_CNT_TACH_LOSSES
    match s.tachGood with
    | some p => s.post 0x0B03 sevWarn (pack [p32 p])
    | none => let q := s.free; q.2.post 0x0B03 sevWarn (pack [p32 q.1.toNat])

/-- HKA_TACH_LOST. -/
def execHkaTachLost (s : State) : Result := .next (hkaTachLost s)

/-! ### Telemetry (R481, R482) -/

/-- A 16-bit telemetry field: a channel's VALUE, or 0x8000 without a valid result. -/
def State.telValue (s : State) (c : Nat) : Nat × Nat := if s.on (HKA_RES_VALID c) then p16i (s.hkaVal c) else p16 0x8000

/-- A telemetry event goes to its ring, or is dropped (R481). -/
def State.telPost (s : State) (code payload : Nat) : State :=
  let r := s.get CUR_TEL_CFG_RING
  if s.ringIs r 2 then
    { s with telRun := false
             telq := s.telq ++ [(r, { code := code, sev := sevInfo, unit := 0, fwd := false, frame := s.frame, orig := s.frame
                                      payload := payload })] }
  else
    let s := (s.bump CUR_CNT_TEL_DROP).put CUR_SUM_TEL_DROP 1
    if s.telRun then s else ({ s with telRun := true }).post 0x1105 sevWarn (pack [p32 1])

/-- A clip count of the output telemetry; beyond 16 bits the field is free. -/
def State.telClip (s : State) (i : Nat) : Nat :=
  let n := mapGet 0 s.clips i
  if n < 65536 then n else bits (Config.freeWord (s.fresh + i)).toNat 0 16

/-- TELEMETRY. -/
def telemetry (s : State) : State :=
  if ¬ s.on CUR_CTL_TEL_EN ∨ ¬ s.awake then s
  else
    let s := if s.bit CUR_TEL_CFG_KINDS 0 then
        s.telPost 0x1103 (pack ([9, 10, 11, 12, 4, 13, 5, 6].map s.telValue)) else s
    if s.bit CUR_TEL_CFG_KINDS 1 then
      let v := pack ((List.range 8).map (fun i => p16 (s.telClip i)))
      ({ s with clips := [], fresh := s.fresh + 8 }).telPost 0x1104 v
    else s

/-- TELEMETRY. -/
def execTelemetry (s : State) : Result := .next (telemetry s)

end Sys2Proof.Machine
end

