-- ==== Sys2Proof/Machine/Keeper.lean ====
section
/-! DEFINITION. The keeper: fold causes, the fold and its release, heartbeat, thermal shutdown and FAULT_N (chapter The Keeper
and Guaranteed Operations). -/

namespace Sys2Proof.Machine

/-- The keeper records an entry directly, if its gate admits it (R515, R527). -/
def State.keepPost (s : State) (code sev payload : Nat) : State :=
  if s.gateOpen code sev then s.postRec code sev payload else s

/-- The keeper drives FAULT_N while a cause named in FAULT_DRV is set; its own bit for FAULT_N is ignored (R525). -/
def State.showDrive (s : State) : State :=
  s.put KEEP_STAT_DRIVING (b2n ((List.range 7).any (fun c => c != 1 && s.bit KEEP_STAT_CAUSE c && s.bit KEEP_CTL_FAULT_DRV c)))

/-- FAULT_CAUSE of FOLDED speaker channels: 5 if THERMAL is a cause, else 6 (R521). -/
def State.foldCause (s : State) : Nat := if s.bit KEEP_STAT_CAUSE 4 then 5 else 6

/-- FOLDED channels show the cause. -/
def State.showFoldCause (s : State) : State :=
  (List.range 4).foldl (fun s n => if s.spkState n = 6 then s.put (SPK_STAT_FAULT_CAUSE n) s.foldCause else s) s

/-- Fold cause `c` is set; the first one folds the unit (R517, R520). -/
def State.fold (s : State) (c : Nat) : State :=
  let first := s.get KEEP_STAT_CAUSE == 0
  let s := ((s.setBit KEEP_STAT_CAUSE c).setBit KEEP_SUM_CAUSE c).showDrive
  if first then
    let s := ((s.put KEEP_STAT_STATE 1).put KEEP_STAT_FORCED 0).bump KEEP_CNT_FOLDS
    let s := ({ s with foldAt := s.frame }).calFold
    (((s.spkFold s.foldCause).hpoFold).showFoldCause).keepPost 0x1301 sevWarn (pack [p16 (s.get KEEP_STAT_CAUSE), p32 s.frame])
  else s.showFoldCause

/-- Milliseconds from frame `f` to now. -/
def State.msSince (s : State) (f : Nat) : Nat := s.frameAgo f * 1000 / s.framesPerSec

/-- A RELEASING keeper whose last port mute is released reads IDLE (R521). -/
def State.keepIdle (s : State) : State :=
  let portsFree := (List.range 4).all (fun n => s.on (SAP_MUTE_TX_MUTE n) || (s.port n).txRamp == 0)
  if s.get KEEP_STAT_STATE = 3 ∧ portsFree ∧ (s.on SPD_TX_CFG_MUTE ∨ s.spd.txRamp = 0) then
    (s.put KEEP_STAT_STATE 0).keepPost 0x1302 sevInfo (pack [p32 (s.msSince s.foldAt), p32 s.frame])
  else s

/-- Causes in `mask` are cleared; the last one releases the fold (R521). -/
def State.unfold (s : State) (mask : Nat) : State :=
  let had := s.get KEEP_STAT_CAUSE
  let s := (s.put KEEP_STAT_CAUSE (maskOf 7 (fun c => bitOf had c && !bitOf mask c))).showDrive
  if had ≠ 0 ∧ s.get KEEP_STAT_CAUSE = 0 then
    ((s.put KEEP_STAT_STATE 3).spkUnfold.hpoUnfold).keepIdle
  else s.showFoldCause

/-- A reset of depth `depth` (0 COLD, 1 WARM, 2 FABRIC) is requested; the deeper of two wins, and an equal one merges
(R459, R460). -/
def State.requestReset (s : State) (depth cause : Nat) : State :=
  match s.rst with
  | some (d, _, _) => if depth < d then { s with rst := some (depth, cause, false) } else s
  | none => ({ s with rst := some (depth, cause, false) }).fold 5

/-! ### Commands -/

/-- FOLD_NOW (R518). -/
def foldNow (v : Nat) (s : State) : State := if bitOf v 0 && s.awake then s.fold 0 else s

/-- FOLD_NOW. -/
def execFoldNow (v : Word) (s : State) : Result := .next (foldNow v.toNat s)

/-- KEEP_CMD_FOLD (R517, R518). -/
def keepCmdFold (s : State) : State := if s.awake then s.fold 0 else s

/-- KEEP_CMD_FOLD. -/
def execKeepCmdFold (s : State) : Result := .next (keepCmdFold s)

/-- FOLD (R519). -/
def foldCmd (r : Nat) (s : State) : State :=
  s.command r 0x04 (fun _ => true) (fun _ _ s =>
    let s := s.fold 0
    if s.get KEEP_STAT_STATE = 2 then s.finish r stOk 0 else s)

/-- FOLD. -/
def execFold (r : RingIx) (s : State) : Result := .next (foldCmd r.val s)

/-- KEEP_FOLDED (R519, R520, R522). -/
def keepFolded (s : State) : State :=
  if s.get KEEP_STAT_STATE = 1 ∧ s.spkQuiet ∧ s.hpoQuiet then
    let s := (s.put KEEP_STAT_STATE 2).showFoldCause
    let s := (s.executors 0x04).foldl (fun s r => s.finish r stOk 0) s
    if s.wdtReset then ({ s with wdtReset := false }).requestReset 1 2 else s
  else s

/-- KEEP_FORCED (R520): bit n of `mask` speaker channel n, bit 4 + n headphone channel n; only outputs that still switch
are forced. -/
def keepForced (mask : Nat) (s : State) : State :=
  let spks := (List.range 4).filter (fun n => bitOf mask n && s.spkSwitching n)
  let hpos := (List.range 4).filter (fun n => bitOf mask (4 + n) && decide (1 ≤ s.hpoState n) && decide (s.hpoState n ≤ 3))
  if s.get KEEP_STAT_STATE ≠ 1 ∨ (spks.isEmpty ∧ hpos.isEmpty) then s
  else
    let s := spks.foldl (fun s n => (s.spkHiz n).spkToRest n true) s
    let s := hpos.foldl (fun s n => ((s.put (HPO_STAT_STATE n) 6).setHpo n { s.hpo n with folding := false, ramping := false })) s
    let s := ((s.pumpCheck.put KEEP_STAT_FORCED 1).put KEEP_SUM_FORCED 1).bump KEEP_CNT_FORCED
    s.keepPost 0x1306 sevFault (pack [p16 (maskOf 8 (fun i => if i < 4 then spks.contains i else hpos.contains (i - 4)))])

/-- KEEP_FORCED. -/
def execKeepForced (mask : Nat) (s : State) : Result := .next (keepForced mask s)

/-- RELEASE (R517, R526). -/
def release (s : State) : State :=
  s.unfold (1 + 2 * b2n (s.on KEEP_CTL_FAULT_LATCH && !s.on KEEP_STAT_FAULT_IN) + 4 * b2n (s.on KEEP_STAT_KICKED))

/-- RELEASE. -/
def execRelease (s : State) : Result := .next (release s)

/-! ### FAULT_N (R517, R525) -/

/-- FAULT_N_LOW. -/
def faultNLow (s : State) : State :=
  if s.on KEEP_CTL_FAULT_IN_EN && !s.on KEEP_STAT_DRIVING && !s.on KEEP_STAT_FAULT_IN then
    ((s.put KEEP_STAT_FAULT_IN 1).keepPost 0x1307 sevWarn (pack [p32 s.frame])).fold 1
  else s

/-- FAULT_N_LOW. -/
def execFaultNLow (s : State) : Result := .next (faultNLow s)

/-- FAULT_N_HIGH (R517); the keeper sees it only where it reads the ball (R525). -/
def faultNHigh (s : State) : State :=
  if s.on KEEP_CTL_FAULT_IN_EN && !s.on KEEP_STAT_DRIVING then
    let s := s.put KEEP_STAT_FAULT_IN 0
    if s.on KEEP_CTL_FAULT_LATCH then s else s.unfold 2
  else s

/-- FAULT_N_HIGH. -/
def execFaultNHigh (s : State) : Result := .next (faultNHigh s)

/-! ### Power fail (R501, R517) -/

/-- PFAIL. -/
def pfail (s : State) : State := (s.fold 3).annalsPfail

/-- PFAIL. -/
def execPfail (s : State) : Result := .next (pfail s)

/-- PFAIL_CLEAR. -/
def pfailClear (s : State) : State := s.unfold 8

/-- PFAIL_CLEAR. -/
def execPfailClear (s : State) : Result := .next (pfailClear s)

/-! ### Heartbeat (R522, R523) -/

/-- The heartbeat's period in ms. -/
def State.wdtMs (s : State) : Nat := 10 * max 1 (min 1000 (s.get KEEP_WDT_CFG_PERIOD))

/-- The heartbeat counts: enabled, awake, and no reset in progress. -/
def State.wdtRuns (s : State) : Bool := s.on KEEP_WDT_CFG_EN && s.awake && s.rst.isNone

/-- WDT_LEFT follows the count. -/
def State.showWdt (s : State) : State :=
  s.put KEEP_STAT_WDT_LEFT (if s.wdtRuns then s.wdtMs - s.wdtCount * 1000 / s.framesPerSec else 0)

/-- The count restarts. -/
def State.wdtRestart (s : State) : State := ({ s with wdtCount := 0 }).showWdt

/-- KICK (R522). -/
def kick (v : Nat) (s : State) : State :=
  if v % 65536 = 0x5A5A then (s.put KEEP_STAT_KICKED 1).wdtRestart else s.bump KEEP_CNT_BAD_KICKS

/-- KICK. -/
def execKick (v : Word) (s : State) : Result := .next (kick v.toNat s)

/-- KEEP_WDT (R522): with ACTION 1 a WARM reset follows once the keeper reads FOLDED. -/
def keepWdt (s : State) : State :=
  if ¬ s.wdtRuns then s
  else
    let s := (s.put KEEP_STAT_KICKED 0).bump KEEP_CNT_WDT_EXP
    let s := s.keepPost 0x1303 sevFault (pack [p16 (s.get KEEP_WDT_CFG_PERIOD), p16 (s.get KEEP_WDT_CFG_ACTION)])
    let s := s.wdtRestart.fold 2
    if ¬ s.on KEEP_WDT_CFG_ACTION then s
    else if s.get KEEP_STAT_STATE = 2 then s.requestReset 1 2
    else { s with wdtReset := true }

/-- KEEP_WDT. -/
def execKeepWdt (s : State) : Result := .next (keepWdt s)

/-- A frame passes for the heartbeat. -/
def State.wdtFrame (s : State) : State :=
  if s.wdtRuns then ({ s with wdtCount := s.wdtCount + 1 }).showWdt else s

/-! ### Thermal shutdown (R524) -/

/-- STAGE_TEMP_READ for the keeper: a sensor at 160 °C, code 224, sets THERMAL. -/
def State.thermalCheck (s : State) : State :=
  match (List.range 4).find? (fun n => decide (224 ≤ s.get (SPK_THERM_STAT_TEMP n))) with
  | some n =>
    if s.bit KEEP_STAT_CAUSE 4 then s
    else
      let s := s.keepPost 0x1304 sevFault (pack [p16 n, p16i ((s.get (SPK_THERM_STAT_TEMP n) : Int) - 64)])
      ({ s with thermAt := s.frame }).fold 4
  | none => s

/-- STAGE_TEMP_READ (R279, R524). -/
def execStageTempRead (temps : List Nat) (s : State) : Result := .next (stageTempRead temps s).thermalCheck

/-- KEEP_THERM_CLR (R524). -/
def keepThermClr (s : State) : State :=
  let lim := max 100 (min 150 (s.get KEEP_CTL_THERM_CLR)) + 64
  if s.bit KEEP_STAT_CAUSE 4 && (List.range 4).all (fun n => decide (s.get (SPK_THERM_STAT_TEMP n) ≤ lim)) then
    (s.keepPost 0x1305 sevInfo (pack [p32 (s.msSince s.thermAt / 1000)])).unfold 16
  else s

/-- KEEP_THERM_CLR. -/
def execKeepThermClr (s : State) : Result := .next (keepThermClr s)

end Sys2Proof.Machine
end

