-- ==== Sys2Proof/Machine/Power.lean ====
section
/-! DEFINITION. Performance levels, sleep and wake, and the supervision of the clocks (chapter Power, Performance Levels and Clock
Domains). -/

namespace Sys2Proof.Machine

/-! ### Performance levels (R433 to R437) -/

/-- The minimum level (R433). -/
def State.minPl (s : State) : Nat := max (s.get FAB_STAT_MIN_PL) s.loadMin

/-- The level in force is `l`, and FAB_STAT shows it with domain A's budget (R52). -/
def State.setLevel (s : State) (l : Nat) : State :=
  let s := (s.put PWR_STAT_CUR_PL l).put FAB_STAT_CUR_PL l
  s.put FAB_STAT_BUDGET_A (s.budgetOf 1)

/-- A level request is judged and begins (R433 to R435). -/
def State.plRequest (s : State) (t : Nat) : State :=
  if t < s.minPl then
    ((s.put PWR_STAT_PL_ERR 1).put PWR_SUM_PL_REFUSED 1).post 0x0102 sevWarn (pack [p16 t, p16 s.minPl])
  else
    let s := s.put PWR_STAT_PL_ERR 0
    let cur := s.get PWR_STAT_CUR_PL
    if t = cur then s
    else
      let s := { s.put PWR_STAT_PL_BUSY 1 with plTo := some t, plLate := false }
      if cur < t then (s.put PWR_STAT_VSEL t).put PWR_STAT_PG 0 else s

/-- Level requests wait: a change is in progress, or the unit is not ACTIVE or IDLE (R437, R453). -/
def State.plWaits (s : State) : Bool := s.plTo.isSome || decide (2 ≤ s.get PWR_STAT_STATE)

/-- PWR_PL_WRITE (R433, R437). -/
def pwrPlWrite (v : Nat) (s : State) : State :=
  let s := s.put PWR_PL_TARGET v
  if s.plWaits then { s with plWait := some (v % 4) } else s.plRequest (v % 4)

/-- PWR_PL_WRITE. -/
def execPwrPlWrite (v : Word) (s : State) : Result := .next (pwrPlWrite v.toNat s)

/-- A change has ended: the last waiting request is judged (R437). -/
def State.plNext (s : State) : State :=
  let s := { s.put PWR_STAT_PL_BUSY 0 with plTo := none, plLate := false }
  match s.plWait with
  | some t => if s.get PWR_STAT_STATE < 2 then ({ s with plWait := none }).plRequest t else s
  | none => s

/-- POWER_GOOD (R434): the raise waits for the next boundary; after a timeout the change ends with an error. -/
def powerGood (s : State) : State :=
  match s.plTo with
  | none => s.put PWR_STAT_PG 1
  | some t =>
    let s := s.put PWR_STAT_PG 1
    if s.plLate then
      (((((s.put PWR_STAT_PL_ERR 1).put PWR_SUM_PG_TIMEOUT 1).bump PWR_CNT_PG_TIMEOUTS).post 0x0103 sevWarn (pack [p16 t]))).plNext
    else s

/-- POWER_GOOD. -/
def execPowerGood (s : State) : Result := .next (powerGood s)

/-- The level that a wake brings (R446). -/
def State.wakeLevel (s : State) : Nat := max (s.get PWR_MODE_WAKE_PL) s.minPl

/-- VCORE_PG has not risen within PG_TO of a wake (R453). -/
def State.wakePgTimeout (s : State) : State :=
  (((s.put PWR_SUM_PG_TIMEOUT 1).bump PWR_CNT_PG_TIMEOUTS).post 0x0103 sevWarn (pack [p16 s.wakeLevel])) |>.put PWR_STAT_PL_ERR 1

/-- PWR_PG_TIMEOUT (R434): VSEL returns to the level in force. During a wake it decides the level that follows (R453). -/
def pwrPgTimeout (s : State) : State :=
  if ¬ s.awake then (if s.wakeReq.isSome ∧ ¬ s.plLate then { s.wakePgTimeout with plLate := true } else s) else
  match s.plTo with
  | some t =>
    if s.get PWR_STAT_CUR_PL < t ∧ ¬ s.on PWR_STAT_PG ∧ ¬ s.plLate then
      { s.put PWR_STAT_VSEL (s.get PWR_STAT_CUR_PL) with plLate := true }
    else s
  | none => s

/-- PWR_PG_TIMEOUT. -/
def execPwrPgTimeout (s : State) : Result := .next (pwrPgTimeout s)

/-- PL_CHANGE (R434, R435): at a frame boundary, after power good for a raise. -/
def plChange (s : State) : State :=
  match s.plTo with
  | none => s
  | some t =>
    let old := s.get PWR_STAT_CUR_PL
    if old < t ∧ (¬ s.on PWR_STAT_PG ∨ s.plLate) then s
    else
      let s := ((s.setLevel t).put PWR_STAT_VSEL t).bump PWR_CNT_PL_CHANGES
      (s.post 0x0101 sevInfo (pack [p16 old, p16 t, p32 s.frame])).plNext

/-- PL_CHANGE. -/
def execPlChange (s : State) : Result := .next (plChange s)

/-- PWR_PG_LOST (R431, R517). -/
def pwrPgLost (s : State) : State :=
  if s.plTo.isSome ∨ ¬ s.awake then s
  else
    let s := (s.put PWR_STAT_PG 0).put PWR_SUM_PG_LOST 1
    (s.post 0x0104 sevFatal (pack [p16 (s.get PWR_STAT_CUR_PL), p32 s.frame])).fold 6

/-- PWR_PG_LOST. -/
def execPwrPgLost (s : State) : Result := .next (pwrPgLost s)

/-! ### Clock supervision (R452) -/

/-- PWR_XO_FAIL. -/
def pwrXoFail (cause : Nat) (s : State) : State :=
  if s.on PWR_STAT_XO_OK && s.awake then
    (((s.put PWR_STAT_XO_OK 0).put CLK_DOMC_STAT_REF 1).put PWR_SUM_XO_FAIL 1).post 0x0107 sevFatal (pack [p16 cause])
  else s

/-- PWR_XO_FAIL. -/
def execPwrXoFail (cause : Nat) (s : State) : Result := .next (pwrXoFail cause s)

/-- PWR_LFX_FAIL. -/
def pwrLfxFail (s : State) : State :=
  if s.on PWR_STAT_AON_SRC then s
  else ((s.put PWR_STAT_AON_SRC 1).put PWR_SUM_LFX_FAIL 1).post 0x0108 sevWarn (pack [p32 s.frame])

/-- PWR_LFX_FAIL. -/
def execPwrLfxFail (s : State) : Result := .next (pwrLfxFail s)

/-- PWR_LFX_RESUME: `cycles` of CK_AON ran on the RC. -/
def pwrLfxResume (cycles : Nat) (s : State) : State :=
  if s.on PWR_STAT_AON_SRC then (s.put PWR_STAT_AON_SRC 0).post 0x0109 sevInfo (pack [p32 cycles]) else s

/-- PWR_LFX_RESUME. -/
def execPwrLfxResume (cycles : Nat) (s : State) : Result := .next (pwrLfxResume cycles s)

/-! ### Entering a sleep state (R440 to R443) -/

 /-- The mode that ring 0's WAIT POWER in execution enters, until it has been left. -/
def State.sleepMode (s : State) : Option Nat :=
  match (s.ring 0).exec with
  | some e =>
    if (e.words.headD 0) % 256 = 0x01 ∧ waitMode e.words = 2 ∧ ¬ e.committed then some e.mask else none
  | none => none

/-- The rings other than 0 with a command in execution; waiting WAIT and FENCE commands do not count (R441). -/
def State.busyRings (s : State) : List Nat :=
  (List.range 64).filter (fun r => r != 0 && match (s.ring r).exec with
    | some e => e.words.headD 0 % 256 != 0x01 && e.words.headD 0 % 256 != 0x02
    | none => false)

/-- The channels not at rest: bit n speaker channel n, bit 4 + n headphone channel n. -/
def State.notAtRest (s : State) : Nat :=
  maskOf 8 (fun i => if i < 4 then decide (1 ≤ s.spkState i) && decide (s.spkState i ≤ 3)
    else decide (1 ≤ s.hpoState (i - 4)) && decide (s.hpoState (i - 4) ≤ 3))

/-- The conditions of R441. -/
def State.sleepReady (s : State) : Bool :=
  s.busyRings.isEmpty && s.notAtRest == 0 && s.plTo.isNone && s.rst.isNone

/-- ENTERING begins once R441 is met (R442). -/
def State.entryBegin (s : State) : State :=
  match s.sleepMode with
  | some mode => if 2 ≤ mode ∧ s.get PWR_STAT_STATE = 0 ∧ s.sleepReady then s.put PWR_STAT_STATE 4 else s
  | none => s

/-- WAIT_POWER (R363, R440, R441): for STANDBY and DORMANT every output is folded. -/
def waitPower (r : Nat) (s : State) : State :=
  s.command r 0x01 (fun ws => waitMode ws == 2) (fun _ ws s =>
    if waitCode ws ≠ 0 then s.finish r stBadArg 0
    else if r ≠ 0 then s.finish r stNotPermitted 0
    else
      let mode := s.get PWR_MODE_MODE
      if mode = 0 then s.finish r stOk s.frame
      else
        let s := s.setExec r (fun e => { e with mask := mode })
        if 2 ≤ mode then ((s.spkFold 6).hpoFold).entryBegin else s)

/-- WAIT_POWER. -/
def execWaitPower (r : RingIx) (s : State) : Result := .next (waitPower r.val s)

/-- The serial ports and the IEC 60958 interface stop (R442). -/
def State.portsSleep (s : State) : State :=
  let s := (List.range 4).foldl (fun s n => (s.sapQuiet n).put (SAP_STAT_STATE n) 0) s
  let s := (s.rxLeaves.put SPD_RX_STAT_STATE 0).rxQuiet
  { s.put SPD_TX_STAT_STATE 0 with spd := { s.spd with armed := false, beginNext := false, beginB := false, pos := 192 } }

/-- After sleep, and at a load's start step, a GROUP port is ARMED and an IMMEDIATE one is to start (R442, R559). -/
def State.portsWake (s : State) : State :=
  let s := (List.range 4).foldl State.sapArm s
  let s := if ¬ s.on SPD_RX_CFG_EN ∨ s.portHold then s
    else { s.put SPD_RX_STAT_STATE 1 with spd := { s.spd with armed := s.on SPD_RX_CFG_START_MODE } }
  if ¬ s.on SPD_TX_CFG_EN ∨ s.portHold then s
  else if s.on SPD_TX_CFG_START_MODE then s.put SPD_TX_STAT_STATE 1 else { s with spd := { s.spd with beginNext := true } }

/-- The receive slots of chain port `p` deliver inserted zeros (R320). -/
def State.linkQuiet (s : State) (p : Nat) : State :=
  (List.range 128).foldl (fun s i => s.edgeClear (0x100 + 128 * p + i)) s

/-- Both chain ports go OFF (R345); a satellite's domain A loses its source (R133). -/
def State.linksSleep (s : State) : State :=
  let s := (List.range 2).foldl (fun s p =>
    let up := s.get (CHN_PORT_STAT_STATE p) == 5
    let s := if up then s.bump (CHN_PORT_CNT_RETRAINS p) else s
    (((s.put (CHN_PORT_STAT_STATE p) 0).put (CHN_PORT_STAT_SIGNAL p) 0).linkQuiet p).setChain
      (fun c => { c with crcBad := [], missing := [], downAt := if up then mapInsert c.downAt p (s.frame + 1) else c.downAt })) s
  if s.chain.wasUp then s.domaHold else s

/-- The chain ports listen again; the head's upstream port stays OFF (R312). -/
def State.linksWake (s : State) : State :=
  let s := if s.isHead then s else s.put (CHN_PORT_STAT_STATE 0) 1
  s.put (CHN_PORT_STAT_STATE 1) 1

/-- The conversion in progress and every result are given up (R488). -/
def State.hkaSleep (s : State) : State :=
  let s := (List.range 16).foldl (fun s c => s.put (HKA_RES_VALID c) 0) s
  { (s.put HKA_STAT_BUSY 0).put HKA_STAT_POWERED 0 with hkaScan := [], hkaConv := [] }

/-- The scrub pointers restart (R473). -/
def State.scrubRestart (s : State) : State :=
  { (s.put CUR_SCRUB_POS_FRAME_WORD 0).put CUR_SCRUB_POS_SRAM_CELL 0 with scrubBank := [] }

/-- A wake source of the entry that cannot wake the unit from `mode` is no wake source (R445). -/
def State.wakeKeep (s : State) (mode : Nat) : Option Nat :=
  match s.wakeReq with
  | some 1 => if mode = 3 then none else some 1
  | some 3 => if mode = 2 then none else some 3
  | w => w

/-- SLEEP_ENTRY (R441, R442): the steps from Stop to Clocks. A wake source of the entry stays, and the wake follows (R447). -/
def sleepEntry (s : State) : State :=
  match s.sleepMode with
  | none => s
  | some mode =>
    if mode < 2 ∨ ¬ (s.sleepReady ∨ (s.get PWR_STAT_STATE = 4 ∧ s.rst.isNone)) then s
    else
      let s := (List.range 8).foldl State.brgOff s
      let s := s.portsSleep.linksSleep
      let s := (s.hoEnd 3 stNoResource).testsStop.jackSleep.pumpCheck
      let s := (s.put PWR_SEQ_SLEEP_SEQ (s.get PWR_SEQ_SLEEP_SEQ + 1))
      let s := (s.banksSleep (mode == 3)).hkaSleep.scrubRestart
      let s := (s.put PWR_STAT_VSEL 0).put CLK_DOMC_STAT_REF 1
      let s := if mode = 3 then (s.put CLK_DOMC_STAT_STATE 3).put CLK_DOMC_STAT_SLEW_LEFT 0 else s.domcFree
      let s := if mode = 3 then s.hopClear else s
      let s := ({ s.put PWR_STAT_STATE mode with wakeReq := s.wakeKeep mode, dormBus := false }).captureSleep
      let s := (s.bump PWR_CNT_SLEEPS).wdtRestart
      s.post 0x0105 sevInfo (pack [p16 mode, p32 s.frame, p32 (s.get PWR_SEQ_SLEEP_SEQ)])

/-- SLEEP_ENTRY. -/
def execSleepEntry (s : State) : Result := .next (sleepEntry s)

/-- PWR_ENTRY_TIMEOUT (R441): the unit stays ACTIVE, and the outputs play again. -/
def pwrEntryTimeout (s : State) : State :=
  match s.sleepMode with
  | none => s
  | some mode =>
    if mode < 2 ∨ s.sleepReady ∨ 2 ≤ s.get PWR_STAT_STATE then s
    else
      let rings := maskOf 64 (fun r => s.busyRings.contains r)
      let rest := s.notAtRest
      let s := ((s.put PWR_SUM_ENTRY_TO 1).bump PWR_CNT_ENTRY_TIMEOUTS).post 0x010A sevWarn (pack [(64, rings), p16 rest])
      let s := if s.folded then s else s.spkUnfold.hpoUnfold
      s.finish 0 stTimeout s.frame

/-- PWR_ENTRY_TIMEOUT. -/
def execPwrEntryTimeout (s : State) : Result := .next (pwrEntryTimeout s)

/-! ### Waking (R445 to R448) -/

/-- WAKE (R445). -/
def wake (s : State) : State := s.wakeBy 0

/-- WAKE. -/
def execWake (s : State) : Result := .next (wake s)

/-- WAKE_TIMER (R445). -/
def wakeTimer (s : State) : State :=
  if s.on PWR_WAKE_EN_TIMER && s.get PWR_TIMER_COUNT != 0 then s.wakeBy 4 else s

/-- WAKE_TIMER. -/
def execWakeTimer (s : State) : Result := .next (wakeTimer s)

/-- DORMANT_ADDRESS_MATCH (R390, R394): `own` is the unit's own address, else the alert response address; SCL is held low for `stretch`
units of 40.7 ns. -/
def dormantAddressMatch (own : Bool) (stretch : Nat) (s : State) : State :=
  if ¬ s.dormant ∨ (¬ own ∧ s.unanswered = 0) then s
  else
    let s := { (s.put TWB_STAT_BUSY 1).peak TWB_STAT_STRETCH_MAX stretch with dormBus := true }
    if own && s.on TWB_CFG_DORMANT_WAKE then s.wakeBy 3 else s

/-- DORMANT_ADDRESS_MATCH. -/
def execDormantAddressMatch (own : Bool) (stretch : Nat) (s : State) : Result := .next (dormantAddressMatch own stretch s)

/-- RETURN_TO_DORMANT (R394). -/
def returnToDormant (s : State) : State :=
  if s.dormant ∧ ¬ s.on TWB_STAT_BUSY ∧ (¬ s.on TWB_CFG_DORMANT_WAKE ∨ s.wakeReq.isNone) then { s with dormBus := false } else s

/-- RETURN_TO_DORMANT. -/
def execReturnToDormant (s : State) : Result := .next (returnToDormant s)

/-- The wake is recorded (R445). -/
def State.wakeRecord (s : State) (cause left cycles : Nat) : State :=
  let s := ((s.put PWR_WAKE_STAT_CAUSE cause).put PWR_WAKE_STAT_LEFT left).put PWR_WAKE_STAT_SLEPT (satNat 32 cycles)
  ({ s with wakeReq := none }).post 0x0106 sevInfo (pack [p16 cause, p16 left, p32 cycles])

/-- Time passes in sleep: `cycles` of CK_AON, `rc` of them on the RC oscillator (R503, R504). -/
def State.timeSlept (s : State) (cycles rc : Nat) : State :=
  let n := s.framesPerSec
  let a := s.annals
  let op := a.subSec + cycles * n / 32768
  let cal := a.subCal + cycles * n / 32768
  let onRc := min (rc / 32768) (op / n)
  let onRcCal := min (rc / 32768) (cal / n)
  let s := { s with annals := { a with subSec := op % n, subCal := cal % n } }
  (((s.opSeconds (op / n - onRc) false).opSeconds onRc true).calSeconds (cal / n - onRcCal) false).calSeconds onRcCal true

/-- The level in force after the wake: after a timeout of VCORE_PG the one that it confirms, which the spec leaves to the regulator
(R453; DESIGN CHOICE, log 48: a free value). -/
def State.wakeSettle (s : State) : State :=
  let w := s.free.1.toNat % 4
  let l := if s.plLate then w else s.wakeLevel
  let s := if s.plLate then s.free.2 else s
  ((s.setLevel l).put PWR_STAT_VSEL l).put PWR_STAT_PG 1

/-- Domain C after a wake (R139, R446): it slews to the marked frames, on a satellite only while domain A is not ACQUIRING. -/
def State.domcWake (s : State) : State := if ¬ s.isHead ∧ s.get CLK_DOMA_STAT_STATE = 1 then s.domcFree else s.domcSlew

/-- SLEEP_EXIT (R444, R446, R448): `cycles` of CK_AON asleep, `rc` of them on the RC oscillator. -/
def sleepExit (cycles rc : Nat) (s : State) : State :=
  let left := s.get PWR_STAT_STATE
  match s.wakeReq with
  | none => s
  | some cause =>
    if left ≠ 2 ∧ left ≠ 3 then s
    else
      let s := if left = 3 ∧ s.isHead then
          { s with frame := (s.frame + (2 * cycles * s.framesPerSec + 32768) / 65536) % 2 ^ 32 } else s
      let s := s.timeSlept cycles rc
      let s := { s.put PWR_STAT_STATE 0 with dormBus := false }
      let s := s.wakeSettle
      let s := (s.put CLK_DOMC_STAT_REF (b2n !s.on PWR_STAT_XO_OK)).banksWake
      let s := s.domcWake
      let s := if left = 3 then (s.gapDue 0).modelCheck else s
      let s := s.captureWake.jackResume.portsWake.linksWake.wdtRestart
      let s := if s.folded then s else s.spkWake.hpoUnfold
      let s := s.setExec 0 (fun e => { e with committed := true, result := s.frame })
      (s.wakeRecord cause left cycles).plNext

/-- SLEEP_EXIT. -/
def execSleepExit (cycles rcCycles : Nat) (s : State) : Result := .next (sleepExit cycles rcCycles s)

/-- IDLE is entered and left at a frame boundary (R439, R445). -/
def State.idleBoundary (s : State) : State :=
  if s.get PWR_STAT_STATE = 0 ∧ s.sleepMode = some 1 then
    { s.put PWR_STAT_STATE 1 with wakeReq := none, idleAt := s.frame }
  else if s.get PWR_STAT_STATE = 1 then
    match s.wakeReq with
    | some cause =>
      let s := (s.put PWR_STAT_STATE 0).wakeRecord cause 1 (s.frameAgo s.idleAt * 32768 / s.framesPerSec)
      s.finish 0 stOk s.frame
    | none => s
  else s

end Sys2Proof.Machine
end

