-- ==== Sys2Proof/Machine/Image.lean ====
section
/-! DEFINITION. Reading a codex image: the flash, the header and its checks, sections, keys and records, and the classification
of the slots (R155 to R168). -/

namespace Sys2Proof.Machine

/-! ### The flash (R155, R156) -/

/-- The bytes of a slot. -/
def slotBytes : Nat := 0x400000

/-- The word at offset `o` of slot `k`. -/
def State.flashWord (s : State) (k o : Nat) : Nat := cellsRead 0xFF s.flash (k * slotBytes + o) 8

/-- The byte at offset `o` of slot `k`. -/
def State.flashByte (s : State) (k o : Nat) : Nat := (mapGet 0xFF s.flash (k * slotBytes + o)).toNat

/-- A program pulse only clears bits (R158): the byte at flash address `a`. -/
def State.flashProgram (s : State) (a v : Nat) : State :=
  { s with flash := mapSet 0xFF s.flash a (mapGet 0xFF s.flash a &&& BitVec.ofNat 8 v) }

/-- The bytes from `a` below `a + n` are erased. -/
def State.flashErase (s : State) (a n : Nat) : State :=
  { s with flash := s.flash.filter (fun c => decide (c.1 < a) || decide (a + n ≤ c.1)) }

/-! ### The header (R157 to R160) -/

/-- EDITION of slot `k`'s header. -/
def State.imgEdition (s : State) (k : Nat) : Nat := bits (s.flashWord k 0x10) 0 32
/-- LENGTH. -/
def State.imgLength (s : State) (k : Nat) : Nat := bits (s.flashWord k 0x10) 32 32
/-- DOMA_RATE. -/
def State.imgRate (s : State) (k : Nat) : Nat := bits (s.flashWord k 0x18) 32 1
/-- SECTIONS. -/
def State.imgSections (s : State) (k : Nat) : Nat := bits (s.flashWord k 0x18) 40 7
/-- MIN_PL of unit `u`. -/
def State.imgMinPl (s : State) (k u : Nat) : Nat := bits (s.flashWord k 0x20) (2 * u) 2
/-- UNIT_MASK. -/
def State.imgMask (s : State) (k : Nat) : Nat := bits (s.flashWord k 0x28) 0 16

/-- A directory entry: KEY, UNITS, OFFSET, SLEN, its third word, and whether it sets a reserved bit. -/
structure Section where
  key : Nat
  units : Nat
  off : Nat
  len : Nat
  ident : Nat
  reserved : Bool
deriving DecidableEq, Repr

/-- The directory of slot `k` (R160). -/
def State.directory (s : State) (k : Nat) : List Section :=
  (List.range (s.imgSections k)).map (fun i =>
    let w := fun j => s.flashWord k (0x80 + 24 * i + 8 * j)
    { key := bits (w 0) 0 2, units := bits (w 0) 16 16, off := bits (w 0) 32 32, len := bits (w 1) 0 32
      ident := bits (w 2) 0 61, reserved := bits (w 0) 2 14 != 0 || bits (w 1) 32 32 != 0 || bits (w 2) 61 3 != 0 })

/-- The directory lies in the image, and its sections behind it, without overlap (R160, R167). -/
def State.directoryOk (s : State) (k : Nat) : Bool :=
  let n := s.imgSections k
  let stop := 0x80 + 24 * n
  let len := s.imgLength k
  let d := s.directory k
  decide (1 ≤ n) && decide (n ≤ 64) && decide (stop ≤ len) &&
  d.all (fun e => e.off % 8 == 0 && e.len % 8 == 0 && decide (stop ≤ e.off) && decide (e.off + e.len ≤ len)) &&
  (d.zipIdx).all (fun p => (d.zipIdx).all (fun q => decide (q.2 ≤ p.2) || !overlap p.1.off p.1.len q.1.off q.1.len))

/-- The header passes reason 2 (R157, R167). -/
def State.headerOk (s : State) (k : Nat) : Bool :=
  let w := s.flashWord k 0
  let len := s.imgLength k
  bits w 0 32 == 0x434C5A42 && bits w 32 16 == 1 && len % 8 == 0 && decide (0xA0 ≤ len) && decide (len ≤ slotBytes) &&
  s.directoryOk k

/-- The header keeps its reserved bits 0 (R157). -/
def State.headerReserved (s : State) (k : Nat) : Bool :=
  bits (s.flashWord k 0) 48 16 != 0 || bits (s.flashWord k 0x18) 33 7 != 0 || bits (s.flashWord k 0x18) 47 17 != 0 ||
  bits (s.flashWord k 0x20) 32 32 != 0 || bits (s.flashWord k 0x28) 16 48 != 0 || bits (s.flashWord k 0x30) 40 24 != 0 ||
  (List.range 8).any (fun i => s.flashWord k (0x40 + 8 * i) != 0)

/-- The valid commit word of an edition (R158). -/
def commitWord (edition : Nat) : Nat := 0x5AA50F0F + 2 ^ 32 * (edition % 2 ^ 32 ^^^ 0xFFFFFFFF)

/-- The reason of slot `k` before a load (R167). -/
def State.classify (s : State) (k : Nat) : Nat :=
  let c := s.flashWord k 8
  if s.flashWord k 0 = 2 ^ 64 - 1 then 1
  else if ¬ s.headerOk k then 2
  else if c = 2 ^ 64 - 1 then 3
  else if c = 0 then 4
  else if c ≠ commitWord (s.imgEdition k) then 5
  else 0

/-- The image's CRC matches its header (R159). -/
def State.imgCrcOk (s : State) (k : Nat) : Bool :=
  let at_ := fun i => if (8 ≤ i ∧ i < 16) ∨ (0x18 ≤ i ∧ i < 0x1C) then 0 else s.flashByte k i
  crc32 ((List.range (s.imgLength k)).map at_) == bits (s.flashWord k 0x18) 0 32

/-! ### Records (R162 to R166) -/

/-- A record: the byte offset of its header, its TYPE, its ARG and its body. -/
structure Rec where
  off : Nat
  type : Nat
  arg : Nat
  body : List Nat
deriving DecidableEq, Repr

/-- The records in a list of words that stands at byte offset `off`; `none` at the end for a record that exceeds it. -/
def records (off : Nat) : Nat → List Nat → List (Option Rec)
  | 0, _ => []
  | _ + 1, [] => []
  | n + 1, h :: r =>
    let len := bits h 8 24
    if r.length < len then [none]
    else some { off := off, type := bits h 0 8, arg := bits h 32 32, body := r.take len } ::
      records (off + 8 * (len + 1)) n (r.drop len)

/-- The words of a section. -/
def State.sectionWords (s : State) (k : Nat) (e : Section) : List Nat :=
  (List.range (e.len / 8)).map (fun i => s.flashWord k (e.off + 8 * i))

/-- The records of a section, with the offset a failure is reported at. -/
def State.sectionRecs (s : State) (k : Nat) (e : Section) : List (Option Rec) :=
  records e.off (e.len / 8) (s.sectionWords k e)

/-- The TILE record at offset `o` of slot `k`, if one of the image's sections has a record there (R163). -/
def State.tileRecAt (s : State) (k o : Nat) : Option Rec :=
  (s.directory k).findSome? (fun e =>
    if e.off ≤ o ∧ o < e.off + e.len then
      ((s.sectionRecs k e).filterMap id).find? (fun r => r.off == o && r.type == 1)
    else none)

/-- A section matches unit `u` with identity `ident` (R161). -/
def Section.matches (e : Section) (u ident : Nat) : Bool :=
  (e.key == 0 && bitOf e.units u) || (e.key == 1 && e.ident == ident % 2 ^ 61)

/-- PLEN of a TILE record. -/
def Rec.plen (r : Rec) : Nat := bits r.arg 10 8
/-- CLEN of a TILE record. -/
def Rec.clen (r : Rec) : Nat := bits r.arg 18 9
/-- TILE of a TILE or TILE_REF record. -/
def Rec.tile (r : Rec) : Nat := bits r.arg 0 10

/-- A TILE record keeps R163 and R164: the configuration, descriptor, address and coefficient words set no reserved field (R76). -/
def Rec.tileOk (r : Rec) : Bool :=
  bits r.arg 27 5 == 0 && decide (r.plen ≤ 192) && decide (r.clen ≤ 255) && r.body.length == 29 + r.plen + r.clen &&
  (let cfg := r.body.headD 0
   cfg / 64 == 0 && decide (bits cfg 2 4 ≤ 8)) &&
  ((r.body.drop 1).take 8).all (fun d => decide (d % 8 ≤ 3) && bits d 4 4 == 0 && bits d 19 1 == 0 && bits d 40 8 == 0 && bits d 52 12 == 0) &&
  ((r.body.drop 9).take 4).all (fun a => bits a 17 7 == 0 && bits a 32 32 == 0 && decide (bits a 8 9 ≤ 256)) &&
  ((r.body.drop (29 + r.plen)).take r.clen).zipIdx.all (fun p => coefWordOk p.2 p.1)

/-- A TILE_REF as the TILE record it stands for (R163, R174); `at_` finds the record it points at. -/
def Rec.expand (r : Rec) (at_ : Nat → Option Rec) : Option Rec :=
  if r.type ≠ 2 then some r
  else if bits r.arg 10 22 ≠ 0 ∨ (r.body.length ≠ 1 ∧ r.body.length ≠ 17) then none
  else match at_ (r.body.headD 0) with
    | none => none
    | some t =>
      let body := if r.body.length = 17 then t.body.take 13 ++ r.body.drop 1 ++ t.body.drop 29 else t.body
      some { off := r.off, type := 1, arg := r.tile + t.arg / 1024 * 1024, body := body }

/-- The records of every section that matches unit `u`, in directory order, TILE_REFs expanded; `error` with the offset of
the first one that is none (R161, R166). -/
def State.unitRecs (s : State) (k u ident : Nat) : Except Nat (List Rec) :=
  let d := s.directory k
  if s.headerReserved k then .error 0
  else if d.any (fun e => e.reserved || decide (2 ≤ e.key)) then .error 0x80
  else
    (d.filter (fun e => e.matches u ident)).foldl (fun acc e =>
      (s.sectionRecs k e).foldl (fun acc r =>
        match acc, r with
        | .error o, _ => .error o
        | .ok l, none => .error ((l.getLast?.map (fun q => q.off + 8 * (q.body.length + 1))).getD e.off)
        | .ok l, some r => match r.expand (s.tileRecAt k) with
          | some q => .ok (l ++ [q])
          | none => .error r.off) acc) (.ok [])

/-! ### Selection at boot (R167, R168) -/

/-- The head notes the reason of slot `k`. -/
def State.setReason (s : State) (k v : Nat) : State := s.put (if k = 0 then SYS_BOOT_REASON_A else SYS_BOOT_REASON_B) v

/-- The reason of slot `k` as noted. -/
def State.reason (s : State) (k : Nat) : Nat := s.get (if k = 0 then SYS_BOOT_REASON_A else SYS_BOOT_REASON_B)

/-- Both slots, or one, are classified, and one that is no candidate is reported. -/
def State.classifySlots (s : State) (l : List Nat) : State :=
  l.foldl (fun s k =>
    let v := s.classify k
    let s := s.setReason k v
    if v = 0 then s else s.post 0x0421 sevWarn (pack [p16 k, p16 v])) s

/-- The candidate with the newer edition, slot A if neither is newer (R168). -/
def State.candidate (s : State) : Option Nat :=
  match s.reason 0 == 0, s.reason 1 == 0 with
  | true, true => if later (s.imgEdition 1) (s.imgEdition 0) then some 1 else some 0
  | true, false => some 0
  | false, true => some 1
  | false, false => none

/-- The boot ends (R462 step 4): SYS_BOOT_DONE with the units that started. -/
def State.bootDone (s : State) (state units : Nat) : State :=
  let s := s.put SYS_STAT_BOOT_STATE state
  let s := if state = 5 then s.put SYS_SUM_BOOT_EMPTY 1 else s
  { s.post 0x0003 sevInfo (pack [p16 state, p32 (s.msSince s.bootAt), p16 units]) with bootSlot := none }

/-- No load succeeded: the fabric stays EMPTY (R168). -/
def State.bootEmpty (s : State) : State :=
  (s.post 0x0422 sevFault (pack [p16 (s.reason 0), p16 (s.reason 1)])).bootDone 5 0

/-- The boot selects a slot after the core release (R167, R168, R462 steps 1 and 2); a satellite waits for its lend (R463). -/
def State.bootSelect (s : State) : State :=
  let s := { s with bootAt := s.frame, bootSlot := none }
  if ¬ s.isHead then s.put SYS_STAT_BOOT_STATE 6
  else
    let s := (s.put SYS_STAT_BOOT_STATE 1).classifySlots [0, 1]
    match s.candidate with
    | some k => { s.put SYS_STAT_BOOT_STATE 2 with bootSlot := some k }
    | none => s.bootEmpty

end Sys2Proof.Machine
end

