-- ==== Sys2Proof/Machine/Reset.lean ====
section
/-! DEFINITION. The three reset depths, cold start-up and identity (chapter Reset, Start-Up and Identity). -/

namespace Sys2Proof.Machine

/-! ### Register pages -/

/-- The register address of a field's key, whichever copy of a selected view it belongs to. -/
def keyAddr (k : Nat) : Nat := k / 64 % 0x1000000

/-- The field belongs to a register that is sticky through WARM. -/
def keySticky (k : Nat) : Bool :=
  match rowAt (keyAddr k) with
  | some r => r.acc == .rws
  | none => false

/-- The registers of the pages in `ps` take their reset values, but for the fields that `keep` keeps. -/
def State.resetPages (s : State) (ps : List Nat) (keep : Nat → Bool) : State :=
  { s with regs := s.regs.filter (fun p => !(ps.contains ((keyAddr p.1 - 0xE00000) / 0x1000)) || keep p.1) }

/-! ### Identity (R464, R466) -/

/-- CHECK_CRC of an identity matches. -/
def idCrcOk (f : Nat) : Bool := crc32 (leBytes 12 (f % 2 ^ 89)) == bits f 89 32

/-- CHECK_ZEROS of an identity matches. -/
def idZerosOk (f : Nat) : Bool := 89 - popCount 89 (f % 2 ^ 89) == bits f 121 7

/-- The identity is read and checked (R466). -/
def State.readIdentity (s : State) (f : Nat) : State :=
  let s := (s.put SYS_ID0_ID_LO f).put SYS_ID1_ID_HI (f / 2 ^ 64)
  if idCrcOk f && idZerosOk f then s.put SYS_STAT_ID_OK 1
  else
    (s.put SYS_SUM_ID_BAD 1).post 0x0002 sevFault
      (pack [p16 (if idZerosOk f then 0 else if idCrcOk f then 1 else 2)])

/-- The identity of this unit. -/
def State.identity (s : State) : Nat := s.get SYS_ID0_ID_LO + 2 ^ 64 * s.get SYS_ID1_ID_HI

/-! ### What each depth does (R456) -/

/-- Memory without the tile state RAMs: they read 0 with clean check bits (R47, R456). -/
def State.stateRamClear (s : State) : State :=
  { s with mem := s.mem.filter (fun c => decide (c.1 < 0xC00000) || decide (0xE00000 ≤ c.1))
           ecc := s.ecc.filter (fun p => decide (p.1 < 0xC00000 / 8) || decide (0xE00000 / 8 ≤ p.1))
           wb := s.wb.filter (fun p => decide (p.1 < 0xC00000 / 8) || decide (0xE00000 / 8 ≤ p.1)) }

/-- A load in progress and the head's lends are lost. -/
def State.loadDrop (s : State) : State :=
  { s with load := none, loadAll := false, loadShelf := none, loadMute := false, portHold := false, loadMin := 0
           lendEnds := [], lends := [], lendOut := none, lendIn := [], lendRelay := [], lendHeld := [], lendMsgs := [], bootSlot := none }

/-- The level change in progress completes before a reset takes effect (R453). -/
def State.plComplete (s : State) : State :=
  match s.plTo with
  | some _ => plChange { s.put PWR_STAT_PG 1 with plLate := false }
  | none => s

/-- On a satellite the tunnel starts anew with every reset (R337). -/
def State.tunnelDrop (s : State) : State :=
  if s.isHead then s
  else s.setChain (fun c => { c with sendq := [], replay := [], txSeq := [], rxSeq := [], outbox := [], ctlUp := [], ctlDn := [], relay := []
                                     ackFrame := [], cplWord := [], evWord := [], remote := [] })

/-- The high-quality decimators are off (R227). -/
def State.hqStop (s : State) : State :=
  (List.range 8).foldl (fun s m => s.edgeClear (0xA0 + m)) { s with hqWin := [], hqOff := 255 }

/-- What a FABRIC reset resets, and a WARM reset with it (R456, R378, R47, R124, R147, R224, R227, R488). -/
def State.fabricClear (s : State) (depthCode : Nat) : State :=
  let s := { s with wake := { s.wake with ho := s.wake.ho.map (fun (h : Handover) => { h with ring := none }) } }
  let s := (s.hoEnd 4 stCancelled).ringsReset depthCode
  let s := ({ s with tests := [], bankWait := [] }).showTests
  let s := s.resetPages [0x03, 0x04, 0x05, 0x06, 0x07, 0x11, 0x12] (fun k =>
    (decide (0xE03000 * 64 ≤ k) && decide (k < 0xE03800 * 64)) || keyAddr k == 0xE03820 || keyAddr k == 0xE11038)
  let s : State := { s.stateRamClear with
    tiles := [], lanes := [], paramq := [], xps := [], xpEcc := [], edgeIn := [], edgeNew := [], edgeNext := [], edgeOut := [], xpre := [], lowSum := []
    ports := [], spd := Spd.reset, brgs := [], ains := [], biasRamp := 0, biasLeft := [], cals := [], telRun := false, curUsed := [], curHalt := 0 }
  let s := s.loadDrop.scrubRestart.showAux
  let s := if s.get PWR_STAT_STATE = 4 then s.put PWR_STAT_STATE 0 else s
  let s := s.setLevel (s.get PWR_STAT_CUR_PL)
  let s := (s.put SYS_BOOT_LOADED 0).put (SYS_UNIT_STAT_LOADED 0) 0
  s.hqStop.tunnelDrop.put AIN_BIAS_STAT_PRIV (if s.on WAKE_PRIV_STAT_ENGAGED then 7 else 0)

/-- The level is PL3, or starts to rise to it under R434, before the boot load (R453). -/
def State.riseToTop (s : State) : State :=
  let s := s.put PWR_STAT_VSEL 3
  if s.get PWR_STAT_CUR_PL < 3 then
    let s := s.setLevel (s.get PWR_STAT_CUR_PL)
    let s := (s.put PWR_STAT_PL_BUSY 1).put PWR_STAT_PG 0
    { s with plTo := some 3 }
  else ((s.put PWR_STAT_PL_BUSY 0).put PWR_STAT_PG 1).setLevel 3

/-- What a WARM reset does beyond that (R456, R453, R455, R328, R345). -/
def State.warmClear (s : State) : State :=
  let s := (s.jackSleep.linkQuiet 0).linkQuiet 1
  let s := s.resetPages [0x00, 0x02, 0x09, 0x0A, 0x0B, 0x0D, 0x0F, 0x10] (fun k =>
    let a := keyAddr k
    keySticky k || a == 0xE00000 || a == 0xE00008 || k == Fld.key SYS_STAT_ID_OK || a == 0xE02018 ||
    k == Fld.key CHN_STAT_ROLE || k == Fld.key CHN_STAT_ADDR_VALID || k == Fld.key CHN_STAT_ADDR ||
    (match rowAt a with | some r => r.name == "MEM_BANK_STAT" | none => false) ||
    ((keyAddr k - 0xE00000) / 0x1000 == 0x10 && !(a == 0xE10038 || a == 0xE10040 || a == 0xE10050)))
  let s := { s with
    spks := [], carrier := Carrier.reset, hpos := [], thermRed := 0, clips := [], hkaScan := [], hkaConv := [], hkaQueued := false, calTemps := []
    tachLast := none, tachGood := none, tachLost := false, hkaOut := 0, holdSince := 0, monStop := [], monRate := [], heldB := 0
    chainSlots := [], chainRamp := 0, plTo := none, plWait := none, plLate := false, wakeReq := none, dormBus := false
    chain := { Chain.reset with held := s.chain.held, fwdOut := s.chain.fwdOut, resets := s.chain.resets } }
  let s := if s.isHead then s else (s.put CLK_DOMA_STAT_SRC 1).put CLK_DOMA_STAT_STATE 1
  let s := if s.isHead then s else s.domcFree
  let s := ((s.put PWR_PL_TARGET 3).put PWR_MODE_MODE 0).put PWR_MODE_WAKE_PL 2
  (s.put PWR_STAT_STATE 0).riseToTop

/-- What a COLD reset keeps: the nonvolatile store, with what the model holds of it, the flash and the commands that wait (R456). -/
def State.coldClear (s : State) : State :=
  let keep := s.regs.filter (fun p =>
    [NVS_STAT_RING_SECTORS, NVS_STAT_SPARES_LEFT, NVS_STAT_READ_ONLY].any (fun f => Fld.key f == p.1) || keyAddr p.1 == 0xE10030)
  { State.reset with
    pending := s.pending, fresh := s.fresh, nvs := s.nvs, flash := s.flash, sectors := s.sectors, sysSeq := s.sysSeq
    tlog := s.tlog, keyUnset := s.keyUnset, repairs := s.repairs, retired := s.retired
    regs := keep.foldl (fun m p => mapInsert m p.1 p.2) resetRegs }

/-- Step 3 of a reset's entry: the depth's blocks are held in reset (R459). -/
def State.resetApply (s : State) : State :=
  match s.rst with
  | some (0, c, false) => { s.coldClear with rst := some (0, c, true) }
  | some (1, c, false) => { (s.plComplete.fabricClear 1).warmClear with rst := some (1, c, true) }
  | some (d, c, false) => { s.plComplete.fabricClear 2 with rst := some (d, c, true) }
  | _ => s

/-- The step from a complete fold to the reset: the keeper reads FOLDED, then the reset applies (R459, R520). -/
def execKeepFolded (s : State) : Result :=
  let s := keepFolded s
  .next (if s.get KEEP_STAT_STATE = 2 then s.resetApply else s)

/-! ### Cold start-up (R461) -/

/-- COLD reset loads the factory trims, or default trims where no copy of the system image is good (R476, R495). -/
def State.loadTrims (s : State) (bad : Bool) : State :=
  calTargets.foldl (fun s t =>
    let i := t + 256 * b2n bad
    (s.put (CUR_CAL_VAL_OFFSET t) (Config.factoryOffset i).toNat).put (CUR_CAL_VAL_GAIN t) (Config.factoryGain i).toNat) s

/-- The strap's address (R383). -/
def State.readStrap (s : State) (p : PowerInputs) : State :=
  let s := (s.put TWB_STAT_ADDR (0x30 + p.strap % 8)).put TWB_STAT_STRAP p.strap
  if p.margin then (s.put TWB_STAT_STRAP_MARGIN 1).post 0x0E04 sevWarn (pack [p16 (p.strap % 8), p16 p.addrMv]) else s

/-- The start-up of R461 up to core release, and what follows it at once (R462 steps 1 and 2, R463). -/
def State.coldStart (s : State) (p : PowerInputs) (cause : Nat) : State :=
  let s := { s.coldClear with isHead := p.head }
  let s := (s.put CHN_STAT_ROLE (b2n p.head)).readStrap p
  let s := if p.head then s else (s.put CLK_DOMA_STAT_SRC 1).put CLK_DOMA_STAT_STATE 1
  let s := if p.xoOk then s else pwrXoFail 0 s
  let s := s.readIdentity p.fuses
  let s := ((s.sysRecover p.sysBad).loadTrims (bitOf p.sysBad 3)).timeRecover.banksCold.coldRelease7
  let s := (s.setLevel 3).linksWake
  let s := if p.head then s.domcSlew else s
  let s := s.post 0x0001 sevInfo (pack [p16 0, p16 cause, p32 s.frame])
  let s := (s.put SYS_STAT_RST_DEPTH 0).put SYS_STAT_RST_CAUSE cause
  s.bootSelect

/-- A satellite restarts its sequences and is to report the reset (R337). -/
def State.reportReset (s : State) (depth : Nat) : State :=
  if s.isHead then s
  else s.setChain (fun c => { c with restart := true, resets := if depth = 0 then 0 else (c.resets + 1) % 65536
                                     depth := depth, rptFrame := none })

/-- POWER_ON (R461): a supply that becomes valid starts the unit from what its nonvolatile stores hold. -/
def powerOn (p : PowerInputs) (s : State) : State := (s.coldStart p 0).reportReset 0

/-- POWER_ON. -/
def execPowerOn (p : PowerInputs) (s : State) : Result := .next (powerOn p s)

/-- POWER_LOSS (R181, R461): the unit is without supply; only nonvolatile contents stay, and POWER_ON follows. -/
def powerLoss (s : State) : State := { s.coldClear with rst := some (0, 0, true) }

/-- POWER_LOSS. -/
def execPowerLoss (s : State) : Result := .next (powerLoss s)

/-! ### Requests (R458 to R460) -/

/-- RESET_N (R459, R501): the annals flush while the outputs fold. -/
def resetN (s : State) : State := s.triggerFlush.requestReset 0 1

/-- RESET_N. -/
def execResetN (s : State) : Result := .next (resetN s)

/-- SYS_RESET (R458, R460). -/
def sysReset (v : Nat) (s : State) : State :=
  if bitOf v 0 && bits v 48 16 == 0xC3A5 && s.awake then s.requestReset 1 2 else s

/-- SYS_RESET. -/
def execSysReset (v : Word) (s : State) : Result := .next (sysReset v.toNat s)

/-- SYS_LOCK (R11): a write of 0 is ignored. -/
def sysLock (v : Nat) (s : State) : State := if bitOf v 0 then s.put SYS_LOCK_LOCK 1 else s

/-- SYS_LOCK. -/
def execSysLock (v : Word) (s : State) : Result := .next (sysLock v.toNat s)

/-- The RESET command of ring `r` whose DEPTH is `depth` (R360, R378); DEPTH 0 and 3 name no reset. -/
def resetCmd (r depth : Nat) (s : State) : State :=
  s.command r 0x1A (fun ws => bits (ws.headD 0) 16 2 == depth || bits (ws.headD 0) 16 2 % 3 == 0) (fun _ ws s =>
    if bits (ws.headD 0) 16 2 = depth then s.requestReset depth 3 else s.finish r stBadArg 0)

/-- RESET_WARM. -/
def execResetWarm (r : RingIx) (s : State) : Result := .next (resetCmd r.val 1 s)

/-- RESET_FABRIC. -/
def execResetFabric (r : RingIx) (s : State) : Result := .next (resetCmd r.val 2 s)

/-! ### Release (R459) -/

/-- RESET_RELEASE (R459, R462, R463). -/
def resetRelease (p : PowerInputs) (s : State) : State :=
  match s.rst with
  | none => s
  | some (0, cause, _) => (s.coldStart p cause).reportReset 0
  | some (depth, cause, _) =>
    let s := { s.resetApply with rst := none }
    let s := (s.put SYS_STAT_RST_DEPTH depth).put SYS_STAT_RST_CAUSE cause
    let s := (s.post 0x0001 sevInfo (pack [p16 depth, p16 cause, p32 s.frame])).put SYS_SUM_RESET 1
    let s := (s.unfold (if depth = 1 then 0x60 else 0x20)).biasRestart.pdmRefresh
    let s := (s.reportReset depth).wdtRestart
    if depth = 1 then s.jackResume.linksWake.bootSelect else s

/-- RESET_RELEASE. -/
def execResetRelease (p : PowerInputs) (s : State) : Result := .next (resetRelease p s)

end Sys2Proof.Machine
end

