-- ==== Sys2Proof/Machine/Write.lean ====
section
/-! DEFINITION. Host writes of registers by their access codes, and the writes of the audio pages that a PORT record may
address (R9 to R12, R165, R532). -/

namespace Sys2Proof.Machine

/-- The same field in the copy of its register that lies `off` bytes further on. -/
def fldAt (f : Fld) (off : Nat) : Fld := { f with addr := f.addr + off }

/-- The fields of the register take the bits of `v`. -/
def State.putFields (s : State) (r : RegRow) (off v : Nat) : State :=
  r.flds.foldl (fun s f => s.put (fldAt f off) (bits v f.lo f.width)) s

/-- Each field of the register loses the bits that are 1 in `v`. -/
def State.clearFields (s : State) (r : RegRow) (off v : Nat) : State :=
  r.flds.foldl (fun s f =>
    s.put (fldAt f off) (maskOf f.width (fun i => bitOf (s.get (fldAt f off)) i && !bitOf v (f.lo + i)))) s

/-- A write of the register at `a` that acts by its access code alone (R9 to R12). -/
def State.plainWrite (s : State) (a v : Nat) : State :=
  match rowAt a with
  | none => s
  | some r =>
    match r.acc with
    | .rw | .rws => s.putFields r (a - r.addr) v
    | .rwl => if s.on SYS_LOCK_LOCK then s else s.putFields r (a - r.addr) v
    | .w1c => s.clearFields r (a - r.addr) v
    | .ro | .wo | .rc => s

/-- A write in the SAP page at offset `o`. -/
def State.sapPageWrite (s : State) (o v : Nat) : State :=
  if o = 0x108 then sapStartGo v s
  else if 0x100 ≤ o then s.plainWrite (0xE05000 + o) v
  else if o % 0x40 = 0 then sapCfgWrite (o / 0x40) v s
  else if o % 0x40 = 0x28 then sapMuteWrite (o / 0x40) v s
  else s.plainWrite (0xE05000 + o) v

/-- A write in the SPD page at offset `o`. -/
def State.spdPageWrite (s : State) (o v : Nat) : State :=
  if o = 0x000 then spdRxCfgWrite v s
  else if o = 0x078 then spdTxCfgWrite v s
  else if o = 0x0A8 then txCsCommit v s
  else if o = 0x0D8 then txUdCommit v s
  else s.plainWrite (0xE06000 + o) v

/-- A write in the AIN page at offset `o`. -/
def State.ainPageWrite (s : State) (o v : Nat) : State :=
  if o < 0xC0 ∧ o % 0x20 = 0 then ainCfgWrite (o / 0x20) v s
  else if o = 0x100 then biasCfgWrite v s
  else s.plainWrite (0xE07000 + o) v

/-- A write of WAKE_CMD: each bit that is 1 acts, lowest first. -/
def wakeCmdWrite (v : Nat) (s : State) : State :=
  let s := if bitOf v 0 then s.modelCheck else s
  let s := if bitOf v 1 then hoStop s else s
  if bitOf v 2 then hoGo s else s

/-- A write in the PDM/WAKE page at offset `o`. -/
def State.wakePageWrite (s : State) (o v : Nat) : State :=
  if o = 0x000 then pdmCfgWrite v s
  else if o = 0x010 then wakeCtlWrite v s
  else if o = 0x020 then wakeArchCfgWrite v s
  else if o = 0x068 then wakeCmdWrite v s
  else s.plainWrite (0xE08000 + o) v

/-- A write in the HPO page at offset `o`. -/
def State.hpoPageWrite (s : State) (o v : Nat) : State :=
  if o = 0x010 then (if bitOf v 4 then hpoClear (v % 4) s else s)
  else if 0x100 ≤ o ∧ o < 0x180 ∧ o % 0x20 = 0 then hpoCfgWrite ((o - 0x100) / 0x20) v s
  else s.plainWrite (0xE09000 + o) v

/-- A write in the SPK page at offset `o`. -/
def State.spkPageWrite (s : State) (o v : Nat) : State :=
  if o = 0x000 then spkCtlWrite v s
  else if o = 0x028 then
    let s := if bitOf v 4 then spkClear (v % 4) s else s
    if bitOf v 5 then tweet (v % 4) s else s
  else if 0x100 ≤ o ∧ o < 0x200 ∧ o % 0x40 = 0 then spkCfgWrite ((o - 0x100) / 0x40) v s
  else s.plainWrite (0xE0A000 + o) v

/-- A write in the HKA page at offset `o`; an idle converter without KEEP_ON is not powered (R484). -/
def State.hkaPageWrite (s : State) (o v : Nat) : State :=
  if o = 0x010 then (if bitOf v 0 then conv (bits v 8 4) s else s)
  else
    let s := s.plainWrite (0xE0B000 + o) v
    if o = 0x000 ∧ ¬ s.on HKA_CTL_KEEP_ON ∧ ¬ s.on HKA_STAT_BUSY then s.put HKA_STAT_POWERED 0 else s

/-- A write in the DET page at offset `o`. -/
def State.detPageWrite (s : State) (o v : Nat) : State :=
  if o = 0x020 then (bitList 2 v).foldl (fun s j => reident j s) s
  else if o = 0x100 then detJackCfgWrite 0 v s
  else if o = 0x120 then detJackCfgWrite 1 v s
  else s.plainWrite (0xE0C000 + o) v

/-- A PORT record may address the SAP, SPD, AIN, PDM/WAKE, HPO, SPK, HKA and DET pages (R165). -/
def audioPage (a : Nat) : Bool := decide (0xE05000 ≤ a) && decide (a < 0xE0D000)

/-- A write of a register of those pages. -/
def State.audioWrite (s : State) (a v : Nat) : State :=
  let o := a % 0x1000
  match a / 0x1000 with
  | 0xE05 => s.sapPageWrite o v
  | 0xE06 => s.spdPageWrite o v
  | 0xE07 => s.ainPageWrite o v
  | 0xE08 => s.wakePageWrite o v
  | 0xE09 => s.hpoPageWrite o v
  | 0xE0A => s.spkPageWrite o v
  | 0xE0B => s.hkaPageWrite o v
  | 0xE0C => s.detPageWrite o v
  | _ => s

end Sys2Proof.Machine
end

