-- ==== Sys2Proof/Machine/Content.lean ====
section
/-! DEFINITION. What a load writes: the default frames, the records of an image applied to the unit, and the rules that the result
must keep (R161 to R166). -/

namespace Sys2Proof.Machine

/-- END, the program word that fills a frame (R164). -/
def endWord : Nat := 0x0400000000000000

/-- The words of a tile frame that a TILE record sets, by offset (R164). -/
def Rec.frame (r : Rec) : List (Nat × Nat) :=
  let w := fun (i : Nat) => r.body.getD i 0
  (List.range 192).map (fun i => (8 * i, if i < r.plen then w (29 + i) else endWord)) ++
  (List.range 256).map (fun i => (0x600 + 8 * i, if i < r.clen then w (29 + r.plen + i) else 0)) ++
  (List.range 13).map (fun i => (0xE00 + 8 * i, w i)) ++ (List.range 3).map (fun i => (0xE68 + 8 * i, 0)) ++
  (List.range 16).map (fun i => (0xE80 + 8 * i, w (13 + i))) ++ (List.range 32).map (fun i => (0xF00 + 8 * i, 0))

/-- The frames of tiles `lo` to `lo + n - 1` as a load writes them for tiles without a record (R164). -/
def State.defaultFrames (s : State) (lo n : Nat) : State :=
  let out := fun (a : Nat) => decide (a < frameAddr lo 0) || decide (frameAddr (lo + n) 0 ≤ a)
  let kept := s.mem.filter (fun c => out c.1)
  { s with
    mem := (List.range n).reverse.foldl (fun m t =>
      (List.range 192).reverse.foldl (fun m i => mapSet 0 m (frameAddr (lo + t) (8 * i + 7)) 0x04) m) kept
    ecc := s.ecc.filter (fun p => out (8 * p.1))
    wb := s.wb.filter (fun p => out (8 * p.1)) }

/-- A list cut into pairs; an odd last word is dropped. -/
def pairsOf : List Nat → List (Nat × Nat)
  | a :: b :: l => (a, b) :: pairsOf l
  | _ => []

/-- A list cut into threes; what is left over is dropped. -/
def threesOf : List Nat → List (Nat × Nat × Nat)
  | a :: b :: c :: l => (a, b, c) :: threesOf l
  | _ => []

/-- What the records of a load have done so far: the unit, the tiles they set, the crosspoints and ring assignments they carry, the
CLOCK record, and the offset of the first content error. -/
structure LoadAcc where
  st : State
  tiles : List Nat
  xps : SMap (Nat × Nat)
  rings : List (Nat × Nat)
  clock : Option Nat
  bad : Option Nat

/-- A content error in record `r` (R166). -/
def LoadAcc.fail (a : LoadAcc) (r : Rec) : LoadAcc := { a with bad := some r.off }

/-- A TILE record (R163, R164). -/
def LoadAcc.tileRec (a : LoadAcc) (r : Rec) : LoadAcc :=
  if ¬ r.tileOk then a.fail r
  else { a with
    st := r.frame.foldl (fun s p => s.memPut (frameAddr r.tile p.1) (BitVec.ofNat 64 p.2)) a.st
    tiles := if a.tiles.contains r.tile then a.tiles else a.tiles ++ [r.tile] }

/-- The source tile and output, the destination shelf and lane of a grant (R163). -/
def grantOf (w : Nat) : Nat × Nat × Nat × Nat := (bits w 0 10, bits w 16 3, bits w 24 4, bits w 32 8)

/-- A grant keeps its reserved bits 0. -/
def grantOk (w : Nat) : Bool := bits w 10 6 == 0 && bits w 19 5 == 0 && bits w 28 4 == 0 && bits w 40 24 == 0

/-- A grant is installed. -/
def State.grant (s : State) (w : Nat) : State :=
  let g := grantOf w
  { s with lanes := mapSet 0 s.lanes (256 * g.2.2.1 + g.2.2.2) (1 + 8 * g.1 + g.2.1) }

/-- A GRANT record; a partial load takes the grants from or to its shelf alone (R57, R178). -/
def LoadAcc.grantRec (a : LoadAcc) (shelf : Option Nat) (r : Rec) : LoadAcc :=
  if r.arg ≠ 0 ∨ ¬ r.body.all grantOk then a.fail r
  else
    let mine := r.body.filter (fun w => match shelf with
      | some h => (grantOf w).1 / 64 == h || (grantOf w).2.2.1 == h
      | none => true)
    { a with st := mine.foldl State.grant a.st }

/-- A ROUTE record (R106, R163). -/
def LoadAcc.routeRec (a : LoadAcc) (r : Rec) : LoadAcc :=
  let l := threesOf r.body
  if r.arg ≠ 0 ∨ r.body.length % 3 ≠ 0 ∨ ¬ l.all (fun p => p.1 / 1024 == 0 && descFieldsOk p.2) then a.fail r
  else { a with xps := l.foldl (fun m p => mapInsert m p.1 p.2) a.xps }

/-- The events by which a page rejects a value as an invalid configuration (R166). -/
def rejectCodes : List Nat := [0x0506, 0x0704, 0x0809, 0x0904, 0x0A0F, 0x0C06]

/-- One pair of a PORT record; `none` where the value is rejected (R165, R166). -/
def State.portPair (s : State) (p : Nat × Nat) : Option State :=
  if p.1 / 2 ^ 24 ≠ 0 ∨ ¬ audioPage p.1 ∨ p.1 % 8 ≠ 0 then none
  else
    let s' := s.audioWrite p.1 p.2
    if (s'.occ.drop s.occ.length).any (fun c => rejectCodes.contains c) then none else some s'

/-- A PORT record. -/
def LoadAcc.portRec (a : LoadAcc) (r : Rec) : LoadAcc :=
  if r.arg ≠ 0 ∨ r.body.length % 2 ≠ 0 then a.fail r
  else (pairsOf r.body).foldl (fun a p =>
    if a.bad.isSome then a
    else match a.st.portPair p with
      | some s => { a with st := s }
      | none => a.fail r) a

/-- A BRIDGE record: the images wait for the start step (R145, R170). -/
def LoadAcc.bridgeRec (a : LoadAcc) (r : Rec) : LoadAcc :=
  if r.arg ≠ 0 ∨ ¬ r.body.all (fun w => bits w 10 6 == 0 && bits w 24 32 == 0 && bits w 59 5 == 0 && !brgInvalid (bits w 0 24)) then a.fail r
  else { a with st := r.body.foldl (fun s w => (s.putBrgCfg (bits w 56 3) (bits w 0 24)).put (BRG_STAT_CFG_ERR (bits w 56 3)) 0) a.st }

/-- A CLOCK record (R134, R163, R558). -/
def LoadAcc.clockRec (a : LoadAcc) (r : Rec) : LoadAcc :=
  let w := r.body.headD 0
  let reserved : Bool := bits w 3 1 != 0 || bits w 7 5 != 0 || bits w 13 3 != 0 || bits w 32 4 != 0 || bits w 39 25 != 0
  if r.arg ≠ 0 ∨ r.body.length ≠ 1 ∨ reserved ∨ 6 ≤ bits w 0 3 ∨ 5 ≤ bits w 4 3 ∨ 5 ≤ bits w 36 3 ∨
      (a.clock.isSome ∧ a.clock ≠ some w) then a.fail r
  else { a with st := (clkDombCfgWrite (bits w 0 32) a.st).put CLK_DOMB_STAT_MAXRATE (bits w 36 3), clock := some w }

/-- A RING record: its pairs apply at the start step (R352). -/
def LoadAcc.ringRec (a : LoadAcc) (r : Rec) : LoadAcc :=
  let l := pairsOf r.body
  if r.arg ≠ 0 ∨ r.body.length % 2 ≠ 0 ∨ ¬ l.all (fun p => p.1 / 64 == 0 && bits p.2 34 6 == 0 && bits p.2 61 3 == 0) then a.fail r
  else { a with rings := a.rings ++ l }

/-- A BANKDATA record addresses words it may write (R163, R165). -/
def State.bankDataOk (s : State) (r : Rec) : Bool :=
  let at_ := bits r.arg 0 24
  let b := (at_ - 0x400000) / 0x100000
  r.arg / 2 ^ 24 == 0 && at_ % 8 == 0 && decide (0x400000 ≤ at_) && decide (at_ < 0xC00000) &&
  decide (at_ % 0x100000 + 8 * r.body.length ≤ 0x100000) &&
  ([0, 1, 2, 3, 6].contains b || (b == 7 && decide (256000 * (s.get WAKE_ARCH_CFG_LANES + 1) ≤ at_ % 0x100000)))

/-- A BANKDATA record. -/
def LoadAcc.bankRec (a : LoadAcc) (r : Rec) : LoadAcc :=
  if ¬ a.st.bankDataOk r then a.fail r
  else
    let at_ := bits r.arg 0 24 - 0x400000
    { a with st := r.body.zipIdx.foldl (fun s p =>
        s.bankWrite (at_ / 0x100000) (at_ % 0x100000 / 8 + p.2) (BitVec.ofNat 64 p.1)) a.st }

/-- One record; a partial load of `shelf` applies TILE and GRANT records that concern the shelf and skips the others (R178). -/
def LoadAcc.apply (shelf : Option Nat) (a : LoadAcc) (r : Rec) : LoadAcc :=
  if a.bad.isSome then a
  else match r.type with
    | 1 => if shelf.isSome ∧ shelf ≠ some (r.tile / 64) then a else a.tileRec r
    | 3 => a.grantRec shelf r
    | 4 => if shelf.isSome then a else a.routeRec r
    | 5 => if shelf.isSome then a else a.portRec r
    | 6 => if shelf.isSome then a else a.bridgeRec r
    | 7 => if shelf.isSome then a else a.clockRec r
    | 8 => if shelf.isSome then a else a.ringRec r
    | 9 => if shelf.isSome then a else a.bankRec r
    | _ => a.fail r

/-! ### The rules over all records (R166) -/

/-- The domain of tile `p` among the tiles `l`, 0 for one that is not among them. -/
def State.domAmong (s : State) (l : List Nat) (p : Nat) : Nat := if l.contains p then s.tileDomain p else 0

/-- The producer that a descriptor of tile `t` names. -/
def shelfProducer (t w : Nat) : Nat := t / 64 * 64 + bits w 8 6

/-- The inputs of tile `t` read producers and lanes of its own domain (R56, R58). A producer bound to NONE belongs to no domain, and an
input that names one is accepted (DESIGN CHOICE, log 52). -/
def State.inputsOk (s : State) (l : List Nat) (t : Nat) : Bool :=
  let d := s.tileDomain t
  d == 0 || (List.range 8).all (fun n =>
    let w := s.inDesc t n
    match w % 8 with
    | 1 => let p := s.domAmong l (shelfProducer t w); p == 0 || p == d
    | 2 =>
      let g := mapGet 0 s.lanes (256 * (t / 64) + bits w 8 8)
      let p := s.domAmong l ((g - 1) / 8)
      g == 0 || p == 0 || p == d
    | _ => true)

/-- The CURR producers of tile `t`. -/
def State.currOf (s : State) (l : List Nat) (t : Nat) : List Nat :=
  if s.tileDomain t = 0 then []
  else ((List.range 8).map (s.inDesc t)).filterMap (fun w =>
    if w % 8 = 1 ∧ bitOf w 3 ∧ s.domAmong l (shelfProducer t w) ≠ 0 then some (shelfProducer t w) else none)

/-- The tiles left once those without a CURR producer among the rest are taken away, `n` times. -/
def peel (curr : Nat → List Nat) : Nat → List Nat → List Nat
  | 0, l => l
  | n + 1, l => peel curr n (l.filter (fun t => (curr t).any l.contains))

/-- A tick rate of domain `d` in 1/1000 Hz, as the codex declares it (R58, R105). -/
def State.domRate (s : State) (d : Nat) : Nat :=
  match d with
  | 1 => 1000 * s.framesPerSec
  | 2 => 1005 * s.maxRateB
  | 3 => 16032000
  | _ => 0

/-- No switch port moves more cells than CK_FAB has cycles at level `pl` (R58). An output granted to n lanes counts n times at the source
shelf's port and once at each destination shelf's per lane (DESIGN CHOICE, log 53). -/
def State.switchOk (s : State) (l : List Nat) (pl : Nat) : Bool :=
  let load := fun (mine : Nat → Nat → Bool) =>
    (s.lanes.map (fun p => if mine ((p.2 - 1) / 8 / 64) (p.1 / 256) then s.domRate (s.domAmong l ((p.2 - 1) / 8)) else 0)).sum
  (List.range 16).all (fun h =>
    decide (load (fun src _ => src == h) ≤ 24576000000 * 2 ^ pl) && decide (load (fun _ dst => dst == h) ≤ 24576000000 * 2 ^ pl))

/-- The tiles `l` keep R46, R54, R56 and R58. -/
def State.tilesOk (s : State) (l : List Nat) (pl : Nat) : Bool :=
  l.all (s.inputsOk l) && (peel (s.currOf l) 64 l).isEmpty && s.switchOk l pl

/-- A crosspoint as a load installs it: without a fade (R170). -/
def Xp.installed (d : Nat × Nat) (dom : Nat) : Xp :=
  { Xp.reset with desc := some d, dom := dom, gainFrom := xpGain d, gainTo := xpGain d, applied := xpGain d }

/-- The crosspoints of the records are installed one after another, those with an edge endpoint first; none if one breaks R102,
R106, R109, R111 or R126. -/
def State.installXps (s : State) (m : SMap (Nat × Nat)) : Option State :=
  let edge := fun (p : Nat × (Nat × Nat)) => (s.edgesDom p.2).isSome
  (m.filter edge ++ m.filter (fun p => !edge p)).foldl (fun acc p =>
    match acc with
    | none => none
    | some s =>
      if ¬ s.lowOk p.1 p.2 then none
      else match s.xpDomain p.1 p.2 with
        | none => none
        | some dom =>
          let s' := s.setXp p.1 (Xp.installed p.2 dom)
          if ¬ xpLow p.2 ∧ (8 < s'.feeders (xpSnk p.2) ∨ s.reserveLimit < s'.reserved) then none else some s')
    (some { s with xps := [], xpEcc := [] })

/-- The ring assignments are valid one after another (R352). -/
def State.ringsOk (s : State) (l : List (Nat × Nat)) : Bool :=
  (l.foldl (fun (acc : Bool × State) p =>
    if acc.1 && !acc.2.ringInvalid p.1 p.2 then (true, acc.2.ringInstall p.1 p.2) else (false, acc.2)) (true, s)).1

end Sys2Proof.Machine
end

