-- ==== Sys2Proof/Machine/Codex.lean ====
section
/-! DEFINITION. CODEX_LOAD, the boot load, lending and the slot commands (R167 to R182, R462). -/

namespace Sys2Proof.Machine

/-- The load in progress, changed. -/
def State.setLoad (s : State) (f : Load → Load) : State := { s with load := s.load.map f }

/-- The units, as addresses, that a mask selects beside the head. -/
def farUnits (m : Nat) : List Nat := (bitList 16 m).filter (fun u => u != 0)

/-- The stream of a lend, changed. -/
def State.setLend (s : State) (u : Nat) (f : Lend → Lend) : State :=
  match mapFind s.lends u with
  | some l => { s with lends := mapInsert s.lends u (f l) }
  | none => s

/-! ### Lend streams (R174, R342) -/

/-- The words of a record. -/
def Rec.words (r : Rec) : List Nat := (r.type + 2 ^ 8 * r.body.length + 2 ^ 32 * r.arg) :: r.body

/-- The lend header and stream of `body` (R342). -/
def lendStream (edition rate minPl : Nat) (body : List Nat) : List Nat :=
  let w0 := 0x444E454C + 2 ^ 32 * (edition % 2 ^ 32)
  let w1 := 8 * (body.length + 4) + 2 ^ 32 * (rate % 2) + 2 ^ 34 * (minPl % 4)
  w0 :: w1 :: crc32 ((w0 :: w1 :: 0 :: 0 :: body).flatMap (leBytes 8)) :: 0 :: body

/-- A lend stream is whole and its CRC holds. -/
def lendOk (l : List Nat) : Bool :=
  bits (l.headD 0) 0 32 == 0x444E454C && bits (l.getD 1 0) 0 32 == 8 * l.length && decide (4 ≤ l.length) &&
  crc32 ((l.take 2 ++ 0 :: 0 :: l.drop 4).flatMap (leBytes 8)) == bits (l.getD 2 0) 0 32

/-- The identity of a unit as the roster holds it (R329). -/
def State.rosterId (s : State) (u : Nat) : Nat := s.get (CHN_ROSTER_ID0_ID_LO u) + 2 ^ 64 * s.get (CHN_ROSTER_ID1_ID_HI u)

/-- A lend that cannot be made or has failed for good (R176, R177): `reason` 0 LINK_DOWN, 1 CRC, 2 UNKEYED. -/
def State.lendFail (s : State) (u reason : Nat) : State := s.post 0x0425 sevFault (pack [p16 u, p16 reason])

/-- A load that only verifies changes nothing but the slots' reasons: it posts no failure (R172). -/
def State.verifying (s : State) : Bool := match s.load with | some l => l.kind == 2 | none => false

/-- The head begins a lend of slot `k` to unit `u` (R174, R177); a unit the image does not name gets none. -/
def State.lendBegin (s : State) (k : Nat) (auto : Bool) (u : Nat) : State :=
  let quiet := !auto && s.verifying
  let s := { s with lendEnds := s.lendEnds.filter (fun p => p.1 != u) }
  if ¬ bitOf (s.imgMask k) u then (if quiet then s else s.lendFail u 2)
  else
    let l : Lend := { edition := s.imgEdition k, stream := [], pos := 0, paused := false, fails := 0, status := none, auto := auto
                      startF := none }
    match s.unitRecs k u (s.rosterId u) with
    | .ok rs =>
      let st := lendStream (s.imgEdition k) (s.imgRate k) (s.imgMinPl k u) (rs.flatMap Rec.words)
      { s with lends := mapInsert s.lends u { l with stream := st } }
    | .error o =>
      let s := { s with lends := mapInsert s.lends u { l with status := some stBadArg } }
      if quiet then s else s.post 0x0424 sevFault (pack [p16 u, p16 stBadArg, p32 o])

/-! ### The end of a load -/

/-- The head's record of a unit's last load (R176, R469): a load of one shelf leaves the unit's edition in force (R178). -/
def State.unitLoaded (s : State) (kind u status edition : Nat) : State :=
  let s := s.put (SYS_UNIT_STAT_STATUS u) status
  if kind = 1 then s
  else (s.put (SYS_UNIT_STAT_EDITION u) edition).put (SYS_UNIT_STAT_LOADED u) (b2n (status == stOk))

/-- The selected units' last load ended with `status`. -/
def State.unitsLoaded (s : State) (l : Load) (status : Nat) : State :=
  if l.kind = 2 then s else (bitList 16 l.units).foldl (fun s u => s.unitLoaded l.kind u status l.edition) s

/-- The head's load ends before its commit point: the satellites that it lends to are told (R170, R173, R178). -/
def State.lendsEnd (s : State) (cancelled : Bool) : State :=
  { s with lendEnds := s.lendEnds ++
      ((s.lends.filter (fun p => !p.2.auto && p.2.status.getD stOk == stOk)).map (fun p => (p.1, cancelled))) }

/-- The load is over. -/
def State.loadClear (s : State) : State :=
  { s with load := none, loadAll := false, loadShelf := none, loadMin := 0, lends := s.lends.filter (fun p => p.2.auto) }

/-- The shelf of a partial load stays EMPTY, without grants (R178). -/
def State.shelfEmpty (s : State) (h : Nat) : State :=
  let s := (List.range 64).foldl (fun s i => (s.put (FAB_TILE_STAT_STATE (64 * h + i)) 0).setTile (64 * h + i) Tile.reset) s
  { s.put FAB_STAT_FAB_STATE 2 with
    lanes := s.lanes.filter (fun p => p.1 / 256 != h && (p.2 - 1) / 8 / 64 != h) }

/-- The load's command completes, if it has one. -/
def State.loadFinish (s : State) (l : Load) (status result : Nat) : State :=
  let s := s.loadClear
  match l.ring with
  | some r => s.finish r status result
  | none => s

/-- A head's load begins on slot `k`: a unit it covers mutes its outputs for the teardown, another goes straight to the image (R170). -/
def State.loadBegin (s : State) (l : Load) : State :=
  let own := bitOf l.units 0
  let s := { s with
    load := some { l with phase := if l.kind ≠ 0 then .scan else if own then .teardown else .write }
    loadMin := if own ∧ l.kind ≠ 2 then l.minPl else 0
    loadMute := s.loadMute || (own && l.kind == 0) }
  (farUnits l.units).foldl (fun s u => s.lendBegin l.slot false u) s

/-- A satellite's part of the load that it is lent is over: its fabric is EMPTY, or the shelf that the load had stopped; a
cancelled load leaves the shelf EMPTY in any case (R170, R173, R178). -/
def State.farLoadEnd (s : State) (l : Load) (cancelled : Bool) : State :=
  let s := if l.kind = 0 then (s.put FAB_STAT_FAB_STATE 0).put SYS_STAT_BOOT_STATE 5
    else if l.kind = 1 ∧ (cancelled ∨ l.phase = .write ∨ l.phase = .done) then s.shelfEmpty l.shelf
    else s
  { s.loadClear with lendIn := [] }

/-- A satellite's load is ended from without; one that waits for its teardown makes it first (R173). -/
def State.farLoadStop (s : State) (cancelled : Bool) : State :=
  match s.load with
  | some l =>
    if s.isHead ∨ l.startF.isSome then s
    else if l.kind = 0 ∧ l.phase = .teardown then s.setLoad (fun l => { l with cancel := true })
    else s.farLoadEnd l cancelled
  | none => s

/-- The load of slot `k` that the boot makes, with UNITS equal to the units dealt (R168, R462 step 3). -/
def State.bootBegin (s : State) (k : Nat) : State :=
  let s := ({ s.put SYS_STAT_BOOT_STATE 3 with bootSlot := none }).post 0x0420 sevInfo (pack [p16 k, p32 (s.imgEdition k)])
  s.loadBegin { ring := none, kind := 0, shelf := 0, slot := k, boot := true, units := setBitN (s.get CHN_STAT_PRESENT) 0
                edition := s.imgEdition k, minPl := s.imgMinPl k 0, at_ := none, phase := .teardown, cancel := false
                own := none, startF := none, tiles := [], xps := [], rings := [] }

/-- The chain wait is over: every unit that the image names is dealt, BOOT_WAIT has elapsed, or there has been no downstream signal for
1 ms (R462). -/
def State.bootReady (s : State) (k : Nat) : Bool :=
  (farUnits (s.imgMask k)).all (fun u => s.bit CHN_STAT_PRESENT u) ||
  decide (s.framesOfMs (10 * max 1 (s.get SYS_CTL_BOOT_WAIT)) ≤ s.frameAgo s.bootAt) ||
  (!s.on (CHN_PORT_STAT_SIGNAL 1) && decide (s.framesOfMs 1 ≤ s.frameAgo s.bootAt))

/-- BOOT_LOAD (R462 steps 2 and 3), after a level change in progress (R453). -/
def bootLoad (s : State) : State :=
  match s.bootSlot with
  | some k => if s.isHead ∧ s.get SYS_STAT_BOOT_STATE = 2 ∧ s.load.isNone ∧ s.plTo.isNone ∧ s.bootReady k then s.bootBegin k else s
  | none => s

/-- BOOT_LOAD. -/
def execBootLoad (s : State) : Result := .next (bootLoad s)

/-- The unit that a failure of this unit's load is reported for: itself, or for a head that the load leaves out the first unit selected. -/
def State.failUnit (s : State) (l : Load) : Nat := if s.isHead then (bitList 16 l.units).headD 0 else s.ownAddr

/-- This unit's part of a load fails at step 3 or 4: it stays EMPTY (R170); a satellite reports, the head ends the load on every
selected unit, and a boot tries the other candidate (R168). -/
def State.loadFail (s : State) (l : Load) (status off : Nat) : State :=
  let s := if l.kind = 2 then s
    else (if l.kind = 0 ∧ (¬ s.isHead ∨ bitOf l.units 0) then s.put FAB_STAT_FAB_STATE 0 else s).post 0x0424 sevFault
      (pack [p16 (s.failUnit l), p16 status, p32 off])
  if ¬ s.isHead then
    let s := if l.kind = 0 then s.put SYS_STAT_BOOT_STATE 5 else s
    (s.setLoad (fun l => { l with phase := .done, own := some status }))
  else
    let s := ((s.setReason l.slot (if status = stEcc then 6 else 7)).unitsLoaded l status).lendsEnd false
    if l.boot then
      let s := s.loadClear
      match s.candidate with
      | some k => s.bootBegin k
      | none => s.bootEmpty
    else s.loadFinish l status 0

/-! ### CODEX_LOAD, step 1 (R170, R172, R178) -/

/-- Arguments of a CODEX_LOAD. -/
def codexSrc (ws : List Nat) : Nat := bits (ws.headD 0) 16 2
/-- UNITS. -/
def codexUnits (ws : List Nat) : Nat := bits (ws.headD 0) 32 16

/-- Unit `u` is not dealt and linked. -/
def State.unitGone (s : State) (u : Nat) : Bool :=
  u != 0 && (!s.bit CHN_STAT_PRESENT u || s.get (CHN_PORT_STAT_STATE 1) != 5)

/-- A COEF_GROUP is staged, or a route or gain change is queued or in progress on this unit (R170). -/
def State.routesBusy (s : State) : Bool :=
  s.groups.any (fun g => g.staged) || s.xps.any (fun p => p.2.phase != .steady || !p.2.queue.isEmpty)

/-- The source's slot after its classification, with the reasons noted (R167, R168). -/
def State.codexSource (s : State) (src : Nat) : Option Nat × State :=
  if src = 0 then
    let s := s.classifySlots [0, 1]
    (s.candidate, s)
  else
    let s := s.classifySlots [src - 1]
    (if s.reason (src - 1) = 0 then some (src - 1) else none, s)

/-- The checks of step 1 behind the source's classification; `low` are the satellites whose level in force is below the image's
MIN_PL for them. -/
def State.codexImage (s : State) (k units kind low : Nat) : Option Nat :=
  let dealt := setBitN (s.get CHN_STAT_PRESENT) 0
  if (bitOf units 0 ∧ s.get PWR_STAT_CUR_PL < s.imgMinPl k 0) ∨ (farUnits units).any (bitOf low) then some stNotPermitted
  else if s.imgRate k ≠ s.get CLK_DOMA_STAT_RATE ∧ (kind = 1 ∨ units &&& dealt ≠ dealt) then some stBadArg
  else none

/-- Step 1 of a CODEX_LOAD of ring `r`, `kind` 0 full, 1 one shelf, 2 verify only. Of its satellites the head learns which have a
COEF_GROUP staged or a change in their crosspoints (`busy`) and which run below the image's MIN_PL (`low`). -/
def State.codexStart (s : State) (r kind busy low : Nat) (ws : List Nat) : State :=
  let w0 := ws.headD 0
  let units := codexUnits ws
  if ¬ s.isHead then s.finish r stNotPermitted 0
  else if codexSrc ws = 3 ∨ units = 0 then s.finish r stBadArg 0
  else if s.load.isSome ∨ (bitOf units 0 ∧ s.routesBusy) ∨ (farUnits units).any (bitOf busy) then s.finish r stNoResource 0
  else if (bitList 16 units).any s.unitGone then s.finish r stLinkDown 0
  else
    let q := s.codexSource (codexSrc ws)
    match q.1 with
    | none => q.2.finish r stBadArg 0
    | some k =>
      match q.2.codexImage k units kind low with
      | some st => q.2.finish r st 0
      | none =>
        q.2.loadBegin { ring := some r, kind := kind, shelf := bits w0 19 4, slot := k, boot := false, units := units
                        edition := q.2.imgEdition k, minPl := q.2.imgMinPl k 0
                        at_ := if bitOf w0 24 then some (bits (ws.getD 1 0) 0 32) else none, phase := .teardown
                        cancel := false, own := none, startF := none, tiles := [], xps := [], rings := [] }

/-- CODEX_LOAD of ring `r` (R170). -/
def codexLoad (r busy low : Nat) (s : State) : State :=
  s.command r 0x08 (fun ws => !bitOf (ws.headD 0) 23 && !bitOf (ws.headD 0) 18) (fun _ ws s => s.codexStart r 0 busy low ws)

/-- CODEX_LOAD. -/
def execCodexLoad (r : RingIx) (busy low : Nat) (s : State) : Result := .next (codexLoad r.val busy low s)

/-- CODEX_LOAD with VERIFY (R172), whatever its SCOPE. -/
def codexLoadVerify (r busy low : Nat) (s : State) : State :=
  s.command r 0x08 (fun ws => bitOf (ws.headD 0) 23) (fun _ ws s => s.codexStart r 2 busy low ws)

/-- CODEX_LOAD_VERIFY. -/
def execCodexLoadVerify (r : RingIx) (busy low : Nat) (s : State) : Result := .next (codexLoadVerify r.val busy low s)

/-- CODEX_LOAD with SCOPE SHELF (R178). -/
def codexLoadShelf (r busy low : Nat) (s : State) : State :=
  s.command r 0x08 (fun ws => !bitOf (ws.headD 0) 23 && bitOf (ws.headD 0) 18) (fun _ ws s => s.codexStart r 1 busy low ws)

/-- CODEX_LOAD_SHELF. -/
def execCodexLoadShelf (r : RingIx) (busy low : Nat) (s : State) : Result := .next (codexLoadShelf r.val busy low s)

/-! ### Teardown and stop (R170 step 2, R178 step 4) -/

/-- The entries that wait for tiles of shelf `h` are discarded, with one PARAM_DROP for the shelf (R73, R362). -/
def State.dropParams (s : State) (h : Nat) : State :=
  let l := s.shelfQueue h ++ (List.range 64).flatMap (fun i => (s.tile (64 * h + i)).pend)
  match l with
  | [] => s
  | e :: _ =>
    let s := (s.setShelfQueue h []).paramDrop e.tile e.idx
    let s := (List.range 64).foldl (fun s i => s.setTile (64 * h + i) { s.tile (64 * h + i) with pend := [] }) s
    l.foldl (fun s e => s.paramDone e.cmd true) s

/-- COEF_GROUPs that satisfy `p` and have not flipped end without effect. -/
def State.dropGroups (s : State) (p : Group → Bool) : State :=
  let l := s.groups.filter p
  l.foldl (fun s g => s.finish g.ring stNoResource 0) { s with groups := s.groups.filter (fun g => !p g) }

/-- What the teardown boundary does (R170 step 2, R559). -/
def State.teardown (s : State) : State :=
  let s := (List.range 16).foldl State.dropParams { s with loadAll := true, portHold := true }
  let s := s.dropGroups (fun _ => true)
  let s := (List.range 1024).foldl (fun s t => s.put (FAB_TILE_STAT_STATE t) 0) s
  let s := { s with tiles := [], lanes := [], xps := [], xpEcc := [] }
  let s := ((List.range 8).foldl State.brgOff s).portsSleep
  ((s.put FAB_STAT_FAB_STATE 1).put FAB_STAT_MIN_PL 0).put SYS_BOOT_LOADED 0

/-- LOAD_TEARDOWN (R170 step 2, R173). -/
def loadTeardown (s : State) : State :=
  match s.load with
  | some l =>
    if l.kind = 0 ∧ l.phase = .teardown then
      let s := s.teardown
      if l.cancel ∧ ¬ s.isHead then s.farLoadEnd l true
      else if l.cancel then ((s.put FAB_STAT_FAB_STATE 0).lendsEnd true).loadFinish l stCancelled 0
      else s.setLoad (fun l => { l with phase := .write })
    else s
  | none => s

/-- LOAD_TEARDOWN. -/
def execLoadTeardown (s : State) : Result := .next (loadTeardown s)

/-- A COEF_GROUP touches shelf `h`. -/
def Group.touches (g : Group) (h : Nat) : Bool := g.words.any (fun w => w.1 / 64 == h)

/-- A tile of a shelf under a partial load stops at the boundary; its outputs are repeat fills from then on (R70, R178 step 4). -/
def State.shelfStopTile (s : State) (t : Nat) : State :=
  if s.tileState t = 0 ∨ s.tileState t = 3 then s
  else
    let x := s.tile t
    let s := (s.setTile t ({ x with run := none, stopReq := false, ended := true }.publish (fillCells s.tag x.com (s.tileOuts t)))).landLate t
    s.put (FAB_TILE_STAT_STATE t) 3

/-- SHELF_STOP (R178 steps 3 and 4). -/
def shelfStop (s : State) : State :=
  match s.load with
  | some l =>
    if l.kind ≠ 1 ∨ l.phase ≠ .wait ∨ s.groups.any (fun g => g.touches l.shelf) then s
    else
      let s := (List.range 64).foldl (fun s i => s.shelfStopTile (64 * l.shelf + i)) s
      let s := { s with loadShelf := some l.shelf }.dropParams l.shelf
      (s.put FAB_STAT_FAB_STATE 3).setLoad (fun l => { l with phase := .write })
  | none => s

/-- SHELF_STOP. -/
def execShelfStop (s : State) : Result := .next (shelfStop s)

/-! ### Writing and verifying (R170 steps 3 and 4, R178 steps 2, 5 and 6) -/

/-- The records this unit reads and what is wrong with their source, if anything: a status and an offset. The head checks the image's
CRC, a satellite the stream's (R159, R174). -/
def State.loadSource (s : State) (l : Load) : List Rec × Option (Nat × Nat) :=
  if s.isHead then
    let rs := if bitOf l.units 0 then s.unitRecs l.slot 0 s.identity else .ok []
    let crc := s.imgCrcOk l.slot
    match rs with
    | .ok rs => (rs, if crc then none else some (stEcc, 0))
    | .error o => ([], some (if crc then (stBadArg, o) else (stEcc, 0)))
  else
    let rs := records 32 s.lendIn.length (s.lendIn.drop 4)
    if ¬ lendOk s.lendIn then (rs.filterMap id, some (stEcc, 0))
    else if rs.any Option.isNone then ([], some (stBadArg, ((rs.filterMap id).getLast?.map (fun q => q.off + 8 * (q.body.length + 1))).getD 32))
    else (rs.filterMap id, none)

/-- The image's DOMA_RATE as this unit reads it. -/
def State.loadRate (s : State) (l : Load) : Nat := if s.isHead then s.imgRate l.slot else bits (s.lendIn.getD 1 0) 32 1

/-- A change of domain A's rate restarts the analog channels that run (R132, R229). -/
def State.setRateA (s : State) (r : Nat) : State :=
  if s.get CLK_DOMA_STAT_RATE = r then s
  else
    let s := s.put CLK_DOMA_STAT_RATE r
    let s := s.setLevel (s.get PWR_STAT_CUR_PL)
    (List.range 6).foldl (fun s n =>
      if s.get (AIN_STAT_STATE n) = 0 then s else (s.ainOff n).setAin n { Ain.reset with begin_ := true }) s

/-- The records of a full load are written and checked: the unit, with what waits for the start step, and the first failure (R164 to
R166). -/
def State.writeFull (s : State) (l : Load) (rs : List Rec) : State × Option (Nat × Nat) :=
  let s := ((s.setRateA (s.loadRate l)).defaultFrames 0 1024)
  let a := rs.foldl (LoadAcc.apply none) { st := s, tiles := [], xps := [], rings := [], clock := none, bad := none }
  match a.bad with
  | some o => (a.st, some (stBadArg, o))
  | none =>
    if ¬ a.st.tilesOk a.tiles l.minPl ∨ ¬ a.st.ringsOk a.rings then (a.st, some (stBadArg, 0))
    else match a.st.installXps a.xps with
      | none => (a.st, some (stBadArg, 0))
      | some q => (a.st.setLoad (fun l => { l with tiles := a.tiles, xps := q.xps, rings := a.rings }), none)

/-- The records of a partial load are written and checked against the shelves that run (R178 steps 2 and 5). -/
def State.writeShelf (s : State) (l : Load) (rs : List Rec) : State × Option (Nat × Nat) :=
  let h := l.shelf
  let others := (List.range 1024).filter (fun t => t / 64 != h && s.tileState t != 0)
  let s := s.defaultFrames (64 * h) 64
  let s := { s with lanes := s.lanes.filter (fun p => p.1 / 256 != h && (p.2 - 1) / 8 / 64 != h) }
  let a := rs.foldl (LoadAcc.apply (some h)) { st := s, tiles := [], xps := [], rings := [], clock := none, bad := none }
  match a.bad with
  | some o => (a.st, some (stBadArg, o))
  | none =>
    if ¬ a.st.tilesOk (a.tiles ++ others) l.minPl then (a.st, some (stBadArg, 0))
    else (a.st.setLoad (fun l => { l with tiles := a.tiles }), none)

/-- The tiles of shelf `h` that no record of the partial load sets become EMPTY as it is written (R178 step 5). -/
def State.shelfRest (s : State) (h : Nat) : State :=
  let set := match s.load with | some l => l.tiles | none => []
  (List.range 64).foldl (fun s i => if set.contains (64 * h + i) then s else s.put (FAB_TILE_STAT_STATE (64 * h + i)) 0) s

/-- The first failure in address order, or OK: this unit's, then those of its satellites (R176). -/
def State.loadStatus (s : State) (l : Load) : Nat :=
  ((farUnits l.units).foldl (fun acc u =>
    if acc ≠ stOk then acc else ((mapFind s.lends u).bind (fun d => d.status)).getD stOk) (l.own.getD stOk))

/-- Every selected satellite that is lent to has its final status. -/
def State.lendsDone (s : State) (l : Load) : Bool :=
  (farUnits l.units).all (fun u => match mapFind s.lends u with | some d => d.status.isSome | none => true)

/-- The position of unit `u`. -/
def State.unitPos (s : State) (u : Nat) : Nat := s.get (CHN_ROSTER_STAT_POS u)

/-- The reason of the slot of a load whose image the head has found whole: a unit's records may break R166 (R167). -/
def State.settledReason (s : State) (l : Load) : Nat :=
  if (farUnits l.units).any (fun u => ((mapFind s.lends u).bind (fun d => d.status)) == some stBadArg) then 7 else 0

/-- The command of the load is past its commit point: every selected unit is past step 4 (R170). -/
def State.loadCommit (s : State) (l : Load) : State :=
  match l.ring with
  | some r => s.setExec r (fun e => { e with committed := true })
  | none => s

/-- The head holds every status: a load that verifies ends, another gets its start frame (R171, R172, R343). -/
def State.loadSettle (s : State) : State :=
  match s.load with
  | some l =>
    if ¬ s.isHead ∨ l.phase ≠ .done ∨ l.startF.isSome ∨ ¬ s.lendsDone l then s
    else
    let s := (s.setReason l.slot (s.settledReason l)).loadCommit l
    if l.kind = 2 then s.loadFinish l (s.loadStatus l) 0
    else
      let p := (farUnits l.units).foldl (fun m u => if (mapFind s.lends u).isSome then max m (s.unitPos u) else m) 0
      let f := (s.frame + p + 2) % 2 ^ 32
      let f := match l.at_ with | some a => if later a f then a else f | none => f
      (s.setLoad (fun l => { l with startF := some f })).setChain (fun c => { c with loadS := some f })
  | none => s

/-- This unit has passed step 4: a satellite reports, the head waits for its satellites (R343). -/
def State.loadPassed (s : State) : State :=
  let s := s.setLoad (fun l => { l with phase := .done, own := some stOk })
  if s.isHead then s.loadSettle else s

/-- The whole source has been read: a satellite's stream is complete. -/
def State.sourceRead (s : State) : Bool := s.isHead || (decide (4 ≤ s.lendIn.length) && decide (bits (s.lendIn.getD 1 0) 0 32 ≤ 8 * s.lendIn.length))

/-- LOAD_VERIFY_END (R166, R170 step 4, R172, R178 steps 2 and 6). -/
def loadVerifyEnd (s : State) : State :=
  match s.load with
  | none => s
  | some l =>
    let src := s.loadSource l
    let own := !s.isHead || bitOf l.units 0
    if ¬ s.sourceRead then s
    else if ¬ s.isHead ∧ s.get PWR_STAT_CUR_PL < l.minPl ∧ (l.phase = .write ∨ l.phase = .scan) then s.loadFail l stNotPermitted 0
    else match l.kind, l.phase with
    | 0, .write =>
      let w := if own then s.writeFull l src.1 else (s, none)
      (match src.2, w.2 with
      | some e, _ => w.1.loadFail l e.1 e.2
      | none, some e => w.1.loadFail l e.1 e.2
      | none, none => w.1.loadPassed)
    | 1, .scan =>
      (match src.2, (if own then (s.writeShelf l src.1).2 else none) with
      | some e, _ => s.loadFail l e.1 e.2
      | none, some e => s.loadFail l e.1 e.2
      | none, none => if own then s.setLoad (fun l => { l with phase := .wait }) else s.loadPassed)
    | 1, .write =>
      let w := s.writeShelf l src.1
      (match src.2, w.2 with
      | none, none => (w.1.shelfRest l.shelf).loadPassed
      | _, _ => (w.1.shelfEmpty l.shelf).loadFail l stEcc 0)
    | 2, .scan =>
      (match src.2, (if own then (s.writeFull l src.1).2 else none) with
      | some e, _ => s.loadFail l e.1 e.2
      | none, some e => s.loadFail l e.1 e.2
      | none, none => s.loadPassed)
    | _, _ => s

/-- LOAD_VERIFY_END. -/
def execLoadVerifyEnd (s : State) : Result := .next (loadVerifyEnd s)

/-! ### The start step (R170 steps 5 and 6, R171, R178 steps 7 and 8) -/

/-- A tile with a record becomes READY with its state cleared; PTR comes from the A descriptors (R47, R82). -/
def State.tileReady (s : State) (t : Nat) : State :=
  let ptr := (List.range 4).foldl (fun m n => mapSet 0 m n (bits (s.memWord (frameAddr t (0xE48 + 8 * n))).toNat 24 8)) []
  let s := s.setTile t { Tile.reset with ptr := ptr }
  let s := (List.range 51).foldl (fun (s : State) (i : Nat) => s.initSec t i) s
  ((s.put (FAB_TILE_STAT_STATE t) 1).put (FAB_TILE_STAT_OVR_CONSEC t) 0).put (FAB_TILE_STAT_STOP_REASON t) 0

/-- The state RAM of tiles `lo` to `lo + n - 1` reads 0 (R47). -/
def State.ramZero (s : State) (lo n : Nat) : State :=
  let out := fun (a : Nat) => decide (a < ramAddr lo 0) || decide (ramAddr (lo + n) 0 ≤ a)
  { s with mem := s.mem.filter (fun c => out c.1), ecc := s.ecc.filter (fun p => out (8 * p.1)), wb := s.wb.filter (fun p => out (8 * p.1)) }

/-- A full load starts on this unit. -/
def State.startFull (s : State) (l : Load) : State :=
  let s := l.tiles.foldl State.tileReady (s.ramZero 0 1024)
  let s := { s with xps := l.xps, xpEcc := [], loadAll := false, loadMute := false, portHold := false }
  let s := l.rings.foldl (fun s p => ringCfgWrite p.1 p.2 s) s
  let s := s.portsWake
  let s := ((List.range 4).foldl State.portBoundary s).spdBoundary
  let s := (List.range 8).foldl State.brgEnable s
  let s := (s.put FAB_STAT_FAB_STATE 2).put FAB_STAT_MIN_PL l.minPl
  let s := if s.isHead then s.put SYS_BOOT_SLOT l.slot else s
  let s := ((s.put SYS_BOOT_LOADED 1).put SYS_BOOT_EDITION l.edition).put SYS_BOOT_MODIFIED 0
  (s.post 0x0423 sevInfo (pack [p32 l.edition, p16 0, p16 0, p32 s.frame])).modelCheck

/-- A partial load starts on this unit. -/
def State.startShelf (s : State) (l : Load) : State :=
  let h := l.shelf
  let s := (List.range 64).foldl (fun s i => (s.put (FAB_TILE_STAT_STATE (64 * h + i)) 0).setTile (64 * h + i) Tile.reset) s
  let s := l.tiles.foldl State.tileReady ((s.ramZero (64 * h) 64))
  let s := (({ s with loadShelf := none }.put FAB_STAT_FAB_STATE 2).put FAB_STAT_MIN_PL l.minPl).put SYS_BOOT_MODIFIED 0
  (s.post 0x0426 sevInfo (pack [p16 h, p32 l.edition])).modelCheck

/-- The head notes how its satellites fared. -/
def State.lendsLoaded (s : State) (l : Load) : State :=
  (farUnits l.units).foldl (fun s u => match mapFind s.lends u with
    | some d => s.unitLoaded l.kind u (d.status.getD stOk) l.edition
    | none => s) s

/-- The load's own part of LOAD_START. -/
def State.loadStartOwn (s : State) (l : Load) : State :=
  let own := !s.isHead || bitOf l.units 0
  let ok := l.own == some stOk
  let status := s.loadStatus l
  let s := if own && ok then (if l.kind = 1 then s.startShelf l else if l.kind = 0 then s.startFull l else s) else s
  if ¬ s.isHead then
    let s := if ok && l.kind == 0 then s.put SYS_STAT_BOOT_STATE 4 else s
    { s.loadClear with lendIn := [] }
  else
    let s := if own then s.unitLoaded l.kind 0 stOk l.edition else s
    let s := s.lendsLoaded l
    let units := maskOf 16 (fun u => bitOf l.units u && s.on (SYS_UNIT_STAT_LOADED u) && (u == 0 || (mapFind s.lends u).isSome))
    if l.boot then s.loadClear.bootDone 4 units else s.loadFinish l status s.frame

/-- Lends without a command whose start frame has come (R177). -/
def State.autoStarts (s : State) : State :=
  s.lends.foldl (fun s p =>
    match p.2.auto, p.2.startF with
    | true, some f =>
      if later f s.frame then s else { s.unitLoaded 0 p.1 stOk p.2.edition with lends := mapErase s.lends p.1 }
    | _, _ => s) s

/-- LOAD_START: the start frame has come (R171). -/
def loadStart (s : State) : State :=
  let s := s.autoStarts
  match s.load with
  | some l => match l.startF with
    | some f => if l.phase = .done ∧ ¬ later f s.frame then (s.loadStartOwn l).setChain (fun c => { c with loadS := none }) else s
    | none => s
  | none => s

/-- LOAD_START. -/
def execLoadStart (s : State) : Result := .next (loadStart s)

/-! ### A satellite's side of a lend (R342, R343) -/

/-- A satellite receives its start frame (R171, R343); one whose load failed waits no more. -/
def State.loadFromHead (s : State) (f : Nat) : State :=
  match s.load with
  | some l =>
    if l.phase ≠ .done ∨ s.isHead then s
    else if l.own = some stOk ∧ l.kind ≠ 2 then s.setLoad (fun l => { l with startF := some f })
    else { s.loadClear with lendIn := [] }
  | none => s

/-- The kind code and shelf of a scope. -/
def scopeKind : LendScope → Nat × Nat
  | .full => (0, 0)
  | .shelf h => (1, h.val)
  | .verify => (2, 0)

/-- The first chunk of a stream begins a load on a satellite, or a stream that failed begins again (R176). -/
def State.lendFirst (s : State) (ws : List Nat) (scope : LendScope) : State :=
  let k := scopeKind scope
  let ed := bits (ws.headD 0) 32 32
  let pl := bits (ws.getD 1 0) 34 2
  let l : Load := { ring := none, kind := k.1, shelf := k.2, slot := 0, boot := false, units := 1, edition := ed, minPl := pl
                    at_ := none, phase := if k.1 = 0 then .teardown else .scan, cancel := false, own := none, startF := none
                    tiles := [], xps := [], rings := [] }
  let s := { s with lendIn := ws, loadMin := if k.1 = 2 then 0 else pl }
  match s.load with
  | some o =>
    if o.kind = 0 ∧ k.1 = 0 then
      s.setLoad (fun o => { l with phase := if o.phase = .teardown then .teardown else .write })
    else { s with load := some l, loadMute := s.loadMute || k.1 == 0 }
  | none => { s with load := some l, loadMute := s.loadMute || k.1 == 0 }

/-- Words held in a relay buffer. -/
def State.relayFill (s : State) : Nat := (s.lendRelay.map (fun p => p.2.length)).sum

/-- A chunk for another unit joins the relay buffer of 4,096 words; above half full its streams are paused (R342, R343). -/
def State.lendRelayIn (s : State) (hdr : Nat) (ws : List Nat) : State :=
  if 4096 < s.relayFill + ws.length then s
  else
    let s := { s with lendRelay := s.lendRelay ++ [(hdr, ws)] }
    if s.relayFill ≤ 2048 then s
    else
      (s.lendRelay.map (fun p => bits p.1 0 4)).foldl (fun s u =>
        if s.lendHeld.contains u then s else { s with lendHeld := s.lendHeld ++ [u], lendMsgs := s.lendMsgs ++ [.pause u] }) s

/-- LEND_CHUNK (R342, R343); a unit that is not dealt carries no lend (R328), and a chunk that came before is not taken again; a chunk without words tells a satellite that the load of its lend has ended, FIRST that it was cancelled. -/
def lendChunk (hdr : Nat) (ws : List Nat) (scope : LendScope) (s : State) : State :=
  let ws := ws.take (bits hdr 8 8)
  if s.isHead ∨ ¬ s.on CHN_STAT_ADDR_VALID then s
  else if bits hdr 0 4 ≠ s.ownAddr then s.lendRelayIn hdr ws
  else if ws = [] then s.farLoadStop (bitOf hdr 4)
  else if bitOf hdr 4 ∧ bits hdr 16 24 = 0 then s.lendFirst ws scope
  else if s.load.isSome ∧ bits hdr 16 24 = s.lendIn.length then { s with lendIn := s.lendIn ++ ws }
  else if s.lendIn.length < bits hdr 16 24 then { s with lendMsgs := s.lendMsgs ++ [.nak s.lendIn.length] }
  else s

/-- LEND_CHUNK. -/
def execLendChunk (hdr : Nat) (ws : List Nat) (scope : LendScope) (s : State) : Result := .next (lendChunk hdr ws scope s)

/-! ### The head's side (R176, R177, R343) -/

/-- LEND_NAK. -/
def lendNak (u offset : Nat) (s : State) : State := s.setLend u (fun l => if l.status.isNone then { l with pos := offset } else l)

/-- LEND_NAK. -/
def execLendNak (u : UnitIx) (offset : Nat) (s : State) : Result := .next (lendNak u.val offset s)

/-- LEND_PAUSE. -/
def lendPause (u : Nat) (s : State) : State := s.setLend u (fun l => { l with paused := true })

/-- LEND_PAUSE. -/
def execLendPause (u : UnitIx) (s : State) : Result := .next (lendPause u.val s)

/-- LEND_RESUME. -/
def lendResume (u : Nat) (s : State) : State := s.setLend u (fun l => { l with paused := false })

/-- LEND_RESUME. -/
def execLendResume (u : UnitIx) (s : State) : Result := .next (lendResume u.val s)

/-- A lend has its final status: a load goes on, a lend without a command gets its own start frame (R171, R176, R177). -/
def State.lendSettled (s : State) (u status : Nat) : State :=
  let s := s.setLend u (fun l => { l with status := some status })
  match mapFind s.lends u with
  | none => s
  | some l =>
    if ¬ l.auto then s.loadSettle
    else if status = stOk then
      let f := (s.frame + s.unitPos u + 2) % 2 ^ 32
      (s.setLend u (fun l => { l with startF := some f })).setChain (fun c => { c with loadS := some f })
    else { s.unitLoaded 0 u status l.edition with lends := mapErase s.lends u }

/-- A lend has failed for good; a load that verifies reports it in its completion alone (R172). -/
def State.lendFailed (s : State) (l : Lend) (u reason : Nat) : State := if !l.auto && s.verifying then s else s.lendFail u reason

/-- LEND_DONE (R176, R343): a stream whose CRC failed is sent again, and fails for good the third time. -/
def lendDone (u status : Nat) (s : State) : State :=
  match mapFind s.lends u with
  | none => s
  | some l =>
    if l.status.isSome ∨ l.pos < l.stream.length ∨ ¬ stDefined status then s
    else if status = stEcc then
      if 2 ≤ l.fails then (s.lendFailed l u 1).lendSettled u stEcc
      else s.setLend u (fun l => { l with fails := l.fails + 1, pos := 0 })
    else s.lendSettled u status

/-- LEND_DONE. -/
def execLendDone (u : UnitIx) (status : Nat) (s : State) : Result := .next (lendDone u.val status s)

/-- The unit's lend loses its link for good (R176). -/
def State.lendLost (s : State) (u : Nat) : State :=
  match mapFind s.lends u with
  | some l => if l.status.isSome then s else (s.lendFailed l u 0).lendSettled u stLinkDown
  | none => s

/-- AUTO_LEND (R177): the edition in force goes to a unit that is dealt and linked. -/
def autoLend (u : Nat) (s : State) : State :=
  if s.isHead && s.on SYS_BOOT_LOADED && u != 0 && !s.unitGone u && (mapFind s.lends u).isNone then
    s.lendBegin (s.get SYS_BOOT_SLOT) true u
  else s

/-- AUTO_LEND. -/
def execAutoLend (u : UnitIx) (s : State) : Result := .next (autoLend u.val s)

/-! ### Slot commands (R179, R180) -/

/-- Slot `k` is the one the codex in force was loaded from. -/
def State.slotInForce (s : State) (k : Nat) : Bool := s.on SYS_BOOT_LOADED && s.get SYS_BOOT_SLOT == k

/-- A load reads slot `k`, for the head or for a stream, repeated ones included (R176, R179). -/
def State.slotRead (s : State) (k : Nat) : Bool :=
  let streams := fun (auto : Bool) => s.lends.any (fun p => p.2.auto == auto && p.2.status.isNone)
  (match s.load with | some l => l.slot == k && (l.phase != .done || streams false) | none => false) ||
  (s.get SYS_BOOT_SLOT == k && streams true)

/-- Free bytes are combined into the flash from `a` on, `n` of them: `f old free` (R179). -/
def State.flashFree (s : State) (f : Byte → Byte → Byte) (a : Nat) : Nat → State
  | 0 => s
  | n + 1 =>
    let w := s.free
    ({ w.2 with flash := mapSet 0xFF w.2.flash a (f (mapGet 0xFF w.2.flash a) (w.1.setWidth 8)) }).flashFree f (a + 1) n

/-- The refusals that the slot commands share: a satellite has no flash (R4, R363); `guard` for those that may not touch the slot in
force (R179). -/
def State.slotStop (s : State) (k : Nat) (guard : Bool) : Option Nat :=
  if ¬ s.isHead then some stNotPermitted
  else if guard ∧ s.slotInForce k then some stNotPermitted
  else if s.slotRead k then some stNoResource
  else none

/-- SLOT_ERASE (R179): after `busy` blocks the flash stays busy, and the block in hand holds what it holds. -/
def slotErase (r : Nat) (busy : Option Nat) (s : State) : State :=
  s.command r 0x0B (fun _ => true) (fun _ ws s =>
    let k := bits (ws.headD 0) 16 1
    match s.slotStop k true with
    | some st => s.finish r st 0
    | none => match busy with
      | some n =>
        if n < 64 then
          ((s.flashErase (k * slotBytes) (0x10000 * n)).flashFree (fun o f => o ||| f) (k * slotBytes + 0x10000 * n) 0x10000).finish r stTimeout 0
        else (s.flashErase (k * slotBytes) slotBytes).finish r stOk 0
      | none => (s.flashErase (k * slotBytes) slotBytes).finish r stOk 0)

/-- SLOT_ERASE. -/
def execSlotErase (r : RingIx) (busy : Option Nat) (s : State) : Result := .next (slotErase r.val busy s)

/-- The bytes that a SLOT_WRITE programs, with their flash addresses: never those of the commit word (R179). -/
def slotWriteBytes (k off : Nat) (l : List Nat) : List (Nat × Nat) :=
  ((l.flatMap (leBytes 8)).zipIdx.map (fun p => (off + p.2, p.1))).filter (fun p => decide (p.1 < 8) || decide (16 ≤ p.1))
    |>.map (fun p => (k * slotBytes + p.1, p.2))

/-- A program pulse on a page that stays busy clears some of the bits it was to clear (R179). -/
def State.flashStuck (s : State) (a v : Nat) : State :=
  let w := s.free
  { w.2 with flash := mapSet 0xFF w.2.flash a (mapGet 0xFF w.2.flash a &&& (BitVec.ofNat 8 v ||| w.1.setWidth 8)) }

/-- SLOT_WRITE (R179): page `busy` of the command, counted from its first, stays busy. -/
def slotWrite (r : Nat) (busy : Option Nat) (s : State) : State :=
  s.command r 0x0C (fun _ => true) (fun _ ws s =>
    let w0 := ws.headD 0
    let k := bits w0 16 1
    let n := bits w0 17 13
    let a := bits w0 36 17
    let off := bits (ws.getD 1 0) 0 22
    if n = 0 ∨ 4096 < n ∨ off % 8 ≠ 0 ∨ slotBytes < off + 8 * n ∨ 0x20000 < a + n then s.finish r stBadArg 0
    else match s.slotStop k true with
      | some st => s.finish r st 0
      | none =>
        let q := s.read6s a n
        if q.1.2 then q.2.finish r stEcc 0
        else
          let l := slotWriteBytes k off q.1.1
          let page := fun (p : Nat × Nat) => p.1 / 256 - (k * slotBytes + off) / 256
          match busy with
          | some m =>
            if m ≤ (off + 8 * n - 1) / 256 - off / 256 then
              let s := (l.filter (fun p => decide (page p < m))).foldl (fun s p => s.flashProgram p.1 p.2) q.2
              ((l.filter (fun p => page p == m)).foldl (fun s p => s.flashStuck p.1 p.2) s).finish r stTimeout 0
            else (l.foldl (fun s p => s.flashProgram p.1 p.2) q.2).finish r stOk n
          | none => (l.foldl (fun s p => s.flashProgram p.1 p.2) q.2).finish r stOk n)

/-- SLOT_WRITE. -/
def execSlotWrite (r : RingIx) (busy : Option Nat) (s : State) : Result := .next (slotWrite r.val busy s)

/-- The commit word of slot `k` is programmed (R158). -/
def State.commit (s : State) (k v : Nat) (busy : Bool) : State :=
  (leBytes 8 v).zipIdx.foldl (fun s p => (if busy then s.flashStuck else s.flashProgram) (k * slotBytes + 8 + p.2) p.1) s

/-- SLOT_COMMIT with REVOKE 0 (R158, R179). -/
def slotCommit (r : Nat) (busy : Bool) (s : State) : State :=
  s.command r 0x0D (fun ws => !bitOf (ws.headD 0) 17) (fun _ ws s =>
    let k := bits (ws.headD 0) 16 1
    match s.slotStop k true with
    | some st => s.finish r st 0
    | none =>
      if ¬ s.headerOk k then s.finish r stBadArg 0
      else if ¬ s.imgCrcOk k then s.finish r stEcc 0
      else (s.commit k (commitWord (s.imgEdition k)) busy).finish r (if busy then stTimeout else stOk) 0)

/-- SLOT_COMMIT. -/
def execSlotCommit (r : RingIx) (busy : Bool) (s : State) : Result := .next (slotCommit r.val busy s)

/-- SLOT_COMMIT with REVOKE 1 (R158, R179). -/
def slotRevoke (r : Nat) (busy : Bool) (s : State) : State :=
  s.command r 0x0D (fun ws => bitOf (ws.headD 0) 17) (fun _ ws s =>
    let k := bits (ws.headD 0) 16 1
    match s.slotStop k false with
    | some st => s.finish r st 0
    | none => (s.commit k 0 busy).finish r (if busy then stTimeout else stOk) 0)

/-- SLOT_REVOKE. -/
def execSlotRevoke (r : RingIx) (busy : Bool) (s : State) : Result := .next (slotRevoke r.val busy s)

end Sys2Proof.Machine
end

