-- ==== Sys2Proof/Machine/Link.lean ====
section
/-! DEFINITION. Chain links, the deal, attach and detach, and the sending side of tunnel access (chapter The Reninait Chain). -/

namespace Sys2Proof.Machine

/-- State of chain port `p`: 0 OFF, 1 DETECT, 2 TRAIN, 3 ECHO, 4 LOCK, 5 UP, 6 RETRAIN (R347). -/
def State.linkState (s : State) (p : Nat) : Nat := s.get (CHN_PORT_STAT_STATE p)

/-! ### Training (R321) -/

/-- LINK_DETECT (R321 step 1, R445): a port in DETECT trains; one in RETRAIN without signal goes on with step 2 (R322). In sleep
the signal is a wake source. The head's upstream port takes no part (R312). -/
def linkDetect (p : Nat) (s : State) : State :=
  if s.isHead ∧ p = 0 then s
  else
    let s := if s.on PWR_WAKE_EN_CHAIN then s.wakeBy 6 else s
    if ¬ s.awake then s
    else if s.linkState p = 1 then (s.put (CHN_PORT_STAT_SIGNAL p) 1).put (CHN_PORT_STAT_STATE p) 2
    else if s.linkState p = 6 then s.put (CHN_PORT_STAT_SIGNAL p) 1
    else s

/-- LINK_DETECT. -/
def execLinkDetect (p : TwoIx) (s : State) : Result := .next (linkDetect p.val s)

/-- A deal is asked for; it starts in the next frame (R327). -/
def State.dealStart (s : State) (force : Bool) : State := if s.isHead then s.setChain (fun c => { c with dealReq := some force }) else s

/-- The head learns of a unit without an address beyond unit `u` (R330). -/
def State.attach (s : State) (u : Nat) : State :=
  let s := (s.put CHN_SUM_ATTACH 1).post 0x0D03 sevInfo (pack [p16 u])
  if s.on CHN_CTL_AUTO_DEAL then s.dealStart false else s

/-- Every unacknowledged unit of partner `k` is sent again, oldest first (R335, R336). -/
def State.resend (s : State) (k : Nat) : State :=
  s.setChain (fun c => { c with outbox := c.outbox ++ mapGet [] c.replay k, ackFrame := mapSet 0 c.ackFrame k s.frame })

/-- After a retrain each sender resends; the head posts CHN_REPLAY (R336). -/
def State.replayAll (s : State) : State :=
  (List.range 16).foldl (fun s k =>
    let n := (mapGet [] s.chain.replay k).length
    if n = 0 then s
    else if s.isHead then (s.resend k).post 0x0D0C sevInfo (pack [p16 k, p32 n])
    else s.resend k) s

/-- Nanoseconds of a quarter frame. -/
def State.quarterNs (s : State) : Nat := if s.rate96 then 2604 else 5208

/-- A satellite's domain A follows its upstream link (R324, R326): the first lock takes the head's frame number; after HOLDOVER
it slews, or lengthens its frame and takes the head's frame number. Domain C, where it is FREE or the marked frames have moved,
slews to them (R139, R140). -/
def State.domaAlign (s : State) (k : LinkInfo) : State :=
  if s.get CLK_DOMA_STAT_STATE = 1 then ({ s with frame := k.headFrame % 2 ^ 32 }.put CLK_DOMA_STAT_STATE 0).domcSlew
  else if s.get CLK_DOMA_STAT_STATE = 2 then
    let slew := decide (k.offset.natAbs ≤ s.quarterNs) && k.headFrame % 2 ^ 32 == s.frame
    let s := if slew then (if s.get CLK_DOMC_STAT_STATE = 1 then s.domcSlew else s) else { s with frame := k.headFrame % 2 ^ 32 }.domcSlew
    ((s.put CLK_DOMA_STAT_STATE 0).put CHN_SUM_REALIGN 1).post 0x0D08 sevWarn (pack [p16 (b2n !slew), p32i k.offset])
  else s

/-- A satellite's upstream port is UP. -/
def State.upstreamUp (s : State) (k : LinkInfo) : State :=
  ((s.put CHN_STAT_POS (k.pos + 1)).domaAlign k).setChain (fun c => { c with wasUp := true })

/-- The downstream port is UP (R327, R330): on the head the first one since a reset starts a deal; a unit without an address beyond
it is reported. -/
def State.downstreamUp (s : State) (k : LinkInfo) : State :=
  if s.isHead then
    let s := if s.chain.wasUp then s else s.dealStart false
    let s := s.setChain (fun c => { c with wasUp := true })
    if k.addrValid then s else s.attach 0
  else if ¬ k.addrValid ∧ s.on CHN_STAT_ADDR_VALID then
    s.txUnit { hdr := tunHdr s.ownAddr 0xA 0 0 0 0 0, data := [0] }
  else s

/-- CHN_LINK_UP (R321 steps 4 to 6, R326, R330, R336). A delay above 625 bit times, 1 µs, is refused. -/
def chnLinkUp (p : Nat) (k : LinkInfo) (s : State) : State :=
  if ¬ (s.linkState p = 2 ∨ s.linkState p = 4 ∨ s.linkState p = 6) ∨ ¬ s.on (CHN_PORT_STAT_SIGNAL p) then s
  else
    let s := s.put (CHN_PORT_STAT_DELAY p) k.delay
    if 625 < k.delay then
      (((s.put (CHN_PORT_STAT_STATE p) 3).put CHN_SUM_DELAY_RANGE 1).setChain (fun c => { c with rangeAt := mapInsert c.rangeAt p s.frame })).post
        0x0D09 sevFault (pack [p16 p, p16 k.delay])
    else
      let again := (mapFind s.chain.downAt p).isSome
      let s := (s.put (CHN_PORT_STAT_STATE p) 5).setChain (fun c => { c with
        crcBad := mapErase c.crcBad p, missing := mapErase c.missing p, downAt := mapErase c.downAt p })
      let s := if p = 0 then s.upstreamUp k else s.downstreamUp k
      let s := s.post 0x0D01 sevInfo (pack [p16 p, p16 k.delay])
      if again ∧ p = b2n s.isHead then s.replayAll else s

/-- CHN_LINK_UP. -/
def execChnLinkUp (p : TwoIx) (k : LinkInfo) (s : State) : Result := .next (chnLinkUp p.val k s)

/-- Port `p` leaves UP (R133, R320, R322, R331). -/
def State.leaveUp (s : State) (p cause : Nat) : State :=
  let s := (s.put (CHN_PORT_STAT_STATE p) 6).put (CHN_PORT_STAT_SIGNAL p) (b2n (cause != 0))
  let s := ((s.bump (CHN_PORT_CNT_RETRAINS p)).setBit CHN_SUM_LINK_DOWN p).linkQuiet p
  let s := s.setChain (fun c => { c with crcBad := mapErase c.crcBad p, missing := mapErase c.missing p
                                         downAt := mapInsert c.downAt p (s.frame + 1) })
  let s := s.post 0x0D02 sevWarn (pack [p16 p, p16 cause])
  if p = 0 then s.domaHold else s

/-- Failures among the last 64 control fields of port `p`. -/
def State.crcFails (s : State) (p : Nat) : Nat := ((mapGet [] s.chain.crcBad p).filter id).length

/-- CHN_LINK_DOWN (R322): causes 1 and 2 need their count of missing frames or CRC failures. -/
def chnLinkDown (p cause : Nat) (s : State) : State :=
  let holds := cause == 0 || (cause == 1 && decide (2 ≤ mapGet 0 s.chain.missing p)) || (cause == 2 && decide (8 ≤ s.crcFails p))
  if s.linkState p = 5 ∧ holds then s.leaveUp p cause else s

/-- CHN_LINK_DOWN. -/
def execChnLinkDown (p : TwoIx) (cause : Nat) (s : State) : Result := .next (chnLinkDown p.val cause s)

/-- A host retrain of port `p` (R322). -/
def State.retrain (s : State) (p : Nat) : State := if s.linkState p = 5 then s.leaveUp p 3 else s

/-- RETRAIN_UP (R322). -/
def retrainUp (s : State) : State := s.retrain 0

/-- RETRAIN_UP. -/
def execRetrainUp (s : State) : Result := .next (retrainUp s)

/-- RETRAIN_DN (R322). -/
def retrainDn (s : State) : State := s.retrain 1

/-- RETRAIN_DN. -/
def execRetrainDn (s : State) : Result := .next (retrainDn s)

/-- A link whose hop is too long returns to step 1 after 100 ms (R321 step 4). -/
def State.rangeBack (s : State) (p : Nat) : State :=
  match mapFind s.chain.rangeAt p with
  | some f =>
    if s.frameAgo f < s.framesOfMs 100 then s
    else
      let s := s.setChain (fun c => { c with rangeAt := mapErase c.rangeAt p })
      if s.linkState p = 3 then s.put (CHN_PORT_STAT_STATE p) 1 else s
  | none => s

/-- TRAINING_TIMEOUT (R321); a link that waits out a hop that is too long is in no step. -/
def trainingTimeout (p : Nat) (s : State) : State :=
  if s.linkState p = 2 ∨ s.linkState p = 4 ∨ s.linkState p = 6 then
    (s.put (CHN_PORT_STAT_STATE p) 1).post 0x0D02 sevWarn (pack [p16 p, p16 4])
  else s

/-- TRAINING_TIMEOUT. -/
def execTrainingTimeout (p : TwoIx) (s : State) : Result := .next (trainingTimeout p.val s)

/-! ### The deal (R327 to R329) -/

/-- DEAL (R327): it acts on the head. -/
def deal (force : Bool) (s : State) : State := s.dealStart force

/-- DEAL. -/
def execDeal (force : Bool) (s : State) : Result := .next (deal force s)

/-- Step 1 of a deal, at a frame boundary (R327). -/
def State.dealBegin (s : State) : State :=
  match s.chain.dealReq with
  | some force =>
    (s.put CHN_STAT_DEAL_STATE 1).setChain (fun c => { c with
      dealReq := none, dealing := true, dealForce := force, dealFrame := s.frame, dealSeq := (c.dealSeq + 1) % 8, rsps := [] })
  | none => s

/-- DEAL_RSP (R327, R334): one of its two units reaches the head during the deal it answers. -/
def State.dealAnswer (s : State) (u : TunUnit) : State :=
  let a := tunAddr u.hdr
  if ¬ s.isHead ∨ ¬ s.chain.dealing ∨ bits a 9 3 ≠ s.chain.dealSeq ∨ a % 16 = 0 ∨ 2 ≤ tunWord u.hdr then s
  else
    let old := mapGet { pos := 0, tail := false, idLo := 0, idHi := 0, got := 0 } s.chain.rsps (a % 16)
    let v := u.data.headD 0 % 2 ^ 64
    let new : DealRsp := { pos := bits a 4 4, tail := bitOf a 8, idLo := if tunWord u.hdr = 0 then v else old.idLo
                           idHi := if tunWord u.hdr = 1 then v else old.idHi, got := setBitN old.got (tunWord u.hdr) }
    s.setChain (fun c => { c with rsps := mapInsert c.rsps (a % 16) new })

/-- The roster entry of address `a` takes a deal's answer (R329). `kept`: the unit kept an earlier address (R328). -/
def State.rosterPut (s : State) (a : Nat) (r : DealRsp) (kept : Bool) : State :=
  let moved := s.on (CHN_ROSTER_STAT_EVER a) && (s.rosterId a != r.idLo + 2 ^ 64 * r.idHi || s.get (CHN_ROSTER_STAT_POS a) != r.pos)
  let old := s.get (CHN_ROSTER_STAT_POS a)
  let s := (s.put (CHN_ROSTER_ID0_ID_LO a) r.idLo).put (CHN_ROSTER_ID1_ID_HI a) r.idHi
  let s := ((s.put (CHN_ROSTER_STAT_POS a) r.pos).put (CHN_ROSTER_STAT_EVER a) 1).put (CHN_ROSTER_STAT_STICKY a) (b2n kept)
  if moved then
    ((s.put (CHN_ROSTER_STAT_CHANGED a) 1).put CHN_SUM_ROSTER_CHG 1).post 0x0D07 sevWarn (pack [p16 a, p16 old, p16 r.pos])
  else s

/-- The address of the unit at position `p` among the answers, the head at 0. -/
def addrAt (l : SMap DealRsp) (p : Nat) : Nat := ((l.find? (fun x => x.2.pos == p)).map (fun x => x.1)).getD 0

/-- A unit behind address 15 was not dealt (R328). -/
def State.dealFull (s : State) (l : SMap DealRsp) : State :=
  match mapFind l 15 with
  | some r => if r.tail then s else (s.put CHN_SUM_DEAL_FULL 1).post 0x0D06 sevFault (pack [p16 (r.pos + 1)])
  | none => s

/-- Step 4 of a deal (R327, R329): the roster, PRESENT and HIGHEST. -/
def State.dealEnd (s : State) : State :=
  let l := s.chain.rsps.filter (fun x => x.2.got == 3)
  let s := l.foldl (fun s x => s.rosterPut x.1 x.2 (x.1 != addrAt l (x.2.pos - 1) + 1)) s
  let present := maskOf 16 (fun u => (mapFind l u).isSome)
  let s := (List.range 16).foldl (fun s u => s.put (CHN_ROSTER_STAT_PRESENT u) (b2n (bitOf present u))) s
  let high := (l.getLast?.map (fun x => x.1)).getD 0
  let s := ((s.put CHN_STAT_PRESENT present).put CHN_STAT_HIGHEST high).put CHN_STAT_DEAL_STATE 2
  let s := s.setChain (fun c => { c with dealing := false, rsps := [], lastRpt := [] })
  let s := (s.put CHN_SUM_DEAL_DONE 1).post 0x0D05 sevInfo (pack [p16 high, p16 present])
  s.dealFull l

/-- CHN_DEAL_DONE (R327 step 4): the tail has answered, or 34 frames have passed. -/
def chnDealDone (s : State) : State :=
  if s.isHead ∧ s.chain.dealing ∧
      (s.chain.rsps.any (fun x => x.2.tail && x.2.got == 3) ∨ 34 ≤ s.frameAgo s.chain.dealFrame) then s.dealEnd
  else s

/-- CHN_DEAL_DONE. -/
def execChnDealDone (s : State) : Result := .next (chnDealDone s)

/-! ### Detach (R331) -/

/-- The head drops the units beyond unit `r` (R331, R338, R176). -/
def State.detach (s : State) (r : Nat) : State :=
  let p := if r = 0 then 0 else s.unitPos r
  let l := (List.range 16).filter (fun u => s.bit CHN_STAT_PRESENT u && decide (p < s.unitPos u))
  let mask := maskOf 16 (fun u => l.contains u)
  let s := l.foldl (fun s u => (s.clrBit CHN_STAT_PRESENT u).put (CHN_ROSTER_STAT_PRESENT u) 0) s
  let s := (s.put CHN_SUM_DETACH 1).post 0x0D04 sevFault (pack [p16 r, p16 mask])
  l.foldl (fun s u => ((s.dropUnit u).2).lendLost u) s

/-- DETACH_TIMEOUT (R331): the downstream port, the upstream end of its link, was not back UP in time. A satellite whose upstream port
was not back UP takes the lend that it was receiving as lost (R176). -/
def detachTimeout (p : Nat) (s : State) : State :=
  match mapFind s.chain.downAt p with
  | some f =>
    if ¬ s.awake ∨ s.linkState p = 5 ∨ s.frameAgo (f - 1) < s.framesOfMs (10 * max 1 (s.get CHN_CTL_DETACH_T)) then s
    else if p = 0 then s.farLoadStop false
    else
      let s := s.setChain (fun c => { c with downAt := mapErase c.downAt p })
      if s.isHead then s.detach 0
      else if s.on CHN_STAT_ADDR_VALID then s.txUnit { hdr := tunHdr s.ownAddr 0xA 0 0 0 0 0, data := [1] }
      else s
  | none => s

/-- DETACH_TIMEOUT. -/
def execDetachTimeout (p : TwoIx) (s : State) : Result := .next (detachTimeout p.val s)

/-! ### Register access through the tunnel (R339) -/

/-- CHN_TUN_GO (R339): one access at a time. -/
def chnTunGo (s : State) : State :=
  let u := s.get CHN_TUN_ADDR_UNIT
  let a := s.get CHN_TUN_ADDR_ADDR
  if ¬ s.isHead then s.put CHN_TUN_STAT_STATUS stNotPermitted
  else if s.on CHN_TUN_STAT_BUSY then s
  else if u = 0 ∨ ¬ s.bit CHN_STAT_PRESENT u then s.put CHN_TUN_STAT_STATUS stBadArg
  else
    let seq := (mapGet 0 s.chain.txSeq u + (mapGet [] s.chain.sendq u).length) % 65536
    let wr := s.on CHN_TUN_ADDR_OP
    let s := (s.put CHN_TUN_STAT_BUSY 1).put CHN_TUN_STAT_SEQ seq
    let s := s.setChain (fun c => { c with access := some (u, seq, b2n !wr, s.frame) })
    s.txUnit { hdr := tunHdr u (if wr then 1 else 2) a 0 0 0 0, data := [if wr then s.get CHN_TUN_WDATA_DATA else 0] }

/-- CHN_TUN_GO. -/
def execChnTunGo (s : State) : Result := .next (chnTunGo s)

/-- CHN_TUN_TIMEOUT (R339): the unit stays in the replay buffer. -/
def chnTunTimeout (s : State) : State :=
  match s.chain.access with
  | some (u, seq, _, f) =>
    if s.framesOfMs (max 1 (s.get CHN_CTL_TUN_TO)) ≤ s.frameAgo f then
      (s.accessEnd stTimeout).post 0x0D0B sevWarn (pack [p16 u, p16 seq])
    else s
  | none => s

/-- CHN_TUN_TIMEOUT. -/
def execChnTunTimeout (s : State) : Result := .next (chnTunTimeout s)

/-- TUNNEL_RESEND (R335): no ACK advance within 2p + 8 frames, p the satellite's position. -/
def tunnelResend (v : Nat) (s : State) : State :=
  let k := s.tunKey v
  let p := if s.isHead then s.unitPos v else s.get CHN_STAT_POS
  if (mapGet [] s.chain.replay k).isEmpty ∨ s.frameAgo (mapGet 0 s.chain.ackFrame k) < 2 * p + 8 then s
  else s.resend k

/-- TUNNEL_RESEND. -/
def execTunnelResend (v : UnitIx) (s : State) : Result := .next (tunnelResend v.val s)

/-- A write of CHN_CMD: each bit that is 1 acts, lowest first. -/
def chnCmdWrite (v : Nat) (s : State) : State :=
  let s := if bitOf v 0 then deal (bitOf v 1) s else s
  let s := if bitOf v 2 then retrainUp s else s
  if bitOf v 3 then retrainDn s else s

end Sys2Proof.Machine
end

