-- ==== Sys2Proof/Machine/Host.lean ====
section
/-! DEFINITION. The address space as the host bus and the tunnel see it: register writes and reads, memory windows, and the host
bus commands (chapters Address Space Index and Two-Wire Host and Auxiliary Buses). -/

namespace Sys2Proof.Machine

/-! ### Register writes -/

/-- A write in the SYS page. -/
def State.sysPageWrite (s : State) (o v : Nat) : State :=
  if o = 0x038 then sysLock v s
  else if o = 0x040 then sysReset v s
  else if o = 0x048 then foldNow v s
  else s.plainWrite (0xE00000 + o) v

/-- A write in the PWR page. -/
def State.pwrPageWrite (s : State) (o v : Nat) : State :=
  if o = 0x008 then pwrPlWrite v s
  else if o = 0x038 then (if bitOf v 0 then Machine.wake s else s)
  else s.plainWrite (0xE01000 + o) v

/-- A write in the CLK page. -/
def State.clkPageWrite (s : State) (o v : Nat) : State :=
  if o = 0x008 then clkDombCfgWrite v s else s.plainWrite (0xE02000 + o) v

/-- A write of RING_RESUME (R373): MODE 3 names no way to resume. -/
def resumeWrite (v : Nat) (s : State) : State :=
  match bits v 8 2 with
  | 0 => skip (v % 64) s
  | 1 => retry (v % 64) s
  | 2 => flush (v % 64) s
  | _ => s

/-- A write in the RING page. -/
def State.ringPageWrite (s : State) (o v : Nat) : State :=
  if o = 0x800 then resumeWrite v s
  else if o < 0x800 ∧ o % 0x20 = 0x00 then ringCfgWrite (o / 0x20) v s
  else if o < 0x800 ∧ o % 0x20 = 0x08 then ringHeadWrite (o / 0x20) v s
  else if o < 0x800 ∧ o % 0x20 = 0x10 then ringTailWrite (o / 0x20) v s
  else s.plainWrite (0xE03000 + o) v

/-- A write of FAB_TILE_CMD on the selected tile (R70): STOP and RESTART together do nothing. -/
def tileCmdWrite (v : Nat) (s : State) : State :=
  let t := s.get FAB_TILE_SEL_TILE
  match v % 4 with
  | 1 => stopCmd t s
  | 2 => restartCmd t s
  | _ => s

/-- A write in the FAB page. -/
def State.fabPageWrite (s : State) (o v : Nat) : State :=
  if o = 0x040 then tileCmdWrite v s
  else if o = 0x050 then fabParamWr v s
  else s.plainWrite (0xE04000 + o) v

/-- A write in the CHN page. -/
def State.chnPageWrite (s : State) (o v : Nat) : State :=
  if o = 0x010 then chnCmdWrite v s
  else if o = 0x070 then (if bitOf v 0 then chnTunGo s else s)
  else s.plainWrite (0xE0D000 + o) v

/-- A write in the MEM page; bits 6 and 7 of RET_EN read 1 and ignore writes (R416). -/
def State.memPageWrite (s : State) (o v : Nat) : State :=
  if o = 0x008 then s.put MEM_RET_CFG_RET_EN (v % 64 + 0xC0) else s.plainWrite (0xE0F000 + o) v

/-- A write in the BRG page. -/
def State.brgPageWrite (s : State) (o v : Nat) : State :=
  if o < 0x100 ∧ o % 0x20 = 0 then brgCfgWrite (o / 0x20) v s else s.plainWrite (0xE12000 + o) v

/-- A write of KEEP_CMD: each bit that is 1 acts, RELEASE first. -/
def keepCmdWrite (v : Nat) (s : State) : State :=
  let s := if bitOf v 0 then release s else s
  if bitOf v 1 then keepCmdFold s else s

/-- A write of KEEP_WDT_CFG (R11, R12, R522): ignored while SYS_LOCK is set; EN written 1 after 0 starts a full period. -/
def wdtCfgWrite (v : Nat) (s : State) : State :=
  if s.on SYS_LOCK_LOCK then s
  else
    let was := s.on KEEP_WDT_CFG_EN
    let s := s.plainWrite 0xE13018 v
    if s.on KEEP_WDT_CFG_EN ∧ ¬ was then s.wdtRestart else s.showWdt

/-- A write in the KEEP page. -/
def State.keepPageWrite (s : State) (o v : Nat) : State :=
  if o = 0x000 then (s.plainWrite 0xE13000 v).showDrive
  else if o = 0x010 then keepCmdWrite v s
  else if o = 0x018 then wdtCfgWrite v s
  else if o = 0x020 then kick v s
  else s.plainWrite (0xE13000 + o) v

/-- A 64-bit write of the register at `a` (R9 to R12, R530, R532). -/
def State.regWrite (s : State) (a v : Nat) : State :=
  let o := a % 0x1000
  if a % 8 ≠ 0 then s
  else if audioPage a then s.audioWrite a v
  else match a / 0x1000 with
  | 0xE00 => s.sysPageWrite o v
  | 0xE01 => s.pwrPageWrite o v
  | 0xE02 => s.clkPageWrite o v
  | 0xE03 => s.ringPageWrite o v
  | 0xE04 => s.fabPageWrite o v
  | 0xE0D => s.chnPageWrite o v
  | 0xE0E => if o = 0x020 then alertStatWrite v s else s.plainWrite a v
  | 0xE0F => s.memPageWrite o v
  | 0xE10 => if o = 0x028 then nvsCalSet v s else s.plainWrite a v
  | 0xE11 => s.plainWrite a v
  | 0xE12 => s.brgPageWrite o v
  | 0xE13 => s.keepPageWrite o v
  | _ => s

/-- REGISTER_WRITE (R12). -/
def execRegisterWrite (addr : Nat) (v : Word) (s : State) : Result := .next (s.regWrite addr v.toNat)

/-! ### Register reads -/

/-- How far behind a register's own address its selected copy lies. -/
def State.selOff (s : State) (a : Nat) : Nat :=
  0x1000000 *
  (if a = 0xE04028 ∨ a = 0xE04030 ∨ a = 0xE04038 then s.get FAB_TILE_SEL_TILE
   else if a = 0xE04058 ∨ a = 0xE04068 ∨ a = 0xE04070 then s.get FAB_TILE_SEL_TILE / 64
   else if a = 0xE0D048 ∨ a = 0xE0D050 ∨ a = 0xE0D058 then s.get CHN_ROSTER_SEL_UNIT
   else if a = 0xE0F028 ∨ a = 0xE0F030 ∨ a = 0xE0F038 then s.get MEM_SEL_BANK
   else if a = 0xE00030 then s.get SYS_UNIT_SEL_UNIT
   else if a = 0xE11038 then s.get CUR_CAL_SEL_TARGET
   else if a = 0xE10048 then s.get NVS_SECTOR_SEL_SECTOR
   else 0)

/-- Tiles neither EMPTY nor bound to no domain (FAB_STAT.ACTIVE_TILES). -/
def State.activeTiles (s : State) : Nat := ((List.range 1024).filter (fun t => s.tileState t != 0 && s.tileDomain t != 0)).length

/-- Shelves that hold a STOPPED tile. -/
def State.stoppedShelves (s : State) : Nat :=
  maskOf 16 (fun h => (List.range 64).any (fun i => s.tileState (64 * h + i) == 3))

/-- FAB_LANE_STAT of shelf `h`. -/
def State.showLanes (s : State) (h : Nat) : State :=
  let l := s.lanes.filter (fun p => p.2 != 0)
  (s.put (FAB_LANE_STAT_LANES_IN h) (l.filter (fun p => p.1 / 256 == h)).length).put (FAB_LANE_STAT_LANES_OUT h)
    (l.filter (fun p => (p.2 - 1) / 8 / 64 == h)).length

/-- Transmit slots that a chain frame carries (R315). -/
def State.chainWidth (s : State) : Nat := if s.rate96 then 48 else 128

/-- The transmit slots of chain port `p` that no crosspoint feeds, in ascending order (R342). -/
def State.freeSlots (s : State) (p : Nat) : List Nat := (List.range s.chainWidth).filter (fun i => !s.edgeFed (0x100 + 128 * p + i))

/-- HEAD, TAIL and level of a STREAM ring come from bank 6 (R351). -/
def State.showStream (s : State) (r : Nat) : State :=
  if s.ringIs r 3 then
    ((s.put (RING_HEAD_HEAD r) (s.peek6 (s.streamPtr r true))).put (RING_TAIL_TAIL r) (s.peek6 (s.streamPtr r false))).put
      (RING_STAT_LEVEL r) (s.levelOf r)
  else s

/-- NVS_SECTOR_STAT of sector `x` (R493). -/
def State.showSector (s : State) (x : Nat) : State :=
  let v := s.sector x
  (s.put (NVS_SECTOR_STAT_STATE x) v.1).put (NVS_SECTOR_STAT_LOGICAL x) (if v.1 = 2 ∨ v.1 = 4 then v.2.1 else 0)

/-- STATE reads WAKING from a wake source's recognition in sleep (R446). -/
def State.showWaking (s : State) : State :=
  if s.wakeReq.isSome ∧ (s.get PWR_STAT_STATE = 2 ∨ s.get PWR_STAT_STATE = 3) then s.put PWR_STAT_STATE 5 else s

/-- The state with the fields that the register at `a` computes when it is read. -/
def State.shown (s : State) (a : Nat) : State :=
  let t := s.get FAB_TILE_SEL_TILE
  if a = 0xE01010 then s.showWaking
  else if a = 0xE04008 then s.put FAB_STAT_ACTIVE_TILES s.activeTiles
  else if a = 0xE04018 then s.put FAB_STOP_SUM_SHELF_STOP s.stoppedShelves
  else if a = 0xE04028 then
    (s.put (FAB_TILE_STAT_DOMAIN t) (s.tileDomain t)).put (FAB_TILE_STAT_PARAM_PEND t) (b2n !(s.tile t).pend.isEmpty)
  else if a = 0xE04070 then s.showLanes (t / 64)
  else if a = 0xE05110 then s.put SAP_START_STAT_ARMED s.armedMask
  else if 0xE05000 ≤ a ∧ a < 0xE05100 ∧ a % 0x40 = 0 then
    match (s.port ((a - 0xE05000) / 0x40)).pendCfg with
    | some v => s.putSapCfg ((a - 0xE05000) / 0x40) v
    | none => s
  else if a = 0xE0D020 ∨ a = 0xE0D030 then
    let p := (a - 0xE0D020) / 0x10
    s.put (CHN_PORT_STAT_FREE_SLOTS p) (if s.linkState p = 5 then (s.freeSlots p).length else 0)
  else if a = 0xE03808 then s.put RING_HALT_SUM_HALTED (maskOf 64 (fun r => s.get (RING_STAT_STATE r) == 3))
  else if 0xE03000 ≤ a ∧ a < 0xE03800 then s.showStream ((a - 0xE03000) / 0x20)
  else if 0xE02040 ≤ a ∧ a < 0xE020A0 ∧ a % 0x10 = 0 then
    s.put (CLK_MON_STAT_STATE ((a - 0xE02040) / 0x10)) (s.monState ((a - 0xE02040) / 0x10))
  else if a = 0xE10048 ∧ s.get NVS_SECTOR_SEL_SECTOR < 72 then s.showSector (s.get NVS_SECTOR_SEL_SECTOR)
  else s

/-- The word that a read of the register at `a` returns (R10, R530): WO registers and unassigned addresses read 0. -/
def State.regWord (s : State) (a : Nat) : Nat :=
  match rowAt a with
  | none => 0
  | some r =>
    let off := a - r.addr + s.selOff a
    let s := s.shown a
    if r.acc = .wo then 0 else r.flds.foldl (fun w f => w + 2 ^ f.lo * s.get (fldAt f off)) 0

/-- A field that holds the largest value since the last read (R388). -/
def peakField (f : Fld) : Bool :=
  (f.addr % 0x1000000 == 0xE04030 && f.lo == 0) || (f.addr % 0x1000000 == 0xE04068 && f.lo == 0) ||
  (f.addr == 0xE0E008 && f.lo == 32)

/-- The fields of the register at `a`, in the copy that it shows. -/
def State.fldsAt (s : State) (a : Nat) : List Fld :=
  match rowAt a with
  | none => []
  | some r => r.flds.map (fun f => fldAt f (a - r.addr + s.selOff a))

/-- A snapshot of the register at `a` is taken: its peak fields collect anew (R388). -/
def State.snapPeaks (s : State) (a : Nat) : State :=
  { s with peaks := (s.fldsAt a).foldl (fun m f => if peakField f then mapErase m (Fld.key f) else m) s.peaks }

/-- What a read whose eighth byte has been sent removes from field `f` of an RC register (R388). -/
def State.fldRemove (s : State) (rc : Bool) (snap : Nat) (f : Fld) : State :=
  if peakField f then s.put f (mapGet 0 s.peaks (Fld.key f))
  else if rc then s.put f (s.get f - bits snap f.lo f.width)
  else s

/-- A read of the register at `a` that returned `snap` is complete (R388). -/
def State.rcRemove (s : State) (a snap : Nat) : State :=
  let rc := match rowAt a with
    | some r => r.acc == .rc
    | none => false
  (s.fldsAt a).foldl (fun s f => s.fldRemove rc snap f) s

/-- RC_REGISTER_READ (R388): the eighth byte of the snapshot has been sent; without a snapshot on its way the read is whole. -/
def rcRegisterRead (a : Nat) (s : State) : State :=
  match s.busSnap with
  | some (b, w) => if b = a then { s.rcRemove a w with busSnap := none } else (s.snapPeaks a).rcRemove a (s.regWord a)
  | none => (s.snapPeaks a).rcRemove a (s.regWord a)

/-- RC_REGISTER_READ. -/
def execRcRegisterRead (addr : Nat) (s : State) : Result := .next (rcRegisterRead addr s)

/-! ### Memory windows (R385, R387, R414, R415, R529) -/

/-- Addresses of whole-word spaces: everything but the banks (R385, R389). -/
def wholeWord (a : Nat) : Bool := decide (a < 0x400000) || decide (0xC00000 ≤ a)

/-- A word of bank `b` as the host window reads it: a retired bank reads 0 (R424). -/
def State.bankHostRead (s : State) (b w : Nat) : (Word × Bool) × State :=
  if s.bankRetired b then ((0, false), s) else s.bankWord 3 b w

/-- The word after word `w` of bank `b`, for a group that wraps (R414). -/
def nextWord (b w : Nat) : Nat × Nat := if w = 0x1FFFF then ((b + 1) % 8, 0) else (b, w + 1)

/-- A host-window write of eight bytes from bank address `a` on (R414, R415). -/
def State.groupWrite (s : State) (a : Nat) (v : Word) : State :=
  let o := a - 0x400000
  let b := o / 0x100000
  let w := o % 0x100000 / 8
  let k := o % 8
  if k = 0 then s.bankWrite b w v
  else
    let n := nextWord b w
    let lo := s.bankHostRead b w
    let hi := lo.2.bankHostRead n.1 n.2
    if lo.1.2 || hi.1.2 then hi.2.put TWB_SUM_PARTIAL 1
    else
      let l := lo.1.1.toNat % 2 ^ (8 * k) + 2 ^ (8 * k) * v.toNat
      let h := v.toNat / 2 ^ (64 - 8 * k) + 2 ^ (8 * k) * (hi.1.1.toNat / 2 ^ (8 * k))
      (hi.2.bankWrite b w (BitVec.ofNat 64 l)).bankWrite n.1 n.2 (BitVec.ofNat 64 h)

/-- A 64-bit host-window write at `a` (R385, R529). -/
def State.hostWrite (s : State) (a : Nat) (v : Word) : State :=
  if a < 0x400000 then configWrite a v s
  else if a < 0xC00000 then s.groupWrite a v
  else if a < 0xE00000 then stateRamWrite a v s
  else s.regWrite a v.toNat

/-- A word of configuration memory or state RAM as the host reads it (R49): a corrected word waits for its write-back, and
CORRECTED counts what tiles see alone (R74). An uncorrectable word reads as it is stored (DESIGN CHOICE, log 31). -/
def State.fabHostRead (s : State) (a : Nat) : Nat × State :=
  ((s.memWord a).toNat, if s.mark a = 1 then s.queueWb a 1 else s)

/-- The eight bytes from byte `k` of word `w` of bank `b` on (R387, R414): the bytes above a word's last come from the word after it. -/
def State.bankHostRun (s : State) (b w k : Nat) : Nat × State :=
  let lo := s.bankHostRead b w
  if k = 0 then (lo.1.1.toNat, lo.2)
  else
    let n := nextWord b w
    let hi := lo.2.bankHostRead n.1 n.2
    (lo.1.1.toNat / 2 ^ (8 * k) + 2 ^ (64 - 8 * k) * (hi.1.1.toNat % 2 ^ (8 * k)), hi.2)

/-- A snapshot of the eight bytes from `a` on (R387, R414). -/
def State.hostRead (s : State) (a : Nat) : Nat × State :=
  if a < 0x400000 ∨ (0xC00000 ≤ a ∧ a < 0xE00000) then s.fabHostRead a
  else if a < 0xC00000 then s.bankHostRun ((a - 0x400000) / 0x100000) ((a - 0x400000) % 0x100000 / 8) (a % 8)
  else (s.regWord a, s.snapPeaks a)

/-! ### The host bus (R384 to R394) -/

/-- Pages of the always-on domain (R532). -/
def aonPage (a : Nat) : Bool := [0xE01, 0xE08, 0xE0C, 0xE0E, 0xE13].contains (a / 0x1000)

/-- The power state lets the host reach `a` (R393). -/
def State.reachable (s : State) (a : Nat) : Bool :=
  s.awake || aonPage a || (s.get PWR_STAT_STATE == 2 && decide (0xB00000 ≤ a) && decide (a < 0xC00000))

/-- The target answers at all: no COLD reset holds it, and in DORMANT a match has started its clock (R394, R406). -/
def State.busAlive (s : State) : Bool :=
  (match s.rst with | some (0, _, true) => false | _ => true) && (!s.dormant || s.dormBus)

/-- A WARM or FABRIC reset in progress refuses addresses outside the always-on domain (R389). -/
def State.resetRefuses (s : State) (a : Nat) : Bool :=
  (match s.rst with | some (d, _, _) => d != 0 | none => false) && !aonPage a

/-- A bank group waits until its bank has been released (R419). -/
def State.groupWaits (s : State) (a : Nat) : Bool :=
  decide (0x400000 ≤ a) && decide (a < 0xC00000) && !s.bankUp ((a - 0x400000) / 0x100000) && !s.bankRetired ((a - 0x400000) / 0x100000)

/-- The target answers a byte with NACK and ignores the bus until the next START (R389). -/
def State.nack (s : State) : State :=
  { (s.put TWB_STAT_BUSY 0).bump TWB_CNT_NACKS with busSnap := none, busAwake := false }

/-- The target takes part in a transaction, with a stretch of `stretch` units of 40.7 ns (R390). -/
def State.busTakes (s : State) (stretch : Nat) : State :=
  { (s.put TWB_STAT_BUSY 1).peak TWB_STAT_STRETCH_MAX stretch with busSnap := none, busAwake := s.busAwake || s.awake }

/-- HOST_BUS_WRITE (R385, R389, R390, R393): the eighth byte of a group at `addr` arrives. An address that sleep has taken out of
reach drops the group of a transaction begun before; a start address out of reach is refused. -/
def hostBusWrite (addr : Nat) (v : Word) (stretch : Nat) (s : State) : State :=
  let a := addr % 2 ^ 24
  if ¬ s.busAlive then s
  else
    let s := s.busTakes stretch
    if wholeWord a && a % 8 != 0 then s.nack
    else if ¬ s.reachable a ∧ ¬ s.busAwake then s.nack
    else if ¬ s.reachable a then
      ((s.put TWB_SUM_DROP 1).bump TWB_CNT_DROPS).post 0x0E03 sevWarn (pack [p32 a])
    else if s.resetRefuses a then
      ((s.nack.put TWB_SUM_PARTIAL 1).bump TWB_CNT_PARTIALS).post 0x0E01 sevWarn (pack [p32 a, p32 0])
    else if s.groupWaits a then s
    else { s.hostWrite a v with busAddr := (a + 8) % 2 ^ 24 }

/-- HOST_BUS_WRITE. -/
def execHostBusWrite (addr : Nat) (v : Word) (stretch : Nat) (s : State) : Result := .next (hostBusWrite addr v stretch s)

/-- HOST_BUS_READ (R387, R389, R393): a snapshot at `addr`, after a stretch of `stretch` units of 40.7 ns (R390). -/
def hostBusRead (addr stretch : Nat) (s : State) : State :=
  let a := addr % 2 ^ 24
  if ¬ s.busAlive then s
  else
    let s : State := { s.busTakes stretch with busOut := [] }
    if (wholeWord a && a % 8 != 0) || !s.reachable a || s.resetRefuses a then s.nack
    else if s.groupWaits a then s
    else
      let q := s.hostRead a
      { q.2 with busOut := leBytes 8 q.1, busAddr := (a + 8) % 2 ^ 24, busSnap := if 0xE00000 ≤ a then some (a, q.1) else none }

/-- HOST_BUS_READ. -/
def execHostBusRead (addr stretch : Nat) (s : State) : Result := .next (hostBusRead addr stretch s)

end Sys2Proof.Machine
end

