-- ==== Sys2Proof/Machine/ChainRx.lean ====
section
/-! DEFINITION. What a chain port receives: frames, their control fields, and tunnel units (R315 to R341, chapter The Reninait
Chain). -/

namespace Sys2Proof.Machine

/-! ### Acceptance and relay (R332, R335) -/

/-- The unit reports to partner `k` how far it has received in order (R335). -/
def State.sendAck (s : State) (k : Nat) (restart : Bool) : State :=
  s.txPlain { hdr := tunHdr (if s.isHead then k else s.ownAddr) 7 0 0 0 0 0
              data := [(mapGet 0 s.chain.rxSeq k + 65535) % 65536 + 2 ^ 16 * b2n restart] }

/-- The unit is the next one of partner `k` in order, and a satellite does not wait for RESTART (R335, R337). -/
def State.inOrder (s : State) (k : Nat) (u : TunUnit) : Bool := !s.chain.restart && tunSeq u.hdr == mapGet 0 s.chain.rxSeq k

/-- The unit has been executed or posted: the count advances, and an ACK leaves (R335). -/
def State.taken (s : State) (k : Nat) (u : TunUnit) : State :=
  (s.setChain (fun c => { c with rxSeq := mapSet 0 c.rxSeq k ((tunSeq u.hdr + 1) % 65536) })).sendAck k false

/-- A unit on its way to another joins the relay queue of 256; a full queue discards it, and so does a unit without an
address (R328, R332). -/
def State.relayUnit (s : State) (up : Bool) (u : TunUnit) : State :=
  if s.isHead ∨ ¬ s.on CHN_STAT_ADDR_VALID ∨ 256 ≤ s.chain.relay.length then s
  else s.setChain (fun c => { c with relay := c.relay ++ [(up, u)] })

/-- A downstream unit is for this satellite. -/
def State.forMe (s : State) (u : TunUnit) : Bool := !s.isHead && s.on CHN_STAT_ADDR_VALID && tunUnit u.hdr == s.ownAddr

/-- A downstream unit: `k` acts on one that is this satellite's and next in order; others go on or are discarded. -/
def State.downUnit (s : State) (u : TunUnit) (k : State → State) : State :=
  if s.isHead then s
  else if ¬ s.forMe u then s.relayUnit false u
  else if s.inOrder 0 u then k s
  else s

/-- An upstream sequenced unit: the head takes it in order by `k`, a satellite passes it on. -/
def State.upUnit (s : State) (u : TunUnit) (k : State → State) : State :=
  if ¬ s.isHead then s.relayUnit true u
  else if s.inOrder (tunUnit u.hdr) u then (k s).taken (tunUnit u.hdr) u
  else s

/-! ### The unit types (R334) -/

/-- IDLE carries nothing. -/
def idleUnit (_u : TunUnit) (s : State) : State := s

/-- IDLE. -/
def execIdleUnit (u : TunUnit) (s : State) : Result := .next (idleUnit u s)

/-- The word-aligned address of a WRITE or READ. -/
def tunTarget (u : TunUnit) : Nat := tunAddr u.hdr / 8 * 8

/-- WRITE (R339): a whole-word host write. A bank that is not released holds it back (R419). -/
def unitWrite (u : TunUnit) (s : State) : State :=
  s.downUnit u (fun s =>
    if s.groupWaits (tunTarget u) then s
    else (s.hostWrite (tunTarget u) (BitVec.ofNat 64 (u.data.headD 0))).taken 0 u)

/-- WRITE. -/
def execWrite (u : TunUnit) (s : State) : Result := .next (if tunType u.hdr = 1 then unitWrite u s else s)

/-- READ (R339, R388): the word returns as READ_RSP, and what the read removes is removed. -/
def unitRead (u : TunUnit) (s : State) : State :=
  s.downUnit u (fun s =>
    if s.groupWaits (tunTarget u) then s
    else
      let q := s.hostRead (tunTarget u)
      let s := if 0xE00000 ≤ tunTarget u then q.2.rcRemove (tunTarget u) q.1 else q.2
      (s.taken 0 u).txUnit { hdr := tunHdr s.ownAddr 3 (tunAddr u.hdr) 0 0 0 stOk, data := [q.1] })

/-- READ. -/
def execRead (u : TunUnit) (s : State) : Result := .next (if tunType u.hdr = 2 then unitRead u s else s)

/-- READ_RSP (R339): the head's read of that unit ends; without one the unit is a late answer. -/
def unitReadRsp (u : TunUnit) (s : State) : State :=
  s.upUnit u (fun s => match s.chain.access with
    | some (v, _, 1, _) =>
      if v = tunUnit u.hdr ∧ stDefined (tunStatus u.hdr) then (s.put CHN_TUN_RDATA_DATA (u.data.headD 0)).accessEnd (tunStatus u.hdr) else s
    | _ => s)

/-- READ_RSP. -/
def execReadRsp (u : TunUnit) (s : State) : Result := .next (if tunType u.hdr = 3 then unitReadRsp u s else s)

/-- Ring `r` of this satellite can take a command word from the tunnel (R335, R340). -/
def State.cmdRoom (s : State) (r : Nat) : Bool :=
  s.ringIs r 0 && s.get (RING_CFG_UNIT r) == 0 && s.bankUp 6 && decide (s.ringLevel r < s.ringSize r)

/-- CMD (R340): a command word enters the ring of the same number; a ring without room holds it back (R335). -/
def unitCmd (u : TunUnit) (s : State) : State :=
  s.downUnit u (fun s =>
    let r := tunRing u.hdr
    if ¬ s.cmdRoom r then s
    else
      let seq := s.get (RING_STAT_NEXT_SEQ r)
      let s := (s.ringPush r [u.data.headD 0]).makeReady r 4097
      let s := if tunWord u.hdr = tunNw u.hdr then s.setChain (fun c => { c with remote := c.remote ++ [(r, seq)] }) else s
      s.taken 0 u)

/-- CMD. -/
def execCmd (u : TunUnit) (s : State) : Result := .next (if tunType u.hdr = 4 then unitCmd u s else s)

/-- CPL (R340): the second word of a completion posts it into the proxy ring's completion ring, with the unit's address; its status is
one of R15. -/
def unitCpl (u : TunUnit) (s : State) : State :=
  s.upUnit u (fun s =>
    let v := tunUnit u.hdr
    let r := tunRing u.hdr
    let d := u.data.headD 0
    if tunWord u.hdr = 0 then s.setChain (fun c => { c with cplWord := mapSet 0 c.cplWord v d })
    else if s.proxy r && s.get (RING_CFG_UNIT r) == v then
      let w := mapGet 0 s.chain.cplWord v
      if ¬ stDefined (bits w 24 8) then s else s.proxyCpl r (w % 2 ^ 38 + 2 ^ 38 * v + w / 2 ^ 42 * 2 ^ 42, d) true
    else s)

/-- CPL. -/
def execCpl (u : TunUnit) (s : State) : Result := .next (if tunType u.hdr = 5 then unitCpl u s else s)

/-- A forwarded event raises the alert source FWD (R395, R397). -/
def State.fwdAlert (s : State) (v sev : Nat) : State :=
  if s.on TWB_ALERT_CFG_EN && (decide (s.get TWB_ALERT_CFG_FWD_SEV ≤ sev) || sev == 3) then
    { (s.alert 2).setBit TWB_ALERT_STAT_FWD_UNIT v with fwdFatal := s.fwdFatal || sev == 3 }
  else s

/-- A forwarded event is complete: it waits for FWD_RING, or is dropped (R341). -/
def State.eventIn (s : State) (v : Nat) (ws : List Nat) : State :=
  let w0 := ws.getD 0 0
  let e : Ev := { code := bits w0 0 16, sev := bits w0 16 2, unit := v, fwd := true, frame := s.frame, orig := bits w0 32 32
                  payload := ws.getD 2 0 % 2 ^ 64 + 2 ^ 64 * (ws.getD 3 0 % 2 ^ 64) }
  let s := s.fwdAlert v e.sev
  if s.ringIs (s.get CHN_CTL_FWD_RING) 2 then { s with fwdq := s.fwdq ++ [e] }
  else ((s.bump CHN_FWD_CNT_DROPPED).put CHN_SUM_FWD_DROP 1).post 0x0D0A sevWarn (pack [p32 1])

/-- EVENT (R341): the fourth word completes an event. -/
def unitEvent (u : TunUnit) (s : State) : State :=
  s.upUnit u (fun s =>
    let v := tunUnit u.hdr
    let d := u.data.headD 0
    let l := if tunWord u.hdr = 0 then [d] else mapGet [] s.chain.evWord v ++ [d]
    if tunWord u.hdr = 3 ∧ l.length = 4 then
      (s.setChain (fun c => { c with evWord := mapErase c.evWord v })).eventIn v l
    else s.setChain (fun c => { c with evWord := mapSet [] c.evWord v l }))

/-- EVENT. -/
def execEvent (u : TunUnit) (s : State) : Result := .next (if tunType u.hdr = 6 then unitEvent u s else s)

/-- Units of `q` up to the one with sequence number `n`, and the rest; none where no unit has that number. -/
def ackSplit (n : Nat) (q : List TunUnit) : List TunUnit × List TunUnit :=
  if q.any (fun u => tunSeq u.hdr == n) then
    (q.take ((q.findIdx (fun u => tunSeq u.hdr == n)) + 1), q.drop ((q.findIdx (fun u => tunSeq u.hdr == n)) + 1))
  else ([], q)

/-- Partner `k` acknowledges (R335, R337, R339): the replay buffer is freed, a write access ends, a satellite that waited for RESTART
goes on. -/
def State.ackIn (s : State) (k v : Nat) : State :=
  let s := if bitOf v 16 ∧ ¬ s.isHead then s.setChain (fun c => { c with restart := false }) else s
  let q := ackSplit (v % 65536) (mapGet [] s.chain.replay k)
  if q.1.isEmpty then s
  else
    let s := (s.setChain (fun c => { c with replay := mapSet [] c.replay k q.2, ackFrame := mapSet 0 c.ackFrame k s.frame })).txFill k 64
    match s.chain.access with
    | some (u, seq, 0, _) => if u = k ∧ q.1.any (fun x => tunSeq x.hdr == seq) then s.accessEnd stOk else s
    | _ => s

/-- ACK (R335): `up` is true for one that comes from downstream. -/
def unitAck (up : Bool) (u : TunUnit) (s : State) : State :=
  if s.isHead then s.ackIn (tunUnit u.hdr) (u.data.headD 0)
  else if ¬ up ∧ s.forMe u then s.ackIn 0 (u.data.headD 0)
  else s.relayUnit up u

/-- ACK. -/
def execAck (u : TunUnit) (s : State) : Result := .next (if tunType u.hdr = 7 then unitAck false u s else s)

/-- DEAL_RSP (R327, R334). -/
def unitDealRsp (u : TunUnit) (s : State) : State := if s.isHead then s.dealAnswer u else s.relayUnit true u

/-- DEAL_RSP. -/
def execDealRsp (u : TunUnit) (s : State) : Result := .next (if tunType u.hdr = 8 then unitDealRsp u s else s)

/-- TOPO ATTACH (R330). -/
def unitAttach (u : TunUnit) (s : State) : State := s.upUnit u (fun s => s.attach (tunUnit u.hdr))

/-- TOPO_ATTACH. -/
def execTopoAttach (u : TunUnit) (s : State) : Result :=
  .next (if tunType u.hdr = 10 ∧ u.data.headD 0 = 0 then unitAttach u s else s)

/-- TOPO DETACH (R331). -/
def unitDetach (u : TunUnit) (s : State) : State := s.upUnit u (fun s => s.detach (tunUnit u.hdr))

/-- TOPO_DETACH. -/
def execTopoDetach (u : TunUnit) (s : State) : Result :=
  .next (if tunType u.hdr = 10 ∧ u.data.headD 0 = 1 then unitDetach u s else s)

/-- The first report of a reset reaches the head (R337, R378). -/
def State.satReset (s : State) (v depth count : Nat) : State :=
  let q := s.dropUnit v
  let s := q.2.setChain (fun c => { c with
    txSeq := mapErase c.txSeq v, rxSeq := mapErase c.rxSeq v, ackFrame := mapErase c.ackFrame v, cplWord := mapErase c.cplWord v
    evWord := mapErase c.evWord v, lastRpt := mapInsert c.lastRpt v (4 * count + depth + 1) })
  ((s.sendAck v true).put CHN_SUM_SAT_RESET 1).post 0x0D0D sevWarn (pack [p16 v, p16 depth, p32 count, p32 q.1])

/-- RESET_RPT (R337): a report that repeats the last one acknowledged, with no deal between, is ignored. -/
def unitResetRpt (u : TunUnit) (s : State) : State :=
  let v := tunUnit u.hdr
  let depth := bits (tunAddr u.hdr) 0 2
  let count := u.data.headD 0 % 65536
  if ¬ s.isHead then s.relayUnit true u
  else if mapFind s.chain.lastRpt v = some (4 * count + depth + 1) then s
  else s.satReset v depth count

/-- RESET_RPT. -/
def execResetRpt (u : TunUnit) (s : State) : Result := .next (if tunType u.hdr = 11 then unitResetRpt u s else s)

/-- A unit of a received frame. LEND_CTL goes on towards the head, which acts on it by its own commands; reserved types are
discarded. -/
def State.unitRx (s : State) (up : Bool) (u : TunUnit) : State :=
  match tunType u.hdr with
  | 1 => if up then s else unitWrite u s
  | 2 => if up then s else unitRead u s
  | 3 => if up then unitReadRsp u s else s
  | 4 => if up then s else unitCmd u s
  | 5 => if up then unitCpl u s else s
  | 6 => if up then unitEvent u s else s
  | 7 => unitAck up u s
  | 8 => if up then unitDealRsp u s else s
  | 9 => if up then s.relayUnit true u else s
  | 10 => if up then (if u.data.headD 0 = 0 then unitAttach u s else if u.data.headD 0 = 1 then unitDetach u s else s) else s
  | 11 => if up then unitResetRpt u s else s
  | _ => s

/-! ### Chain frames (R315 to R320) -/

/-- The cell that receive slot `i` delivers (R37, R320). -/
def State.slotCell (s : State) (f : ChainFrame) (i : Nat) : Word :=
  if f.missing || bitOf f.badSlots i || bitOf f.badGroups (i / 16) then s.errCell else BitVec.ofNat 64 (f.slots.getD i 0)

/-- The slots of a received frame reach their endpoints; slots the rate leaves out deliver inserted zeros (R316). -/
def State.slotsIn (s : State) (p : Nat) (f : ChainFrame) : State :=
  (List.range 128).foldl (fun s i =>
    if i < s.chainWidth then s.edgePut (0x100 + 128 * p + i) (s.slotCell f i) else s.edgeClear (0x100 + 128 * p + i)) s

/-- The error counts of a received frame (R320, R322). -/
def State.frameErrors (s : State) (p : Nat) (f : ChainFrame) : State :=
  let s := s.setChain (fun c => { c with
    missing := mapSet 0 c.missing p (if f.missing then mapGet 0 c.missing p + 1 else 0)
    crcBad := mapSet [] c.crcBad p ((!f.missing && !f.crcOk) :: (mapGet [] c.crcBad p).take 63) })
  if f.missing then s.bump (CHN_PORT_CNT_GRP_CRC p)
  else
    let s := s.bumpBy (CHN_PORT_CNT_CODE_ERR p) (popCount 128 f.badSlots)
    let s := s.bumpBy (CHN_PORT_CNT_GRP_CRC p) (popCount 8 f.badGroups)
    if f.crcOk then s else s.bump (CHN_PORT_CNT_CTRL_CRC p)

/-- A satellite takes its address in the frame in which it first sees a new DEAL_SEQ, and answers (R327, R328). -/
def State.dealTake (s : State) (a seq : Nat) (force : Bool) : State :=
  let s := s.setChain (fun c => { c with seenDeal := some seq, dealSeq := seq, dealForce := force, dealing := a != 15 })
  if a = 15 then s.put CHN_STAT_ADDR_VALID 0
  else
    let keep := match s.chain.held with
      | some h => decide (a < h) && !force
      | none => false
    let mine := if keep then s.chain.held.getD 0 else a + 1
    let s := ((s.put CHN_STAT_ADDR mine).put CHN_STAT_ADDR_VALID 1).setChain (fun c => { c with held := some mine })
    let info := mine + 2 ^ 4 * s.get CHN_STAT_POS + 2 ^ 8 * b2n (s.linkState 1 != 5) + 2 ^ 9 * seq
    (s.txPlain { hdr := tunHdr mine 8 info 0 0 0 0, data := [s.identity % 2 ^ 64] }).txPlain
      { hdr := tunHdr mine 8 info 0 1 0 0, data := [s.identity / 2 ^ 64] }

/-- The deal fields of a downstream control field (R318, R327). -/
def State.ctlDeal (s : State) (w0 : Nat) : State :=
  if ¬ bitOf w0 32 then s.setChain (fun c => { c with dealing := false })
  else if s.chain.seenDeal = some (bits w0 45 3) then s
  else s.dealTake (bits w0 41 4) (bits w0 45 3) (bitOf w0 33)

/-- SAP_S and START_UNITS (R203, R318). -/
def State.ctlStart (s : State) (w0 w1 : Nat) : State :=
  if ¬ bitOf w0 34 then s.setChain (fun c => { c with sapS := none })
  else
    let f := bits w1 0 32
    let new := s.chain.sapS != some f
    let s := s.setChain (fun c => { c with sapS := some f, sapUnits := bits w0 48 16 })
    if new && s.on CHN_STAT_ADDR_VALID && bitOf w0 (48 + s.ownAddr) then s.startFromHead f else s

/-- LOAD_S (R171, R318, R343). -/
def State.ctlLoad (s : State) (w0 w1 : Nat) : State :=
  if ¬ bitOf w0 35 then s.setChain (fun c => { c with loadS := none })
  else
    let f := bits w1 32 32
    let s := s.setChain (fun c => { c with loadS := some f })
    match s.load with
    | some l => if l.startF.isNone then s.loadFromHead f else s
    | none => s

/-- Frames between domain-C strobes. -/
def State.domcPeriod (s : State) : Nat := if s.rate96 then 6 else 3

/-- Frames from this one to the next domain-C strobe frame (R317). -/
def State.domcNext (s : State) : Nat := (s.domcPeriod - s.frameAgo s.frC % s.domcPeriod) % s.domcPeriod

/-- DOMC_NEXT (R319): a satellite whose domain C is LOCKED_A and off the head's frames slews. -/
def State.ctlDomc (s : State) (w0 : Nat) : State :=
  if s.get CLK_DOMC_STAT_STATE = 0 ∧ bits w0 38 3 % s.domcPeriod ≠ s.domcNext then s.domcSlew else s

/-- Words of a control field as tunnel units, two words each. -/
def unitsOf : Nat → List Nat → List TunUnit
  | n + 1, h :: d :: r => { hdr := h % 2 ^ 64, data := [d % 2 ^ 64] } :: unitsOf n r
  | _, _ => []

/-- The control field from upstream, on a satellite (R317 to R319). -/
def State.ctlDown (s : State) (l : List Nat) : State :=
  let w0 := l.getD 0 0
  let w1 := l.getD 1 0
  let s := (s.setRateA (bits w0 37 1)).ctlDeal w0
  let s := ((s.ctlStart w0 w1).ctlLoad w0 w1).ctlDomc w0
  (unitsOf (if bitOf w0 36 then 1 else 7) (l.drop 2)).foldl (fun s u => s.unitRx false u) s

/-- The control field from downstream (R317). -/
def State.ctlUp (s : State) (l : List Nat) : State := (unitsOf 7 (l.drop 2)).foldl (fun s u => s.unitRx true u) s

/-- CHAIN_FRAME_RX (R315 to R320). -/
def chainFrameRx (p : Nat) (f : ChainFrame) (s : State) : State :=
  if s.linkState p ≠ 5 then s
  else
    let s := (s.frameErrors p f).slotsIn p f
    if f.missing ∨ ¬ f.crcOk then s
    else if p = 1 then s.ctlUp f.ctl
    else if s.isHead then s
    else s.ctlDown f.ctl

/-- CHAIN_FRAME_RX. -/
def execChainFrameRx (p : TwoIx) (f : ChainFrame) (s : State) : Result := .next (chainFrameRx p.val f s)

end Sys2Proof.Machine
end

