-- ==== Sys2Proof/Machine/Abort.lean ====
section
/-! DEFINITION. ABORT: what becomes of its target by the target's state and opcode (R375 to R377, chapter Rings, Commands and
Ordering). -/

namespace Sys2Proof.Machine

/-- TRING of an ABORT. -/
def abortRing (ws : List Nat) : Nat := bits (ws.headD 0) 16 6
/-- TSEQ of an ABORT. -/
def abortSeq (ws : List Nat) : Nat := bits (ws.headD 0) 32 16

/-- Commands that cannot be aborted (R376): ABORT, FOLD, ANNALS_FLUSH and RESET. -/
def noAbort (opc : Nat) : Bool := [0x03, 0x04, 0x12, 0x1A].contains opc

/-- Command `seq` is in execution on ring `t`. -/
def State.runs (s : State) (t seq : Nat) : Bool := match (s.ring t).exec with
  | some e => e.seq == seq
  | none => false

/-- The status of a completed command of ring `t`, also of one whose completion waits for space. -/
def State.doneStatus (s : State) (t seq : Nat) : Option Nat :=
  let q := s.ring t
  let waits := match q.waiting with
    | some w => if w.1 % 65536 = seq then some (bits w.1 24 8) else none
    | none => none
  match waits with
  | some st => some st
  | none =>
    if q.retrySeq = some seq ∨ s.runs t seq then none
    else if (q.doneSeq + 65535 - seq) % 65536 < 32768 then some (mapGet 0 q.hist seq)
    else none

/-- The first word of the assigned and uncompleted command `seq` of ring `t`: the commands from HEAD on are those from the
ring's next one to complete. -/
def State.seqWord (s : State) (t seq : Nat) : Nat → Nat → Nat → Nat
  | 0, _, _ => 0
  | n + 1, at_, q =>
    let w := s.peek6 (s.ringWord t at_)
    if q = seq then w else s.seqWord t seq n ((at_ + bits w 8 3 + 1) % 65536) ((q + 1) % 65536)

/-- The opcode of an uncompleted command of ring `t`. -/
def State.openOpcode (s : State) (t seq : Nat) : Nat :=
  let q := s.ring t
  match q.exec with
  | some e => if e.seq = seq then e.words.headD 0 % 256 else s.seqWord t seq 4097 ((s.get (RING_HEAD_HEAD t) + e.words.length) % 65536) ((e.seq + 1) % 65536) % 256
  | none =>
    if q.retrySeq = some seq then s.peek6 (s.ringWord t (s.get (RING_HEAD_HEAD t))) % 256
    else
      let skip := if s.get (RING_STAT_STATE t) = 3 ∨ q.retrySeq.isSome then q.haltNw else 0
      s.seqWord t seq 4097 ((s.get (RING_HEAD_HEAD t) + skip) % 65536) q.doneSeq % 256

/-- The command in execution on ring `t` has reached its commit point (R376). -/
def State.pastCommit (s : State) (e : Exec) : Bool :=
  e.committed ||
  (match e.words.headD 0 % 256 with
   | 0x01 => s.eventSeen e || (waitMode e.words == 2 && s.get PWR_STAT_STATE == 4)
   | 0x02 => (s.fenceOpen e.snap).isEmpty
   | _ => false)

/-- WAIT is cancelled; a sleep entry that it had begun is given up, and IDLE is left. -/
def State.cancelWait (s : State) (t : Nat) (e : Exec) : State :=
  let s := if waitMode e.words = 2 ∧ 2 ≤ e.mask ∧ ¬ s.folded then s.spkUnfold.hpoUnfold else s
  let s := if waitMode e.words = 2 ∧ s.get PWR_STAT_STATE = 1 then s.put PWR_STAT_STATE 0 else s
  s.finish t stCancelled 0

/-- A CODEX_LOAD is cancelled (R172, R173): during step 1 the teardown still comes first. -/
def State.cancelLoad (s : State) (t : Nat) : State :=
  match s.load with
  | none => s.finish t stCancelled 0
  | some l =>
    if l.ring ≠ some t then s.finish t stCancelled 0
    else if l.kind = 2 then (s.lendsEnd true).loadFinish l stCancelled 0
    else if l.kind = 1 then ((if bitOf l.units 0 then s.shelfEmpty l.shelf else s).lendsEnd true).loadFinish l stCancelled 0
    else if l.phase = .teardown then s.setLoad (fun l => { l with cancel := true })
    else ((if bitOf l.units 0 then s.put FAB_STAT_FAB_STATE 0 else s).lendsEnd true).loadFinish l stCancelled 0

/-- BANK_TEST is cancelled: its region is restored and the next test of the bank starts. -/
def State.cancelTest (s : State) (t b : Nat) : State :=
  let mine := match mapFind s.tests b with
    | some q => q.ring == some t
    | none => false
  let s := { s with bankWait := s.bankWait.filter (fun q => q != t) }
  if mine then ((({ s with tests := mapErase s.tests b }).showTests).finish t stCancelled 0).bankTestNext b
  else s.finish t stCancelled 0

/-- The command in execution on ring `t` stops before its commit point with the outcome of R376. -/
def State.cancel (s : State) (t : Nat) (e : Exec) : State :=
  match e.words.headD 0 % 256 with
  | 0x01 => s.cancelWait t e
  | 0x08 => s.cancelLoad t
  | 0x0A => s.hoEnd 1 stCancelled
  | 0x0E => (s.calAbort t).finish t stCancelled 0
  | 0x0F => s.cancelTest t (bankTestArgs e.words).1
  | 0x18 | 0x19 => s.auxFinish t stCancelled 0
  | _ => s.finish t stCancelled 0

/-- The ABORT of ring `r` acts on command `seq` of ring `t` (R375). -/
def State.abortAct (s : State) (r t seq : Nat) : State :=
  if ¬ s.ringIs t 0 ∨ 32768 ≤ (s.get (RING_STAT_NEXT_SEQ t) + 65535 - seq) % 65536 then s.finish r stBadArg 0
  else match s.doneStatus t seq with
  | some st => s.finish r stAlreadyDone (st + 0x100)
  | none =>
    if t = r then s.finish r stBadArg 0
    else if s.proxy t || noAbort (s.openOpcode t seq) then s.finish r stNotPermitted 0
    else match (s.ring t).exec with
    | some e =>
      if e.seq ≠ seq then (s.setRing t { s.ring t with marks := (s.ring t).marks ++ [seq] }).finish r stCancelled 0
      else if s.pastCommit e then s.finish r stAlreadyDone 0
      else (s.setExec r (fun x => { x with mask := 1 })).cancel t e
    | none => (s.setRing t { s.ring t with marks := (s.ring t).marks ++ [seq] }).finish r stCancelled 0

/-- The ABORT of ring `r` completes once the CANCELLED completion of the command that it stopped has posted (R375). -/
def State.abortEnd (s : State) (r : Nat) : State :=
  match (s.ring r).exec with
  | some e =>
    let q := s.ring (abortRing e.words)
    if e.words.headD 0 % 256 ≠ 0x03 ∨ e.mask ≠ 1 ∨ q.waiting.isSome ∨ s.runs (abortRing e.words) (abortSeq e.words) then s
    else s.finish r stCancelled (0x100 + mapGet stCancelled q.hist (abortSeq e.words))
  | none => s

/-- ABORT (R375). -/
def abort (r : Nat) (s : State) : State :=
  (s.command r 0x03 (fun _ => true) (fun _ ws s => s.abortAct r (abortRing ws) (abortSeq ws))).abortEnd r

/-- ABORT. -/
def execAbort (r : RingIx) (s : State) : Result := .next (abort r.val s)

end Sys2Proof.Machine
end

