-- ==== Sys2Proof/Machine/Boundary.lean ====
section
/-! DEFINITION. The frame boundary and the strobes of domains B and C: what each starts, in order (R5, R110, R135, R139), and
the chain frame that leaves (R315 to R318, R342). -/

namespace Sys2Proof.Machine

/-! ### Events into their rings (R356 to R358) -/

/-- The events of the frame that has ended which belong to ring `r`: the unit's own, forwarded ones, and telemetry. -/
def State.eventsFor (s : State) (r : Nat) : List Ev :=
  (if s.get RING_EVT_CFG_RING = r then s.evq else []) ++ (if s.get CHN_CTL_FWD_RING = r then s.fwdq else []) ++
    (s.telq.filter (fun p => p.1 == r)).map (fun p => p.2)

/-- EVENT_RING_WRITE (R357): while bank 6 is not released, events wait in the always-on buffer (R378). -/
def State.eventsWrite (s : State) : State :=
  if ¬ s.bankUp 6 then s
  else
    let t := (List.range 64).foldl (fun (t : State) r => t.writeEvents r (s.eventsFor r)) s
    { t with evq := [], fwdq := [], telq := [] }

/-! ### The chain frame that leaves -/

/-- The ring of units that leave in a direction: relayed ones in the order received, then this unit's own. -/
def State.leaving (s : State) (up : Bool) : List (Bool × TunUnit) :=
  (s.chain.relay.filter (fun p => p.1 == up)).map (fun p => (true, p.2)) ++
    (if up != s.isHead then s.chain.outbox.map (fun u => (false, u)) else [])

/-- Units as control-field words, padded with IDLE units to `n` (R333, R334). -/
def unitWords (n : Nat) (l : List TunUnit) : List Nat :=
  ((l.flatMap (fun (u : TunUnit) => [u.hdr, u.data.headD 0])) ++ List.replicate (2 * n) 0).take (2 * n)

/-- At most `n` units leave in direction `up`: the words, and the queues without them. -/
def State.unitsOut (s : State) (up : Bool) (n : Nat) : List Nat × State :=
  let l := (s.leaving up).take n
  let rel := (l.filter (fun p => p.1)).length
  let own := l.length - rel
  let keep := (s.chain.relay.filter (fun p => p.1 != up)) ++ (s.chain.relay.filter (fun p => p.1 == up)).drop rel
  (unitWords n (l.map (fun p => p.2)),
   s.setChain (fun c => { c with relay := keep, outbox := c.outbox.drop own }))

/-- Words 0 and 1 of the downstream control field (R317, R318). -/
def State.downHead (s : State) (lend : Bool) : List Nat :=
  let c := s.chain
  [s.frame + 2 ^ 32 * b2n c.dealing + 2 ^ 33 * b2n c.dealForce + 2 ^ 34 * b2n c.sapS.isSome + 2 ^ 35 * b2n c.loadS.isSome +
     2 ^ 36 * b2n lend + 2 ^ 37 * b2n s.rate96 + 2 ^ 38 * s.domcNext + 2 ^ 41 * (if c.dealing then s.ownAddr else 0) +
     2 ^ 45 * c.dealSeq + 2 ^ 48 * c.sapUnits,
   c.sapS.getD 0 + 2 ^ 32 * c.loadS.getD 0]

/-- The header of a lend chunk (R342). -/
def lendHdr (u : Nat) (first : Bool) (words offset : Nat) : Nat := u + 2 ^ 4 * b2n first + 2 ^ 8 * words + 2 ^ 16 * (offset % 2 ^ 24)

/-- The lend streams with words to send, the one after the last chunk's unit first (R342): a load's streams begin once it has passed
its teardown. -/
def State.lendTurn (s : State) : Option (Nat × Lend) :=
  let go := match s.load with | some l => l.phase != .teardown | none => false
  let due := s.lends.filter (fun p => p.2.status.isNone && !p.2.paused && decide (p.2.pos < p.2.stream.length) && (p.2.auto || go))
  let last := match s.lendOut with | some (h, _) => bits h 0 4 | none => 0
  match due.find? (fun p => decide (last < p.1)) with
  | some p => some p
  | none => due.head?

/-- The relay's first chunk, or the part of it that a frame has room for, leaves; the rest waits first (R342). -/
def State.lendHop (s : State) (h : Nat) (ws : List Nat) (r : List (Nat × List Nat)) (room : Nat) : State :=
  let now := ws.take room
  let rest := ws.drop room
  let u := bits h 0 4
  { s with
    lendOut := some (lendHdr u (bitOf h 4) now.length (bits h 16 24), now)
    lendRelay := if rest.isEmpty then r else (lendHdr u false rest.length (bits h 16 24 + now.length), rest) :: r }

/-- The streams that the relay has paused resume once it holds fewer than 1024 words (R343). -/
def State.relayResume (s : State) : State :=
  if 1024 ≤ s.relayFill then s else { s with lendHeld := [], lendMsgs := s.lendMsgs ++ s.lendHeld.map LendMsg.resume }

/-- The next chunk of `room` stream words at most: the head's from its streams, behind the word of a load that has ended, a satellite's
from its relay buffer. -/
def State.lendNext (s : State) (room : Nat) : State :=
  if s.isHead then
    match s.lendEnds with
    | (u, c) :: r => { s with lendEnds := r, lendOut := some (lendHdr u c 0 0, []) }
    | [] => match s.lendTurn with
    | some (u, l) =>
      let ws := (l.stream.drop l.pos).take room
      { s.setLend u (fun l => { l with pos := l.pos + ws.length }) with lendOut := some (lendHdr u (l.pos == 0) ws.length l.pos, ws) }
    | none => { s with lendOut := none }
  else
    match s.lendRelay with
    | (h, ws) :: r => (s.lendHop h ws r room).relayResume
    | [] => { s with lendOut := none }

/-- What a satellite tells the head of its own lend every 8 frames at step 4 (R343). -/
def State.lendReport (s : State) : State :=
  match s.load with
  | some l => match l.own with
    | some st =>
      if ¬ s.isHead ∧ l.phase = .done ∧ l.startF.isNone ∧ s.frame % 8 = 0 then { s with lendMsgs := s.lendMsgs ++ [.done st] } else s
    | none => s
  | none => s

/-- The transmit slots of port `p` in this frame (R170, R316): `old` and `pos` are the mute ramp's positions. -/
def State.slotsOut (s : State) (p old pos : Nat) : State :=
  let len := s.rampTicks 1
  (List.range s.chainWidth).foldl (fun (t : State) i =>
    { t with chainSlots := mapInsert t.chainSlots (128 * p + i)
               (rampCell s.tag len old pos s.loadMute (s.outCell (0x100 + 128 * p + i))) }) s

/-- Words of a lend chunk beyond the control field go into the free downstream slots (R342). -/
def State.lendSlots (s : State) (ws : List Nat) : State :=
  (ws.zip (s.freeSlots 1)).foldl (fun (t : State) p =>
    { t with chainSlots := mapInsert t.chainSlots (128 + p.2) (BitVec.ofNat 64 p.1) }) s

/-- The control field and slots that leave downstream. -/
def State.sendDown (s : State) (old pos : Nat) : State :=
  if s.linkState 1 ≠ 5 then { s.setChain (fun c => { c with ctlDn := [] }) with lendOut := none }
  else
    let s := (s.slotsOut 1 old pos).lendNext (11 + (s.freeSlots 1).length)
    match s.lendOut with
    | some (h, ws) =>
      let q := s.unitsOut false 1
      let s := q.2.lendSlots (ws.drop 11)
      s.setChain (fun c => { c with
        ctlDn := s.downHead true ++ q.1 ++ h :: (ws ++ List.replicate 11 0).take 11 })
    | none =>
      let q := s.unitsOut false 7
      q.2.setChain (fun c => { c with ctlDn := q.2.downHead false ++ q.1 })

/-- The control field and slots that leave upstream: the head has no upstream port. -/
def State.sendUp (s : State) (old pos : Nat) : State :=
  if s.isHead ∨ s.linkState 0 ≠ 5 then s.setChain (fun c => { c with ctlUp := [] })
  else
    let q := (s.slotsOut 0 old pos).unitsOut true 7
    q.2.setChain (fun c => { c with ctlUp := s.frame :: 0 :: q.1 })

/-- The head's start frames as the control field carries them: until their frame has passed (R318). -/
def State.startFields (s : State) : State :=
  if ¬ s.isHead then s
  else
    let f := s.get SAP_START_STAT_START_FRAME
    let s := s.setChain (fun c => { c with loadS := c.loadS.filter (fun f => !later s.frame f) })
    if ¬ s.on SAP_START_STAT_PENDING then s.setChain (fun c => { c with sapS := none })
    else if s.chain.sapS = some f then s
    else s.setChain (fun c => { c with
      sapS := some f, sapUnits := maskOf 16 (fun u => s.bit CHN_STAT_PRESENT u && s.linkState 1 == 5) })

/-- At least every 16 frames a receiver acknowledges its partners (R335). -/
def State.ackPeriod (s : State) : State :=
  if s.frame % 16 ≠ 0 ∨ s.chain.restart then s
  else s.chain.rxSeq.foldl (fun t p => t.sendAck p.1 false) s

/-- RESET_RPT of a satellite that waits for RESTART: at once and every 16 frames (R337). -/
def State.resetReport (s : State) : State :=
  let due := match s.chain.rptFrame with | none => true | some f => decide (16 ≤ s.frameAgo f)
  if !s.isHead && s.chain.restart && s.on CHN_STAT_ADDR_VALID && s.linkState 0 == 5 && due then
    (s.txPlain { hdr := tunHdr s.ownAddr 0xB s.chain.depth 0 0 0 0, data := [s.chain.resets] }).setChain
      (fun c => { c with rptFrame := some s.frame })
  else s

/-- The chain side of a frame boundary: deal, start fields, tunnel, and the frames that leave. -/
def State.chainBoundary (s : State) : State :=
  let s := ((((s.rangeBack 0).rangeBack 1).dealBegin).startFields.forwardEvents).returnCpls.ackPeriod.resetReport
  let s := { s with lendMsgs := [], chainSlots := [] }
  let len := s.rampTicks 1
  let old := s.chainRamp
  let pos := rampStep len old s.loadMute
  let s := ({ s with chainRamp := pos }).lendReport
  (s.sendDown old pos).sendUp old pos

/-! ### FRAME_BOUNDARY -/

/-- The frame that ends: waits on its events, its router pass and its low-latency samples (R110, R127, R361); store entries that
soft errors have struck are met from now on (R124). -/
def State.frameEnds (s : State) (x : FrameInputs) : State :=
  let s := (s.ringsEnd.routerPass 1).lowPass x.low
  let s : State := { s.xpStrike x.xpBad with occ := [], xpre := [], frame := (s.frame + 1) % 2 ^ 32, tickA := s.tickA + 1 }
  s.eventsWrite

/-- The ports and bridges of domain A at the boundary: sinks take their values, and the ports' cells complete, before the router
takes its sources (R110, R191). -/
def State.portsBoundary (s : State) : State :=
  let s := (List.range 4).foldl State.portBoundary (s.routerTake 1)
  let s := (List.range 4).foldl (fun s n => if s.sapDom n = 1 then s.portTick n else s) s.spdBoundary
  ((s.latchEdges 1).brgOutTick 1 (s.xoNow 0)).brgInTick 1 (s.xoNow 0)

/-- Converters and outputs at the boundary. -/
def State.edgesBoundary (s : State) (x : FrameInputs) : State :=
  let s := (List.range 6).foldl (fun s n => s.ainFrame n (x.ain.getD n 0) (bitOf x.overRange n)) s
  let s := (List.range 8).foldl (fun s m => s.hqFrame m (x.pdm.getD m 0)) s.biasFrame
  let s := s.put SPK_PVDD_STAT_PVDD x.pvdd
  let s := (List.range 4).foldl (fun s n => s.spkFrame n (x.amps.getD n 0)) s.carrierFrame.staggerFrame
  (List.range 4).foldl (fun s n => s.hpoFrame n (bitOf x.hpoLimit n)) s

/-- Rings, clocks and the keeper at the boundary. -/
def State.controlBoundary (s : State) (x : FrameInputs) : State :=
  let s := (List.range 16).foldl State.moveParams s
  let s := s.ringsTick.cplReleaseAll.proxyRelease
  let s := (List.range 6).foldl (fun s m => s.monBoundary m (x.mon.getD m 0) (bitOf x.edges m)) (s.put CLK_DOMB_STAT_MEAS x.measB)
  let s := s.timeFrame (!s.on PWR_STAT_XO_OK && s.on PWR_STAT_AON_SRC)
  s.wdtFrame.keepIdle.idleBoundary.entryBegin

/-- FRAME_BOUNDARY (R5): domain A runs in ACTIVE and IDLE only (R440). -/
def frameBoundary (x : FrameInputs) (s : State) : State :=
  if ¬ s.awake then s
  else (((s.frameEnds x).portsBoundary.edgesBoundary x).controlBoundary x).chainBoundary

/-- FRAME_BOUNDARY. -/
def execFrameBoundary (x : FrameInputs) (s : State) : Result := .next (frameBoundary x s)

/-! ### The strobes -/

/-- DOMAIN_B_STROBE (R135), `phase` CK_XO cycles after the last frame boundary: domain B runs in ACTIVE and IDLE only. -/
def domainBStrobe (phase : Nat) (s : State) : State :=
  if ¬ s.awake then s
  else
    let s := s.dombStrobe.routerTake 2
    let s : State := { s with tickB := s.tickB + 1, frB := s.frame }
    let s := (List.range 4).foldl State.portStrobeB s
    let s := (List.range 4).foldl (fun s n => if s.sapDom n = 2 then s.portTick n else s) s
    let s := s.spdTxTick.spdRxTick.latchEdges 2
    ((s.brgOutTick 2 (s.xoNow phase)).brgInTick 2 (s.xoNow phase)).routerPass 2

/-- DOMAIN_B_STROBE. -/
def execDomainBStrobe (phase : Nat) (s : State) : Result := .next (domainBStrobe phase s)

/-- In STANDBY the head counts frames by its domain-C strobes (R444). -/
def State.standbyFrames (s : State) : State :=
  if s.isHead ∧ s.get PWR_STAT_STATE = 2 then { s with frame := (s.frame + s.domcPeriod) % 2 ^ 32 } else s

/-- DOMAIN_C_STROBE (R139), `phase` CK_XO cycles after the last frame boundary: `pcm` is the output of each low-power decimator in units of 2^-19, before it saturates. -/
def domainCStrobe (pcm : List Int) (phase : Nat) (s : State) : State :=
  if s.dormant then s
  else
    let s := s.standbyFrames.routerTake 3
    let s : State := { s with tickC := s.tickC + 1, frC := s.frame }
    let s := s.domcStep.latchEdges 3
    let s := ((s.brgOutTick 3 (s.xoNow phase)).brgInTick 3 (s.xoNow phase)).routerPass 3
    let s := s.archStrobe (fun m => s.lpSample m (pcm.getD m 0))
    let s := (List.range 8).foldl (fun s m => s.lpStrobe m (pcm.getD m 0)) s
    s.hoStrobe

/-- DOMAIN_C_STROBE. -/
def execDomainCStrobe (pcm : List Int) (phase : Nat) (s : State) : Result := .next (domainCStrobe pcm phase s)

end Sys2Proof.Machine
end

