-- ==== Sys2Proof/Machine/Dispatch.lean ====
section
/-! DEFINITION. The meaning of every command: one direct call for each row of the table. -/

namespace Sys2Proof.Machine

/-- What a command does to everything but the queue. -/
def exec (i : Instr) (s : State) : Host.Outcome State Fault Refusal :=
  match i with
  | .powerOn p => Sys2Proof.Machine.execPowerOn p s
  | .resetN => Sys2Proof.Machine.execResetN s
  | .resetRelease p => Sys2Proof.Machine.execResetRelease p s
  | .sysReset v => Sys2Proof.Machine.execSysReset v s
  | .bootLoad => Sys2Proof.Machine.execBootLoad s
  | .sysLock v => Sys2Proof.Machine.execSysLock v s
  | .foldNow v => Sys2Proof.Machine.execFoldNow v s
  | .registerWrite addr v => Sys2Proof.Machine.execRegisterWrite addr v s
  | .rcRegisterRead addr => Sys2Proof.Machine.execRcRegisterRead addr s
  | .frameBoundary x => Sys2Proof.Machine.execFrameBoundary x s
  | .domainBStrobe phase => Sys2Proof.Machine.execDomainBStrobe phase s
  | .domainCStrobe pcm phase => Sys2Proof.Machine.execDomainCStrobe pcm phase s
  | .tileTick t fetchOver => Sys2Proof.Machine.execTileTick t fetchOver s
  | .nop t => Sys2Proof.Machine.execNop t s
  | .endRun t => Sys2Proof.Machine.execEndRun t s
  | .mov t => Sys2Proof.Machine.execMov t s
  | .movf t => Sys2Proof.Machine.execMovf t s
  | .ldi t => Sys2Proof.Machine.execLdi t s
  | .add t => Sys2Proof.Machine.execAdd t s
  | .sub t => Sys2Proof.Machine.execSub t s
  | .abs t => Sys2Proof.Machine.execAbs t s
  | .max t => Sys2Proof.Machine.execMax t s
  | .min t => Sys2Proof.Machine.execMin t s
  | .muli t => Sys2Proof.Machine.execMuli t s
  | .shl t => Sys2Proof.Machine.execShl t s
  | .tstf t => Sys2Proof.Machine.execTstf t s
  | .cmp t => Sys2Proof.Machine.execCmp t s
  | .mul t => Sys2Proof.Machine.execMul t s
  | .mac t => Sys2Proof.Machine.execMac t s
  | .msu t => Sys2Proof.Machine.execMsu t s
  | .maci t => Sys2Proof.Machine.execMaci t s
  | .aclr t => Sys2Proof.Machine.execAclr t s
  | .acrd t => Sys2Proof.Machine.execAcrd t s
  | .acwr t => Sys2Proof.Machine.execAcwr t s
  | .lds t => Sys2Proof.Machine.execLds t s
  | .sts t => Sys2Proof.Machine.execSts t s
  | .adda t => Sys2Proof.Machine.execAdda t s
  | .ldb t stalls => Sys2Proof.Machine.execLdb t stalls s
  | .stb t stalls => Sys2Proof.Machine.execStb t stalls s
  | .recip t => Sys2Proof.Machine.execRecip t s
  | .vfir t => Sys2Proof.Machine.execVfir t s
  | .vlms t => Sys2Proof.Machine.execVlms t s
  | .jmp t => Sys2Proof.Machine.execJmp t s
  | .setlc t => Sys2Proof.Machine.execSetlc t s
  | .sec t => Sys2Proof.Machine.execSec t s
  | .secw t => Sys2Proof.Machine.execSecw t s
  | .secRunDone t => Sys2Proof.Machine.execSecRunDone t s
  | .illegalInstruction t => Sys2Proof.Machine.execIllegalInstruction t s
  | .currRead t stalls => Sys2Proof.Machine.execCurrRead t stalls s
  | .tileOverrun t at_ => Sys2Proof.Machine.execTileOverrun t at_ s
  | .eccWriteBack addr => Sys2Proof.Machine.execEccWriteBack addr s
  | .stop => Sys2Proof.Machine.execStop s
  | .restart => Sys2Proof.Machine.execRestart s
  | .fabParamWr v => Sys2Proof.Machine.execFabParamWr v s
  | .configMemoryWrite addr v => Sys2Proof.Machine.execConfigMemoryWrite addr v s
  | .stateRamWrite addr v => Sys2Proof.Machine.execStateRamWrite addr v s
  | .coefGroup r => Sys2Proof.Machine.execCoefGroup r s
  | .coefGroupStage r => Sys2Proof.Machine.execCoefGroupStage r s
  | .coefGroupFlip r => Sys2Proof.Machine.execCoefGroupFlip r s
  | .routeSet r => Sys2Proof.Machine.execRouteSet r s
  | .routeClear r => Sys2Proof.Machine.execRouteClear r s
  | .routeQuery r => Sys2Proof.Machine.execRouteQuery r s
  | .routeChangeBegin x => Sys2Proof.Machine.execRouteChangeBegin x s
  | .routeFadeEnd x => Sys2Proof.Machine.execRouteFadeEnd x s
  | .xpZcTimeout x => Sys2Proof.Machine.execXpZcTimeout x s
  | .gainRampEnd x => Sys2Proof.Machine.execGainRampEnd x s
  | .clkDombCfgWrite v => Sys2Proof.Machine.execClkDombCfgWrite v s
  | .dombLocked meas => Sys2Proof.Machine.execDombLocked meas s
  | .dombHoldEnd => Sys2Proof.Machine.execDombHoldEnd s
  | .clkStop m => Sys2Proof.Machine.execClkStop m s
  | .clkSlip m offset => Sys2Proof.Machine.execClkSlip m offset s
  | .clkResume m period rate => Sys2Proof.Machine.execClkResume m period rate s
  | .clkRate m meas => Sys2Proof.Machine.execClkRate m meas s
  | .brgCfgWrite b v => Sys2Proof.Machine.execBrgCfgWrite b v s
  | .brgSettle b ratio => Sys2Proof.Machine.execBrgSettle b ratio s
  | .brgLock b => Sys2Proof.Machine.execBrgLock b s
  | .brgUnlock b ratio => Sys2Proof.Machine.execBrgUnlock b ratio s
  | .bridgeHold b => Sys2Proof.Machine.execBridgeHold b s
  | .bridgeResume b => Sys2Proof.Machine.execBridgeResume b s
  | .brgSlip b => Sys2Proof.Machine.execBrgSlip b s
  | .codexLoad r busy low => Sys2Proof.Machine.execCodexLoad r busy low s
  | .codexLoadVerify r busy low => Sys2Proof.Machine.execCodexLoadVerify r busy low s
  | .codexLoadShelf r busy low => Sys2Proof.Machine.execCodexLoadShelf r busy low s
  | .loadTeardown => Sys2Proof.Machine.execLoadTeardown s
  | .loadVerifyEnd => Sys2Proof.Machine.execLoadVerifyEnd s
  | .shelfStop => Sys2Proof.Machine.execShelfStop s
  | .loadStart => Sys2Proof.Machine.execLoadStart s
  | .lendChunk hdr ws scope => Sys2Proof.Machine.execLendChunk hdr ws scope s
  | .lendNak u offset => Sys2Proof.Machine.execLendNak u offset s
  | .lendPause u => Sys2Proof.Machine.execLendPause u s
  | .lendResume u => Sys2Proof.Machine.execLendResume u s
  | .lendDone u status => Sys2Proof.Machine.execLendDone u status s
  | .autoLend u => Sys2Proof.Machine.execAutoLend u s
  | .slotErase r busy => Sys2Proof.Machine.execSlotErase r busy s
  | .slotWrite r busy => Sys2Proof.Machine.execSlotWrite r busy s
  | .slotCommit r busy => Sys2Proof.Machine.execSlotCommit r busy s
  | .slotRevoke r busy => Sys2Proof.Machine.execSlotRevoke r busy s
  | .sapCfgWrite p v => Sys2Proof.Machine.execSapCfgWrite p v s
  | .sapMuteWrite p v => Sys2Proof.Machine.execSapMuteWrite p v s
  | .portMuteRampEnd p tx => Sys2Proof.Machine.execPortMuteRampEnd p tx s
  | .sapRxFrame p din => Sys2Proof.Machine.execSapRxFrame p din s
  | .sapTxFrame p => Sys2Proof.Machine.execSapTxFrame p s
  | .startBallEdge rising => Sys2Proof.Machine.execStartBallEdge rising s
  | .sapStartGo v => Sys2Proof.Machine.execSapStartGo v s
  | .start r => Sys2Proof.Machine.execStart r s
  | .portStart => Sys2Proof.Machine.execPortStart s
  | .spdRxCfgWrite v => Sys2Proof.Machine.execSpdRxCfgWrite v s
  | .spdLock rate => Sys2Proof.Machine.execSpdLock rate s
  | .spdUnlock => Sys2Proof.Machine.execSpdUnlock s
  | .spdSubframe ch slots start err => Sys2Proof.Machine.execSpdSubframe ch slots start err s
  | .spdBlockEnd => Sys2Proof.Machine.execSpdBlockEnd s
  | .txCsCommit v => Sys2Proof.Machine.execTxCsCommit v s
  | .txUdCommit v => Sys2Proof.Machine.execTxUdCommit v s
  | .spdTxBlockStart => Sys2Proof.Machine.execSpdTxBlockStart s
  | .ainCfgWrite n v => Sys2Proof.Machine.execAinCfgWrite n v s
  | .ainStartingEnd n => Sys2Proof.Machine.execAinStartingEnd n s
  | .ainSettleEnd n => Sys2Proof.Machine.execAinSettleEnd n s
  | .ainZcTimeout n => Sys2Proof.Machine.execAinZcTimeout n s
  | .ainBiasCfgWrite v => Sys2Proof.Machine.execAinBiasCfgWrite v s
  | .biasRampDone k => Sys2Proof.Machine.execBiasRampDone k s
  | .ainBiasFault k => Sys2Proof.Machine.execAinBiasFault k s
  | .pdmCfgWrite v => Sys2Proof.Machine.execPdmCfgWrite v s
  | .pdmClockChange c => Sys2Proof.Machine.execPdmClockChange c s
  | .pdmClockStart c => Sys2Proof.Machine.execPdmClockStart c s
  | .privEngage => Sys2Proof.Machine.execPrivEngage s
  | .privReleased => Sys2Proof.Machine.execPrivReleased s
  | .wakeArchCfgWrite v => Sys2Proof.Machine.execWakeArchCfgWrite v s
  | .wakeCtlWrite v => Sys2Proof.Machine.execWakeCtlWrite v s
  | .check => Sys2Proof.Machine.execCheck s
  | .modelCheckDone => Sys2Proof.Machine.execModelCheckDone s
  | .spotterHop score lane => Sys2Proof.Machine.execSpotterHop score lane s
  | .handover r => Sys2Proof.Machine.execHandover r s
  | .hoGo => Sys2Proof.Machine.execHoGo s
  | .hoStop => Sys2Proof.Machine.execHoStop s
  | .hoAuto => Sys2Proof.Machine.execHoAuto s
  | .spkCfgWrite n v => Sys2Proof.Machine.execSpkCfgWrite n v s
  | .spkCtlWrite v => Sys2Proof.Machine.execSpkCtlWrite v s
  | .spkStart n => Sys2Proof.Machine.execSpkStart n s
  | .spkLoadCheck n z => Sys2Proof.Machine.execSpkLoadCheck n z s
  | .spkRampDone n => Sys2Proof.Machine.execSpkRampDone n s
  | .spkStop n => Sys2Proof.Machine.execSpkStop n s
  | .spkRest n => Sys2Proof.Machine.execSpkRest n s
  | .spkRelayRelease n => Sys2Proof.Machine.execSpkRelayRelease n s
  | .spkRelayHeld n posMa negMa => Sys2Proof.Machine.execSpkRelayHeld n posMa negMa s
  | .spkPvddUv mv => Sys2Proof.Machine.execSpkPvddUv mv s
  | .spkPvddOv mv => Sys2Proof.Machine.execSpkPvddOv mv s
  | .pvddRecovery mv => Sys2Proof.Machine.execPvddRecovery mv s
  | .spkDcFault n meanMv => Sys2Proof.Machine.execSpkDcFault n meanMv s
  | .currentLimit n leg again => Sys2Proof.Machine.execCurrentLimit n leg again s
  | .spkRetry n => Sys2Proof.Machine.execSpkRetry n s
  | .spkRecovered n => Sys2Proof.Machine.execSpkRecovered n s
  | .spkClear n => Sys2Proof.Machine.execSpkClear n s
  | .stageTempRead temps => Sys2Proof.Machine.execStageTempRead temps s
  | .pilotWindowEnd n z12 => Sys2Proof.Machine.execPilotWindowEnd n z12 s
  | .tweet n => Sys2Proof.Machine.execTweet n s
  | .tweetDone n z => Sys2Proof.Machine.execTweetDone n z s
  | .hpoCfgWrite n v => Sys2Proof.Machine.execHpoCfgWrite n v s
  | .hpoStart n => Sys2Proof.Machine.execHpoStart n s
  | .hpoRampDone n => Sys2Proof.Machine.execHpoRampDone n s
  | .hpoStopDone n => Sys2Proof.Machine.execHpoStopDone n s
  | .hpoShort n => Sys2Proof.Machine.execHpoShort n s
  | .hpoRestart n => Sys2Proof.Machine.execHpoRestart n s
  | .hpoRecovered n => Sys2Proof.Machine.execHpoRecovered n s
  | .hpoCpFault mv => Sys2Proof.Machine.execHpoCpFault mv s
  | .hpoClear n => Sys2Proof.Machine.execHpoClear n s
  | .detJackCfgWrite j v => Sys2Proof.Machine.execDetJackCfgWrite j v s
  | .jackEdge j level => Sys2Proof.Machine.execJackEdge j level s
  | .detInsert j => Sys2Proof.Machine.execDetInsert j s
  | .jackSeatEnd j => Sys2Proof.Machine.execJackSeatEnd j s
  | .detSample j code => Sys2Proof.Machine.execDetSample j code s
  | .detRemove j => Sys2Proof.Machine.execDetRemove j s
  | .reident j => Sys2Proof.Machine.execReident j s
  | .linkDetect p => Sys2Proof.Machine.execLinkDetect p s
  | .chnLinkUp p k => Sys2Proof.Machine.execChnLinkUp p k s
  | .chnLinkDown p cause => Sys2Proof.Machine.execChnLinkDown p cause s
  | .retrainUp => Sys2Proof.Machine.execRetrainUp s
  | .retrainDn => Sys2Proof.Machine.execRetrainDn s
  | .chainFrameRx p f => Sys2Proof.Machine.execChainFrameRx p f s
  | .deal force => Sys2Proof.Machine.execDeal force s
  | .dealRsp u => Sys2Proof.Machine.execDealRsp u s
  | .chnDealDone => Sys2Proof.Machine.execChnDealDone s
  | .topoAttach u => Sys2Proof.Machine.execTopoAttach u s
  | .detachTimeout p => Sys2Proof.Machine.execDetachTimeout p s
  | .topoDetach u => Sys2Proof.Machine.execTopoDetach u s
  | .idleUnit u => Sys2Proof.Machine.execIdleUnit u s
  | .write u => Sys2Proof.Machine.execWrite u s
  | .read u => Sys2Proof.Machine.execRead u s
  | .readRsp u => Sys2Proof.Machine.execReadRsp u s
  | .cmd u => Sys2Proof.Machine.execCmd u s
  | .cpl u => Sys2Proof.Machine.execCpl u s
  | .event u => Sys2Proof.Machine.execEvent u s
  | .ack u => Sys2Proof.Machine.execAck u s
  | .tunnelResend v => Sys2Proof.Machine.execTunnelResend v s
  | .resetRpt u => Sys2Proof.Machine.execResetRpt u s
  | .chnTunGo => Sys2Proof.Machine.execChnTunGo s
  | .chnTunTimeout => Sys2Proof.Machine.execChnTunTimeout s
  | .ringCfgWrite r v => Sys2Proof.Machine.execRingCfgWrite r v s
  | .ringTailWrite r v => Sys2Proof.Machine.execRingTailWrite r v s
  | .ringHeadWrite r v => Sys2Proof.Machine.execRingHeadWrite r v s
  | .skip r => Sys2Proof.Machine.execSkip r s
  | .retry r => Sys2Proof.Machine.execRetry r s
  | .flush r => Sys2Proof.Machine.execFlush r s
  | .ringNop r => Sys2Proof.Machine.execRingNop r s
  | .waitFrame r => Sys2Proof.Machine.execWaitFrame r s
  | .waitFrames r => Sys2Proof.Machine.execWaitFrames r s
  | .waitEvent r => Sys2Proof.Machine.execWaitEvent r s
  | .waitPower r => Sys2Proof.Machine.execWaitPower r s
  | .waitEnd r => Sys2Proof.Machine.execWaitEnd r s
  | .fence r => Sys2Proof.Machine.execFence r s
  | .fenceEnd r => Sys2Proof.Machine.execFenceEnd r s
  | .abort r => Sys2Proof.Machine.execAbort r s
  | .fold r => Sys2Proof.Machine.execFold r s
  | .param r => Sys2Proof.Machine.execParam r s
  | .calibrateAll r => Sys2Proof.Machine.execCalibrateAll r s
  | .calibrateAin r => Sys2Proof.Machine.execCalibrateAin r s
  | .calibrateSpk r => Sys2Proof.Machine.execCalibrateSpk r s
  | .calibrateHpo r => Sys2Proof.Machine.execCalibrateHpo r s
  | .calibrateHka r => Sys2Proof.Machine.execCalibrateHka r s
  | .calInstall target offset gain => Sys2Proof.Machine.execCalInstall target offset gain s
  | .hkaAutoCal => Sys2Proof.Machine.execHkaAutoCal s
  | .bankTest r => Sys2Proof.Machine.execBankTest r s
  | .nvsRead r => Sys2Proof.Machine.execNvsRead r s
  | .nvsWrite r failing => Sys2Proof.Machine.execNvsWrite r failing s
  | .annalsFlush r => Sys2Proof.Machine.execAnnalsFlush r s
  | .annalsFreeze r => Sys2Proof.Machine.execAnnalsFreeze r s
  | .annalsUnfreeze r => Sys2Proof.Machine.execAnnalsUnfreeze r s
  | .annalsClear r => Sys2Proof.Machine.execAnnalsClear r s
  | .clearKeySet r failing => Sys2Proof.Machine.execClearKeySet r failing s
  | .auxXfer r read o => Sys2Proof.Machine.execAuxXfer r read o s
  | .auxClear r o => Sys2Proof.Machine.execAuxClear r o s
  | .resetWarm r => Sys2Proof.Machine.execResetWarm r s
  | .resetFabric r => Sys2Proof.Machine.execResetFabric r s
  | .hostBusWrite addr v stretch => Sys2Proof.Machine.execHostBusWrite addr v stretch s
  | .hostBusRead addr stretch => Sys2Proof.Machine.execHostBusRead addr stretch s
  | .hostTransactionEnd addr received hs => Sys2Proof.Machine.execHostTransactionEnd addr received hs s
  | .twbTimeout addr received sdaLow => Sys2Proof.Machine.execTwbTimeout addr received sdaLow s
  | .alertResponse won => Sys2Proof.Machine.execAlertResponse won s
  | .dormantAddressMatch own stretch => Sys2Proof.Machine.execDormantAddressMatch own stretch s
  | .bankRelease b canaryOk => Sys2Proof.Machine.execBankRelease b canaryOk s
  | .regionTest b region => Sys2Proof.Machine.execRegionTest b region s
  | .regionTestEnd b failing => Sys2Proof.Machine.execRegionTestEnd b failing s
  | .pwrPlWrite v => Sys2Proof.Machine.execPwrPlWrite v s
  | .powerGood => Sys2Proof.Machine.execPowerGood s
  | .plChange => Sys2Proof.Machine.execPlChange s
  | .pwrPgTimeout => Sys2Proof.Machine.execPwrPgTimeout s
  | .pwrPgLost => Sys2Proof.Machine.execPwrPgLost s
  | .sleepEntry => Sys2Proof.Machine.execSleepEntry s
  | .pwrEntryTimeout => Sys2Proof.Machine.execPwrEntryTimeout s
  | .wake => Sys2Proof.Machine.execWake s
  | .wakeTimer => Sys2Proof.Machine.execWakeTimer s
  | .sleepExit cycles rcCycles => Sys2Proof.Machine.execSleepExit cycles rcCycles s
  | .pwrXoFail cause => Sys2Proof.Machine.execPwrXoFail cause s
  | .pwrLfxFail => Sys2Proof.Machine.execPwrLfxFail s
  | .pwrLfxResume cycles => Sys2Proof.Machine.execPwrLfxResume cycles s
  | .curatorWindow b => Sys2Proof.Machine.execCuratorWindow b s
  | .scrubRead array tile upset => Sys2Proof.Machine.execScrubRead array tile upset s
  | .curatorWriteBack addr => Sys2Proof.Machine.execCuratorWriteBack addr s
  | .telemetry => Sys2Proof.Machine.execTelemetry s
  | .sectorMove failing => Sys2Proof.Machine.execSectorMove failing s
  | .hkaScan => Sys2Proof.Machine.execHkaScan s
  | .conv c => Sys2Proof.Machine.execConv c s
  | .hkaConversionDone c code locked => Sys2Proof.Machine.execHkaConversionDone c code locked s
  | .tachEdge period => Sys2Proof.Machine.execTachEdge period s
  | .hkaTachLost => Sys2Proof.Machine.execHkaTachLost s
  | .pfail => Sys2Proof.Machine.execPfail s
  | .pfailClear => Sys2Proof.Machine.execPfailClear s
  | .annalsAutoFlush => Sys2Proof.Machine.execAnnalsAutoFlush s
  | .flushDone failing logFails => Sys2Proof.Machine.execFlushDone failing logFails s
  | .nvsFreezeTo => Sys2Proof.Machine.execNvsFreezeTo s
  | .nvsCalSet v => Sys2Proof.Machine.execNvsCalSet v s
  | .faultNLow => Sys2Proof.Machine.execFaultNLow s
  | .faultNHigh => Sys2Proof.Machine.execFaultNHigh s
  | .keepFolded => Sys2Proof.Machine.execKeepFolded s
  | .keepForced mask => Sys2Proof.Machine.execKeepForced mask s
  | .release => Sys2Proof.Machine.execRelease s
  | .keepCmdFold => Sys2Proof.Machine.execKeepCmdFold s
  | .kick v => Sys2Proof.Machine.execKick v s
  | .keepWdt => Sys2Proof.Machine.execKeepWdt s
  | .keepThermClr => Sys2Proof.Machine.execKeepThermClr s
  | .spdTxCfgWrite v => Sys2Proof.Machine.execSpdTxCfgWrite v s
  | .powerLoss => Sys2Proof.Machine.execPowerLoss s
  | .privNRise => Sys2Proof.Machine.execPrivNRise s
  | .spkZeroStateEnd n => Sys2Proof.Machine.execSpkZeroStateEnd n s
  | .hpoServoEnd n => Sys2Proof.Machine.execHpoServoEnd n s
  | .trainingTimeout p => Sys2Proof.Machine.execTrainingTimeout p s
  | .returnToDormant => Sys2Proof.Machine.execReturnToDormant s

end Sys2Proof.Machine
end

