-- ==== Sys2Proof/Safety.lean ====
section
/-! DEFINITION. What statements about the whole machine are said in: the canonical form of its memories, what a command answers,
and what an event may change. -/

namespace Sys2Proof.Machine

/-- The canonical form of a memory whose unlisted bytes read `d`: addresses strictly rising, no entry equal to `d`. -/
abbrev Memory.wf (d : Byte) (m : List Host.Cell) : Prop := mapWf d m = true

/-- Every memory of the machine is in canonical form: the device address space and the nonvolatile store, whose unlisted bytes
read 0, and the codex flash, whose unlisted bytes read 0xFF. -/
abbrev State.Stored (s : State) : Prop := Memory.wf 0 s.mem ∧ Memory.wf 0 s.nvs ∧ Memory.wf 0xFF s.flash

/-- A safe run: every memory stays in canonical form and no step stops. -/
def safeRun : Nat → State → Prop
  | 0, s => s.Stored
  | k + 1, s => s.Stored ∧ ∃ t, step s = .next t ∧ safeRun k t

/-- The command answers a next state, and `p` holds of it. -/
def Answers (i : Instr) (s : State) (p : State → Prop) : Prop := ∃ t, exec i s = .next t ∧ p t

/-- No byte of the device address space, of the nonvolatile store or of the flash changes. -/
def SameBytes (s t : State) : Prop :=
  ∀ a, t.memByte a = s.memByte a ∧ mapGet 0 t.nvs a = mapGet 0 s.nvs a ∧ mapGet 0xFF t.flash a = mapGet 0xFF s.flash a

/-- The register fields that an event's record in the annals and its alert may change (R395, R497 to R502). -/
def eventFlds : List Fld :=
  [NVS_STAT_BUF_LEVEL, NVS_STAT_FLUSHING, NVS_CNT_REPEATS, NVS_CNT_DROPPED, NVS_SUM_LOST, TWB_ALERT_STAT_SRC, TWB_STAT_ANSWERED]

/-- The field is one of `l`. -/
def fldIn (l : List Fld) (f : Fld) : Bool := l.any (fun g => Fld.key g == Fld.key f)

/-- Every register field keeps its value, but for those of `l`. -/
def SameRegs (l : List Fld) (s t : State) : Prop := ∀ f, fldIn l f = false → t.get f = s.get f

/-- Every register field keeps its value, but for those of `l` and those that events change. -/
def SameRegsEv (l : List Fld) (s t : State) : Prop := SameRegs (l ++ eventFlds) s t

/-- What R149 asks of the interpolation kernel of a rate bridge at `ratio`, its output rate over its input rate in units of 2^-44, which the
model leaves free (log 40): the transform of the kernel, in cycles per input period, stays within ±0.01 dB up to 0.4535 × Fmin and lies 110
dB down from 0.5465 × Fmin on. -/
def BridgeKernelMeets (ratio : Nat) : Prop :=
  ∀ f : ℝ,
    let w := Config.bridgeSpan ratio
    let h : ℂ := (∑ p ∈ Finset.range (2 ^ 44), ∑ j ∈ Finset.range (min 256 (w.1 + w.2 + 1)),
      (Config.bridgeTap ratio p j : ℂ) * Complex.exp (-(2 * Real.pi * f * (w.1 + p / 2 ^ 44 - j)) * Complex.I)) / 2 ^ 92
    let fmin : ℝ := min 1 (ratio / 2 ^ 44)
    (0 ≤ f → f ≤ 0.4535 * fmin → (10 : ℝ) ^ (-(0.01 : ℝ) / 20) ≤ ‖h‖ ∧ ‖h‖ ≤ (10 : ℝ) ^ ((0.01 : ℝ) / 20)) ∧
    (0.5465 * fmin ≤ f → ‖h‖ ≤ (10 : ℝ) ^ (-(110 : ℝ) / 20))

end Sys2Proof.Machine
end

