-- ==== Sys2Proof/Certificates/Slice0/Obligations.lean ====
section
/-! DEFINITION. The statements for the provers, with the few notions they share. -/

namespace Sys2Proof.Machine

/-! ### Shared notions -/

/-- The instruction at the PC of running tile `t` is `m`, of opcode `o`: it is fetched without an uncorrectable error, it is legal,
its condition holds, it waits neither on a CURR input nor on the section engine, it ends within the tick's budget with
`stalls` extra cycles, and instruction 191, behind which the tick ends, lies ahead of it (R61, R63, R65, R68, R69). -/
structure Executes (s : State) (t o stalls : Nat) (m : Micro) : Prop where
  running : s.tileState t = 2
  fetched : s.fetchMicro t = some m
  opcode : m.opc.toNat = o
  legal : m.illegal = false
  cond : o ≠ 0x20 → condHolds (s.tile t) m.cond.toNat = true
  input : (s.tile t).waitsFor m = none
  engine : (s.tile t).waitsEngine m = false
  budget : (s.tile t).doneCycle m + stalls ≤ (s.tile t).budget
  before : (s.tile t).pc < 191

/-- The cell that operand code `c` delivers to tile `t`. -/
def State.operand (s : State) (t c : Nat) : Word := (s.readOperand t c).1

/-- Tile `t` with `v` written to DST, and ZF and NF following it (R65). -/
def State.resultTile (s : State) (t : Nat) (m : Micro) (v : Word) : Tile :=
  (setZN (s.tile t) (audioOf v)).writeOperand m.dst.toNat v

/-- Tile `t` has become `x`, at the next instruction and in the cycle in which `m` ends after `stalls`; the other tiles are
unchanged. -/
def TileRan (s u : State) (t stalls : Nat) (m : Micro) (x : Tile) : Prop :=
  u.tile t = { x with pc := (s.tile t).pc + 1, cyc := (s.tile t).doneCycle m + stalls } ∧ ∀ k, k ≠ t → u.tile k = s.tile k

/-- No byte has changed, and no register field but those of `l` and what events change. -/
def Quiet (l : List Fld) (s u : State) : Prop := SameBytes s u ∧ SameRegsEv l s u

/-- No byte has changed, and no register field but the count of corrected words and what events change. -/
def TileQuiet (s u : State) : Prop := Quiet [FAB_ECC_CNT_CORRECTED] s u

/-- Ring `r` takes up the command of words `ws` at its HEAD (R353, R359, R363): it may start, the words are undamaged and in the
form of the opcode table, and no ABORT has marked the command. -/
structure TakesUp (s : State) (r : Nat) (ws : List Nat) : Prop where
  start : s.canStart r = true
  words : s.headWords r = ws
  unmarked : (s.ring r).marks.contains (s.headSeq r) = false
  clean : s.headBad r = false
  same : (s.ring r).retrySeq.isSome = true → ws.length = (s.ring r).haltNw
  form : cmdMalformed ws = false

/-- The command at HEAD of ring `r` has completed with status `st` and result `res` (R354, R359, R372): its completion waits
where the completion ring has no space; else the ring has moved on, or halted. -/
def Completes (s : State) (r st res : Nat) (u : State) : Prop :=
  if s.cplFull r then
    u.get (RING_STAT_STATE r) = 4 ∧ (u.ring r).waiting = some (cplWords s r (s.headSeq r) ((s.headWords r).headD 0 % 256) st res
      (s.ring r).retrySeq.isSome)
  else mapFind (u.ring r).hist (s.headSeq r % 65536) = some st ∧ u.get (RING_STAT_STATE r) = (if halts st then 3 else 1)

/-- The command at HEAD of ring `r` is in execution (R353, R359): the ring is BUSY. -/
def Runs (s : State) (r : Nat) (u : State) : Prop :=
  u.get (RING_STAT_STATE r) = 2 ∧ (u.ring r).exec.map (fun e => (e.seq, e.words)) = some (s.headSeq r, s.headWords r)

/-- The command `e` in execution on ring `r` has completed with status `st` and result `res` (R354, R359, R372). -/
def Finishes (s : State) (r : Nat) (e : Exec) (st res : Nat) (u : State) : Prop :=
  if s.cplFull r then
    u.get (RING_STAT_STATE r) = 4 ∧
    (u.ring r).waiting = some (cplWords s r e.seq (e.words.headD 0 % 256) st res (s.ring r).retrySeq.isSome)
  else mapFind (u.ring r).hist (e.seq % 65536) = some st ∧ u.get (RING_STAT_STATE r) = (if halts st then 3 else 1)

/-- The status with which the check of a COEF_GROUP of words `ws` fails, if it fails (R95). -/
def State.groupFails (s : State) (ws : List Nat) : Option Nat :=
  match s.groupBlock (bits (ws.headD 0) 36 17) 4096 4096 with
  | .error e => some e.1
  | .ok _ => none

/-- The coefficient words of that group: tile, slot and word (R93). -/
def State.groupWords (s : State) (ws : List Nat) : List (Nat × Nat × Word) :=
  match s.groupBlock (bits (ws.headD 0) 36 17) 4096 4096 with
  | .error _ => []
  | .ok l => l

/-- The group that a COEF_GROUP of ring `r` forms, not yet staged (R93, R95). -/
def State.groupMade (s : State) (r : Nat) (ws : List Nat) : Group :=
  { ring := r, seq := s.headSeq r, settle := bits (ws.headD 0) 16 8
    at_ := if bitOf (ws.headD 0) 24 then some (bits (ws.getD 1 0) 0 32) else none
    staged := false, stagedAt := s.frame, words := s.groupWords ws
    secs := ((s.groupWords ws).map (fun p => (p.1, p.2.1 / 5))).eraseDups }

/-- What a CODEX_LOAD of words `ws` asks for: 0 a full load, 1 one shelf, 2 verification only (R170, R172, R178). -/
def codexKind (ws : List Nat) : Nat := if bitOf (ws.headD 0) 23 then 2 else if bitOf (ws.headD 0) 18 then 1 else 0

/-- The row that takes up a CODEX_LOAD of that kind at the HEAD of ring `r`: CODEX_LOAD, CODEX_LOAD_SHELF or CODEX_LOAD_VERIFY. -/
def codexRow (r : RingIx) (busy low : Nat) : Nat → Instr
  | 0 => .codexLoad r busy low
  | 1 => .codexLoadShelf r busy low
  | _ => .codexLoadVerify r busy low

/-- The row of a CALIBRATE of target `t` on ring `r`: CALIBRATE_ALL, _AIN, _SPK, _HPO or _HKA (R476). -/
def calRow (r : RingIx) (t : Nat) : Instr :=
  if t = 0 then .calibrateAll r else if t < 0x10 then .calibrateAin r else if t < 0x18 then .calibrateSpk r
  else if t < 0x20 then .calibrateHpo r else .calibrateHka r

/-- The byte at flash address `a`. -/
def State.flashAt (s : State) (a : Nat) : Byte := mapGet 0xFF s.flash a

/-- The fifteen fields of SAP_CFG of port `n`. -/
def sapCfgFlds (n : Nat) : List Fld :=
  [SAP_CFG_EN n, SAP_CFG_ROLE n, SAP_CFG_FMT n, SAP_CFG_DOM n, SAP_CFG_SLOTS n, SAP_CFG_SWIDTH n, SAP_CFG_WLEN n, SAP_CFG_DELAY n,
   SAP_CFG_FS_LONG n, SAP_CFG_BCLK_INV n, SAP_CFG_FS_INV n, SAP_CFG_START_MODE n, SAP_CFG_TX_UNUSED n, SAP_CFG_ALIGN n,
   SAP_CFG_ALIGN_LAG n]

/-- The fields of SPK_CFG of channel `n`. -/
def spkFields (n : Nat) : List Fld :=
  [SPK_CFG_EN n, SPK_CFG_FS_V n, SPK_CFG_MUTE n, SPK_CFG_PILOT_EN n, SPK_CFG_VC_FOLD_EN n, SPK_CFG_RLY_EN n, SPK_CFG_IMP_WIN n,
   SPK_CFG_LOAD_CHK n]

/-- The state of channel `n` as SPK_STAT shows it, with the stagger of every channel. -/
def spkShown (n : Nat) : List Fld :=
  [SPK_STAT_STATE n, SPK_STAT_FAULT_CAUSE n, SPK_STAT_RELAY n, SPK_STAT_HIZ n, SPK_STAT_PHASE 0, SPK_STAT_PHASE 1,
   SPK_STAT_PHASE 2, SPK_STAT_PHASE 3]

/-- Everything is as it was. -/
def Unmoved (s u : State) : Prop := u = s

/-- Every byte of the device address space outside the eight from `a` on is unchanged. -/
def SameOutside (a : Nat) (s u : State) : Prop := ∀ b, (b < a ∨ a + 8 ≤ b) → u.memByte b = s.memByte b

/-- Nothing waits for partner `k`, and its replay buffer has room (R335). -/
def TunnelFree (s : State) (k : Nat) : Prop := mapGet [] s.chain.sendq k = [] ∧ (mapGet [] s.chain.replay k).length < 64

/-- Unit `x` has left for partner `k` with the next SEQ, and stays in the replay buffer (R335). -/
def Sends (k : Nat) (x : TunUnit) (s u : State) : Prop :=
  let y : TunUnit := { x with hdr := withSeq x.hdr (mapGet 0 s.chain.txSeq k) }
  u.chain.outbox = s.chain.outbox ++ [y] ∧ mapGet [] u.chain.replay k = mapGet [] s.chain.replay k ++ [y] ∧
  mapGet 0 u.chain.txSeq k = (mapGet 0 s.chain.txSeq k + 1) % 65536

/-- Unit `x` of partner `k` has been taken: the next one is awaited, and an ACK of it leaves last (R335). -/
def Acks (k : Nat) (x : TunUnit) (u : State) : Prop :=
  mapGet 0 u.chain.rxSeq k = (tunSeq x.hdr + 1) % 65536 ∧
  (u.chain.outbox.getLast?).map (fun y => (tunType y.hdr, y.data)) = some (7, [tunSeq x.hdr])

end Sys2Proof.Machine

open Sys2Proof Sys2Proof.Machine

/-! ### Tile instructions -/

/-- R30, R31, R62, R64 to R66 and R70: MOV, MOVF and LDI; NOP, SECW, TSTF, CMP, SETLC, JMP and END. Model choices: log entries 28
and 34. -/
def Obligations.TileMovesControlAndEnd : Prop :=
  ((∀ (s : State) (t : TileIx) (m : Micro), Executes s t 0x02 0 m → Answers (.mov t) s (fun u =>
    TileRan s u t 0 m (s.resultTile t m (s.operand t m.srca.toNat)) ∧ TileQuiet s u)) ∧
  (∀ (s : State) (t : TileIx) (m : Micro), Executes s t 0x03 0 m → Answers (.movf t) s (fun u =>
    TileRan s u t 0 m (s.resultTile t m (mkCell (audioOf (s.operand t m.srca.toNat)) (tagOf (s.operand t m.srca.toNat))
      (flagsOf (s.operand t m.srca.toNat) &&& (255 ^^^ (m.imm.toNat % 256 &&& (flagS ||| flagP ||| flagX ||| flagC)))))) ∧
    TileQuiet s u)) ∧
  (∀ (s : State) (t : TileIx) (m : Micro), Executes s t 0x04 0 m → Answers (.ldi t) s (fun u =>
    TileRan s u t 0 m (s.resultTile t m (mkCell (toSigned 32 m.imm.toNat * 2 ^ 8) (s.tile t).tickFrame flagV)) ∧ TileQuiet s u))) ∧
  (∀ (s : State) (t : TileIx) (m : Micro),
    let x := s.tile t
    let done := fun (y : Tile) (u : State) => TileRan s u t 0 m y ∧ TileQuiet s u
    (Executes s t 0x00 0 m → Answers (.nop t) s (done x)) ∧
    (Executes s t 0x23 0 m → Answers (.secw t) s (done x)) ∧
    (Executes s t 0x0C 0 m → Answers (.tstf t) s (done { x with
      t := decide (flagsOf (s.operand t m.srca.toNat) &&& m.imm.toNat % 256 ≠ 0) })) ∧
    (Executes s t 0x0D 0 m → Answers (.cmp t) s (done (setZN x
      (satSigned 40 (audioOf (s.operand t m.srca.toNat) - audioOf (s.operand t m.srcb.toNat)))))) ∧
    (Executes s t 0x21 0 m → Answers (.setlc t) s (done { x with lc := m.imm.toNat % 65536 })) ∧
    (Executes s t 0x20 0 m → condHolds x m.cond.toNat = false → Answers (.jmp t) s (fun u =>
      u.tile t = { x with pc := x.pc + 1, cyc := x.cyc + 1 } ∧ TileQuiet s u)) ∧
    (Executes s t 0x20 1 m → condHolds x m.cond.toNat = true → Answers (.jmp t) s (fun u =>
      u.tile t = { x with pc := m.imm.toNat % 256, cyc := x.cyc + 2, lc := if m.cond.toNat = 7 then x.lc - 1 else x.lc } ∧
      TileQuiet s u)) ∧
    (Executes s t 0x01 0 m → Answers (.endRun t) s (fun u =>
      u.tileState t = (if x.stopReq then 3 else 1) ∧
      (x.stopReq = true → u.get (FAB_TILE_STAT_STOP_REASON t) = 5 ∧ u.get (FAB_TILE_STAT_STOP_PC t) = x.pc) ∧
      (u.tile t).ended = true ∧ (u.tile t).com = some x.out ∧
      (u.tile t).pubs.head? = some { tick := x.tickNo, cells := outCells x.out (s.tileOuts t) } ∧
      u.get (FAB_TILE_STAT_LAST_CYC t) = min (x.doneCycle m) 16383 ∧ u.get (FAB_TILE_STAT_OVR_CONSEC t) = 0)))

/-- R65 to R67: ADD, SUB, MAX and MIN write the saturated result of SRCA and SRCB with their flags ORed; ABS, MULI, SHL and RECIP
write the saturated result of SRCA with its flags. Model choices: log entries 6, 39 and 57. -/
def Obligations.TileArithmeticResults : Prop :=
  (∀ (s : State) (t : TileIx) (m : Micro),
    let a := audioOf (s.operand t m.srca.toNat)
    let b := audioOf (s.operand t m.srcb.toNat)
    let done := fun (v : Int) (u : State) => TileRan s u t 0 m (s.resultTile t m (aluCell (s.tile t) v
      (flagsOf (s.operand t m.srca.toNat) ||| flagsOf (s.operand t m.srcb.toNat)))) ∧ TileQuiet s u
    (Executes s t 0x05 0 m → Answers (.add t) s (done (a + b))) ∧
    (Executes s t 0x06 0 m → Answers (.sub t) s (done (a - b))) ∧
    (Executes s t 0x08 0 m → Answers (.max t) s (done (max a b))) ∧
    (Executes s t 0x09 0 m → Answers (.min t) s (done (min a b)))) ∧
  (∀ (s : State) (t : TileIx) (m : Micro),
    let a := audioOf (s.operand t m.srca.toNat)
    let done := fun (v : Int) (u : State) => TileRan s u t 0 m (s.resultTile t m (aluCell (s.tile t) v
      (flagsOf (s.operand t m.srca.toNat)))) ∧ TileQuiet s u
    let r := m.mod.getLsbD 0
    (Executes s t 0x07 0 m → Answers (.abs t) s (done (a.natAbs : Int))) ∧
    (Executes s t 0x0A 0 m → Answers (.muli t) s (done (shiftRound r (a * toSigned 32 m.imm.toNat) 24))) ∧
    (Executes s t 0x0B 0 m → 0 ≤ toSigned 6 m.imm.toNat →
      Answers (.shl t) s (done (a * 2 ^ (toSigned 6 m.imm.toNat).toNat))) ∧
    (Executes s t 0x0B 0 m → toSigned 6 m.imm.toNat < 0 →
      Answers (.shl t) s (done (shiftRound r a (-(toSigned 6 m.imm.toNat)).toNat))) ∧
    (Executes s t 0x1D 0 m → a ≠ 0 → ∃ v : Int, Answers (.recip t) s (done v) ∧
      ((2 : Int) ^ 64 - 2 ^ 40 < v * a ∧ v * a < 2 ^ 64 + 2 ^ 40)) ∧
    (Executes s t 0x1D 0 m → a = 0 → ∃ v : Int, Answers (.recip t) s (done v) ∧ (v = 2 ^ 40 ∨ v = -2 ^ 40)))

/-- R64, R66, R67: MUL, MAC, MSU, MACI, ACLR, ACWR and ACRD. Model choices: log entries 6 and 57. -/
def Obligations.TileAccumulatorResults : Prop :=
  ∀ (s : State) (t : TileIx) (m : Micro),
    let x := s.tile t
    let n := m.acs.toNat
    let a := s.operand t m.srca.toNat
    let b := s.operand t m.srcb.toNat
    let g := toSigned 32 m.imm.toNat
    let done := fun (v : Int) (f : Nat) (u : State) =>
      (u.tile t).acc n = satSigned 96 v ∧ (u.tile t).accF n = ((f ||| (if satSigned 96 v = v then 0 else flagC)) % 256) ∧
      (u.tile t).acc (1 - n) = x.acc (1 - n) ∧ (u.tile t).accF (1 - n) = x.accF (1 - n) ∧
      (u.tile t).d = x.d ∧ (u.tile t).out = x.out ∧ (u.tile t).zf = x.zf ∧ (u.tile t).nf = x.nf ∧
      (u.tile t).pc = x.pc + 1 ∧ (u.tile t).cyc = x.doneCycle m ∧ (∀ k : Nat, k ≠ t.val → u.tile k = s.tile k) ∧ TileQuiet s u
    (Executes s t 0x10 0 m → Answers (.mul t) s (done (audioOf a * audioOf b) (flagsOf a ||| flagsOf b))) ∧
    (Executes s t 0x11 0 m → Answers (.mac t) s (done (x.acc n + audioOf a * audioOf b) (x.accF n ||| flagsOf a ||| flagsOf b))) ∧
    (Executes s t 0x12 0 m → Answers (.msu t) s (done (x.acc n - audioOf a * audioOf b) (x.accF n ||| flagsOf a ||| flagsOf b))) ∧
    (Executes s t 0x13 0 m → Answers (.maci t) s (done (x.acc n + audioOf a * g * 2 ^ 8) (x.accF n ||| flagsOf a))) ∧
    (Executes s t 0x14 0 m → Answers (.aclr t) s (done 0 0)) ∧
    (Executes s t 0x16 0 m → Answers (.acwr t) s (done (audioOf a * 2 ^ 32) (flagsOf a))) ∧
    (Executes s t 0x15 0 m → Answers (.acrd t) s (fun u => TileRan s u t 0 m (s.resultTile t m (aluCell x
      (shiftRound (m.mod.getLsbD 0) (x.acc n) (32 - toSigned 6 m.imm.toNat).toNat) (x.accF n))) ∧ TileQuiet s u))

/-- R47, R49, R66, R419, R424: LDS, STS, ADDA, LDB and STB. Model choices: log entries 9, 36, 54 and 55. -/
def Obligations.TileLoadsAndStores : Prop :=
  ∀ (s : State) (t : TileIx) (m : Micro) (stalls : Nat),
    let x := s.tile t
    let n := m.imm.toNat / 256 % 4
    let off := m.imm.toNat % 256
    let cell := ramAddr t (((s.areg t n).1 + (mapGet 0 x.ptr n + off) % (s.areg t n).2) % 256)
    let bank := (m.imm.toNat % 2 ^ 20 + (if m.mod.getLsbD 1 then x.lc else 0)) % 2 ^ 20
    let b := bank / 0x20000
    let w := bank % 0x20000
    (Executes s t 0x18 0 m → s.mark cell ≠ 2 → Answers (.lds t) s (fun u =>
      TileRan s u t 0 m (s.resultTile t m (s.memWord cell)) ∧ TileQuiet s u)) ∧
    (Executes s t 0x18 0 m → s.mark cell = 2 → s.on FAB_CTL_STATE_ECC_STOP = false → Answers (.lds t) s (fun u =>
      TileRan s u t 0 m (s.resultTile t m (mkCell 0 (s.frame % 65536) flagE)) ∧ SameBytes s u)) ∧
    (Executes s t 0x18 0 m → s.mark cell = 2 → s.on FAB_CTL_STATE_ECC_STOP = true → Answers (.lds t) s (fun u =>
      u.tileState t = 3 ∧ u.get (FAB_TILE_STAT_STOP_REASON t) = 4 ∧ u.get (FAB_TILE_STAT_STOP_PC t) = x.pc)) ∧
    (Executes s t 0x19 0 m → Answers (.sts t) s (fun u =>
      TileRan s u t 0 m x ∧ u.memWord cell = s.operand t m.srca.toNat ∧ u.mark cell = 0 ∧ SameOutside cell s u)) ∧
    (Executes s t 0x1A 0 m → Answers (.adda t) s (fun u =>
      TileRan s u t 0 m { x with ptr := mapSet 0 x.ptr n ((mapGet 0 x.ptr n + off) % (s.areg t n).2) } ∧ TileQuiet s u)) ∧
    (Executes s t 0x1B stalls m → s.bankUp b = true → s.bit MEM_LOST_SUM_LOST b = false → s.mark (bankAddr b w) ≠ 2 →
      ¬ (b = 5 ∧ 0x1C000 ≤ w ∧ w < 0x1E000) → Answers (.ldb t stalls) s (fun u =>
      TileRan s u t stalls m (s.resultTile t m (s.memWord (bankAddr b w))) ∧ SameBytes s u)) ∧
    (Executes s t 0x1B stalls m → s.bankUp b = false ∨ s.bit MEM_LOST_SUM_LOST b = true → Answers (.ldb t stalls) s (fun u =>
      TileRan s u t stalls m (s.resultTile t m (mkCell 0 (s.frame % 65536) flagZ)) ∧ SameBytes s u)) ∧
    (Executes s t 0x1C stalls m → s.bankUp b = true → ¬ (b = 5 ∧ 0x1C000 ≤ w) → Answers (.stb t stalls) s (fun u =>
      TileRan s u t stalls m x ∧ u.memWord (bankAddr b w) = s.operand t m.srca.toNat ∧ SameOutside (bankAddr b w) s u)) ∧
    (Executes s t 0x1C stalls m → s.bankUp b = false → Answers (.stb t stalls) s (fun u =>
      TileRan s u t stalls m x ∧ SameBytes s u))

/-- R62, R66: VFIR adds the products of two regions to the accumulator; VLMS moves every cell of a region by SRCA times the cell of
the other. Neither region holds an uncorrectable cell here; for VLMS the cells it reads and writes are distinct. Model choices:
log entry 56. -/
def Obligations.TileVectorResults : Prop :=
  ∀ (s : State) (t : TileIx) (m : Micro),
    let x := s.tile t
    let n := m.acs.toNat
    let len := m.imm.toNat % 256 + 1
    let ca := fun (i : Nat) => ramAddr t (s.aregCell t (m.imm.toNat / 256 % 4) i)
    let cb := fun (i : Nat) => ramAddr t (s.aregCell t (m.imm.toNat / 1024 % 4) i)
    let sum := (List.range len).foldl (fun v i => v + audioOf (s.memWord (ca i)) * audioOf (s.memWord (cb i))) (x.acc n)
    (Executes s t 0x1E 0 m → (∀ i, i < len → s.mark (ca i) ≠ 2 ∧ s.mark (cb i) ≠ 2) → Answers (.vfir t) s (fun u =>
      (u.tile t).acc n = satSigned 96 sum ∧ (u.tile t).acc (1 - n) = x.acc (1 - n) ∧ (u.tile t).pc = x.pc + 1 ∧
      (u.tile t).cyc = x.doneCycle m ∧ TileQuiet s u)) ∧
    (Executes s t 0x1F 0 m → (∀ i, i < len → s.mark (ca i) ≠ 2 ∧ s.mark (cb i) ≠ 2) →
      (∀ i j, i < len → j < len → ca i ≠ cb j ∧ (cb i = cb j → i = j)) → Answers (.vlms t) s (fun u =>
      (∀ i, i < len → audioOf (u.memWord (cb i)) = satSigned 40 (audioOf (s.memWord (cb i)) +
        shiftRound (m.mod.getLsbD 0) (audioOf (s.operand t m.srca.toNat) * audioOf (s.memWord (ca i))) 32)) ∧
      (∀ b, (∀ i, i < len → b < cb i ∨ cb i + 8 ≤ b) → u.memByte b = s.memByte b) ∧
      TileRan s u t 0 m x))

/-- R51 to R53, R55, R68 to R70, R83, R86: a tick's start, the section engine's run and its end, an illegal instruction, a CURR
input that arrives, and an overrun. Model choices: log entries 29, 35, 56 and 58. -/
def Obligations.TileTicksRunsAndStops : Prop :=
  ∀ (s : State) (t : TileIx),
    let x := s.tile t
    let d := s.tileDomain t
    (∀ m : Micro, Executes s t 0x22 0 m → m.imm.toNat / 4096 % 2 = 0 → m.imm.toNat / 16384 % 4 = 0 → Answers (.sec t) s (fun u =>
      (u.tile t).run = some { first := m.imm.toNat % 64, count := m.imm.toNat / 64 % 64, cell := s.operand t m.srca.toNat
                              pos := 0, nextEnd := x.doneCycle m + kindCycles (s.secKind t (m.imm.toNat % 64)) } ∧
      (u.tile t).pc = x.pc + 1)) ∧
    (∀ q : SecRun, x.run = some q → s.tileState t = 2 → s.runEnd t q ≤ x.budget → Answers (.secRunDone t) s (fun u =>
      (u.tile t).run = none ∧ (u.tile t).secEnd = s.runEnd t q)) ∧
    (∀ m : Micro, s.tileState t = 2 → s.fetchMicro t = some m → m.illegal = true → x.run = none →
      max x.cyc x.secEnd + 1 ≤ x.budget → Answers (.illegalInstruction t) s (fun u =>
      u.tileState t = 3 ∧ u.get (FAB_TILE_STAT_STOP_REASON t) = 2 ∧ u.get (FAB_TILE_STAT_STOP_PC t) = x.pc % 256 ∧
      (u.tile t).pubs.head? = some { tick := x.tickNo, cells := outCells x.out (s.tileOuts t) })) ∧
    (∀ (n : Nat) (c : Word) (e stalls : Nat) (m : Micro), x.waitIn = some n → s.currCell t n = some (c, e) →
      s.fetchMicro t = some m → m.illegal = false → m.opc.toNat = 0x02 → m.srca.toNat = 0x10 + n → m.cond.toNat = 0 → n < 8 →
      s.tileState t = 2 → x.pc < 191 → max x.cyc e + 1 ≤ x.budget → Answers (.currRead t stalls) s (fun u =>
      (u.tile t).waitIn = none ∧ mapGet none (u.tile t).inp n = some c ∧ (u.tile t).cyc = max x.cyc e + 1 ∧
      (u.tile t).pc = x.pc + 1)) ∧
    (∀ at_ : Nat, s.tileState t = 2 → x.tickNo ≠ s.domTick d → x.run = none → x.secEnd ≤ x.cyc → x.stopReq = false →
      (∀ m, s.fetchMicro t = some m → m.opc.toNat ≠ 0x1C ∧ m.opc.toNat ≠ 0x1E ∧ m.opc.toNat ≠ 0x1F) →
      s.get FAB_CTL_OVR_LIMIT = 0 → Answers (.tileOverrun t at_) s (fun u =>
      u.tileState t = 1 ∧ (u.tile t).cyc = min x.budget (max x.cyc at_) ∧ u.get (FAB_TILE_STAT_OVR_CONSEC t) = min (s.get (FAB_TILE_STAT_OVR_CONSEC t) + 1) 255 ∧
      u.get (FAB_TILE_OVRCNT_OVR_COUNT t) = min (s.get (FAB_TILE_OVRCNT_OVR_COUNT t) + 1) (2 ^ 32 - 1) ∧
      u.bit FAB_OVR_SUM_SHELF_OVR (t.val / 64) = true ∧
      (u.tile t).pubs.head?.map (fun p => p.cells) = some (fillCells (s.frame % 65536) x.com (s.tileOuts t)))) ∧
    (∀ fo : Nat, s.tileState t = 1 → d ≠ 0 → x.tickNo ≠ s.domTick d → x.pend = [] → s.hasBankIn t = false →
      Answers (.tileTick t fo) s (fun u =>
      u.tileState t = 2 ∧ (u.tile t).pc = 0 ∧ (u.tile t).cyc = 0 ∧ (u.tile t).tickNo = s.domTick d ∧
      (u.tile t).tickFrame = s.frame % 65536 ∧ (u.tile t).budget = s.budgetOf d))

/-! ### Rate domains and bridges -/

/-- R134, R136, R137, R143, R151, R188 and R558: a write of CLK_DOMB_CFG with a reserved code changes nothing; any other takes
effect in whole, and domain B is in ACQUIRE at once with a source, and FREE at its next strobe with INTERNAL. R188: a port in
controller role that becomes the source has an invalid configuration; domain B locks and ends its holdover, and a clock monitor
stops, slips, resumes and changes rate. Model choices: log entries 41, 61 and 62. -/
def Obligations.ClockDomainsConfigureLockAndFail : Prop :=
  (∀ (s : State) (v : Word),
    let src := bits v.toNat 0 3
    let rate := bits v.toNat 4 3
    (6 ≤ src ∨ 5 ≤ rate → Answers (.clkDombCfgWrite v) s (Unmoved s)) ∧
    (src < 6 → rate < 5 → Answers (.clkDombCfgWrite v) s (fun u =>
      u.get CLK_DOMB_CFG_SRC = src ∧ u.get CLK_DOMB_CFG_RATE = rate ∧ u.get CLK_DOMB_CFG_AUTO_RATE = bits v.toNat 12 1 ∧
      u.get CLK_DOMB_CFG_HOLD_MS = bits v.toNat 16 16 ∧ u.dombFree = decide (src = 0) ∧
      (src = 0 → u.get CLK_DOMB_STAT_RATE = s.get CLK_DOMB_STAT_RATE ∧ u.get CLK_DOMB_STAT_STATE = s.get CLK_DOMB_STAT_STATE ∧
        u.dombStrobe.get CLK_DOMB_STAT_RATE = rate ∧ u.dombStrobe.get CLK_DOMB_STAT_STATE = 0) ∧
      (src ≠ 0 → u.get CLK_DOMB_STAT_RATE = rate ∧ u.get CLK_DOMB_STAT_STATE = 1) ∧
      (1 ≤ src → src ≤ 4 → s.get (SAP_CFG_ROLE (src - 1)) = 1 → s.get (SAP_STAT_CFG_ERR (src - 1)) = 0 →
        u.get (SAP_STAT_CFG_ERR (src - 1)) = 1 ∧ u.get (SAP_STAT_STATE (src - 1)) = 0 ∧ u.get SAP_SUM_CFG_ERR = 1 ∧
        0x0506 ∈ u.occ) ∧
      Quiet [CLK_DOMB_CFG_SRC, CLK_DOMB_CFG_RATE, CLK_DOMB_CFG_AUTO_RATE, CLK_DOMB_CFG_HOLD_MS, CLK_DOMB_STAT_RATE,
        CLK_DOMB_STAT_STATE, SPD_RX_STAT_STATE, SAP_STAT_STATE (src - 1), SAP_STAT_CFG_ERR (src - 1), SAP_SUM_CFG_ERR] s u))) ∧
  (∀ (s : State) (m : MonIx),
    (∀ meas : Nat, meas < 2 ^ 32 → s.get CLK_DOMB_STAT_STATE = 1 → Answers (.dombLocked meas) s (fun u =>
      u.get CLK_DOMB_STAT_STATE = 2 ∧ u.get CLK_DOMB_STAT_MEAS = meas ∧
      Quiet [CLK_DOMB_STAT_STATE, CLK_DOMB_STAT_MEAS] s u)) ∧
    (s.get CLK_DOMB_STAT_STATE = 3 → s.get CLK_DOMB_CFG_HOLD_MS ≠ 0 →
      s.framesOfMs (s.get CLK_DOMB_CFG_HOLD_MS) ≤ s.frameAgo s.holdSince → Answers .dombHoldEnd s (fun u =>
      u.get CLK_DOMB_STAT_STATE = 0 ∧ u.get CLK_EVT_SUM_HOLD_END = 1 ∧ 0x0206 ∈ u.occ ∧
      Quiet [CLK_DOMB_STAT_STATE, CLK_EVT_SUM_HOLD_END] s u)) ∧
    (s.monState m = 1 ∨ s.monState m = 3 → s.sourceMon ≠ some m.val → m.val < 4 → Answers (.clkStop m) s (fun u =>
      u.get (CLK_MON_STAT_STATE m) = 2 ∧ u.bit CLK_EVT_SUM_STOP m = true ∧ 0x0201 ∈ u.occ ∧
      u.get (SAP_STAT_STATE m) = (if s.get (SAP_STAT_STATE m) = 2 ∨ s.get (SAP_STAT_STATE m) = 3 then 4
        else s.get (SAP_STAT_STATE m)) ∧
      u.get (CLK_MON_CNT_STOPS m) = satNat 16 (s.get (CLK_MON_CNT_STOPS m) + 1) ∧
      Quiet [CLK_MON_STAT_STATE m, CLK_MON_CNT_STOPS m, CLK_EVT_SUM_STOP, SAP_STAT_STATE m] s u)) ∧
    (s.monState m = 1 ∨ s.monState m = 3 → m.val = 4 → Answers (.clkStop m) s (fun u =>
      u.get (CLK_MON_STAT_STATE m) = 2 ∧ 0x0201 ∈ u.occ ∧
      u.get SPD_RX_STAT_STATE = (if s.get SPD_RX_STAT_STATE = 2 then 3 else s.get SPD_RX_STAT_STATE) ∧
      (s.get SPD_RX_STAT_STATE = 2 → u.get SPD_SUM_UNLOCK = 1))) ∧
    (s.monState m = 1 ∨ s.monState m = 3 → m.val = 5 → s.get CLK_DOMA_STAT_STATE ≠ 2 → Answers (.clkStop m) s (fun u =>
      u.get (CLK_MON_STAT_STATE m) = 2 ∧ u.get CLK_DOMA_STAT_STATE = 2 ∧ u.get CLK_EVT_SUM_DOMA_HOLD = 1 ∧
      0x0201 ∈ u.occ ∧ 0x0208 ∈ u.occ)) ∧
    (s.monState m = 1 ∨ s.monState m = 3 → s.sourceMon = some m.val → s.get CLK_DOMB_STAT_STATE = 2 →
      s.get CLK_DOMB_STAT_MEAS ≠ 0 → Answers (.clkStop m) s (fun u => u.get CLK_DOMB_STAT_STATE = 3 ∧ u.heldB = s.get CLK_DOMB_STAT_MEAS ∧ u.holdSince = s.frame)) ∧
    (∀ off : Nat, s.monState m = 1 → Answers (.clkSlip m off) s (fun u =>
      u.get (CLK_MON_CNT_SLIPS m) = satNat 16 (s.get (CLK_MON_CNT_SLIPS m) + 1) ∧ u.bit CLK_EVT_SUM_SLIP m = true ∧
      0x0202 ∈ u.occ ∧ (m.val < 4 → (u.port m).slip = true) ∧ (m.val = 4 → u.spd.slip = true) ∧
      Quiet [CLK_MON_CNT_SLIPS m, CLK_EVT_SUM_SLIP] s u)) ∧
    (∀ period rate : Nat, period < 2 ^ 32 → s.monState m = 2 ∨ s.monState m = 3 → s.sourceMon ≠ some m.val →
      Answers (.clkResume m period rate) s (fun u =>
      u.get (CLK_MON_STAT_STATE m) = 1 ∧ u.get (CLK_MON_STAT_PERIOD m) = period ∧ mapFind u.monRate m = some rate ∧
      0x0204 ∈ u.occ ∧
      (m.val < 4 → s.get (SAP_STAT_STATE m) = 4 → u.get (SAP_STAT_STATE m) = 4 ∧ (u.port m).resume = true) ∧
      (m.val = 4 → s.get SPD_RX_STAT_STATE = 3 → u.get SPD_RX_STAT_STATE = 1) ∧
      Quiet [CLK_MON_STAT_STATE m, CLK_MON_STAT_PERIOD m, SPD_RX_STAT_STATE] s u)) ∧
    (∀ period rate : Nat, rate < 2 ^ 32 → s.monState m = 2 → s.sourceMon = some m.val → s.get CLK_DOMB_STAT_STATE = 3 →
      nearRate rate s.heldB = true → Answers (.clkResume m period rate) s (fun u =>
      u.get CLK_DOMB_STAT_STATE = 2 ∧ u.get CLK_DOMB_STAT_MEAS = rate)) ∧
    (∀ meas : Nat, s.monState m = 1 → nearRate meas (s.tracked m) = false → s.sourceMon ≠ some m.val →
      Answers (.clkRate m meas) s (fun u =>
      mapFind u.monRate m = some meas ∧ u.get (CLK_MON_CNT_RATE_CHG m) = satNat 16 (s.get (CLK_MON_CNT_RATE_CHG m) + 1) ∧
      u.bit CLK_EVT_SUM_RATE m = true ∧ 0x0203 ∈ u.occ ∧
      Quiet [CLK_MON_CNT_RATE_CHG m, CLK_EVT_SUM_RATE] s u)))

/-- R145 to R148: the seven commands of a rate bridge. Model choices: log entries 12, 40 and 41. -/
def Obligations.RateBridgeEffects : Prop :=
  ∀ (s : State) (b : EightIx),
    (∀ v : Word, Answers (.brgCfgWrite b v) s (fun u =>
      u.get (BRG_STAT_STATE b) = 0 ∧ u.get (BRG_STAT_CFG_ERR b) = b2n (brgInvalid v.toNat) ∧
      u.get (BRG_CFG_EN b) = bits v.toNat 0 1 ∧ u.get (BRG_CFG_IN_DOM b) = bits v.toNat 1 2 ∧
      u.get (BRG_CFG_OUT_DOM b) = bits v.toNat 3 2 ∧ u.get (BRG_CFG_CHANS b) = bits v.toNat 5 5 ∧
      u.get (BRG_CFG_SETTLE b) = bits v.toNat 16 8 ∧
      (s.get (BRG_STAT_STATE b) = 2 ∨ s.get (BRG_STAT_STATE b) = 3 → u.bit BRG_SUM_UNLOCK b = true) ∧
      Quiet [BRG_SUM_UNLOCK, BRG_STAT_STATE b, BRG_STAT_FILL b, BRG_STAT_SETTLE_LEFT b, BRG_STAT_CFG_ERR b, BRG_CFG_EN b, BRG_CFG_IN_DOM b,
        BRG_CFG_OUT_DOM b, BRG_CFG_CHANS b, BRG_CFG_SETTLE b] s u)) ∧
    (∀ ratio : Nat, ratio < 2 ^ 48 → s.get (BRG_STAT_STATE b) = 1 → s.get (BRG_CFG_SETTLE b) < 256 →
      Answers (.brgSettle b ratio) s (fun u =>
      u.get (BRG_STAT_STATE b) = 2 ∧ u.get (BRG_RATIO_RATIO b) = ratio ∧ (u.brg b).locked = ratio ∧
      u.get (BRG_STAT_SETTLE_LEFT b) = 16 * s.get (BRG_CFG_SETTLE b) ∧
      Quiet [BRG_STAT_STATE b, BRG_RATIO_RATIO b, BRG_STAT_SETTLE_LEFT b] s u)) ∧
    (s.get (BRG_STAT_STATE b) = 2 → s.get (BRG_STAT_SETTLE_LEFT b) = 0 → Answers (.brgLock b) s (fun u =>
      u.get (BRG_STAT_STATE b) = 3 ∧ 0x1202 ∈ u.occ ∧ Quiet [BRG_STAT_STATE b] s u)) ∧
    (∀ ratio : Nat, ratio < 2 ^ 48 → s.get (BRG_STAT_STATE b) = 2 ∨ s.get (BRG_STAT_STATE b) = 3 →
      nearRate ratio (s.brg b).locked = false → Answers (.brgUnlock b ratio) s (fun u =>
      u.get (BRG_STAT_STATE b) = 1 ∧ u.get (BRG_RATIO_RATIO b) = ratio ∧ u.bit BRG_SUM_UNLOCK b = true ∧
      u.get (BRG_CNT_RELOCKS b) = satNat 16 (s.get (BRG_CNT_RELOCKS b) + 1) ∧ 0x1201 ∈ u.occ ∧
      Quiet [BRG_STAT_STATE b, BRG_RATIO_RATIO b, BRG_STAT_SETTLE_LEFT b, BRG_SUM_UNLOCK, BRG_CNT_RELOCKS b] s u)) ∧
    (∀ ratio : Nat, ratio < 2 ^ 48 → s.get (BRG_STAT_STATE b) = 2 ∨ s.get (BRG_STAT_STATE b) = 3 →
      nearRate ratio (s.brg b).locked = true → Answers (.brgUnlock b ratio) s (fun u =>
      u.get (BRG_STAT_STATE b) = s.get (BRG_STAT_STATE b) ∧ u.get (BRG_RATIO_RATIO b) = ratio ∧
      Quiet [BRG_RATIO_RATIO b] s u)) ∧
    (s.get (BRG_STAT_STATE b) ≠ 0 → s.get (BRG_STAT_STATE b) ≠ 4 → Answers (.bridgeHold b) s (fun u =>
      u.get (BRG_STAT_STATE b) = 4 ∧
      (s.get (BRG_STAT_STATE b) = 2 ∨ s.get (BRG_STAT_STATE b) = 3 → u.bit BRG_SUM_UNLOCK b = true) ∧
      Quiet [BRG_STAT_STATE b, BRG_STAT_SETTLE_LEFT b, BRG_SUM_UNLOCK] s u)) ∧
    (s.get (BRG_STAT_STATE b) = 4 → Answers (.bridgeResume b) s (fun u =>
      u.get (BRG_STAT_STATE b) = 1 ∧ (u.brg b).since = 0 ∧ (u.brg b).fifo = (s.brg b).fifo ∧
      Quiet [BRG_STAT_STATE b, BRG_STAT_SETTLE_LEFT b] s u)) ∧
    (s.get (BRG_STAT_STATE b) = 2 ∨ s.get (BRG_STAT_STATE b) = 3 → 8 * 2 ^ 44 < (s.brg b).phaseErr.natAbs →
      Answers (.brgSlip b) s (fun u =>
      u.get (BRG_STAT_STATE b) = s.get (BRG_STAT_STATE b) ∧ (u.brg b).phaseErr.natAbs ≤ 2 ^ 43 ∧ u.bit BRG_SUM_SLIP b = true ∧
      u.get (BRG_CNT_SLIPS b) = satNat 16 (s.get (BRG_CNT_SLIPS b) + 1) ∧ 0x1203 ∈ u.occ ∧
      Quiet [BRG_SUM_SLIP, BRG_CNT_SLIPS b, BRG_STAT_FILL b] s u))

/-! ### Serial audio ports and the IEC 60958 interface -/

/-- R188 to R195, R199 and R213: a write of SAP_CFG takes effect, waits for the boundary at which the running port stops, or is
rejected; a write of SAP_MUTE sets the mutes; frames of a running port and the ends of its mute ramps. Model choices: log
entries 42 and 43. -/
def Obligations.SerialPortsConfigureAndMoveFrames : Prop :=
  (∀ (s : State) (p : FourIx) (v : Word),
    let bad := sapInvalid p v.toNat (rateHz (s.get CLK_DOMB_STAT_MAXRATE)) (s.get CLK_DOMB_CFG_SRC) s.rate96
    let quiet := fun (u : State) => sapImage u p = v.toNat % 2 ^ 25 ∧
      Quiet (sapCfgFlds p ++ [SAP_STAT_STATE p, SAP_STAT_CFG_ERR p, SAP_SUM_CFG_ERR]) s u
    (bad = true → Answers (.sapCfgWrite p v) s (fun u =>
      u.get (SAP_STAT_CFG_ERR p) = 1 ∧ u.get (SAP_STAT_STATE p) = 0 ∧ u.get SAP_SUM_CFG_ERR = 1 ∧ 0x0506 ∈ u.occ ∧ quiet u)) ∧
    (bad = false → 3 ≤ s.get (SAP_STAT_STATE p) → Answers (.sapCfgWrite p v) s (fun u =>
      u.get (SAP_STAT_CFG_ERR p) = 0 ∧ u.get (SAP_STAT_STATE p) = s.get (SAP_STAT_STATE p) ∧ sapImage u p = sapImage s p ∧
      u.port p = { s.port p with pendCfg := some (v.toNat % 2 ^ 25) } ∧ Quiet [SAP_STAT_CFG_ERR p] s u ∧
      (u.portBoundary p).get (SAP_STAT_STATE p) = (if bitOf v.toNat 0 && bitOf v.toNat 18 && !s.portHold then 1 else 0) ∧
      sapImage (u.portBoundary p) p = v.toNat % 2 ^ 25)) ∧
    (bad = false → s.get (SAP_STAT_STATE p) < 3 → bitOf v.toNat 0 = true → s.portHold = false → Answers (.sapCfgWrite p v) s
      (fun u => u.get (SAP_STAT_CFG_ERR p) = 0 ∧ u.get (SAP_STAT_STATE p) = bits v.toNat 18 1 ∧
      (u.port p).beginNext = !bitOf v.toNat 18 ∧ quiet u)) ∧
    Answers (.sapMuteWrite p v) s (fun u =>
      u.get (SAP_MUTE_TX_MUTE p) = bits v.toNat 0 1 ∧ u.get (SAP_MUTE_RX_MUTE p) = bits v.toNat 1 1 ∧
      Quiet [SAP_MUTE_TX_MUTE p, SAP_MUTE_RX_MUTE p] s u)) ∧
  (∀ (s : State) (p : FourIx),
    let x := s.port p
    let slots := List.range (s.get (SAP_CFG_SLOTS p) + 1)
    let target := s.on (SAP_CFG_ROLE p) = false ∧ s.on (SAP_CFG_EN p) = true ∧ s.awake = true
    (s.on (SAP_MUTE_TX_MUTE p) = true → s.rampTicks (s.sapDom p) ≤ x.txRamp → Answers (.portMuteRampEnd p true) s (fun u =>
      u.get (SAP_STAT_TX_MUTED p) = 1 ∧ Quiet [SAP_STAT_TX_MUTED p] s u)) ∧
    (s.on (SAP_MUTE_TX_MUTE p) = false → s.forcedMute = false → Answers (.portMuteRampEnd p true) s (fun u =>
      u.get (SAP_STAT_TX_MUTED p) = 0 ∧ Quiet [SAP_STAT_TX_MUTED p] s u)) ∧
    (s.on (SAP_MUTE_RX_MUTE p) = true → s.rampTicks (s.sapDom p) ≤ x.rxRamp → Answers (.portMuteRampEnd p false) s (fun u =>
      u.get (SAP_STAT_RX_MUTED p) = 1 ∧ Quiet [SAP_STAT_RX_MUTED p] s u)) ∧
    (s.on (SAP_MUTE_RX_MUTE p) = false → Answers (.portMuteRampEnd p false) s (fun u =>
      u.get (SAP_STAT_RX_MUTED p) = 0 ∧ Quiet [SAP_STAT_RX_MUTED p] s u)) ∧
    (∀ din : List Bool, s.get (SAP_STAT_STATE p) = 3 → x.rxDue = true → x.slip = false → s.on (SAP_CFG_ALIGN p) = false →
      x.rxNew = none → Answers (.sapRxFrame p din) s (fun u =>
      u.port p = { x with rxDue := false, rxNew := some (slots.map (fun i => s.rxCell p i din)) } ∧ Quiet [] s u)) ∧
    (∀ din : List Bool, s.get (SAP_STAT_STATE p) = 3 → x.rxDue = true → x.slip = true → s.on (SAP_CFG_ALIGN p) = false →
      x.rxNew = none → Answers (.sapRxFrame p din) s (fun u =>
      u.port p = { x with rxDue := false, slip := false, rxNew := some (slots.map (fun i =>
        repeatFill s.tag (mapFind x.rxLast i))) } ∧ Quiet [] s u)) ∧
    (∀ din : List Bool, s.get (SAP_STAT_STATE p) = 3 → x.rxDue = true → s.on (SAP_CFG_ALIGN p) = false →
      x.rxNew.isSome = true → x.rxGot = true → Answers (.sapRxFrame p din) s (fun u =>
      u.port p = { x with rxDue := false, slip := false } ∧ u.get (SAP_CNT_RX_OVR p) = satNat 16 (s.get (SAP_CNT_RX_OVR p) + 1) ∧ u.bit SAP_SUM_RX_OVR p = true ∧
      Quiet [SAP_CNT_RX_OVR p, SAP_SUM_RX_OVR] s u)) ∧
    (s.on (SAP_CFG_ROLE p) = true → Answers (.sapTxFrame p) s (Unmoved s)) ∧
    (target → s.get (SAP_STAT_STATE p) = 3 → x.txNew = true → Answers (.sapTxFrame p) s (fun u =>
      (u.port p).txSent = x.txVal ∧ (u.port p).txNew = false ∧ (u.port p).txRun = false ∧ (u.port p).rxDue = true ∧
      (u.port p).line.dout = (((x.carry ++ List.replicate (s.dataDelay p) (some false)).take (s.dataDelay p)) ++
        slots.flatMap (fun i => s.slotLine p i (mapFind x.txVal i))).take (s.frameBits p) ∧ Quiet [] s u)) ∧
    (target → s.get (SAP_STAT_STATE p) = 3 → x.txNew = false → x.txRun = false → Answers (.sapTxFrame p) s (fun u =>
      u.get (SAP_CNT_TX_UNR p) = satNat 16 (s.get (SAP_CNT_TX_UNR p) + 1) ∧ u.bit SAP_SUM_TX_UNR p = true ∧
      (u.port p).txRun = true ∧ (∀ i : Nat, i ≤ s.get (SAP_CFG_SLOTS p) →
        mapFind (u.port p).txSent i = some (repeatFill s.tag (mapFind x.txSent i))) ∧ 0x0502 ∈ u.occ ∧
      Quiet [SAP_CNT_TX_UNR p, SAP_SUM_TX_UNR, CLK_MON_CNT_SLIPS p, CLK_EVT_SUM_SLIP] s u)) ∧
    (target → s.get (SAP_STAT_STATE p) = 2 → s.frame < 2 ^ 32 → Answers (.sapTxFrame p) s (fun u =>
      u.get (SAP_STAT_STATE p) = 3 ∧ u.get (SAP_STAT_START_FRAME p) = s.frame ∧ (u.port p).txSent = x.txVal ∧
      Quiet [SAP_STAT_STATE p, SAP_STAT_START_FRAME p] s u)))

/-- R200 to R205: the triggers of a common start, the START command, and the start at boundary S. Model choices: log entry 81. -/
def Obligations.CommonStartBeginsPorts : Prop :=
  ∀ (s : State),
    let fixed := fun (u : State) => u.get SAP_START_STAT_PENDING = 1 ∧
      u.get SAP_START_STAT_START_FRAME = (s.frame + s.startLead) % 2 ^ 32
    let frame := Quiet [SAP_START_STAT_PENDING, SAP_START_STAT_START_FRAME] s
    let ignored := fun (u : State) => u.get SAP_START_STAT_IGNORED = satNat 8 (s.get SAP_START_STAT_IGNORED + 1) ∧
      Quiet [SAP_START_STAT_IGNORED] s u
    (∀ rising : Bool, s.on SAP_START_CFG_BALL_EDGE ≠ rising → s.on SAP_START_CFG_BALL_EN = true → s.awake = true →
      s.triggerOk = true → s.on SAP_START_STAT_PENDING = false → Answers (.startBallEdge rising) s (fun u => fixed u ∧ frame u)) ∧
    (∀ rising : Bool, s.on SAP_START_CFG_BALL_EDGE ≠ rising → s.on SAP_START_CFG_BALL_EN = true → s.awake = true →
      s.triggerOk = true → s.on SAP_START_STAT_PENDING = true → Answers (.startBallEdge rising) s ignored) ∧
    (∀ v : Word, bitOf v.toNat 0 = true → s.triggerOk = true → s.on SAP_START_STAT_PENDING = false →
      Answers (.sapStartGo v) s (fun u => fixed u ∧ frame u)) ∧
    (∀ v : Word, bitOf v.toNat 0 = true → s.triggerOk = true → s.on SAP_START_STAT_PENDING = true →
      Answers (.sapStartGo v) s ignored) ∧
    (∀ (r : RingIx) (ws : List Nat), TakesUp s r ws → ws.headD 0 % 256 = 0x09 → s.triggerOk = true →
      s.on SAP_START_STAT_PENDING = false → bitOf (ws.headD 0) 16 = false → Answers (.start r) s (fun u => fixed u ∧ Runs s r u)) ∧
    (∀ (r : RingIx) (ws : List Nat), TakesUp s r ws → ws.headD 0 % 256 = 0x09 → s.triggerOk = false →
      Answers (.start r) s (Completes s r stNotPermitted 0)) ∧
    (s.on SAP_START_STAT_PENDING = true → later (s.get SAP_START_STAT_START_FRAME) s.frame = false → s.executors 0x09 = [] →
      s.frame < 2 ^ 32 → Answers .portStart s (fun u =>
      u.get SAP_START_STAT_PENDING = 0 ∧ 0x0504 ∈ u.occ ∧
      (∀ n : FourIx, s.get (SAP_STAT_STATE n) = 1 → s.on (SAP_CFG_ROLE n) = false →
        u.get (SAP_STAT_STATE n) = (if 2 ≤ s.monState n then 4 else 2)) ∧
      (∀ n : FourIx, s.get (SAP_STAT_STATE n) = 1 → s.on (SAP_CFG_ROLE n) = true → s.on (SAP_CFG_DOM n) = false →
        u.get (SAP_STAT_STATE n) = 3 ∧ u.get (SAP_STAT_START_FRAME n) = s.frame) ∧
      (∀ n : FourIx, s.get (SAP_STAT_STATE n) ≠ 1 → u.get (SAP_STAT_STATE n) = s.get (SAP_STAT_STATE n)) ∧ SameBytes s u))

/-- R199 and R206 to R211: the receiver is enabled and disabled, locks and unlocks, takes subframes, and latches a block's bits; the
transmitter is configured, takes committed words, and starts a block with them. Model choices: log entry 44. -/
def Obligations.SpdifReceivesAndTransmits : Prop :=
  (∀ (s : State),
    (∀ v : Word, bitOf v.toNat 0 = false → Answers (.spdRxCfgWrite v) s (fun u =>
      u.get SPD_RX_STAT_STATE = 0 ∧ u.get SPD_RX_CFG_EN = 0 ∧ u.spd.last = none ∧
      u.get SPD_SUM_UNLOCK = (if s.get SPD_RX_STAT_STATE = 2 then 1 else s.get SPD_SUM_UNLOCK) ∧
      Quiet [SPD_SUM_UNLOCK, SPD_RX_CFG_EN, SPD_RX_CFG_MUTE_NONPCM, SPD_RX_CFG_START_MODE, SPD_RX_STAT_STATE] s u)) ∧
    (∀ v : Word, bitOf v.toNat 0 = true → s.get SPD_RX_STAT_STATE = 0 → s.portHold = false → Answers (.spdRxCfgWrite v) s
      (fun u => u.get SPD_RX_STAT_STATE = 1 ∧ u.get SPD_RX_CFG_EN = 1 ∧
      u.get SPD_RX_CFG_MUTE_NONPCM = bits v.toNat 1 1 ∧ u.spd.armed = bitOf v.toNat 2 ∧
      Quiet [SPD_RX_CFG_EN, SPD_RX_CFG_MUTE_NONPCM, SPD_RX_CFG_START_MODE, SPD_RX_STAT_STATE] s u)) ∧
    (∀ rate : Nat, rate ≤ 4 → s.get SPD_RX_STAT_STATE = 1 → Answers (.spdLock rate) s (fun u =>
      u.get SPD_RX_STAT_STATE = 2 ∧ u.get SPD_RX_STAT_RATE = rate ∧ u.get SPD_SUM_LOCK = 1 ∧ 0x0601 ∈ u.occ ∧
      Quiet [SPD_RX_STAT_STATE, SPD_RX_STAT_RATE, SPD_SUM_LOCK] s u)) ∧
    (s.get SPD_RX_STAT_STATE = 2 → Answers .spdUnlock s (fun u =>
      u.get SPD_RX_STAT_STATE = 1 ∧ u.get SPD_SUM_UNLOCK = 1 ∧ u.spd.last = none ∧ 0x0602 ∈ u.occ ∧
      Quiet [SPD_RX_STAT_STATE, SPD_SUM_UNLOCK] s u)) ∧
    (∀ w : Nat, s.get SPD_RX_STAT_STATE = 2 → s.spd.armed = false → popCount 28 (bits w 4 28) % 2 = 0 →
      Answers (.spdSubframe false w false none) s (fun u =>
      u.spd.half = some (mkCell (widen 24 (bits w 4 24)) s.tag (if bitOf w 28 then 0 else flagV)) ∧ Quiet [] s u)) ∧
    (∀ (w : Nat) (a : Word), s.get SPD_RX_STAT_STATE = 2 → s.spd.armed = false → s.spd.slip = false →
      popCount 28 (bits w 4 28) % 2 = 0 → s.spd.half = some a → s.spd.rxNew = none →
      Answers (.spdSubframe true w false none) s (fun u =>
      u.spd.rxNew = some (a, mkCell (widen 24 (bits w 4 24)) s.tag (if bitOf w 28 then 0 else flagV)) ∧ u.spd.half = none ∧
      Quiet [] s u)) ∧
    (∀ w : Nat, s.get SPD_RX_STAT_STATE = 2 → popCount 28 (bits w 4 28) % 2 = 1 → Answers (.spdSubframe false w false none) s (fun u =>
      u.get SPD_RX_CNT_PARITY = satNat 16 (s.get SPD_RX_CNT_PARITY + 1) ∧ u.get SPD_SUM_PARITY = 1 ∧
      Quiet [SPD_RX_CNT_PARITY, SPD_SUM_PARITY] s u)) ∧
    (∀ (w off : Nat) (ch start : Bool), s.get SPD_RX_STAT_STATE = 2 → s.spd.armed = true ∨ ch = false →
      Answers (.spdSubframe ch w start (some off)) s (fun u =>
      u.get SPD_RX_CNT_BIPHASE = satNat 16 (s.get SPD_RX_CNT_BIPHASE + 1) ∧ u.bit CLK_EVT_SUM_SLIP 4 = true ∧
      u.get (CLK_MON_CNT_SLIPS 4) = satNat 16 (s.get (CLK_MON_CNT_SLIPS 4) + 1) ∧ u.spd.slip = true ∧ u.spd.capPos = none ∧
      0x0202 ∈ u.occ ∧ Quiet [SPD_RX_CNT_BIPHASE, CLK_MON_CNT_SLIPS 4, CLK_EVT_SUM_SLIP] s u)) ∧
    (s.get SPD_RX_STAT_STATE = 2 → s.spd.capPos ≠ some 192 → Answers .spdBlockEnd s (Unmoved s)) ∧
    (s.get SPD_RX_STAT_STATE = 2 → s.spd.capPos = some 192 → Answers .spdBlockEnd s (fun u =>
      (∀ k : Fin 3, u.get (SPD_RX_CS_DATA k) = bits s.spd.capC.1 (64 * k) 64 ∧
        u.get (SPD_RX_CS_DATA (k + 3)) = bits s.spd.capC.2 (64 * k) 64 ∧
        u.get (SPD_RX_UD_DATA k) = bits s.spd.capU.1 (64 * k) 64 ∧
        u.get (SPD_RX_UD_DATA (k + 3)) = bits s.spd.capU.2 (64 * k) 64) ∧ u.spd.capPos = none ∧
      u.get SPD_RX_STAT_BLOCK_SEQ = (s.get SPD_RX_STAT_BLOCK_SEQ + 1) % 2 ^ 16 ∧
      u.get SPD_RX_STAT_NONPCM = bits s.spd.capC.1 1 1 ∧ SameBytes s u))) ∧
  (∀ (s : State) (v : Word),
    let fields := [SPD_TX_CFG_EN, SPD_TX_CFG_CS_SRC, SPD_TX_CFG_UD_SRC, SPD_TX_CFG_CS_AUTO_FS, SPD_TX_CFG_START_MODE,
      SPD_TX_CFG_MUTE, SPD_TX_STAT_STATE]
    (bitOf v.toNat 0 = false → Answers (.spdTxCfgWrite v) s (fun u =>
      u.get SPD_TX_STAT_STATE = 0 ∧ u.get SPD_TX_CFG_EN = 0 ∧ u.get SPD_TX_CFG_MUTE = bits v.toNat 5 1 ∧ Quiet fields s u)) ∧
    (bitOf v.toNat 0 = true → s.get SPD_TX_STAT_STATE = 0 → s.portHold = false → s.spd.beginB = false →
      Answers (.spdTxCfgWrite v) s (fun u =>
      u.get SPD_TX_STAT_STATE = bits v.toNat 4 1 ∧ u.get SPD_TX_CFG_EN = 1 ∧ u.get SPD_TX_CFG_CS_SRC = bits v.toNat 1 1 ∧
      u.get SPD_TX_CFG_UD_SRC = bits v.toNat 2 1 ∧ u.get SPD_TX_CFG_CS_AUTO_FS = bits v.toNat 3 1 ∧
      (bitOf v.toNat 4 = false → u.spd.beginNext = true) ∧ Quiet fields s u)) ∧
    Answers (.txCsCommit v) s (fun u =>
      u.get SPD_TX_STAT_CS_PEND = 1 ∧ u.get (SPD_TX_CS_DATA 5) = v.toNat ∧
      u.spd.csPend = some [s.get (SPD_TX_CS_DATA 0), s.get (SPD_TX_CS_DATA 1), s.get (SPD_TX_CS_DATA 2),
        s.get (SPD_TX_CS_DATA 3), s.get (SPD_TX_CS_DATA 4), v.toNat] ∧
      Quiet [SPD_TX_CS_DATA 5, SPD_TX_STAT_CS_PEND] s u) ∧
    Answers (.txUdCommit v) s (fun u =>
      u.get SPD_TX_STAT_CS_PEND = 1 ∧ u.get (SPD_TX_UD_DATA 5) = v.toNat ∧
      u.spd.udPend = some [s.get (SPD_TX_UD_DATA 0), s.get (SPD_TX_UD_DATA 1), s.get (SPD_TX_UD_DATA 2),
        s.get (SPD_TX_UD_DATA 3), s.get (SPD_TX_UD_DATA 4), v.toNat] ∧
      Quiet [SPD_TX_UD_DATA 5, SPD_TX_STAT_CS_PEND] s u) ∧
    (s.get SPD_TX_STAT_STATE = 2 → 192 ≤ s.spd.pos → Answers .spdTxBlockStart s (fun u =>
      u.spd.pos = 0 ∧ u.get SPD_TX_STAT_BLOCK_SEQ = (s.get SPD_TX_STAT_BLOCK_SEQ + 1) % 2 ^ 16 ∧
      u.get SPD_TX_STAT_CS_PEND = 0 ∧
      u.spd.cs = (if s.on SPD_TX_CFG_CS_SRC then s.getSix SPD_RX_CS_DATA else s.spd.csPend.getD s.spd.csReg) ∧
      u.spd.ud = (if s.on SPD_TX_CFG_UD_SRC then s.getSix SPD_RX_UD_DATA else s.spd.udPend.getD s.spd.udReg) ∧
      Quiet [SPD_TX_STAT_BLOCK_SEQ, SPD_TX_STAT_CS_PEND] s u)))

/-! ### Analog and PDM capture, the wake engine -/

/-- R219, R224, R229 to R232, R237, R255 and R307: an analog input is configured, and its start, its settling and its gain step end;
privacy mute engages, times its release, and releases. Model choices: log entry 45. -/
def Obligations.AnalogInputsStartAndPrivacyMutes : Prop :=
  (∀ (s : State) (n : SixIx) (v : Word),
    let fields := [AIN_CFG_EN n, AIN_CFG_INMODE n, AIN_CFG_PGA n, AIN_CFG_FILT n, AIN_CFG_HPF n, AIN_CFG_PGA_ZC n, AIN_CFG_ZC_TO n,
      AIN_CFG_BIAS_SEL n]
    let stats := [AIN_STAT_STATE n, AIN_STAT_CFG_ERR n, AIN_STAT_OVR n, AIN_STAT_ZC_WAIT n, AIN_STAT_PGA_APPLIED n,
      AIN_STAT_SETTLE_LEFT n]
    let taken := fun (u : State) => u.get (AIN_CFG_EN n) = bits v.toNat 0 1 ∧ u.get (AIN_CFG_INMODE n) = bits v.toNat 1 2 ∧
      u.get (AIN_CFG_PGA n) = bits v.toNat 3 7 ∧ u.get (AIN_CFG_FILT n) = bits v.toNat 10 1 ∧
      u.get (AIN_CFG_HPF n) = bits v.toNat 11 3 ∧ u.get (AIN_CFG_PGA_ZC n) = bits v.toNat 14 1 ∧
      u.get (AIN_CFG_ZC_TO n) = bits v.toNat 15 5 ∧ u.get (AIN_CFG_BIAS_SEL n) = bits v.toNat 20 2
    (ainInvalid v.toNat = true → Answers (.ainCfgWrite n v) s (fun u =>
      u.get (AIN_STAT_STATE n) = 0 ∧ u.get (AIN_STAT_CFG_ERR n) = 1 ∧ u.bit AIN_SUM_CFG_ERR n = true ∧ 0x0704 ∈ u.occ ∧
      Quiet (fields ++ stats ++ [AIN_SUM_CFG_ERR]) s u)) ∧
    (ainInvalid v.toNat = false → bitOf v.toNat 0 = false → Answers (.ainCfgWrite n v) s (fun u =>
      u.get (AIN_STAT_STATE n) = 0 ∧ u.get (AIN_STAT_CFG_ERR n) = 0 ∧ u.get (AIN_STAT_SETTLE_LEFT n) = 0 ∧ taken u ∧
      Quiet (fields ++ stats) s u)) ∧
    (ainInvalid v.toNat = false → bitOf v.toNat 0 = true → s.get (AIN_STAT_STATE n) = 0 → Answers (.ainCfgWrite n v) s (fun u =>
      u.get (AIN_STAT_STATE n) = 0 ∧ (u.ain n).begin_ = true ∧ taken u ∧ Quiet (fields ++ [AIN_STAT_CFG_ERR n]) s u)) ∧
    (ainInvalid v.toNat = false → bitOf v.toNat 0 = true → s.get (AIN_STAT_STATE n) = 3 →
      s.get (AIN_CFG_PGA n) ≠ bits v.toNat 3 7 → bitOf v.toNat 14 = false → Answers (.ainCfgWrite n v) s (fun u =>
      u.get (AIN_STAT_STATE n) = 2 ∧ u.get (AIN_STAT_PGA_APPLIED n) = bits v.toNat 3 7 ∧
      u.get (AIN_CNT_GAIN_STEPS n) = satNat 16 (s.get (AIN_CNT_GAIN_STEPS n) + 1) ∧ taken u ∧
      Quiet (fields ++ stats ++ [AIN_CNT_GAIN_STEPS n]) s u)) ∧
    (s.get (AIN_STAT_STATE n) = 1 → (s.ain n).zeros = 0 → Answers (.ainStartingEnd n) s (fun u =>
      u.get (AIN_STAT_STATE n) = 2 ∧ u.get (AIN_STAT_PGA_APPLIED n) = s.get (AIN_CFG_PGA n) % 2 ^ 7 ∧
      (u.ain n).win = s.spanFH n ∧ (u.ain n).sel = s.get (AIN_CFG_BIAS_SEL n) ∧ Quiet stats s u)) ∧
    (s.get (AIN_STAT_STATE n) = 2 → (s.ain n).zeros = 0 → (s.ain n).win = 0 → (s.ain n).biasWin = 0 →
      Answers (.ainSettleEnd n) s (fun u => u.get (AIN_STAT_STATE n) = 3 ∧ Quiet [AIN_STAT_STATE n] s u)) ∧
    (∀ f : Nat, (s.ain n).pend = some f → s.framesOfMs (s.get (AIN_CFG_ZC_TO n) + 1) ≤ s.frameAgo f →
      Answers (.ainZcTimeout n) s (fun u =>
      u.get (AIN_CNT_ZC_TIMEOUTS n) = satNat 16 (s.get (AIN_CNT_ZC_TIMEOUTS n) + 1) ∧ u.bit AIN_SUM_ZC_TO n = true ∧
      u.get (AIN_STAT_PGA_APPLIED n) = s.get (AIN_CFG_PGA n) % 2 ^ 7 ∧ u.get (AIN_STAT_ZC_WAIT n) = 0 ∧ (u.ain n).pend = none ∧
      0x0703 ∈ u.occ ∧ Quiet (stats ++ [AIN_CNT_ZC_TIMEOUTS n, AIN_CNT_GAIN_STEPS n, AIN_SUM_ZC_TO]) s u))) ∧
  (∀ (s : State),
    (s.on WAKE_PRIV_STAT_ENGAGED = false → Answers .privEngage s (fun u =>
      u.get WAKE_PRIV_STAT_ENGAGED = 1 ∧ u.get WAKE_PRIV_STAT_LED = 1 ∧ u.get WAKE_PRIV_STAT_RELEASING = 0 ∧
      u.get AIN_BIAS_STAT_ON = 0 ∧ u.get AIN_BIAS_STAT_PRIV = 7 ∧ u.on PDM_STAT_MIC_PWR_ON = false ∧
      u.get PDM_STAT_CLK0_STATE = 0 ∧ u.get PDM_STAT_CLK1_STATE = 0 ∧ u.get WAKE_SUM_PRIV_CHG = 1 ∧
      u.get WAKE_CNT_PRIV_ENGAGES = satNat 16 (s.get WAKE_CNT_PRIV_ENGAGES + 1) ∧ 0x0807 ∈ u.occ ∧
      (∀ j : TwoIx, s.get (DET_JACK_STAT_STATE j) = 4 ∨ s.get (DET_JACK_STAT_STATE j) = 5 →
        u.get (DET_JACK_STAT_STATE j) = 6) ∧ SameBytes s u)) ∧
    (s.on WAKE_PRIV_STAT_ENGAGED = true → Answers .privEngage s (fun u =>
      u.get WAKE_PRIV_STAT_RELEASING = 0 ∧ Quiet [WAKE_PRIV_STAT_RELEASING] s u)) ∧
    (s.on WAKE_PRIV_STAT_ENGAGED = true → Answers .privNRise s (fun u =>
      u.get WAKE_PRIV_STAT_RELEASING = 1 ∧ Quiet [WAKE_PRIV_STAT_RELEASING] s u)) ∧
    (s.on WAKE_PRIV_STAT_ENGAGED = true → s.on WAKE_PRIV_STAT_RELEASING = true → Answers .privReleased s (fun u =>
      u.get WAKE_PRIV_STAT_ENGAGED = 0 ∧ u.get WAKE_PRIV_STAT_LED = 0 ∧ u.get WAKE_PRIV_STAT_RELEASING = 0 ∧
      u.get AIN_BIAS_STAT_PRIV = 0 ∧ u.get WAKE_SUM_PRIV_CHG = 1 ∧ 0x0808 ∈ u.occ ∧
      u.on PDM_STAT_MIC_PWR_ON = (s.on PDM_CFG_MIC_PWR_EN && !s.dormant) ∧
      (∀ k : ThreeIx, s.on (AIN_BIAS_CFG_EN k) = true → s.bit AIN_BIAS_STAT_FAULT k = false → s.awake = true →
        bitOf u.biasRamp k = true) ∧ SameBytes s u)))

/-- R220, R226, R229, R231 and R235 to R237: the bias outputs are enabled and disabled, end their ramp, and fault; the microphones'
configuration is taken or rejected, and their clocks start and change rate. Model choices: log entries 42 and 45. -/
def Obligations.BiasOutputsAndPdmClocksFollow : Prop :=
  (∀ (s : State) (k : ThreeIx),
    (∀ v : Word, Answers (.ainBiasCfgWrite v) s (fun u =>
      u.get (AIN_BIAS_CFG_EN k) = bits v.toNat (4 * k) 1 ∧ u.get (AIN_BIAS_CFG_VOLT k) = bits v.toNat (4 * k + 1) 2 ∧
      (bitOf v.toNat (4 * k) = false → u.bit AIN_BIAS_STAT_FAULT k = false) ∧
      (bitOf v.toNat (4 * k) = true → s.on (AIN_BIAS_CFG_EN k) = false → s.bit AIN_BIAS_STAT_FAULT k = false →
        s.privacy = false → s.awake = true → bitOf u.biasRamp k = true ∧ u.bit AIN_BIAS_STAT_ON k = false) ∧
      SameBytes s u)) ∧
    (bitOf s.biasRamp k = true → s.biasMay k = true → Answers (.biasRampDone k) s (fun u =>
      u.bit AIN_BIAS_STAT_ON k = true ∧ bitOf u.biasRamp k = false ∧ Quiet [AIN_BIAS_STAT_ON] s u)) ∧
    (s.biasMay k = true → (∀ j : TwoIx, s.jackUses j k = false) → Answers (.ainBiasFault k) s (fun u =>
      u.bit AIN_BIAS_STAT_ON k = false ∧ u.bit AIN_BIAS_STAT_FAULT k = true ∧ u.bit AIN_SUM_BIAS_FAULT k = true ∧
      0x0702 ∈ u.occ ∧ Quiet [AIN_BIAS_STAT_ON, AIN_BIAS_STAT_FAULT, AIN_SUM_BIAS_FAULT] s u))) ∧
  (∀ (s : State),
    let fields := [PDM_CFG_LP_EN, PDM_CFG_HQ_EN, PDM_CFG_CLK0_ACT, PDM_CFG_CLK0_STBY, PDM_CFG_CLK1_ACT, PDM_CFG_CLK1_STBY,
      PDM_CFG_MIC_PWR_EN, PDM_STAT_CFG_ERR, PDM_STAT_MIC_PWR_ON, PDM_STAT_CLK0_STATE, PDM_STAT_CLK1_STATE]
    (∀ v : Word, pdmReject v.toNat s.archImage = true → Answers (.pdmCfgWrite v) s (fun u =>
      u.get PDM_STAT_CFG_ERR = 1 ∧ u.get WAKE_SUM_CFG_ERR = 1 ∧ 0x0809 ∈ u.occ ∧
      Quiet [PDM_STAT_CFG_ERR, WAKE_SUM_CFG_ERR] s u)) ∧
    (∀ v : Word, pdmReject v.toNat s.archImage = false → Answers (.pdmCfgWrite v) s (fun u =>
      u.get PDM_STAT_CFG_ERR = 0 ∧ u.get PDM_CFG_LP_EN = bits v.toNat 0 8 ∧ u.get PDM_CFG_HQ_EN = bits v.toNat 8 8 ∧
      u.get PDM_CFG_CLK0_ACT = bits v.toNat 16 1 ∧ u.get PDM_CFG_CLK0_STBY = bits v.toNat 17 1 ∧
      u.get PDM_CFG_CLK1_ACT = bits v.toNat 18 1 ∧ u.get PDM_CFG_CLK1_STBY = bits v.toNat 19 1 ∧
      u.get PDM_CFG_MIC_PWR_EN = bits v.toNat 24 1 ∧
      u.on PDM_STAT_MIC_PWR_ON = (bitOf v.toNat 24 && !s.privacy && !s.dormant) ∧ Quiet fields s u)) ∧
    (∀ c : TwoIx, s.get (pdmState c) ≠ 0 → s.pdmWant c = true → s.get (pdmState c) ≠ s.pdmRate c →
      s.get (pdmAct c) < 2 → s.get (pdmStby c) < 2 → Answers (.pdmClockChange c) s (fun u =>
      u.get (pdmState c) = s.pdmRate c ∧
      (∀ i : FourIx, s.bit PDM_CFG_HQ_EN (4 * c + i) = true → s.atRate 480 + s.spanHq ≤ mapGet 0 u.hqWin (4 * c + i)) ∧
      (∀ i : FourIx, s.bit PDM_CFG_LP_EN (4 * c + i) = true → 176 ≤ mapGet 0 u.lpWin (4 * c + i)) ∧ Quiet [pdmState c] s u)) ∧
    (∀ c : TwoIx, s.get (pdmState c) = 0 → s.pdmWant c = true → s.micAt + 16 ≤ s.tickC → s.get (pdmAct c) < 2 →
      s.get (pdmStby c) < 2 → Answers (.pdmClockStart c) s (fun u =>
      u.get (pdmState c) = s.pdmRate c ∧
      (∀ i : FourIx, s.bit PDM_CFG_LP_EN (4 * c + i) = true → 176 ≤ mapGet 0 u.lpWin (4 * c + i)) ∧ Quiet [pdmState c] s u)))

/-- R236, R238, R240, R242 to R244: the archive's lanes, the model and its check, and a hop of the spotter. Model choices: log
entries 46 and 47. -/
def Obligations.WakeSpotterHopsAndModel : Prop :=
  ∀ (s : State),
    let pdm := s.get PDM_CFG_LP_EN + 2 ^ 8 * s.get PDM_CFG_HQ_EN + 2 ^ 16 * s.get PDM_CFG_CLK0_ACT + 2 ^ 18 * s.get PDM_CFG_CLK1_ACT
    let pos := s.get WAKE_ARCH_STAT_POS
    let ecc := [MEM_ECC_CNT_UNCORR 7, MEM_ECC_CNT_CORRECTED 7, MEM_ECC_LAST_WORD 7, MEM_ECC_LAST_CLASS 7, MEM_ECC_LAST_VALID 7,
      MEM_SUM_UE]
    let hop := s.on WAKE_CTL_EN = true ∧ s.get WAKE_MODEL_STAT_STATE = 2 ∧ s.dormant = false ∧ pos % 160 = 0 ∧
      s.wake.lastHop ≠ pos ∧ s.on WAKE_CFG_SPOT_MODE = false ∧ s.hopSilent pos (s.get WAKE_CFG_SPOT_LANE) = false
    (∀ v : Word, pdmReject pdm v.toNat = true ∨ s.on WAKE_CTL_EN = true ∨ s.hoRunning = true →
      Answers (.wakeArchCfgWrite v) s (fun u =>
      u.get PDM_STAT_CFG_ERR = 1 ∧ u.get WAKE_SUM_CFG_ERR = 1 ∧ 0x0809 ∈ u.occ ∧
      Quiet [PDM_STAT_CFG_ERR, WAKE_SUM_CFG_ERR] s u)) ∧
    (∀ v : Word, pdmReject pdm v.toNat = false → s.on WAKE_CTL_EN = false → s.hoRunning = false →
      s.get WAKE_ARCH_CFG_LANES % 16 ≠ bits v.toNat 0 2 → Answers (.wakeArchCfgWrite v) s (fun u =>
      u.get WAKE_ARCH_CFG_LANES = bits v.toNat 0 2 ∧ (∀ j : FourIx, u.get (WAKE_ARCH_CFG_LANE_MIC j) = bits v.toNat (4 * j + 4) 3) ∧
      u.get WAKE_MODEL_STAT_REGION = 1048576 - 256000 * (bits v.toNat 0 2 + 1) ∧
      u.get WAKE_ARCH_GAP_GAP_POS = archNext pos % 2 ^ 32 ∧ u.get WAKE_ARCH_GAP_GAP_VALID = 1 ∧ 0x0806 ∈ u.occ ∧ SameBytes s u)) ∧
    (∀ v : Word, bitOf v.toNat 0 = true → s.on WAKE_CTL_EN = false → Answers (.wakeCtlWrite v) s (fun u =>
      u.get WAKE_CTL_EN = 1 ∧ u.get WAKE_CTL_WAKE_EN = bits v.toNat 1 1 ∧ u.get WAKE_CTL_HO_AUTO = bits v.toNat 2 1 ∧
      u.get WAKE_CTL_ALERT_EN = bits v.toNat 3 1 ∧ u.get WAKE_CTL_EVT_EN = bits v.toNat 8 1 ∧
      u.get WAKE_MODEL_STAT_STATE = 1 ∧ SameBytes s u)) ∧
    Answers .check s (fun u =>
      u.get WAKE_MODEL_STAT_STATE = 1 ∧ Quiet [WAKE_MODEL_STAT_STATE, WAKE_MODEL_STAT_REGION] s u) ∧
    (s.get WAKE_MODEL_STAT_STATE = 1 → s.bankUp 7 = true → s.modelFault = none → Answers .modelCheckDone s (fun u =>
      u.get WAKE_MODEL_STAT_STATE = 2 ∧ Quiet [WAKE_MODEL_STAT_STATE, WAKE_MODEL_STAT_LEN] s u)) ∧
    (s.get WAKE_MODEL_STAT_STATE = 1 → s.bankUp 7 = true → s.modelFault.isSome = true → Answers .modelCheckDone s (fun u =>
      u.get WAKE_MODEL_STAT_STATE = 3 ∧ u.get WAKE_SUM_MODEL_BAD = 1 ∧ 0x0802 ∈ u.occ ∧
      Quiet [WAKE_MODEL_STAT_STATE, WAKE_MODEL_STAT_LEN, WAKE_SUM_MODEL_BAD] s u)) ∧
    (∀ (score : Nat) (lane : FourIx), hop → s.get WAKE_CFG_THRESH ≤ min 255 score → s.get WAKE_CFG_HOLD ≤ s.wake.run →
      s.wake.lastHop = (pos + archMod - 160) % archMod → s.wake.refract = 0 → Answers (.spotterHop score lane) s (fun u =>
      u.get WAKE_DET_TRIG_POS = pos % 2 ^ 32 ∧ u.get WAKE_DET_SCORE = min 255 score ∧
      u.get WAKE_CNT_DETECTS = satNat 16 (s.get WAKE_CNT_DETECTS + 1) ∧ u.get WAKE_SUM_DETECT = 1 ∧ 0x0801 ∈ u.occ ∧
      u.wake.detected = true ∧ u.wake.refract = s.get WAKE_CFG_REFRACT + 1 ∧ u.wake.lastHop = pos ∧
      Quiet (ecc ++ [WAKE_DET_TRIG_POS, WAKE_DET_SCORE, WAKE_DET_LANE, WAKE_CNT_DETECTS, WAKE_SUM_DETECT]) s u)) ∧
    (∀ (score : Nat) (lane : FourIx), hop → min 255 score < s.get WAKE_CFG_THRESH → Answers (.spotterHop score lane) s (fun u =>
      u.wake.run = 0 ∧ u.wake.lastHop = pos ∧ u.wake.refract = s.wake.refract ∧ Quiet ecc s u))

/-- R247, R249, R250, R252: a handover starts by its command, by HO_GO and after a detection, and HO_STOP ends it. Model choices:
log entries 46 and 87. -/
def Obligations.HandoversBeginAndEnd : Prop :=
  ∀ (s : State),
    let began := fun (now : Bool) (lookback : Nat) (ring : Option Nat) (u : State) =>
      u.get WAKE_HO_STAT_STATE = 1 ∧ u.get WAKE_HO_STAT_END = 0 ∧
      u.get WAKE_HO_STAT_START_POS = (s.hoFirst now lookback).1 % 2 ^ 32 ∧
      u.wake.ho.map (fun h => (h.ring, h.next, h.wcount)) = some (ring, (s.hoFirst now lookback).1, 0)
    (∀ (r : RingIx) (ws : List Nat), TakesUp s r ws → ws.headD 0 % 256 = 0x0A → s.hoRunning = false →
      s.hoBad (bitOf (ws.headD 0) 16) (bits (ws.headD 0) 17 7) (bits (ws.headD 0) 24 4) = false →
      s.on WAKE_ARCH_STAT_LOST = false → Answers (.handover r) s (fun u =>
      began (bitOf (ws.headD 0) 16) (bits (ws.headD 0) 17 7) (some r.val) u ∧ Runs s r u)) ∧
    (∀ (r : RingIx) (ws : List Nat), TakesUp s r ws → ws.headD 0 % 256 = 0x0A →
      s.hoBad (bitOf (ws.headD 0) 16) (bits (ws.headD 0) 17 7) (bits (ws.headD 0) 24 4) = true →
      Answers (.handover r) s (Completes s r stBadArg 0)) ∧
    (s.hoRunning = false → s.hoBad true (s.get WAKE_HO_CFG_LOOKBACK) (s.get WAKE_HO_CFG_LANES) = false →
      s.on WAKE_ARCH_STAT_LOST = false → Answers .hoGo s (began true (s.get WAKE_HO_CFG_LOOKBACK) none)) ∧
    (s.wake.hoDue = true → s.awake = true → s.hoRunning = false →
      s.hoBad false (s.get WAKE_HO_CFG_LOOKBACK) (s.get WAKE_HO_CFG_LANES) = false → s.on WAKE_ARCH_STAT_LOST = false →
      Answers .hoAuto s (fun u => began false (s.get WAKE_HO_CFG_LOOKBACK) none u ∧ u.wake.hoDue = false)) ∧
    (∀ h : Handover, s.wake.ho = some h → h.ring = none → Answers .hoStop s (fun u =>
      u.get WAKE_HO_STAT_STATE = 3 ∧ u.get WAKE_HO_STAT_END = 1 ∧ u.wake.ho = none ∧
      u.get WAKE_HO_STAT_STATUS = (if s.get WAKE_HO_STAT_STATE = 1 then stCancelled else s.get WAKE_HO_STAT_STATUS) ∧
      Quiet [WAKE_HO_STAT_STATE, WAKE_HO_STAT_END, WAKE_HO_STAT_STATUS] s u))

/-! ### Speaker power stages -/

/-- R268 to R270, R272, R287, R289: a speaker channel is configured, and its start goes from the relay to full gain. Model choices:
log entries 8 and 49. -/
def Obligations.SpeakerStartReachesFullGain : Prop :=
  ∀ (s : State) (n : FourIx),
    let x := s.spk n
    (∀ v : Word, bits v.toNat 1 8 < 16 → Answers (.spkCfgWrite n v) s (fun u =>
      u.get (SPK_STAT_CFG_ERR n) = 1 ∧ u.get SPK_SUM_CFG_ERR = 1 ∧ 0x0A0F ∈ u.occ ∧
      Quiet [SPK_STAT_CFG_ERR n, SPK_SUM_CFG_ERR] s u)) ∧
    (∀ v : Word, 16 ≤ bits v.toNat 1 8 → bitOf v.toNat 0 = true → s.on (SPK_CFG_EN n) = false → s.get (SPK_STAT_STATE n) = 0 →
      s.folded = false → s.spkUpper n = false → Answers (.spkCfgWrite n v) s (fun u =>
      (u.spk n).startReq = true ∧ u.get (SPK_CFG_EN n) = 1 ∧ u.get (SPK_CFG_FS_V n) = bits v.toNat 1 8 ∧
      u.get (SPK_CFG_MUTE n) = bits v.toNat 9 1 ∧ u.get (SPK_CFG_PILOT_EN n) = bits v.toNat 10 1 ∧
      u.get (SPK_CFG_VC_FOLD_EN n) = bits v.toNat 11 1 ∧ u.get (SPK_CFG_RLY_EN n) = bits v.toNat 12 1 ∧
      u.get (SPK_CFG_IMP_WIN n) = bits v.toNat 13 3 ∧ u.get (SPK_CFG_LOAD_CHK n) = bits v.toNat 16 1 ∧
      Quiet (spkFields n ++ [SPK_STAT_CFG_ERR n]) s u)) ∧
    (∀ v : Word, 16 ≤ bits v.toNat 1 8 → bitOf v.toNat 0 = false → s.on (SPK_CFG_EN n) = true → s.get (SPK_STAT_STATE n) = 2 →
      x.phase = .play → Answers (.spkCfgWrite n v) s (fun u =>
      u.get (SPK_STAT_STATE n) = 3 ∧ (u.spk n).phase = .stop ∧ u.get (SPK_CFG_EN n) = 0 ∧
      Quiet (spkFields n ++ [SPK_STAT_CFG_ERR n, SPK_STAT_STATE n]) s u)) ∧
    (∀ v : Word, (∀ k : FourIx, s.get (SPK_STAT_STATE k) = 0) → Answers (.spkCtlWrite v) s (fun u =>
      u.get SPK_CTL_EVT_EN = bits v.toNat 0 1 ∧ u.get SPK_CTL_PAIR01 = bits v.toNat 1 1 ∧
      u.get SPK_CTL_PAIR23 = bits v.toNat 2 1 ∧ u.get SPK_CTL_SPREAD = bits v.toNat 4 2 ∧
      u.get SPK_CTL_RLY_T = bits v.toNat 8 4 ∧ u.get SPK_CTL_RETRIES = bits v.toNat 12 2 ∧
      Quiet [SPK_CTL_EVT_EN, SPK_CTL_PAIR01, SPK_CTL_PAIR23, SPK_CTL_SPREAD, SPK_CTL_RLY_T, SPK_CTL_RETRIES] s u)) ∧
    (∀ v : Word, s.get SPK_CTL_PAIR01 ≠ bits v.toNat 1 1 → s.get (SPK_STAT_STATE 0) ≠ 0 ∨ s.get (SPK_STAT_STATE 1) ≠ 0 →
      Answers (.spkCtlWrite v) s (fun u => u.get SPK_SUM_CFG_ERR = 1 ∧ 0x0A0F ∈ u.occ ∧ Quiet [SPK_SUM_CFG_ERR] s u)) ∧
    (x.startReq = true → s.get (SPK_STAT_STATE n) = 0 → s.on (SPK_CFG_EN n) = true → s.folded = false → s.awake = true →
      s.spkUpper n = false → s.calibrating (0x10 + n) = false → s.on SPK_PVDD_STAT_UV = false → s.on SPK_PVDD_STAT_OV = false →
      Answers (.spkStart n) s (fun u =>
      u.get (SPK_STAT_STATE n) = 1 ∧ u.on (SPK_STAT_RELAY n) = s.on (SPK_CFG_RLY_EN n) ∧ u.get (SPK_STAT_FAULT_CAUSE n) = 0 ∧
      (u.spk n).phase = .zero ∧ (u.spk n).startReq = false ∧ Quiet (spkShown n) s u)) ∧
    (x.startReq = true → s.get (SPK_STAT_STATE n) = 0 → s.on (SPK_CFG_EN n) = true → s.folded = false → s.awake = true →
      s.spkUpper n = false → s.calibrating (0x10 + n) = false → s.on SPK_PVDD_STAT_UV = true → Answers (.spkStart n) s (fun u =>
      u.get (SPK_STAT_STATE n) = 1 ∧ u.get (SPK_STAT_FAULT_CAUSE n) = 3 ∧ (u.spk n).phase = .check ∧ Quiet (spkShown n) s u)) ∧
    (s.get (SPK_STAT_STATE n) = 1 → x.phase = .zero → x.wait = 0 → Answers (.spkZeroStateEnd n) s (fun u =>
      u.get (SPK_STAT_HIZ n) = 0 ∧ u.get (SPK_STAT_STATE n) = (if x.loadChk then 1 else 2) ∧
      (u.spk n).phase = (if x.loadChk then .load else .ramp) ∧ Quiet (spkShown n) s u)) ∧
    (∀ z : Nat, s.get (SPK_STAT_STATE n) = 1 → x.phase = .load → 1000 * s.get (SPK_DIAG_LOW_Z n) ≤ 16 * z →
      Answers (.spkLoadCheck n z) s (fun u =>
      u.get (SPK_STAT_STATE n) = 2 ∧ (u.spk n).phase = .ramp ∧
      (1000 * s.get (SPK_DIAG_OPEN_Z n) < z → u.bit SPK_SUM_OPEN n = true ∧ 0x0A06 ∈ u.occ) ∧
      Quiet [SPK_STAT_STATE n, SPK_SUM_OPEN] s u)) ∧
    (∀ z : Nat, s.get (SPK_STAT_STATE n) = 1 → x.phase = .load → 16 * z < 1000 * s.get (SPK_DIAG_LOW_Z n) →
      s.get (SPK_STAT_RETRY n) < s.get SPK_CTL_RETRIES → Answers (.spkLoadCheck n z) s (fun u =>
      u.get (SPK_STAT_STATE n) = 4 ∧ u.get (SPK_STAT_FAULT_CAUSE n) = 1 ∧ u.get (SPK_STAT_HIZ n) = 1 ∧
      u.bit SPK_SUM_SHORT n = true ∧ 0x0A01 ∈ u.occ)) ∧
    (x.phase = .ramp → s.rampFrames ≤ x.rampPos → Answers (.spkRampDone n) s (fun u => (u.spk n).phase = .play ∧ Quiet [] s u))

/-- R269, R271, R273, R276 to R278 and R287: a speaker channel stops, and PVDD leaves and regains its range; faults of a speaker
channel, its retries, and SPK_CMD.CLEAR. Model choices: log entries 8, 49 and 64. -/
def Obligations.SpeakerStopsTripsAndRetries : Prop :=
  (∀ (s : State) (n : FourIx),
    let x := s.spk n
    let trip := fun (cause : Nat) (u : State) =>
      (∀ k : FourIx, s.get (SPK_STAT_STATE k) = 2 → (s.spk k).phase = .play →
        u.get (SPK_STAT_FAULT_CAUSE k) = cause ∧ u.get (SPK_STAT_HIZ k) = 1 ∧ (u.spk k).phase = .trip ∧
        u.get (SPK_STAT_STATE k) = 2) ∧
      (∀ k : FourIx, s.get (SPK_STAT_STATE k) = 0 → u.get (SPK_STAT_STATE k) = 0 ∧ u.spk k = s.spk k) ∧ SameBytes s u
    (s.get (SPK_STAT_STATE n) = 3 → x.phase = .stop → x.rampPos = 0 → Answers (.spkStop n) s (fun u =>
      (u.spk n).phase = .rest ∧ Quiet [] s u)) ∧
    (x.phase = .rest → Answers (.spkRest n) s (fun u => (u.spk n).phase = .release ∧ Quiet [] s u)) ∧
    (x.phase = .release → x.wait = 0 → s.get (SPK_STAT_STATE n) = 3 → Answers (.spkRelayRelease n) s (fun u =>
      u.get (SPK_STAT_RELAY n) = 0 ∧ u.get (SPK_STAT_HIZ n) = 1 ∧ u.get (SPK_STAT_STATE n) = (if x.folding then 6 else 0) ∧
      (u.spk n).phase = .idle ∧ (x.folding = false → (u.spk n).startReq = s.on (SPK_CFG_EN n)) ∧ Quiet (spkShown n) s u)) ∧
    (∀ a b : Nat, x.phase = .rest → s.rampFrames ≤ x.age → s.on (SPK_STAT_RELAY n) = true → s.get (SPK_STAT_FAULT_CAUSE n) ≠ 7 →
      Answers (.spkRelayHeld n a b) s (fun u =>
      u.get (SPK_STAT_FAULT_CAUSE n) = 7 ∧ u.bit SPK_SUM_RELAY_HELD n = true ∧ u.on (SPK_STAT_RELAY n) = true ∧ 0x0A0E ∈ u.occ ∧
      Quiet [SPK_STAT_FAULT_CAUSE n, SPK_SUM_RELAY_HELD] s u)) ∧
    (∀ mv : Nat, mv < 5500 → s.on SPK_PVDD_STAT_UV = false → Answers (.spkPvddUv mv) s (fun u =>
      u.get SPK_PVDD_STAT_UV = 1 ∧ u.get SPK_SUM_PVDD_UV = 1 ∧ 0x0A0C ∈ u.occ ∧ trip 3 u)) ∧
    (∀ mv : Nat, 19000 < mv → s.on SPK_PVDD_STAT_OV = false → Answers (.spkPvddOv mv) s (fun u =>
      u.get SPK_PVDD_STAT_OV = 1 ∧ u.get SPK_SUM_PVDD_OV = 1 ∧ 0x0A0D ∈ u.occ ∧ trip 4 u)) ∧
    (∀ mv : Nat, s.on SPK_PVDD_STAT_UV = true ∨ s.on SPK_PVDD_STAT_OV = true → 5800 ≤ mv → mv ≤ 18500 → s.folded = false →
      Answers (.pvddRecovery mv) s (fun u =>
      u.get SPK_PVDD_STAT_UV = 0 ∧ u.get SPK_PVDD_STAT_OV = 0 ∧
      (∀ k : FourIx, (s.spk k).phase = .trip → s.on (SPK_CFG_EN k) = true →
        u.get (SPK_STAT_STATE k) = 1 ∧ u.get (SPK_STAT_HIZ k) = 0 ∧ (u.spk k).phase = .zero ∧ (u.spk k).wait = 0) ∧
      SameBytes s u))) ∧
  (∀ (s : State) (n : FourIx),
    let x := s.spk n
    let k := s.spkOwner n
    (∀ mean : Int, s.spkSwitching k = true → 1500 < mean.natAbs → Answers (.spkDcFault n mean) s (fun u =>
      u.get (SPK_STAT_STATE k) = 5 ∧ u.get (SPK_STAT_FAULT_CAUSE k) = 2 ∧ u.get (SPK_STAT_HIZ k) = 1 ∧
      u.bit SPK_SUM_DC k = true ∧ (u.spk k).retryAt = none ∧ 0x0A05 ∈ u.occ ∧ Quiet (SPK_SUM_DC :: spkShown k) s u)) ∧
    (∀ leg : TwoIx, s.spkSwitching k = true → Answers (.currentLimit n leg false) s (fun u =>
      u.get (SPK_CNT_ILIM k) = satNat 16 (s.get (SPK_CNT_ILIM k) + 1) ∧ (u.spk k).limRun = 1 ∧
      u.get (SPK_STAT_STATE k) = s.get (SPK_STAT_STATE k) ∧ Quiet [SPK_CNT_ILIM k] s u)) ∧
    (∀ leg : TwoIx, s.spkSwitching k = true → 3 ≤ (s.spk k).limRun → s.get (SPK_STAT_RETRY k) < s.get SPK_CTL_RETRIES →
      Answers (.currentLimit n leg true) s (fun u =>
      u.get (SPK_STAT_STATE k) = 4 ∧ u.get (SPK_STAT_FAULT_CAUSE k) = 1 ∧ u.get (SPK_STAT_HIZ k) = 1 ∧
      u.get (SPK_CNT_SHORTS k) = satNat 16 (s.get (SPK_CNT_SHORTS k) + 1) ∧ (u.spk k).retryAt = some s.frame ∧ 0x0A01 ∈ u.occ)) ∧
    (∀ leg : TwoIx, s.spkSwitching k = true → 3 ≤ (s.spk k).limRun → s.get SPK_CTL_RETRIES ≤ s.get (SPK_STAT_RETRY k) →
      Answers (.currentLimit n leg true) s (fun u =>
      u.get (SPK_STAT_STATE k) = 5 ∧ (u.spk k).retryAt = none ∧ 0x0A01 ∈ u.occ ∧ 0x0A04 ∈ u.occ)) ∧
    (∀ f : Nat, x.retryAt = some f → s.get (SPK_STAT_STATE n) = 4 → s.on (SPK_CFG_EN n) = true → s.get SPK_CTL_RETRIES < 4 →
      s.get (SPK_STAT_RETRY n) < s.get SPK_CTL_RETRIES → s.folded = false → s.on SPK_PVDD_STAT_UV = false →
      s.on SPK_PVDD_STAT_OV = false → s.framesOfMs 500 ≤ s.frameAgo f → Answers (.spkRetry n) s (fun u =>
      u.get (SPK_STAT_RETRY n) = s.get (SPK_STAT_RETRY n) + 1 ∧ u.get (SPK_STAT_STATE n) = 1 ∧ (u.spk n).phase = .zero ∧
      0x0A02 ∈ u.occ ∧ Quiet (SPK_STAT_RETRY n :: spkShown n) s u)) ∧
    (s.get (SPK_STAT_RETRY n) ≠ 0 → x.phase = .play → s.framesOfMs 500 ≤ x.played → Answers (.spkRecovered n) s (fun u =>
      u.get (SPK_STAT_RETRY n) = 0 ∧ 0x0A03 ∈ u.occ ∧ Quiet [SPK_STAT_RETRY n] s u)) ∧
    (s.get (SPK_STAT_STATE n) = 4 ∨ s.get (SPK_STAT_STATE n) = 5 → s.folded = false → s.spkUpper n = false →
      Answers (.spkClear n) s (fun u =>
      u.get (SPK_STAT_STATE n) = 0 ∧ u.get (SPK_STAT_RETRY n) = 0 ∧ u.get (SPK_STAT_FAULT_CAUSE n) = 0 ∧
      (u.spk n).startReq = (x.startReq || s.on (SPK_CFG_EN n)) ∧
      Quiet [SPK_STAT_STATE n, SPK_STAT_RETRY n, SPK_STAT_FAULT_CAUSE n] s u)))

/-- R279, R281 to R286: stage temperatures, pilot windows and the tweeter check. Model choices: log entries 63 and 64. -/
def Obligations.SpeakerMeasurements : Prop :=
  ∀ (s : State) (n : FourIx),
    let x := s.spk n
    (∀ t : List Nat, (∀ k : FourIx, t.getD k 0 < 195) → Answers (.stageTempRead t) s (fun u =>
      (∀ k : FourIx, u.get (SPK_THERM_STAT_TEMP k) = t.getD k 0) ∧ u.thermRed = s.thermRed - 1 ∧ u.get SPK_THERM_STAT_WARN = 0 ∧
      u.get SPK_THERM_STAT_FOLDBACK = b2n (s.thermRed - 1 != 0) ∧ SameBytes s u)) ∧
    (∀ t : List Nat, (∀ k : FourIx, t.getD k 0 < 256) → 199 ≤ t.getD n 0 → s.thermRed + 10 ≤ 1000 * min 24 (s.get SPK_THERM_CFG_FOLD_FLOOR) →
      Answers (.stageTempRead t) s (fun u =>
      u.thermRed = s.thermRed + 10 ∧ u.get SPK_THERM_STAT_WARN = 1 ∧ u.get SPK_THERM_STAT_FOLDBACK = 1 ∧
      (s.thermRed = 0 → s.on SPK_THERM_STAT_WARN = false → u.get SPK_SUM_THERM_WARN = 1 ∧ 0x0A0B ∈ u.occ))) ∧
    (∀ z : Nat, s.get (SPK_STAT_STATE n) = 2 → s.on (SPK_CFG_PILOT_EN n) = true → s.windowFrames n ≤ x.winPos →
      x.dirty = true → Answers (.pilotWindowEnd n z) s (fun u =>
      u.get (SPK_IMP_DROPPED n) = satNat 8 (s.get (SPK_IMP_DROPPED n) + 1) ∧ (u.spk n).dirty = x.tweet ∧
      (u.spk n).winPos = 0 ∧ Quiet [SPK_IMP_DROPPED n] s u)) ∧
    (∀ z : Nat, s.get (SPK_STAT_STATE n) = 2 → s.on (SPK_CFG_PILOT_EN n) = true → s.windowFrames n ≤ x.winPos →
      x.dirty = false → Answers (.pilotWindowEnd n z) s (fun u =>
      u.get (SPK_IMP_Z12 n) = satNat 16 z ∧ u.get (SPK_IMP_IMP_VALID n) = 1 ∧
      (∀ vc : Int, s.coilTemp n z = some vc → u.get (SPK_IMP_VC_TEMP n) = fromSigned 16 vc) ∧
      (1000 * s.get (SPK_DIAG_OPEN_Z n) < z → u.bit SPK_SUM_OPEN n = true ∧ 0x0A06 ∈ u.occ) ∧
      (16 * z < 1000 * s.get (SPK_DIAG_LOW_Z n) → u.bit SPK_SUM_OPEN n = true ∧ 0x0A07 ∈ u.occ) ∧
      Quiet [SPK_IMP_Z12 n, SPK_IMP_VC_TEMP n, SPK_IMP_IMP_VALID n, SPK_SUM_VC_HOT, SPK_SUM_OPEN] s u)) ∧
    (s.get (SPK_STAT_STATE n) = 2 → x.phase = .play → x.tweet = false → Answers (.tweet n) s (fun u =>
      (u.spk n).tweet = true ∧ (u.spk n).dirty = true ∧ Quiet [] s u)) ∧
    (∀ z : Nat, x.tweet = true → tweetCycles ≤ x.tweetAt → Answers (.tweetDone n z) s (fun u =>
      (u.spk n).tweet = false ∧ u.get (SPK_IMP_TW_Z n) = satNat 16 z ∧ u.get (SPK_IMP_TW_VALID n) = 1 ∧
      u.get (SPK_IMP_TW_OPEN n) = b2n (decide (1000 * s.get (SPK_DIAG_TW_OPEN_Z n) < z)) ∧
      (1000 * s.get (SPK_DIAG_TW_OPEN_Z n) < z → u.bit SPK_SUM_TWEETER_OPEN n = true ∧ 0x0A09 ∈ u.occ) ∧
      Quiet [SPK_IMP_TW_Z n, SPK_IMP_TW_VALID n, SPK_IMP_TW_OPEN n, SPK_SUM_TWEETER_OPEN] s u))

/-! ### Headphone outputs and accessory detection -/

/-- R296 to R299: the eleven commands of a headphone channel. Model choices: log entries 8, 50 and 64. -/
def Obligations.HeadphoneChannelEffects : Prop :=
  ∀ (s : State) (n : FourIx),
    let x := s.hpo n
    let fields := [HPO_CFG_EN n, HPO_CFG_MODE n, HPO_CFG_MUTE n, HPO_CFG_VOL n, HPO_STAT_CFG_ERR n]
    (∀ v : Word, volOk (bits v.toNat 16 16) = false → Answers (.hpoCfgWrite n v) s (fun u =>
      u.get (HPO_STAT_CFG_ERR n) = 1 ∧ u.get HPO_SUM_CFG_ERR = 1 ∧ 0x0904 ∈ u.occ ∧
      Quiet [HPO_STAT_CFG_ERR n, HPO_SUM_CFG_ERR] s u)) ∧
    (∀ v : Word, volOk (bits v.toNat 16 16) = true → bitOf v.toNat 0 = true → s.on (HPO_CFG_EN n) = false →
      s.get (HPO_STAT_STATE n) = 0 → s.folded = false → Answers (.hpoCfgWrite n v) s (fun u =>
      (u.hpo n).startReq = true ∧ u.get (HPO_CFG_EN n) = 1 ∧ u.get (HPO_CFG_MODE n) = bits v.toNat 1 1 ∧
      u.get (HPO_CFG_MUTE n) = bits v.toNat 2 1 ∧ u.get (HPO_CFG_VOL n) = bits v.toNat 16 16 ∧ Quiet fields s u)) ∧
    (∀ v : Word, volOk (bits v.toNat 16 16) = true → bitOf v.toNat 0 = false → s.on (HPO_CFG_EN n) = true →
      s.get (HPO_STAT_STATE n) = 2 → Answers (.hpoCfgWrite n v) s (fun u =>
      u.get (HPO_STAT_STATE n) = 3 ∧ u.get (HPO_CFG_EN n) = 0 ∧ Quiet (HPO_STAT_STATE n :: fields) s u)) ∧
    (x.startReq = true → s.get (HPO_STAT_STATE n) = 0 → s.on (HPO_CFG_EN n) = true → s.folded = false → s.awake = true →
      s.get HPO_STAT_CP_STATE ≠ 3 → s.calibrating (0x18 + n) = false → Answers (.hpoStart n) s (fun u =>
      u.get (HPO_STAT_STATE n) = 1 ∧ u.get HPO_STAT_CP_STATE = (if s.get HPO_STAT_CP_STATE = 0 then 1 else s.get HPO_STAT_CP_STATE) ∧
      (u.hpo n).mode = s.get (HPO_CFG_MODE n) ∧ Quiet [HPO_STAT_STATE n, HPO_STAT_CP_STATE] s u)) ∧
    (s.get (HPO_STAT_STATE n) = 1 → s.get HPO_STAT_CP_STATE ≠ 3 → Answers (.hpoServoEnd n) s (fun u =>
      u.get (HPO_STAT_STATE n) = 2 ∧ u.get HPO_STAT_CP_STATE = 2 ∧ (u.hpo n).ramping = true ∧
      Quiet [HPO_STAT_STATE n, HPO_STAT_CP_STATE] s u)) ∧
    (s.get (HPO_STAT_STATE n) = 2 → x.ramping = true → hpoRamp ≤ x.rampPos → Answers (.hpoRampDone n) s (fun u =>
      (u.hpo n).ramping = false ∧ (u.hpo n).played = 0 ∧ Quiet [] s u)) ∧
    (s.get (HPO_STAT_STATE n) = 3 → x.rampPos = 0 → Answers (.hpoStopDone n) s (fun u =>
      u.get (HPO_STAT_STATE n) = (if x.folding then 6 else 0) ∧
      ((∀ k : FourIx, k ≠ n → s.get (HPO_STAT_STATE k) = 0) → (∀ k : FourIx, s.calibrating (0x18 + k) = false) →
        s.get HPO_STAT_CP_STATE ≠ 3 → u.get HPO_STAT_CP_STATE = 0) ∧
      Quiet [HPO_STAT_STATE n, HPO_STAT_CP_STATE] s u)) ∧
    (s.get (HPO_STAT_STATE n) = 2 → s.rampFrames ≤ x.limRun → s.jackNotReady n = false → Answers (.hpoShort n) s (fun u =>
      u.get (HPO_STAT_STATE n) = (if s.get (HPO_STAT_RETRY n) < 2 then 4 else 5) ∧
      u.get (HPO_STAT_RETRY n) = min 3 (s.get (HPO_STAT_RETRY n) + 1) ∧ u.bit HPO_SUM_SHORT n = true ∧
      u.get (HPO_CNT_SHORTS n) = satNat 16 (s.get (HPO_CNT_SHORTS n) + 1) ∧ 0x0901 ∈ u.occ ∧
      Quiet [HPO_STAT_STATE n, HPO_STAT_RETRY n, HPO_CNT_SHORTS n, HPO_SUM_SHORT, HPO_STAT_CP_STATE] s u)) ∧
    (s.get (HPO_STAT_STATE n) = 4 → s.on (HPO_CFG_EN n) = true → s.folded = false → s.get HPO_STAT_CP_STATE ≠ 3 →
      s.framesOfMs 500 ≤ s.frameAgo x.latchAt → Answers (.hpoRestart n) s (fun u =>
      u.get (HPO_STAT_STATE n) = 1 ∧ (u.hpo n).mode = s.get (HPO_CFG_MODE n) ∧
      Quiet [HPO_STAT_STATE n, HPO_STAT_CP_STATE] s u)) ∧
    (s.get (HPO_STAT_RETRY n) ≠ 0 → s.get (HPO_STAT_STATE n) = 2 → x.ramping = false → s.framesOfMs 500 ≤ x.played →
      Answers (.hpoRecovered n) s (fun u => u.get (HPO_STAT_RETRY n) = 0 ∧ 0x0905 ∈ u.occ ∧ Quiet [HPO_STAT_RETRY n] s u)) ∧
    (∀ mv : Int, s.get HPO_STAT_CP_STATE = 1 ∨ s.get HPO_STAT_CP_STATE = 2 → Answers (.hpoCpFault mv) s (fun u =>
      u.get HPO_STAT_CP_STATE = 3 ∧ u.get HPO_SUM_CP_FAULT = 1 ∧ 0x0903 ∈ u.occ ∧
      u.get (HPO_STAT_STATE n) = (if s.get (HPO_STAT_STATE n) = 0 then 0 else 5) ∧
      Quiet [HPO_STAT_CP_STATE, HPO_SUM_CP_FAULT, HPO_STAT_STATE 0, HPO_STAT_STATE 1, HPO_STAT_STATE 2, HPO_STAT_STATE 3] s u)) ∧
    (s.get (HPO_STAT_STATE n) = 4 ∨ s.get (HPO_STAT_STATE n) = 5 → s.folded = false → Answers (.hpoClear n) s (fun u =>
      u.get (HPO_STAT_STATE n) = 0 ∧ u.get (HPO_STAT_RETRY n) = 0 ∧
      u.get HPO_STAT_CP_STATE = (if s.get HPO_STAT_CP_STATE = 3 then 0 else s.get HPO_STAT_CP_STATE) ∧
      (s.on (HPO_CFG_EN n) = true → (u.hpo n).startReq = true) ∧
      Quiet [HPO_STAT_STATE n, HPO_STAT_RETRY n, HPO_STAT_CP_STATE] s u))

/-- R301 to R307: a jack is configured, its plug goes in and out, and it is identified; a button is pressed. Model choices: log
entries 8 and 50. -/
def Obligations.JackDetectionEffects : Prop :=
  ∀ (s : State) (j : TwoIx),
    let x := s.jack j
    let fields := [DET_JACK_CFG_EN j, DET_JACK_CFG_POL j, DET_JACK_CFG_INS_DB j, DET_JACK_CFG_REM_DB j, DET_JACK_CFG_ID_DELAY j,
      DET_JACK_CFG_BIAS j, DET_JACK_CFG_HPO_MASK j, DET_JACK_CFG_AUTO_MUTE j, DET_JACK_CFG_BTN_EN j]
    (∀ v : Word, bits v.toNat 16 2 ≠ 0 → bits v.toNat 16 2 = s.get (DET_JACK_CFG_BIAS (1 - j)) → Answers (.detJackCfgWrite j v) s
      (fun u => u.get (DET_JACK_STAT_CFG_ERR j) = 1 ∧ u.get DET_SUM_CFG_ERR = 1 ∧ 0x0C06 ∈ u.occ ∧
      Quiet [DET_JACK_STAT_CFG_ERR j, DET_SUM_CFG_ERR] s u)) ∧
    (∀ v : Word, bits v.toNat 16 2 = 0 ∨ bits v.toNat 16 2 ≠ s.get (DET_JACK_CFG_BIAS (1 - j)) → bitOf v.toNat 0 = true →
      s.on (DET_JACK_CFG_EN j) = false → Answers (.detJackCfgWrite j v) s (fun u =>
      u.get (DET_JACK_STAT_STATE j) = (if x.level = bitOf v.toNat 1 then 2 else 1) ∧ u.get (DET_JACK_CFG_EN j) = 1 ∧
      u.get (DET_JACK_CFG_POL j) = bits v.toNat 1 1 ∧ u.get (DET_JACK_CFG_BIAS j) = bits v.toNat 16 2 ∧
      u.get (DET_JACK_CFG_HPO_MASK j) = bits v.toNat 20 4 ∧ u.get (DET_JACK_CFG_INS_DB j) = bits v.toNat 4 4 ∧
      Quiet (fields ++ [DET_JACK_STAT_STATE j, DET_JACK_STAT_CFG_ERR j, HPO_STAT_JACK_MUTED]) s u)) ∧
    (s.get (DET_JACK_STAT_STATE j) = 1 → Answers (.jackEdge j (s.on (DET_JACK_CFG_POL j))) s (fun u =>
      u.get (DET_JACK_STAT_STATE j) = 2 ∧ (u.jack j).level = s.on (DET_JACK_CFG_POL j) ∧
      (u.jack j).bias = s.get (DET_JACK_CFG_BIAS j) ∧ Quiet [DET_JACK_STAT_STATE j, HPO_STAT_JACK_MUTED] s u)) ∧
    (s.get (DET_JACK_STAT_STATE j) = 2 → Answers (.jackEdge j (!x.pol)) s (fun u =>
      u.get (DET_JACK_STAT_STATE j) = 1 ∧ (u.jack j).mute = false ∧ Quiet [DET_JACK_STAT_STATE j, HPO_STAT_JACK_MUTED] s u)) ∧
    (3 ≤ s.get (DET_JACK_STAT_STATE j) → Answers (.jackEdge j (!x.pol)) s (fun u => (u.jack j).removing = true ∧ Quiet [] s u)) ∧
    (s.get (DET_JACK_STAT_STATE j) = 2 → x.level = x.pol → Answers (.detInsert j) s (fun u =>
      u.get (DET_JACK_STAT_STATE j) = 3 ∧ u.bit DET_SUM_INSERT j = true ∧ 0x0C01 ∈ u.occ ∧
      Quiet [DET_JACK_STAT_STATE j, DET_SUM_INSERT] s u)) ∧
    (s.get (DET_JACK_STAT_STATE j) = 3 → s.awake = true → s.privacy = false → x.bias ≠ 0 → Answers (.jackSeatEnd j) s (fun u =>
      u.get (DET_JACK_STAT_STATE j) = 4 ∧ bitOf u.detBias (x.bias - 1) = true ∧ (u.jack j).samples = [] ∧ SameBytes s u)) ∧
    (s.get (DET_JACK_STAT_STATE j) = 3 → s.awake = true → s.privacy = true → x.bias ≠ 0 → Answers (.jackSeatEnd j) s (fun u =>
      u.get (DET_JACK_STAT_STATE j) = 6 ∧ Quiet [DET_JACK_STAT_STATE j] s u)) ∧
    (∀ code : Nat, s.awake = true → s.get (DET_JACK_STAT_STATE j) = 4 → x.settle = 0 → x.samples.length = 15 → code < 1024 →
      (code :: x.samples).foldl max 0 - (code :: x.samples).foldl min 1023 ≤ 32 → Answers (.detSample j code) s (fun u =>
      u.get (DET_JACK_STAT_STATE j) = 5 ∧ u.get (DET_JACK_STAT_TYPE j) = jackType ((code :: x.samples).sum / 16) ∧
      u.get (DET_JACK_STAT_CODE j) = (code :: x.samples).sum / 16 % 1024 ∧ u.bit DET_SUM_ID j = true ∧ 0x0C03 ∈ u.occ ∧
      (u.jack j).mute = false ∧ SameBytes s u)) ∧
    (∀ code k : Nat, s.awake = true → s.get (DET_JACK_STAT_STATE j) = 5 → s.get (DET_JACK_STAT_TYPE j) = 2 →
      s.on (DET_JACK_CFG_BTN_EN j) = true → s.bit AIN_BIAS_STAT_ON (x.bias - 1) = true → code < 1024 → s.btnOf code = some k → x.btn = none → x.cand = some k →
      s.get DET_BTN_CFG_PRESS_DB ≤ x.count + 1 → Answers (.detSample j code) s (fun u =>
      (u.jack j).btn = some k ∧ u.get (DET_JACK_STAT_BTN j) = 2 ^ k ∧ u.bit DET_SUM_BTN j = true ∧ 0x0C04 ∈ u.occ ∧
      Quiet [DET_JACK_STAT_BTN j, DET_SUM_BTN] s u)) ∧
    (3 ≤ s.get (DET_JACK_STAT_STATE j) → x.removing = true → Answers (.detRemove j) s (fun u =>
      u.get (DET_JACK_STAT_STATE j) = 1 ∧ u.get (DET_JACK_STAT_TYPE j) = 0 ∧ u.bit DET_SUM_REMOVE j = true ∧
      (u.jack j).btn = none ∧ 0x0C02 ∈ u.occ ∧ SameBytes s u)) ∧
    (s.get (DET_JACK_STAT_STATE j) = 5 → s.privacy = false → x.bias ≠ 0 → Answers (.reident j) s (fun u =>
      u.get (DET_JACK_STAT_STATE j) = 4 ∧ (u.jack j).attempts = 0 ∧ (u.jack j).btn = none ∧ SameBytes s u))

/-! ### The chain -/

/-- R321, R322, R330, R331: a chain port detects, comes up, goes down, retrains, times out and detaches. Model choices: log entries
77 and 80. -/
def Obligations.ChainLinkStates : Prop :=
  ∀ (s : State) (p : TwoIx),
    let st := s.get (CHN_PORT_STAT_STATE p)
    let down := fun (cause : Nat) (q : TwoIx) (u : State) =>
      u.get (CHN_PORT_STAT_STATE q) = 6 ∧ u.get (CHN_PORT_STAT_SIGNAL q) = b2n (cause != 0) ∧
      u.get (CHN_PORT_CNT_RETRAINS q) = satNat 16 (s.get (CHN_PORT_CNT_RETRAINS q) + 1) ∧ u.bit CHN_SUM_LINK_DOWN q = true ∧
      0x0D02 ∈ u.occ ∧ (∀ i : Nat, i < 128 → mapFind u.edgeNew (0x100 + 128 * q.val + i) = none) ∧
      Quiet [CHN_PORT_STAT_STATE q, CHN_PORT_STAT_SIGNAL q, CHN_PORT_CNT_RETRAINS q, CHN_SUM_LINK_DOWN, CLK_DOMA_STAT_STATE,
        CLK_EVT_SUM_DOMA_HOLD] s u
    (s.awake = true → st = 1 → (s.isHead = true → p = 1) → Answers (.linkDetect p) s (fun u =>
      u.get (CHN_PORT_STAT_STATE p) = 2 ∧ u.get (CHN_PORT_STAT_SIGNAL p) = 1 ∧
      Quiet [CHN_PORT_STAT_STATE p, CHN_PORT_STAT_SIGNAL p] s u)) ∧
    (s.awake = true → st = 6 → (s.isHead = true → p = 1) → Answers (.linkDetect p) s (fun u =>
      u.get (CHN_PORT_STAT_SIGNAL p) = 1 ∧ Quiet [CHN_PORT_STAT_SIGNAL p] s u)) ∧
    (∀ k : LinkInfo, st = 2 ∨ st = 4 ∨ st = 6 → s.on (CHN_PORT_STAT_SIGNAL p) = true → 625 < k.delay →
      Answers (.chnLinkUp p k) s (fun u =>
      u.get (CHN_PORT_STAT_STATE p) = 3 ∧ u.get CHN_SUM_DELAY_RANGE = 1 ∧ 0x0D09 ∈ u.occ ∧
      Quiet [CHN_PORT_STAT_STATE p, CHN_PORT_STAT_DELAY p, CHN_SUM_DELAY_RANGE] s u)) ∧
    (∀ k : LinkInfo, st = 2 ∨ st = 4 ∨ st = 6 → s.on (CHN_PORT_STAT_SIGNAL p) = true → k.delay ≤ 625 → s.isHead = true → p = 1 →
      Answers (.chnLinkUp p k) s (fun u =>
      u.get (CHN_PORT_STAT_STATE p) = 5 ∧ u.get (CHN_PORT_STAT_DELAY p) = k.delay ∧ 0x0D01 ∈ u.occ ∧
      (s.chain.wasUp = false → u.chain.dealReq.isSome = true) ∧
      (k.addrValid = false → u.get CHN_SUM_ATTACH = 1 ∧ 0x0D03 ∈ u.occ) ∧
      Quiet [CHN_PORT_STAT_STATE p, CHN_PORT_STAT_DELAY p, CHN_SUM_ATTACH] s u)) ∧
    (∀ k : LinkInfo, st = 2 ∨ st = 4 ∨ st = 6 → s.on (CHN_PORT_STAT_SIGNAL p) = true → k.delay ≤ 625 → s.isHead = false → p = 0 →
      s.get CLK_DOMA_STAT_STATE = 1 → k.pos < 15 → Answers (.chnLinkUp p k) s (fun u =>
      u.get (CHN_PORT_STAT_STATE p) = 5 ∧ u.get (CHN_PORT_STAT_DELAY p) = k.delay ∧ 0x0D01 ∈ u.occ ∧
      u.get CHN_STAT_POS = k.pos + 1 ∧ u.frame = k.headFrame % 2 ^ 32 ∧ u.get CLK_DOMA_STAT_STATE = 0 ∧
      Quiet [CHN_PORT_STAT_STATE p, CHN_PORT_STAT_DELAY p, CHN_STAT_POS, CLK_DOMA_STAT_STATE, CLK_DOMC_STAT_STATE,
        CLK_DOMC_STAT_SLEW_LEFT] s u)) ∧
    (∀ cause : Nat, st = 5 → cause = 0 ∨ (cause = 1 ∧ 2 ≤ mapGet 0 s.chain.missing p) ∨ (cause = 2 ∧ 8 ≤ s.crcFails p) →
      Answers (.chnLinkDown p cause) s (down cause p)) ∧
    (s.get (CHN_PORT_STAT_STATE 0) = 5 → Answers .retrainUp s (down 3 0)) ∧
    (s.get (CHN_PORT_STAT_STATE 1) = 5 → Answers .retrainDn s (down 3 1)) ∧
    (st = 2 ∨ st = 4 ∨ st = 6 → Answers (.trainingTimeout p) s (fun u =>
      u.get (CHN_PORT_STAT_STATE p) = 1 ∧ 0x0D02 ∈ u.occ ∧ Quiet [CHN_PORT_STAT_STATE p] s u)) ∧
    (∀ f : Nat, mapFind s.chain.downAt 1 = some f → s.awake = true → s.get (CHN_PORT_STAT_STATE 1) ≠ 5 →
      s.framesOfMs (10 * max 1 (s.get CHN_CTL_DETACH_T)) ≤ s.frameAgo (f - 1) → s.isHead = true → Answers (.detachTimeout 1) s
      (fun u => u.get CHN_SUM_DETACH = 1 ∧ 0x0D04 ∈ u.occ ∧ mapFind u.chain.downAt 1 = none ∧
      ∀ v : UnitIx, 0 < s.get (CHN_ROSTER_STAT_POS v) → u.bit CHN_STAT_PRESENT v = false)) ∧
    (∀ f : Nat, mapFind s.chain.downAt 1 = some f → s.awake = true → s.get (CHN_PORT_STAT_STATE 1) ≠ 5 →
      s.framesOfMs (10 * max 1 (s.get CHN_CTL_DETACH_T)) ≤ s.frameAgo (f - 1) → s.isHead = false →
      s.on CHN_STAT_ADDR_VALID = true → TunnelFree s 0 → Answers (.detachTimeout 1) s (fun u =>
      Sends 0 { hdr := tunHdr s.ownAddr 0xA 0 0 0 0 0, data := [1] } s u ∧ Quiet [] s u))

/-- R315 to R320 and R327 to R331: a received chain frame delivers its slots, counts its errors and, on a satellite, deals; the head
asks for a deal, collects its answers and ends it; units attach and detach. Model choices: log entries 10 and 78. -/
def Obligations.ChainFramesAndDeal : Prop :=
  (∀ (s : State) (p : TwoIx) (f : ChainFrame), s.get (CHN_PORT_STAT_STATE p) = 5 →
    let cell := fun (i : Nat) => 0x100 + 128 * p.val + i
    let idle := (unitsOf 7 (f.ctl.drop 2)).all (fun x => tunType x.hdr == 0)
    let w0 := f.ctl.getD 0 0
    (f.missing = true → Answers (.chainFrameRx p f) s (fun u =>
      u.get (CHN_PORT_CNT_GRP_CRC p) = satNat 16 (s.get (CHN_PORT_CNT_GRP_CRC p) + 1) ∧
      mapGet 0 u.chain.missing p = mapGet 0 s.chain.missing p + 1 ∧
      (∀ i : Nat, i < s.chainWidth → mapFind u.edgeNew (cell i) = some s.errCell) ∧ Quiet [CHN_PORT_CNT_GRP_CRC p] s u)) ∧
    (f.missing = false → f.crcOk = false → f.badSlots = 0 → f.badGroups = 0 → Answers (.chainFrameRx p f) s (fun u =>
      u.get (CHN_PORT_CNT_CTRL_CRC p) = satNat 16 (s.get (CHN_PORT_CNT_CTRL_CRC p) + 1) ∧ mapGet 0 u.chain.missing p = 0 ∧
      u.crcFails p = 1 + ((((mapGet [] s.chain.crcBad p).take 63).filter id).length) ∧
      (∀ i : Nat, i < s.chainWidth → mapFind u.edgeNew (cell i) = some (BitVec.ofNat 64 (f.slots.getD i 0))) ∧
      Quiet [CHN_PORT_CNT_CTRL_CRC p, CHN_PORT_CNT_CODE_ERR p, CHN_PORT_CNT_GRP_CRC p] s u)) ∧
    (f.missing = false → f.crcOk = true → p = 1 → idle = true → Answers (.chainFrameRx p f) s (fun u =>
      (∀ i : Nat, i < s.chainWidth → mapFind u.edgeNew (cell i) =
        some (if bitOf f.badSlots i || bitOf f.badGroups (i / 16) then s.errCell else BitVec.ofNat 64 (f.slots.getD i 0))) ∧
      (∀ i : Nat, s.chainWidth ≤ i → i < 128 → mapFind u.edgeNew (cell i) = none) ∧
      u.get (CHN_PORT_CNT_CODE_ERR p) = satNat 16 (s.get (CHN_PORT_CNT_CODE_ERR p) + popCount 128 f.badSlots) ∧
      u.get (CHN_PORT_CNT_GRP_CRC p) = satNat 16 (s.get (CHN_PORT_CNT_GRP_CRC p) + popCount 8 f.badGroups) ∧
      Quiet [CHN_PORT_CNT_CODE_ERR p, CHN_PORT_CNT_GRP_CRC p] s u)) ∧
    (f.missing = false → f.crcOk = true → p = 0 → s.isHead = false → idle = true → bitOf w0 32 = true →
      s.chain.seenDeal ≠ some (bits w0 45 3) → bits w0 41 4 < 15 → s.chain.held = none → bitOf w0 34 = false → bitOf w0 35 = false →
      Answers (.chainFrameRx p f) s (fun u =>
      u.get CHN_STAT_ADDR = bits w0 41 4 + 1 ∧ u.get CHN_STAT_ADDR_VALID = 1 ∧ u.chain.held = some (bits w0 41 4 + 1) ∧
      u.chain.outbox.map TunUnit.data = s.chain.outbox.map TunUnit.data ++ [[s.identity % 2 ^ 64], [s.identity / 2 ^ 64]])) ∧
    (f.missing = false → f.crcOk = true → p = 0 → s.isHead = false → idle = true → bitOf w0 32 = true →
      s.chain.seenDeal ≠ some (bits w0 45 3) → bits w0 41 4 = 15 → bitOf w0 34 = false → bitOf w0 35 = false →
      Answers (.chainFrameRx p f) s (fun u =>
      u.get CHN_STAT_ADDR_VALID = 0 ∧ u.chain.outbox = s.chain.outbox))) ∧
  (∀ (s : State), s.isHead = true →
    (∀ force : Bool, Answers (.deal force) s (fun u => u.chain.dealReq = some force ∧ Quiet [] s u)) ∧
    (∀ (a : Nat) (v : Word), 0 < a → a < 16 → s.chain.dealing = true → s.chain.dealSeq < 8 →
      Answers (.dealRsp { hdr := tunHdr a 8 (a + 2 ^ 9 * s.chain.dealSeq) 0 0 0 0, data := [v.toNat] }) s (fun u =>
      (mapFind u.chain.rsps a).map DealRsp.idLo = some v.toNat ∧ Quiet [] s u)) ∧
    (s.chain.dealing = true → s.chain.rsps = [] → 34 ≤ s.frameAgo s.chain.dealFrame → Answers .chnDealDone s (fun u =>
      u.get CHN_STAT_PRESENT = 0 ∧ u.get CHN_STAT_HIGHEST = 0 ∧ u.get CHN_STAT_DEAL_STATE = 2 ∧ u.get CHN_SUM_DEAL_DONE = 1 ∧
      0x0D05 ∈ u.occ ∧ u.chain.dealing = false ∧ (∀ v : UnitIx, u.get (CHN_ROSTER_STAT_PRESENT v) = 0) ∧ SameBytes s u)) ∧
    (∀ (a : Nat) (x : DealRsp), 0 < a → a < 16 → s.chain.dealing = true → s.chain.rsps = [(a, x)] → x.got = 3 → x.tail = true →
      x.pos < 16 → x.idLo < 2 ^ 64 → x.idHi < 2 ^ 64 → Answers .chnDealDone s (fun u =>
      u.get CHN_STAT_PRESENT = 2 ^ a ∧ u.get CHN_STAT_HIGHEST = a ∧ u.get CHN_STAT_DEAL_STATE = 2 ∧ 0x0D05 ∈ u.occ ∧
      u.get (CHN_ROSTER_ID0_ID_LO a) = x.idLo ∧ u.get (CHN_ROSTER_ID1_ID_HI a) = x.idHi ∧
      u.get (CHN_ROSTER_STAT_POS a) = x.pos ∧ u.get (CHN_ROSTER_STAT_EVER a) = 1 ∧ u.get (CHN_ROSTER_STAT_PRESENT a) = 1 ∧
      SameBytes s u)) ∧
    (∀ x : TunUnit, tunType x.hdr = 10 → x.data = [0] → s.inOrder (tunUnit x.hdr) x = true → Answers (.topoAttach x) s (fun u =>
      u.get CHN_SUM_ATTACH = 1 ∧ 0x0D03 ∈ u.occ ∧ (s.on CHN_CTL_AUTO_DEAL = true → u.chain.dealReq = some false) ∧
      Acks (tunUnit x.hdr) x u ∧ Quiet [CHN_SUM_ATTACH] s u)) ∧
    (∀ x : TunUnit, tunType x.hdr = 10 → x.data = [1] → s.inOrder (tunUnit x.hdr) x = true → Answers (.topoDetach x) s (fun u =>
      u.get CHN_SUM_DETACH = 1 ∧ 0x0D04 ∈ u.occ ∧ Acks (tunUnit x.hdr) x u ∧
      (tunUnit x.hdr ≠ 0 → ∀ v : UnitIx, s.get (CHN_ROSTER_STAT_POS (tunUnit x.hdr)) < s.get (CHN_ROSTER_STAT_POS v) →
        u.bit CHN_STAT_PRESENT v = false))))

/-- R334, R335, R337 and R339 to R341: what a satellite does with the tunnel units that the head sends it; what the head does with
the tunnel units that a satellite sends. Model choices: log entries 65, 79 and 80. -/
def Obligations.TunnelUnitsActAndAnswer : Prop :=
  (∀ (s : State) (x : TunUnit) (d : Word), s.forMe x = true → s.inOrder 0 x = true → x.data = [d.toNat] →
    let a := tunAddr x.hdr
    let b := (a - 0x400000) / 0x100000
    let r := tunRing x.hdr
    (Answers (.idleUnit x) s (Unmoved s)) ∧
    (tunType x.hdr = 1 → a % 8 = 0 → 0x400000 ≤ a → a < 0xC00000 → s.bankUp b = true → (b = 5 → a < 0x9E0000) →
      Answers (.write x) s (fun u =>
      u.memWord a = d ∧ SameOutside a s u ∧ Acks 0 x u ∧ SameRegs [CUR_CNT_WB_CANCEL, WAKE_MODEL_STAT_STATE] s u)) ∧
    (tunType x.hdr = 2 → a % 8 = 0 → 0x400000 ≤ a → a < 0xC00000 → s.bankUp b = true → (b = 5 → a < 0x9E0000) → s.mark a = 0 →
      TunnelFree s 0 → Answers (.read x) s (fun u =>
      mapGet 0 u.chain.rxSeq 0 = (tunSeq x.hdr + 1) % 65536 ∧
      (u.chain.outbox.getLast?).map TunUnit.data = some [(s.memWord a).toNat] ∧
      (u.chain.outbox.getLast?).map (fun y => tunType y.hdr) = some 3 ∧ Quiet [] s u)) ∧
    (tunType x.hdr = 4 → s.cmdRoom r = true → Answers (.cmd x) s (fun u =>
      u.get (RING_TAIL_TAIL r) = (s.get (RING_TAIL_TAIL r) + 1) % 65536 ∧ Acks 0 x u ∧
      u.memWord (bankAddr 6 (s.ringWord r (s.get (RING_TAIL_TAIL r)))) = d ∧
      (tunWord x.hdr = tunNw x.hdr → (r, s.get (RING_STAT_NEXT_SEQ r)) ∈ u.chain.remote) ∧
      SameOutside (bankAddr 6 (s.ringWord r (s.get (RING_TAIL_TAIL r)))) s u ∧
      SameRegs [RING_TAIL_TAIL r, RING_STAT_LEVEL r, RING_STAT_NEXT_SEQ r, CUR_CNT_WB_CANCEL] s u))) ∧
  (∀ (s : State) (x : TunUnit) (d : Word), s.isHead = true → x.data = [d.toNat] →
    let v := tunUnit x.hdr
    let r := tunRing x.hdr
    (∀ (seq f : Nat), tunType x.hdr = 3 → s.inOrder v x = true → s.chain.access = some (v, seq, 1, f) → Answers (.readRsp x) s
      (fun u => u.get CHN_TUN_RDATA_DATA = d.toNat ∧ u.get CHN_TUN_STAT_BUSY = 0 ∧
      u.get CHN_TUN_STAT_STATUS = tunStatus x.hdr ∧ u.chain.access = none ∧ Acks v x u ∧
      Quiet [CHN_TUN_RDATA_DATA, CHN_TUN_STAT_BUSY, CHN_TUN_STAT_STATUS] s u)) ∧
    (tunType x.hdr = 5 → s.inOrder v x = true → tunWord x.hdr = 0 → Answers (.cpl x) s (fun u =>
      mapGet 0 u.chain.cplWord v = d.toNat ∧ Acks v x u ∧ Quiet [] s u)) ∧
    (tunType x.hdr = 5 → s.inOrder v x = true → tunWord x.hdr = 1 → s.proxy r = true → s.get (RING_CFG_UNIT r) = v →
      s.chain.cplWait = [] → s.cplFull r = false →
      let seq := mapGet 0 s.chain.cplWord v % 65536
      let status := bits (mapGet 0 s.chain.cplWord v) 24 8
      Answers (.cpl x) s (fun u =>
      mapFind (u.ring r).hist seq = some status ∧ (u.ring r).doneSeq = (seq + 1) % 65536 ∧
      (halts status = true → u.get (RING_STAT_STATE r) = 3 ∧ u.get (RING_STAT_HALT_SEQ r) = seq ∧
        u.get (RING_STAT_HALT_STATUS r) = status ∧ 0x0301 ∈ u.occ) ∧ Acks v x u)) ∧
    (∀ a b c : Nat, tunType x.hdr = 6 → s.inOrder v x = true → tunWord x.hdr = 3 → mapGet [] s.chain.evWord v = [a, b, c] →
      s.ringIs (s.get CHN_CTL_FWD_RING) 2 = true → s.on TWB_ALERT_CFG_EN = false → Answers (.event x) s (fun u =>
      u.fwdq = s.fwdq ++ [{ code := bits a 0 16, sev := bits a 16 2, unit := v, fwd := true, frame := s.frame, orig := bits a 32 32
                            payload := c % 2 ^ 64 + 2 ^ 64 * d.toNat }] ∧
      Acks v x u ∧ Quiet [] s u)) ∧
    (∀ a b c : Nat, tunType x.hdr = 6 → s.inOrder v x = true → tunWord x.hdr = 3 → mapGet [] s.chain.evWord v = [a, b, c] →
      s.ringIs (s.get CHN_CTL_FWD_RING) 2 = false → s.on TWB_ALERT_CFG_EN = false → Answers (.event x) s (fun u =>
      u.get CHN_FWD_CNT_DROPPED = satNat 16 (s.get CHN_FWD_CNT_DROPPED + 1) ∧ u.get CHN_SUM_FWD_DROP = 1 ∧ 0x0D0A ∈ u.occ ∧
      Acks v x u ∧ Quiet [CHN_FWD_CNT_DROPPED, CHN_SUM_FWD_DROP] s u)) ∧
    (∀ (y : TunUnit) (l : List TunUnit), tunType x.hdr = 7 → mapGet [] s.chain.replay v = y :: l → tunSeq y.hdr = d.toNat % 65536 →
      mapGet [] s.chain.sendq v = [] → Answers (.ack x) s (fun u =>
      mapGet [] u.chain.replay v = l ∧ mapGet 0 u.chain.ackFrame v = s.frame ∧
      (s.chain.access.map (fun q => (q.1, q.2.1, q.2.2.1)) = some (v, tunSeq y.hdr, 0) → u.chain.access = none ∧ u.get CHN_TUN_STAT_BUSY = 0 ∧
        u.get CHN_TUN_STAT_STATUS = stOk) ∧
      Quiet [CHN_TUN_STAT_BUSY, CHN_TUN_STAT_STATUS] s u)) ∧
    (tunType x.hdr = 11 → mapFind s.chain.lastRpt v ≠ some (4 * (d.toNat % 65536) + bits (tunAddr x.hdr) 0 2 + 1) →
      Answers (.resetRpt x) s (fun u =>
      u.get CHN_SUM_SAT_RESET = 1 ∧ 0x0D0D ∈ u.occ ∧ mapGet [] u.chain.replay v = [] ∧ mapGet 0 u.chain.txSeq v = 0 ∧
      mapGet 0 u.chain.rxSeq v = 0 ∧
      (u.chain.outbox.getLast?).map (fun y => (tunType y.hdr, y.data)) = some (7, [65535 + 2 ^ 16]))))

/-- R335, R339: units without acknowledgement are sent again, and a register access through the tunnel starts and times out. Model
choices: log entries 65 and 79. -/
def Obligations.TunnelAccessAndReplay : Prop :=
  ∀ (s : State),
    let v := s.get CHN_TUN_ADDR_UNIT
    let op := CHN_TUN_ADDR_OP
    (s.isHead = true → s.on CHN_TUN_STAT_BUSY = false → v ≠ 0 → v < 16 → s.bit CHN_STAT_PRESENT v = true → TunnelFree s v →
      mapGet 0 s.chain.txSeq v < 65536 → Answers .chnTunGo s (fun u =>
      u.get CHN_TUN_STAT_BUSY = 1 ∧ u.get CHN_TUN_STAT_SEQ = mapGet 0 s.chain.txSeq v ∧
      u.chain.access = some (v, mapGet 0 s.chain.txSeq v, b2n !s.on op, s.frame) ∧
      Sends v { hdr := tunHdr v (if s.on op then 1 else 2) (s.get CHN_TUN_ADDR_ADDR) 0 0 0 0
                data := [if s.on op then s.get CHN_TUN_WDATA_DATA else 0] } s u ∧
      Quiet [CHN_TUN_STAT_BUSY, CHN_TUN_STAT_SEQ] s u)) ∧
    (s.isHead = true → s.on CHN_TUN_STAT_BUSY = false → v = 0 ∨ s.bit CHN_STAT_PRESENT v = false → Answers .chnTunGo s (fun u =>
      u.get CHN_TUN_STAT_STATUS = stBadArg ∧ Quiet [CHN_TUN_STAT_STATUS] s u)) ∧
    (∀ w seq rd f : Nat, s.chain.access = some (w, seq, rd, f) → s.framesOfMs (max 1 (s.get CHN_CTL_TUN_TO)) ≤ s.frameAgo f →
      Answers .chnTunTimeout s (fun u =>
      u.get CHN_TUN_STAT_BUSY = 0 ∧ u.get CHN_TUN_STAT_STATUS = stTimeout ∧ u.chain.access = none ∧ 0x0D0B ∈ u.occ ∧
      u.chain.replay = s.chain.replay ∧ Quiet [CHN_TUN_STAT_BUSY, CHN_TUN_STAT_STATUS] s u)) ∧
    (∀ w : UnitIx, s.isHead = true → mapGet [] s.chain.replay w ≠ [] →
      2 * s.get (CHN_ROSTER_STAT_POS w) + 8 ≤ s.frameAgo (mapGet 0 s.chain.ackFrame w) → Answers (.tunnelResend w) s (fun u =>
      u.chain.outbox = s.chain.outbox ++ mapGet [] s.chain.replay w ∧ u.chain.replay = s.chain.replay ∧
      mapGet 0 u.chain.ackFrame w = s.frame ∧ Quiet [] s u)) ∧
    (∀ w : UnitIx, s.isHead = false → mapGet [] s.chain.replay 0 ≠ [] →
      2 * s.get CHN_STAT_POS + 8 ≤ s.frameAgo (mapGet 0 s.chain.ackFrame 0) → Answers (.tunnelResend w) s (fun u =>
      u.chain.outbox = s.chain.outbox ++ mapGet [] s.chain.replay 0 ∧ u.chain.replay = s.chain.replay ∧ Quiet [] s u))

/-! ### Rings, commands and ordering -/

/-- R349 to R353, R359: a ring is configured, and its pointers advance or are refused. Model choices: log entry 16. -/
def Obligations.RingConfigurationAndPointers : Prop :=
  ∀ (s : State) (r : RingIx) (v : Word),
    let p := v.toNat % 2 ^ 16
    let words := [RING_HEAD_HEAD r, RING_TAIL_TAIL r, RING_STAT_LEVEL r, RING_STAT_NEXT_SEQ r]
    let refused := fun (u : State) => u.get (RING_STAT_PTR_ERR r) = 1 ∧ 0x0303 ∈ u.occ ∧ Quiet [RING_STAT_PTR_ERR r] s u
    (s.ringOpen r = true → s.ringInvalid r v.toNat = false → Answers (.ringCfgWrite r v) s (fun u =>
      u.get (RING_CFG_KIND r) = bits v.toNat 0 2 ∧ u.get (RING_CFG_EN r) = bits v.toNat 2 1 ∧
      u.get (RING_CFG_SIZE r) = bits v.toNat 3 4 ∧ u.get (RING_CFG_BASE r) = bits v.toNat 7 17 ∧
      u.get (RING_CFG_CPL_RING r) = bits v.toNat 24 6 ∧ u.get (RING_CFG_UNIT r) = bits v.toNat 30 4 ∧
      u.get (RING_CFG_PTRW r) = bits v.toNat 40 17 ∧ u.get (RING_CFG_WM r) = bits v.toNat 57 4 ∧
      u.get (RING_STAT_STATE r) = bits v.toNat 2 1 ∧ u.get (RING_STAT_CFG_ERR r) = 0 ∧
      (bitOf v.toNat 2 = true → s.on (RING_CFG_EN r) = false → ∀ f ∈ words, u.get f = 0) ∧
      Quiet (words ++ [RING_CFG_KIND r, RING_CFG_EN r, RING_CFG_SIZE r, RING_CFG_BASE r, RING_CFG_CPL_RING r, RING_CFG_UNIT r,
        RING_CFG_PTRW r, RING_CFG_WM r, RING_STAT_STATE r, RING_STAT_CFG_ERR r]) s u)) ∧
    (s.ringOpen r = false ∨ 8 < bits v.toNat 3 4 ∨ bits v.toNat 7 17 % 2 ^ (bits v.toNat 3 4 + 4) ≠ 0 →
      Answers (.ringCfgWrite r v) s (fun u =>
      u.get (RING_STAT_CFG_ERR r) = 1 ∧ 0x0304 ∈ u.occ ∧ Quiet [RING_STAT_CFG_ERR r] s u)) ∧
    (let lvl := (p + 65536 - s.get (RING_HEAD_HEAD r)) % 65536
     s.ringIs r 0 = true → (s.ringSize r < lvl ∨ lvl < s.ringLevel r) → Answers (.ringTailWrite r v) s refused) ∧
    (let lvl := (p + 65536 - s.get (RING_HEAD_HEAD r)) % 65536
     s.ringIs r 0 = true → s.proxy r = false → lvl ≤ s.ringSize r → s.ringLevel r ≤ lvl → Answers (.ringTailWrite r v) s (fun u =>
      u.get (RING_TAIL_TAIL r) = p ∧ (lvl ≤ 4096 → u.get (RING_STAT_LEVEL r) = lvl) ∧
      u.get (RING_STAT_PTR_ERR r) = 0 ∧ u.get (RING_HEAD_HEAD r) = s.get (RING_HEAD_HEAD r) ∧
      (p ≠ (s.ring r).ready → (p + 65536 - (s.ring r).ready) % 65536 = bits (s.peek6 (s.ringWord r (s.ring r).ready)) 8 3 + 1 →
        (u.ring r).ready = p ∧ u.get (RING_STAT_NEXT_SEQ r) = (s.get (RING_STAT_NEXT_SEQ r) + 1) % 65536) ∧
      Quiet [RING_TAIL_TAIL r, RING_STAT_LEVEL r, RING_STAT_PTR_ERR r, RING_STAT_NEXT_SEQ r] s u)) ∧
    (let lvl := (p + 65536 - s.get (RING_HEAD_HEAD r)) % 65536
     let w := s.peek6 (s.ringWord r (s.ring r).ready)
     s.isHead = true → s.proxy r = true → lvl ≤ s.ringSize r → s.ringLevel r ≤ lvl →
      (p + 65536 - (s.ring r).ready) % 65536 = 1 → bits w 8 3 = 0 → TunnelFree s (s.get (RING_CFG_UNIT r)) →
      s.get (RING_CFG_UNIT r) < 16 → Answers (.ringTailWrite r v) s (fun u =>
      u.get (RING_TAIL_TAIL r) = p ∧ (u.ring r).ready = p ∧
      Sends (s.get (RING_CFG_UNIT r)) { hdr := tunHdr (s.get (RING_CFG_UNIT r)) 4 0 r 0 0 0, data := [w] } s u ∧
      Quiet [RING_TAIL_TAIL r, RING_STAT_LEVEL r, RING_STAT_PTR_ERR r, RING_STAT_NEXT_SEQ r, RING_STAT_STATE r] s u)) ∧
    (s.on (RING_CFG_EN r) = false → Answers (.ringTailWrite r v) s (Unmoved s) ∧ Answers (.ringHeadWrite r v) s (Unmoved s)) ∧
    (s.ringIs r 3 = true → s.bankUp 6 = true → Answers (.ringTailWrite r v) s (fun u =>
      u.peek6 (s.streamPtr r false) = p ∧ SameOutside (bankAddr 6 (s.streamPtr r false)) s u ∧ SameRegs [CUR_CNT_WB_CANCEL] s u)) ∧
    (s.ringIs r 3 = true → s.bankUp 6 = true → Answers (.ringHeadWrite r v) s (fun u =>
      u.peek6 (s.streamPtr r true) = p ∧ SameOutside (bankAddr 6 (s.streamPtr r true)) s u ∧ SameRegs [CUR_CNT_WB_CANCEL] s u)) ∧
    (let lvl := (s.get (RING_TAIL_TAIL r) + 65536 - p) % 65536
     s.ringIs r 1 = true ∨ s.ringIs r 2 = true → s.ringLevel r < lvl → Answers (.ringHeadWrite r v) s refused) ∧
    (let lvl := (s.get (RING_TAIL_TAIL r) + 65536 - p) % 65536
     s.ringIs r 2 = true ∨ (s.ringIs r 1 = true ∧ s.chain.cplWait = [] ∧ ∀ q : Nat, (s.ring q).waiting = none) →
      lvl ≤ s.ringLevel r → Answers (.ringHeadWrite r v) s (fun u =>
      u.get (RING_HEAD_HEAD r) = p ∧ (lvl ≤ 4096 → u.get (RING_STAT_LEVEL r) = lvl) ∧ u.get (RING_STAT_PTR_ERR r) = 0 ∧
      Quiet [RING_HEAD_HEAD r, RING_STAT_LEVEL r, RING_STAT_PTR_ERR r] s u))

/-- R362 and R372 to R376: SKIP, RETRY and FLUSH of a halted ring; ABORT and PARAM. Model choices: log entries 17, 18 and 19. -/
def Obligations.RingResumeAbortAndParam : Prop :=
  (∀ (s : State) (r : RingIx), s.get (RING_STAT_STATE r) = 3 →
    let next := (s.get (RING_HEAD_HEAD r) + (s.ring r).haltNw) % 65536
    let fields := [RING_STAT_STATE r, RING_HEAD_HEAD r, RING_STAT_LEVEL r]
    let unit := s.get (RING_CFG_UNIT r)
    let resume := fun (mode : Nat) => Sends unit { hdr := tunHdr unit 1 0xE03800 0 0 0 0, data := [r + 256 * mode] } s
    (s.proxy r = false → Answers (.skip r) s (fun u =>
      u.get (RING_HEAD_HEAD r) = next ∧ u.get (RING_STAT_STATE r) = 1 ∧ Quiet fields s u)) ∧
    (s.proxy r = false → Answers (.retry r) s (fun u =>
      u.get (RING_HEAD_HEAD r) = s.get (RING_HEAD_HEAD r) ∧ u.get (RING_STAT_STATE r) = 1 ∧
      (u.ring r).retrySeq = some (s.get (RING_STAT_HALT_SEQ r)) ∧ Quiet fields s u)) ∧
    (s.proxy r = false → (s.ring r).ready = next → Answers (.flush r) s (fun u =>
      u.get (RING_HEAD_HEAD r) = s.get (RING_TAIL_TAIL r) ∧ u.get (RING_STAT_LEVEL r) = 0 ∧ u.get (RING_STAT_STATE r) = 1 ∧
      (u.ring r).ready = s.get (RING_TAIL_TAIL r) ∧ Quiet fields s u)) ∧
    (s.proxy r = false → (s.ring r).ready ≠ next → s.cplFull r = true → Answers (.flush r) s (fun u =>
      u.get (RING_STAT_STATE r) = 4 ∧ (u.ring r).flushing = true ∧
      (u.ring r).waiting.map (fun w => (w.1 % 65536, bits w.1 24 8)) = some ((s.ring r).doneSeq % 65536,
        if (s.ring r).marks.contains (s.ring r).doneSeq then stCancelled else stHalted) ∧ Quiet fields s u)) ∧
    (s.proxy r = true → s.isHead = true → unit < 16 → TunnelFree s unit →
      Answers (.skip r) s (fun u => u.get (RING_HEAD_HEAD r) = next ∧ resume 0 u ∧ Quiet fields s u) ∧
      Answers (.retry r) s (fun u => u.get (RING_HEAD_HEAD r) = s.get (RING_HEAD_HEAD r) ∧ resume 1 u ∧ Quiet fields s u) ∧
      Answers (.flush r) s (fun u => u.get (RING_HEAD_HEAD r) = next ∧ resume 2 u ∧ Quiet fields s u))) ∧
  (∀ (s : State) (r : RingIx) (ws : List Nat), TakesUp s r ws →
    let w0 := ws.headD 0
    let op := w0 % 256
    let t := abortRing ws
    let q := abortSeq ws
    let known := s.ringIs t 0 = true ∧ (s.get (RING_STAT_NEXT_SEQ t) + 65535 - q) % 65536 < 32768
    let tile := bits w0 16 10
    let idx := bits w0 28 4
    (op = 0x03 → s.ringIs t 0 = false ∨ 32768 ≤ (s.get (RING_STAT_NEXT_SEQ t) + 65535 - q) % 65536 →
      Answers (.abort r) s (Completes s r stBadArg 0)) ∧
    (∀ st : Nat, op = 0x03 → known → t ≠ r → s.doneStatus t q = some st → Answers (.abort r) s
      (Completes s r stAlreadyDone (st + 0x100))) ∧
    (op = 0x03 → known → t ≠ r → s.doneStatus t q = none → s.proxy t = false → noAbort (s.openOpcode t q) = false →
      (s.ring t).exec = none → Answers (.abort r) s (fun u => Completes s r stCancelled 0 u ∧ q ∈ (u.ring t).marks)) ∧
    (op = 0x03 → known → t ≠ r → s.doneStatus t q = none → noAbort (s.openOpcode t q) = true →
      Answers (.abort r) s (Completes s r stNotPermitted 0)) ∧
    (op = 0x03 → known → t = r → q = s.headSeq r → Answers (.abort r) s (Completes s r stBadArg 0)) ∧
    (∀ e : Exec, op = 0x03 → known → t ≠ r → (s.ring t).exec = some e → e.seq = q → (s.ring t).waiting = none →
      e.words.headD 0 % 256 = 0x02 → s.pastCommit e = false → s.proxy t = false → s.cplFull t = false →
      Answers (.abort r) s (fun u => mapFind (u.ring t).hist (q % 65536) = some stCancelled ∧ (u.ring t).exec = none)) ∧
    (op = 0x05 → 16 < idx + (ws.length - 1) → Answers (.param r) s (Completes s r stBadArg 0)) ∧
    (op = 0x05 → idx + (ws.length - 1) ≤ 16 → s.loadCovers tile = false →
      (s.shelfQueue (tile / 64)).length + (ws.length - 1) ≤ 64 → Answers (.param r) s (fun u =>
      Runs s r u ∧ u.shelfQueue (tile / 64) = s.shelfQueue (tile / 64) ++ (List.range (ws.length - 1)).map (fun k =>
        { tile := tile, idx := idx + k, val := BitVec.ofNat 64 (ws.getD (k + 1) 0), cmd := some (r.val, s.headSeq r) }) ∧
      u.get (FAB_PARAM_LVL_LEVEL (tile / 64)) = (u.shelfQueue (tile / 64)).length ∧
      Quiet [RING_STAT_STATE r, FAB_PARAM_LVL_LEVEL (tile / 64)] s u)))

/-- R354, R360, R361, R363, R440: NOP, WAIT and FENCE start, run and complete. Model choices: log entry 18. -/
def Obligations.RingWaitsAndFencesComplete : Prop :=
  ∀ (s : State) (r : RingIx) (ws : List Nat),
    let op := ws.headD 0 % 256
    let c := s.cplRing r
    let w := cplWords s r (s.headSeq r) 0 stOk 0 (s.ring r).retrySeq.isSome
    (TakesUp s r ws → op = 0x00 → Answers (.ringNop r) s (Completes s r stOk 0)) ∧
    (TakesUp s r ws → op = 0x00 → s.cplFull r = false → Answers (.ringNop r) s (fun u =>
      u.peek6 (s.ringWord c (s.get (RING_TAIL_TAIL c))) = w.1 ∧ u.peek6 (s.ringWord c ((s.get (RING_TAIL_TAIL c) + 1) % 65536)) = w.2 ∧
      u.get (RING_TAIL_TAIL c) = (s.get (RING_TAIL_TAIL c) + 2) % 65536)) ∧
    (TakesUp s r ws → op = 0x01 → waitMode ws = 0 → waitCode ws = 0 →
      (later (waitArg ws) s.frame = true → Answers (.waitFrame r) s (Runs s r)) ∧
      (later (waitArg ws) s.frame = false → Answers (.waitFrame r) s (Completes s r stOk s.frame))) ∧
    (TakesUp s r ws → op = 0x01 → waitMode ws = 1 → waitCode ws = 0 →
      (waitArg ws ≠ 0 → Answers (.waitFrames r) s (fun u => Runs s r u ∧ (u.ring r).exec.map Exec.left = some (waitArg ws))) ∧
      (waitArg ws = 0 → Answers (.waitFrames r) s (Completes s r stOk s.frame))) ∧
    (TakesUp s r ws → op = 0x01 → waitCode ws ≠ 0 →
      (waitMode ws = 0 → Answers (.waitFrame r) s (Completes s r stBadArg 0)) ∧
      (waitMode ws = 1 → Answers (.waitFrames r) s (Completes s r stBadArg 0)) ∧
      (waitMode ws = 2 → Answers (.waitPower r) s (Completes s r stBadArg 0)) ∧
      (waitMode ws = 3 → Answers (.waitEvent r) s (fun u =>
        Runs s r u ∧ (u.ring r).exec.map Exec.left = some (waitArg ws) ∧ Quiet [RING_STAT_STATE r] s u))) ∧
    (TakesUp s r ws → op = 0x01 → waitMode ws = 2 → waitCode ws = 0 →
      (r ≠ 0 → Answers (.waitPower r) s (Completes s r stNotPermitted 0)) ∧
      (r = 0 → s.get PWR_MODE_MODE = 0 → Answers (.waitPower r) s (Completes s r stOk s.frame)) ∧
      (r = 0 → s.get PWR_MODE_MODE ≠ 0 → Answers (.waitPower r) s (Runs s r))) ∧
    (TakesUp s r ws → op = 0x02 →
      let snap := ((bitList 64 (ws.getD 1 0)).filter (fun q => q != r.val && s.ringIs q 0)).map
        (fun q => (q, s.get (RING_STAT_NEXT_SEQ q)))
      (s.fenceOpen snap = [] → Answers (.fence r) s (Completes s r stOk 0)) ∧
      (s.fenceOpen snap ≠ [] → Answers (.fence r) s (fun u => Runs s r u ∧ (u.ring r).exec.map Exec.snap = some snap))) ∧
    (∀ e : Exec, (s.ring r).exec = some e → e.words.headD 0 % 256 = 0x01 →
      (e.committed = true → Answers (.waitEnd r) s (Finishes s r e (if e.lost then stTimeout else stOk) e.result)) ∧
      (e.committed = false → s.eventSeen e = true → Answers (.waitEnd r) s (Finishes s r e stOk s.frame))) ∧
    (∀ e : Exec, (s.ring r).exec = some e → e.words.headD 0 % 256 = 0x02 →
      (e.committed = true → Answers (.fenceEnd r) s (Finishes s r e (if e.lost then stTimeout else stOk) 0)) ∧
      (e.committed = false → s.fenceOpen e.snap = [] → Answers (.fenceEnd r) s (Finishes s r e stOk 0)))

/-! ### Coefficient groups and routing -/

/-- R92 to R99, R113 to R115 and R119: a coefficient group is checked, staged into the shadow copies, and flipped as a whole; ROUTE
is checked, queues its changes, and answers a query. Model choices: log entries 14, 58 and 59. -/
def Obligations.CoefficientGroupsAndRouteCommands : Prop :=
  (∀ (s : State) (r : RingIx),
    let once := fun (l : List (Nat × Nat × Word)) => (l.map (fun p => (p.1, p.2.1))).Nodup
    let shadowed := fun (l : List (Nat × Nat × Word)) (u : State) => ∀ p ∈ l, mapGet 0 (u.tile p.1).shadow p.2.1 = p.2.2
    (∀ (ws : List Nat) (st : Nat), TakesUp s r ws → ws.headD 0 % 256 = 0x06 → s.groupFails ws = some st →
      Answers (.coefGroup r) s (Completes s r st 0)) ∧
    (∀ ws : List Nat, TakesUp s r ws → ws.headD 0 % 256 = 0x06 → s.groupFails ws = none →
      s.groupBlocked (s.groupMade r ws) = true → Answers (.coefGroup r) s (fun u =>
      Runs s r u ∧ u.groups = s.groups ++ [s.groupMade r ws] ∧ u.tiles = s.tiles ∧ Quiet [RING_STAT_STATE r] s u)) ∧
    (∀ ws : List Nat, TakesUp s r ws → ws.headD 0 % 256 = 0x06 → s.groupFails ws = none → once (s.groupWords ws) →
      s.groupBlocked (s.groupMade r ws) = false → Answers (.coefGroup r) s (fun u =>
      Runs s r u ∧ { s.groupMade r ws with staged := true } ∈ u.groups ∧ shadowed (s.groupWords ws) u ∧
      Quiet [RING_STAT_STATE r] s u)) ∧
    (∀ g : Group, s.groupOf r = some g → g.staged = false → s.groupBlocked g = false → once g.words →
      Answers (.coefGroupStage r) s (fun u =>
      { g with staged := true, stagedAt := s.frame } ∈ u.groups ∧ shadowed g.words u ∧ Quiet [] s u)) ∧
    (∀ (g : Group) (e : Exec) (t sec : Nat), s.groupOf r = some g → g.staged = true → g.stagedAt ≠ s.frame →
      (∀ f : Nat, g.at_ = some f → later f s.frame = false) → g.secs = [(t, sec)] → t < 1024 → sec < 51 →
      (s.ring r).exec = some e → Answers (.coefGroupFlip r) s (fun u =>
      Finishes s r e stOk s.frame u ∧
      (∀ i : Nat, i < 5 → u.memWord (slotAddr t (5 * sec + i)) = mapGet 0 (s.tile t).shadow (5 * sec + i) ∧
        mapGet 0 (u.tile t).shadow (5 * sec + i) = s.memWord (slotAddr t (5 * sec + i))) ∧
      bitOf (u.tile t).sel sec = !bitOf (s.tile t).sel sec ∧ mapFind (u.tile t).applySettle sec = some g.settle ∧
      (∀ k : Nat, k ≠ t → u.tile k = s.tile k)))) ∧
  (∀ (s : State) (r : RingIx) (ws : List Nat), TakesUp s r ws → ws.headD 0 % 256 = 0x07 →
    let op := bits (ws.headD 0) 16 2
    let d := (ws.getD 2 0, ws.getD 3 0)
    let made := fun (q : Option (Nat × Nat)) (dom : Nat) => routeChange r (s.headSeq r) s.frame ws q dom
    let cells := (routeTargets ws).flatMap (fun x => (s.xp x).queryWords)
    (∀ st : Nat, s.routeCheck ws = some st →
      (op = 0 ∨ op = 3 → Answers (.routeSet r) s (Completes s r st 0)) ∧
      (op = 1 → Answers (.routeClear r) s (Completes s r st 0)) ∧ (op = 2 → Answers (.routeQuery r) s (Completes s r st 0))) ∧
    (∀ x : XpIx, s.routeCheck ws = none → op = 0 → routeTargets ws = [x.val] →
      descFieldsOk d = false ∨ s.lowOk x d = false ∨ s.xpDomain x d = none → Answers (.routeSet r) s (Completes s r stBadArg 0)) ∧
    (∀ (x : XpIx) (dom : Nat), s.routeCheck ws = none → op = 0 → routeTargets ws = [x.val] →
      descFieldsOk d = true → s.lowOk x d = true → s.xpDomain x d = some dom →
      let s' := s.queueChange x (made (some d) dom)
      s'.feeders (xpSnk d) ≤ 8 → s'.reserved ≤ s.reserveLimit → s.queuedChanges < 32 → Answers (.routeSet r) s (fun u =>
      Runs s r u ∧ (u.xp x).queue = (s.xp x).queue ++ [made (some d) dom] ∧ (u.xp x).desc = (s.xp x).desc ∧
      (∀ y : Nat, y ≠ x → u.xp y = s.xp y) ∧ Quiet [RING_STAT_STATE r] s u)) ∧
    (s.routeCheck ws = none → op = 1 → s.queuedChanges < 32 → Answers (.routeClear r) s (fun u =>
      Runs s r u ∧ (∀ x ∈ routeTargets ws, (u.xp x).queue = (s.xp x).queue ++ [made none 1] ∧ (u.xp x).desc = (s.xp x).desc) ∧
      (∀ y : Nat, y ∉ routeTargets ws → u.xp y = s.xp y) ∧ Quiet [RING_STAT_STATE r] s u)) ∧
    (s.routeCheck ws = none → op = 1 → 32 ≤ s.queuedChanges →
      Answers (.routeClear r) s (Completes s r stNoResource 0)) ∧
    (s.routeCheck ws = none → op = 2 → Answers (.routeQuery r) s (fun u => Completes s r stOk s.frame u ∧
      (s.cplFull r = true → ∀ i : Nat, i < cells.length →
        u.peek6 (bits (ws.headD 0) 36 17 + i) = cells.getD i 0 % 2 ^ 64))))

/-- R113, R115, R116, R120 to R122: route changes begin and end, and gain changes ramp or step. Model choices: log entries 37 and
39. -/
def Obligations.RouteChangesBeginAndEnd : Prop :=
  ∀ (s : State) (n : XpIx),
    let x := s.xp n
    let others := fun (u : State) => ∀ y : Nat, y ≠ n → u.xp y = s.xp y
    let still := fun (c : Option XpChange) => ∀ k : XpChange, c = some k → (s.ring k.ring).exec = none
    (∀ (c : XpChange) (d : Nat × Nat), x.queue.head? = some c → c.group = [n.val] → s.changeReady n = true → x.desc = none →
      c.desc = some d → still (some c) → Answers (.routeChangeBegin n) s (fun u =>
      (u.xp n).desc = some d ∧ (u.xp n).old = none ∧ (u.xp n).phase = .fading ∧ (u.xp n).fadeK = c.fadeK ∧
      (u.xp n).queue = x.queue.tail ∧ (u.xp n).applied = xpGain d ∧ (u.xp n).pos = 0 ∧ others u ∧ Quiet [] s u)) ∧
    (∀ (c : XpChange) (d e : Nat × Nat), x.queue.head? = some c → c.group = [n.val] → s.changeReady n = true → x.desc = some e →
      c.desc = some d → gainOnly d e = false → still (some c) → Answers (.routeChangeBegin n) s (fun u =>
      (u.xp n).desc = some d ∧ (u.xp n).old = some e ∧ (u.xp n).phase = .fading ∧ (u.xp n).oldDom = x.dom ∧
      (u.xp n).queue = x.queue.tail ∧ (u.xp n).pos = 0 ∧ (u.xp n).posOld = 0 ∧ others u ∧ Quiet [] s u)) ∧
    (∀ (c : XpChange) (d e : Nat × Nat), x.queue.head? = some c → c.group = [n.val] → s.changeReady n = true → x.desc = some e →
      c.desc = some d → gainOnly d e = true → still (some c) → Answers (.routeChangeBegin n) s (fun u =>
      (u.xp n).desc = some d ∧ (u.xp n).gainFrom = x.applied ∧ (u.xp n).gainTo = xpGain d ∧
      (u.xp n).phase = (if xpGmode d = 2 then .ramping else .zcWait) ∧ (u.xp n).queue = x.queue.tail ∧ others u ∧ Quiet [] s u)) ∧
    (∀ (c : XpChange) (e : Nat × Nat), x.queue.head? = some c → c.group = [n.val] → s.changeReady n = true → x.desc = some e →
      c.desc = none → still (some c) → Answers (.routeChangeBegin n) s (fun u =>
      (u.xp n).desc = none ∧ (u.xp n).old = some e ∧ (u.xp n).phase = .fading ∧ (u.xp n).fadeK = c.fadeK ∧
      (u.xp n).queue = x.queue.tail ∧ others u ∧ Quiet [] s u)) ∧
    (∀ (c : XpChange) (d : Nat × Nat) (e : Exec), x.queue.head? = some c → c.group = [n.val] → s.changeReady n = true →
      x.desc = none → c.desc = some d → (s.ring c.ring).exec = some e → e.seq = c.seq → e.words.headD 0 % 256 = 0x07 →
      bitOf (e.words.headD 0) 25 = false → e.left = 1 → Answers (.routeChangeBegin n) s (Finishes s c.ring e stOk s.frame)) ∧
    (x.phase = .fading → x.desc.isSome = true → 2 ^ x.fadeK ≤ x.pos → (x.old.isSome = true → 2 ^ x.fadeK ≤ x.posOld) →
      Answers (.routeFadeEnd n) s (fun u =>
      (u.xp n).desc = x.desc ∧ (u.xp n).old = none ∧ (u.xp n).phase = .steady ∧ (u.xp n).queue = x.queue ∧ others u ∧
      (still x.cur → Quiet [] s u))) ∧
    (x.phase = .fading → x.desc = none → (x.old.isSome = true → 2 ^ x.fadeK ≤ x.posOld) → Answers (.routeFadeEnd n) s (fun u =>
      u.xp n = { Xp.reset with queue := x.queue } ∧ others u ∧ (still x.cur → Quiet [] s u))) ∧
    (∀ (c : XpChange) (e : Exec), x.phase = .fading → x.desc.isSome = true → 2 ^ x.fadeK ≤ x.pos → x.old = none → x.cur = some c →
      (s.ring c.ring).exec = some e → e.seq = c.seq → e.words.headD 0 % 256 = 0x07 → bitOf (e.words.headD 0) 25 = true →
      e.left = 1 → Answers (.routeFadeEnd n) s (Finishes s c.ring e stOk e.result)) ∧
    (∀ d : Nat × Nat, x.phase = .zcWait → x.desc = some d → xpGmode d = 0 → s.zcTicks x.dom (xpZcMs d) ≤ x.pos →
      Answers (.xpZcTimeout n) s (fun u =>
      (u.xp n).phase = .steady ∧ (u.xp n).applied = x.gainTo ∧ (u.xp n).zcTimeouts = satNat 16 (x.zcTimeouts + 1) ∧
      (u.xp n).stepS = true ∧ 0x0410 ∈ u.occ ∧ others u ∧ (still x.cur → Quiet [] s u))) ∧
    (∀ d : Nat × Nat, x.phase = .ramping → x.desc = some d → 2 ^ xpRampK d ≤ x.pos → Answers (.gainRampEnd n) s (fun u =>
      (u.xp n).phase = .steady ∧ (u.xp n).applied = x.gainTo ∧ (u.xp n).desc = some d ∧ others u ∧ (still x.cur → Quiet [] s u)))

/-! ### Codex loads, lending and the flash slots -/

/-- R170, R172, R178: CODEX_LOAD is refused or begins, for a full load, for one shelf and for a verification. Model choices: log
entries 74 and 82. -/
def Obligations.CodexLoadIsTakenOrRefused : Prop :=
  ∀ (s : State) (r : RingIx) (ws : List Nat) (routing low : Nat), TakesUp s r ws → ws.headD 0 % 256 = 0x08 →
    let row := codexRow r routing low (codexKind ws)
    let units := codexUnits ws
    let busy := s.load.isSome || (bitOf units 0 && s.routesBusy) || (farUnits units).any (bitOf routing)
    let gone := (bitList 16 units).any s.unitGone
    let known := decide (codexSrc ws ≠ 3) && decide (units ≠ 0)
    (s.isHead = false → Answers row s (Completes s r stNotPermitted 0)) ∧
    (s.isHead = true → known = false → Answers row s (Completes s r stBadArg 0)) ∧
    (s.isHead = true → known = true → busy = true → Answers row s (Completes s r stNoResource 0)) ∧
    (s.isHead = true → known = true → busy = false → gone = true → Answers row s (Completes s r stLinkDown 0)) ∧
    (s.isHead = true → known = true → busy = false → gone = false → (s.codexSource (codexSrc ws)).1 = none →
      Answers row s (Completes s r stBadArg 0)) ∧
    (∀ k : TwoIx, s.isHead = true → known = true → busy = false → gone = false →
      (s.codexSource (codexSrc ws)).1 = some k.val → (s.codexImage k units (codexKind ws) low).isSome = true →
      Answers row s (fun u => Completes s r ((s.codexImage k units (codexKind ws) low).getD 0) 0 u ∧ u.load = none)) ∧
    (∀ k : TwoIx, s.isHead = true → known = true → busy = false → gone = false →
      (s.codexSource (codexSrc ws)).1 = some k.val → s.codexImage k units (codexKind ws) low = none → Answers row s (fun u =>
      Runs s r u ∧
      u.load.map (fun l => (l.ring, l.kind, l.slot, l.units, l.edition)) =
        some (some r.val, codexKind ws, k.val, units, s.imgEdition k) ∧
      u.load.map Load.phase = some (if codexKind ws ≠ 0 then .scan else if bitOf units 0 then .teardown else .write) ∧
      (codexKind ws = 0 → bitOf units 0 = true → u.loadMute = true) ∧
      Quiet [RING_STAT_STATE r, SYS_BOOT_REASON_A, SYS_BOOT_REASON_B] s u))

/-- R170, R171, R178: teardown, verification, the stop of one shelf and the start of a load. Model choices: log entries 72, 73, 75
and 83. -/
def Obligations.CodexLoadPhases : Prop :=
  ∀ (s : State) (l : Load), s.load = some l →
    let src := s.loadSource l
    let own := !s.isHead || bitOf l.units 0
    (l.kind = 0 → l.phase = .teardown → Answers .loadTeardown s (fun u =>
      (∀ t : TileIx, u.get (FAB_TILE_STAT_STATE t) = 0) ∧ u.xps = [] ∧ u.lanes = [] ∧ u.get FAB_STAT_MIN_PL = 0 ∧
      u.get SYS_BOOT_LOADED = 0 ∧ (∀ b : EightIx, u.get (BRG_STAT_STATE b) = 0) ∧
      (∀ p : FourIx, u.get (SAP_STAT_STATE p) = 0) ∧
      (l.cancel = false → u.get FAB_STAT_FAB_STATE = 1 ∧ u.load = some { l with phase := .write } ∧ u.portHold = true) ∧
      (l.cancel = true → u.get FAB_STAT_FAB_STATE = 0 ∧ u.load = none))) ∧
    (l.kind = 0 → l.phase = .write → s.isHead = true → own = true → src.2 = none → (s.writeFull l src.1).2 = none →
      farUnits l.units = [] → l.startF = none → l.at_ = none → Answers .loadVerifyEnd s (fun u =>
      u.load.map (fun q => (q.phase, q.own, q.startF)) = some (.done, some stOk, some ((s.frame + 2) % 2 ^ 32)) ∧
      u.mem = (s.writeFull l src.1).1.mem ∧ u.tiles = s.tiles ∧ u.xps = s.xps)) ∧
    (∀ (st off : Nat), l.kind = 0 → l.phase = .write → s.isHead = true → own = true → src.2 = some (st, off) → l.boot = false →
      Answers .loadVerifyEnd s (fun u => u.load = none ∧ u.get FAB_STAT_FAB_STATE = 0 ∧ 0x0424 ∈ u.occ)) ∧
    (∀ (r : RingIx) (e : Exec), l.kind = 2 → l.phase = .scan → s.isHead = true → own = true → src.2 = none →
      (s.writeFull l src.1).2 = none → l.ring = some r.val → (s.ring r).exec = some e → farUnits l.units = [] → l.startF = none → Answers .loadVerifyEnd s (fun u =>
      Finishes s r e stOk 0 u ∧ u.load = none)) ∧
    (∀ (r : RingIx) (e : Exec) (st off : Nat), l.kind = 2 → l.phase = .scan → s.isHead = true → src.2 = some (st, off) →
      l.ring = some r.val → (s.ring r).exec = some e → l.boot = false → st < 256 → Answers .loadVerifyEnd s (fun u =>
      Finishes s r e st 0 u ∧ u.load = none)) ∧
    (l.kind = 1 → l.phase = .scan → s.isHead = true → own = true → src.2 = none → (s.writeShelf l src.1).2 = none →
      Answers .loadVerifyEnd s (fun u => u.load = some { l with phase := .wait } ∧ Quiet [] s u)) ∧
    (l.kind = 1 → l.phase = .wait → s.groups.any (fun g => g.touches l.shelf) = false → l.shelf < 16 → Answers .shelfStop s
      (fun u => u.load = some { l with phase := .write } ∧ u.loadShelf = some l.shelf ∧ u.get FAB_STAT_FAB_STATE = 3 ∧
      (∀ t : TileIx, t.val / 64 = l.shelf → s.get (FAB_TILE_STAT_STATE t) ≠ 0 → u.get (FAB_TILE_STAT_STATE t) = 3) ∧
      (∀ t : TileIx, t.val / 64 ≠ l.shelf → u.get (FAB_TILE_STAT_STATE t) = s.get (FAB_TILE_STAT_STATE t)))) ∧
    (∀ (r : RingIx) (e : Exec) (f : Nat), l.ring = some r.val → (s.ring r).exec = some e → l.kind = 0 → l.phase = .done → s.isHead = true → own = true → l.own = some stOk → l.startF = some f →
      later f s.frame = false → s.lends = [] → l.rings = [] → l.boot = false → l.edition < 2 ^ 32 → l.slot < 2 →
      Answers .loadStart s (fun u =>
      u.load = none ∧ u.xps = l.xps ∧ u.portHold = false ∧ u.get FAB_STAT_FAB_STATE = 2 ∧ u.get SYS_BOOT_LOADED = 1 ∧
      u.get SYS_BOOT_EDITION = l.edition ∧ u.get SYS_BOOT_SLOT = l.slot ∧ u.get SYS_BOOT_MODIFIED = 0 ∧ 0x0423 ∈ u.occ ∧
      (∀ t ∈ l.tiles, u.get (FAB_TILE_STAT_STATE t) = 1) ∧ Finishes s r e stOk s.frame u)) ∧
    (∀ f : Nat, l.kind = 0 → l.phase = .done → s.isHead = true → own = true → l.own = some stOk → l.startF = some f →
      later f s.frame = false → s.lends = [] → l.rings = [] → l.boot = true → Answers .loadStart s (fun u =>
      u.load = none ∧ u.get SYS_STAT_BOOT_STATE = 4 ∧ u.get SYS_BOOT_LOADED = 1 ∧ 0x0423 ∈ u.occ ∧ 0x0003 ∈ u.occ)) ∧
    (∀ (r : RingIx) (e : Exec) (f : Nat), l.ring = some r.val → (s.ring r).exec = some e → l.kind = 1 → l.phase = .done → s.isHead = true → own = true → l.own = some stOk → l.startF = some f →
      later f s.frame = false → s.lends = [] → l.shelf < 16 → l.tiles.all (fun t => t / 64 == l.shelf) = true →
      Answers .loadStart s (fun u =>
      u.load = none ∧ u.loadShelf = none ∧ u.get FAB_STAT_FAB_STATE = 2 ∧ 0x0426 ∈ u.occ ∧
      (∀ t : TileIx, t.val / 64 = l.shelf → u.get (FAB_TILE_STAT_STATE t) = (if l.tiles.contains t.val then 1 else 0)) ∧
      (∀ t : TileIx, t.val / 64 ≠ l.shelf → u.get (FAB_TILE_STAT_STATE t) = s.get (FAB_TILE_STAT_STATE t)) ∧
      Finishes s r e stOk s.frame u))

/-- R174 to R177, R342, R343: lend chunks at a satellite, and what a satellite's messages do to a lend at the head. Model choices:
log entry 74. -/
def Obligations.LendStreamsAndTheirMessages : Prop :=
  ∀ (s : State) (hdr : Nat) (ws : List Nat) (scope : LendScope),
    let mine := decide (bits hdr 0 4 = s.get CHN_STAT_ADDR) && s.on CHN_STAT_ADDR_VALID
    let words := ws.take (bits hdr 8 8)
    let off := bits hdr 16 24
    let kind := (scopeKind scope).1
    (s.isHead = false → mine = true → bitOf hdr 4 = true → off = 0 → words ≠ [] → s.load = none → Answers (.lendChunk hdr ws scope) s (fun u =>
      u.lendIn = words ∧ u.load.map (fun l => (l.kind, l.edition, l.minPl)) =
        some (kind, bits (words.headD 0) 32 32, bits (words.getD 1 0) 34 2) ∧
      u.load.map Load.phase = some (if kind = 0 then .teardown else .scan) ∧ Quiet [] s u)) ∧
    (s.isHead = false → mine = true → bitOf hdr 4 = false → s.load.isSome = true → off = s.lendIn.length → words ≠ [] →
      Answers (.lendChunk hdr ws scope) s (fun u => u.lendIn = s.lendIn ++ words ∧ u.load = s.load ∧ Quiet [] s u)) ∧
    (s.isHead = false → mine = true → bitOf hdr 4 = false → s.lendIn.length < off → words ≠ [] →
      Answers (.lendChunk hdr ws scope) s (fun u =>
      u.lendIn = s.lendIn ∧ u.lendMsgs = s.lendMsgs ++ [.nak s.lendIn.length] ∧ Quiet [] s u)) ∧
    (s.isHead = false → mine = true → bitOf hdr 4 = false → off < s.lendIn.length → words ≠ [] →
      Answers (.lendChunk hdr ws scope) s (Unmoved s)) ∧
    (∀ l : Load, s.isHead = false → mine = true → words = [] → s.load = some l → l.startF = none → l.kind = 0 →
      l.phase ≠ .teardown → Answers (.lendChunk hdr ws scope) s (fun u =>
      u.load = none ∧ u.lendIn = [] ∧ u.get FAB_STAT_FAB_STATE = 0 ∧ u.get SYS_STAT_BOOT_STATE = 5 ∧
      Quiet [FAB_STAT_FAB_STATE, SYS_STAT_BOOT_STATE] s u)) ∧
    (s.isHead = false → s.on CHN_STAT_ADDR_VALID = true → mine = false → s.relayFill + words.length ≤ 4096 → Answers (.lendChunk hdr ws scope) s (fun u =>
      u.lendRelay = s.lendRelay ++ [(hdr, words)] ∧ u.lendIn = s.lendIn ∧
      (2048 < s.relayFill + words.length → ∀ p ∈ u.lendRelay, bits p.1 0 4 ∈ u.lendHeld) ∧ Quiet [] s u)) ∧
    (∀ (v : UnitIx) (d : Lend), mapFind s.lends v = some d →
      (∀ n : Nat, d.status = none → Answers (.lendNak v n) s (fun u =>
        mapFind u.lends v = some { d with pos := n } ∧ (∀ k : Nat, k ≠ v → mapFind u.lends k = mapFind s.lends k) ∧
        Quiet [] s u)) ∧
      Answers (.lendPause v) s (fun u => mapFind u.lends v = some { d with paused := true } ∧ Quiet [] s u) ∧
      Answers (.lendResume v) s (fun u => mapFind u.lends v = some { d with paused := false } ∧ Quiet [] s u) ∧
      (d.status = none → d.stream.length ≤ d.pos → d.fails < 2 → Answers (.lendDone v stEcc) s (fun u =>
        mapFind u.lends v = some { d with fails := d.fails + 1, pos := 0 } ∧ Quiet [] s u)) ∧
      (d.status = none → d.stream.length ≤ d.pos → 2 ≤ d.fails → d.auto = true → Answers (.lendDone v stEcc) s (fun u =>
        mapFind u.lends v = none ∧ 0x0425 ∈ u.occ ∧ u.get (SYS_UNIT_STAT_STATUS v) = stEcc ∧
        u.get (SYS_UNIT_STAT_LOADED v) = 0 ∧ u.get (SYS_UNIT_STAT_EDITION v) = d.edition % 2 ^ 32 ∧
        Quiet [SYS_UNIT_STAT_STATUS v, SYS_UNIT_STAT_LOADED v, SYS_UNIT_STAT_EDITION v] s u)) ∧
      (d.status = none → d.stream.length ≤ d.pos → d.auto = true → Answers (.lendDone v stOk) s (fun u =>
        mapFind u.lends v = some { d with status := some stOk
                                          startF := some ((s.frame + s.get (CHN_ROSTER_STAT_POS v) + 2) % 2 ^ 32) } ∧
        Quiet [] s u))) ∧
    (∀ v : UnitIx, s.isHead = true → s.on SYS_BOOT_LOADED = true → v ≠ 0 → s.unitGone v = false → mapFind s.lends v = none →
      let k := s.get SYS_BOOT_SLOT
      (bitOf (s.imgMask k) v = false → Answers (.autoLend v) s (fun u =>
        mapFind u.lends v = none ∧ 0x0425 ∈ u.occ ∧ Quiet [] s u)) ∧
      (bitOf (s.imgMask k) v = true → Answers (.autoLend v) s (fun u =>
        (mapFind u.lends v).map (fun d => (d.auto, d.edition, d.pos)) = some (true, s.imgEdition k, 0) ∧ Quiet [] s u)))

/-- R158, R179: SLOT_ERASE, SLOT_WRITE and SLOT_COMMIT on the flash. Model choices: log entry 76. -/
def Obligations.FlashSlotsEraseWriteCommit : Prop :=
  ∀ (s : State) (r : RingIx) (ws : List Nat), TakesUp s r ws →
    let w0 := ws.headD 0
    let op := w0 % 256
    let k := bits w0 16 1
    let base := k * slotBytes
    let n := bits w0 17 13
    let a := bits w0 36 17
    let off := bits (ws.getD 1 0) 0 22
    let fits := decide (n ≠ 0) && decide (n ≤ 4096) && decide (off % 8 = 0) && decide (off + 8 * n ≤ slotBytes) &&
      decide (a + n ≤ 0x20000)
    let clean := (List.range n).all (fun i => s.mark (bankAddr 6 (a + i)) == 0)
    let byte := fun (i : Nat) => (BitVec.ofNat 64 (s.peek6 (a + i / 8)) >>> (8 * (i % 8))).setWidth 8
    (∀ st : Nat, op = 0x0B → s.slotStop k true = some st → Answers (.slotErase r none) s (Completes s r st 0)) ∧
    (op = 0x0B → s.slotStop k true = none → Answers (.slotErase r none) s (fun u => Completes s r stOk 0 u ∧
      (∀ b : Nat, base ≤ b → b < base + slotBytes → u.flashAt b = 0xFF) ∧
      (∀ b : Nat, (b < base ∨ base + slotBytes ≤ b) → u.flashAt b = s.flashAt b))) ∧
    (∀ m : Nat, op = 0x0B → s.slotStop k true = none → m < 64 → Answers (.slotErase r (some m)) s (fun u =>
      Completes s r stTimeout 0 u ∧ (∀ b : Nat, base ≤ b → b < base + 0x10000 * m → u.flashAt b = 0xFF) ∧
      (∀ b : Nat, (b < base ∨ base + 0x10000 * (m + 1) ≤ b) → u.flashAt b = s.flashAt b))) ∧
    (op = 0x0C → fits = false → Answers (.slotWrite r none) s (Completes s r stBadArg 0)) ∧
    (op = 0x0C → fits = true → s.slotStop k true = none → clean = true → Answers (.slotWrite r none) s (fun u =>
      Completes s r stOk n u ∧
      (∀ i : Nat, i < 8 * n → off + i < 8 ∨ 16 ≤ off + i →
        u.flashAt (base + off + i) = s.flashAt (base + off + i) &&& byte i) ∧
      (∀ b : Nat, (b < base + off ∨ base + off + 8 * n ≤ b ∨ (base + 8 ≤ b ∧ b < base + 16)) → u.flashAt b = s.flashAt b))) ∧
    (op = 0x0D → bitOf w0 17 = false → s.slotStop k true = none → s.headerOk k = false →
      Answers (.slotCommit r false) s (Completes s r stBadArg 0)) ∧
    (op = 0x0D → bitOf w0 17 = false → s.slotStop k true = none → s.headerOk k = true → s.imgCrcOk k = false →
      Answers (.slotCommit r false) s (Completes s r stEcc 0)) ∧
    (op = 0x0D → bitOf w0 17 = false → s.slotStop k true = none → s.headerOk k = true → s.imgCrcOk k = true →
      s.flashWord k 8 = 2 ^ 64 - 1 → Answers (.slotCommit r false) s (fun u => Completes s r stOk 0 u ∧
      u.flashWord k 8 = commitWord (s.imgEdition k) ∧
      (∀ b : Nat, (b < base + 8 ∨ base + 16 ≤ b) → u.flashAt b = s.flashAt b))) ∧
    (op = 0x0D → bitOf w0 17 = true → s.slotStop k false = none → Answers (.slotRevoke r false) s (fun u =>
      Completes s r stOk 0 u ∧ u.flashWord k 8 = 0 ∧ (∀ b : Nat, (b < base + 8 ∨ base + 16 ≤ b) → u.flashAt b = s.flashAt b)))

/-! ### Reset, start-up, registers and the fabric's memories -/

/-- R5, R7, R135, R139, R181, R383, R440, R444, R461 to R463 and R466: the unit powers up, loses power and boots; a frame boundary
and the strobes of domains B and C. Model choices: log entries 5, 10 and 11. -/
def Obligations.StartUpAndDomainTicks : Prop :=
  (∀ (s : State) (p : PowerInputs),
    let started := fun (cause : Nat) (u : State) =>
      u.isHead = p.head ∧ u.get CHN_STAT_ROLE = b2n p.head ∧ u.get TWB_STAT_ADDR = 0x30 + p.strap % 8 ∧
      u.get SYS_ID0_ID_LO = p.fuses % 2 ^ 64 ∧ u.get SYS_ID1_ID_HI = p.fuses / 2 ^ 64 % 2 ^ 64 ∧
      u.get SYS_STAT_ID_OK = b2n (idCrcOk p.fuses && idZerosOk p.fuses) ∧ u.get SYS_STAT_RST_DEPTH = 0 ∧
      u.get SYS_STAT_RST_CAUSE = cause ∧ u.get PWR_STAT_CUR_PL = 3 ∧ 0x0001 ∈ u.occ ∧ u.rst = none ∧
      (∀ a : Nat, u.memByte a = 0) ∧ u.flash = s.flash ∧ u.pending = s.pending ∧
      (∀ b : EightIx, u.get (MEM_BANK_STAT_STATE b) = (if bitOf s.retired b then 4 else 2)) ∧
      (p.head = false → u.get SYS_STAT_BOOT_STATE = 6 ∧ u.chain.restart = true ∧ u.chain.resets = 0)
    Answers (.powerOn p) s (started 0) ∧
    (∀ (c : Nat) (b : Bool), c < 8 → s.rst = some (0, c, b) → Answers (.resetRelease p) s (started c)) ∧
    Answers .powerLoss s (fun u =>
      u.rst = some (0, 0, true) ∧ u.nvs = s.nvs ∧ u.flash = s.flash ∧ (∀ a : Nat, u.memByte a = 0) ∧ u.pending = s.pending) ∧
    (∀ k : TwoIx, s.bootSlot = some k.val → s.isHead = true → s.get SYS_STAT_BOOT_STATE = 2 → s.load = none → s.plTo = none →
      s.bootReady k = true → Answers .bootLoad s (fun u =>
      u.get SYS_STAT_BOOT_STATE = 3 ∧ u.bootSlot = none ∧ 0x0420 ∈ u.occ ∧
      u.load.map (fun l => (l.slot, l.kind, l.boot, l.edition)) = some (k.val, 0, true, s.imgEdition k) ∧
      u.load.map Load.units = some (setBitN (s.get CHN_STAT_PRESENT) 0) ∧ Quiet [SYS_STAT_BOOT_STATE] s u)) ∧
    (s.plTo ≠ none → Answers .bootLoad s (Unmoved s))) ∧
  (∀ (s : State),
    (∀ x : FrameInputs, s.awake = true → Answers (.frameBoundary x) s (fun u =>
      u.frame = (s.frame + 1) % 2 ^ 32 ∧ u.tickA = s.tickA + 1 ∧ u.pending = s.pending ∧ u.nvs = s.nvs ∧ u.flash = s.flash)) ∧
    (∀ ph : Nat, s.awake = true → Answers (.domainBStrobe ph) s (fun u =>
      u.frame = s.frame ∧ u.tickB = s.tickB + 1 ∧ u.frB = s.frame ∧ u.tickA = s.tickA ∧ u.nvs = s.nvs ∧ u.flash = s.flash)) ∧
    (∀ (l : List Int) (ph : Nat), s.get PWR_STAT_STATE ≠ 3 → Answers (.domainCStrobe l ph) s (fun u =>
      u.frame = (if s.isHead = true ∧ s.get PWR_STAT_STATE = 2 then (s.frame + s.domcPeriod) % 2 ^ 32 else s.frame) ∧
      u.tickC = s.tickC + 1 ∧ u.frC = u.frame ∧ u.tickA = s.tickA ∧ u.tickB = s.tickB)) ∧
    (s.awake = false → (∀ x : FrameInputs, Answers (.frameBoundary x) s (Unmoved s)) ∧
      ∀ ph : Nat, Answers (.domainBStrobe ph) s (Unmoved s)) ∧
    (s.get PWR_STAT_STATE = 3 → ∀ (l : List Int) (ph : Nat), Answers (.domainCStrobe l ph) s (Unmoved s)))

/-- R11, R456, R458 to R460: reset requests, and the release of a WARM or FABRIC reset. Model choices: log entries 66 and 67. -/
def Obligations.ResetRequestsAndReleases : Prop :=
  ∀ (s : State),
    let asked := fun (depth cause : Nat) (u : State) => u.rst = some (depth, cause, false) ∧ u.bit KEEP_STAT_CAUSE 5 = true
    (s.rst = none → Answers .resetN s (asked 0 1)) ∧
    (∀ d c : Nat, s.rst = some (d, c, false) → d ≠ 0 → Answers .resetN s (fun u => u.rst = some (0, 1, false))) ∧
    (∀ v : Word, bits v.toNat 48 16 = 0xC3A5 → bitOf v.toNat 0 = true → s.awake = true → s.rst = none →
      Answers (.sysReset v) s (asked 1 2)) ∧
    (∀ v : Word, bits v.toNat 48 16 ≠ 0xC3A5 ∨ bitOf v.toNat 0 = false → Answers (.sysReset v) s (Unmoved s)) ∧
    (∀ v : Word, bitOf v.toNat 0 = true → Answers (.sysLock v) s (fun u => u.get SYS_LOCK_LOCK = 1 ∧ Quiet [SYS_LOCK_LOCK] s u)) ∧
    (∀ v : Word, bitOf v.toNat 0 = false → Answers (.sysLock v) s (Unmoved s)) ∧
    (∀ (r : RingIx) (ws : List Nat), TakesUp s r ws → ws.headD 0 % 256 = 0x1A → s.rst = none →
      (bits (ws.headD 0) 16 2 = 1 → Answers (.resetWarm r) s (fun u => asked 1 3 u ∧ Runs s r u)) ∧
      (bits (ws.headD 0) 16 2 = 2 → Answers (.resetFabric r) s (fun u => asked 2 3 u ∧ Runs s r u)) ∧
      (bits (ws.headD 0) 16 2 = 0 ∨ bits (ws.headD 0) 16 2 = 3 →
        Answers (.resetWarm r) s (Completes s r stBadArg 0) ∧ Answers (.resetFabric r) s (Completes s r stBadArg 0))) ∧
    (∀ (p : PowerInputs) (d c : Nat), d = 1 ∨ d = 2 → c < 8 → s.rst = some (d, c, false) → s.plTo = none →
      Answers (.resetRelease p) s (fun u =>
      u.rst = none ∧ u.get SYS_STAT_RST_DEPTH = d ∧ u.get SYS_STAT_RST_CAUSE = c ∧ u.get SYS_SUM_RESET = 1 ∧ 0x0001 ∈ u.occ ∧
      u.bit KEEP_STAT_CAUSE 5 = false ∧ u.xps = [] ∧ u.lanes = [] ∧ u.load = none ∧
      (∀ t : TileIx, u.get (FAB_TILE_STAT_STATE t) = 0) ∧ (∀ n : FourIx, u.get (SAP_STAT_STATE n) = 0) ∧
      (∀ b : EightIx, u.get (BRG_STAT_STATE b) = 0) ∧
      (∀ a : Nat, u.memByte a = if 0xC00000 ≤ a ∧ a < 0xE00000 then 0 else s.memByte a) ∧ u.nvs = s.nvs ∧ u.flash = s.flash ∧
      u.frame = s.frame ∧ u.isHead = s.isHead ∧
      (d = 1 → u.get PWR_STAT_VSEL = 3 ∧ u.get PWR_PL_TARGET = 3 ∧ u.get PWR_STAT_CUR_PL = min (s.get PWR_STAT_CUR_PL) 3 ∧
        u.plTo = (if s.get PWR_STAT_CUR_PL < 3 then some 3 else none) ∧ u.get SYS_LOCK_LOCK = 0 ∧ (∀ j : TwoIx, u.get (DET_JACK_CFG_EN j) = 0)) ∧
      (d = 2 → u.get SYS_LOCK_LOCK = s.get SYS_LOCK_LOCK ∧ u.get PWR_STAT_CUR_PL = s.get PWR_STAT_CUR_PL % 4)))

/-- R9 to R12, R388: a register write by access code, the writes that are rows of their own, and a complete read of an RC register.
Model choices: log entries 64 and 85. -/
def Obligations.RegisterWritesAndReadsClear : Prop :=
  ∀ (s : State) (a : Nat) (v : Word), a % 8 = 0 →
    let plain := decide (a / 0x1000 = 0xE11) || (decide (a / 0x1000 = 0xE02) && decide (a ≠ 0xE02008)) ||
      (decide (a / 0x1000 = 0xE10) && decide (a ≠ 0xE10028)) || (decide (a / 0x1000 = 0xE0E) && decide (a ≠ 0xE0E020))
    (∀ x : RegRow, plain = true → rowAt a = some x →
      let f' := fun (f : Fld) => fldAt f (a - x.addr)
      (x.acc = .rw ∨ x.acc = .rws ∨ (x.acc = .rwl ∧ s.on SYS_LOCK_LOCK = false) → Answers (.registerWrite a v) s (fun u =>
        (∀ f ∈ x.flds, u.get (f' f) = bits v.toNat f.lo f.width) ∧ Quiet (x.flds.map f') s u)) ∧
      (x.acc = .w1c → Answers (.registerWrite a v) s (fun u =>
        (∀ f ∈ x.flds, ∀ i : Nat, i < f.width → u.bit (f' f) i = (s.bit (f' f) i && !bitOf v.toNat (f.lo + i))) ∧
        Quiet (x.flds.map f') s u)) ∧
      (x.acc = .ro ∨ x.acc = .rc ∨ x.acc = .wo ∨ (x.acc = .rwl ∧ s.on SYS_LOCK_LOCK = true) →
        Answers (.registerWrite a v) s (Unmoved s))) ∧
    (plain = true → rowAt a = none → Answers (.registerWrite a v) s (Unmoved s)) ∧
    (exec (.registerWrite 0xE00040 v) s = exec (.sysReset v) s ∧ exec (.registerWrite 0xE00048 v) s = exec (.foldNow v) s ∧
      exec (.registerWrite 0xE00038 v) s = exec (.sysLock v) s ∧ exec (.registerWrite 0xE01008 v) s = exec (.pwrPlWrite v) s ∧
      exec (.registerWrite 0xE02008 v) s = exec (.clkDombCfgWrite v) s ∧ exec (.registerWrite 0xE13020 v) s = exec (.kick v) s ∧
      exec (.registerWrite 0xE04050 v) s = exec (.fabParamWr v) s) ∧
    (∀ (x : RegRow) (w : Nat), rowAt a = some x → s.busSnap = some (a, w) → Answers (.rcRegisterRead a) s (fun u =>
      u.busSnap = none ∧ (x.acc = .rc → ∀ f ∈ s.fldsAt a,
        u.get f = (if peakField f then mapGet 0 s.peaks (Fld.key f) else s.get f - bits w f.lo f.width) % 2 ^ f.width) ∧
      Quiet (s.fldsAt a) s u))

/-- R48, R49, R70 to R73, R534: host writes to the fabric's memories, write-backs, parameters, and STOP and RESTART of a tile. Model
choices: log entries 30 and 31. -/
def Obligations.FabricMemoryWrites : Prop :=
  ∀ (s : State) (a : Nat) (v : Word),
    let stored := fun (u : State) => u.memWord a = v ∧ SameOutside a s u
    let t := s.get FAB_TILE_SEL_TILE
    let pt := bits v.toNat 0 10
    let q := s.shelfQueue (pt / 64)
    let tile := a / 0x1000
    (a < 0x400000 → a % 8 = 0 → s.loadCovers tile = false → (0x600 ≤ a % 0x1000 ∨ s.get (FAB_TILE_STAT_STATE tile) ≠ 2) →
      Answers (.configMemoryWrite a v) s (fun u =>
      stored u ∧ u.get SYS_BOOT_MODIFIED = 1 ∧ SameRegs [SYS_BOOT_MODIFIED, CUR_CNT_WB_CANCEL] s u)) ∧
    (a < 0x400000 → a % 8 = 0 → s.loadCovers tile = false → a % 0x1000 < 0x600 → s.get (FAB_TILE_STAT_STATE tile) = 2 →
      Answers (.configMemoryWrite a v) s (fun u =>
      (u.tile tile).late = (s.tile tile).late ++ [(a, v)] ∧ u.get SYS_BOOT_MODIFIED = 1 ∧ Quiet [SYS_BOOT_MODIFIED] s u)) ∧
    (0xC00000 ≤ a → a < 0xE00000 → a % 8 = 0 → s.loadCovers ((a - 0xC00000) / 0x800) = false →
      Answers (.stateRamWrite a v) s (fun u => stored u ∧ SameRegs [CUR_CNT_WB_CANCEL] s u)) ∧
    (a < 0x400000 ∨ (0xC00000 ≤ a ∧ a < 0xE00000) → mapGet 0 s.wb (a / 8) = 1 → s.mark a = 1 → Answers (.eccWriteBack a) s
      (fun u => u.mark a = 0 ∧ mapGet 0 u.wb (a / 8) = 0 ∧ Quiet [] s u)) ∧
    (s.loadCovers pt = false → q.length < 64 → Answers (.fabParamWr v) s (fun u =>
      u.shelfQueue (pt / 64) = q ++ [{ tile := pt, idx := bits v.toNat 16 4, val := BitVec.ofNat 64 (s.get FAB_PARAM_DATA_DATA)
                                       cmd := none }] ∧
      u.get (FAB_PARAM_LVL_LEVEL (pt / 64)) = q.length + 1 ∧ Quiet [FAB_PARAM_LVL_LEVEL (pt / 64)] s u)) ∧
    (s.loadCovers pt = false → 64 ≤ q.length → Answers (.fabParamWr v) s (fun u =>
      u.bit FAB_PARAM_DROP_SHELF_DROP (pt / 64) = true ∧ 0x0404 ∈ u.occ ∧ u.paramq = s.paramq ∧
      Quiet [FAB_PARAM_DROP_SHELF_DROP] s u)) ∧
    (s.get (FAB_TILE_STAT_STATE t) = 2 → Answers .stop s (fun u =>
      (u.tile t).stopReq = true ∧ (∀ k : Nat, k ≠ t → u.tile k = s.tile k) ∧ Quiet [] s u)) ∧
    (s.get (FAB_TILE_STAT_STATE t) = 1 → Answers .stop s (fun u =>
      u.get (FAB_TILE_STAT_STATE t) = 3 ∧ u.get (FAB_TILE_STAT_STOP_REASON t) = 5 ∧ SameBytes s u)) ∧
    (s.get (FAB_TILE_STAT_STATE t) = 3 → Answers .restart s (fun u =>
      u.get (FAB_TILE_STAT_STATE t) = 1 ∧ u.get (FAB_TILE_STAT_OVR_CONSEC t) = 0 ∧ u.get (FAB_TILE_STAT_STOP_REASON t) = 0 ∧
      (u.tile t).warned = 0 ∧ 0x0405 ∈ u.occ ∧
      Quiet [FAB_TILE_STAT_STATE t, FAB_TILE_STAT_OVR_CONSEC t, FAB_TILE_STAT_STOP_REASON t] s u))

/-! ### The curator and the housekeeping converter -/

/-- R476 to R479, R488: CALIBRATE of every target, the installed trims, and the converter's own calibration. Model choices: log
entry 70. -/
def Obligations.CalibrationsRunAndInstall : Prop :=
  ∀ (s : State) (r : RingIx),
    (∀ ws : List Nat, TakesUp s r ws → ws.headD 0 % 256 = 0x0E →
      let t := calArg ws
      let todo := calTargets.dropWhile (fun k => !s.calOk k)
      let begun := fun (all : Bool) (l : List Nat) (u : State) =>
        Runs s r u ∧ u.cals = [{ ring := some r.val, all := all, todo := l, saved := [] }] ∧ u.get CUR_STAT_CAL_BUSY = 1 ∧
        u.get CUR_STAT_CAL_TARGET = l.headD 0 ∧ SameBytes s u
      (t ≠ 0 → t ∉ calTargets → Answers (.calibrateAll r) s (Completes s r stBadArg 0) ∧
        Answers (.calibrateAin r) s (Completes s r stBadArg 0) ∧ Answers (.calibrateSpk r) s (Completes s r stBadArg 0) ∧
        Answers (.calibrateHpo r) s (Completes s r stBadArg 0) ∧ Answers (.calibrateHka r) s (Completes s r stBadArg 0)) ∧
      (t ∈ calTargets → s.cals = [] → s.calOk t = false → Answers (calRow r t) s (Completes s r stNotPermitted 0)) ∧
      (t ∈ calTargets → s.cals = [] → s.calOk t = true → Answers (calRow r t) s (begun false [t])) ∧
      (t = 0 → s.cals = [] → todo = [] → Answers (calRow r t) s (Completes s r stOk 0)) ∧
      (t = 0 → s.cals = [] → todo ≠ [] → Answers (calRow r t) s (begun true todo)) ∧
      (t = 0 ∨ t ∈ calTargets → s.cals ≠ [] → Answers (calRow r t) s (fun u =>
        Runs s r u ∧ u.cals = s.cals ++ [{ ring := some r.val, all := t == 0, todo := if t = 0 then calTargets else [t], saved := [] }] ∧
        Quiet [RING_STAT_STATE r] s u))) ∧
    (∀ (t : Nat) (e : Exec) (o g : Int),
      let stage := decide (0x10 ≤ t) && decide (t < 0x20)
      s.cals = [{ ring := some r.val, all := false, todo := [t], saved := [] }] → t ∈ calTargets → (s.ring r).exec = some e →
      (t = 0x20 → s.on HKA_STAT_BUSY = false) →
      (o.natAbs ≤ 125829 → (stage = true ∨ (1017119 ≤ g ∧ g ≤ 1080033)) → Answers (.calInstall t o g) s (fun u =>
        u.get (CUR_CAL_VAL_OFFSET t) = fromSigned 24 o ∧
        u.get (CUR_CAL_VAL_GAIN t) = (if stage = true then s.get (CUR_CAL_VAL_GAIN t) else g.toNat) ∧
        u.get (CUR_CAL_VAL_AGE t) = 0 ∧ u.get CUR_CNT_CAL_RUNS = satNat 16 (s.get CUR_CNT_CAL_RUNS + 1) ∧ u.cals = [] ∧
        u.get CUR_STAT_CAL_BUSY = 0 ∧ u.get CUR_SUM_CAL_RANGE = s.get CUR_SUM_CAL_RANGE ∧ Finishes s r e stOk 0 u ∧ u.nvs = s.nvs)) ∧
      (125829 < o → Answers (.calInstall t o g) s (fun u =>
        u.get (CUR_CAL_VAL_OFFSET t) = 125829 ∧ u.get CUR_SUM_CAL_RANGE = 1 ∧ 0x1102 ∈ u.occ ∧ Finishes s r e stOk 0 u)) ∧
      (stage = false → g < 1017119 → Answers (.calInstall t o g) s (fun u =>
        u.get (CUR_CAL_VAL_GAIN t) = 1017119 ∧ u.get CUR_SUM_CAL_RANGE = 1 ∧ 0x1102 ∈ u.occ ∧ Finishes s r e stOk 0 u))) ∧
    (∀ (t : Nat) (o : Int), s.cals = [] → s.calAtStart t = true → o.natAbs ≤ 125829 → Answers (.calInstall t o 1048576) s (fun u =>
      u.get (CUR_CAL_VAL_OFFSET t) = fromSigned 24 o ∧ u.get (CUR_CAL_VAL_AGE t) = 0 ∧ u.cals = [] ∧
      Quiet [CUR_CAL_VAL_OFFSET t, CUR_CAL_VAL_GAIN t, CUR_CAL_VAL_AGE t, CUR_CNT_CAL_RUNS] s u)) ∧
    (s.on CUR_CTL_CAL_EN = true → s.get PWR_STAT_STATE = 0 → max 1 (s.get CUR_CTL_CAL_PERIOD) ≤ s.get (CUR_CAL_VAL_AGE 0x20) →
      s.cals = [] → s.calOk 0x20 = true → Answers .hkaAutoCal s (fun u =>
      u.cals = [{ ring := none, all := false, todo := [0x20], saved := [] }] ∧ u.get CUR_STAT_CAL_BUSY = 1 ∧
      u.get CUR_STAT_CAL_TARGET = 0x20 ∧ SameBytes s u)) ∧
    (s.on CUR_CTL_CAL_EN = false ∨ s.get PWR_STAT_STATE ≠ 0 → Answers .hkaAutoCal s (Unmoved s))

/-- R483 to R488: scans, conversions, their results and checks, and the TACH input. Model choices: log entry 71. -/
def Obligations.ConversionsScansAndTach : Prop :=
  ∀ (s : State) (c : SixteenIx),
    let free := s.hkaConv = [] ∧ s.hkaScan = [] ∧ s.on HKA_STAT_BUSY = false ∧ s.calibrating 0x20 = false
    let fields := [HKA_RES_CODE c, HKA_RES_VALUE c, HKA_RES_VALID c, HKA_RES_LOCKED c, HKA_RES_OVR c, HKA_RES_SEQ c, HKA_CNT_CONVS,
      HKA_SUM_OVR, HKA_SUM_SUPPLY]
    let begun := fun (ch : Nat) (u : State) =>
      u.get HKA_STAT_BUSY = 1 ∧ u.get HKA_STAT_POWERED = 1 ∧ u.get HKA_STAT_CUR_CH = ch ∧
      u.hkaLock = (s.bit HKA_SCAN_EN_LOCK ch && s.tachGood.isSome && s.tachGood == s.tachLast)
    (s.awake = true → free → c ≠ 3 → Answers (.conv c) s (fun u =>
      begun c u ∧ u.hkaConv = [] ∧ Quiet [HKA_STAT_BUSY, HKA_STAT_POWERED, HKA_STAT_CUR_CH] s u)) ∧
    (s.awake = true → s.on HKA_STAT_BUSY = true → s.hkaConv.contains c = false → Answers (.conv c) s (fun u =>
      u.hkaConv = s.hkaConv ++ [c.val] ∧ Quiet [] s u)) ∧
    (∀ p : Nat, s.awake = true → free → c = 3 → s.tachLast = some p → Answers (.conv c) s (fun u =>
      u.get (HKA_RES_CODE 3) = min p 262143 ∧ u.get (HKA_RES_VALUE 3) = min p 262143 ∧ u.get (HKA_RES_VALID 3) = 1 ∧
      u.get (HKA_RES_SEQ 3) = (s.get (HKA_RES_SEQ 3) + 1) % 256 ∧ u.on HKA_STAT_BUSY = false ∧
      Quiet (HKA_STAT_POWERED :: fields) s u)) ∧
    (s.get PWR_STAT_STATE = 0 → free → s.bit HKA_SCAN_EN_EN c = true → c ≠ 3 →
      (∀ k : SixteenIx, k.val < c.val → s.bit HKA_SCAN_EN_EN k = false) → Answers .hkaScan s (fun u =>
      begun c u ∧ u.hkaScan = (bitList 16 (s.get HKA_SCAN_EN_EN)).drop 1 ∧
      Quiet [HKA_STAT_BUSY, HKA_STAT_POWERED, HKA_STAT_CUR_CH] s u)) ∧
    (s.get PWR_STAT_STATE = 0 → s.hkaScan ≠ [] → Answers .hkaScan s (fun u =>
      u.get HKA_CNT_SKIPS = satNat 16 (s.get HKA_CNT_SKIPS + 1) ∧ 0x0B04 ∈ u.occ ∧ u.hkaScan = s.hkaScan ∧
      Quiet [HKA_CNT_SKIPS] s u)) ∧
    (s.get PWR_STAT_STATE ≠ 0 → Answers .hkaScan s (Unmoved s)) ∧
    (∀ (v : Int) (locked : Bool), s.on HKA_STAT_BUSY = true → s.get HKA_STAT_CUR_CH = c.val →
      let k := (max 0 (min 262143 v)).toNat
      Answers (.hkaConversionDone c v locked) s (fun u =>
        u.get (HKA_RES_CODE c) = k ∧ u.get (HKA_RES_VALUE c) = fromSigned 24 (hkaValue c k) ∧ u.get (HKA_RES_VALID c) = 1 ∧
        u.get (HKA_RES_LOCKED c) = b2n (locked && s.hkaLock) ∧
        u.get (HKA_RES_OVR c) = b2n (decide (v < 0) || decide (262143 < v)) ∧
        (s.hkaConv ++ s.hkaScan = [] → c ≠ 3 → u.get (HKA_RES_SEQ c) = (s.get (HKA_RES_SEQ c) + 1) % 256 ∧ u.get HKA_STAT_BUSY = 0 ∧
          u.get HKA_CNT_CONVS = satNat 32 (s.get HKA_CNT_CONVS + 1) ∧
          (c ≠ 8 → Quiet (HKA_STAT_BUSY :: HKA_STAT_POWERED :: fields) s u)) ∧
        (∀ q : Nat, (s.hkaConv ++ s.hkaScan).head? = some q → q < 16 → q ≠ 3 → c ≠ 8 → begun q u) ∧
        (c = 8 → 655360 < 1000 * (((k : Nat) : Int) - 131072).natAbs →
          u.get HKA_STAT_REF_BAD = 1 ∧ u.get HKA_SUM_REF_BAD = 1 ∧ 0x0B01 ∈ u.occ) ∧
        (c = 8 → 10000 * (((k : Nat) : Int) - 131072).natAbs ≤ 25 * 131072 → u.get HKA_STAT_REF_BAD = 0) ∧
        (c = 5 → hkaValue c k < 3135 ∨ 3465 < hkaValue c k → bitOf s.hkaOut 5 = false →
          u.get HKA_SUM_SUPPLY = 1 ∧ 0x0B02 ∈ u.occ))) ∧
    (∀ p : Nat, s.awake = true → Answers (.tachEdge p) s (fun u =>
      u.tachLast = some p ∧ (p < 1000 ∨ 100000 < p → u.get HKA_STAT_TACH_OK = s.get HKA_STAT_TACH_OK ∧ u.tachGood = s.tachGood ∧ u.tachLost = s.tachLost) ∧
      (1000 ≤ p → p ≤ 100000 → s.tachLast = some p → u.get HKA_STAT_TACH_OK = 1 ∧ u.tachGood = some p ∧ u.tachLost = false) ∧
      Quiet [HKA_STAT_TACH_OK] s u)) ∧
    (s.awake = true → s.tachLost = false → Answers .hkaTachLost s (fun u =>
      u.get HKA_STAT_TACH_OK = 0 ∧ u.get HKA_SUM_TACH_LOST = 1 ∧ 0x0B03 ∈ u.occ ∧ u.tachLost = true ∧
      u.get HKA_CNT_TACH_LOSSES = satNat 16 (s.get HKA_CNT_TACH_LOSSES + 1) ∧
      Quiet [HKA_STAT_TACH_OK, HKA_SUM_TACH_LOST, HKA_CNT_TACH_LOSSES] s u))

/-- R470 to R475, R481, R482: the curator's budget, its scrub and write-backs, and telemetry. Model choices: log entries 9, 26 and
71. -/
def Obligations.CuratorScrubsAndTelemetry : Prop :=
  ∀ (s : State),
    (∀ b : EightIx, Answers (.curatorWindow b) s (fun u => mapGet 0 u.curUsed b = 0 ∧ bitOf u.curHalt b = false ∧ Quiet [] s u)) ∧
    (∀ (b : EightIx) (t : TileIx) (x : Nat),
      let w := mapGet 0 s.scrubBank b
      let a := bankAddr b w
      let p := if b.val = 0 ∧ w = 0x1FFFF then [CUR_STAT_SCRUB_PASSES] else []
      s.on CUR_CTL_SCRUB_EN = true → s.get PWR_STAT_STATE = 0 → s.bankUp b = true → w < 0x20000 →
      (b.val = 5 → w < 0x1C000 ∨ 0x1E000 ≤ w) → x ≤ 2 → s.mark a ≤ x →
      (mapGet 0 s.curUsed b < s.curCap → Answers (.scrubRead b t x) s (fun u =>
        mapGet 0 u.scrubBank b = (w + 1) % 0x20000 ∧ mapGet 0 u.curUsed b = mapGet 0 s.curUsed b + 1 ∧
        (b.val = 0 → w = 0x1FFFF → u.get CUR_STAT_SCRUB_PASSES = (s.get CUR_STAT_SCRUB_PASSES + 1) % 65536) ∧
        (x = 0 → u.testq = s.testq) ∧ (0 < x → u.testq = s.testq ++ [(b.val, w / 64)]) ∧
        (x = 1 → mapGet 0 u.wb (a / 8) = 2 ∧ u.get (MEM_ECC_CNT_CORRECTED b) = satNat 16 (s.get (MEM_ECC_CNT_CORRECTED b) + 1)) ∧
        (x = 2 → u.get (MEM_ECC_CNT_UNCORR b) = satNat 16 (s.get (MEM_ECC_CNT_UNCORR b) + 1) ∧ u.get (MEM_ECC_LAST_WORD b) = w ∧
          u.get (MEM_ECC_LAST_CLASS b) = 4 ∧ u.get MEM_SUM_UE = 1 ∧ 0x0F01 ∈ u.occ) ∧
        Quiet (p ++ [MEM_ECC_CNT_CORRECTED b, MEM_ECC_CNT_UNCORR b, MEM_ECC_LAST_WORD b, MEM_ECC_LAST_CLASS b, MEM_ECC_LAST_VALID b,
          MEM_SUM_UE]) s u)) ∧
      (s.curCap ≤ mapGet 0 s.curUsed b → bitOf s.curHalt b = false → Answers (.scrubRead b t x) s (fun u =>
        u.get (MEM_ARB_CNT_CUR_YIELD b) = satNat 16 (s.get (MEM_ARB_CNT_CUR_YIELD b) + 1) ∧ mapGet 0 u.scrubBank b = w ∧
        u.ecc = s.ecc ∧ Quiet [MEM_ARB_CNT_CUR_YIELD b] s u))) ∧
    (∀ (t : TileIx) (x : Nat), s.on CUR_CTL_SCRUB_EN = true → s.get PWR_STAT_STATE = 0 → x ≤ 2 → s.ecc = [] →
      let f := frameAddr t (8 * s.get CUR_SCRUB_POS_FRAME_WORD)
      let m := ramAddr t (s.get CUR_SCRUB_POS_SRAM_CELL)
      Answers (.scrubRead 8 t x) s (fun u =>
        u.get CUR_SCRUB_POS_FRAME_WORD = (s.get CUR_SCRUB_POS_FRAME_WORD + 1) % 512 ∧
        (x = 1 → mapGet 0 u.wb (f / 8) = 2 ∧ u.get CUR_ECC_CNT_CFG_CORR = satNat 16 (s.get CUR_ECC_CNT_CFG_CORR + 1)) ∧
        (x = 2 → u.get CUR_ECC_CNT_CFG_UE = satNat 16 (s.get CUR_ECC_CNT_CFG_UE + 1) ∧ u.get CUR_ECC_LAST_ADDR = f ∧
          u.get CUR_SUM_SCRUB_UE = 1 ∧ 0x1101 ∈ u.occ) ∧
        Quiet [CUR_SCRUB_POS_FRAME_WORD, CUR_ECC_CNT_CFG_CORR, CUR_ECC_CNT_CFG_UE, CUR_ECC_LAST_ADDR, CUR_ECC_LAST_VALID,
          CUR_SUM_SCRUB_UE] s u) ∧
      Answers (.scrubRead 9 t x) s (fun u =>
        u.get CUR_SCRUB_POS_SRAM_CELL = (s.get CUR_SCRUB_POS_SRAM_CELL + 1) % 256 ∧
        (x = 1 → mapGet 0 u.wb (m / 8) = 2 ∧ u.get CUR_ECC_CNT_SRAM_CORR = satNat 16 (s.get CUR_ECC_CNT_SRAM_CORR + 1)) ∧
        (x = 2 → u.get CUR_ECC_CNT_SRAM_UE = satNat 16 (s.get CUR_ECC_CNT_SRAM_UE + 1) ∧ u.get CUR_ECC_LAST_ADDR = m ∧
          u.get CUR_SUM_SCRUB_UE = 1 ∧ 0x1101 ∈ u.occ) ∧
        Quiet [CUR_SCRUB_POS_SRAM_CELL, CUR_ECC_CNT_SRAM_CORR, CUR_ECC_CNT_SRAM_UE, CUR_ECC_LAST_ADDR, CUR_ECC_LAST_VALID,
          CUR_SUM_SCRUB_UE] s u)) ∧
    (∀ i : Nat, s.on CUR_CTL_SCRUB_EN = false ∨ s.get PWR_STAT_STATE ≠ 0 → Answers (.scrubRead i 0 0) s (Unmoved s)) ∧
    (∀ a : Nat,
      let b := (a - 0x400000) / 0x100000
      let bank := decide (0x400000 ≤ a) && decide (a < 0xC00000)
      mapGet 0 s.wb (a / 8) = 2 → s.mark a = 1 → s.awake = true →
      (bank = false ∨ mapGet 0 s.curUsed b < s.curCap → Answers (.curatorWriteBack a) s (fun u =>
        u.mark a = 0 ∧ mapGet 0 u.wb (a / 8) = 0 ∧
        (bank = true → mapGet 0 u.curUsed b = mapGet 0 s.curUsed b + 1) ∧ Quiet [] s u)) ∧
      (bank = true → s.curCap ≤ mapGet 0 s.curUsed b → Answers (.curatorWriteBack a) s (fun u =>
        u.mark a = 1 ∧ mapGet 0 u.wb (a / 8) = 2 ∧ Quiet [MEM_ARB_CNT_CUR_YIELD b] s u))) ∧
    (let q := s.get CUR_TEL_CFG_RING
     let kinds := [0, 1].filter (fun k => s.bit CUR_TEL_CFG_KINDS k)
     s.on CUR_CTL_TEL_EN = true → s.awake = true →
      (s.ringIs q 2 = true → Answers .telemetry s (fun u =>
        (u.telq.drop s.telq.length).map (fun p => (p.1, p.2.code, p.2.frame)) = kinds.map (fun k => (q, 0x1103 + k, s.frame)) ∧
        u.telq.take s.telq.length = s.telq ∧ (s.bit CUR_TEL_CFG_KINDS 1 = true → u.clips = []) ∧ Quiet [] s u)) ∧
      (s.ringIs q 2 = false → kinds ≠ [] → Answers .telemetry s (fun u =>
        u.get CUR_CNT_TEL_DROP = satNat 16 (s.get CUR_CNT_TEL_DROP + kinds.length) ∧ u.get CUR_SUM_TEL_DROP = 1 ∧
        u.telq = s.telq ∧ (s.telRun = false → 0x1105 ∈ u.occ) ∧ Quiet [CUR_CNT_TEL_DROP, CUR_SUM_TEL_DROP] s u)))

/-! ### Banks, annals and the nonvolatile store -/

/-- R418 to R425: a bank is released, tested, repaired and retired. Model choices: log entry 84. -/
def Obligations.BanksReleaseTestAndRetire : Prop :=
  ∀ (s : State) (b : EightIx) (region : Nat),
    let lo := bankAddr b 0
    let inBank := fun (a : Nat) => lo ≤ a ∧ a < lo + 0x100000
    let bad := s.marked b 0 0x20000 2
    let here := fun (ring : Option Nat) (u : State) =>
      mapFind u.tests b = some { region := region, ring := ring } ∧ u.get MEM_TEST_STAT_BANK = b ∧
      u.get MEM_TEST_STAT_REGION = region ∧ u.get MEM_TEST_STAT_BUSY = 1 ∧ SameBytes s u
    (∀ (r : RingIx) (ws : List Nat), TakesUp s r ws → ws.headD 0 % 256 = 0x0F → bits (ws.headD 0) 16 3 = b.val →
      bits (ws.headD 0) 32 11 = region →
      (s.bankUp b = false → Answers (.bankTest r) s (Completes s r stNoResource 0)) ∧
      (s.bankUp b = true → mapFind s.tests b = none → Answers (.bankTest r) s (fun u => Runs s r u ∧ here (some r.val) u)) ∧
      (s.bankUp b = true → (mapFind s.tests b).isSome = true → Answers (.bankTest r) s (fun u =>
        Runs s r u ∧ u.bankWait = s.bankWait ++ [r.val] ∧ u.tests = s.tests ∧ Quiet [RING_STAT_STATE r] s u))) ∧
    (s.on MEM_CTL_TEST_EN = true → s.awake = true → s.bankUp b = true → mapFind s.tests b = none → region < 2048 →
      (b.val, region) ∈ s.testq → s.testq.all (fun p => p.1 != b.val || p.2 == region) = true →
      Answers (.regionTest b region) s (fun u => here none u ∧ (b.val, region) ∉ u.testq)) ∧
    (s.on MEM_CTL_TEST_EN = true → s.get PWR_STAT_STATE = 0 → s.bankUp b = true → mapFind s.tests b = none → region < 2048 →
      s.testq.all (fun p => p.1 != b.val) = true → Answers (.regionTest b region) s (here none)) ∧
    (s.on MEM_CTL_TEST_EN = false ∨ s.bankUp b = false → Answers (.regionTest b region) s (Unmoved s)) ∧
    (∀ (l : List Nat) (ring : Option Nat), mapFind s.tests b = some { region := region, ring := ring } → s.bankWaiter b = none →
      region < 2048 →
      let fails := (List.range 64).filter (fun o => l.contains o)
      let done := fun (u : State) =>
        mapFind u.tests b = none ∧ u.get MEM_TEST_STAT_TESTED = (s.get MEM_TEST_STAT_TESTED + 1) % 2 ^ 32 ∧
        u.get MEM_TEST_STAT_FAIL = b2n (!fails.isEmpty) ∧
        (∀ (r : RingIx) (e : Exec), ring = some r.val → (s.ring r).exec = some e →
          Finishes s r e stOk (match fails with | [] => 0 | o :: _ => 1 + o) u)
      (fails = [] → Answers (.regionTestEnd b l) s done) ∧
      (fails = [] → ring = none → Answers (.regionTestEnd b l) s
        (Quiet [MEM_TEST_STAT_BUSY, MEM_TEST_STAT_FAIL, MEM_TEST_STAT_TESTED] s)) ∧
      (fails ≠ [] → s.get (MEM_BANK_STAT_SPARES b) < 8 → Answers (.regionTestEnd b l) s (fun u =>
        done u ∧ u.get (MEM_BANK_STAT_SPARES b) = s.get (MEM_BANK_STAT_SPARES b) + 1 ∧ u.get MEM_SUM_REPAIR = 1 ∧
        mapFind u.repairs (2048 * b + region) = some (s.get (MEM_BANK_STAT_SPARES b) + 1) ∧ 0x0F03 ∈ u.occ)) ∧
      (fails ≠ [] → 8 ≤ s.get (MEM_BANK_STAT_SPARES b) → Answers (.regionTestEnd b l) s (fun u =>
        done u ∧ u.get (MEM_BANK_STAT_STATE b) = 4 ∧ bitOf u.retired b = true ∧ u.get MEM_SUM_RETIRE = 1 ∧ 0x0F04 ∈ u.occ))) ∧
    (∀ ok : Bool, s.get (MEM_BANK_STAT_STATE b) = 1 → (b = 6 → (s.ring 0).exec = none) →
      (mapFind s.canary b = none → Answers (.bankRelease b ok) s (fun u =>
        u.get (MEM_BANK_STAT_STATE b) = 2 ∧ (∀ a : Nat, inBank a → u.memByte a = 0) ∧
        (∀ a : Nat, ¬ inBank a → u.memByte a = s.memByte a))) ∧
      (mapFind s.canary b = some (s.get PWR_SEQ_SLEEP_SEQ) → ok = true → bad = [] → Answers (.bankRelease b ok) s (fun u =>
        u.get (MEM_BANK_STAT_STATE b) = 2 ∧ u.marked b 0 0x20000 1 = [] ∧ mapFind u.canary b = none ∧
        Quiet [MEM_BANK_STAT_STATE b, MEM_ECC_CNT_CORRECTED b, WAKE_MODEL_STAT_REGION, WAKE_MODEL_STAT_STATE] s u)) ∧
      ((mapFind s.canary b).isSome = true →
        (mapFind s.canary b ≠ some (s.get PWR_SEQ_SLEEP_SEQ) ∨ ok = false ∨ bad ≠ []) → Answers (.bankRelease b ok) s (fun u =>
        u.get (MEM_BANK_STAT_STATE b) = 3 ∧ u.bit MEM_LOST_SUM_LOST b = true ∧ u.get MEM_SUM_LOST = 1 ∧ 0x0F02 ∈ u.occ ∧
        (∀ a : Nat, inBank a → u.memByte a = 0)))) ∧
    (∀ ok : Bool, s.get (MEM_BANK_STAT_STATE b) ≠ 1 → Answers (.bankRelease b ok) s (Unmoved s))

/-- R499, R500, R502, R504, R512: the annals are flushed, frozen and unfrozen, and calendar time is set. Model choices: log entry
23. -/
def Obligations.AnnalsFlushAndFreeze : Prop :=
  ∀ (s : State) (r : RingIx) (ws : List Nat),
    let op := ws.headD 0 % 256
    let a := s.annals
    let n := a.buf.length
    let lost := fun (u : State) => a.drops ≠ 0 → 0x1002 ∈ u.occ ∧ u.annals.drops = 0
    (TakesUp s r ws → op = 0x12 → s.on NVS_STAT_FLUSHING = false → s.on NVS_STAT_FROZEN = false →
      Answers (.annalsFlush r) s (fun u =>
      Runs s r u ∧ u.get NVS_STAT_FLUSHING = 1 ∧ u.annals.flushCmds = a.flushCmds ++ a.flushNext ++ [r.val] ∧
      Quiet [RING_STAT_STATE r, NVS_STAT_FLUSHING] s u)) ∧
    (TakesUp s r ws → op = 0x12 → s.on NVS_STAT_FLUSHING = true ∨ s.on NVS_STAT_FROZEN = true →
      Answers (.annalsFlush r) s (fun u =>
      Runs s r u ∧ u.annals.flushReq = true ∧ u.annals.flushNext = a.flushNext ++ [r.val] ∧ Quiet [RING_STAT_STATE r] s u)) ∧
    (s.on NVS_STAT_FLUSHING = false → s.on NVS_STAT_FROZEN = false → Answers .annalsAutoFlush s (fun u =>
      u.get NVS_STAT_FLUSHING = 1 ∧ SameBytes s u ∧ SameRegs [NVS_STAT_FLUSHING] s u)) ∧
    (s.on NVS_STAT_FLUSHING = true ∨ s.on NVS_STAT_FROZEN = true → Answers .annalsAutoFlush s (fun u =>
      u.annals.flushReq = true ∧ SameBytes s u ∧ SameRegs [] s u)) ∧
    (s.on NVS_STAT_FLUSHING = true → s.on NVS_STAT_READ_ONLY = false → 4 ≤ s.get NVS_STAT_RING_SECTORS →
      s.get NVS_STAT_RING_SECTORS ≤ 60 → s.get NVS_RING_STAT_NEXT < s.ringSlots → n ≤ s.ringSlots → a.flushReq = false →
      Answers (.flushDone [] 0) s (fun u =>
      u.annals.buf = [] ∧ u.get NVS_STAT_BUF_LEVEL = 0 ∧ u.get NVS_STAT_FLUSHING = 0 ∧
      u.get NVS_RING_STAT_NEXT = (s.get NVS_RING_STAT_NEXT + n) % s.ringSlots ∧
      u.get NVS_CNT_FLUSHES = satNat 16 (s.get NVS_CNT_FLUSHES + 1) ∧
      u.tlog.opSec = s.get NVS_OPTIME_OP_SEC ∧ u.tlog.pcyc = s.get NVS_OPTIME_PCYC ∧ u.tlog.seq = (s.tlog.seq + 1) % 2 ^ 32 ∧
      (∀ fe : Nat × Entry, a.buf = [fe] → a.rewrite = false →
        (List.range 4).map (fun k => u.nvsWord (s.slotByte (s.get NVS_RING_STAT_NEXT) + 8 * k)) = entryWords fe.2) ∧
      (∀ e : Exec, a.flushCmds = [r.val] → (s.ring r).exec = some e → e.words.headD 0 % 256 = 0x12 → Finishes s r e stOk n u))) ∧
    (s.on NVS_STAT_FLUSHING = false → Answers (.flushDone [] 0) s (Unmoved s)) ∧
    (TakesUp s r ws → op = 0x13 → bitOf (ws.headD 0) 16 = true → Answers (.annalsFreeze r) s (fun u =>
      Completes s r stOk n u ∧ u.get NVS_STAT_FROZEN = 1 ∧ u.get NVS_STAT_FLUSHING = 0 ∧ u.annals.buf = a.buf ∧ u.nvs = s.nvs)) ∧
    (TakesUp s r ws → op = 0x13 → bitOf (ws.headD 0) 16 = false → a.drops = 0 ∨ s.on NVS_STAT_FROZEN = false →
      Answers (.annalsUnfreeze r) s (fun u =>
      Completes s r stOk n u ∧ u.on NVS_STAT_FROZEN = false ∧ u.annals.buf = a.buf ∧ u.nvs = s.nvs)) ∧
    (TakesUp s r ws → op = 0x13 → bitOf (ws.headD 0) 16 = false → s.on NVS_STAT_FROZEN = true → Answers (.annalsUnfreeze r) s (fun u =>
      u.get NVS_STAT_FROZEN = 0 ∧ lost u ∧ u.nvs = s.nvs)) ∧
    (s.on NVS_STAT_FROZEN = true → Answers .nvsFreezeTo s (fun u =>
      u.get NVS_STAT_FROZEN = 0 ∧ u.get NVS_SUM_FREEZE_TO = 1 ∧ 0x100B ∈ u.occ ∧ lost u ∧
      Quiet [NVS_STAT_FROZEN, NVS_SUM_FREEZE_TO] s u)) ∧
    (s.on NVS_STAT_FROZEN = false → Answers .nvsFreezeTo s (Unmoved s)) ∧
    (∀ v : Word, Answers (.nvsCalSet v) s (fun u =>
      u.get NVS_CALTIME_CAL_SEC = v.toNat % 2 ^ 40 ∧ u.get NVS_TIMEQ_CAL_TQ = 0 ∧ u.get NVS_TIMEQ_CAL_BOUND = 0 ∧ 0x100C ∈ u.occ ∧
      Quiet [NVS_CALTIME_CAL_SEC, NVS_TIMEQ_CAL_TQ, NVS_TIMEQ_CAL_BOUND] s u))

/-- R494, R495, R507 to R511: the NVS is read and written, the annals cleared, the key set and a failing sector moved. Model
choices: log entries 22, 24 and 25. -/
def Obligations.NvsReadsWritesClearsAndMoves : Prop :=
  ∀ (s : State),
    let copies := s.sectorsWhere (fun v => v.2.2 == 0)
    (∀ (r : RingIx) (ws : List Nat), TakesUp s r ws →
      let op := ws.headD 0 % 256
      let n := (nvsArgs ws).1
      let from_ := (nvsArgs ws).2.1
      let dst := (nvsArgs ws).2.2
      let c := s.cplRing r
      let tail := s.get (RING_TAIL_TAIL c)
      let apart := fun (w : Nat) => w < dst ∨ dst + n ≤ w
      (op = 0x10 → n = 0 ∨ 4096 < n ∨ from_ % 8 ≠ 0 ∨ 0x20000 < dst + n ∨ 0x48000 < from_ + 8 * n →
        Answers (.nvsRead r) s (Completes s r stBadArg 0)) ∧
      (op = 0x10 → nvsArgsOk ws = true → from_ + 8 * n ≤ 0x48000 → apart (s.ringWord c tail) →
        apart (s.ringWord c ((tail + 1) % 65536)) → Answers (.nvsRead r) s (fun u =>
        Completes s r stOk n u ∧ u.nvs = s.nvs ∧
        (∀ i : Nat, i < n → (s.sector ((from_ + 8 * i) / 0x1000)).2.2 = 2 ∨ (s.sector ((from_ + 8 * i) / 0x1000)).2.2 = 3 →
          u.peek6 (dst + i) = s.nvsWord (from_ + 8 * i)) ∧
        (∀ i : Nat, i < n → (s.sector ((from_ + 8 * i) / 0x1000)).2.2 = 0 → (from_ + 8 * i) % 0x1000 = 0x200 → u.peek6 (dst + i) = 0))) ∧
      (op = 0x11 → nvsArgsOk ws = false → Answers (.nvsWrite r []) s (Completes s r stBadArg 0)) ∧
      (op = 0x11 → nvsArgsOk ws = true → from_ < 0xC00 ∨ 0x1000 < from_ + 8 * n → Answers (.nvsWrite r []) s (fun u =>
        Completes s r stNotPermitted 0 u ∧ u.nvs = s.nvs)) ∧
      (op = 0x11 → nvsArgsOk ws = true → 0xC00 ≤ from_ → from_ + 8 * n ≤ 0x1000 →
        (∀ i : Nat, i < n → s.mark (bankAddr 6 (dst + i)) ≠ 2) → Answers (.nvsWrite r []) s (fun u =>
        Completes s r stOk n u ∧ ∀ x ∈ copies, ∀ i : Nat, i < n →
          u.nvsWord (x * 0x1000 + from_ + 8 * i) = s.peek6 (dst + i))) ∧
      (∀ st : Nat, s.keyStop = some st → (op = 0x14 → Answers (.annalsClear r) s (Completes s r st 0)) ∧
        (op = 0x15 → Answers (.clearKeySet r []) s (Completes s r st 0))) ∧
      (s.keyStop = none → s.keyUnset = false → s.clearKey ≠ ws.getD 1 0 → s.get NVS_STAT_KEY_TRIES ≤ 2 →
        let miss := fun (u : State) =>
          Completes s r stNotPermitted 0 u ∧ u.get NVS_STAT_KEY_TRIES = s.get NVS_STAT_KEY_TRIES + 1 ∧ u.get NVS_SUM_KEY_FAIL = 1 ∧
          u.on NVS_STAT_KEY_LOCK = (s.get NVS_STAT_KEY_TRIES == 2) ∧ (s.get NVS_STAT_KEY_TRIES = 2 → 0x1003 ∈ u.occ) ∧
          u.nvs = s.nvs
        (op = 0x14 → Answers (.annalsClear r) s miss) ∧ (op = 0x15 → Answers (.clearKeySet r []) s miss)) ∧
      (op = 0x14 → s.keyStop = none → s.keyUnset = false → s.clearKey = ws.getD 1 0 → Answers (.annalsClear r) s (fun u =>
        Completes s r stOk 0 u ∧ u.get NVS_RING_STAT_COUNT = 0 ∧ u.get NVS_RING_STAT_NEXT = 0 ∧ u.get NVS_RING_STAT_OLDEST = 0 ∧
        u.get NVS_STAT_KEY_TRIES = 0 ∧ 0x1001 ∈ u.occ ∧ u.annals.buf.map (fun p => p.2.code) = [0x1001] ∧
        u.get NVS_TIMEQ_OP_TQ = 0 ∧ u.get NVS_TIMEQ_OP_BOUND = 0)) ∧
      (op = 0x15 → s.keyStop = none → s.keyUnset = true ∨ s.clearKey = ws.getD 1 0 → copies ≠ [] → Answers (.clearKeySet r []) s
        (fun u =>
        Completes s r stOk 0 u ∧ u.clearKey = ws.getD 2 0 % 2 ^ 64 ∧ u.keyUnset = false ∧ u.get NVS_STAT_KEY_TRIES = 0 ∧
        0x1004 ∈ u.occ))) ∧
    (∀ (x y : Nat) (l : Nat), s.on NVS_STAT_FLUSHING = false → s.sectorsWhere (fun v => v.1 == 4) = [x] → s.sector x = (4, l, 2) →
      (s.sectorsWhere (fun v => v.1 == 3)).head? = some y → s.get NVS_STAT_SPARES_LEFT ≠ 0 → Answers (.sectorMove []) s (fun u =>
      u.sector y = (2, l, 2) ∧ u.sector x = (5, 0, 3) ∧ u.get NVS_STAT_SPARES_LEFT = s.get NVS_STAT_SPARES_LEFT - 1 ∧
      u.get NVS_SUM_SPARE = 1 ∧ 0x1005 ∈ u.occ ∧
      (∀ i : Nat, i < 512 → u.nvsWord (y * 0x1000 + 8 * i) = s.nvsWord (x * 0x1000 + 8 * i)) ∧
      SameRegsEv [NVS_STAT_SPARES_LEFT, NVS_SUM_SPARE] s u ∧ u.mem = s.mem ∧ u.flash = s.flash)) ∧
    (s.on NVS_STAT_FLUSHING = true ∨ s.sectorsWhere (fun v => v.1 == 4) = [] → Answers (.sectorMove []) s (Unmoved s))

/-! ### The host bus and the auxiliary bus -/

/-- R385, R387, R389, R393, R414, R415, R529: groups that the host writes and reads. Model choices: log entries 20 and 31. -/
def Obligations.HostBusGroups : Prop :=
  ∀ (s : State) (addr stretch : Nat) (v : Word),
    let a := addr % 2 ^ 24
    let b := (a - 0x400000) / 0x100000
    let bank := decide (0x400000 ≤ a) && decide (a < 0xC00000)
    let good := bank || a % 8 == 0
    let refused := s.resetRefuses a
    let waits := s.groupWaits a
    let takes := s.busAlive = true ∧ good = true ∧ s.reachable a = true ∧ refused = false ∧ waits = false
    let snaps := TWB_STAT_BUSY :: TWB_STAT_STRETCH_MAX :: []
    (s.busAlive = false → Answers (.hostBusWrite addr v stretch) s (Unmoved s) ∧ Answers (.hostBusRead addr stretch) s (Unmoved s)) ∧
    (s.busAlive = true → good = false → Answers (.hostBusWrite addr v stretch) s (fun u =>
      u.get TWB_STAT_BUSY = 0 ∧ u.get TWB_CNT_NACKS = satNat 16 (s.get TWB_CNT_NACKS + 1) ∧
      Quiet (TWB_CNT_NACKS :: snaps) s u)) ∧
    (s.busAlive = true → good = true → s.reachable a = false → s.busAwake = false → Answers (.hostBusWrite addr v stretch) s (fun u =>
      u.get TWB_STAT_BUSY = 0 ∧ u.get TWB_CNT_NACKS = satNat 16 (s.get TWB_CNT_NACKS + 1) ∧
      Quiet (TWB_CNT_NACKS :: snaps) s u)) ∧
    (s.busAlive = true → good = true → s.reachable a = false → s.busAwake = true → Answers (.hostBusWrite addr v stretch) s (fun u =>
      u.get TWB_STAT_BUSY = 1 ∧ u.get TWB_SUM_DROP = 1 ∧ u.get TWB_CNT_DROPS = satNat 16 (s.get TWB_CNT_DROPS + 1) ∧ 0x0E03 ∈ u.occ ∧
      Quiet (TWB_SUM_DROP :: TWB_CNT_DROPS :: snaps) s u)) ∧
    (s.busAlive = true → good = true → s.reachable a = true → refused = true → Answers (.hostBusWrite addr v stretch) s (fun u =>
      u.get TWB_STAT_BUSY = 0 ∧ u.get TWB_CNT_NACKS = satNat 16 (s.get TWB_CNT_NACKS + 1) ∧ u.get TWB_SUM_PARTIAL = 1 ∧
      0x0E01 ∈ u.occ ∧ Quiet (TWB_CNT_NACKS :: TWB_SUM_PARTIAL :: TWB_CNT_PARTIALS :: snaps) s u)) ∧
    (s.busAlive = true → good = false ∨ s.reachable a = false ∨ refused = true → Answers (.hostBusRead addr stretch) s (fun u =>
      u.get TWB_STAT_BUSY = 0 ∧ u.get TWB_CNT_NACKS = satNat 16 (s.get TWB_CNT_NACKS + 1) ∧ u.busOut = [] ∧ u.busSnap = none ∧
      Quiet (TWB_CNT_NACKS :: snaps) s u)) ∧
    (s.busAlive = true → good = true → s.reachable a = true → refused = false → waits = true →
      Answers (.hostBusWrite addr v stretch) s (Quiet snaps s) ∧ Answers (.hostBusRead addr stretch) s (Quiet snaps s)) ∧
    (takes → a < 0x400000 → s.loadCovers (a / 0x1000) = false → 0x600 ≤ a % 0x1000 → Answers (.hostBusWrite addr v stretch) s (fun u =>
      u.memWord a = v ∧ SameOutside a s u ∧ u.busAddr = (a + 8) % 2 ^ 24 ∧
      SameRegs (SYS_BOOT_MODIFIED :: CUR_CNT_WB_CANCEL :: snaps) s u)) ∧
    (takes → bank = true → b ≠ 5 → b ≠ 7 → s.bankUp b = true → a % 8 = 0 → Answers (.hostBusWrite addr v stretch) s (fun u =>
      u.memWord a = v ∧ SameOutside a s u ∧ u.busAddr = a + 8 ∧ SameRegs (CUR_CNT_WB_CANCEL :: snaps) s u)) ∧
    (takes → bank = true → b < 4 → s.bankUp b = true → s.bankUp (b + 1) = true → a % 8 ≠ 0 → s.mark a ≠ 2 → s.mark (a + 8) ≠ 2 →
      Answers (.hostBusWrite addr v stretch) s (fun u =>
      (∀ i : Nat, i < 8 → (u.memByte (a + i)).toNat = v.toNat / 2 ^ (8 * i) % 256) ∧ SameOutside a s u ∧ u.busAddr = a + 8)) ∧
    (takes → bank = true → b ≠ 5 → b ≠ 7 → s.bankUp b = true → a % 8 = 0 ∨ (a + 7 - 0x400000) / 0x100000 = b →
      Answers (.hostBusRead addr stretch) s (fun u =>
      u.busOut = (List.range 8).map (fun i => (s.memByte (a + i)).toNat) ∧ u.busAddr = (a + 8) % 2 ^ 24 ∧
      u.get TWB_STAT_STRETCH_MAX = max (s.get TWB_STAT_STRETCH_MAX) (satNat 16 stretch) ∧ u.mem = s.mem ∧ u.nvs = s.nvs)) ∧
    (takes → a < 0x400000 ∨ (0xC00000 ≤ a ∧ a < 0xE00000) → Answers (.hostBusRead addr stretch) s (fun u =>
      u.busOut = leBytes 8 (s.memWord a).toNat ∧ u.mem = s.mem ∧
      (s.mark a = 1 → mapGet 0 u.wb (a / 8) = 1) ∧ Quiet snaps s u)) ∧
    (∀ x : RegRow, takes → a / 0x1000 = 0xE11 → a ≠ 0xE11038 → rowAt a = some x → x.acc ≠ .wo → Answers (.hostBusRead addr stretch) s
      (fun u =>
      u.busSnap.map Prod.fst = some a ∧ u.busOut = leBytes 8 ((u.busSnap.map Prod.snd).getD 0) ∧
      ((∀ f ∈ x.flds, s.get f < 2 ^ f.width) →
        ∀ f ∈ x.flds, bits ((u.busSnap.map Prod.snd).getD 0) f.lo f.width = s.get f) ∧
      Quiet snaps s u)) ∧
    (∀ x : RegRow, takes → a / 0x1000 = 0xE11 → rowAt a = some x → x.acc = .rw → Answers (.hostBusWrite addr v stretch) s (fun u =>
      (∀ f ∈ x.flds, u.get f = bits v.toNat f.lo f.width) ∧ Quiet (snaps ++ x.flds) s u))

/-- R386, R392, R394, R396, R397: the end of a transaction, the bus timeout, the alert response and a dormant unit's address. Model
choices: log entries 20, 27 and 48. -/
def Obligations.HostBusEndsAlertsAndWakes : Prop :=
  ∀ (s : State) (addr n : Nat) (flag : Bool),
    let some_ := decide (1 ≤ n) && decide (n ≤ 7)
    let short := fun (u : State) => some_ = true →
      u.get TWB_SUM_PARTIAL = 1 ∧ u.get TWB_CNT_PARTIALS = satNat 16 (s.get TWB_CNT_PARTIALS + 1) ∧ 0x0E01 ∈ u.occ
    let parts := if some_ = true then [TWB_SUM_PARTIAL, TWB_CNT_PARTIALS] else []
    Answers (.hostTransactionEnd addr n flag) s (fun u =>
      u.get TWB_STAT_BUSY = 0 ∧ u.get TWB_STAT_HS = b2n (flag && s.on TWB_CFG_HS_EN) ∧ u.busSnap = none ∧ short u ∧
      Quiet (TWB_STAT_BUSY :: TWB_STAT_HS :: parts) s u) ∧
    (s.get TWB_CFG_TIMEOUT = 0 → Answers (.twbTimeout addr n flag) s (Unmoved s)) ∧
    (s.get TWB_CFG_TIMEOUT ≠ 0 → Answers (.twbTimeout addr n flag) s (fun u =>
      u.get TWB_STAT_BUSY = 0 ∧ u.get TWB_SUM_TIMEOUT = 1 ∧ u.get TWB_CNT_TIMEOUTS = satNat 16 (s.get TWB_CNT_TIMEOUTS + 1) ∧
      0x0E02 ∈ u.occ ∧ short u ∧ Quiet (TWB_STAT_BUSY :: TWB_SUM_TIMEOUT :: TWB_CNT_TIMEOUTS :: parts) s u)) ∧
    (s.unanswered = 0 → Answers (.alertResponse flag) s (Unmoved s)) ∧
    (s.unanswered ≠ 0 → Answers (.alertResponse true) s (fun u =>
      u.get TWB_STAT_ANSWERED = (s.get TWB_STAT_ANSWERED ||| s.get TWB_ALERT_STAT_SRC) % 32 ∧
      u.busOut.map (fun x => x / 2) = [s.get TWB_STAT_ADDR] ∧
      (bitOf s.unanswered 0 = true → u.busOut.map (fun x => x % 2) = [1]) ∧
      (s.unanswered % 2 = 0 → bitOf s.unanswered 2 = false → u.busOut.map (fun x => x % 2) = [0]) ∧
      (s.get TWB_ALERT_STAT_SRC < 32 → u.alertN = true) ∧ SameBytes s u ∧ SameRegs [TWB_STAT_ANSWERED] s u)) ∧
    (s.unanswered ≠ 0 → Answers (.alertResponse false) s (fun u => u.busOut = [] ∧ u.alertN = s.alertN ∧ Quiet [] s u)) ∧
    (s.get PWR_STAT_STATE = 3 → flag = true ∨ s.unanswered ≠ 0 → Answers (.dormantAddressMatch flag n) s (fun u =>
      u.get TWB_STAT_BUSY = 1 ∧ u.dormBus = true ∧
      u.get TWB_STAT_STRETCH_MAX = max (s.get TWB_STAT_STRETCH_MAX) (satNat 16 n) % 2 ^ 16 ∧
      (flag = true → s.on TWB_CFG_DORMANT_WAKE = true → s.wakeReq = none → u.wakeReq = some 3) ∧
      Quiet [TWB_STAT_BUSY, TWB_STAT_STRETCH_MAX] s u)) ∧
    (s.get PWR_STAT_STATE ≠ 3 ∨ (flag = false ∧ s.unanswered = 0) → Answers (.dormantAddressMatch flag n) s (Unmoved s)) ∧
    (s.get PWR_STAT_STATE = 3 → s.on TWB_STAT_BUSY = false → s.on TWB_CFG_DORMANT_WAKE = false ∨ s.wakeReq = none →
      Answers .returnToDormant s (fun u =>
      u.dormBus = false ∧ Quiet [] s u)) ∧
    (s.get PWR_STAT_STATE ≠ 3 ∨ s.on TWB_STAT_BUSY = true ∨ (s.on TWB_CFG_DORMANT_WAKE = true ∧ s.wakeReq ≠ none) →
      Answers .returnToDormant s (Unmoved s))

/-- R399 to R405: transfers and the clear of the auxiliary bus. Model choices: log entry 21. -/
def Obligations.AuxiliaryBusTransfers : Prop :=
  ∀ (s : State) (r : RingIx) (ws read : List Nat) (i k : Nat), TakesUp s r ws →
    let op := ws.headD 0 % 256
    let from_ := auxBuf ws
    let dst := from_ + ceilDiv (auxWlen ws) 8
    let fits := dst + ceilDiv (auxRlen ws) 8 ≤ 0x20000
    let clean := ∀ j : Nat, j < ceilDiv (auxWlen ws) 8 → s.mark (bankAddr 6 (from_ + j)) ≠ 2
    let lines := fun (scl sda busy : Nat) (u : State) =>
      u.get TWB_AUX_STAT_SCL = scl ∧ u.get TWB_AUX_STAT_SDA = sda ∧ u.get TWB_AUX_STAT_BUS_BUSY = busy ∧ u.get TWB_AUX_STAT_STATE = 0 ∧
      u.auxq = []
    let c := s.cplRing r
    let tail := s.get (RING_TAIL_TAIL c)
    let apart := fun (w : Nat) => w < dst ∨ dst + ceilDiv (auxRlen ws) 8 ≤ w
    (op = 0x18 → ¬ fits → Answers (.auxXfer r read .done) s (Completes s r stBadArg 0)) ∧
    (op = 0x18 → fits → ¬ clean → Answers (.auxXfer r read .done) s (Completes s r stEcc 0)) ∧
    (op = 0x18 → fits → clean → s.auxq ≠ [] → s.auxq.head? ≠ some r.val → Answers (.auxXfer r read .done) s (fun u =>
      Runs s r u ∧ u.auxq = s.auxq ++ [r.val] ∧ u.get TWB_AUX_STAT_STATE = 1)) ∧
    (op = 0x18 → fits → clean → s.auxq = [] → read.length = auxRlen ws → apart (s.ringWord c tail) →
      apart (s.ringWord c ((tail + 1) % 65536)) → Answers (.auxXfer r read .done) s (fun u =>
      Completes s r stOk 0 u ∧ lines 1 1 0 u ∧
      ∀ j : Nat, j < auxRlen ws → (u.memByte (bankAddr 6 dst + j)).toNat = read.getD j 0 % 256)) ∧
    (op = 0x18 → fits → clean → s.auxq = [] → i ≤ auxWlen ws → Answers (.auxXfer r [] (.nack i)) s (fun u =>
      Completes s r stNoResource (i % 65536 + 2 ^ 19) u ∧ lines 1 1 0 u ∧ u.get TWB_SUM_AUX_NACK = 1 ∧
      u.get TWB_AUX_CNT_NACKS = satNat 16 (s.get TWB_AUX_CNT_NACKS + 1))) ∧
    (op = 0x18 → fits → clean → s.auxq = [] → i ≤ auxWlen ws → k ≤ 7 → s.get TWB_AUX_CFG_ARB_RETRY = 0 →
      Answers (.auxXfer r [] (.arbLost i k)) s (fun u =>
      Completes s r stArbLost (i % 65536 + 2 ^ 16 * k) u ∧ lines 1 0 1 u ∧ u.get TWB_SUM_AUX_ARB = 1 ∧ 0x0E05 ∈ u.occ ∧
      u.get TWB_AUX_CNT_ARB_LOST = satNat 16 (s.get TWB_AUX_CNT_ARB_LOST + 1))) ∧
    (op = 0x18 → fits → clean → s.auxq = [] → i ≤ auxWlen ws → k ≤ 7 → s.get TWB_AUX_CFG_ARB_RETRY ≠ 0 →
      Answers (.auxXfer r [] (.arbLost i k)) s (fun u =>
      Runs s r u ∧ u.auxq = [r.val] ∧ (u.ring r).exec.map Exec.left = some 1 ∧
      u.get TWB_AUX_CNT_ARB_LOST = satNat 16 (s.get TWB_AUX_CNT_ARB_LOST + 1))) ∧
    (op = 0x18 → fits → clean → s.auxq = [] → i ≤ auxWlen ws → Answers (.auxXfer r [] (.arbCond i)) s (fun u =>
      Completes s r stArbCondition i u ∧ lines 1 0 1 u ∧ u.get TWB_SUM_AUX_COND = 1 ∧
      u.get TWB_AUX_CNT_ARB_COND = satNat 16 (s.get TWB_AUX_CNT_ARB_COND + 1))) ∧
    (op = 0x18 → fits → clean → s.auxq = [] → Answers (.auxXfer r [] (.timeout true)) s (fun u =>
      Completes s r stTimeout 0 u ∧ lines 0 (s.get TWB_AUX_STAT_SDA % 2) 1 u)) ∧
    (op = 0x19 → s.auxq = [] → k ≤ 9 → Answers (.auxClear r (.released k)) s (fun u =>
      Completes s r stOk k u ∧ lines 1 1 0 u)) ∧
    (op = 0x19 → s.auxq = [] → Answers (.auxClear r .stuck) s (fun u =>
      Completes s r stBusStuck 9 u ∧ lines 1 0 1 u ∧ u.get TWB_SUM_AUX_STUCK = 1 ∧ 0x0E06 ∈ u.occ ∧
      u.get TWB_AUX_CNT_STUCK = satNat 16 (s.get TWB_AUX_CNT_STUCK + 1))) ∧
    (op = 0x19 → s.auxq = [] → k ≤ 9 → Answers (.auxClear r (.timeout k)) s (fun u =>
      Completes s r stTimeout k u ∧ u.get TWB_AUX_STAT_SCL = 0 ∧ u.get TWB_AUX_STAT_BUS_BUSY = 1)) ∧
    (op = 0x19 → s.auxq ≠ [] → s.auxq.head? ≠ some r.val → Answers (.auxClear r .stuck) s (fun u =>
      Runs s r u ∧ u.auxq = s.auxq ++ [r.val]))

/-! ### Performance levels, sleep and the clocks of the unit -/

/-- R431, R433 to R435, R437, R452: performance levels are requested, changed and lost; the supervised clocks fail and resume. Model
choices: log entry 68. -/
def Obligations.PowerLevelsAndClockFailures : Prop :=
  ∀ (s : State),
    let cur := s.get PWR_STAT_CUR_PL
    (∀ v : Word,
      let t := v.toNat % 4
      let idle := s.plTo = none ∧ s.awake = true
      (idle → t < s.minPl → Answers (.pwrPlWrite v) s (fun u =>
        u.get PWR_STAT_PL_ERR = 1 ∧ u.get PWR_SUM_PL_REFUSED = 1 ∧ 0x0102 ∈ u.occ ∧ u.get PWR_PL_TARGET = t ∧ u.plTo = none ∧
        Quiet [PWR_PL_TARGET, PWR_STAT_PL_ERR, PWR_SUM_PL_REFUSED] s u)) ∧
      (idle → s.minPl ≤ t → t = cur → Answers (.pwrPlWrite v) s (fun u =>
        u.get PWR_STAT_PL_ERR = 0 ∧ u.plTo = none ∧ Quiet [PWR_PL_TARGET, PWR_STAT_PL_ERR] s u)) ∧
      (idle → s.minPl ≤ t → cur < t → Answers (.pwrPlWrite v) s (fun u =>
        u.get PWR_STAT_PL_BUSY = 1 ∧ u.get PWR_STAT_VSEL = t ∧ u.get PWR_STAT_PG = 0 ∧ u.plTo = some t ∧ u.get PWR_STAT_PL_ERR = 0 ∧
        Quiet [PWR_PL_TARGET, PWR_STAT_PL_ERR, PWR_STAT_PL_BUSY, PWR_STAT_VSEL, PWR_STAT_PG] s u)) ∧
      (idle → s.minPl ≤ t → t < cur → Answers (.pwrPlWrite v) s (fun u =>
        u.get PWR_STAT_PL_BUSY = 1 ∧ u.plTo = some t ∧ Quiet [PWR_PL_TARGET, PWR_STAT_PL_ERR, PWR_STAT_PL_BUSY] s u)) ∧
      (s.plTo ≠ none ∨ s.awake = false → Answers (.pwrPlWrite v) s (fun u =>
        u.plWait = some t ∧ u.plTo = s.plTo ∧ Quiet [PWR_PL_TARGET] s u))) ∧
    (s.plTo = none → Answers .powerGood s (fun u => u.get PWR_STAT_PG = 1 ∧ Quiet [PWR_STAT_PG] s u)) ∧
    (∀ t : Nat, s.plTo = some t →
      (s.plLate = false → Answers .powerGood s (fun u =>
        u.get PWR_STAT_PG = 1 ∧ u.plTo = some t ∧ Quiet [PWR_STAT_PG] s u)) ∧
      (s.plLate = true → s.plWait = none → Answers .powerGood s (fun u =>
        u.get PWR_STAT_PG = 1 ∧ u.get PWR_STAT_PL_ERR = 1 ∧ u.get PWR_SUM_PG_TIMEOUT = 1 ∧ u.get PWR_STAT_PL_BUSY = 0 ∧
        u.plTo = none ∧ u.get PWR_CNT_PG_TIMEOUTS = satNat 16 (s.get PWR_CNT_PG_TIMEOUTS + 1) ∧ 0x0103 ∈ u.occ ∧
        Quiet [PWR_STAT_PG, PWR_STAT_PL_ERR, PWR_SUM_PG_TIMEOUT, PWR_STAT_PL_BUSY, PWR_CNT_PG_TIMEOUTS] s u)) ∧
      (cur < t → s.on PWR_STAT_PG = false → s.plLate = false → s.awake = true → Answers .pwrPgTimeout s (fun u =>
        u.get PWR_STAT_VSEL = cur % 4 ∧ u.plLate = true ∧ u.plTo = some t ∧ Quiet [PWR_STAT_VSEL] s u)) ∧
      (t < 4 → (t < cur ∨ (s.on PWR_STAT_PG = true ∧ s.plLate = false)) → s.plWait = none → Answers .plChange s (fun u =>
        u.get PWR_STAT_CUR_PL = t ∧ u.get PWR_STAT_VSEL = t ∧ u.get FAB_STAT_CUR_PL = t ∧ u.get PWR_STAT_PL_BUSY = 0 ∧
        u.plTo = none ∧ 0x0101 ∈ u.occ ∧ u.get PWR_CNT_PL_CHANGES = satNat 16 (s.get PWR_CNT_PL_CHANGES + 1) ∧
        Quiet [PWR_STAT_CUR_PL, PWR_STAT_VSEL, FAB_STAT_CUR_PL, FAB_STAT_BUDGET_A, PWR_STAT_PL_BUSY, PWR_CNT_PL_CHANGES] s u)) ∧
      (cur < t → s.on PWR_STAT_PG = false → Answers .plChange s (Unmoved s))) ∧
    (s.plTo = none → s.awake = true → Answers .pwrPgLost s (fun u =>
      u.get PWR_STAT_PG = 0 ∧ u.get PWR_SUM_PG_LOST = 1 ∧ 0x0104 ∈ u.occ ∧ u.bit KEEP_STAT_CAUSE 6 = true ∧ SameBytes s u)) ∧
    (s.plTo ≠ none ∨ s.awake = false → Answers .pwrPgLost s (Unmoved s)) ∧
    (∀ c : Nat, s.on PWR_STAT_XO_OK = true → s.awake = true → Answers (.pwrXoFail c) s (fun u =>
      u.get PWR_STAT_XO_OK = 0 ∧ u.get CLK_DOMC_STAT_REF = 1 ∧ u.get PWR_SUM_XO_FAIL = 1 ∧ 0x0107 ∈ u.occ ∧
      Quiet [PWR_STAT_XO_OK, CLK_DOMC_STAT_REF, PWR_SUM_XO_FAIL] s u)) ∧
    (s.on PWR_STAT_AON_SRC = false → Answers .pwrLfxFail s (fun u =>
      u.get PWR_STAT_AON_SRC = 1 ∧ u.get PWR_SUM_LFX_FAIL = 1 ∧ 0x0108 ∈ u.occ ∧ Quiet [PWR_STAT_AON_SRC, PWR_SUM_LFX_FAIL] s u)) ∧
    (∀ c : Nat, s.on PWR_STAT_AON_SRC = true → Answers (.pwrLfxResume c) s (fun u =>
      u.get PWR_STAT_AON_SRC = 0 ∧ 0x0109 ∈ u.occ ∧ Quiet [PWR_STAT_AON_SRC] s u))

/-- R440 to R446, R448: sleep is entered, times out, is ended by a wake source and left. Model choices: log entries 11 and 48. -/
def Obligations.SleepEntersAndLeaves : Prop :=
  ∀ (s : State),
    let st := s.get PWR_STAT_STATE
    (∀ e : Exec, (s.ring 0).exec = some e → e.words.headD 0 % 256 = 0x01 → waitMode e.words = 2 → e.committed = false →
      e.mask = 2 ∨ e.mask = 3 →
      (s.sleepReady = true → Answers .sleepEntry s (fun u =>
        u.get PWR_STAT_STATE = e.mask ∧ u.get PWR_SEQ_SLEEP_SEQ = (s.get PWR_SEQ_SLEEP_SEQ + 1) % 2 ^ 32 ∧
        u.get PWR_CNT_SLEEPS = satNat 16 (s.get PWR_CNT_SLEEPS + 1) ∧ u.get PWR_STAT_VSEL = 0 ∧ u.get CLK_DOMC_STAT_REF = 1 ∧
        u.wakeReq = none ∧ 0x0105 ∈ u.occ ∧ (∀ b : EightIx, u.get (BRG_STAT_STATE b) = 0) ∧
        (∀ n : FourIx, u.get (SAP_STAT_STATE n) = 0) ∧ (∀ p : TwoIx, u.get (CHN_PORT_STAT_STATE p) = 0) ∧
        (∀ c : SixteenIx, u.get (HKA_RES_VALID c) = 0) ∧
        (∀ b : EightIx, b ≠ 7 → s.get (MEM_BANK_STAT_STATE b) ≠ 4 → u.get (MEM_BANK_STAT_STATE b) = 0 ∧
          mapFind u.canary b = (if s.bit MEM_RET_CFG_RET_EN b then some (u.get PWR_SEQ_SLEEP_SEQ) else none)) ∧
        (e.mask = 2 → u.get (MEM_BANK_STAT_STATE 7) = s.get (MEM_BANK_STAT_STATE 7) ∧ u.get CLK_DOMC_STAT_STATE = 1) ∧
        (e.mask = 3 → u.get CLK_DOMC_STAT_STATE = 3) ∧ u.frame = s.frame ∧ u.flash = s.flash ∧ u.nvs = s.nvs)) ∧
      (s.sleepReady = false → Answers .sleepEntry s (Unmoved s)) ∧
      (s.sleepReady = false → s.awake = true → Answers .pwrEntryTimeout s (fun u =>
        Finishes s 0 e stTimeout s.frame u ∧ u.get PWR_STAT_STATE = st ∧ u.get PWR_SUM_ENTRY_TO = 1 ∧ 0x010A ∈ u.occ ∧
        u.get PWR_CNT_ENTRY_TIMEOUTS = satNat 16 (s.get PWR_CNT_ENTRY_TIMEOUTS + 1) ∧ u.nvs = s.nvs)) ∧
      (s.sleepReady = true → Answers .pwrEntryTimeout s (Unmoved s))) ∧
    ((s.ring 0).exec = none → Answers .sleepEntry s (Unmoved s) ∧ Answers .pwrEntryTimeout s (Unmoved s)) ∧
    (1 ≤ st → st ≤ 4 → s.wakeReq = none → Answers .wake s (fun u => u.wakeReq = some 0 ∧ Quiet [] s u)) ∧
    (st = 0 ∨ s.wakeReq ≠ none → Answers .wake s (Unmoved s)) ∧
    (1 ≤ st → st ≤ 4 → s.wakeReq = none → s.on PWR_WAKE_EN_TIMER = true → s.get PWR_TIMER_COUNT ≠ 0 → Answers .wakeTimer s (fun u =>
      u.wakeReq = some 4 ∧ Quiet [] s u)) ∧
    (s.on PWR_WAKE_EN_TIMER = false ∨ s.get PWR_TIMER_COUNT = 0 → Answers .wakeTimer s (Unmoved s)) ∧
    (∀ n rc cause : Nat, st = 2 ∨ st = 3 → s.wakeReq = some cause → s.plTo = none → s.plWait = none →
      let l := max (s.get PWR_MODE_WAKE_PL) s.minPl
      Answers (.sleepExit n rc) s (fun u =>
        u.get PWR_STAT_STATE = 0 ∧ u.get PWR_WAKE_STAT_CAUSE = cause % 16 ∧ u.get PWR_WAKE_STAT_LEFT = st ∧
        u.get PWR_WAKE_STAT_SLEPT = satNat 32 n ∧ u.get PWR_STAT_CUR_PL = l % 4 ∧ u.get PWR_STAT_VSEL = l % 4 ∧
        u.get PWR_STAT_PG = 1 ∧ u.wakeReq = none ∧ 0x0106 ∈ u.occ ∧ u.get (CHN_PORT_STAT_STATE 1) = 1 ∧
        (∀ b : EightIx, s.get (MEM_BANK_STAT_STATE b) = 0 → u.get (MEM_BANK_STAT_STATE b) = 1) ∧
        (s.isHead = true → st = 3 → u.frame = (s.frame + (2 * n * s.framesPerSec + 32768) / 65536) % 2 ^ 32) ∧
        (s.isHead = false ∨ st = 2 → u.frame = s.frame) ∧
        (∀ e : Exec, (s.ring 0).exec = some e → (u.ring 0).exec = some { e with committed := true, result := u.frame }) ∧
        u.flash = s.flash ∧ u.nvs = s.nvs)) ∧
    (∀ n rc : Nat, s.wakeReq = none ∨ (st ≠ 2 ∧ st ≠ 3) → Answers (.sleepExit n rc) s (Unmoved s)) ∧
    (∀ e : Exec, (s.ring 0).exec = some e → e.words.headD 0 % 256 = 0x01 → waitMode e.words = 2 → e.committed = true →
      s.get (MEM_BANK_STAT_STATE 6) = 1 → mapFind s.canary 6 = some (s.get PWR_SEQ_SLEEP_SEQ) → s.marked 6 0 0x20000 2 = [] →
      Answers (.bankRelease 6 true) s (fun u => Finishes s 0 e stOk e.result u ∧ u.get (MEM_BANK_STAT_STATE 6) = 2))

/-! ### The keeper -/

/-- R515, R517 to R521: fold causes, the fold, forced outputs and the release. Model choices: log entries 64 and 69. -/
def Obligations.KeeperFoldsAndReleases : Prop :=
  ∀ (s : State) (v : Word),
    let cause := s.get KEEP_STAT_CAUSE
    let posted := fun (code sev : Nat) (u : State) => s.gateOpen code sev = true → code ∈ u.occ
    let folds := fun (c : Nat) (u : State) =>
      u.get KEEP_STAT_CAUSE = 2 ^ c ∧ u.get KEEP_STAT_STATE = 1 ∧ u.get KEEP_STAT_FORCED = 0 ∧ u.bit KEEP_SUM_CAUSE c = true ∧
      u.get KEEP_CNT_FOLDS = satNat 16 (s.get KEEP_CNT_FOLDS + 1) ∧ posted 0x1301 1 u ∧
      (∀ n : FourIx, s.get (SPK_STAT_STATE n) = 2 → (s.spk n).phase = .play →
        u.get (SPK_STAT_STATE n) = 3 ∧ (u.spk n).phase = .stop ∧ (u.spk n).folding = true) ∧
      (∀ n : FourIx, 1 ≤ s.get (HPO_STAT_STATE n) → s.get (HPO_STAT_STATE n) ≤ 3 →
        u.get (HPO_STAT_STATE n) = 3 ∧ (u.hpo n).folding = true) ∧
      (∀ n : FourIx, s.get (SPK_STAT_STATE n) = 0 → (s.spk n).startReq = false → u.get (SPK_STAT_STATE n) = 0) ∧ SameBytes s u
    let more := fun (c : Nat) (u : State) =>
      (∀ k : Nat, k < 7 → u.bit KEEP_STAT_CAUSE k = (s.bit KEEP_STAT_CAUSE k || k == c)) ∧ u.bit KEEP_SUM_CAUSE c = true ∧
      u.get KEEP_STAT_STATE = s.get KEEP_STAT_STATE ∧
      Quiet (KEEP_STAT_CAUSE :: KEEP_SUM_CAUSE :: KEEP_STAT_DRIVING :: (List.range 4).map SPK_STAT_FAULT_CAUSE) s u
    (s.awake = true → cause = 0 → bitOf v.toNat 0 = true → Answers (.foldNow v) s (folds 0)) ∧
    (s.awake = true → cause ≠ 0 → bitOf v.toNat 0 = true → Answers (.foldNow v) s (more 0)) ∧
    (s.awake = false ∨ bitOf v.toNat 0 = false → Answers (.foldNow v) s (Unmoved s)) ∧
    (s.awake = true → cause = 0 → Answers .keepCmdFold s (folds 0)) ∧
    (s.awake = true → cause ≠ 0 → Answers .keepCmdFold s (more 0)) ∧
    (s.awake = false → Answers .keepCmdFold s (Unmoved s)) ∧
    (s.on KEEP_CTL_FAULT_IN_EN = true → s.on KEEP_STAT_DRIVING = false → s.on KEEP_STAT_FAULT_IN = false → cause = 0 →
      Answers .faultNLow s (fun u => folds 1 u ∧ u.get KEEP_STAT_FAULT_IN = 1 ∧ posted 0x1307 1 u)) ∧
    (s.on KEEP_CTL_FAULT_IN_EN = false ∨ s.on KEEP_STAT_DRIVING = true ∨ s.on KEEP_STAT_FAULT_IN = true →
      Answers .faultNLow s (Unmoved s)) ∧
    (s.on KEEP_CTL_FAULT_IN_EN = true → s.on KEEP_STAT_DRIVING = false → s.on KEEP_CTL_FAULT_LATCH = true → Answers .faultNHigh s (fun u =>
      u.get KEEP_STAT_FAULT_IN = 0 ∧ u.get KEEP_STAT_CAUSE = cause ∧ Quiet [KEEP_STAT_FAULT_IN] s u)) ∧
    (s.on KEEP_CTL_FAULT_IN_EN = true → s.on KEEP_STAT_DRIVING = false → s.on KEEP_CTL_FAULT_LATCH = false → Answers .faultNHigh s (fun u =>
      u.get KEEP_STAT_FAULT_IN = 0 ∧ u.bit KEEP_STAT_CAUSE 1 = false ∧
      (∀ k : Nat, k < 7 → k ≠ 1 → u.bit KEEP_STAT_CAUSE k = s.bit KEEP_STAT_CAUSE k) ∧
      (cause = 2 → u.get KEEP_STAT_STATE = 3 ∨ u.get KEEP_STAT_STATE = 0) ∧ SameBytes s u)) ∧
    (s.on KEEP_CTL_FAULT_IN_EN = false ∨ s.on KEEP_STAT_DRIVING = true → Answers .faultNHigh s (Unmoved s)) ∧
    (cause = 0 → Answers .pfail s (fun u =>
      u.get KEEP_STAT_CAUSE = 8 ∧ u.get KEEP_STAT_STATE = 1 ∧ 0x100A ∈ u.occ ∧ u.on NVS_STAT_FROZEN = false ∧
      u.get NVS_STAT_FLUSHING = 1 ∧ u.mem = s.mem ∧ u.nvs = s.nvs)) ∧
    Answers .pfailClear s (fun u =>
      u.bit KEEP_STAT_CAUSE 3 = false ∧ (∀ k : Nat, k < 7 → k ≠ 3 → u.bit KEEP_STAT_CAUSE k = s.bit KEEP_STAT_CAUSE k) ∧
      SameBytes s u) ∧
    (let clears := fun (k : Nat) => k = 0 ∨ (k = 1 ∧ s.on KEEP_CTL_FAULT_LATCH = true ∧ s.on KEEP_STAT_FAULT_IN = false) ∨
       (k = 2 ∧ s.on KEEP_STAT_KICKED = true)
     Answers .release s (fun u =>
      (∀ k : Nat, k < 7 → (clears k → u.bit KEEP_STAT_CAUSE k = false) ∧
        (¬ clears k → u.bit KEEP_STAT_CAUSE k = s.bit KEEP_STAT_CAUSE k)) ∧ SameBytes s u)) ∧
    (cause = 1 → (∀ n : FourIx, s.on (SAP_MUTE_TX_MUTE n) = false ∧ (s.port n).txRamp ≠ 0) → Answers .release s (fun u =>
      u.get KEEP_STAT_CAUSE = 0 ∧ u.get KEEP_STAT_STATE = 3 ∧
      (∀ n : FourIx, s.get (SPK_STAT_STATE n) = 6 → s.on (SPK_CFG_EN n) = true → u.get (SPK_STAT_STATE n) = 1) ∧
      (∀ n : FourIx, s.get (HPO_STAT_STATE n) = 6 → u.get (HPO_STAT_STATE n) = 0 ∧
        (u.hpo n).startReq = s.on (HPO_CFG_EN n)))) ∧
    (s.get KEEP_STAT_STATE = 1 → s.spkQuiet = true → s.hpoQuiet = true → s.wdtReset = false → s.rst = none →
      Answers .keepFolded s (fun u =>
      u.get KEEP_STAT_STATE = 2 ∧ (s.executors 0x04 = [] → Quiet (KEEP_STAT_STATE :: (List.range 4).map SPK_STAT_FAULT_CAUSE) s u))) ∧
    (s.get KEEP_STAT_STATE = 1 → s.spkQuiet = true → s.hpoQuiet = true → s.wdtReset = true → s.rst = none → cause ≠ 0 →
      Answers .keepFolded s (fun u => u.get KEEP_STAT_STATE = 2 ∧ u.rst = some (1, 2, true) ∧ u.wdtReset = false)) ∧
    (∀ c : Nat, s.get KEEP_STAT_STATE = 2 → s.rst = some (2, c, false) → Answers .keepFolded s (fun u =>
      u.get KEEP_STAT_STATE = 2 ∧ u.rst = some (2, c, true))) ∧
    (s.rst = none → s.get KEEP_STAT_STATE ≠ 1 ∨ s.spkQuiet = false ∨ s.hpoQuiet = false → Answers .keepFolded s (Unmoved s)) ∧
    (∀ n : FourIx, s.get KEEP_STAT_STATE = 1 → s.spkSwitching n = true → Answers (.keepForced (2 ^ n.val)) s (fun u =>
      u.get (SPK_STAT_STATE n) = 3 ∧ u.get (SPK_STAT_HIZ n) = 1 ∧ (u.spk n).phase = .rest ∧ u.get KEEP_STAT_FORCED = 1 ∧
      u.get KEEP_SUM_FORCED = 1 ∧ u.get KEEP_CNT_FORCED = satNat 16 (s.get KEEP_CNT_FORCED + 1) ∧ posted 0x1306 2 u ∧
      SameBytes s u)) ∧
    (∀ n : FourIx, s.get KEEP_STAT_STATE = 1 → 1 ≤ s.get (HPO_STAT_STATE n) → s.get (HPO_STAT_STATE n) ≤ 3 →
      Answers (.keepForced (2 ^ (4 + n.val))) s (fun u =>
      u.get (HPO_STAT_STATE n) = 6 ∧ u.get KEEP_STAT_FORCED = 1 ∧ u.get KEEP_SUM_FORCED = 1 ∧ posted 0x1306 2 u ∧ SameBytes s u)) ∧
    (∀ m : Nat, s.get KEEP_STAT_STATE ≠ 1 → Answers (.keepForced m) s (Unmoved s))

/-- R522 to R524: the heartbeat and the thermal shutdown. Model choices: log entries 67 and 69. -/
def Obligations.HeartbeatAndThermalShutdown : Prop :=
  ∀ (s : State) (v : Word),
    let posted := fun (code sev : Nat) (u : State) => s.gateOpen code sev = true → code ∈ u.occ
    let lim := max 100 (min 150 (s.get KEEP_CTL_THERM_CLR)) + 64
    (v.toNat % 65536 = 0x5A5A → Answers (.kick v) s (fun u =>
      u.get KEEP_STAT_KICKED = 1 ∧ u.wdtCount = 0 ∧
      u.get KEEP_STAT_WDT_LEFT = (if s.wdtRuns then 10 * max 1 (min 1000 (s.get KEEP_WDT_CFG_PERIOD)) else 0) ∧
      Quiet [KEEP_STAT_KICKED, KEEP_STAT_WDT_LEFT] s u)) ∧
    (v.toNat % 65536 ≠ 0x5A5A → Answers (.kick v) s (fun u =>
      u.get KEEP_CNT_BAD_KICKS = satNat 16 (s.get KEEP_CNT_BAD_KICKS + 1) ∧ u.wdtCount = s.wdtCount ∧
      Quiet [KEEP_CNT_BAD_KICKS] s u)) ∧
    (s.wdtRuns = true → Answers .keepWdt s (fun u =>
      u.get KEEP_STAT_KICKED = 0 ∧ u.get KEEP_CNT_WDT_EXP = satNat 16 (s.get KEEP_CNT_WDT_EXP + 1) ∧ u.wdtCount = 0 ∧
      u.bit KEEP_STAT_CAUSE 2 = true ∧ posted 0x1303 2 u ∧ (s.get KEEP_STAT_CAUSE = 0 → u.get KEEP_STAT_STATE = 1) ∧
      (s.on KEEP_WDT_CFG_ACTION = false → u.rst = none ∧ u.wdtReset = s.wdtReset) ∧
      (s.on KEEP_WDT_CFG_ACTION = true → s.get KEEP_STAT_CAUSE ≠ 0 → s.get KEEP_STAT_STATE = 2 → u.rst = some (1, 2, false)) ∧
      (s.on KEEP_WDT_CFG_ACTION = true → s.get KEEP_STAT_CAUSE = 0 → u.wdtReset = true ∧ u.rst = none) ∧ SameBytes s u)) ∧
    (s.wdtRuns = false → Answers .keepWdt s (Unmoved s)) ∧
    (∀ t : List Nat, (∀ k : FourIx, t.getD k 0 < 256) → 224 ≤ t.getD 0 0 → s.bit KEEP_STAT_CAUSE 4 = false →
      Answers (.stageTempRead t) s (fun u =>
      u.bit KEEP_STAT_CAUSE 4 = true ∧ posted 0x1304 2 u ∧ (s.get KEEP_STAT_CAUSE = 0 → u.get KEEP_STAT_STATE = 1) ∧
      SameBytes s u)) ∧
    (s.bit KEEP_STAT_CAUSE 4 = true → (∀ n : FourIx, s.get (SPK_THERM_STAT_TEMP n) ≤ lim) → Answers .keepThermClr s (fun u =>
      (∀ k : Nat, k < 7 → u.bit KEEP_STAT_CAUSE k = (s.bit KEEP_STAT_CAUSE k && k != 4)) ∧ posted 0x1305 0 u ∧ SameBytes s u)) ∧
    (∀ n : FourIx, s.bit KEEP_STAT_CAUSE 4 = false ∨ lim < s.get (SPK_THERM_STAT_TEMP n) → Answers .keepThermClr s (Unmoved s))

/-! ### The whole machine -/

/-- The queue: a step runs the command at its front on the state with the queue's rest; with an empty queue the block idles. Model
choices: log entry 2. -/
def Obligations.StepRunsCommandInFront : Prop :=
  (∀ (s : State) (c : Instr) (rest : List Instr), s.pending = c :: rest → step s = exec c { s with pending := rest }) ∧
  (∀ s : State, s.pending = [] → step s = .next s)

/-- No command faults or is refused: each one answers a next state in every state. Model choices: log entry 1. -/
def Obligations.EveryCommandAnswersNext : Prop := ∀ (c : Instr) (s : State), ∃ t, exec c s = .next t

/-- Every step leaves the queue's rest as it was, and keeps every memory in canonical form: the device address space, the nonvolatile
store and the flash. -/
def Obligations.StepKeepsMemoriesCanonical : Prop :=
  ∀ s t : State, step s = .next t → t.pending = s.pending.tail ∧ (s.Stored → t.Stored)

/-- The state after reset: the queue is empty, every memory is in canonical form, and the registers hold the reset values of their
tables. Model choices: log entries 4, 5 and 6. -/
def Obligations.ResetStateValues : Prop :=
  let s := State.reset
  s.pending = [] ∧ s.Stored ∧ s.get PWR_STAT_CUR_PL = 3 ∧ s.get PWR_STAT_STATE = 0 ∧ s.get PWR_STAT_VSEL = 3 ∧ s.get FAB_CTL_OVR_LIMIT = 8 ∧
  s.get CUR_CTL_SCRUB_EN = 1 ∧ s.get CUR_BUDGET_CAP = 20 ∧ s.get HKA_SCAN_EN_EN = 0x1FF0 ∧ s.get NVS_STAT_RING_SECTORS = 60 ∧
  s.get NVS_STAT_SPARES_LEFT = 8 ∧ s.get NVS_CTL_MIN_SEV = 1 ∧ s.get KEEP_CTL_THERM_CLR = 140 ∧ s.get KEEP_WDT_CFG_PERIOD = 100 ∧
  s.get MEM_RET_CFG_RET_EN = 0xC0 ∧ s.get TWB_CFG_TIMEOUT = 25 ∧ s.get PWR_MODE_WAKE_PL = 2 ∧ s.get SYS_LOCK_LOCK = 0 ∧
  s.ringIs 0 0 = true ∧ s.ringIs 1 1 = true ∧ s.ringIs 2 2 = true ∧ s.ringIs 63 2 = true ∧ s.ringIs 5 0 = false ∧
  s.get (RING_CFG_BASE 0) = 0x1FC00 ∧ s.get (RING_CFG_BASE 63) = 0x1FE00 ∧
  (∀ t : TileIx, s.get (FAB_TILE_STAT_STATE t) = 0) ∧ (∀ n : FourIx, s.get (SPK_STAT_STATE n) = 0)

/-- R475: a write by another requester cancels a waiting write-back, and the curator never writes over the newer value. -/
def Obligations.NewerWriteCancelsWriteBack : Prop :=
  ∀ (s : State) (a : Nat) (v : Word),
    (mapGet 0 s.wb (a / 8) = 2 →
      (s.memPut a v).get CUR_CNT_WB_CANCEL = satNat 16 (s.get CUR_CNT_WB_CANCEL + 1) ∧ mapGet 0 (s.memPut a v).wb (a / 8) = 0) ∧
    (s.memPut a v).memWord a = v ∧ SameOutside a s (s.memPut a v) ∧ (s.memPut a v).mark a = 0 ∧
    (s.Stored → (s.memPut a v).Stored) ∧
    (mapGet 0 s.wb (a / 8) ≠ 2 → Answers (.curatorWriteBack a) s (Unmoved s)) ∧
    Answers (.curatorWriteBack a) s (fun u => u.mem = s.mem ∧ u.nvs = s.nvs ∧ u.flash = s.flash) ∧
    (0xC00000 ≤ a → a < 0xE00000 → a % 8 = 0 → s.loadCovers ((a - 0xC00000) / 0x800) = false → mapGet 0 s.wb (a / 8) = 2 →
      Answers (.stateRamWrite a v) s (fun u =>
      u.memWord a = v ∧ mapGet 0 u.wb (a / 8) = 0 ∧ u.get CUR_CNT_WB_CANCEL = satNat 16 (s.get CUR_CNT_WB_CANCEL + 1)))

/-- R65, R333, R354: the words that the block itself encodes give back their fields: a microinstruction, a tunnel header and a
completion. -/
def Obligations.EncodedWordsGiveBackTheirFields : Prop :=
  (∀ m : Micro, decodeMicro (encodeMicro m) = m) ∧ (∀ w : Word, encodeMicro (decodeMicro w) = w) ∧
  (∀ unit type seq addr ring word nw status : Nat, unit < 16 → type < 16 → seq < 65536 → addr < 2 ^ 24 → ring < 64 → word < 8 →
    nw < 8 → status < 16 →
    let h := withSeq (tunHdr unit type addr ring word nw status) seq
    tunUnit h = unit ∧ tunType h = type ∧ tunSeq h = seq ∧ tunAddr h = addr ∧ tunRing h = ring ∧ tunWord h = word ∧ tunNw h = nw ∧
    tunStatus h = status ∧ h < 2 ^ 64) ∧
  (∀ (s : State) (r seq opc status result : Nat) (retried : Bool), r < 64 → seq < 65536 → opc < 256 → status < 256 →
    result < 2 ^ 32 → s.frame < 2 ^ 32 →
    let w := cplWords s r seq opc status result retried
    bits w.1 0 16 = seq ∧ bits w.1 16 8 = opc ∧ bits w.1 24 8 = status ∧ bits w.1 32 6 = r ∧ bitOf w.1 42 = retried ∧
    bits w.2 0 32 = s.frame ∧ bits w.2 32 32 = result ∧ w.1 < 2 ^ 64 ∧ w.2 < 2 ^ 64)

/-- R81, R84: a BYPASS section, and the SEC instructions that are illegal. -/
def Obligations.BypassAndIllegalSec : Prop :=
  ∀ (s : State) (t : TileIx),
    let x := s.tile t
    (∀ q : SecRun, x.run = some q → s.tileState t = 2 → q.pos = 0 → q.count = 1 → s.secKind t q.first = 3 →
      s.mark (slotAddr t (5 * q.first)) ≠ 2 → q.nextEnd ≤ x.budget → Answers (.secRunDone t) s (fun u =>
      audioOf (u.tile t).sr = audioOf q.cell ∧ (u.tile t).secS = x.secS)) ∧
    (∀ m : Micro, s.tileState t = 2 → s.fetchMicro t = some m → x.run = none → max x.cyc x.secEnd + 1 ≤ x.budget →
      m.opc.toNat = 0x22 →
      (m.imm.toNat / 64 % 64 = 0 ∨ 51 < m.imm.toNat % 64 + m.imm.toNat / 64 % 64 ∨ m.imm.toNat / 16384 % 4 = 3 ∨
        m.imm.toNat / 8192 % 2 = 1 ∨ 65536 ≤ m.imm.toNat ∨ m.dst.toNat ≠ 0x31 ∨ m.srcb.toNat ≠ 0x31) →
      Answers (.illegalInstruction t) s (fun u =>
      u.tileState t = 3 ∧ u.get (FAB_TILE_STAT_STOP_REASON t) = 2 ∧ u.get (FAB_TILE_STAT_STOP_PC t) = x.pc % 256))

/-- R519: the FOLD command. -/
def Obligations.FoldCommandCompletesFolded : Prop :=
  ∀ (s : State) (r : RingIx) (ws : List Nat),
    let op := ws.headD 0 % 256
    (TakesUp s r ws → op = 0x04 → s.get KEEP_STAT_CAUSE = 0 → Answers (.fold r) s (fun u =>
      Runs s r u ∧ u.get KEEP_STAT_CAUSE = 1 ∧ u.get KEEP_STAT_STATE = 1 ∧ SameBytes s u)) ∧
    (TakesUp s r ws → op = 0x04 → s.get KEEP_STAT_STATE = 1 → Answers (.fold r) s (fun u =>
      Runs s r u ∧ u.bit KEEP_STAT_CAUSE 0 = true ∧ u.get KEEP_STAT_STATE = 1 ∧ SameBytes s u)) ∧
    (TakesUp s r ws → op = 0x04 → s.get KEEP_STAT_STATE = 2 → s.get KEEP_STAT_CAUSE ≠ 0 → Answers (.fold r) s (fun u =>
      Completes s r stOk 0 u ∧ u.bit KEEP_STAT_CAUSE 0 = true)) ∧
    (∀ e : Exec, (s.ring r).exec = some e → s.executors 0x04 = [r.val] → s.get KEEP_STAT_STATE = 1 → s.spkQuiet = true →
      s.hpoQuiet = true → s.wdtReset = false → s.rst = none → Answers .keepFolded s (fun u => Finishes s r e stOk 0 u ∧ u.get KEEP_STAT_STATE = 2)) ∧
    (∀ (e : Exec) (t : RingIx), TakesUp s r ws → op = 0x03 → abortRing ws = t.val → t ≠ r → s.ringIs t 0 = true →
      (s.ring t).exec = some e → e.words.headD 0 % 256 = 0x04 → abortSeq ws = e.seq →
      (s.get (RING_STAT_NEXT_SEQ t) + 65535 - e.seq) % 65536 < 32768 → (s.ring t).waiting = none →
      Answers (.abort r) s (fun u => Completes s r stNotPermitted 0 u ∧ (u.ring t).exec = some e))

/-- R437: a level request during a change waits, the last one alone is kept, and it is judged when the change is done. -/
def Obligations.LevelRequestsWaitForChange : Prop :=
  ∀ (s : State) (t : Nat), s.plTo = some t →
    (∀ v : Word, Answers (.pwrPlWrite v) s (fun u =>
      u.plWait = some (v.toNat % 4) ∧ u.plTo = some t ∧ Quiet [PWR_PL_TARGET] s u)) ∧
    (∀ w : Nat, s.plWait = some w → s.awake = true → t < 4 → t < s.get PWR_STAT_CUR_PL ∨ (s.on PWR_STAT_PG = true ∧ s.plLate = false) →
      (w < s.minPl → Answers .plChange s (fun u =>
        u.get PWR_STAT_CUR_PL = t ∧ u.plTo = none ∧ u.plWait = none ∧ u.get PWR_STAT_PL_ERR = 1 ∧ u.get PWR_SUM_PL_REFUSED = 1 ∧
        0x0102 ∈ u.occ)) ∧
      (s.minPl ≤ w → w = t → Answers .plChange s (fun u =>
        u.get PWR_STAT_CUR_PL = t ∧ u.plTo = none ∧ u.plWait = none ∧ u.get PWR_STAT_PL_ERR = 0)) ∧
      (s.minPl ≤ w → w ≠ t → Answers .plChange s (fun u =>
        u.get PWR_STAT_CUR_PL = t ∧ u.plTo = some w ∧ u.plWait = none ∧ u.get PWR_STAT_PL_BUSY = 1 ∧
        (t < w → w < 4 → u.get PWR_STAT_VSEL = w ∧ u.get PWR_STAT_PG = 0))))

/-- R530: the unassigned pages 0x14 to 0x1FF. -/
def Obligations.UnassignedPagesReadZero : Prop :=
  ∀ (s : State) (a stretch : Nat) (v : Word), 0xE14000 ≤ a → a < 2 ^ 24 →
    let reach := s.busAlive = true ∧ s.awake = true ∧ s.rst = none
    Answers (.registerWrite a v) s (Unmoved s) ∧
    (reach → a % 8 = 0 → Answers (.hostBusWrite a v stretch) s (fun u =>
      SameBytes s u ∧ SameRegs [TWB_STAT_BUSY, TWB_STAT_STRETCH_MAX] s u ∧ u.occ = s.occ ∧ u.evq = s.evq ∧ u.busAddr = (a + 8) % 2 ^ 24)) ∧
    (reach → a % 8 = 0 → Answers (.hostBusRead a stretch) s (fun u =>
      u.busOut = [0, 0, 0, 0, 0, 0, 0, 0] ∧ SameBytes s u ∧ SameRegs [TWB_STAT_BUSY, TWB_STAT_STRETCH_MAX] s u ∧ u.occ = s.occ)) ∧
    (reach → a % 8 ≠ 0 →
      Answers (.hostBusWrite a v stretch) s (fun u => u.get TWB_CNT_NACKS = satNat 16 (s.get TWB_CNT_NACKS + 1) ∧ u.occ = s.occ) ∧
      Answers (.hostBusRead a stretch) s (fun u => u.get TWB_CNT_NACKS = satNat 16 (s.get TWB_CNT_NACKS + 1) ∧ u.busOut = []))
end

