-- ==== Sys2Proof/Laws/Map.lean ====
section
/-! SUPPORT. The laws of sparse maps: a read after a write, and the canonical form that every map operation keeps. -/

namespace Sys2Proof

variable {α : Type}

theorem mapFind_insert (m : SMap α) (k k' : Nat) (v : α) :
    mapFind (mapInsert m k v) k' = if k' = k then some v else mapFind m k' := by
  induction m with
  | nil => rfl
  | cons p m ih =>
    obtain ⟨q, w⟩ := p
    simp only [mapInsert]
    split
    · next h => subst h; simp only [mapFind]; split <;> rfl
    · next h =>
      split
      · simp only [mapFind]
      · simp only [mapFind, ih]
        split
        · next h2 => subst h2; rw [if_neg (fun e => h e.symm)]
        · rfl

theorem mapFind_erase (m : SMap α) (k k' : Nat) :
    mapFind (mapErase m k) k' = if k' = k then none else mapFind m k' := by
  induction m with
  | nil => simp [mapErase, mapFind]
  | cons p m ih =>
    obtain ⟨q, w⟩ := p
    simp only [mapErase]
    split
    · next h =>
      subst h; rw [ih]; simp only [mapFind]
      split
      · rfl
      · rfl
    · next h =>
      simp only [mapFind, ih]
      split
      · next h2 => subst h2; rw [if_neg (fun e => h e.symm)]
      · rfl

theorem mapGet_insert (d : α) (m : SMap α) (k k' : Nat) (v : α) :
    mapGet d (mapInsert m k v) k' = if k' = k then v else mapGet d m k' := by
  unfold mapGet; rw [mapFind_insert]; split <;> rfl

/-- A read after a write. -/
theorem mapGet_set [DecidableEq α] (d : α) (m : SMap α) (k k' : Nat) (v : α) :
    mapGet d (mapSet d m k v) k' = if k' = k then v else mapGet d m k' := by
  unfold mapSet
  split
  · next h => unfold mapGet; rw [mapFind_erase]; split <;> simp [h]
  · exact mapGet_insert d m k k' v

@[simp] theorem mapGet_set_same [DecidableEq α] (d : α) (m : SMap α) (k : Nat) (v : α) :
    mapGet d (mapSet d m k v) k = v := by rw [mapGet_set, if_pos rfl]

theorem mapGet_set_ne [DecidableEq α] {d : α} {m : SMap α} {k k' : Nat} {v : α} (h : k' ≠ k) :
    mapGet d (mapSet d m k v) k' = mapGet d m k' := by rw [mapGet_set, if_neg h]

/-- A write does not touch another key, whatever either reads as when unlisted. -/
theorem mapGet_set_other [DecidableEq α] {d e : α} {m : SMap α} {k k' : Nat} {v : α} (h : k' ≠ k) :
    mapGet e (mapSet d m k v) k' = mapGet e m k' := by
  unfold mapSet
  split
  · unfold mapGet; rw [mapFind_erase, if_neg h]
  · rw [mapGet_insert, if_neg h]

@[simp] theorem mapGet_nil (d : α) (k : Nat) : mapGet d [] k = d := rfl

theorem mapAbove_of_le {a b : Nat} {m : SMap α} (h : a ≤ b) (hm : mapAbove b m = true) : mapAbove a m = true := by
  cases m with
  | nil => rfl
  | cons p m => simp only [mapAbove, decide_eq_true_eq] at *; omega

/-- In a canonical map every key lies above a bound of the first one. -/
theorem mapAbove_mem [DecidableEq α] {d : α} {a : Nat} {m : SMap α} (hm : mapWf d m = true) (h : mapAbove a m = true) :
    ∀ p ∈ m, a < p.1 := by
  induction m generalizing a with
  | nil => simp
  | cons q m ih =>
    intro p hp
    simp only [mapWf, Bool.and_eq_true] at hm
    simp only [mapAbove, decide_eq_true_eq] at h
    rcases List.mem_cons.1 hp with rfl | hp
    · exact h
    · exact Nat.lt_trans h (ih hm.2 hm.1.2 p hp)

theorem mapAbove_of_mem {a : Nat} {m : SMap α} (h : ∀ p ∈ m, a < p.1) : mapAbove a m = true := by
  cases m with
  | nil => rfl
  | cons p m => simpa [mapAbove] using h p (by simp)

theorem mapWf_insert [DecidableEq α] {d : α} {m : SMap α} {k : Nat} {v : α} (hv : v ≠ d) (hm : mapWf d m = true) :
    mapWf d (mapInsert m k v) = true := by
  induction m with
  | nil => simp [mapInsert, mapWf, mapAbove, hv]
  | cons p m ih =>
    obtain ⟨q, w⟩ := p
    simp only [mapWf, Bool.and_eq_true, decide_eq_true_eq] at hm
    simp only [mapInsert]
    split
    · next h => subst h; simp [mapWf, hv, hm.1.2, hm.2]
    · next h =>
      split
      · next h2 =>
        simp only [mapWf, Bool.and_eq_true, decide_eq_true_eq]
        exact ⟨⟨hv, by simpa [mapAbove] using h2⟩, hm⟩
      · next h2 =>
        simp only [mapWf, Bool.and_eq_true, decide_eq_true_eq]
        refine ⟨⟨hm.1.1, ?_⟩, ih hm.2⟩
        cases m with
        | nil => simp only [mapInsert, mapAbove, decide_eq_true_eq]; omega
        | cons r m =>
          have := hm.1.2
          simp only [mapAbove, decide_eq_true_eq] at this
          simp only [mapInsert]
          split
          · simp only [mapAbove, decide_eq_true_eq]; omega
          · split <;> simp only [mapAbove, decide_eq_true_eq] <;> omega

/-- What a filter keeps of a canonical map is canonical. -/
theorem mapWf_filter [DecidableEq α] {d : α} {m : SMap α} (p : Nat × α → Bool) (hm : mapWf d m = true) :
    mapWf d (m.filter p) = true := by
  induction m with
  | nil => rfl
  | cons q m ih =>
    simp only [mapWf, Bool.and_eq_true, decide_eq_true_eq] at hm
    simp only [List.filter_cons]
    split
    · simp only [mapWf, Bool.and_eq_true, decide_eq_true_eq]
      exact ⟨⟨hm.1.1, mapAbove_of_mem (fun x hx => mapAbove_mem hm.2 hm.1.2 x (List.mem_of_mem_filter hx))⟩, ih hm.2⟩
    · exact ih hm.2

theorem mapErase_eq_filter (m : SMap α) (k : Nat) : mapErase m k = m.filter (fun p => decide (p.1 ≠ k)) := by
  induction m with
  | nil => rfl
  | cons p m ih =>
    simp only [mapErase, List.filter_cons, ih]
    by_cases h : k = p.1
    · simp [h]
    · simp [h, Ne.symm h]

theorem mapWf_erase [DecidableEq α] {d : α} {m : SMap α} {k : Nat} (hm : mapWf d m = true) :
    mapWf d (mapErase m k) = true := by
  rw [mapErase_eq_filter]; exact mapWf_filter _ hm

/-- A write keeps the canonical form. -/
theorem mapWf_set [DecidableEq α] {d : α} {m : SMap α} {k : Nat} {v : α} (hm : mapWf d m = true) :
    mapWf d (mapSet d m k v) = true := by
  unfold mapSet
  split
  · exact mapWf_erase hm
  · next h => exact mapWf_insert h hm

theorem mapGet_filter (d : α) (m : SMap α) (p : Nat → Bool) (k : Nat) :
    mapGet d (m.filter (fun c => p c.1)) k = if p k then mapGet d m k else d := by
  induction m with
  | nil => simp [mapGet, mapFind]
  | cons q m ih =>
    obtain ⟨q, w⟩ := q
    unfold mapGet at *
    simp only [List.filter_cons]
    by_cases hk : k = q
    · subst hk
      by_cases hp : p k
      · simp [hp, mapFind]
      · simpa [hp, mapFind] using ih
    · by_cases hp : p q
      · simpa [hp, mapFind, hk] using ih
      · simpa [hp, mapFind, hk] using ih

theorem mapWf_foldl_set {β : Type} [DecidableEq α] {d : α} (l : List β) (k : β → Nat) (v : β → α) {m : SMap α}
    (hm : mapWf d m = true) : mapWf d (l.foldl (fun m x => mapSet d m (k x) (v x)) m) = true := by
  induction l generalizing m with
  | nil => exact hm
  | cons x l ih => exact ih (mapWf_set hm)

end Sys2Proof
end

