-- ==== Sys2Proof/Laws/Keeps.lean ====
section
/-! SUPPORT. What no operation touches and what every operation keeps: the command queue, and the canonical form of the three
memories. The relation, how it passes through conditionals, folds and record updates, and the operations that write a memory. -/

namespace Sys2Proof.Machine

/-- From `s` to `t` the queue is unchanged, and the memories stay in canonical form. -/
def Keeps (s t : State) : Prop := t.pending = s.pending ∧ (s.Stored → t.Stored)

variable {s0 s t : State}

theorem Keeps.refl (s : State) : Keeps s s := ⟨rfl, id⟩

theorem Keeps.trans {u : State} (h : Keeps s t) (k : Keeps t u) : Keeps s u := ⟨k.1.trans h.1, fun w => k.2 (h.2 w)⟩

/-- An update of other fields. -/
theorem Keeps.same (h : Keeps s0 s) (hp : t.pending = s.pending) (hm : t.mem = s.mem) (hn : t.nvs = s.nvs)
    (hf : t.flash = s.flash) : Keeps s0 t := by
  refine ⟨hp.trans h.1, fun w => ?_⟩
  unfold State.Stored
  rw [hm, hn, hf]; exact h.2 w

/-- An update of other fields, whatever the state updated. -/
theorem Keeps.mk {v_regs : SMap Nat} {v_ecc : SMap Nat} {v_wb : SMap Nat} {v_peaks : SMap Nat} {v_fresh : Nat}
   {v_frame : Nat} {v_tickA : Nat} {v_tickB : Nat} {v_tickC : Nat} {v_evq : List Ev} {v_fwdq : List Ev}
   {v_occ : List Nat} {v_tiles : SMap Tile} {v_lanes : SMap Nat} {v_paramq : SMap (List ParamEntry)}
   {v_edgeIn : SMap Word} {v_edgeNew : SMap Word} {v_edgeNext : SMap Word} {v_edgeOut : SMap Word}
   {v_xpre : SMap Word} {v_lowSum : SMap (List Int)} {v_xback : SMap Word} {v_xps : SMap Xp} {v_xpEcc : SMap Nat}
   {v_rings : SMap Ring} {v_annals : Annals} {v_isHead : Bool} {v_testq : List (Nat × Nat)} {v_loadAll : Bool}
   {v_loadShelf : Option Nat} {v_cplOut : List (Nat × Nat × Nat)} {v_groups : List Group} {v_frB : Nat} {v_frC : Nat}
   {v_ports : SMap Port} {v_spd : Spd} {v_brgs : SMap Brg} {v_holdSince : Nat} {v_dombFree : Bool}
   {v_monStop : SMap Nat} {v_monRate : SMap Nat} {v_slewTotal : Nat} {v_slewOffset : Int} {v_heldB : Nat}
   {v_ains : SMap Ain} {v_biasRamp : Nat} {v_biasLeft : SMap Nat} {v_hqOff : Nat} {v_micMute : Nat}
   {v_hqWin : SMap Nat} {v_lpWin : SMap Nat} {v_micAt : Nat} {v_wake : Wake} {v_carrier : Carrier} {v_spks : SMap Spk}
   {v_thermRed : Nat} {v_wakeReq : Option Nat} {v_detBias : Nat} {v_hpos : SMap Hpo} {v_jacks : SMap Jack}
   {v_chain : Chain} {v_busOut : List Nat} {v_busAddr : Nat} {v_busAwake : Bool} {v_busSnap : Option (Nat × Nat)}
   {v_fwdFatal : Bool} {v_auxq : List Nat} {v_sectors : SMap (Nat × Nat × Nat)} {v_sysSeq : Nat} {v_tlog : TimeLog}
   {v_keyUnset : Bool} {v_tests : SMap Test} {v_bankWait : List Nat} {v_repairs : SMap Nat} {v_retired : Nat}
   {v_canary : SMap Nat} {v_loadMute : Bool} {v_foldAt : Nat} {v_thermAt : Nat} {v_wdtCount : Nat} {v_wdtReset : Bool}
   {v_rst : Option (Nat × Nat × Bool)} {v_plTo : Option Nat} {v_plWait : Option Nat} {v_plLate : Bool}
   {v_loadMin : Nat} {v_idleAt : Nat} {v_dormBus : Bool} {v_scrubBank : SMap Nat} {v_hkaScan : List Nat}
   {v_hkaConv : List Nat} {v_hkaQueued : Bool} {v_cals : List CalRun} {v_calTemps : List Nat} {v_curUsed : SMap Nat}
   {v_curHalt : Nat} {v_clips : SMap Nat} {v_telq : List (Nat × Ev)} {v_telRun : Bool} {v_hkaLock : Bool}
   {v_tachLast : Option Nat} {v_tachGood : Option Nat} {v_tachLost : Bool} {v_hkaOut : Nat} {v_load : Option Load}
   {v_lends : SMap Lend} {v_lendOut : Option (Nat × List Nat)} {v_lendIn : List Nat}
   {v_lendRelay : List (Nat × List Nat)} {v_lendEnds : List (Nat × Bool)} {v_lendHeld : List Nat}
   {v_lendMsgs : List LendMsg} {v_bootSlot : Option Nat} {v_bootAt : Nat} {v_portHold : Bool}
   {v_chainSlots : SMap Word} {v_chainRamp : Nat}
    (h : Keeps s0 s) :
    Keeps s0 (State.mk s.pending v_regs s.mem v_ecc v_wb v_peaks v_fresh v_frame v_tickA v_tickB v_tickC v_evq v_fwdq
   v_occ v_tiles v_lanes v_paramq v_edgeIn v_edgeNew v_edgeNext v_edgeOut v_xpre v_lowSum v_xback v_xps v_xpEcc
   v_rings v_annals s.nvs v_isHead v_testq v_loadAll v_loadShelf v_cplOut v_groups v_frB v_frC v_ports v_spd v_brgs
   v_holdSince v_dombFree v_monStop v_monRate v_slewTotal v_slewOffset v_heldB v_ains v_biasRamp v_biasLeft v_hqOff
   v_micMute v_hqWin v_lpWin v_micAt v_wake v_carrier v_spks v_thermRed v_wakeReq v_detBias v_hpos v_jacks v_chain
   v_busOut v_busAddr v_busAwake v_busSnap v_fwdFatal v_auxq v_sectors v_sysSeq v_tlog v_keyUnset v_tests v_bankWait
   v_repairs v_retired v_canary v_loadMute v_foldAt v_thermAt v_wdtCount v_wdtReset v_rst v_plTo v_plWait v_plLate
   v_loadMin v_idleAt v_dormBus v_scrubBank v_hkaScan v_hkaConv v_hkaQueued v_cals v_calTemps v_curUsed v_curHalt
   v_clips v_telq v_telRun v_hkaLock v_tachLast v_tachGood v_tachLost v_hkaOut s.flash v_load v_lends v_lendOut
   v_lendIn v_lendRelay v_lendEnds v_lendHeld v_lendMsgs v_bootSlot v_bootAt v_portHold v_chainSlots v_chainRamp) :=
  h.same rfl rfl rfl rfl

theorem Keeps.mem (h : Keeps s0 s) (hp : t.pending = s.pending) (hm : Memory.wf 0 s.mem → Memory.wf 0 t.mem)
    (hn : t.nvs = s.nvs) (hf : t.flash = s.flash) : Keeps s0 t := by
  refine ⟨hp.trans h.1, fun w => ?_⟩
  have w := h.2 w
  unfold State.Stored at *
  rw [hn, hf]; exact ⟨hm w.1, w.2⟩

theorem Keeps.nvs (h : Keeps s0 s) (hp : t.pending = s.pending) (hm : t.mem = s.mem)
    (hn : Memory.wf 0 s.nvs → Memory.wf 0 t.nvs) (hf : t.flash = s.flash) : Keeps s0 t := by
  refine ⟨hp.trans h.1, fun w => ?_⟩
  have w := h.2 w
  unfold State.Stored at *
  rw [hm, hf]; exact ⟨w.1, hn w.2.1, w.2.2⟩

theorem Keeps.flash (h : Keeps s0 s) (hp : t.pending = s.pending) (hm : t.mem = s.mem) (hn : t.nvs = s.nvs)
    (hf : Memory.wf 0xFF s.flash → Memory.wf 0xFF t.flash) : Keeps s0 t := by
  refine ⟨hp.trans h.1, fun w => ?_⟩
  have w := h.2 w
  unfold State.Stored at *
  rw [hm, hn]; exact ⟨w.1, w.2.1, hf w.2.2⟩

theorem Keeps.ite {c : Prop} [Decidable c] (hs : Keeps s0 s) (ht : Keeps s0 t) : Keeps s0 (if c then s else t) := by
  split <;> assumption

theorem Keeps.ite1 {α : Type} {c : Prop} [Decidable c] {p q : State × α} (hp : Keeps s0 p.1) (hq : Keeps s0 q.1) :
    Keeps s0 (if c then p else q).1 := by split <;> assumption

theorem Keeps.ite2 {α : Type} {c : Prop} [Decidable c] {p q : α × State} (hp : Keeps s0 p.2) (hq : Keeps s0 q.2) :
    Keeps s0 (if c then p else q).2 := by split <;> assumption

theorem Keeps.iteSt {c : Prop} [Decidable c] {p q : LoadAcc} (hp : Keeps s0 p.st) (hq : Keeps s0 q.st) :
    Keeps s0 (if c then p else q).st := by split <;> assumption

theorem Keeps.mk1 {α : Type} {a : α} (h : Keeps s0 s) : Keeps s0 (s, a).1 := h

theorem Keeps.mk2 {α : Type} {a : α} (h : Keeps s0 s) : Keeps s0 (a, s).2 := h

theorem Keeps.foldl {β : Type} {f : State → β → State} {l : List β} (hf : ∀ s x, Keeps s0 s → Keeps s0 (f s x))
    (h : Keeps s0 s) : Keeps s0 (l.foldl f s) := by
  induction l generalizing s with
  | nil => exact h
  | cons x l ih => exact ih (hf s x h)

theorem Keeps.foldl1 {α β : Type} {f : State × α → β → State × α} {l : List β} {p : State × α}
    (hf : ∀ p x, Keeps s0 p.1 → Keeps s0 (f p x).1) (h : Keeps s0 p.1) : Keeps s0 (l.foldl f p).1 := by
  induction l generalizing p with
  | nil => exact h
  | cons x l ih => exact ih (hf p x h)

theorem Keeps.foldl2 {α β : Type} {f : α × State → β → α × State} {l : List β} {p : α × State}
    (hf : ∀ p x, Keeps s0 p.2 → Keeps s0 (f p x).2) (h : Keeps s0 p.2) : Keeps s0 (l.foldl f p).2 := by
  induction l generalizing p with
  | nil => exact h
  | cons x l ih => exact ih (hf p x h)

theorem Keeps.foldlSt {β : Type} {f : LoadAcc → β → LoadAcc} {l : List β} {p : LoadAcc}
    (hf : ∀ p x, Keeps s0 p.st → Keeps s0 (f p x).st) (h : Keeps s0 p.st) : Keeps s0 (l.foldl f p).st := by
  induction l generalizing p with
  | nil => exact h
  | cons x l ih => exact ih (hf p x h)

/-! ### The operations that write a memory -/

theorem cellsWrite_wf {d : Byte} {m : List Host.Cell} {a v n : Nat} (h : Memory.wf d m) :
    Memory.wf d (cellsWrite d m a v n) := by
  induction n generalizing m a v with
  | zero => exact h
  | succ n ih => exact ih (mapWf_set h)

theorem State.put_keeps {f : Fld} {v : Nat} (h : Keeps s0 s) : Keeps s0 (s.put f v) := h.same rfl rfl rfl rfl

theorem State.bumpBy_keeps {f : Fld} {n : Nat} (h : Keeps s0 s) : Keeps s0 (s.bumpBy f n) := State.put_keeps h

theorem State.bump_keeps {f : Fld} (h : Keeps s0 s) : Keeps s0 (s.bump f) := State.put_keeps h

theorem State.memPutByte_keeps {a : Nat} {v : Byte} (h : Keeps s0 s) : Keeps s0 (s.memPutByte a v) :=
  h.mem rfl mapWf_set rfl rfl

theorem State.memPut_keeps {a : Nat} {v : Word} (h : Keeps s0 s) : Keeps s0 (s.memPut a v) := by
  unfold State.memPut
  refine Keeps.mem (s := if mapGet 0 s.wb (a / 8) = 2 then s.bump CUR_CNT_WB_CANCEL else s) ?_ rfl cellsWrite_wf rfl rfl
  exact Keeps.ite (State.bump_keeps h) h

theorem State.nvsPut_keeps {a v : Nat} (h : Keeps s0 s) : Keeps s0 (s.nvsPut a v) := h.nvs rfl rfl cellsWrite_wf rfl

theorem State.bankInit_keeps {b : Nat} (h : Keeps s0 s) : Keeps s0 (s.bankInit b) :=
  h.mem rfl (mapWf_filter _) rfl rfl

theorem State.stateRamClear_keeps (h : Keeps s0 s) : Keeps s0 s.stateRamClear := h.mem rfl (mapWf_filter _) rfl rfl

theorem State.coldClear_keeps (h : Keeps s0 s) : Keeps s0 s.coldClear :=
  ⟨h.1, fun w => ⟨rfl, (h.2 w).2⟩⟩

theorem State.ramZero_keeps {lo n : Nat} (h : Keeps s0 s) : Keeps s0 (s.ramZero lo n) := h.mem rfl (mapWf_filter _) rfl rfl

theorem foldl_foldl_set_wf {d : Byte} (l r : List Nat) (k : Nat → Nat → Nat) (v : Nat → Nat → Byte) (m : List Host.Cell)
    (h : Memory.wf d m) : Memory.wf d (l.foldl (fun m t => r.foldl (fun m i => mapSet d m (k t i) (v t i)) m) m) := by
  induction l generalizing m with
  | nil => exact h
  | cons x l ih => exact ih _ (mapWf_foldl_set r (k x) (v x) h)

theorem State.defaultFrames_keeps {lo n : Nat} (h : Keeps s0 s) : Keeps s0 (s.defaultFrames lo n) :=
  h.mem rfl (fun w => foldl_foldl_set_wf _ _ (fun t i => frameAddr (lo + t) (8 * i + 7)) (fun _ _ => 0x04) _
    (mapWf_filter _ w)) rfl rfl

theorem State.flashProgram_keeps {a v : Nat} (h : Keeps s0 s) : Keeps s0 (s.flashProgram a v) := h.flash rfl rfl rfl mapWf_set

theorem State.flashErase_keeps {a n : Nat} (h : Keeps s0 s) : Keeps s0 (s.flashErase a n) :=
  h.flash rfl rfl rfl (mapWf_filter _)

theorem State.flashStuck_keeps {a v : Nat} (h : Keeps s0 s) : Keeps s0 (s.flashStuck a v) :=
  h.flash rfl rfl rfl mapWf_set

theorem State.flashFree_keeps {f : Byte → Byte → Byte} {a n : Nat} (h : Keeps s0 s) : Keeps s0 (s.flashFree f a n) := by
  induction n generalizing s a with
  | zero => exact h
  | succ n ih => exact ih (h.flash rfl rfl rfl mapWf_set)

end Sys2Proof.Machine
end

