-- ==== Sys2Proof/Laws/KeepsOps.lean ====
section
/-! SUPPORT. What every operation keeps (`Keeps`), one lemma for each: the register and memory operations, the rings' own, and the tiles. -/

namespace Sys2Proof.Machine

theorem State.setBit_keeps {s0 : State} {s : State} {f : Fld} {i : ℕ} (h1 : Keeps s0 s) : Keeps s0 (s.setBit f i) := by
  unfold State.setBit
  exact State.put_keeps h1

theorem State.clrBit_keeps {s0 : State} {s : State} {f : Fld} {i : ℕ} (h1 : Keeps s0 s) : Keeps s0 (s.clrBit f i) := by
  unfold State.clrBit
  exact State.put_keeps h1

theorem State.peak_keeps {s0 : State} {s : State} {f : Fld} {v : ℕ} (h1 : Keeps s0 s) : Keeps s0 (s.peak f v) := by
  unfold State.peak
  extract_lets +onlyGivenNames x1
  clear_value x1
  extract_lets +onlyGivenNames x2
  have k2 : Keeps s0 x2 := State.put_keeps h1
  clear_value x2
  exact Keeps.same k2 rfl rfl rfl rfl

theorem State.free_keeps {s0 : State} {s : State} (h1 : Keeps s0 s) : Keeps s0 s.free.2 := by
  unfold State.free
  refine Keeps.mk2 ?_
  exact Keeps.same h1 rfl rfl rfl rfl

theorem State.queueWb_keeps {s0 : State} {s : State} {a : ℕ} {k : ℕ} (h1 : Keeps s0 s) : Keeps s0 (s.queueWb a k) := by
  unfold State.queueWb
  exact Keeps.same h1 rfl rfl rfl rfl

theorem State.landWb_keeps {s0 : State} {s : State} {a : ℕ} {k : ℕ} (h1 : Keeps s0 s) : Keeps s0 (s.landWb a k) := by
  unfold State.landWb
  refine Keeps.ite ?_ ?_
  · exact Keeps.same h1 rfl rfl rfl rfl
  · exact h1

theorem State.setAnnals_keeps {s0 : State} {s : State} {a : Annals} (h1 : Keeps s0 s) : Keeps s0 (s.setAnnals a) := by
  unfold State.setAnnals
  extract_lets +onlyGivenNames x1
  have k1 : Keeps s0 x1 := State.put_keeps h1
  clear_value x1
  exact Keeps.same k1 rfl rfl rfl rfl

theorem State.triggerFlush_keeps {s0 : State} {s : State} (h1 : Keeps s0 s) : Keeps s0 s.triggerFlush := by
  unfold State.triggerFlush
  refine Keeps.ite ?_ ?_
  · exact Keeps.same h1 rfl rfl rfl rfl
  · exact State.put_keeps h1

theorem State.record_keeps {s0 : State} {s : State} {code : ℕ} {sev : ℕ} {payload : ℕ} (h1 : Keeps s0 s) : Keeps s0
    (s.record code sev payload) := by
  unfold State.record
  extract_lets +onlyGivenNames x1
  clear_value x1
  split
  · refine Keeps.ite ?_ ?_
    · exact State.bump_keeps (State.setAnnals_keeps h1)
    · refine Keeps.ite ?_ ?_
      · exact State.put_keeps (State.bump_keeps (State.setAnnals_keeps h1))
      · extract_lets +onlyGivenNames x2
        have k2 : Keeps s0 x2 := State.setAnnals_keeps h1
        clear_value x2
        refine Keeps.ite ?_ ?_
        · exact State.triggerFlush_keeps k2
        · exact k2
  · refine Keeps.ite ?_ ?_
    · exact State.bump_keeps (State.setAnnals_keeps h1)
    · extract_lets +onlyGivenNames x3
      have k3 : Keeps s0 x3 := State.setAnnals_keeps h1
      clear_value x3
      refine Keeps.ite ?_ ?_
      · exact State.triggerFlush_keeps k3
      · exact k3
  · extract_lets +onlyGivenNames x4
    have k4 : Keeps s0 x4 := State.setAnnals_keeps h1
    clear_value x4
    refine Keeps.ite ?_ ?_
    · exact State.triggerFlush_keeps k4
    · exact k4

theorem State.alert_keeps {s0 : State} {s : State} {src : ℕ} (h1 : Keeps s0 s) : Keeps s0 (s.alert src) := by
  unfold State.alert
  refine Keeps.ite ?_ ?_
  · exact State.clrBit_keeps (State.setBit_keeps h1)
  · exact h1

theorem State.occur_keeps {s0 : State} {s : State} {code : ℕ} {sev : ℕ} {payload : ℕ} (h1 : Keeps s0 s) : Keeps s0
    (s.occur code sev payload) := by
  unfold State.occur
  extract_lets +onlyGivenNames x1
  have k1 : Keeps s0 x1 := by
    unfold x1
    exact Keeps.same h1 rfl rfl rfl rfl
  clear_value x1
  extract_lets +onlyGivenNames x2
  clear_value x2
  extract_lets +onlyGivenNames x3
  have k3 : Keeps s0 x3 := by
    unfold x3
    refine Keeps.ite ?_ ?_
    · exact Keeps.same k1 rfl rfl rfl rfl
    · exact k1
  clear_value x3
  extract_lets +onlyGivenNames x4
  have k4 : Keeps s0 x4 := by
    unfold x4
    refine Keeps.ite ?_ ?_
    · exact State.record_keeps k3
    · exact k3
  clear_value x4
  extract_lets +onlyGivenNames x5
  have k5 : Keeps s0 x5 := by
    unfold x5
    refine Keeps.ite ?_ ?_
    · exact State.alert_keeps k4
    · exact k4
  clear_value x5
  refine Keeps.ite ?_ ?_
  · exact State.alert_keeps k5
  · exact k5

theorem State.post_keeps {s0 : State} {s : State} {code : ℕ} {sev : ℕ} {payload : ℕ} (h1 : Keeps s0 s) : Keeps s0
    (s.post code sev payload) := by
  unfold State.post
  refine Keeps.ite ?_ ?_
  · exact h1
  · extract_lets +onlyGivenNames x1
    have k1 : Keeps s0 x1 := by
      unfold x1
      refine Keeps.ite ?_ ?_
      · exact Keeps.same h1 rfl rfl rfl rfl
      · exact h1
    clear_value x1
    exact State.occur_keeps k1

theorem State.postRec_keeps {s0 : State} {s : State} {code : ℕ} {sev : ℕ} {payload : ℕ} (h1 : Keeps s0 s) : Keeps s0
    (s.postRec code sev payload) := by
  unfold State.postRec
  extract_lets +onlyGivenNames x1
  have k1 : Keeps s0 x1 := State.post_keeps h1
  clear_value x1
  refine Keeps.ite ?_ ?_
  · exact State.record_keeps k1
  · exact k1

theorem State.memUe_keeps {s0 : State} {s : State} {b : ℕ} {w : ℕ} {cls : ℕ} (h1 : Keeps s0 s) : Keeps s0 (s.memUe b w
    cls) := by
  unfold State.memUe
  extract_lets +onlyGivenNames x1
  have k1 : Keeps s0 x1 := State.bump_keeps h1
  clear_value x1
  extract_lets +onlyGivenNames x2
  have k2 : Keeps s0 x2 := State.put_keeps (State.put_keeps (State.put_keeps k1))
  clear_value x2
  extract_lets +onlyGivenNames x3
  have k3 : Keeps s0 x3 := State.post_keeps (State.put_keeps k2)
  clear_value x3
  exact Keeps.same k3 rfl rfl rfl rfl

theorem State.memCorrected_keeps {s0 : State} {s : State} {b : ℕ} {w : ℕ} (h1 : Keeps s0 s) : Keeps s0 (s.memCorrected b
    w) := by
  unfold State.memCorrected
  extract_lets +onlyGivenNames x1
  have k1 : Keeps s0 x1 := State.queueWb_keeps (State.bump_keeps h1)
  clear_value x1
  exact Keeps.same k1 rfl rfl rfl rfl

theorem State.bankWord_keeps {s0 : State} {s : State} {cls : ℕ} {b : ℕ} {w : ℕ} (h1 : Keeps s0 s) : Keeps s0 (s.bankWord
    cls b w).2 := by
  unfold State.bankWord
  refine Keeps.ite2 ?_ ?_
  · exact h1
  · extract_lets +onlyGivenNames x1
    clear_value x1
    refine Keeps.ite2 ?_ ?_
    · refine Keeps.mk2 ?_
      exact State.memUe_keeps h1
    · refine Keeps.ite2 ?_ ?_
      · refine Keeps.mk2 ?_
        exact State.memCorrected_keeps h1
      · exact h1

theorem State.bankTileRead_keeps {s0 : State} {s : State} {b : ℕ} {w : ℕ} (h1 : Keeps s0 s) : Keeps s0 (s.bankTileRead b
    w).2 := by
  unfold State.bankTileRead
  refine Keeps.ite2 ?_ ?_
  · exact h1
  · refine Keeps.ite2 ?_ ?_
    · exact h1
    · extract_lets +onlyGivenNames x1
      have k1 : Keeps s0 x1.2 := State.bankWord_keeps h1
      clear_value x1
      exact k1

theorem State.bankCmdRead_keeps {s0 : State} {s : State} {cls : ℕ} {b : ℕ} {w : ℕ} (h1 : Keeps s0 s) : Keeps s0
    (s.bankCmdRead cls b w).2 := by
  unfold State.bankCmdRead
  refine Keeps.ite2 ?_ ?_
  · exact h1
  · exact State.bankWord_keeps h1

theorem State.bankWrite_keeps {s0 : State} {s : State} {b : ℕ} {w : ℕ} {v : Word} (h1 : Keeps s0 s) : Keeps s0
    (s.bankWrite b w v) := by
  unfold State.bankWrite
  refine Keeps.ite ?_ ?_
  · exact h1
  · refine Keeps.ite ?_ ?_
    · exact h1
    · refine Keeps.ite ?_ ?_
      · refine Keeps.ite ?_ ?_
        · exact h1
        · exact Keeps.same h1 rfl rfl rfl rfl
      · refine Keeps.ite ?_ ?_
        · exact State.put_keeps (State.memPut_keeps h1)
        · exact State.memPut_keeps h1

theorem State.setTile_keeps {s0 : State} {s : State} {t : ℕ} {x : Tile} (h1 : Keeps s0 s) : Keeps s0 (s.setTile t x) := by
  unfold State.setTile
  exact Keeps.same h1 rfl rfl rfl rfl

theorem State.setXp_keeps {s0 : State} {s : State} {x : ℕ} {v : Xp} (h1 : Keeps s0 s) : Keeps s0 (s.setXp x v) := by
  unfold State.setXp
  exact Keeps.same h1 rfl rfl rfl rfl

theorem State.setRing_keeps {s0 : State} {s : State} {r : ℕ} {v : Ring} (h1 : Keeps s0 s) : Keeps s0 (s.setRing r v) := by
  unfold State.setRing
  exact Keeps.same h1 rfl rfl rfl rfl

theorem State.wakeBy_keeps {s0 : State} {s : State} {cause : ℕ} (h1 : Keeps s0 s) : Keeps s0 (s.wakeBy cause) := by
  unfold State.wakeBy
  extract_lets +onlyGivenNames x1
  clear_value x1
  extract_lets +onlyGivenNames x2
  clear_value x2
  refine Keeps.ite ?_ ?_
  · exact Keeps.same h1 rfl rfl rfl rfl
  · exact h1

theorem State.showLevel_keeps {s0 : State} {s : State} {r : ℕ} (h1 : Keeps s0 s) : Keeps s0 (s.showLevel r) := by
  unfold State.showLevel
  exact State.put_keeps h1

theorem State.setHead_keeps {s0 : State} {s : State} {r : ℕ} {v : ℕ} (h1 : Keeps s0 s) : Keeps s0 (s.setHead r v) := by
  unfold State.setHead
  exact State.showLevel_keeps (State.put_keeps h1)

theorem State.setTail_keeps {s0 : State} {s : State} {r : ℕ} {v : ℕ} (h1 : Keeps s0 s) : Keeps s0 (s.setTail r v) := by
  unfold State.setTail
  exact State.showLevel_keeps (State.put_keeps h1)

theorem State.read6_keeps {s0 : State} {s : State} {w : ℕ} (h1 : Keeps s0 s) : Keeps s0 (s.read6 w).2 := by
  unfold State.read6
  exact State.bankCmdRead_keeps h1

theorem State.read6s_keeps {s0 : State} {s : State} {w : ℕ} {a3 : ℕ} (h1 : Keeps s0 s) : Keeps s0 (s.read6s w a3).2 := by
  induction a3 generalizing s w
  · rw [State.read6s]
    exact h1
  · rename_i n ih
    rw [State.read6s]
    refine Keeps.mk2 ?_
    with_reducible apply ih
    exact State.read6_keeps h1

theorem State.write6_keeps {s0 : State} {s : State} {w : ℕ} {a3 : List ℕ} (h1 : Keeps s0 s) : Keeps s0 (s.write6 w a3) := by
  induction a3 generalizing s w
  · rw [State.write6]
    exact h1
  · rename_i hd tl ih
    rw [State.write6]
    with_reducible apply ih
    exact State.bankWrite_keeps h1

theorem State.ringPush_keeps {s0 : State} {s : State} {r : ℕ} {a3 : List ℕ} (h1 : Keeps s0 s) : Keeps s0 (s.ringPush r
    a3) := by
  induction a3 generalizing s r
  · rw [State.ringPush]
    exact h1
  · rename_i hd tl ih
    rw [State.ringPush]
    with_reducible apply ih
    exact State.setTail_keeps (State.bankWrite_keeps h1)

theorem State.makeReady_keeps {s0 : State} {s : State} {r : ℕ} {a3 : ℕ} (h1 : Keeps s0 s) : Keeps s0 (s.makeReady r a3)
    := by
  induction a3 generalizing s r
  · rw [State.makeReady]
    exact h1
  · rename_i n ih
    rw [State.makeReady]
    refine Keeps.ite ?_ ?_
    · exact h1
    · with_reducible apply ih
      exact State.put_keeps (State.setRing_keeps h1)

theorem State.afterCpl_keeps {s0 : State} {s : State} {r : ℕ} {w : ℕ × ℕ} (h1 : Keeps s0 s) : Keeps s0 (s.afterCpl r w)
    := by
  unfold State.afterCpl
  extract_lets +onlyGivenNames x1
  clear_value x1
  extract_lets +onlyGivenNames x2
  clear_value x2
  extract_lets +onlyGivenNames x3
  clear_value x3
  extract_lets +onlyGivenNames x4
  clear_value x4
  extract_lets +onlyGivenNames x5
  clear_value x5
  extract_lets +onlyGivenNames x6
  clear_value x6
  extract_lets +onlyGivenNames x7
  clear_value x7
  extract_lets +onlyGivenNames x8
  have k8 : Keeps s0 x8 := State.setRing_keeps h1
  clear_value x8
  extract_lets +onlyGivenNames x9
  have k9 : Keeps s0 x9 := by
    unfold x9
    refine Keeps.ite ?_ ?_
    · exact k8
    · exact Keeps.same k8 rfl rfl rfl rfl
  clear_value x9
  refine Keeps.ite ?_ ?_
  · exact State.post_keeps (State.put_keeps (State.put_keeps (State.put_keeps k9)))
  · exact State.put_keeps (State.setHead_keeps k9)

theorem State.complete_keeps {s0 : State} {s : State} {r : ℕ} {seq : ℕ} {opc : ℕ} {status : ℕ} {result : ℕ} (h1 : Keeps
    s0 s) : Keeps s0 (s.complete r seq opc status result) := by
  unfold State.complete
  extract_lets +onlyGivenNames x1
  clear_value x1
  extract_lets +onlyGivenNames x2
  clear_value x2
  refine Keeps.ite ?_ ?_
  · exact State.put_keeps (State.setRing_keeps h1)
  · exact State.afterCpl_keeps (State.ringPush_keeps h1)

theorem State.finish_keeps {s0 : State} {s : State} {r : ℕ} {status : ℕ} {result : ℕ} (h1 : Keeps s0 s) : Keeps s0
    (s.finish r status result) := by
  unfold State.finish
  split
  · exact State.complete_keeps h1
  · exact h1

theorem State.flushRun_keeps {s0 : State} {s : State} {r : ℕ} {a3 : ℕ} (h1 : Keeps s0 s) : Keeps s0 (s.flushRun r a3) := by
  induction a3 generalizing s r
  · rw [State.flushRun]
    exact h1
  · rename_i n ih
    rw [State.flushRun]
    refine Keeps.ite ?_ ?_
    · extract_lets +onlyGivenNames x1
      clear_value x1
      exact State.put_keeps (State.setHead_keeps (State.setRing_keeps h1))
    · extract_lets +onlyGivenNames x2
      clear_value x2
      extract_lets +onlyGivenNames x3
      clear_value x3
      refine Keeps.ite ?_ ?_
      · exact State.put_keeps (State.setRing_keeps h1)
      · with_reducible apply ih
        exact State.afterCpl_keeps (State.ringPush_keeps h1)

theorem State.cplRelease_keeps {s0 : State} {s : State} {r : ℕ} (h1 : Keeps s0 s) : Keeps s0 (s.cplRelease r) := by
  unfold State.cplRelease
  split
  · refine Keeps.ite ?_ ?_
    · exact h1
    · extract_lets +onlyGivenNames x1
      clear_value x1
      extract_lets +onlyGivenNames x2
      have k2 : Keeps s0 x2 := State.afterCpl_keeps (State.ringPush_keeps h1)
      clear_value x2
      refine Keeps.ite ?_ ?_
      · exact State.flushRun_keeps k2
      · exact k2
  · exact h1

theorem State.cplReleaseAll_keeps {s0 : State} {s : State} (h1 : Keeps s0 s) : Keeps s0 s.cplReleaseAll := by
  unfold State.cplReleaseAll
  refine Keeps.foldl ?_ ?_
  · intro x1 x2 x3
    exact State.cplRelease_keeps x3
  · exact h1

theorem State.setExec_keeps {s0 : State} {s : State} {r : ℕ} {f : Exec → Exec} (h1 : Keeps s0 s) : Keeps s0 (s.setExec r
    f) := by
  unfold State.setExec
  exact State.setRing_keeps h1

theorem State.command_keeps {s0 : State} {s : State} {r : ℕ} {opc : ℕ} {sel : List ℕ → Bool} {k : ℕ → List ℕ → State →
    State} (h1 : Keeps s0 s) (h5 : ∀ (a : ℕ) (a_1 : List ℕ) (a_2 : State), Keeps s0 a_2 → Keeps s0 (k a a_1 a_2)) :
    Keeps s0 (s.command r opc sel k) := by
  unfold State.command
  refine Keeps.ite ?_ ?_
  · exact h1
  · extract_lets +onlyGivenNames x1
    clear_value x1
    extract_lets +onlyGivenNames x2
    clear_value x2
    extract_lets +onlyGivenNames x3
    clear_value x3
    refine Keeps.ite ?_ ?_
    · exact State.complete_keeps h1
    · refine Keeps.ite ?_ ?_
      · exact State.complete_keeps h1
      · refine Keeps.ite ?_ ?_
        · exact State.complete_keeps h1
        · refine Keeps.ite ?_ ?_
          · exact State.complete_keeps h1
          · refine Keeps.ite ?_ ?_
            · exact h1
            · extract_lets +onlyGivenNames x4
              clear_value x4
              with_reducible apply h5
              exact State.put_keeps (State.setRing_keeps h1)

theorem State.lostMarker_keeps {s0 : State} {s : State} {r : ℕ} (h1 : Keeps s0 s) : Keeps s0 (s.lostMarker r) := by
  unfold State.lostMarker
  extract_lets +onlyGivenNames x1
  clear_value x1
  refine Keeps.ite ?_ ?_
  · extract_lets +onlyGivenNames x2
    clear_value x2
    exact State.occur_keeps (State.setRing_keeps (State.ringPush_keeps h1))
  · exact h1

theorem State.writeEvent_keeps {s0 : State} {s : State} {r : ℕ} {e : Ev} (h1 : Keeps s0 s) : Keeps s0 (s.writeEvent r e)
    := by
  unfold State.writeEvent
  extract_lets +onlyGivenNames x1
  clear_value x1
  refine Keeps.ite ?_ ?_
  · exact State.setBit_keeps (State.setRing_keeps h1)
  · exact State.ringPush_keeps h1

theorem State.writeEvents_keeps {s0 : State} {s : State} {r : ℕ} {l : List Ev} (h1 : Keeps s0 s) : Keeps s0
    (s.writeEvents r l) := by
  unfold State.writeEvents
  refine Keeps.ite ?_ ?_
  · refine Keeps.foldl ?_ ?_
    · intro x1 x2 x3
      exact State.writeEvent_keeps x3
    · exact State.lostMarker_keeps h1
  · exact h1

theorem State.fabCorrected_keeps {s0 : State} {s : State} {a : ℕ} (h1 : Keeps s0 s) : Keeps s0 (s.fabCorrected a) := by
  unfold State.fabCorrected
  exact State.queueWb_keeps (State.bump_keeps h1)

theorem State.noteWord_keeps {s0 : State} {s : State} {a : ℕ} (h1 : Keeps s0 s) : Keeps s0 (s.noteWord a) := by
  unfold State.noteWord
  refine Keeps.ite ?_ ?_
  · exact State.fabCorrected_keeps h1
  · exact h1

theorem State.landLate_keeps {s0 : State} {s : State} {t : ℕ} (h1 : Keeps s0 s) : Keeps s0 (s.landLate t) := by
  unfold State.landLate
  extract_lets +onlyGivenNames x1
  clear_value x1
  refine Keeps.foldl ?_ ?_
  · intro x2 x3 x4
    exact State.memPut_keeps x4
  · exact State.setTile_keeps h1

theorem State.cutTick_keeps {s0 : State} {s : State} {t : ℕ} {endCyc : ℕ} (h1 : Keeps s0 s) : Keeps s0 (s.cutTick t
    endCyc) := by
  unfold State.cutTick
  extract_lets +onlyGivenNames x1
  clear_value x1
  extract_lets +onlyGivenNames x2
  clear_value x2
  exact State.landLate_keeps (State.setTile_keeps h1)

theorem State.stopTile_keeps {s0 : State} {s : State} {t : ℕ} {reason : ℕ} {pc : ℕ} (h1 : Keeps s0 s) : Keeps s0
    (s.stopTile t reason pc) := by
  unfold State.stopTile
  extract_lets +onlyGivenNames x1
  have k1 : Keeps s0 x1 := State.put_keeps (State.put_keeps (State.put_keeps h1))
  clear_value x1
  extract_lets +onlyGivenNames x2
  clear_value x2
  extract_lets +onlyGivenNames x3
  have k3 : Keeps s0 x3 := State.setTile_keeps k1
  clear_value x3
  refine Keeps.ite ?_ ?_
  · exact k3
  · exact State.post_keeps k3

theorem State.readRam_keeps {s0 : State} {s : State} {t : ℕ} {i : ℕ} (h1 : Keeps s0 s) : Keeps s0 (s.readRam t i).2 := by
  unfold State.readRam
  extract_lets +onlyGivenNames x1
  clear_value x1
  split
  · refine Keeps.mk2 ?_
    exact State.post_keeps (State.bump_keeps h1)
  · refine Keeps.mk2 ?_
    exact State.fabCorrected_keeps h1
  · exact h1

theorem State.readParam_keeps {s0 : State} {s : State} {t : ℕ} {p : ℕ} (h1 : Keeps s0 s) : Keeps s0 (s.readParam t p).2
    := by
  unfold State.readParam
  extract_lets +onlyGivenNames x1
  clear_value x1
  extract_lets +onlyGivenNames x2
  clear_value x2
  split
  · refine Keeps.mk2 ?_
    exact State.post_keeps h1
  · refine Keeps.mk2 ?_
    exact State.fabCorrected_keeps h1
  · exact h1

theorem State.noteAreg_keeps {s0 : State} {s : State} {t : ℕ} {n : ℕ} (h1 : Keeps s0 s) : Keeps s0 (s.noteAreg t n) := by
  unfold State.noteAreg
  exact State.noteWord_keeps h1

theorem State.readOperand_keeps {s0 : State} {s : State} {t : ℕ} {c : ℕ} (h1 : Keeps s0 s) : Keeps s0 (s.readOperand t
    c).2 := by
  unfold State.readOperand
  extract_lets +onlyGivenNames x1
  clear_value x1
  refine Keeps.ite2 ?_ ?_
  · exact h1
  · refine Keeps.ite2 ?_ ?_
    · exact h1
    · refine Keeps.ite2 ?_ ?_
      · exact h1
      · refine Keeps.ite2 ?_ ?_
        · exact State.readParam_keeps h1
        · refine Keeps.ite2 ?_ ?_
          · exact h1
          · exact h1

theorem State.fetchInput_keeps {s0 : State} {s : State} {t : ℕ} {k : ℕ} {n : ℕ} (h1 : Keeps s0 s) : Keeps s0
    (s.fetchInput t k n).2 := by
  unfold State.fetchInput
  extract_lets +onlyGivenNames x1
  clear_value x1
  extract_lets +onlyGivenNames x2
  have k2 : Keeps s0 x2 := State.noteWord_keeps h1
  clear_value x2
  split
  · extract_lets +onlyGivenNames x3
    clear_value x3
    extract_lets +onlyGivenNames x4
    clear_value x4
    refine Keeps.ite2 ?_ ?_
    · exact k2
    · refine Keeps.ite2 ?_ ?_
      · exact k2
      · exact k2
  · extract_lets +onlyGivenNames x5
    clear_value x5
    refine Keeps.ite2 ?_ ?_
    · exact k2
    · exact k2
  · extract_lets +onlyGivenNames x6
    clear_value x6
    extract_lets +onlyGivenNames x7
    clear_value x7
    extract_lets +onlyGivenNames x8
    have k8 : Keeps s0 x8 := State.setTile_keeps k2
    clear_value x8
    extract_lets +onlyGivenNames x9
    have k9 : Keeps s0 x9.2 := State.bankTileRead_keeps k8
    clear_value x9
    exact k9
  · exact k2

theorem State.fetchInputs_keeps {s0 : State} {s : State} {t : ℕ} {k : ℕ} {a4 : List ℕ} (h1 : Keeps s0 s) : Keeps s0
    (s.fetchInputs t k a4) := by
  induction a4 generalizing s t k
  · rw [State.fetchInputs]
    exact h1
  · rename_i hd tl ih
    rw [State.fetchInputs]
    with_reducible apply ih
    exact State.setTile_keeps (State.fetchInput_keeps h1)

theorem State.latchCurr_keeps {s0 : State} {s : State} {t : ℕ} {n : ℕ} {cell : Word} {c : ℕ} (h1 : Keeps s0 s) : Keeps
    s0 (s.latchCurr t n cell c) := by
  unfold State.latchCurr
  extract_lets +onlyGivenNames x1
  clear_value x1
  exact State.setTile_keeps h1

theorem State.setSec_keeps {s0 : State} {s : State} {t : ℕ} {sec : ℕ} {v : ℤ × ℤ} (h1 : Keeps s0 s) : Keeps s0 (s.setSec
    t sec v) := by
  unfold State.setSec
  extract_lets +onlyGivenNames x1
  clear_value x1
  exact State.setTile_keeps h1

theorem State.initSec_keeps {s0 : State} {s : State} {t : ℕ} {sec : ℕ} (h1 : Keeps s0 s) : Keeps s0 (s.initSec t sec) := by
  unfold State.initSec
  exact State.setSec_keeps h1

theorem State.noteSlots_keeps {s0 : State} {s : State} {t : ℕ} {sec : ℕ} (h1 : Keeps s0 s) : Keeps s0 (s.noteSlots t
    sec) := by
  unfold State.noteSlots
  refine Keeps.foldl ?_ ?_
  · intro x1 x2 x3
    refine Keeps.ite ?_ ?_
    · exact State.fabCorrected_keeps x3
    · exact x3
  · exact h1

theorem State.runSection_keeps {s0 : State} {s : State} {t : ℕ} {sec : ℕ} {cell : Word} (h1 : Keeps s0 s) : Keeps s0
    (s.runSection t sec cell).2 := by
  unfold State.runSection
  extract_lets +onlyGivenNames x1
  clear_value x1
  extract_lets +onlyGivenNames x2
  have k2 : Keeps s0 x2 := State.noteSlots_keeps h1
  clear_value x2
  split
  · refine Keeps.mk2 ?_
    refine Keeps.foldl ?_ ?_
    · intro x3 x4 x5
      exact State.post_keeps x5
    · exact k2
  · extract_lets +onlyGivenNames x6
    clear_value x6
    extract_lets +onlyGivenNames x7
    clear_value x7
    extract_lets +onlyGivenNames x8
    have k8 : Keeps s0 x8 := by
      unfold x8
      refine Keeps.ite ?_ ?_
      · exact State.post_keeps (State.setTile_keeps k2)
      · exact k2
    clear_value x8
    extract_lets +onlyGivenNames x9
    clear_value x9
    extract_lets +onlyGivenNames x10
    clear_value x10
    extract_lets +onlyGivenNames x11
    clear_value x11
    refine Keeps.mk2 ?_
    refine Keeps.ite ?_ ?_
    · exact State.setSec_keeps k8
    · exact k8

theorem State.runSections_keeps {s0 : State} {s : State} {t : ℕ} {a3 : ℕ} (h1 : Keeps s0 s) : Keeps s0 (s.runSections t
    a3) := by
  induction a3 generalizing s t
  · rw [State.runSections]
    exact h1
  · rename_i n ih
    rw [State.runSections]
    split
    · exact h1
    · extract_lets +onlyGivenNames x1
      have k1 : Keeps s0 x1.2 := State.runSection_keeps h1
      clear_value x1
      extract_lets +onlyGivenNames x2
      clear_value x2
      extract_lets +onlyGivenNames x3
      clear_value x3
      extract_lets +onlyGivenNames x4
      clear_value x4
      with_reducible apply ih
      exact State.setTile_keeps k1

theorem State.startRun_keeps {s0 : State} {s : State} {t : ℕ} {c : ℕ} {imm : ℕ} {cell : Word} (h1 : Keeps s0 s) : Keeps
    s0 (s.startRun t c imm cell) := by
  unfold State.startRun
  extract_lets +onlyGivenNames x1
  clear_value x1
  extract_lets +onlyGivenNames x2
  clear_value x2
  extract_lets +onlyGivenNames x3
  have k3 : Keeps s0 x3 := by
    unfold x3
    refine Keeps.ite ?_ ?_
    · refine Keeps.foldl ?_ ?_
      · intro x4 x5 x6
        exact State.initSec_keeps x6
      · exact h1
    · exact h1
  clear_value x3
  extract_lets +onlyGivenNames x7
  clear_value x7
  extract_lets +onlyGivenNames x8
  clear_value x8
  exact State.setTile_keeps k3

theorem secRunDone_keeps {s0 : State} {t : ℕ} {s : State} (h2 : Keeps s0 s) : Keeps s0 (secRunDone t s) := by
  unfold secRunDone
  split
  · exact h2
  · extract_lets +onlyGivenNames x1
    clear_value x1
    refine Keeps.ite ?_ ?_
    · extract_lets +onlyGivenNames x2
      have k2 : Keeps s0 x2 := State.runSections_keeps h2
      clear_value x2
      exact State.setTile_keeps k2
    · exact h2

theorem State.cutRun_keeps {s0 : State} {s : State} {t : ℕ} {limit : ℕ} (h1 : Keeps s0 s) : Keeps s0 (s.cutRun t limit)
    := by
  unfold State.cutRun
  split
  · exact h1
  · extract_lets +onlyGivenNames x1
    have k1 : Keeps s0 x1 := State.runSections_keeps h1
    clear_value x1
    exact State.setTile_keeps k1

theorem State.errorStop_keeps {s0 : State} {s : State} {t : ℕ} {reason : ℕ} (h1 : Keeps s0 s) : Keeps s0 (s.errorStop t
    reason) := by
  unfold State.errorStop
  extract_lets +onlyGivenNames x1
  clear_value x1
  exact State.stopTile_keeps (State.cutTick_keeps (State.cutRun_keeps h1))

theorem State.commitTile_keeps {s0 : State} {s : State} {t : ℕ} {c : ℕ} {stop : Option ℕ} (h1 : Keeps s0 s) : Keeps s0
    (s.commitTile t c stop) := by
  unfold State.commitTile
  extract_lets +onlyGivenNames x1
  clear_value x1
  extract_lets +onlyGivenNames x2
  clear_value x2
  extract_lets +onlyGivenNames x3
  have k3 : Keeps s0 x3 := State.setTile_keeps h1
  clear_value x3
  extract_lets +onlyGivenNames x4
  have k4 : Keeps s0 x4 := State.peak_keeps (State.put_keeps k3)
  clear_value x4
  extract_lets +onlyGivenNames x5
  have k5 : Keeps s0 x5 := State.put_keeps k4
  clear_value x5
  extract_lets +onlyGivenNames x6
  have k6 : Keeps s0 x6 := State.landLate_keeps k5
  clear_value x6
  split
  · exact State.stopTile_keeps k6
  · refine Keeps.ite ?_ ?_
    · exact State.stopTile_keeps k6
    · exact State.put_keeps k6

theorem State.endTick_keeps {s0 : State} {s : State} {t : ℕ} {c : ℕ} (h1 : Keeps s0 s) : Keeps s0 (s.endTick t c) := by
  unfold State.endTick
  exact State.commitTile_keeps h1

theorem State.nextInstr_keeps {s0 : State} {s : State} {t : ℕ} {c : ℕ} {npc : ℕ} {jumped : Bool} (h1 : Keeps s0 s) :
    Keeps s0 (s.nextInstr t c npc jumped) := by
  unfold State.nextInstr
  extract_lets +onlyGivenNames x1
  clear_value x1
  refine Keeps.ite ?_ ?_
  · split
    · exact State.endTick_keeps (State.setTile_keeps h1)
    · extract_lets +onlyGivenNames x2
      clear_value x2
      refine Keeps.ite ?_ ?_
      · extract_lets +onlyGivenNames x3
        have k3 : Keeps s0 x3 := State.runSections_keeps h1
        clear_value x3
        extract_lets +onlyGivenNames x4
        clear_value x4
        exact State.endTick_keeps (State.setTile_keeps k3)
      · exact State.setTile_keeps h1
  · exact State.setTile_keeps h1

theorem State.noteFetch_keeps {s0 : State} {s : State} {t : ℕ} (h1 : Keeps s0 s) : Keeps s0 (s.noteFetch t) := by
  unfold State.noteFetch
  exact State.noteWord_keeps h1

theorem State.readyCurrs_keeps {s0 : State} {s : State} {t : ℕ} {m : Micro} (h1 : Keeps s0 s) : Keeps s0 (s.readyCurrs t
    m) := by
  unfold State.readyCurrs
  refine Keeps.foldl ?_ ?_
  · intro x1 x2 x3
    extract_lets +onlyGivenNames x4
    clear_value x4
    split
    · exact x3
    · split
      · exact x3
      · exact State.latchCurr_keeps x3
  · exact h1

theorem State.advance_keeps {s0 : State} {s : State} {t : ℕ} {c : ℕ} (h1 : Keeps s0 s) : Keeps s0 (s.advance t c) := by
  unfold State.advance
  exact State.nextInstr_keeps h1

theorem State.runMicro_keeps {s0 : State} {s : State} {t : ℕ} {opc : ℕ} {stalls : ℕ} {eff : Effect} (h1 : Keeps s0 s)
    (h5 : ∀ (a : ℕ) (a_1 : Micro) (a_2 : ℕ) (a_3 : State), Keeps s0 a_3 → Keeps s0 (eff a a_1 a_2 a_3)) : Keeps s0
    (s.runMicro t opc stalls eff) := by
  unfold State.runMicro
  refine Keeps.ite ?_ ?_
  · exact h1
  · split
    · exact State.errorStop_keeps (State.bump_keeps h1)
    · extract_lets +onlyGivenNames x1
      clear_value x1
      refine Keeps.ite ?_ ?_
      · exact h1
      · refine Keeps.ite ?_ ?_
        · refine Keeps.ite ?_ ?_
          · exact h1
          · exact State.advance_keeps (State.noteFetch_keeps h1)
        · extract_lets +onlyGivenNames x2
          have k2 : Keeps s0 x2 := State.readyCurrs_keeps h1
          clear_value x2
          extract_lets +onlyGivenNames x3
          clear_value x3
          split
          · exact State.setTile_keeps k2
          · refine Keeps.ite ?_ ?_
            · exact h1
            · extract_lets +onlyGivenNames x4
              clear_value x4
              refine Keeps.ite ?_ ?_
              · exact h1
              · with_reducible apply h5
                exact State.noteFetch_keeps k2

theorem State.writeResult_keeps {s0 : State} {s : State} {t : ℕ} {dst : ℕ} {v : Word} (h1 : Keeps s0 s) : Keeps s0
    (s.writeResult t dst v) := by
  unfold State.writeResult
  extract_lets +onlyGivenNames x1
  clear_value x1
  exact State.setTile_keeps h1

theorem opNop_keeps {s0 : State} {a1 : ℕ} {a2 : Micro} {a3 : ℕ} {a4 : State} (h4 : Keeps s0 a4) : Keeps s0 (opNop a1 a2
    a3 a4) := by
  unfold opNop
  exact State.advance_keeps h4

theorem opEnd_keeps {s0 : State} {a1 : ℕ} {a2 : Micro} {a3 : ℕ} {a4 : State} (h4 : Keeps s0 a4) : Keeps s0 (opEnd a1 a2
    a3 a4) := by
  unfold opEnd
  exact State.endTick_keeps h4

theorem opMov_keeps {s0 : State} {a1 : ℕ} {a2 : Micro} {a3 : ℕ} {a4 : State} (h4 : Keeps s0 a4) : Keeps s0 (opMov a1 a2
    a3 a4) := by
  unfold opMov
  extract_lets +onlyGivenNames x1
  have k1 : Keeps s0 x1.2 := State.readOperand_keeps h4
  clear_value x1
  exact State.advance_keeps (State.writeResult_keeps k1)

theorem opMovf_keeps {s0 : State} {a1 : ℕ} {a2 : Micro} {a3 : ℕ} {a4 : State} (h4 : Keeps s0 a4) : Keeps s0 (opMovf a1
    a2 a3 a4) := by
  unfold opMovf
  extract_lets +onlyGivenNames x1
  have k1 : Keeps s0 x1.2 := State.readOperand_keeps h4
  clear_value x1
  extract_lets +onlyGivenNames x2
  clear_value x2
  extract_lets +onlyGivenNames x3
  clear_value x3
  exact State.advance_keeps (State.writeResult_keeps k1)

theorem opLdi_keeps {s0 : State} {a1 : ℕ} {a2 : Micro} {a3 : ℕ} {a4 : State} (h4 : Keeps s0 a4) : Keeps s0 (opLdi a1 a2
    a3 a4) := by
  unfold opLdi
  exact State.advance_keeps (State.writeResult_keeps h4)

theorem alu2_keeps {s0 : State} {f : ℤ → ℤ → ℤ} {a2 : ℕ} {a3 : Micro} {a4 : ℕ} {a5 : State} (h5 : Keeps s0 a5) : Keeps
    s0 (alu2 f a2 a3 a4 a5) := by
  unfold alu2
  extract_lets +onlyGivenNames x1
  have k1 : Keeps s0 x1.2 := State.readOperand_keeps h5
  clear_value x1
  extract_lets +onlyGivenNames x2
  have k2 : Keeps s0 x2.2 := State.readOperand_keeps k1
  clear_value x2
  extract_lets +onlyGivenNames x3
  clear_value x3
  exact State.advance_keeps (State.writeResult_keeps k2)

theorem alu1_keeps {s0 : State} {f : Micro → ℤ → ℤ} {a2 : ℕ} {a3 : Micro} {a4 : ℕ} {a5 : State} (h5 : Keeps s0 a5) :
    Keeps s0 (alu1 f a2 a3 a4 a5) := by
  unfold alu1
  extract_lets +onlyGivenNames x1
  have k1 : Keeps s0 x1.2 := State.readOperand_keeps h5
  clear_value x1
  exact State.advance_keeps (State.writeResult_keeps k1)

theorem opAdd_keeps {s0 : State} {a1 : ℕ} {a2 : Micro} {a3 : ℕ} {a4 : State} (h4 : Keeps s0 a4) : Keeps s0 (opAdd a1 a2
    a3 a4) := by
  unfold opAdd
  exact alu2_keeps h4

theorem opSub_keeps {s0 : State} {a1 : ℕ} {a2 : Micro} {a3 : ℕ} {a4 : State} (h4 : Keeps s0 a4) : Keeps s0 (opSub a1 a2
    a3 a4) := by
  unfold opSub
  exact alu2_keeps h4

theorem opAbs_keeps {s0 : State} {a1 : ℕ} {a2 : Micro} {a3 : ℕ} {a4 : State} (h4 : Keeps s0 a4) : Keeps s0 (opAbs a1 a2
    a3 a4) := by
  unfold opAbs
  exact alu1_keeps h4

theorem opMax_keeps {s0 : State} {a1 : ℕ} {a2 : Micro} {a3 : ℕ} {a4 : State} (h4 : Keeps s0 a4) : Keeps s0 (opMax a1 a2
    a3 a4) := by
  unfold opMax
  exact alu2_keeps h4

theorem opMin_keeps {s0 : State} {a1 : ℕ} {a2 : Micro} {a3 : ℕ} {a4 : State} (h4 : Keeps s0 a4) : Keeps s0 (opMin a1 a2
    a3 a4) := by
  unfold opMin
  exact alu2_keeps h4

theorem opMuli_keeps {s0 : State} {a1 : ℕ} {a2 : Micro} {a3 : ℕ} {a4 : State} (h4 : Keeps s0 a4) : Keeps s0 (opMuli a1
    a2 a3 a4) := by
  unfold opMuli
  exact alu1_keeps h4

theorem opShl_keeps {s0 : State} {a1 : ℕ} {a2 : Micro} {a3 : ℕ} {a4 : State} (h4 : Keeps s0 a4) : Keeps s0 (opShl a1 a2
    a3 a4) := by
  unfold opShl
  exact alu1_keeps h4

theorem opRecip_keeps {s0 : State} {a1 : ℕ} {a2 : Micro} {a3 : ℕ} {a4 : State} (h4 : Keeps s0 a4) : Keeps s0 (opRecip a1
    a2 a3 a4) := by
  unfold opRecip
  exact alu1_keeps h4

theorem opTstf_keeps {s0 : State} {a1 : ℕ} {a2 : Micro} {a3 : ℕ} {a4 : State} (h4 : Keeps s0 a4) : Keeps s0 (opTstf a1
    a2 a3 a4) := by
  unfold opTstf
  extract_lets +onlyGivenNames x1
  have k1 : Keeps s0 x1.2 := State.readOperand_keeps h4
  clear_value x1
  exact State.advance_keeps (State.setTile_keeps k1)

theorem opCmp_keeps {s0 : State} {a1 : ℕ} {a2 : Micro} {a3 : ℕ} {a4 : State} (h4 : Keeps s0 a4) : Keeps s0 (opCmp a1 a2
    a3 a4) := by
  unfold opCmp
  extract_lets +onlyGivenNames x1
  have k1 : Keeps s0 x1.2 := State.readOperand_keeps h4
  clear_value x1
  extract_lets +onlyGivenNames x2
  have k2 : Keeps s0 x2.2 := State.readOperand_keeps k1
  clear_value x2
  exact State.advance_keeps (State.setTile_keeps k2)

theorem macOp_keeps {s0 : State} {keep : Bool} {f : ℤ → ℤ → ℤ} {a3 : ℕ} {a4 : Micro} {a5 : ℕ} {a6 : State} (h6 : Keeps
    s0 a6) : Keeps s0 (macOp keep f a3 a4 a5 a6) := by
  unfold macOp
  extract_lets +onlyGivenNames x1
  have k1 : Keeps s0 x1.2 := State.readOperand_keeps h6
  clear_value x1
  extract_lets +onlyGivenNames x2
  have k2 : Keeps s0 x2.2 := State.readOperand_keeps k1
  clear_value x2
  extract_lets +onlyGivenNames x3
  clear_value x3
  extract_lets +onlyGivenNames x4
  clear_value x4
  extract_lets +onlyGivenNames x5
  clear_value x5
  extract_lets +onlyGivenNames x6
  clear_value x6
  exact State.advance_keeps (State.setTile_keeps k2)

theorem opMul_keeps {s0 : State} {a1 : ℕ} {a2 : Micro} {a3 : ℕ} {a4 : State} (h4 : Keeps s0 a4) : Keeps s0 (opMul a1 a2
    a3 a4) := by
  unfold opMul
  exact macOp_keeps h4

theorem opMac_keeps {s0 : State} {a1 : ℕ} {a2 : Micro} {a3 : ℕ} {a4 : State} (h4 : Keeps s0 a4) : Keeps s0 (opMac a1 a2
    a3 a4) := by
  unfold opMac
  exact macOp_keeps h4

theorem opMsu_keeps {s0 : State} {a1 : ℕ} {a2 : Micro} {a3 : ℕ} {a4 : State} (h4 : Keeps s0 a4) : Keeps s0 (opMsu a1 a2
    a3 a4) := by
  unfold opMsu
  exact macOp_keeps h4

theorem opMaci_keeps {s0 : State} {a1 : ℕ} {a2 : Micro} {a3 : ℕ} {a4 : State} (h4 : Keeps s0 a4) : Keeps s0 (opMaci a1
    a2 a3 a4) := by
  unfold opMaci
  extract_lets +onlyGivenNames x1
  have k1 : Keeps s0 x1.2 := State.readOperand_keeps h4
  clear_value x1
  extract_lets +onlyGivenNames x2
  clear_value x2
  extract_lets +onlyGivenNames x3
  clear_value x3
  extract_lets +onlyGivenNames x4
  clear_value x4
  exact State.advance_keeps (State.setTile_keeps k1)

theorem opAclr_keeps {s0 : State} {a1 : ℕ} {a2 : Micro} {a3 : ℕ} {a4 : State} (h4 : Keeps s0 a4) : Keeps s0 (opAclr a1
    a2 a3 a4) := by
  unfold opAclr
  exact State.advance_keeps (State.setTile_keeps h4)

theorem opAcrd_keeps {s0 : State} {a1 : ℕ} {a2 : Micro} {a3 : ℕ} {a4 : State} (h4 : Keeps s0 a4) : Keeps s0 (opAcrd a1
    a2 a3 a4) := by
  unfold opAcrd
  extract_lets +onlyGivenNames x1
  clear_value x1
  extract_lets +onlyGivenNames x2
  clear_value x2
  exact State.advance_keeps (State.writeResult_keeps h4)

theorem opAcwr_keeps {s0 : State} {a1 : ℕ} {a2 : Micro} {a3 : ℕ} {a4 : State} (h4 : Keeps s0 a4) : Keeps s0 (opAcwr a1
    a2 a3 a4) := by
  unfold opAcwr
  extract_lets +onlyGivenNames x1
  have k1 : Keeps s0 x1.2 := State.readOperand_keeps h4
  clear_value x1
  exact State.advance_keeps (State.setTile_keeps k1)

theorem opLds_keeps {s0 : State} {a1 : ℕ} {a2 : Micro} {a3 : ℕ} {a4 : State} (h4 : Keeps s0 a4) : Keeps s0 (opLds a1 a2
    a3 a4) := by
  unfold opLds
  extract_lets +onlyGivenNames x1
  have k1 : Keeps s0 x1 := State.noteAreg_keeps h4
  clear_value x1
  extract_lets +onlyGivenNames x2
  have k2 : Keeps s0 x2.2 := State.readRam_keeps k1
  clear_value x2
  refine Keeps.ite ?_ ?_
  · exact State.errorStop_keeps k2
  · exact State.advance_keeps (State.writeResult_keeps k2)

theorem opSts_keeps {s0 : State} {a1 : ℕ} {a2 : Micro} {a3 : ℕ} {a4 : State} (h4 : Keeps s0 a4) : Keeps s0 (opSts a1 a2
    a3 a4) := by
  unfold opSts
  extract_lets +onlyGivenNames x1
  have k1 : Keeps s0 x1 := State.noteAreg_keeps h4
  clear_value x1
  extract_lets +onlyGivenNames x2
  have k2 : Keeps s0 x2.2 := State.readOperand_keeps k1
  clear_value x2
  exact State.advance_keeps (State.memPut_keeps k2)

theorem opAdda_keeps {s0 : State} {a1 : ℕ} {a2 : Micro} {a3 : ℕ} {a4 : State} (h4 : Keeps s0 a4) : Keeps s0 (opAdda a1
    a2 a3 a4) := by
  unfold opAdda
  extract_lets +onlyGivenNames x1
  clear_value x1
  extract_lets +onlyGivenNames x2
  have k2 : Keeps s0 x2 := State.noteAreg_keeps h4
  clear_value x2
  extract_lets +onlyGivenNames x3
  clear_value x3
  exact State.advance_keeps (State.setTile_keeps k2)

theorem State.gatewayStall_keeps {s0 : State} {s : State} {t : ℕ} {stalls : ℕ} (h1 : Keeps s0 s) : Keeps s0
    (s.gatewayStall t stalls) := by
  unfold State.gatewayStall
  exact State.bumpBy_keeps h1

theorem opLdb_keeps {s0 : State} {stalls : ℕ} {a2 : ℕ} {a3 : Micro} {a4 : ℕ} {a5 : State} (h5 : Keeps s0 a5) : Keeps s0
    (opLdb stalls a2 a3 a4 a5) := by
  unfold opLdb
  extract_lets +onlyGivenNames x1
  have k1 : Keeps s0 x1 := State.gatewayStall_keeps h5
  clear_value x1
  extract_lets +onlyGivenNames x2
  clear_value x2
  extract_lets +onlyGivenNames x3
  have k3 : Keeps s0 x3.2 := State.bankTileRead_keeps k1
  clear_value x3
  exact State.advance_keeps (State.writeResult_keeps k3)

theorem opStb_keeps {s0 : State} {stalls : ℕ} {a2 : ℕ} {a3 : Micro} {a4 : ℕ} {a5 : State} (h5 : Keeps s0 a5) : Keeps s0
    (opStb stalls a2 a3 a4 a5) := by
  unfold opStb
  extract_lets +onlyGivenNames x1
  have k1 : Keeps s0 x1 := State.gatewayStall_keeps h5
  clear_value x1
  extract_lets +onlyGivenNames x2
  clear_value x2
  extract_lets +onlyGivenNames x3
  have k3 : Keeps s0 x3.2 := State.readOperand_keeps k1
  clear_value x3
  exact State.advance_keeps (State.bankWrite_keeps k3)

theorem State.vfirLoop_keeps {s0 : State} {s : State} {t : ℕ} {a : ℕ} {b : ℕ} {acc : ℤ} {fl : ℕ} {i : ℕ} {a8 : ℕ} (h1 :
    Keeps s0 s) : Keeps s0 (s.vfirLoop t a b acc fl i a8).2 := by
  induction a8 generalizing s t a b acc fl i
  · rw [State.vfirLoop]
    exact h1
  · rename_i n ih
    rw [State.vfirLoop]
    refine Keeps.ite2 ?_ ?_
    · refine Keeps.mk2 ?_
      exact State.readRam_keeps (State.readRam_keeps h1)
    · with_reducible apply ih
      exact State.readRam_keeps (State.readRam_keeps h1)

theorem opVfir_keeps {s0 : State} {a1 : ℕ} {a2 : Micro} {a3 : ℕ} {a4 : State} (h4 : Keeps s0 a4) : Keeps s0 (opVfir a1
    a2 a3 a4) := by
  unfold opVfir
  extract_lets +onlyGivenNames x1
  have k1 : Keeps s0 x1 := State.noteAreg_keeps (State.noteAreg_keeps h4)
  clear_value x1
  extract_lets +onlyGivenNames x2
  clear_value x2
  extract_lets +onlyGivenNames x3
  clear_value x3
  extract_lets +onlyGivenNames x4
  have k4 : Keeps s0 x4.2 := State.vfirLoop_keeps k1
  clear_value x4
  refine Keeps.ite ?_ ?_
  · exact State.errorStop_keeps k4
  · exact State.advance_keeps (State.setTile_keeps k4)

theorem State.vlmsLoop_keeps {s0 : State} {s : State} {t : ℕ} {a : ℕ} {b : ℕ} {rnd : Bool} {g : ℤ} {gf : ℕ} {i : ℕ} {a9
    : ℕ} (h1 : Keeps s0 s) : Keeps s0 (s.vlmsLoop t a b rnd g gf i a9).2 := by
  induction a9 generalizing s t a b rnd g gf i
  · rw [State.vlmsLoop]
    exact h1
  · rename_i n ih
    rw [State.vlmsLoop]
    refine Keeps.ite2 ?_ ?_
    · refine Keeps.mk2 ?_
      exact State.readRam_keeps (State.readRam_keeps h1)
    · extract_lets +onlyGivenNames x1
      clear_value x1
      with_reducible apply ih
      exact State.memPut_keeps (State.readRam_keeps (State.readRam_keeps h1))

theorem opVlms_keeps {s0 : State} {a1 : ℕ} {a2 : Micro} {a3 : ℕ} {a4 : State} (h4 : Keeps s0 a4) : Keeps s0 (opVlms a1
    a2 a3 a4) := by
  unfold opVlms
  extract_lets +onlyGivenNames x1
  have k1 : Keeps s0 x1 := State.noteAreg_keeps (State.noteAreg_keeps h4)
  clear_value x1
  extract_lets +onlyGivenNames x2
  have k2 : Keeps s0 x2.2 := State.readOperand_keeps k1
  clear_value x2
  extract_lets +onlyGivenNames x3
  have k3 : Keeps s0 x3.2 := State.vlmsLoop_keeps k2
  clear_value x3
  refine Keeps.ite ?_ ?_
  · exact State.errorStop_keeps k3
  · exact State.advance_keeps k3

theorem opJmp_keeps {s0 : State} {a1 : ℕ} {a2 : Micro} {a3 : ℕ} {a4 : State} (h4 : Keeps s0 a4) : Keeps s0 (opJmp a1 a2
    a3 a4) := by
  unfold opJmp
  extract_lets +onlyGivenNames x1
  clear_value x1
  refine Keeps.ite ?_ ?_
  · refine Keeps.ite ?_ ?_
    · exact h4
    · extract_lets +onlyGivenNames x2
      clear_value x2
      exact State.nextInstr_keeps (State.setTile_keeps h4)
  · exact State.advance_keeps h4

theorem opSetlc_keeps {s0 : State} {a1 : ℕ} {a2 : Micro} {a3 : ℕ} {a4 : State} (h4 : Keeps s0 a4) : Keeps s0 (opSetlc a1
    a2 a3 a4) := by
  unfold opSetlc
  exact State.advance_keeps (State.setTile_keeps h4)

theorem opSec_keeps {s0 : State} {a1 : ℕ} {a2 : Micro} {a3 : ℕ} {a4 : State} (h4 : Keeps s0 a4) : Keeps s0 (opSec a1 a2
    a3 a4) := by
  unfold opSec
  extract_lets +onlyGivenNames x1
  have k1 : Keeps s0 x1.2 := State.readOperand_keeps h4
  clear_value x1
  exact State.advance_keeps (State.startRun_keeps k1)

theorem opSecw_keeps {s0 : State} {a1 : ℕ} {a2 : Micro} {a3 : ℕ} {a4 : State} (h4 : Keeps s0 a4) : Keeps s0 (opSecw a1
    a2 a3 a4) := by
  unfold opSecw
  exact State.advance_keeps h4

theorem effectOf_keeps {s0 : State} {stalls : ℕ} {o : ℕ} {a3 : ℕ} {a4 : Micro} {a5 : ℕ} {a6 : State} (h6 : Keeps s0 a6)
    : Keeps s0 (effectOf stalls o a3 a4 a5 a6) := by
  unfold effectOf
  split
  · exact opEnd_keeps h6
  · exact opMov_keeps h6
  · exact opMovf_keeps h6
  · exact opLdi_keeps h6
  · exact opAdd_keeps h6
  · exact opSub_keeps h6
  · exact opAbs_keeps h6
  · exact opMax_keeps h6
  · exact opMin_keeps h6
  · exact opMuli_keeps h6
  · exact opShl_keeps h6
  · exact opTstf_keeps h6
  · exact opCmp_keeps h6
  · exact opMul_keeps h6
  · exact opMac_keeps h6
  · exact opMsu_keeps h6
  · exact opMaci_keeps h6
  · exact opAclr_keeps h6
  · exact opAcrd_keeps h6
  · exact opAcwr_keeps h6
  · exact opLds_keeps h6
  · exact opSts_keeps h6
  · exact opAdda_keeps h6
  · exact opLdb_keeps h6
  · exact opStb_keeps h6
  · exact opRecip_keeps h6
  · exact opVfir_keeps h6
  · exact opVlms_keeps h6
  · exact opJmp_keeps h6
  · exact opSetlc_keeps h6
  · exact opSec_keeps h6
  · exact opSecw_keeps h6
  · exact opNop_keeps h6

theorem illegalInstruction_keeps {s0 : State} {t : ℕ} {s : State} (h2 : Keeps s0 s) : Keeps s0 (illegalInstruction t s)
    := by
  unfold illegalInstruction
  refine Keeps.ite ?_ ?_
  · exact h2
  · split
    · exact State.errorStop_keeps (State.bump_keeps h2)
    · extract_lets +onlyGivenNames x1
      clear_value x1
      extract_lets +onlyGivenNames x2
      clear_value x2
      refine Keeps.ite ?_ ?_
      · exact State.commitTile_keeps (State.noteFetch_keeps h2)
      · exact h2

theorem currRead_keeps {s0 : State} {t : ℕ} {stalls : ℕ} {s : State} (h3 : Keeps s0 s) : Keeps s0 (currRead t stalls s)
    := by
  unfold currRead
  extract_lets +onlyGivenNames x1
  clear_value x1
  split
  · exact h3
  · split
    · exact h3
    · extract_lets +onlyGivenNames x2
      have k2 : Keeps s0 x2 := State.latchCurr_keeps h3
      clear_value x2
      split
      · exact k2
      · extract_lets +onlyGivenNames x3
        clear_value x3
        with_reducible apply State.runMicro_keeps
        · exact k2
        · intro x4 x5 x6 x7 x8
          exact effectOf_keeps x8

theorem State.cutInstr_keeps {s0 : State} {s : State} {t : ℕ} {c : ℕ} (h1 : Keeps s0 s) : Keeps s0 (s.cutInstr t c) := by
  unfold State.cutInstr
  split
  · exact h1
  · extract_lets +onlyGivenNames x1
    clear_value x1
    extract_lets +onlyGivenNames x2
    clear_value x2
    refine Keeps.ite ?_ ?_
    · exact h1
    · extract_lets +onlyGivenNames x3
      clear_value x3
      extract_lets +onlyGivenNames x4
      have k4 : Keeps s0 x4 := State.free_keeps h1
      clear_value x4
      split
      · extract_lets +onlyGivenNames x5
        clear_value x5
        extract_lets +onlyGivenNames x6
        have k6 : Keeps s0 x6.2 := State.readOperand_keeps k4
        clear_value x6
        refine Keeps.ite ?_ ?_
        · exact State.bankWrite_keeps k6
        · exact k4
      · extract_lets +onlyGivenNames x7
        clear_value x7
        extract_lets +onlyGivenNames x8
        have k8 : Keeps s0 x8.2 := State.vfirLoop_keeps k4
        clear_value x8
        refine Keeps.ite ?_ ?_
        · exact State.errorStop_keeps k8
        · exact State.setTile_keeps k8
      · extract_lets +onlyGivenNames x9
        have k9 : Keeps s0 x9.2 := State.readOperand_keeps k4
        clear_value x9
        extract_lets +onlyGivenNames x10
        have k10 : Keeps s0 x10.2 := State.vlmsLoop_keeps k9
        clear_value x10
        refine Keeps.ite ?_ ?_
        · exact State.errorStop_keeps k10
        · exact k10
      · exact h1

theorem tileOverrun_keeps {s0 : State} {t : ℕ} {at_ : ℕ} {s : State} (h3 : Keeps s0 s) : Keeps s0 (tileOverrun t at_ s)
    := by
  unfold tileOverrun
  extract_lets +onlyGivenNames x1
  clear_value x1
  extract_lets +onlyGivenNames x2
  clear_value x2
  refine Keeps.ite ?_ ?_
  · exact h3
  · extract_lets +onlyGivenNames x3
    clear_value x3
    extract_lets +onlyGivenNames x4
    have k4 : Keeps s0 x4 := State.cutRun_keeps (State.cutInstr_keeps h3)
    clear_value x4
    refine Keeps.ite ?_ ?_
    · exact k4
    · extract_lets +onlyGivenNames x5
      have k5 : Keeps s0 x5 := State.cutTick_keeps k4
      clear_value x5
      extract_lets +onlyGivenNames x6
      clear_value x6
      extract_lets +onlyGivenNames x7
      have k7 : Keeps s0 x7 := State.setTile_keeps k5
      clear_value x7
      extract_lets +onlyGivenNames x8
      clear_value x8
      extract_lets +onlyGivenNames x9
      have k9 : Keeps s0 x9 := State.bump_keeps (State.bump_keeps k7)
      clear_value x9
      extract_lets +onlyGivenNames x10
      have k10 : Keeps s0 x10 := State.peak_keeps (State.setBit_keeps k9)
      clear_value x10
      extract_lets +onlyGivenNames x11
      have k11 : Keeps s0 x11 := by
        unfold x11
        refine Keeps.ite ?_ ?_
        · exact State.post_keeps k10
        · exact k10
      clear_value x11
      extract_lets +onlyGivenNames x12
      clear_value x12
      refine Keeps.ite ?_ ?_
      · exact State.stopTile_keeps k11
      · refine Keeps.ite ?_ ?_
        · exact State.stopTile_keeps k11
        · exact State.put_keeps k11

theorem stopCmd_keeps {s0 : State} {t : ℕ} {s : State} (h2 : Keeps s0 s) : Keeps s0 (stopCmd t s) := by
  unfold stopCmd
  split
  · exact State.setTile_keeps h2
  · exact State.stopTile_keeps h2
  · exact h2

theorem restartCmd_keeps {s0 : State} {t : ℕ} {s : State} (h2 : Keeps s0 s) : Keeps s0 (restartCmd t s) := by
  unfold restartCmd
  refine Keeps.ite ?_ ?_
  · exact h2
  · extract_lets +onlyGivenNames x1
    have k1 : Keeps s0 x1 := State.put_keeps (State.put_keeps (State.put_keeps h2))
    clear_value x1
    exact State.post_keeps (State.setTile_keeps k1)

theorem State.rewarn_keeps {s0 : State} {s : State} {a : ℕ} (h1 : Keeps s0 s) : Keeps s0 (s.rewarn a) := by
  unfold State.rewarn
  extract_lets +onlyGivenNames x1
  clear_value x1
  refine Keeps.ite ?_ ?_
  · extract_lets +onlyGivenNames x2
    clear_value x2
    exact State.setTile_keeps h1
  · exact h1

theorem configWrite_keeps {s0 : State} {a : ℕ} {v : Word} {s : State} (h3 : Keeps s0 s) : Keeps s0 (configWrite a v s) := by
  unfold configWrite
  refine Keeps.ite ?_ ?_
  · exact h3
  · extract_lets +onlyGivenNames x1
    clear_value x1
    refine Keeps.ite ?_ ?_
    · exact h3
    · extract_lets +onlyGivenNames x2
      have k2 : Keeps s0 x2 := State.put_keeps h3
      clear_value x2
      refine Keeps.ite ?_ ?_
      · exact State.setTile_keeps k2
      · exact State.rewarn_keeps (State.memPut_keeps k2)

theorem stateRamWrite_keeps {s0 : State} {a : ℕ} {v : Word} {s : State} (h3 : Keeps s0 s) : Keeps s0 (stateRamWrite a v
    s) := by
  unfold stateRamWrite
  refine Keeps.ite ?_ ?_
  · exact h3
  · exact State.memPut_keeps h3

theorem eccWriteBack_keeps {s0 : State} {a : ℕ} {s : State} (h2 : Keeps s0 s) : Keeps s0 (eccWriteBack a s) := by
  unfold eccWriteBack
  refine Keeps.ite ?_ ?_
  · exact State.landWb_keeps h2
  · exact h2

theorem State.setShelfQueue_keeps {s0 : State} {s : State} {h : ℕ} {q : List ParamEntry} (h1 : Keeps s0 s) : Keeps s0
    (s.setShelfQueue h q) := by
  unfold State.setShelfQueue
  extract_lets +onlyGivenNames x1
  have k1 : Keeps s0 x1 := State.put_keeps h1
  clear_value x1
  exact Keeps.same k1 rfl rfl rfl rfl

theorem State.paramDrop_keeps {s0 : State} {s : State} {t : ℕ} {idx : ℕ} (h1 : Keeps s0 s) : Keeps s0 (s.paramDrop t
    idx) := by
  unfold State.paramDrop
  exact State.post_keeps (State.setBit_keeps h1)

theorem fabParamWr_keeps {s0 : State} {v : ℕ} {s : State} (h2 : Keeps s0 s) : Keeps s0 (fabParamWr v s) := by
  unfold fabParamWr
  extract_lets +onlyGivenNames x1
  clear_value x1
  extract_lets +onlyGivenNames x2
  clear_value x2
  extract_lets +onlyGivenNames x3
  clear_value x3
  refine Keeps.ite ?_ ?_
  · exact State.paramDrop_keeps h2
  · exact State.setShelfQueue_keeps h2

theorem State.moveParams_keeps {s0 : State} {s : State} {h : ℕ} (h1 : Keeps s0 s) : Keeps s0 (s.moveParams h) := by
  unfold State.moveParams
  extract_lets +onlyGivenNames x1
  clear_value x1
  refine Keeps.ite ?_ ?_
  · exact h1
  · extract_lets +onlyGivenNames x2
    have k2 : Keeps s0 x2 := by
      unfold x2
      refine Keeps.foldl ?_ ?_
      · intro x3 x4 x5
        exact State.setTile_keeps x5
      · exact h1
    clear_value x2
    exact State.setShelfQueue_keeps k2

theorem State.paramDone_keeps {s0 : State} {s : State} {cmd : Option (ℕ × ℕ)} {lost : Bool} (h1 : Keeps s0 s) : Keeps s0
    (s.paramDone cmd lost) := by
  unfold State.paramDone
  split
  · exact h1
  · split
    · refine Keeps.ite ?_ ?_
      · extract_lets +onlyGivenNames x1
        clear_value x1
        extract_lets +onlyGivenNames x2
        have k2 : Keeps s0 x2 := State.setExec_keeps h1
        clear_value x2
        refine Keeps.ite ?_ ?_
        · refine Keeps.ite ?_ ?_
          · exact State.finish_keeps k2
          · exact State.finish_keeps k2
        · exact k2
      · exact h1
    · exact h1

theorem State.applyParams_keeps {s0 : State} {s : State} {t : ℕ} (h1 : Keeps s0 s) : Keeps s0 (s.applyParams t) := by
  unfold State.applyParams
  extract_lets +onlyGivenNames x1
  clear_value x1
  extract_lets +onlyGivenNames x2
  clear_value x2
  refine Keeps.foldl ?_ ?_
  · intro x3 x4 x5
    exact State.paramDone_keeps (State.memPut_keeps x5)
  · exact State.setTile_keeps h1

theorem State.applyFlips_keeps {s0 : State} {s : State} {t : ℕ} (h1 : Keeps s0 s) : Keeps s0 (s.applyFlips t) := by
  unfold State.applyFlips
  extract_lets +onlyGivenNames x1
  clear_value x1
  extract_lets +onlyGivenNames x2
  clear_value x2
  extract_lets +onlyGivenNames x3
  clear_value x3
  extract_lets +onlyGivenNames x4
  have k4 : Keeps s0 x4 := State.setTile_keeps h1
  clear_value x4
  refine Keeps.foldl ?_ ?_
  · intro x5 x6 x7
    exact State.initSec_keeps x7
  · exact k4

theorem tileTick_keeps {s0 : State} {t : ℕ} {fetchOver : ℕ} {s : State} (h3 : Keeps s0 s) : Keeps s0 (tileTick t
    fetchOver s) := by
  unfold tileTick
  extract_lets +onlyGivenNames x1
  clear_value x1
  extract_lets +onlyGivenNames x2
  clear_value x2
  extract_lets +onlyGivenNames x3
  clear_value x3
  refine Keeps.ite ?_ ?_
  · exact h3
  · extract_lets +onlyGivenNames x4
    have k4 : Keeps s0 x4 := State.applyFlips_keeps (State.applyParams_keeps (State.noteWord_keeps h3))
    clear_value x4
    extract_lets +onlyGivenNames x5
    clear_value x5
    extract_lets +onlyGivenNames x6
    clear_value x6
    refine Keeps.ite ?_ ?_
    · exact State.setTile_keeps k4
    · extract_lets +onlyGivenNames x7
      clear_value x7
      extract_lets +onlyGivenNames x8
      have k8 : Keeps s0 x8 := State.setTile_keeps k4
      clear_value x8
      extract_lets +onlyGivenNames x9
      have k9 : Keeps s0 x9 := State.fetchInputs_keeps k8
      clear_value x9
      extract_lets +onlyGivenNames x10
      have k10 : Keeps s0 x10 := by
        unfold x10
        refine Keeps.ite ?_ ?_
        · exact k9
        · exact State.peak_keeps k9
      clear_value x10
      exact State.put_keeps k10

end Sys2Proof.Machine
end

