-- ==== Sys2Proof/Laws/KeepsAudio.lean ====
section
/-! SUPPORT. What every operation keeps (`Keeps`), one lemma for each: coefficient groups, the router, the ports and rates, capture, the archive and the outputs. -/

namespace Sys2Proof.Machine

theorem State.stageGroup_keeps {s0 : State} {s : State} {g : Group} (h1 : Keeps s0 s) : Keeps s0 (s.stageGroup g) := by
  unfold State.stageGroup
  extract_lets +onlyGivenNames x1
  have k1 : Keeps s0 x1 := by
    unfold x1
    refine Keeps.foldl ?_ ?_
    · intro x2 x3 x4
      refine Keeps.foldl ?_ ?_
      · intro x5 x6 x7
        extract_lets +onlyGivenNames x8
        clear_value x8
        extract_lets +onlyGivenNames x9
        clear_value x9
        exact State.setTile_keeps x7
      · exact x4
    · exact h1
  clear_value x1
  extract_lets +onlyGivenNames x10
  have k10 : Keeps s0 x10 := by
    unfold x10
    refine Keeps.foldl ?_ ?_
    · intro x11 x12 x13
      extract_lets +onlyGivenNames x14
      clear_value x14
      exact State.setTile_keeps x13
    · exact k1
  clear_value x10
  extract_lets +onlyGivenNames x15
  clear_value x15
  exact Keeps.same k10 rfl rfl rfl rfl

theorem coefGroup_keeps {s0 : State} {r : ℕ} {s : State} (h2 : Keeps s0 s) : Keeps s0 (coefGroup r s) := by
  unfold coefGroup
  with_reducible apply State.command_keeps
  · exact h2
  · intro x1 x2 x3 x4
    extract_lets +onlyGivenNames x5
    clear_value x5
    split
    · with_reducible apply State.finish_keeps
      refine Keeps.ite ?_ ?_
      · exact State.memUe_keeps x4
      · exact x4
    · extract_lets +onlyGivenNames x6
      clear_value x6
      extract_lets +onlyGivenNames x7
      have k7 : Keeps s0 x7 := State.setExec_keeps x4
      clear_value x7
      extract_lets +onlyGivenNames x8
      clear_value x8
      extract_lets +onlyGivenNames x9
      have k9 : Keeps s0 x9 := by
        unfold x9
        exact Keeps.same k7 rfl rfl rfl rfl
      clear_value x9
      refine Keeps.ite ?_ ?_
      · exact k9
      · exact State.stageGroup_keeps k9

theorem coefGroupStage_keeps {s0 : State} {r : ℕ} {s : State} (h2 : Keeps s0 s) : Keeps s0 (coefGroupStage r s) := by
  unfold coefGroupStage
  split
  · refine Keeps.ite ?_ ?_
    · exact h2
    · exact State.stageGroup_keeps h2
  · exact h2

theorem State.flipSection_keeps {s0 : State} {s : State} {t : ℕ} {sec : ℕ} {settle : ℕ} (h1 : Keeps s0 s) : Keeps s0
    (s.flipSection t sec settle) := by
  unfold State.flipSection
  extract_lets +onlyGivenNames x1
  clear_value x1
  extract_lets +onlyGivenNames x2
  have k2 : Keeps s0 x2 := by
    unfold x2
    refine Keeps.foldl ?_ ?_
    · intro x3 x4 x5
      extract_lets +onlyGivenNames x6
      extract_lets +onlyGivenNames x7
      extract_lets +onlyGivenNames x8
      clear_value x8
      extract_lets +onlyGivenNames x9
      clear_value x9
      extract_lets +onlyGivenNames x10
      clear_value x10
      exact State.memPut_keeps (State.setTile_keeps x5)
    · exact h1
  clear_value x2
  extract_lets +onlyGivenNames x11
  clear_value x11
  extract_lets +onlyGivenNames x12
  clear_value x12
  exact State.setTile_keeps k2

theorem coefGroupFlip_keeps {s0 : State} {r : ℕ} {s : State} (h2 : Keeps s0 s) : Keeps s0 (coefGroupFlip r s) := by
  unfold coefGroupFlip
  split
  · exact h2
  · extract_lets +onlyGivenNames x1
    clear_value x1
    refine Keeps.ite ?_ ?_
    · exact h2
    · extract_lets +onlyGivenNames x2
      have k2 : Keeps s0 x2 := by
        unfold x2
        refine Keeps.foldl ?_ ?_
        · intro x3 x4 x5
          exact State.flipSection_keeps x5
        · exact h2
      clear_value x2
      extract_lets +onlyGivenNames x6
      have k6 : Keeps s0 x6 := by
        unfold x6
        exact Keeps.same k2 rfl rfl rfl rfl
      clear_value x6
      exact State.finish_keeps k6

theorem State.xchFront_keeps {s0 : State} {s : State} {i : ℕ} (h1 : Keeps s0 s) : Keeps s0 (s.xchFront i).2 := by
  unfold State.xchFront
  exact State.bankTileRead_keeps h1

theorem State.xchRead_keeps {s0 : State} {s : State} {dom : ℕ} {i : ℕ} (h1 : Keeps s0 s) : Keeps s0 (s.xchRead dom i).2
    := by
  unfold State.xchRead
  split
  · exact h1
  · exact State.xchFront_keeps h1

theorem State.srcCell_keeps {s0 : State} {s : State} {dom : ℕ} {e : ℕ} (h1 : Keeps s0 s) : Keeps s0 (s.srcCell dom e).2
    := by
  unfold State.srcCell
  refine Keeps.ite2 ?_ ?_
  · exact h1
  · refine Keeps.ite2 ?_ ?_
    · exact State.xchRead_keeps h1
    · exact h1

theorem State.pathCell_keeps {s0 : State} {s : State} {dom : ℕ} {d : ℕ × ℕ} {src : Word} {g : ℤ} (h1 : Keeps s0 s) :
    Keeps s0 (s.pathCell dom d src g).2 := by
  unfold State.pathCell
  extract_lets +onlyGivenNames x1
  clear_value x1
  extract_lets +onlyGivenNames x2
  have k2 : Keeps s0 x2.2 := State.xchRead_keeps h1
  clear_value x2
  extract_lets +onlyGivenNames x3
  have k3 : Keeps s0 x3.2 := by
    unfold x3
    refine Keeps.ite2 ?_ ?_
    · exact k2
    · exact h1
  clear_value x3
  exact k3

theorem State.routeProgress_keeps {s0 : State} {s : State} {c : XpChange} {isEnd : Bool} (h1 : Keeps s0 s) : Keeps s0
    (s.routeProgress c isEnd) := by
  unfold State.routeProgress
  split
  · extract_lets +onlyGivenNames x1
    clear_value x1
    refine Keeps.ite ?_ ?_
    · extract_lets +onlyGivenNames x2
      have k2 : Keeps s0 x2 := State.setExec_keeps h1
      clear_value x2
      refine Keeps.ite ?_ ?_
      · exact State.finish_keeps k2
      · exact k2
    · exact h1
  · exact h1

theorem State.takeStep_keeps {s0 : State} {s : State} {n : ℕ} (h1 : Keeps s0 s) : Keeps s0 (s.takeStep n) := by
  unfold State.takeStep
  extract_lets +onlyGivenNames x1
  clear_value x1
  extract_lets +onlyGivenNames x2
  clear_value x2
  extract_lets +onlyGivenNames x3
  have k3 : Keeps s0 x3 := State.setXp_keeps h1
  clear_value x3
  split
  · exact State.routeProgress_keeps (State.routeProgress_keeps k3)
  · exact k3

theorem State.zcTimeoutStep_keeps {s0 : State} {s : State} {n : ℕ} (h1 : Keeps s0 s) : Keeps s0 (s.zcTimeoutStep n) := by
  unfold State.zcTimeoutStep
  extract_lets +onlyGivenNames x1
  clear_value x1
  extract_lets +onlyGivenNames x2
  have k2 : Keeps s0 x2 := State.setXp_keeps h1
  clear_value x2
  exact State.takeStep_keeps (State.post_keeps k2)

theorem State.zcTick_keeps {s0 : State} {s : State} {n : ℕ} {a : ℤ} (h1 : Keeps s0 s) : Keeps s0 (s.zcTick n a) := by
  unfold State.zcTick
  extract_lets +onlyGivenNames x1
  clear_value x1
  split
  · refine Keeps.ite ?_ ?_
    · exact State.takeStep_keeps h1
    · refine Keeps.ite ?_ ?_
      · exact State.zcTimeoutStep_keeps h1
      · exact State.setXp_keeps h1
  · exact h1

theorem State.rampBegins_keeps {s0 : State} {s : State} {n : ℕ} (h1 : Keeps s0 s) : Keeps s0 (s.rampBegins n) := by
  unfold State.rampBegins
  extract_lets +onlyGivenNames x1
  clear_value x1
  split
  · refine Keeps.ite ?_ ?_
    · exact State.routeProgress_keeps h1
    · exact h1
  · exact h1

theorem State.newPath_keeps {s0 : State} {s : State} {dom : ℕ} {n : ℕ} {d : ℕ × ℕ} (h1 : Keeps s0 s) : Keeps s0
    (s.newPath dom n d).2 := by
  unfold State.newPath
  extract_lets +onlyGivenNames x1
  have k1 : Keeps s0 x1.2 := State.srcCell_keeps h1
  clear_value x1
  extract_lets +onlyGivenNames x2
  have k2 : Keeps s0 x2 := State.zcTick_keeps (State.rampBegins_keeps k1)
  clear_value x2
  extract_lets +onlyGivenNames x3
  clear_value x3
  extract_lets +onlyGivenNames x4
  clear_value x4
  extract_lets +onlyGivenNames x5
  have k5 : Keeps s0 x5.2 := by
    unfold x5
    unfold State.pathCell
    extract_lets +onlyGivenNames x6
    clear_value x6
    extract_lets +onlyGivenNames x7
    have k7 : Keeps s0 x7.2 := State.xchRead_keeps k2
    clear_value x7
    extract_lets +onlyGivenNames x8
    have k8 : Keeps s0 x8.2 := by
      unfold x8
      refine Keeps.ite2 ?_ ?_
      · exact k7
      · exact k2
    clear_value x8
    exact k8
  clear_value x5
  extract_lets +onlyGivenNames x9
  clear_value x9
  extract_lets +onlyGivenNames x10
  clear_value x10
  extract_lets +onlyGivenNames x11
  clear_value x11
  extract_lets +onlyGivenNames x12
  clear_value x12
  extract_lets +onlyGivenNames x13
  clear_value x13
  refine Keeps.mk2 ?_
  exact State.setXp_keeps k5

theorem State.oldTicked_keeps {s0 : State} {s : State} {n : ℕ} (h1 : Keeps s0 s) : Keeps s0 (s.oldTicked n) := by
  unfold State.oldTicked
  extract_lets +onlyGivenNames x1
  clear_value x1
  exact State.setXp_keeps h1

theorem State.oldPath_keeps {s0 : State} {s : State} {dom : ℕ} {n : ℕ} {d : ℕ × ℕ} (h1 : Keeps s0 s) : Keeps s0
    (s.oldPath dom n d).2 := by
  unfold State.oldPath
  extract_lets +onlyGivenNames x1
  clear_value x1
  extract_lets +onlyGivenNames x2
  have k2 : Keeps s0 x2.2 := State.srcCell_keeps h1
  clear_value x2
  extract_lets +onlyGivenNames x3
  have k3 : Keeps s0 x3.2 := by
    unfold x3
    unfold State.pathCell
    extract_lets +onlyGivenNames x4
    clear_value x4
    extract_lets +onlyGivenNames x5
    have k5 : Keeps s0 x5.2 := State.xchRead_keeps k2
    clear_value x5
    extract_lets +onlyGivenNames x6
    have k6 : Keeps s0 x6.2 := by
      unfold x6
      refine Keeps.ite2 ?_ ?_
      · exact k5
      · exact k2
    clear_value x6
    exact k6
  clear_value x3
  extract_lets +onlyGivenNames x7
  clear_value x7
  refine Keeps.mk2 ?_
  exact State.oldTicked_keeps k3

theorem State.xpTick_keeps {s0 : State} {s : State} {dom : ℕ} {n : ℕ} (h1 : Keeps s0 s) : Keeps s0 (s.xpTick dom n).2 := by
  unfold State.xpTick
  extract_lets +onlyGivenNames x1
  have k1 : Keeps s0 x1.2 := by
    unfold x1
    clear_value x1
    split
    · refine Keeps.ite2 ?_ ?_
      · extract_lets +onlyGivenNames x2
        have k2 : Keeps s0 x2.2 := State.newPath_keeps h1
        clear_value x2
        exact k2
      · exact h1
    · exact h1
  clear_value x1
  extract_lets +onlyGivenNames x3
  clear_value x3
  split
  · refine Keeps.ite2 ?_ ?_
    · extract_lets +onlyGivenNames x4
      have k4 : Keeps s0 x4.2 := State.oldPath_keeps k1
      clear_value x4
      exact k4
    · exact k1
  · exact k1

theorem State.lowStep_keeps {s0 : State} {s : State} {n : ℕ} {d : ℕ × ℕ} {smp : List ℤ} (h1 : Keeps s0 s) : Keeps s0
    (s.lowStep n d smp).2 := by
  unfold State.lowStep
  extract_lets +onlyGivenNames x1
  clear_value x1
  refine Keeps.ite2 ?_ ?_
  · exact h1
  · split
    · refine Keeps.mk2 ?_
      exact State.takeStep_keeps h1
    · refine Keeps.ite2 ?_ ?_
      · refine Keeps.mk2 ?_
        exact State.zcTimeoutStep_keeps h1
      · refine Keeps.mk2 ?_
        exact State.setXp_keeps h1

theorem State.lowNew_keeps {s0 : State} {s : State} {low : List (List ℤ)} {n : ℕ} {d : ℕ × ℕ} (h1 : Keeps s0 s) : Keeps
    s0 (s.lowNew low n d).2 := by
  unfold State.lowNew
  extract_lets +onlyGivenNames x1
  clear_value x1
  extract_lets +onlyGivenNames x2
  clear_value x2
  extract_lets +onlyGivenNames x3
  have k3 : Keeps s0 x3.2 := State.lowStep_keeps h1
  clear_value x3
  extract_lets +onlyGivenNames x4
  have k4 : Keeps s0 x4 := k3
  clear_value x4
  extract_lets +onlyGivenNames x5
  clear_value x5
  extract_lets +onlyGivenNames x6
  extract_lets +onlyGivenNames x7
  clear_value x7
  extract_lets +onlyGivenNames x8
  clear_value x8
  extract_lets +onlyGivenNames x9
  clear_value x9
  refine Keeps.mk2 ?_
  exact State.setXp_keeps k4

theorem State.lowOld_keeps {s0 : State} {s : State} {low : List (List ℤ)} {n : ℕ} {d : ℕ × ℕ} (h1 : Keeps s0 s) : Keeps
    s0 (s.lowOld low n d).2 := by
  unfold State.lowOld
  extract_lets +onlyGivenNames x1
  clear_value x1
  refine Keeps.mk2 ?_
  exact State.oldTicked_keeps h1

theorem State.lowAdd_keeps {s0 : State} {s : State} {d : ℕ × ℕ} {l : List ℤ} (h1 : Keeps s0 s) : Keeps s0 (s.lowAdd d l)
    := by
  unfold State.lowAdd
  extract_lets +onlyGivenNames x1
  clear_value x1
  extract_lets +onlyGivenNames x2
  clear_value x2
  exact Keeps.same h1 rfl rfl rfl rfl

theorem State.lowTick_keeps {s0 : State} {s : State} {low : List (List ℤ)} {n : ℕ} (h1 : Keeps s0 s) : Keeps s0
    (s.lowTick low n) := by
  unfold State.lowTick
  extract_lets +onlyGivenNames x1
  have k1 : Keeps s0 x1 := by
    unfold x1
    clear_value x1
    split
    · refine Keeps.ite ?_ ?_
      · extract_lets +onlyGivenNames x2
        have k2 : Keeps s0 x2.2 := State.lowNew_keeps h1
        clear_value x2
        exact State.lowAdd_keeps k2
      · exact h1
    · exact h1
  clear_value x1
  split
  · refine Keeps.ite ?_ ?_
    · extract_lets +onlyGivenNames x3
      have k3 : Keeps s0 x3.2 := State.lowOld_keeps k1
      clear_value x3
      exact State.lowAdd_keeps k3
    · exact k1
  · exact k1

theorem State.lowPass_keeps {s0 : State} {s : State} {low : List (List ℤ)} (h1 : Keeps s0 s) : Keeps s0 (s.lowPass low)
    := by
  unfold State.lowPass
  refine Keeps.foldl ?_ ?_
  · intro x1 x2 x3
    exact State.lowTick_keeps x3
  · exact Keeps.same h1 rfl rfl rfl rfl

theorem State.passTerms_keeps {s0 : State} {s : State} {dom : ℕ} {a3 : List ℕ} (h1 : Keeps s0 s) : Keeps s0 (s.passTerms
    dom a3).2 := by
  induction a3 generalizing s dom
  · rw [State.passTerms]
    exact h1
  · rename_i hd tl ih
    rw [State.passTerms]
    refine Keeps.mk2 ?_
    with_reducible apply ih
    exact State.xpTick_keeps h1

theorem State.backPut_keeps {s0 : State} {s : State} {i : ℕ} {c : Word} (h1 : Keeps s0 s) : Keeps s0 (s.backPut i c) := by
  unfold State.backPut
  exact Keeps.same h1 rfl rfl rfl rfl

theorem State.deliver_keeps {s0 : State} {s : State} {dom : ℕ} {snk : ℕ} {c : Word} (h1 : Keeps s0 s) : Keeps s0
    (s.deliver dom snk c) := by
  unfold State.deliver
  refine Keeps.ite ?_ ?_
  · refine Keeps.ite ?_ ?_
    · exact State.backPut_keeps h1
    · exact h1
  · exact Keeps.same h1 rfl rfl rfl rfl

theorem State.takeSinks_keeps {s0 : State} {s : State} {dom : ℕ} (h1 : Keeps s0 s) : Keeps s0 (s.takeSinks dom) := by
  unfold State.takeSinks
  extract_lets +onlyGivenNames x1
  extract_lets +onlyGivenNames x2
  clear_value x2
  exact Keeps.same h1 rfl rfl rfl rfl

theorem State.storeError_keeps {s0 : State} {s : State} {n : ℕ} (h1 : Keeps s0 s) : Keeps s0 (s.storeError n) := by
  unfold State.storeError
  refine Keeps.ite ?_ ?_
  · extract_lets +onlyGivenNames x1
    clear_value x1
    extract_lets +onlyGivenNames x2
    have k2 : Keeps s0 x2 := by
      unfold x2
      exact Keeps.same h1 rfl rfl rfl rfl
    clear_value x2
    extract_lets +onlyGivenNames x3
    clear_value x3
    extract_lets +onlyGivenNames x4
    have k4 : Keeps s0 x4 := State.post_keeps (State.setXp_keeps k2)
    clear_value x4
    split
    · extract_lets +onlyGivenNames x5
      clear_value x5
      with_reducible apply State.routeProgress_keeps
      refine Keeps.ite ?_ ?_
      · exact k4
      · exact State.routeProgress_keeps k4
    · exact k4
  · exact h1

theorem State.storeErrors_keeps {s0 : State} {s : State} (h1 : Keeps s0 s) : Keeps s0 s.storeErrors := by
  unfold State.storeErrors
  refine Keeps.foldl ?_ ?_
  · intro x1 x2 x3
    exact State.storeError_keeps x3
  · exact h1

theorem State.xpStrike_keeps {s0 : State} {s : State} {l : List ℕ} (h1 : Keeps s0 s) : Keeps s0 (s.xpStrike l) := by
  unfold State.xpStrike
  exact Keeps.same h1 rfl rfl rfl rfl

theorem State.routerPass_keeps {s0 : State} {s : State} {dom : ℕ} (h1 : Keeps s0 s) : Keeps s0 (s.routerPass dom) := by
  unfold State.routerPass
  extract_lets +onlyGivenNames x1
  have k1 : Keeps s0 x1 := State.storeErrors_keeps h1
  clear_value x1
  extract_lets +onlyGivenNames x2
  have k2 : Keeps s0 x2.2 := State.passTerms_keeps k1
  clear_value x2
  extract_lets +onlyGivenNames x3
  clear_value x3
  refine Keeps.foldl ?_ ?_
  · intro x4 x5 x6
    exact State.deliver_keeps x6
  · exact k2

theorem State.swapCell_keeps {s0 : State} {s : State} {dom : ℕ} {i : ℕ} {c : Word} (h1 : Keeps s0 s) : Keeps s0
    (s.swapCell dom i c) := by
  unfold State.swapCell
  extract_lets +onlyGivenNames x1
  have k1 : Keeps s0 x1.2 := State.bankTileRead_keeps h1
  clear_value x1
  extract_lets +onlyGivenNames x2
  have k2 : Keeps s0 x2 := by
    unfold x2
    refine Keeps.ite ?_ ?_
    · exact h1
    · exact Keeps.same h1 rfl rfl rfl rfl
  clear_value x2
  extract_lets +onlyGivenNames x3
  clear_value x3
  extract_lets +onlyGivenNames x4
  have k4 : Keeps s0 x4 := State.memPut_keeps k2
  clear_value x4
  extract_lets +onlyGivenNames x5
  have k5 : Keeps s0 x5 := by
    unfold x5
    exact Keeps.same k4 rfl rfl rfl rfl
  clear_value x5
  refine Keeps.ite ?_ ?_
  · exact Keeps.same k5 rfl rfl rfl rfl
  · exact k5

theorem State.swapCells_keeps {s0 : State} {s : State} {dom : ℕ} (h1 : Keeps s0 s) : Keeps s0 (s.swapCells dom) := by
  unfold State.swapCells
  refine Keeps.ite ?_ ?_
  · exact h1
  · refine Keeps.foldl ?_ ?_
    · intro x1 x2 x3
      exact State.swapCell_keeps x3
    · exact h1

theorem State.latchEdges_keeps {s0 : State} {s : State} {dom : ℕ} (h1 : Keeps s0 s) : Keeps s0 (s.latchEdges dom) := by
  unfold State.latchEdges
  extract_lets +onlyGivenNames x1
  clear_value x1
  exact Keeps.same h1 rfl rfl rfl rfl

theorem State.edgePut_keeps {s0 : State} {s : State} {i : ℕ} {c : Word} (h1 : Keeps s0 s) : Keeps s0 (s.edgePut i c) := by
  unfold State.edgePut
  exact Keeps.same h1 rfl rfl rfl rfl

theorem State.edgeClear_keeps {s0 : State} {s : State} {i : ℕ} (h1 : Keeps s0 s) : Keeps s0 (s.edgeClear i) := by
  unfold State.edgeClear
  exact Keeps.same h1 rfl rfl rfl rfl

theorem State.routerTake_keeps {s0 : State} {s : State} {dom : ℕ} (h1 : Keeps s0 s) : Keeps s0 (s.routerTake dom) := by
  unfold State.routerTake
  exact State.swapCells_keeps (State.takeSinks_keeps h1)

theorem State.routeFail_keeps {s0 : State} {s : State} {r : ℕ} {st : ℕ} {ws : List ℕ} (h1 : Keeps s0 s) : Keeps s0
    (s.routeFail r st ws) := by
  unfold State.routeFail
  with_reducible apply State.finish_keeps
  refine Keeps.ite ?_ ?_
  · refine Keeps.foldl ?_ ?_
    · intro x1 x2 x3
      exact State.storeError_keeps x3
    · exact h1
  · exact h1

theorem State.queueChange_keeps {s0 : State} {s : State} {x : ℕ} {c : XpChange} (h1 : Keeps s0 s) : Keeps s0
    (s.queueChange x c) := by
  unfold State.queueChange
  extract_lets +onlyGivenNames x1
  clear_value x1
  exact State.setXp_keeps h1

theorem State.routeSetAll_keeps {s0 s t : State} {r seq : ℕ} {ws : List ℕ} {full : Bool} {l : List (ℕ × ℕ × ℕ)}
    (e : s.routeSetAll r seq ws full l = .ok t) (h : Keeps s0 s) : Keeps s0 t := by
  induction l generalizing s with
  | nil => rw [State.routeSetAll] at e; cases e; exact h
  | cons p l ih =>
    rw [State.routeSetAll] at e
    dsimp only at e
    repeat' split at e
    all_goals first | contradiction | exact ih e (State.queueChange_keeps h)

theorem State.routeCommitted_keeps {s0 : State} {s : State} {r : ℕ} {n : ℕ} (h1 : Keeps s0 s) : Keeps s0
    (s.routeCommitted r n) := by
  unfold State.routeCommitted
  exact State.setExec_keeps h1

theorem routeSet_keeps {s0 : State} {r : ℕ} {s : State} (h2 : Keeps s0 s) : Keeps s0 (routeSet r s) := by
  unfold routeSet
  with_reducible apply State.command_keeps
  · exact h2
  · intro x1 x2 x3 x4
    split
    · exact State.routeFail_keeps x4
    · split
      · exact State.routeFail_keeps x4
      · with_reducible apply State.routeCommitted_keeps
        refine State.routeSetAll_keeps (by assumption) ?_
        exact x4

theorem routeClear_keeps {s0 : State} {r : ℕ} {s : State} (h2 : Keeps s0 s) : Keeps s0 (routeClear r s) := by
  unfold routeClear
  with_reducible apply State.command_keeps
  · exact h2
  · intro x1 x2 x3 x4
    split
    · exact State.routeFail_keeps x4
    · refine Keeps.ite ?_ ?_
      · exact State.finish_keeps x4
      · extract_lets +onlyGivenNames x5
        have k5 : Keeps s0 x5 := by
          unfold x5
          refine Keeps.foldl ?_ ?_
          · intro x6 x7 x8
            exact State.queueChange_keeps x8
          · exact x4
        clear_value x5
        exact State.routeCommitted_keeps k5

theorem routeQuery_keeps {s0 : State} {r : ℕ} {s : State} (h2 : Keeps s0 s) : Keeps s0 (routeQuery r s) := by
  unfold routeQuery
  with_reducible apply State.command_keeps
  · exact h2
  · intro x1 x2 x3 x4
    split
    · exact State.routeFail_keeps x4
    · extract_lets +onlyGivenNames x5
      clear_value x5
      exact State.finish_keeps (State.write6_keeps x4)

theorem State.beginChange_keeps {s0 : State} {s : State} {n : ℕ} {c : XpChange} (h1 : Keeps s0 s) : Keeps s0
    (s.beginChange n c) := by
  unfold State.beginChange
  extract_lets +onlyGivenNames x1
  clear_value x1
  extract_lets +onlyGivenNames x2
  clear_value x2
  split
  · exact State.routeProgress_keeps (State.routeProgress_keeps (State.setXp_keeps h1))
  · refine Keeps.ite ?_ ?_
    · extract_lets +onlyGivenNames x3
      clear_value x3
      refine Keeps.ite ?_ ?_
      · extract_lets +onlyGivenNames x4
        have k4 : Keeps s0 x4 := State.setXp_keeps h1
        clear_value x4
        refine Keeps.ite ?_ ?_
        · exact State.routeProgress_keeps k4
        · exact k4
      · exact State.setXp_keeps h1
    · exact State.routeProgress_keeps (State.setXp_keeps h1)
  · exact State.routeProgress_keeps (State.setXp_keeps h1)
  · exact State.routeProgress_keeps (State.setXp_keeps h1)

theorem routeChangeBegin_keeps {s0 : State} {n : ℕ} {s : State} (h2 : Keeps s0 s) : Keeps s0 (routeChangeBegin n s) := by
  unfold routeChangeBegin
  split
  · exact h2
  · extract_lets +onlyGivenNames x1
    refine Keeps.ite ?_ ?_
    · extract_lets +onlyGivenNames x2
      have k2 : Keeps s0 x2 := by
        unfold x2
        clear_value x2
        split
        · refine Keeps.ite ?_ ?_
          · exact State.setExec_keeps h2
          · exact h2
        · exact h2
      clear_value x2
      refine Keeps.foldl ?_ ?_
      · intro x3 x4 x5
        split
        · exact State.beginChange_keeps x5
        · exact x5
      · exact k2
    · exact h2

theorem routeFadeEnd_keeps {s0 : State} {n : ℕ} {s : State} (h2 : Keeps s0 s) : Keeps s0 (routeFadeEnd n s) := by
  unfold routeFadeEnd
  extract_lets +onlyGivenNames x1
  clear_value x1
  extract_lets +onlyGivenNames x2
  clear_value x2
  refine Keeps.ite ?_ ?_
  · extract_lets +onlyGivenNames x3
    clear_value x3
    extract_lets +onlyGivenNames x4
    have k4 : Keeps s0 x4 := State.setXp_keeps h2
    clear_value x4
    split
    · exact State.routeProgress_keeps k4
    · exact k4
  · exact h2

theorem xpZcTimeout_keeps {s0 : State} {n : ℕ} {s : State} (h2 : Keeps s0 s) : Keeps s0 (xpZcTimeout n s) := by
  unfold xpZcTimeout
  extract_lets +onlyGivenNames x1
  clear_value x1
  split
  · refine Keeps.ite ?_ ?_
    · exact State.zcTimeoutStep_keeps h2
    · exact h2
  · exact h2

theorem gainRampEnd_keeps {s0 : State} {n : ℕ} {s : State} (h2 : Keeps s0 s) : Keeps s0 (gainRampEnd n s) := by
  unfold gainRampEnd
  extract_lets +onlyGivenNames x1
  clear_value x1
  split
  · refine Keeps.ite ?_ ?_
    · extract_lets +onlyGivenNames x2
      have k2 : Keeps s0 x2 := State.setXp_keeps h2
      clear_value x2
      split
      · exact State.routeProgress_keeps k2
      · exact k2
    · exact h2
  · exact h2

theorem State.setPort_keeps {s0 : State} {s : State} {n : ℕ} {p : Port} (h1 : Keeps s0 s) : Keeps s0 (s.setPort n p) := by
  unfold State.setPort
  exact Keeps.same h1 rfl rfl rfl rfl

theorem State.countSlip_keeps {s0 : State} {s : State} {m : ℕ} (h1 : Keeps s0 s) : Keeps s0 (s.countSlip m) := by
  unfold State.countSlip
  exact State.setBit_keeps (State.bump_keeps h1)

theorem State.followerSlip_keeps {s0 : State} {s : State} {m : ℕ} (h1 : Keeps s0 s) : Keeps s0 (s.followerSlip m) := by
  unfold State.followerSlip
  refine Keeps.ite ?_ ?_
  · exact State.countSlip_keeps h1
  · exact h1

theorem State.sapQuiet_keeps {s0 : State} {s : State} {n : ℕ} (h1 : Keeps s0 s) : Keeps s0 (s.sapQuiet n) := by
  unfold State.sapQuiet
  extract_lets +onlyGivenNames x1
  clear_value x1
  extract_lets +onlyGivenNames x2
  clear_value x2
  extract_lets +onlyGivenNames x3
  have k3 : Keeps s0 x3 := State.setPort_keeps h1
  clear_value x3
  refine Keeps.foldl ?_ ?_
  · intro x4 x5 x6
    exact State.edgeClear_keeps x6
  · exact k3

theorem State.putSapCfg_keeps {s0 : State} {s : State} {n : ℕ} {v : ℕ} (h1 : Keeps s0 s) : Keeps s0 (s.putSapCfg n v) := by
  unfold State.putSapCfg
  extract_lets +onlyGivenNames x1
  have k1 : Keeps s0 x1 := State.put_keeps (State.put_keeps (State.put_keeps (State.put_keeps h1)))
  clear_value x1
  extract_lets +onlyGivenNames x2
  have k2 : Keeps s0 x2 := State.put_keeps (State.put_keeps (State.put_keeps (State.put_keeps k1)))
  clear_value x2
  extract_lets +onlyGivenNames x3
  have k3 : Keeps s0 x3 := State.put_keeps (State.put_keeps (State.put_keeps (State.put_keeps k2)))
  clear_value x3
  exact State.put_keeps (State.put_keeps (State.put_keeps k3))

theorem State.sapArm_keeps {s0 : State} {s : State} {n : ℕ} (h1 : Keeps s0 s) : Keeps s0 (s.sapArm n) := by
  unfold State.sapArm
  refine Keeps.ite ?_ ?_
  · refine Keeps.ite ?_ ?_
    · exact State.put_keeps h1
    · exact State.setPort_keeps h1
  · exact h1

theorem State.sapReject_keeps {s0 : State} {s : State} {n : ℕ} {v : ℕ} (h1 : Keeps s0 s) : Keeps s0 (s.sapReject n v) := by
  unfold State.sapReject
  extract_lets +onlyGivenNames x1
  have k1 : Keeps s0 x1 := State.sapQuiet_keeps (State.put_keeps (State.put_keeps h1))
  clear_value x1
  exact State.post_keeps (State.put_keeps k1)

theorem sapCfgWrite_keeps {s0 : State} {n : ℕ} {v : ℕ} {s : State} (h3 : Keeps s0 s) : Keeps s0 (sapCfgWrite n v s) := by
  unfold sapCfgWrite
  refine Keeps.ite ?_ ?_
  · exact State.sapReject_keeps (State.putSapCfg_keeps h3)
  · extract_lets +onlyGivenNames x1
    have k1 : Keeps s0 x1 := State.put_keeps h3
    clear_value x1
    refine Keeps.ite ?_ ?_
    · exact State.setPort_keeps k1
    · exact State.sapArm_keeps (State.sapQuiet_keeps (State.put_keeps (State.putSapCfg_keeps k1)))

theorem sapMuteWrite_keeps {s0 : State} {n : ℕ} {v : ℕ} {s : State} (h3 : Keeps s0 s) : Keeps s0 (sapMuteWrite n v s) := by
  unfold sapMuteWrite
  exact State.put_keeps (State.put_keeps h3)

theorem portMuteRampEnd_keeps {s0 : State} {n : ℕ} {tx : Bool} {s : State} (h3 : Keeps s0 s) : Keeps s0 (portMuteRampEnd
    n tx s) := by
  unfold portMuteRampEnd
  extract_lets +onlyGivenNames x1
  clear_value x1
  extract_lets +onlyGivenNames x2
  clear_value x2
  refine Keeps.ite ?_ ?_
  · refine Keeps.ite ?_ ?_
    · refine Keeps.ite ?_ ?_
      · exact State.put_keeps h3
      · exact h3
    · exact State.put_keeps h3
  · refine Keeps.ite ?_ ?_
    · refine Keeps.ite ?_ ?_
      · exact State.put_keeps h3
      · exact h3
    · exact State.put_keeps h3

theorem State.sapDiscard_keeps {s0 : State} {s : State} {n : ℕ} {k : ℕ} (h1 : Keeps s0 s) : Keeps s0 (s.sapDiscard n k)
    := by
  unfold State.sapDiscard
  extract_lets +onlyGivenNames x1
  have k1 : Keeps s0 x1 := State.setBit_keeps (State.bumpBy_keeps h1)
  clear_value x1
  extract_lets +onlyGivenNames x2
  clear_value x2
  exact State.setPort_keeps k1

theorem State.alignCell_keeps {s0 : State} {s : State} {n : ℕ} {i : ℕ} {c : Word} (h1 : Keeps s0 s) : Keeps s0
    (s.alignCell n i c) := by
  unfold State.alignCell
  extract_lets +onlyGivenNames x1
  clear_value x1
  extract_lets +onlyGivenNames x2
  refine Keeps.ite ?_ ?_
  · with_reducible apply State.sapDiscard_keeps
    unfold x2
    exact State.setPort_keeps h1
  · refine Keeps.ite ?_ ?_
    · exact State.sapDiscard_keeps h1
    · unfold x2
      exact State.setPort_keeps h1

theorem sapRxFrame_keeps {s0 : State} {n : ℕ} {din : List Bool} {s : State} (h3 : Keeps s0 s) : Keeps s0 (sapRxFrame n
    din s) := by
  unfold sapRxFrame
  refine Keeps.ite ?_ ?_
  · exact h3
  · extract_lets +onlyGivenNames x1
    clear_value x1
    extract_lets +onlyGivenNames x2
    clear_value x2
    extract_lets +onlyGivenNames x3
    have k3 : Keeps s0 x3 := State.setPort_keeps h3
    clear_value x3
    extract_lets +onlyGivenNames x4
    clear_value x4
    extract_lets +onlyGivenNames x5
    clear_value x5
    refine Keeps.ite ?_ ?_
    · refine Keeps.ite ?_ ?_
      · exact k3
      · refine Keeps.foldl ?_ ?_
        · intro x6 x7 x8
          refine Keeps.ite ?_ ?_
          · exact State.alignCell_keeps x8
          · exact x8
        · exact k3
    · refine Keeps.ite ?_ ?_
      · exact State.setBit_keeps (State.bump_keeps k3)
      · exact State.setPort_keeps k3

theorem State.rxDeliver_keeps {s0 : State} {s : State} {n : ℕ} {i : ℕ} {len : ℕ} {old : ℕ} {pos : ℕ} {c : Word} (h1 :
    Keeps s0 s) : Keeps s0 (s.rxDeliver n i len old pos c) := by
  unfold State.rxDeliver
  extract_lets +onlyGivenNames x1
  clear_value x1
  exact State.edgePut_keeps (State.setPort_keeps h1)

theorem State.rxZero_keeps {s0 : State} {s : State} {n : ℕ} {i : ℕ} {len : ℕ} {old : ℕ} {pos : ℕ} (h1 : Keeps s0 s) :
    Keeps s0 (s.rxZero n i len old pos) := by
  unfold State.rxZero
  extract_lets +onlyGivenNames x1
  clear_value x1
  refine Keeps.ite ?_ ?_
  · exact State.edgePut_keeps h1
  · exact State.edgeClear_keeps h1

theorem State.rxFill_keeps {s0 : State} {s : State} {n : ℕ} {i : ℕ} {len : ℕ} {old : ℕ} {pos : ℕ} (h1 : Keeps s0 s) :
    Keeps s0 (s.rxFill n i len old pos) := by
  unfold State.rxFill
  exact State.rxDeliver_keeps h1

theorem State.rxCountFill_keeps {s0 : State} {s : State} {n : ℕ} (h1 : Keeps s0 s) : Keeps s0 (s.rxCountFill n) := by
  unfold State.rxCountFill
  extract_lets +onlyGivenNames x1
  have k1 : Keeps s0 x1 := State.followerSlip_keeps (State.setBit_keeps (State.bump_keeps h1))
  clear_value x1
  extract_lets +onlyGivenNames x2
  have k2 : Keeps s0 x2 := by
    unfold x2
    refine Keeps.ite ?_ ?_
    · exact k1
    · exact State.post_keeps k1
  clear_value x2
  exact State.setPort_keeps k2

theorem State.discardTick_keeps {s0 : State} {s : State} {n : ℕ} (h1 : Keeps s0 s) : Keeps s0 (s.discardTick n) := by
  unfold State.discardTick
  extract_lets +onlyGivenNames x1
  clear_value x1
  refine Keeps.ite ?_ ?_
  · exact State.setPort_keeps h1
  · refine Keeps.ite ?_ ?_
    · exact h1
    · exact State.post_keeps (State.setPort_keeps h1)

theorem State.alignJudge_keeps {s0 : State} {s : State} {n : ℕ} {i : ℕ} {r : Option Word × List Word} {c : Word} (h1 :
    Keeps s0 s) : Keeps s0 (s.alignJudge n i r c).2 := by
  unfold State.alignJudge
  extract_lets +onlyGivenNames x1
  clear_value x1
  extract_lets +onlyGivenNames x2
  clear_value x2
  refine Keeps.ite2 ?_ ?_
  · refine Keeps.mk2 ?_
    exact State.sapDiscard_keeps h1
  · refine Keeps.ite2 ?_ ?_
    · exact h1
    · refine Keeps.ite2 ?_ ?_
      · exact h1
      · refine Keeps.mk2 ?_
        exact State.post_keeps (State.sapDiscard_keeps h1)

theorem State.alignSlot_keeps {s0 : State} {s : State} {n : ℕ} {i : ℕ} (h1 : Keeps s0 s) : Keeps s0 (s.alignSlot n i).2
    := by
  unfold State.alignSlot
  extract_lets +onlyGivenNames x1
  have k1 : Keeps s0 x1.2 := by
    unfold x1
    refine Keeps.foldl2 ?_ ?_
    · intro x2 x3 x4
      exact State.alignJudge_keeps x4
    · exact h1
  clear_value x1
  refine Keeps.mk2 ?_
  exact State.setPort_keeps k1

theorem State.alignTick_keeps {s0 : State} {s : State} {n : ℕ} {len : ℕ} {old : ℕ} {pos : ℕ} {ons : List ℕ} (h1 : Keeps
    s0 s) : Keeps s0 (s.alignTick n len old pos ons) := by
  unfold State.alignTick
  extract_lets +onlyGivenNames x1
  have k1 : Keeps s0 x1.2 := by
    unfold x1
    refine Keeps.foldl2 ?_ ?_
    · intro x2 x3 x4
      extract_lets +onlyGivenNames x5
      have k5 : Keeps s0 x5.2 := State.alignSlot_keeps x4
      clear_value x5
      clear_value x1
      split
      · refine Keeps.mk2 ?_
        exact State.rxDeliver_keeps k5
      · refine Keeps.mk2 ?_
        exact State.rxFill_keeps k5
    · exact h1
  clear_value x1
  refine Keeps.ite ?_ ?_
  · exact State.rxCountFill_keeps k1
  · exact State.setPort_keeps k1

theorem State.frameTick_keeps {s0 : State} {s : State} {n : ℕ} {len : ℕ} {old : ℕ} {pos : ℕ} {ons : List ℕ} (h1 : Keeps
    s0 s) : Keeps s0 (s.frameTick n len old pos ons) := by
  unfold State.frameTick
  extract_lets +onlyGivenNames x1
  clear_value x1
  split
  · extract_lets +onlyGivenNames x2
    have k2 : Keeps s0 x2 := State.setPort_keeps h1
    clear_value x2
    refine Keeps.foldl ?_ ?_
    · intro x3 x4 x5
      exact State.rxDeliver_keeps x5
    · exact k2
  · refine Keeps.ite ?_ ?_
    · with_reducible apply State.rxCountFill_keeps
      refine Keeps.foldl ?_ ?_
      · intro x6 x7 x8
        exact State.rxFill_keeps x8
      · exact h1
    · refine Keeps.foldl ?_ ?_
      · intro x9 x10 x11
        exact State.rxZero_keeps x11
      · exact h1

theorem State.portRxTick_keeps {s0 : State} {s : State} {n : ℕ} (h1 : Keeps s0 s) : Keeps s0 (s.portRxTick n) := by
  unfold State.portRxTick
  extract_lets +onlyGivenNames x1
  clear_value x1
  extract_lets +onlyGivenNames x2
  clear_value x2
  extract_lets +onlyGivenNames x3
  clear_value x3
  extract_lets +onlyGivenNames x4
  clear_value x4
  extract_lets +onlyGivenNames x5
  clear_value x5
  extract_lets +onlyGivenNames x6
  clear_value x6
  extract_lets +onlyGivenNames x7
  have k7 : Keeps s0 x7 := State.setPort_keeps h1
  clear_value x7
  extract_lets +onlyGivenNames x8
  have k8 : Keeps s0 x8 := by
    unfold x8
    refine Keeps.ite ?_ ?_
    · exact k7
    · exact State.put_keeps k7
  clear_value x8
  extract_lets +onlyGivenNames x9
  clear_value x9
  extract_lets +onlyGivenNames x10
  have k10 : Keeps s0 x10 := by
    unfold x10
    refine Keeps.foldl ?_ ?_
    · intro x11 x12 x13
      exact State.rxZero_keeps x13
    · exact k8
  clear_value x10
  extract_lets +onlyGivenNames x14
  have k14 : Keeps s0 x14 := by
    unfold x14
    refine Keeps.ite ?_ ?_
    · refine Keeps.foldl ?_ ?_
      · intro x15 x16 x17
        exact State.rxFill_keeps x17
      · exact k10
    · refine Keeps.ite ?_ ?_
      · exact k10
      · refine Keeps.ite ?_ ?_
        · exact State.alignTick_keeps k10
        · exact State.frameTick_keeps k10
  clear_value x14
  exact State.discardTick_keeps k14

theorem State.portTxTick_keeps {s0 : State} {s : State} {n : ℕ} (h1 : Keeps s0 s) : Keeps s0 (s.portTxTick n) := by
  unfold State.portTxTick
  extract_lets +onlyGivenNames x1
  clear_value x1
  extract_lets +onlyGivenNames x2
  clear_value x2
  extract_lets +onlyGivenNames x3
  clear_value x3
  extract_lets +onlyGivenNames x4
  clear_value x4
  extract_lets +onlyGivenNames x5
  clear_value x5
  extract_lets +onlyGivenNames x6
  clear_value x6
  extract_lets +onlyGivenNames x7
  have k7 : Keeps s0 x7 := State.setPort_keeps h1
  clear_value x7
  extract_lets +onlyGivenNames x8
  have k8 : Keeps s0 x8 := by
    unfold x8
    refine Keeps.ite ?_ ?_
    · exact k7
    · exact State.put_keeps k7
  clear_value x8
  refine Keeps.ite ?_ ?_
  · exact State.bump_keeps k8
  · exact k8

theorem State.sapSend_keeps {s0 : State} {s : State} {n : ℕ} {data : List (Option Bool)} (h1 : Keeps s0 s) : Keeps s0
    (s.sapSend n data) := by
  unfold State.sapSend
  extract_lets +onlyGivenNames x1
  clear_value x1
  extract_lets +onlyGivenNames x2
  clear_value x2
  extract_lets +onlyGivenNames x3
  clear_value x3
  extract_lets +onlyGivenNames x4
  clear_value x4
  exact State.setPort_keeps h1

theorem State.sapRunFrame_keeps {s0 : State} {s : State} {n : ℕ} {first : Bool} (h1 : Keeps s0 s) : Keeps s0
    (s.sapRunFrame n first) := by
  unfold State.sapRunFrame
  extract_lets +onlyGivenNames x1
  clear_value x1
  extract_lets +onlyGivenNames x2
  clear_value x2
  refine Keeps.ite ?_ ?_
  · exact State.sapSend_keeps (State.setPort_keeps h1)
  · extract_lets +onlyGivenNames x3
    clear_value x3
    extract_lets +onlyGivenNames x4
    have k4 : Keeps s0 x4 := State.followerSlip_keeps (State.setBit_keeps (State.bump_keeps h1))
    clear_value x4
    extract_lets +onlyGivenNames x5
    have k5 : Keeps s0 x5 := by
      unfold x5
      refine Keeps.ite ?_ ?_
      · exact k4
      · exact State.post_keeps k4
    clear_value x5
    exact State.sapSend_keeps (State.setPort_keeps k5)

theorem State.sapFrameStart_keeps {s0 : State} {s : State} {n : ℕ} (h1 : Keeps s0 s) : Keeps s0 (s.sapFrameStart n) := by
  unfold State.sapFrameStart
  extract_lets +onlyGivenNames x1
  clear_value x1
  extract_lets +onlyGivenNames x2
  refine Keeps.ite ?_ ?_
  · exact h1
  · refine Keeps.ite ?_ ?_
    · exact State.sapRunFrame_keeps (State.put_keeps (State.put_keeps h1))
    · refine Keeps.ite ?_ ?_
      · exact State.sapRunFrame_keeps h1
      · refine Keeps.ite ?_ ?_
        · refine Keeps.ite ?_ ?_
          · exact State.sapRunFrame_keeps (State.put_keeps (State.setPort_keeps h1))
          · exact h1
        · refine Keeps.ite ?_ ?_
          · unfold x2
            exact State.sapSend_keeps h1
          · unfold x2
            exact State.sapSend_keeps h1

theorem sapTxFrame_keeps {s0 : State} {n : ℕ} {s : State} (h2 : Keeps s0 s) : Keeps s0 (sapTxFrame n s) := by
  unfold sapTxFrame
  refine Keeps.ite ?_ ?_
  · exact h2
  · exact State.sapFrameStart_keeps h2

theorem State.portTick_keeps {s0 : State} {s : State} {n : ℕ} (h1 : Keeps s0 s) : Keeps s0 (s.portTick n) := by
  unfold State.portTick
  extract_lets +onlyGivenNames x1
  have k1 : Keeps s0 x1 := State.portTxTick_keeps h1
  clear_value x1
  with_reducible apply State.portRxTick_keeps
  refine Keeps.ite ?_ ?_
  · exact State.sapFrameStart_keeps k1
  · exact k1

theorem State.fixStart_keeps {s0 : State} {s : State} {at_ : Option ℕ} (h1 : Keeps s0 s) : Keeps s0 (s.fixStart at_) := by
  unfold State.fixStart
  extract_lets +onlyGivenNames x1
  clear_value x1
  extract_lets +onlyGivenNames x2
  clear_value x2
  exact State.put_keeps (State.put_keeps h1)

theorem State.trigger_keeps {s0 : State} {s : State} (h1 : Keeps s0 s) : Keeps s0 s.trigger := by
  unfold State.trigger
  refine Keeps.ite ?_ ?_
  · exact h1
  · refine Keeps.ite ?_ ?_
    · exact State.bump_keeps h1
    · exact State.fixStart_keeps h1

theorem startBallEdge_keeps {s0 : State} {rising : Bool} {s : State} (h2 : Keeps s0 s) : Keeps s0 (startBallEdge rising
    s) := by
  unfold startBallEdge
  extract_lets +onlyGivenNames x1
  clear_value x1
  extract_lets +onlyGivenNames x2
  have k2 : Keeps s0 x2 := by
    unfold x2
    refine Keeps.ite ?_ ?_
    · exact State.wakeBy_keeps h2
    · exact h2
  clear_value x2
  refine Keeps.ite ?_ ?_
  · exact State.trigger_keeps k2
  · exact k2

theorem sapStartGo_keeps {s0 : State} {v : ℕ} {s : State} (h2 : Keeps s0 s) : Keeps s0 (sapStartGo v s) := by
  unfold sapStartGo
  refine Keeps.ite ?_ ?_
  · exact State.trigger_keeps h2
  · exact h2

theorem State.startCmd_keeps {s0 : State} {s : State} {r : ℕ} {ws : List ℕ} (h1 : Keeps s0 s) : Keeps s0 (s.startCmd r
    ws) := by
  unfold State.startCmd
  extract_lets +onlyGivenNames x1
  clear_value x1
  extract_lets +onlyGivenNames x2
  have k2 : Keeps s0 x2 := State.fixStart_keeps h1
  clear_value x2
  exact State.setExec_keeps k2

theorem start_keeps {s0 : State} {r : ℕ} {s : State} (h2 : Keeps s0 s) : Keeps s0 (start r s) := by
  unfold start
  with_reducible apply State.command_keeps
  · exact h2
  · intro x1 x2 x3 x4
    refine Keeps.ite ?_ ?_
    · exact State.finish_keeps x4
    · refine Keeps.ite ?_ ?_
      · exact x4
      · exact State.startCmd_keeps x4

theorem State.sapBegin_keeps {s0 : State} {s : State} {n : ℕ} (h1 : Keeps s0 s) : Keeps s0 (s.sapBegin n) := by
  unfold State.sapBegin
  extract_lets +onlyGivenNames x1
  clear_value x1
  extract_lets +onlyGivenNames x2
  have k2 : Keeps s0 x2 := State.setPort_keeps h1
  clear_value x2
  refine Keeps.ite ?_ ?_
  · refine Keeps.ite ?_ ?_
    · exact State.setPort_keeps k2
    · exact State.put_keeps (State.put_keeps k2)
  · refine Keeps.ite ?_ ?_
    · exact State.put_keeps (State.put_keeps k2)
    · exact State.put_keeps k2

theorem State.sapStartNow_keeps {s0 : State} {s : State} {n : ℕ} (h1 : Keeps s0 s) : Keeps s0 (s.sapStartNow n) := by
  unfold State.sapStartNow
  extract_lets +onlyGivenNames x1
  have k1 : Keeps s0 x1 := State.sapBegin_keeps h1
  clear_value x1
  refine Keeps.ite ?_ ?_
  · exact State.sapRunFrame_keeps k1
  · exact k1

theorem State.startArmed_keeps {s0 : State} {s : State} (h1 : Keeps s0 s) : Keeps s0 s.startArmed := by
  unfold State.startArmed
  extract_lets +onlyGivenNames x1
  clear_value x1
  extract_lets +onlyGivenNames x2
  have k2 : Keeps s0 x2 := by
    unfold x2
    refine Keeps.foldl ?_ ?_
    · intro x3 x4 x5
      exact State.sapStartNow_keeps x5
    · exact h1
  clear_value x2
  extract_lets +onlyGivenNames x6
  clear_value x6
  extract_lets +onlyGivenNames x7
  have k7 : Keeps s0 x7 := by
    unfold x7
    refine Keeps.ite ?_ ?_
    · exact Keeps.same k2 rfl rfl rfl rfl
    · exact k2
  clear_value x7
  extract_lets +onlyGivenNames x8
  clear_value x8
  extract_lets +onlyGivenNames x9
  have k9 : Keeps s0 x9 := by
    unfold x9
    refine Keeps.ite ?_ ?_
    · exact Keeps.same k7 rfl rfl rfl rfl
    · exact k7
  clear_value x9
  exact State.post_keeps k9

theorem State.startWaiting_keeps {s0 : State} {s : State} (h1 : Keeps s0 s) : Keeps s0 s.startWaiting := by
  unfold State.startWaiting
  split
  · split
    · exact State.startCmd_keeps h1
    · exact h1
  · exact h1

theorem portStart_keeps {s0 : State} {s : State} (h1 : Keeps s0 s) : Keeps s0 (portStart s) := by
  unfold portStart
  refine Keeps.ite ?_ ?_
  · exact h1
  · extract_lets +onlyGivenNames x1
    have k1 : Keeps s0 x1 := State.put_keeps (State.startArmed_keeps h1)
    clear_value x1
    extract_lets +onlyGivenNames x2
    have k2 : Keeps s0 x2 := by
      unfold x2
      refine Keeps.foldl ?_ ?_
      · intro x3 x4 x5
        clear_value x2
        split
        · refine Keeps.ite ?_ ?_
          · exact State.finish_keeps x5
          · exact x5
        · exact x5
      · exact k1
    clear_value x2
    exact State.startWaiting_keeps k2

theorem State.startFromHead_keeps {s0 : State} {s : State} {f : ℕ} (h1 : Keeps s0 s) : Keeps s0 (s.startFromHead f) := by
  unfold State.startFromHead
  extract_lets +onlyGivenNames x1
  have k1 : Keeps s0 x1 := State.put_keeps (State.put_keeps h1)
  clear_value x1
  refine Keeps.ite ?_ ?_
  · exact k1
  · exact State.post_keeps (State.put_keeps k1)

theorem State.portBoundary_keeps {s0 : State} {s : State} {n : ℕ} (h1 : Keeps s0 s) : Keeps s0 (s.portBoundary n) := by
  unfold State.portBoundary
  extract_lets +onlyGivenNames x1
  clear_value x1
  split
  · exact State.sapArm_keeps (State.sapQuiet_keeps (State.put_keeps (State.putSapCfg_keeps h1)))
  · refine Keeps.ite ?_ ?_
    · exact State.sapBegin_keeps h1
    · exact h1

theorem State.portStrobeB_keeps {s0 : State} {s : State} {n : ℕ} (h1 : Keeps s0 s) : Keeps s0 (s.portStrobeB n) := by
  unfold State.portStrobeB
  extract_lets +onlyGivenNames x1
  clear_value x1
  refine Keeps.ite ?_ ?_
  · exact State.put_keeps (State.put_keeps (State.setPort_keeps h1))
  · exact h1

theorem State.portHoldover_keeps {s0 : State} {s : State} {n : ℕ} (h1 : Keeps s0 s) : Keeps s0 (s.portHoldover n) := by
  unfold State.portHoldover
  refine Keeps.ite ?_ ?_
  · exact State.put_keeps h1
  · exact h1

theorem State.portResume_keeps {s0 : State} {s : State} {n : ℕ} (h1 : Keeps s0 s) : Keeps s0 (s.portResume n) := by
  unfold State.portResume
  refine Keeps.ite ?_ ?_
  · exact State.setPort_keeps h1
  · exact h1

theorem State.rxQuiet_keeps {s0 : State} {s : State} (h1 : Keeps s0 s) : Keeps s0 s.rxQuiet := by
  unfold State.rxQuiet
  with_reducible apply State.edgeClear_keeps
  with_reducible apply State.edgeClear_keeps
  exact Keeps.same h1 rfl rfl rfl rfl

theorem State.rxLeaves_keeps {s0 : State} {s : State} (h1 : Keeps s0 s) : Keeps s0 s.rxLeaves := by
  unfold State.rxLeaves
  refine Keeps.ite ?_ ?_
  · exact State.put_keeps h1
  · exact h1

theorem State.rxHoldover_keeps {s0 : State} {s : State} (h1 : Keeps s0 s) : Keeps s0 s.rxHoldover := by
  unfold State.rxHoldover
  refine Keeps.ite ?_ ?_
  · exact State.put_keeps (State.rxLeaves_keeps h1)
  · exact h1

theorem State.rxResume_keeps {s0 : State} {s : State} (h1 : Keeps s0 s) : Keeps s0 s.rxResume := by
  unfold State.rxResume
  refine Keeps.ite ?_ ?_
  · exact State.rxQuiet_keeps (State.put_keeps h1)
  · exact h1

theorem spdRxCfgWrite_keeps {s0 : State} {v : ℕ} {s : State} (h2 : Keeps s0 s) : Keeps s0 (spdRxCfgWrite v s) := by
  unfold spdRxCfgWrite
  extract_lets +onlyGivenNames x1
  have k1 : Keeps s0 x1 := State.put_keeps (State.put_keeps (State.put_keeps h2))
  clear_value x1
  refine Keeps.ite ?_ ?_
  · extract_lets +onlyGivenNames x2
    have k2 : Keeps s0 x2 := State.rxQuiet_keeps (State.put_keeps (State.rxLeaves_keeps k1))
    clear_value x2
    exact Keeps.same k2 rfl rfl rfl rfl
  · refine Keeps.ite ?_ ?_
    · extract_lets +onlyGivenNames x3
      have k3 : Keeps s0 x3 := State.put_keeps k1
      clear_value x3
      exact Keeps.same k3 rfl rfl rfl rfl
    · refine Keeps.ite ?_ ?_
      · exact k1
      · exact Keeps.same k1 rfl rfl rfl rfl

theorem spdLock_keeps {s0 : State} {rate : ℕ} {s : State} (h2 : Keeps s0 s) : Keeps s0 (spdLock rate s) := by
  unfold spdLock
  refine Keeps.ite ?_ ?_
  · exact State.post_keeps (State.put_keeps (State.put_keeps (State.put_keeps h2)))
  · exact h2

theorem spdUnlock_keeps {s0 : State} {s : State} (h1 : Keeps s0 s) : Keeps s0 (spdUnlock s) := by
  unfold spdUnlock
  refine Keeps.ite ?_ ?_
  · exact State.post_keeps (State.rxQuiet_keeps (State.put_keeps (State.rxLeaves_keeps h1)))
  · exact h1

theorem State.monGlitch_keeps {s0 : State} {s : State} {m : ℕ} {offset : ℕ} (h1 : Keeps s0 s) : Keeps s0 (s.monGlitch m
    offset) := by
  unfold State.monGlitch
  exact State.post_keeps (State.countSlip_keeps h1)

theorem State.spdFrame_keeps {s0 : State} {s : State} {a : Word} {c : Word} (h1 : Keeps s0 s) : Keeps s0 (s.spdFrame a
    c) := by
  unfold State.spdFrame
  extract_lets +onlyGivenNames x1
  clear_value x1
  refine Keeps.ite ?_ ?_
  · extract_lets +onlyGivenNames x2
    have k2 : Keeps s0 x2 := State.followerSlip_keeps (State.bump_keeps h1)
    clear_value x2
    exact Keeps.same k2 rfl rfl rfl rfl
  · exact Keeps.same h1 rfl rfl rfl rfl

theorem State.parityError_keeps {s0 : State} {s : State} (h1 : Keeps s0 s) : Keeps s0 s.parityError := by
  unfold State.parityError
  extract_lets +onlyGivenNames x1
  clear_value x1
  extract_lets +onlyGivenNames x2
  have k2 : Keeps s0 x2 := State.put_keeps (State.bump_keeps h1)
  clear_value x2
  extract_lets +onlyGivenNames x3
  have k3 : Keeps s0 x3 := by
    unfold x3
    refine Keeps.ite ?_ ?_
    · exact State.post_keeps k2
    · exact k2
  clear_value x3
  exact Keeps.same k3 rfl rfl rfl rfl

theorem State.biphaseError_keeps {s0 : State} {s : State} {off : ℕ} (h1 : Keeps s0 s) : Keeps s0 (s.biphaseError off) := by
  unfold State.biphaseError
  extract_lets +onlyGivenNames x1
  have k1 : Keeps s0 x1 := State.monGlitch_keeps (State.bump_keeps h1)
  clear_value x1
  exact Keeps.same k1 rfl rfl rfl rfl

theorem spdSubframe_keeps {s0 : State} {ch : Bool} {slots : ℕ} {start : Bool} {err : Option ℕ} {s : State} (h5 : Keeps
    s0 s) : Keeps s0 (spdSubframe ch slots start err s) := by
  unfold spdSubframe
  refine Keeps.ite ?_ ?_
  · exact h5
  · extract_lets +onlyGivenNames x1
    clear_value x1
    extract_lets +onlyGivenNames x2
    have k2 : Keeps s0 x2 := by
      unfold x2
      exact Keeps.same h5 rfl rfl rfl rfl
    clear_value x2
    extract_lets +onlyGivenNames x3
    have k3 : Keeps s0 x3 := by
      unfold x3
      clear_value x3
      split
      · exact State.biphaseError_keeps h5
      · refine Keeps.ite ?_ ?_
        · exact k2
        · exact State.parityError_keeps k2
    clear_value x3
    extract_lets +onlyGivenNames x4
    clear_value x4
    extract_lets +onlyGivenNames x5
    extract_lets +onlyGivenNames x6
    clear_value x6
    extract_lets +onlyGivenNames x7
    clear_value x7
    refine Keeps.ite ?_ ?_
    · exact k3
    · refine Keeps.ite ?_ ?_
      · exact Keeps.same k3 rfl rfl rfl rfl
      · split
        · exact Keeps.same k3 rfl rfl rfl rfl
        · refine Keeps.ite ?_ ?_
          · exact State.spdFrame_keeps k3
          · exact State.spdFrame_keeps k3

theorem State.spdGive_keeps {s0 : State} {s : State} {a : Word} {b : Word} (h1 : Keeps s0 s) : Keeps s0 (s.spdGive a b)
    := by
  unfold State.spdGive
  exact State.edgePut_keeps (State.edgePut_keeps h1)

theorem State.spdRxTick_keeps {s0 : State} {s : State} (h1 : Keeps s0 s) : Keeps s0 s.spdRxTick := by
  unfold State.spdRxTick
  extract_lets +onlyGivenNames x1
  clear_value x1
  extract_lets +onlyGivenNames x2
  extract_lets +onlyGivenNames x3
  split
  · split
    · unfold x3
      with_reducible apply State.spdGive_keeps
      refine Keeps.mk ?_
      exact Keeps.same h1 rfl rfl rfl rfl
    · refine Keeps.ite ?_ ?_
      · with_reducible apply State.followerSlip_keeps
        with_reducible apply State.bump_keeps
        unfold x3
        with_reducible apply State.spdGive_keeps
        exact Keeps.same h1 rfl rfl rfl rfl
      · exact State.spdGive_keeps h1
  · unfold x3
    with_reducible apply State.spdGive_keeps
    exact Keeps.same h1 rfl rfl rfl rfl
  · exact State.spdGive_keeps h1
  · exact State.edgeClear_keeps (State.edgeClear_keeps h1)

theorem State.putSix_keeps {s0 : State} {s : State} {f : ℕ → Fld} {ws : List ℕ} (h1 : Keeps s0 s) : Keeps s0 (s.putSix f
    ws) := by
  unfold State.putSix
  refine Keeps.foldl ?_ ?_
  · intro x1 x2 x3
    exact State.put_keeps x3
  · exact h1

theorem spdBlockEnd_keeps {s0 : State} {s : State} (h1 : Keeps s0 s) : Keeps s0 (spdBlockEnd s) := by
  unfold spdBlockEnd
  refine Keeps.ite ?_ ?_
  · exact h1
  · extract_lets +onlyGivenNames x1
    clear_value x1
    extract_lets +onlyGivenNames x2
    clear_value x2
    extract_lets +onlyGivenNames x3
    clear_value x3
    extract_lets +onlyGivenNames x4
    have k4 : Keeps s0 x4 := State.putSix_keeps (State.putSix_keeps h1)
    clear_value x4
    extract_lets +onlyGivenNames x5
    have k5 : Keeps s0 x5 := State.put_keeps k4
    clear_value x5
    extract_lets +onlyGivenNames x6
    clear_value x6
    extract_lets +onlyGivenNames x7
    have k7 : Keeps s0 x7 := by
      unfold x7
      exact Keeps.same k5 rfl rfl rfl rfl
    clear_value x7
    extract_lets +onlyGivenNames x8
    have k8 : Keeps s0 x8 := by
      unfold x8
      refine Keeps.ite ?_ ?_
      · exact State.post_keeps (State.put_keeps k7)
      · exact k7
    clear_value x8
    extract_lets +onlyGivenNames x9
    clear_value x9
    extract_lets +onlyGivenNames x10
    have k10 : Keeps s0 x10 := State.put_keeps k8
    clear_value x10
    refine Keeps.ite ?_ ?_
    · exact k10
    · exact State.post_keeps (State.put_keeps k10)

theorem spdTxCfgWrite_keeps {s0 : State} {v : ℕ} {s : State} (h2 : Keeps s0 s) : Keeps s0 (spdTxCfgWrite v s) := by
  unfold spdTxCfgWrite
  extract_lets +onlyGivenNames x1
  have k1 : Keeps s0 x1 := State.put_keeps (State.put_keeps (State.put_keeps (State.put_keeps (State.put_keeps h2))))
  clear_value x1
  extract_lets +onlyGivenNames x2
  have k2 : Keeps s0 x2 := State.put_keeps k1
  clear_value x2
  refine Keeps.ite ?_ ?_
  · extract_lets +onlyGivenNames x3
    have k3 : Keeps s0 x3 := State.put_keeps k2
    clear_value x3
    exact Keeps.same k3 rfl rfl rfl rfl
  · refine Keeps.ite ?_ ?_
    · exact k2
    · refine Keeps.ite ?_ ?_
      · extract_lets +onlyGivenNames x4
        have k4 : Keeps s0 x4 := State.put_keeps k2
        clear_value x4
        exact Keeps.same k4 rfl rfl rfl rfl
      · extract_lets +onlyGivenNames x5
        have k5 : Keeps s0 x5 := State.put_keeps k2
        clear_value x5
        exact Keeps.same k5 rfl rfl rfl rfl

theorem txCsCommit_keeps {s0 : State} {v : ℕ} {s : State} (h2 : Keeps s0 s) : Keeps s0 (txCsCommit v s) := by
  unfold txCsCommit
  extract_lets +onlyGivenNames x1
  have k1 : Keeps s0 x1 := State.put_keeps (State.put_keeps h2)
  clear_value x1
  exact Keeps.same k1 rfl rfl rfl rfl

theorem txUdCommit_keeps {s0 : State} {v : ℕ} {s : State} (h2 : Keeps s0 s) : Keeps s0 (txUdCommit v s) := by
  unfold txUdCommit
  extract_lets +onlyGivenNames x1
  have k1 : Keeps s0 x1 := State.put_keeps (State.put_keeps h2)
  clear_value x1
  exact Keeps.same k1 rfl rfl rfl rfl

theorem spdTxBlockStart_keeps {s0 : State} {s : State} (h1 : Keeps s0 s) : Keeps s0 (spdTxBlockStart s) := by
  unfold spdTxBlockStart
  extract_lets +onlyGivenNames x1
  clear_value x1
  refine Keeps.ite ?_ ?_
  · exact h1
  · extract_lets +onlyGivenNames x2
    clear_value x2
    extract_lets +onlyGivenNames x3
    clear_value x3
    extract_lets +onlyGivenNames x4
    clear_value x4
    extract_lets +onlyGivenNames x5
    clear_value x5
    extract_lets +onlyGivenNames x6
    have k6 : Keeps s0 x6 := State.put_keeps h1
    clear_value x6
    extract_lets +onlyGivenNames x7
    have k7 : Keeps s0 x7 := State.put_keeps k6
    clear_value x7
    exact Keeps.same k7 rfl rfl rfl rfl

theorem State.spdTxTick_keeps {s0 : State} {s : State} (h1 : Keeps s0 s) : Keeps s0 s.spdTxTick := by
  unfold State.spdTxTick
  extract_lets +onlyGivenNames x1
  clear_value x1
  extract_lets +onlyGivenNames x2
  have k2 : Keeps s0 x2 := State.put_keeps h1
  clear_value x2
  extract_lets +onlyGivenNames x3
  have k3 : Keeps s0 x3 := by
    unfold x3
    refine Keeps.ite ?_ ?_
    · exact Keeps.same k2 rfl rfl rfl rfl
    · exact h1
  clear_value x3
  extract_lets +onlyGivenNames x4
  clear_value x4
  extract_lets +onlyGivenNames x5
  clear_value x5
  extract_lets +onlyGivenNames x6
  clear_value x6
  extract_lets +onlyGivenNames x7
  clear_value x7
  extract_lets +onlyGivenNames x8
  have k8 : Keeps s0 x8 := State.put_keeps k3
  clear_value x8
  refine Keeps.ite ?_ ?_
  · exact Keeps.same k8 rfl rfl rfl rfl
  · extract_lets +onlyGivenNames x9
    have k9 : Keeps s0 x9 := by
      unfold x9
      refine Keeps.ite ?_ ?_
      · exact spdTxBlockStart_keeps k8
      · exact k8
    clear_value x9
    extract_lets +onlyGivenNames x10
    clear_value x10
    extract_lets +onlyGivenNames x11
    extract_lets +onlyGivenNames x12
    clear_value x12
    extract_lets +onlyGivenNames x13
    exact Keeps.same k9 rfl rfl rfl rfl

theorem State.spdBoundary_keeps {s0 : State} {s : State} (h1 : Keeps s0 s) : Keeps s0 s.spdBoundary := by
  unfold State.spdBoundary
  refine Keeps.ite ?_ ?_
  · exact Keeps.same h1 rfl rfl rfl rfl
  · exact h1

theorem State.domaHold_keeps {s0 : State} {s : State} (h1 : Keeps s0 s) : Keeps s0 s.domaHold := by
  unfold State.domaHold
  refine Keeps.ite ?_ ?_
  · exact h1
  · exact State.post_keeps (State.put_keeps (State.put_keeps h1))

theorem State.domcLocked_keeps {s0 : State} {s : State} (h1 : Keeps s0 s) : Keeps s0 s.domcLocked := by
  unfold State.domcLocked
  exact State.post_keeps (State.put_keeps (State.put_keeps h1))

theorem State.domcSlew_keeps {s0 : State} {s : State} (h1 : Keeps s0 s) : Keeps s0 s.domcSlew := by
  unfold State.domcSlew
  extract_lets +onlyGivenNames x1
  clear_value x1
  extract_lets +onlyGivenNames x2
  have k2 : Keeps s0 x2 := State.free_keeps h1
  clear_value x2
  extract_lets +onlyGivenNames x3
  clear_value x3
  extract_lets +onlyGivenNames x4
  clear_value x4
  extract_lets +onlyGivenNames x5
  have k5 : Keeps s0 x5 := by
    unfold x5
    exact Keeps.same k2 rfl rfl rfl rfl
  clear_value x5
  refine Keeps.ite ?_ ?_
  · exact State.domcLocked_keeps k5
  · exact State.put_keeps (State.put_keeps k5)

theorem State.domcFree_keeps {s0 : State} {s : State} (h1 : Keeps s0 s) : Keeps s0 s.domcFree := by
  unfold State.domcFree
  exact State.put_keeps (State.put_keeps h1)

theorem State.domcStep_keeps {s0 : State} {s : State} (h1 : Keeps s0 s) : Keeps s0 s.domcStep := by
  unfold State.domcStep
  refine Keeps.ite ?_ ?_
  · extract_lets +onlyGivenNames x1
    clear_value x1
    refine Keeps.ite ?_ ?_
    · exact State.domcLocked_keeps h1
    · exact State.put_keeps h1
  · exact h1

theorem State.clockHold_keeps {s0 : State} {s : State} {m : ℕ} (h1 : Keeps s0 s) : Keeps s0 (s.clockHold m) := by
  unfold State.clockHold
  refine Keeps.ite ?_ ?_
  · exact State.portHoldover_keeps h1
  · refine Keeps.ite ?_ ?_
    · exact State.rxHoldover_keeps h1
    · exact State.domaHold_keeps h1

theorem State.clockGo_keeps {s0 : State} {s : State} {m : ℕ} (h1 : Keeps s0 s) : Keeps s0 (s.clockGo m) := by
  unfold State.clockGo
  refine Keeps.ite ?_ ?_
  · exact State.portResume_keeps h1
  · refine Keeps.ite ?_ ?_
    · exact State.rxResume_keeps h1
    · exact h1

theorem State.sourceGo_keeps {s0 : State} {s : State} {a2 : Option ℕ} (h1 : Keeps s0 s) : Keeps s0 (s.sourceGo a2) := by
  unfold State.sourceGo
  split
  · refine Keeps.ite ?_ ?_
    · exact State.clockGo_keeps h1
    · exact h1
  · exact h1

theorem State.sourceConflict_keeps {s0 : State} {s : State} {src : ℕ} (h1 : Keeps s0 s) : Keeps s0 (s.sourceConflict
    src) := by
  unfold State.sourceConflict
  extract_lets +onlyGivenNames x1
  clear_value x1
  refine Keeps.ite ?_ ?_
  · exact State.sapReject_keeps h1
  · exact h1

theorem clkDombCfgWrite_keeps {s0 : State} {v : ℕ} {s : State} (h2 : Keeps s0 s) : Keeps s0 (clkDombCfgWrite v s) := by
  unfold clkDombCfgWrite
  extract_lets +onlyGivenNames x1
  clear_value x1
  extract_lets +onlyGivenNames x2
  clear_value x2
  refine Keeps.ite ?_ ?_
  · exact h2
  · extract_lets +onlyGivenNames x3
    clear_value x3
    extract_lets +onlyGivenNames x4
    have k4 : Keeps s0 x4 := State.put_keeps (State.put_keeps (State.put_keeps (State.put_keeps h2)))
    clear_value x4
    extract_lets +onlyGivenNames x5
    have k5 : Keeps s0 x5 := State.put_keeps (State.put_keeps k4)
    clear_value x5
    extract_lets +onlyGivenNames x6
    have k6 : Keeps s0 x6 := by
      unfold x6
      refine Keeps.ite ?_ ?_
      · exact Keeps.same k4 rfl rfl rfl rfl
      · exact Keeps.same k5 rfl rfl rfl rfl
    clear_value x6
    exact State.sourceConflict_keeps (State.sourceGo_keeps k6)

theorem State.dombStrobe_keeps {s0 : State} {s : State} (h1 : Keeps s0 s) : Keeps s0 s.dombStrobe := by
  unfold State.dombStrobe
  refine Keeps.ite ?_ ?_
  · extract_lets +onlyGivenNames x1
    have k1 : Keeps s0 x1 := State.put_keeps (State.put_keeps h1)
    clear_value x1
    exact Keeps.same k1 rfl rfl rfl rfl
  · exact h1

theorem dombLocked_keeps {s0 : State} {meas : ℕ} {s : State} (h2 : Keeps s0 s) : Keeps s0 (dombLocked meas s) := by
  unfold dombLocked
  refine Keeps.ite ?_ ?_
  · exact State.put_keeps (State.put_keeps h2)
  · exact h2

theorem State.dombHold_keeps {s0 : State} {s : State} (h1 : Keeps s0 s) : Keeps s0 s.dombHold := by
  unfold State.dombHold
  extract_lets +onlyGivenNames x1
  clear_value x1
  refine Keeps.ite ?_ ?_
  · extract_lets +onlyGivenNames x2
    have k2 : Keeps s0 x2 := State.put_keeps h1
    clear_value x2
    exact Keeps.same k2 rfl rfl rfl rfl
  · exact h1

theorem dombHoldEnd_keeps {s0 : State} {s : State} (h1 : Keeps s0 s) : Keeps s0 (dombHoldEnd s) := by
  unfold dombHoldEnd
  extract_lets +onlyGivenNames x1
  clear_value x1
  refine Keeps.ite ?_ ?_
  · exact State.post_keeps (State.put_keeps (State.put_keeps h1))
  · exact h1

theorem State.dombFault_keeps {s0 : State} {s : State} {meas : ℕ} (h1 : Keeps s0 s) : Keeps s0 (s.dombFault meas) := by
  unfold State.dombFault
  refine Keeps.ite ?_ ?_
  · exact h1
  · extract_lets +onlyGivenNames x1
    have k1 : Keeps s0 x1 := State.post_keeps (State.put_keeps (State.put_keeps h1))
    clear_value x1
    split
    · exact State.clockHold_keeps k1
    · exact k1

theorem State.dombNewRate_keeps {s0 : State} {s : State} {meas : ℕ} (h1 : Keeps s0 s) : Keeps s0 (s.dombNewRate meas) := by
  unfold State.dombNewRate
  split
  · refine Keeps.ite ?_ ?_
    · refine Keeps.ite ?_ ?_
      · exact h1
      · exact State.put_keeps h1
    · refine Keeps.ite ?_ ?_
      · exact State.put_keeps (State.put_keeps h1)
      · exact State.dombFault_keeps h1
  · exact State.dombFault_keeps h1

theorem State.dombResume_keeps {s0 : State} {s : State} {meas : ℕ} (h1 : Keeps s0 s) : Keeps s0 (s.dombResume meas) := by
  unfold State.dombResume
  refine Keeps.ite ?_ ?_
  · refine Keeps.ite ?_ ?_
    · exact State.put_keeps (State.put_keeps h1)
    · exact State.dombNewRate_keeps h1
  · refine Keeps.ite ?_ ?_
    · exact State.put_keeps h1
    · exact State.dombNewRate_keeps h1

theorem State.monBoundary_keeps {s0 : State} {s : State} {m : ℕ} {p : ℕ} {edge : Bool} (h1 : Keeps s0 s) : Keeps s0
    (s.monBoundary m p edge) := by
  unfold State.monBoundary
  refine Keeps.ite ?_ ?_
  · refine Keeps.ite ?_ ?_
    · exact h1
    · extract_lets +onlyGivenNames x1
      have k1 : Keeps s0 x1 := State.put_keeps h1
      clear_value x1
      exact Keeps.same k1 rfl rfl rfl rfl
  · extract_lets +onlyGivenNames x2
    clear_value x2
    extract_lets +onlyGivenNames x3
    have k3 : Keeps s0 x3 := by
      unfold x3
      refine Keeps.ite ?_ ?_
      · exact State.put_keeps h1
      · refine Keeps.ite ?_ ?_
        · exact State.put_keeps h1
        · exact h1
    clear_value x3
    refine Keeps.ite ?_ ?_
    · exact k3
    · extract_lets +onlyGivenNames x4
      have k4 : Keeps s0 x4 := State.put_keeps k3
      clear_value x4
      refine Keeps.ite ?_ ?_
      · exact k4
      · exact Keeps.same k4 rfl rfl rfl rfl

theorem State.monStopped_keeps {s0 : State} {s : State} {m : ℕ} (h1 : Keeps s0 s) : Keeps s0 (s.monStopped m) := by
  unfold State.monStopped
  extract_lets +onlyGivenNames x1
  have k1 : Keeps s0 x1 := State.setBit_keeps (State.bump_keeps (State.put_keeps h1))
  clear_value x1
  exact Keeps.same k1 rfl rfl rfl rfl

theorem clkStop_keeps {s0 : State} {m : ℕ} {s : State} (h2 : Keeps s0 s) : Keeps s0 (clkStop m s) := by
  unfold clkStop
  refine Keeps.ite ?_ ?_
  · exact h2
  · extract_lets +onlyGivenNames x1
    have k1 : Keeps s0 x1 := State.monStopped_keeps h2
    clear_value x1
    extract_lets +onlyGivenNames x2
    have k2 : Keeps s0 x2 := State.post_keeps k1
    clear_value x2
    extract_lets +onlyGivenNames x3
    have k3 : Keeps s0 x3 := State.clockHold_keeps k2
    clear_value x3
    refine Keeps.ite ?_ ?_
    · exact State.dombHold_keeps k3
    · exact k3

theorem clkSlip_keeps {s0 : State} {m : ℕ} {offset : ℕ} {s : State} (h3 : Keeps s0 s) : Keeps s0 (clkSlip m offset s) := by
  unfold clkSlip
  refine Keeps.ite ?_ ?_
  · exact h3
  · extract_lets +onlyGivenNames x1
    have k1 : Keeps s0 x1 := State.monGlitch_keeps h3
    clear_value x1
    refine Keeps.ite ?_ ?_
    · exact State.setPort_keeps k1
    · refine Keeps.ite ?_ ?_
      · exact Keeps.same k1 rfl rfl rfl rfl
      · exact k1

theorem clkResume_keeps {s0 : State} {m : ℕ} {period : ℕ} {rate : ℕ} {s : State} (h4 : Keeps s0 s) : Keeps s0 (clkResume
    m period rate s) := by
  unfold clkResume
  refine Keeps.ite ?_ ?_
  · exact h4
  · extract_lets +onlyGivenNames x1
    have k1 : Keeps s0 x1 := State.put_keeps (State.put_keeps h4)
    clear_value x1
    extract_lets +onlyGivenNames x2
    have k2 : Keeps s0 x2 := State.post_keeps k1
    clear_value x2
    extract_lets +onlyGivenNames x3
    have k3 : Keeps s0 x3 := by
      unfold x3
      exact Keeps.same k2 rfl rfl rfl rfl
    clear_value x3
    extract_lets +onlyGivenNames x4
    have k4 : Keeps s0 x4 := by
      unfold x4
      refine Keeps.ite ?_ ?_
      · exact State.dombResume_keeps k3
      · exact k3
    clear_value x4
    refine Keeps.ite ?_ ?_
    · exact k4
    · exact State.clockGo_keeps k4

theorem State.rateChange_keeps {s0 : State} {s : State} {m : ℕ} {old : ℕ} {meas : ℕ} (h1 : Keeps s0 s) : Keeps s0
    (s.rateChange m old meas) := by
  unfold State.rateChange
  have k := State.post_keeps (code := 0x0203) (sev := sevWarn) (payload := pack [p16 m, p32 old, p32 meas])
    (Keeps.same (t := { (s.bump (CLK_MON_CNT_RATE_CHG m)).setBit CLK_EVT_SUM_RATE m with
      monRate := mapInsert ((s.bump (CLK_MON_CNT_RATE_CHG m)).setBit CLK_EVT_SUM_RATE m).monRate m meas })
      (State.setBit_keeps (f := CLK_EVT_SUM_RATE) (i := m) (State.bump_keeps (f := CLK_MON_CNT_RATE_CHG m) h1)) rfl rfl rfl rfl)
  have k2 := State.dombNewRate_keeps (meas := meas) k
  exact Keeps.ite k (Keeps.ite k2 (State.clockGo_keeps k2))

theorem clkRate_keeps {s0 : State} {m : ℕ} {meas : ℕ} {s : State} (h3 : Keeps s0 s) : Keeps s0 (clkRate m meas s) := by
  unfold clkRate
  exact Keeps.ite h3 (State.rateChange_keeps h3)

theorem State.setBrg_keeps {s0 : State} {s : State} {b : ℕ} {x : Brg} (h1 : Keeps s0 s) : Keeps s0 (s.setBrg b x) := by
  unfold State.setBrg
  exact Keeps.same h1 rfl rfl rfl rfl

theorem State.brgLeaves_keeps {s0 : State} {s : State} {b : ℕ} (h1 : Keeps s0 s) : Keeps s0 (s.brgLeaves b) := by
  unfold State.brgLeaves
  refine Keeps.ite ?_ ?_
  · exact State.setBit_keeps h1
  · exact h1

theorem State.brgOff_keeps {s0 : State} {s : State} {b : ℕ} (h1 : Keeps s0 s) : Keeps s0 (s.brgOff b) := by
  unfold State.brgOff
  extract_lets +onlyGivenNames x1
  have k1 : Keeps s0 x1 := State.put_keeps (State.put_keeps (State.put_keeps (State.brgLeaves_keeps h1)))
  clear_value x1
  extract_lets +onlyGivenNames x2
  have k2 : Keeps s0 x2 := State.setBrg_keeps k1
  clear_value x2
  refine Keeps.foldl ?_ ?_
  · intro x3 x4 x5
    exact State.edgeClear_keeps x5
  · exact k2

theorem State.putBrgCfg_keeps {s0 : State} {s : State} {b : ℕ} {v : ℕ} (h1 : Keeps s0 s) : Keeps s0 (s.putBrgCfg b v) := by
  unfold State.putBrgCfg
  exact State.put_keeps (State.put_keeps (State.put_keeps (State.put_keeps (State.put_keeps h1))))

theorem brgCfgWrite_keeps {s0 : State} {b : ℕ} {v : ℕ} {s : State} (h3 : Keeps s0 s) : Keeps s0 (brgCfgWrite b v s) := by
  unfold brgCfgWrite
  extract_lets +onlyGivenNames x1
  have k1 : Keeps s0 x1 := State.putBrgCfg_keeps (State.brgOff_keeps h3)
  clear_value x1
  exact State.put_keeps k1

theorem State.brgAcquire_keeps {s0 : State} {s : State} {b : ℕ} (h1 : Keeps s0 s) : Keeps s0 (s.brgAcquire b) := by
  unfold State.brgAcquire
  exact State.setBrg_keeps (State.put_keeps (State.put_keeps h1))

theorem brgSettle_keeps {s0 : State} {b : ℕ} {ratio : ℕ} {s : State} (h3 : Keeps s0 s) : Keeps s0 (brgSettle b ratio s)
    := by
  unfold brgSettle
  refine Keeps.ite ?_ ?_
  · extract_lets +onlyGivenNames x1
    have k1 : Keeps s0 x1 := State.put_keeps (State.put_keeps h3)
    clear_value x1
    exact State.setBrg_keeps (State.put_keeps k1)
  · exact h3

theorem brgLock_keeps {s0 : State} {b : ℕ} {s : State} (h2 : Keeps s0 s) : Keeps s0 (brgLock b s) := by
  unfold brgLock
  refine Keeps.ite ?_ ?_
  · exact State.post_keeps (State.put_keeps h2)
  · exact h2

theorem brgUnlock_keeps {s0 : State} {b : ℕ} {ratio : ℕ} {s : State} (h3 : Keeps s0 s) : Keeps s0 (brgUnlock b ratio s)
    := by
  unfold brgUnlock
  extract_lets +onlyGivenNames x1
  clear_value x1
  extract_lets +onlyGivenNames x2
  clear_value x2
  refine Keeps.ite ?_ ?_
  · exact h3
  · extract_lets +onlyGivenNames x3
    clear_value x3
    extract_lets +onlyGivenNames x4
    have k4 : Keeps s0 x4 := by
      unfold x4
      refine Keeps.ite ?_ ?_
      · exact h3
      · exact State.post_keeps (State.brgLeaves_keeps (State.bump_keeps h3))
    clear_value x4
    extract_lets +onlyGivenNames x5
    have k5 : Keeps s0 x5 := State.put_keeps k4
    clear_value x5
    refine Keeps.ite ?_ ?_
    · exact k5
    · exact State.brgAcquire_keeps k5

theorem bridgeHold_keeps {s0 : State} {b : ℕ} {s : State} (h2 : Keeps s0 s) : Keeps s0 (bridgeHold b s) := by
  unfold bridgeHold
  refine Keeps.ite ?_ ?_
  · exact h2
  · exact State.put_keeps (State.put_keeps (State.brgLeaves_keeps h2))

theorem bridgeResume_keeps {s0 : State} {b : ℕ} {s : State} (h2 : Keeps s0 s) : Keeps s0 (bridgeResume b s) := by
  unfold bridgeResume
  refine Keeps.ite ?_ ?_
  · exact State.brgAcquire_keeps h2
  · exact h2

theorem State.brgFill_keeps {s0 : State} {s : State} {b : ℕ} (h1 : Keeps s0 s) : Keeps s0 (s.brgFill b) := by
  unfold State.brgFill
  exact State.put_keeps h1

theorem State.brgAdvance_keeps {s0 : State} {s : State} {b : ℕ} {now : ℕ} (h1 : Keeps s0 s) : Keeps s0 (s.brgAdvance b
    now) := by
  unfold State.brgAdvance
  extract_lets +onlyGivenNames x1
  clear_value x1
  extract_lets +onlyGivenNames x2
  clear_value x2
  extract_lets +onlyGivenNames x3
  clear_value x3
  extract_lets +onlyGivenNames x4
  clear_value x4
  extract_lets +onlyGivenNames x5
  clear_value x5
  extract_lets +onlyGivenNames x6
  clear_value x6
  exact State.brgFill_keeps (State.setBrg_keeps h1)

theorem brgSlip_keeps {s0 : State} {b : ℕ} {s : State} (h2 : Keeps s0 s) : Keeps s0 (brgSlip b s) := by
  unfold brgSlip
  extract_lets +onlyGivenNames x1
  clear_value x1
  refine Keeps.ite ?_ ?_
  · extract_lets +onlyGivenNames x2
    clear_value x2
    extract_lets +onlyGivenNames x3
    clear_value x3
    extract_lets +onlyGivenNames x4
    have k4 : Keeps s0 x4 := State.brgFill_keeps (State.setBrg_keeps h2)
    clear_value x4
    exact State.post_keeps (State.setBit_keeps (State.bump_keeps k4))
  · exact h2

theorem State.brgInput_keeps {s0 : State} {s : State} {b : ℕ} {now : ℕ} (h1 : Keeps s0 s) : Keeps s0 (s.brgInput b now)
    := by
  unfold State.brgInput
  refine Keeps.ite ?_ ?_
  · exact h1
  · extract_lets +onlyGivenNames x1
    clear_value x1
    extract_lets +onlyGivenNames x2
    have k2 : Keeps s0 x2 := State.setBrg_keeps h1
    clear_value x2
    with_reducible apply State.brgFill_keeps
    refine Keeps.foldl ?_ ?_
    · intro x3 x4 x5
      extract_lets +onlyGivenNames x6
      clear_value x6
      extract_lets +onlyGivenNames x7
      clear_value x7
      exact State.setBrg_keeps x5
    · exact k2

theorem State.brgEnable_keeps {s0 : State} {s : State} {b : ℕ} (h1 : Keeps s0 s) : Keeps s0 (s.brgEnable b) := by
  unfold State.brgEnable
  refine Keeps.ite ?_ ?_
  · exact State.brgAcquire_keeps h1
  · exact h1

theorem State.brgCells_keeps {s0 : State} {s : State} {b : ℕ} {now : ℕ} (h1 : Keeps s0 s) : Keeps s0 (s.brgCells b now)
    := by
  unfold State.brgCells
  extract_lets +onlyGivenNames x1
  clear_value x1
  refine Keeps.ite ?_ ?_
  · exact h1
  · extract_lets +onlyGivenNames x2
    clear_value x2
    extract_lets +onlyGivenNames x3
    have k3 : Keeps s0 x3 := State.brgAdvance_keeps (State.setBrg_keeps h1)
    clear_value x3
    extract_lets +onlyGivenNames x4
    have k4 : Keeps s0 x4 := by
      unfold x4
      refine Keeps.ite ?_ ?_
      · exact State.put_keeps k3
      · exact k3
    clear_value x4
    refine Keeps.foldl ?_ ?_
    · intro x5 x6 x7
      extract_lets +onlyGivenNames x8
      clear_value x8
      extract_lets +onlyGivenNames x9
      clear_value x9
      exact State.edgePut_keeps (State.setBrg_keeps x7)
    · exact k4

theorem State.brgOutTick_keeps {s0 : State} {s : State} {dom : ℕ} {k : ℕ} (h1 : Keeps s0 s) : Keeps s0 (s.brgOutTick dom
    k) := by
  unfold State.brgOutTick
  refine Keeps.foldl ?_ ?_
  · intro x1 x2 x3
    refine Keeps.ite ?_ ?_
    · exact State.brgCells_keeps (State.brgEnable_keeps x3)
    · exact x3
  · exact h1

theorem State.brgInTick_keeps {s0 : State} {s : State} {dom : ℕ} {now : ℕ} (h1 : Keeps s0 s) : Keeps s0 (s.brgInTick dom
    now) := by
  unfold State.brgInTick
  refine Keeps.foldl ?_ ?_
  · intro x1 x2 x3
    refine Keeps.ite ?_ ?_
    · exact State.brgInput_keeps x3
    · exact x3
  · exact h1

theorem State.setAin_keeps {s0 : State} {s : State} {n : ℕ} {x : Ain} (h1 : Keeps s0 s) : Keeps s0 (s.setAin n x) := by
  unfold State.setAin
  exact Keeps.same h1 rfl rfl rfl rfl

theorem State.showSettle_keeps {s0 : State} {s : State} {n : ℕ} (h1 : Keeps s0 s) : Keeps s0 (s.showSettle n) := by
  unfold State.showSettle
  extract_lets +onlyGivenNames x1
  clear_value x1
  exact State.put_keeps h1

theorem State.ainUnsettled_keeps {s0 : State} {s : State} {n : ℕ} (h1 : Keeps s0 s) : Keeps s0 (s.ainUnsettled n) := by
  unfold State.ainUnsettled
  refine Keeps.ite ?_ ?_
  · exact State.put_keeps (State.showSettle_keeps h1)
  · exact State.showSettle_keeps h1

theorem State.ainSettle_keeps {s0 : State} {s : State} {n : ℕ} {z : ℕ} {a : ℕ} (h1 : Keeps s0 s) : Keeps s0 (s.ainSettle
    n z a) := by
  unfold State.ainSettle
  extract_lets +onlyGivenNames x1
  clear_value x1
  exact State.ainUnsettled_keeps (State.setAin_keeps h1)

theorem State.ainBiasSettle_keeps {s0 : State} {s : State} {n : ℕ} {ramp : ℕ} (h1 : Keeps s0 s) : Keeps s0
    (s.ainBiasSettle n ramp) := by
  unfold State.ainBiasSettle
  extract_lets +onlyGivenNames x1
  clear_value x1
  exact State.ainUnsettled_keeps (State.setAin_keeps h1)

theorem State.ainOff_keeps {s0 : State} {s : State} {n : ℕ} (h1 : Keeps s0 s) : Keeps s0 (s.ainOff n) := by
  unfold State.ainOff
  exact State.edgeClear_keeps (State.setAin_keeps (State.put_keeps (State.put_keeps (State.put_keeps (State.put_keeps h1)))))

theorem State.ainStep_keeps {s0 : State} {s : State} {n : ℕ} (h1 : Keeps s0 s) : Keeps s0 (s.ainStep n) := by
  unfold State.ainStep
  extract_lets +onlyGivenNames x1
  have k1 : Keeps s0 x1 := State.bump_keeps (State.put_keeps h1)
  clear_value x1
  extract_lets +onlyGivenNames x2
  clear_value x2
  extract_lets +onlyGivenNames x3
  have k3 : Keeps s0 x3 := State.setAin_keeps (State.put_keeps k1)
  clear_value x3
  exact State.ainSettle_keeps k3

theorem State.putAinCfg_keeps {s0 : State} {s : State} {n : ℕ} {v : ℕ} (h1 : Keeps s0 s) : Keeps s0 (s.putAinCfg n v) := by
  unfold State.putAinCfg
  extract_lets +onlyGivenNames x1
  have k1 : Keeps s0 x1 := State.put_keeps (State.put_keeps (State.put_keeps (State.put_keeps h1)))
  clear_value x1
  exact State.put_keeps (State.put_keeps (State.put_keeps (State.put_keeps k1)))

theorem State.ainChanges_keeps {s0 : State} {s : State} {old : State} {n : ℕ} (h1 : Keeps s0 s) (h2 : Keeps s0 old) :
    Keeps s0 (s.ainChanges old n) := by
  unfold State.ainChanges
  extract_lets +onlyGivenNames x1
  extract_lets +onlyGivenNames x2
  clear_value x2
  extract_lets +onlyGivenNames x3
  have k3 : Keeps s0 x3 := by
    unfold x3
    refine Keeps.ite ?_ ?_
    · exact State.ainSettle_keeps h1
    · exact h1
  clear_value x3
  extract_lets +onlyGivenNames x4
  clear_value x4
  extract_lets +onlyGivenNames x5
  have k5 : Keeps s0 x5 := by
    unfold x5
    refine Keeps.ite ?_ ?_
    · refine Keeps.ite ?_ ?_
      · exact State.setAin_keeps (State.put_keeps k3)
      · exact State.ainStep_keeps k3
    · exact k3
  clear_value x5
  extract_lets +onlyGivenNames x6
  have k6 : Keeps s0 x6 := by
    unfold x6
    refine Keeps.ite ?_ ?_
    · exact State.ainSettle_keeps k5
    · exact k5
  clear_value x6
  extract_lets +onlyGivenNames x7
  have k7 : Keeps s0 x7 := by
    unfold x7
    refine Keeps.ite ?_ ?_
    · exact State.ainSettle_keeps k6
    · exact k6
  clear_value x7
  refine Keeps.ite ?_ ?_
  · exact State.ainBiasSettle_keeps (State.setAin_keeps k7)
  · exact k7

theorem ainCfgWrite_keeps {s0 : State} {n : ℕ} {v : ℕ} {s : State} (h3 : Keeps s0 s) : Keeps s0 (ainCfgWrite n v s) := by
  unfold ainCfgWrite
  extract_lets +onlyGivenNames x1
  have k1 : Keeps s0 x1 := h3
  clear_value x1
  extract_lets +onlyGivenNames x2
  have k2 : Keeps s0 x2 := State.putAinCfg_keeps h3
  clear_value x2
  refine Keeps.ite ?_ ?_
  · exact State.post_keeps (State.setBit_keeps (State.put_keeps (State.ainOff_keeps k2)))
  · extract_lets +onlyGivenNames x3
    have k3 : Keeps s0 x3 := State.put_keeps k2
    clear_value x3
    refine Keeps.ite ?_ ?_
    · exact State.ainOff_keeps k3
    · refine Keeps.ite ?_ ?_
      · exact State.setAin_keeps k3
      · refine Keeps.ite ?_ ?_
        · exact k3
        · with_reducible apply State.ainChanges_keeps
          · exact k3
          · exact k1

theorem State.ainBegin_keeps {s0 : State} {s : State} {n : ℕ} (h1 : Keeps s0 s) : Keeps s0 (s.ainBegin n) := by
  unfold State.ainBegin
  refine Keeps.ite ?_ ?_
  · extract_lets +onlyGivenNames x1
    clear_value x1
    extract_lets +onlyGivenNames x2
    have k2 : Keeps s0 x2 := State.put_keeps (State.put_keeps h1)
    clear_value x2
    extract_lets +onlyGivenNames x3
    clear_value x3
    extract_lets +onlyGivenNames x4
    have k4 : Keeps s0 x4 := State.setAin_keeps k2
    clear_value x4
    refine Keeps.ite ?_ ?_
    · exact State.ainBiasSettle_keeps k4
    · exact State.showSettle_keeps k4
  · exact h1

theorem ainStartingEnd_keeps {s0 : State} {n : ℕ} {s : State} (h2 : Keeps s0 s) : Keeps s0 (ainStartingEnd n s) := by
  unfold ainStartingEnd
  refine Keeps.ite ?_ ?_
  · extract_lets +onlyGivenNames x1
    have k1 : Keeps s0 x1 := State.put_keeps (State.put_keeps h2)
    clear_value x1
    extract_lets +onlyGivenNames x2
    clear_value x2
    extract_lets +onlyGivenNames x3
    clear_value x3
    extract_lets +onlyGivenNames x4
    have k4 : Keeps s0 x4 := State.setAin_keeps k1
    clear_value x4
    refine Keeps.ite ?_ ?_
    · exact State.ainBiasSettle_keeps k4
    · refine Keeps.ite ?_ ?_
      · exact State.ainBiasSettle_keeps k4
      · exact State.showSettle_keeps k4
  · exact h2

theorem ainSettleEnd_keeps {s0 : State} {n : ℕ} {s : State} (h2 : Keeps s0 s) : Keeps s0 (ainSettleEnd n s) := by
  unfold ainSettleEnd
  extract_lets +onlyGivenNames x1
  clear_value x1
  refine Keeps.ite ?_ ?_
  · exact State.put_keeps h2
  · exact h2

theorem ainZcTimeout_keeps {s0 : State} {n : ℕ} {s : State} (h2 : Keeps s0 s) : Keeps s0 (ainZcTimeout n s) := by
  unfold ainZcTimeout
  split
  · refine Keeps.ite ?_ ?_
    · extract_lets +onlyGivenNames x1
      have k1 : Keeps s0 x1 := State.setBit_keeps (State.bump_keeps h2)
      clear_value x1
      exact State.ainStep_keeps (State.post_keeps k1)
    · exact h2
  · exact h2

theorem State.ainConvert_keeps {s0 : State} {s : State} {n : ℕ} {code : ℕ} {ovr : Bool} {mute : Bool} (h1 : Keeps s0 s)
    : Keeps s0 (s.ainConvert n code ovr mute) := by
  unfold State.ainConvert
  extract_lets +onlyGivenNames x1
  clear_value x1
  extract_lets +onlyGivenNames x2
  clear_value x2
  extract_lets +onlyGivenNames x3
  clear_value x3
  extract_lets +onlyGivenNames x4
  have k4 : Keeps s0 x4 := by
    unfold x4
    refine Keeps.ite ?_ ?_
    · exact State.ainStep_keeps h1
    · exact h1
  clear_value x4
  extract_lets +onlyGivenNames x5
  clear_value x5
  extract_lets +onlyGivenNames x6
  clear_value x6
  extract_lets +onlyGivenNames x7
  have k7 : Keeps s0 x7 := State.setAin_keeps k4
  clear_value x7
  extract_lets +onlyGivenNames x8
  have k8 : Keeps s0 x8 := State.showSettle_keeps (State.put_keeps k7)
  clear_value x8
  extract_lets +onlyGivenNames x9
  have k9 : Keeps s0 x9 := by
    unfold x9
    refine Keeps.ite ?_ ?_
    · exact State.setBit_keeps (State.bump_keeps k8)
    · exact k8
  clear_value x9
  extract_lets +onlyGivenNames x10
  have k10 : Keeps s0 x10 := by
    unfold x10
    refine Keeps.ite ?_ ?_
    · exact State.post_keeps k9
    · exact k9
  clear_value x10
  exact State.edgePut_keeps k10

theorem State.ainFrame_keeps {s0 : State} {s : State} {n : ℕ} {code : ℕ} {ovr : Bool} (h1 : Keeps s0 s) : Keeps s0
    (s.ainFrame n code ovr) := by
  unfold State.ainFrame
  extract_lets +onlyGivenNames x1
  have k1 : Keeps s0 x1 := State.ainBegin_keeps h1
  clear_value x1
  extract_lets +onlyGivenNames x2
  clear_value x2
  extract_lets +onlyGivenNames x3
  clear_value x3
  refine Keeps.ite ?_ ?_
  · refine Keeps.ite ?_ ?_
    · exact State.edgePut_keeps k1
    · exact State.edgeClear_keeps k1
  · refine Keeps.ite ?_ ?_
    · extract_lets +onlyGivenNames x4
      have k4 : Keeps s0 x4 := State.showSettle_keeps (State.setAin_keeps k1)
      clear_value x4
      exact State.edgePut_keeps k4
    · exact State.ainConvert_keeps k1

theorem State.biasStart_keeps {s0 : State} {s : State} {k : ℕ} (h1 : Keeps s0 s) : Keeps s0 (s.biasStart k) := by
  unfold State.biasStart
  extract_lets +onlyGivenNames x1
  have k1 : Keeps s0 x1 := State.clrBit_keeps h1
  clear_value x1
  extract_lets +onlyGivenNames x2
  have k2 : Keeps s0 x2 := by
    unfold x2
    exact Keeps.same k1 rfl rfl rfl rfl
  clear_value x2
  refine Keeps.foldl ?_ ?_
  · intro x3 x4 x5
    refine Keeps.ite ?_ ?_
    · exact State.ainBiasSettle_keeps x5
    · exact x5
  · exact k2

theorem State.biasOff_keeps {s0 : State} {s : State} {k : ℕ} (h1 : Keeps s0 s) : Keeps s0 (s.biasOff k) := by
  unfold State.biasOff
  extract_lets +onlyGivenNames x1
  have k1 : Keeps s0 x1 := State.clrBit_keeps h1
  clear_value x1
  exact Keeps.same k1 rfl rfl rfl rfl

theorem State.biasFrame_keeps {s0 : State} {s : State} (h1 : Keeps s0 s) : Keeps s0 s.biasFrame := by
  unfold State.biasFrame
  exact Keeps.same h1 rfl rfl rfl rfl

theorem State.biasRestart_keeps {s0 : State} {s : State} (h1 : Keeps s0 s) : Keeps s0 s.biasRestart := by
  unfold State.biasRestart
  refine Keeps.foldl ?_ ?_
  · intro x1 x2 x3
    refine Keeps.ite ?_ ?_
    · exact State.biasStart_keeps x3
    · exact x3
  · exact h1

theorem ainBiasCfgWrite_keeps {s0 : State} {v : ℕ} {s : State} (h2 : Keeps s0 s) : Keeps s0 (ainBiasCfgWrite v s) := by
  unfold ainBiasCfgWrite
  refine Keeps.foldl ?_ ?_
  · intro x1 x2 x3
    extract_lets +onlyGivenNames x4
    clear_value x4
    extract_lets +onlyGivenNames x5
    clear_value x5
    extract_lets +onlyGivenNames x6
    have k6 : Keeps s0 x6 := State.put_keeps (State.put_keeps x3)
    clear_value x6
    refine Keeps.ite ?_ ?_
    · with_reducible apply State.clrBit_keeps
      refine Keeps.ite ?_ ?_
      · exact k6
      · exact State.biasOff_keeps k6
    · refine Keeps.ite ?_ ?_
      · exact State.biasStart_keeps k6
      · exact k6
  · exact h2

theorem biasRampDone_keeps {s0 : State} {k : ℕ} {s : State} (h2 : Keeps s0 s) : Keeps s0 (biasRampDone k s) := by
  unfold biasRampDone
  refine Keeps.ite ?_ ?_
  · extract_lets +onlyGivenNames x1
    have k1 : Keeps s0 x1 := State.setBit_keeps h2
    clear_value x1
    exact Keeps.same k1 rfl rfl rfl rfl
  · exact h2

theorem ainBiasFault_keeps {s0 : State} {k : ℕ} {s : State} (h2 : Keeps s0 s) : Keeps s0 (ainBiasFault k s) := by
  unfold ainBiasFault
  refine Keeps.ite ?_ ?_
  · exact State.post_keeps (State.setBit_keeps (State.setBit_keeps (State.biasOff_keeps h2)))
  · exact h2

theorem State.pdmRefresh_keeps {s0 : State} {s : State} (h1 : Keeps s0 s) : Keeps s0 s.pdmRefresh := by
  unfold State.pdmRefresh
  extract_lets +onlyGivenNames x1
  clear_value x1
  extract_lets +onlyGivenNames x2
  have k2 : Keeps s0 x2 := State.put_keeps h1
  clear_value x2
  extract_lets +onlyGivenNames x3
  have k3 : Keeps s0 x3 := by
    unfold x3
    refine Keeps.ite ?_ ?_
    · exact Keeps.same k2 rfl rfl rfl rfl
    · refine Keeps.ite ?_ ?_
      · exact State.put_keeps h1
      · exact h1
  clear_value x3
  refine Keeps.foldl ?_ ?_
  · intro x4 x5 x6
    refine Keeps.ite ?_ ?_
    · exact x6
    · exact State.put_keeps x6
  · exact k3

theorem State.pdmSettle_keeps {s0 : State} {s : State} {c : ℕ} (h1 : Keeps s0 s) : Keeps s0 (s.pdmSettle c) := by
  unfold State.pdmSettle
  refine Keeps.foldl ?_ ?_
  · intro x1 x2 x3
    extract_lets +onlyGivenNames x4
    clear_value x4
    extract_lets +onlyGivenNames x5
    have k5 : Keeps s0 x5 := by
      unfold x5
      refine Keeps.ite ?_ ?_
      · exact Keeps.same x3 rfl rfl rfl rfl
      · exact x3
    clear_value x5
    refine Keeps.ite ?_ ?_
    · exact Keeps.same k5 rfl rfl rfl rfl
    · exact k5
  · exact h1

theorem pdmClockChange_keeps {s0 : State} {c : ℕ} {s : State} (h2 : Keeps s0 s) : Keeps s0 (pdmClockChange c s) := by
  unfold pdmClockChange
  refine Keeps.ite ?_ ?_
  · exact State.pdmSettle_keeps (State.put_keeps h2)
  · exact h2

theorem pdmClockStart_keeps {s0 : State} {c : ℕ} {s : State} (h2 : Keeps s0 s) : Keeps s0 (pdmClockStart c s) := by
  unfold pdmClockStart
  refine Keeps.ite ?_ ?_
  · extract_lets +onlyGivenNames x1
    have k1 : Keeps s0 x1 := State.pdmSettle_keeps (State.put_keeps h2)
    clear_value x1
    exact Keeps.same k1 rfl rfl rfl rfl
  · exact h2

theorem State.pdmCfgErr_keeps {s0 : State} {s : State} {addr : ℕ} {v : ℕ} (h1 : Keeps s0 s) : Keeps s0 (s.pdmCfgErr addr
    v) := by
  unfold State.pdmCfgErr
  exact State.post_keeps (State.put_keeps (State.put_keeps h1))

theorem pdmCfgWrite_keeps {s0 : State} {v : ℕ} {s : State} (h2 : Keeps s0 s) : Keeps s0 (pdmCfgWrite v s) := by
  unfold pdmCfgWrite
  refine Keeps.ite ?_ ?_
  · exact State.pdmCfgErr_keeps h2
  · extract_lets +onlyGivenNames x1
    clear_value x1
    extract_lets +onlyGivenNames x2
    clear_value x2
    extract_lets +onlyGivenNames x3
    have k3 : Keeps s0 x3 := State.put_keeps (State.put_keeps (State.put_keeps (State.put_keeps h2)))
    clear_value x3
    extract_lets +onlyGivenNames x4
    have k4 : Keeps s0 x4 := State.put_keeps (State.put_keeps (State.put_keeps (State.put_keeps k3)))
    clear_value x4
    extract_lets +onlyGivenNames x5
    have k5 : Keeps s0 x5 := by
      unfold x5
      refine Keeps.foldl ?_ ?_
      · intro x6 x7 x8
        extract_lets +onlyGivenNames x9
        have k9 : Keeps s0 x9 := by
          unfold x9
          refine Keeps.ite ?_ ?_
          · exact Keeps.same x8 rfl rfl rfl rfl
          · exact x8
        clear_value x9
        refine Keeps.ite ?_ ?_
        · exact Keeps.same k9 rfl rfl rfl rfl
        · exact k9
      · exact k4
    clear_value x5
    exact State.pdmRefresh_keeps k5

theorem State.hqFrame_keeps {s0 : State} {s : State} {m : ℕ} {w : ℤ} (h1 : Keeps s0 s) : Keeps s0 (s.hqFrame m w) := by
  unfold State.hqFrame
  refine Keeps.ite ?_ ?_
  · exact State.edgePut_keeps h1
  · refine Keeps.ite ?_ ?_
    · extract_lets +onlyGivenNames x1
      clear_value x1
      extract_lets +onlyGivenNames x2
      clear_value x2
      with_reducible apply State.edgePut_keeps
      exact Keeps.same h1 rfl rfl rfl rfl
    · exact State.edgeClear_keeps h1

theorem State.lpStrobe_keeps {s0 : State} {s : State} {m : ℕ} {w : ℤ} (h1 : Keeps s0 s) : Keeps s0 (s.lpStrobe m w) := by
  unfold State.lpStrobe
  extract_lets +onlyGivenNames x1
  clear_value x1
  extract_lets +onlyGivenNames x2
  have k2 : Keeps s0 x2 := by
    unfold x2
    exact Keeps.same h1 rfl rfl rfl rfl
  clear_value x2
  split
  · exact State.edgePut_keeps k2
  · exact State.edgeClear_keeps k2

theorem State.captureSleep_keeps {s0 : State} {s : State} (h1 : Keeps s0 s) : Keeps s0 s.captureSleep := by
  unfold State.captureSleep
  extract_lets +onlyGivenNames x1
  have k1 : Keeps s0 x1 := by
    unfold x1
    refine Keeps.foldl ?_ ?_
    · intro x2 x3 x4
      exact State.ainOff_keeps x4
    · exact h1
  clear_value x1
  extract_lets +onlyGivenNames x5
  have k5 : Keeps s0 x5 := by
    unfold x5
    refine Keeps.foldl ?_ ?_
    · intro x6 x7 x8
      exact State.biasOff_keeps x8
    · exact k1
  clear_value x5
  with_reducible apply State.pdmRefresh_keeps
  refine Keeps.foldl ?_ ?_
  · intro x9 x10 x11
    exact State.edgeClear_keeps x11
  · exact k5

theorem State.captureWake_keeps {s0 : State} {s : State} (h1 : Keeps s0 s) : Keeps s0 s.captureWake := by
  unfold State.captureWake
  extract_lets +onlyGivenNames x1
  have k1 : Keeps s0 x1 := by
    unfold x1
    exact Keeps.same h1 rfl rfl rfl rfl
  clear_value x1
  extract_lets +onlyGivenNames x2
  clear_value x2
  extract_lets +onlyGivenNames x3
  have k3 : Keeps s0 x3 := by
    unfold x3
    refine Keeps.foldl ?_ ?_
    · intro x4 x5 x6
      refine Keeps.ite ?_ ?_
      · exact State.setAin_keeps x6
      · exact x6
    · exact k1
  clear_value x3
  exact State.pdmRefresh_keeps (State.biasRestart_keeps k3)

theorem State.halfRead_keeps {s0 : State} {s : State} {p : ℕ} {j : ℕ} (h1 : Keeps s0 s) : Keeps s0 (s.halfRead p j).2 := by
  unfold State.halfRead
  extract_lets +onlyGivenNames x1
  have k1 : Keeps s0 x1.2 := State.bankWord_keeps h1
  clear_value x1
  exact k1

theorem State.putHalf_keeps {s0 : State} {s : State} {p : ℕ} {j : ℕ} {v : ℕ} (h1 : Keeps s0 s) : Keeps s0 (s.putHalf p j
    v) := by
  unfold State.putHalf
  extract_lets +onlyGivenNames x1
  clear_value x1
  extract_lets +onlyGivenNames x2
  clear_value x2
  extract_lets +onlyGivenNames x3
  clear_value x3
  extract_lets +onlyGivenNames x4
  clear_value x4
  extract_lets +onlyGivenNames x5
  have k5 : Keeps s0 x5 := State.bankWrite_keeps h1
  clear_value x5
  refine Keeps.ite ?_ ?_
  · exact Keeps.same k5 rfl rfl rfl rfl
  · exact k5

theorem State.archStrobe_keeps {s0 : State} {s : State} {x : ℕ → Option (ℤ × ℕ)} (h1 : Keeps s0 s) : Keeps s0
    (s.archStrobe x) := by
  unfold State.archStrobe
  refine Keeps.ite ?_ ?_
  · exact h1
  · extract_lets +onlyGivenNames x1
    clear_value x1
    extract_lets +onlyGivenNames x2
    have k2 : Keeps s0 x2 := State.put_keeps h1
    clear_value x2
    extract_lets +onlyGivenNames x3
    clear_value x3
    extract_lets +onlyGivenNames x4
    have k4 : Keeps s0 x4 := by
      unfold x4
      exact Keeps.same k2 rfl rfl rfl rfl
    clear_value x4
    extract_lets +onlyGivenNames x5
    have k5 : Keeps s0 x5 := by
      unfold x5
      refine Keeps.ite ?_ ?_
      · exact State.put_keeps k4
      · exact k4
    clear_value x5
    extract_lets +onlyGivenNames x6
    have k6 : Keeps s0 x6 := by
      unfold x6
      refine Keeps.foldl ?_ ?_
      · intro x7 x8 x9
        exact State.putHalf_keeps x9
      · exact k5
    clear_value x6
    refine Keeps.ite ?_ ?_
    · exact State.put_keeps (State.put_keeps k6)
    · exact k6

theorem State.archGap_keeps {s0 : State} {s : State} {cause : ℕ} (h1 : Keeps s0 s) : Keeps s0 (s.archGap cause) := by
  unfold State.archGap
  extract_lets +onlyGivenNames x1
  clear_value x1
  exact State.post_keeps (State.put_keeps (State.put_keeps (State.put_keeps h1)))

theorem wakeArchCfgWrite_keeps {s0 : State} {v : ℕ} {s : State} (h2 : Keeps s0 s) : Keeps s0 (wakeArchCfgWrite v s) := by
  unfold wakeArchCfgWrite
  extract_lets +onlyGivenNames x1
  clear_value x1
  refine Keeps.ite ?_ ?_
  · exact State.pdmCfgErr_keeps h2
  · extract_lets +onlyGivenNames x2
    clear_value x2
    extract_lets +onlyGivenNames x3
    have k3 : Keeps s0 x3 := State.put_keeps (State.put_keeps h2)
    clear_value x3
    extract_lets +onlyGivenNames x4
    have k4 : Keeps s0 x4 := by
      unfold x4
      refine Keeps.foldl ?_ ?_
      · intro x5 x6 x7
        exact State.put_keeps x7
      · exact k3
    clear_value x4
    extract_lets +onlyGivenNames x8
    have k8 : Keeps s0 x8 := State.put_keeps k4
    clear_value x8
    refine Keeps.ite ?_ ?_
    · exact k8
    · exact State.archGap_keeps k8

theorem State.modelCheck_keeps {s0 : State} {s : State} (h1 : Keeps s0 s) : Keeps s0 s.modelCheck := by
  unfold State.modelCheck
  exact State.put_keeps (State.put_keeps h1)

theorem wakeCtlWrite_keeps {s0 : State} {v : ℕ} {s : State} (h2 : Keeps s0 s) : Keeps s0 (wakeCtlWrite v s) := by
  unfold wakeCtlWrite
  extract_lets +onlyGivenNames x1
  clear_value x1
  extract_lets +onlyGivenNames x2
  have k2 : Keeps s0 x2 := State.put_keeps (State.put_keeps (State.put_keeps (State.put_keeps h2)))
  clear_value x2
  extract_lets +onlyGivenNames x3
  have k3 : Keeps s0 x3 := State.put_keeps k2
  clear_value x3
  refine Keeps.ite ?_ ?_
  · exact State.modelCheck_keeps k3
  · exact k3

theorem modelCheckDone_keeps {s0 : State} {s : State} (h1 : Keeps s0 s) : Keeps s0 (modelCheckDone s) := by
  unfold modelCheckDone
  refine Keeps.ite ?_ ?_
  · exact h1
  · extract_lets +onlyGivenNames x1
    have k1 : Keeps s0 x1 := State.put_keeps h1
    clear_value x1
    split
    · exact State.put_keeps k1
    · exact State.post_keeps (State.put_keeps (State.put_keeps k1))

theorem State.detect_keeps {s0 : State} {s : State} {t : ℕ} {score : ℕ} {lane : ℕ} (h1 : Keeps s0 s) : Keeps s0
    (s.detect t score lane) := by
  unfold State.detect
  extract_lets +onlyGivenNames x1
  have k1 : Keeps s0 x1 := State.put_keeps (State.put_keeps (State.put_keeps h1))
  clear_value x1
  extract_lets +onlyGivenNames x2
  have k2 : Keeps s0 x2 := State.post_keeps (State.put_keeps (State.bump_keeps k1))
  clear_value x2
  extract_lets +onlyGivenNames x3
  have k3 : Keeps s0 x3 := by
    unfold x3
    refine Keeps.ite ?_ ?_
    · exact State.alert_keeps k2
    · exact k2
  clear_value x3
  extract_lets +onlyGivenNames x4
  have k4 : Keeps s0 x4 := by
    unfold x4
    refine Keeps.ite ?_ ?_
    · exact State.wakeBy_keeps k3
    · exact k3
  clear_value x4
  extract_lets +onlyGivenNames x5
  clear_value x5
  exact Keeps.same k4 rfl rfl rfl rfl

theorem State.hopReads_keeps {s0 : State} {s : State} {t : ℕ} {j : ℕ} (h1 : Keeps s0 s) : Keeps s0 (s.hopReads t j) := by
  unfold State.hopReads
  refine Keeps.foldl ?_ ?_
  · intro x1 x2 x3
    exact State.halfRead_keeps x3
  · exact h1

theorem spotterHop_keeps {s0 : State} {score : ℕ} {lane : ℕ} {s : State} (h3 : Keeps s0 s) : Keeps s0 (spotterHop score
    lane s) := by
  unfold spotterHop
  extract_lets +onlyGivenNames x1
  clear_value x1
  refine Keeps.ite ?_ ?_
  · exact h3
  · extract_lets +onlyGivenNames x2
    clear_value x2
    extract_lets +onlyGivenNames x3
    clear_value x3
    extract_lets +onlyGivenNames x4
    clear_value x4
    extract_lets +onlyGivenNames x5
    clear_value x5
    extract_lets +onlyGivenNames x6
    clear_value x6
    extract_lets +onlyGivenNames x7
    clear_value x7
    extract_lets +onlyGivenNames x8
    have k8 : Keeps s0 x8 := State.hopReads_keeps h3
    clear_value x8
    extract_lets +onlyGivenNames x9
    have k9 : Keeps s0 x9 := by
      unfold x9
      exact Keeps.same k8 rfl rfl rfl rfl
    clear_value x9
    refine Keeps.ite ?_ ?_
    · exact k9
    · refine Keeps.ite ?_ ?_
      · exact State.bump_keeps k9
      · exact State.detect_keeps k9

theorem State.hoEnd_keeps {s0 : State} {s : State} {e : ℕ} {status : ℕ} (h1 : Keeps s0 s) : Keeps s0 (s.hoEnd e status)
    := by
  unfold State.hoEnd
  split
  · exact h1
  · extract_lets +onlyGivenNames x1
    have k1 : Keeps s0 x1 := by
      unfold x1
      refine Keeps.ite ?_ ?_
      · exact State.put_keeps h1
      · exact h1
    clear_value x1
    extract_lets +onlyGivenNames x2
    have k2 : Keeps s0 x2 := State.put_keeps (State.put_keeps k1)
    clear_value x2
    extract_lets +onlyGivenNames x3
    clear_value x3
    extract_lets +onlyGivenNames x4
    have k4 : Keeps s0 x4 := by
      unfold x4
      exact Keeps.same k2 rfl rfl rfl rfl
    clear_value x4
    extract_lets +onlyGivenNames x5
    have k5 : Keeps s0 x5 := by
      unfold x5
      refine Keeps.ite ?_ ?_
      · exact k4
      · exact State.post_keeps (State.put_keeps (State.bump_keeps k4))
    clear_value x5
    split
    · exact State.finish_keeps k5
    · exact k5

theorem State.hoStart_keeps {s0 : State} {s : State} {ring : Option ℕ} {now : Bool} {lookback : ℕ} {lanes : ℕ} (h1 :
    Keeps s0 s) : Keeps s0 (s.hoStart ring now lookback lanes) := by
  unfold State.hoStart
  extract_lets +onlyGivenNames x1
  refine Keeps.ite ?_ ?_
  · unfold x1
    split
    · exact State.finish_keeps h1
    · exact State.put_keeps h1
  · refine Keeps.ite ?_ ?_
    · unfold x1
      split
      · exact State.finish_keeps h1
      · exact State.put_keeps h1
    · extract_lets +onlyGivenNames x2
      clear_value x2
      extract_lets +onlyGivenNames x3
      clear_value x3
      extract_lets +onlyGivenNames x4
      clear_value x4
      extract_lets +onlyGivenNames x5
      have k5 : Keeps s0 x5 := by
        unfold x5
        exact Keeps.same h1 rfl rfl rfl rfl
      extract_lets +onlyGivenNames x6
      have k6 : Keeps s0 x6 := State.put_keeps (State.put_keeps k5)
      refine Keeps.ite ?_ ?_
      · exact State.hoEnd_keeps (State.put_keeps k6)
      · exact State.bankWrite_keeps (State.put_keeps (State.put_keeps k6))

theorem handover_keeps {s0 : State} {r : ℕ} {s : State} (h2 : Keeps s0 s) : Keeps s0 (handover r s) := by
  unfold handover
  with_reducible apply State.command_keeps
  · exact h2
  · intro x1 x2 x3 x4
    extract_lets +onlyGivenNames x5
    clear_value x5
    exact State.hoStart_keeps x4

theorem hoGo_keeps {s0 : State} {s : State} (h1 : Keeps s0 s) : Keeps s0 (hoGo s) := by
  unfold hoGo
  exact State.hoStart_keeps h1

theorem hoStop_keeps {s0 : State} {s : State} (h1 : Keeps s0 s) : Keeps s0 (hoStop s) := by
  unfold hoStop
  exact State.hoEnd_keeps h1

theorem hoAuto_keeps {s0 : State} {s : State} (h1 : Keeps s0 s) : Keeps s0 (hoAuto s) := by
  unfold hoAuto
  refine Keeps.ite ?_ ?_
  · with_reducible apply State.hoStart_keeps
    exact Keeps.same h1 rfl rfl rfl rfl
  · exact h1

theorem State.expand_keeps {s0 : State} {s : State} {p : ℕ} {j : ℕ} {seam : Bool} (h1 : Keeps s0 s) : Keeps s0 (s.expand
    p j seam).2 := by
  unfold State.expand
  extract_lets +onlyGivenNames x1
  clear_value x1
  extract_lets +onlyGivenNames x2
  have k2 : Keeps s0 x2.2 := State.halfRead_keeps h1
  clear_value x2
  exact k2

theorem State.hoCopy_keeps {s0 : State} {s : State} {h : Handover} (h1 : Keeps s0 s) : Keeps s0 (s.hoCopy h) := by
  unfold State.hoCopy
  extract_lets +onlyGivenNames x1
  clear_value x1
  extract_lets +onlyGivenNames x2
  clear_value x2
  extract_lets +onlyGivenNames x3
  have k3 : Keeps s0 x3 := by
    unfold x3
    refine Keeps.foldl ?_ ?_
    · intro x4 x5 x6
      extract_lets +onlyGivenNames x7
      have k7 : Keeps s0 x7.2 := State.expand_keeps x6
      clear_value x7
      exact State.bankWrite_keeps k7
    · exact h1
  clear_value x3
  extract_lets +onlyGivenNames x8
  clear_value x8
  with_reducible apply State.bankWrite_keeps
  exact Keeps.same k3 rfl rfl rfl rfl

theorem State.hoSeam_keeps {s0 : State} {s : State} {h : Handover} (h1 : Keeps s0 s) : Keeps s0 (s.hoSeam h) := by
  unfold State.hoSeam
  extract_lets +onlyGivenNames x1
  clear_value x1
  extract_lets +onlyGivenNames x2
  clear_value x2
  extract_lets +onlyGivenNames x3
  have k3 : Keeps s0 x3 := by
    unfold x3
    exact Keeps.same h1 rfl rfl rfl rfl
  clear_value x3
  extract_lets +onlyGivenNames x4
  have k4 : Keeps s0 x4 := State.put_keeps (State.put_keeps (State.put_keeps k3))
  clear_value x4
  extract_lets +onlyGivenNames x5
  have k5 : Keeps s0 x5 := State.post_keeps (State.put_keeps k4)
  clear_value x5
  split
  · exact State.finish_keeps k5
  · exact k5

theorem State.hoCatch_keeps {s0 : State} {s : State} {pos : ℕ} {a3 : ℕ} (h1 : Keeps s0 s) : Keeps s0 (s.hoCatch pos a3)
    := by
  induction a3 generalizing s pos
  · rw [State.hoCatch]
    exact h1
  · rename_i n ih
    rw [State.hoCatch]
    split
    · exact h1
    · refine Keeps.ite ?_ ?_
      · exact State.hoEnd_keeps h1
      · refine Keeps.ite ?_ ?_
        · exact h1
        · refine Keeps.ite ?_ ?_
          · extract_lets +onlyGivenNames x1
            have k1 : Keeps s0 x1 := State.hoSeam_keeps h1
            clear_value x1
            split
            · exact State.hoCopy_keeps k1
            · exact k1
          · with_reducible apply ih
            exact State.hoCopy_keeps h1

theorem State.hoStrobe_keeps {s0 : State} {s : State} (h1 : Keeps s0 s) : Keeps s0 s.hoStrobe := by
  unfold State.hoStrobe
  extract_lets +onlyGivenNames x1
  clear_value x1
  split
  · exact h1
  · refine Keeps.ite ?_ ?_
    · refine Keeps.ite ?_ ?_
      · exact State.hoCopy_keeps h1
      · exact State.hoEnd_keeps h1
    · refine Keeps.ite ?_ ?_
      · exact h1
      · exact State.hoCatch_keeps h1

theorem State.hopClear_keeps {s0 : State} {s : State} (h1 : Keeps s0 s) : Keeps s0 s.hopClear := by
  unfold State.hopClear
  exact Keeps.same h1 rfl rfl rfl rfl

theorem State.archRelease_keeps {s0 : State} {s : State} (h1 : Keeps s0 s) : Keeps s0 s.archRelease := by
  unfold State.archRelease
  split
  · with_reducible apply State.archGap_keeps
    exact Keeps.same h1 rfl rfl rfl rfl
  · exact h1

theorem State.gapDue_keeps {s0 : State} {s : State} {cause : ℕ} (h1 : Keeps s0 s) : Keeps s0 (s.gapDue cause) := by
  unfold State.gapDue
  exact Keeps.same h1 rfl rfl rfl rfl

theorem State.archLost_keeps {s0 : State} {s : State} (h1 : Keeps s0 s) : Keeps s0 s.archLost := by
  unfold State.archLost
  extract_lets +onlyGivenNames x1
  have k1 : Keeps s0 x1 := State.gapDue_keeps (State.hoEnd_keeps h1)
  clear_value x1
  extract_lets +onlyGivenNames x2
  have k2 : Keeps s0 x2 := State.put_keeps (State.put_keeps (State.put_keeps k1))
  clear_value x2
  exact State.post_keeps k2

theorem State.setSpk_keeps {s0 : State} {s : State} {n : ℕ} {x : Spk} (h1 : Keeps s0 s) : Keeps s0 (s.setSpk n x) := by
  unfold State.setSpk
  exact Keeps.same h1 rfl rfl rfl rfl

theorem State.countClip_keeps {s0 : State} {s : State} {i : ℕ} (h1 : Keeps s0 s) : Keeps s0 (s.countClip i) := by
  unfold State.countClip
  exact Keeps.same h1 rfl rfl rfl rfl

theorem State.spkHiz_keeps {s0 : State} {s : State} {n : ℕ} (h1 : Keeps s0 s) : Keeps s0 (s.spkHiz n) := by
  unfold State.spkHiz
  exact State.put_keeps h1

theorem State.carrierP_keeps {s0 : State} {s : State} {count : ℕ} (h1 : Keeps s0 s) : Keeps s0 (s.carrierP count).2 := by
  unfold State.carrierP
  split
  · exact h1
  · refine Keeps.mk2 ?_
    exact State.free_keeps h1
  · exact h1

theorem State.carrierRun_keeps {s0 : State} {s : State} {len : ℕ} {a2 : ℕ} {a3 : ℕ} {a4 : ℕ} (h1 : Keeps s0 s) : Keeps
    s0 (s.carrierRun len a2 a3 a4) := by
  induction a2 generalizing s a3 a4
  · rw [State.carrierRun]
    exact h1
  · rename_i n ih
    rw [State.carrierRun]
    refine Keeps.ite ?_ ?_
    · exact Keeps.same h1 rfl rfl rfl rfl
    · refine ih ?_
      exact Keeps.same (State.carrierP_keeps h1) rfl rfl rfl rfl

theorem State.carrierFrame_keeps {s0 : State} {s : State} (h1 : Keeps s0 s) : Keeps s0 s.carrierFrame := by
  unfold State.carrierFrame
  unfold State.carrierRun
  refine Keeps.ite ?_ ?_
  · refine Keeps.mk ?_
    exact Keeps.same h1 rfl rfl rfl rfl
  · extract_lets +onlyGivenNames x1
    clear_value x1
    extract_lets +onlyGivenNames x2
    have k2 : Keeps s0 x2.2 := by
      unfold x2
      with_reducible apply State.carrierP_keeps
      exact Keeps.same h1 rfl rfl rfl rfl
    clear_value x2
    extract_lets +onlyGivenNames x3
    have k3 : Keeps s0 x3 := k2
    clear_value x3
    extract_lets +onlyGivenNames x4
    clear_value x4
    extract_lets +onlyGivenNames x5
    have k5 : Keeps s0 x5 := by
      unfold x5
      exact Keeps.same k3 rfl rfl rfl rfl
    clear_value x5
    unfold State.carrierRun
    refine Keeps.ite ?_ ?_
    · exact Keeps.same k5 rfl rfl rfl rfl
    · extract_lets +onlyGivenNames x6
      have k6 : Keeps s0 x6.2 := State.carrierP_keeps k5
      clear_value x6
      extract_lets +onlyGivenNames x7
      have k7 : Keeps s0 x7 := k6
      clear_value x7
      extract_lets +onlyGivenNames x8
      clear_value x8
      extract_lets +onlyGivenNames x9
      have k9 : Keeps s0 x9 := by
        unfold x9
        exact Keeps.same k7 rfl rfl rfl rfl
      clear_value x9
      unfold State.carrierRun
      refine Keeps.ite ?_ ?_
      · exact Keeps.same k9 rfl rfl rfl rfl
      · extract_lets +onlyGivenNames x10
        have k10 : Keeps s0 x10.2 := State.carrierP_keeps k9
        clear_value x10
        extract_lets +onlyGivenNames x11
        have k11 : Keeps s0 x11 := k10
        clear_value x11
        extract_lets +onlyGivenNames x12
        clear_value x12
        extract_lets +onlyGivenNames x13
        have k13 : Keeps s0 x13 := by
          unfold x13
          exact Keeps.same k11 rfl rfl rfl rfl
        clear_value x13
        unfold State.carrierRun
        refine Keeps.ite ?_ ?_
        · exact Keeps.same k13 rfl rfl rfl rfl
        · extract_lets +onlyGivenNames x14
          have k14 : Keeps s0 x14.2 := State.carrierP_keeps k13
          clear_value x14
          extract_lets +onlyGivenNames x15
          have k15 : Keeps s0 x15 := k14
          clear_value x15
          extract_lets +onlyGivenNames x16
          clear_value x16
          extract_lets +onlyGivenNames x17
          have k17 : Keeps s0 x17 := by
            unfold x17
            exact Keeps.same k15 rfl rfl rfl rfl
          clear_value x17
          unfold State.carrierRun
          refine Keeps.ite ?_ ?_
          · exact Keeps.same k17 rfl rfl rfl rfl
          · extract_lets +onlyGivenNames x18
            have k18 : Keeps s0 x18.2 := State.carrierP_keeps k17
            clear_value x18
            extract_lets +onlyGivenNames x19
            have k19 : Keeps s0 x19 := k18
            clear_value x19
            extract_lets +onlyGivenNames x20
            clear_value x20
            extract_lets +onlyGivenNames x21
            have k21 : Keeps s0 x21 := by
              unfold x21
              exact Keeps.same k19 rfl rfl rfl rfl
            clear_value x21
            unfold State.carrierRun
            refine Keeps.ite ?_ ?_
            · exact Keeps.same k21 rfl rfl rfl rfl
            · extract_lets +onlyGivenNames x22
              have k22 : Keeps s0 x22.2 := State.carrierP_keeps k21
              clear_value x22
              extract_lets +onlyGivenNames x23
              have k23 : Keeps s0 x23 := k22
              clear_value x23
              extract_lets +onlyGivenNames x24
              clear_value x24
              extract_lets +onlyGivenNames x25
              have k25 : Keeps s0 x25 := by
                unfold x25
                exact Keeps.same k23 rfl rfl rfl rfl
              clear_value x25
              unfold State.carrierRun
              refine Keeps.ite ?_ ?_
              · exact Keeps.same k25 rfl rfl rfl rfl
              · extract_lets +onlyGivenNames x26
                have k26 : Keeps s0 x26.2 := State.carrierP_keeps k25
                clear_value x26
                extract_lets +onlyGivenNames x27
                have k27 : Keeps s0 x27 := k26
                clear_value x27
                extract_lets +onlyGivenNames x28
                clear_value x28
                extract_lets +onlyGivenNames x29
                have k29 : Keeps s0 x29 := by
                  unfold x29
                  exact Keeps.same k27 rfl rfl rfl rfl
                clear_value x29
                unfold State.carrierRun
                refine Keeps.ite ?_ ?_
                · exact Keeps.same k29 rfl rfl rfl rfl
                · extract_lets +onlyGivenNames x30
                  have k30 : Keeps s0 x30.2 := State.carrierP_keeps k29
                  clear_value x30
                  extract_lets +onlyGivenNames x31
                  have k31 : Keeps s0 x31 := k30
                  clear_value x31
                  extract_lets +onlyGivenNames x32
                  clear_value x32
                  extract_lets +onlyGivenNames x33
                  have k33 : Keeps s0 x33 := by
                    unfold x33
                    exact Keeps.same k31 rfl rfl rfl rfl
                  clear_value x33
                  unfold State.carrierRun
                  refine Keeps.ite ?_ ?_
                  · exact Keeps.same k33 rfl rfl rfl rfl
                  · extract_lets +onlyGivenNames x34
                    have k34 : Keeps s0 x34.2 := State.carrierP_keeps k33
                    clear_value x34
                    extract_lets +onlyGivenNames x35
                    have k35 : Keeps s0 x35 := k34
                    clear_value x35
                    extract_lets +onlyGivenNames x36
                    clear_value x36
                    extract_lets +onlyGivenNames x37
                    have k37 : Keeps s0 x37 := by
                      unfold x37
                      exact Keeps.same k35 rfl rfl rfl rfl
                    clear_value x37
                    unfold State.carrierRun
                    refine Keeps.ite ?_ ?_
                    · exact Keeps.same k37 rfl rfl rfl rfl
                    · extract_lets +onlyGivenNames x38
                      have k38 : Keeps s0 x38.2 := State.carrierP_keeps k37
                      clear_value x38
                      extract_lets +onlyGivenNames x39
                      have k39 : Keeps s0 x39 := k38
                      clear_value x39
                      extract_lets +onlyGivenNames x40
                      clear_value x40
                      extract_lets +onlyGivenNames x41
                      have k41 : Keeps s0 x41 := by
                        unfold x41
                        exact Keeps.same k39 rfl rfl rfl rfl
                      clear_value x41
                      unfold State.carrierRun
                      refine Keeps.ite ?_ ?_
                      · exact Keeps.same k41 rfl rfl rfl rfl
                      · extract_lets +onlyGivenNames x42
                        have k42 : Keeps s0 x42.2 := State.carrierP_keeps k41
                        clear_value x42
                        extract_lets +onlyGivenNames x43
                        have k43 : Keeps s0 x43 := k42
                        clear_value x43
                        extract_lets +onlyGivenNames x44
                        clear_value x44
                        extract_lets +onlyGivenNames x45
                        have k45 : Keeps s0 x45 := by
                          unfold x45
                          exact Keeps.same k43 rfl rfl rfl rfl
                        clear_value x45
                        unfold State.carrierRun
                        refine Keeps.ite ?_ ?_
                        · exact Keeps.same k45 rfl rfl rfl rfl
                        · extract_lets +onlyGivenNames x46
                          have k46 : Keeps s0 x46.2 := State.carrierP_keeps k45
                          clear_value x46
                          extract_lets +onlyGivenNames x47
                          have k47 : Keeps s0 x47 := k46
                          clear_value x47
                          extract_lets +onlyGivenNames x48
                          clear_value x48
                          extract_lets +onlyGivenNames x49
                          have k49 : Keeps s0 x49 := by
                            unfold x49
                            exact Keeps.same k47 rfl rfl rfl rfl
                          clear_value x49
                          unfold State.carrierRun
                          exact k49

theorem State.staggerOne_keeps {s0 : State} {s : State} {n : ℕ} {r : ℕ} {l : ℕ} (h1 : Keeps s0 s) : Keeps s0
    (s.staggerOne n r l) := by
  unfold State.staggerOne
  refine Keeps.foldl ?_ ?_
  · intro x1 x2 x3
    extract_lets +onlyGivenNames x4
    clear_value x4
    extract_lets +onlyGivenNames x5
    clear_value x5
    exact State.setSpk_keeps (State.put_keeps x3)
  · exact h1

theorem State.staggerFrame_keeps {s0 : State} {s : State} (h1 : Keeps s0 s) : Keeps s0 s.staggerFrame := by
  unfold State.staggerFrame
  extract_lets +onlyGivenNames x1
  clear_value x1
  extract_lets +onlyGivenNames x2
  clear_value x2
  extract_lets +onlyGivenNames x3
  have k3 : Keeps s0 x3 := by
    unfold x3
    refine Keeps.foldl ?_ ?_
    · intro x4 x5 x6
      exact State.setSpk_keeps x6
    · exact h1
  clear_value x3
  extract_lets +onlyGivenNames x7
  clear_value x7
  extract_lets +onlyGivenNames x8
  have k8 : Keeps s0 x8 := by
    unfold x8
    refine Keeps.ite ?_ ?_
    · exact h1
    · exact Keeps.same k3 rfl rfl rfl rfl
  clear_value x8
  refine Keeps.foldl ?_ ?_
  · intro x9 x10 x11
    split
    · exact State.staggerOne_keeps x11
    · exact State.put_keeps x11
  · exact k8

theorem State.spkRelay_keeps {s0 : State} {s : State} {n : ℕ} (h1 : Keeps s0 s) : Keeps s0 (s.spkRelay n) := by
  unfold State.spkRelay
  extract_lets +onlyGivenNames x1
  clear_value x1
  extract_lets +onlyGivenNames x2
  have k2 : Keeps s0 x2 := State.setSpk_keeps h1
  clear_value x2
  extract_lets +onlyGivenNames x3
  have k3 : Keeps s0 x3 := State.put_keeps (State.put_keeps (State.put_keeps k2))
  clear_value x3
  extract_lets +onlyGivenNames x4
  clear_value x4
  exact State.put_keeps (State.setSpk_keeps k3)

theorem State.spkCheck_keeps {s0 : State} {s : State} {n : ℕ} (h1 : Keeps s0 s) : Keeps s0 (s.spkCheck n) := by
  unfold State.spkCheck
  extract_lets +onlyGivenNames x1
  have k1 : Keeps s0 x1 := State.put_keeps (State.put_keeps h1)
  clear_value x1
  exact State.setSpk_keeps (State.put_keeps k1)

theorem spkStart_keeps {s0 : State} {n : ℕ} {s : State} (h2 : Keeps s0 s) : Keeps s0 (spkStart n s) := by
  unfold spkStart
  refine Keeps.ite ?_ ?_
  · refine Keeps.ite ?_ ?_
    · exact State.spkCheck_keeps h2
    · exact State.spkRelay_keeps h2
  · exact h2

theorem State.spkWindow_keeps {s0 : State} {s : State} {n : ℕ} (h1 : Keeps s0 s) : Keeps s0 (s.spkWindow n) := by
  unfold State.spkWindow
  exact State.setSpk_keeps h1

theorem State.spkRampUp_keeps {s0 : State} {s : State} {n : ℕ} (h1 : Keeps s0 s) : Keeps s0 (s.spkRampUp n) := by
  unfold State.spkRampUp
  exact State.spkWindow_keeps (State.setSpk_keeps (State.put_keeps h1))

theorem spkZeroStateEnd_keeps {s0 : State} {n : ℕ} {s : State} (h2 : Keeps s0 s) : Keeps s0 (spkZeroStateEnd n s) := by
  unfold spkZeroStateEnd
  refine Keeps.ite ?_ ?_
  · extract_lets +onlyGivenNames x1
    have k1 : Keeps s0 x1 := State.put_keeps h2
    clear_value x1
    refine Keeps.ite ?_ ?_
    · exact State.setSpk_keeps k1
    · exact State.spkRampUp_keeps k1
  · exact h2

theorem State.spkLatch_keeps {s0 : State} {s : State} {n : ℕ} {leg : ℕ} (h1 : Keeps s0 s) : Keeps s0 (s.spkLatch n leg)
    := by
  unfold State.spkLatch
  extract_lets +onlyGivenNames x1
  clear_value x1
  extract_lets +onlyGivenNames x2
  have k2 : Keeps s0 x2 := State.setBit_keeps (State.bump_keeps (State.put_keeps (State.put_keeps h1)))
  clear_value x2
  extract_lets +onlyGivenNames x3
  clear_value x3
  extract_lets +onlyGivenNames x4
  have k4 : Keeps s0 x4 := State.setSpk_keeps (State.spkHiz_keeps k2)
  clear_value x4
  extract_lets +onlyGivenNames x5
  have k5 : Keeps s0 x5 := State.post_keeps k4
  clear_value x5
  refine Keeps.ite ?_ ?_
  · exact State.post_keeps (State.setSpk_keeps (State.put_keeps k5))
  · exact k5

theorem spkLoadCheck_keeps {s0 : State} {n : ℕ} {z : ℕ} {s : State} (h3 : Keeps s0 s) : Keeps s0 (spkLoadCheck n z s) := by
  unfold spkLoadCheck
  refine Keeps.ite ?_ ?_
  · refine Keeps.ite ?_ ?_
    · exact State.spkLatch_keeps (State.free_keeps h3)
    · extract_lets +onlyGivenNames x1
      have k1 : Keeps s0 x1 := by
        unfold x1
        refine Keeps.ite ?_ ?_
        · exact State.post_keeps (State.setBit_keeps h3)
        · exact h3
      clear_value x1
      exact State.spkRampUp_keeps k1
  · exact h3

theorem spkRampDone_keeps {s0 : State} {n : ℕ} {s : State} (h2 : Keeps s0 s) : Keeps s0 (spkRampDone n s) := by
  unfold spkRampDone
  refine Keeps.ite ?_ ?_
  · exact State.setSpk_keeps h2
  · exact h2

theorem State.spkToRest_keeps {s0 : State} {s : State} {n : ℕ} {fold : Bool} (h1 : Keeps s0 s) : Keeps s0 (s.spkToRest n
    fold) := by
  unfold State.spkToRest
  exact State.setSpk_keeps (State.put_keeps h1)

theorem State.spkDisable_keeps {s0 : State} {s : State} {n : ℕ} (h1 : Keeps s0 s) : Keeps s0 (s.spkDisable n) := by
  unfold State.spkDisable
  extract_lets +onlyGivenNames x1
  clear_value x1
  extract_lets +onlyGivenNames x2
  have k2 : Keeps s0 x2 := State.setSpk_keeps h1
  clear_value x2
  extract_lets +onlyGivenNames x3
  clear_value x3
  split
  · exact State.spkToRest_keeps k2
  · exact State.spkToRest_keeps k2
  · exact State.setSpk_keeps (State.put_keeps k2)
  · exact k2

theorem State.spkEnable_keeps {s0 : State} {s : State} {n : ℕ} (h1 : Keeps s0 s) : Keeps s0 (s.spkEnable n) := by
  unfold State.spkEnable
  refine Keeps.ite ?_ ?_
  · exact h1
  · refine Keeps.ite ?_ ?_
    · exact State.spkHiz_keeps (State.put_keeps (State.put_keeps (State.put_keeps h1)))
    · refine Keeps.ite ?_ ?_
      · exact State.setSpk_keeps h1
      · exact h1

theorem State.spkCfgErr_keeps {s0 : State} {s : State} {addr : ℕ} {v : ℕ} (h1 : Keeps s0 s) : Keeps s0 (s.spkCfgErr addr
    v) := by
  unfold State.spkCfgErr
  exact State.post_keeps (State.put_keeps h1)

theorem State.spkPilot_keeps {s0 : State} {s : State} {n : ℕ} (h1 : Keeps s0 s) : Keeps s0 (s.spkPilot n) := by
  unfold State.spkPilot
  exact State.spkWindow_keeps (State.setSpk_keeps h1)

theorem spkCfgWrite_keeps {s0 : State} {n : ℕ} {v : ℕ} {s : State} (h3 : Keeps s0 s) : Keeps s0 (spkCfgWrite n v s) := by
  unfold spkCfgWrite
  refine Keeps.ite ?_ ?_
  · exact State.spkCfgErr_keeps (State.put_keeps h3)
  · extract_lets +onlyGivenNames x1
    clear_value x1
    extract_lets +onlyGivenNames x2
    clear_value x2
    extract_lets +onlyGivenNames x3
    clear_value x3
    extract_lets +onlyGivenNames x4
    have k4 : Keeps s0 x4 := State.put_keeps (State.put_keeps (State.put_keeps (State.put_keeps h3)))
    clear_value x4
    extract_lets +onlyGivenNames x5
    have k5 : Keeps s0 x5 := State.put_keeps (State.put_keeps (State.put_keeps (State.put_keeps k4)))
    clear_value x5
    extract_lets +onlyGivenNames x6
    have k6 : Keeps s0 x6 := State.put_keeps k5
    clear_value x6
    extract_lets +onlyGivenNames x7
    clear_value x7
    extract_lets +onlyGivenNames x8
    have k8 : Keeps s0 x8 := by
      unfold x8
      refine Keeps.ite ?_ ?_
      · exact State.setSpk_keeps k6
      · exact k6
    clear_value x8
    extract_lets +onlyGivenNames x9
    have k9 : Keeps s0 x9 := by
      unfold x9
      refine Keeps.ite ?_ ?_
      · exact State.spkPilot_keeps k8
      · exact k8
    clear_value x9
    refine Keeps.ite ?_ ?_
    · exact State.spkDisable_keeps k9
    · refine Keeps.ite ?_ ?_
      · exact State.spkEnable_keeps k9
      · exact k9

theorem State.spkUpperIdle_keeps {s0 : State} {s : State} (h1 : Keeps s0 s) : Keeps s0 s.spkUpperIdle := by
  unfold State.spkUpperIdle
  refine Keeps.foldl ?_ ?_
  · intro x1 x2 x3
    refine Keeps.ite ?_ ?_
    · exact State.setSpk_keeps x3
    · exact x3
  · exact h1

theorem spkCtlWrite_keeps {s0 : State} {v : ℕ} {s : State} (h2 : Keeps s0 s) : Keeps s0 (spkCtlWrite v s) := by
  unfold spkCtlWrite
  extract_lets +onlyGivenNames x1
  refine Keeps.ite ?_ ?_
  · exact State.spkCfgErr_keeps h2
  · extract_lets +onlyGivenNames x2
    have k2 : Keeps s0 x2 := State.put_keeps (State.put_keeps (State.put_keeps (State.put_keeps h2)))
    clear_value x2
    exact State.spkUpperIdle_keeps (State.put_keeps (State.put_keeps k2))

theorem spkStop_keeps {s0 : State} {n : ℕ} {s : State} (h2 : Keeps s0 s) : Keeps s0 (spkStop n s) := by
  unfold spkStop
  refine Keeps.ite ?_ ?_
  · exact State.setSpk_keeps h2
  · exact h2

theorem spkRest_keeps {s0 : State} {n : ℕ} {s : State} (h2 : Keeps s0 s) : Keeps s0 (spkRest n s) := by
  unfold spkRest
  refine Keeps.ite ?_ ?_
  · exact State.setSpk_keeps h2
  · exact h2

theorem spkRelayRelease_keeps {s0 : State} {n : ℕ} {s : State} (h2 : Keeps s0 s) : Keeps s0 (spkRelayRelease n s) := by
  unfold spkRelayRelease
  extract_lets +onlyGivenNames x1
  clear_value x1
  refine Keeps.ite ?_ ?_
  · exact h2
  · extract_lets +onlyGivenNames x2
    have k2 : Keeps s0 x2 := State.setSpk_keeps (State.spkHiz_keeps (State.put_keeps h2))
    clear_value x2
    refine Keeps.ite ?_ ?_
    · extract_lets +onlyGivenNames x3
      have k3 : Keeps s0 x3 := State.put_keeps k2
      clear_value x3
      refine Keeps.ite ?_ ?_
      · exact k3
      · exact State.setSpk_keeps k3
    · exact k2

theorem spkRelayHeld_keeps {s0 : State} {n : ℕ} {posMa : ℕ} {negMa : ℕ} {s : State} (h4 : Keeps s0 s) : Keeps s0
    (spkRelayHeld n posMa negMa s) := by
  unfold spkRelayHeld
  refine Keeps.ite ?_ ?_
  · exact State.post_keeps (State.setBit_keeps (State.put_keeps h4))
  · exact h4

theorem State.spkTrip_keeps {s0 : State} {s : State} {cause : ℕ} (h1 : Keeps s0 s) : Keeps s0 (s.spkTrip cause) := by
  unfold State.spkTrip
  refine Keeps.foldl ?_ ?_
  · intro x1 x2 x3
    extract_lets +onlyGivenNames x4
    clear_value x4
    split
    · refine Keeps.ite ?_ ?_
      · exact State.put_keeps x3
      · exact State.spkHiz_keeps (State.setSpk_keeps (State.put_keeps x3))
    · refine Keeps.ite ?_ ?_
      · exact State.put_keeps x3
      · exact State.spkHiz_keeps (State.setSpk_keeps (State.put_keeps x3))
    · extract_lets +onlyGivenNames x5
      have k5 : Keeps s0 x5 := State.spkHiz_keeps (State.put_keeps x3)
      clear_value x5
      refine Keeps.ite ?_ ?_
      · exact State.spkToRest_keeps k5
      · exact k5
    · exact x3
  · exact h1

theorem spkPvddUv_keeps {s0 : State} {mv : ℕ} {s : State} (h2 : Keeps s0 s) : Keeps s0 (spkPvddUv mv s) := by
  unfold spkPvddUv
  refine Keeps.ite ?_ ?_
  · exact State.post_keeps (State.spkTrip_keeps (State.put_keeps (State.put_keeps h2)))
  · exact h2

theorem spkPvddOv_keeps {s0 : State} {mv : ℕ} {s : State} (h2 : Keeps s0 s) : Keeps s0 (spkPvddOv mv s) := by
  unfold spkPvddOv
  refine Keeps.ite ?_ ?_
  · exact State.post_keeps (State.spkTrip_keeps (State.put_keeps (State.put_keeps h2)))
  · exact h2

theorem pvddRecovery_keeps {s0 : State} {mv : ℕ} {s : State} (h2 : Keeps s0 s) : Keeps s0 (pvddRecovery mv s) := by
  unfold pvddRecovery
  refine Keeps.ite ?_ ?_
  · extract_lets +onlyGivenNames x1
    have k1 : Keeps s0 x1 := State.put_keeps (State.put_keeps h2)
    clear_value x1
    refine Keeps.foldl ?_ ?_
    · intro x2 x3 x4
      extract_lets +onlyGivenNames x5
      have k5 : Keeps s0 x5 := by
        unfold x5
        refine Keeps.ite ?_ ?_
        · exact State.put_keeps x4
        · exact x4
      clear_value x5
      split
      · refine Keeps.ite ?_ ?_
        · exact k5
        · exact State.spkRelay_keeps k5
      · refine Keeps.ite ?_ ?_
        · exact State.setSpk_keeps (State.put_keeps (State.put_keeps k5))
        · exact k5
      · exact k5
    · exact k1
  · exact h2

theorem spkDcFault_keeps {s0 : State} {n0 : ℕ} {mean : ℤ} {s : State} (h3 : Keeps s0 s) : Keeps s0 (spkDcFault n0 mean
    s) := by
  unfold spkDcFault
  extract_lets +onlyGivenNames x1
  clear_value x1
  refine Keeps.ite ?_ ?_
  · extract_lets +onlyGivenNames x2
    have k2 : Keeps s0 x2 := State.setBit_keeps (State.put_keeps (State.put_keeps h3))
    clear_value x2
    exact State.post_keeps (State.setSpk_keeps (State.spkHiz_keeps k2))
  · exact h3

theorem currentLimit_keeps {s0 : State} {n0 : ℕ} {leg : ℕ} {again : Bool} {s : State} (h4 : Keeps s0 s) : Keeps s0
    (currentLimit n0 leg again s) := by
  unfold currentLimit
  extract_lets +onlyGivenNames x1
  clear_value x1
  refine Keeps.ite ?_ ?_
  · extract_lets +onlyGivenNames x2
    clear_value x2
    extract_lets +onlyGivenNames x3
    clear_value x3
    extract_lets +onlyGivenNames x4
    have k4 : Keeps s0 x4 := State.setSpk_keeps (State.bump_keeps h4)
    clear_value x4
    refine Keeps.ite ?_ ?_
    · exact State.spkLatch_keeps k4
    · exact k4
  · exact h4

theorem spkRetry_keeps {s0 : State} {n : ℕ} {s : State} (h2 : Keeps s0 s) : Keeps s0 (spkRetry n s) := by
  unfold spkRetry
  split
  · refine Keeps.ite ?_ ?_
    · extract_lets +onlyGivenNames x1
      clear_value x1
      exact State.spkRelay_keeps (State.post_keeps (State.put_keeps h2))
    · exact h2
  · exact h2

theorem spkRecovered_keeps {s0 : State} {n : ℕ} {s : State} (h2 : Keeps s0 s) : Keeps s0 (spkRecovered n s) := by
  unfold spkRecovered
  refine Keeps.ite ?_ ?_
  · exact State.post_keeps (State.put_keeps h2)
  · exact h2

theorem spkClear_keeps {s0 : State} {n : ℕ} {s : State} (h2 : Keeps s0 s) : Keeps s0 (spkClear n s) := by
  unfold spkClear
  refine Keeps.ite ?_ ?_
  · extract_lets +onlyGivenNames x1
    have k1 : Keeps s0 x1 := State.put_keeps (State.put_keeps (State.put_keeps h2))
    clear_value x1
    extract_lets +onlyGivenNames x2
    clear_value x2
    extract_lets +onlyGivenNames x3
    have k3 : Keeps s0 x3 := State.setSpk_keeps k1
    clear_value x3
    refine Keeps.ite ?_ ?_
    · exact State.spkEnable_keeps k3
    · exact k3
  · exact h2

theorem State.spkDirtyAll_keeps {s0 : State} {s : State} (h1 : Keeps s0 s) : Keeps s0 s.spkDirtyAll := by
  unfold State.spkDirtyAll
  refine Keeps.foldl ?_ ?_
  · intro x1 x2 x3
    exact State.setSpk_keeps x3
  · exact h1

theorem stageTempRead_keeps {s0 : State} {temps : List ℕ} {s : State} (h2 : Keeps s0 s) : Keeps s0 (stageTempRead temps
    s) := by
  unfold stageTempRead
  extract_lets +onlyGivenNames x1
  extract_lets +onlyGivenNames x2
  have k2 : Keeps s0 x2 := by
    unfold x2
    refine Keeps.foldl ?_ ?_
    · intro x3 x4 x5
      exact State.put_keeps x5
    · exact h2
  clear_value x2
  extract_lets +onlyGivenNames x6
  clear_value x6
  extract_lets +onlyGivenNames x7
  clear_value x7
  extract_lets +onlyGivenNames x8
  clear_value x8
  extract_lets +onlyGivenNames x9
  clear_value x9
  extract_lets +onlyGivenNames x10
  clear_value x10
  extract_lets +onlyGivenNames x11
  have k11 : Keeps s0 x11 := by
    unfold x11
    exact Keeps.same k2 rfl rfl rfl rfl
  clear_value x11
  extract_lets +onlyGivenNames x12
  have k12 : Keeps s0 x12 := State.put_keeps (State.put_keeps (State.put_keeps k11))
  clear_value x12
  extract_lets +onlyGivenNames x13
  have k13 : Keeps s0 x13 := by
    unfold x13
    refine Keeps.ite ?_ ?_
    · exact State.spkDirtyAll_keeps k12
    · exact k12
  clear_value x13
  refine Keeps.ite ?_ ?_
  · exact State.post_keeps (State.put_keeps k13)
  · exact k13

theorem State.pilotJudge_keeps {s0 : State} {s : State} {n : ℕ} {z : ℕ} (h1 : Keeps s0 s) : Keeps s0 (s.pilotJudge n z)
    := by
  unfold State.pilotJudge
  extract_lets +onlyGivenNames x1
  have k1 : Keeps s0 x1 := by
    unfold x1
    refine Keeps.ite ?_ ?_
    · exact State.post_keeps (State.setBit_keeps h1)
    · exact h1
  clear_value x1
  refine Keeps.ite ?_ ?_
  · exact State.post_keeps (State.setBit_keeps k1)
  · exact k1

theorem pilotWindowEnd_keeps {s0 : State} {n : ℕ} {z : ℕ} {s : State} (h3 : Keeps s0 s) : Keeps s0 (pilotWindowEnd n z
    s) := by
  unfold pilotWindowEnd
  refine Keeps.ite ?_ ?_
  · exact h3
  · extract_lets +onlyGivenNames x1
    clear_value x1
    extract_lets +onlyGivenNames x2
    have k2 : Keeps s0 x2 := State.spkWindow_keeps h3
    clear_value x2
    refine Keeps.ite ?_ ?_
    · exact State.bump_keeps k2
    · extract_lets +onlyGivenNames x3
      clear_value x3
      extract_lets +onlyGivenNames x4
      have k4 : Keeps s0 x4.2 := by
        unfold x4
        clear_value x4
        split
        · exact k2
        · refine Keeps.mk2 ?_
          exact State.free_keeps k2
      clear_value x4
      extract_lets +onlyGivenNames x5
      clear_value x5
      extract_lets +onlyGivenNames x6
      have k6 : Keeps s0 x6 := State.put_keeps (State.put_keeps (State.put_keeps k4))
      clear_value x6
      extract_lets +onlyGivenNames x7
      clear_value x7
      extract_lets +onlyGivenNames x8
      have k8 : Keeps s0 x8 := by
        unfold x8
        refine Keeps.ite ?_ ?_
        · exact State.post_keeps (State.setBit_keeps k6)
        · exact k6
      clear_value x8
      exact State.pilotJudge_keeps k8

theorem tweet_keeps {s0 : State} {n : ℕ} {s : State} (h2 : Keeps s0 s) : Keeps s0 (tweet n s) := by
  unfold tweet
  refine Keeps.ite ?_ ?_
  · exact State.setSpk_keeps h2
  · exact h2

theorem tweetDone_keeps {s0 : State} {n : ℕ} {z : ℕ} {s : State} (h3 : Keeps s0 s) : Keeps s0 (tweetDone n z s) := by
  unfold tweetDone
  refine Keeps.ite ?_ ?_
  · extract_lets +onlyGivenNames x1
    clear_value x1
    extract_lets +onlyGivenNames x2
    clear_value x2
    extract_lets +onlyGivenNames x3
    have k3 : Keeps s0 x3 := State.setSpk_keeps h3
    clear_value x3
    extract_lets +onlyGivenNames x4
    have k4 : Keeps s0 x4 := State.put_keeps (State.put_keeps (State.put_keeps k3))
    clear_value x4
    refine Keeps.ite ?_ ?_
    · exact State.post_keeps (State.setBit_keeps k4)
    · exact k4
  · exact h3

theorem State.spkCoil_keeps {s0 : State} {s : State} {n : ℕ} (h1 : Keeps s0 s) : Keeps s0 (s.spkCoil n) := by
  unfold State.spkCoil
  extract_lets +onlyGivenNames x1
  clear_value x1
  extract_lets +onlyGivenNames x2
  clear_value x2
  exact State.setSpk_keeps h1

theorem State.spkSag_keeps {s0 : State} {s : State} {n : ℕ} (h1 : Keeps s0 s) : Keeps s0 (s.spkSag n) := by
  unfold State.spkSag
  extract_lets +onlyGivenNames x1
  clear_value x1
  extract_lets +onlyGivenNames x2
  clear_value x2
  extract_lets +onlyGivenNames x3
  clear_value x3
  extract_lets +onlyGivenNames x4
  have k4 : Keeps s0 x4 := State.setSpk_keeps h1
  clear_value x4
  extract_lets +onlyGivenNames x5
  have k5 : Keeps s0 x5 := State.put_keeps (State.put_keeps k4)
  clear_value x5
  extract_lets +onlyGivenNames x6
  have k6 : Keeps s0 x6 := by
    unfold x6
    refine Keeps.ite ?_ ?_
    · exact State.bump_keeps k5
    · exact k5
  clear_value x6
  refine Keeps.ite ?_ ?_
  · exact State.post_keeps (State.put_keeps k6)
  · exact k6

theorem State.spkWaits_keeps {s0 : State} {s : State} {n : ℕ} (h1 : Keeps s0 s) : Keeps s0 (s.spkWaits n) := by
  unfold State.spkWaits
  extract_lets +onlyGivenNames x1
  clear_value x1
  extract_lets +onlyGivenNames x2
  have k2 : Keeps s0 x2 := State.setSpk_keeps h1
  clear_value x2
  refine Keeps.ite ?_ ?_
  · exact State.put_keeps k2
  · exact k2

theorem State.spkInput_keeps {s0 : State} {s : State} {n : ℕ} {c : Word} {clip : Bool} (h1 : Keeps s0 s) : Keeps s0
    (s.spkInput n c clip).2 := by
  unfold State.spkInput
  extract_lets +onlyGivenNames x1
  clear_value x1
  extract_lets +onlyGivenNames x2
  clear_value x2
  extract_lets +onlyGivenNames x3
  clear_value x3
  extract_lets +onlyGivenNames x4
  clear_value x4
  extract_lets +onlyGivenNames x5
  have k5 : Keeps s0 x5 := by
    unfold x5
    refine Keeps.ite ?_ ?_
    · exact State.countClip_keeps (State.bump_keeps h1)
    · exact h1
  clear_value x5
  extract_lets +onlyGivenNames x6
  clear_value x6
  extract_lets +onlyGivenNames x7
  clear_value x7
  extract_lets +onlyGivenNames x8
  clear_value x8
  refine Keeps.mk2 ?_
  exact State.setSpk_keeps k5

theorem State.spkScale_keeps {s0 : State} {s : State} {n : ℕ} {fs : ℕ} {v : ℤ} (h1 : Keeps s0 s) : Keeps s0 (s.spkScale
    n fs v) := by
  unfold State.spkScale
  extract_lets +onlyGivenNames x1
  clear_value x1
  extract_lets +onlyGivenNames x2
  have k2 : Keeps s0 x2 := by
    unfold x2
    refine Keeps.ite ?_ ?_
    · exact State.spkCoil_keeps h1
    · exact h1
  clear_value x2
  extract_lets +onlyGivenNames x3
  clear_value x3
  extract_lets +onlyGivenNames x4
  clear_value x4
  extract_lets +onlyGivenNames x5
  clear_value x5
  extract_lets +onlyGivenNames x6
  have k6 : Keeps s0 x6 := State.setSpk_keeps k2
  clear_value x6
  extract_lets +onlyGivenNames x7
  have k7 : Keeps s0 x7 := by
    unfold x7
    refine Keeps.ite ?_ ?_
    · exact State.spkSag_keeps k6
    · exact k6
  clear_value x7
  extract_lets +onlyGivenNames x8
  clear_value x8
  exact State.setSpk_keeps k7

theorem State.spkDrive_keeps {s0 : State} {s : State} {n : ℕ} {fs : ℕ} (h1 : Keeps s0 s) : Keeps s0 (s.spkDrive n fs) := by
  unfold State.spkDrive
  extract_lets +onlyGivenNames x1
  clear_value x1
  extract_lets +onlyGivenNames x2
  clear_value x2
  extract_lets +onlyGivenNames x3
  clear_value x3
  exact State.setSpk_keeps h1

theorem State.spkFrame_keeps {s0 : State} {s : State} {n : ℕ} {ma : ℕ} (h1 : Keeps s0 s) : Keeps s0 (s.spkFrame n ma) := by
  unfold State.spkFrame
  refine Keeps.ite ?_ ?_
  · exact h1
  · extract_lets +onlyGivenNames x1
    have k1 : Keeps s0 x1 := State.spkWaits_keeps h1
    clear_value x1
    refine Keeps.ite ?_ ?_
    · exact State.setSpk_keeps k1
    · extract_lets +onlyGivenNames x2
      clear_value x2
      extract_lets +onlyGivenNames x3
      have k3 : Keeps s0 x3.2 := State.spkInput_keeps k1
      clear_value x3
      exact State.spkDrive_keeps (State.spkScale_keeps k3)

theorem State.spkFold_keeps {s0 : State} {s : State} {cause : ℕ} (h1 : Keeps s0 s) : Keeps s0 (s.spkFold cause) := by
  unfold State.spkFold
  refine Keeps.foldl ?_ ?_
  · intro x1 x2 x3
    extract_lets +onlyGivenNames x4
    clear_value x4
    refine Keeps.ite ?_ ?_
    · exact x3
    · split
      · extract_lets +onlyGivenNames x5
        have k5 : Keeps s0 x5 := State.put_keeps x3
        clear_value x5
        refine Keeps.ite ?_ ?_
        · exact State.setSpk_keeps k5
        · refine Keeps.ite ?_ ?_
          · exact State.spkToRest_keeps k5
          · exact State.setSpk_keeps (State.put_keeps k5)
      · extract_lets +onlyGivenNames x6
        have k6 : Keeps s0 x6 := State.put_keeps x3
        clear_value x6
        refine Keeps.ite ?_ ?_
        · exact State.setSpk_keeps k6
        · refine Keeps.ite ?_ ?_
          · exact State.spkToRest_keeps k6
          · exact State.setSpk_keeps (State.put_keeps k6)
      · extract_lets +onlyGivenNames x7
        have k7 : Keeps s0 x7 := State.put_keeps x3
        clear_value x7
        refine Keeps.ite ?_ ?_
        · exact State.setSpk_keeps k7
        · refine Keeps.ite ?_ ?_
          · exact State.spkToRest_keeps k7
          · exact State.setSpk_keeps (State.put_keeps k7)
      · refine Keeps.ite ?_ ?_
        · exact State.setSpk_keeps (State.put_keeps (State.put_keeps x3))
        · exact x3
      · exact x3
  · exact h1

theorem State.spkUnfold_keeps {s0 : State} {s : State} (h1 : Keeps s0 s) : Keeps s0 s.spkUnfold := by
  unfold State.spkUnfold
  refine Keeps.foldl ?_ ?_
  · intro x1 x2 x3
    extract_lets +onlyGivenNames x4
    clear_value x4
    refine Keeps.ite ?_ ?_
    · exact x3
    · split
      · refine Keeps.ite ?_ ?_
        · refine Keeps.ite ?_ ?_
          · exact State.spkCheck_keeps x3
          · exact State.spkRelay_keeps x3
        · exact State.put_keeps (State.put_keeps x3)
      · exact State.setSpk_keeps x3
      · exact State.setSpk_keeps x3
      · exact x3
  · exact h1

theorem State.spkWake_keeps {s0 : State} {s : State} (h1 : Keeps s0 s) : Keeps s0 s.spkWake := by
  unfold State.spkWake
  refine Keeps.foldl ?_ ?_
  · intro x1 x2 x3
    refine Keeps.ite ?_ ?_
    · exact x3
    · refine Keeps.ite ?_ ?_
      · exact State.setSpk_keeps (State.put_keeps (State.put_keeps x3))
      · exact x3
  · exact h1

theorem State.setHpo_keeps {s0 : State} {s : State} {n : ℕ} {x : Hpo} (h1 : Keeps s0 s) : Keeps s0 (s.setHpo n x) := by
  unfold State.setHpo
  exact Keeps.same h1 rfl rfl rfl rfl

theorem State.setJack_keeps {s0 : State} {s : State} {j : ℕ} {x : Jack} (h1 : Keeps s0 s) : Keeps s0 (s.setJack j x) := by
  unfold State.setJack
  exact Keeps.same h1 rfl rfl rfl rfl

theorem State.pumpCheck_keeps {s0 : State} {s : State} (h1 : Keeps s0 s) : Keeps s0 s.pumpCheck := by
  unfold State.pumpCheck
  refine Keeps.ite ?_ ?_
  · exact State.put_keeps h1
  · exact h1

theorem State.pumpStart_keeps {s0 : State} {s : State} (h1 : Keeps s0 s) : Keeps s0 s.pumpStart := by
  unfold State.pumpStart
  refine Keeps.ite ?_ ?_
  · exact State.put_keeps h1
  · exact h1

theorem hpoStart_keeps {s0 : State} {n : ℕ} {s : State} (h2 : Keeps s0 s) : Keeps s0 (hpoStart n s) := by
  unfold hpoStart
  extract_lets +onlyGivenNames x1
  clear_value x1
  refine Keeps.ite ?_ ?_
  · exact State.pumpStart_keeps (State.setHpo_keeps (State.put_keeps h2))
  · exact h2

theorem hpoServoEnd_keeps {s0 : State} {n : ℕ} {s : State} (h2 : Keeps s0 s) : Keeps s0 (hpoServoEnd n s) := by
  unfold hpoServoEnd
  refine Keeps.ite ?_ ?_
  · exact State.setHpo_keeps (State.put_keeps (State.put_keeps h2))
  · exact h2

theorem hpoRampDone_keeps {s0 : State} {n : ℕ} {s : State} (h2 : Keeps s0 s) : Keeps s0 (hpoRampDone n s) := by
  unfold hpoRampDone
  extract_lets +onlyGivenNames x1
  clear_value x1
  refine Keeps.ite ?_ ?_
  · exact State.setHpo_keeps h2
  · exact h2

theorem hpoStopDone_keeps {s0 : State} {n : ℕ} {s : State} (h2 : Keeps s0 s) : Keeps s0 (hpoStopDone n s) := by
  unfold hpoStopDone
  extract_lets +onlyGivenNames x1
  clear_value x1
  refine Keeps.ite ?_ ?_
  · exact State.pumpCheck_keeps (State.setHpo_keeps (State.put_keeps h2))
  · exact h2

theorem hpoCfgWrite_keeps {s0 : State} {n : ℕ} {v : ℕ} {s : State} (h3 : Keeps s0 s) : Keeps s0 (hpoCfgWrite n v s) := by
  unfold hpoCfgWrite
  refine Keeps.ite ?_ ?_
  · exact State.post_keeps (State.put_keeps (State.put_keeps h3))
  · extract_lets +onlyGivenNames x1
    clear_value x1
    extract_lets +onlyGivenNames x2
    have k2 : Keeps s0 x2 := State.put_keeps (State.put_keeps (State.put_keeps (State.put_keeps (State.put_keeps h3))))
    clear_value x2
    extract_lets +onlyGivenNames x3
    clear_value x3
    refine Keeps.ite ?_ ?_
    · extract_lets +onlyGivenNames x4
      have k4 : Keeps s0 x4 := State.setHpo_keeps k2
      clear_value x4
      refine Keeps.ite ?_ ?_
      · exact State.setHpo_keeps (State.put_keeps k4)
      · exact k4
    · refine Keeps.ite ?_ ?_
      · refine Keeps.ite ?_ ?_
        · exact State.put_keeps k2
        · refine Keeps.ite ?_ ?_
          · exact State.setHpo_keeps k2
          · exact k2
      · exact k2

theorem hpoShort_keeps {s0 : State} {n : ℕ} {s : State} (h2 : Keeps s0 s) : Keeps s0 (hpoShort n s) := by
  unfold hpoShort
  extract_lets +onlyGivenNames x1
  clear_value x1
  refine Keeps.ite ?_ ?_
  · extract_lets +onlyGivenNames x2
    clear_value x2
    extract_lets +onlyGivenNames x3
    have k3 : Keeps s0 x3 := State.setBit_keeps (State.bump_keeps (State.put_keeps (State.put_keeps h2)))
    clear_value x3
    extract_lets +onlyGivenNames x4
    have k4 : Keeps s0 x4 := State.post_keeps (State.setHpo_keeps k3)
    clear_value x4
    extract_lets +onlyGivenNames x5
    have k5 : Keeps s0 x5 := by
      unfold x5
      refine Keeps.ite ?_ ?_
      · exact State.post_keeps (State.put_keeps k4)
      · exact k4
    clear_value x5
    exact State.pumpCheck_keeps k5
  · exact h2

theorem hpoRestart_keeps {s0 : State} {n : ℕ} {s : State} (h2 : Keeps s0 s) : Keeps s0 (hpoRestart n s) := by
  unfold hpoRestart
  extract_lets +onlyGivenNames x1
  clear_value x1
  refine Keeps.ite ?_ ?_
  · exact State.pumpStart_keeps (State.setHpo_keeps (State.put_keeps h2))
  · exact h2

theorem hpoRecovered_keeps {s0 : State} {n : ℕ} {s : State} (h2 : Keeps s0 s) : Keeps s0 (hpoRecovered n s) := by
  unfold hpoRecovered
  extract_lets +onlyGivenNames x1
  clear_value x1
  refine Keeps.ite ?_ ?_
  · exact State.post_keeps (State.put_keeps h2)
  · exact h2

theorem hpoCpFault_keeps {s0 : State} {mv : ℤ} {s : State} (h2 : Keeps s0 s) : Keeps s0 (hpoCpFault mv s) := by
  unfold hpoCpFault
  refine Keeps.ite ?_ ?_
  · extract_lets +onlyGivenNames x1
    have k1 : Keeps s0 x1 := State.put_keeps (State.put_keeps h2)
    clear_value x1
    extract_lets +onlyGivenNames x2
    have k2 : Keeps s0 x2 := by
      unfold x2
      refine Keeps.foldl ?_ ?_
      · intro x3 x4 x5
        refine Keeps.ite ?_ ?_
        · exact x5
        · exact State.setHpo_keeps (State.put_keeps x5)
      · exact k1
    clear_value x2
    exact State.post_keeps k2
  · exact h2

theorem hpoClear_keeps {s0 : State} {n : ℕ} {s : State} (h2 : Keeps s0 s) : Keeps s0 (hpoClear n s) := by
  unfold hpoClear
  extract_lets +onlyGivenNames x1
  have k1 : Keeps s0 x1 := by
    unfold x1
    refine Keeps.ite ?_ ?_
    · exact State.put_keeps h2
    · exact h2
  clear_value x1
  refine Keeps.ite ?_ ?_
  · extract_lets +onlyGivenNames x2
    have k2 : Keeps s0 x2 := State.put_keeps (State.put_keeps k1)
    clear_value x2
    refine Keeps.ite ?_ ?_
    · exact k2
    · refine Keeps.ite ?_ ?_
      · exact State.put_keeps k2
      · exact State.setHpo_keeps k2
  · exact k1

theorem State.showJackMute_keeps {s0 : State} {s : State} (h1 : Keeps s0 s) : Keeps s0 s.showJackMute := by
  unfold State.showJackMute
  exact State.put_keeps h1

theorem State.hpoFrame_keeps {s0 : State} {s : State} {n : ℕ} {lim : Bool} (h1 : Keeps s0 s) : Keeps s0 (s.hpoFrame n
    lim) := by
  unfold State.hpoFrame
  extract_lets +onlyGivenNames x1
  clear_value x1
  extract_lets +onlyGivenNames x2
  clear_value x2
  extract_lets +onlyGivenNames x3
  clear_value x3
  refine Keeps.ite ?_ ?_
  · extract_lets +onlyGivenNames x4
    clear_value x4
    exact State.put_keeps (State.setHpo_keeps h1)
  · extract_lets +onlyGivenNames x5
    clear_value x5
    extract_lets +onlyGivenNames x6
    clear_value x6
    extract_lets +onlyGivenNames x7
    clear_value x7
    extract_lets +onlyGivenNames x8
    have k8 : Keeps s0 x8 := State.setHpo_keeps h1
    clear_value x8
    extract_lets +onlyGivenNames x9
    clear_value x9
    extract_lets +onlyGivenNames x10
    clear_value x10
    extract_lets +onlyGivenNames x11
    clear_value x11
    extract_lets +onlyGivenNames x12
    clear_value x12
    extract_lets +onlyGivenNames x13
    have k13 : Keeps s0 x13 := State.put_keeps (State.put_keeps (State.setHpo_keeps k8))
    clear_value x13
    extract_lets +onlyGivenNames x14
    have k14 : Keeps s0 x14 := by
      unfold x14
      refine Keeps.ite ?_ ?_
      · exact State.bump_keeps k13
      · exact k13
    clear_value x14
    refine Keeps.ite ?_ ?_
    · exact State.countClip_keeps (State.setBit_keeps (State.bump_keeps k14))
    · exact k14

theorem State.hpoFold_keeps {s0 : State} {s : State} (h1 : Keeps s0 s) : Keeps s0 s.hpoFold := by
  unfold State.hpoFold
  refine Keeps.foldl ?_ ?_
  · intro x1 x2 x3
    extract_lets +onlyGivenNames x4
    clear_value x4
    split
    · exact State.setHpo_keeps (State.put_keeps x3)
    · exact State.setHpo_keeps (State.put_keeps x3)
    · exact State.setHpo_keeps (State.put_keeps x3)
    · refine Keeps.ite ?_ ?_
      · exact State.setHpo_keeps (State.put_keeps x3)
      · exact x3
    · exact x3
  · exact h1

theorem State.hpoUnfold_keeps {s0 : State} {s : State} (h1 : Keeps s0 s) : Keeps s0 s.hpoUnfold := by
  unfold State.hpoUnfold
  refine Keeps.foldl ?_ ?_
  · intro x1 x2 x3
    refine Keeps.ite ?_ ?_
    · exact State.setHpo_keeps (State.put_keeps x3)
    · refine Keeps.ite ?_ ?_
      · exact State.setHpo_keeps x3
      · refine Keeps.ite ?_ ?_
        · exact State.setHpo_keeps x3
        · exact x3
  · exact h1

theorem State.jackMute_keeps {s0 : State} {s : State} {j : ℕ} {on : Bool} {fast : Bool} (h1 : Keeps s0 s) : Keeps s0
    (s.jackMute j on fast) := by
  unfold State.jackMute
  exact State.showJackMute_keeps (State.setJack_keeps h1)

theorem State.jackHold_keeps {s0 : State} {s : State} {j : ℕ} (h1 : Keeps s0 s) : Keeps s0 (s.jackHold j) := by
  unfold State.jackHold
  extract_lets +onlyGivenNames x1
  have k1 : Keeps s0 x1 := State.jackMute_keeps h1
  clear_value x1
  refine Keeps.ite ?_ ?_
  · refine Keeps.foldl ?_ ?_
    · intro x2 x3 x4
      refine Keeps.ite ?_ ?_
      · exact State.setHpo_keeps x4
      · exact x4
    · exact k1
  · exact k1

theorem State.detBiasOn_keeps {s0 : State} {s : State} {b : ℕ} (h1 : Keeps s0 s) : Keeps s0 (s.detBiasOn b) := by
  unfold State.detBiasOn
  refine Keeps.ite ?_ ?_
  · exact h1
  · extract_lets +onlyGivenNames x1
    clear_value x1
    extract_lets +onlyGivenNames x2
    have k2 : Keeps s0 x2 := by
      unfold x2
      exact Keeps.same h1 rfl rfl rfl rfl
    clear_value x2
    refine Keeps.ite ?_ ?_
    · exact State.biasStart_keeps k2
    · exact k2

theorem State.detBiasOff_keeps {s0 : State} {s : State} {b : ℕ} (h1 : Keeps s0 s) : Keeps s0 (s.detBiasOff b) := by
  unfold State.detBiasOff
  refine Keeps.ite ?_ ?_
  · exact h1
  · extract_lets +onlyGivenNames x1
    have k1 : Keeps s0 x1 := by
      unfold x1
      exact Keeps.same h1 rfl rfl rfl rfl
    clear_value x1
    refine Keeps.ite ?_ ?_
    · exact k1
    · exact State.biasOff_keeps k1

theorem State.btnRelease_keeps {s0 : State} {s : State} {j : ℕ} (h1 : Keeps s0 s) : Keeps s0 (s.btnRelease j) := by
  unfold State.btnRelease
  extract_lets +onlyGivenNames x1
  clear_value x1
  split
  · exact State.post_keeps (State.setBit_keeps (State.put_keeps (State.setJack_keeps h1)))
  · exact State.setJack_keeps h1

theorem State.detReady_keeps {s0 : State} {s : State} {j : ℕ} {type : ℕ} {code : ℕ} (h1 : Keeps s0 s) : Keeps s0
    (s.detReady j type code) := by
  unfold State.detReady
  extract_lets +onlyGivenNames x1
  have k1 : Keeps s0 x1 := State.setBit_keeps (State.put_keeps (State.put_keeps (State.put_keeps h1)))
  clear_value x1
  extract_lets +onlyGivenNames x2
  have k2 : Keeps s0 x2 := State.post_keeps k1
  clear_value x2
  extract_lets +onlyGivenNames x3
  have k3 : Keeps s0 x3 := by
    unfold x3
    refine Keeps.ite ?_ ?_
    · exact k2
    · exact State.detBiasOff_keeps k2
  clear_value x3
  exact State.jackMute_keeps k3

theorem State.identify_keeps {s0 : State} {s : State} {j : ℕ} (h1 : Keeps s0 s) : Keeps s0 (s.identify j) := by
  unfold State.identify
  extract_lets +onlyGivenNames x1
  clear_value x1
  refine Keeps.ite ?_ ?_
  · exact State.detReady_keeps h1
  · refine Keeps.ite ?_ ?_
    · exact State.put_keeps h1
    · exact State.detBiasOn_keeps (State.setJack_keeps (State.put_keeps h1))

theorem State.debounce_keeps {s0 : State} {s : State} {j : ℕ} (h1 : Keeps s0 s) : Keeps s0 (s.debounce j) := by
  unfold State.debounce
  extract_lets +onlyGivenNames x1
  clear_value x1
  extract_lets +onlyGivenNames x2
  have k2 : Keeps s0 x2 := State.setJack_keeps h1
  clear_value x2
  exact State.jackHold_keeps (State.put_keeps k2)

theorem State.jackEmpty_keeps {s0 : State} {s : State} {j : ℕ} (h1 : Keeps s0 s) : Keeps s0 (s.jackEmpty j) := by
  unfold State.jackEmpty
  extract_lets +onlyGivenNames x1
  have k1 : Keeps s0 x1 := State.detBiasOff_keeps (State.btnRelease_keeps h1)
  clear_value x1
  extract_lets +onlyGivenNames x2
  have k2 : Keeps s0 x2 := State.put_keeps (State.put_keeps k1)
  clear_value x2
  exact State.setJack_keeps k2

theorem detJackCfgWrite_keeps {s0 : State} {j : ℕ} {v : ℕ} {s : State} (h3 : Keeps s0 s) : Keeps s0 (detJackCfgWrite j v
    s) := by
  unfold detJackCfgWrite
  refine Keeps.ite ?_ ?_
  · exact State.post_keeps (State.put_keeps (State.put_keeps h3))
  · extract_lets +onlyGivenNames x1
    clear_value x1
    extract_lets +onlyGivenNames x2
    have k2 : Keeps s0 x2 := State.put_keeps (State.put_keeps (State.put_keeps (State.put_keeps (State.put_keeps h3))))
    clear_value x2
    extract_lets +onlyGivenNames x3
    have k3 : Keeps s0 x3 := State.put_keeps (State.put_keeps (State.put_keeps (State.put_keeps k2)))
    clear_value x3
    extract_lets +onlyGivenNames x4
    have k4 : Keeps s0 x4 := State.put_keeps k3
    clear_value x4
    refine Keeps.ite ?_ ?_
    · extract_lets +onlyGivenNames x5
      have k5 : Keeps s0 x5 := State.put_keeps k4
      clear_value x5
      refine Keeps.ite ?_ ?_
      · exact State.debounce_keeps k5
      · exact k5
    · refine Keeps.ite ?_ ?_
      · exact State.jackMute_keeps (State.put_keeps (State.jackEmpty_keeps k4))
      · extract_lets +onlyGivenNames x6
        have k6 : Keeps s0 x6 := by
          unfold x6
          refine Keeps.ite ?_ ?_
          · exact k4
          · exact State.btnRelease_keeps k4
        clear_value x6
        exact State.jackMute_keeps k6

theorem jackEdge_keeps {s0 : State} {j : ℕ} {level : Bool} {s : State} (h3 : Keeps s0 s) : Keeps s0 (jackEdge j level s)
    := by
  unfold jackEdge
  extract_lets +onlyGivenNames x1
  clear_value x1
  extract_lets +onlyGivenNames x2
  have k2 : Keeps s0 x2 := State.setJack_keeps h3
  clear_value x2
  extract_lets +onlyGivenNames x3
  clear_value x3
  refine Keeps.ite ?_ ?_
  · exact k2
  · refine Keeps.ite ?_ ?_
    · refine Keeps.ite ?_ ?_
      · exact State.debounce_keeps k2
      · exact State.setJack_keeps k2
    · refine Keeps.ite ?_ ?_
      · exact k2
      · refine Keeps.ite ?_ ?_
        · exact State.jackMute_keeps (State.put_keeps k2)
        · exact State.setJack_keeps k2

theorem detInsert_keeps {s0 : State} {j : ℕ} {s : State} (h2 : Keeps s0 s) : Keeps s0 (detInsert j s) := by
  unfold detInsert
  refine Keeps.ite ?_ ?_
  · extract_lets +onlyGivenNames x1
    have k1 : Keeps s0 x1 := State.post_keeps (State.setBit_keeps (State.put_keeps h2))
    clear_value x1
    refine Keeps.ite ?_ ?_
    · exact State.wakeBy_keeps k1
    · exact k1
  · exact h2

theorem jackSeatEnd_keeps {s0 : State} {j : ℕ} {s : State} (h2 : Keeps s0 s) : Keeps s0 (jackSeatEnd j s) := by
  unfold jackSeatEnd
  refine Keeps.ite ?_ ?_
  · exact h2
  · refine Keeps.ite ?_ ?_
    · exact State.identify_keeps h2
    · exact State.setJack_keeps h2

theorem State.identSample_keeps {s0 : State} {s : State} {j : ℕ} {code : ℕ} (h1 : Keeps s0 s) : Keeps s0 (s.identSample
    j code) := by
  unfold State.identSample
  extract_lets +onlyGivenNames x1
  clear_value x1
  refine Keeps.ite ?_ ?_
  · exact State.setJack_keeps h1
  · extract_lets +onlyGivenNames x2
    clear_value x2
    refine Keeps.ite ?_ ?_
    · exact State.setJack_keeps h1
    · extract_lets +onlyGivenNames x3
      clear_value x3
      extract_lets +onlyGivenNames x4
      clear_value x4
      extract_lets +onlyGivenNames x5
      clear_value x5
      refine Keeps.ite ?_ ?_
      · exact State.detReady_keeps (State.setJack_keeps h1)
      · refine Keeps.ite ?_ ?_
        · exact State.detReady_keeps (State.setJack_keeps h1)
        · exact State.setJack_keeps h1

theorem State.btnSample_keeps {s0 : State} {s : State} {j : ℕ} {code : ℕ} (h1 : Keeps s0 s) : Keeps s0 (s.btnSample j
    code) := by
  unfold State.btnSample
  extract_lets +onlyGivenNames x1
  extract_lets +onlyGivenNames x2
  extract_lets +onlyGivenNames x3
  refine Keeps.ite ?_ ?_
  · exact State.setJack_keeps h1
  · extract_lets +onlyGivenNames x4
    clear_value x4
    extract_lets +onlyGivenNames x5
    clear_value x5
    extract_lets +onlyGivenNames x6
    have k6 : Keeps s0 x6 := State.setJack_keeps h1
    clear_value x6
    refine Keeps.ite ?_ ?_
    · exact k6
    · extract_lets +onlyGivenNames x7
      have k7 : Keeps s0 x7 := State.btnRelease_keeps k6
      clear_value x7
      clear_value x3
      clear_value x2
      clear_value x1
      split
      · exact State.post_keeps (State.setBit_keeps (State.put_keeps (State.setJack_keeps k7)))
      · exact k7

theorem detSample_keeps {s0 : State} {j : ℕ} {code : ℕ} {s : State} (h3 : Keeps s0 s) : Keeps s0 (detSample j code s) := by
  unfold detSample
  extract_lets +onlyGivenNames x1
  clear_value x1
  extract_lets +onlyGivenNames x2
  clear_value x2
  refine Keeps.ite ?_ ?_
  · exact h3
  · refine Keeps.ite ?_ ?_
    · exact State.identSample_keeps h3
    · refine Keeps.ite ?_ ?_
      · exact State.btnSample_keeps h3
      · exact h3

theorem detRemove_keeps {s0 : State} {j : ℕ} {s : State} (h2 : Keeps s0 s) : Keeps s0 (detRemove j s) := by
  unfold detRemove
  refine Keeps.ite ?_ ?_
  · extract_lets +onlyGivenNames x1
    have k1 : Keeps s0 x1 := State.setBit_keeps (State.jackEmpty_keeps (State.jackMute_keeps h2))
    clear_value x1
    extract_lets +onlyGivenNames x2
    have k2 : Keeps s0 x2 := State.post_keeps k1
    clear_value x2
    refine Keeps.ite ?_ ?_
    · exact State.wakeBy_keeps k2
    · exact k2
  · exact h2

theorem reident_keeps {s0 : State} {j : ℕ} {s : State} (h2 : Keeps s0 s) : Keeps s0 (reident j s) := by
  unfold reident
  refine Keeps.ite ?_ ?_
  · exact State.identify_keeps (State.jackMute_keeps (State.btnRelease_keeps h2))
  · exact h2

theorem biasCfgWrite_keeps {s0 : State} {v : ℕ} {s : State} (h2 : Keeps s0 s) : Keeps s0 (biasCfgWrite v s) := by
  unfold biasCfgWrite
  extract_lets +onlyGivenNames x1
  have k1 : Keeps s0 x1 := ainBiasCfgWrite_keeps h2
  clear_value x1
  refine Keeps.foldl ?_ ?_
  · intro x2 x3 x4
    refine Keeps.ite ?_ ?_
    · exact State.identify_keeps x4
    · exact x4
  · exact k1

theorem State.jackBiasFault_keeps {s0 : State} {s : State} {k : ℕ} (h1 : Keeps s0 s) : Keeps s0 (s.jackBiasFault k) := by
  unfold State.jackBiasFault
  refine Keeps.foldl ?_ ?_
  · intro x1 x2 x3
    refine Keeps.ite ?_ ?_
    · exact x3
    · refine Keeps.ite ?_ ?_
      · exact State.detReady_keeps x3
      · refine Keeps.ite ?_ ?_
        · exact State.put_keeps (State.btnRelease_keeps x3)
        · exact x3
  · exact h1

theorem State.jackPause_keeps {s0 : State} {s : State} (h1 : Keeps s0 s) : Keeps s0 s.jackPause := by
  unfold State.jackPause
  refine Keeps.foldl ?_ ?_
  · intro x1 x2 x3
    refine Keeps.ite ?_ ?_
    · exact State.put_keeps (State.btnRelease_keeps x3)
    · exact x3
  · exact h1

theorem State.jackResume_keeps {s0 : State} {s : State} (h1 : Keeps s0 s) : Keeps s0 s.jackResume := by
  unfold State.jackResume
  refine Keeps.foldl ?_ ?_
  · intro x1 x2 x3
    refine Keeps.ite ?_ ?_
    · exact State.identify_keeps x3
    · exact x3
  · exact h1

theorem State.jackSleep_keeps {s0 : State} {s : State} (h1 : Keeps s0 s) : Keeps s0 s.jackSleep := by
  unfold State.jackSleep
  refine Keeps.foldl ?_ ?_
  · intro x1 x2 x3
    extract_lets +onlyGivenNames x4
    have k4 : Keeps s0 x4 := State.btnRelease_keeps x3
    clear_value x4
    refine Keeps.ite ?_ ?_
    · exact State.setJack_keeps (State.put_keeps k4)
    · exact k4
  · exact h1

theorem privEngage_keeps {s0 : State} {s : State} (h1 : Keeps s0 s) : Keeps s0 (privEngage s) := by
  unfold privEngage
  refine Keeps.ite ?_ ?_
  · exact State.put_keeps h1
  · extract_lets +onlyGivenNames x1
    have k1 : Keeps s0 x1 := State.put_keeps (State.put_keeps (State.put_keeps h1))
    clear_value x1
    extract_lets +onlyGivenNames x2
    clear_value x2
    extract_lets +onlyGivenNames x3
    have k3 : Keeps s0 x3 := by
      unfold x3
      exact Keeps.same k1 rfl rfl rfl rfl
    clear_value x3
    extract_lets +onlyGivenNames x4
    have k4 : Keeps s0 x4 := by
      unfold x4
      with_reducible apply State.put_keeps
      refine Keeps.foldl ?_ ?_
      · intro x5 x6 x7
        exact State.biasOff_keeps x7
      · exact k3
    clear_value x4
    extract_lets +onlyGivenNames x8
    have k8 : Keeps s0 x8 := State.put_keeps (State.bump_keeps (State.pdmRefresh_keeps k4))
    clear_value x8
    exact State.jackPause_keeps (State.post_keeps k8)

theorem privNRise_keeps {s0 : State} {s : State} (h1 : Keeps s0 s) : Keeps s0 (privNRise s) := by
  unfold privNRise
  refine Keeps.ite ?_ ?_
  · exact State.put_keeps h1
  · exact h1

theorem privReleased_keeps {s0 : State} {s : State} (h1 : Keeps s0 s) : Keeps s0 (privReleased s) := by
  unfold privReleased
  refine Keeps.ite ?_ ?_
  · extract_lets +onlyGivenNames x1
    have k1 : Keeps s0 x1 := State.put_keeps (State.put_keeps (State.put_keeps h1))
    clear_value x1
    extract_lets +onlyGivenNames x2
    have k2 : Keeps s0 x2 := State.post_keeps (State.put_keeps (State.put_keeps k1))
    clear_value x2
    exact State.jackResume_keeps (State.biasRestart_keeps (State.pdmRefresh_keeps k2))
  · exact h1

end Sys2Proof.Machine
end

