-- ==== Sys2Proof/Laws/KeepsControl.lean ====
section
/-! SUPPORT. What every operation keeps (`Keeps`), one lemma for each: the tunnel, the rings, the two-wire buses, the annals, the banks, the curator, the keeper and power. -/

namespace Sys2Proof.Machine

theorem State.setChain_keeps {s0 : State} {s : State} {f : Chain → Chain} (h1 : Keeps s0 s) : Keeps s0 (s.setChain f) := by
  unfold State.setChain
  exact Keeps.same h1 rfl rfl rfl rfl

theorem State.txPlain_keeps {s0 : State} {s : State} {u : TunUnit} (h1 : Keeps s0 s) : Keeps s0 (s.txPlain u) := by
  unfold State.txPlain
  exact State.setChain_keeps h1

theorem State.txFill_keeps {s0 : State} {s : State} {k : ℕ} {a3 : ℕ} (h1 : Keeps s0 s) : Keeps s0 (s.txFill k a3) := by
  induction a3 generalizing s k
  · rw [State.txFill]
    exact h1
  · rename_i n ih
    rw [State.txFill]
    split
    · exact h1
    · extract_lets +onlyGivenNames x1
      clear_value x1
      refine Keeps.ite ?_ ?_
      · exact h1
      · extract_lets +onlyGivenNames x2
        clear_value x2
        extract_lets +onlyGivenNames x3
        clear_value x3
        with_reducible apply ih
        exact State.setChain_keeps h1

theorem State.txUnit_keeps {s0 : State} {s : State} {u : TunUnit} (h1 : Keeps s0 s) : Keeps s0 (s.txUnit u) := by
  unfold State.txUnit
  extract_lets +onlyGivenNames x1
  clear_value x1
  exact State.txFill_keeps (State.setChain_keeps h1)

theorem State.proxySend_keeps {s0 : State} {s : State} {r : ℕ} {a3 : ℕ} (h1 : Keeps s0 s) : Keeps s0 (s.proxySend r a3)
    := by
  induction a3 generalizing s r
  · rw [State.proxySend]
    exact h1
  · rename_i n ih
    rw [State.proxySend]
    refine Keeps.ite ?_ ?_
    · exact h1
    · extract_lets +onlyGivenNames x1
      have k1 : Keeps s0 x1 := by
        unfold x1
        refine Keeps.foldl ?_ ?_
        · intro x2 x3 x4
          exact State.txUnit_keeps x4
        · exact h1
      clear_value x1
      extract_lets +onlyGivenNames x5
      clear_value x5
      extract_lets +onlyGivenNames x6
      have k6 : Keeps s0 x6 := State.put_keeps (State.setRing_keeps k1)
      clear_value x6
      with_reducible apply ih
      refine Keeps.ite ?_ ?_
      · exact State.put_keeps k6
      · exact k6

theorem State.proxyPost_keeps {s0 : State} {s : State} {r : ℕ} {w : ℕ × ℕ} {last : Bool} (h1 : Keeps s0 s) : Keeps s0
    (s.proxyPost r w last) := by
  unfold State.proxyPost
  extract_lets +onlyGivenNames x1
  have k1 : Keeps s0 x1 := State.ringPush_keeps h1
  clear_value x1
  extract_lets +onlyGivenNames x2
  clear_value x2
  extract_lets +onlyGivenNames x3
  clear_value x3
  extract_lets +onlyGivenNames x4
  clear_value x4
  extract_lets +onlyGivenNames x5
  clear_value x5
  extract_lets +onlyGivenNames x6
  clear_value x6
  extract_lets +onlyGivenNames x7
  have k7 : Keeps s0 x7 := State.setRing_keeps k1
  clear_value x7
  refine Keeps.ite ?_ ?_
  · exact State.post_keeps (State.put_keeps (State.put_keeps (State.put_keeps k7)))
  · extract_lets +onlyGivenNames x8
    have k8 : Keeps s0 x8 := State.setHead_keeps k7
    clear_value x8
    exact State.put_keeps k8

theorem State.proxyCpl_keeps {s0 : State} {s : State} {r : ℕ} {w : ℕ × ℕ} {last : Bool} (h1 : Keeps s0 s) : Keeps s0
    (s.proxyCpl r w last) := by
  unfold State.proxyCpl
  refine Keeps.ite ?_ ?_
  · exact State.put_keeps (State.setChain_keeps h1)
  · exact State.proxyPost_keeps h1

theorem State.proxyRelease_keeps {s0 : State} {s : State} (h1 : Keeps s0 s) : Keeps s0 s.proxyRelease := by
  unfold State.proxyRelease
  extract_lets +onlyGivenNames x1
  clear_value x1
  refine Keeps.foldl ?_ ?_
  · intro x2 x3 x4
    refine Keeps.ite ?_ ?_
    · exact State.setChain_keeps x4
    · exact State.proxyPost_keeps x4
  · exact State.setChain_keeps h1

theorem State.accessEnd_keeps {s0 : State} {s : State} {status : ℕ} (h1 : Keeps s0 s) : Keeps s0 (s.accessEnd status) := by
  unfold State.accessEnd
  exact State.setChain_keeps (State.put_keeps (State.put_keeps h1))

theorem State.dropUnit_keeps {s0 : State} {s : State} {u : ℕ} (h1 : Keeps s0 s) : Keeps s0 (s.dropUnit u).2 := by
  unfold State.dropUnit
  extract_lets +onlyGivenNames x1
  clear_value x1
  extract_lets +onlyGivenNames x2
  have k2 : Keeps s0 x2 := State.setChain_keeps h1
  clear_value x2
  extract_lets +onlyGivenNames x3
  have k3 : Keeps s0 x3 := by
    unfold x3
    refine Keeps.foldl ?_ ?_
    · intro x4 x5 x6
      refine Keeps.ite ?_ ?_
      · extract_lets +onlyGivenNames x7
        clear_value x7
        refine Keeps.foldl ?_ ?_
        · intro x8 x9 x10
          extract_lets +onlyGivenNames x11
          clear_value x11
          extract_lets +onlyGivenNames x12
          clear_value x12
          exact State.proxyCpl_keeps x10
        · exact x6
      · exact x6
    · exact k2
  clear_value x3
  extract_lets +onlyGivenNames x13
  have k13 : Keeps s0 x13 := by
    unfold x13
    clear_value x13
    split
    · refine Keeps.ite ?_ ?_
      · exact State.accessEnd_keeps k3
      · exact k3
    · exact k3
  clear_value x13
  exact k13

theorem State.forwardEvents_keeps {s0 : State} {s : State} (h1 : Keeps s0 s) : Keeps s0 s.forwardEvents := by
  unfold State.forwardEvents
  extract_lets +onlyGivenNames x1
  clear_value x1
  refine Keeps.foldl ?_ ?_
  · intro x2 x3 x4
    refine Keeps.foldl ?_ ?_
    · intro x5 x6 x7
      exact State.txUnit_keeps x7
    · exact x4
  · exact State.setChain_keeps h1

theorem State.returnCpls_keeps {s0 : State} {s : State} (h1 : Keeps s0 s) : Keeps s0 s.returnCpls := by
  unfold State.returnCpls
  extract_lets +onlyGivenNames x1
  clear_value x1
  refine Keeps.foldl ?_ ?_
  · intro x2 x3 x4
    refine Keeps.ite ?_ ?_
    · extract_lets +onlyGivenNames x5
      have k5 : Keeps s0 x5 := State.setChain_keeps x4
      clear_value x5
      extract_lets +onlyGivenNames x6
      have k6 : Keeps s0 x6 := State.txUnit_keeps k5
      clear_value x6
      exact State.txUnit_keeps k6
    · exact x4
  · exact Keeps.same h1 rfl rfl rfl rfl

theorem State.putRingCfg_keeps {s0 : State} {s : State} {r : ℕ} {v : ℕ} (h1 : Keeps s0 s) : Keeps s0 (s.putRingCfg r v)
    := by
  unfold State.putRingCfg
  exact State.put_keeps (State.put_keeps (State.put_keeps (State.put_keeps (State.put_keeps (State.put_keeps (State.put_keeps (State.put_keeps h1)))))))

theorem State.ringInstall_keeps {s0 : State} {s : State} {r : ℕ} {v : ℕ} (h1 : Keeps s0 s) : Keeps s0 (s.ringInstall r
    v) := by
  unfold State.ringInstall
  extract_lets +onlyGivenNames x1
  clear_value x1
  extract_lets +onlyGivenNames x2
  have k2 : Keeps s0 x2 := by
    unfold x2
    refine Keeps.ite ?_ ?_
    · exact State.setRing_keeps (State.put_keeps (State.setTail_keeps (State.setHead_keeps h1)))
    · exact h1
  clear_value x2
  extract_lets +onlyGivenNames x3
  have k3 : Keeps s0 x3 := State.put_keeps (State.put_keeps (State.putRingCfg_keeps k2))
  clear_value x3
  refine Keeps.ite ?_ ?_
  · exact State.bankWrite_keeps (State.bankWrite_keeps k3)
  · exact k3

theorem ringCfgWrite_keeps {s0 : State} {r : ℕ} {v : ℕ} {s : State} (h3 : Keeps s0 s) : Keeps s0 (ringCfgWrite r v s) := by
  unfold ringCfgWrite
  refine Keeps.ite ?_ ?_
  · exact State.ringInstall_keeps h3
  · exact State.post_keeps (State.put_keeps h3)

theorem State.ptrRefuse_keeps {s0 : State} {s : State} {r : ℕ} {ptr : ℕ} {v : ℕ} (h1 : Keeps s0 s) : Keeps s0
    (s.ptrRefuse r ptr v) := by
  unfold State.ptrRefuse
  exact State.post_keeps (State.put_keeps h1)

theorem ringTailWrite_keeps {s0 : State} {r : ℕ} {w : ℕ} {s : State} (h3 : Keeps s0 s) : Keeps s0 (ringTailWrite r w s)
    := by
  unfold ringTailWrite
  extract_lets +onlyGivenNames x1
  clear_value x1
  refine Keeps.ite ?_ ?_
  · exact h3
  · refine Keeps.ite ?_ ?_
    · exact State.bankWrite_keeps h3
    · refine Keeps.ite ?_ ?_
      · exact h3
      · extract_lets +onlyGivenNames x2
        clear_value x2
        refine Keeps.ite ?_ ?_
        · exact State.ptrRefuse_keeps h3
        · extract_lets +onlyGivenNames x3
          have k3 : Keeps s0 x3 := State.setTail_keeps (State.put_keeps h3)
          clear_value x3
          refine Keeps.ite ?_ ?_
          · exact State.proxySend_keeps k3
          · exact State.makeReady_keeps k3

theorem ringHeadWrite_keeps {s0 : State} {r : ℕ} {w : ℕ} {s : State} (h3 : Keeps s0 s) : Keeps s0 (ringHeadWrite r w s)
    := by
  unfold ringHeadWrite
  extract_lets +onlyGivenNames x1
  clear_value x1
  refine Keeps.ite ?_ ?_
  · exact h3
  · refine Keeps.ite ?_ ?_
    · exact State.bankWrite_keeps h3
    · extract_lets +onlyGivenNames x2
      clear_value x2
      refine Keeps.ite ?_ ?_
      · exact State.ptrRefuse_keeps h3
      · extract_lets +onlyGivenNames x3
        have k3 : Keeps s0 x3 := State.setHead_keeps (State.put_keeps h3)
        clear_value x3
        refine Keeps.ite ?_ ?_
        · exact State.proxyRelease_keeps (State.cplReleaseAll_keeps k3)
        · exact k3

theorem State.streamTick_keeps {s0 : State} {s : State} {r : ℕ} (h1 : Keeps s0 s) : Keeps s0 (s.streamTick r) := by
  unfold State.streamTick
  refine Keeps.ite ?_ ?_
  · exact h1
  · extract_lets +onlyGivenNames x1
    clear_value x1
    extract_lets +onlyGivenNames x2
    clear_value x2
    refine Keeps.ite ?_ ?_
    · extract_lets +onlyGivenNames x3
      have k3 : Keeps s0 x3 := State.setRing_keeps h1
      clear_value x3
      refine Keeps.ite ?_ ?_
      · exact State.post_keeps k3
      · exact k3
    · exact State.setRing_keeps h1

theorem State.proxyResume_keeps {s0 : State} {s : State} {r : ℕ} {mode : ℕ} (h1 : Keeps s0 s) : Keeps s0 (s.proxyResume
    r mode) := by
  unfold State.proxyResume
  refine Keeps.ite ?_ ?_
  · exact State.txUnit_keeps h1
  · exact h1

theorem State.ringRuns_keeps {s0 : State} {s : State} {r : ℕ} (h1 : Keeps s0 s) : Keeps s0 (s.ringRuns r) := by
  unfold State.ringRuns
  exact State.put_keeps h1

theorem State.passFailed_keeps {s0 : State} {s : State} {r : ℕ} (h1 : Keeps s0 s) : Keeps s0 (s.passFailed r) := by
  unfold State.passFailed
  exact State.setHead_keeps h1

theorem skip_keeps {s0 : State} {r : ℕ} {s : State} (h2 : Keeps s0 s) : Keeps s0 (skip r s) := by
  unfold skip
  refine Keeps.ite ?_ ?_
  · exact State.proxyResume_keeps (State.ringRuns_keeps (State.passFailed_keeps h2))
  · exact h2

theorem retry_keeps {s0 : State} {r : ℕ} {s : State} (h2 : Keeps s0 s) : Keeps s0 (retry r s) := by
  unfold retry
  refine Keeps.ite ?_ ?_
  · exact State.proxyResume_keeps (State.ringRuns_keeps (State.setRing_keeps h2))
  · exact h2

theorem flush_keeps {s0 : State} {r : ℕ} {s : State} (h2 : Keeps s0 s) : Keeps s0 (flush r s) := by
  unfold flush
  refine Keeps.ite ?_ ?_
  · extract_lets +onlyGivenNames x1
    have k1 : Keeps s0 x1 := State.passFailed_keeps h2
    clear_value x1
    refine Keeps.ite ?_ ?_
    · exact State.proxyResume_keeps (State.ringRuns_keeps k1)
    · exact State.flushRun_keeps k1
  · exact h2

theorem ringNop_keeps {s0 : State} {r : ℕ} {s : State} (h2 : Keeps s0 s) : Keeps s0 (ringNop r s) := by
  unfold ringNop
  with_reducible apply State.command_keeps
  · exact h2
  · intro x1 x2 x3 x4
    exact State.finish_keeps x4

theorem State.waitStart_keeps {s0 : State} {s : State} {r : ℕ} {mode : ℕ} (h1 : Keeps s0 s) : Keeps s0 (s.waitStart r
    mode) := by
  unfold State.waitStart
  with_reducible apply State.command_keeps
  · exact h1
  · intro x1 x2 x3 x4
    refine Keeps.ite ?_ ?_
    · exact State.finish_keeps x4
    · refine Keeps.ite ?_ ?_
      · exact State.setExec_keeps x4
      · exact State.finish_keeps x4

theorem waitFrame_keeps {s0 : State} {r : ℕ} {s : State} (h2 : Keeps s0 s) : Keeps s0 (waitFrame r s) := by
  unfold waitFrame
  exact State.waitStart_keeps h2

theorem waitFrames_keeps {s0 : State} {r : ℕ} {s : State} (h2 : Keeps s0 s) : Keeps s0 (waitFrames r s) := by
  unfold waitFrames
  exact State.waitStart_keeps h2

theorem waitEvent_keeps {s0 : State} {r : ℕ} {s : State} (h2 : Keeps s0 s) : Keeps s0 (waitEvent r s) := by
  unfold waitEvent
  with_reducible apply State.command_keeps
  · exact h2
  · intro x1 x2 x3 x4
    exact State.setExec_keeps x4

theorem State.waitOccur_keeps {s0 : State} {s : State} {r : ℕ} (h1 : Keeps s0 s) : Keeps s0 (s.waitOccur r) := by
  unfold State.waitOccur
  split
  · refine Keeps.ite ?_ ?_
    · exact State.setExec_keeps h1
    · exact h1
  · exact h1

theorem State.waitTick_keeps {s0 : State} {s : State} {r : ℕ} (h1 : Keeps s0 s) : Keeps s0 (s.waitTick r) := by
  unfold State.waitTick
  split
  · refine Keeps.ite ?_ ?_
    · extract_lets +onlyGivenNames x1
      clear_value x1
      extract_lets +onlyGivenNames x2
      clear_value x2
      refine Keeps.ite ?_ ?_
      · exact State.setExec_keeps h1
      · refine Keeps.ite ?_ ?_
        · exact h1
        · exact State.setExec_keeps h1
    · exact h1
  · exact h1

theorem waitEnd_keeps {s0 : State} {r : ℕ} {s : State} (h2 : Keeps s0 s) : Keeps s0 (waitEnd r s) := by
  unfold waitEnd
  split
  · refine Keeps.ite ?_ ?_
    · exact h2
    · refine Keeps.ite ?_ ?_
      · exact State.finish_keeps h2
      · refine Keeps.ite ?_ ?_
        · exact State.finish_keeps h2
        · exact h2
  · exact h2

theorem fence_keeps {s0 : State} {r : ℕ} {s : State} (h2 : Keeps s0 s) : Keeps s0 (fence r s) := by
  unfold fence
  with_reducible apply State.command_keeps
  · exact h2
  · intro x1 x2 x3 x4
    extract_lets +onlyGivenNames x5
    clear_value x5
    refine Keeps.ite ?_ ?_
    · exact State.finish_keeps x4
    · exact State.setExec_keeps x4

theorem State.fenceTick_keeps {s0 : State} {s : State} {r : ℕ} (h1 : Keeps s0 s) : Keeps s0 (s.fenceTick r) := by
  unfold State.fenceTick
  split
  · refine Keeps.ite ?_ ?_
    · refine Keeps.ite ?_ ?_
      · exact State.setExec_keeps h1
      · refine Keeps.ite ?_ ?_
        · exact State.setExec_keeps h1
        · exact State.setExec_keeps h1
    · exact h1
  · exact h1

theorem fenceEnd_keeps {s0 : State} {r : ℕ} {s : State} (h2 : Keeps s0 s) : Keeps s0 (fenceEnd r s) := by
  unfold fenceEnd
  split
  · refine Keeps.ite ?_ ?_
    · exact h2
    · refine Keeps.ite ?_ ?_
      · exact State.finish_keeps h2
      · refine Keeps.ite ?_ ?_
        · exact State.finish_keeps h2
        · exact h2
  · exact h2

theorem State.paramPush_keeps {s0 : State} {s : State} {r : ℕ} {a3 : ℕ} (h1 : Keeps s0 s) : Keeps s0 (s.paramPush r a3)
    := by
  induction a3 generalizing s r
  · rw [State.paramPush]
    exact h1
  · rename_i n ih
    rw [State.paramPush]
    split
    · extract_lets +onlyGivenNames x1
      clear_value x1
      extract_lets +onlyGivenNames x2
      clear_value x2
      extract_lets +onlyGivenNames x3
      clear_value x3
      refine Keeps.ite ?_ ?_
      · exact h1
      · refine Keeps.ite ?_ ?_
        · with_reducible apply ih
          exact State.paramDone_keeps (State.paramDrop_keeps (State.setExec_keeps h1))
        · extract_lets +onlyGivenNames x4
          clear_value x4
          refine Keeps.ite ?_ ?_
          · exact h1
          · with_reducible apply ih
            exact State.setShelfQueue_keeps (State.setExec_keeps h1)
    · exact h1

theorem param_keeps {s0 : State} {r : ℕ} {s : State} (h2 : Keeps s0 s) : Keeps s0 (param r s) := by
  unfold param
  with_reducible apply State.command_keeps
  · exact h2
  · intro x1 x2 x3 x4
    extract_lets +onlyGivenNames x5
    clear_value x5
    refine Keeps.ite ?_ ?_
    · exact State.finish_keeps x4
    · exact State.paramPush_keeps (State.setExec_keeps x4)

theorem State.ringsEnd_keeps {s0 : State} {s : State} (h1 : Keeps s0 s) : Keeps s0 s.ringsEnd := by
  unfold State.ringsEnd
  refine Keeps.foldl ?_ ?_
  · intro x1 x2 x3
    exact State.waitOccur_keeps x3
  · exact h1

theorem State.ringsTick_keeps {s0 : State} {s : State} (h1 : Keeps s0 s) : Keeps s0 s.ringsTick := by
  unfold State.ringsTick
  extract_lets +onlyGivenNames x1
  have k1 : Keeps s0 x1 := by
    unfold x1
    refine Keeps.foldl ?_ ?_
    · intro x2 x3 x4
      exact State.fenceTick_keeps (State.waitTick_keeps x4)
    · exact h1
  clear_value x1
  extract_lets +onlyGivenNames x5
  have k5 : Keeps s0 x5 := by
    unfold x5
    refine Keeps.foldl ?_ ?_
    · intro x6 x7 x8
      exact State.paramPush_keeps x8
    · exact k1
  clear_value x5
  refine Keeps.foldl ?_ ?_
  · intro x9 x10 x11
    exact State.streamTick_keeps x11
  · exact k5

theorem State.ringsClear_keeps {s0 : State} {s : State} (h1 : Keeps s0 s) : Keeps s0 s.ringsClear := by
  unfold State.ringsClear
  extract_lets +onlyGivenNames x1
  clear_value x1
  extract_lets +onlyGivenNames x2
  clear_value x2
  exact Keeps.same h1 rfl rfl rfl rfl

theorem State.ringsReset_keeps {s0 : State} {s : State} {depth : ℕ} (h1 : Keeps s0 s) : Keeps s0 (s.ringsReset depth) := by
  unfold State.ringsReset
  exact State.put_keeps (State.bump_keeps (State.ringsClear_keeps h1))

theorem State.partialGroup_keeps {s0 : State} {s : State} {addr : ℕ} {n : ℕ} (h1 : Keeps s0 s) : Keeps s0
    (s.partialGroup addr n) := by
  unfold State.partialGroup
  refine Keeps.ite ?_ ?_
  · exact State.post_keeps (State.bump_keeps (State.put_keeps h1))
  · exact h1

theorem hostTransactionEnd_keeps {s0 : State} {addr : ℕ} {n : ℕ} {hs : Bool} {s : State} (h4 : Keeps s0 s) : Keeps s0
    (hostTransactionEnd addr n hs s) := by
  unfold hostTransactionEnd
  extract_lets +onlyGivenNames x1
  have k1 : Keeps s0 x1 := State.put_keeps (State.put_keeps (State.partialGroup_keeps h4))
  clear_value x1
  exact Keeps.same k1 rfl rfl rfl rfl

theorem twbTimeout_keeps {s0 : State} {addr : ℕ} {n : ℕ} {sdaLow : Bool} {s : State} (h4 : Keeps s0 s) : Keeps s0
    (twbTimeout addr n sdaLow s) := by
  unfold twbTimeout
  refine Keeps.ite ?_ ?_
  · exact h4
  · extract_lets +onlyGivenNames x1
    have k1 : Keeps s0 x1 := State.put_keeps (State.partialGroup_keeps h4)
    clear_value x1
    extract_lets +onlyGivenNames x2
    have k2 : Keeps s0 x2 := by
      unfold x2
      exact Keeps.same k1 rfl rfl rfl rfl
    clear_value x2
    exact State.post_keeps (State.bump_keeps (State.put_keeps k2))

theorem alertResponse_keeps {s0 : State} {won : Bool} {s : State} (h2 : Keeps s0 s) : Keeps s0 (alertResponse won s) := by
  unfold alertResponse
  refine Keeps.ite ?_ ?_
  · exact h2
  · refine Keeps.ite ?_ ?_
    · exact Keeps.same h2 rfl rfl rfl rfl
    · extract_lets +onlyGivenNames x1
      have k1 : Keeps s0 x1 := State.put_keeps h2
      clear_value x1
      exact Keeps.same k1 rfl rfl rfl rfl

theorem alertStatWrite_keeps {s0 : State} {v : ℕ} {s : State} (h2 : Keeps s0 s) : Keeps s0 (alertStatWrite v s) := by
  unfold alertStatWrite
  extract_lets +onlyGivenNames x1
  clear_value x1
  extract_lets +onlyGivenNames x2
  have k2 : Keeps s0 x2 := State.put_keeps h2
  clear_value x2
  extract_lets +onlyGivenNames x3
  have k3 : Keeps s0 x3 := State.put_keeps (State.put_keeps k2)
  clear_value x3
  exact Keeps.same k3 rfl rfl rfl rfl

theorem State.showAux_keeps {s0 : State} {s : State} (h1 : Keeps s0 s) : Keeps s0 s.showAux := by
  unfold State.showAux
  exact State.put_keeps h1

theorem State.auxDrop_keeps {s0 : State} {s : State} {r : ℕ} (h1 : Keeps s0 s) : Keeps s0 (s.auxDrop r) := by
  unfold State.auxDrop
  with_reducible apply State.showAux_keeps
  exact Keeps.same h1 rfl rfl rfl rfl

theorem State.auxFinish_keeps {s0 : State} {s : State} {r : ℕ} {status : ℕ} {result : ℕ} (h1 : Keeps s0 s) : Keeps s0
    (s.auxFinish r status result) := by
  unfold State.auxFinish
  exact State.finish_keeps (State.auxDrop_keeps h1)

theorem State.auxLines_keeps {s0 : State} {s : State} {scl : ℕ} {sda : ℕ} {busy : ℕ} (h1 : Keeps s0 s) : Keeps s0
    (s.auxLines scl sda busy) := by
  unfold State.auxLines
  exact State.put_keeps (State.put_keeps (State.put_keeps h1))

theorem State.auxStore_keeps {s0 : State} {s : State} {w : ℕ} {l : List ℕ} (h1 : Keeps s0 s) : Keeps s0 (s.auxStore w l)
    := by
  unfold State.auxStore
  refine Keeps.foldl ?_ ?_
  · intro x1 x2 x3
    extract_lets +onlyGivenNames x4
    clear_value x4
    extract_lets +onlyGivenNames x5
    clear_value x5
    extract_lets +onlyGivenNames x6
    clear_value x6
    exact State.bankWrite_keeps x3
  · exact h1

theorem State.auxEnd_keeps {s0 : State} {s : State} {r : ℕ} {ws : List ℕ} {read : List ℕ} {o : AuxOutcome} (h1 : Keeps
    s0 s) : Keeps s0 (s.auxEnd r ws read o) := by
  unfold State.auxEnd
  extract_lets +onlyGivenNames x1
  have k1 : Keeps s0 x1 := State.auxStore_keeps h1
  clear_value x1
  extract_lets +onlyGivenNames x2
  have k2 : Keeps s0 x2 := State.setExec_keeps k1
  clear_value x2
  split
  · exact State.auxFinish_keeps (State.auxLines_keeps k2)
  · exact State.auxFinish_keeps (State.put_keeps (State.bump_keeps (State.auxLines_keeps k2)))
  · extract_lets +onlyGivenNames x3
    clear_value x3
    extract_lets +onlyGivenNames x4
    have k4 : Keeps s0 x4 := State.put_keeps (State.bump_keeps (State.auxLines_keeps k2))
    clear_value x4
    refine Keeps.ite ?_ ?_
    · exact State.setExec_keeps k4
    · exact State.auxFinish_keeps (State.post_keeps k4)
  · exact State.auxFinish_keeps (State.put_keeps (State.bump_keeps (State.auxLines_keeps k2)))
  · with_reducible apply State.auxFinish_keeps
    refine Keeps.ite ?_ ?_
    · exact State.auxLines_keeps k2
    · exact k2

theorem State.auxJoin_keeps {s0 : State} {s : State} {r : ℕ} (h1 : Keeps s0 s) : Keeps s0 (s.auxJoin r) := by
  unfold State.auxJoin
  with_reducible apply State.showAux_keeps
  exact Keeps.same h1 rfl rfl rfl rfl

theorem State.auxSource_keeps {s0 : State} {s : State} {ws : List ℕ} (h1 : Keeps s0 s) : Keeps s0 (s.auxSource ws).2 := by
  unfold State.auxSource
  exact State.read6s_keeps h1

theorem auxXfer_keeps {s0 : State} {r : ℕ} {read : List ℕ} {o : AuxOutcome} {s : State} (h4 : Keeps s0 s) : Keeps s0
    (auxXfer r read o s) := by
  unfold auxXfer
  extract_lets +onlyGivenNames x1
  have k1 : Keeps s0 x1 := by
    unfold x1
    with_reducible apply State.command_keeps
    · exact h4
    · intro x2 x3 x4 x5
      refine Keeps.ite ?_ ?_
      · exact State.finish_keeps x5
      · extract_lets +onlyGivenNames x6
        have k6 : Keeps s0 x6.2 := State.auxSource_keeps x5
        clear_value x6
        refine Keeps.ite ?_ ?_
        · exact State.finish_keeps k6
        · exact State.auxJoin_keeps k6
  clear_value x1
  split
  · refine Keeps.ite ?_ ?_
    · exact State.auxEnd_keeps k1
    · exact k1
  · exact k1

theorem auxClear_keeps {s0 : State} {r : ℕ} {o : ClearOutcome} {s : State} (h3 : Keeps s0 s) : Keeps s0 (auxClear r o s)
    := by
  unfold auxClear
  extract_lets +onlyGivenNames x1
  have k1 : Keeps s0 x1 := by
    unfold x1
    with_reducible apply State.command_keeps
    · exact h3
    · intro x2 x3 x4 x5
      exact State.auxJoin_keeps x5
  clear_value x1
  refine Keeps.ite ?_ ?_
  · exact k1
  · split
    · refine Keeps.ite ?_ ?_
      · exact State.auxFinish_keeps (State.auxLines_keeps k1)
      · exact k1
    · exact State.auxFinish_keeps (State.post_keeps (State.put_keeps (State.bump_keeps (State.auxLines_keeps k1))))
    · refine Keeps.ite ?_ ?_
      · exact State.auxFinish_keeps (State.auxLines_keeps k1)
      · exact k1

theorem State.setSector_keeps {s0 : State} {s : State} {x : ℕ} {v : ℕ × ℕ × ℕ} (h1 : Keeps s0 s) : Keeps s0 (s.setSector
    x v) := by
  unfold State.setSector
  exact Keeps.same h1 rfl rfl rfl rfl

theorem State.nvsPuts_keeps {s0 : State} {s : State} {a : ℕ} {a3 : List ℕ} (h1 : Keeps s0 s) : Keeps s0 (s.nvsPuts a a3)
    := by
  induction a3 generalizing s a
  · rw [State.nvsPuts]
    exact h1
  · rename_i hd tl ih
    rw [State.nvsPuts]
    with_reducible apply ih
    exact State.nvsPut_keeps h1

theorem State.slotClear_keeps {s0 : State} {s : State} {i : ℕ} (h1 : Keeps s0 s) : Keeps s0 (s.slotClear i) := by
  unfold State.slotClear
  exact State.nvsPuts_keeps h1

theorem State.setOldest_keeps {s0 : State} {s : State} {i : ℕ} (h1 : Keeps s0 s) : Keeps s0 (s.setOldest i) := by
  unfold State.setOldest
  exact State.put_keeps h1

theorem State.ringShrink_keeps {s0 : State} {s : State} {l : ℕ} {v : ℕ × ℕ × ℕ} (h1 : Keeps s0 s) : Keeps s0
    (s.ringShrink l v) := by
  unfold State.ringShrink
  extract_lets +onlyGivenNames x1
  clear_value x1
  extract_lets +onlyGivenNames x2
  clear_value x2
  extract_lets +onlyGivenNames x3
  clear_value x3
  extract_lets +onlyGivenNames x4
  extract_lets +onlyGivenNames x5
  clear_value x5
  extract_lets +onlyGivenNames x6
  clear_value x6
  extract_lets +onlyGivenNames x7
  have k7 : Keeps s0 x7 := State.setSector_keeps h1
  clear_value x7
  extract_lets +onlyGivenNames x8
  have k8 : Keeps s0 x8 := by
    unfold x8
    refine Keeps.foldl ?_ ?_
    · intro x9 x10 x11
      extract_lets +onlyGivenNames x12
      refine Keeps.ite ?_ ?_
      · exact State.setSector_keeps x11
      · exact x11
    · exact k7
  clear_value x8
  extract_lets +onlyGivenNames x13
  clear_value x13
  extract_lets +onlyGivenNames x14
  have k14 : Keeps s0 x14 := State.setAnnals_keeps k8
  clear_value x14
  extract_lets +onlyGivenNames x15
  have k15 : Keeps s0 x15 := State.put_keeps (State.put_keeps (State.put_keeps k14))
  clear_value x15
  extract_lets +onlyGivenNames x16
  have k16 : Keeps s0 x16 := State.postRec_keeps (State.put_keeps (State.setOldest_keeps k15))
  clear_value x16
  refine Keeps.ite ?_ ?_
  · exact State.postRec_keeps (State.put_keeps (State.put_keeps k16))
  · exact k16

theorem State.ringFail_keeps {s0 : State} {s : State} (h1 : Keeps s0 s) : Keeps s0 s.ringFail := by
  unfold State.ringFail
  extract_lets +onlyGivenNames x1
  clear_value x1
  extract_lets +onlyGivenNames x2
  clear_value x2
  extract_lets +onlyGivenNames x3
  clear_value x3
  extract_lets +onlyGivenNames x4
  clear_value x4
  extract_lets +onlyGivenNames x5
  clear_value x5
  extract_lets +onlyGivenNames x6
  have k6 : Keeps s0 x6 := by
    unfold x6
    with_reducible apply State.bump_keeps
    refine Keeps.foldl ?_ ?_
    · intro x7 x8 x9
      exact State.slotClear_keeps x9
    · exact h1
  clear_value x6
  extract_lets +onlyGivenNames x10
  have k10 : Keeps s0 x10 := State.put_keeps k6
  clear_value x10
  refine Keeps.ite ?_ ?_
  · exact State.ringShrink_keeps k10
  · extract_lets +onlyGivenNames x11
    have k11 : Keeps s0 x11 := State.setSector_keeps k10
    clear_value x11
    exact State.setOldest_keeps (State.put_keeps k11)

theorem State.slotWrite_keeps {s0 : State} {s : State} {e : Entry} (h1 : Keeps s0 s) : Keeps s0 (s.slotWrite e) := by
  unfold State.slotWrite
  extract_lets +onlyGivenNames x1
  clear_value x1
  extract_lets +onlyGivenNames x2
  clear_value x2
  extract_lets +onlyGivenNames x3
  have k3 : Keeps s0 x3 := State.nvsPuts_keeps h1
  clear_value x3
  extract_lets +onlyGivenNames x4
  have k4 : Keeps s0 x4 := State.put_keeps k3
  clear_value x4
  extract_lets +onlyGivenNames x5
  clear_value x5
  extract_lets +onlyGivenNames x6
  have k6 : Keeps s0 x6 := State.setAnnals_keeps k4
  clear_value x6
  refine Keeps.ite ?_ ?_
  · exact State.setOldest_keeps k6
  · extract_lets +onlyGivenNames x7
    have k7 : Keeps s0 x7 := State.put_keeps k6
    clear_value x7
    refine Keeps.ite ?_ ?_
    · exact State.put_keeps k7
    · exact k7

theorem State.flushEntry_keeps {s0 : State} {s : State} {k : ℕ} {e : Entry} {failing : List ℕ} {a5 : ℕ} (h1 : Keeps s0
    s) : Keeps s0 (s.flushEntry k e failing a5).2 := by
  induction a5 generalizing s k e failing
  · rw [State.flushEntry]
    exact h1
  · rename_i n ih
    rw [State.flushEntry]
    refine Keeps.ite2 ?_ ?_
    · exact h1
    · refine Keeps.ite2 ?_ ?_
      · with_reducible apply ih
        exact State.ringFail_keeps h1
      · refine Keeps.mk2 ?_
        exact State.slotWrite_keeps h1

theorem State.flushAll_keeps {s0 : State} {s : State} {k : ℕ} {failing : List ℕ} {a4 : List (ℕ × Entry)} (h1 : Keeps s0
    s) : Keeps s0 (s.flushAll k failing a4).2 := by
  induction a4 generalizing s k failing
  · rw [State.flushAll]
    exact h1
  · rename_i hd tl ih
    rw [State.flushAll]
    refine Keeps.ite2 ?_ ?_
    · with_reducible apply ih
      exact State.flushEntry_keeps h1
    · refine Keeps.mk2 ?_
      exact State.flushEntry_keeps h1

theorem State.copySector_keeps {s0 : State} {s : State} {x : ℕ} {y : ℕ} (h1 : Keeps s0 s) : Keeps s0 (s.copySector x y)
    := by
  unfold State.copySector
  refine Keeps.foldl ?_ ?_
  · intro x1 x2 x3
    exact State.nvsPut_keeps x3
  · exact h1

theorem State.sysTake_keeps {s0 : State} {s : State} {x : ℕ} (h1 : Keeps s0 s) : Keeps s0 (s.sysTake x) := by
  unfold State.sysTake
  extract_lets +onlyGivenNames x1
  clear_value x1
  extract_lets +onlyGivenNames x2
  clear_value x2
  extract_lets +onlyGivenNames x3
  clear_value x3
  exact State.setSector_keeps (State.copySector_keeps (State.ringShrink_keeps h1))

theorem State.sysUpdate_keeps {s0 : State} {s : State} {off : ℕ} {ws : List ℕ} {failing : List ℕ} (h1 : Keeps s0 s) :
    Keeps s0 (s.sysUpdate off ws failing) := by
  unfold State.sysUpdate
  extract_lets +onlyGivenNames x1
  have k1 : Keeps s0 x1 := by
    unfold x1
    refine Keeps.foldl ?_ ?_
    · intro x2 x3 x4
      exact State.nvsPuts_keeps x4
    · exact h1
  extract_lets +onlyGivenNames x5
  have k5 : Keeps s0 x5 := by
    unfold x5
    exact Keeps.same k1 rfl rfl rfl rfl
  refine Keeps.foldl ?_ ?_
  · intro x6 x7 x8
    extract_lets +onlyGivenNames x9
    clear_value x9
    refine Keeps.ite ?_ ?_
    · exact x8
    · extract_lets +onlyGivenNames x10
      clear_value x10
      extract_lets +onlyGivenNames x11
      have k11 : Keeps s0 x11 := State.setSector_keeps (State.bump_keeps x8)
      clear_value x11
      refine Keeps.ite ?_ ?_
      · exact State.sysTake_keeps k11
      · exact k11
  · exact k5

theorem sectorMove_keeps {s0 : State} {failing : List ℕ} {s : State} (h2 : Keeps s0 s) : Keeps s0 (sectorMove failing s)
    := by
  unfold sectorMove
  refine Keeps.ite ?_ ?_
  · exact h2
  · split
    · exact h2
    · extract_lets +onlyGivenNames x1
      clear_value x1
      split
      · refine Keeps.ite ?_ ?_
        · exact State.ringShrink_keeps h2
        · exact State.sysTake_keeps h2
      · extract_lets +onlyGivenNames x2
        have k2 : Keeps s0 x2 := State.setSector_keeps (State.setSector_keeps (State.copySector_keeps h2))
        clear_value x2
        extract_lets +onlyGivenNames x3
        have k3 : Keeps s0 x3 := State.put_keeps (State.put_keeps k2)
        clear_value x3
        exact State.postRec_keeps (State.sysUpdate_keeps k3)

theorem State.startFlush_keeps {s0 : State} {s : State} (h1 : Keeps s0 s) : Keeps s0 s.startFlush := by
  unfold State.startFlush
  extract_lets +onlyGivenNames x1
  clear_value x1
  refine Keeps.ite ?_ ?_
  · extract_lets +onlyGivenNames x2
    have k2 : Keeps s0 x2 := State.put_keeps h1
    clear_value x2
    exact Keeps.same k2 rfl rfl rfl rfl
  · exact h1

theorem flushDone_keeps {s0 : State} {failing : List ℕ} {logFails : ℕ} {s : State} (h3 : Keeps s0 s) : Keeps s0
    (flushDone failing logFails s) := by
  unfold flushDone
  refine Keeps.ite ?_ ?_
  · exact h3
  · extract_lets +onlyGivenNames x1
    clear_value x1
    extract_lets +onlyGivenNames x2
    clear_value x2
    extract_lets +onlyGivenNames x3
    have k3 : Keeps s0 x3 := by
      unfold x3
      clear_value x3
      split
      · exact State.nvsPut_keeps h3
      · exact h3
    clear_value x3
    extract_lets +onlyGivenNames x4
    clear_value x4
    extract_lets +onlyGivenNames x5
    have k5 : Keeps s0 x5.2 := State.flushAll_keeps (State.setAnnals_keeps k3)
    clear_value x5
    extract_lets +onlyGivenNames x6
    clear_value x6
    extract_lets +onlyGivenNames x7
    have k7 : Keeps s0 x7 := State.setAnnals_keeps k5
    clear_value x7
    extract_lets +onlyGivenNames x8
    clear_value x8
    extract_lets +onlyGivenNames x9
    have k9 : Keeps s0 x9 := by
      unfold x9
      exact Keeps.same k7 rfl rfl rfl rfl
    clear_value x9
    extract_lets +onlyGivenNames x10
    have k10 : Keeps s0 x10 := State.put_keeps (State.bump_keeps (State.bumpBy_keeps k9))
    clear_value x10
    with_reducible apply State.startFlush_keeps
    refine Keeps.foldl ?_ ?_
    · intro x11 x12 x13
      refine Keeps.ite ?_ ?_
      · exact State.finish_keeps x13
      · exact x13
    · exact k10

theorem annalsAutoFlush_keeps {s0 : State} {s : State} (h1 : Keeps s0 s) : Keeps s0 (annalsAutoFlush s) := by
  unfold annalsAutoFlush
  exact State.triggerFlush_keeps h1

theorem annalsFlush_keeps {s0 : State} {r : ℕ} {s : State} (h2 : Keeps s0 s) : Keeps s0 (annalsFlush r s) := by
  unfold annalsFlush
  with_reducible apply State.command_keeps
  · exact h2
  · intro x1 x2 x3 x4
    with_reducible apply State.startFlush_keeps
    exact Keeps.same x4 rfl rfl rfl rfl

theorem State.freeze_keeps {s0 : State} {s : State} (h1 : Keeps s0 s) : Keeps s0 s.freeze := by
  unfold State.freeze
  extract_lets +onlyGivenNames x1
  clear_value x1
  extract_lets +onlyGivenNames x2
  have k2 : Keeps s0 x2 := State.put_keeps (State.put_keeps h1)
  clear_value x2
  exact Keeps.same k2 rfl rfl rfl rfl

theorem State.unfreeze_keeps {s0 : State} {s : State} (h1 : Keeps s0 s) : Keeps s0 s.unfreeze := by
  unfold State.unfreeze
  refine Keeps.ite ?_ ?_
  · exact h1
  · extract_lets +onlyGivenNames x1
    have k1 : Keeps s0 x1 := State.put_keeps h1
    clear_value x1
    extract_lets +onlyGivenNames x2
    clear_value x2
    extract_lets +onlyGivenNames x3
    have k3 : Keeps s0 x3 := by
      unfold x3
      refine Keeps.ite ?_ ?_
      · exact k1
      · with_reducible apply State.postRec_keeps
        exact Keeps.same k1 rfl rfl rfl rfl
    clear_value x3
    exact State.startFlush_keeps k3

theorem annalsFreeze_keeps {s0 : State} {r : ℕ} {s : State} (h2 : Keeps s0 s) : Keeps s0 (annalsFreeze r s) := by
  unfold annalsFreeze
  with_reducible apply State.command_keeps
  · exact h2
  · intro x1 x2 x3 x4
    exact State.finish_keeps (State.freeze_keeps x4)

theorem annalsUnfreeze_keeps {s0 : State} {r : ℕ} {s : State} (h2 : Keeps s0 s) : Keeps s0 (annalsUnfreeze r s) := by
  unfold annalsUnfreeze
  with_reducible apply State.command_keeps
  · exact h2
  · intro x1 x2 x3 x4
    exact State.finish_keeps (State.unfreeze_keeps x4)

theorem nvsFreezeTo_keeps {s0 : State} {s : State} (h1 : Keeps s0 s) : Keeps s0 (nvsFreezeTo s) := by
  unfold nvsFreezeTo
  refine Keeps.ite ?_ ?_
  · exact State.unfreeze_keeps (State.post_keeps (State.put_keeps h1))
  · exact h1

theorem State.annalsPfail_keeps {s0 : State} {s : State} (h1 : Keeps s0 s) : Keeps s0 s.annalsPfail := by
  unfold State.annalsPfail
  extract_lets +onlyGivenNames x1
  have k1 : Keeps s0 x1 := State.postRec_keeps h1
  clear_value x1
  with_reducible apply State.startFlush_keeps
  extract_lets +onlyGivenNames x2
  have k2 : Keeps s0 x2 := State.unfreeze_keeps k1
  clear_value x2
  exact Keeps.same k2 rfl rfl rfl rfl

theorem State.opSeconds_keeps {s0 : State} {s : State} {n : ℕ} {rc : Bool} (h1 : Keeps s0 s) : Keeps s0 (s.opSeconds n
    rc) := by
  unfold State.opSeconds
  extract_lets +onlyGivenNames x1
  have k1 : Keeps s0 x1 := State.put_keeps h1
  clear_value x1
  extract_lets +onlyGivenNames x2
  have k2 : Keeps s0 x2 := by
    unfold x2
    refine Keeps.foldl ?_ ?_
    · intro x3 x4 x5
      exact State.bumpBy_keeps x5
    · exact k1
  clear_value x2
  refine Keeps.ite ?_ ?_
  · extract_lets +onlyGivenNames x6
    clear_value x6
    extract_lets +onlyGivenNames x7
    have k7 : Keeps s0 x7 := State.bumpBy_keeps (State.put_keeps k2)
    clear_value x7
    exact Keeps.same k7 rfl rfl rfl rfl
  · exact k2

theorem State.calSeconds_keeps {s0 : State} {s : State} {n : ℕ} {rc : Bool} (h1 : Keeps s0 s) : Keeps s0 (s.calSeconds n
    rc) := by
  unfold State.calSeconds
  extract_lets +onlyGivenNames x1
  have k1 : Keeps s0 x1 := State.put_keeps h1
  clear_value x1
  refine Keeps.ite ?_ ?_
  · extract_lets +onlyGivenNames x2
    clear_value x2
    extract_lets +onlyGivenNames x3
    have k3 : Keeps s0 x3 := State.bumpBy_keeps (State.put_keeps k1)
    clear_value x3
    exact Keeps.same k3 rfl rfl rfl rfl
  · exact k1

theorem State.timeFrame_keeps {s0 : State} {s : State} {rc : Bool} (h1 : Keeps s0 s) : Keeps s0 (s.timeFrame rc) := by
  unfold State.timeFrame
  extract_lets +onlyGivenNames x1
  clear_value x1
  extract_lets +onlyGivenNames x2
  clear_value x2
  extract_lets +onlyGivenNames x3
  clear_value x3
  extract_lets +onlyGivenNames x4
  clear_value x4
  extract_lets +onlyGivenNames x5
  have k5 : Keeps s0 x5 := by
    unfold x5
    exact Keeps.same h1 rfl rfl rfl rfl
  clear_value x5
  extract_lets +onlyGivenNames x6
  have k6 : Keeps s0 x6 := by
    unfold x6
    refine Keeps.ite ?_ ?_
    · exact State.opSeconds_keeps k5
    · exact k5
  clear_value x6
  refine Keeps.ite ?_ ?_
  · exact State.calSeconds_keeps k6
  · exact k6

theorem nvsCalSet_keeps {s0 : State} {v : ℕ} {s : State} (h2 : Keeps s0 s) : Keeps s0 (nvsCalSet v s) := by
  unfold nvsCalSet
  extract_lets +onlyGivenNames x1
  clear_value x1
  extract_lets +onlyGivenNames x2
  clear_value x2
  extract_lets +onlyGivenNames x3
  have k3 : Keeps s0 x3 := State.put_keeps (State.put_keeps (State.put_keeps h2))
  clear_value x3
  with_reducible apply State.postRec_keeps
  exact Keeps.same k3 rfl rfl rfl rfl

theorem State.keyMiss_keeps {s0 : State} {s : State} {opc : ℕ} (h1 : Keeps s0 s) : Keeps s0 (s.keyMiss opc) := by
  unfold State.keyMiss
  extract_lets +onlyGivenNames x1
  have k1 : Keeps s0 x1 := State.put_keeps (State.put_keeps h1)
  clear_value x1
  refine Keeps.ite ?_ ?_
  · exact State.postRec_keeps (State.put_keeps k1)
  · exact k1

theorem annalsClear_keeps {s0 : State} {r : ℕ} {s : State} (h2 : Keeps s0 s) : Keeps s0 (annalsClear r s) := by
  unfold annalsClear
  with_reducible apply State.command_keeps
  · exact h2
  · intro x1 x2 x3 x4
    split
    · exact State.finish_keeps x4
    · refine Keeps.ite ?_ ?_
      · exact State.finish_keeps x4
      · refine Keeps.ite ?_ ?_
        · exact State.finish_keeps (State.keyMiss_keeps x4)
        · extract_lets +onlyGivenNames x5
          clear_value x5
          extract_lets +onlyGivenNames x6
          clear_value x6
          extract_lets +onlyGivenNames x7
          have k7 : Keeps s0 x7 := by
            unfold x7
            refine Keeps.foldl ?_ ?_
            · intro x8 x9 x10
              exact State.slotClear_keeps x10
            · exact State.put_keeps x4
          clear_value x7
          extract_lets +onlyGivenNames x11
          have k11 : Keeps s0 x11 := State.put_keeps (State.put_keeps (State.put_keeps k7))
          clear_value x11
          extract_lets +onlyGivenNames x12
          have k12 : Keeps s0 x12 := State.put_keeps (State.put_keeps k11)
          clear_value x12
          extract_lets +onlyGivenNames x13
          clear_value x13
          extract_lets +onlyGivenNames x14
          have k14 : Keeps s0 x14 := State.setAnnals_keeps k12
          clear_value x14
          exact State.finish_keeps (State.postRec_keeps k14)

theorem clearKeySet_keeps {s0 : State} {r : ℕ} {failing : List ℕ} {s : State} (h3 : Keeps s0 s) : Keeps s0 (clearKeySet
    r failing s) := by
  unfold clearKeySet
  with_reducible apply State.command_keeps
  · exact h3
  · intro x1 x2 x3 x4
    split
    · exact State.finish_keeps x4
    · refine Keeps.ite ?_ ?_
      · exact State.finish_keeps (State.keyMiss_keeps x4)
      · extract_lets +onlyGivenNames x5
        have k5 : Keeps s0 x5 := State.sysUpdate_keeps (State.put_keeps x4)
        clear_value x5
        with_reducible apply State.finish_keeps
        with_reducible apply State.postRec_keeps
        exact Keeps.same k5 rfl rfl rfl rfl

theorem State.nvsView_keeps {s0 : State} {s : State} {a : ℕ} (h1 : Keeps s0 s) : Keeps s0 (s.nvsView a).2 := by
  unfold State.nvsView
  extract_lets +onlyGivenNames x1
  clear_value x1
  extract_lets +onlyGivenNames x2
  clear_value x2
  refine Keeps.ite2 ?_ ?_
  · exact h1
  · refine Keeps.ite2 ?_ ?_
    · refine Keeps.mk2 ?_
      exact State.free_keeps h1
    · exact h1

theorem State.nvsViews_keeps {s0 : State} {s : State} {a : ℕ} {a3 : ℕ} (h1 : Keeps s0 s) : Keeps s0 (s.nvsViews a a3).2
    := by
  induction a3 generalizing s a
  · rw [State.nvsViews]
    exact h1
  · rename_i n ih
    rw [State.nvsViews]
    refine Keeps.mk2 ?_
    with_reducible apply ih
    exact State.nvsView_keeps h1

theorem nvsRead_keeps {s0 : State} {r : ℕ} {s : State} (h2 : Keeps s0 s) : Keeps s0 (nvsRead r s) := by
  unfold nvsRead
  with_reducible apply State.command_keeps
  · exact h2
  · intro x1 x2 x3 x4
    extract_lets +onlyGivenNames x5
    clear_value x5
    refine Keeps.ite ?_ ?_
    · exact State.finish_keeps x4
    · extract_lets +onlyGivenNames x6
      have k6 : Keeps s0 x6.2 := State.nvsViews_keeps x4
      clear_value x6
      exact State.finish_keeps (State.write6_keeps k6)

theorem nvsWrite_keeps {s0 : State} {r : ℕ} {failing : List ℕ} {s : State} (h3 : Keeps s0 s) : Keeps s0 (nvsWrite r
    failing s) := by
  unfold nvsWrite
  with_reducible apply State.command_keeps
  · exact h3
  · intro x1 x2 x3 x4
    extract_lets +onlyGivenNames x5
    clear_value x5
    refine Keeps.ite ?_ ?_
    · exact State.finish_keeps x4
    · refine Keeps.ite ?_ ?_
      · exact State.finish_keeps x4
      · extract_lets +onlyGivenNames x6
        have k6 : Keeps s0 x6.2 := State.read6s_keeps x4
        clear_value x6
        refine Keeps.ite ?_ ?_
        · exact State.finish_keeps k6
        · exact State.finish_keeps (State.sysUpdate_keeps k6)

theorem State.sysRecover_keeps {s0 : State} {s : State} {bad : ℕ} (h1 : Keeps s0 s) : Keeps s0 (s.sysRecover bad) := by
  unfold State.sysRecover
  refine Keeps.ite ?_ ?_
  · with_reducible apply State.post_keeps
    extract_lets +onlyGivenNames x1
    have k1 : Keeps s0 x1 := State.put_keeps (State.put_keeps h1)
    clear_value x1
    exact Keeps.same k1 rfl rfl rfl rfl
  · extract_lets +onlyGivenNames x2
    clear_value x2
    extract_lets +onlyGivenNames x3
    clear_value x3
    refine Keeps.foldl ?_ ?_
    · intro x4 x5 x6
      exact State.post_keeps (State.put_keeps (State.copySector_keeps x6))
    · extract_lets +onlyGivenNames x7
      have k7 : Keeps s0 x7 := State.put_keeps h1
      clear_value x7
      exact Keeps.same k7 rfl rfl rfl rfl

theorem State.timeRecover_keeps {s0 : State} {s : State} (h1 : Keeps s0 s) : Keeps s0 s.timeRecover := by
  unfold State.timeRecover
  extract_lets +onlyGivenNames x1
  clear_value x1
  extract_lets +onlyGivenNames x2
  have k2 : Keeps s0 x2 := State.put_keeps (State.put_keeps h1)
  clear_value x2
  extract_lets +onlyGivenNames x3
  have k3 : Keeps s0 x3 := State.put_keeps (State.put_keeps k2)
  clear_value x3
  exact State.put_keeps (State.put_keeps (State.put_keeps k3))

theorem State.cleanWords_keeps {s0 : State} {s : State} {b : ℕ} {l : List ℕ} (h1 : Keeps s0 s) : Keeps s0 (s.cleanWords
    b l) := by
  unfold State.cleanWords
  refine Keeps.foldl ?_ ?_
  · intro x1 x2 x3
    extract_lets +onlyGivenNames x4
    have k4 : Keeps s0 x4 := State.bump_keeps x3
    clear_value x4
    exact Keeps.same k4 rfl rfl rfl rfl
  · exact h1

theorem State.recordUe_keeps {s0 : State} {s : State} {b : ℕ} {cls : ℕ} {l : List ℕ} (h1 : Keeps s0 s) : Keeps s0
    (s.recordUe b cls l) := by
  unfold State.recordUe
  extract_lets +onlyGivenNames x1
  have k1 : Keeps s0 x1 := by
    unfold x1
    refine Keeps.foldl ?_ ?_
    · intro x2 x3 x4
      exact State.memUe_keeps x4
    · exact h1
  clear_value x1
  exact Keeps.same k1 rfl rfl rfl rfl

theorem State.lostUse_keeps {s0 : State} {s : State} {b : ℕ} (h1 : Keeps s0 s) : Keeps s0 (s.lostUse b) := by
  unfold State.lostUse
  refine Keeps.ite ?_ ?_
  · with_reducible apply State.setChain_keeps
    refine Keeps.foldl ?_ ?_
    · intro x1 x2 x3
      exact State.dropUnit_keeps x3
    · exact h1
  · refine Keeps.ite ?_ ?_
    · exact Keeps.same h1 rfl rfl rfl rfl
    · refine Keeps.ite ?_ ?_
      · exact State.ringsClear_keeps (State.hoEnd_keeps h1)
      · refine Keeps.ite ?_ ?_
        · exact State.archLost_keeps h1
        · exact h1

theorem State.bankLost_keeps {s0 : State} {s : State} {b : ℕ} {cause : ℕ} {n : ℕ} (h1 : Keeps s0 s) : Keeps s0
    (s.bankLost b cause n) := by
  unfold State.bankLost
  extract_lets +onlyGivenNames x1
  have k1 : Keeps s0 x1 := State.alert_keeps (State.put_keeps (State.setBit_keeps h1))
  clear_value x1
  extract_lets +onlyGivenNames x2
  have k2 : Keeps s0 x2 := State.postRec_keeps k1
  clear_value x2
  exact State.put_keeps (State.lostUse_keeps (State.bankInit_keeps k2))

theorem State.wakeDone_keeps {s0 : State} {s : State} (h1 : Keeps s0 s) : Keeps s0 s.wakeDone := by
  unfold State.wakeDone
  split
  · refine Keeps.ite ?_ ?_
    · exact State.finish_keeps h1
    · exact h1
  · exact h1

theorem bankRelease_keeps {s0 : State} {b : ℕ} {canaryOk : Bool} {s : State} (h3 : Keeps s0 s) : Keeps s0 (bankRelease b
    canaryOk s) := by
  unfold bankRelease
  refine Keeps.ite ?_ ?_
  · exact h3
  · extract_lets +onlyGivenNames x1
    clear_value x1
    extract_lets +onlyGivenNames x2
    clear_value x2
    extract_lets +onlyGivenNames x3
    have k3 : Keeps s0 x3 := by
      unfold x3
      exact Keeps.same h3 rfl rfl rfl rfl
    clear_value x3
    extract_lets +onlyGivenNames x4
    clear_value x4
    extract_lets +onlyGivenNames x5
    have k5 : Keeps s0 x5 := State.recordUe_keeps (State.cleanWords_keeps k3)
    clear_value x5
    extract_lets +onlyGivenNames x6
    have k6 : Keeps s0 x6 := by
      unfold x6
      refine Keeps.ite ?_ ?_
      · exact State.put_keeps (State.bankInit_keeps k3)
      · refine Keeps.ite ?_ ?_
        · exact State.bankLost_keeps k3
        · refine Keeps.ite ?_ ?_
          · exact State.put_keeps k5
          · exact State.bankLost_keeps k5
    clear_value x6
    refine Keeps.ite ?_ ?_
    · exact State.modelCheck_keeps (State.archRelease_keeps k6)
    · refine Keeps.ite ?_ ?_
      · exact State.wakeDone_keeps k6
      · exact k6

theorem State.showTests_keeps {s0 : State} {s : State} (h1 : Keeps s0 s) : Keeps s0 s.showTests := by
  unfold State.showTests
  exact State.put_keeps h1

theorem State.testStart_keeps {s0 : State} {s : State} {b : ℕ} {region : ℕ} {cls : ℕ} {ring : Option ℕ} (h1 : Keeps s0
    s) : Keeps s0 (s.testStart b region cls ring) := by
  unfold State.testStart
  extract_lets +onlyGivenNames x1
  have k1 : Keeps s0 x1 := State.cleanWords_keeps h1
  clear_value x1
  extract_lets +onlyGivenNames x2
  have k2 : Keeps s0 x2 := State.recordUe_keeps k1
  clear_value x2
  extract_lets +onlyGivenNames x3
  have k3 : Keeps s0 x3 := State.put_keeps (State.put_keeps k2)
  clear_value x3
  with_reducible apply State.showTests_keeps
  exact Keeps.same k3 rfl rfl rfl rfl

theorem regionTest_keeps {s0 : State} {b : ℕ} {region : ℕ} {s : State} (h3 : Keeps s0 s) : Keeps s0 (regionTest b region
    s) := by
  unfold regionTest
  refine Keeps.ite ?_ ?_
  · exact h3
  · split
    · refine Keeps.ite ?_ ?_
      · with_reducible apply State.testStart_keeps
        exact Keeps.same h3 rfl rfl rfl rfl
      · exact h3
    · refine Keeps.ite ?_ ?_
      · exact State.testStart_keeps h3
      · exact h3

theorem State.repairRow_keeps {s0 : State} {s : State} {b : ℕ} {row : ℕ} (h1 : Keeps s0 s) : Keeps s0 (s.repairRow b
    row) := by
  unfold State.repairRow
  extract_lets +onlyGivenNames x1
  clear_value x1
  refine Keeps.ite ?_ ?_
  · extract_lets +onlyGivenNames x2
    have k2 : Keeps s0 x2 := by
      unfold x2
      with_reducible apply State.put_keeps
      exact Keeps.same h1 rfl rfl rfl rfl
    clear_value x2
    exact State.post_keeps (State.put_keeps (State.sysUpdate_keeps k2))
  · extract_lets +onlyGivenNames x3
    have k3 : Keeps s0 x3 := by
      unfold x3
      with_reducible apply State.put_keeps
      exact Keeps.same h1 rfl rfl rfl rfl
    clear_value x3
    extract_lets +onlyGivenNames x4
    have k4 : Keeps s0 x4 := State.put_keeps (State.sysUpdate_keeps k3)
    clear_value x4
    extract_lets +onlyGivenNames x5
    have k5 : Keeps s0 x5 := State.post_keeps k4
    clear_value x5
    refine Keeps.ite ?_ ?_
    · exact State.archLost_keeps k5
    · exact k5

theorem State.bankTestBegin_keeps {s0 : State} {s : State} {r : ℕ} {b : ℕ} {region : ℕ} (h1 : Keeps s0 s) : Keeps s0
    (s.bankTestBegin r b region) := by
  unfold State.bankTestBegin
  refine Keeps.ite ?_ ?_
  · exact State.finish_keeps h1
  · refine Keeps.ite ?_ ?_
    · exact Keeps.same h1 rfl rfl rfl rfl
    · exact State.testStart_keeps h1

theorem State.bankTestNext_keeps {s0 : State} {s : State} {b : ℕ} (h1 : Keeps s0 s) : Keeps s0 (s.bankTestNext b) := by
  unfold State.bankTestNext
  split
  · extract_lets +onlyGivenNames x1
    have k1 : Keeps s0 x1 := by
      unfold x1
      exact Keeps.same h1 rfl rfl rfl rfl
    clear_value x1
    split
    · exact State.bankTestBegin_keeps k1
    · exact k1
  · exact h1

theorem regionTestEnd_keeps {s0 : State} {b : ℕ} {failing : List ℕ} {s : State} (h3 : Keeps s0 s) : Keeps s0
    (regionTestEnd b failing s) := by
  unfold regionTestEnd
  split
  · exact h3
  · extract_lets +onlyGivenNames x1
    clear_value x1
    extract_lets +onlyGivenNames x2
    have k2 : Keeps s0 x2 := by
      unfold x2
      with_reducible apply State.showTests_keeps
      exact Keeps.same h3 rfl rfl rfl rfl
    clear_value x2
    extract_lets +onlyGivenNames x3
    have k3 : Keeps s0 x3 := State.put_keeps (State.put_keeps k2)
    clear_value x3
    extract_lets +onlyGivenNames x4
    have k4 : Keeps s0 x4 := by
      unfold x4
      refine Keeps.ite ?_ ?_
      · exact k3
      · exact State.repairRow_keeps k3
    clear_value x4
    extract_lets +onlyGivenNames x5
    have k5 : Keeps s0 x5 := by
      unfold x5
      clear_value x5
      split
      · exact State.finish_keeps k4
      · exact State.finish_keeps k4
      · exact k4
    clear_value x5
    exact State.bankTestNext_keeps k5

theorem bankTest_keeps {s0 : State} {r : ℕ} {s : State} (h2 : Keeps s0 s) : Keeps s0 (bankTest r s) := by
  unfold bankTest
  with_reducible apply State.command_keeps
  · exact h2
  · intro x1 x2 x3 x4
    exact State.bankTestBegin_keeps x4

theorem State.testsStop_keeps {s0 : State} {s : State} (h1 : Keeps s0 s) : Keeps s0 s.testsStop := by
  unfold State.testsStop
  extract_lets +onlyGivenNames x1
  clear_value x1
  extract_lets +onlyGivenNames x2
  clear_value x2
  extract_lets +onlyGivenNames x3
  have k3 : Keeps s0 x3 := by
    unfold x3
    with_reducible apply State.showTests_keeps
    exact Keeps.same h1 rfl rfl rfl rfl
  clear_value x3
  extract_lets +onlyGivenNames x4
  have k4 : Keeps s0 x4 := by
    unfold x4
    refine Keeps.foldl ?_ ?_
    · intro x5 x6 x7
      clear_value x4
      split
      · exact State.finish_keeps x7
      · exact x7
    · exact k3
  clear_value x4
  refine Keeps.foldl ?_ ?_
  · intro x8 x9 x10
    exact State.finish_keeps x10
  · exact k4

theorem State.banksSleep_keeps {s0 : State} {s : State} {dormant : Bool} (h1 : Keeps s0 s) : Keeps s0 (s.banksSleep
    dormant) := by
  unfold State.banksSleep
  refine Keeps.foldl ?_ ?_
  · intro x1 x2 x3
    refine Keeps.ite ?_ ?_
    · exact x3
    · refine Keeps.ite ?_ ?_
      · exact x3
      · extract_lets +onlyGivenNames x4
        have k4 : Keeps s0 x4 := by
          unfold x4
          refine Keeps.ite ?_ ?_
          · exact Keeps.same x3 rfl rfl rfl rfl
          · exact Keeps.same x3 rfl rfl rfl rfl
        clear_value x4
        exact State.put_keeps k4
  · exact h1

theorem State.banksWake_keeps {s0 : State} {s : State} (h1 : Keeps s0 s) : Keeps s0 s.banksWake := by
  unfold State.banksWake
  refine Keeps.foldl ?_ ?_
  · intro x1 x2 x3
    refine Keeps.ite ?_ ?_
    · exact State.put_keeps x3
    · exact x3
  · exact h1

theorem State.banksCold_keeps {s0 : State} {s : State} (h1 : Keeps s0 s) : Keeps s0 s.banksCold := by
  unfold State.banksCold
  refine Keeps.foldl ?_ ?_
  · intro x1 x2 x3
    extract_lets +onlyGivenNames x4
    clear_value x4
    extract_lets +onlyGivenNames x5
    have k5 : Keeps s0 x5 := State.put_keeps (State.bankInit_keeps x3)
    clear_value x5
    exact State.put_keeps k5
  · exact Keeps.same h1 rfl rfl rfl rfl

theorem State.coldRelease7_keeps {s0 : State} {s : State} (h1 : Keeps s0 s) : Keeps s0 s.coldRelease7 := by
  unfold State.coldRelease7
  refine Keeps.ite ?_ ?_
  · exact State.put_keeps h1
  · exact State.modelCheck_keeps h1

theorem curatorWindow_keeps {s0 : State} {b : ℕ} {s : State} (h2 : Keeps s0 s) : Keeps s0 (curatorWindow b s) := by
  unfold curatorWindow
  exact Keeps.same h2 rfl rfl rfl rfl

theorem State.curTake_keeps {s0 : State} {s : State} {b : ℕ} (h1 : Keeps s0 s) : Keeps s0 (s.curTake b).2 := by
  unfold State.curTake
  extract_lets +onlyGivenNames x1
  clear_value x1
  refine Keeps.ite2 ?_ ?_
  · refine Keeps.mk2 ?_
    exact Keeps.same h1 rfl rfl rfl rfl
  · refine Keeps.ite2 ?_ ?_
    · exact h1
    · refine Keeps.mk2 ?_
      extract_lets +onlyGivenNames x2
      have k2 : Keeps s0 x2 := State.bump_keeps h1
      clear_value x2
      exact Keeps.same k2 rfl rfl rfl rfl

theorem State.strike_keeps {s0 : State} {s : State} {a : ℕ} {k : ℕ} (h1 : Keeps s0 s) : Keeps s0 (s.strike a k) := by
  unfold State.strike
  refine Keeps.ite ?_ ?_
  · exact h1
  · exact Keeps.same h1 rfl rfl rfl rfl

theorem State.scrubBankRead_keeps {s0 : State} {s : State} {b : ℕ} {upset : ℕ} (h1 : Keeps s0 s) : Keeps s0
    (s.scrubBankRead b upset) := by
  unfold State.scrubBankRead
  refine Keeps.ite ?_ ?_
  · exact h1
  · extract_lets +onlyGivenNames x1
    clear_value x1
    extract_lets +onlyGivenNames x2
    have k2 : Keeps s0 x2.2 := State.curTake_keeps h1
    clear_value x2
    refine Keeps.ite ?_ ?_
    · exact k2
    · extract_lets +onlyGivenNames x3
      have k3 : Keeps s0 x3.2 := State.bankWord_keeps (State.strike_keeps k2)
      clear_value x3
      extract_lets +onlyGivenNames x4
      have k4 : Keeps s0 x4 := k3
      clear_value x4
      extract_lets +onlyGivenNames x5
      have k5 : Keeps s0 x5 := by
        unfold x5
        exact Keeps.same k4 rfl rfl rfl rfl
      clear_value x5
      refine Keeps.ite ?_ ?_
      · exact State.put_keeps k5
      · exact k5

theorem State.scrubMarked_keeps {s0 : State} {s : State} {area : ℕ} {a : ℕ} (h1 : Keeps s0 s) : Keeps s0 (s.scrubMarked
    area a) := by
  unfold State.scrubMarked
  refine Keeps.ite ?_ ?_
  · extract_lets +onlyGivenNames x1
    have k1 : Keeps s0 x1 := State.bump_keeps h1
    clear_value x1
    extract_lets +onlyGivenNames x2
    have k2 : Keeps s0 x2 := State.put_keeps (State.put_keeps (State.put_keeps k1))
    clear_value x2
    exact State.post_keeps k2
  · refine Keeps.ite ?_ ?_
    · exact State.queueWb_keeps (State.bump_keeps h1)
    · exact h1

theorem State.scrubTiles_keeps {s0 : State} {s : State} {area : ℕ} {tile : ℕ} {upset : ℕ} (h1 : Keeps s0 s) : Keeps s0
    (s.scrubTiles area tile upset) := by
  unfold State.scrubTiles
  extract_lets +onlyGivenNames x1
  clear_value x1
  extract_lets +onlyGivenNames x2
  extract_lets +onlyGivenNames x3
  have k3 : Keeps s0 x3 := State.strike_keeps h1
  clear_value x3
  extract_lets +onlyGivenNames x4
  have k4 : Keeps s0 x4 := by
    unfold x4
    refine Keeps.foldl ?_ ?_
    · intro x5 x6 x7
      exact State.scrubMarked_keeps x7
    · exact k3
  clear_value x4
  refine Keeps.ite ?_ ?_
  · exact State.put_keeps k4
  · exact State.put_keeps k4

theorem scrubRead_keeps {s0 : State} {array : ℕ} {tile : ℕ} {upset : ℕ} {s : State} (h4 : Keeps s0 s) : Keeps s0
    (scrubRead array tile upset s) := by
  unfold scrubRead
  refine Keeps.ite ?_ ?_
  · exact h4
  · refine Keeps.ite ?_ ?_
    · exact State.scrubBankRead_keeps h4
    · refine Keeps.ite ?_ ?_
      · exact State.scrubTiles_keeps h4
      · refine Keeps.ite ?_ ?_
        · exact State.scrubTiles_keeps h4
        · exact h4

theorem curatorWriteBack_keeps {s0 : State} {a : ℕ} {s : State} (h2 : Keeps s0 s) : Keeps s0 (curatorWriteBack a s) := by
  unfold curatorWriteBack
  refine Keeps.ite ?_ ?_
  · exact h2
  · refine Keeps.ite ?_ ?_
    · extract_lets +onlyGivenNames x1
      have k1 : Keeps s0 x1.2 := State.curTake_keeps h2
      clear_value x1
      refine Keeps.ite ?_ ?_
      · exact State.landWb_keeps k1
      · exact k1
    · exact State.landWb_keeps h2

theorem State.supplyCheck_keeps {s0 : State} {s : State} {c : ℕ} (h1 : Keeps s0 s) : Keeps s0 (s.supplyCheck c) := by
  unfold State.supplyCheck
  refine Keeps.ite ?_ ?_
  · exact h1
  · refine Keeps.ite ?_ ?_
    · exact Keeps.same h1 rfl rfl rfl rfl
    · refine Keeps.ite ?_ ?_
      · exact h1
      · with_reducible apply State.post_keeps
        with_reducible apply State.put_keeps
        exact Keeps.same h1 rfl rfl rfl rfl

theorem State.hkaResult_keeps {s0 : State} {s : State} {c : ℕ} {code : ℤ} {locked : Bool} (h1 : Keeps s0 s) : Keeps s0
    (s.hkaResult c code locked) := by
  unfold State.hkaResult
  extract_lets +onlyGivenNames x1
  clear_value x1
  extract_lets +onlyGivenNames x2
  clear_value x2
  extract_lets +onlyGivenNames x3
  have k3 : Keeps s0 x3 := State.put_keeps (State.put_keeps h1)
  clear_value x3
  extract_lets +onlyGivenNames x4
  have k4 : Keeps s0 x4 := State.put_keeps (State.put_keeps (State.put_keeps k3))
  clear_value x4
  extract_lets +onlyGivenNames x5
  have k5 : Keeps s0 x5 := State.bump_keeps (State.put_keeps k4)
  clear_value x5
  extract_lets +onlyGivenNames x6
  have k6 : Keeps s0 x6 := by
    unfold x6
    refine Keeps.ite ?_ ?_
    · exact State.put_keeps k5
    · exact k5
  clear_value x6
  exact State.supplyCheck_keeps k6

theorem State.hkaTach_keeps {s0 : State} {s : State} (h1 : Keeps s0 s) : Keeps s0 s.hkaTach := by
  unfold State.hkaTach
  split
  · exact State.hkaResult_keeps h1
  · extract_lets +onlyGivenNames x1
    have k1 : Keeps s0 x1.2 := State.free_keeps h1
    clear_value x1
    exact State.hkaResult_keeps k1

theorem State.hkaNext_keeps {s0 : State} {s : State} {a2 : ℕ} (h1 : Keeps s0 s) : Keeps s0 (s.hkaNext a2) := by
  induction a2 generalizing s
  · rw [State.hkaNext]
    exact h1
  · rename_i n ih
    rw [State.hkaNext]
    refine Keeps.ite ?_ ?_
    · exact h1
    · split
      · refine Keeps.ite ?_ ?_
        · exact h1
        · exact State.put_keeps h1
      · extract_lets +onlyGivenNames x1
        have k1 : Keeps s0 x1 := by
          unfold x1
          refine Keeps.ite ?_ ?_
          · exact Keeps.same h1 rfl rfl rfl rfl
          · exact Keeps.same h1 rfl rfl rfl rfl
        clear_value x1
        refine Keeps.ite ?_ ?_
        · with_reducible apply ih
          exact State.hkaTach_keeps k1
        · extract_lets +onlyGivenNames x2
          have k2 : Keeps s0 x2 := State.put_keeps (State.put_keeps (State.put_keeps k1))
          clear_value x2
          exact Keeps.same k2 rfl rfl rfl rfl

theorem State.hkaGo_keeps {s0 : State} {s : State} (h1 : Keeps s0 s) : Keeps s0 s.hkaGo := by
  unfold State.hkaGo
  exact State.hkaNext_keeps h1

theorem hkaScan_keeps {s0 : State} {s : State} (h1 : Keeps s0 s) : Keeps s0 (hkaScan s) := by
  unfold hkaScan
  refine Keeps.ite ?_ ?_
  · exact h1
  · refine Keeps.ite ?_ ?_
    · exact State.post_keeps (State.bump_keeps h1)
    · with_reducible apply State.hkaGo_keeps
      exact Keeps.same h1 rfl rfl rfl rfl

theorem conv_keeps {s0 : State} {c : ℕ} {s : State} (h2 : Keeps s0 s) : Keeps s0 (conv c s) := by
  unfold conv
  refine Keeps.ite ?_ ?_
  · exact h2
  · with_reducible apply State.hkaGo_keeps
    exact Keeps.same h2 rfl rfl rfl rfl

theorem State.showCal_keeps {s0 : State} {s : State} (h1 : Keeps s0 s) : Keeps s0 s.showCal := by
  unfold State.showCal
  exact State.put_keeps (State.put_keeps h1)

theorem State.calEnd_keeps {s0 : State} {s : State} {c : CalRun} {status : ℕ} (h1 : Keeps s0 s) : Keeps s0 (s.calEnd c
    status) := by
  unfold State.calEnd
  extract_lets +onlyGivenNames x1
  have k1 : Keeps s0 x1 := by
    unfold x1
    exact Keeps.same h1 rfl rfl rfl rfl
  clear_value x1
  split
  · exact State.finish_keeps k1
  · exact k1

theorem State.calNext_keeps {s0 : State} {s : State} {a2 : ℕ} (h1 : Keeps s0 s) : Keeps s0 (s.calNext a2) := by
  induction a2 generalizing s
  · rw [State.calNext]
    exact h1
  · rename_i n ih
    rw [State.calNext]
    split
    · exact h1
    · split
      · with_reducible apply ih
        exact State.calEnd_keeps h1
      · refine Keeps.ite ?_ ?_
        · refine Keeps.ite ?_ ?_
          · exact State.pumpStart_keeps h1
          · exact h1
        · refine Keeps.ite ?_ ?_
          · with_reducible apply ih
            exact Keeps.same h1 rfl rfl rfl rfl
          · with_reducible apply ih
            exact State.calEnd_keeps h1

theorem State.calGo_keeps {s0 : State} {s : State} (h1 : Keeps s0 s) : Keeps s0 s.calGo := by
  unfold State.calGo
  exact State.hkaGo_keeps (State.pumpCheck_keeps (State.showCal_keeps (State.calNext_keeps h1)))

theorem State.calStart_keeps {s0 : State} {s : State} {ring : Option ℕ} {all : Bool} {ts : List ℕ} (h1 : Keeps s0 s) :
    Keeps s0 (s.calStart ring all ts) := by
  unfold State.calStart
  extract_lets +onlyGivenNames x1
  clear_value x1
  extract_lets +onlyGivenNames x2
  clear_value x2
  extract_lets +onlyGivenNames x3
  have k3 : Keeps s0 x3 := by
    unfold x3
    exact Keeps.same h1 rfl rfl rfl rfl
  clear_value x3
  refine Keeps.ite ?_ ?_
  · exact State.calGo_keeps k3
  · exact k3

theorem calibrate_keeps {s0 : State} {r : ℕ} {lo : ℕ} {hi : ℕ} {s : State} (h4 : Keeps s0 s) : Keeps s0 (calibrate r lo
    hi s) := by
  unfold calibrate
  extract_lets +onlyGivenNames x1
  with_reducible apply State.command_keeps
  · exact h4
  · intro x2 x3 x4 x5
    extract_lets +onlyGivenNames x6
    clear_value x6
    refine Keeps.ite ?_ ?_
    · exact State.finish_keeps x5
    · refine Keeps.ite ?_ ?_
      · exact State.calStart_keeps x5
      · exact State.calStart_keeps x5

theorem State.installTrim_keeps {s0 : State} {s : State} {t : ℕ} {offset : ℤ} {gain : ℤ} (h1 : Keeps s0 s) : Keeps s0
    (s.installTrim t offset gain) := by
  unfold State.installTrim
  extract_lets +onlyGivenNames x1
  clear_value x1
  extract_lets +onlyGivenNames x2
  clear_value x2
  extract_lets +onlyGivenNames x3
  clear_value x3
  extract_lets +onlyGivenNames x4
  have k4 : Keeps s0 x4 := State.put_keeps (State.put_keeps h1)
  clear_value x4
  extract_lets +onlyGivenNames x5
  have k5 : Keeps s0 x5 := State.bump_keeps (State.put_keeps k4)
  clear_value x5
  extract_lets +onlyGivenNames x6
  have k6 : Keeps s0 x6 := by
    unfold x6
    refine Keeps.ite ?_ ?_
    · exact Keeps.same k5 rfl rfl rfl rfl
    · exact k5
  clear_value x6
  refine Keeps.ite ?_ ?_
  · exact k6
  · exact State.post_keeps (State.put_keeps k6)

theorem calInstall_keeps {s0 : State} {t : ℕ} {offset : ℤ} {gain : ℤ} {s : State} (h4 : Keeps s0 s) : Keeps s0
    (calInstall t offset gain s) := by
  unfold calInstall
  split
  · refine Keeps.ite ?_ ?_
    · extract_lets +onlyGivenNames x1
      clear_value x1
      with_reducible apply State.calGo_keeps
      with_reducible apply State.installTrim_keeps
      exact Keeps.same h4 rfl rfl rfl rfl
    · refine Keeps.ite ?_ ?_
      · exact State.installTrim_keeps h4
      · exact h4
  · refine Keeps.ite ?_ ?_
    · exact State.installTrim_keeps h4
    · exact h4

theorem hkaAutoCal_keeps {s0 : State} {s : State} (h1 : Keeps s0 s) : Keeps s0 (hkaAutoCal s) := by
  unfold hkaAutoCal
  extract_lets +onlyGivenNames x1
  clear_value x1
  extract_lets +onlyGivenNames x2
  clear_value x2
  extract_lets +onlyGivenNames x3
  clear_value x3
  refine Keeps.ite ?_ ?_
  · exact State.calStart_keeps h1
  · exact h1

theorem State.calStop_keeps {s0 : State} {s : State} {p : ℕ → Bool} (h1 : Keeps s0 s) : Keeps s0 (s.calStop p) := by
  unfold State.calStop
  split
  · split
    · refine Keeps.ite ?_ ?_
      · exact State.calGo_keeps (State.calEnd_keeps h1)
      · exact h1
    · exact h1
  · exact h1

theorem State.calFold_keeps {s0 : State} {s : State} (h1 : Keeps s0 s) : Keeps s0 s.calFold := by
  unfold State.calFold
  exact State.calStop_keeps h1

theorem State.calAbort_keeps {s0 : State} {s : State} {r : ℕ} (h1 : Keeps s0 s) : Keeps s0 (s.calAbort r) := by
  unfold State.calAbort
  extract_lets +onlyGivenNames x1
  extract_lets +onlyGivenNames x2
  have k2 : Keeps s0 x2 := by
    unfold x2
    refine Keeps.foldl ?_ ?_
    · intro x3 x4 x5
      refine Keeps.foldl ?_ ?_
      · intro x6 x7 x8
        exact State.put_keeps (State.put_keeps (State.put_keeps x8))
      · exact x5
    · exact h1
  clear_value x2
  with_reducible apply State.calGo_keeps
  exact Keeps.same k2 rfl rfl rfl rfl

theorem State.refCheck_keeps {s0 : State} {s : State} {code : ℕ} (h1 : Keeps s0 s) : Keeps s0 (s.refCheck code) := by
  unfold State.refCheck
  extract_lets +onlyGivenNames x1
  clear_value x1
  refine Keeps.ite ?_ ?_
  · exact State.calStop_keeps (State.post_keeps (State.put_keeps (State.put_keeps h1)))
  · refine Keeps.ite ?_ ?_
    · exact State.put_keeps h1
    · exact h1

theorem hkaConversionDone_keeps {s0 : State} {c : ℕ} {code : ℤ} {locked : Bool} {s : State} (h4 : Keeps s0 s) : Keeps s0
    (hkaConversionDone c code locked s) := by
  unfold hkaConversionDone
  refine Keeps.ite ?_ ?_
  · exact h4
  · extract_lets +onlyGivenNames x1
    have k1 : Keeps s0 x1 := State.hkaResult_keeps (State.put_keeps h4)
    clear_value x1
    extract_lets +onlyGivenNames x2
    have k2 : Keeps s0 x2 := by
      unfold x2
      refine Keeps.ite ?_ ?_
      · exact State.refCheck_keeps k1
      · exact k1
    clear_value x2
    exact State.hkaGo_keeps k2

theorem tachEdge_keeps {s0 : State} {period : ℕ} {s : State} (h2 : Keeps s0 s) : Keeps s0 (tachEdge period s) := by
  unfold tachEdge
  refine Keeps.ite ?_ ?_
  · exact h2
  · extract_lets +onlyGivenNames x1
    clear_value x1
    extract_lets +onlyGivenNames x2
    clear_value x2
    extract_lets +onlyGivenNames x3
    have k3 : Keeps s0 x3 := by
      unfold x3
      exact Keeps.same h2 rfl rfl rfl rfl
    clear_value x3
    refine Keeps.ite ?_ ?_
    · extract_lets +onlyGivenNames x4
      have k4 : Keeps s0 x4 := State.put_keeps k3
      clear_value x4
      exact Keeps.same k4 rfl rfl rfl rfl
    · exact k3

theorem hkaTachLost_keeps {s0 : State} {s : State} (h1 : Keeps s0 s) : Keeps s0 (hkaTachLost s) := by
  unfold hkaTachLost
  refine Keeps.ite ?_ ?_
  · exact h1
  · extract_lets +onlyGivenNames x1
    have k1 : Keeps s0 x1 := State.put_keeps h1
    clear_value x1
    extract_lets +onlyGivenNames x2
    have k2 : Keeps s0 x2 := by
      unfold x2
      exact Keeps.same k1 rfl rfl rfl rfl
    clear_value x2
    extract_lets +onlyGivenNames x3
    have k3 : Keeps s0 x3 := State.bump_keeps (State.put_keeps k2)
    clear_value x3
    split
    · exact State.post_keeps k3
    · extract_lets +onlyGivenNames x4
      have k4 : Keeps s0 x4.2 := State.free_keeps k3
      clear_value x4
      exact State.post_keeps k4

theorem State.telPost_keeps {s0 : State} {s : State} {code : ℕ} {payload : ℕ} (h1 : Keeps s0 s) : Keeps s0 (s.telPost
    code payload) := by
  unfold State.telPost
  extract_lets +onlyGivenNames x1
  clear_value x1
  refine Keeps.ite ?_ ?_
  · exact Keeps.same h1 rfl rfl rfl rfl
  · extract_lets +onlyGivenNames x2
    have k2 : Keeps s0 x2 := State.put_keeps (State.bump_keeps h1)
    clear_value x2
    refine Keeps.ite ?_ ?_
    · exact k2
    · with_reducible apply State.post_keeps
      exact Keeps.same k2 rfl rfl rfl rfl

theorem telemetry_keeps {s0 : State} {s : State} (h1 : Keeps s0 s) : Keeps s0 (telemetry s) := by
  unfold telemetry
  refine Keeps.ite ?_ ?_
  · exact h1
  · extract_lets +onlyGivenNames x1
    have k1 : Keeps s0 x1 := by
      unfold x1
      refine Keeps.ite ?_ ?_
      · exact State.telPost_keeps h1
      · exact h1
    clear_value x1
    refine Keeps.ite ?_ ?_
    · extract_lets +onlyGivenNames x2
      clear_value x2
      with_reducible apply State.telPost_keeps
      exact Keeps.same k1 rfl rfl rfl rfl
    · exact k1

theorem State.keepPost_keeps {s0 : State} {s : State} {code : ℕ} {sev : ℕ} {payload : ℕ} (h1 : Keeps s0 s) : Keeps s0
    (s.keepPost code sev payload) := by
  unfold State.keepPost
  refine Keeps.ite ?_ ?_
  · exact State.postRec_keeps h1
  · exact h1

theorem State.showDrive_keeps {s0 : State} {s : State} (h1 : Keeps s0 s) : Keeps s0 s.showDrive := by
  unfold State.showDrive
  exact State.put_keeps h1

theorem State.showFoldCause_keeps {s0 : State} {s : State} (h1 : Keeps s0 s) : Keeps s0 s.showFoldCause := by
  unfold State.showFoldCause
  refine Keeps.foldl ?_ ?_
  · intro x1 x2 x3
    refine Keeps.ite ?_ ?_
    · exact State.put_keeps x3
    · exact x3
  · exact h1

theorem State.fold_keeps {s0 : State} {s : State} {c : ℕ} (h1 : Keeps s0 s) : Keeps s0 (s.fold c) := by
  unfold State.fold
  extract_lets +onlyGivenNames x1
  clear_value x1
  extract_lets +onlyGivenNames x2
  have k2 : Keeps s0 x2 := State.showDrive_keeps (State.setBit_keeps (State.setBit_keeps h1))
  clear_value x2
  refine Keeps.ite ?_ ?_
  · extract_lets +onlyGivenNames x3
    have k3 : Keeps s0 x3 := State.bump_keeps (State.put_keeps (State.put_keeps k2))
    clear_value x3
    extract_lets +onlyGivenNames x4
    have k4 : Keeps s0 x4 := by
      unfold x4
      with_reducible apply State.calFold_keeps
      exact Keeps.same k3 rfl rfl rfl rfl
    clear_value x4
    exact State.keepPost_keeps (State.showFoldCause_keeps (State.hpoFold_keeps (State.spkFold_keeps k4)))
  · exact State.showFoldCause_keeps k2

theorem State.keepIdle_keeps {s0 : State} {s : State} (h1 : Keeps s0 s) : Keeps s0 s.keepIdle := by
  unfold State.keepIdle
  extract_lets +onlyGivenNames x1
  clear_value x1
  refine Keeps.ite ?_ ?_
  · exact State.keepPost_keeps (State.put_keeps h1)
  · exact h1

theorem State.unfold_keeps {s0 : State} {s : State} {mask : ℕ} (h1 : Keeps s0 s) : Keeps s0 (s.unfold mask) := by
  unfold State.unfold
  extract_lets +onlyGivenNames x1
  clear_value x1
  extract_lets +onlyGivenNames x2
  have k2 : Keeps s0 x2 := State.showDrive_keeps (State.put_keeps h1)
  clear_value x2
  refine Keeps.ite ?_ ?_
  · exact State.keepIdle_keeps (State.hpoUnfold_keeps (State.spkUnfold_keeps (State.put_keeps k2)))
  · exact State.showFoldCause_keeps k2

theorem State.requestReset_keeps {s0 : State} {s : State} {depth : ℕ} {cause : ℕ} (h1 : Keeps s0 s) : Keeps s0
    (s.requestReset depth cause) := by
  unfold State.requestReset
  split
  · refine Keeps.ite ?_ ?_
    · exact Keeps.same h1 rfl rfl rfl rfl
    · exact h1
  · with_reducible apply State.fold_keeps
    exact Keeps.same h1 rfl rfl rfl rfl

theorem foldNow_keeps {s0 : State} {v : ℕ} {s : State} (h2 : Keeps s0 s) : Keeps s0 (foldNow v s) := by
  unfold foldNow
  refine Keeps.ite ?_ ?_
  · exact State.fold_keeps h2
  · exact h2

theorem keepCmdFold_keeps {s0 : State} {s : State} (h1 : Keeps s0 s) : Keeps s0 (keepCmdFold s) := by
  unfold keepCmdFold
  refine Keeps.ite ?_ ?_
  · exact State.fold_keeps h1
  · exact h1

theorem foldCmd_keeps {s0 : State} {r : ℕ} {s : State} (h2 : Keeps s0 s) : Keeps s0 (foldCmd r s) := by
  unfold foldCmd
  with_reducible apply State.command_keeps
  · exact h2
  · intro x1 x2 x3 x4
    extract_lets +onlyGivenNames x5
    have k5 : Keeps s0 x5 := State.fold_keeps x4
    clear_value x5
    refine Keeps.ite ?_ ?_
    · exact State.finish_keeps k5
    · exact k5

theorem keepFolded_keeps {s0 : State} {s : State} (h1 : Keeps s0 s) : Keeps s0 (keepFolded s) := by
  unfold keepFolded
  refine Keeps.ite ?_ ?_
  · extract_lets +onlyGivenNames x1
    have k1 : Keeps s0 x1 := State.showFoldCause_keeps (State.put_keeps h1)
    clear_value x1
    extract_lets +onlyGivenNames x2
    have k2 : Keeps s0 x2 := by
      unfold x2
      refine Keeps.foldl ?_ ?_
      · intro x3 x4 x5
        exact State.finish_keeps x5
      · exact k1
    clear_value x2
    refine Keeps.ite ?_ ?_
    · with_reducible apply State.requestReset_keeps
      exact Keeps.same k2 rfl rfl rfl rfl
    · exact k2
  · exact h1

theorem keepForced_keeps {s0 : State} {mask : ℕ} {s : State} (h2 : Keeps s0 s) : Keeps s0 (keepForced mask s) := by
  unfold keepForced
  extract_lets +onlyGivenNames x1
  clear_value x1
  extract_lets +onlyGivenNames x2
  clear_value x2
  refine Keeps.ite ?_ ?_
  · exact h2
  · extract_lets +onlyGivenNames x3
    have k3 : Keeps s0 x3 := by
      unfold x3
      refine Keeps.foldl ?_ ?_
      · intro x4 x5 x6
        exact State.spkToRest_keeps (State.spkHiz_keeps x6)
      · exact h2
    clear_value x3
    extract_lets +onlyGivenNames x7
    have k7 : Keeps s0 x7 := by
      unfold x7
      refine Keeps.foldl ?_ ?_
      · intro x8 x9 x10
        exact State.setHpo_keeps (State.put_keeps x10)
      · exact k3
    clear_value x7
    extract_lets +onlyGivenNames x11
    have k11 : Keeps s0 x11 := State.bump_keeps (State.put_keeps (State.put_keeps (State.pumpCheck_keeps k7)))
    clear_value x11
    exact State.keepPost_keeps k11

theorem release_keeps {s0 : State} {s : State} (h1 : Keeps s0 s) : Keeps s0 (release s) := by
  unfold release
  exact State.unfold_keeps h1

theorem faultNLow_keeps {s0 : State} {s : State} (h1 : Keeps s0 s) : Keeps s0 (faultNLow s) := by
  unfold faultNLow
  refine Keeps.ite ?_ ?_
  · exact State.fold_keeps (State.keepPost_keeps (State.put_keeps h1))
  · exact h1

theorem faultNHigh_keeps {s0 : State} {s : State} (h1 : Keeps s0 s) : Keeps s0 (faultNHigh s) := by
  unfold faultNHigh
  refine Keeps.ite ?_ ?_
  · extract_lets +onlyGivenNames x1
    have k1 : Keeps s0 x1 := State.put_keeps h1
    clear_value x1
    refine Keeps.ite ?_ ?_
    · exact k1
    · exact State.unfold_keeps k1
  · exact h1

theorem pfail_keeps {s0 : State} {s : State} (h1 : Keeps s0 s) : Keeps s0 (pfail s) := by
  unfold pfail
  exact State.annalsPfail_keeps (State.fold_keeps h1)

theorem pfailClear_keeps {s0 : State} {s : State} (h1 : Keeps s0 s) : Keeps s0 (pfailClear s) := by
  unfold pfailClear
  exact State.unfold_keeps h1

theorem State.showWdt_keeps {s0 : State} {s : State} (h1 : Keeps s0 s) : Keeps s0 s.showWdt := by
  unfold State.showWdt
  exact State.put_keeps h1

theorem State.wdtRestart_keeps {s0 : State} {s : State} (h1 : Keeps s0 s) : Keeps s0 s.wdtRestart := by
  unfold State.wdtRestart
  with_reducible apply State.showWdt_keeps
  exact Keeps.same h1 rfl rfl rfl rfl

theorem kick_keeps {s0 : State} {v : ℕ} {s : State} (h2 : Keeps s0 s) : Keeps s0 (kick v s) := by
  unfold kick
  refine Keeps.ite ?_ ?_
  · exact State.wdtRestart_keeps (State.put_keeps h2)
  · exact State.bump_keeps h2

theorem keepWdt_keeps {s0 : State} {s : State} (h1 : Keeps s0 s) : Keeps s0 (keepWdt s) := by
  unfold keepWdt
  refine Keeps.ite ?_ ?_
  · exact h1
  · extract_lets +onlyGivenNames x1
    have k1 : Keeps s0 x1 := State.bump_keeps (State.put_keeps h1)
    clear_value x1
    extract_lets +onlyGivenNames x2
    have k2 : Keeps s0 x2 := State.keepPost_keeps k1
    clear_value x2
    extract_lets +onlyGivenNames x3
    have k3 : Keeps s0 x3 := State.fold_keeps (State.wdtRestart_keeps k2)
    clear_value x3
    refine Keeps.ite ?_ ?_
    · exact k3
    · refine Keeps.ite ?_ ?_
      · exact State.requestReset_keeps k3
      · exact Keeps.same k3 rfl rfl rfl rfl

theorem State.wdtFrame_keeps {s0 : State} {s : State} (h1 : Keeps s0 s) : Keeps s0 s.wdtFrame := by
  unfold State.wdtFrame
  refine Keeps.ite ?_ ?_
  · with_reducible apply State.showWdt_keeps
    exact Keeps.same h1 rfl rfl rfl rfl
  · exact h1

theorem State.thermalCheck_keeps {s0 : State} {s : State} (h1 : Keeps s0 s) : Keeps s0 s.thermalCheck := by
  unfold State.thermalCheck
  split
  · refine Keeps.ite ?_ ?_
    · exact h1
    · extract_lets +onlyGivenNames x1
      have k1 : Keeps s0 x1 := State.keepPost_keeps h1
      clear_value x1
      with_reducible apply State.fold_keeps
      exact Keeps.same k1 rfl rfl rfl rfl
  · exact h1

theorem keepThermClr_keeps {s0 : State} {s : State} (h1 : Keeps s0 s) : Keeps s0 (keepThermClr s) := by
  unfold keepThermClr
  extract_lets +onlyGivenNames x1
  clear_value x1
  refine Keeps.ite ?_ ?_
  · exact State.unfold_keeps (State.keepPost_keeps h1)
  · exact h1

theorem State.setLevel_keeps {s0 : State} {s : State} {l : ℕ} (h1 : Keeps s0 s) : Keeps s0 (s.setLevel l) := by
  unfold State.setLevel
  extract_lets +onlyGivenNames x1
  have k1 : Keeps s0 x1 := State.put_keeps (State.put_keeps h1)
  clear_value x1
  exact State.put_keeps k1

theorem State.plRequest_keeps {s0 : State} {s : State} {t : ℕ} (h1 : Keeps s0 s) : Keeps s0 (s.plRequest t) := by
  unfold State.plRequest
  refine Keeps.ite ?_ ?_
  · exact State.post_keeps (State.put_keeps (State.put_keeps h1))
  · extract_lets +onlyGivenNames x1
    have k1 : Keeps s0 x1 := State.put_keeps h1
    clear_value x1
    extract_lets +onlyGivenNames x2
    clear_value x2
    refine Keeps.ite ?_ ?_
    · exact k1
    · extract_lets +onlyGivenNames x3
      have k3 : Keeps s0 x3 := State.put_keeps k1
      clear_value x3
      extract_lets +onlyGivenNames x4
      have k4 : Keeps s0 x4 := by
        unfold x4
        exact Keeps.same k3 rfl rfl rfl rfl
      clear_value x4
      refine Keeps.ite ?_ ?_
      · exact State.put_keeps (State.put_keeps k4)
      · exact k4

theorem pwrPlWrite_keeps {s0 : State} {v : ℕ} {s : State} (h2 : Keeps s0 s) : Keeps s0 (pwrPlWrite v s) := by
  unfold pwrPlWrite
  extract_lets +onlyGivenNames x1
  have k1 : Keeps s0 x1 := State.put_keeps h2
  clear_value x1
  refine Keeps.ite ?_ ?_
  · exact Keeps.same k1 rfl rfl rfl rfl
  · exact State.plRequest_keeps k1

theorem State.plNext_keeps {s0 : State} {s : State} (h1 : Keeps s0 s) : Keeps s0 s.plNext := by
  unfold State.plNext
  extract_lets +onlyGivenNames x1
  have k1 : Keeps s0 x1 := State.put_keeps h1
  clear_value x1
  extract_lets +onlyGivenNames x2
  have k2 : Keeps s0 x2 := by
    unfold x2
    exact Keeps.same k1 rfl rfl rfl rfl
  clear_value x2
  split
  · refine Keeps.ite ?_ ?_
    · with_reducible apply State.plRequest_keeps
      exact Keeps.same k2 rfl rfl rfl rfl
    · exact k2
  · exact k2

theorem powerGood_keeps {s0 : State} {s : State} (h1 : Keeps s0 s) : Keeps s0 (powerGood s) := by
  unfold powerGood
  split
  · exact State.put_keeps h1
  · extract_lets +onlyGivenNames x1
    have k1 : Keeps s0 x1 := State.put_keeps h1
    clear_value x1
    refine Keeps.ite ?_ ?_
    · exact State.plNext_keeps (State.post_keeps (State.bump_keeps (State.put_keeps (State.put_keeps k1))))
    · exact k1

theorem State.wakePgTimeout_keeps {s0 : State} {s : State} (h1 : Keeps s0 s) : Keeps s0 s.wakePgTimeout := by
  unfold State.wakePgTimeout
  exact State.put_keeps (State.post_keeps (State.bump_keeps (State.put_keeps h1)))

theorem pwrPgTimeout_keeps {s0 : State} {s : State} (h1 : Keeps s0 s) : Keeps s0 (pwrPgTimeout s) := by
  unfold pwrPgTimeout
  refine Keeps.ite ?_ ?_
  · refine Keeps.ite ?_ ?_
    · extract_lets +onlyGivenNames x1
      have k1 : Keeps s0 x1 := State.wakePgTimeout_keeps h1
      clear_value x1
      exact Keeps.same k1 rfl rfl rfl rfl
    · exact h1
  · split
    · refine Keeps.ite ?_ ?_
      · extract_lets +onlyGivenNames x2
        have k2 : Keeps s0 x2 := State.put_keeps h1
        clear_value x2
        exact Keeps.same k2 rfl rfl rfl rfl
      · exact h1
    · exact h1

theorem plChange_keeps {s0 : State} {s : State} (h1 : Keeps s0 s) : Keeps s0 (plChange s) := by
  unfold plChange
  split
  · exact h1
  · extract_lets +onlyGivenNames x1
    clear_value x1
    refine Keeps.ite ?_ ?_
    · exact h1
    · extract_lets +onlyGivenNames x2
      have k2 : Keeps s0 x2 := State.bump_keeps (State.put_keeps (State.setLevel_keeps h1))
      clear_value x2
      exact State.plNext_keeps (State.post_keeps k2)

theorem pwrPgLost_keeps {s0 : State} {s : State} (h1 : Keeps s0 s) : Keeps s0 (pwrPgLost s) := by
  unfold pwrPgLost
  refine Keeps.ite ?_ ?_
  · exact h1
  · extract_lets +onlyGivenNames x1
    have k1 : Keeps s0 x1 := State.put_keeps (State.put_keeps h1)
    clear_value x1
    exact State.fold_keeps (State.post_keeps k1)

theorem pwrXoFail_keeps {s0 : State} {cause : ℕ} {s : State} (h2 : Keeps s0 s) : Keeps s0 (pwrXoFail cause s) := by
  unfold pwrXoFail
  refine Keeps.ite ?_ ?_
  · exact State.post_keeps (State.put_keeps (State.put_keeps (State.put_keeps h2)))
  · exact h2

theorem pwrLfxFail_keeps {s0 : State} {s : State} (h1 : Keeps s0 s) : Keeps s0 (pwrLfxFail s) := by
  unfold pwrLfxFail
  refine Keeps.ite ?_ ?_
  · exact h1
  · exact State.post_keeps (State.put_keeps (State.put_keeps h1))

theorem pwrLfxResume_keeps {s0 : State} {cycles : ℕ} {s : State} (h2 : Keeps s0 s) : Keeps s0 (pwrLfxResume cycles s) := by
  unfold pwrLfxResume
  refine Keeps.ite ?_ ?_
  · exact State.post_keeps (State.put_keeps h2)
  · exact h2

theorem State.entryBegin_keeps {s0 : State} {s : State} (h1 : Keeps s0 s) : Keeps s0 s.entryBegin := by
  unfold State.entryBegin
  split
  · refine Keeps.ite ?_ ?_
    · exact State.put_keeps h1
    · exact h1
  · exact h1

theorem waitPower_keeps {s0 : State} {r : ℕ} {s : State} (h2 : Keeps s0 s) : Keeps s0 (waitPower r s) := by
  unfold waitPower
  with_reducible apply State.command_keeps
  · exact h2
  · intro x1 x2 x3 x4
    refine Keeps.ite ?_ ?_
    · exact State.finish_keeps x4
    · refine Keeps.ite ?_ ?_
      · exact State.finish_keeps x4
      · extract_lets +onlyGivenNames x5
        clear_value x5
        refine Keeps.ite ?_ ?_
        · exact State.finish_keeps x4
        · extract_lets +onlyGivenNames x6
          have k6 : Keeps s0 x6 := State.setExec_keeps x4
          clear_value x6
          refine Keeps.ite ?_ ?_
          · exact State.entryBegin_keeps (State.hpoFold_keeps (State.spkFold_keeps k6))
          · exact k6

theorem State.portsSleep_keeps {s0 : State} {s : State} (h1 : Keeps s0 s) : Keeps s0 s.portsSleep := by
  unfold State.portsSleep
  extract_lets +onlyGivenNames x1
  have k1 : Keeps s0 x1 := by
    unfold x1
    refine Keeps.foldl ?_ ?_
    · intro x2 x3 x4
      exact State.put_keeps (State.sapQuiet_keeps x4)
    · exact h1
  clear_value x1
  extract_lets +onlyGivenNames x5
  have k5 : Keeps s0 x5 := State.rxQuiet_keeps (State.put_keeps (State.rxLeaves_keeps k1))
  clear_value x5
  extract_lets +onlyGivenNames x6
  have k6 : Keeps s0 x6 := State.put_keeps k5
  clear_value x6
  exact Keeps.same k6 rfl rfl rfl rfl

theorem State.portsWake_keeps {s0 : State} {s : State} (h1 : Keeps s0 s) : Keeps s0 s.portsWake := by
  unfold State.portsWake
  extract_lets +onlyGivenNames x1
  have k1 : Keeps s0 x1 := by
    unfold x1
    refine Keeps.foldl ?_ ?_
    · intro x2 x3 x4
      exact State.sapArm_keeps x4
    · exact h1
  clear_value x1
  extract_lets +onlyGivenNames x5
  have k5 : Keeps s0 x5 := State.put_keeps k1
  clear_value x5
  extract_lets +onlyGivenNames x6
  clear_value x6
  extract_lets +onlyGivenNames x7
  have k7 : Keeps s0 x7 := by
    unfold x7
    refine Keeps.ite ?_ ?_
    · exact k1
    · exact Keeps.same k5 rfl rfl rfl rfl
  clear_value x7
  refine Keeps.ite ?_ ?_
  · exact k7
  · refine Keeps.ite ?_ ?_
    · exact State.put_keeps k7
    · exact Keeps.same k7 rfl rfl rfl rfl

theorem State.linkQuiet_keeps {s0 : State} {s : State} {p : ℕ} (h1 : Keeps s0 s) : Keeps s0 (s.linkQuiet p) := by
  unfold State.linkQuiet
  refine Keeps.foldl ?_ ?_
  · intro x1 x2 x3
    exact State.edgeClear_keeps x3
  · exact h1

theorem State.linksSleep_keeps {s0 : State} {s : State} (h1 : Keeps s0 s) : Keeps s0 s.linksSleep := by
  unfold State.linksSleep
  extract_lets +onlyGivenNames x1
  have k1 : Keeps s0 x1 := by
    unfold x1
    refine Keeps.foldl ?_ ?_
    · intro x2 x3 x4
      extract_lets +onlyGivenNames x5
      clear_value x5
      extract_lets +onlyGivenNames x6
      have k6 : Keeps s0 x6 := by
        unfold x6
        refine Keeps.ite ?_ ?_
        · exact State.bump_keeps x4
        · exact x4
      clear_value x6
      exact State.setChain_keeps (State.linkQuiet_keeps (State.put_keeps (State.put_keeps k6)))
    · exact h1
  clear_value x1
  refine Keeps.ite ?_ ?_
  · exact State.domaHold_keeps k1
  · exact k1

theorem State.linksWake_keeps {s0 : State} {s : State} (h1 : Keeps s0 s) : Keeps s0 s.linksWake := by
  unfold State.linksWake
  extract_lets +onlyGivenNames x1
  have k1 : Keeps s0 x1 := by
    unfold x1
    refine Keeps.ite ?_ ?_
    · exact h1
    · exact State.put_keeps h1
  clear_value x1
  exact State.put_keeps k1

theorem State.hkaSleep_keeps {s0 : State} {s : State} (h1 : Keeps s0 s) : Keeps s0 s.hkaSleep := by
  unfold State.hkaSleep
  extract_lets +onlyGivenNames x1
  have k1 : Keeps s0 x1 := by
    unfold x1
    refine Keeps.foldl ?_ ?_
    · intro x2 x3 x4
      exact State.put_keeps x4
    · exact h1
  clear_value x1
  extract_lets +onlyGivenNames x5
  have k5 : Keeps s0 x5 := State.put_keeps (State.put_keeps k1)
  clear_value x5
  exact Keeps.same k5 rfl rfl rfl rfl

theorem State.scrubRestart_keeps {s0 : State} {s : State} (h1 : Keeps s0 s) : Keeps s0 s.scrubRestart := by
  unfold State.scrubRestart
  extract_lets +onlyGivenNames x1
  have k1 : Keeps s0 x1 := State.put_keeps (State.put_keeps h1)
  clear_value x1
  exact Keeps.same k1 rfl rfl rfl rfl

theorem sleepEntry_keeps {s0 : State} {s : State} (h1 : Keeps s0 s) : Keeps s0 (sleepEntry s) := by
  unfold sleepEntry
  split
  · exact h1
  · refine Keeps.ite ?_ ?_
    · exact h1
    · extract_lets +onlyGivenNames x1
      have k1 : Keeps s0 x1 := by
        unfold x1
        refine Keeps.foldl ?_ ?_
        · intro x2 x3 x4
          exact State.brgOff_keeps x4
        · exact h1
      clear_value x1
      extract_lets +onlyGivenNames x5
      have k5 : Keeps s0 x5 := State.linksSleep_keeps (State.portsSleep_keeps k1)
      clear_value x5
      extract_lets +onlyGivenNames x6
      have k6 : Keeps s0 x6 := State.pumpCheck_keeps (State.jackSleep_keeps (State.testsStop_keeps (State.hoEnd_keeps k5)))
      clear_value x6
      extract_lets +onlyGivenNames x7
      have k7 : Keeps s0 x7 := State.put_keeps k6
      clear_value x7
      extract_lets +onlyGivenNames x8
      have k8 : Keeps s0 x8 := State.scrubRestart_keeps (State.hkaSleep_keeps (State.banksSleep_keeps k7))
      clear_value x8
      extract_lets +onlyGivenNames x9
      have k9 : Keeps s0 x9 := State.put_keeps (State.put_keeps k8)
      clear_value x9
      extract_lets +onlyGivenNames x10
      have k10 : Keeps s0 x10 := by
        unfold x10
        refine Keeps.ite ?_ ?_
        · exact State.put_keeps (State.put_keeps k9)
        · exact State.domcFree_keeps k9
      clear_value x10
      extract_lets +onlyGivenNames x11
      have k11 : Keeps s0 x11 := by
        unfold x11
        refine Keeps.ite ?_ ?_
        · exact State.hopClear_keeps k10
        · exact k10
      clear_value x11
      extract_lets +onlyGivenNames x12
      have k12 : Keeps s0 x12 := State.put_keeps k11
      clear_value x12
      extract_lets +onlyGivenNames x13
      have k13 : Keeps s0 x13 := by
        unfold x13
        with_reducible apply State.captureSleep_keeps
        exact Keeps.same k12 rfl rfl rfl rfl
      clear_value x13
      extract_lets +onlyGivenNames x14
      have k14 : Keeps s0 x14 := State.wdtRestart_keeps (State.bump_keeps k13)
      clear_value x14
      exact State.post_keeps k14

theorem pwrEntryTimeout_keeps {s0 : State} {s : State} (h1 : Keeps s0 s) : Keeps s0 (pwrEntryTimeout s) := by
  unfold pwrEntryTimeout
  split
  · exact h1
  · refine Keeps.ite ?_ ?_
    · exact h1
    · extract_lets +onlyGivenNames x1
      clear_value x1
      extract_lets +onlyGivenNames x2
      clear_value x2
      extract_lets +onlyGivenNames x3
      have k3 : Keeps s0 x3 := State.post_keeps (State.bump_keeps (State.put_keeps h1))
      clear_value x3
      extract_lets +onlyGivenNames x4
      have k4 : Keeps s0 x4 := by
        unfold x4
        refine Keeps.ite ?_ ?_
        · exact k3
        · exact State.hpoUnfold_keeps (State.spkUnfold_keeps k3)
      clear_value x4
      exact State.finish_keeps k4

theorem wake_keeps {s0 : State} {s : State} (h1 : Keeps s0 s) : Keeps s0 (wake s) := by
  unfold wake
  exact State.wakeBy_keeps h1

theorem wakeTimer_keeps {s0 : State} {s : State} (h1 : Keeps s0 s) : Keeps s0 (wakeTimer s) := by
  unfold wakeTimer
  refine Keeps.ite ?_ ?_
  · exact State.wakeBy_keeps h1
  · exact h1

theorem dormantAddressMatch_keeps {s0 : State} {own : Bool} {stretch : ℕ} {s : State} (h3 : Keeps s0 s) : Keeps s0
    (dormantAddressMatch own stretch s) := by
  unfold dormantAddressMatch
  refine Keeps.ite ?_ ?_
  · exact h3
  · extract_lets +onlyGivenNames x1
    have k1 : Keeps s0 x1 := State.peak_keeps (State.put_keeps h3)
    clear_value x1
    extract_lets +onlyGivenNames x2
    have k2 : Keeps s0 x2 := by
      unfold x2
      exact Keeps.same k1 rfl rfl rfl rfl
    clear_value x2
    refine Keeps.ite ?_ ?_
    · exact State.wakeBy_keeps k2
    · exact k2

theorem returnToDormant_keeps {s0 : State} {s : State} (h1 : Keeps s0 s) : Keeps s0 (returnToDormant s) := by
  unfold returnToDormant
  refine Keeps.ite ?_ ?_
  · exact Keeps.same h1 rfl rfl rfl rfl
  · exact h1

theorem State.wakeRecord_keeps {s0 : State} {s : State} {cause : ℕ} {left : ℕ} {cycles : ℕ} (h1 : Keeps s0 s) : Keeps s0
    (s.wakeRecord cause left cycles) := by
  unfold State.wakeRecord
  extract_lets +onlyGivenNames x1
  have k1 : Keeps s0 x1 := State.put_keeps (State.put_keeps (State.put_keeps h1))
  clear_value x1
  with_reducible apply State.post_keeps
  exact Keeps.same k1 rfl rfl rfl rfl

theorem State.timeSlept_keeps {s0 : State} {s : State} {cycles : ℕ} {rc : ℕ} (h1 : Keeps s0 s) : Keeps s0 (s.timeSlept
    cycles rc) := by
  unfold State.timeSlept
  extract_lets +onlyGivenNames x1
  clear_value x1
  extract_lets +onlyGivenNames x2
  clear_value x2
  extract_lets +onlyGivenNames x3
  clear_value x3
  extract_lets +onlyGivenNames x4
  clear_value x4
  extract_lets +onlyGivenNames x5
  clear_value x5
  extract_lets +onlyGivenNames x6
  clear_value x6
  extract_lets +onlyGivenNames x7
  have k7 : Keeps s0 x7 := by
    unfold x7
    exact Keeps.same h1 rfl rfl rfl rfl
  clear_value x7
  exact State.calSeconds_keeps (State.calSeconds_keeps (State.opSeconds_keeps (State.opSeconds_keeps k7)))

theorem State.wakeSettle_keeps {s0 : State} {s : State} (h1 : Keeps s0 s) : Keeps s0 s.wakeSettle := by
  unfold State.wakeSettle
  extract_lets +onlyGivenNames x1
  clear_value x1
  extract_lets +onlyGivenNames x2
  clear_value x2
  extract_lets +onlyGivenNames x3
  have k3 : Keeps s0 x3 := by
    unfold x3
    refine Keeps.ite ?_ ?_
    · exact State.free_keeps h1
    · exact h1
  clear_value x3
  exact State.put_keeps (State.put_keeps (State.setLevel_keeps k3))

theorem State.domcWake_keeps {s0 : State} {s : State} (h1 : Keeps s0 s) : Keeps s0 s.domcWake := by
  unfold State.domcWake
  refine Keeps.ite ?_ ?_
  · exact State.domcFree_keeps h1
  · exact State.domcSlew_keeps h1

theorem sleepExit_keeps {s0 : State} {cycles : ℕ} {rc : ℕ} {s : State} (h3 : Keeps s0 s) : Keeps s0 (sleepExit cycles rc
    s) := by
  unfold sleepExit
  extract_lets +onlyGivenNames x1
  clear_value x1
  split
  · exact h3
  · refine Keeps.ite ?_ ?_
    · exact h3
    · extract_lets +onlyGivenNames x2
      have k2 : Keeps s0 x2 := by
        unfold x2
        refine Keeps.ite ?_ ?_
        · exact Keeps.same h3 rfl rfl rfl rfl
        · exact h3
      clear_value x2
      extract_lets +onlyGivenNames x3
      have k3 : Keeps s0 x3 := State.timeSlept_keeps k2
      clear_value x3
      extract_lets +onlyGivenNames x4
      have k4 : Keeps s0 x4 := State.put_keeps k3
      clear_value x4
      extract_lets +onlyGivenNames x5
      have k5 : Keeps s0 x5 := by
        unfold x5
        exact Keeps.same k4 rfl rfl rfl rfl
      clear_value x5
      extract_lets +onlyGivenNames x6
      have k6 : Keeps s0 x6 := State.wakeSettle_keeps k5
      clear_value x6
      extract_lets +onlyGivenNames x7
      have k7 : Keeps s0 x7 := State.banksWake_keeps (State.put_keeps k6)
      clear_value x7
      extract_lets +onlyGivenNames x8
      have k8 : Keeps s0 x8 := State.domcWake_keeps k7
      clear_value x8
      extract_lets +onlyGivenNames x9
      have k9 : Keeps s0 x9 := by
        unfold x9
        refine Keeps.ite ?_ ?_
        · exact State.modelCheck_keeps (State.gapDue_keeps k8)
        · exact k8
      clear_value x9
      extract_lets +onlyGivenNames x10
      have k10 : Keeps s0 x10 := State.wdtRestart_keeps (State.linksWake_keeps (State.portsWake_keeps (State.jackResume_keeps (State.captureWake_keeps k9))))
      clear_value x10
      extract_lets +onlyGivenNames x11
      have k11 : Keeps s0 x11 := by
        unfold x11
        refine Keeps.ite ?_ ?_
        · exact k10
        · exact State.hpoUnfold_keeps (State.spkWake_keeps k10)
      clear_value x11
      extract_lets +onlyGivenNames x12
      have k12 : Keeps s0 x12 := State.setExec_keeps k11
      clear_value x12
      exact State.plNext_keeps (State.wakeRecord_keeps k12)

theorem State.idleBoundary_keeps {s0 : State} {s : State} (h1 : Keeps s0 s) : Keeps s0 s.idleBoundary := by
  unfold State.idleBoundary
  refine Keeps.ite ?_ ?_
  · extract_lets +onlyGivenNames x1
    have k1 : Keeps s0 x1 := State.put_keeps h1
    clear_value x1
    exact Keeps.same k1 rfl rfl rfl rfl
  · refine Keeps.ite ?_ ?_
    · split
      · extract_lets +onlyGivenNames x2
        have k2 : Keeps s0 x2 := State.wakeRecord_keeps (State.put_keeps h1)
        clear_value x2
        exact State.finish_keeps k2
      · exact h1
    · exact h1

end Sys2Proof.Machine
end

