-- ==== Sys2Proof/Laws/KeepsLoad.lean ====
section
/-! SUPPORT. What every operation keeps (`Keeps`), one lemma for each: resets, register writes, codex loads, the chain, the host bus and the frame boundary. -/

namespace Sys2Proof.Machine

theorem State.setReason_keeps {s0 : State} {s : State} {k : ℕ} {v : ℕ} (h1 : Keeps s0 s) : Keeps s0 (s.setReason k v) := by
  unfold State.setReason
  exact State.put_keeps h1

theorem State.classifySlots_keeps {s0 : State} {s : State} {l : List ℕ} (h1 : Keeps s0 s) : Keeps s0 (s.classifySlots l)
    := by
  unfold State.classifySlots
  refine Keeps.foldl ?_ ?_
  · intro x1 x2 x3
    extract_lets +onlyGivenNames x4
    clear_value x4
    extract_lets +onlyGivenNames x5
    have k5 : Keeps s0 x5 := State.setReason_keeps x3
    clear_value x5
    refine Keeps.ite ?_ ?_
    · exact k5
    · exact State.post_keeps k5
  · exact h1

theorem State.bootDone_keeps {s0 : State} {s : State} {state : ℕ} {units : ℕ} (h1 : Keeps s0 s) : Keeps s0 (s.bootDone
    state units) := by
  unfold State.bootDone
  extract_lets +onlyGivenNames x1
  have k1 : Keeps s0 x1 := State.put_keeps h1
  clear_value x1
  extract_lets +onlyGivenNames x2
  have k2 : Keeps s0 x2 := by
    unfold x2
    refine Keeps.ite ?_ ?_
    · exact State.put_keeps k1
    · exact k1
  clear_value x2
  extract_lets +onlyGivenNames x3
  have k3 : Keeps s0 x3 := State.post_keeps k2
  clear_value x3
  exact Keeps.same k3 rfl rfl rfl rfl

theorem State.bootEmpty_keeps {s0 : State} {s : State} (h1 : Keeps s0 s) : Keeps s0 s.bootEmpty := by
  unfold State.bootEmpty
  exact State.bootDone_keeps (State.post_keeps h1)

theorem State.bootSelect_keeps {s0 : State} {s : State} (h1 : Keeps s0 s) : Keeps s0 s.bootSelect := by
  unfold State.bootSelect
  extract_lets +onlyGivenNames x1
  have k1 : Keeps s0 x1 := by
    unfold x1
    exact Keeps.same h1 rfl rfl rfl rfl
  refine Keeps.ite ?_ ?_
  · exact State.put_keeps k1
  · extract_lets +onlyGivenNames x2
    have k2 : Keeps s0 x2 := State.classifySlots_keeps (State.put_keeps k1)
    clear_value x2
    clear_value x1
    split
    · extract_lets +onlyGivenNames x3
      have k3 : Keeps s0 x3 := State.put_keeps k2
      clear_value x3
      exact Keeps.same k3 rfl rfl rfl rfl
    · exact State.bootEmpty_keeps k2

theorem State.resetPages_keeps {s0 : State} {s : State} {ps : List ℕ} {keep : ℕ → Bool} (h1 : Keeps s0 s) : Keeps s0
    (s.resetPages ps keep) := by
  unfold State.resetPages
  exact Keeps.same h1 rfl rfl rfl rfl

theorem State.readIdentity_keeps {s0 : State} {s : State} {f : ℕ} (h1 : Keeps s0 s) : Keeps s0 (s.readIdentity f) := by
  unfold State.readIdentity
  extract_lets +onlyGivenNames x1
  have k1 : Keeps s0 x1 := State.put_keeps (State.put_keeps h1)
  clear_value x1
  refine Keeps.ite ?_ ?_
  · exact State.put_keeps k1
  · exact State.post_keeps (State.put_keeps k1)

theorem State.loadDrop_keeps {s0 : State} {s : State} (h1 : Keeps s0 s) : Keeps s0 s.loadDrop := by
  unfold State.loadDrop
  exact Keeps.same h1 rfl rfl rfl rfl

theorem State.plComplete_keeps {s0 : State} {s : State} (h1 : Keeps s0 s) : Keeps s0 s.plComplete := by
  unfold State.plComplete
  split
  · with_reducible apply plChange_keeps
    extract_lets +onlyGivenNames x1
    have k1 : Keeps s0 x1 := State.put_keeps h1
    clear_value x1
    exact Keeps.same k1 rfl rfl rfl rfl
  · exact h1

theorem State.tunnelDrop_keeps {s0 : State} {s : State} (h1 : Keeps s0 s) : Keeps s0 s.tunnelDrop := by
  unfold State.tunnelDrop
  refine Keeps.ite ?_ ?_
  · exact h1
  · exact State.setChain_keeps h1

theorem State.hqStop_keeps {s0 : State} {s : State} (h1 : Keeps s0 s) : Keeps s0 s.hqStop := by
  unfold State.hqStop
  refine Keeps.foldl ?_ ?_
  · intro x1 x2 x3
    exact State.edgeClear_keeps x3
  · exact Keeps.same h1 rfl rfl rfl rfl

theorem State.fabricClear_keeps {s0 : State} {s : State} {depthCode : ℕ} (h1 : Keeps s0 s) : Keeps s0 (s.fabricClear
    depthCode) := by
  unfold State.fabricClear
  extract_lets +onlyGivenNames x1
  clear_value x1
  extract_lets +onlyGivenNames x2
  have k2 : Keeps s0 x2 := by
    unfold x2
    exact Keeps.same h1 rfl rfl rfl rfl
  clear_value x2
  extract_lets +onlyGivenNames x3
  have k3 : Keeps s0 x3 := State.ringsReset_keeps (State.hoEnd_keeps k2)
  clear_value x3
  extract_lets +onlyGivenNames x4
  have k4 : Keeps s0 x4 := by
    unfold x4
    with_reducible apply State.showTests_keeps
    exact Keeps.same k3 rfl rfl rfl rfl
  clear_value x4
  extract_lets +onlyGivenNames x5
  have k5 : Keeps s0 x5 := State.resetPages_keeps k4
  clear_value x5
  extract_lets +onlyGivenNames x6
  have k6 : Keeps s0 x6 := State.stateRamClear_keeps k5
  clear_value x6
  extract_lets +onlyGivenNames x7
  have k7 : Keeps s0 x7 := by
    unfold x7
    exact Keeps.same k6 rfl rfl rfl rfl
  clear_value x7
  extract_lets +onlyGivenNames x8
  have k8 : Keeps s0 x8 := State.showAux_keeps (State.scrubRestart_keeps (State.loadDrop_keeps k7))
  clear_value x8
  extract_lets +onlyGivenNames x9
  have k9 : Keeps s0 x9 := by
    unfold x9
    refine Keeps.ite ?_ ?_
    · exact State.put_keeps k8
    · exact k8
  clear_value x9
  extract_lets +onlyGivenNames x10
  have k10 : Keeps s0 x10 := State.setLevel_keeps k9
  clear_value x10
  extract_lets +onlyGivenNames x11
  have k11 : Keeps s0 x11 := State.put_keeps (State.put_keeps k10)
  clear_value x11
  exact State.put_keeps (State.tunnelDrop_keeps (State.hqStop_keeps k11))

theorem State.riseToTop_keeps {s0 : State} {s : State} (h1 : Keeps s0 s) : Keeps s0 s.riseToTop := by
  unfold State.riseToTop
  extract_lets +onlyGivenNames x1
  have k1 : Keeps s0 x1 := State.put_keeps h1
  clear_value x1
  extract_lets +onlyGivenNames x2
  have k2 : Keeps s0 x2 := State.setLevel_keeps k1
  clear_value x2
  extract_lets +onlyGivenNames x3
  have k3 : Keeps s0 x3 := State.put_keeps (State.put_keeps k2)
  clear_value x3
  refine Keeps.ite ?_ ?_
  · exact Keeps.same k3 rfl rfl rfl rfl
  · exact State.setLevel_keeps (State.put_keeps (State.put_keeps k1))

theorem State.warmClear_keeps {s0 : State} {s : State} (h1 : Keeps s0 s) : Keeps s0 s.warmClear := by
  unfold State.warmClear
  extract_lets +onlyGivenNames x1
  have k1 : Keeps s0 x1 := State.linkQuiet_keeps (State.linkQuiet_keeps (State.jackSleep_keeps h1))
  clear_value x1
  extract_lets +onlyGivenNames x2
  have k2 : Keeps s0 x2 := State.resetPages_keeps k1
  clear_value x2
  extract_lets +onlyGivenNames x3
  clear_value x3
  extract_lets +onlyGivenNames x4
  have k4 : Keeps s0 x4 := by
    unfold x4
    exact Keeps.same k2 rfl rfl rfl rfl
  clear_value x4
  extract_lets +onlyGivenNames x5
  have k5 : Keeps s0 x5 := by
    unfold x5
    refine Keeps.ite ?_ ?_
    · exact k4
    · exact State.put_keeps (State.put_keeps k4)
  clear_value x5
  extract_lets +onlyGivenNames x6
  have k6 : Keeps s0 x6 := by
    unfold x6
    refine Keeps.ite ?_ ?_
    · exact k5
    · exact State.domcFree_keeps k5
  clear_value x6
  extract_lets +onlyGivenNames x7
  have k7 : Keeps s0 x7 := State.put_keeps (State.put_keeps (State.put_keeps k6))
  clear_value x7
  exact State.riseToTop_keeps (State.put_keeps k7)

theorem State.resetApply_keeps {s0 : State} {s : State} (h1 : Keeps s0 s) : Keeps s0 s.resetApply := by
  unfold State.resetApply
  split
  · extract_lets +onlyGivenNames x1
    have k1 : Keeps s0 x1 := State.coldClear_keeps h1
    clear_value x1
    exact Keeps.same k1 rfl rfl rfl rfl
  · extract_lets +onlyGivenNames x2
    have k2 : Keeps s0 x2 := State.warmClear_keeps (State.fabricClear_keeps (State.plComplete_keeps h1))
    clear_value x2
    exact Keeps.same k2 rfl rfl rfl rfl
  · extract_lets +onlyGivenNames x3
    have k3 : Keeps s0 x3 := State.fabricClear_keeps (State.plComplete_keeps h1)
    clear_value x3
    exact Keeps.same k3 rfl rfl rfl rfl
  · exact h1

theorem State.loadTrims_keeps {s0 : State} {s : State} {bad : Bool} (h1 : Keeps s0 s) : Keeps s0 (s.loadTrims bad) := by
  unfold State.loadTrims
  refine Keeps.foldl ?_ ?_
  · intro x1 x2 x3
    extract_lets +onlyGivenNames x4
    clear_value x4
    exact State.put_keeps (State.put_keeps x3)
  · exact h1

theorem State.readStrap_keeps {s0 : State} {s : State} {p : PowerInputs} (h1 : Keeps s0 s) : Keeps s0 (s.readStrap p) := by
  unfold State.readStrap
  extract_lets +onlyGivenNames x1
  have k1 : Keeps s0 x1 := State.put_keeps (State.put_keeps h1)
  clear_value x1
  refine Keeps.ite ?_ ?_
  · exact State.post_keeps (State.put_keeps k1)
  · exact k1

theorem State.coldStart_keeps {s0 : State} {s : State} {p : PowerInputs} {cause : ℕ} (h1 : Keeps s0 s) : Keeps s0
    (s.coldStart p cause) := by
  unfold State.coldStart
  extract_lets +onlyGivenNames x1
  have k1 : Keeps s0 x1 := State.coldClear_keeps h1
  clear_value x1
  extract_lets +onlyGivenNames x2
  have k2 : Keeps s0 x2 := by
    unfold x2
    exact Keeps.same k1 rfl rfl rfl rfl
  clear_value x2
  extract_lets +onlyGivenNames x3
  have k3 : Keeps s0 x3 := State.readStrap_keeps (State.put_keeps k2)
  clear_value x3
  extract_lets +onlyGivenNames x4
  have k4 : Keeps s0 x4 := by
    unfold x4
    refine Keeps.ite ?_ ?_
    · exact k3
    · exact State.put_keeps (State.put_keeps k3)
  clear_value x4
  extract_lets +onlyGivenNames x5
  have k5 : Keeps s0 x5 := by
    unfold x5
    refine Keeps.ite ?_ ?_
    · exact k4
    · exact pwrXoFail_keeps k4
  clear_value x5
  extract_lets +onlyGivenNames x6
  have k6 : Keeps s0 x6 := State.readIdentity_keeps k5
  clear_value x6
  extract_lets +onlyGivenNames x7
  have k7 : Keeps s0 x7 := State.coldRelease7_keeps (State.banksCold_keeps (State.timeRecover_keeps (State.loadTrims_keeps (State.sysRecover_keeps k6))))
  clear_value x7
  extract_lets +onlyGivenNames x8
  have k8 : Keeps s0 x8 := State.linksWake_keeps (State.setLevel_keeps k7)
  clear_value x8
  extract_lets +onlyGivenNames x9
  have k9 : Keeps s0 x9 := by
    unfold x9
    refine Keeps.ite ?_ ?_
    · exact State.domcSlew_keeps k8
    · exact k8
  clear_value x9
  extract_lets +onlyGivenNames x10
  have k10 : Keeps s0 x10 := State.post_keeps k9
  clear_value x10
  extract_lets +onlyGivenNames x11
  have k11 : Keeps s0 x11 := State.put_keeps (State.put_keeps k10)
  clear_value x11
  exact State.bootSelect_keeps k11

theorem State.reportReset_keeps {s0 : State} {s : State} {depth : ℕ} (h1 : Keeps s0 s) : Keeps s0 (s.reportReset depth)
    := by
  unfold State.reportReset
  refine Keeps.ite ?_ ?_
  · exact h1
  · exact State.setChain_keeps h1

theorem powerOn_keeps {s0 : State} {p : PowerInputs} {s : State} (h2 : Keeps s0 s) : Keeps s0 (powerOn p s) := by
  unfold powerOn
  exact State.reportReset_keeps (State.coldStart_keeps h2)

theorem powerLoss_keeps {s0 : State} {s : State} (h1 : Keeps s0 s) : Keeps s0 (powerLoss s) := by
  unfold powerLoss
  extract_lets +onlyGivenNames x1
  have k1 : Keeps s0 x1 := State.coldClear_keeps h1
  clear_value x1
  exact Keeps.same k1 rfl rfl rfl rfl

theorem resetN_keeps {s0 : State} {s : State} (h1 : Keeps s0 s) : Keeps s0 (resetN s) := by
  unfold resetN
  exact State.requestReset_keeps (State.triggerFlush_keeps h1)

theorem sysReset_keeps {s0 : State} {v : ℕ} {s : State} (h2 : Keeps s0 s) : Keeps s0 (sysReset v s) := by
  unfold sysReset
  refine Keeps.ite ?_ ?_
  · exact State.requestReset_keeps h2
  · exact h2

theorem sysLock_keeps {s0 : State} {v : ℕ} {s : State} (h2 : Keeps s0 s) : Keeps s0 (sysLock v s) := by
  unfold sysLock
  refine Keeps.ite ?_ ?_
  · exact State.put_keeps h2
  · exact h2

theorem resetCmd_keeps {s0 : State} {r : ℕ} {depth : ℕ} {s : State} (h3 : Keeps s0 s) : Keeps s0 (resetCmd r depth s) := by
  unfold resetCmd
  with_reducible apply State.command_keeps
  · exact h3
  · intro x1 x2 x3 x4
    refine Keeps.ite ?_ ?_
    · exact State.requestReset_keeps x4
    · exact State.finish_keeps x4

theorem resetRelease_keeps {s0 : State} {p : PowerInputs} {s : State} (h2 : Keeps s0 s) : Keeps s0 (resetRelease p s) := by
  unfold resetRelease
  split
  · exact h2
  · exact State.reportReset_keeps (State.coldStart_keeps h2)
  · extract_lets +onlyGivenNames x1
    have k1 : Keeps s0 x1 := State.resetApply_keeps h2
    clear_value x1
    extract_lets +onlyGivenNames x2
    have k2 : Keeps s0 x2 := by
      unfold x2
      exact Keeps.same k1 rfl rfl rfl rfl
    clear_value x2
    extract_lets +onlyGivenNames x3
    have k3 : Keeps s0 x3 := State.put_keeps (State.put_keeps k2)
    clear_value x3
    extract_lets +onlyGivenNames x4
    have k4 : Keeps s0 x4 := State.put_keeps (State.post_keeps k3)
    clear_value x4
    extract_lets +onlyGivenNames x5
    have k5 : Keeps s0 x5 := State.pdmRefresh_keeps (State.biasRestart_keeps (State.unfold_keeps k4))
    clear_value x5
    extract_lets +onlyGivenNames x6
    have k6 : Keeps s0 x6 := State.wdtRestart_keeps (State.reportReset_keeps k5)
    clear_value x6
    refine Keeps.ite ?_ ?_
    · exact State.bootSelect_keeps (State.linksWake_keeps (State.jackResume_keeps k6))
    · exact k6

theorem State.putFields_keeps {s0 : State} {s : State} {r : RegRow} {off : ℕ} {v : ℕ} (h1 : Keeps s0 s) : Keeps s0
    (s.putFields r off v) := by
  unfold State.putFields
  refine Keeps.foldl ?_ ?_
  · intro x1 x2 x3
    exact State.put_keeps x3
  · exact h1

theorem State.clearFields_keeps {s0 : State} {s : State} {r : RegRow} {off : ℕ} {v : ℕ} (h1 : Keeps s0 s) : Keeps s0
    (s.clearFields r off v) := by
  unfold State.clearFields
  refine Keeps.foldl ?_ ?_
  · intro x1 x2 x3
    exact State.put_keeps x3
  · exact h1

theorem State.plainWrite_keeps {s0 : State} {s : State} {a : ℕ} {v : ℕ} (h1 : Keeps s0 s) : Keeps s0 (s.plainWrite a v)
    := by
  unfold State.plainWrite
  split
  · exact h1
  · split
    · exact State.putFields_keeps h1
    · exact State.putFields_keeps h1
    · refine Keeps.ite ?_ ?_
      · exact h1
      · exact State.putFields_keeps h1
    · exact State.clearFields_keeps h1
    · exact h1
    · exact h1
    · exact h1

theorem State.sapPageWrite_keeps {s0 : State} {s : State} {o : ℕ} {v : ℕ} (h1 : Keeps s0 s) : Keeps s0 (s.sapPageWrite o
    v) := by
  unfold State.sapPageWrite
  refine Keeps.ite ?_ ?_
  · exact sapStartGo_keeps h1
  · refine Keeps.ite ?_ ?_
    · exact State.plainWrite_keeps h1
    · refine Keeps.ite ?_ ?_
      · exact sapCfgWrite_keeps h1
      · refine Keeps.ite ?_ ?_
        · exact sapMuteWrite_keeps h1
        · exact State.plainWrite_keeps h1

theorem State.spdPageWrite_keeps {s0 : State} {s : State} {o : ℕ} {v : ℕ} (h1 : Keeps s0 s) : Keeps s0 (s.spdPageWrite o
    v) := by
  unfold State.spdPageWrite
  refine Keeps.ite ?_ ?_
  · exact spdRxCfgWrite_keeps h1
  · refine Keeps.ite ?_ ?_
    · exact spdTxCfgWrite_keeps h1
    · refine Keeps.ite ?_ ?_
      · exact txCsCommit_keeps h1
      · refine Keeps.ite ?_ ?_
        · exact txUdCommit_keeps h1
        · exact State.plainWrite_keeps h1

theorem State.ainPageWrite_keeps {s0 : State} {s : State} {o : ℕ} {v : ℕ} (h1 : Keeps s0 s) : Keeps s0 (s.ainPageWrite o
    v) := by
  unfold State.ainPageWrite
  refine Keeps.ite ?_ ?_
  · exact ainCfgWrite_keeps h1
  · refine Keeps.ite ?_ ?_
    · exact biasCfgWrite_keeps h1
    · exact State.plainWrite_keeps h1

theorem wakeCmdWrite_keeps {s0 : State} {v : ℕ} {s : State} (h2 : Keeps s0 s) : Keeps s0 (wakeCmdWrite v s) := by
  unfold wakeCmdWrite
  extract_lets +onlyGivenNames x1
  have k1 : Keeps s0 x1 := by
    unfold x1
    refine Keeps.ite ?_ ?_
    · exact State.modelCheck_keeps h2
    · exact h2
  clear_value x1
  extract_lets +onlyGivenNames x2
  have k2 : Keeps s0 x2 := by
    unfold x2
    refine Keeps.ite ?_ ?_
    · exact hoStop_keeps k1
    · exact k1
  clear_value x2
  refine Keeps.ite ?_ ?_
  · exact hoGo_keeps k2
  · exact k2

theorem State.wakePageWrite_keeps {s0 : State} {s : State} {o : ℕ} {v : ℕ} (h1 : Keeps s0 s) : Keeps s0 (s.wakePageWrite
    o v) := by
  unfold State.wakePageWrite
  refine Keeps.ite ?_ ?_
  · exact pdmCfgWrite_keeps h1
  · refine Keeps.ite ?_ ?_
    · exact wakeCtlWrite_keeps h1
    · refine Keeps.ite ?_ ?_
      · exact wakeArchCfgWrite_keeps h1
      · refine Keeps.ite ?_ ?_
        · exact wakeCmdWrite_keeps h1
        · exact State.plainWrite_keeps h1

theorem State.hpoPageWrite_keeps {s0 : State} {s : State} {o : ℕ} {v : ℕ} (h1 : Keeps s0 s) : Keeps s0 (s.hpoPageWrite o
    v) := by
  unfold State.hpoPageWrite
  refine Keeps.ite ?_ ?_
  · refine Keeps.ite ?_ ?_
    · exact hpoClear_keeps h1
    · exact h1
  · refine Keeps.ite ?_ ?_
    · exact hpoCfgWrite_keeps h1
    · exact State.plainWrite_keeps h1

theorem State.spkPageWrite_keeps {s0 : State} {s : State} {o : ℕ} {v : ℕ} (h1 : Keeps s0 s) : Keeps s0 (s.spkPageWrite o
    v) := by
  unfold State.spkPageWrite
  refine Keeps.ite ?_ ?_
  · exact spkCtlWrite_keeps h1
  · refine Keeps.ite ?_ ?_
    · extract_lets +onlyGivenNames x1
      have k1 : Keeps s0 x1 := by
        unfold x1
        refine Keeps.ite ?_ ?_
        · exact spkClear_keeps h1
        · exact h1
      clear_value x1
      refine Keeps.ite ?_ ?_
      · exact tweet_keeps k1
      · exact k1
    · refine Keeps.ite ?_ ?_
      · exact spkCfgWrite_keeps h1
      · exact State.plainWrite_keeps h1

theorem State.hkaPageWrite_keeps {s0 : State} {s : State} {o : ℕ} {v : ℕ} (h1 : Keeps s0 s) : Keeps s0 (s.hkaPageWrite o
    v) := by
  unfold State.hkaPageWrite
  refine Keeps.ite ?_ ?_
  · refine Keeps.ite ?_ ?_
    · exact conv_keeps h1
    · exact h1
  · extract_lets +onlyGivenNames x1
    have k1 : Keeps s0 x1 := State.plainWrite_keeps h1
    clear_value x1
    refine Keeps.ite ?_ ?_
    · exact State.put_keeps k1
    · exact k1

theorem State.detPageWrite_keeps {s0 : State} {s : State} {o : ℕ} {v : ℕ} (h1 : Keeps s0 s) : Keeps s0 (s.detPageWrite o
    v) := by
  unfold State.detPageWrite
  refine Keeps.ite ?_ ?_
  · refine Keeps.foldl ?_ ?_
    · intro x1 x2 x3
      exact reident_keeps x3
    · exact h1
  · refine Keeps.ite ?_ ?_
    · exact detJackCfgWrite_keeps h1
    · refine Keeps.ite ?_ ?_
      · exact detJackCfgWrite_keeps h1
      · exact State.plainWrite_keeps h1

theorem State.audioWrite_keeps {s0 : State} {s : State} {a : ℕ} {v : ℕ} (h1 : Keeps s0 s) : Keeps s0 (s.audioWrite a v)
    := by
  unfold State.audioWrite
  extract_lets +onlyGivenNames x1
  clear_value x1
  split
  · exact State.sapPageWrite_keeps h1
  · exact State.spdPageWrite_keeps h1
  · exact State.ainPageWrite_keeps h1
  · exact State.wakePageWrite_keeps h1
  · exact State.hpoPageWrite_keeps h1
  · exact State.spkPageWrite_keeps h1
  · exact State.hkaPageWrite_keeps h1
  · exact State.detPageWrite_keeps h1
  · exact h1

theorem LoadAcc.fail_keeps {s0 : State} {a : LoadAcc} {r : Rec} (h1 : Keeps s0 a.st) : Keeps s0 (a.fail r).st := by
  unfold LoadAcc.fail
  exact h1

theorem LoadAcc.tileRec_keeps {s0 : State} {a : LoadAcc} {r : Rec} (h1 : Keeps s0 a.st) : Keeps s0 (a.tileRec r).st := by
  unfold LoadAcc.tileRec
  refine Keeps.iteSt ?_ ?_
  · exact LoadAcc.fail_keeps h1
  · dsimp only
    refine Keeps.foldl ?_ ?_
    · intro x1 x2 x3
      exact State.memPut_keeps x3
    · exact h1

theorem State.grant_keeps {s0 : State} {s : State} {w : ℕ} (h1 : Keeps s0 s) : Keeps s0 (s.grant w) := by
  unfold State.grant
  extract_lets +onlyGivenNames x1
  clear_value x1
  exact Keeps.same h1 rfl rfl rfl rfl

theorem LoadAcc.grantRec_keeps {s0 : State} {a : LoadAcc} {shelf : Option ℕ} {r : Rec} (h1 : Keeps s0 a.st) : Keeps s0
    (a.grantRec shelf r).st := by
  unfold LoadAcc.grantRec
  refine Keeps.iteSt ?_ ?_
  · exact LoadAcc.fail_keeps h1
  · extract_lets +onlyGivenNames x1
    clear_value x1
    dsimp only
    refine Keeps.foldl ?_ ?_
    · intro x2 x3 x4
      exact State.grant_keeps x4
    · exact h1

theorem LoadAcc.routeRec_keeps {s0 : State} {a : LoadAcc} {r : Rec} (h1 : Keeps s0 a.st) : Keeps s0 (a.routeRec r).st := by
  unfold LoadAcc.routeRec
  extract_lets +onlyGivenNames x1
  clear_value x1
  refine Keeps.iteSt ?_ ?_
  · exact LoadAcc.fail_keeps h1
  · exact h1

theorem State.portPair_keeps {s0 s t : State} {p : ℕ × ℕ} (e : s.portPair p = some t) (h : Keeps s0 s) : Keeps s0 t := by
  unfold State.portPair at e
  split at e
  · contradiction
  · dsimp only at e
    split at e
    · contradiction
    · injection e with e
      subst e
      exact State.audioWrite_keeps h

theorem LoadAcc.portRec_keeps {s0 : State} {a : LoadAcc} {r : Rec} (h1 : Keeps s0 a.st) : Keeps s0 (a.portRec r).st := by
  unfold LoadAcc.portRec
  refine Keeps.iteSt ?_ ?_
  · exact LoadAcc.fail_keeps h1
  · refine Keeps.foldlSt ?_ ?_
    · intro x1 x2 x3
      refine Keeps.iteSt ?_ ?_
      · exact x3
      · split
        · dsimp only
          refine State.portPair_keeps (by assumption) ?_
          exact x3
        · exact LoadAcc.fail_keeps x3
    · exact h1

theorem LoadAcc.bridgeRec_keeps {s0 : State} {a : LoadAcc} {r : Rec} (h1 : Keeps s0 a.st) : Keeps s0 (a.bridgeRec r).st
    := by
  unfold LoadAcc.bridgeRec
  refine Keeps.iteSt ?_ ?_
  · exact LoadAcc.fail_keeps h1
  · dsimp only
    refine Keeps.foldl ?_ ?_
    · intro x1 x2 x3
      exact State.put_keeps (State.putBrgCfg_keeps x3)
    · exact h1

theorem LoadAcc.clockRec_keeps {s0 : State} {a : LoadAcc} {r : Rec} (h1 : Keeps s0 a.st) : Keeps s0 (a.clockRec r).st := by
  unfold LoadAcc.clockRec
  extract_lets +onlyGivenNames x1
  clear_value x1
  extract_lets +onlyGivenNames x2
  clear_value x2
  refine Keeps.iteSt ?_ ?_
  · exact LoadAcc.fail_keeps h1
  · dsimp only
    exact State.put_keeps (clkDombCfgWrite_keeps h1)

theorem LoadAcc.ringRec_keeps {s0 : State} {a : LoadAcc} {r : Rec} (h1 : Keeps s0 a.st) : Keeps s0 (a.ringRec r).st := by
  unfold LoadAcc.ringRec
  extract_lets +onlyGivenNames x1
  clear_value x1
  refine Keeps.iteSt ?_ ?_
  · exact LoadAcc.fail_keeps h1
  · exact h1

theorem LoadAcc.bankRec_keeps {s0 : State} {a : LoadAcc} {r : Rec} (h1 : Keeps s0 a.st) : Keeps s0 (a.bankRec r).st := by
  unfold LoadAcc.bankRec
  refine Keeps.iteSt ?_ ?_
  · exact LoadAcc.fail_keeps h1
  · extract_lets +onlyGivenNames x1
    clear_value x1
    dsimp only
    refine Keeps.foldl ?_ ?_
    · intro x2 x3 x4
      exact State.bankWrite_keeps x4
    · exact h1

theorem LoadAcc.apply_keeps {s0 : State} {shelf : Option ℕ} {a : LoadAcc} {r : Rec} (h2 : Keeps s0 a.st) : Keeps s0
    (LoadAcc.apply shelf a r).st := by
  unfold LoadAcc.apply
  refine Keeps.iteSt ?_ ?_
  · exact h2
  · split
    · refine Keeps.iteSt ?_ ?_
      · exact h2
      · exact LoadAcc.tileRec_keeps h2
    · exact LoadAcc.grantRec_keeps h2
    · refine Keeps.iteSt ?_ ?_
      · exact h2
      · exact LoadAcc.routeRec_keeps h2
    · refine Keeps.iteSt ?_ ?_
      · exact h2
      · exact LoadAcc.portRec_keeps h2
    · refine Keeps.iteSt ?_ ?_
      · exact h2
      · exact LoadAcc.bridgeRec_keeps h2
    · refine Keeps.iteSt ?_ ?_
      · exact h2
      · exact LoadAcc.clockRec_keeps h2
    · refine Keeps.iteSt ?_ ?_
      · exact h2
      · exact LoadAcc.ringRec_keeps h2
    · refine Keeps.iteSt ?_ ?_
      · exact h2
      · exact LoadAcc.bankRec_keeps h2
    · exact LoadAcc.fail_keeps h2

theorem State.installXps_keeps {s0 s t : State} {m : SMap (ℕ × ℕ)} (e : s.installXps m = some t) (h : Keeps s0 s) :
    Keeps s0 t := by
  unfold State.installXps at e
  extract_lets edge at e
  generalize m.filter edge ++ m.filter (fun p => !edge p) = l at e
  have key : ∀ (acc : Option State), (∀ u, acc = some u → Keeps s0 u) → ∀ u, l.foldl (fun acc p =>
      match acc with
      | none => none
      | some s =>
        if ¬ s.lowOk p.1 p.2 then none
        else match s.xpDomain p.1 p.2 with
          | none => none
          | some dom =>
            let s' := s.setXp p.1 (Xp.installed p.2 dom)
            if ¬ xpLow p.2 ∧ (8 < s'.feeders (xpSnk p.2) ∨ s.reserveLimit < s'.reserved) then none else some s') acc = some u →
      Keeps s0 u := by
    clear e
    induction l with
    | nil => exact fun _ h => h
    | cons p l ih =>
      intro acc ha
      refine ih _ (fun u hu => ?_)
      dsimp only at hu
      split at hu
      · contradiction
      · split at hu
        · contradiction
        · split at hu
          · contradiction
          · split at hu
            · contradiction
            · cases hu
              exact State.setXp_keeps (ha _ rfl)
  exact key _ (fun u hu => by cases hu; exact h.same rfl rfl rfl rfl) t e

theorem State.setLoad_keeps {s0 : State} {s : State} {f : Load → Load} (h1 : Keeps s0 s) : Keeps s0 (s.setLoad f) := by
  unfold State.setLoad
  exact Keeps.same h1 rfl rfl rfl rfl

theorem State.setLend_keeps {s0 : State} {s : State} {u : ℕ} {f : Lend → Lend} (h1 : Keeps s0 s) : Keeps s0 (s.setLend u
    f) := by
  unfold State.setLend
  split
  · exact Keeps.same h1 rfl rfl rfl rfl
  · exact h1

theorem State.lendFail_keeps {s0 : State} {s : State} {u : ℕ} {reason : ℕ} (h1 : Keeps s0 s) : Keeps s0 (s.lendFail u
    reason) := by
  unfold State.lendFail
  exact State.post_keeps h1

theorem State.lendBegin_keeps {s0 : State} {s : State} {k : ℕ} {auto : Bool} {u : ℕ} (h1 : Keeps s0 s) : Keeps s0
    (s.lendBegin k auto u) := by
  unfold State.lendBegin
  extract_lets +onlyGivenNames x1
  clear_value x1
  extract_lets +onlyGivenNames x2
  have k2 : Keeps s0 x2 := by
    unfold x2
    exact Keeps.same h1 rfl rfl rfl rfl
  clear_value x2
  refine Keeps.ite ?_ ?_
  · refine Keeps.ite ?_ ?_
    · exact k2
    · exact State.lendFail_keeps k2
  · extract_lets +onlyGivenNames x3
    clear_value x3
    split
    · extract_lets +onlyGivenNames x4
      clear_value x4
      exact Keeps.same k2 rfl rfl rfl rfl
    · extract_lets +onlyGivenNames x5
      have k5 : Keeps s0 x5 := by
        unfold x5
        exact Keeps.same k2 rfl rfl rfl rfl
      clear_value x5
      refine Keeps.ite ?_ ?_
      · exact k5
      · exact State.post_keeps k5

theorem State.unitLoaded_keeps {s0 : State} {s : State} {kind : ℕ} {u : ℕ} {status : ℕ} {edition : ℕ} (h1 : Keeps s0 s)
    : Keeps s0 (s.unitLoaded kind u status edition) := by
  unfold State.unitLoaded
  extract_lets +onlyGivenNames x1
  have k1 : Keeps s0 x1 := State.put_keeps h1
  clear_value x1
  refine Keeps.ite ?_ ?_
  · exact k1
  · exact State.put_keeps (State.put_keeps k1)

theorem State.unitsLoaded_keeps {s0 : State} {s : State} {l : Load} {status : ℕ} (h1 : Keeps s0 s) : Keeps s0
    (s.unitsLoaded l status) := by
  unfold State.unitsLoaded
  refine Keeps.ite ?_ ?_
  · exact h1
  · refine Keeps.foldl ?_ ?_
    · intro x1 x2 x3
      unfold State.unitLoaded
      extract_lets +onlyGivenNames x4
      have k4 : Keeps s0 x4 := State.put_keeps x3
      clear_value x4
      refine Keeps.ite ?_ ?_
      · exact k4
      · exact State.put_keeps (State.put_keeps k4)
    · exact h1

theorem State.lendsEnd_keeps {s0 : State} {s : State} {cancelled : Bool} (h1 : Keeps s0 s) : Keeps s0 (s.lendsEnd
    cancelled) := by
  unfold State.lendsEnd
  exact Keeps.same h1 rfl rfl rfl rfl

theorem State.loadClear_keeps {s0 : State} {s : State} (h1 : Keeps s0 s) : Keeps s0 s.loadClear := by
  unfold State.loadClear
  exact Keeps.same h1 rfl rfl rfl rfl

theorem State.shelfEmpty_keeps {s0 : State} {s : State} {h : ℕ} (h1 : Keeps s0 s) : Keeps s0 (s.shelfEmpty h) := by
  unfold State.shelfEmpty
  extract_lets +onlyGivenNames x1
  have k1 : Keeps s0 x1 := by
    unfold x1
    refine Keeps.foldl ?_ ?_
    · intro x2 x3 x4
      exact State.setTile_keeps (State.put_keeps x4)
    · exact h1
  clear_value x1
  extract_lets +onlyGivenNames x5
  have k5 : Keeps s0 x5 := State.put_keeps k1
  clear_value x5
  exact Keeps.same k5 rfl rfl rfl rfl

theorem State.loadFinish_keeps {s0 : State} {s : State} {l : Load} {status : ℕ} {result : ℕ} (h1 : Keeps s0 s) : Keeps
    s0 (s.loadFinish l status result) := by
  unfold State.loadFinish
  extract_lets +onlyGivenNames x1
  have k1 : Keeps s0 x1 := State.loadClear_keeps h1
  clear_value x1
  split
  · exact State.finish_keeps k1
  · exact k1

theorem State.loadBegin_keeps {s0 : State} {s : State} {l : Load} (h1 : Keeps s0 s) : Keeps s0 (s.loadBegin l) := by
  unfold State.loadBegin
  extract_lets +onlyGivenNames x1
  clear_value x1
  extract_lets +onlyGivenNames x2
  have k2 : Keeps s0 x2 := by
    unfold x2
    exact Keeps.same h1 rfl rfl rfl rfl
  clear_value x2
  refine Keeps.foldl ?_ ?_
  · intro x3 x4 x5
    exact State.lendBegin_keeps x5
  · exact k2

theorem State.farLoadEnd_keeps {s0 : State} {s : State} {l : Load} {cancelled : Bool} (h1 : Keeps s0 s) : Keeps s0
    (s.farLoadEnd l cancelled) := by
  unfold State.farLoadEnd
  extract_lets +onlyGivenNames x1
  have k1 : Keeps s0 x1 := by
    unfold x1
    refine Keeps.ite ?_ ?_
    · exact State.put_keeps (State.put_keeps h1)
    · refine Keeps.ite ?_ ?_
      · exact State.shelfEmpty_keeps h1
      · exact h1
  clear_value x1
  extract_lets +onlyGivenNames x2
  have k2 : Keeps s0 x2 := State.loadClear_keeps k1
  clear_value x2
  exact Keeps.same k2 rfl rfl rfl rfl

theorem State.farLoadStop_keeps {s0 : State} {s : State} {cancelled : Bool} (h1 : Keeps s0 s) : Keeps s0 (s.farLoadStop
    cancelled) := by
  unfold State.farLoadStop
  split
  · refine Keeps.ite ?_ ?_
    · exact h1
    · refine Keeps.ite ?_ ?_
      · exact State.setLoad_keeps h1
      · exact State.farLoadEnd_keeps h1
  · exact h1

theorem State.bootBegin_keeps {s0 : State} {s : State} {k : ℕ} (h1 : Keeps s0 s) : Keeps s0 (s.bootBegin k) := by
  unfold State.bootBegin
  extract_lets +onlyGivenNames x1
  have k1 : Keeps s0 x1 := State.put_keeps h1
  clear_value x1
  extract_lets +onlyGivenNames x2
  have k2 : Keeps s0 x2 := by
    unfold x2
    with_reducible apply State.post_keeps
    exact Keeps.same k1 rfl rfl rfl rfl
  clear_value x2
  exact State.loadBegin_keeps k2

theorem bootLoad_keeps {s0 : State} {s : State} (h1 : Keeps s0 s) : Keeps s0 (bootLoad s) := by
  unfold bootLoad
  split
  · refine Keeps.ite ?_ ?_
    · exact State.bootBegin_keeps h1
    · exact h1
  · exact h1

theorem State.loadFail_keeps {s0 : State} {s : State} {l : Load} {status : ℕ} {off : ℕ} (h1 : Keeps s0 s) : Keeps s0
    (s.loadFail l status off) := by
  unfold State.loadFail
  extract_lets +onlyGivenNames x1
  have k1 : Keeps s0 x1 := by
    unfold x1
    refine Keeps.ite ?_ ?_
    · exact h1
    · with_reducible apply State.post_keeps
      refine Keeps.ite ?_ ?_
      · exact State.put_keeps h1
      · exact h1
  clear_value x1
  refine Keeps.ite ?_ ?_
  · extract_lets +onlyGivenNames x2
    have k2 : Keeps s0 x2 := by
      unfold x2
      refine Keeps.ite ?_ ?_
      · exact State.put_keeps k1
      · exact k1
    clear_value x2
    exact State.setLoad_keeps k2
  · extract_lets +onlyGivenNames x3
    have k3 : Keeps s0 x3 := State.lendsEnd_keeps (State.unitsLoaded_keeps (State.setReason_keeps k1))
    clear_value x3
    refine Keeps.ite ?_ ?_
    · extract_lets +onlyGivenNames x4
      have k4 : Keeps s0 x4 := State.loadClear_keeps k3
      clear_value x4
      split
      · exact State.bootBegin_keeps k4
      · exact State.bootEmpty_keeps k4
    · exact State.loadFinish_keeps k3

theorem State.codexSource_keeps {s0 : State} {s : State} {src : ℕ} (h1 : Keeps s0 s) : Keeps s0 (s.codexSource src).2 := by
  unfold State.codexSource
  refine Keeps.ite2 ?_ ?_
  · extract_lets +onlyGivenNames x1
    have k1 : Keeps s0 x1 := State.classifySlots_keeps h1
    clear_value x1
    exact k1
  · extract_lets +onlyGivenNames x2
    have k2 : Keeps s0 x2 := State.classifySlots_keeps h1
    clear_value x2
    exact k2

theorem State.codexStart_keeps {s0 : State} {s : State} {r : ℕ} {kind : ℕ} {busy : ℕ} {low : ℕ} {ws : List ℕ} (h1 :
    Keeps s0 s) : Keeps s0 (s.codexStart r kind busy low ws) := by
  unfold State.codexStart
  extract_lets +onlyGivenNames x1
  clear_value x1
  extract_lets +onlyGivenNames x2
  clear_value x2
  refine Keeps.ite ?_ ?_
  · exact State.finish_keeps h1
  · refine Keeps.ite ?_ ?_
    · exact State.finish_keeps h1
    · refine Keeps.ite ?_ ?_
      · exact State.finish_keeps h1
      · refine Keeps.ite ?_ ?_
        · exact State.finish_keeps h1
        · extract_lets +onlyGivenNames x3
          have k3 : Keeps s0 x3.2 := State.codexSource_keeps h1
          clear_value x3
          split
          · exact State.finish_keeps k3
          · split
            · exact State.finish_keeps k3
            · exact State.loadBegin_keeps k3

theorem codexLoad_keeps {s0 : State} {r : ℕ} {busy : ℕ} {low : ℕ} {s : State} (h4 : Keeps s0 s) : Keeps s0 (codexLoad r
    busy low s) := by
  unfold codexLoad
  with_reducible apply State.command_keeps
  · exact h4
  · intro x1 x2 x3 x4
    exact State.codexStart_keeps x4

theorem codexLoadVerify_keeps {s0 : State} {r : ℕ} {busy : ℕ} {low : ℕ} {s : State} (h4 : Keeps s0 s) : Keeps s0
    (codexLoadVerify r busy low s) := by
  unfold codexLoadVerify
  with_reducible apply State.command_keeps
  · exact h4
  · intro x1 x2 x3 x4
    exact State.codexStart_keeps x4

theorem codexLoadShelf_keeps {s0 : State} {r : ℕ} {busy : ℕ} {low : ℕ} {s : State} (h4 : Keeps s0 s) : Keeps s0
    (codexLoadShelf r busy low s) := by
  unfold codexLoadShelf
  with_reducible apply State.command_keeps
  · exact h4
  · intro x1 x2 x3 x4
    exact State.codexStart_keeps x4

theorem State.dropParams_keeps {s0 : State} {s : State} {h : ℕ} (h1 : Keeps s0 s) : Keeps s0 (s.dropParams h) := by
  unfold State.dropParams
  extract_lets +onlyGivenNames x1
  clear_value x1
  split
  · exact h1
  · extract_lets +onlyGivenNames x2
    have k2 : Keeps s0 x2 := State.paramDrop_keeps (State.setShelfQueue_keeps h1)
    clear_value x2
    extract_lets +onlyGivenNames x3
    have k3 : Keeps s0 x3 := by
      unfold x3
      refine Keeps.foldl ?_ ?_
      · intro x4 x5 x6
        exact State.setTile_keeps x6
      · exact k2
    clear_value x3
    refine Keeps.foldl ?_ ?_
    · intro x7 x8 x9
      exact State.paramDone_keeps x9
    · exact k3

theorem State.dropGroups_keeps {s0 : State} {s : State} {p : Group → Bool} (h1 : Keeps s0 s) : Keeps s0 (s.dropGroups p)
    := by
  unfold State.dropGroups
  extract_lets +onlyGivenNames x1
  clear_value x1
  refine Keeps.foldl ?_ ?_
  · intro x2 x3 x4
    exact State.finish_keeps x4
  · exact Keeps.same h1 rfl rfl rfl rfl

theorem State.teardown_keeps {s0 : State} {s : State} (h1 : Keeps s0 s) : Keeps s0 s.teardown := by
  unfold State.teardown
  extract_lets +onlyGivenNames x1
  have k1 : Keeps s0 x1 := by
    unfold x1
    refine Keeps.foldl ?_ ?_
    · intro x2 x3 x4
      exact State.dropParams_keeps x4
    · exact Keeps.same h1 rfl rfl rfl rfl
  clear_value x1
  extract_lets +onlyGivenNames x5
  have k5 : Keeps s0 x5 := State.dropGroups_keeps k1
  clear_value x5
  extract_lets +onlyGivenNames x6
  have k6 : Keeps s0 x6 := by
    unfold x6
    refine Keeps.foldl ?_ ?_
    · intro x7 x8 x9
      exact State.put_keeps x9
    · exact k5
  clear_value x6
  extract_lets +onlyGivenNames x10
  have k10 : Keeps s0 x10 := by
    unfold x10
    exact Keeps.same k6 rfl rfl rfl rfl
  clear_value x10
  extract_lets +onlyGivenNames x11
  have k11 : Keeps s0 x11 := by
    unfold x11
    with_reducible apply State.portsSleep_keeps
    refine Keeps.foldl ?_ ?_
    · intro x12 x13 x14
      exact State.brgOff_keeps x14
    · exact k10
  clear_value x11
  exact State.put_keeps (State.put_keeps (State.put_keeps k11))

theorem loadTeardown_keeps {s0 : State} {s : State} (h1 : Keeps s0 s) : Keeps s0 (loadTeardown s) := by
  unfold loadTeardown
  split
  · refine Keeps.ite ?_ ?_
    · extract_lets +onlyGivenNames x1
      have k1 : Keeps s0 x1 := State.teardown_keeps h1
      clear_value x1
      refine Keeps.ite ?_ ?_
      · exact State.farLoadEnd_keeps k1
      · refine Keeps.ite ?_ ?_
        · exact State.loadFinish_keeps (State.lendsEnd_keeps (State.put_keeps k1))
        · exact State.setLoad_keeps k1
    · exact h1
  · exact h1

theorem State.shelfStopTile_keeps {s0 : State} {s : State} {t : ℕ} (h1 : Keeps s0 s) : Keeps s0 (s.shelfStopTile t) := by
  unfold State.shelfStopTile
  refine Keeps.ite ?_ ?_
  · exact h1
  · extract_lets +onlyGivenNames x1
    clear_value x1
    extract_lets +onlyGivenNames x2
    have k2 : Keeps s0 x2 := State.landLate_keeps (State.setTile_keeps h1)
    clear_value x2
    exact State.put_keeps k2

theorem shelfStop_keeps {s0 : State} {s : State} (h1 : Keeps s0 s) : Keeps s0 (shelfStop s) := by
  unfold shelfStop
  split
  · refine Keeps.ite ?_ ?_
    · exact h1
    · extract_lets +onlyGivenNames x1
      have k1 : Keeps s0 x1 := by
        unfold x1
        refine Keeps.foldl ?_ ?_
        · intro x2 x3 x4
          exact State.shelfStopTile_keeps x4
        · exact h1
      clear_value x1
      extract_lets +onlyGivenNames x5
      have k5 : Keeps s0 x5 := by
        unfold x5
        with_reducible apply State.dropParams_keeps
        exact Keeps.same k1 rfl rfl rfl rfl
      clear_value x5
      exact State.setLoad_keeps (State.put_keeps k5)
  · exact h1

theorem State.setRateA_keeps {s0 : State} {s : State} {r : ℕ} (h1 : Keeps s0 s) : Keeps s0 (s.setRateA r) := by
  unfold State.setRateA
  refine Keeps.ite ?_ ?_
  · exact h1
  · extract_lets +onlyGivenNames x1
    have k1 : Keeps s0 x1 := State.put_keeps h1
    clear_value x1
    extract_lets +onlyGivenNames x2
    have k2 : Keeps s0 x2 := State.setLevel_keeps k1
    clear_value x2
    refine Keeps.foldl ?_ ?_
    · intro x3 x4 x5
      refine Keeps.ite ?_ ?_
      · exact x5
      · exact State.setAin_keeps (State.ainOff_keeps x5)
    · exact k2

theorem State.writeFull_keeps {s0 : State} {s : State} {l : Load} {rs : List Rec} (h1 : Keeps s0 s) : Keeps s0
    (s.writeFull l rs).1 := by
  unfold State.writeFull
  extract_lets +onlyGivenNames x1
  have k1 : Keeps s0 x1 := State.defaultFrames_keeps (State.setRateA_keeps h1)
  clear_value x1
  extract_lets +onlyGivenNames x2
  have k2 : Keeps s0 x2.st := by
    unfold x2
    refine Keeps.foldlSt ?_ ?_
    · intro x3 x4 x5
      exact LoadAcc.apply_keeps x5
    · exact k1
  clear_value x2
  split
  · exact k2
  · refine Keeps.ite1 ?_ ?_
    · exact k2
    · split
      · exact k2
      · refine Keeps.mk1 ?_
        exact State.setLoad_keeps k2

theorem State.writeShelf_keeps {s0 : State} {s : State} {l : Load} {rs : List Rec} (h1 : Keeps s0 s) : Keeps s0
    (s.writeShelf l rs).1 := by
  unfold State.writeShelf
  extract_lets +onlyGivenNames x1
  clear_value x1
  extract_lets +onlyGivenNames x2
  clear_value x2
  extract_lets +onlyGivenNames x3
  have k3 : Keeps s0 x3 := State.defaultFrames_keeps h1
  clear_value x3
  extract_lets +onlyGivenNames x4
  have k4 : Keeps s0 x4 := by
    unfold x4
    exact Keeps.same k3 rfl rfl rfl rfl
  clear_value x4
  extract_lets +onlyGivenNames x5
  have k5 : Keeps s0 x5.st := by
    unfold x5
    refine Keeps.foldlSt ?_ ?_
    · intro x6 x7 x8
      exact LoadAcc.apply_keeps x8
    · exact k4
  clear_value x5
  split
  · exact k5
  · refine Keeps.ite1 ?_ ?_
    · exact k5
    · refine Keeps.mk1 ?_
      exact State.setLoad_keeps k5

theorem State.shelfRest_keeps {s0 : State} {s : State} {h : ℕ} (h1 : Keeps s0 s) : Keeps s0 (s.shelfRest h) := by
  unfold State.shelfRest
  extract_lets +onlyGivenNames x1
  clear_value x1
  refine Keeps.foldl ?_ ?_
  · intro x2 x3 x4
    refine Keeps.ite ?_ ?_
    · exact x4
    · exact State.put_keeps x4
  · exact h1

theorem State.loadCommit_keeps {s0 : State} {s : State} {l : Load} (h1 : Keeps s0 s) : Keeps s0 (s.loadCommit l) := by
  unfold State.loadCommit
  split
  · exact State.setExec_keeps h1
  · exact h1

theorem State.loadSettle_keeps {s0 : State} {s : State} (h1 : Keeps s0 s) : Keeps s0 s.loadSettle := by
  unfold State.loadSettle
  split
  · refine Keeps.ite ?_ ?_
    · exact h1
    · extract_lets +onlyGivenNames x1
      have k1 : Keeps s0 x1 := State.loadCommit_keeps (State.setReason_keeps h1)
      clear_value x1
      refine Keeps.ite ?_ ?_
      · exact State.loadFinish_keeps k1
      · extract_lets +onlyGivenNames x2
        clear_value x2
        extract_lets +onlyGivenNames x3
        clear_value x3
        extract_lets +onlyGivenNames x4
        clear_value x4
        exact State.setChain_keeps (State.setLoad_keeps k1)
  · exact h1

theorem State.loadPassed_keeps {s0 : State} {s : State} (h1 : Keeps s0 s) : Keeps s0 s.loadPassed := by
  unfold State.loadPassed
  extract_lets +onlyGivenNames x1
  have k1 : Keeps s0 x1 := State.setLoad_keeps h1
  clear_value x1
  refine Keeps.ite ?_ ?_
  · exact State.loadSettle_keeps k1
  · exact k1

theorem loadVerifyEnd_keeps {s0 : State} {s : State} (h1 : Keeps s0 s) : Keeps s0 (loadVerifyEnd s) := by
  unfold loadVerifyEnd
  split
  · exact h1
  · extract_lets +onlyGivenNames x1
    clear_value x1
    extract_lets +onlyGivenNames x2
    clear_value x2
    refine Keeps.ite ?_ ?_
    · exact h1
    · refine Keeps.ite ?_ ?_
      · exact State.loadFail_keeps h1
      · split
        · extract_lets +onlyGivenNames x3
          have k3 : Keeps s0 x3.1 := by
            unfold x3
            refine Keeps.ite1 ?_ ?_
            · exact State.writeFull_keeps h1
            · exact h1
          clear_value x3
          split
          · exact State.loadFail_keeps k3
          · exact State.loadFail_keeps k3
          · exact State.loadPassed_keeps k3
        · split
          · exact State.loadFail_keeps h1
          · exact State.loadFail_keeps h1
          · refine Keeps.ite ?_ ?_
            · exact State.setLoad_keeps h1
            · exact State.loadPassed_keeps h1
        · extract_lets +onlyGivenNames x4
          have k4 : Keeps s0 x4.1 := State.writeShelf_keeps h1
          clear_value x4
          split
          · exact State.loadPassed_keeps (State.shelfRest_keeps k4)
          · exact State.loadFail_keeps (State.shelfEmpty_keeps k4)
        · split
          · exact State.loadFail_keeps h1
          · exact State.loadFail_keeps h1
          · exact State.loadPassed_keeps h1
        · exact h1

theorem State.tileReady_keeps {s0 : State} {s : State} {t : ℕ} (h1 : Keeps s0 s) : Keeps s0 (s.tileReady t) := by
  unfold State.tileReady
  extract_lets +onlyGivenNames x1
  clear_value x1
  extract_lets +onlyGivenNames x2
  clear_value x2
  extract_lets +onlyGivenNames x3
  have k3 : Keeps s0 x3 := State.setTile_keeps h1
  clear_value x3
  extract_lets +onlyGivenNames x4
  have k4 : Keeps s0 x4 := by
    unfold x4
    refine Keeps.foldl ?_ ?_
    · intro x5 x6 x7
      exact State.initSec_keeps x7
    · exact k3
  clear_value x4
  exact State.put_keeps (State.put_keeps (State.put_keeps k4))

theorem State.startFull_keeps {s0 : State} {s : State} {l : Load} (h1 : Keeps s0 s) : Keeps s0 (s.startFull l) := by
  unfold State.startFull
  extract_lets +onlyGivenNames x1
  have k1 : Keeps s0 x1 := by
    unfold x1
    refine Keeps.foldl ?_ ?_
    · intro x2 x3 x4
      exact State.tileReady_keeps x4
    · exact State.ramZero_keeps h1
  clear_value x1
  extract_lets +onlyGivenNames x5
  have k5 : Keeps s0 x5 := by
    unfold x5
    exact Keeps.same k1 rfl rfl rfl rfl
  clear_value x5
  extract_lets +onlyGivenNames x6
  have k6 : Keeps s0 x6 := by
    unfold x6
    refine Keeps.foldl ?_ ?_
    · intro x7 x8 x9
      exact ringCfgWrite_keeps x9
    · exact k5
  clear_value x6
  extract_lets +onlyGivenNames x10
  have k10 : Keeps s0 x10 := State.portsWake_keeps k6
  clear_value x10
  extract_lets +onlyGivenNames x11
  have k11 : Keeps s0 x11 := by
    unfold x11
    with_reducible apply State.spdBoundary_keeps
    refine Keeps.foldl ?_ ?_
    · intro x12 x13 x14
      exact State.portBoundary_keeps x14
    · exact k10
  clear_value x11
  extract_lets +onlyGivenNames x15
  have k15 : Keeps s0 x15 := by
    unfold x15
    refine Keeps.foldl ?_ ?_
    · intro x16 x17 x18
      exact State.brgEnable_keeps x18
    · exact k11
  clear_value x15
  extract_lets +onlyGivenNames x19
  have k19 : Keeps s0 x19 := State.put_keeps (State.put_keeps k15)
  clear_value x19
  extract_lets +onlyGivenNames x20
  have k20 : Keeps s0 x20 := by
    unfold x20
    refine Keeps.ite ?_ ?_
    · exact State.put_keeps k19
    · exact k19
  clear_value x20
  extract_lets +onlyGivenNames x21
  have k21 : Keeps s0 x21 := State.put_keeps (State.put_keeps (State.put_keeps k20))
  clear_value x21
  exact State.modelCheck_keeps (State.post_keeps k21)

theorem State.startShelf_keeps {s0 : State} {s : State} {l : Load} (h1 : Keeps s0 s) : Keeps s0 (s.startShelf l) := by
  unfold State.startShelf
  extract_lets +onlyGivenNames x1
  clear_value x1
  extract_lets +onlyGivenNames x2
  have k2 : Keeps s0 x2 := by
    unfold x2
    refine Keeps.foldl ?_ ?_
    · intro x3 x4 x5
      exact State.setTile_keeps (State.put_keeps x5)
    · exact h1
  clear_value x2
  extract_lets +onlyGivenNames x6
  have k6 : Keeps s0 x6 := by
    unfold x6
    refine Keeps.foldl ?_ ?_
    · intro x7 x8 x9
      exact State.tileReady_keeps x9
    · exact State.ramZero_keeps k2
  clear_value x6
  extract_lets +onlyGivenNames x10
  have k10 : Keeps s0 x10 := by
    unfold x10
    with_reducible apply State.put_keeps
    with_reducible apply State.put_keeps
    with_reducible apply State.put_keeps
    exact Keeps.same k6 rfl rfl rfl rfl
  clear_value x10
  exact State.modelCheck_keeps (State.post_keeps k10)

theorem State.lendsLoaded_keeps {s0 : State} {s : State} {l : Load} (h1 : Keeps s0 s) : Keeps s0 (s.lendsLoaded l) := by
  unfold State.lendsLoaded
  refine Keeps.foldl ?_ ?_
  · intro x1 x2 x3
    split
    · exact State.unitLoaded_keeps x3
    · exact x3
  · exact h1

theorem State.loadStartOwn_keeps {s0 : State} {s : State} {l : Load} (h1 : Keeps s0 s) : Keeps s0 (s.loadStartOwn l) := by
  unfold State.loadStartOwn
  extract_lets +onlyGivenNames x1
  clear_value x1
  extract_lets +onlyGivenNames x2
  clear_value x2
  extract_lets +onlyGivenNames x3
  clear_value x3
  extract_lets +onlyGivenNames x4
  have k4 : Keeps s0 x4 := by
    unfold x4
    refine Keeps.ite ?_ ?_
    · refine Keeps.ite ?_ ?_
      · exact State.startShelf_keeps h1
      · refine Keeps.ite ?_ ?_
        · exact State.startFull_keeps h1
        · exact h1
    · exact h1
  clear_value x4
  refine Keeps.ite ?_ ?_
  · extract_lets +onlyGivenNames x5
    have k5 : Keeps s0 x5 := by
      unfold x5
      refine Keeps.ite ?_ ?_
      · exact State.put_keeps k4
      · exact k4
    clear_value x5
    extract_lets +onlyGivenNames x6
    have k6 : Keeps s0 x6 := State.loadClear_keeps k5
    clear_value x6
    exact Keeps.same k6 rfl rfl rfl rfl
  · extract_lets +onlyGivenNames x7
    have k7 : Keeps s0 x7 := by
      unfold x7
      refine Keeps.ite ?_ ?_
      · exact State.unitLoaded_keeps k4
      · exact k4
    clear_value x7
    extract_lets +onlyGivenNames x8
    have k8 : Keeps s0 x8 := State.lendsLoaded_keeps k7
    clear_value x8
    extract_lets +onlyGivenNames x9
    clear_value x9
    refine Keeps.ite ?_ ?_
    · exact State.bootDone_keeps (State.loadClear_keeps k8)
    · exact State.loadFinish_keeps k8

theorem State.autoStarts_keeps {s0 : State} {s : State} (h1 : Keeps s0 s) : Keeps s0 s.autoStarts := by
  unfold State.autoStarts
  refine Keeps.foldl ?_ ?_
  · intro x1 x2 x3
    split
    · refine Keeps.ite ?_ ?_
      · exact x3
      · extract_lets +onlyGivenNames x4
        have k4 : Keeps s0 x4 := State.unitLoaded_keeps x3
        clear_value x4
        exact Keeps.same k4 rfl rfl rfl rfl
    · exact x3
  · exact h1

theorem loadStart_keeps {s0 : State} {s : State} (h1 : Keeps s0 s) : Keeps s0 (loadStart s) := by
  unfold loadStart
  extract_lets +onlyGivenNames x1
  have k1 : Keeps s0 x1 := State.autoStarts_keeps h1
  clear_value x1
  split
  · split
    · refine Keeps.ite ?_ ?_
      · exact State.setChain_keeps (State.loadStartOwn_keeps k1)
      · exact k1
    · exact k1
  · exact k1

theorem State.loadFromHead_keeps {s0 : State} {s : State} {f : ℕ} (h1 : Keeps s0 s) : Keeps s0 (s.loadFromHead f) := by
  unfold State.loadFromHead
  split
  · refine Keeps.ite ?_ ?_
    · exact h1
    · refine Keeps.ite ?_ ?_
      · exact State.setLoad_keeps h1
      · extract_lets +onlyGivenNames x1
        have k1 : Keeps s0 x1 := State.loadClear_keeps h1
        clear_value x1
        exact Keeps.same k1 rfl rfl rfl rfl
  · exact h1

theorem State.lendFirst_keeps {s0 : State} {s : State} {ws : List ℕ} {scope : LendScope} (h1 : Keeps s0 s) : Keeps s0
    (s.lendFirst ws scope) := by
  unfold State.lendFirst
  extract_lets +onlyGivenNames x1
  clear_value x1
  extract_lets +onlyGivenNames x2
  clear_value x2
  extract_lets +onlyGivenNames x3
  clear_value x3
  extract_lets +onlyGivenNames x4
  clear_value x4
  extract_lets +onlyGivenNames x5
  have k5 : Keeps s0 x5 := by
    unfold x5
    exact Keeps.same h1 rfl rfl rfl rfl
  clear_value x5
  split
  · refine Keeps.ite ?_ ?_
    · exact State.setLoad_keeps k5
    · exact Keeps.same k5 rfl rfl rfl rfl
  · exact Keeps.same k5 rfl rfl rfl rfl

theorem State.lendRelayIn_keeps {s0 : State} {s : State} {hdr : ℕ} {ws : List ℕ} (h1 : Keeps s0 s) : Keeps s0
    (s.lendRelayIn hdr ws) := by
  unfold State.lendRelayIn
  refine Keeps.ite ?_ ?_
  · exact h1
  · extract_lets +onlyGivenNames x1
    have k1 : Keeps s0 x1 := by
      unfold x1
      exact Keeps.same h1 rfl rfl rfl rfl
    refine Keeps.ite ?_ ?_
    · exact k1
    · refine Keeps.foldl ?_ ?_
      · intro x2 x3 x4
        refine Keeps.ite ?_ ?_
        · exact x4
        · exact Keeps.same x4 rfl rfl rfl rfl
      · exact k1

theorem lendChunk_keeps {s0 : State} {hdr : ℕ} {ws : List ℕ} {scope : LendScope} {s : State} (h4 : Keeps s0 s) : Keeps
    s0 (lendChunk hdr ws scope s) := by
  unfold lendChunk
  extract_lets +onlyGivenNames x1
  clear_value x1
  refine Keeps.ite ?_ ?_
  · exact h4
  · refine Keeps.ite ?_ ?_
    · exact State.lendRelayIn_keeps h4
    · refine Keeps.ite ?_ ?_
      · exact State.farLoadStop_keeps h4
      · refine Keeps.ite ?_ ?_
        · exact State.lendFirst_keeps h4
        · refine Keeps.ite ?_ ?_
          · exact Keeps.same h4 rfl rfl rfl rfl
          · refine Keeps.ite ?_ ?_
            · exact Keeps.same h4 rfl rfl rfl rfl
            · exact h4

theorem lendNak_keeps {s0 : State} {u : ℕ} {offset : ℕ} {s : State} (h3 : Keeps s0 s) : Keeps s0 (lendNak u offset s) := by
  unfold lendNak
  exact State.setLend_keeps h3

theorem lendPause_keeps {s0 : State} {u : ℕ} {s : State} (h2 : Keeps s0 s) : Keeps s0 (lendPause u s) := by
  unfold lendPause
  exact State.setLend_keeps h2

theorem lendResume_keeps {s0 : State} {u : ℕ} {s : State} (h2 : Keeps s0 s) : Keeps s0 (lendResume u s) := by
  unfold lendResume
  exact State.setLend_keeps h2

theorem State.lendSettled_keeps {s0 : State} {s : State} {u : ℕ} {status : ℕ} (h1 : Keeps s0 s) : Keeps s0
    (s.lendSettled u status) := by
  unfold State.lendSettled
  extract_lets +onlyGivenNames x1
  have k1 : Keeps s0 x1 := State.setLend_keeps h1
  clear_value x1
  split
  · exact k1
  · refine Keeps.ite ?_ ?_
    · exact State.loadSettle_keeps k1
    · refine Keeps.ite ?_ ?_
      · extract_lets +onlyGivenNames x2
        clear_value x2
        exact State.setChain_keeps (State.setLend_keeps k1)
      · extract_lets +onlyGivenNames x3
        have k3 : Keeps s0 x3 := State.unitLoaded_keeps k1
        clear_value x3
        exact Keeps.same k3 rfl rfl rfl rfl

theorem State.lendFailed_keeps {s0 : State} {s : State} {l : Lend} {u : ℕ} {reason : ℕ} (h1 : Keeps s0 s) : Keeps s0
    (s.lendFailed l u reason) := by
  unfold State.lendFailed
  refine Keeps.ite ?_ ?_
  · exact h1
  · exact State.lendFail_keeps h1

theorem lendDone_keeps {s0 : State} {u : ℕ} {status : ℕ} {s : State} (h3 : Keeps s0 s) : Keeps s0 (lendDone u status s)
    := by
  unfold lendDone
  split
  · exact h3
  · refine Keeps.ite ?_ ?_
    · exact h3
    · refine Keeps.ite ?_ ?_
      · refine Keeps.ite ?_ ?_
        · exact State.lendSettled_keeps (State.lendFailed_keeps h3)
        · exact State.setLend_keeps h3
      · exact State.lendSettled_keeps h3

theorem State.lendLost_keeps {s0 : State} {s : State} {u : ℕ} (h1 : Keeps s0 s) : Keeps s0 (s.lendLost u) := by
  unfold State.lendLost
  split
  · refine Keeps.ite ?_ ?_
    · exact h1
    · exact State.lendSettled_keeps (State.lendFailed_keeps h1)
  · exact h1

theorem autoLend_keeps {s0 : State} {u : ℕ} {s : State} (h2 : Keeps s0 s) : Keeps s0 (autoLend u s) := by
  unfold autoLend
  refine Keeps.ite ?_ ?_
  · exact State.lendBegin_keeps h2
  · exact h2

theorem slotErase_keeps {s0 : State} {r : ℕ} {busy : Option ℕ} {s : State} (h3 : Keeps s0 s) : Keeps s0 (slotErase r
    busy s) := by
  unfold slotErase
  with_reducible apply State.command_keeps
  · exact h3
  · intro x1 x2 x3 x4
    extract_lets +onlyGivenNames x5
    clear_value x5
    split
    · exact State.finish_keeps x4
    · split
      · refine Keeps.ite ?_ ?_
        · exact State.finish_keeps (State.flashFree_keeps (State.flashErase_keeps x4))
        · exact State.finish_keeps (State.flashErase_keeps x4)
      · exact State.finish_keeps (State.flashErase_keeps x4)

theorem slotWrite_keeps {s0 : State} {r : ℕ} {busy : Option ℕ} {s : State} (h3 : Keeps s0 s) : Keeps s0 (slotWrite r
    busy s) := by
  unfold slotWrite
  with_reducible apply State.command_keeps
  · exact h3
  · intro x1 x2 x3 x4
    extract_lets +onlyGivenNames x5
    clear_value x5
    extract_lets +onlyGivenNames x6
    clear_value x6
    extract_lets +onlyGivenNames x7
    clear_value x7
    extract_lets +onlyGivenNames x8
    clear_value x8
    extract_lets +onlyGivenNames x9
    clear_value x9
    refine Keeps.ite ?_ ?_
    · exact State.finish_keeps x4
    · split
      · exact State.finish_keeps x4
      · extract_lets +onlyGivenNames x10
        have k10 : Keeps s0 x10.2 := State.read6s_keeps x4
        clear_value x10
        refine Keeps.ite ?_ ?_
        · exact State.finish_keeps k10
        · extract_lets +onlyGivenNames x11
          clear_value x11
          extract_lets +onlyGivenNames x12
          split
          · refine Keeps.ite ?_ ?_
            · extract_lets +onlyGivenNames x13
              have k13 : Keeps s0 x13 := by
                unfold x13
                refine Keeps.foldl ?_ ?_
                · intro x14 x15 x16
                  exact State.flashProgram_keeps x16
                · exact k10
              clear_value x13
              with_reducible apply State.finish_keeps
              refine Keeps.foldl ?_ ?_
              · intro x17 x18 x19
                exact State.flashStuck_keeps x19
              · exact k13
            · with_reducible apply State.finish_keeps
              refine Keeps.foldl ?_ ?_
              · intro x20 x21 x22
                exact State.flashProgram_keeps x22
              · exact k10
          · with_reducible apply State.finish_keeps
            refine Keeps.foldl ?_ ?_
            · intro x23 x24 x25
              exact State.flashProgram_keeps x25
            · exact k10

theorem State.commit_keeps {s0 : State} {s : State} {k : ℕ} {v : ℕ} {busy : Bool} (h1 : Keeps s0 s) : Keeps s0 (s.commit
    k v busy) := by
  unfold State.commit
  refine Keeps.foldl ?_ ?_
  · intro x1 x2 x3
    split
    · exact State.flashStuck_keeps x3
    · exact State.flashProgram_keeps x3
  · exact h1

theorem slotCommit_keeps {s0 : State} {r : ℕ} {busy : Bool} {s : State} (h3 : Keeps s0 s) : Keeps s0 (slotCommit r busy
    s) := by
  unfold slotCommit
  with_reducible apply State.command_keeps
  · exact h3
  · intro x1 x2 x3 x4
    extract_lets +onlyGivenNames x5
    clear_value x5
    split
    · exact State.finish_keeps x4
    · refine Keeps.ite ?_ ?_
      · exact State.finish_keeps x4
      · refine Keeps.ite ?_ ?_
        · exact State.finish_keeps x4
        · exact State.finish_keeps (State.commit_keeps x4)

theorem slotRevoke_keeps {s0 : State} {r : ℕ} {busy : Bool} {s : State} (h3 : Keeps s0 s) : Keeps s0 (slotRevoke r busy
    s) := by
  unfold slotRevoke
  with_reducible apply State.command_keeps
  · exact h3
  · intro x1 x2 x3 x4
    extract_lets +onlyGivenNames x5
    clear_value x5
    split
    · exact State.finish_keeps x4
    · exact State.finish_keeps (State.commit_keeps x4)

theorem linkDetect_keeps {s0 : State} {p : ℕ} {s : State} (h2 : Keeps s0 s) : Keeps s0 (linkDetect p s) := by
  unfold linkDetect
  refine Keeps.ite ?_ ?_
  · exact h2
  · extract_lets +onlyGivenNames x1
    have k1 : Keeps s0 x1 := by
      unfold x1
      refine Keeps.ite ?_ ?_
      · exact State.wakeBy_keeps h2
      · exact h2
    clear_value x1
    refine Keeps.ite ?_ ?_
    · exact k1
    · refine Keeps.ite ?_ ?_
      · exact State.put_keeps (State.put_keeps k1)
      · refine Keeps.ite ?_ ?_
        · exact State.put_keeps k1
        · exact k1

theorem State.dealStart_keeps {s0 : State} {s : State} {force : Bool} (h1 : Keeps s0 s) : Keeps s0 (s.dealStart force) := by
  unfold State.dealStart
  refine Keeps.ite ?_ ?_
  · exact State.setChain_keeps h1
  · exact h1

theorem State.attach_keeps {s0 : State} {s : State} {u : ℕ} (h1 : Keeps s0 s) : Keeps s0 (s.attach u) := by
  unfold State.attach
  extract_lets +onlyGivenNames x1
  have k1 : Keeps s0 x1 := State.post_keeps (State.put_keeps h1)
  clear_value x1
  refine Keeps.ite ?_ ?_
  · exact State.dealStart_keeps k1
  · exact k1

theorem State.resend_keeps {s0 : State} {s : State} {k : ℕ} (h1 : Keeps s0 s) : Keeps s0 (s.resend k) := by
  unfold State.resend
  exact State.setChain_keeps h1

theorem State.replayAll_keeps {s0 : State} {s : State} (h1 : Keeps s0 s) : Keeps s0 s.replayAll := by
  unfold State.replayAll
  refine Keeps.foldl ?_ ?_
  · intro x1 x2 x3
    extract_lets +onlyGivenNames x4
    clear_value x4
    refine Keeps.ite ?_ ?_
    · exact x3
    · refine Keeps.ite ?_ ?_
      · exact State.post_keeps (State.resend_keeps x3)
      · exact State.resend_keeps x3
  · exact h1

theorem State.domaAlign_keeps {s0 : State} {s : State} {k : LinkInfo} (h1 : Keeps s0 s) : Keeps s0 (s.domaAlign k) := by
  unfold State.domaAlign
  refine Keeps.ite ?_ ?_
  · with_reducible apply State.domcSlew_keeps
    with_reducible apply State.put_keeps
    exact Keeps.same h1 rfl rfl rfl rfl
  · refine Keeps.ite ?_ ?_
    · extract_lets +onlyGivenNames x1
      clear_value x1
      extract_lets +onlyGivenNames x2
      have k2 : Keeps s0 x2 := by
        unfold x2
        refine Keeps.ite ?_ ?_
        · refine Keeps.ite ?_ ?_
          · exact State.domcSlew_keeps h1
          · exact h1
        · with_reducible apply State.domcSlew_keeps
          exact Keeps.same h1 rfl rfl rfl rfl
      clear_value x2
      exact State.post_keeps (State.put_keeps (State.put_keeps k2))
    · exact h1

theorem State.upstreamUp_keeps {s0 : State} {s : State} {k : LinkInfo} (h1 : Keeps s0 s) : Keeps s0 (s.upstreamUp k) := by
  unfold State.upstreamUp
  exact State.setChain_keeps (State.domaAlign_keeps (State.put_keeps h1))

theorem State.downstreamUp_keeps {s0 : State} {s : State} {k : LinkInfo} (h1 : Keeps s0 s) : Keeps s0 (s.downstreamUp k)
    := by
  unfold State.downstreamUp
  refine Keeps.ite ?_ ?_
  · extract_lets +onlyGivenNames x1
    have k1 : Keeps s0 x1 := by
      unfold x1
      refine Keeps.ite ?_ ?_
      · exact h1
      · exact State.dealStart_keeps h1
    clear_value x1
    extract_lets +onlyGivenNames x2
    have k2 : Keeps s0 x2 := State.setChain_keeps k1
    clear_value x2
    refine Keeps.ite ?_ ?_
    · exact k2
    · exact State.attach_keeps k2
  · refine Keeps.ite ?_ ?_
    · exact State.txUnit_keeps h1
    · exact h1

theorem chnLinkUp_keeps {s0 : State} {p : ℕ} {k : LinkInfo} {s : State} (h3 : Keeps s0 s) : Keeps s0 (chnLinkUp p k s) := by
  unfold chnLinkUp
  refine Keeps.ite ?_ ?_
  · exact h3
  · extract_lets +onlyGivenNames x1
    have k1 : Keeps s0 x1 := State.put_keeps h3
    clear_value x1
    refine Keeps.ite ?_ ?_
    · exact State.post_keeps (State.setChain_keeps (State.put_keeps (State.put_keeps k1)))
    · extract_lets +onlyGivenNames x2
      clear_value x2
      extract_lets +onlyGivenNames x3
      have k3 : Keeps s0 x3 := State.setChain_keeps (State.put_keeps k1)
      clear_value x3
      extract_lets +onlyGivenNames x4
      have k4 : Keeps s0 x4 := by
        unfold x4
        refine Keeps.ite ?_ ?_
        · exact State.upstreamUp_keeps k3
        · exact State.downstreamUp_keeps k3
      clear_value x4
      extract_lets +onlyGivenNames x5
      have k5 : Keeps s0 x5 := State.post_keeps k4
      clear_value x5
      refine Keeps.ite ?_ ?_
      · exact State.replayAll_keeps k5
      · exact k5

theorem State.leaveUp_keeps {s0 : State} {s : State} {p : ℕ} {cause : ℕ} (h1 : Keeps s0 s) : Keeps s0 (s.leaveUp p
    cause) := by
  unfold State.leaveUp
  extract_lets +onlyGivenNames x1
  have k1 : Keeps s0 x1 := State.put_keeps (State.put_keeps h1)
  clear_value x1
  extract_lets +onlyGivenNames x2
  have k2 : Keeps s0 x2 := State.linkQuiet_keeps (State.setBit_keeps (State.bump_keeps k1))
  clear_value x2
  extract_lets +onlyGivenNames x3
  have k3 : Keeps s0 x3 := State.setChain_keeps k2
  clear_value x3
  extract_lets +onlyGivenNames x4
  have k4 : Keeps s0 x4 := State.post_keeps k3
  clear_value x4
  refine Keeps.ite ?_ ?_
  · exact State.domaHold_keeps k4
  · exact k4

theorem chnLinkDown_keeps {s0 : State} {p : ℕ} {cause : ℕ} {s : State} (h3 : Keeps s0 s) : Keeps s0 (chnLinkDown p cause
    s) := by
  unfold chnLinkDown
  extract_lets +onlyGivenNames x1
  clear_value x1
  refine Keeps.ite ?_ ?_
  · exact State.leaveUp_keeps h3
  · exact h3

theorem State.retrain_keeps {s0 : State} {s : State} {p : ℕ} (h1 : Keeps s0 s) : Keeps s0 (s.retrain p) := by
  unfold State.retrain
  refine Keeps.ite ?_ ?_
  · exact State.leaveUp_keeps h1
  · exact h1

theorem retrainUp_keeps {s0 : State} {s : State} (h1 : Keeps s0 s) : Keeps s0 (retrainUp s) := by
  unfold retrainUp
  exact State.retrain_keeps h1

theorem retrainDn_keeps {s0 : State} {s : State} (h1 : Keeps s0 s) : Keeps s0 (retrainDn s) := by
  unfold retrainDn
  exact State.retrain_keeps h1

theorem State.rangeBack_keeps {s0 : State} {s : State} {p : ℕ} (h1 : Keeps s0 s) : Keeps s0 (s.rangeBack p) := by
  unfold State.rangeBack
  split
  · refine Keeps.ite ?_ ?_
    · exact h1
    · extract_lets +onlyGivenNames x1
      have k1 : Keeps s0 x1 := State.setChain_keeps h1
      clear_value x1
      refine Keeps.ite ?_ ?_
      · exact State.put_keeps k1
      · exact k1
  · exact h1

theorem trainingTimeout_keeps {s0 : State} {p : ℕ} {s : State} (h2 : Keeps s0 s) : Keeps s0 (trainingTimeout p s) := by
  unfold trainingTimeout
  refine Keeps.ite ?_ ?_
  · exact State.post_keeps (State.put_keeps h2)
  · exact h2

theorem deal_keeps {s0 : State} {force : Bool} {s : State} (h2 : Keeps s0 s) : Keeps s0 (deal force s) := by
  unfold deal
  exact State.dealStart_keeps h2

theorem State.dealBegin_keeps {s0 : State} {s : State} (h1 : Keeps s0 s) : Keeps s0 s.dealBegin := by
  unfold State.dealBegin
  split
  · exact State.setChain_keeps (State.put_keeps h1)
  · exact h1

theorem State.dealAnswer_keeps {s0 : State} {s : State} {u : TunUnit} (h1 : Keeps s0 s) : Keeps s0 (s.dealAnswer u) := by
  unfold State.dealAnswer
  extract_lets +onlyGivenNames x1
  clear_value x1
  refine Keeps.ite ?_ ?_
  · exact h1
  · extract_lets +onlyGivenNames x2
    clear_value x2
    extract_lets +onlyGivenNames x3
    clear_value x3
    extract_lets +onlyGivenNames x4
    clear_value x4
    exact State.setChain_keeps h1

theorem State.rosterPut_keeps {s0 : State} {s : State} {a : ℕ} {r : DealRsp} {kept : Bool} (h1 : Keeps s0 s) : Keeps s0
    (s.rosterPut a r kept) := by
  unfold State.rosterPut
  extract_lets +onlyGivenNames x1
  clear_value x1
  extract_lets +onlyGivenNames x2
  clear_value x2
  extract_lets +onlyGivenNames x3
  have k3 : Keeps s0 x3 := State.put_keeps (State.put_keeps h1)
  clear_value x3
  extract_lets +onlyGivenNames x4
  have k4 : Keeps s0 x4 := State.put_keeps (State.put_keeps (State.put_keeps k3))
  clear_value x4
  refine Keeps.ite ?_ ?_
  · exact State.post_keeps (State.put_keeps (State.put_keeps k4))
  · exact k4

theorem State.dealFull_keeps {s0 : State} {s : State} {l : SMap DealRsp} (h1 : Keeps s0 s) : Keeps s0 (s.dealFull l) := by
  unfold State.dealFull
  split
  · refine Keeps.ite ?_ ?_
    · exact h1
    · exact State.post_keeps (State.put_keeps h1)
  · exact h1

theorem State.dealEnd_keeps {s0 : State} {s : State} (h1 : Keeps s0 s) : Keeps s0 s.dealEnd := by
  unfold State.dealEnd
  extract_lets +onlyGivenNames x1
  clear_value x1
  extract_lets +onlyGivenNames x2
  have k2 : Keeps s0 x2 := by
    unfold x2
    refine Keeps.foldl ?_ ?_
    · intro x3 x4 x5
      exact State.rosterPut_keeps x5
    · exact h1
  clear_value x2
  extract_lets +onlyGivenNames x6
  clear_value x6
  extract_lets +onlyGivenNames x7
  have k7 : Keeps s0 x7 := by
    unfold x7
    refine Keeps.foldl ?_ ?_
    · intro x8 x9 x10
      exact State.put_keeps x10
    · exact k2
  clear_value x7
  extract_lets +onlyGivenNames x11
  clear_value x11
  extract_lets +onlyGivenNames x12
  have k12 : Keeps s0 x12 := State.put_keeps (State.put_keeps (State.put_keeps k7))
  clear_value x12
  extract_lets +onlyGivenNames x13
  have k13 : Keeps s0 x13 := State.setChain_keeps k12
  clear_value x13
  extract_lets +onlyGivenNames x14
  have k14 : Keeps s0 x14 := State.post_keeps (State.put_keeps k13)
  clear_value x14
  exact State.dealFull_keeps k14

theorem chnDealDone_keeps {s0 : State} {s : State} (h1 : Keeps s0 s) : Keeps s0 (chnDealDone s) := by
  unfold chnDealDone
  refine Keeps.ite ?_ ?_
  · exact State.dealEnd_keeps h1
  · exact h1

theorem State.detach_keeps {s0 : State} {s : State} {r : ℕ} (h1 : Keeps s0 s) : Keeps s0 (s.detach r) := by
  unfold State.detach
  extract_lets +onlyGivenNames x1
  clear_value x1
  extract_lets +onlyGivenNames x2
  clear_value x2
  extract_lets +onlyGivenNames x3
  clear_value x3
  extract_lets +onlyGivenNames x4
  have k4 : Keeps s0 x4 := by
    unfold x4
    refine Keeps.foldl ?_ ?_
    · intro x5 x6 x7
      exact State.put_keeps (State.clrBit_keeps x7)
    · exact h1
  clear_value x4
  extract_lets +onlyGivenNames x8
  have k8 : Keeps s0 x8 := State.post_keeps (State.put_keeps k4)
  clear_value x8
  refine Keeps.foldl ?_ ?_
  · intro x9 x10 x11
    exact State.lendLost_keeps (State.dropUnit_keeps x11)
  · exact k8

theorem detachTimeout_keeps {s0 : State} {p : ℕ} {s : State} (h2 : Keeps s0 s) : Keeps s0 (detachTimeout p s) := by
  unfold detachTimeout
  split
  · refine Keeps.ite ?_ ?_
    · exact h2
    · refine Keeps.ite ?_ ?_
      · exact State.farLoadStop_keeps h2
      · extract_lets +onlyGivenNames x1
        have k1 : Keeps s0 x1 := State.setChain_keeps h2
        clear_value x1
        refine Keeps.ite ?_ ?_
        · exact State.detach_keeps k1
        · refine Keeps.ite ?_ ?_
          · exact State.txUnit_keeps k1
          · exact k1
  · exact h2

theorem chnTunGo_keeps {s0 : State} {s : State} (h1 : Keeps s0 s) : Keeps s0 (chnTunGo s) := by
  unfold chnTunGo
  extract_lets +onlyGivenNames x1
  clear_value x1
  extract_lets +onlyGivenNames x2
  clear_value x2
  refine Keeps.ite ?_ ?_
  · exact State.put_keeps h1
  · refine Keeps.ite ?_ ?_
    · exact h1
    · refine Keeps.ite ?_ ?_
      · exact State.put_keeps h1
      · extract_lets +onlyGivenNames x3
        clear_value x3
        extract_lets +onlyGivenNames x4
        clear_value x4
        extract_lets +onlyGivenNames x5
        have k5 : Keeps s0 x5 := State.put_keeps (State.put_keeps h1)
        clear_value x5
        extract_lets +onlyGivenNames x6
        have k6 : Keeps s0 x6 := State.setChain_keeps k5
        clear_value x6
        exact State.txUnit_keeps k6

theorem chnTunTimeout_keeps {s0 : State} {s : State} (h1 : Keeps s0 s) : Keeps s0 (chnTunTimeout s) := by
  unfold chnTunTimeout
  split
  · refine Keeps.ite ?_ ?_
    · exact State.post_keeps (State.accessEnd_keeps h1)
    · exact h1
  · exact h1

theorem tunnelResend_keeps {s0 : State} {v : ℕ} {s : State} (h2 : Keeps s0 s) : Keeps s0 (tunnelResend v s) := by
  unfold tunnelResend
  extract_lets +onlyGivenNames x1
  clear_value x1
  extract_lets +onlyGivenNames x2
  clear_value x2
  refine Keeps.ite ?_ ?_
  · exact h2
  · exact State.resend_keeps h2

theorem chnCmdWrite_keeps {s0 : State} {v : ℕ} {s : State} (h2 : Keeps s0 s) : Keeps s0 (chnCmdWrite v s) := by
  unfold chnCmdWrite
  extract_lets +onlyGivenNames x1
  have k1 : Keeps s0 x1 := by
    unfold x1
    refine Keeps.ite ?_ ?_
    · exact deal_keeps h2
    · exact h2
  clear_value x1
  extract_lets +onlyGivenNames x2
  have k2 : Keeps s0 x2 := by
    unfold x2
    refine Keeps.ite ?_ ?_
    · exact retrainUp_keeps k1
    · exact k1
  clear_value x2
  refine Keeps.ite ?_ ?_
  · exact retrainDn_keeps k2
  · exact k2

theorem State.sysPageWrite_keeps {s0 : State} {s : State} {o : ℕ} {v : ℕ} (h1 : Keeps s0 s) : Keeps s0 (s.sysPageWrite o
    v) := by
  unfold State.sysPageWrite
  refine Keeps.ite ?_ ?_
  · exact sysLock_keeps h1
  · refine Keeps.ite ?_ ?_
    · exact sysReset_keeps h1
    · refine Keeps.ite ?_ ?_
      · exact foldNow_keeps h1
      · exact State.plainWrite_keeps h1

theorem State.pwrPageWrite_keeps {s0 : State} {s : State} {o : ℕ} {v : ℕ} (h1 : Keeps s0 s) : Keeps s0 (s.pwrPageWrite o
    v) := by
  unfold State.pwrPageWrite
  refine Keeps.ite ?_ ?_
  · exact pwrPlWrite_keeps h1
  · refine Keeps.ite ?_ ?_
    · refine Keeps.ite ?_ ?_
      · exact wake_keeps h1
      · exact h1
    · exact State.plainWrite_keeps h1

theorem State.clkPageWrite_keeps {s0 : State} {s : State} {o : ℕ} {v : ℕ} (h1 : Keeps s0 s) : Keeps s0 (s.clkPageWrite o
    v) := by
  unfold State.clkPageWrite
  refine Keeps.ite ?_ ?_
  · exact clkDombCfgWrite_keeps h1
  · exact State.plainWrite_keeps h1

theorem resumeWrite_keeps {s0 : State} {v : ℕ} {s : State} (h2 : Keeps s0 s) : Keeps s0 (resumeWrite v s) := by
  unfold resumeWrite
  split
  · exact skip_keeps h2
  · exact retry_keeps h2
  · exact flush_keeps h2
  · exact h2

theorem State.ringPageWrite_keeps {s0 : State} {s : State} {o : ℕ} {v : ℕ} (h1 : Keeps s0 s) : Keeps s0 (s.ringPageWrite
    o v) := by
  unfold State.ringPageWrite
  refine Keeps.ite ?_ ?_
  · exact resumeWrite_keeps h1
  · refine Keeps.ite ?_ ?_
    · exact ringCfgWrite_keeps h1
    · refine Keeps.ite ?_ ?_
      · exact ringHeadWrite_keeps h1
      · refine Keeps.ite ?_ ?_
        · exact ringTailWrite_keeps h1
        · exact State.plainWrite_keeps h1

theorem tileCmdWrite_keeps {s0 : State} {v : ℕ} {s : State} (h2 : Keeps s0 s) : Keeps s0 (tileCmdWrite v s) := by
  unfold tileCmdWrite
  extract_lets +onlyGivenNames x1
  clear_value x1
  split
  · exact stopCmd_keeps h2
  · exact restartCmd_keeps h2
  · exact h2

theorem State.fabPageWrite_keeps {s0 : State} {s : State} {o : ℕ} {v : ℕ} (h1 : Keeps s0 s) : Keeps s0 (s.fabPageWrite o
    v) := by
  unfold State.fabPageWrite
  refine Keeps.ite ?_ ?_
  · exact tileCmdWrite_keeps h1
  · refine Keeps.ite ?_ ?_
    · exact fabParamWr_keeps h1
    · exact State.plainWrite_keeps h1

theorem State.chnPageWrite_keeps {s0 : State} {s : State} {o : ℕ} {v : ℕ} (h1 : Keeps s0 s) : Keeps s0 (s.chnPageWrite o
    v) := by
  unfold State.chnPageWrite
  refine Keeps.ite ?_ ?_
  · exact chnCmdWrite_keeps h1
  · refine Keeps.ite ?_ ?_
    · refine Keeps.ite ?_ ?_
      · exact chnTunGo_keeps h1
      · exact h1
    · exact State.plainWrite_keeps h1

theorem State.memPageWrite_keeps {s0 : State} {s : State} {o : ℕ} {v : ℕ} (h1 : Keeps s0 s) : Keeps s0 (s.memPageWrite o
    v) := by
  unfold State.memPageWrite
  refine Keeps.ite ?_ ?_
  · exact State.put_keeps h1
  · exact State.plainWrite_keeps h1

theorem State.brgPageWrite_keeps {s0 : State} {s : State} {o : ℕ} {v : ℕ} (h1 : Keeps s0 s) : Keeps s0 (s.brgPageWrite o
    v) := by
  unfold State.brgPageWrite
  refine Keeps.ite ?_ ?_
  · exact brgCfgWrite_keeps h1
  · exact State.plainWrite_keeps h1

theorem keepCmdWrite_keeps {s0 : State} {v : ℕ} {s : State} (h2 : Keeps s0 s) : Keeps s0 (keepCmdWrite v s) := by
  unfold keepCmdWrite
  extract_lets +onlyGivenNames x1
  have k1 : Keeps s0 x1 := by
    unfold x1
    refine Keeps.ite ?_ ?_
    · exact release_keeps h2
    · exact h2
  clear_value x1
  refine Keeps.ite ?_ ?_
  · exact keepCmdFold_keeps k1
  · exact k1

theorem wdtCfgWrite_keeps {s0 : State} {v : ℕ} {s : State} (h2 : Keeps s0 s) : Keeps s0 (wdtCfgWrite v s) := by
  unfold wdtCfgWrite
  refine Keeps.ite ?_ ?_
  · exact h2
  · extract_lets +onlyGivenNames x1
    clear_value x1
    extract_lets +onlyGivenNames x2
    have k2 : Keeps s0 x2 := State.plainWrite_keeps h2
    clear_value x2
    refine Keeps.ite ?_ ?_
    · exact State.wdtRestart_keeps k2
    · exact State.showWdt_keeps k2

theorem State.keepPageWrite_keeps {s0 : State} {s : State} {o : ℕ} {v : ℕ} (h1 : Keeps s0 s) : Keeps s0 (s.keepPageWrite
    o v) := by
  unfold State.keepPageWrite
  refine Keeps.ite ?_ ?_
  · exact State.showDrive_keeps (State.plainWrite_keeps h1)
  · refine Keeps.ite ?_ ?_
    · exact keepCmdWrite_keeps h1
    · refine Keeps.ite ?_ ?_
      · exact wdtCfgWrite_keeps h1
      · refine Keeps.ite ?_ ?_
        · exact kick_keeps h1
        · exact State.plainWrite_keeps h1

theorem State.regWrite_keeps {s0 : State} {s : State} {a : ℕ} {v : ℕ} (h1 : Keeps s0 s) : Keeps s0 (s.regWrite a v) := by
  unfold State.regWrite
  extract_lets +onlyGivenNames x1
  clear_value x1
  refine Keeps.ite ?_ ?_
  · exact h1
  · refine Keeps.ite ?_ ?_
    · exact State.audioWrite_keeps h1
    · split
      · exact State.sysPageWrite_keeps h1
      · exact State.pwrPageWrite_keeps h1
      · exact State.clkPageWrite_keeps h1
      · exact State.ringPageWrite_keeps h1
      · exact State.fabPageWrite_keeps h1
      · exact State.chnPageWrite_keeps h1
      · refine Keeps.ite ?_ ?_
        · exact alertStatWrite_keeps h1
        · exact State.plainWrite_keeps h1
      · exact State.memPageWrite_keeps h1
      · refine Keeps.ite ?_ ?_
        · exact nvsCalSet_keeps h1
        · exact State.plainWrite_keeps h1
      · exact State.plainWrite_keeps h1
      · exact State.brgPageWrite_keeps h1
      · exact State.keepPageWrite_keeps h1
      · exact h1

theorem State.showLanes_keeps {s0 : State} {s : State} {h : ℕ} (h1 : Keeps s0 s) : Keeps s0 (s.showLanes h) := by
  unfold State.showLanes
  extract_lets +onlyGivenNames x1
  clear_value x1
  exact State.put_keeps (State.put_keeps h1)

theorem State.showStream_keeps {s0 : State} {s : State} {r : ℕ} (h1 : Keeps s0 s) : Keeps s0 (s.showStream r) := by
  unfold State.showStream
  refine Keeps.ite ?_ ?_
  · exact State.put_keeps (State.put_keeps (State.put_keeps h1))
  · exact h1

theorem State.showSector_keeps {s0 : State} {s : State} {x : ℕ} (h1 : Keeps s0 s) : Keeps s0 (s.showSector x) := by
  unfold State.showSector
  extract_lets +onlyGivenNames x1
  clear_value x1
  exact State.put_keeps (State.put_keeps h1)

theorem State.showWaking_keeps {s0 : State} {s : State} (h1 : Keeps s0 s) : Keeps s0 s.showWaking := by
  unfold State.showWaking
  refine Keeps.ite ?_ ?_
  · exact State.put_keeps h1
  · exact h1

theorem State.shown_keeps {s0 : State} {s : State} {a : ℕ} (h1 : Keeps s0 s) : Keeps s0 (s.shown a) := by
  unfold State.shown
  extract_lets +onlyGivenNames x1
  clear_value x1
  refine Keeps.ite ?_ ?_
  · exact State.showWaking_keeps h1
  · refine Keeps.ite ?_ ?_
    · exact State.put_keeps h1
    · refine Keeps.ite ?_ ?_
      · exact State.put_keeps h1
      · refine Keeps.ite ?_ ?_
        · exact State.put_keeps (State.put_keeps h1)
        · refine Keeps.ite ?_ ?_
          · exact State.showLanes_keeps h1
          · refine Keeps.ite ?_ ?_
            · exact State.put_keeps h1
            · refine Keeps.ite ?_ ?_
              · split
                · exact State.putSapCfg_keeps h1
                · exact h1
              · refine Keeps.ite ?_ ?_
                · extract_lets +onlyGivenNames x2
                  clear_value x2
                  exact State.put_keeps h1
                · refine Keeps.ite ?_ ?_
                  · exact State.put_keeps h1
                  · refine Keeps.ite ?_ ?_
                    · exact State.showStream_keeps h1
                    · refine Keeps.ite ?_ ?_
                      · exact State.put_keeps h1
                      · refine Keeps.ite ?_ ?_
                        · exact State.showSector_keeps h1
                        · exact h1

theorem State.snapPeaks_keeps {s0 : State} {s : State} {a : ℕ} (h1 : Keeps s0 s) : Keeps s0 (s.snapPeaks a) := by
  unfold State.snapPeaks
  exact Keeps.same h1 rfl rfl rfl rfl

theorem State.fldRemove_keeps {s0 : State} {s : State} {rc : Bool} {snap : ℕ} {f : Fld} (h1 : Keeps s0 s) : Keeps s0
    (s.fldRemove rc snap f) := by
  unfold State.fldRemove
  refine Keeps.ite ?_ ?_
  · exact State.put_keeps h1
  · refine Keeps.ite ?_ ?_
    · exact State.put_keeps h1
    · exact h1

theorem State.rcRemove_keeps {s0 : State} {s : State} {a : ℕ} {snap : ℕ} (h1 : Keeps s0 s) : Keeps s0 (s.rcRemove a
    snap) := by
  unfold State.rcRemove
  extract_lets +onlyGivenNames x1
  clear_value x1
  refine Keeps.foldl ?_ ?_
  · intro x2 x3 x4
    exact State.fldRemove_keeps x4
  · exact h1

theorem rcRegisterRead_keeps {s0 : State} {a : ℕ} {s : State} (h2 : Keeps s0 s) : Keeps s0 (rcRegisterRead a s) := by
  unfold rcRegisterRead
  split
  · refine Keeps.ite ?_ ?_
    · extract_lets +onlyGivenNames x1
      have k1 : Keeps s0 x1 := State.rcRemove_keeps h2
      clear_value x1
      exact Keeps.same k1 rfl rfl rfl rfl
    · exact State.rcRemove_keeps (State.snapPeaks_keeps h2)
  · exact State.rcRemove_keeps (State.snapPeaks_keeps h2)

theorem State.bankHostRead_keeps {s0 : State} {s : State} {b : ℕ} {w : ℕ} (h1 : Keeps s0 s) : Keeps s0 (s.bankHostRead b
    w).2 := by
  unfold State.bankHostRead
  refine Keeps.ite2 ?_ ?_
  · exact h1
  · exact State.bankWord_keeps h1

theorem State.groupWrite_keeps {s0 : State} {s : State} {a : ℕ} {v : Word} (h1 : Keeps s0 s) : Keeps s0 (s.groupWrite a
    v) := by
  unfold State.groupWrite
  extract_lets +onlyGivenNames x1
  clear_value x1
  extract_lets +onlyGivenNames x2
  clear_value x2
  extract_lets +onlyGivenNames x3
  clear_value x3
  extract_lets +onlyGivenNames x4
  clear_value x4
  refine Keeps.ite ?_ ?_
  · exact State.bankWrite_keeps h1
  · extract_lets +onlyGivenNames x5
    clear_value x5
    extract_lets +onlyGivenNames x6
    have k6 : Keeps s0 x6.2 := State.bankHostRead_keeps h1
    clear_value x6
    extract_lets +onlyGivenNames x7
    have k7 : Keeps s0 x7.2 := State.bankHostRead_keeps k6
    clear_value x7
    refine Keeps.ite ?_ ?_
    · exact State.put_keeps k7
    · extract_lets +onlyGivenNames x8
      clear_value x8
      extract_lets +onlyGivenNames x9
      clear_value x9
      exact State.bankWrite_keeps (State.bankWrite_keeps k7)

theorem State.hostWrite_keeps {s0 : State} {s : State} {a : ℕ} {v : Word} (h1 : Keeps s0 s) : Keeps s0 (s.hostWrite a v)
    := by
  unfold State.hostWrite
  refine Keeps.ite ?_ ?_
  · exact configWrite_keeps h1
  · refine Keeps.ite ?_ ?_
    · exact State.groupWrite_keeps h1
    · refine Keeps.ite ?_ ?_
      · exact stateRamWrite_keeps h1
      · exact State.regWrite_keeps h1

theorem State.fabHostRead_keeps {s0 : State} {s : State} {a : ℕ} (h1 : Keeps s0 s) : Keeps s0 (s.fabHostRead a).2 := by
  unfold State.fabHostRead
  refine Keeps.mk2 ?_
  refine Keeps.ite ?_ ?_
  · exact State.queueWb_keeps h1
  · exact h1

theorem State.bankHostRun_keeps {s0 : State} {s : State} {b : ℕ} {w : ℕ} {k : ℕ} (h1 : Keeps s0 s) : Keeps s0
    (s.bankHostRun b w k).2 := by
  unfold State.bankHostRun
  extract_lets +onlyGivenNames x1
  have k1 : Keeps s0 x1.2 := State.bankHostRead_keeps h1
  clear_value x1
  refine Keeps.ite2 ?_ ?_
  · exact k1
  · extract_lets +onlyGivenNames x2
    clear_value x2
    extract_lets +onlyGivenNames x3
    have k3 : Keeps s0 x3.2 := State.bankHostRead_keeps k1
    clear_value x3
    exact k3

theorem State.hostRead_keeps {s0 : State} {s : State} {a : ℕ} (h1 : Keeps s0 s) : Keeps s0 (s.hostRead a).2 := by
  unfold State.hostRead
  refine Keeps.ite2 ?_ ?_
  · exact State.fabHostRead_keeps h1
  · refine Keeps.ite2 ?_ ?_
    · exact State.bankHostRun_keeps h1
    · refine Keeps.mk2 ?_
      exact State.snapPeaks_keeps h1

theorem State.nack_keeps {s0 : State} {s : State} (h1 : Keeps s0 s) : Keeps s0 s.nack := by
  unfold State.nack
  extract_lets +onlyGivenNames x1
  have k1 : Keeps s0 x1 := State.bump_keeps h1
  clear_value x1
  exact Keeps.same k1 rfl rfl rfl rfl

theorem State.busTakes_keeps {s0 : State} {s : State} {stretch : ℕ} (h1 : Keeps s0 s) : Keeps s0 (s.busTakes stretch) := by
  unfold State.busTakes
  extract_lets +onlyGivenNames x1
  have k1 : Keeps s0 x1 := State.peak_keeps (State.put_keeps h1)
  clear_value x1
  exact Keeps.same k1 rfl rfl rfl rfl

theorem hostBusWrite_keeps {s0 : State} {addr : ℕ} {v : Word} {stretch : ℕ} {s : State} (h4 : Keeps s0 s) : Keeps s0
    (hostBusWrite addr v stretch s) := by
  unfold hostBusWrite
  extract_lets +onlyGivenNames x1
  clear_value x1
  refine Keeps.ite ?_ ?_
  · exact h4
  · extract_lets +onlyGivenNames x2
    have k2 : Keeps s0 x2 := State.busTakes_keeps h4
    clear_value x2
    refine Keeps.ite ?_ ?_
    · exact State.nack_keeps k2
    · refine Keeps.ite ?_ ?_
      · exact State.nack_keeps k2
      · refine Keeps.ite ?_ ?_
        · exact State.post_keeps (State.bump_keeps (State.put_keeps k2))
        · refine Keeps.ite ?_ ?_
          · exact State.post_keeps (State.bump_keeps (State.put_keeps (State.nack_keeps k2)))
          · refine Keeps.ite ?_ ?_
            · exact k2
            · extract_lets +onlyGivenNames x3
              have k3 : Keeps s0 x3 := State.hostWrite_keeps k2
              clear_value x3
              exact Keeps.same k3 rfl rfl rfl rfl

theorem hostBusRead_keeps {s0 : State} {addr : ℕ} {stretch : ℕ} {s : State} (h3 : Keeps s0 s) : Keeps s0 (hostBusRead
    addr stretch s) := by
  unfold hostBusRead
  extract_lets +onlyGivenNames x1
  clear_value x1
  refine Keeps.ite ?_ ?_
  · exact h3
  · extract_lets +onlyGivenNames x2
    have k2 : Keeps s0 x2 := State.busTakes_keeps h3
    clear_value x2
    extract_lets +onlyGivenNames x3
    have k3 : Keeps s0 x3 := by
      unfold x3
      exact Keeps.same k2 rfl rfl rfl rfl
    clear_value x3
    refine Keeps.ite ?_ ?_
    · exact State.nack_keeps k3
    · refine Keeps.ite ?_ ?_
      · exact k3
      · extract_lets +onlyGivenNames x4
        have k4 : Keeps s0 x4.2 := State.hostRead_keeps k3
        clear_value x4
        extract_lets +onlyGivenNames x5
        have k5 : Keeps s0 x5 := k4
        clear_value x5
        exact Keeps.same k5 rfl rfl rfl rfl

theorem State.sendAck_keeps {s0 : State} {s : State} {k : ℕ} {restart : Bool} (h1 : Keeps s0 s) : Keeps s0 (s.sendAck k
    restart) := by
  unfold State.sendAck
  exact State.txPlain_keeps h1

theorem State.taken_keeps {s0 : State} {s : State} {k : ℕ} {u : TunUnit} (h1 : Keeps s0 s) : Keeps s0 (s.taken k u) := by
  unfold State.taken
  exact State.sendAck_keeps (State.setChain_keeps h1)

theorem State.relayUnit_keeps {s0 : State} {s : State} {up : Bool} {u : TunUnit} (h1 : Keeps s0 s) : Keeps s0
    (s.relayUnit up u) := by
  unfold State.relayUnit
  refine Keeps.ite ?_ ?_
  · exact h1
  · exact State.setChain_keeps h1

theorem State.downUnit_keeps {s0 : State} {s : State} {u : TunUnit} {k : State → State} (h1 : Keeps s0 s) (h3 : ∀ (a :
    State), Keeps s0 a → Keeps s0 (k a)) : Keeps s0 (s.downUnit u k) := by
  unfold State.downUnit
  refine Keeps.ite ?_ ?_
  · exact h1
  · refine Keeps.ite ?_ ?_
    · exact State.relayUnit_keeps h1
    · refine Keeps.ite ?_ ?_
      · with_reducible apply h3
        exact h1
      · exact h1

theorem State.upUnit_keeps {s0 : State} {s : State} {u : TunUnit} {k : State → State} (h1 : Keeps s0 s) (h3 : ∀ (a :
    State), Keeps s0 a → Keeps s0 (k a)) : Keeps s0 (s.upUnit u k) := by
  unfold State.upUnit
  refine Keeps.ite ?_ ?_
  · exact State.relayUnit_keeps h1
  · refine Keeps.ite ?_ ?_
    · with_reducible apply State.taken_keeps
      with_reducible apply h3
      exact h1
    · exact h1

theorem idleUnit_keeps {s0 : State} {a1 : TunUnit} {s : State} (h2 : Keeps s0 s) : Keeps s0 (idleUnit a1 s) := by
  unfold idleUnit
  exact h2

theorem unitWrite_keeps {s0 : State} {u : TunUnit} {s : State} (h2 : Keeps s0 s) : Keeps s0 (unitWrite u s) := by
  unfold unitWrite
  with_reducible apply State.downUnit_keeps
  · exact h2
  · intro x1 x2
    refine Keeps.ite ?_ ?_
    · exact x2
    · exact State.taken_keeps (State.hostWrite_keeps x2)

theorem unitRead_keeps {s0 : State} {u : TunUnit} {s : State} (h2 : Keeps s0 s) : Keeps s0 (unitRead u s) := by
  unfold unitRead
  with_reducible apply State.downUnit_keeps
  · exact h2
  · intro x1 x2
    refine Keeps.ite ?_ ?_
    · exact x2
    · extract_lets +onlyGivenNames x3
      have k3 : Keeps s0 x3.2 := State.hostRead_keeps x2
      clear_value x3
      extract_lets +onlyGivenNames x4
      have k4 : Keeps s0 x4 := by
        unfold x4
        refine Keeps.ite ?_ ?_
        · exact State.rcRemove_keeps k3
        · exact k3
      clear_value x4
      exact State.txUnit_keeps (State.taken_keeps k4)

theorem unitReadRsp_keeps {s0 : State} {u : TunUnit} {s : State} (h2 : Keeps s0 s) : Keeps s0 (unitReadRsp u s) := by
  unfold unitReadRsp
  with_reducible apply State.upUnit_keeps
  · exact h2
  · intro x1 x2
    split
    · refine Keeps.ite ?_ ?_
      · exact State.accessEnd_keeps (State.put_keeps x2)
      · exact x2
    · exact x2

theorem unitCmd_keeps {s0 : State} {u : TunUnit} {s : State} (h2 : Keeps s0 s) : Keeps s0 (unitCmd u s) := by
  unfold unitCmd
  with_reducible apply State.downUnit_keeps
  · exact h2
  · intro x1 x2
    extract_lets +onlyGivenNames x3
    clear_value x3
    refine Keeps.ite ?_ ?_
    · exact x2
    · extract_lets +onlyGivenNames x4
      clear_value x4
      extract_lets +onlyGivenNames x5
      have k5 : Keeps s0 x5 := State.makeReady_keeps (State.ringPush_keeps x2)
      clear_value x5
      extract_lets +onlyGivenNames x6
      have k6 : Keeps s0 x6 := by
        unfold x6
        refine Keeps.ite ?_ ?_
        · exact State.setChain_keeps k5
        · exact k5
      clear_value x6
      exact State.taken_keeps k6

theorem unitCpl_keeps {s0 : State} {u : TunUnit} {s : State} (h2 : Keeps s0 s) : Keeps s0 (unitCpl u s) := by
  unfold unitCpl
  with_reducible apply State.upUnit_keeps
  · exact h2
  · intro x1 x2
    extract_lets +onlyGivenNames x3
    clear_value x3
    extract_lets +onlyGivenNames x4
    clear_value x4
    extract_lets +onlyGivenNames x5
    clear_value x5
    refine Keeps.ite ?_ ?_
    · exact State.setChain_keeps x2
    · refine Keeps.ite ?_ ?_
      · extract_lets +onlyGivenNames x6
        clear_value x6
        refine Keeps.ite ?_ ?_
        · exact x2
        · exact State.proxyCpl_keeps x2
      · exact x2

theorem State.fwdAlert_keeps {s0 : State} {s : State} {v : ℕ} {sev : ℕ} (h1 : Keeps s0 s) : Keeps s0 (s.fwdAlert v sev)
    := by
  unfold State.fwdAlert
  refine Keeps.ite ?_ ?_
  · extract_lets +onlyGivenNames x1
    have k1 : Keeps s0 x1 := State.setBit_keeps (State.alert_keeps h1)
    clear_value x1
    exact Keeps.same k1 rfl rfl rfl rfl
  · exact h1

theorem State.eventIn_keeps {s0 : State} {s : State} {v : ℕ} {ws : List ℕ} (h1 : Keeps s0 s) : Keeps s0 (s.eventIn v ws)
    := by
  unfold State.eventIn
  extract_lets +onlyGivenNames x1
  clear_value x1
  extract_lets +onlyGivenNames x2
  clear_value x2
  extract_lets +onlyGivenNames x3
  have k3 : Keeps s0 x3 := State.fwdAlert_keeps h1
  clear_value x3
  refine Keeps.ite ?_ ?_
  · exact Keeps.same k3 rfl rfl rfl rfl
  · exact State.post_keeps (State.put_keeps (State.bump_keeps k3))

theorem unitEvent_keeps {s0 : State} {u : TunUnit} {s : State} (h2 : Keeps s0 s) : Keeps s0 (unitEvent u s) := by
  unfold unitEvent
  with_reducible apply State.upUnit_keeps
  · exact h2
  · intro x1 x2
    extract_lets +onlyGivenNames x3
    clear_value x3
    extract_lets +onlyGivenNames x4
    clear_value x4
    extract_lets +onlyGivenNames x5
    clear_value x5
    refine Keeps.ite ?_ ?_
    · exact State.eventIn_keeps (State.setChain_keeps x2)
    · exact State.setChain_keeps x2

theorem State.ackIn_keeps {s0 : State} {s : State} {k : ℕ} {v : ℕ} (h1 : Keeps s0 s) : Keeps s0 (s.ackIn k v) := by
  unfold State.ackIn
  extract_lets +onlyGivenNames x1
  have k1 : Keeps s0 x1 := by
    unfold x1
    refine Keeps.ite ?_ ?_
    · exact State.setChain_keeps h1
    · exact h1
  clear_value x1
  extract_lets +onlyGivenNames x2
  clear_value x2
  refine Keeps.ite ?_ ?_
  · exact k1
  · extract_lets +onlyGivenNames x3
    have k3 : Keeps s0 x3 := State.txFill_keeps (State.setChain_keeps k1)
    clear_value x3
    split
    · refine Keeps.ite ?_ ?_
      · exact State.accessEnd_keeps k3
      · exact k3
    · exact k3

theorem unitAck_keeps {s0 : State} {up : Bool} {u : TunUnit} {s : State} (h3 : Keeps s0 s) : Keeps s0 (unitAck up u s) := by
  unfold unitAck
  refine Keeps.ite ?_ ?_
  · exact State.ackIn_keeps h3
  · refine Keeps.ite ?_ ?_
    · exact State.ackIn_keeps h3
    · exact State.relayUnit_keeps h3

theorem unitDealRsp_keeps {s0 : State} {u : TunUnit} {s : State} (h2 : Keeps s0 s) : Keeps s0 (unitDealRsp u s) := by
  unfold unitDealRsp
  refine Keeps.ite ?_ ?_
  · exact State.dealAnswer_keeps h2
  · exact State.relayUnit_keeps h2

theorem unitAttach_keeps {s0 : State} {u : TunUnit} {s : State} (h2 : Keeps s0 s) : Keeps s0 (unitAttach u s) := by
  unfold unitAttach
  with_reducible apply State.upUnit_keeps
  · exact h2
  · intro x1 x2
    exact State.attach_keeps x2

theorem unitDetach_keeps {s0 : State} {u : TunUnit} {s : State} (h2 : Keeps s0 s) : Keeps s0 (unitDetach u s) := by
  unfold unitDetach
  with_reducible apply State.upUnit_keeps
  · exact h2
  · intro x1 x2
    exact State.detach_keeps x2

theorem State.satReset_keeps {s0 : State} {s : State} {v : ℕ} {depth : ℕ} {count : ℕ} (h1 : Keeps s0 s) : Keeps s0
    (s.satReset v depth count) := by
  unfold State.satReset
  extract_lets +onlyGivenNames x1
  have k1 : Keeps s0 x1.2 := State.dropUnit_keeps h1
  clear_value x1
  extract_lets +onlyGivenNames x2
  have k2 : Keeps s0 x2 := State.setChain_keeps k1
  clear_value x2
  exact State.post_keeps (State.put_keeps (State.sendAck_keeps k2))

theorem unitResetRpt_keeps {s0 : State} {u : TunUnit} {s : State} (h2 : Keeps s0 s) : Keeps s0 (unitResetRpt u s) := by
  unfold unitResetRpt
  extract_lets +onlyGivenNames x1
  clear_value x1
  extract_lets +onlyGivenNames x2
  clear_value x2
  extract_lets +onlyGivenNames x3
  clear_value x3
  refine Keeps.ite ?_ ?_
  · exact State.relayUnit_keeps h2
  · refine Keeps.ite ?_ ?_
    · exact h2
    · exact State.satReset_keeps h2

theorem State.unitRx_keeps {s0 : State} {s : State} {up : Bool} {u : TunUnit} (h1 : Keeps s0 s) : Keeps s0 (s.unitRx up
    u) := by
  unfold State.unitRx
  split
  · refine Keeps.ite ?_ ?_
    · exact h1
    · exact unitWrite_keeps h1
  · refine Keeps.ite ?_ ?_
    · exact h1
    · exact unitRead_keeps h1
  · refine Keeps.ite ?_ ?_
    · exact unitReadRsp_keeps h1
    · exact h1
  · refine Keeps.ite ?_ ?_
    · exact h1
    · exact unitCmd_keeps h1
  · refine Keeps.ite ?_ ?_
    · exact unitCpl_keeps h1
    · exact h1
  · refine Keeps.ite ?_ ?_
    · exact unitEvent_keeps h1
    · exact h1
  · exact unitAck_keeps h1
  · refine Keeps.ite ?_ ?_
    · exact unitDealRsp_keeps h1
    · exact h1
  · refine Keeps.ite ?_ ?_
    · exact State.relayUnit_keeps h1
    · exact h1
  · refine Keeps.ite ?_ ?_
    · refine Keeps.ite ?_ ?_
      · exact unitAttach_keeps h1
      · refine Keeps.ite ?_ ?_
        · exact unitDetach_keeps h1
        · exact h1
    · exact h1
  · refine Keeps.ite ?_ ?_
    · exact unitResetRpt_keeps h1
    · exact h1
  · exact h1

theorem State.slotsIn_keeps {s0 : State} {s : State} {p : ℕ} {f : ChainFrame} (h1 : Keeps s0 s) : Keeps s0 (s.slotsIn p
    f) := by
  unfold State.slotsIn
  refine Keeps.foldl ?_ ?_
  · intro x1 x2 x3
    refine Keeps.ite ?_ ?_
    · exact State.edgePut_keeps x3
    · exact State.edgeClear_keeps x3
  · exact h1

theorem State.frameErrors_keeps {s0 : State} {s : State} {p : ℕ} {f : ChainFrame} (h1 : Keeps s0 s) : Keeps s0
    (s.frameErrors p f) := by
  unfold State.frameErrors
  extract_lets +onlyGivenNames x1
  have k1 : Keeps s0 x1 := State.setChain_keeps h1
  clear_value x1
  refine Keeps.ite ?_ ?_
  · exact State.bump_keeps k1
  · extract_lets +onlyGivenNames x2
    have k2 : Keeps s0 x2 := State.bumpBy_keeps k1
    clear_value x2
    extract_lets +onlyGivenNames x3
    have k3 : Keeps s0 x3 := State.bumpBy_keeps k2
    clear_value x3
    refine Keeps.ite ?_ ?_
    · exact k3
    · exact State.bump_keeps k3

theorem State.dealTake_keeps {s0 : State} {s : State} {a : ℕ} {seq : ℕ} {force : Bool} (h1 : Keeps s0 s) : Keeps s0
    (s.dealTake a seq force) := by
  unfold State.dealTake
  extract_lets +onlyGivenNames x1
  have k1 : Keeps s0 x1 := State.setChain_keeps h1
  clear_value x1
  refine Keeps.ite ?_ ?_
  · exact State.put_keeps k1
  · extract_lets +onlyGivenNames x2
    clear_value x2
    extract_lets +onlyGivenNames x3
    clear_value x3
    extract_lets +onlyGivenNames x4
    have k4 : Keeps s0 x4 := State.setChain_keeps (State.put_keeps (State.put_keeps k1))
    clear_value x4
    extract_lets +onlyGivenNames x5
    clear_value x5
    exact State.txPlain_keeps (State.txPlain_keeps k4)

theorem State.ctlDeal_keeps {s0 : State} {s : State} {w0 : ℕ} (h1 : Keeps s0 s) : Keeps s0 (s.ctlDeal w0) := by
  unfold State.ctlDeal
  refine Keeps.ite ?_ ?_
  · exact State.setChain_keeps h1
  · refine Keeps.ite ?_ ?_
    · exact h1
    · exact State.dealTake_keeps h1

theorem State.ctlStart_keeps {s0 : State} {s : State} {w0 : ℕ} {w1 : ℕ} (h1 : Keeps s0 s) : Keeps s0 (s.ctlStart w0 w1)
    := by
  unfold State.ctlStart
  refine Keeps.ite ?_ ?_
  · exact State.setChain_keeps h1
  · extract_lets +onlyGivenNames x1
    clear_value x1
    extract_lets +onlyGivenNames x2
    clear_value x2
    extract_lets +onlyGivenNames x3
    have k3 : Keeps s0 x3 := State.setChain_keeps h1
    clear_value x3
    refine Keeps.ite ?_ ?_
    · exact State.startFromHead_keeps k3
    · exact k3

theorem State.ctlLoad_keeps {s0 : State} {s : State} {w0 : ℕ} {w1 : ℕ} (h1 : Keeps s0 s) : Keeps s0 (s.ctlLoad w0 w1) := by
  unfold State.ctlLoad
  refine Keeps.ite ?_ ?_
  · exact State.setChain_keeps h1
  · extract_lets +onlyGivenNames x1
    clear_value x1
    extract_lets +onlyGivenNames x2
    have k2 : Keeps s0 x2 := State.setChain_keeps h1
    clear_value x2
    split
    · refine Keeps.ite ?_ ?_
      · exact State.loadFromHead_keeps k2
      · exact k2
    · exact k2

theorem State.ctlDomc_keeps {s0 : State} {s : State} {w0 : ℕ} (h1 : Keeps s0 s) : Keeps s0 (s.ctlDomc w0) := by
  unfold State.ctlDomc
  refine Keeps.ite ?_ ?_
  · exact State.domcSlew_keeps h1
  · exact h1

theorem State.ctlDown_keeps {s0 : State} {s : State} {l : List ℕ} (h1 : Keeps s0 s) : Keeps s0 (s.ctlDown l) := by
  unfold State.ctlDown
  extract_lets +onlyGivenNames x1
  clear_value x1
  extract_lets +onlyGivenNames x2
  clear_value x2
  extract_lets +onlyGivenNames x3
  have k3 : Keeps s0 x3 := State.ctlDeal_keeps (State.setRateA_keeps h1)
  clear_value x3
  extract_lets +onlyGivenNames x4
  have k4 : Keeps s0 x4 := State.ctlDomc_keeps (State.ctlLoad_keeps (State.ctlStart_keeps k3))
  clear_value x4
  refine Keeps.foldl ?_ ?_
  · intro x5 x6 x7
    exact State.unitRx_keeps x7
  · exact k4

theorem State.ctlUp_keeps {s0 : State} {s : State} {l : List ℕ} (h1 : Keeps s0 s) : Keeps s0 (s.ctlUp l) := by
  unfold State.ctlUp
  refine Keeps.foldl ?_ ?_
  · intro x1 x2 x3
    exact State.unitRx_keeps x3
  · exact h1

theorem chainFrameRx_keeps {s0 : State} {p : ℕ} {f : ChainFrame} {s : State} (h3 : Keeps s0 s) : Keeps s0 (chainFrameRx
    p f s) := by
  unfold chainFrameRx
  refine Keeps.ite ?_ ?_
  · exact h3
  · extract_lets +onlyGivenNames x1
    have k1 : Keeps s0 x1 := State.slotsIn_keeps (State.frameErrors_keeps h3)
    clear_value x1
    refine Keeps.ite ?_ ?_
    · exact k1
    · refine Keeps.ite ?_ ?_
      · exact State.ctlUp_keeps k1
      · refine Keeps.ite ?_ ?_
        · exact k1
        · exact State.ctlDown_keeps k1

theorem State.cancelWait_keeps {s0 : State} {s : State} {t : ℕ} {e : Exec} (h1 : Keeps s0 s) : Keeps s0 (s.cancelWait t
    e) := by
  unfold State.cancelWait
  extract_lets +onlyGivenNames x1
  have k1 : Keeps s0 x1 := by
    unfold x1
    refine Keeps.ite ?_ ?_
    · exact State.hpoUnfold_keeps (State.spkUnfold_keeps h1)
    · exact h1
  clear_value x1
  extract_lets +onlyGivenNames x2
  have k2 : Keeps s0 x2 := by
    unfold x2
    refine Keeps.ite ?_ ?_
    · exact State.put_keeps k1
    · exact k1
  clear_value x2
  exact State.finish_keeps k2

theorem State.cancelLoad_keeps {s0 : State} {s : State} {t : ℕ} (h1 : Keeps s0 s) : Keeps s0 (s.cancelLoad t) := by
  unfold State.cancelLoad
  split
  · exact State.finish_keeps h1
  · refine Keeps.ite ?_ ?_
    · exact State.finish_keeps h1
    · refine Keeps.ite ?_ ?_
      · exact State.loadFinish_keeps h1
      · refine Keeps.ite ?_ ?_
        · with_reducible apply State.loadFinish_keeps
          refine Keeps.ite ?_ ?_
          · exact State.shelfEmpty_keeps h1
          · exact h1
        · refine Keeps.ite ?_ ?_
          · exact State.setLoad_keeps h1
          · with_reducible apply State.loadFinish_keeps
            refine Keeps.ite ?_ ?_
            · exact State.put_keeps h1
            · exact h1

theorem State.cancelTest_keeps {s0 : State} {s : State} {t : ℕ} {b : ℕ} (h1 : Keeps s0 s) : Keeps s0 (s.cancelTest t b)
    := by
  unfold State.cancelTest
  extract_lets +onlyGivenNames x1
  clear_value x1
  extract_lets +onlyGivenNames x2
  have k2 : Keeps s0 x2 := by
    unfold x2
    exact Keeps.same h1 rfl rfl rfl rfl
  clear_value x2
  refine Keeps.ite ?_ ?_
  · with_reducible apply State.bankTestNext_keeps
    with_reducible apply State.finish_keeps
    with_reducible apply State.showTests_keeps
    exact Keeps.same k2 rfl rfl rfl rfl
  · exact State.finish_keeps k2

theorem State.cancel_keeps {s0 : State} {s : State} {t : ℕ} {e : Exec} (h1 : Keeps s0 s) : Keeps s0 (s.cancel t e) := by
  unfold State.cancel
  split
  · exact State.cancelWait_keeps h1
  · exact State.cancelLoad_keeps h1
  · exact State.hoEnd_keeps h1
  · exact State.finish_keeps (State.calAbort_keeps h1)
  · exact State.cancelTest_keeps h1
  · exact State.auxFinish_keeps h1
  · exact State.auxFinish_keeps h1
  · exact State.finish_keeps h1

theorem State.abortAct_keeps {s0 : State} {s : State} {r : ℕ} {t : ℕ} {seq : ℕ} (h1 : Keeps s0 s) : Keeps s0 (s.abortAct
    r t seq) := by
  unfold State.abortAct
  refine Keeps.ite ?_ ?_
  · exact State.finish_keeps h1
  · split
    · exact State.finish_keeps h1
    · refine Keeps.ite ?_ ?_
      · exact State.finish_keeps h1
      · refine Keeps.ite ?_ ?_
        · exact State.finish_keeps h1
        · split
          · refine Keeps.ite ?_ ?_
            · exact State.finish_keeps (State.setRing_keeps h1)
            · refine Keeps.ite ?_ ?_
              · exact State.finish_keeps h1
              · exact State.cancel_keeps (State.setExec_keeps h1)
          · exact State.finish_keeps (State.setRing_keeps h1)

theorem State.abortEnd_keeps {s0 : State} {s : State} {r : ℕ} (h1 : Keeps s0 s) : Keeps s0 (s.abortEnd r) := by
  unfold State.abortEnd
  split
  · extract_lets +onlyGivenNames x1
    clear_value x1
    refine Keeps.ite ?_ ?_
    · exact h1
    · exact State.finish_keeps h1
  · exact h1

theorem abort_keeps {s0 : State} {r : ℕ} {s : State} (h2 : Keeps s0 s) : Keeps s0 (abort r s) := by
  unfold abort
  with_reducible apply State.abortEnd_keeps
  with_reducible apply State.command_keeps
  · exact h2
  · intro x1 x2 x3 x4
    exact State.abortAct_keeps x4

theorem State.eventsWrite_keeps {s0 : State} {s : State} (h1 : Keeps s0 s) : Keeps s0 s.eventsWrite := by
  unfold State.eventsWrite
  refine Keeps.ite ?_ ?_
  · exact h1
  · extract_lets +onlyGivenNames x1
    have k1 : Keeps s0 x1 := by
      unfold x1
      refine Keeps.foldl ?_ ?_
      · intro x2 x3 x4
        exact State.writeEvents_keeps x4
      · exact h1
    clear_value x1
    exact Keeps.same k1 rfl rfl rfl rfl

theorem State.unitsOut_keeps {s0 : State} {s : State} {up : Bool} {n : ℕ} (h1 : Keeps s0 s) : Keeps s0 (s.unitsOut up
    n).2 := by
  unfold State.unitsOut
  extract_lets +onlyGivenNames x1
  clear_value x1
  extract_lets +onlyGivenNames x2
  clear_value x2
  extract_lets +onlyGivenNames x3
  clear_value x3
  extract_lets +onlyGivenNames x4
  clear_value x4
  refine Keeps.mk2 ?_
  exact State.setChain_keeps h1

theorem State.lendHop_keeps {s0 : State} {s : State} {h : ℕ} {ws : List ℕ} {r : List (ℕ × List ℕ)} {room : ℕ} (h1 :
    Keeps s0 s) : Keeps s0 (s.lendHop h ws r room) := by
  unfold State.lendHop
  extract_lets +onlyGivenNames x1
  clear_value x1
  extract_lets +onlyGivenNames x2
  clear_value x2
  extract_lets +onlyGivenNames x3
  clear_value x3
  exact Keeps.same h1 rfl rfl rfl rfl

theorem State.relayResume_keeps {s0 : State} {s : State} (h1 : Keeps s0 s) : Keeps s0 s.relayResume := by
  unfold State.relayResume
  refine Keeps.ite ?_ ?_
  · exact h1
  · exact Keeps.same h1 rfl rfl rfl rfl

theorem State.lendNext_keeps {s0 : State} {s : State} {room : ℕ} (h1 : Keeps s0 s) : Keeps s0 (s.lendNext room) := by
  unfold State.lendNext
  refine Keeps.ite ?_ ?_
  · split
    · exact Keeps.same h1 rfl rfl rfl rfl
    · split
      · extract_lets +onlyGivenNames x1
        clear_value x1
        extract_lets +onlyGivenNames x2
        have k2 : Keeps s0 x2 := State.setLend_keeps h1
        clear_value x2
        exact Keeps.same k2 rfl rfl rfl rfl
      · exact Keeps.same h1 rfl rfl rfl rfl
  · split
    · exact State.relayResume_keeps (State.lendHop_keeps h1)
    · exact Keeps.same h1 rfl rfl rfl rfl

theorem State.lendReport_keeps {s0 : State} {s : State} (h1 : Keeps s0 s) : Keeps s0 s.lendReport := by
  unfold State.lendReport
  split
  · split
    · refine Keeps.ite ?_ ?_
      · exact Keeps.same h1 rfl rfl rfl rfl
      · exact h1
    · exact h1
  · exact h1

theorem State.slotsOut_keeps {s0 : State} {s : State} {p : ℕ} {old : ℕ} {pos : ℕ} (h1 : Keeps s0 s) : Keeps s0
    (s.slotsOut p old pos) := by
  unfold State.slotsOut
  extract_lets +onlyGivenNames x1
  clear_value x1
  refine Keeps.foldl ?_ ?_
  · intro x2 x3 x4
    exact Keeps.same x4 rfl rfl rfl rfl
  · exact h1

theorem State.lendSlots_keeps {s0 : State} {s : State} {ws : List ℕ} (h1 : Keeps s0 s) : Keeps s0 (s.lendSlots ws) := by
  unfold State.lendSlots
  refine Keeps.foldl ?_ ?_
  · intro x1 x2 x3
    exact Keeps.same x3 rfl rfl rfl rfl
  · exact h1

theorem State.sendDown_keeps {s0 : State} {s : State} {old : ℕ} {pos : ℕ} (h1 : Keeps s0 s) : Keeps s0 (s.sendDown old
    pos) := by
  unfold State.sendDown
  refine Keeps.ite ?_ ?_
  · extract_lets +onlyGivenNames x1
    have k1 : Keeps s0 x1 := State.setChain_keeps h1
    clear_value x1
    exact Keeps.same k1 rfl rfl rfl rfl
  · extract_lets +onlyGivenNames x2
    have k2 : Keeps s0 x2 := State.lendNext_keeps (State.slotsOut_keeps h1)
    clear_value x2
    split
    · extract_lets +onlyGivenNames x3
      have k3 : Keeps s0 x3.2 := State.unitsOut_keeps k2
      clear_value x3
      extract_lets +onlyGivenNames x4
      have k4 : Keeps s0 x4 := State.lendSlots_keeps k3
      clear_value x4
      exact State.setChain_keeps k4
    · extract_lets +onlyGivenNames x5
      have k5 : Keeps s0 x5.2 := State.unitsOut_keeps k2
      clear_value x5
      exact State.setChain_keeps k5

theorem State.sendUp_keeps {s0 : State} {s : State} {old : ℕ} {pos : ℕ} (h1 : Keeps s0 s) : Keeps s0 (s.sendUp old pos)
    := by
  unfold State.sendUp
  refine Keeps.ite ?_ ?_
  · exact State.setChain_keeps h1
  · extract_lets +onlyGivenNames x1
    have k1 : Keeps s0 x1.2 := State.unitsOut_keeps (State.slotsOut_keeps h1)
    clear_value x1
    exact State.setChain_keeps k1

theorem State.startFields_keeps {s0 : State} {s : State} (h1 : Keeps s0 s) : Keeps s0 s.startFields := by
  unfold State.startFields
  refine Keeps.ite ?_ ?_
  · exact h1
  · extract_lets +onlyGivenNames x1
    clear_value x1
    extract_lets +onlyGivenNames x2
    have k2 : Keeps s0 x2 := State.setChain_keeps h1
    clear_value x2
    refine Keeps.ite ?_ ?_
    · exact State.setChain_keeps k2
    · refine Keeps.ite ?_ ?_
      · exact k2
      · exact State.setChain_keeps k2

theorem State.ackPeriod_keeps {s0 : State} {s : State} (h1 : Keeps s0 s) : Keeps s0 s.ackPeriod := by
  unfold State.ackPeriod
  refine Keeps.ite ?_ ?_
  · exact h1
  · refine Keeps.foldl ?_ ?_
    · intro x1 x2 x3
      exact State.sendAck_keeps x3
    · exact h1

theorem State.resetReport_keeps {s0 : State} {s : State} (h1 : Keeps s0 s) : Keeps s0 s.resetReport := by
  unfold State.resetReport
  extract_lets +onlyGivenNames x1
  clear_value x1
  refine Keeps.ite ?_ ?_
  · exact State.setChain_keeps (State.txPlain_keeps h1)
  · exact h1

theorem State.chainBoundary_keeps {s0 : State} {s : State} (h1 : Keeps s0 s) : Keeps s0 s.chainBoundary := by
  unfold State.chainBoundary
  extract_lets +onlyGivenNames x1
  have k1 : Keeps s0 x1 := State.resetReport_keeps (State.ackPeriod_keeps (State.returnCpls_keeps (State.forwardEvents_keeps (State.startFields_keeps (State.dealBegin_keeps (State.rangeBack_keeps (State.rangeBack_keeps h1)))))))
  clear_value x1
  extract_lets +onlyGivenNames x2
  have k2 : Keeps s0 x2 := by
    unfold x2
    exact Keeps.same k1 rfl rfl rfl rfl
  clear_value x2
  extract_lets +onlyGivenNames x3
  clear_value x3
  extract_lets +onlyGivenNames x4
  clear_value x4
  extract_lets +onlyGivenNames x5
  clear_value x5
  extract_lets +onlyGivenNames x6
  have k6 : Keeps s0 x6 := by
    unfold x6
    with_reducible apply State.lendReport_keeps
    exact Keeps.same k2 rfl rfl rfl rfl
  clear_value x6
  exact State.sendUp_keeps (State.sendDown_keeps k6)

theorem State.frameEnds_keeps {s0 : State} {s : State} {x : FrameInputs} (h1 : Keeps s0 s) : Keeps s0 (s.frameEnds x) := by
  unfold State.frameEnds
  extract_lets +onlyGivenNames x1
  have k1 : Keeps s0 x1 := State.lowPass_keeps (State.routerPass_keeps (State.ringsEnd_keeps h1))
  clear_value x1
  extract_lets +onlyGivenNames x2
  have k2 : Keeps s0 x2 := State.xpStrike_keeps k1
  clear_value x2
  extract_lets +onlyGivenNames x3
  have k3 : Keeps s0 x3 := by
    unfold x3
    exact Keeps.same k2 rfl rfl rfl rfl
  clear_value x3
  exact State.eventsWrite_keeps k3

theorem State.portsBoundary_keeps {s0 : State} {s : State} (h1 : Keeps s0 s) : Keeps s0 s.portsBoundary := by
  unfold State.portsBoundary
  extract_lets +onlyGivenNames x1
  have k1 : Keeps s0 x1 := by
    unfold x1
    refine Keeps.foldl ?_ ?_
    · intro x2 x3 x4
      exact State.portBoundary_keeps x4
    · exact State.routerTake_keeps h1
  clear_value x1
  extract_lets +onlyGivenNames x5
  have k5 : Keeps s0 x5 := by
    unfold x5
    refine Keeps.foldl ?_ ?_
    · intro x6 x7 x8
      refine Keeps.ite ?_ ?_
      · exact State.portTick_keeps x8
      · exact x8
    · exact State.spdBoundary_keeps k1
  clear_value x5
  exact State.brgInTick_keeps (State.brgOutTick_keeps (State.latchEdges_keeps k5))

theorem State.edgesBoundary_keeps {s0 : State} {s : State} {x : FrameInputs} (h1 : Keeps s0 s) : Keeps s0
    (s.edgesBoundary x) := by
  unfold State.edgesBoundary
  extract_lets +onlyGivenNames x1
  have k1 : Keeps s0 x1 := by
    unfold x1
    refine Keeps.foldl ?_ ?_
    · intro x2 x3 x4
      exact State.ainFrame_keeps x4
    · exact h1
  clear_value x1
  extract_lets +onlyGivenNames x5
  have k5 : Keeps s0 x5 := by
    unfold x5
    refine Keeps.foldl ?_ ?_
    · intro x6 x7 x8
      exact State.hqFrame_keeps x8
    · exact State.biasFrame_keeps k1
  clear_value x5
  extract_lets +onlyGivenNames x9
  have k9 : Keeps s0 x9 := State.put_keeps k5
  clear_value x9
  extract_lets +onlyGivenNames x10
  have k10 : Keeps s0 x10 := by
    unfold x10
    refine Keeps.foldl ?_ ?_
    · intro x11 x12 x13
      exact State.spkFrame_keeps x13
    · exact State.staggerFrame_keeps (State.carrierFrame_keeps k9)
  clear_value x10
  refine Keeps.foldl ?_ ?_
  · intro x14 x15 x16
    exact State.hpoFrame_keeps x16
  · exact k10

theorem State.controlBoundary_keeps {s0 : State} {s : State} {x : FrameInputs} (h1 : Keeps s0 s) : Keeps s0
    (s.controlBoundary x) := by
  unfold State.controlBoundary
  extract_lets +onlyGivenNames x1
  have k1 : Keeps s0 x1 := by
    unfold x1
    refine Keeps.foldl ?_ ?_
    · intro x2 x3 x4
      exact State.moveParams_keeps x4
    · exact h1
  clear_value x1
  extract_lets +onlyGivenNames x5
  have k5 : Keeps s0 x5 := State.proxyRelease_keeps (State.cplReleaseAll_keeps (State.ringsTick_keeps k1))
  clear_value x5
  extract_lets +onlyGivenNames x6
  have k6 : Keeps s0 x6 := by
    unfold x6
    refine Keeps.foldl ?_ ?_
    · intro x7 x8 x9
      exact State.monBoundary_keeps x9
    · exact State.put_keeps k5
  clear_value x6
  extract_lets +onlyGivenNames x10
  have k10 : Keeps s0 x10 := State.timeFrame_keeps k6
  clear_value x10
  exact State.entryBegin_keeps (State.idleBoundary_keeps (State.keepIdle_keeps (State.wdtFrame_keeps k10)))

theorem frameBoundary_keeps {s0 : State} {x : FrameInputs} {s : State} (h2 : Keeps s0 s) : Keeps s0 (frameBoundary x s)
    := by
  unfold frameBoundary
  refine Keeps.ite ?_ ?_
  · exact h2
  · exact State.chainBoundary_keeps (State.controlBoundary_keeps (State.edgesBoundary_keeps (State.portsBoundary_keeps (State.frameEnds_keeps h2))))

theorem domainBStrobe_keeps {s0 : State} {phase : ℕ} {s : State} (h2 : Keeps s0 s) : Keeps s0 (domainBStrobe phase s) := by
  unfold domainBStrobe
  refine Keeps.ite ?_ ?_
  · exact h2
  · extract_lets +onlyGivenNames x1
    have k1 : Keeps s0 x1 := State.routerTake_keeps (State.dombStrobe_keeps h2)
    clear_value x1
    extract_lets +onlyGivenNames x2
    have k2 : Keeps s0 x2 := by
      unfold x2
      exact Keeps.same k1 rfl rfl rfl rfl
    clear_value x2
    extract_lets +onlyGivenNames x3
    have k3 : Keeps s0 x3 := by
      unfold x3
      refine Keeps.foldl ?_ ?_
      · intro x4 x5 x6
        exact State.portStrobeB_keeps x6
      · exact k2
    clear_value x3
    extract_lets +onlyGivenNames x7
    have k7 : Keeps s0 x7 := by
      unfold x7
      refine Keeps.foldl ?_ ?_
      · intro x8 x9 x10
        refine Keeps.ite ?_ ?_
        · exact State.portTick_keeps x10
        · exact x10
      · exact k3
    clear_value x7
    extract_lets +onlyGivenNames x11
    have k11 : Keeps s0 x11 := State.latchEdges_keeps (State.spdRxTick_keeps (State.spdTxTick_keeps k7))
    clear_value x11
    exact State.routerPass_keeps (State.brgInTick_keeps (State.brgOutTick_keeps k11))

theorem State.standbyFrames_keeps {s0 : State} {s : State} (h1 : Keeps s0 s) : Keeps s0 s.standbyFrames := by
  unfold State.standbyFrames
  refine Keeps.ite ?_ ?_
  · exact Keeps.same h1 rfl rfl rfl rfl
  · exact h1

theorem domainCStrobe_keeps {s0 : State} {pcm : List ℤ} {phase : ℕ} {s : State} (h3 : Keeps s0 s) : Keeps s0
    (domainCStrobe pcm phase s) := by
  unfold domainCStrobe
  refine Keeps.ite ?_ ?_
  · exact h3
  · extract_lets +onlyGivenNames x1
    have k1 : Keeps s0 x1 := State.routerTake_keeps (State.standbyFrames_keeps h3)
    clear_value x1
    extract_lets +onlyGivenNames x2
    have k2 : Keeps s0 x2 := by
      unfold x2
      exact Keeps.same k1 rfl rfl rfl rfl
    clear_value x2
    extract_lets +onlyGivenNames x3
    have k3 : Keeps s0 x3 := State.latchEdges_keeps (State.domcStep_keeps k2)
    clear_value x3
    extract_lets +onlyGivenNames x4
    have k4 : Keeps s0 x4 := State.routerPass_keeps (State.brgInTick_keeps (State.brgOutTick_keeps k3))
    clear_value x4
    extract_lets +onlyGivenNames x5
    have k5 : Keeps s0 x5 := State.archStrobe_keeps k4
    clear_value x5
    extract_lets +onlyGivenNames x6
    have k6 : Keeps s0 x6 := by
      unfold x6
      refine Keeps.foldl ?_ ?_
      · intro x7 x8 x9
        exact State.lpStrobe_keeps x9
      · exact k5
    clear_value x6
    exact State.hoStrobe_keeps k6

end Sys2Proof.Machine
end

