-- ==== Sys2Proof/Laws/State.lean ====
section
/-! SUPPORT. Reading the state after an update: a register field after a write, and every field that an update leaves alone. -/

namespace Sys2Proof.Machine

variable (s : State)

/-! ### Register fields -/

@[simp] theorem State.get_put_same (f : Fld) (v : Nat) : (s.put f v).get f = v % 2 ^ f.width := by
  exact (mapGet_set _ _ _ _ _).trans (if_pos rfl)

/-- A field with another key keeps its value. -/
theorem State.get_put_ne {f g : Fld} (v : Nat) (h : Fld.key g ≠ Fld.key f) : (s.put f v).get g = s.get g :=
  mapGet_set_other h

/-- What a field reads depends on the registers alone. -/
theorem State.get_congr {s t : State} (h : t.regs = s.regs) (f : Fld) : t.get f = s.get f := by
  unfold State.get; rw [h]

theorem State.bumpBy_eq (f : Fld) (n : Nat) : s.bumpBy f n = s.put f (satNat f.width (s.get f + n)) := rfl

theorem State.bump_eq (f : Fld) : s.bump f = s.put f (satNat f.width (s.get f + 1)) := rfl

theorem State.setBit_eq (f : Fld) (i : Nat) : s.setBit f i = s.put f (setBitN (s.get f) i) := rfl

theorem State.clrBit_eq (f : Fld) (i : Nat) : s.clrBit f i = s.put f (clrBitN (s.get f) i) := rfl

theorem State.get_lt_of_put (f : Fld) (v : Nat) : (s.put f v).get f < 2 ^ f.width := by
  rw [State.get_put_same]; exact Nat.mod_lt _ (Nat.two_pow_pos _)

/-! ### The keyed parts -/

@[simp] theorem State.tile_setTile_same (t : Nat) (x : Tile) : (s.setTile t x).tile t = x := by
  exact (mapGet_set _ _ _ _ _).trans (if_pos rfl)

theorem State.tile_setTile_ne {t u : Nat} (x : Tile) (h : u ≠ t) : (s.setTile t x).tile u = s.tile u := by
  exact (mapGet_set _ _ _ _ _).trans (if_neg h)

@[simp] theorem State.xp_setXp_same (x : Nat) (v : Xp) : (s.setXp x v).xp x = v := by
  exact (mapGet_set _ _ _ _ _).trans (if_pos rfl)

theorem State.xp_setXp_ne {x y : Nat} (v : Xp) (h : y ≠ x) : (s.setXp x v).xp y = s.xp y := by
  exact (mapGet_set _ _ _ _ _).trans (if_neg h)

@[simp] theorem State.ring_setRing_same (r : Nat) (v : Ring) : (s.setRing r v).ring r = v := by
  exact (mapGet_set _ _ _ _ _).trans (if_pos rfl)

theorem State.ring_setRing_ne {r q : Nat} (v : Ring) (h : q ≠ r) : (s.setRing r v).ring q = s.ring q := by
  exact (mapGet_set _ _ _ _ _).trans (if_neg h)

@[simp] theorem State.get_setTile (t : Nat) (x : Tile) (f : Fld) : (s.setTile t x).get f = s.get f := rfl
@[simp] theorem State.get_setXp (x : Nat) (v : Xp) (f : Fld) : (s.setXp x v).get f = s.get f := rfl
@[simp] theorem State.get_setRing (r : Nat) (v : Ring) (f : Fld) : (s.setRing r v).get f = s.get f := rfl
@[simp] theorem State.tile_put (f : Fld) (v t : Nat) : (s.put f v).tile t = s.tile t := rfl
@[simp] theorem State.xp_put (f : Fld) (v x : Nat) : (s.put f v).xp x = s.xp x := rfl
@[simp] theorem State.ring_put (f : Fld) (v r : Nat) : (s.put f v).ring r = s.ring r := rfl
@[simp] theorem State.memByte_put (f : Fld) (v a : Nat) : (s.put f v).memByte a = s.memByte a := rfl
@[simp] theorem State.memWord_put (f : Fld) (v a : Nat) : (s.put f v).memWord a = s.memWord a := rfl
@[simp] theorem State.mark_put (f : Fld) (v a : Nat) : (s.put f v).mark a = s.mark a := rfl
@[simp] theorem State.memByte_setTile (t : Nat) (x : Tile) (a : Nat) : (s.setTile t x).memByte a = s.memByte a := rfl
@[simp] theorem State.memWord_setTile (t : Nat) (x : Tile) (a : Nat) : (s.setTile t x).memWord a = s.memWord a := rfl
@[simp] theorem State.mark_setTile (t : Nat) (x : Tile) (a : Nat) : (s.setTile t x).mark a = s.mark a := rfl
@[simp] theorem State.ring_setTile (t : Nat) (x : Tile) (r : Nat) : (s.setTile t x).ring r = s.ring r := rfl
@[simp] theorem State.tile_setRing (r : Nat) (v : Ring) (t : Nat) : (s.setRing r v).tile t = s.tile t := rfl

/-- The byte read after a byte written. -/
theorem State.memByte_memPutByte (a b : Nat) (v : Byte) :
    (s.memPutByte a v).memByte b = if b = a then v else s.memByte b := mapGet_set _ _ _ _ _

/-! ### What `put` leaves alone -/

@[simp] theorem State.put_pending (f : Fld) (v : Nat) : (s.put f v).pending = s.pending := rfl
@[simp] theorem State.put_mem (f : Fld) (v : Nat) : (s.put f v).mem = s.mem := rfl
@[simp] theorem State.put_ecc (f : Fld) (v : Nat) : (s.put f v).ecc = s.ecc := rfl
@[simp] theorem State.put_wb (f : Fld) (v : Nat) : (s.put f v).wb = s.wb := rfl
@[simp] theorem State.put_peaks (f : Fld) (v : Nat) : (s.put f v).peaks = s.peaks := rfl
@[simp] theorem State.put_fresh (f : Fld) (v : Nat) : (s.put f v).fresh = s.fresh := rfl
@[simp] theorem State.put_frame (f : Fld) (v : Nat) : (s.put f v).frame = s.frame := rfl
@[simp] theorem State.put_tickA (f : Fld) (v : Nat) : (s.put f v).tickA = s.tickA := rfl
@[simp] theorem State.put_tickB (f : Fld) (v : Nat) : (s.put f v).tickB = s.tickB := rfl
@[simp] theorem State.put_tickC (f : Fld) (v : Nat) : (s.put f v).tickC = s.tickC := rfl
@[simp] theorem State.put_evq (f : Fld) (v : Nat) : (s.put f v).evq = s.evq := rfl
@[simp] theorem State.put_fwdq (f : Fld) (v : Nat) : (s.put f v).fwdq = s.fwdq := rfl
@[simp] theorem State.put_occ (f : Fld) (v : Nat) : (s.put f v).occ = s.occ := rfl
@[simp] theorem State.put_tiles (f : Fld) (v : Nat) : (s.put f v).tiles = s.tiles := rfl
@[simp] theorem State.put_lanes (f : Fld) (v : Nat) : (s.put f v).lanes = s.lanes := rfl
@[simp] theorem State.put_paramq (f : Fld) (v : Nat) : (s.put f v).paramq = s.paramq := rfl
@[simp] theorem State.put_edgeIn (f : Fld) (v : Nat) : (s.put f v).edgeIn = s.edgeIn := rfl
@[simp] theorem State.put_edgeNew (f : Fld) (v : Nat) : (s.put f v).edgeNew = s.edgeNew := rfl
@[simp] theorem State.put_edgeNext (f : Fld) (v : Nat) : (s.put f v).edgeNext = s.edgeNext := rfl
@[simp] theorem State.put_edgeOut (f : Fld) (v : Nat) : (s.put f v).edgeOut = s.edgeOut := rfl
@[simp] theorem State.put_xpre (f : Fld) (v : Nat) : (s.put f v).xpre = s.xpre := rfl
@[simp] theorem State.put_lowSum (f : Fld) (v : Nat) : (s.put f v).lowSum = s.lowSum := rfl
@[simp] theorem State.put_xback (f : Fld) (v : Nat) : (s.put f v).xback = s.xback := rfl
@[simp] theorem State.put_xps (f : Fld) (v : Nat) : (s.put f v).xps = s.xps := rfl
@[simp] theorem State.put_xpEcc (f : Fld) (v : Nat) : (s.put f v).xpEcc = s.xpEcc := rfl
@[simp] theorem State.put_rings (f : Fld) (v : Nat) : (s.put f v).rings = s.rings := rfl
@[simp] theorem State.put_annals (f : Fld) (v : Nat) : (s.put f v).annals = s.annals := rfl
@[simp] theorem State.put_nvs (f : Fld) (v : Nat) : (s.put f v).nvs = s.nvs := rfl
@[simp] theorem State.put_isHead (f : Fld) (v : Nat) : (s.put f v).isHead = s.isHead := rfl
@[simp] theorem State.put_testq (f : Fld) (v : Nat) : (s.put f v).testq = s.testq := rfl
@[simp] theorem State.put_loadAll (f : Fld) (v : Nat) : (s.put f v).loadAll = s.loadAll := rfl
@[simp] theorem State.put_loadShelf (f : Fld) (v : Nat) : (s.put f v).loadShelf = s.loadShelf := rfl
@[simp] theorem State.put_cplOut (f : Fld) (v : Nat) : (s.put f v).cplOut = s.cplOut := rfl
@[simp] theorem State.put_groups (f : Fld) (v : Nat) : (s.put f v).groups = s.groups := rfl
@[simp] theorem State.put_frB (f : Fld) (v : Nat) : (s.put f v).frB = s.frB := rfl
@[simp] theorem State.put_frC (f : Fld) (v : Nat) : (s.put f v).frC = s.frC := rfl
@[simp] theorem State.put_ports (f : Fld) (v : Nat) : (s.put f v).ports = s.ports := rfl
@[simp] theorem State.put_spd (f : Fld) (v : Nat) : (s.put f v).spd = s.spd := rfl
@[simp] theorem State.put_brgs (f : Fld) (v : Nat) : (s.put f v).brgs = s.brgs := rfl
@[simp] theorem State.put_holdSince (f : Fld) (v : Nat) : (s.put f v).holdSince = s.holdSince := rfl
@[simp] theorem State.put_dombFree (f : Fld) (v : Nat) : (s.put f v).dombFree = s.dombFree := rfl
@[simp] theorem State.put_monStop (f : Fld) (v : Nat) : (s.put f v).monStop = s.monStop := rfl
@[simp] theorem State.put_monRate (f : Fld) (v : Nat) : (s.put f v).monRate = s.monRate := rfl
@[simp] theorem State.put_slewTotal (f : Fld) (v : Nat) : (s.put f v).slewTotal = s.slewTotal := rfl
@[simp] theorem State.put_slewOffset (f : Fld) (v : Nat) : (s.put f v).slewOffset = s.slewOffset := rfl
@[simp] theorem State.put_heldB (f : Fld) (v : Nat) : (s.put f v).heldB = s.heldB := rfl
@[simp] theorem State.put_ains (f : Fld) (v : Nat) : (s.put f v).ains = s.ains := rfl
@[simp] theorem State.put_biasRamp (f : Fld) (v : Nat) : (s.put f v).biasRamp = s.biasRamp := rfl
@[simp] theorem State.put_biasLeft (f : Fld) (v : Nat) : (s.put f v).biasLeft = s.biasLeft := rfl
@[simp] theorem State.put_hqOff (f : Fld) (v : Nat) : (s.put f v).hqOff = s.hqOff := rfl
@[simp] theorem State.put_micMute (f : Fld) (v : Nat) : (s.put f v).micMute = s.micMute := rfl
@[simp] theorem State.put_hqWin (f : Fld) (v : Nat) : (s.put f v).hqWin = s.hqWin := rfl
@[simp] theorem State.put_lpWin (f : Fld) (v : Nat) : (s.put f v).lpWin = s.lpWin := rfl
@[simp] theorem State.put_micAt (f : Fld) (v : Nat) : (s.put f v).micAt = s.micAt := rfl
@[simp] theorem State.put_wake (f : Fld) (v : Nat) : (s.put f v).wake = s.wake := rfl
@[simp] theorem State.put_carrier (f : Fld) (v : Nat) : (s.put f v).carrier = s.carrier := rfl
@[simp] theorem State.put_spks (f : Fld) (v : Nat) : (s.put f v).spks = s.spks := rfl
@[simp] theorem State.put_thermRed (f : Fld) (v : Nat) : (s.put f v).thermRed = s.thermRed := rfl
@[simp] theorem State.put_wakeReq (f : Fld) (v : Nat) : (s.put f v).wakeReq = s.wakeReq := rfl
@[simp] theorem State.put_detBias (f : Fld) (v : Nat) : (s.put f v).detBias = s.detBias := rfl
@[simp] theorem State.put_hpos (f : Fld) (v : Nat) : (s.put f v).hpos = s.hpos := rfl
@[simp] theorem State.put_jacks (f : Fld) (v : Nat) : (s.put f v).jacks = s.jacks := rfl
@[simp] theorem State.put_chain (f : Fld) (v : Nat) : (s.put f v).chain = s.chain := rfl
@[simp] theorem State.put_busOut (f : Fld) (v : Nat) : (s.put f v).busOut = s.busOut := rfl
@[simp] theorem State.put_busAddr (f : Fld) (v : Nat) : (s.put f v).busAddr = s.busAddr := rfl
@[simp] theorem State.put_busAwake (f : Fld) (v : Nat) : (s.put f v).busAwake = s.busAwake := rfl
@[simp] theorem State.put_busSnap (f : Fld) (v : Nat) : (s.put f v).busSnap = s.busSnap := rfl
@[simp] theorem State.put_fwdFatal (f : Fld) (v : Nat) : (s.put f v).fwdFatal = s.fwdFatal := rfl
@[simp] theorem State.put_auxq (f : Fld) (v : Nat) : (s.put f v).auxq = s.auxq := rfl
@[simp] theorem State.put_sectors (f : Fld) (v : Nat) : (s.put f v).sectors = s.sectors := rfl
@[simp] theorem State.put_sysSeq (f : Fld) (v : Nat) : (s.put f v).sysSeq = s.sysSeq := rfl
@[simp] theorem State.put_tlog (f : Fld) (v : Nat) : (s.put f v).tlog = s.tlog := rfl
@[simp] theorem State.put_keyUnset (f : Fld) (v : Nat) : (s.put f v).keyUnset = s.keyUnset := rfl
@[simp] theorem State.put_tests (f : Fld) (v : Nat) : (s.put f v).tests = s.tests := rfl
@[simp] theorem State.put_bankWait (f : Fld) (v : Nat) : (s.put f v).bankWait = s.bankWait := rfl
@[simp] theorem State.put_repairs (f : Fld) (v : Nat) : (s.put f v).repairs = s.repairs := rfl
@[simp] theorem State.put_retired (f : Fld) (v : Nat) : (s.put f v).retired = s.retired := rfl
@[simp] theorem State.put_canary (f : Fld) (v : Nat) : (s.put f v).canary = s.canary := rfl
@[simp] theorem State.put_loadMute (f : Fld) (v : Nat) : (s.put f v).loadMute = s.loadMute := rfl
@[simp] theorem State.put_foldAt (f : Fld) (v : Nat) : (s.put f v).foldAt = s.foldAt := rfl
@[simp] theorem State.put_thermAt (f : Fld) (v : Nat) : (s.put f v).thermAt = s.thermAt := rfl
@[simp] theorem State.put_wdtCount (f : Fld) (v : Nat) : (s.put f v).wdtCount = s.wdtCount := rfl
@[simp] theorem State.put_wdtReset (f : Fld) (v : Nat) : (s.put f v).wdtReset = s.wdtReset := rfl
@[simp] theorem State.put_rst (f : Fld) (v : Nat) : (s.put f v).rst = s.rst := rfl
@[simp] theorem State.put_plTo (f : Fld) (v : Nat) : (s.put f v).plTo = s.plTo := rfl
@[simp] theorem State.put_plWait (f : Fld) (v : Nat) : (s.put f v).plWait = s.plWait := rfl
@[simp] theorem State.put_plLate (f : Fld) (v : Nat) : (s.put f v).plLate = s.plLate := rfl
@[simp] theorem State.put_loadMin (f : Fld) (v : Nat) : (s.put f v).loadMin = s.loadMin := rfl
@[simp] theorem State.put_idleAt (f : Fld) (v : Nat) : (s.put f v).idleAt = s.idleAt := rfl
@[simp] theorem State.put_dormBus (f : Fld) (v : Nat) : (s.put f v).dormBus = s.dormBus := rfl
@[simp] theorem State.put_scrubBank (f : Fld) (v : Nat) : (s.put f v).scrubBank = s.scrubBank := rfl
@[simp] theorem State.put_hkaScan (f : Fld) (v : Nat) : (s.put f v).hkaScan = s.hkaScan := rfl
@[simp] theorem State.put_hkaConv (f : Fld) (v : Nat) : (s.put f v).hkaConv = s.hkaConv := rfl
@[simp] theorem State.put_hkaQueued (f : Fld) (v : Nat) : (s.put f v).hkaQueued = s.hkaQueued := rfl
@[simp] theorem State.put_cals (f : Fld) (v : Nat) : (s.put f v).cals = s.cals := rfl
@[simp] theorem State.put_calTemps (f : Fld) (v : Nat) : (s.put f v).calTemps = s.calTemps := rfl
@[simp] theorem State.put_curUsed (f : Fld) (v : Nat) : (s.put f v).curUsed = s.curUsed := rfl
@[simp] theorem State.put_curHalt (f : Fld) (v : Nat) : (s.put f v).curHalt = s.curHalt := rfl
@[simp] theorem State.put_clips (f : Fld) (v : Nat) : (s.put f v).clips = s.clips := rfl
@[simp] theorem State.put_telq (f : Fld) (v : Nat) : (s.put f v).telq = s.telq := rfl
@[simp] theorem State.put_telRun (f : Fld) (v : Nat) : (s.put f v).telRun = s.telRun := rfl
@[simp] theorem State.put_hkaLock (f : Fld) (v : Nat) : (s.put f v).hkaLock = s.hkaLock := rfl
@[simp] theorem State.put_tachLast (f : Fld) (v : Nat) : (s.put f v).tachLast = s.tachLast := rfl
@[simp] theorem State.put_tachGood (f : Fld) (v : Nat) : (s.put f v).tachGood = s.tachGood := rfl
@[simp] theorem State.put_tachLost (f : Fld) (v : Nat) : (s.put f v).tachLost = s.tachLost := rfl
@[simp] theorem State.put_hkaOut (f : Fld) (v : Nat) : (s.put f v).hkaOut = s.hkaOut := rfl
@[simp] theorem State.put_flash (f : Fld) (v : Nat) : (s.put f v).flash = s.flash := rfl
@[simp] theorem State.put_load (f : Fld) (v : Nat) : (s.put f v).load = s.load := rfl
@[simp] theorem State.put_lends (f : Fld) (v : Nat) : (s.put f v).lends = s.lends := rfl
@[simp] theorem State.put_lendOut (f : Fld) (v : Nat) : (s.put f v).lendOut = s.lendOut := rfl
@[simp] theorem State.put_lendIn (f : Fld) (v : Nat) : (s.put f v).lendIn = s.lendIn := rfl
@[simp] theorem State.put_lendRelay (f : Fld) (v : Nat) : (s.put f v).lendRelay = s.lendRelay := rfl
@[simp] theorem State.put_lendEnds (f : Fld) (v : Nat) : (s.put f v).lendEnds = s.lendEnds := rfl
@[simp] theorem State.put_lendHeld (f : Fld) (v : Nat) : (s.put f v).lendHeld = s.lendHeld := rfl
@[simp] theorem State.put_lendMsgs (f : Fld) (v : Nat) : (s.put f v).lendMsgs = s.lendMsgs := rfl
@[simp] theorem State.put_bootSlot (f : Fld) (v : Nat) : (s.put f v).bootSlot = s.bootSlot := rfl
@[simp] theorem State.put_bootAt (f : Fld) (v : Nat) : (s.put f v).bootAt = s.bootAt := rfl
@[simp] theorem State.put_portHold (f : Fld) (v : Nat) : (s.put f v).portHold = s.portHold := rfl
@[simp] theorem State.put_chainSlots (f : Fld) (v : Nat) : (s.put f v).chainSlots = s.chainSlots := rfl
@[simp] theorem State.put_chainRamp (f : Fld) (v : Nat) : (s.put f v).chainRamp = s.chainRamp := rfl

/-! ### What `setTile` leaves alone -/

@[simp] theorem State.setTile_pending (t : Nat) (x : Tile) : (s.setTile t x).pending = s.pending := rfl
@[simp] theorem State.setTile_regs (t : Nat) (x : Tile) : (s.setTile t x).regs = s.regs := rfl
@[simp] theorem State.setTile_mem (t : Nat) (x : Tile) : (s.setTile t x).mem = s.mem := rfl
@[simp] theorem State.setTile_ecc (t : Nat) (x : Tile) : (s.setTile t x).ecc = s.ecc := rfl
@[simp] theorem State.setTile_wb (t : Nat) (x : Tile) : (s.setTile t x).wb = s.wb := rfl
@[simp] theorem State.setTile_peaks (t : Nat) (x : Tile) : (s.setTile t x).peaks = s.peaks := rfl
@[simp] theorem State.setTile_fresh (t : Nat) (x : Tile) : (s.setTile t x).fresh = s.fresh := rfl
@[simp] theorem State.setTile_frame (t : Nat) (x : Tile) : (s.setTile t x).frame = s.frame := rfl
@[simp] theorem State.setTile_tickA (t : Nat) (x : Tile) : (s.setTile t x).tickA = s.tickA := rfl
@[simp] theorem State.setTile_tickB (t : Nat) (x : Tile) : (s.setTile t x).tickB = s.tickB := rfl
@[simp] theorem State.setTile_tickC (t : Nat) (x : Tile) : (s.setTile t x).tickC = s.tickC := rfl
@[simp] theorem State.setTile_evq (t : Nat) (x : Tile) : (s.setTile t x).evq = s.evq := rfl
@[simp] theorem State.setTile_fwdq (t : Nat) (x : Tile) : (s.setTile t x).fwdq = s.fwdq := rfl
@[simp] theorem State.setTile_occ (t : Nat) (x : Tile) : (s.setTile t x).occ = s.occ := rfl
@[simp] theorem State.setTile_lanes (t : Nat) (x : Tile) : (s.setTile t x).lanes = s.lanes := rfl
@[simp] theorem State.setTile_paramq (t : Nat) (x : Tile) : (s.setTile t x).paramq = s.paramq := rfl
@[simp] theorem State.setTile_edgeIn (t : Nat) (x : Tile) : (s.setTile t x).edgeIn = s.edgeIn := rfl
@[simp] theorem State.setTile_edgeNew (t : Nat) (x : Tile) : (s.setTile t x).edgeNew = s.edgeNew := rfl
@[simp] theorem State.setTile_edgeNext (t : Nat) (x : Tile) : (s.setTile t x).edgeNext = s.edgeNext := rfl
@[simp] theorem State.setTile_edgeOut (t : Nat) (x : Tile) : (s.setTile t x).edgeOut = s.edgeOut := rfl
@[simp] theorem State.setTile_xpre (t : Nat) (x : Tile) : (s.setTile t x).xpre = s.xpre := rfl
@[simp] theorem State.setTile_lowSum (t : Nat) (x : Tile) : (s.setTile t x).lowSum = s.lowSum := rfl
@[simp] theorem State.setTile_xback (t : Nat) (x : Tile) : (s.setTile t x).xback = s.xback := rfl
@[simp] theorem State.setTile_xps (t : Nat) (x : Tile) : (s.setTile t x).xps = s.xps := rfl
@[simp] theorem State.setTile_xpEcc (t : Nat) (x : Tile) : (s.setTile t x).xpEcc = s.xpEcc := rfl
@[simp] theorem State.setTile_rings (t : Nat) (x : Tile) : (s.setTile t x).rings = s.rings := rfl
@[simp] theorem State.setTile_annals (t : Nat) (x : Tile) : (s.setTile t x).annals = s.annals := rfl
@[simp] theorem State.setTile_nvs (t : Nat) (x : Tile) : (s.setTile t x).nvs = s.nvs := rfl
@[simp] theorem State.setTile_isHead (t : Nat) (x : Tile) : (s.setTile t x).isHead = s.isHead := rfl
@[simp] theorem State.setTile_testq (t : Nat) (x : Tile) : (s.setTile t x).testq = s.testq := rfl
@[simp] theorem State.setTile_loadAll (t : Nat) (x : Tile) : (s.setTile t x).loadAll = s.loadAll := rfl
@[simp] theorem State.setTile_loadShelf (t : Nat) (x : Tile) : (s.setTile t x).loadShelf = s.loadShelf := rfl
@[simp] theorem State.setTile_cplOut (t : Nat) (x : Tile) : (s.setTile t x).cplOut = s.cplOut := rfl
@[simp] theorem State.setTile_groups (t : Nat) (x : Tile) : (s.setTile t x).groups = s.groups := rfl
@[simp] theorem State.setTile_frB (t : Nat) (x : Tile) : (s.setTile t x).frB = s.frB := rfl
@[simp] theorem State.setTile_frC (t : Nat) (x : Tile) : (s.setTile t x).frC = s.frC := rfl
@[simp] theorem State.setTile_ports (t : Nat) (x : Tile) : (s.setTile t x).ports = s.ports := rfl
@[simp] theorem State.setTile_spd (t : Nat) (x : Tile) : (s.setTile t x).spd = s.spd := rfl
@[simp] theorem State.setTile_brgs (t : Nat) (x : Tile) : (s.setTile t x).brgs = s.brgs := rfl
@[simp] theorem State.setTile_holdSince (t : Nat) (x : Tile) : (s.setTile t x).holdSince = s.holdSince := rfl
@[simp] theorem State.setTile_dombFree (t : Nat) (x : Tile) : (s.setTile t x).dombFree = s.dombFree := rfl
@[simp] theorem State.setTile_monStop (t : Nat) (x : Tile) : (s.setTile t x).monStop = s.monStop := rfl
@[simp] theorem State.setTile_monRate (t : Nat) (x : Tile) : (s.setTile t x).monRate = s.monRate := rfl
@[simp] theorem State.setTile_slewTotal (t : Nat) (x : Tile) : (s.setTile t x).slewTotal = s.slewTotal := rfl
@[simp] theorem State.setTile_slewOffset (t : Nat) (x : Tile) : (s.setTile t x).slewOffset = s.slewOffset := rfl
@[simp] theorem State.setTile_heldB (t : Nat) (x : Tile) : (s.setTile t x).heldB = s.heldB := rfl
@[simp] theorem State.setTile_ains (t : Nat) (x : Tile) : (s.setTile t x).ains = s.ains := rfl
@[simp] theorem State.setTile_biasRamp (t : Nat) (x : Tile) : (s.setTile t x).biasRamp = s.biasRamp := rfl
@[simp] theorem State.setTile_biasLeft (t : Nat) (x : Tile) : (s.setTile t x).biasLeft = s.biasLeft := rfl
@[simp] theorem State.setTile_hqOff (t : Nat) (x : Tile) : (s.setTile t x).hqOff = s.hqOff := rfl
@[simp] theorem State.setTile_micMute (t : Nat) (x : Tile) : (s.setTile t x).micMute = s.micMute := rfl
@[simp] theorem State.setTile_hqWin (t : Nat) (x : Tile) : (s.setTile t x).hqWin = s.hqWin := rfl
@[simp] theorem State.setTile_lpWin (t : Nat) (x : Tile) : (s.setTile t x).lpWin = s.lpWin := rfl
@[simp] theorem State.setTile_micAt (t : Nat) (x : Tile) : (s.setTile t x).micAt = s.micAt := rfl
@[simp] theorem State.setTile_wake (t : Nat) (x : Tile) : (s.setTile t x).wake = s.wake := rfl
@[simp] theorem State.setTile_carrier (t : Nat) (x : Tile) : (s.setTile t x).carrier = s.carrier := rfl
@[simp] theorem State.setTile_spks (t : Nat) (x : Tile) : (s.setTile t x).spks = s.spks := rfl
@[simp] theorem State.setTile_thermRed (t : Nat) (x : Tile) : (s.setTile t x).thermRed = s.thermRed := rfl
@[simp] theorem State.setTile_wakeReq (t : Nat) (x : Tile) : (s.setTile t x).wakeReq = s.wakeReq := rfl
@[simp] theorem State.setTile_detBias (t : Nat) (x : Tile) : (s.setTile t x).detBias = s.detBias := rfl
@[simp] theorem State.setTile_hpos (t : Nat) (x : Tile) : (s.setTile t x).hpos = s.hpos := rfl
@[simp] theorem State.setTile_jacks (t : Nat) (x : Tile) : (s.setTile t x).jacks = s.jacks := rfl
@[simp] theorem State.setTile_chain (t : Nat) (x : Tile) : (s.setTile t x).chain = s.chain := rfl
@[simp] theorem State.setTile_busOut (t : Nat) (x : Tile) : (s.setTile t x).busOut = s.busOut := rfl
@[simp] theorem State.setTile_busAddr (t : Nat) (x : Tile) : (s.setTile t x).busAddr = s.busAddr := rfl
@[simp] theorem State.setTile_busAwake (t : Nat) (x : Tile) : (s.setTile t x).busAwake = s.busAwake := rfl
@[simp] theorem State.setTile_busSnap (t : Nat) (x : Tile) : (s.setTile t x).busSnap = s.busSnap := rfl
@[simp] theorem State.setTile_fwdFatal (t : Nat) (x : Tile) : (s.setTile t x).fwdFatal = s.fwdFatal := rfl
@[simp] theorem State.setTile_auxq (t : Nat) (x : Tile) : (s.setTile t x).auxq = s.auxq := rfl
@[simp] theorem State.setTile_sectors (t : Nat) (x : Tile) : (s.setTile t x).sectors = s.sectors := rfl
@[simp] theorem State.setTile_sysSeq (t : Nat) (x : Tile) : (s.setTile t x).sysSeq = s.sysSeq := rfl
@[simp] theorem State.setTile_tlog (t : Nat) (x : Tile) : (s.setTile t x).tlog = s.tlog := rfl
@[simp] theorem State.setTile_keyUnset (t : Nat) (x : Tile) : (s.setTile t x).keyUnset = s.keyUnset := rfl
@[simp] theorem State.setTile_tests (t : Nat) (x : Tile) : (s.setTile t x).tests = s.tests := rfl
@[simp] theorem State.setTile_bankWait (t : Nat) (x : Tile) : (s.setTile t x).bankWait = s.bankWait := rfl
@[simp] theorem State.setTile_repairs (t : Nat) (x : Tile) : (s.setTile t x).repairs = s.repairs := rfl
@[simp] theorem State.setTile_retired (t : Nat) (x : Tile) : (s.setTile t x).retired = s.retired := rfl
@[simp] theorem State.setTile_canary (t : Nat) (x : Tile) : (s.setTile t x).canary = s.canary := rfl
@[simp] theorem State.setTile_loadMute (t : Nat) (x : Tile) : (s.setTile t x).loadMute = s.loadMute := rfl
@[simp] theorem State.setTile_foldAt (t : Nat) (x : Tile) : (s.setTile t x).foldAt = s.foldAt := rfl
@[simp] theorem State.setTile_thermAt (t : Nat) (x : Tile) : (s.setTile t x).thermAt = s.thermAt := rfl
@[simp] theorem State.setTile_wdtCount (t : Nat) (x : Tile) : (s.setTile t x).wdtCount = s.wdtCount := rfl
@[simp] theorem State.setTile_wdtReset (t : Nat) (x : Tile) : (s.setTile t x).wdtReset = s.wdtReset := rfl
@[simp] theorem State.setTile_rst (t : Nat) (x : Tile) : (s.setTile t x).rst = s.rst := rfl
@[simp] theorem State.setTile_plTo (t : Nat) (x : Tile) : (s.setTile t x).plTo = s.plTo := rfl
@[simp] theorem State.setTile_plWait (t : Nat) (x : Tile) : (s.setTile t x).plWait = s.plWait := rfl
@[simp] theorem State.setTile_plLate (t : Nat) (x : Tile) : (s.setTile t x).plLate = s.plLate := rfl
@[simp] theorem State.setTile_loadMin (t : Nat) (x : Tile) : (s.setTile t x).loadMin = s.loadMin := rfl
@[simp] theorem State.setTile_idleAt (t : Nat) (x : Tile) : (s.setTile t x).idleAt = s.idleAt := rfl
@[simp] theorem State.setTile_dormBus (t : Nat) (x : Tile) : (s.setTile t x).dormBus = s.dormBus := rfl
@[simp] theorem State.setTile_scrubBank (t : Nat) (x : Tile) : (s.setTile t x).scrubBank = s.scrubBank := rfl
@[simp] theorem State.setTile_hkaScan (t : Nat) (x : Tile) : (s.setTile t x).hkaScan = s.hkaScan := rfl
@[simp] theorem State.setTile_hkaConv (t : Nat) (x : Tile) : (s.setTile t x).hkaConv = s.hkaConv := rfl
@[simp] theorem State.setTile_hkaQueued (t : Nat) (x : Tile) : (s.setTile t x).hkaQueued = s.hkaQueued := rfl
@[simp] theorem State.setTile_cals (t : Nat) (x : Tile) : (s.setTile t x).cals = s.cals := rfl
@[simp] theorem State.setTile_calTemps (t : Nat) (x : Tile) : (s.setTile t x).calTemps = s.calTemps := rfl
@[simp] theorem State.setTile_curUsed (t : Nat) (x : Tile) : (s.setTile t x).curUsed = s.curUsed := rfl
@[simp] theorem State.setTile_curHalt (t : Nat) (x : Tile) : (s.setTile t x).curHalt = s.curHalt := rfl
@[simp] theorem State.setTile_clips (t : Nat) (x : Tile) : (s.setTile t x).clips = s.clips := rfl
@[simp] theorem State.setTile_telq (t : Nat) (x : Tile) : (s.setTile t x).telq = s.telq := rfl
@[simp] theorem State.setTile_telRun (t : Nat) (x : Tile) : (s.setTile t x).telRun = s.telRun := rfl
@[simp] theorem State.setTile_hkaLock (t : Nat) (x : Tile) : (s.setTile t x).hkaLock = s.hkaLock := rfl
@[simp] theorem State.setTile_tachLast (t : Nat) (x : Tile) : (s.setTile t x).tachLast = s.tachLast := rfl
@[simp] theorem State.setTile_tachGood (t : Nat) (x : Tile) : (s.setTile t x).tachGood = s.tachGood := rfl
@[simp] theorem State.setTile_tachLost (t : Nat) (x : Tile) : (s.setTile t x).tachLost = s.tachLost := rfl
@[simp] theorem State.setTile_hkaOut (t : Nat) (x : Tile) : (s.setTile t x).hkaOut = s.hkaOut := rfl
@[simp] theorem State.setTile_flash (t : Nat) (x : Tile) : (s.setTile t x).flash = s.flash := rfl
@[simp] theorem State.setTile_load (t : Nat) (x : Tile) : (s.setTile t x).load = s.load := rfl
@[simp] theorem State.setTile_lends (t : Nat) (x : Tile) : (s.setTile t x).lends = s.lends := rfl
@[simp] theorem State.setTile_lendOut (t : Nat) (x : Tile) : (s.setTile t x).lendOut = s.lendOut := rfl
@[simp] theorem State.setTile_lendIn (t : Nat) (x : Tile) : (s.setTile t x).lendIn = s.lendIn := rfl
@[simp] theorem State.setTile_lendRelay (t : Nat) (x : Tile) : (s.setTile t x).lendRelay = s.lendRelay := rfl
@[simp] theorem State.setTile_lendEnds (t : Nat) (x : Tile) : (s.setTile t x).lendEnds = s.lendEnds := rfl
@[simp] theorem State.setTile_lendHeld (t : Nat) (x : Tile) : (s.setTile t x).lendHeld = s.lendHeld := rfl
@[simp] theorem State.setTile_lendMsgs (t : Nat) (x : Tile) : (s.setTile t x).lendMsgs = s.lendMsgs := rfl
@[simp] theorem State.setTile_bootSlot (t : Nat) (x : Tile) : (s.setTile t x).bootSlot = s.bootSlot := rfl
@[simp] theorem State.setTile_bootAt (t : Nat) (x : Tile) : (s.setTile t x).bootAt = s.bootAt := rfl
@[simp] theorem State.setTile_portHold (t : Nat) (x : Tile) : (s.setTile t x).portHold = s.portHold := rfl
@[simp] theorem State.setTile_chainSlots (t : Nat) (x : Tile) : (s.setTile t x).chainSlots = s.chainSlots := rfl
@[simp] theorem State.setTile_chainRamp (t : Nat) (x : Tile) : (s.setTile t x).chainRamp = s.chainRamp := rfl

/-! ### What `setXp` leaves alone -/

@[simp] theorem State.setXp_pending (x : Nat) (v : Xp) : (s.setXp x v).pending = s.pending := rfl
@[simp] theorem State.setXp_regs (x : Nat) (v : Xp) : (s.setXp x v).regs = s.regs := rfl
@[simp] theorem State.setXp_mem (x : Nat) (v : Xp) : (s.setXp x v).mem = s.mem := rfl
@[simp] theorem State.setXp_ecc (x : Nat) (v : Xp) : (s.setXp x v).ecc = s.ecc := rfl
@[simp] theorem State.setXp_wb (x : Nat) (v : Xp) : (s.setXp x v).wb = s.wb := rfl
@[simp] theorem State.setXp_peaks (x : Nat) (v : Xp) : (s.setXp x v).peaks = s.peaks := rfl
@[simp] theorem State.setXp_fresh (x : Nat) (v : Xp) : (s.setXp x v).fresh = s.fresh := rfl
@[simp] theorem State.setXp_frame (x : Nat) (v : Xp) : (s.setXp x v).frame = s.frame := rfl
@[simp] theorem State.setXp_tickA (x : Nat) (v : Xp) : (s.setXp x v).tickA = s.tickA := rfl
@[simp] theorem State.setXp_tickB (x : Nat) (v : Xp) : (s.setXp x v).tickB = s.tickB := rfl
@[simp] theorem State.setXp_tickC (x : Nat) (v : Xp) : (s.setXp x v).tickC = s.tickC := rfl
@[simp] theorem State.setXp_evq (x : Nat) (v : Xp) : (s.setXp x v).evq = s.evq := rfl
@[simp] theorem State.setXp_fwdq (x : Nat) (v : Xp) : (s.setXp x v).fwdq = s.fwdq := rfl
@[simp] theorem State.setXp_occ (x : Nat) (v : Xp) : (s.setXp x v).occ = s.occ := rfl
@[simp] theorem State.setXp_tiles (x : Nat) (v : Xp) : (s.setXp x v).tiles = s.tiles := rfl
@[simp] theorem State.setXp_lanes (x : Nat) (v : Xp) : (s.setXp x v).lanes = s.lanes := rfl
@[simp] theorem State.setXp_paramq (x : Nat) (v : Xp) : (s.setXp x v).paramq = s.paramq := rfl
@[simp] theorem State.setXp_edgeIn (x : Nat) (v : Xp) : (s.setXp x v).edgeIn = s.edgeIn := rfl
@[simp] theorem State.setXp_edgeNew (x : Nat) (v : Xp) : (s.setXp x v).edgeNew = s.edgeNew := rfl
@[simp] theorem State.setXp_edgeNext (x : Nat) (v : Xp) : (s.setXp x v).edgeNext = s.edgeNext := rfl
@[simp] theorem State.setXp_edgeOut (x : Nat) (v : Xp) : (s.setXp x v).edgeOut = s.edgeOut := rfl
@[simp] theorem State.setXp_xpre (x : Nat) (v : Xp) : (s.setXp x v).xpre = s.xpre := rfl
@[simp] theorem State.setXp_lowSum (x : Nat) (v : Xp) : (s.setXp x v).lowSum = s.lowSum := rfl
@[simp] theorem State.setXp_xback (x : Nat) (v : Xp) : (s.setXp x v).xback = s.xback := rfl
@[simp] theorem State.setXp_xpEcc (x : Nat) (v : Xp) : (s.setXp x v).xpEcc = s.xpEcc := rfl
@[simp] theorem State.setXp_rings (x : Nat) (v : Xp) : (s.setXp x v).rings = s.rings := rfl
@[simp] theorem State.setXp_annals (x : Nat) (v : Xp) : (s.setXp x v).annals = s.annals := rfl
@[simp] theorem State.setXp_nvs (x : Nat) (v : Xp) : (s.setXp x v).nvs = s.nvs := rfl
@[simp] theorem State.setXp_isHead (x : Nat) (v : Xp) : (s.setXp x v).isHead = s.isHead := rfl
@[simp] theorem State.setXp_testq (x : Nat) (v : Xp) : (s.setXp x v).testq = s.testq := rfl
@[simp] theorem State.setXp_loadAll (x : Nat) (v : Xp) : (s.setXp x v).loadAll = s.loadAll := rfl
@[simp] theorem State.setXp_loadShelf (x : Nat) (v : Xp) : (s.setXp x v).loadShelf = s.loadShelf := rfl
@[simp] theorem State.setXp_cplOut (x : Nat) (v : Xp) : (s.setXp x v).cplOut = s.cplOut := rfl
@[simp] theorem State.setXp_groups (x : Nat) (v : Xp) : (s.setXp x v).groups = s.groups := rfl
@[simp] theorem State.setXp_frB (x : Nat) (v : Xp) : (s.setXp x v).frB = s.frB := rfl
@[simp] theorem State.setXp_frC (x : Nat) (v : Xp) : (s.setXp x v).frC = s.frC := rfl
@[simp] theorem State.setXp_ports (x : Nat) (v : Xp) : (s.setXp x v).ports = s.ports := rfl
@[simp] theorem State.setXp_spd (x : Nat) (v : Xp) : (s.setXp x v).spd = s.spd := rfl
@[simp] theorem State.setXp_brgs (x : Nat) (v : Xp) : (s.setXp x v).brgs = s.brgs := rfl
@[simp] theorem State.setXp_holdSince (x : Nat) (v : Xp) : (s.setXp x v).holdSince = s.holdSince := rfl
@[simp] theorem State.setXp_dombFree (x : Nat) (v : Xp) : (s.setXp x v).dombFree = s.dombFree := rfl
@[simp] theorem State.setXp_monStop (x : Nat) (v : Xp) : (s.setXp x v).monStop = s.monStop := rfl
@[simp] theorem State.setXp_monRate (x : Nat) (v : Xp) : (s.setXp x v).monRate = s.monRate := rfl
@[simp] theorem State.setXp_slewTotal (x : Nat) (v : Xp) : (s.setXp x v).slewTotal = s.slewTotal := rfl
@[simp] theorem State.setXp_slewOffset (x : Nat) (v : Xp) : (s.setXp x v).slewOffset = s.slewOffset := rfl
@[simp] theorem State.setXp_heldB (x : Nat) (v : Xp) : (s.setXp x v).heldB = s.heldB := rfl
@[simp] theorem State.setXp_ains (x : Nat) (v : Xp) : (s.setXp x v).ains = s.ains := rfl
@[simp] theorem State.setXp_biasRamp (x : Nat) (v : Xp) : (s.setXp x v).biasRamp = s.biasRamp := rfl
@[simp] theorem State.setXp_biasLeft (x : Nat) (v : Xp) : (s.setXp x v).biasLeft = s.biasLeft := rfl
@[simp] theorem State.setXp_hqOff (x : Nat) (v : Xp) : (s.setXp x v).hqOff = s.hqOff := rfl
@[simp] theorem State.setXp_micMute (x : Nat) (v : Xp) : (s.setXp x v).micMute = s.micMute := rfl
@[simp] theorem State.setXp_hqWin (x : Nat) (v : Xp) : (s.setXp x v).hqWin = s.hqWin := rfl
@[simp] theorem State.setXp_lpWin (x : Nat) (v : Xp) : (s.setXp x v).lpWin = s.lpWin := rfl
@[simp] theorem State.setXp_micAt (x : Nat) (v : Xp) : (s.setXp x v).micAt = s.micAt := rfl
@[simp] theorem State.setXp_wake (x : Nat) (v : Xp) : (s.setXp x v).wake = s.wake := rfl
@[simp] theorem State.setXp_carrier (x : Nat) (v : Xp) : (s.setXp x v).carrier = s.carrier := rfl
@[simp] theorem State.setXp_spks (x : Nat) (v : Xp) : (s.setXp x v).spks = s.spks := rfl
@[simp] theorem State.setXp_thermRed (x : Nat) (v : Xp) : (s.setXp x v).thermRed = s.thermRed := rfl
@[simp] theorem State.setXp_wakeReq (x : Nat) (v : Xp) : (s.setXp x v).wakeReq = s.wakeReq := rfl
@[simp] theorem State.setXp_detBias (x : Nat) (v : Xp) : (s.setXp x v).detBias = s.detBias := rfl
@[simp] theorem State.setXp_hpos (x : Nat) (v : Xp) : (s.setXp x v).hpos = s.hpos := rfl
@[simp] theorem State.setXp_jacks (x : Nat) (v : Xp) : (s.setXp x v).jacks = s.jacks := rfl
@[simp] theorem State.setXp_chain (x : Nat) (v : Xp) : (s.setXp x v).chain = s.chain := rfl
@[simp] theorem State.setXp_busOut (x : Nat) (v : Xp) : (s.setXp x v).busOut = s.busOut := rfl
@[simp] theorem State.setXp_busAddr (x : Nat) (v : Xp) : (s.setXp x v).busAddr = s.busAddr := rfl
@[simp] theorem State.setXp_busAwake (x : Nat) (v : Xp) : (s.setXp x v).busAwake = s.busAwake := rfl
@[simp] theorem State.setXp_busSnap (x : Nat) (v : Xp) : (s.setXp x v).busSnap = s.busSnap := rfl
@[simp] theorem State.setXp_fwdFatal (x : Nat) (v : Xp) : (s.setXp x v).fwdFatal = s.fwdFatal := rfl
@[simp] theorem State.setXp_auxq (x : Nat) (v : Xp) : (s.setXp x v).auxq = s.auxq := rfl
@[simp] theorem State.setXp_sectors (x : Nat) (v : Xp) : (s.setXp x v).sectors = s.sectors := rfl
@[simp] theorem State.setXp_sysSeq (x : Nat) (v : Xp) : (s.setXp x v).sysSeq = s.sysSeq := rfl
@[simp] theorem State.setXp_tlog (x : Nat) (v : Xp) : (s.setXp x v).tlog = s.tlog := rfl
@[simp] theorem State.setXp_keyUnset (x : Nat) (v : Xp) : (s.setXp x v).keyUnset = s.keyUnset := rfl
@[simp] theorem State.setXp_tests (x : Nat) (v : Xp) : (s.setXp x v).tests = s.tests := rfl
@[simp] theorem State.setXp_bankWait (x : Nat) (v : Xp) : (s.setXp x v).bankWait = s.bankWait := rfl
@[simp] theorem State.setXp_repairs (x : Nat) (v : Xp) : (s.setXp x v).repairs = s.repairs := rfl
@[simp] theorem State.setXp_retired (x : Nat) (v : Xp) : (s.setXp x v).retired = s.retired := rfl
@[simp] theorem State.setXp_canary (x : Nat) (v : Xp) : (s.setXp x v).canary = s.canary := rfl
@[simp] theorem State.setXp_loadMute (x : Nat) (v : Xp) : (s.setXp x v).loadMute = s.loadMute := rfl
@[simp] theorem State.setXp_foldAt (x : Nat) (v : Xp) : (s.setXp x v).foldAt = s.foldAt := rfl
@[simp] theorem State.setXp_thermAt (x : Nat) (v : Xp) : (s.setXp x v).thermAt = s.thermAt := rfl
@[simp] theorem State.setXp_wdtCount (x : Nat) (v : Xp) : (s.setXp x v).wdtCount = s.wdtCount := rfl
@[simp] theorem State.setXp_wdtReset (x : Nat) (v : Xp) : (s.setXp x v).wdtReset = s.wdtReset := rfl
@[simp] theorem State.setXp_rst (x : Nat) (v : Xp) : (s.setXp x v).rst = s.rst := rfl
@[simp] theorem State.setXp_plTo (x : Nat) (v : Xp) : (s.setXp x v).plTo = s.plTo := rfl
@[simp] theorem State.setXp_plWait (x : Nat) (v : Xp) : (s.setXp x v).plWait = s.plWait := rfl
@[simp] theorem State.setXp_plLate (x : Nat) (v : Xp) : (s.setXp x v).plLate = s.plLate := rfl
@[simp] theorem State.setXp_loadMin (x : Nat) (v : Xp) : (s.setXp x v).loadMin = s.loadMin := rfl
@[simp] theorem State.setXp_idleAt (x : Nat) (v : Xp) : (s.setXp x v).idleAt = s.idleAt := rfl
@[simp] theorem State.setXp_dormBus (x : Nat) (v : Xp) : (s.setXp x v).dormBus = s.dormBus := rfl
@[simp] theorem State.setXp_scrubBank (x : Nat) (v : Xp) : (s.setXp x v).scrubBank = s.scrubBank := rfl
@[simp] theorem State.setXp_hkaScan (x : Nat) (v : Xp) : (s.setXp x v).hkaScan = s.hkaScan := rfl
@[simp] theorem State.setXp_hkaConv (x : Nat) (v : Xp) : (s.setXp x v).hkaConv = s.hkaConv := rfl
@[simp] theorem State.setXp_hkaQueued (x : Nat) (v : Xp) : (s.setXp x v).hkaQueued = s.hkaQueued := rfl
@[simp] theorem State.setXp_cals (x : Nat) (v : Xp) : (s.setXp x v).cals = s.cals := rfl
@[simp] theorem State.setXp_calTemps (x : Nat) (v : Xp) : (s.setXp x v).calTemps = s.calTemps := rfl
@[simp] theorem State.setXp_curUsed (x : Nat) (v : Xp) : (s.setXp x v).curUsed = s.curUsed := rfl
@[simp] theorem State.setXp_curHalt (x : Nat) (v : Xp) : (s.setXp x v).curHalt = s.curHalt := rfl
@[simp] theorem State.setXp_clips (x : Nat) (v : Xp) : (s.setXp x v).clips = s.clips := rfl
@[simp] theorem State.setXp_telq (x : Nat) (v : Xp) : (s.setXp x v).telq = s.telq := rfl
@[simp] theorem State.setXp_telRun (x : Nat) (v : Xp) : (s.setXp x v).telRun = s.telRun := rfl
@[simp] theorem State.setXp_hkaLock (x : Nat) (v : Xp) : (s.setXp x v).hkaLock = s.hkaLock := rfl
@[simp] theorem State.setXp_tachLast (x : Nat) (v : Xp) : (s.setXp x v).tachLast = s.tachLast := rfl
@[simp] theorem State.setXp_tachGood (x : Nat) (v : Xp) : (s.setXp x v).tachGood = s.tachGood := rfl
@[simp] theorem State.setXp_tachLost (x : Nat) (v : Xp) : (s.setXp x v).tachLost = s.tachLost := rfl
@[simp] theorem State.setXp_hkaOut (x : Nat) (v : Xp) : (s.setXp x v).hkaOut = s.hkaOut := rfl
@[simp] theorem State.setXp_flash (x : Nat) (v : Xp) : (s.setXp x v).flash = s.flash := rfl
@[simp] theorem State.setXp_load (x : Nat) (v : Xp) : (s.setXp x v).load = s.load := rfl
@[simp] theorem State.setXp_lends (x : Nat) (v : Xp) : (s.setXp x v).lends = s.lends := rfl
@[simp] theorem State.setXp_lendOut (x : Nat) (v : Xp) : (s.setXp x v).lendOut = s.lendOut := rfl
@[simp] theorem State.setXp_lendIn (x : Nat) (v : Xp) : (s.setXp x v).lendIn = s.lendIn := rfl
@[simp] theorem State.setXp_lendRelay (x : Nat) (v : Xp) : (s.setXp x v).lendRelay = s.lendRelay := rfl
@[simp] theorem State.setXp_lendEnds (x : Nat) (v : Xp) : (s.setXp x v).lendEnds = s.lendEnds := rfl
@[simp] theorem State.setXp_lendHeld (x : Nat) (v : Xp) : (s.setXp x v).lendHeld = s.lendHeld := rfl
@[simp] theorem State.setXp_lendMsgs (x : Nat) (v : Xp) : (s.setXp x v).lendMsgs = s.lendMsgs := rfl
@[simp] theorem State.setXp_bootSlot (x : Nat) (v : Xp) : (s.setXp x v).bootSlot = s.bootSlot := rfl
@[simp] theorem State.setXp_bootAt (x : Nat) (v : Xp) : (s.setXp x v).bootAt = s.bootAt := rfl
@[simp] theorem State.setXp_portHold (x : Nat) (v : Xp) : (s.setXp x v).portHold = s.portHold := rfl
@[simp] theorem State.setXp_chainSlots (x : Nat) (v : Xp) : (s.setXp x v).chainSlots = s.chainSlots := rfl
@[simp] theorem State.setXp_chainRamp (x : Nat) (v : Xp) : (s.setXp x v).chainRamp = s.chainRamp := rfl

/-! ### What `setRing` leaves alone -/

@[simp] theorem State.setRing_pending (r : Nat) (v : Ring) : (s.setRing r v).pending = s.pending := rfl
@[simp] theorem State.setRing_regs (r : Nat) (v : Ring) : (s.setRing r v).regs = s.regs := rfl
@[simp] theorem State.setRing_mem (r : Nat) (v : Ring) : (s.setRing r v).mem = s.mem := rfl
@[simp] theorem State.setRing_ecc (r : Nat) (v : Ring) : (s.setRing r v).ecc = s.ecc := rfl
@[simp] theorem State.setRing_wb (r : Nat) (v : Ring) : (s.setRing r v).wb = s.wb := rfl
@[simp] theorem State.setRing_peaks (r : Nat) (v : Ring) : (s.setRing r v).peaks = s.peaks := rfl
@[simp] theorem State.setRing_fresh (r : Nat) (v : Ring) : (s.setRing r v).fresh = s.fresh := rfl
@[simp] theorem State.setRing_frame (r : Nat) (v : Ring) : (s.setRing r v).frame = s.frame := rfl
@[simp] theorem State.setRing_tickA (r : Nat) (v : Ring) : (s.setRing r v).tickA = s.tickA := rfl
@[simp] theorem State.setRing_tickB (r : Nat) (v : Ring) : (s.setRing r v).tickB = s.tickB := rfl
@[simp] theorem State.setRing_tickC (r : Nat) (v : Ring) : (s.setRing r v).tickC = s.tickC := rfl
@[simp] theorem State.setRing_evq (r : Nat) (v : Ring) : (s.setRing r v).evq = s.evq := rfl
@[simp] theorem State.setRing_fwdq (r : Nat) (v : Ring) : (s.setRing r v).fwdq = s.fwdq := rfl
@[simp] theorem State.setRing_occ (r : Nat) (v : Ring) : (s.setRing r v).occ = s.occ := rfl
@[simp] theorem State.setRing_tiles (r : Nat) (v : Ring) : (s.setRing r v).tiles = s.tiles := rfl
@[simp] theorem State.setRing_lanes (r : Nat) (v : Ring) : (s.setRing r v).lanes = s.lanes := rfl
@[simp] theorem State.setRing_paramq (r : Nat) (v : Ring) : (s.setRing r v).paramq = s.paramq := rfl
@[simp] theorem State.setRing_edgeIn (r : Nat) (v : Ring) : (s.setRing r v).edgeIn = s.edgeIn := rfl
@[simp] theorem State.setRing_edgeNew (r : Nat) (v : Ring) : (s.setRing r v).edgeNew = s.edgeNew := rfl
@[simp] theorem State.setRing_edgeNext (r : Nat) (v : Ring) : (s.setRing r v).edgeNext = s.edgeNext := rfl
@[simp] theorem State.setRing_edgeOut (r : Nat) (v : Ring) : (s.setRing r v).edgeOut = s.edgeOut := rfl
@[simp] theorem State.setRing_xpre (r : Nat) (v : Ring) : (s.setRing r v).xpre = s.xpre := rfl
@[simp] theorem State.setRing_lowSum (r : Nat) (v : Ring) : (s.setRing r v).lowSum = s.lowSum := rfl
@[simp] theorem State.setRing_xback (r : Nat) (v : Ring) : (s.setRing r v).xback = s.xback := rfl
@[simp] theorem State.setRing_xps (r : Nat) (v : Ring) : (s.setRing r v).xps = s.xps := rfl
@[simp] theorem State.setRing_xpEcc (r : Nat) (v : Ring) : (s.setRing r v).xpEcc = s.xpEcc := rfl
@[simp] theorem State.setRing_annals (r : Nat) (v : Ring) : (s.setRing r v).annals = s.annals := rfl
@[simp] theorem State.setRing_nvs (r : Nat) (v : Ring) : (s.setRing r v).nvs = s.nvs := rfl
@[simp] theorem State.setRing_isHead (r : Nat) (v : Ring) : (s.setRing r v).isHead = s.isHead := rfl
@[simp] theorem State.setRing_testq (r : Nat) (v : Ring) : (s.setRing r v).testq = s.testq := rfl
@[simp] theorem State.setRing_loadAll (r : Nat) (v : Ring) : (s.setRing r v).loadAll = s.loadAll := rfl
@[simp] theorem State.setRing_loadShelf (r : Nat) (v : Ring) : (s.setRing r v).loadShelf = s.loadShelf := rfl
@[simp] theorem State.setRing_cplOut (r : Nat) (v : Ring) : (s.setRing r v).cplOut = s.cplOut := rfl
@[simp] theorem State.setRing_groups (r : Nat) (v : Ring) : (s.setRing r v).groups = s.groups := rfl
@[simp] theorem State.setRing_frB (r : Nat) (v : Ring) : (s.setRing r v).frB = s.frB := rfl
@[simp] theorem State.setRing_frC (r : Nat) (v : Ring) : (s.setRing r v).frC = s.frC := rfl
@[simp] theorem State.setRing_ports (r : Nat) (v : Ring) : (s.setRing r v).ports = s.ports := rfl
@[simp] theorem State.setRing_spd (r : Nat) (v : Ring) : (s.setRing r v).spd = s.spd := rfl
@[simp] theorem State.setRing_brgs (r : Nat) (v : Ring) : (s.setRing r v).brgs = s.brgs := rfl
@[simp] theorem State.setRing_holdSince (r : Nat) (v : Ring) : (s.setRing r v).holdSince = s.holdSince := rfl
@[simp] theorem State.setRing_dombFree (r : Nat) (v : Ring) : (s.setRing r v).dombFree = s.dombFree := rfl
@[simp] theorem State.setRing_monStop (r : Nat) (v : Ring) : (s.setRing r v).monStop = s.monStop := rfl
@[simp] theorem State.setRing_monRate (r : Nat) (v : Ring) : (s.setRing r v).monRate = s.monRate := rfl
@[simp] theorem State.setRing_slewTotal (r : Nat) (v : Ring) : (s.setRing r v).slewTotal = s.slewTotal := rfl
@[simp] theorem State.setRing_slewOffset (r : Nat) (v : Ring) : (s.setRing r v).slewOffset = s.slewOffset := rfl
@[simp] theorem State.setRing_heldB (r : Nat) (v : Ring) : (s.setRing r v).heldB = s.heldB := rfl
@[simp] theorem State.setRing_ains (r : Nat) (v : Ring) : (s.setRing r v).ains = s.ains := rfl
@[simp] theorem State.setRing_biasRamp (r : Nat) (v : Ring) : (s.setRing r v).biasRamp = s.biasRamp := rfl
@[simp] theorem State.setRing_biasLeft (r : Nat) (v : Ring) : (s.setRing r v).biasLeft = s.biasLeft := rfl
@[simp] theorem State.setRing_hqOff (r : Nat) (v : Ring) : (s.setRing r v).hqOff = s.hqOff := rfl
@[simp] theorem State.setRing_micMute (r : Nat) (v : Ring) : (s.setRing r v).micMute = s.micMute := rfl
@[simp] theorem State.setRing_hqWin (r : Nat) (v : Ring) : (s.setRing r v).hqWin = s.hqWin := rfl
@[simp] theorem State.setRing_lpWin (r : Nat) (v : Ring) : (s.setRing r v).lpWin = s.lpWin := rfl
@[simp] theorem State.setRing_micAt (r : Nat) (v : Ring) : (s.setRing r v).micAt = s.micAt := rfl
@[simp] theorem State.setRing_wake (r : Nat) (v : Ring) : (s.setRing r v).wake = s.wake := rfl
@[simp] theorem State.setRing_carrier (r : Nat) (v : Ring) : (s.setRing r v).carrier = s.carrier := rfl
@[simp] theorem State.setRing_spks (r : Nat) (v : Ring) : (s.setRing r v).spks = s.spks := rfl
@[simp] theorem State.setRing_thermRed (r : Nat) (v : Ring) : (s.setRing r v).thermRed = s.thermRed := rfl
@[simp] theorem State.setRing_wakeReq (r : Nat) (v : Ring) : (s.setRing r v).wakeReq = s.wakeReq := rfl
@[simp] theorem State.setRing_detBias (r : Nat) (v : Ring) : (s.setRing r v).detBias = s.detBias := rfl
@[simp] theorem State.setRing_hpos (r : Nat) (v : Ring) : (s.setRing r v).hpos = s.hpos := rfl
@[simp] theorem State.setRing_jacks (r : Nat) (v : Ring) : (s.setRing r v).jacks = s.jacks := rfl
@[simp] theorem State.setRing_chain (r : Nat) (v : Ring) : (s.setRing r v).chain = s.chain := rfl
@[simp] theorem State.setRing_busOut (r : Nat) (v : Ring) : (s.setRing r v).busOut = s.busOut := rfl
@[simp] theorem State.setRing_busAddr (r : Nat) (v : Ring) : (s.setRing r v).busAddr = s.busAddr := rfl
@[simp] theorem State.setRing_busAwake (r : Nat) (v : Ring) : (s.setRing r v).busAwake = s.busAwake := rfl
@[simp] theorem State.setRing_busSnap (r : Nat) (v : Ring) : (s.setRing r v).busSnap = s.busSnap := rfl
@[simp] theorem State.setRing_fwdFatal (r : Nat) (v : Ring) : (s.setRing r v).fwdFatal = s.fwdFatal := rfl
@[simp] theorem State.setRing_auxq (r : Nat) (v : Ring) : (s.setRing r v).auxq = s.auxq := rfl
@[simp] theorem State.setRing_sectors (r : Nat) (v : Ring) : (s.setRing r v).sectors = s.sectors := rfl
@[simp] theorem State.setRing_sysSeq (r : Nat) (v : Ring) : (s.setRing r v).sysSeq = s.sysSeq := rfl
@[simp] theorem State.setRing_tlog (r : Nat) (v : Ring) : (s.setRing r v).tlog = s.tlog := rfl
@[simp] theorem State.setRing_keyUnset (r : Nat) (v : Ring) : (s.setRing r v).keyUnset = s.keyUnset := rfl
@[simp] theorem State.setRing_tests (r : Nat) (v : Ring) : (s.setRing r v).tests = s.tests := rfl
@[simp] theorem State.setRing_bankWait (r : Nat) (v : Ring) : (s.setRing r v).bankWait = s.bankWait := rfl
@[simp] theorem State.setRing_repairs (r : Nat) (v : Ring) : (s.setRing r v).repairs = s.repairs := rfl
@[simp] theorem State.setRing_retired (r : Nat) (v : Ring) : (s.setRing r v).retired = s.retired := rfl
@[simp] theorem State.setRing_canary (r : Nat) (v : Ring) : (s.setRing r v).canary = s.canary := rfl
@[simp] theorem State.setRing_loadMute (r : Nat) (v : Ring) : (s.setRing r v).loadMute = s.loadMute := rfl
@[simp] theorem State.setRing_foldAt (r : Nat) (v : Ring) : (s.setRing r v).foldAt = s.foldAt := rfl
@[simp] theorem State.setRing_thermAt (r : Nat) (v : Ring) : (s.setRing r v).thermAt = s.thermAt := rfl
@[simp] theorem State.setRing_wdtCount (r : Nat) (v : Ring) : (s.setRing r v).wdtCount = s.wdtCount := rfl
@[simp] theorem State.setRing_wdtReset (r : Nat) (v : Ring) : (s.setRing r v).wdtReset = s.wdtReset := rfl
@[simp] theorem State.setRing_rst (r : Nat) (v : Ring) : (s.setRing r v).rst = s.rst := rfl
@[simp] theorem State.setRing_plTo (r : Nat) (v : Ring) : (s.setRing r v).plTo = s.plTo := rfl
@[simp] theorem State.setRing_plWait (r : Nat) (v : Ring) : (s.setRing r v).plWait = s.plWait := rfl
@[simp] theorem State.setRing_plLate (r : Nat) (v : Ring) : (s.setRing r v).plLate = s.plLate := rfl
@[simp] theorem State.setRing_loadMin (r : Nat) (v : Ring) : (s.setRing r v).loadMin = s.loadMin := rfl
@[simp] theorem State.setRing_idleAt (r : Nat) (v : Ring) : (s.setRing r v).idleAt = s.idleAt := rfl
@[simp] theorem State.setRing_dormBus (r : Nat) (v : Ring) : (s.setRing r v).dormBus = s.dormBus := rfl
@[simp] theorem State.setRing_scrubBank (r : Nat) (v : Ring) : (s.setRing r v).scrubBank = s.scrubBank := rfl
@[simp] theorem State.setRing_hkaScan (r : Nat) (v : Ring) : (s.setRing r v).hkaScan = s.hkaScan := rfl
@[simp] theorem State.setRing_hkaConv (r : Nat) (v : Ring) : (s.setRing r v).hkaConv = s.hkaConv := rfl
@[simp] theorem State.setRing_hkaQueued (r : Nat) (v : Ring) : (s.setRing r v).hkaQueued = s.hkaQueued := rfl
@[simp] theorem State.setRing_cals (r : Nat) (v : Ring) : (s.setRing r v).cals = s.cals := rfl
@[simp] theorem State.setRing_calTemps (r : Nat) (v : Ring) : (s.setRing r v).calTemps = s.calTemps := rfl
@[simp] theorem State.setRing_curUsed (r : Nat) (v : Ring) : (s.setRing r v).curUsed = s.curUsed := rfl
@[simp] theorem State.setRing_curHalt (r : Nat) (v : Ring) : (s.setRing r v).curHalt = s.curHalt := rfl
@[simp] theorem State.setRing_clips (r : Nat) (v : Ring) : (s.setRing r v).clips = s.clips := rfl
@[simp] theorem State.setRing_telq (r : Nat) (v : Ring) : (s.setRing r v).telq = s.telq := rfl
@[simp] theorem State.setRing_telRun (r : Nat) (v : Ring) : (s.setRing r v).telRun = s.telRun := rfl
@[simp] theorem State.setRing_hkaLock (r : Nat) (v : Ring) : (s.setRing r v).hkaLock = s.hkaLock := rfl
@[simp] theorem State.setRing_tachLast (r : Nat) (v : Ring) : (s.setRing r v).tachLast = s.tachLast := rfl
@[simp] theorem State.setRing_tachGood (r : Nat) (v : Ring) : (s.setRing r v).tachGood = s.tachGood := rfl
@[simp] theorem State.setRing_tachLost (r : Nat) (v : Ring) : (s.setRing r v).tachLost = s.tachLost := rfl
@[simp] theorem State.setRing_hkaOut (r : Nat) (v : Ring) : (s.setRing r v).hkaOut = s.hkaOut := rfl
@[simp] theorem State.setRing_flash (r : Nat) (v : Ring) : (s.setRing r v).flash = s.flash := rfl
@[simp] theorem State.setRing_load (r : Nat) (v : Ring) : (s.setRing r v).load = s.load := rfl
@[simp] theorem State.setRing_lends (r : Nat) (v : Ring) : (s.setRing r v).lends = s.lends := rfl
@[simp] theorem State.setRing_lendOut (r : Nat) (v : Ring) : (s.setRing r v).lendOut = s.lendOut := rfl
@[simp] theorem State.setRing_lendIn (r : Nat) (v : Ring) : (s.setRing r v).lendIn = s.lendIn := rfl
@[simp] theorem State.setRing_lendRelay (r : Nat) (v : Ring) : (s.setRing r v).lendRelay = s.lendRelay := rfl
@[simp] theorem State.setRing_lendEnds (r : Nat) (v : Ring) : (s.setRing r v).lendEnds = s.lendEnds := rfl
@[simp] theorem State.setRing_lendHeld (r : Nat) (v : Ring) : (s.setRing r v).lendHeld = s.lendHeld := rfl
@[simp] theorem State.setRing_lendMsgs (r : Nat) (v : Ring) : (s.setRing r v).lendMsgs = s.lendMsgs := rfl
@[simp] theorem State.setRing_bootSlot (r : Nat) (v : Ring) : (s.setRing r v).bootSlot = s.bootSlot := rfl
@[simp] theorem State.setRing_bootAt (r : Nat) (v : Ring) : (s.setRing r v).bootAt = s.bootAt := rfl
@[simp] theorem State.setRing_portHold (r : Nat) (v : Ring) : (s.setRing r v).portHold = s.portHold := rfl
@[simp] theorem State.setRing_chainSlots (r : Nat) (v : Ring) : (s.setRing r v).chainSlots = s.chainSlots := rfl
@[simp] theorem State.setRing_chainRamp (r : Nat) (v : Ring) : (s.setRing r v).chainRamp = s.chainRamp := rfl

end Sys2Proof.Machine
end

