-- ==== Sys2Proof/Laws/Ops.lean ====
section
/-! SUPPORT. What each shared operation over the state can do, said once: the events with their annals entries and alerts, the
memory words, and the reads of banks. -/

namespace Sys2Proof.Machine

variable {s t u : State}

/-- From `s` to `t` only what an event may change has changed. -/
structure EventOnly (s t : State) : Prop where
  regs : SameRegs eventFlds s t
  chain : t.chain = { s.chain with fwdOut := t.chain.fwdOut }
  rest : t = { s with regs := t.regs, occ := t.occ, evq := t.evq, chain := t.chain, annals := t.annals }

theorem EventOnly.refl (s : State) : EventOnly s s := ⟨fun _ _ => rfl, rfl, rfl⟩

theorem EventOnly.trans (h : EventOnly s t) (k : EventOnly t u) : EventOnly s u := by
  refine ⟨fun f hf => (k.regs f hf).trans (h.regs f hf), ?_, ?_⟩
  · rw [k.chain, h.chain]
  · rw [k.rest, h.rest]

theorem EventOnly.ite {c : Prop} [Decidable c] (h : EventOnly s t) (k : EventOnly s u) :
    EventOnly s (if c then t else u) := by split <;> assumption

/-- A write of a field that events may change. -/
theorem EventOnly.put {f : Fld} {v : Nat} (hf : fldIn eventFlds f = true) : EventOnly s (s.put f v) := by
  refine ⟨fun g hg => State.get_put_ne s v (fun e => ?_), rfl, rfl⟩
  simp only [fldIn, e] at hg hf
  rw [hf] at hg; cases hg

theorem EventOnly.update {o : List Nat} {q : List Ev} {c : List Ev} {a : Annals} :
    EventOnly s { s with occ := o, evq := q, chain := { s.chain with fwdOut := c }, annals := a } := ⟨fun _ _ => rfl, rfl, rfl⟩

theorem State.setAnnals_eventOnly (s : State) (a : Annals) : EventOnly s (s.setAnnals a) :=
  (EventOnly.put rfl).trans (EventOnly.update (o := s.occ) (q := s.evq) (c := s.chain.fwdOut) (a := a))

theorem State.triggerFlush_eventOnly (s : State) : EventOnly s s.triggerFlush :=
  EventOnly.ite (EventOnly.update (o := s.occ) (q := s.evq) (c := s.chain.fwdOut)) (EventOnly.put rfl)

/-- What a record in the annals may change (R497 to R502). -/
theorem State.record_eventOnly (s : State) (c v p : Nat) : EventOnly s (s.record c v p) := by
  unfold State.record
  dsimp only
  split
  · exact EventOnly.ite ((s.setAnnals_eventOnly _).trans (EventOnly.put rfl))
      (EventOnly.ite (((s.setAnnals_eventOnly _).trans (EventOnly.put rfl)).trans (EventOnly.put rfl))
        (EventOnly.ite ((s.setAnnals_eventOnly _).trans (State.triggerFlush_eventOnly _)) (s.setAnnals_eventOnly _)))
  · exact EventOnly.ite ((s.setAnnals_eventOnly _).trans (EventOnly.put rfl))
      (EventOnly.ite ((s.setAnnals_eventOnly _).trans (State.triggerFlush_eventOnly _)) (s.setAnnals_eventOnly _))
  · exact EventOnly.ite ((s.setAnnals_eventOnly _).trans (State.triggerFlush_eventOnly _)) (s.setAnnals_eventOnly _)

/-- What an alert may change (R395, R396). -/
theorem State.alert_eventOnly (s : State) (n : Nat) : EventOnly s (s.alert n) :=
  EventOnly.ite ((EventOnly.put rfl).trans (EventOnly.put rfl)) (EventOnly.refl s)

/-- What an occurrence may change (R361, R395, R497). -/
theorem State.occur_eventOnly (s : State) (c v p : Nat) : EventOnly s (s.occur c v p) := by
  unfold State.occur
  extract_lets +onlyGivenNames s1
  have k1 : EventOnly s s1 := ⟨fun _ _ => rfl, rfl, rfl⟩
  clear_value s1
  extract_lets +onlyGivenNames ch
  extract_lets +onlyGivenNames s3
  have k3 : EventOnly s s3 := k1.trans (EventOnly.ite ⟨fun _ _ => rfl, rfl, rfl⟩ (EventOnly.refl s1))
  clear_value s3
  extract_lets +onlyGivenNames s4
  have k4 : EventOnly s s4 := k3.trans (EventOnly.ite (s3.record_eventOnly c v p) (EventOnly.refl s3))
  clear_value s4
  extract_lets +onlyGivenNames s5
  have k5 : EventOnly s s5 := k4.trans (EventOnly.ite (s4.alert_eventOnly 0) (EventOnly.refl s4))
  clear_value s5
  exact k5.trans (EventOnly.ite (s5.alert_eventOnly 1) (EventOnly.refl s5))

/-- What an event may change (R355, R356, R395, R497). -/
theorem State.post_eventOnly (s : State) (c v p : Nat) : EventOnly s (s.post c v p) := by
  unfold State.post
  refine EventOnly.ite (EventOnly.refl s) ?_
  extract_lets +onlyGivenNames s1
  have k1 : EventOnly s s1 := EventOnly.ite ⟨fun _ _ => rfl, rfl, rfl⟩ (EventOnly.refl s)
  clear_value s1
  exact k1.trans (s1.occur_eventOnly c v p)

theorem State.postRec_eventOnly (s : State) (c v p : Nat) : EventOnly s (s.postRec c v p) :=
  EventOnly.ite ((s.post_eventOnly c v p).trans (State.record_eventOnly _ c v p)) (s.post_eventOnly c v p)

/-- An event leaves every field alone that is not one of its own. -/
theorem State.get_post {c v p : Nat} {f : Fld} (h : fldIn eventFlds f = false) : (s.post c v p).get f = s.get f :=
  (s.post_eventOnly c v p).regs f h

/-- A record in the annals occurs to no ring. -/
theorem State.record_occ (s : State) (c v p : Nat) : (s.record c v p).occ = s.occ := by
  have a : ∀ (s : State) (x : Annals), (s.setAnnals x).occ = s.occ := fun _ _ => rfl
  have b : ∀ s : State, s.triggerFlush.occ = s.occ := by
    intro s; unfold State.triggerFlush; split <;> rfl
  unfold State.record
  dsimp only
  repeat' split
  all_goals first | rfl | exact b _

/-- An alert occurs to no ring. -/
theorem State.alert_occ (s : State) (n : Nat) : (s.alert n).occ = s.occ := by
  unfold State.alert; split <;> rfl

/-- What an occurrence adds to those of the frame (R361). -/
theorem State.occur_occ (s : State) (c v p : Nat) : (s.occur c v p).occ = s.occ ++ [c] := by
  unfold State.occur
  extract_lets +onlyGivenNames s1
  have k1 : s1.occ = s.occ ++ [c] := rfl
  clear_value s1
  extract_lets +onlyGivenNames ch
  extract_lets +onlyGivenNames s3
  have k3 : s3.occ = s.occ ++ [c] := by rw [← k1]; unfold s3; split <;> rfl
  clear_value s3
  extract_lets +onlyGivenNames s4
  have k4 : s4.occ = s.occ ++ [c] := by rw [← k3]; unfold s4; split; exacts [s3.record_occ c v p, rfl]
  clear_value s4
  extract_lets +onlyGivenNames s5
  have k5 : s5.occ = s.occ ++ [c] := by rw [← k4]; unfold s5; split; exacts [s4.alert_occ 0, rfl]
  clear_value s5
  rw [← k5]; split; exacts [s5.alert_occ 1, rfl]

/-- What an event adds to those of the frame (R361): nothing where the keeper's gate is shut. -/
theorem State.post_occ_cases (s : State) (c v p : Nat) :
    (s.post c v p).occ = if c / 256 = 0x13 ∧ ¬ s.gateOpen c v then s.occ else s.occ ++ [c] := by
  unfold State.post
  split
  · rfl
  extract_lets +onlyGivenNames s1
  have k1 : s1.occ = s.occ := by unfold s1; split <;> rfl
  rw [s1.occur_occ, k1]

/-- An event of another block than the keeper's occurs (R361). -/
theorem State.post_occ (s : State) {c : Nat} (v p : Nat) (h : c / 256 ≠ 0x13) : (s.post c v p).occ = s.occ ++ [c] := by
  rw [s.post_occ_cases, if_neg (fun e => h e.1)]

/-- An event keeps those that occurred before. -/
theorem State.mem_post_occ (s : State) {c d : Nat} (v p : Nat) (h : d ∈ s.occ) : d ∈ (s.post c v p).occ := by
  rw [s.post_occ_cases]; split
  · exact h
  · exact List.mem_append_left _ h

/-! ### What an event leaves alone -/

@[simp] theorem State.post_pending (s : State) (c v p : Nat) : (s.post c v p).pending = s.pending := by
  rw [(s.post_eventOnly c v p).rest]
@[simp] theorem State.post_mem (s : State) (c v p : Nat) : (s.post c v p).mem = s.mem := by
  rw [(s.post_eventOnly c v p).rest]
@[simp] theorem State.post_ecc (s : State) (c v p : Nat) : (s.post c v p).ecc = s.ecc := by
  rw [(s.post_eventOnly c v p).rest]
@[simp] theorem State.post_wb (s : State) (c v p : Nat) : (s.post c v p).wb = s.wb := by
  rw [(s.post_eventOnly c v p).rest]
@[simp] theorem State.post_peaks (s : State) (c v p : Nat) : (s.post c v p).peaks = s.peaks := by
  rw [(s.post_eventOnly c v p).rest]
@[simp] theorem State.post_fresh (s : State) (c v p : Nat) : (s.post c v p).fresh = s.fresh := by
  rw [(s.post_eventOnly c v p).rest]
@[simp] theorem State.post_frame (s : State) (c v p : Nat) : (s.post c v p).frame = s.frame := by
  rw [(s.post_eventOnly c v p).rest]
@[simp] theorem State.post_tickA (s : State) (c v p : Nat) : (s.post c v p).tickA = s.tickA := by
  rw [(s.post_eventOnly c v p).rest]
@[simp] theorem State.post_tickB (s : State) (c v p : Nat) : (s.post c v p).tickB = s.tickB := by
  rw [(s.post_eventOnly c v p).rest]
@[simp] theorem State.post_tickC (s : State) (c v p : Nat) : (s.post c v p).tickC = s.tickC := by
  rw [(s.post_eventOnly c v p).rest]
@[simp] theorem State.post_fwdq (s : State) (c v p : Nat) : (s.post c v p).fwdq = s.fwdq := by
  rw [(s.post_eventOnly c v p).rest]
@[simp] theorem State.post_tiles (s : State) (c v p : Nat) : (s.post c v p).tiles = s.tiles := by
  rw [(s.post_eventOnly c v p).rest]
@[simp] theorem State.post_lanes (s : State) (c v p : Nat) : (s.post c v p).lanes = s.lanes := by
  rw [(s.post_eventOnly c v p).rest]
@[simp] theorem State.post_paramq (s : State) (c v p : Nat) : (s.post c v p).paramq = s.paramq := by
  rw [(s.post_eventOnly c v p).rest]
@[simp] theorem State.post_edgeIn (s : State) (c v p : Nat) : (s.post c v p).edgeIn = s.edgeIn := by
  rw [(s.post_eventOnly c v p).rest]
@[simp] theorem State.post_edgeNew (s : State) (c v p : Nat) : (s.post c v p).edgeNew = s.edgeNew := by
  rw [(s.post_eventOnly c v p).rest]
@[simp] theorem State.post_edgeOut (s : State) (c v p : Nat) : (s.post c v p).edgeOut = s.edgeOut := by
  rw [(s.post_eventOnly c v p).rest]
@[simp] theorem State.post_xback (s : State) (c v p : Nat) : (s.post c v p).xback = s.xback := by
  rw [(s.post_eventOnly c v p).rest]
@[simp] theorem State.post_xps (s : State) (c v p : Nat) : (s.post c v p).xps = s.xps := by
  rw [(s.post_eventOnly c v p).rest]
@[simp] theorem State.post_xpEcc (s : State) (c v p : Nat) : (s.post c v p).xpEcc = s.xpEcc := by
  rw [(s.post_eventOnly c v p).rest]
@[simp] theorem State.post_rings (s : State) (c v p : Nat) : (s.post c v p).rings = s.rings := by
  rw [(s.post_eventOnly c v p).rest]
@[simp] theorem State.post_nvs (s : State) (c v p : Nat) : (s.post c v p).nvs = s.nvs := by
  rw [(s.post_eventOnly c v p).rest]
@[simp] theorem State.post_isHead (s : State) (c v p : Nat) : (s.post c v p).isHead = s.isHead := by
  rw [(s.post_eventOnly c v p).rest]
@[simp] theorem State.post_testq (s : State) (c v p : Nat) : (s.post c v p).testq = s.testq := by
  rw [(s.post_eventOnly c v p).rest]
@[simp] theorem State.post_loadAll (s : State) (c v p : Nat) : (s.post c v p).loadAll = s.loadAll := by
  rw [(s.post_eventOnly c v p).rest]
@[simp] theorem State.post_loadShelf (s : State) (c v p : Nat) : (s.post c v p).loadShelf = s.loadShelf := by
  rw [(s.post_eventOnly c v p).rest]
@[simp] theorem State.post_cplOut (s : State) (c v p : Nat) : (s.post c v p).cplOut = s.cplOut := by
  rw [(s.post_eventOnly c v p).rest]
@[simp] theorem State.post_groups (s : State) (c v p : Nat) : (s.post c v p).groups = s.groups := by
  rw [(s.post_eventOnly c v p).rest]
@[simp] theorem State.post_frB (s : State) (c v p : Nat) : (s.post c v p).frB = s.frB := by
  rw [(s.post_eventOnly c v p).rest]
@[simp] theorem State.post_frC (s : State) (c v p : Nat) : (s.post c v p).frC = s.frC := by
  rw [(s.post_eventOnly c v p).rest]
@[simp] theorem State.post_ports (s : State) (c v p : Nat) : (s.post c v p).ports = s.ports := by
  rw [(s.post_eventOnly c v p).rest]
@[simp] theorem State.post_spd (s : State) (c v p : Nat) : (s.post c v p).spd = s.spd := by
  rw [(s.post_eventOnly c v p).rest]
@[simp] theorem State.post_brgs (s : State) (c v p : Nat) : (s.post c v p).brgs = s.brgs := by
  rw [(s.post_eventOnly c v p).rest]
@[simp] theorem State.post_holdSince (s : State) (c v p : Nat) : (s.post c v p).holdSince = s.holdSince := by
  rw [(s.post_eventOnly c v p).rest]
@[simp] theorem State.post_monStop (s : State) (c v p : Nat) : (s.post c v p).monStop = s.monStop := by
  rw [(s.post_eventOnly c v p).rest]
@[simp] theorem State.post_monRate (s : State) (c v p : Nat) : (s.post c v p).monRate = s.monRate := by
  rw [(s.post_eventOnly c v p).rest]
@[simp] theorem State.post_slewTotal (s : State) (c v p : Nat) : (s.post c v p).slewTotal = s.slewTotal := by
  rw [(s.post_eventOnly c v p).rest]
@[simp] theorem State.post_slewOffset (s : State) (c v p : Nat) : (s.post c v p).slewOffset = s.slewOffset := by
  rw [(s.post_eventOnly c v p).rest]
@[simp] theorem State.post_heldB (s : State) (c v p : Nat) : (s.post c v p).heldB = s.heldB := by
  rw [(s.post_eventOnly c v p).rest]
@[simp] theorem State.post_ains (s : State) (c v p : Nat) : (s.post c v p).ains = s.ains := by
  rw [(s.post_eventOnly c v p).rest]
@[simp] theorem State.post_biasRamp (s : State) (c v p : Nat) : (s.post c v p).biasRamp = s.biasRamp := by
  rw [(s.post_eventOnly c v p).rest]
@[simp] theorem State.post_hqWin (s : State) (c v p : Nat) : (s.post c v p).hqWin = s.hqWin := by
  rw [(s.post_eventOnly c v p).rest]
@[simp] theorem State.post_lpWin (s : State) (c v p : Nat) : (s.post c v p).lpWin = s.lpWin := by
  rw [(s.post_eventOnly c v p).rest]
@[simp] theorem State.post_micAt (s : State) (c v p : Nat) : (s.post c v p).micAt = s.micAt := by
  rw [(s.post_eventOnly c v p).rest]
@[simp] theorem State.post_wake (s : State) (c v p : Nat) : (s.post c v p).wake = s.wake := by
  rw [(s.post_eventOnly c v p).rest]
@[simp] theorem State.post_spks (s : State) (c v p : Nat) : (s.post c v p).spks = s.spks := by
  rw [(s.post_eventOnly c v p).rest]
@[simp] theorem State.post_thermRed (s : State) (c v p : Nat) : (s.post c v p).thermRed = s.thermRed := by
  rw [(s.post_eventOnly c v p).rest]
@[simp] theorem State.post_wakeReq (s : State) (c v p : Nat) : (s.post c v p).wakeReq = s.wakeReq := by
  rw [(s.post_eventOnly c v p).rest]
@[simp] theorem State.post_detBias (s : State) (c v p : Nat) : (s.post c v p).detBias = s.detBias := by
  rw [(s.post_eventOnly c v p).rest]
@[simp] theorem State.post_hpos (s : State) (c v p : Nat) : (s.post c v p).hpos = s.hpos := by
  rw [(s.post_eventOnly c v p).rest]
@[simp] theorem State.post_jacks (s : State) (c v p : Nat) : (s.post c v p).jacks = s.jacks := by
  rw [(s.post_eventOnly c v p).rest]
@[simp] theorem State.post_busOut (s : State) (c v p : Nat) : (s.post c v p).busOut = s.busOut := by
  rw [(s.post_eventOnly c v p).rest]
@[simp] theorem State.post_busAddr (s : State) (c v p : Nat) : (s.post c v p).busAddr = s.busAddr := by
  rw [(s.post_eventOnly c v p).rest]
@[simp] theorem State.post_busSnap (s : State) (c v p : Nat) : (s.post c v p).busSnap = s.busSnap := by
  rw [(s.post_eventOnly c v p).rest]
@[simp] theorem State.post_fwdFatal (s : State) (c v p : Nat) : (s.post c v p).fwdFatal = s.fwdFatal := by
  rw [(s.post_eventOnly c v p).rest]
@[simp] theorem State.post_auxq (s : State) (c v p : Nat) : (s.post c v p).auxq = s.auxq := by
  rw [(s.post_eventOnly c v p).rest]
@[simp] theorem State.post_sectors (s : State) (c v p : Nat) : (s.post c v p).sectors = s.sectors := by
  rw [(s.post_eventOnly c v p).rest]
@[simp] theorem State.post_sysSeq (s : State) (c v p : Nat) : (s.post c v p).sysSeq = s.sysSeq := by
  rw [(s.post_eventOnly c v p).rest]
@[simp] theorem State.post_tlog (s : State) (c v p : Nat) : (s.post c v p).tlog = s.tlog := by
  rw [(s.post_eventOnly c v p).rest]
@[simp] theorem State.post_keyUnset (s : State) (c v p : Nat) : (s.post c v p).keyUnset = s.keyUnset := by
  rw [(s.post_eventOnly c v p).rest]
@[simp] theorem State.post_tests (s : State) (c v p : Nat) : (s.post c v p).tests = s.tests := by
  rw [(s.post_eventOnly c v p).rest]
@[simp] theorem State.post_bankWait (s : State) (c v p : Nat) : (s.post c v p).bankWait = s.bankWait := by
  rw [(s.post_eventOnly c v p).rest]
@[simp] theorem State.post_repairs (s : State) (c v p : Nat) : (s.post c v p).repairs = s.repairs := by
  rw [(s.post_eventOnly c v p).rest]
@[simp] theorem State.post_retired (s : State) (c v p : Nat) : (s.post c v p).retired = s.retired := by
  rw [(s.post_eventOnly c v p).rest]
@[simp] theorem State.post_canary (s : State) (c v p : Nat) : (s.post c v p).canary = s.canary := by
  rw [(s.post_eventOnly c v p).rest]
@[simp] theorem State.post_loadMute (s : State) (c v p : Nat) : (s.post c v p).loadMute = s.loadMute := by
  rw [(s.post_eventOnly c v p).rest]
@[simp] theorem State.post_foldAt (s : State) (c v p : Nat) : (s.post c v p).foldAt = s.foldAt := by
  rw [(s.post_eventOnly c v p).rest]
@[simp] theorem State.post_thermAt (s : State) (c v p : Nat) : (s.post c v p).thermAt = s.thermAt := by
  rw [(s.post_eventOnly c v p).rest]
@[simp] theorem State.post_wdtCount (s : State) (c v p : Nat) : (s.post c v p).wdtCount = s.wdtCount := by
  rw [(s.post_eventOnly c v p).rest]
@[simp] theorem State.post_wdtReset (s : State) (c v p : Nat) : (s.post c v p).wdtReset = s.wdtReset := by
  rw [(s.post_eventOnly c v p).rest]
@[simp] theorem State.post_rst (s : State) (c v p : Nat) : (s.post c v p).rst = s.rst := by
  rw [(s.post_eventOnly c v p).rest]
@[simp] theorem State.post_plTo (s : State) (c v p : Nat) : (s.post c v p).plTo = s.plTo := by
  rw [(s.post_eventOnly c v p).rest]
@[simp] theorem State.post_plWait (s : State) (c v p : Nat) : (s.post c v p).plWait = s.plWait := by
  rw [(s.post_eventOnly c v p).rest]
@[simp] theorem State.post_plLate (s : State) (c v p : Nat) : (s.post c v p).plLate = s.plLate := by
  rw [(s.post_eventOnly c v p).rest]
@[simp] theorem State.post_loadMin (s : State) (c v p : Nat) : (s.post c v p).loadMin = s.loadMin := by
  rw [(s.post_eventOnly c v p).rest]
@[simp] theorem State.post_idleAt (s : State) (c v p : Nat) : (s.post c v p).idleAt = s.idleAt := by
  rw [(s.post_eventOnly c v p).rest]
@[simp] theorem State.post_dormBus (s : State) (c v p : Nat) : (s.post c v p).dormBus = s.dormBus := by
  rw [(s.post_eventOnly c v p).rest]
@[simp] theorem State.post_scrubBank (s : State) (c v p : Nat) : (s.post c v p).scrubBank = s.scrubBank := by
  rw [(s.post_eventOnly c v p).rest]
@[simp] theorem State.post_hkaScan (s : State) (c v p : Nat) : (s.post c v p).hkaScan = s.hkaScan := by
  rw [(s.post_eventOnly c v p).rest]
@[simp] theorem State.post_hkaConv (s : State) (c v p : Nat) : (s.post c v p).hkaConv = s.hkaConv := by
  rw [(s.post_eventOnly c v p).rest]
@[simp] theorem State.post_hkaQueued (s : State) (c v p : Nat) : (s.post c v p).hkaQueued = s.hkaQueued := by
  rw [(s.post_eventOnly c v p).rest]
@[simp] theorem State.post_cals (s : State) (c v p : Nat) : (s.post c v p).cals = s.cals := by
  rw [(s.post_eventOnly c v p).rest]
@[simp] theorem State.post_calTemps (s : State) (c v p : Nat) : (s.post c v p).calTemps = s.calTemps := by
  rw [(s.post_eventOnly c v p).rest]
@[simp] theorem State.post_curUsed (s : State) (c v p : Nat) : (s.post c v p).curUsed = s.curUsed := by
  rw [(s.post_eventOnly c v p).rest]
@[simp] theorem State.post_curHalt (s : State) (c v p : Nat) : (s.post c v p).curHalt = s.curHalt := by
  rw [(s.post_eventOnly c v p).rest]
@[simp] theorem State.post_clips (s : State) (c v p : Nat) : (s.post c v p).clips = s.clips := by
  rw [(s.post_eventOnly c v p).rest]
@[simp] theorem State.post_telq (s : State) (c v p : Nat) : (s.post c v p).telq = s.telq := by
  rw [(s.post_eventOnly c v p).rest]
@[simp] theorem State.post_telRun (s : State) (c v p : Nat) : (s.post c v p).telRun = s.telRun := by
  rw [(s.post_eventOnly c v p).rest]
@[simp] theorem State.post_tachLast (s : State) (c v p : Nat) : (s.post c v p).tachLast = s.tachLast := by
  rw [(s.post_eventOnly c v p).rest]
@[simp] theorem State.post_tachGood (s : State) (c v p : Nat) : (s.post c v p).tachGood = s.tachGood := by
  rw [(s.post_eventOnly c v p).rest]
@[simp] theorem State.post_tachLost (s : State) (c v p : Nat) : (s.post c v p).tachLost = s.tachLost := by
  rw [(s.post_eventOnly c v p).rest]
@[simp] theorem State.post_hkaOut (s : State) (c v p : Nat) : (s.post c v p).hkaOut = s.hkaOut := by
  rw [(s.post_eventOnly c v p).rest]
@[simp] theorem State.post_flash (s : State) (c v p : Nat) : (s.post c v p).flash = s.flash := by
  rw [(s.post_eventOnly c v p).rest]
@[simp] theorem State.post_load (s : State) (c v p : Nat) : (s.post c v p).load = s.load := by
  rw [(s.post_eventOnly c v p).rest]
@[simp] theorem State.post_lends (s : State) (c v p : Nat) : (s.post c v p).lends = s.lends := by
  rw [(s.post_eventOnly c v p).rest]
@[simp] theorem State.post_lendOut (s : State) (c v p : Nat) : (s.post c v p).lendOut = s.lendOut := by
  rw [(s.post_eventOnly c v p).rest]
@[simp] theorem State.post_lendIn (s : State) (c v p : Nat) : (s.post c v p).lendIn = s.lendIn := by
  rw [(s.post_eventOnly c v p).rest]
@[simp] theorem State.post_lendRelay (s : State) (c v p : Nat) : (s.post c v p).lendRelay = s.lendRelay := by
  rw [(s.post_eventOnly c v p).rest]
@[simp] theorem State.post_lendHeld (s : State) (c v p : Nat) : (s.post c v p).lendHeld = s.lendHeld := by
  rw [(s.post_eventOnly c v p).rest]
@[simp] theorem State.post_lendMsgs (s : State) (c v p : Nat) : (s.post c v p).lendMsgs = s.lendMsgs := by
  rw [(s.post_eventOnly c v p).rest]
@[simp] theorem State.post_bootSlot (s : State) (c v p : Nat) : (s.post c v p).bootSlot = s.bootSlot := by
  rw [(s.post_eventOnly c v p).rest]
@[simp] theorem State.post_bootAt (s : State) (c v p : Nat) : (s.post c v p).bootAt = s.bootAt := by
  rw [(s.post_eventOnly c v p).rest]
@[simp] theorem State.post_portHold (s : State) (c v p : Nat) : (s.post c v p).portHold = s.portHold := by
  rw [(s.post_eventOnly c v p).rest]
@[simp] theorem State.post_chainSlots (s : State) (c v p : Nat) : (s.post c v p).chainSlots = s.chainSlots := by
  rw [(s.post_eventOnly c v p).rest]
@[simp] theorem State.post_chainRamp (s : State) (c v p : Nat) : (s.post c v p).chainRamp = s.chainRamp := by
  rw [(s.post_eventOnly c v p).rest]
@[simp] theorem State.tile_post (s : State) (c v p t : Nat) : (s.post c v p).tile t = s.tile t := by
  simp only [State.tile, State.post_tiles]
@[simp] theorem State.xp_post (s : State) (c v p x : Nat) : (s.post c v p).xp x = s.xp x := by
  simp only [State.xp, State.post_xps]
@[simp] theorem State.ring_post (s : State) (c v p r : Nat) : (s.post c v p).ring r = s.ring r := by
  simp only [State.ring, State.post_rings]
@[simp] theorem State.memByte_post (s : State) (c v p a : Nat) : (s.post c v p).memByte a = s.memByte a := by
  simp only [State.memByte, State.post_mem]
@[simp] theorem State.memWord_post (s : State) (c v p a : Nat) : (s.post c v p).memWord a = s.memWord a := by
  simp only [State.memWord, State.post_mem]
@[simp] theorem State.mark_post (s : State) (c v p a : Nat) : (s.post c v p).mark a = s.mark a := by
  simp only [State.mark, State.post_ecc]

end Sys2Proof.Machine
end

