-- ==== Sys2Proof/Machine/Balls.lean ====
section
/-! DEFINITION. The balls of the package: where they lie (R535), and what the block drives on each (R536; chapter Balls, Package and
Electrical Characteristics). The block's inputs are the operands of its commands. -/

namespace Sys2Proof

/-- The signals on the balls (R535). `neg` is the N side of a pair, `up` the upstream chain port, `rx` its receive pair. -/
inductive Ball where
  | pvdd | pgnd | vdda | vddio | vcore | agnd | dgnd | caon | vref | vcm
  | out (n : Nat) (neg : Bool) | rly (n : Nat)
  | hpo (n : Nat) | hpsense | cpp | cpn | cpvss
  | ain (n : Nat) (neg : Bool) | micbias (n : Nat) | hk (n : Nat) | tach | jd (n : Nat)
  | pdmD (n : Nat) | pdmClk (n : Nat) | micPwr | privN | privLed
  | sapBclk (n : Nat) | sapFsync (n : Nat) | sapDin (n : Nat) | sapDout (n : Nat) | spdifIn | spdifOut | start
  | chain (up rx neg : Bool) | chainHead
  | scl | sda | alertN | addr | ascl | asda | fclk | fcsN | fio (n : Nat)
  | xtalI | xtalO | lfxI | lfxO | resetN | pfailN | faultN | vsel (n : Nat) | vcorePg | dbgClk | dbgIo
deriving DecidableEq, Repr

/-- The ball map, top view: rows A to M without I, columns 1 to 12 (R535). -/
def ballMap : List (List Ball) :=
  [[.out 0 false, .pvdd, .out 0 true, .out 1 false, .pvdd, .out 1 true, .out 2 false, .pvdd, .out 2 true, .out 3 false, .pvdd, .out 3 true],
   [.out 0 false, .pgnd, .out 0 true, .out 1 false, .pgnd, .out 1 true, .out 2 false, .pgnd, .out 2 true, .out 3 false, .pgnd, .out 3 true],
   [.pgnd, .pvdd, .rly 0, .rly 1, .resetN, .pfailN, .faultN, .start, .rly 2, .rly 3, .pvdd, .pgnd],
   [.ain 0 false, .ain 0 true, .agnd, .micbias 0, .chain true true false, .chain true true true, .chain true false false,
    .chain true false true, .hpo 0, .hpo 1, .hpo 2, .hpo 3],
   [.ain 1 false, .ain 1 true, .vcm, .micbias 1, .dgnd, .vcore, .dgnd, .chainHead, .cpp, .cpn, .cpvss, .hpsense],
   [.ain 2 false, .ain 2 true, .vref, .micbias 2, .vcore, .dgnd, .vcore, .vsel 0, .scl, .sda, .alertN, .addr],
   [.ain 3 false, .ain 3 true, .agnd, .vdda, .dgnd, .vcore, .dgnd, .vsel 1, .ascl, .asda, .fclk, .fcsN],
   [.ain 4 false, .ain 4 true, .vdda, .hk 0, .vcore, .dgnd, .vcore, .vcorePg, .fio 0, .fio 1, .fio 2, .fio 3],
   [.ain 5 false, .ain 5 true, .agnd, .hk 1, .vddio, .jd 0, .jd 1, .vddio, .sapBclk 0, .sapFsync 0, .sapDin 0, .sapDout 0],
   [.pdmD 0, .pdmD 1, .hk 2, .tach, .xtalI, .xtalO, .dbgClk, .dbgIo, .sapBclk 1, .sapFsync 1, .sapDin 1, .sapDout 1],
   [.pdmD 2, .pdmD 3, .pdmClk 0, .pdmClk 1, .lfxI, .lfxO, .spdifIn, .spdifOut, .sapBclk 2, .sapFsync 2, .sapDin 2, .sapDout 2],
   [.micPwr, .privN, .privLed, .caon, .chain false true false, .chain false true true, .chain false false false,
    .chain false false true, .sapBclk 3, .sapFsync 3, .sapDin 3, .sapDout 3]]

/-- What the block does to a ball: an open-drain ball is released or driven low; `active` is a signal that its own rules give. -/
inductive Drive where
  | none
  | hiZ
  | released
  | low
  | high
  | off
  | active
deriving DecidableEq, Repr

/-- A level. -/
def Drive.level (high : Bool) : Drive := if high then .high else .low

/-- An open-drain ball. -/
def Drive.openDrain (low : Bool) : Drive := if low then .low else .released

namespace Machine

/-- What the block drives on a ball (R536): bridges and relays (R268, R271), headphone drivers and pump (R296, R299), biases and
microphone power (R220, R237, R255), the audio ports (R184, R190, R210), alerts and FAULT_N (R396, R525), VSEL (R430). -/
def State.drives (s : State) : Ball → Drive
  | .out n _ => if s.spkSwitching n then .active else .hiZ
  | .rly n => Drive.openDrain (s.on (SPK_STAT_RELAY n))
  | .hpo n => if 1 ≤ s.hpoState n ∧ s.hpoState n ≤ 3 then .active else .off
  | .cpp | .cpn | .cpvss => if s.get HPO_STAT_CP_STATE = 1 ∨ s.get HPO_STAT_CP_STATE = 2 then .active else .off
  | .micbias n => if s.bit AIN_BIAS_STAT_ON n then .active else .off
  | .pdmClk n => if s.get (pdmState n) = 0 then .low else .active
  | .micPwr => if s.on PDM_STAT_MIC_PWR_ON then .active else .off
  | .privLed => Drive.openDrain (s.on WAKE_PRIV_STAT_LED)
  | .sapBclk n | .sapFsync n => if s.on (SAP_CFG_ROLE n) ∧ s.sapState n = 3 then .active else .hiZ
  | .sapDout n => if (s.port n).line.dout = [] then .hiZ else .active
  | .spdifOut => if s.spd.wire.isSome then .active else .low
  | .chain up rx _ => if rx then .none else if s.linkState (b2n !up) = 0 then .off else .active
  | .alertN => Drive.openDrain !s.alertN
  | .faultN => Drive.openDrain (s.on KEEP_STAT_DRIVING)
  | .vsel n => Drive.level (s.bit PWR_STAT_VSEL n)
  | .scl | .sda | .ascl | .asda => .released
  | .fclk => .low
  | .fcsN => .high
  | _ => .none

end Machine

end Sys2Proof
end

