-- ==== Sys2Proof/Machine/Line.lean ====
section
/-! DEFINITION. What a chain port puts on its line in a frame: the code groups of a chain frame, before 8b/10b (R314 to R316, chapter
The Reninait Chain). -/

namespace Sys2Proof

/-- A code group of the line: a special one, Kx.y as 32 × y + x, or a data byte (R314). -/
inductive CodeGroup where
  | special (byte : Nat)
  | data (byte : Nat)
deriving DecidableEq, Repr

/-- One bit of a byte shifted through the polynomial 0x1021, `n` bits left. -/
def crc16Bits : Nat → Nat → Nat
  | 0, c => c
  | n + 1, c => crc16Bits n (if bitOf c 15 then (2 * c % 65536) ^^^ 0x1021 else 2 * c % 65536)

/-- The CRC-16 of R316 over a list of bytes. -/
def crc16 (l : List Nat) : Nat := l.foldl (fun c b => crc16Bits 8 (c ^^^ (256 * (b % 256)))) 0xFFFF

/-- A slot group on the line: the bytes of its slots, and their CRC-16, low byte first (log 51). -/
def slotGroup (cells : List Nat) : List Nat :=
  let l := cells.flatMap (leBytes 8)
  l ++ leBytes 2 (crc16 l)

/-- `n` idle code groups: K28.5 D16.2 pairs, then one D16.2 when the count is odd (R315). -/
def idleGroups (n : Nat) : List CodeGroup :=
  (List.replicate (n / 2) [CodeGroup.special 0xBC, CodeGroup.data 0x50]).flatten ++ (if n % 2 = 1 then [.data 0x50] else [])

/-- A chain frame on the line (R315): its type, the sixteen words of the control field, the slots' cells, and its idle code groups. -/
def chainLine (ftype : Nat) (ctl cells : List Nat) (groups idle : Nat) : List CodeGroup :=
  let c := ctl.flatMap (leBytes 8)
  let body := c ++ leBytes 4 (crc32 c) ++ (List.range groups).flatMap (fun g => slotGroup ((cells.drop (16 * g)).take 16))
  .special 0xBC :: .data ftype :: (body.map CodeGroup.data ++ .special 0xFD :: idleGroups idle)

namespace Machine

/-- The cells of the slots that port `p` sends in this frame. -/
def State.slotsSent (s : State) (p : Nat) : List Nat :=
  (List.range s.chainWidth).map (fun i => (mapGet (0 : Word) s.chainSlots (128 * p + i)).toNat)

/-- Idle code groups of this frame: of every 12 frames at 48 kHz one is a group longer, of every 24 at 96 kHz one, so that 62.5 million
groups go in a second (R314, R315); which one is not said, and free. -/
def State.idleCount (s : State) : Nat :=
  if s.rate96 then 126 + b2n (s.frame % 24 == Config.longFrame % 24) else 127 + b2n (s.frame % 12 == Config.longFrame % 12)

/-- The AUDIO frame that port `p` sends in this frame, if the link is UP (R315). -/
def State.portLine (s : State) (p : Nat) : Option (List CodeGroup) :=
  let ctl := if p = 0 then s.chain.ctlUp else s.chain.ctlDn
  if s.linkState p ≠ 5 ∨ ctl = [] then none
  else some (chainLine 1 ctl (s.slotsSent p) (if s.rate96 then 3 else 8) s.idleCount)

end Machine

end Sys2Proof
end

