-- ==== Sys2Proof/WellFormed.lean ====
section
/-! DEFINITION. Which operands a command can carry: the widths and ranges that the spec gives what the block receives,
measures or is addressed by. Tile, ring and channel numbers are in range by their types, and a row without a check here has no
other operand. -/

namespace Sys2Proof

/-- Every element is a number of `n` bits. -/
def allBits (n : Nat) (l : List Nat) : Bool := l.all (fun v => decide (v < 2 ^ n))

/-- A word address in a range. -/
def wordIn (lo hi a : Nat) : Bool := a % 8 == 0 && decide (lo ≤ a) && decide (a < hi)

/-- What a cold start reads (R383, R464, R495): eight strap rows, 128 fuse bits, three copies of the system image. -/
def PowerInputs.wf (p : PowerInputs) : Bool :=
  decide (p.strap < 8) && decide (p.addrMv < 2 ^ 16) && decide (p.fuses < 2 ^ 128) && decide (p.sysBad < 16)

/-- What a frame's inputs are (R217, R227, R258): six converters of 24 bits, eight microphones, four channels of each output. -/
def FrameInputs.wf (x : FrameInputs) : Bool :=
  x.ain.length == 6 && allBits 24 x.ain && decide (x.overRange < 64) && x.pdm.length == 8 && decide (x.pvdd < 2 ^ 16) &&
  x.amps.length == 4 && decide (x.hpoLimit < 16) &&
  x.mon.length == 6 && allBits 32 x.mon && decide (x.edges < 64) && decide (x.measB < 2 ^ 32) && x.low.length == 6 && x.low.all (fun l => decide (l.length ≤ 8)) && x.xpBad.all (fun n => decide (n < 1024))

/-- A tunnel unit: a header and a data word (R333), with the row's type (R334). -/
def TunUnit.wf (type : Nat) (u : TunUnit) : Bool :=
  decide (u.hdr < 2 ^ 64) && u.hdr / 16 % 16 == type && u.data.length == 1 && allBits 64 u.data

/-- A chain frame (R315): sixteen control words, 128 slots in eight groups. -/
def ChainFrame.wf (f : ChainFrame) : Bool :=
  f.ctl.length == 16 && allBits 64 f.ctl && decide (f.slots.length ≤ 128) && allBits 64 f.slots &&
  decide (f.badSlots < 2 ^ 128) && decide (f.badGroups < 2 ^ 8)

/-- What training measures (R321, R324): a position of the chain and a frame number. -/
def LinkInfo.wf (k : LinkInfo) : Bool := decide (k.pos < 16) && decide (k.headFrame < 2 ^ 32)

/-- A data byte's place in a transfer (R400). -/
def AuxOutcome.wf : AuxOutcome → Bool
  | .arbLost _ bit => decide (bit < 9)
  | _ => true

/-- A bus clear sends nine pulses at most (R405). -/
def ClearOutcome.wf : ClearOutcome → Bool
  | .released n | .timeout n => decide (n ≤ 9)
  | .stuck => true

/-- The command's operands are values that the hardware can meet. -/
def Instr.wellFormed : Instr → Bool
  | .powerOn p | .resetRelease p => p.wf
  | .registerWrite a _ | .rcRegisterRead a => wordIn 0xE00000 0xE14000 a
  | .frameBoundary x => x.wf
  | .domainBStrobe p => decide (p < 512)
  | .domainCStrobe pcm p => pcm.length == 8 && decide (p < 512)
  | .eccWriteBack a | .curatorWriteBack a => wordIn 0 0xE00000 a
  | .configMemoryWrite a _ => wordIn 0 0x400000 a
  | .stateRamWrite a _ => wordIn 0xC00000 0xE00000 a
  | .dombLocked m | .clkRate _ m => decide (m < 2 ^ 32)
  | .clkResume _ p r => decide (p < 2 ^ 32) && decide (r < 2 ^ 32)
  | .brgSettle _ r | .brgUnlock _ r => decide (r < 2 ^ 48)
  | .lendChunk h ws _ => decide (h < 2 ^ 40) && decide (ws.length ≤ 139) && allBits 64 ws
  | .lendNak _ o => decide (o < 2 ^ 24)
  | .lendDone _ st => decide (st < 14)
  | .slotErase _ b | .slotWrite _ b => match b with | some n => decide (n < 2 ^ 22) | none => true
  | .sapRxFrame _ din => decide (din.length ≤ 1025)
  | .spdLock r => decide (r ≤ 4)
  | .spdSubframe _ w _ _ => decide (w < 2 ^ 32)
  | .chnLinkUp _ k => k.wf
  | .chnLinkDown _ c => decide (c ≤ 2)
  | .chainFrameRx _ f => f.wf
  | .idleUnit u => u.wf 0
  | .write u => u.wf 1
  | .read u => u.wf 2
  | .readRsp u => u.wf 3 && decide (u.hdr / 2 ^ 60 ≤ 0x0D)
  | .cmd u => u.wf 4
  | .cpl u => u.wf 5 && (bitOf u.hdr 54 || decide (bits (u.data.headD 0) 24 8 ≤ 0x0D))
  | .event u => u.wf 6
  | .ack u => u.wf 7
  | .dealRsp u => u.wf 8
  | .topoAttach u => u.wf 10 && u.data.headD 0 == 0
  | .topoDetach u => u.wf 10 && u.data.headD 0 == 1
  | .resetRpt u => u.wf 11
  | .calInstall t _ _ => decide (t < 256)
  | .stageTempRead l => l.length == 4 && allBits 8 l
  | .detSample _ c => decide (c < 2 ^ 10)
  | .auxXfer _ l o => decide (l.length ≤ 256) && allBits 8 l && o.wf
  | .auxClear _ o => o.wf
  | .hostBusWrite a _ _ => decide (a < 2 ^ 24)
  | .hostBusRead a _ => decide (a < 2 ^ 24)
  | .hostTransactionEnd a n _ | .twbTimeout a n _ => decide (a < 2 ^ 24) && decide (n < 8)
  | .regionTest _ r => decide (r < 2048)
  | .regionTestEnd _ l => l.all (fun r => decide (r < 2048))
  | .pwrXoFail c => decide (c < 2 ^ 16)
  | .scrubRead a t u => decide (a ≤ 9) && decide (t < 1024) && decide (u ≤ 2)
  | .keepForced m => decide (m < 256)
  | _ => true

end Sys2Proof
end

