-- ==== Sys2Proof/Tests/Slice0.lean ====
section
/-! SUPPORT. Tests: an ill-formed term for each check of WellFormed, one step of a command of each family with results worked out
from the spec, and for each statement states and operands that meet the hypotheses of its clauses. -/

namespace Sys2Proof.Tests

open Sys2Proof.Machine

set_option Elab.async false

/-- The state after reset with some register fields set. -/
def st (l : List (Fld × Nat)) : State := l.foldl (fun (s : State) (p : Fld × Nat) => s.put p.1 p.2) State.reset

/-- Cells from address `a` on. -/
def cells (a : Nat) (l : List Byte) : List Host.Cell := l.zipIdx.map (fun (p : Byte × Nat) => (a + p.2, p.1))

/-- A microinstruction of opcode 0. -/
def mic : Micro := { opc := 0, dst := 0, srca := 0, srcb := 0, cond := 0, acs := 0, mod := 0, imm := 0 }

/-- A command in execution. -/
def run0 : Exec :=
  { seq := 0, words := [], retried := false, committed := false, startFrame := 0, left := 0, result := 0, lost := false, mask := 0
    snap := [] }

/-- A crosspoint change that waits. -/
def chg : XpChange :=
  { ring := 5, seq := 3, queuedAt := 0, at_ := none, fadeK := 0, power := false, desc := none, dom := 0, group := [] }

/-- A full load in its teardown phase. -/
def load0 : Load :=
  { ring := none, kind := 0, shelf := 0, slot := 0, boot := false, units := 1, edition := 0, minPl := 0, at_ := none
    phase := .teardown, cancel := false, own := none, startF := none, tiles := [], xps := [], rings := [] }

/-- A staged coefficient group. -/
def grp : Machine.Group :=
  { ring := 5, seq := 3, settle := 0, at_ := none, staged := true, stagedAt := 0, words := [], secs := [] }

/-- A chain frame of zeros that arrived whole. -/
def cfr : ChainFrame :=
  { missing := false, crcOk := true, ctl := List.replicate 16 0, slots := List.replicate 128 0, badSlots := 0, badGroups := 0 }

/-- Tile 0 runs at instruction 12, the word `w`, in a tick of `budget` cycles. -/
def tileAt (w budget : Nat) : State :=
  { st [(FAB_TILE_STAT_STATE 0, 2)] with
    mem := (cells 96 ((List.range 8).map (fun (k : Nat) => BitVec.ofNat 8 (w / 256 ^ k)))).filter (fun (c : Host.Cell) => c.2 ≠ 0)
    tiles := [(0, { Tile.reset with pc := 12, budget := budget })] }


/-- A codex image of format 1 and EDITION 5 without a record, committed. -/
def image : List Host.Cell :=
  cells 0 [0x42, 0x5A, 0x4C, 0x43, 1, 0, 0, 0, 0xF, 0xF, 0xA5, 0x5A, 0xFA] ++
    cells 16 ([5, 0, 0, 0, 0xA0, 0, 0, 0, 0xA1, 0xD9, 0x4B, 0x65, 0, 1] ++ List.replicate 10 0 ++ [1] ++
      List.replicate 89 0 ++ [1, 0, 0x98] ++ List.replicate 27 0)

/-- A head in the load `l` from the image. -/
def loading (l : Load) : State :=
  { State.reset with
    isHead := true, flash := image, load := some l
    rings := [(5, { Ring.reset with exec := some { run0 with words := [8] } })] }

/-- A lend to a satellite whose stream has been sent. -/
def lend0 : Lend :=
  { edition := 5, stream := [], pos := 0, paused := false, fails := 0, status := none, auto := true, startF := none }

/-- A satellite of address 1. -/
def sat1 : State := st [(CHN_STAT_ADDR_VALID, 1), (CHN_STAT_ADDR, 1)]
/-- The hypothesis `Executes` from its parts. -/
theorem executes_of {s : State} {t o stalls : Nat} {m : Micro}
    (h : s.tileState t = 2 ∧ s.fetchMicro t = some m ∧ m.opc.toNat = o ∧ m.illegal = false ∧
      (o ≠ 0x20 → condHolds (s.tile t) m.cond.toNat = true) ∧ (s.tile t).waitsFor m = none ∧ (s.tile t).waitsEngine m = false ∧
      (s.tile t).doneCycle m + stalls ≤ (s.tile t).budget ∧ (s.tile t).pc < 191) : Executes s t o stalls m :=
  ⟨h.1, h.2.1, h.2.2.1, h.2.2.2.1, h.2.2.2.2.1, h.2.2.2.2.2.1, h.2.2.2.2.2.2.1, h.2.2.2.2.2.2.2.1, h.2.2.2.2.2.2.2.2⟩

/-- The hypothesis `TakesUp` from its parts. -/
theorem takesUp_of {s : State} {r : Nat} {ws : List Nat}
    (h : s.canStart r = true ∧ s.headWords r = ws ∧ (s.ring r).marks.contains (s.headSeq r) = false ∧ s.headBad r = false ∧
      ((s.ring r).retrySeq.isSome = true → ws.length = (s.ring r).haltNw) ∧ cmdMalformed ws = false) : TakesUp s r ws :=
  ⟨h.1, h.2.1, h.2.2.1, h.2.2.2.1, h.2.2.2.2.1, h.2.2.2.2.2⟩


/-! ### Ill-formed terms: one for each check of WellFormed -/

/-- Cold-start inputs of a satellite without a fuse blown. -/
def cold : PowerInputs := { head := false, strap := 0, margin := false, addrMv := 0, xoOk := true, fuses := 0, sysBad := 0 }

/-- A frame's inputs at rest. -/
def quiet : FrameInputs :=
  { ain := List.replicate 6 0, overRange := 0, pdm := List.replicate 8 0, pvdd := 0, amps := List.replicate 4 0, hpoLimit := 0
    mon := List.replicate 6 0, edges := 0, measB := 0, low := List.replicate 6 [], xpBad := [] }

/-- A tunnel unit of a type with a data word. -/
def tun (type d : Nat) : TunUnit := { hdr := 16 * type, data := [d] }

theorem test_wellformed_power_on : Instr.wellFormed (.powerOn cold) = true := by decide
theorem test_wellformed_boundary : Instr.wellFormed (.frameBoundary quiet) = true := by decide
theorem test_wellformed_unit : Instr.wellFormed (.write (tun 1 7)) = true := by decide
theorem test_illformed_strap : Instr.wellFormed (.powerOn { cold with strap := 8 }) = false := by decide
theorem test_illformed_address_voltage : Instr.wellFormed (.powerOn { cold with addrMv := 65536 }) = false := by decide
theorem test_illformed_fuses : Instr.wellFormed (.resetRelease { cold with fuses := 2 ^ 128 }) = false := by decide
theorem test_illformed_copies : Instr.wellFormed (.powerOn { cold with sysBad := 16 }) = false := by decide
theorem test_illformed_register : Instr.wellFormed (.registerWrite 0xE00004 0) = false := by decide
theorem test_illformed_register_range : Instr.wellFormed (.rcRegisterRead 0xE14000) = false := by decide
theorem test_illformed_converters : Instr.wellFormed (.frameBoundary { quiet with ain := [0] }) = false := by decide
theorem test_illformed_code : Instr.wellFormed (.frameBoundary { quiet with ain := List.replicate 6 (2 ^ 24) }) = false := by
  decide
theorem test_illformed_over_range : Instr.wellFormed (.frameBoundary { quiet with overRange := 64 }) = false := by decide
theorem test_illformed_microphones : Instr.wellFormed (.frameBoundary { quiet with pdm := [] }) = false := by decide
theorem test_illformed_pvdd : Instr.wellFormed (.frameBoundary { quiet with pvdd := 65536 }) = false := by decide
theorem test_illformed_currents : Instr.wellFormed (.frameBoundary { quiet with amps := [] }) = false := by decide
theorem test_illformed_limits : Instr.wellFormed (.frameBoundary { quiet with hpoLimit := 16 }) = false := by decide
theorem test_illformed_monitors : Instr.wellFormed (.frameBoundary { quiet with mon := [] }) = false := by decide
theorem test_illformed_edges : Instr.wellFormed (.frameBoundary { quiet with edges := 64 }) = false := by decide
theorem test_illformed_rate_b : Instr.wellFormed (.frameBoundary { quiet with measB := 2 ^ 32 }) = false := by decide
theorem test_illformed_low_latency : Instr.wellFormed (.frameBoundary { quiet with low := [] }) = false := by decide
theorem test_illformed_low_samples :
    Instr.wellFormed (.frameBoundary { quiet with low := List.replicate 6 (List.replicate 9 0) }) = false := by decide
theorem test_illformed_struck_entry : Instr.wellFormed (.frameBoundary { quiet with xpBad := [1024] }) = false := by decide
theorem test_illformed_strobe_b : Instr.wellFormed (.domainBStrobe 512) = false := by decide
theorem test_illformed_strobe_c : Instr.wellFormed (.domainCStrobe [] 0) = false := by decide
theorem test_illformed_write_back : Instr.wellFormed (.eccWriteBack 4) = false := by decide
theorem test_illformed_curator_word : Instr.wellFormed (.curatorWriteBack 0xE00000) = false := by decide
theorem test_illformed_frame_word : Instr.wellFormed (.configMemoryWrite 0x400000 0) = false := by decide
theorem test_illformed_state_word : Instr.wellFormed (.stateRamWrite 0xBFFFF8 0) = false := by decide
theorem test_illformed_measure : Instr.wellFormed (.dombLocked (2 ^ 32)) = false := by decide
theorem test_illformed_rate : Instr.wellFormed (.clkRate 0 (2 ^ 32)) = false := by decide
theorem test_illformed_period : Instr.wellFormed (.clkResume 0 (2 ^ 32) 0) = false := by decide
theorem test_illformed_ratio : Instr.wellFormed (.brgSettle 0 (2 ^ 48)) = false := by decide
theorem test_illformed_new_ratio : Instr.wellFormed (.brgUnlock 0 (2 ^ 48)) = false := by decide
theorem test_illformed_chunk : Instr.wellFormed (.lendChunk (2 ^ 40) [] .full) = false := by decide
theorem test_illformed_chunk_length : Instr.wellFormed (.lendChunk 0 (List.replicate 140 0) .full) = false := by decide +kernel
theorem test_illformed_nak : Instr.wellFormed (.lendNak 1 (2 ^ 24)) = false := by decide
theorem test_illformed_done : Instr.wellFormed (.lendDone 1 14) = false := by decide
theorem test_illformed_erase : Instr.wellFormed (.slotErase 0 (some (2 ^ 22))) = false := by decide
theorem test_illformed_program : Instr.wellFormed (.slotWrite 0 (some (2 ^ 22))) = false := by decide
theorem test_illformed_port_frame : Instr.wellFormed (.sapRxFrame 0 (List.replicate 1026 false)) = false := by decide +kernel
theorem test_illformed_rate_code : Instr.wellFormed (.spdLock 5) = false := by decide
theorem test_illformed_subframe : Instr.wellFormed (.spdSubframe false (2 ^ 32) false none) = false := by decide
theorem test_illformed_link_position :
    Instr.wellFormed (.chnLinkUp 0 { delay := 0, pos := 16, addrValid := false, offset := 0, headFrame := 0 }) = false := by
  decide
theorem test_illformed_link_cause : Instr.wellFormed (.chnLinkDown 0 3) = false := by decide
theorem test_illformed_control : Instr.wellFormed (.chainFrameRx 0 { cfr with ctl := [] }) = false := by decide
theorem test_illformed_slots : Instr.wellFormed (.chainFrameRx 0 { cfr with slots := List.replicate 129 0 }) = false := by
  decide
theorem test_illformed_unit_type : Instr.wellFormed (.write (tun 2 7)) = false := by decide
theorem test_illformed_unit_words : Instr.wellFormed (.cmd { tun 4 0 with data := [] }) = false := by decide
theorem test_illformed_completion : Instr.wellFormed (.cpl (tun 5 (0x0E * 2 ^ 24))) = false := by decide
theorem test_illformed_read_status : Instr.wellFormed (.readRsp { hdr := 0x30 + 0xE * 2 ^ 60, data := [0] }) = false := by decide
theorem test_illformed_attach : Instr.wellFormed (.topoAttach (tun 10 1)) = false := by decide
theorem test_illformed_detach : Instr.wellFormed (.topoDetach (tun 10 0)) = false := by decide
theorem test_illformed_step : Instr.wellFormed (.calInstall 256 0 0) = false := by decide
theorem test_illformed_sensors : Instr.wellFormed (.stageTempRead [1, 2, 3]) = false := by decide
theorem test_illformed_sample : Instr.wellFormed (.detSample 0 1024) = false := by decide
theorem test_illformed_transfer : Instr.wellFormed (.auxXfer 0 [] (.arbLost 0 9)) = false := by decide
theorem test_illformed_clear : Instr.wellFormed (.auxClear 0 (.released 10)) = false := by decide
theorem test_illformed_bus_write : Instr.wellFormed (.hostBusWrite (2 ^ 24) 0 0) = false := by decide
theorem test_illformed_bus_read : Instr.wellFormed (.hostBusRead (2 ^ 24) 0) = false := by decide
theorem test_illformed_bus_end : Instr.wellFormed (.hostTransactionEnd 0 8 true) = false := by decide
theorem test_illformed_bus_timeout : Instr.wellFormed (.twbTimeout 0 8 true) = false := by decide
theorem test_illformed_region : Instr.wellFormed (.regionTest 0 2048) = false := by decide
theorem test_illformed_rows : Instr.wellFormed (.regionTestEnd 0 [2048]) = false := by decide
theorem test_illformed_oscillator : Instr.wellFormed (.pwrXoFail 65536) = false := by decide
theorem test_illformed_scrub : Instr.wellFormed (.scrubRead 10 0 0) = false := by decide
theorem test_illformed_forced : Instr.wellFormed (.keepForced 256) = false := by decide

/-! ### One step of a command, with the values the spec works out or that follow from its tables -/

/-- The state after a command. -/
def after (i : Instr) (s : State) : State :=
  match exec i s with
  | .next t => t
  | _ => s

/-- D2 of tile 0 after a command. -/
def d2 (i : Instr) (s : State) : Word := mapGet 0 ((after i s).tile 0).d 2

/-- The tile of `tileAt` with D0 and D1. -/
def withD (s : State) (a b : Word) : State := s.setTile 0 { s.tile 0 with d := [(0, a), (1, b)], tickFrame := 0x123456 }

/-- R159 gives the CRC of the string 123456789. -/
theorem test_crc : crc32 [0x31, 0x32, 0x33, 0x34, 0x35, 0x36, 0x37, 0x38, 0x39] = 0xCBF43926 := by decide +kernel
/-- R65: LDI of D2, always. -/
theorem test_micro_fields :
    decodeMicro 0x1020000000400000 =
      { opc := 0x04, dst := 2, srca := 0, srcb := 0, cond := 0, acs := 0, mod := 0, imm := 0x400000 } := by decide
/-- R66: LDI writes IMM × 2^8 with V alone. -/
theorem test_ldi : d2 (.ldi 0) (tileAt 0x1020000000400000 9) = 0x0040000000000001 := by decide +kernel
/-- The worked example of chapter Sample Cell: music 0.25 and prompt −0.375 sum to −0.125 with V and P. -/
theorem test_add_mix :
    d2 (.add 0) (withD (tileAt 0x1420010000000000 9) 0x0040000000345601 0xFFA0000000345605) = 0xFFE0000000345605 := by
  decide +kernel
/-- R20: a sum past the top saturates and sets C. -/
theorem test_add_saturates :
    d2 (.add 0) (withD (tileAt 0x1420010000000000 9) 0x7FFFFFFFFF345601 0x7FFFFFFFFF345601) = 0x7FFFFFFFFF345611 := by
  decide +kernel
/-- R66: SUB takes SRCB from SRCA, in that order. -/
theorem test_sub_order :
    d2 (.sub 0) (withD (tileAt 0x1820010000000000 9) 0x0040000000345601 0x0060000000345601) = 0xFFE0000000345601 := by
  decide +kernel
/-- R66: MOVF clears S, P, X and C where IMM says so, and no other flag. -/
theorem test_movf :
    d2 (.movf 0) (withD (tileAt 0x0C200000000000FF 9) 0x00400000003456FF 0) = 0x00400000003456A9 := by decide +kernel
/-- R66: SHL by −1. -/
theorem test_shl_down :
    d2 (.shl 0) (withD (tileAt 0x2C2000000000003F 9) 0x0040000000345601 0) = 0x0020000000345601 := by decide +kernel
/-- R66: MACI adds SRCA × IMM / 2^24: 0.25 × 2 is 0.5 in units of 2^-64. -/
theorem test_maci :
    ((after (.maci 0) (withD (tileAt 0x4C00000002000000 9) 0x0040000000345601 0)).tile 0).acc0 = 2 ^ 63 := by decide +kernel
/-- R65: a jump whose condition fails goes on with the next word. -/
theorem test_jmp_not_taken : ((after (.jmp 0) (tileAt 0x8000002000000005 9)).tile 0).pc = 13 := by decide +kernel
/-- R65, R66: a jump whose condition holds goes to IMM. -/
theorem test_jmp_taken : ((after (.jmp 0) (tileAt 0x8000000000000005 9)).tile 0).pc = 5 := by decide +kernel
/-- R68, R70: an illegal instruction stops the tile with reason 2. -/
theorem test_illegal :
    (after (.illegalInstruction 0) (tileAt 0xFC00000000000000 9)).get (FAB_TILE_STAT_STOP_REASON 0) = 2 := by decide +kernel
/-- R72: a parameter write waits in its shelf's queue. -/
theorem test_param_queued : (after (.fabParamWr 0x308) State.reset).paramq ≠ State.reset.paramq := by decide +kernel
/-- R76, R77: the worked slot words: 1.0 and −1.96875 in units of 2^-36. -/
theorem test_coefficients : coefOf 0x1000000000000000 = 2 ^ 36 ∧ coefOf 0xE080000000000000 = -63 * 2 ^ 31 := by decide
/-- R107: −3 dB is code 0xFF40 and 0.70795 (in units of 1/100000, before the free relative error), 0 dB is 1 and MUTE is 0. -/
theorem test_gain : (dbFix (toSigned 16 0xFF40 * 1024) * 200000 / 2 ^ 128 + 1) / 2 = 70795 ∧ gainLin 0 = 2 ^ 32 ∧ gainLin 0x8000 = 0 := by
  decide +kernel
/-- R19: −0.125 as a 24-bit code. -/
theorem test_narrow : narrow 24 (audioOf 0xFFE0000000345625) = (0xF00000, false) := by decide
/-- The worked addresses of chapter Address Space: state-RAM cell 5 and parameter P3 of tile 200. -/
theorem test_addresses : ramAddr 200 5 = 0xC64028 ∧ frameAddr 200 0xE98 = 0xC8E98 := by decide
/-- The worked entry of chapter Address Space: completion ring 1 at SEQ count 7. -/
theorem test_ring_word : bankAddr 6 (0x1FC40 + 7 * 2 % 64) = 0xAFE270 := by decide
/-- The worked example of chapter Rings and Ordering: the completion of ring 4's ROUTE. -/
theorem test_completion : cplWords { State.reset with frame := 0x201001 } 4 0x0121 0x07 4 0 false = (0x0000000404070121, 0x0000000000201001) := by
  decide +kernel
/-- R12: the register stage ignores a write to SYS_LOCK with LOCK 0, and 1 sets the lock. -/
theorem test_lock : (after (.sysLock 0) State.reset).on SYS_LOCK_LOCK = false ∧ (after (.sysLock 1) State.reset).on SYS_LOCK_LOCK = true := by
  decide +kernel
/-- R458: a WARM reset needs the key. -/
theorem test_reset_key : (after (.sysReset 1) State.reset).rst = none ∧ (after (.sysReset 0xC3A5000000000001) State.reset).rst ≠ none := by decide +kernel
/-- R5: a frame boundary counts the frame. -/
theorem test_frame : (after (.frameBoundary quiet) State.reset).frame = 1 := by decide +kernel
/-- The worked example of chapter Speaker Stages: Z12 3,920 mΩ reads 82.25 °C, and SPK_IMP0 0x0001_0000_0524_0F50. -/
theorem test_coil :
    let s := st [(SPK_STAT_STATE 0, 2), (SPK_CFG_PILOT_EN 0, 1), (SPK_VC_R_REF 0, 3200), (SPK_VC_ALPHA 0, 3930), (SPK_VC_T_REF 0, 400),
      (SPK_VC_TMAX 0, 150)]
    let t := after (.pilotWindowEnd 0 3920) { s with spks := [(0, { Spk.reset with impWin := 1, winPos := 96000 })] }
    t.get (SPK_IMP_Z12 0) = 3920 ∧ t.get (SPK_IMP_VC_TEMP 0) = 1316 ∧ t.on (SPK_IMP_IMP_VALID 0) = true := by decide +kernel
/-- The worked identity of chapter Reset and Start-up: its fields' bits. -/
theorem test_identity :
    let f := 0xA265511B3A71C2E4 + 2 ^ 64 * 0x1604944
    bits f 0 40 = 0x1B3A71C2E4 ∧ bits f 40 5 = 17 ∧ bits f 45 8 = 42 ∧ bits f 53 8 = 19 ∧ bits f 61 4 = 5 ∧ bits f 65 8 = 0xA2 ∧
      bits f 73 16 = 0xB024 := by decide
/-- The step takes the command in front and leaves the queue's rest. -/
theorem test_step :
    (match step { State.reset with pending := [.sysLock 1, .stop] } with
     | .next t => t.on SYS_LOCK_LOCK && t.pending == [.stop]
     | _ => false) = true := by decide +kernel

/-- A state in which `Obligations.StepKeepsMemoriesCanonical` has its hypotheses: the memories are canonical and the step answers. -/
theorem witness_StepKeepsMemoriesCanonical : ∃ s t : State, step s = .next t ∧ s.Stored ∧ s.pending ≠ [] :=
  ⟨{ State.reset with pending := [.sysLock 1] }, after (.sysLock 1) State.reset, rfl, by decide +kernel⟩

/-! ### States and operands that meet the hypotheses of the statements -/

/-- States and operands that meet the hypotheses of the clauses of `Obligations.TileMovesControlAndEnd`. -/
theorem witness_TileMovesControlAndEnd :
  (∃ (s : State) (t : TileIx) (m : Micro), Executes s t.val 2 0 m) ∧
  (∃ (s : State) (t : TileIx) (m : Micro), Executes s t.val 3 0 m) ∧
  (∃ (s : State) (t : TileIx) (m : Micro), Executes s t.val 4 0 m) ∧
  (∃ (s : State) (t : TileIx) (m : Micro), Executes s t.val 0 0 m) ∧
  (∃ (s : State) (t : TileIx) (m : Micro), Executes s t.val 35 0 m) ∧
  (∃ (s : State) (t : TileIx) (m : Micro), Executes s t.val 12 0 m) ∧
  (∃ (s : State) (t : TileIx) (m : Micro), Executes s t.val 13 0 m) ∧
  (∃ (s : State) (t : TileIx) (m : Micro), Executes s t.val 33 0 m) ∧
  (∃ (s : State) (t : TileIx) (m : Micro),
    let x := s.tile t.val;
    Executes s t.val 32 0 m ∧ condHolds x m.cond.toNat = false) ∧
  (∃ (s : State) (t : TileIx) (m : Micro),
    let x := s.tile t.val;
    Executes s t.val 32 1 m ∧ condHolds x m.cond.toNat = true) ∧
  (∃ (s : State) (t : TileIx) (m : Micro), Executes s t.val 1 0 m) :=
 ⟨⟨tileAt 0x083042000000FF03 1, 0, decodeMicro 0x083042000000FF03, executes_of (by decide +kernel)⟩,
  ⟨tileAt 0x0C3042000000FF03 1, 0, decodeMicro 0x0C3042000000FF03, executes_of (by decide +kernel)⟩,
  ⟨tileAt 0x103042000000FF03 1, 0, decodeMicro 0x103042000000FF03, executes_of (by decide +kernel)⟩,
  ⟨tileAt 0x003042000000FF03 1, 0, decodeMicro 0x003042000000FF03, executes_of (by decide +kernel)⟩,
  ⟨tileAt 0x8C3042000000FF03 1, 0, decodeMicro 0x8C3042000000FF03, executes_of (by decide +kernel)⟩,
  ⟨tileAt 0x303042000000FF03 1, 0, decodeMicro 0x303042000000FF03, executes_of (by decide +kernel)⟩,
  ⟨tileAt 0x343042000000FF03 1, 0, decodeMicro 0x343042000000FF03, executes_of (by decide +kernel)⟩,
  ⟨tileAt 0x843042000000FF03 1, 0, decodeMicro 0x843042000000FF03, executes_of (by decide +kernel)⟩,
  ⟨{ st [(FAB_TILE_STAT_STATE 1023, 2)] with
        mem := cells 0x3FF5F0 [0x1F, 0x23, 0xA1] ++ cells 0x3FF5F4 [0xF2, 0xC3, 0x30, 0x80]
        tiles := [(1023, { Tile.reset with pc := 190, budget := 1 })] }, 1023,
      { mic with opc := 0x20, dst := 3, srca := 3, srcb := 3, cond := 7, acs := 1, mod := 2, imm := 0xA1231F },
      ⟨executes_of (by decide +kernel), by decide +kernel⟩⟩,
  ⟨tileAt 0x803042000000FF03 4, 0, decodeMicro 0x803042000000FF03, ⟨executes_of (by decide +kernel), by decide +kernel⟩⟩,
  ⟨tileAt 0x043042000000FF03 1, 0, decodeMicro 0x043042000000FF03, executes_of (by decide +kernel)⟩⟩

/-- States and operands that meet the hypotheses of the clauses of `Obligations.TileArithmeticResults`. -/
theorem witness_TileArithmeticResults :
  (∃ (s : State) (t : TileIx) (m : Micro), Executes s t.val 5 0 m) ∧
  (∃ (s : State) (t : TileIx) (m : Micro), Executes s t.val 6 0 m) ∧
  (∃ (s : State) (t : TileIx) (m : Micro), Executes s t.val 8 0 m) ∧
  (∃ (s : State) (t : TileIx) (m : Micro), Executes s t.val 9 0 m) ∧
  (∃ (s : State) (t : TileIx) (m : Micro), Executes s t.val 7 0 m) ∧
  (∃ (s : State) (t : TileIx) (m : Micro), Executes s t.val 10 0 m) ∧
  (∃ (s : State) (t : TileIx) (m : Micro), Executes s t.val 11 0 m ∧ 0 ≤ toSigned 6 m.imm.toNat) ∧
  (∃ (s : State) (t : TileIx) (m : Micro), Executes s t.val 11 0 m ∧ toSigned 6 m.imm.toNat < 0) ∧
  (∃ (s : State) (t : TileIx) (m : Micro),
    let a := audioOf (s.operand t.val m.srca.toNat);
    Executes s t.val 29 0 m ∧ a ≠ 0) ∧
  (∃ (s : State) (t : TileIx) (m : Micro),
    let a := audioOf (s.operand t.val m.srca.toNat);
    Executes s t.val 29 0 m ∧ a = 0) :=
 ⟨⟨tileAt 0x143042000000FF03 1, 0, decodeMicro 0x143042000000FF03, executes_of (by decide +kernel)⟩,
  ⟨tileAt 0x183042000000FF03 1, 0, decodeMicro 0x183042000000FF03, executes_of (by decide +kernel)⟩,
  ⟨tileAt 0x203042000000FF03 1, 0, decodeMicro 0x203042000000FF03, executes_of (by decide +kernel)⟩,
  ⟨tileAt 0x243042000000FF03 1, 0, decodeMicro 0x243042000000FF03, executes_of (by decide +kernel)⟩,
  ⟨tileAt 0x1C3042000000FF03 1, 0, decodeMicro 0x1C3042000000FF03, executes_of (by decide +kernel)⟩,
  ⟨tileAt 0x283042000000FF03 1, 0, decodeMicro 0x283042000000FF03, executes_of (by decide +kernel)⟩,
  ⟨tileAt 0x2C3042000000FF03 1, 0, decodeMicro 0x2C3042000000FF03, ⟨executes_of (by decide +kernel), by decide +kernel⟩⟩,
  ⟨tileAt 0x2D80A1118000003F 1, 0, decodeMicro 0x2D80A1118000003F, ⟨executes_of (by decide +kernel), by decide +kernel⟩⟩,
  ⟨{ st [(FAB_TILE_STAT_STATE 0, 2)] with
        mem := cells 96 [3, 0xFF] ++ cells 101 [0x42, 0x30, 0x74]
        tiles := [(0, { Tile.reset with d := [(1, 0x15004D81)], pc := 12, budget := 500 })] }, 0,
      { mic with opc := 0x1D, dst := 3, srca := 1, srcb := 2, imm := 0xFF03 },
      ⟨executes_of (by decide +kernel), by decide +kernel⟩⟩,
  ⟨tileAt 0x743042000000FF03 500, 0, decodeMicro 0x743042000000FF03, ⟨executes_of (by decide +kernel), by decide +kernel⟩⟩⟩

/-- States and operands that meet the hypotheses of the clauses of `Obligations.TileAccumulatorResults`. -/
theorem witness_TileAccumulatorResults :
  (∃ (s : State) (t : TileIx) (m : Micro), Executes s t.val 16 0 m) ∧
  (∃ (s : State) (t : TileIx) (m : Micro), Executes s t.val 17 0 m) ∧
  (∃ (s : State) (t : TileIx) (m : Micro), Executes s t.val 18 0 m) ∧
  (∃ (s : State) (t : TileIx) (m : Micro), Executes s t.val 19 0 m) ∧
  (∃ (s : State) (t : TileIx) (m : Micro), Executes s t.val 20 0 m) ∧
  (∃ (s : State) (t : TileIx) (m : Micro), Executes s t.val 22 0 m) ∧
  (∃ (s : State) (t : TileIx) (m : Micro), Executes s t.val 21 0 m) :=
 ⟨⟨tileAt 0x403042000000FF03 1, 0, decodeMicro 0x403042000000FF03, executes_of (by decide +kernel)⟩,
  ⟨tileAt 0x443042000000FF03 1, 0, decodeMicro 0x443042000000FF03, executes_of (by decide +kernel)⟩,
  ⟨tileAt 0x483042000000FF03 1, 0, decodeMicro 0x483042000000FF03, executes_of (by decide +kernel)⟩,
  ⟨tileAt 0x4C3042000000FF03 1, 0, decodeMicro 0x4C3042000000FF03, executes_of (by decide +kernel)⟩,
  ⟨tileAt 0x503042000000FF03 1, 0, decodeMicro 0x503042000000FF03, executes_of (by decide +kernel)⟩,
  ⟨tileAt 0x583042000000FF03 1, 0, decodeMicro 0x583042000000FF03, executes_of (by decide +kernel)⟩,
  ⟨tileAt 0x543042000000FF03 1, 0, decodeMicro 0x543042000000FF03, executes_of (by decide +kernel)⟩⟩

/-- States and operands that meet the hypotheses of the clauses of `Obligations.TileLoadsAndStores`. -/
theorem witness_TileLoadsAndStores :
  (∃ (s : State) (t : TileIx) (m : Micro),
    let x := s.tile t.val;
    let n := m.imm.toNat / 256 % 4;
    let off := m.imm.toNat % 256;
    let cell := ramAddr t.val (((s.areg t.val n).1 + (mapGet 0 x.ptr n + off) % (s.areg t.val n).2) % 256);
    Executes s t.val 24 0 m ∧ s.mark cell ≠ 2) ∧
  (∃ (s : State) (t : TileIx) (m : Micro),
    let x := s.tile t.val;
    let n := m.imm.toNat / 256 % 4;
    let off := m.imm.toNat % 256;
    let cell := ramAddr t.val (((s.areg t.val n).1 + (mapGet 0 x.ptr n + off) % (s.areg t.val n).2) % 256);
    Executes s t.val 24 0 m ∧ s.mark cell = 2 ∧ s.on FAB_CTL_STATE_ECC_STOP = false) ∧
  (∃ (s : State) (t : TileIx) (m : Micro),
    let x := s.tile t.val;
    let n := m.imm.toNat / 256 % 4;
    let off := m.imm.toNat % 256;
    let cell := ramAddr t.val (((s.areg t.val n).1 + (mapGet 0 x.ptr n + off) % (s.areg t.val n).2) % 256);
    Executes s t.val 24 0 m ∧ s.mark cell = 2 ∧ s.on FAB_CTL_STATE_ECC_STOP = true) ∧
  (∃ (s : State) (t : TileIx) (m : Micro), Executes s t.val 25 0 m) ∧
  (∃ (s : State) (t : TileIx) (m : Micro), Executes s t.val 26 0 m) ∧
  (∃ (s : State) (t : TileIx) (m : Micro) (stalls : Nat),
    let x := s.tile t.val;
    let bank := (m.imm.toNat % 2 ^ 20 + if m.mod.getLsbD 1 = true then x.lc else 0) % 2 ^ 20;
    let b := bank / 131072;
    let w := bank % 131072;
    Executes s t.val 27 stalls m ∧
      s.bankUp b = true ∧ s.bit MEM_LOST_SUM_LOST b = false ∧ s.mark (bankAddr b w) ≠ 2 ∧ ¬(b = 5 ∧ 114688 ≤ w ∧ w < 122880)) ∧
  (∃ (s : State) (t : TileIx) (m : Micro) (stalls : Nat),
    let x := s.tile t.val;
    let bank := (m.imm.toNat % 2 ^ 20 + if m.mod.getLsbD 1 = true then x.lc else 0) % 2 ^ 20;
    let b := bank / 131072;
    Executes s t.val 27 stalls m ∧ (s.bankUp b = false ∨ s.bit MEM_LOST_SUM_LOST b = true)) ∧
  (∃ (s : State) (t : TileIx) (m : Micro) (stalls : Nat),
    let x := s.tile t.val;
    let bank := (m.imm.toNat % 2 ^ 20 + if m.mod.getLsbD 1 = true then x.lc else 0) % 2 ^ 20;
    let b := bank / 131072;
    let w := bank % 131072;
    Executes s t.val 28 stalls m ∧ s.bankUp b = true ∧ ¬(b = 5 ∧ 114688 ≤ w)) ∧
  (∃ (s : State) (t : TileIx) (m : Micro) (stalls : Nat),
    let x := s.tile t.val;
    let bank := (m.imm.toNat % 2 ^ 20 + if m.mod.getLsbD 1 = true then x.lc else 0) % 2 ^ 20;
    let b := bank / 131072;
    Executes s t.val 28 stalls m ∧ s.bankUp b = false) :=
 ⟨⟨tileAt 0x603042000000FF03 1, 0, decodeMicro 0x603042000000FF03, ⟨executes_of (by decide +kernel), by decide +kernel⟩⟩,
  ⟨{ st [(FAB_TILE_STAT_STATE 0, 2)] with
        mem := cells 96 [3, 0xFF] ++ cells 101 [0x42, 0x30, 0x60]
        ecc := [(0x180003, 2)]
        tiles := [(0, { Tile.reset with pc := 12, budget := 1 })] }, 0,
      { mic with opc := 0x18, dst := 3, srca := 1, srcb := 2, imm := 0xFF03 },
      ⟨executes_of (by decide +kernel), by decide +kernel⟩⟩,
  ⟨{ st [(FAB_CTL_STATE_ECC_STOP, 1), (FAB_TILE_STAT_STATE 0, 2)] with
        mem := cells 96 [3, 0xFF] ++ cells 101 [0x42, 0x30, 0x60]
        ecc := [(0x180003, 2)]
        tiles := [(0, { Tile.reset with pc := 12, budget := 1 })] }, 0,
      { mic with opc := 0x18, dst := 3, srca := 1, srcb := 2, imm := 0xFF03 },
      ⟨executes_of (by decide +kernel), by decide +kernel⟩⟩,
  ⟨tileAt 0x643042000000FF03 1, 0, decodeMicro 0x643042000000FF03, executes_of (by decide +kernel)⟩,
  ⟨tileAt 0x683042000000FF03 1, 0, decodeMicro 0x683042000000FF03, executes_of (by decide +kernel)⟩,
  ⟨{ st [(FAB_TILE_STAT_STATE 0, 2), (MEM_BANK_STAT_STATE 2, 2)] with
        mem := cells 96 [5] ++ cells 98 [4] ++ cells 101 [0x40, 0x30, 0x6C]
        tiles := [(0, { Tile.reset with pc := 12, budget := 4 })] }, 0,
      { mic with opc := 0x1B, dst := 3, srca := 1, imm := 0x40005 }, 0, ⟨executes_of (by decide +kernel), by decide +kernel⟩⟩,
  ⟨tileAt 0x6C3042000000FF03 4, 0, decodeMicro 0x6C3042000000FF03, 0, ⟨executes_of (by decide +kernel), by decide +kernel⟩⟩,
  ⟨{ st [(FAB_TILE_STAT_STATE 0, 2), (MEM_BANK_STAT_STATE 2, 2)] with
        mem := cells 96 [5] ++ cells 98 [4] ++ cells 101 [0x40] ++ cells 103 [0x70]
        tiles := [(0, { Tile.reset with pc := 12, budget := 4 })] }, 0, { mic with opc := 0x1C, srca := 1, imm := 0x40005 },
      0, ⟨executes_of (by decide +kernel), by decide +kernel⟩⟩,
  ⟨tileAt 0x703042000000FF03 4, 0, decodeMicro 0x703042000000FF03, 0, ⟨executes_of (by decide +kernel), by decide +kernel⟩⟩⟩

/-- States and operands that meet the hypotheses of the clauses of `Obligations.TileVectorResults`. -/
theorem witness_TileVectorResults :
  (∃ (s : State) (t : TileIx) (m : Micro),
    let len := m.imm.toNat % 256 + 1;
    let ca := fun i ↦ ramAddr t.val (s.aregCell t.val (m.imm.toNat / 256 % 4) i);
    let cb := fun i ↦ ramAddr t.val (s.aregCell t.val (m.imm.toNat / 1024 % 4) i);
    Executes s t.val 30 0 m ∧ ∀ i < len, s.mark (ca i) ≠ 2 ∧ s.mark (cb i) ≠ 2) ∧
  (∃ (s : State) (t : TileIx) (m : Micro),
    let len := m.imm.toNat % 256 + 1;
    let ca := fun i ↦ ramAddr t.val (s.aregCell t.val (m.imm.toNat / 256 % 4) i);
    let cb := fun i ↦ ramAddr t.val (s.aregCell t.val (m.imm.toNat / 1024 % 4) i);
    Executes s t.val 31 0 m ∧
      (∀ i < len, s.mark (ca i) ≠ 2 ∧ s.mark (cb i) ≠ 2) ∧
        ∀ (i j : Nat), i < len → j < len → ca i ≠ cb j ∧ (cb i = cb j → i = j)) :=
 ⟨⟨tileAt 0x7800000100000402 500, 0, decodeMicro 0x7800000100000402, ⟨executes_of (by decide +kernel), by decide +kernel⟩⟩,
  ⟨{ st [(FAB_TILE_STAT_STATE 0, 2)] with
        mem := cells 96 [2, 4] ++ cells 100 [0x10, 0x40] ++ cells 103 [0x7C]
        tiles := [(0, { Tile.reset with ptr := [(0, 5)], pc := 12, budget := 500 })] }, 0,
      { mic with opc := 0x1F, srca := 1, acs := 1, imm := 0x402 },
      ⟨executes_of (by decide +kernel), by decide +kernel, by intro i j hi hj; revert j; revert i; decide +kernel⟩⟩⟩

/-- States and operands that meet the hypotheses of the clauses of `Obligations.TileTicksRunsAndStops`. -/
theorem witness_TileTicksRunsAndStops :
  (∃ (s : State) (t : TileIx) (m : Micro), Executes s t.val 34 0 m ∧ m.imm.toNat / 4096 % 2 = 0 ∧ m.imm.toNat / 16384 % 4 = 0) ∧
  (∃ (s : State) (t : TileIx) (q : SecRun),
    let x := s.tile t.val;
    x.run = some q ∧ s.tileState t.val = 2 ∧ s.runEnd t.val q ≤ x.budget) ∧
  (∃ (s : State) (t : TileIx) (m : Micro),
    let x := s.tile t.val;
    s.tileState t.val = 2 ∧ s.fetchMicro t.val = some m ∧ m.illegal = true ∧ x.run = none ∧ max x.cyc x.secEnd + 1 ≤ x.budget) ∧
  (∃ (s : State) (t : TileIx) (n : Nat) (c : Word) (e : Nat) (m : Micro),
    let x := s.tile t.val;
    x.waitIn = some n ∧
      s.currCell t.val n = some (c, e) ∧
        s.fetchMicro t.val = some m ∧
          m.illegal = false ∧
            m.opc.toNat = 2 ∧
              m.srca.toNat = 16 + n ∧
                m.cond.toNat = 0 ∧ n < 8 ∧ s.tileState t.val = 2 ∧ x.pc < 191 ∧ max x.cyc e + 1 ≤ x.budget) ∧
  (∃ (s : State) (t : TileIx),
    let x := s.tile t.val;
    let d := s.tileDomain t.val;
    s.tileState t.val = 2 ∧
      x.tickNo ≠ s.domTick d ∧
        x.run = none ∧
          x.secEnd ≤ x.cyc ∧
            x.stopReq = false ∧
              (∀ (m : Micro), s.fetchMicro t.val = some m → m.opc.toNat ≠ 28 ∧ m.opc.toNat ≠ 30 ∧ m.opc.toNat ≠ 31) ∧
                s.get FAB_CTL_OVR_LIMIT = 0) ∧
  (∃ (s : State) (t : TileIx),
    let x := s.tile t.val;
    let d := s.tileDomain t.val;
    s.tileState t.val = 1 ∧ d ≠ 0 ∧ x.tickNo ≠ s.domTick d ∧ x.pend = [] ∧ s.hasBankIn t.val = false) :=
 ⟨⟨tileAt 0x8B10710000000081 1, 0, decodeMicro 0x8B10710000000081, ⟨executes_of (by decide +kernel), by decide +kernel⟩⟩,
  ⟨{ st [(FAB_TILE_STAT_STATE 0, 2)] with
        tiles := [(0,
            { Tile.reset with
              budget := 500
              run := some { first := 1, count := 2, cell := 0x00075bcd15004d81#64, pos := 0, nextEnd := 20 } })] }, 0,
      { first := 1, count := 2, cell := 0x00075bcd15004d81#64, pos := 0, nextEnd := 20 }, by decide +kernel⟩,
  ⟨tileAt 0xFC00000000000000 1, 0, decodeMicro 0xFC00000000000000, by decide +kernel⟩,
  ⟨{ st [(FAB_TILE_STAT_STATE 0, 2), (FAB_TILE_STAT_STATE 5, 1)] with
        mem := cells 101 [0x80, 0x34, 8] ++ cells 3609 [5] ++ cells 0x5E00 [5]
        tiles := [(0, { Tile.reset with pc := 12, budget := 500, tickNo := 9, waitIn := some 2 }),
          (5, { Tile.reset with pubs := [{ tick := 9, cells := [0x00075bcd15004d81#64] }], tickNo := 9, endCyc := 30 })] }, 0,
      2, 0x75BCD15004D81, 31, { mic with opc := 2, dst := 3, srca := 0x12 }, by decide +kernel⟩,
  ⟨{ st [(FAB_CTL_OVR_LIMIT, 0), (FAB_TILE_STAT_STATE 0, 2)] with tiles := [(0, { Tile.reset with tickNo := 8 })] }, 0,
      by decide +kernel⟩,
  ⟨{ st [(FAB_TILE_STAT_STATE 0, 1)] with mem := cells 3584 [9], tiles := [(0, { Tile.reset with tickNo := 8 })] }, 0,
      by decide +kernel⟩⟩

/-- States and operands that meet the hypotheses of the clauses of `Obligations.ClockDomainsConfigureLockAndFail`. -/
theorem witness_ClockDomainsConfigureLockAndFail :
  (∃ (v : Word),
    let src := bits (BitVec.toNat v) 0 3;
    let rate := bits (BitVec.toNat v) 4 3;
    6 ≤ src ∨ 5 ≤ rate) ∧
  (∃ (v : Word),
    let src := bits (BitVec.toNat v) 0 3;
    let rate := bits (BitVec.toNat v) 4 3;
    src < 6 ∧ rate < 5) ∧
  (∃ (s : State) (meas : Nat), meas < 2 ^ 32 ∧ s.get CLK_DOMB_STAT_STATE = 1) ∧
  (∃ (s : State), s.get CLK_DOMB_STAT_STATE = 3 ∧
      s.get CLK_DOMB_CFG_HOLD_MS ≠ 0 ∧ s.framesOfMs (s.get CLK_DOMB_CFG_HOLD_MS) ≤ s.frameAgo s.holdSince) ∧
  (∃ (s : State) (m : MonIx), (s.monState m.val = 1 ∨ s.monState m.val = 3) ∧ s.sourceMon ≠ some m.val ∧ m.val < 4) ∧
  (∃ (s : State) (m : MonIx), (s.monState m.val = 1 ∨ s.monState m.val = 3) ∧ m.val = 4) ∧
  (∃ (s : State) (m : MonIx), (s.monState m.val = 1 ∨ s.monState m.val = 3) ∧ m.val = 5 ∧ s.get CLK_DOMA_STAT_STATE ≠ 2) ∧
  (∃ (s : State) (m : MonIx), (s.monState m.val = 1 ∨ s.monState m.val = 3) ∧
      s.sourceMon = some m.val ∧ s.get CLK_DOMB_STAT_STATE = 2 ∧ s.get CLK_DOMB_STAT_MEAS ≠ 0) ∧
  (∃ (s : State) (m : MonIx), s.monState m.val = 1) ∧
  (∃ (s : State) (m : MonIx) (period : Nat), period < 2 ^ 32 ∧ (s.monState m.val = 2 ∨ s.monState m.val = 3) ∧ s.sourceMon ≠ some m.val) ∧
  (∃ (s : State) (m : MonIx) (rate : Nat), rate < 2 ^ 32 ∧ s.monState m.val = 2 ∧ s.sourceMon = some m.val ∧ s.get CLK_DOMB_STAT_STATE = 3 ∧ nearRate rate s.heldB = true) ∧
  (∃ (s : State) (m : MonIx) (meas : Nat), s.monState m.val = 1 ∧ nearRate meas (s.tracked m.val) = false ∧ s.sourceMon ≠ some m.val) :=
 ⟨⟨0xFF, by decide +kernel⟩,
  ⟨0x0, by decide +kernel⟩,
  ⟨st [(CLK_DOMB_STAT_STATE, 1)], 0, by decide +kernel⟩,
  ⟨{ st [(CLK_DOMB_STAT_STATE, 3)] with holdSince := 1 }, by decide +kernel⟩,
  ⟨st [(SAP_CFG_EN 0, 1)], 0, by decide +kernel⟩,
  ⟨st [(SPD_RX_CFG_EN, 1)], 4, by decide +kernel⟩,
  ⟨State.reset, 5, by decide +kernel⟩,
  ⟨st [(CLK_DOMB_CFG_SRC, 1), (CLK_DOMB_STAT_STATE, 2), (CLK_DOMB_STAT_MEAS, 0x15B3), (SAP_CFG_EN 0, 1)], 0,
      by decide +kernel⟩,
  ⟨State.reset, 5, by decide +kernel⟩,
  ⟨st [(CLK_MON_STAT_STATE 0, 3), (SAP_CFG_EN 0, 1)], 0, 0, by decide +kernel⟩,
  ⟨{ st [(CLK_DOMB_CFG_SRC, 1), (CLK_DOMB_STAT_STATE, 3), (CLK_MON_STAT_STATE 0, 2), (SAP_CFG_EN 0, 1)] with
        heldB := 0xAC440 }, 0, 0xAC440, by decide +kernel⟩,
  ⟨State.reset, 5, 0, by decide +kernel⟩⟩

/-- States and operands that meet the hypotheses of the clauses of `Obligations.RateBridgeEffects`. -/
theorem witness_RateBridgeEffects :
  (∃ (s : State) (b : EightIx) (ratio : Nat), ratio < 2 ^ 48 ∧ s.get (BRG_STAT_STATE b.val) = 1 ∧ s.get (BRG_CFG_SETTLE b.val) < 256) ∧
  (∃ (s : State) (b : EightIx), s.get (BRG_STAT_STATE b.val) = 2 ∧ s.get (BRG_STAT_SETTLE_LEFT b.val) = 0) ∧
  (∃ (s : State) (b : EightIx) (ratio : Nat), ratio < 2 ^ 48 ∧
      (s.get (BRG_STAT_STATE b.val) = 2 ∨ s.get (BRG_STAT_STATE b.val) = 3) ∧ nearRate ratio (s.brg b.val).locked = false) ∧
  (∃ (s : State) (b : EightIx) (ratio : Nat), ratio < 2 ^ 48 ∧
      (s.get (BRG_STAT_STATE b.val) = 2 ∨ s.get (BRG_STAT_STATE b.val) = 3) ∧ nearRate ratio (s.brg b.val).locked = true) ∧
  (∃ (s : State) (b : EightIx), s.get (BRG_STAT_STATE b.val) ≠ 0 ∧ s.get (BRG_STAT_STATE b.val) ≠ 4) ∧
  (∃ (s : State) (b : EightIx), s.get (BRG_STAT_STATE b.val) = 4) ∧
  (∃ (s : State) (b : EightIx), (s.get (BRG_STAT_STATE b.val) = 2 ∨ s.get (BRG_STAT_STATE b.val) = 3) ∧ 8 * 2 ^ 44 < (s.brg b.val).phaseErr.natAbs) :=
 ⟨⟨st [(BRG_STAT_STATE 0, 1)], 0, 0, by decide +kernel⟩,
  ⟨st [(BRG_STAT_STATE 0, 2)], 0, by decide +kernel⟩,
  ⟨{ st [(BRG_STAT_STATE 0, 2)] with brgs := [(0, { Brg.reset with locked := 1 })] }, 0, 0, by decide +kernel⟩,
  ⟨{ st [(BRG_STAT_STATE 0, 2)] with brgs := [(0, { Brg.reset with locked := 1020 })] }, 0, 1020, by decide +kernel⟩,
  ⟨st [(BRG_STAT_STATE 0, 1)], 0, by decide +kernel⟩,
  ⟨st [(BRG_STAT_STATE 0, 4)], 0, by decide +kernel⟩,
  ⟨{ st [(BRG_STAT_STATE 0, 2)] with brgs := [(0, { Brg.reset with phaseErr := 307863255777280 })] }, 0, by decide +kernel⟩⟩

/-- States and operands that meet the hypotheses of the clauses of `Obligations.SerialPortsConfigureAndMoveFrames`. -/
theorem witness_SerialPortsConfigureAndMoveFrames :
  (∃ (s : State) (p : FourIx) (v : Word),
    let bad := sapInvalid p.val (BitVec.toNat v) (rateHz (s.get CLK_DOMB_STAT_MAXRATE)) (s.get CLK_DOMB_CFG_SRC) s.rate96;
    bad = true) ∧
  (∃ (s : State) (p : FourIx) (v : Word),
    let bad := sapInvalid p.val (BitVec.toNat v) (rateHz (s.get CLK_DOMB_STAT_MAXRATE)) (s.get CLK_DOMB_CFG_SRC) s.rate96;
    bad = false ∧ 3 ≤ s.get (SAP_STAT_STATE p.val)) ∧
  (∃ (s : State) (p : FourIx) (v : Word),
    let bad := sapInvalid p.val (BitVec.toNat v) (rateHz (s.get CLK_DOMB_STAT_MAXRATE)) (s.get CLK_DOMB_CFG_SRC) s.rate96;
    bad = false ∧ s.get (SAP_STAT_STATE p.val) < 3 ∧ bitOf (BitVec.toNat v) 0 = true ∧ s.portHold = false) ∧
  (∃ (s : State) (p : FourIx),
    let x := s.port p.val;
    s.on (SAP_MUTE_TX_MUTE p.val) = true ∧ s.rampTicks (s.sapDom p.val) ≤ x.txRamp) ∧
  (∃ (s : State) (p : FourIx), s.on (SAP_MUTE_TX_MUTE p.val) = false ∧ s.forcedMute = false) ∧
  (∃ (s : State) (p : FourIx),
    let x := s.port p.val;
    s.on (SAP_MUTE_RX_MUTE p.val) = true ∧ s.rampTicks (s.sapDom p.val) ≤ x.rxRamp) ∧
  (∃ (s : State) (p : FourIx), s.on (SAP_MUTE_RX_MUTE p.val) = false) ∧
  (∃ (s : State) (p : FourIx),
    let x := s.port p.val;
    s.get (SAP_STAT_STATE p.val) = 3 ∧ x.rxDue = true ∧ x.slip = false ∧ s.on (SAP_CFG_ALIGN p.val) = false ∧ x.rxNew = none) ∧
  (∃ (s : State) (p : FourIx),
    let x := s.port p.val;
    s.get (SAP_STAT_STATE p.val) = 3 ∧ x.rxDue = true ∧ x.slip = true ∧ s.on (SAP_CFG_ALIGN p.val) = false ∧ x.rxNew = none) ∧
  (∃ (s : State) (p : FourIx),
    let x := s.port p.val;
    s.get (SAP_STAT_STATE p.val) = 3 ∧
      x.rxDue = true ∧ s.on (SAP_CFG_ALIGN p.val) = false ∧ x.rxNew.isSome = true ∧ x.rxGot = true) ∧
  (∃ (s : State) (p : FourIx), s.on (SAP_CFG_ROLE p.val) = true) ∧
  (∃ (s : State) (p : FourIx),
    let x := s.port p.val;
    let target := s.on (SAP_CFG_ROLE p.val) = false ∧ s.on (SAP_CFG_EN p.val) = true ∧ s.awake = true;
    target ∧ s.get (SAP_STAT_STATE p.val) = 3 ∧ x.txNew = true) ∧
  (∃ (s : State) (p : FourIx),
    let x := s.port p.val;
    let target := s.on (SAP_CFG_ROLE p.val) = false ∧ s.on (SAP_CFG_EN p.val) = true ∧ s.awake = true;
    target ∧ s.get (SAP_STAT_STATE p.val) = 3 ∧ x.txNew = false ∧ x.txRun = false) ∧
  (∃ (s : State) (p : FourIx),
    let target := s.on (SAP_CFG_ROLE p.val) = false ∧ s.on (SAP_CFG_EN p.val) = true ∧ s.awake = true;
    target ∧ s.get (SAP_STAT_STATE p.val) = 2 ∧ s.frame < 2 ^ 32) :=
 ⟨⟨State.reset, 0, 0x0, by decide +kernel⟩,
  ⟨st [(SAP_STAT_STATE 0, 3)], 0, 0x4D, by decide +kernel⟩,
  ⟨State.reset, 0, 0x4D, by decide +kernel⟩,
  ⟨{ st [(SAP_MUTE_TX_MUTE 0, 1)] with ports := [(0, { Port.reset with txRamp := 500 })] }, 0, by decide +kernel⟩,
  ⟨State.reset, 0, by decide +kernel⟩,
  ⟨{ st [(SAP_MUTE_RX_MUTE 0, 1)] with ports := [(0, { Port.reset with rxRamp := 500 })] }, 0, by decide +kernel⟩,
  ⟨State.reset, 0, by decide +kernel⟩,
  ⟨{ st [(SAP_STAT_STATE 0, 3)] with ports := [(0, { Port.reset with rxDue := true })] }, 0, by decide +kernel⟩,
  ⟨{ st [(SAP_STAT_STATE 1, 3)] with ports := [(1, { Port.reset with rxDue := true, slip := true })] }, 1,
      by decide +kernel⟩,
  ⟨{ st [(SAP_STAT_STATE 0, 3)] with ports := [(0, { Port.reset with rxNew := some [], rxGot := true, rxDue := true })] },
      0, by decide +kernel⟩,
  ⟨st [(SAP_CFG_ROLE 2, 1)], 2, by decide +kernel⟩,
  ⟨{ st [(SAP_CFG_EN 0, 1), (SAP_STAT_STATE 0, 3)] with ports := [(0, { Port.reset with txNew := true })] }, 0,
      by decide +kernel⟩,
  ⟨st [(SAP_CFG_EN 0, 1), (SAP_STAT_STATE 0, 3)], 0, by decide +kernel⟩,
  ⟨st [(SAP_CFG_EN 0, 1), (SAP_STAT_STATE 0, 2)], 0, by decide +kernel⟩⟩

/-- States and operands that meet the hypotheses of the clauses of `Obligations.CommonStartBeginsPorts`. -/
theorem witness_CommonStartBeginsPorts :
  (∃ (s : State) (rising : Bool), s.on SAP_START_CFG_BALL_EDGE ≠ rising ∧
      s.on SAP_START_CFG_BALL_EN = true ∧ s.awake = true ∧ s.triggerOk = true ∧ s.on SAP_START_STAT_PENDING = false) ∧
  (∃ (s : State) (rising : Bool), s.on SAP_START_CFG_BALL_EDGE ≠ rising ∧
      s.on SAP_START_CFG_BALL_EN = true ∧ s.awake = true ∧ s.triggerOk = true ∧ s.on SAP_START_STAT_PENDING = true) ∧
  (∃ (s : State) (v : Word), bitOf (BitVec.toNat v) 0 = true ∧ s.triggerOk = true ∧ s.on SAP_START_STAT_PENDING = false) ∧
  (∃ (s : State) (v : Word), bitOf (BitVec.toNat v) 0 = true ∧ s.triggerOk = true ∧ s.on SAP_START_STAT_PENDING = true) ∧
  (∃ (s : State) (r : RingIx) (ws : List Nat), TakesUp s r.val ws ∧
      ws.headD 0 % 256 = 9 ∧ s.triggerOk = true ∧ s.on SAP_START_STAT_PENDING = false ∧ bitOf (ws.headD 0) 16 = false) ∧
  (∃ (s : State) (r : RingIx) (ws : List Nat), TakesUp s r.val ws ∧ ws.headD 0 % 256 = 9 ∧ s.triggerOk = false) ∧
  (∃ (s : State), s.on SAP_START_STAT_PENDING = true ∧
      later (s.get SAP_START_STAT_START_FRAME) s.frame = false ∧ s.executors 9 = [] ∧ s.frame < 2 ^ 32) :=
 ⟨⟨st [(SAP_CFG_BCLK_INV 4, 1)], true, by decide +kernel⟩,
  ⟨st [(SAP_CFG_BCLK_INV 4, 1), (SAP_START_STAT_PENDING, 1)], true, by decide +kernel⟩,
  ⟨st [(SAP_CFG_BCLK_INV 4, 1)], 0x4D, by decide +kernel⟩,
  ⟨st [(SAP_CFG_BCLK_INV 4, 1), (SAP_START_STAT_PENDING, 1)], 0x4D, by decide +kernel⟩,
  ⟨{ st [(SAP_CFG_BCLK_INV 4, 1), (MEM_BANK_STAT_STATE 6, 2)] with
        mem := cells 0xAFE000 [9, 1]
        rings := [(0, { Ring.reset with ready := 2 })] }, 0, [265, 0], ⟨takesUp_of (by decide +kernel), by decide +kernel⟩⟩,
  ⟨{ st [(MEM_BANK_STAT_STATE 6, 2)] with mem := cells 0xAFE000 [9, 1], rings := [(0, { Ring.reset with ready := 2 })] }, 0,
      [265, 0], ⟨takesUp_of (by decide +kernel), by decide +kernel⟩⟩,
  ⟨st [(SAP_START_STAT_PENDING, 1)], by decide +kernel⟩⟩

/-- States and operands that meet the hypotheses of the clauses of `Obligations.SpdifReceivesAndTransmits`. -/
theorem witness_SpdifReceivesAndTransmits :
  (∃ (v : Word), bitOf (BitVec.toNat v) 0 = false) ∧
  (∃ (s : State) (v : Word), bitOf (BitVec.toNat v) 0 = true ∧ s.get SPD_RX_STAT_STATE = 0 ∧ s.portHold = false) ∧
  (∃ (s : State) (rate : Nat), rate ≤ 4 ∧ s.get SPD_RX_STAT_STATE = 1) ∧
  (∃ (s : State), s.get SPD_RX_STAT_STATE = 2) ∧
  (∃ (s : State) (w : Nat), s.get SPD_RX_STAT_STATE = 2 ∧ s.spd.armed = false ∧ popCount 28 (bits w 4 28) % 2 = 0) ∧
  (∃ (s : State) (w : Nat) (a : Word), s.get SPD_RX_STAT_STATE = 2 ∧
      s.spd.armed = false ∧
        s.spd.slip = false ∧ popCount 28 (bits w 4 28) % 2 = 0 ∧ s.spd.half = some a ∧ s.spd.rxNew = none) ∧
  (∃ (s : State) (w : Nat), s.get SPD_RX_STAT_STATE = 2 ∧ popCount 28 (bits w 4 28) % 2 = 1) ∧
  (∃ (s : State) (ch : Bool), s.get SPD_RX_STAT_STATE = 2 ∧ (s.spd.armed = true ∨ ch = false)) ∧
  (∃ (s : State), s.get SPD_RX_STAT_STATE = 2 ∧ s.spd.capPos ≠ some 192) ∧
  (∃ (s : State), s.get SPD_RX_STAT_STATE = 2 ∧ s.spd.capPos = some 192) ∧
  (∃ (v : Word), bitOf (BitVec.toNat v) 0 = false) ∧
  (∃ (s : State) (v : Word), bitOf (BitVec.toNat v) 0 = true ∧ s.get SPD_TX_STAT_STATE = 0 ∧ s.portHold = false ∧ s.spd.beginB = false) ∧
  (∃ (s : State), s.get SPD_TX_STAT_STATE = 2 ∧ 192 ≤ s.spd.pos) :=
 ⟨⟨0x0, by decide +kernel⟩,
  ⟨State.reset, 0x4D, by decide +kernel⟩,
  ⟨st [(SPD_RX_STAT_STATE, 1)], 0, by decide +kernel⟩,
  ⟨st [(SPD_RX_STAT_STATE, 2)], by decide +kernel⟩,
  ⟨st [(SPD_RX_STAT_STATE, 2)], 0, by decide +kernel⟩,
  ⟨{ st [(SPD_RX_STAT_STATE, 2)] with spd := { Spd.reset with half := some 0x4D } }, 0, 0x4D, by decide +kernel⟩,
  ⟨st [(SPD_RX_STAT_STATE, 2)], 0x1FFFFFF0, by decide +kernel⟩,
  ⟨st [(SPD_RX_STAT_STATE, 2)], false, by decide +kernel⟩,
  ⟨st [(SPD_RX_STAT_STATE, 2)], by decide +kernel⟩,
  ⟨{ st [(SPD_RX_STAT_STATE, 2)] with spd := { Spd.reset with capPos := some 192 } }, by decide +kernel⟩,
  ⟨0x0, by decide +kernel⟩,
  ⟨State.reset, 0x4D, by decide +kernel⟩,
  ⟨st [(SPD_RX_CS_DATA 25, 2)], by decide +kernel⟩⟩

/-- States and operands that meet the hypotheses of the clauses of `Obligations.AnalogInputsStartAndPrivacyMutes`. -/
theorem witness_AnalogInputsStartAndPrivacyMutes :
  (∃ (v : Word), ainInvalid (BitVec.toNat v) = true) ∧
  (∃ (v : Word), ainInvalid (BitVec.toNat v) = false ∧ bitOf (BitVec.toNat v) 0 = false) ∧
  (∃ (s : State) (n : SixIx) (v : Word), ainInvalid (BitVec.toNat v) = false ∧ bitOf (BitVec.toNat v) 0 = true ∧ s.get (AIN_STAT_STATE n.val) = 0) ∧
  (∃ (s : State) (n : SixIx) (v : Word), ainInvalid (BitVec.toNat v) = false ∧
      bitOf (BitVec.toNat v) 0 = true ∧
        s.get (AIN_STAT_STATE n.val) = 3 ∧
          s.get (AIN_CFG_PGA n.val) ≠ bits (BitVec.toNat v) 3 7 ∧ bitOf (BitVec.toNat v) 14 = false) ∧
  (∃ (s : State) (n : SixIx), s.get (AIN_STAT_STATE n.val) = 1 ∧ (s.ain n.val).zeros = 0) ∧
  (∃ (s : State) (n : SixIx), s.get (AIN_STAT_STATE n.val) = 2 ∧ (s.ain n.val).zeros = 0 ∧ (s.ain n.val).win = 0 ∧ (s.ain n.val).biasWin = 0) ∧
  (∃ (s : State) (n : SixIx) (f : Nat), (s.ain n.val).pend = some f ∧ s.framesOfMs (s.get (AIN_CFG_ZC_TO n.val) + 1) ≤ s.frameAgo f) ∧
  (∃ (s : State), s.on WAKE_PRIV_STAT_ENGAGED = false) ∧
  (∃ (s : State), s.on WAKE_PRIV_STAT_ENGAGED = true) ∧
  (∃ (s : State), s.on WAKE_PRIV_STAT_ENGAGED = true ∧ s.on WAKE_PRIV_STAT_RELEASING = true) :=
 ⟨⟨0x7, by decide +kernel⟩,
  ⟨0x0, by decide +kernel⟩,
  ⟨State.reset, 0, 0x1, by decide +kernel⟩,
  ⟨st [(AIN_STAT_STATE 0, 3)], 0, 0x101, by decide +kernel⟩,
  ⟨st [(AIN_STAT_STATE 0, 1)], 0, by decide +kernel⟩,
  ⟨st [(AIN_STAT_STATE 0, 2)], 0, by decide +kernel⟩,
  ⟨{ State.reset with ains := [(0, { Ain.reset with pend := some 5 })] }, 0, 5, by decide +kernel⟩,
  ⟨State.reset, by decide +kernel⟩,
  ⟨st [(WAKE_PRIV_STAT_ENGAGED, 1)], by decide +kernel⟩,
  ⟨st [(WAKE_PRIV_STAT_ENGAGED, 1), (WAKE_PRIV_STAT_RELEASING, 1)], by decide +kernel⟩⟩

/-- States and operands that meet the hypotheses of the clauses of `Obligations.BiasOutputsAndPdmClocksFollow`. -/
theorem witness_BiasOutputsAndPdmClocksFollow :
  (∃ (s : State) (k : ThreeIx), bitOf s.biasRamp k.val = true ∧ s.biasMay k.val = true) ∧
  (∃ (s : State) (k : ThreeIx), s.biasMay k.val = true ∧ ∀ (j : TwoIx), s.jackUses j.val k.val = false) ∧
  (∃ (s : State) (v : Word), pdmReject (BitVec.toNat v) s.archImage = true) ∧
  (∃ (s : State) (v : Word), pdmReject (BitVec.toNat v) s.archImage = false) ∧
  (∃ (s : State) (c : TwoIx), s.get (pdmState c.val) ≠ 0 ∧
      s.pdmWant c.val = true ∧ s.get (pdmState c.val) ≠ s.pdmRate c.val ∧ s.get (pdmAct c.val) < 2 ∧ s.get (pdmStby c.val) < 2) ∧
  (∃ (s : State) (c : TwoIx), s.get (pdmState c.val) = 0 ∧ s.pdmWant c.val = true ∧ s.micAt + 16 ≤ s.tickC ∧ s.get (pdmAct c.val) < 2 ∧ s.get (pdmStby c.val) < 2) :=
 ⟨⟨{ st [(AIN_CFG_EN 8, 1)] with biasRamp := 5 }, 0, by decide +kernel⟩,
  ⟨st [(AIN_CFG_EN 8, 1)], 0, by decide +kernel⟩,
  ⟨State.reset, 0x0, by decide +kernel⟩,
  ⟨State.reset, 0x1, by decide +kernel⟩,
  ⟨st [(PDM_CFG_HQ_EN, 18), (PDM_STAT_CLK0_STATE, 2), (PDM_STAT_MIC_PWR_ON, 1)], 0, by decide +kernel⟩,
  ⟨{ st [(PDM_CFG_HQ_EN, 18), (PDM_STAT_MIC_PWR_ON, 1)] with tickC := 100 }, 0, by decide +kernel⟩⟩

/-- States and operands that meet the hypotheses of the clauses of `Obligations.WakeSpotterHopsAndModel`. -/
theorem witness_WakeSpotterHopsAndModel :
  (∃ (s : State) (v : Word),
    let pdm := s.get PDM_CFG_LP_EN + 2 ^ 8 * s.get PDM_CFG_HQ_EN + 2 ^ 16 * s.get PDM_CFG_CLK0_ACT + 2 ^ 18 * s.get PDM_CFG_CLK1_ACT;
    pdmReject pdm (BitVec.toNat v) = true ∨ s.on WAKE_CTL_EN = true ∨ s.hoRunning = true) ∧
  (∃ (s : State) (v : Word),
    let pdm := s.get PDM_CFG_LP_EN + 2 ^ 8 * s.get PDM_CFG_HQ_EN + 2 ^ 16 * s.get PDM_CFG_CLK0_ACT + 2 ^ 18 * s.get PDM_CFG_CLK1_ACT;
    pdmReject pdm (BitVec.toNat v) = false ∧
      s.on WAKE_CTL_EN = false ∧ s.hoRunning = false ∧ s.get WAKE_ARCH_CFG_LANES % 16 ≠ bits (BitVec.toNat v) 0 2) ∧
  (∃ (s : State) (v : Word), bitOf (BitVec.toNat v) 0 = true ∧ s.on WAKE_CTL_EN = false) ∧
  (∃ (s : State), s.get WAKE_MODEL_STAT_STATE = 1 ∧ s.bankUp 7 = true ∧ s.modelFault = none) ∧
  (∃ (s : State), s.get WAKE_MODEL_STAT_STATE = 1 ∧ s.bankUp 7 = true ∧ s.modelFault.isSome = true) ∧
  (∃ (s : State) (score : Nat),
    let pos := s.get WAKE_ARCH_STAT_POS;
    let hop := s.on WAKE_CTL_EN = true ∧
        s.get WAKE_MODEL_STAT_STATE = 2 ∧
          s.dormant = false ∧
            pos % 160 = 0 ∧
              s.wake.lastHop ≠ pos ∧ s.on WAKE_CFG_SPOT_MODE = false ∧ s.hopSilent pos (s.get WAKE_CFG_SPOT_LANE) = false;
    hop ∧
      s.get WAKE_CFG_THRESH ≤ min 255 score ∧
        s.get WAKE_CFG_HOLD ≤ s.wake.run ∧ s.wake.lastHop = (pos + archMod - 160) % archMod ∧ s.wake.refract = 0) ∧
  (∃ (s : State) (score : Nat),
    let pos := s.get WAKE_ARCH_STAT_POS;
    let hop := s.on WAKE_CTL_EN = true ∧
        s.get WAKE_MODEL_STAT_STATE = 2 ∧
          s.dormant = false ∧
            pos % 160 = 0 ∧
              s.wake.lastHop ≠ pos ∧ s.on WAKE_CFG_SPOT_MODE = false ∧ s.hopSilent pos (s.get WAKE_CFG_SPOT_LANE) = false;
    hop ∧ min 255 score < s.get WAKE_CFG_THRESH) :=
 ⟨⟨State.reset, 0x0, by decide +kernel⟩,
  ⟨st [(PDM_CFG_LP_EN, 17)], 0x1, by decide +kernel⟩,
  ⟨State.reset, 0x1, by decide +kernel⟩,
  ⟨{ st [(WAKE_MODEL_STAT_STATE, 1), (MEM_BANK_STAT_STATE 7, 2)] with
        mem := cells 0xB3E800 [0x31, 0x4D, 0x4B, 0x57, 1] ++ cells 0xB3E808 [0x40] ++ cells 0xB3E80C [0x2E, 0xFC, 0xBA, 0xCA] },
      by decide +kernel⟩,
  ⟨st [(WAKE_MODEL_STAT_STATE, 1), (MEM_BANK_STAT_STATE 7, 2)], by decide +kernel⟩,
  ⟨{ st [(WAKE_CTL_EN, 1), (WAKE_CFG_HOLD, 1), (WAKE_ARCH_STAT_POS, 320), (WAKE_MODEL_STAT_STATE, 2)] with
        wake := { Wake.reset with run := 1, lastHop := 160 } }, 200, by decide +kernel⟩,
  ⟨st [(WAKE_CTL_EN, 1), (WAKE_ARCH_STAT_POS, 320), (WAKE_MODEL_STAT_STATE, 2)], 0, by decide +kernel⟩⟩

/-- States and operands that meet the hypotheses of the clauses of `Obligations.HandoversBeginAndEnd`. -/
theorem witness_HandoversBeginAndEnd :
  (∃ (s : State) (r : RingIx) (ws : List Nat), TakesUp s r.val ws ∧
      ws.headD 0 % 256 = 10 ∧
        s.hoRunning = false ∧
          s.hoBad (bitOf (ws.headD 0) 16) (bits (ws.headD 0) 17 7) (bits (ws.headD 0) 24 4) = false ∧
            s.on WAKE_ARCH_STAT_LOST = false) ∧
  (∃ (s : State) (r : RingIx) (ws : List Nat), TakesUp s r.val ws ∧
      ws.headD 0 % 256 = 10 ∧ s.hoBad (bitOf (ws.headD 0) 16) (bits (ws.headD 0) 17 7) (bits (ws.headD 0) 24 4) = true) ∧
  (∃ (s : State), s.hoRunning = false ∧
      s.hoBad true (s.get WAKE_HO_CFG_LOOKBACK) (s.get WAKE_HO_CFG_LANES) = false ∧ s.on WAKE_ARCH_STAT_LOST = false) ∧
  (∃ (s : State), s.wake.hoDue = true ∧
      s.awake = true ∧
        s.hoRunning = false ∧
          s.hoBad false (s.get WAKE_HO_CFG_LOOKBACK) (s.get WAKE_HO_CFG_LANES) = false ∧ s.on WAKE_ARCH_STAT_LOST = false) ∧
  (∃ (s : State) (h : Handover), s.wake.ho = some h ∧ h.ring = none) :=
 ⟨⟨{ st [(MEM_BANK_STAT_STATE 6, 2)] with
        mem := cells 0xAFE000 [0xA] ++ cells 0xAFE002 [0x21, 1]
        rings := [(0, { Ring.reset with ready := 1 })] }, 0, [0x121000A], ⟨takesUp_of (by decide +kernel), by decide +kernel⟩⟩,
  ⟨{ st [(MEM_BANK_STAT_STATE 6, 2)] with
        mem := cells 0xAFE000 [0xA] ++ cells 0xAFE002 [5, 1]
        rings := [(0, { Ring.reset with ready := 1 })] }, 0, [0x105000A], ⟨takesUp_of (by decide +kernel), by decide +kernel⟩⟩,
  ⟨State.reset, by decide +kernel⟩,
  ⟨{ State.reset with wake := { Wake.reset with detected := true, hoDue := true } }, by decide +kernel⟩,
  ⟨{ State.reset with
        wake := { Wake.reset with
          ho := some { ring := none, lanes := [0], size := 4096, base := 0, ctrl := 3, next := 4, wcount := 5, seamLeft := 0 } } },
      { ring := none, lanes := [0], size := 4096, base := 0, ctrl := 3, next := 4, wcount := 5, seamLeft := 0 },
      by decide +kernel⟩⟩

/-- States and operands that meet the hypotheses of the clauses of `Obligations.SpeakerStartReachesFullGain`. -/
theorem witness_SpeakerStartReachesFullGain :
  (∃ (v : Word), bits (BitVec.toNat v) 1 8 < 16) ∧
  (∃ (s : State) (n : FourIx) (v : Word), 16 ≤ bits (BitVec.toNat v) 1 8 ∧
      bitOf (BitVec.toNat v) 0 = true ∧
        s.on (SPK_CFG_EN n.val) = false ∧ s.get (SPK_STAT_STATE n.val) = 0 ∧ s.folded = false ∧ s.spkUpper n.val = false) ∧
  (∃ (s : State) (n : FourIx) (v : Word),
    let x := s.spk n.val;
    16 ≤ bits (BitVec.toNat v) 1 8 ∧
      bitOf (BitVec.toNat v) 0 = false ∧
        s.on (SPK_CFG_EN n.val) = true ∧ s.get (SPK_STAT_STATE n.val) = 2 ∧ x.phase = SpkPhase.play) ∧
  (∃ (s : State), ∀ (k : FourIx), s.get (SPK_STAT_STATE k.val) = 0) ∧
  (∃ (s : State) (v : Word), s.get SPK_CTL_PAIR01 ≠ bits (BitVec.toNat v) 1 1 ∧ (s.get (SPK_STAT_STATE 0) ≠ 0 ∨ s.get (SPK_STAT_STATE 1) ≠ 0)) ∧
  (∃ (s : State) (n : FourIx),
    let x := s.spk n.val;
    x.startReq = true ∧
      s.get (SPK_STAT_STATE n.val) = 0 ∧
        s.on (SPK_CFG_EN n.val) = true ∧
          s.folded = false ∧
            s.awake = true ∧
              s.spkUpper n.val = false ∧
                s.calibrating (16 + n.val) = false ∧ s.on SPK_PVDD_STAT_UV = false ∧ s.on SPK_PVDD_STAT_OV = false) ∧
  (∃ (s : State) (n : FourIx),
    let x := s.spk n.val;
    x.startReq = true ∧
      s.get (SPK_STAT_STATE n.val) = 0 ∧
        s.on (SPK_CFG_EN n.val) = true ∧
          s.folded = false ∧
            s.awake = true ∧ s.spkUpper n.val = false ∧ s.calibrating (16 + n.val) = false ∧ s.on SPK_PVDD_STAT_UV = true) ∧
  (∃ (s : State) (n : FourIx),
    let x := s.spk n.val;
    s.get (SPK_STAT_STATE n.val) = 1 ∧ x.phase = SpkPhase.zero ∧ x.wait = 0) ∧
  (∃ (s : State) (n : FourIx) (z : Nat),
    let x := s.spk n.val;
    s.get (SPK_STAT_STATE n.val) = 1 ∧ x.phase = SpkPhase.load ∧ 1000 * s.get (SPK_DIAG_LOW_Z n.val) ≤ 16 * z) ∧
  (∃ (s : State) (n : FourIx) (z : Nat),
    let x := s.spk n.val;
    s.get (SPK_STAT_STATE n.val) = 1 ∧
      x.phase = SpkPhase.load ∧
        16 * z < 1000 * s.get (SPK_DIAG_LOW_Z n.val) ∧ s.get (SPK_STAT_RETRY n.val) < s.get SPK_CTL_RETRIES) ∧
  (∃ (s : State) (n : FourIx),
    let x := s.spk n.val;
    x.phase = SpkPhase.ramp ∧ s.rampFrames ≤ x.rampPos) :=
 ⟨⟨0x0, by decide +kernel⟩,
  ⟨State.reset, 0, 0x101, by decide +kernel⟩,
  ⟨{ st [(SPK_CFG_EN 0, 1), (SPK_STAT_STATE 0, 2)] with spks := [(0, { Spk.reset with phase := .play })] }, 0, 0xFE,
      by decide +kernel⟩,
  ⟨State.reset, by decide +kernel⟩,
  ⟨st [(SPK_STAT_STATE 1, 1)], 0x2, by decide +kernel⟩,
  ⟨{ st [(SPK_CFG_EN 0, 1)] with spks := [(0, { Spk.reset with startReq := true })] }, 0, by decide +kernel⟩,
  ⟨{ st [(SPK_PVDD_STAT_UV, 1), (SPK_CFG_EN 0, 1)] with spks := [(0, { Spk.reset with startReq := true })] }, 0,
      by decide +kernel⟩,
  ⟨{ st [(SPK_STAT_STATE 0, 1)] with spks := [(0, { Spk.reset with phase := .zero })] }, 0, by decide +kernel⟩,
  ⟨{ st [(SPK_STAT_STATE 0, 1)] with spks := [(0, { Spk.reset with phase := .load })] }, 0, 0x1388, by decide +kernel⟩,
  ⟨{ st [(SPK_STAT_STATE 0, 1)] with spks := [(0, { Spk.reset with phase := .load })] }, 0, 0, by decide +kernel⟩,
  ⟨{ State.reset with spks := [(0, { Spk.reset with phase := .ramp, rampPos := 1000 })] }, 0, by decide +kernel⟩⟩

/-- States and operands that meet the hypotheses of the clauses of `Obligations.SpeakerStopsTripsAndRetries`. -/
theorem witness_SpeakerStopsTripsAndRetries :
  (∃ (s : State) (n : FourIx),
    let x := s.spk n.val;
    s.get (SPK_STAT_STATE n.val) = 3 ∧ x.phase = SpkPhase.stop ∧ x.rampPos = 0) ∧
  (∃ (s : State) (n : FourIx),
    let x := s.spk n.val;
    x.phase = SpkPhase.rest) ∧
  (∃ (s : State) (n : FourIx),
    let x := s.spk n.val;
    x.phase = SpkPhase.release ∧ x.wait = 0 ∧ s.get (SPK_STAT_STATE n.val) = 3) ∧
  (∃ (s : State) (n : FourIx),
    let x := s.spk n.val;
    x.phase = SpkPhase.rest ∧ s.rampFrames ≤ x.age ∧ s.on (SPK_STAT_RELAY n.val) = true ∧ s.get (SPK_STAT_FAULT_CAUSE n.val) ≠ 7) ∧
  (∃ (s : State) (mv : Nat), mv < 5500 ∧ s.on SPK_PVDD_STAT_UV = false) ∧
  (∃ (s : State) (mv : Nat), 19000 < mv ∧ s.on SPK_PVDD_STAT_OV = false) ∧
  (∃ (s : State) (mv : Nat), (s.on SPK_PVDD_STAT_UV = true ∨ s.on SPK_PVDD_STAT_OV = true) ∧ 5800 ≤ mv ∧ mv ≤ 18500 ∧ s.folded = false) ∧
  (∃ (s : State) (n : FourIx) (mean : Int),
    let k := s.spkOwner n.val;
    s.spkSwitching k = true ∧ 1500 < mean.natAbs) ∧
  (∃ (s : State) (n : FourIx),
    let k := s.spkOwner n.val;
    s.spkSwitching k = true) ∧
  (∃ (s : State) (n : FourIx),
    let k := s.spkOwner n.val;
    s.spkSwitching k = true ∧ 3 ≤ (s.spk k).limRun ∧ s.get (SPK_STAT_RETRY k) < s.get SPK_CTL_RETRIES) ∧
  (∃ (s : State) (n : FourIx),
    let k := s.spkOwner n.val;
    s.spkSwitching k = true ∧ 3 ≤ (s.spk k).limRun ∧ s.get SPK_CTL_RETRIES ≤ s.get (SPK_STAT_RETRY k)) ∧
  (∃ (s : State) (n : FourIx) (f : Nat),
    let x := s.spk n.val;
    x.retryAt = some f ∧
      s.get (SPK_STAT_STATE n.val) = 4 ∧
        s.on (SPK_CFG_EN n.val) = true ∧
          s.get SPK_CTL_RETRIES < 4 ∧
            s.get (SPK_STAT_RETRY n.val) < s.get SPK_CTL_RETRIES ∧
              s.folded = false ∧
                s.on SPK_PVDD_STAT_UV = false ∧ s.on SPK_PVDD_STAT_OV = false ∧ s.framesOfMs 500 ≤ s.frameAgo f) ∧
  (∃ (s : State) (n : FourIx),
    let x := s.spk n.val;
    s.get (SPK_STAT_RETRY n.val) ≠ 0 ∧ x.phase = SpkPhase.play ∧ s.framesOfMs 500 ≤ x.played) ∧
  (∃ (s : State) (n : FourIx), (s.get (SPK_STAT_STATE n.val) = 4 ∨ s.get (SPK_STAT_STATE n.val) = 5) ∧ s.folded = false ∧ s.spkUpper n.val = false) :=
 ⟨⟨{ st [(SPK_STAT_STATE 0, 3)] with spks := [(0, { Spk.reset with phase := .stop })] }, 0, by decide +kernel⟩,
  ⟨{ State.reset with spks := [(0, { Spk.reset with phase := .rest })] }, 0, by decide +kernel⟩,
  ⟨{ st [(SPK_STAT_STATE 0, 3)] with spks := [(0, { Spk.reset with phase := .release })] }, 0, by decide +kernel⟩,
  ⟨{ st [(SPK_STAT_RELAY 0, 1)] with spks := [(0, { Spk.reset with phase := .rest, age := 1000 })] }, 0, by decide +kernel⟩,
  ⟨State.reset, 0, by decide +kernel⟩,
  ⟨State.reset, 0x4E20, by decide +kernel⟩,
  ⟨st [(SPK_PVDD_STAT_UV, 1)], 0x1770, by decide +kernel⟩,
  ⟨st [(SPK_STAT_STATE 0, 1)], 0, 1600, by decide +kernel⟩,
  ⟨st [(SPK_STAT_STATE 0, 1)], 0, by decide +kernel⟩,
  ⟨{ st [(SPK_STAT_STATE 0, 1)] with spks := [(0, { Spk.reset with limRun := 5 })] }, 0, by decide +kernel⟩,
  ⟨{ st [(SPK_CTL_RETRIES, 0), (SPK_STAT_STATE 0, 1)] with spks := [(0, { Spk.reset with limRun := 5 })] }, 0,
      by decide +kernel⟩,
  ⟨{ st [(SPK_CFG_EN 0, 1), (SPK_STAT_STATE 0, 4)] with spks := [(0, { Spk.reset with retryAt := some 5 })] }, 0, 5,
      by decide +kernel⟩,
  ⟨{ st [(SPK_STAT_RETRY 0, 3)] with spks := [(0, { Spk.reset with phase := .play, played := 0xC350 })] }, 0,
      by decide +kernel⟩,
  ⟨st [(SPK_STAT_STATE 0, 4)], 0, by decide +kernel⟩⟩

/-- States and operands that meet the hypotheses of the clauses of `Obligations.SpeakerMeasurements`. -/
theorem witness_SpeakerMeasurements :
  (∃ (t : List Nat), ∀ (k : FourIx), t.getD k.val 0 < 195) ∧
  (∃ (s : State) (n : FourIx) (t : List Nat), (∀ (k : FourIx), t.getD k.val 0 < 256) ∧
      199 ≤ t.getD n.val 0 ∧ s.thermRed + 10 ≤ 1000 * min 24 (s.get SPK_THERM_CFG_FOLD_FLOOR)) ∧
  (∃ (s : State) (n : FourIx),
    let x := s.spk n.val;
    s.get (SPK_STAT_STATE n.val) = 2 ∧ s.on (SPK_CFG_PILOT_EN n.val) = true ∧ s.windowFrames n.val ≤ x.winPos ∧ x.dirty = true) ∧
  (∃ (s : State) (n : FourIx),
    let x := s.spk n.val;
    s.get (SPK_STAT_STATE n.val) = 2 ∧ s.on (SPK_CFG_PILOT_EN n.val) = true ∧ s.windowFrames n.val ≤ x.winPos ∧ x.dirty = false) ∧
  (∃ (s : State) (n : FourIx),
    let x := s.spk n.val;
    s.get (SPK_STAT_STATE n.val) = 2 ∧ x.phase = SpkPhase.play ∧ x.tweet = false) ∧
  (∃ (s : State) (n : FourIx),
    let x := s.spk n.val;
    x.tweet = true ∧ tweetCycles ≤ x.tweetAt) :=
 ⟨⟨[], by decide +kernel⟩,
  ⟨State.reset, 0, [200], by decide +kernel⟩,
  ⟨{ st [(SPK_CFG_PILOT_EN 1, 1), (SPK_STAT_STATE 1, 2)] with
        spks := [(1, { Spk.reset with dirty := true, winPos := 0x989680 })] }, 1, by decide +kernel⟩,
  ⟨{ st [(SPK_CFG_PILOT_EN 0, 1), (SPK_STAT_STATE 0, 2)] with spks := [(0, { Spk.reset with winPos := 0x989680 })] }, 0,
      by decide +kernel⟩,
  ⟨{ st [(SPK_STAT_STATE 0, 2)] with spks := [(0, { Spk.reset with phase := .play })] }, 0, by decide +kernel⟩,
  ⟨{ State.reset with spks := [(0, { Spk.reset with tweet := true, tweetAt := 0x4C4B40 })] }, 0, by decide +kernel⟩⟩

/-- States and operands that meet the hypotheses of the clauses of `Obligations.HeadphoneChannelEffects`. -/
theorem witness_HeadphoneChannelEffects :
  (∃ (v : Word), volOk (bits (BitVec.toNat v) 16 16) = false) ∧
  (∃ (s : State) (n : FourIx) (v : Word), volOk (bits (BitVec.toNat v) 16 16) = true ∧
      bitOf (BitVec.toNat v) 0 = true ∧ s.on (HPO_CFG_EN n.val) = false ∧ s.get (HPO_STAT_STATE n.val) = 0 ∧ s.folded = false) ∧
  (∃ (s : State) (n : FourIx) (v : Word), volOk (bits (BitVec.toNat v) 16 16) = true ∧
      bitOf (BitVec.toNat v) 0 = false ∧ s.on (HPO_CFG_EN n.val) = true ∧ s.get (HPO_STAT_STATE n.val) = 2) ∧
  (∃ (s : State) (n : FourIx),
    let x := s.hpo n.val;
    x.startReq = true ∧
      s.get (HPO_STAT_STATE n.val) = 0 ∧
        s.on (HPO_CFG_EN n.val) = true ∧
          s.folded = false ∧ s.awake = true ∧ s.get HPO_STAT_CP_STATE ≠ 3 ∧ s.calibrating (24 + n.val) = false) ∧
  (∃ (s : State) (n : FourIx), s.get (HPO_STAT_STATE n.val) = 1 ∧ s.get HPO_STAT_CP_STATE ≠ 3) ∧
  (∃ (s : State) (n : FourIx),
    let x := s.hpo n.val;
    s.get (HPO_STAT_STATE n.val) = 2 ∧ x.ramping = true ∧ hpoRamp ≤ x.rampPos) ∧
  (∃ (s : State) (n : FourIx),
    let x := s.hpo n.val;
    s.get (HPO_STAT_STATE n.val) = 3 ∧ x.rampPos = 0) ∧
  (∃ (s : State) (n : FourIx),
    let x := s.hpo n.val;
    s.get (HPO_STAT_STATE n.val) = 2 ∧ s.rampFrames ≤ x.limRun ∧ s.jackNotReady n.val = false) ∧
  (∃ (s : State) (n : FourIx),
    let x := s.hpo n.val;
    s.get (HPO_STAT_STATE n.val) = 4 ∧
      s.on (HPO_CFG_EN n.val) = true ∧ s.folded = false ∧ s.get HPO_STAT_CP_STATE ≠ 3 ∧ s.framesOfMs 500 ≤ s.frameAgo x.latchAt) ∧
  (∃ (s : State) (n : FourIx),
    let x := s.hpo n.val;
    s.get (HPO_STAT_RETRY n.val) ≠ 0 ∧ s.get (HPO_STAT_STATE n.val) = 2 ∧ x.ramping = false ∧ s.framesOfMs 500 ≤ x.played) ∧
  (∃ (s : State), s.get HPO_STAT_CP_STATE = 1 ∨ s.get HPO_STAT_CP_STATE = 2) ∧
  (∃ (s : State) (n : FourIx), (s.get (HPO_STAT_STATE n.val) = 4 ∨ s.get (HPO_STAT_STATE n.val) = 5) ∧ s.folded = false) :=
 ⟨⟨0x1000101, by decide +kernel⟩,
  ⟨State.reset, 0, 0x1, by decide +kernel⟩,
  ⟨st [(HPO_CFG_EN 0, 1), (HPO_STAT_STATE 0, 2)], 0, 0x0, by decide +kernel⟩,
  ⟨{ st [(HPO_CFG_EN 0, 1)] with hpos := [(0, { Hpo.reset with startReq := true })] }, 0, by decide +kernel⟩,
  ⟨st [(HPO_STAT_STATE 0, 1)], 0, by decide +kernel⟩,
  ⟨{ st [(HPO_STAT_STATE 0, 2)] with hpos := [(0, { Hpo.reset with ramping := true, rampPos := 0x186A0 })] }, 0,
      by decide +kernel⟩,
  ⟨st [(HPO_STAT_STATE 0, 3)], 0, by decide +kernel⟩,
  ⟨{ st [(HPO_STAT_STATE 0, 2)] with hpos := [(0, { Hpo.reset with limRun := 1000 })] }, 0, by decide +kernel⟩,
  ⟨{ st [(HPO_CFG_EN 0, 1), (HPO_STAT_STATE 0, 4)] with frame := 0x186A0 }, 0, by decide +kernel⟩,
  ⟨{ st [(HPO_STAT_STATE 0, 2), (HPO_STAT_RETRY 0, 2)] with hpos := [(0, { Hpo.reset with played := 0xEA60 })] }, 0,
      by decide +kernel⟩,
  ⟨st [(HPO_STAT_CP_STATE, 2)], by decide +kernel⟩,
  ⟨st [(HPO_STAT_STATE 0, 4)], 0, by decide +kernel⟩⟩

/-- States and operands that meet the hypotheses of the clauses of `Obligations.JackDetectionEffects`. -/
theorem witness_JackDetectionEffects :
  (∃ (s : State) (j : TwoIx) (v : Word), bits (BitVec.toNat v) 16 2 ≠ 0 ∧ bits (BitVec.toNat v) 16 2 = s.get (DET_JACK_CFG_BIAS (1 - j.val))) ∧
  (∃ (s : State) (j : TwoIx) (v : Word), (bits (BitVec.toNat v) 16 2 = 0 ∨ bits (BitVec.toNat v) 16 2 ≠ s.get (DET_JACK_CFG_BIAS (1 - j.val))) ∧
      bitOf (BitVec.toNat v) 0 = true ∧ s.on (DET_JACK_CFG_EN j.val) = false) ∧
  (∃ (s : State) (j : TwoIx), s.get (DET_JACK_STAT_STATE j.val) = 1) ∧
  (∃ (s : State) (j : TwoIx), s.get (DET_JACK_STAT_STATE j.val) = 2) ∧
  (∃ (s : State) (j : TwoIx), 3 ≤ s.get (DET_JACK_STAT_STATE j.val)) ∧
  (∃ (s : State) (j : TwoIx),
    let x := s.jack j.val;
    s.get (DET_JACK_STAT_STATE j.val) = 2 ∧ x.level = x.pol) ∧
  (∃ (s : State) (j : TwoIx),
    let x := s.jack j.val;
    s.get (DET_JACK_STAT_STATE j.val) = 3 ∧ s.awake = true ∧ s.privacy = false ∧ x.bias ≠ 0) ∧
  (∃ (s : State) (j : TwoIx),
    let x := s.jack j.val;
    s.get (DET_JACK_STAT_STATE j.val) = 3 ∧ s.awake = true ∧ s.privacy = true ∧ x.bias ≠ 0) ∧
  (∃ (s : State) (j : TwoIx) (code : Nat),
    let x := s.jack j.val;
    s.awake = true ∧
      s.get (DET_JACK_STAT_STATE j.val) = 4 ∧
        x.settle = 0 ∧
          x.samples.length = 15 ∧
            code < 1024 ∧ List.foldl max 0 (code :: x.samples) - List.foldl min 1023 (code :: x.samples) ≤ 32) ∧
  (∃ (s : State) (j : TwoIx) (code : Nat) (k : Nat),
    let x := s.jack j.val;
    s.awake = true ∧
      s.get (DET_JACK_STAT_STATE j.val) = 5 ∧
        s.get (DET_JACK_STAT_TYPE j.val) = 2 ∧
          s.on (DET_JACK_CFG_BTN_EN j.val) = true ∧
            s.bit AIN_BIAS_STAT_ON (x.bias - 1) = true ∧
              code < 1024 ∧
                s.btnOf code = some k ∧ x.btn = none ∧ x.cand = some k ∧ s.get DET_BTN_CFG_PRESS_DB ≤ x.count + 1) ∧
  (∃ (s : State) (j : TwoIx),
    let x := s.jack j.val;
    3 ≤ s.get (DET_JACK_STAT_STATE j.val) ∧ x.removing = true) ∧
  (∃ (s : State) (j : TwoIx),
    let x := s.jack j.val;
    s.get (DET_JACK_STAT_STATE j.val) = 5 ∧ s.privacy = false ∧ x.bias ≠ 0) :=
 ⟨⟨st [(DET_JACK_CFG_BIAS 1, 1)], 0, 0x1010111, by decide +kernel⟩,
  ⟨State.reset, 0, 0x1, by decide +kernel⟩,
  ⟨st [(DET_JACK_STAT_STATE 0, 1)], 0, by decide +kernel⟩,
  ⟨st [(DET_JACK_STAT_STATE 0, 2)], 0, by decide +kernel⟩,
  ⟨st [(DET_JACK_STAT_STATE 0, 5)], 0, by decide +kernel⟩,
  ⟨{ st [(DET_JACK_STAT_STATE 0, 2)] with jacks := [(0, { Jack.reset with pol := true })] }, 0, by decide +kernel⟩,
  ⟨{ st [(DET_JACK_STAT_STATE 0, 3)] with jacks := [(0, { Jack.reset with bias := 2 })] }, 0, by decide +kernel⟩,
  ⟨{ st [(WAKE_PRIV_STAT_ENGAGED, 1), (DET_JACK_STAT_STATE 0, 3)] with jacks := [(0, { Jack.reset with bias := 2 })] }, 0,
      by decide +kernel⟩,
  ⟨{ st [(DET_JACK_STAT_STATE 0, 4)] with jacks := [(0, { Jack.reset with samples := List.replicate 15 0 })] }, 0, 0,
      by decide +kernel⟩,
  ⟨{ st [(AIN_STAT_STATE 8, 7), (DET_JACK_CFG_BTN_EN 0, 1), (DET_JACK_STAT_STATE 0, 5), (DET_JACK_STAT_TYPE 0, 2)] with
        jacks := [(0, { Jack.reset with cand := some 0, count := 44 })] }, 0, 0, 0, by decide +kernel⟩,
  ⟨{ st [(DET_JACK_STAT_STATE 0, 5)] with jacks := [(0, { Jack.reset with removing := true })] }, 0, by decide +kernel⟩,
  ⟨{ st [(DET_JACK_STAT_STATE 0, 5)] with jacks := [(0, { Jack.reset with bias := 1 })] }, 0, by decide +kernel⟩⟩

/-- States and operands that meet the hypotheses of the clauses of `Obligations.ChainLinkStates`. -/
theorem witness_ChainLinkStates :
  (∃ (s : State) (p : TwoIx),
    let st := s.get (CHN_PORT_STAT_STATE p.val);
    s.awake = true ∧ st = 1 ∧ (s.isHead = true → p = 1)) ∧
  (∃ (s : State) (p : TwoIx),
    let st := s.get (CHN_PORT_STAT_STATE p.val);
    s.awake = true ∧ st = 6 ∧ (s.isHead = true → p = 1)) ∧
  (∃ (s : State) (p : TwoIx) (k : LinkInfo),
    let st := s.get (CHN_PORT_STAT_STATE p.val);
    (st = 2 ∨ st = 4 ∨ st = 6) ∧ s.on (CHN_PORT_STAT_SIGNAL p.val) = true ∧ 625 < k.delay) ∧
  (∃ (s : State) (p : TwoIx) (k : LinkInfo),
    let st := s.get (CHN_PORT_STAT_STATE p.val);
    (st = 2 ∨ st = 4 ∨ st = 6) ∧ s.on (CHN_PORT_STAT_SIGNAL p.val) = true ∧ k.delay ≤ 625 ∧ s.isHead = true ∧ p = 1) ∧
  (∃ (s : State) (p : TwoIx) (k : LinkInfo),
    let st := s.get (CHN_PORT_STAT_STATE p.val);
    (st = 2 ∨ st = 4 ∨ st = 6) ∧
      s.on (CHN_PORT_STAT_SIGNAL p.val) = true ∧
        k.delay ≤ 625 ∧ s.isHead = false ∧ p = 0 ∧ s.get CLK_DOMA_STAT_STATE = 1 ∧ k.pos < 15) ∧
  (∃ (s : State) (p : TwoIx) (cause : Nat),
    let st := s.get (CHN_PORT_STAT_STATE p.val);
    st = 5 ∧ (cause = 0 ∨ cause = 1 ∧ 2 ≤ mapGet 0 s.chain.missing p.val ∨ cause = 2 ∧ 8 ≤ s.crcFails p.val)) ∧
  (∃ (s : State), s.get (CHN_PORT_STAT_STATE 0) = 5) ∧
  (∃ (s : State), s.get (CHN_PORT_STAT_STATE 1) = 5) ∧
  (∃ (s : State) (p : TwoIx),
    let st := s.get (CHN_PORT_STAT_STATE p.val);
    st = 2 ∨ st = 4 ∨ st = 6) ∧
  (∃ (s : State) (f : Nat), mapFind s.chain.downAt 1 = some f ∧
      s.awake = true ∧
        s.get (CHN_PORT_STAT_STATE 1) ≠ 5 ∧
          s.framesOfMs (10 * max 1 (s.get CHN_CTL_DETACH_T)) ≤ s.frameAgo (f - 1) ∧ s.isHead = true) ∧
  (∃ (s : State) (f : Nat), mapFind s.chain.downAt 1 = some f ∧
      s.awake = true ∧
        s.get (CHN_PORT_STAT_STATE 1) ≠ 5 ∧
          s.framesOfMs (10 * max 1 (s.get CHN_CTL_DETACH_T)) ≤ s.frameAgo (f - 1) ∧
            s.isHead = false ∧ s.on CHN_STAT_ADDR_VALID = true ∧ TunnelFree s 0) :=
 ⟨⟨st [(CHN_PORT_STAT_STATE 1, 1)], 1, by decide +kernel⟩,
  ⟨st [(CHN_PORT_STAT_STATE 1, 6)], 1, by decide +kernel⟩,
  ⟨st [(CHN_PORT_STAT_STATE 0, 2), (CHN_PORT_STAT_SIGNAL 0, 1)], 0,
      { delay := 700, pos := 3, addrValid := false, offset := 6, headFrame := 4294967395 }, by decide +kernel⟩,
  ⟨{ st [(CHN_PORT_STAT_STATE 1, 2), (CHN_PORT_STAT_SIGNAL 1, 1)] with isHead := true }, 1,
      { delay := 70, pos := 3, addrValid := true, offset := 6, headFrame := 4294967395 }, by decide +kernel⟩,
  ⟨st [(CLK_DOMA_STAT_STATE, 1), (CHN_PORT_STAT_STATE 0, 2), (CHN_PORT_STAT_SIGNAL 0, 1)], 0,
      { delay := 70, pos := 3, addrValid := true, offset := 6, headFrame := 4294967395 }, by decide +kernel⟩,
  ⟨st [(CHN_PORT_STAT_STATE 0, 5)], 0, 0, by decide +kernel⟩,
  ⟨st [(CHN_PORT_STAT_STATE 0, 5)], by decide +kernel⟩,
  ⟨st [(CHN_PORT_STAT_STATE 1, 5)], by decide +kernel⟩,
  ⟨st [(CHN_PORT_STAT_STATE 0, 2)], 0, by decide +kernel⟩,
  ⟨{ State.reset with isHead := true, chain := { Chain.reset with downAt := [(1, 77)] } }, 77, by decide +kernel⟩,
  ⟨{ st [(CHN_STAT_ADDR_VALID, 1)] with chain := { Chain.reset with downAt := [(1, 77)] } }, 77,
      by unfold TunnelFree; decide +kernel⟩⟩

/-- States and operands that meet the hypotheses of the clauses of `Obligations.ChainFramesAndDeal`. -/
theorem witness_ChainFramesAndDeal :
  (∃ (s : State) (p : TwoIx) (f : ChainFrame), s.get (CHN_PORT_STAT_STATE p.val) = 5 ∧ f.missing = true) ∧
  (∃ (s : State) (p : TwoIx) (f : ChainFrame), s.get (CHN_PORT_STAT_STATE p.val) = 5 ∧ f.missing = false ∧ f.crcOk = false ∧ f.badSlots = 0 ∧ f.badGroups = 0) ∧
  (∃ (s : State) (p : TwoIx) (f : ChainFrame),
    let idle := (unitsOf 7 (List.drop 2 f.ctl)).all fun x ↦ tunType x.hdr == 0;
    s.get (CHN_PORT_STAT_STATE p.val) = 5 ∧ f.missing = false ∧ f.crcOk = true ∧ p = 1 ∧ idle = true) ∧
  (∃ (s : State) (p : TwoIx) (f : ChainFrame),
    let idle := (unitsOf 7 (List.drop 2 f.ctl)).all fun x ↦ tunType x.hdr == 0;
    let w0 := f.ctl.getD 0 0;
    s.get (CHN_PORT_STAT_STATE p.val) = 5 ∧
      f.missing = false ∧
        f.crcOk = true ∧
          p = 0 ∧
            s.isHead = false ∧
              idle = true ∧
                bitOf w0 32 = true ∧
                  s.chain.seenDeal ≠ some (bits w0 45 3) ∧
                    bits w0 41 4 < 15 ∧ s.chain.held = none ∧ bitOf w0 34 = false ∧ bitOf w0 35 = false) ∧
  (∃ (s : State) (p : TwoIx) (f : ChainFrame),
    let idle := (unitsOf 7 (List.drop 2 f.ctl)).all fun x ↦ tunType x.hdr == 0;
    let w0 := f.ctl.getD 0 0;
    s.get (CHN_PORT_STAT_STATE p.val) = 5 ∧
      f.missing = false ∧
        f.crcOk = true ∧
          p = 0 ∧
            s.isHead = false ∧
              idle = true ∧
                bitOf w0 32 = true ∧
                  s.chain.seenDeal ≠ some (bits w0 45 3) ∧ bits w0 41 4 = 15 ∧ bitOf w0 34 = false ∧ bitOf w0 35 = false) ∧
  (∃ (s : State), s.isHead = true) ∧
  (∃ (s : State) (a : Nat), s.isHead = true ∧ 0 < a ∧ a < 16 ∧ s.chain.dealing = true ∧ s.chain.dealSeq < 8) ∧
  (∃ (s : State), s.isHead = true ∧ s.chain.dealing = true ∧ s.chain.rsps = [] ∧ 34 ≤ s.frameAgo s.chain.dealFrame) ∧
  (∃ (s : State) (a : Nat) (x : DealRsp), s.isHead = true ∧
      0 < a ∧
        a < 16 ∧
          s.chain.dealing = true ∧
            s.chain.rsps = [(a, x)] ∧ x.got = 3 ∧ x.tail = true ∧ x.pos < 16 ∧ x.idLo < 2 ^ 64 ∧ x.idHi < 2 ^ 64) ∧
  (∃ (s : State) (x : TunUnit), s.isHead = true ∧ tunType x.hdr = 10 ∧ x.data = [0] ∧ s.inOrder (tunUnit x.hdr) x = true) ∧
  (∃ (s : State) (x : TunUnit), s.isHead = true ∧ tunType x.hdr = 10 ∧ x.data = [1] ∧ s.inOrder (tunUnit x.hdr) x = true) :=
 ⟨⟨st [(CHN_PORT_STAT_STATE 0, 5)], 0, { cfr with missing := true }, by decide +kernel⟩,
  ⟨st [(CHN_PORT_STAT_STATE 0, 5)], 0, { cfr with crcOk := false }, by decide +kernel⟩,
  ⟨st [(CHN_PORT_STAT_STATE 1, 5)], 1, cfr, by decide +kernel⟩,
  ⟨st [(CHN_PORT_STAT_STATE 0, 5)], 0, { cfr with ctl := [0xA60100000000] }, by decide +kernel⟩,
  ⟨st [(CHN_PORT_STAT_STATE 0, 5)], 0, { cfr with ctl := [0xBE2100000000] }, by decide +kernel⟩,
  ⟨{ State.reset with isHead := true }, by decide +kernel⟩,
  ⟨{ State.reset with isHead := true, chain := { Chain.reset with dealing := true } }, 7, by decide +kernel⟩,
  ⟨{ State.reset with isHead := true, chain := { Chain.reset with dealing := true, dealFrame := 5 } }, by decide +kernel⟩,
  ⟨{ State.reset with
        isHead := true
        chain := { Chain.reset with
          dealing := true
          rsps := [(5, { pos := 3, tail := true, idLo := 5, idHi := 6, got := 3 })] } }, 5,
      { pos := 3, tail := true, idLo := 5, idHi := 6, got := 3 }, by decide +kernel⟩,
  ⟨{ State.reset with isHead := true }, { hdr := 160, data := [0] }, by decide +kernel⟩,
  ⟨{ State.reset with isHead := true }, { hdr := 160, data := [1] }, by decide +kernel⟩⟩

/-- States and operands that meet the hypotheses of the clauses of `Obligations.TunnelUnitsActAndAnswer`. -/
theorem witness_TunnelUnitsActAndAnswer :
  (∃ (s : State) (x : TunUnit) (d : Word), s.forMe x = true ∧ s.inOrder 0 x = true ∧ x.data = [BitVec.toNat d]) ∧
  (∃ (s : State) (x : TunUnit) (d : Word),
    let a := tunAddr x.hdr;
    let b := (a - 4194304) / 1048576;
    s.forMe x = true ∧
      s.inOrder 0 x = true ∧
        x.data = [BitVec.toNat d] ∧
          tunType x.hdr = 1 ∧ a % 8 = 0 ∧ 4194304 ≤ a ∧ a < 12582912 ∧ s.bankUp b = true ∧ (b = 5 → a < 10354688)) ∧
  (∃ (s : State) (x : TunUnit) (d : Word),
    let a := tunAddr x.hdr;
    let b := (a - 4194304) / 1048576;
    s.forMe x = true ∧
      s.inOrder 0 x = true ∧
        x.data = [BitVec.toNat d] ∧
          tunType x.hdr = 2 ∧
            a % 8 = 0 ∧
              4194304 ≤ a ∧ a < 12582912 ∧ s.bankUp b = true ∧ (b = 5 → a < 10354688) ∧ s.mark a = 0 ∧ TunnelFree s 0) ∧
  (∃ (s : State) (x : TunUnit) (d : Word),
    let r := tunRing x.hdr;
    s.forMe x = true ∧ s.inOrder 0 x = true ∧ x.data = [BitVec.toNat d] ∧ tunType x.hdr = 4 ∧ s.cmdRoom r = true) ∧
  (∃ (s : State) (x : TunUnit) (d : Word) (seq : Nat) (f : Nat),
    let v := tunUnit x.hdr;
    s.isHead = true ∧
      x.data = [BitVec.toNat d] ∧ tunType x.hdr = 3 ∧ s.inOrder v x = true ∧ s.chain.access = some (v, seq, 1, f)) ∧
  (∃ (s : State) (x : TunUnit) (d : Word),
    let v := tunUnit x.hdr;
    s.isHead = true ∧ x.data = [BitVec.toNat d] ∧ tunType x.hdr = 5 ∧ s.inOrder v x = true ∧ tunWord x.hdr = 0) ∧
  (∃ (s : State) (x : TunUnit) (d : Word),
    let v := tunUnit x.hdr;
    let r := tunRing x.hdr;
    s.isHead = true ∧
      x.data = [BitVec.toNat d] ∧
        tunType x.hdr = 5 ∧
          s.inOrder v x = true ∧
            tunWord x.hdr = 1 ∧ s.proxy r = true ∧ s.get (RING_CFG_UNIT r) = v ∧ s.chain.cplWait = [] ∧ s.cplFull r = false) ∧
  (∃ (s : State) (x : TunUnit) (d : Word) (a : Nat) (b : Nat) (c : Nat),
    let v := tunUnit x.hdr;
    s.isHead = true ∧
      x.data = [BitVec.toNat d] ∧
        tunType x.hdr = 6 ∧
          s.inOrder v x = true ∧
            tunWord x.hdr = 3 ∧
              mapGet [] s.chain.evWord v = [a, b, c] ∧
                s.ringIs (s.get CHN_CTL_FWD_RING) 2 = true ∧ s.on TWB_ALERT_CFG_EN = false) ∧
  (∃ (s : State) (x : TunUnit) (d : Word) (a : Nat) (b : Nat) (c : Nat),
    let v := tunUnit x.hdr;
    s.isHead = true ∧
      x.data = [BitVec.toNat d] ∧
        tunType x.hdr = 6 ∧
          s.inOrder v x = true ∧
            tunWord x.hdr = 3 ∧
              mapGet [] s.chain.evWord v = [a, b, c] ∧
                s.ringIs (s.get CHN_CTL_FWD_RING) 2 = false ∧ s.on TWB_ALERT_CFG_EN = false) ∧
  (∃ (s : State) (x : TunUnit) (d : Word) (y : TunUnit) (l : List TunUnit),
    let v := tunUnit x.hdr;
    s.isHead = true ∧
      x.data = [BitVec.toNat d] ∧
        tunType x.hdr = 7 ∧
          mapGet [] s.chain.replay v = y :: l ∧ tunSeq y.hdr = BitVec.toNat d % 65536 ∧ mapGet [] s.chain.sendq v = []) ∧
  (∃ (s : State) (x : TunUnit) (d : Word),
    let v := tunUnit x.hdr;
    s.isHead = true ∧
      x.data = [BitVec.toNat d] ∧
        tunType x.hdr = 11 ∧ mapFind s.chain.lastRpt v ≠ some (4 * (BitVec.toNat d % 65536) + bits (tunAddr x.hdr) 0 2 + 1)) :=
 ⟨⟨st [(CHN_STAT_ADDR_VALID, 1)], { hdr := 70368878395408, data := [0] }, 0x0, by decide +kernel⟩,
  ⟨st [(CHN_STAT_ADDR_VALID, 1), (MEM_BANK_STAT_STATE 0, 2)], { hdr := 70368878395408, data := [0] }, 0x0,
      by decide +kernel⟩,
  ⟨st [(CHN_STAT_ADDR_VALID, 1), (MEM_BANK_STAT_STATE 0, 2)], { hdr := 70368878395424, data := [0] }, 0x0,
      by unfold TunnelFree; decide +kernel⟩,
  ⟨st [(RING_CFG_EN 5, 1), (CHN_STAT_ADDR_VALID, 1), (MEM_BANK_STAT_STATE 6, 2)], { hdr := 1407374883553344, data := [0] },
      0x0, by decide +kernel⟩,
  ⟨{ State.reset with isHead := true, chain := { Chain.reset with rxSeq := [(1, 7)], access := some (1, (7, (1, 0))) } },
      { hdr := 4611686018427389745, data := [0] }, 0x0, 7, 0, by decide +kernel⟩,
  ⟨{ State.reset with isHead := true }, { hdr := 145522562959409232, data := [0] }, 0x0, by decide +kernel⟩,
  ⟨{ st [(RING_CFG_EN 5, 1), (RING_CFG_CPL_RING 5, 1), (RING_CFG_UNIT 5, 1)] with isHead := true },
      { hdr := 163536961468891217, data := [0] }, 0x0, by decide +kernel⟩,
  ⟨{ st [(TWB_ALERT_CFG_EN, 0)] with
        isHead := true
        chain := { Chain.reset with rxSeq := [(1, 7)], evWord := [(1, [0x40109, 77, 5])] } },
      { hdr := 54043195528447841, data := [0] }, 0x0, 0x40109, 77, 5, by decide +kernel⟩,
  ⟨{ st [(CHN_CTL_FWD_RING, 9), (TWB_ALERT_CFG_EN, 0)] with
        isHead := true
        chain := { Chain.reset with rxSeq := [(1, 7)], evWord := [(1, [0x40109, 77, 5])] } },
      { hdr := 54043195528447841, data := [0] }, 0x0, 0x40109, 77, 5, by decide +kernel⟩,
  ⟨{ State.reset with isHead := true, chain := { Chain.reset with replay := [(1, [{ hdr := 1857, data := [3] }])] } },
      { hdr := 113, data := [844446404968455] }, 0x3000500000007, { hdr := 1857, data := [3] }, [], by decide +kernel⟩,
  ⟨{ State.reset with isHead := true }, { hdr := 33554608, data := [0] }, 0x0, by decide +kernel⟩⟩

/-- States and operands that meet the hypotheses of the clauses of `Obligations.TunnelAccessAndReplay`. -/
theorem witness_TunnelAccessAndReplay :
  (∃ (s : State),
    let v := s.get CHN_TUN_ADDR_UNIT;
    s.isHead = true ∧
      s.on CHN_TUN_STAT_BUSY = false ∧
        v ≠ 0 ∧ v < 16 ∧ s.bit CHN_STAT_PRESENT v = true ∧ TunnelFree s v ∧ mapGet 0 s.chain.txSeq v < 65536) ∧
  (∃ (s : State),
    let v := s.get CHN_TUN_ADDR_UNIT;
    s.isHead = true ∧ s.on CHN_TUN_STAT_BUSY = false ∧ (v = 0 ∨ s.bit CHN_STAT_PRESENT v = false)) ∧
  (∃ (s : State) (w : Nat) (seq : Nat) (rd : Nat) (f : Nat), s.chain.access = some (w, seq, rd, f) ∧ s.framesOfMs (max 1 (s.get CHN_CTL_TUN_TO)) ≤ s.frameAgo f) ∧
  (∃ (s : State) (w : UnitIx), s.isHead = true ∧
      mapGet [] s.chain.replay w.val ≠ [] ∧ 2 * s.get (CHN_ROSTER_STAT_POS w.val) + 8 ≤ s.frameAgo (mapGet 0 s.chain.ackFrame w.val)) ∧
  (∃ (s : State), s.isHead = false ∧
      mapGet [] s.chain.replay 0 ≠ [] ∧ 2 * s.get CHN_STAT_POS + 8 ≤ s.frameAgo (mapGet 0 s.chain.ackFrame 0)) :=
 ⟨⟨{ st [(CHN_STAT_PRESENT, 254), (CHN_TUN_ADDR_UNIT, 1)] with isHead := true }, by unfold TunnelFree; decide +kernel⟩,
  ⟨{ State.reset with isHead := true }, by decide +kernel⟩,
  ⟨{ State.reset with frame := 0x186A0, chain := { Chain.reset with access := some (7, (7, (0, 0))) } }, 7, 7, 0, 0,
      by decide +kernel⟩,
  ⟨{ State.reset with
        frame := 160
        isHead := true
        chain := { Chain.reset with replay := [(1, [{ hdr := 1857, data := [3] }])] } }, 1, by decide +kernel⟩,
  ⟨{ State.reset with frame := 160, chain := { Chain.reset with replay := [(0, [{ hdr := 1856, data := [3] }])] } },
      by decide +kernel⟩⟩

/-- States and operands that meet the hypotheses of the clauses of `Obligations.RingConfigurationAndPointers`. -/
theorem witness_RingConfigurationAndPointers :
  (∃ (s : State) (r : RingIx) (v : Word), s.ringOpen r.val = true ∧ s.ringInvalid r.val (BitVec.toNat v) = false) ∧
  (∃ (s : State) (r : RingIx) (v : Word), s.ringOpen r.val = false ∨
      8 < bits (BitVec.toNat v) 3 4 ∨ bits (BitVec.toNat v) 7 17 % 2 ^ (bits (BitVec.toNat v) 3 4 + 4) ≠ 0) ∧
  (∃ (s : State) (r : RingIx) (v : Word),
    let p := BitVec.toNat v % 2 ^ 16;
    let lvl := (p + 65536 - s.get (RING_HEAD_HEAD r.val)) % 65536;
    s.ringIs r.val 0 = true ∧ (s.ringSize r.val < lvl ∨ lvl < s.ringLevel r.val)) ∧
  (∃ (s : State) (r : RingIx) (v : Word),
    let p := BitVec.toNat v % 2 ^ 16;
    let lvl := (p + 65536 - s.get (RING_HEAD_HEAD r.val)) % 65536;
    s.ringIs r.val 0 = true ∧ s.proxy r.val = false ∧ lvl ≤ s.ringSize r.val ∧ s.ringLevel r.val ≤ lvl) ∧
  (∃ (s : State) (r : RingIx) (v : Word),
    let p := BitVec.toNat v % 2 ^ 16;
    let lvl := (p + 65536 - s.get (RING_HEAD_HEAD r.val)) % 65536;
    let w := s.peek6 (s.ringWord r.val (s.ring r.val).ready);
    s.isHead = true ∧
      s.proxy r.val = true ∧
        lvl ≤ s.ringSize r.val ∧
          s.ringLevel r.val ≤ lvl ∧
            (p + 65536 - (s.ring r.val).ready) % 65536 = 1 ∧
              bits w 8 3 = 0 ∧ TunnelFree s (s.get (RING_CFG_UNIT r.val)) ∧ s.get (RING_CFG_UNIT r.val) < 16) ∧
  (∃ (s : State) (r : RingIx), s.on (RING_CFG_EN r.val) = false) ∧
  (∃ (s : State) (r : RingIx), s.ringIs r.val 3 = true ∧ s.bankUp 6 = true) ∧
  (∃ (s : State) (r : RingIx) (v : Word),
    let p := BitVec.toNat v % 2 ^ 16;
    let lvl := (s.get (RING_TAIL_TAIL r.val) + 65536 - p) % 65536;
    (s.ringIs r.val 1 = true ∨ s.ringIs r.val 2 = true) ∧ s.ringLevel r.val < lvl) ∧
  (∃ (s : State) (r : RingIx) (v : Word),
    let p := BitVec.toNat v % 2 ^ 16;
    let lvl := (s.get (RING_TAIL_TAIL r.val) + 65536 - p) % 65536;
    (s.ringIs r.val 2 = true ∨ s.ringIs r.val 1 = true ∧ s.chain.cplWait = [] ∧ ∀ (q : Nat), (s.ring q).waiting = none) ∧
      lvl ≤ s.ringLevel r.val) :=
 ⟨⟨State.reset, 0, 0x0, by decide +kernel⟩,
  ⟨State.reset, 0, 0x4D, by decide +kernel⟩,
  ⟨State.reset, 0, 0x4D, by decide +kernel⟩,
  ⟨State.reset, 0, 0x0, by decide +kernel⟩,
  ⟨{ st [(RING_CFG_EN 5, 1), (RING_CFG_UNIT 5, 3)] with isHead := true }, 5, 0x1, by unfold TunnelFree; decide +kernel⟩,
  ⟨State.reset, 5, by decide +kernel⟩,
  ⟨st [(RING_CFG_KIND 5, 3), (RING_CFG_EN 5, 1), (MEM_BANK_STAT_STATE 6, 2)], 5, by decide +kernel⟩,
  ⟨State.reset, 1, 0x4D, by decide +kernel⟩,
  ⟨State.reset, 1, 0x0, ⟨Or.inr ⟨by decide +kernel, rfl, fun _ => rfl⟩, by decide +kernel⟩⟩⟩

/-- States and operands that meet the hypotheses of the clauses of `Obligations.RingResumeAbortAndParam`. -/
theorem witness_RingResumeAbortAndParam :
  (∃ (s : State) (r : RingIx), s.get (RING_STAT_STATE r.val) = 3 ∧ s.proxy r.val = false) ∧
  (∃ (s : State) (r : RingIx),
    let next := (s.get (RING_HEAD_HEAD r.val) + (s.ring r.val).haltNw) % 65536;
    s.get (RING_STAT_STATE r.val) = 3 ∧ s.proxy r.val = false ∧ (s.ring r.val).ready = next) ∧
  (∃ (s : State) (r : RingIx),
    let next := (s.get (RING_HEAD_HEAD r.val) + (s.ring r.val).haltNw) % 65536;
    s.get (RING_STAT_STATE r.val) = 3 ∧ s.proxy r.val = false ∧ (s.ring r.val).ready ≠ next ∧ s.cplFull r.val = true) ∧
  (∃ (s : State) (r : RingIx),
    let unit := s.get (RING_CFG_UNIT r.val);
    s.get (RING_STAT_STATE r.val) = 3 ∧ s.proxy r.val = true ∧ s.isHead = true ∧ unit < 16 ∧ TunnelFree s unit) ∧
  (∃ (s : State) (r : RingIx) (ws : List Nat),
    let w0 := ws.headD 0;
    let op := w0 % 256;
    let t := abortRing ws;
    let q := abortSeq ws;
    TakesUp s r.val ws ∧ op = 3 ∧ (s.ringIs t 0 = false ∨ 32768 ≤ (s.get (RING_STAT_NEXT_SEQ t) + 65535 - q) % 65536)) ∧
  (∃ (s : State) (r : RingIx) (ws : List Nat) (st : Nat),
    let w0 := ws.headD 0;
    let op := w0 % 256;
    let t := abortRing ws;
    let q := abortSeq ws;
    let known := s.ringIs t 0 = true ∧ (s.get (RING_STAT_NEXT_SEQ t) + 65535 - q) % 65536 < 32768;
    TakesUp s r.val ws ∧ op = 3 ∧ known ∧ t ≠ r.val ∧ s.doneStatus t q = some st) ∧
  (∃ (s : State) (r : RingIx) (ws : List Nat),
    let w0 := ws.headD 0;
    let op := w0 % 256;
    let t := abortRing ws;
    let q := abortSeq ws;
    let known := s.ringIs t 0 = true ∧ (s.get (RING_STAT_NEXT_SEQ t) + 65535 - q) % 65536 < 32768;
    TakesUp s r.val ws ∧
      op = 3 ∧
        known ∧
          t ≠ r.val ∧ s.doneStatus t q = none ∧ s.proxy t = false ∧ noAbort (s.openOpcode t q) = false ∧ (s.ring t).exec = none) ∧
  (∃ (s : State) (r : RingIx) (ws : List Nat),
    let w0 := ws.headD 0;
    let op := w0 % 256;
    let t := abortRing ws;
    let q := abortSeq ws;
    let known := s.ringIs t 0 = true ∧ (s.get (RING_STAT_NEXT_SEQ t) + 65535 - q) % 65536 < 32768;
    TakesUp s r.val ws ∧ op = 3 ∧ known ∧ t ≠ r.val ∧ s.doneStatus t q = none ∧ noAbort (s.openOpcode t q) = true) ∧
  (∃ (s : State) (r : RingIx) (ws : List Nat),
    let w0 := ws.headD 0;
    let op := w0 % 256;
    let t := abortRing ws;
    let q := abortSeq ws;
    let known := s.ringIs t 0 = true ∧ (s.get (RING_STAT_NEXT_SEQ t) + 65535 - q) % 65536 < 32768;
    TakesUp s r.val ws ∧ op = 3 ∧ known ∧ t = r.val ∧ q = s.headSeq r.val) ∧
  (∃ (s : State) (r : RingIx) (ws : List Nat) (e : Exec),
    let w0 := ws.headD 0;
    let op := w0 % 256;
    let t := abortRing ws;
    let q := abortSeq ws;
    let known := s.ringIs t 0 = true ∧ (s.get (RING_STAT_NEXT_SEQ t) + 65535 - q) % 65536 < 32768;
    TakesUp s r.val ws ∧
      op = 3 ∧
        known ∧
          t ≠ r.val ∧
            (s.ring t).exec = some e ∧
              e.seq = q ∧
                (s.ring t).waiting = none ∧
                  e.words.headD 0 % 256 = 2 ∧ s.pastCommit e = false ∧ s.proxy t = false ∧ s.cplFull t = false) ∧
  (∃ (s : State) (r : RingIx) (ws : List Nat),
    let w0 := ws.headD 0;
    let op := w0 % 256;
    let idx := bits w0 28 4;
    TakesUp s r.val ws ∧ op = 5 ∧ 16 < idx + (ws.length - 1)) ∧
  (∃ (s : State) (r : RingIx) (ws : List Nat),
    let w0 := ws.headD 0;
    let op := w0 % 256;
    let tile := bits w0 16 10;
    let idx := bits w0 28 4;
    TakesUp s r.val ws ∧
      op = 5 ∧
        idx + (ws.length - 1) ≤ 16 ∧ s.loadCovers tile = false ∧ (s.shelfQueue (tile / 64)).length + (ws.length - 1) ≤ 64) :=
 ⟨⟨st [(RING_STAT_STATE 5, 3)], 5, by decide +kernel⟩,
  ⟨st [(RING_STAT_STATE 5, 3)], 5, by decide +kernel⟩,
  ⟨{ st [(RING_STAT_STATE 5, 3)] with rings := [(5, { Ring.reset with haltNw := 1 })] }, 5, by decide +kernel⟩,
  ⟨{ st [(RING_CFG_EN 5, 1), (RING_CFG_UNIT 5, 3), (RING_STAT_STATE 5, 3)] with isHead := true }, 5,
      by unfold TunnelFree; decide +kernel⟩,
  ⟨{ st [(MEM_BANK_STAT_STATE 6, 2)] with
        mem := cells 0xAFE000 [3] ++ cells 0xAFE002 [6]
        rings := [(0, { Ring.reset with ready := 1 })] }, 0, [0x60003], ⟨takesUp_of (by decide +kernel), by decide +kernel⟩⟩,
  ⟨{ st [(RING_CFG_EN 5, 1), (RING_CFG_BASE 5, 0x1000), (RING_STAT_STATE 5, 1), (RING_CFG_EN 6, 1),
          (RING_STAT_NEXT_SEQ 6, 1), (MEM_BANK_STAT_STATE 6, 2)] with
        mem := cells 0xA08000 [3] ++ cells 0xA08002 [6]
        rings := [(5, { Ring.reset with ready := 1 }), (6, { Ring.reset with doneSeq := 1, hist := [(0, 4)] })] }, 5,
      [0x60003], 4, ⟨takesUp_of (by decide +kernel), by decide +kernel⟩⟩,
  ⟨{ st [(RING_CFG_EN 5, 1), (RING_CFG_BASE 5, 0x1000), (RING_STAT_STATE 5, 1), (RING_CFG_EN 6, 1),
          (RING_STAT_NEXT_SEQ 6, 1), (MEM_BANK_STAT_STATE 6, 2)] with
        mem := cells 0xA08000 [3] ++ cells 0xA08002 [6]
        rings := [(5, { Ring.reset with ready := 1 })] }, 5, [0x60003], ⟨takesUp_of (by decide +kernel), by decide +kernel⟩⟩,
  ⟨{ st [(RING_CFG_EN 5, 1), (RING_CFG_BASE 5, 0x1000), (RING_STAT_STATE 5, 1), (RING_CFG_EN 6, 1),
          (RING_CFG_BASE 6, 0x2000), (RING_STAT_NEXT_SEQ 6, 1), (MEM_BANK_STAT_STATE 6, 2)] with
        mem := cells 0xA08000 [3] ++ cells 0xA08002 [6] ++ cells 0xA10000 [4]
        rings := [(5, { Ring.reset with ready := 1 })] }, 5, [0x60003], ⟨takesUp_of (by decide +kernel), by decide +kernel⟩⟩,
  ⟨{ st [(RING_CFG_EN 5, 1), (RING_CFG_BASE 5, 0x1000), (RING_STAT_STATE 5, 1), (RING_STAT_NEXT_SEQ 5, 3),
          (MEM_BANK_STAT_STATE 6, 2)] with
        mem := cells 0xA08000 [3] ++ cells 0xA08002 [5]
        rings := [(5, { Ring.reset with ready := 1 })] }, 5, [0x50003], ⟨takesUp_of (by decide +kernel), by decide +kernel⟩⟩,
  ⟨{ st [(RING_CFG_EN 5, 1), (RING_CFG_BASE 5, 0x1000), (RING_STAT_STATE 5, 1), (RING_CFG_EN 6, 1),
          (RING_CFG_CPL_RING 6, 1), (RING_STAT_NEXT_SEQ 6, 1), (MEM_BANK_STAT_STATE 6, 2)] with
        mem := cells 0xA08000 [3] ++ cells 0xA08002 [6]
        rings := [(5, { Ring.reset with ready := 1 }),
          (6,
            { Ring.reset with
              exec := some { run0 with words := [258], startFrame := 5, left := 6, result := 77, snap := [(5, 0), (6, 3)] } })] },
      5, [0x60003], { run0 with words := [258], startFrame := 5, left := 6, result := 77, snap := [(5, 0), (6, 3)] },
      ⟨takesUp_of (by decide +kernel), by decide +kernel⟩⟩,
  ⟨{ st [(MEM_BANK_STAT_STATE 6, 2)] with
        mem := cells 0xAFE000 [5, 7, 3, 0xF0] ++ cells 0xAFE008 [0x4D] ++ cells 0xAFE010 [0x58] ++
          cells 0xAFE018 [1] ++ cells 0xAFE020 [2] ++ cells 0xAFE028 [3] ++ cells 0xAFE030 [4] ++
          cells 0xAFE038 [5]
        rings := [(0, { Ring.reset with ready := 8 })] }, 0, [0xF0030705, 77, 88, 1, 2, 3, 4, 5],
      ⟨takesUp_of (by decide +kernel), by decide +kernel⟩⟩,
  ⟨{ st [(MEM_BANK_STAT_STATE 6, 2)] with
        mem := cells 0xAFE000 [5, 1, 3] ++ cells 0xAFE008 [0x4D]
        rings := [(0, { Ring.reset with ready := 2 })] }, 0, [0x30105, 77],
      ⟨takesUp_of (by decide +kernel), by decide +kernel⟩⟩⟩

/-- States and operands that meet the hypotheses of the clauses of `Obligations.RingWaitsAndFencesComplete`. -/
theorem witness_RingWaitsAndFencesComplete :
  (∃ (s : State) (r : RingIx) (ws : List Nat),
    let op := ws.headD 0 % 256;
    TakesUp s r.val ws ∧ op = 0) ∧
  (∃ (s : State) (r : RingIx) (ws : List Nat),
    let op := ws.headD 0 % 256;
    TakesUp s r.val ws ∧ op = 0 ∧ s.cplFull r.val = false) ∧
  (∃ (s : State) (r : RingIx) (ws : List Nat),
    let op := ws.headD 0 % 256;
    TakesUp s r.val ws ∧ op = 1 ∧ waitMode ws = 0 ∧ waitCode ws = 0 ∧ later (waitArg ws) s.frame = true) ∧
  (∃ (s : State) (r : RingIx) (ws : List Nat),
    let op := ws.headD 0 % 256;
    TakesUp s r.val ws ∧ op = 1 ∧ waitMode ws = 0 ∧ waitCode ws = 0 ∧ later (waitArg ws) s.frame = false) ∧
  (∃ (s : State) (r : RingIx) (ws : List Nat),
    let op := ws.headD 0 % 256;
    TakesUp s r.val ws ∧ op = 1 ∧ waitMode ws = 1 ∧ waitCode ws = 0 ∧ waitArg ws ≠ 0) ∧
  (∃ (s : State) (r : RingIx) (ws : List Nat),
    let op := ws.headD 0 % 256;
    TakesUp s r.val ws ∧ op = 1 ∧ waitMode ws = 1 ∧ waitCode ws = 0 ∧ waitArg ws = 0) ∧
  (∃ (s : State) (r : RingIx) (ws : List Nat),
    let op := ws.headD 0 % 256;
    TakesUp s r.val ws ∧ op = 1 ∧ waitCode ws ≠ 0 ∧ waitMode ws = 0) ∧
  (∃ (s : State) (r : RingIx) (ws : List Nat),
    let op := ws.headD 0 % 256;
    TakesUp s r.val ws ∧ op = 1 ∧ waitCode ws ≠ 0 ∧ waitMode ws = 1) ∧
  (∃ (s : State) (r : RingIx) (ws : List Nat),
    let op := ws.headD 0 % 256;
    TakesUp s r.val ws ∧ op = 1 ∧ waitCode ws ≠ 0 ∧ waitMode ws = 2) ∧
  (∃ (s : State) (r : RingIx) (ws : List Nat),
    let op := ws.headD 0 % 256;
    TakesUp s r.val ws ∧ op = 1 ∧ waitCode ws ≠ 0 ∧ waitMode ws = 3) ∧
  (∃ (s : State) (r : RingIx) (ws : List Nat),
    let op := ws.headD 0 % 256;
    TakesUp s r.val ws ∧ op = 1 ∧ waitMode ws = 2 ∧ waitCode ws = 0 ∧ r ≠ 0) ∧
  (∃ (s : State) (r : RingIx) (ws : List Nat),
    let op := ws.headD 0 % 256;
    TakesUp s r.val ws ∧ op = 1 ∧ waitMode ws = 2 ∧ waitCode ws = 0 ∧ r = 0 ∧ s.get PWR_MODE_MODE = 0) ∧
  (∃ (s : State) (r : RingIx) (ws : List Nat),
    let op := ws.headD 0 % 256;
    TakesUp s r.val ws ∧ op = 1 ∧ waitMode ws = 2 ∧ waitCode ws = 0 ∧ r = 0 ∧ s.get PWR_MODE_MODE ≠ 0) ∧
  (∃ (s : State) (r : RingIx) (ws : List Nat),
    let op := ws.headD 0 % 256;
    let snap := List.map (fun q ↦ (q, s.get (RING_STAT_NEXT_SEQ q)))
        (List.filter (fun q ↦ q != r.val && s.ringIs q 0) (bitList 64 (ws.getD 1 0)));
    TakesUp s r.val ws ∧ op = 2 ∧ s.fenceOpen snap = []) ∧
  (∃ (s : State) (r : RingIx) (ws : List Nat),
    let op := ws.headD 0 % 256;
    let snap := List.map (fun q ↦ (q, s.get (RING_STAT_NEXT_SEQ q)))
        (List.filter (fun q ↦ q != r.val && s.ringIs q 0) (bitList 64 (ws.getD 1 0)));
    TakesUp s r.val ws ∧ op = 2 ∧ s.fenceOpen snap ≠ []) ∧
  (∃ (s : State) (r : RingIx) (e : Exec), (s.ring r.val).exec = some e ∧ e.words.headD 0 % 256 = 1 ∧ e.committed = true) ∧
  (∃ (s : State) (r : RingIx) (e : Exec), (s.ring r.val).exec = some e ∧ e.words.headD 0 % 256 = 1 ∧ e.committed = false ∧ s.eventSeen e = true) ∧
  (∃ (s : State) (r : RingIx) (e : Exec), (s.ring r.val).exec = some e ∧ e.words.headD 0 % 256 = 2 ∧ e.committed = true) ∧
  (∃ (s : State) (r : RingIx) (e : Exec), (s.ring r.val).exec = some e ∧ e.words.headD 0 % 256 = 2 ∧ e.committed = false ∧ s.fenceOpen e.snap = []) :=
 ⟨⟨{ st [(MEM_BANK_STAT_STATE 6, 2)] with rings := [(0, { Ring.reset with ready := 1 })] }, 0, [0],
      ⟨takesUp_of (by decide +kernel), by decide +kernel⟩⟩,
  ⟨{ st [(MEM_BANK_STAT_STATE 6, 2)] with rings := [(0, { Ring.reset with ready := 1 })] }, 0, [0],
      ⟨takesUp_of (by decide +kernel), by decide +kernel⟩⟩,
  ⟨{ st [(MEM_BANK_STAT_STATE 6, 2)] with
        mem := cells 0xAFE000 [1, 1] ++ cells 0xAFE008 [0x32]
        rings := [(0, { Ring.reset with ready := 2 })] }, 0, [257, 50], ⟨takesUp_of (by decide +kernel), by decide +kernel⟩⟩,
  ⟨{ st [(MEM_BANK_STAT_STATE 6, 2)] with
        mem := cells 0xAFE000 [1, 1] ++ cells 0xAFE008 [5]
        frame := 10
        rings := [(0, { Ring.reset with ready := 2 })] }, 0, [257, 5], ⟨takesUp_of (by decide +kernel), by decide +kernel⟩⟩,
  ⟨{ st [(MEM_BANK_STAT_STATE 6, 2)] with
        mem := cells 0xAFE000 [1, 1, 1] ++ cells 0xAFE008 [3]
        rings := [(0, { Ring.reset with ready := 2 })] }, 0, [0x10101, 3],
      ⟨takesUp_of (by decide +kernel), by decide +kernel⟩⟩,
  ⟨{ st [(MEM_BANK_STAT_STATE 6, 2)] with mem := cells 0xAFE000 [1, 1, 1], rings := [(0, { Ring.reset with ready := 2 })] },
      0, [0x10101, 0], ⟨takesUp_of (by decide +kernel), by decide +kernel⟩⟩,
  ⟨{ st [(MEM_BANK_STAT_STATE 6, 2)] with
        mem := cells 0xAFE000 [1, 1] ++ cells 0xAFE004 [1] ++ cells 0xAFE008 [6]
        rings := [(0, { Ring.reset with ready := 2 })] }, 0, [0x100000101, 6],
      ⟨takesUp_of (by decide +kernel), by decide +kernel⟩⟩,
  ⟨{ st [(MEM_BANK_STAT_STATE 6, 2)] with
        mem := cells 0xAFE000 [1, 1, 1] ++ cells 0xAFE004 [1] ++ cells 0xAFE008 [6]
        rings := [(0, { Ring.reset with ready := 2 })] }, 0, [0x100010101, 6],
      ⟨takesUp_of (by decide +kernel), by decide +kernel⟩⟩,
  ⟨{ st [(MEM_BANK_STAT_STATE 6, 2)] with
        mem := cells 0xAFE000 [1, 1, 2] ++ cells 0xAFE004 [1] ++ cells 0xAFE008 [6]
        rings := [(0, { Ring.reset with ready := 2 })] }, 0, [0x100020101, 6],
      ⟨takesUp_of (by decide +kernel), by decide +kernel⟩⟩,
  ⟨{ st [(MEM_BANK_STAT_STATE 6, 2)] with
        mem := cells 0xAFE000 [1, 1, 3] ++ cells 0xAFE004 [1, 3] ++ cells 0xAFE008 [6]
        rings := [(0, { Ring.reset with ready := 2 })] }, 0, [0x30100030101, 6],
      ⟨takesUp_of (by decide +kernel), by decide +kernel⟩⟩,
  ⟨{ st [(RING_CFG_EN 5, 1), (RING_CFG_BASE 5, 0x1000), (RING_STAT_STATE 5, 1), (MEM_BANK_STAT_STATE 6, 2)] with
        mem := cells 0xA08000 [1, 1, 2]
        rings := [(5, { Ring.reset with ready := 2 })] }, 5, [0x20101, 0],
      ⟨takesUp_of (by decide +kernel), by decide +kernel⟩⟩,
  ⟨{ st [(MEM_BANK_STAT_STATE 6, 2)] with mem := cells 0xAFE000 [1, 1, 2], rings := [(0, { Ring.reset with ready := 2 })] },
      0, [0x20101, 0], ⟨takesUp_of (by decide +kernel), by decide +kernel⟩⟩,
  ⟨{ st [(PWR_MODE_MODE, 2), (MEM_BANK_STAT_STATE 6, 2)] with
        mem := cells 0xAFE000 [1, 1, 2]
        rings := [(0, { Ring.reset with ready := 2 })] }, 0, [0x20101, 0],
      ⟨takesUp_of (by decide +kernel), by decide +kernel⟩⟩,
  ⟨{ st [(MEM_BANK_STAT_STATE 6, 2)] with
        mem := cells 0xAFE000 [2, 1] ++ cells 0xAFE008 [0x20]
        rings := [(0, { Ring.reset with ready := 2 })] }, 0, [258, 32], ⟨takesUp_of (by decide +kernel), by decide +kernel⟩⟩,
  ⟨{ st [(RING_CFG_EN 5, 1), (RING_CFG_BASE 5, 0x1000), (RING_STAT_STATE 5, 1), (RING_CFG_EN 6, 1),
          (RING_STAT_NEXT_SEQ 6, 1), (MEM_BANK_STAT_STATE 6, 2)] with
        mem := cells 0xA08000 [2, 1] ++ cells 0xA08004 [7] ++ cells 0xA08008 [0x40]
        rings := [(5, { Ring.reset with ready := 2 })] }, 5, [0x700000102, 64],
      ⟨takesUp_of (by decide +kernel), by decide +kernel⟩⟩,
  ⟨{ State.reset with
        rings := [(5,
            { Ring.reset with
              exec := some { run0 with
                seq := 3
                words := [0x30100030101]
                committed := true
                startFrame := 5
                left := 6
                result := 77
                lost := true
                snap := [(5, 0), (6, 3)] } })] }, 5,
      { run0 with
        seq := 3
        words := [0x30100030101]
        committed := true
        startFrame := 5
        left := 6
        result := 77
        lost := true
        snap := [(5, 0), (6, 3)] }, by decide +kernel⟩,
  ⟨{ State.reset with
        occ := [769]
        rings := [(5,
            { Ring.reset with
              exec := some { run0 with
                seq := 3
                words := [0x30100030101]
                startFrame := 5
                left := 6
                result := 77
                snap := [(5, 0), (6, 3)] } })] }, 5,
      { run0 with seq := 3, words := [0x30100030101], startFrame := 5, left := 6, result := 77, snap := [(5, 0), (6, 3)] },
      by decide +kernel⟩,
  ⟨{ State.reset with
        rings := [(5,
            { Ring.reset with
              exec := some { run0 with
                words := [258]
                committed := true
                startFrame := 5
                left := 6
                result := 77
                lost := true
                snap := [(5, 0), (6, 3)] } })] }, 5,
      { run0 with
        words := [258]
        committed := true
        startFrame := 5
        left := 6
        result := 77
        lost := true
        snap := [(5, 0), (6, 3)] }, by decide +kernel⟩,
  ⟨{ State.reset with
        rings := [(5,
            { Ring.reset with
              exec := some { run0 with words := [258], startFrame := 5, left := 6, result := 77, snap := [(5, 0), (6, 3)] } })] },
      5, { run0 with words := [258], startFrame := 5, left := 6, result := 77, snap := [(5, 0), (6, 3)] }, by decide +kernel⟩⟩

/-- States and operands that meet the hypotheses of the clauses of `Obligations.CoefficientGroupsAndRouteCommands`. -/
theorem witness_CoefficientGroupsAndRouteCommands :
  (∃ (s : State) (r : RingIx) (ws : List Nat) (st : Nat), TakesUp s r.val ws ∧ ws.headD 0 % 256 = 6 ∧ s.groupFails ws = some st) ∧
  (∃ (s : State) (r : RingIx) (ws : List Nat), TakesUp s r.val ws ∧ ws.headD 0 % 256 = 6 ∧ s.groupFails ws = none ∧ s.groupBlocked (s.groupMade r.val ws) = true) ∧
  (∃ (s : State) (r : RingIx) (ws : List Nat),
    let once := fun l ↦ (List.map (fun p ↦ (p.1, p.2.1)) l).Nodup;
    TakesUp s r.val ws ∧
      ws.headD 0 % 256 = 6 ∧ s.groupFails ws = none ∧ once (s.groupWords ws) ∧ s.groupBlocked (s.groupMade r.val ws) = false) ∧
  (∃ (s : State) (r : RingIx) (g : Machine.Group),
    let once := fun l ↦ (List.map (fun p ↦ (p.1, p.2.1)) l).Nodup;
    s.groupOf r.val = some g ∧ g.staged = false ∧ s.groupBlocked g = false ∧ once g.words) ∧
  (∃ (s : State) (r : RingIx) (g : Machine.Group) (e : Exec) (t : Nat) (sec : Nat), s.groupOf r.val = some g ∧
      g.staged = true ∧
        g.stagedAt ≠ s.frame ∧
          (∀ (f : Nat), g.at_ = some f → later f s.frame = false) ∧
            g.secs = [(t, sec)] ∧ t < 1024 ∧ sec < 51 ∧ (s.ring r.val).exec = some e) ∧
  (∃ (s : State) (r : RingIx) (ws : List Nat) (st : Nat),
    let op := bits (ws.headD 0) 16 2;
    TakesUp s r.val ws ∧ ws.headD 0 % 256 = 7 ∧ s.routeCheck ws = some st ∧ (op = 0 ∨ op = 3)) ∧
  (∃ (s : State) (r : RingIx) (ws : List Nat) (st : Nat),
    let op := bits (ws.headD 0) 16 2;
    TakesUp s r.val ws ∧ ws.headD 0 % 256 = 7 ∧ s.routeCheck ws = some st ∧ op = 1) ∧
  (∃ (s : State) (r : RingIx) (ws : List Nat) (st : Nat),
    let op := bits (ws.headD 0) 16 2;
    TakesUp s r.val ws ∧ ws.headD 0 % 256 = 7 ∧ s.routeCheck ws = some st ∧ op = 2) ∧
  (∃ (s : State) (r : RingIx) (ws : List Nat) (x : XpIx),
    let op := bits (ws.headD 0) 16 2;
    let d := (ws.getD 2 0, ws.getD 3 0);
    TakesUp s r.val ws ∧
      ws.headD 0 % 256 = 7 ∧
        s.routeCheck ws = none ∧
          op = 0 ∧ routeTargets ws = [x.val] ∧ (descFieldsOk d = false ∨ s.lowOk x.val d = false ∨ s.xpDomain x.val d = none)) ∧
  (∃ (s : State) (r : RingIx) (ws : List Nat) (x : XpIx) (dom : Nat),
    let op := bits (ws.headD 0) 16 2;
    let d := (ws.getD 2 0, ws.getD 3 0);
    let made := fun q dom ↦ routeChange r.val (s.headSeq r.val) s.frame ws q dom;
    let s' := s.queueChange x.val (made (some d) dom);
    TakesUp s r.val ws ∧
      ws.headD 0 % 256 = 7 ∧
        s.routeCheck ws = none ∧
          op = 0 ∧
            routeTargets ws = [x.val] ∧
              descFieldsOk d = true ∧
                s.lowOk x.val d = true ∧
                  s.xpDomain x.val d = some dom ∧
                    s'.feeders (xpSnk d) ≤ 8 ∧ s'.reserved ≤ s.reserveLimit ∧ s.queuedChanges < 32) ∧
  (∃ (s : State) (r : RingIx) (ws : List Nat),
    let op := bits (ws.headD 0) 16 2;
    TakesUp s r.val ws ∧
      ws.headD 0 % 256 = 7 ∧ s.routeCheck ws = none ∧ op = 1 ∧ s.queuedChanges < 32) ∧
  (∃ (s : State) (r : RingIx) (ws : List Nat),
    let op := bits (ws.headD 0) 16 2;
    TakesUp s r.val ws ∧
      ws.headD 0 % 256 = 7 ∧ s.routeCheck ws = none ∧ op = 1 ∧ 32 ≤ s.queuedChanges) ∧
  (∃ (s : State) (r : RingIx) (ws : List Nat),
    let op := bits (ws.headD 0) 16 2;
    TakesUp s r.val ws ∧ ws.headD 0 % 256 = 7 ∧ s.routeCheck ws = none ∧ op = 2) :=
 ⟨⟨{ st [(MEM_BANK_STAT_STATE 6, 2)] with
        mem := cells 0xAFE000 [6, 1, 5] ++ cells 0xAFE006 [3]
        rings := [(0, { Ring.reset with ready := 2 })] }, 0, [0x3000000050106, 0], 4,
      ⟨takesUp_of (by decide +kernel), by decide +kernel⟩⟩,
  ⟨{ st [(RING_CFG_EN 5, 1), (RING_CFG_BASE 5, 0x1000), (RING_STAT_STATE 5, 1), (MEM_BANK_STAT_STATE 6, 2),
          (FAB_TILE_STAT_STATE 3, 1)] with
        mem := cells 0x3E00 [1] ++ cells 0xA08000 [6, 1, 5] ++ cells 0xA08006 [3] ++ cells 0xA18000 [3] ++
          cells 0xA18002 [0x14] ++ cells 0xA18007 [0x80]
        rings := [(5, { Ring.reset with ready := 2 })]
        groups := [{ grp with secs := [(3, 4)] }] }, 5, [0x3000000050106, 0],
      ⟨takesUp_of (by decide +kernel), by decide +kernel⟩⟩,
  ⟨{ st [(RING_CFG_EN 5, 1), (RING_CFG_BASE 5, 0x1000), (RING_STAT_STATE 5, 1), (MEM_BANK_STAT_STATE 6, 2),
          (FAB_TILE_STAT_STATE 3, 1)] with
        mem := cells 0x3E00 [1] ++ cells 0xA08000 [6, 1, 5] ++ cells 0xA08006 [3] ++ cells 0xA18000 [3] ++
          cells 0xA18007 [0x80]
        rings := [(5, { Ring.reset with ready := 2 })] }, 5, [0x3000000050106, 0],
      ⟨takesUp_of (by decide +kernel), by decide +kernel⟩⟩,
  ⟨{ State.reset with
        groups := [{ grp with
            settle := 7
            staged := false
            stagedAt := 2
            words := [(3, (20, 0x77)), (3, (21, 0x5))]
            secs := [(3, 4)] }] }, 5,
      { grp with settle := 7, staged := false, stagedAt := 2, words := [(3, (20, 0x77)), (3, (21, 0x5))], secs := [(3, 4)] },
      by decide +kernel⟩,
  ⟨{ State.reset with
        rings := [(5,
            { Ring.reset with
              exec := some { run0 with seq := 3, words := [6], committed := true, startFrame := 5, left := 1, result := 77 } })]
        groups := [{ grp with settle := 7, stagedAt := 2, words := [(3, (20, 0x77)), (3, (21, 0x5))], secs := [(3, 4)] }] },
      5, { grp with settle := 7, stagedAt := 2, words := [(3, (20, 0x77)), (3, (21, 0x5))], secs := [(3, 4)] },
      { run0 with seq := 3, words := [6], committed := true, startFrame := 5, left := 1, result := 77 }, 3, 4,
      by decide +kernel⟩,
  ⟨{ st [(MEM_BANK_STAT_STATE 6, 2)] with
        mem := cells 0xAFE000 [7, 1, 0x37] ++ cells 0xAFE00C [1]
        rings := [(0, { Ring.reset with ready := 2 })] }, 0, [0x370107, 0x100000000], 4,
      ⟨takesUp_of (by decide +kernel), by decide +kernel⟩⟩,
  ⟨{ st [(MEM_BANK_STAT_STATE 6, 2)] with
        mem := cells 0xAFE000 [7, 1, 0x39] ++ cells 0xAFE00C [1, 4]
        rings := [(0, { Ring.reset with ready := 2 })] }, 0, [0x390107, 0x40100000000], 4,
      ⟨takesUp_of (by decide +kernel), by decide +kernel⟩⟩,
  ⟨{ st [(MEM_BANK_STAT_STATE 6, 2)] with
        mem := cells 0xAFE000 [7, 1, 0x32]
        rings := [(0, { Ring.reset with ready := 2 })] }, 0, [0x320107, 0], 4,
      ⟨takesUp_of (by decide +kernel), by decide +kernel⟩⟩,
  ⟨{ st [(MEM_BANK_STAT_STATE 6, 2)] with
        mem := cells 0xAFE000 [7, 3, 0x34] ++ cells 0xAFE00C [1] ++ cells 0xAFE010 [0x90] ++
          cells 0xAFE012 [0x82, 9, 0x40] ++ cells 0xAFE019 [0x70]
        rings := [(0, { Ring.reset with ready := 4 })] }, 0, [0x340307, 0x100000000, 0x4009820090, 0x7000], 1,
      ⟨takesUp_of (by decide +kernel), by decide +kernel⟩⟩,
  ⟨{ st [(MEM_BANK_STAT_STATE 6, 2)] with
        mem := cells 0xAFE000 [7, 3, 0x34] ++ cells 0xAFE00C [1] ++ cells 0xAFE010 [0x90] ++ cells 0xAFE012 [0x82, 9, 0x40]
        rings := [(0, { Ring.reset with ready := 4 })] }, 0, [0x340307, 0x100000000, 0x4009820090, 0], 1, 1,
      ⟨takesUp_of (by decide +kernel), by decide +kernel⟩⟩,
  ⟨{ st [(MEM_BANK_STAT_STATE 6, 2)] with
        mem := cells 0xAFE000 [7, 1, 0x39] ++ cells 0xAFE00C [1]
        rings := [(0, { Ring.reset with ready := 2 })] }, 0, [0x390107, 0x100000000],
      ⟨takesUp_of (by decide +kernel), by decide +kernel⟩⟩,
  ⟨{ st [(RING_CFG_EN 5, 1), (RING_CFG_BASE 5, 0x1000), (RING_STAT_STATE 5, 1), (MEM_BANK_STAT_STATE 6, 2)] with
        mem := cells 0xA08000 [7, 1, 0x39] ++ cells 0xA0800C [1]
        xps := [(9,
            { Xp.reset with
              queue := List.replicate 32 { chg with ring := 6, queuedAt := 2, fadeK := 3, dom := 1, group := [9] } })]
        rings := [(5, { Ring.reset with ready := 2 })] }, 5, [0x390107, 0x100000000],
      ⟨takesUp_of (by decide +kernel), by decide +kernel⟩⟩,
  ⟨{ st [(MEM_BANK_STAT_STATE 6, 2)] with
        mem := cells 0xAFE000 [7, 1, 0x3A] ++ cells 0xAFE005 [0x10] ++ cells 0xAFE00C [1, 0xFC, 0xF]
        rings := [(0, { Ring.reset with ready := 2 })] }, 0, [0x1000003A0107, 0xFFC0100000000],
      ⟨takesUp_of (by decide +kernel), by decide +kernel⟩⟩⟩

/-- States and operands that meet the hypotheses of the clauses of `Obligations.RouteChangesBeginAndEnd`. -/
theorem witness_RouteChangesBeginAndEnd :
  (∃ (s : State) (n : XpIx) (c : XpChange) (d : Nat × Nat),
    let x := s.xp n.val;
    let still := fun c ↦ ∀ (k : XpChange), c = some k → (s.ring k.ring).exec = none;
    x.queue.head? = some c ∧ c.group = [n.val] ∧ s.changeReady n.val = true ∧ x.desc = none ∧ c.desc = some d ∧ still (some c)) ∧
  (∃ (s : State) (n : XpIx) (c : XpChange) (d : Nat × Nat) (e : Nat × Nat),
    let x := s.xp n.val;
    let still := fun c ↦ ∀ (k : XpChange), c = some k → (s.ring k.ring).exec = none;
    x.queue.head? = some c ∧
      c.group = [n.val] ∧ s.changeReady n.val = true ∧ x.desc = some e ∧ c.desc = some d ∧ gainOnly d e = false ∧ still (some c)) ∧
  (∃ (s : State) (n : XpIx) (c : XpChange) (d : Nat × Nat) (e : Nat × Nat),
    let x := s.xp n.val;
    let still := fun c ↦ ∀ (k : XpChange), c = some k → (s.ring k.ring).exec = none;
    x.queue.head? = some c ∧
      c.group = [n.val] ∧ s.changeReady n.val = true ∧ x.desc = some e ∧ c.desc = some d ∧ gainOnly d e = true ∧ still (some c)) ∧
  (∃ (s : State) (n : XpIx) (c : XpChange) (e : Nat × Nat),
    let x := s.xp n.val;
    let still := fun c ↦ ∀ (k : XpChange), c = some k → (s.ring k.ring).exec = none;
    x.queue.head? = some c ∧ c.group = [n.val] ∧ s.changeReady n.val = true ∧ x.desc = some e ∧ c.desc = none ∧ still (some c)) ∧
  (∃ (s : State) (n : XpIx) (c : XpChange) (d : Nat × Nat) (e : Exec),
    let x := s.xp n.val;
    x.queue.head? = some c ∧
      c.group = [n.val] ∧
        s.changeReady n.val = true ∧
          x.desc = none ∧
            c.desc = some d ∧
              (s.ring c.ring).exec = some e ∧
                e.seq = c.seq ∧ e.words.headD 0 % 256 = 7 ∧ bitOf (e.words.headD 0) 25 = false ∧ e.left = 1) ∧
  (∃ (s : State) (n : XpIx),
    let x := s.xp n.val;
    x.phase = XpPhase.fading ∧ x.desc.isSome = true ∧ 2 ^ x.fadeK ≤ x.pos ∧ (x.old.isSome = true → 2 ^ x.fadeK ≤ x.posOld)) ∧
  (∃ (s : State) (n : XpIx),
    let x := s.xp n.val;
    x.phase = XpPhase.fading ∧ x.desc = none ∧ (x.old.isSome = true → 2 ^ x.fadeK ≤ x.posOld)) ∧
  (∃ (s : State) (n : XpIx) (c : XpChange) (e : Exec),
    let x := s.xp n.val;
    x.phase = XpPhase.fading ∧
      x.desc.isSome = true ∧
        2 ^ x.fadeK ≤ x.pos ∧
          x.old = none ∧
            x.cur = some c ∧
              (s.ring c.ring).exec = some e ∧
                e.seq = c.seq ∧ e.words.headD 0 % 256 = 7 ∧ bitOf (e.words.headD 0) 25 = true ∧ e.left = 1) ∧
  (∃ (s : State) (n : XpIx) (d : Nat × Nat),
    let x := s.xp n.val;
    x.phase = XpPhase.zcWait ∧ x.desc = some d ∧ xpGmode d = 0 ∧ s.zcTicks x.dom (xpZcMs d) ≤ x.pos) ∧
  (∃ (s : State) (n : XpIx) (d : Nat × Nat),
    let x := s.xp n.val;
    x.phase = XpPhase.ramping ∧ x.desc = some d ∧ 2 ^ xpRampK d ≤ x.pos) :=
 ⟨⟨{ State.reset with
        xps := [(0,
            { Xp.reset with
              queue := [{ chg with queuedAt := 2, fadeK := 3, desc := some (0x4009820090, 0), dom := 1, group := [0] }] })] },
      0, { chg with queuedAt := 2, fadeK := 3, desc := some (0x4009820090, 0), dom := 1, group := [0] }, (0x4009820090, 0),
      by decide +kernel⟩,
  ⟨{ State.reset with
        xps := [(0,
            { Xp.reset with
              desc := some (0x4009820090, 0)
              queue := [{ chg with queuedAt := 2, fadeK := 3, desc := some (0x4009820091, 5), dom := 1, group := [0] }] })] },
      0, { chg with queuedAt := 2, fadeK := 3, desc := some (0x4009820091, 5), dom := 1, group := [0] }, (0x4009820091, 5),
      (0x4009820090, 0), by decide +kernel⟩,
  ⟨{ State.reset with
        xps := [(0,
            { Xp.reset with
              desc := some (0x4009820090, 0)
              queue := [{ chg with queuedAt := 2, fadeK := 3, desc := some (0x4009820090, 0), dom := 1, group := [0] }] })] },
      0, { chg with queuedAt := 2, fadeK := 3, desc := some (0x4009820090, 0), dom := 1, group := [0] }, (0x4009820090, 0),
      (0x4009820090, 0), by decide +kernel⟩,
  ⟨{ State.reset with
        xps := [(0,
            { Xp.reset with
              desc := some (0x4009820090, 0)
              queue := [{ chg with queuedAt := 2, fadeK := 3, dom := 1, group := [0] }] })] }, 0,
      { chg with queuedAt := 2, fadeK := 3, dom := 1, group := [0] }, (0x4009820090, 0), by decide +kernel⟩,
  ⟨{ State.reset with
        xps := [(0,
            { Xp.reset with
              queue := [{ chg with queuedAt := 2, fadeK := 3, desc := some (0x4009820090, 0), dom := 1, group := [0] }] })]
        rings := [(5,
            { Ring.reset with
              exec := some { run0 with seq := 3, words := [7], committed := true, startFrame := 5, left := 1, result := 77 } })] },
      0, { chg with queuedAt := 2, fadeK := 3, desc := some (0x4009820090, 0), dom := 1, group := [0] }, (0x4009820090, 0),
      { run0 with seq := 3, words := [7], committed := true, startFrame := 5, left := 1, result := 77 }, by decide +kernel⟩,
  ⟨{ State.reset with xps := [(0, { Xp.reset with desc := some (0, 0), phase := .fading, pos := 1 })] }, 0,
      by decide +kernel⟩,
  ⟨{ State.reset with xps := [(0, { Xp.reset with phase := .fading })] }, 0, by decide +kernel⟩,
  ⟨{ State.reset with
        xps := [(0,
            { Xp.reset with
              desc := some (0, 0)
              phase := .fading
              pos := 1
              cur := some { chg with queuedAt := 2, fadeK := 3, desc := some (0x4009820090, 0), dom := 1, group := [0] } })]
        rings := [(5,
            { Ring.reset with
              exec := some { run0 with
                seq := 3
                words := [0x2000007]
                committed := true
                startFrame := 5
                left := 1
                result := 77 } })] }, 0,
      { chg with queuedAt := 2, fadeK := 3, desc := some (0x4009820090, 0), dom := 1, group := [0] },
      { run0 with seq := 3, words := [0x2000007], committed := true, startFrame := 5, left := 1, result := 77 },
      by decide +kernel⟩,
  ⟨{ State.reset with xps := [(0, { Xp.reset with desc := some (0x4009820090, 0), phase := .zcWait, pos := 2048 })] }, 0,
      (0x4009820090, 0), by decide +kernel⟩,
  ⟨{ State.reset with xps := [(0, { Xp.reset with desc := some (0x4009820090, 0), phase := .ramping, pos := 1 })] }, 0,
      (0x4009820090, 0), by decide +kernel⟩⟩

/-- States and operands that meet the hypotheses of the clauses of `Obligations.CodexLoadIsTakenOrRefused`. -/
theorem witness_CodexLoadIsTakenOrRefused :
  (∃ (s : State) (r : RingIx) (ws : List Nat), TakesUp s r.val ws ∧ ws.headD 0 % 256 = 8 ∧ s.isHead = false) ∧
  (∃ (s : State) (r : RingIx) (ws : List Nat),
    let units := codexUnits ws;
    let known := decide (codexSrc ws ≠ 3) && decide (units ≠ 0);
    TakesUp s r.val ws ∧ ws.headD 0 % 256 = 8 ∧ s.isHead = true ∧ known = false) ∧
  (∃ (s : State) (r : RingIx) (ws : List Nat) (routing : Nat),
    let units := codexUnits ws;
    let busy := s.load.isSome || bitOf units 0 && s.routesBusy || (farUnits units).any (bitOf routing);
    let known := decide (codexSrc ws ≠ 3) && decide (units ≠ 0);
    TakesUp s r.val ws ∧ ws.headD 0 % 256 = 8 ∧ s.isHead = true ∧ known = true ∧ busy = true) ∧
  (∃ (s : State) (r : RingIx) (ws : List Nat) (routing : Nat),
    let units := codexUnits ws;
    let busy := s.load.isSome || bitOf units 0 && s.routesBusy || (farUnits units).any (bitOf routing);
    let gone := (bitList 16 units).any s.unitGone;
    let known := decide (codexSrc ws ≠ 3) && decide (units ≠ 0);
    TakesUp s r.val ws ∧ ws.headD 0 % 256 = 8 ∧ s.isHead = true ∧ known = true ∧ busy = false ∧ gone = true) ∧
  (∃ (s : State) (r : RingIx) (ws : List Nat) (routing : Nat),
    let units := codexUnits ws;
    let busy := s.load.isSome || bitOf units 0 && s.routesBusy || (farUnits units).any (bitOf routing);
    let gone := (bitList 16 units).any s.unitGone;
    let known := decide (codexSrc ws ≠ 3) && decide (units ≠ 0);
    TakesUp s r.val ws ∧
      ws.headD 0 % 256 = 8 ∧
        s.isHead = true ∧ known = true ∧ busy = false ∧ gone = false ∧ (s.codexSource (codexSrc ws)).1 = none) ∧
  (∃ (s : State) (r : RingIx) (ws : List Nat) (routing : Nat) (low : Nat) (k : TwoIx),
    let units := codexUnits ws;
    let busy := s.load.isSome || bitOf units 0 && s.routesBusy || (farUnits units).any (bitOf routing);
    let gone := (bitList 16 units).any s.unitGone;
    let known := decide (codexSrc ws ≠ 3) && decide (units ≠ 0);
    TakesUp s r.val ws ∧
      ws.headD 0 % 256 = 8 ∧
        s.isHead = true ∧
          known = true ∧
            busy = false ∧
              gone = false ∧
                (s.codexSource (codexSrc ws)).1 = some k.val ∧ (s.codexImage k.val units (codexKind ws) low).isSome = true) ∧
  (∃ (s : State) (r : RingIx) (ws : List Nat) (routing : Nat) (low : Nat) (k : TwoIx),
    let units := codexUnits ws;
    let busy := s.load.isSome || bitOf units 0 && s.routesBusy || (farUnits units).any (bitOf routing);
    let gone := (bitList 16 units).any s.unitGone;
    let known := decide (codexSrc ws ≠ 3) && decide (units ≠ 0);
    TakesUp s r.val ws ∧
      ws.headD 0 % 256 = 8 ∧
        s.isHead = true ∧
          known = true ∧
            busy = false ∧
              gone = false ∧ (s.codexSource (codexSrc ws)).1 = some k.val ∧ s.codexImage k.val units (codexKind ws) low = none) :=
 ⟨⟨{ st [(RING_CFG_EN 5, 1), (RING_CFG_BASE 5, 0x1000), (RING_STAT_STATE 5, 1), (MEM_BANK_STAT_STATE 6, 2)] with
        mem := cells 0xA08000 [8, 1, 1] ++ cells 0xA08004 [1]
        rings := [(5, { Ring.reset with ready := 2 })] }, 5, [0x100010108, 0],
      ⟨takesUp_of (by decide +kernel), by decide +kernel⟩⟩,
  ⟨{ st [(MEM_BANK_STAT_STATE 6, 2)] with
        mem := cells 0xAFE000 [8, 1, 1]
        rings := [(0, { Ring.reset with ready := 2 })]
        isHead := true }, 0, [0x10108, 0], ⟨takesUp_of (by decide +kernel), by decide +kernel⟩⟩,
  ⟨{ st [(RING_CFG_EN 5, 1), (RING_CFG_BASE 5, 0x1000), (RING_STAT_STATE 5, 1), (MEM_BANK_STAT_STATE 6, 2)] with
        mem := cells 0xA08000 [8, 1, 1] ++ cells 0xA08004 [1]
        rings := [(5, { Ring.reset with ready := 2 })]
        isHead := true
        load := some load0 }, 5, [0x100010108, 0], 0, ⟨takesUp_of (by decide +kernel), by decide +kernel⟩⟩,
  ⟨{ st [(MEM_BANK_STAT_STATE 6, 2)] with
        mem := cells 0xAFE000 [8, 1, 1] ++ cells 0xAFE004 [3]
        rings := [(0, { Ring.reset with ready := 2 })]
        isHead := true }, 0, [0x300010108, 0], 0, ⟨takesUp_of (by decide +kernel), by decide +kernel⟩⟩,
  ⟨{ st [(RING_CFG_EN 5, 1), (RING_CFG_BASE 5, 0x1000), (RING_STAT_STATE 5, 1), (MEM_BANK_STAT_STATE 6, 2)] with
        mem := cells 0xA08000 [8, 1, 1] ++ cells 0xA08004 [1]
        rings := [(5, { Ring.reset with ready := 2 })]
        isHead := true }, 5, [0x100010108, 0], 0, ⟨takesUp_of (by decide +kernel), by decide +kernel⟩⟩,
  ⟨{ st [(RING_CFG_EN 5, 1), (RING_CFG_BASE 5, 0x1000), (RING_STAT_STATE 5, 1), (CHN_STAT_PRESENT, 3),
          (CHN_PORT_STAT_STATE 1, 5), (MEM_BANK_STAT_STATE 6, 2)] with
        mem := cells 0xA08000 [8, 1, 1] ++ cells 0xA08004 [3]
        rings := [(5, { Ring.reset with ready := 2 })]
        isHead := true
        flash := image }, 5, [0x300010108, 0], 0, 3, 0, ⟨takesUp_of (by decide +kernel), by decide +kernel⟩⟩,
  ⟨{ st [(MEM_BANK_STAT_STATE 6, 2)] with
        mem := cells 0xAFE000 [8, 1, 1] ++ cells 0xAFE004 [1]
        rings := [(0, { Ring.reset with ready := 2 })]
        isHead := true
        flash := image }, 0, [0x100010108, 0], 0, 0, 0, ⟨takesUp_of (by decide +kernel), by decide +kernel⟩⟩⟩

/-- States and operands that meet the hypotheses of the clauses of `Obligations.FlashSlotsEraseWriteCommit`. -/
theorem witness_FlashSlotsEraseWriteCommit :
  (∃ (s : State) (r : RingIx) (ws : List Nat) (st : Nat),
    let w0 := ws.headD 0;
    let op := w0 % 256;
    let k := bits w0 16 1;
    TakesUp s r.val ws ∧ op = 11 ∧ s.slotStop k true = some st) ∧
  (∃ (s : State) (r : RingIx) (ws : List Nat),
    let w0 := ws.headD 0;
    let op := w0 % 256;
    let k := bits w0 16 1;
    TakesUp s r.val ws ∧ op = 11 ∧ s.slotStop k true = none) ∧
  (∃ (s : State) (r : RingIx) (ws : List Nat) (m : Nat),
    let w0 := ws.headD 0;
    let op := w0 % 256;
    let k := bits w0 16 1;
    TakesUp s r.val ws ∧ op = 11 ∧ s.slotStop k true = none ∧ m < 64) ∧
  (∃ (s : State) (r : RingIx) (ws : List Nat),
    let w0 := ws.headD 0;
    let op := w0 % 256;
    let n := bits w0 17 13;
    let a := bits w0 36 17;
    let off := bits (ws.getD 1 0) 0 22;
    let fits := decide (n ≠ 0) && decide (n ≤ 4096) && decide (off % 8 = 0) && decide (off + 8 * n ≤ slotBytes) &&
        decide (a + n ≤ 131072);
    TakesUp s r.val ws ∧ op = 12 ∧ fits = false) ∧
  (∃ (s : State) (r : RingIx) (ws : List Nat),
    let w0 := ws.headD 0;
    let op := w0 % 256;
    let k := bits w0 16 1;
    let n := bits w0 17 13;
    let a := bits w0 36 17;
    let off := bits (ws.getD 1 0) 0 22;
    let fits := decide (n ≠ 0) && decide (n ≤ 4096) && decide (off % 8 = 0) && decide (off + 8 * n ≤ slotBytes) &&
        decide (a + n ≤ 131072);
    let clean := (List.range n).all fun i ↦ s.mark (bankAddr 6 (a + i)) == 0;
    TakesUp s r.val ws ∧ op = 12 ∧ fits = true ∧ s.slotStop k true = none ∧ clean = true) ∧
  (∃ (s : State) (r : RingIx) (ws : List Nat),
    let w0 := ws.headD 0;
    let op := w0 % 256;
    let k := bits w0 16 1;
    TakesUp s r.val ws ∧ op = 13 ∧ bitOf w0 17 = false ∧ s.slotStop k true = none ∧ s.headerOk k = false) ∧
  (∃ (s : State) (r : RingIx) (ws : List Nat),
    let w0 := ws.headD 0;
    let op := w0 % 256;
    let k := bits w0 16 1;
    TakesUp s r.val ws ∧
      op = 13 ∧ bitOf w0 17 = false ∧ s.slotStop k true = none ∧ s.headerOk k = true ∧ s.imgCrcOk k = false) ∧
  (∃ (s : State) (r : RingIx) (ws : List Nat),
    let w0 := ws.headD 0;
    let op := w0 % 256;
    let k := bits w0 16 1;
    TakesUp s r.val ws ∧
      op = 13 ∧
        bitOf w0 17 = false ∧
          s.slotStop k true = none ∧ s.headerOk k = true ∧ s.imgCrcOk k = true ∧ s.flashWord k 8 = 2 ^ 64 - 1) ∧
  (∃ (s : State) (r : RingIx) (ws : List Nat),
    let w0 := ws.headD 0;
    let op := w0 % 256;
    let k := bits w0 16 1;
    TakesUp s r.val ws ∧ op = 13 ∧ bitOf w0 17 = true ∧ s.slotStop k false = none) :=
 ⟨⟨{ st [(RING_CFG_EN 5, 1), (RING_CFG_BASE 5, 0x1000), (RING_STAT_STATE 5, 1), (MEM_BANK_STAT_STATE 6, 2)] with
        mem := cells 0xA08000 [0xB]
        rings := [(5, { Ring.reset with ready := 1 })]
        isHead := true
        load := some load0 }, 5, [11], 7, ⟨takesUp_of (by decide +kernel), by decide +kernel⟩⟩,
  ⟨{ st [(MEM_BANK_STAT_STATE 6, 2)] with
        mem := cells 0xAFE000 [0xB]
        rings := [(0, { Ring.reset with ready := 1 })]
        isHead := true }, 0, [11], ⟨takesUp_of (by decide +kernel), by decide +kernel⟩⟩,
  ⟨{ st [(MEM_BANK_STAT_STATE 6, 2)] with
        mem := cells 0xAFE000 [0xB]
        rings := [(0, { Ring.reset with ready := 1 })]
        isHead := true }, 0, [11], 0, ⟨takesUp_of (by decide +kernel), by decide +kernel⟩⟩,
  ⟨{ st [(MEM_BANK_STAT_STATE 6, 2)] with
        mem := cells 0xAFE000 [0xC, 1, 6] ++ cells 0xAFE006 [3] ++ cells 0xAFE008 [4]
        rings := [(0, { Ring.reset with ready := 2 })] }, 0, [0x300000006010C, 4],
      ⟨takesUp_of (by decide +kernel), by decide +kernel⟩⟩,
  ⟨{ st [(MEM_BANK_STAT_STATE 6, 2)] with
        mem := cells 0xAFE000 [0xC, 1, 6] ++ cells 0xAFE006 [3]
        rings := [(0, { Ring.reset with ready := 2 })]
        isHead := true }, 0, [0x300000006010C, 0], ⟨takesUp_of (by decide +kernel), by decide +kernel⟩⟩,
  ⟨{ st [(RING_CFG_EN 5, 1), (RING_CFG_BASE 5, 0x1000), (RING_STAT_STATE 5, 1), (MEM_BANK_STAT_STATE 6, 2)] with
        mem := cells 0xA08000 [0xD]
        rings := [(5, { Ring.reset with ready := 1 })]
        isHead := true }, 5, [13], ⟨takesUp_of (by decide +kernel), by decide +kernel⟩⟩,
  ⟨{ st [(MEM_BANK_STAT_STATE 6, 2)] with
        mem := cells 0xAFE000 [0xD] ++ cells 0xAFE002 [1]
        rings := [(0, { Ring.reset with ready := 1 })]
        isHead := true
        flash := cells 0x400000 [0x42, 0x5A, 0x4C, 0x43, 1, 0] ++ cells 0x400014 ([0xA0] ++
            List.replicate 8 0 ++ [1] ++ List.replicate 10 0 ++ [1] ++ List.replicate 89 0 ++
            [1, 0, 0x98] ++ List.replicate 27 0) }, 0, [0x1000D], ⟨takesUp_of (by decide +kernel), by decide +kernel⟩⟩,
  ⟨{ st [(RING_CFG_EN 5, 1), (RING_CFG_BASE 5, 0x1000), (RING_STAT_STATE 5, 1), (MEM_BANK_STAT_STATE 6, 2)] with
        mem := cells 0xA08000 [0xD]
        rings := [(5, { Ring.reset with ready := 1 })]
        isHead := true
        flash := cells 0 [0x42, 0x5A, 0x4C, 0x43, 1, 0, 0, 0] ++ cells 16 ([5, 0, 0, 0, 0xA0, 0, 0, 0, 0xA1, 0xD9, 0x4B, 0x65,
            0, 1] ++ List.replicate 10 0 ++ [1] ++ List.replicate 89 0 ++ [1, 0, 0x98] ++
            List.replicate 27 0) }, 5, [13], ⟨takesUp_of (by decide +kernel), by decide +kernel⟩⟩,
  ⟨{ st [(MEM_BANK_STAT_STATE 6, 2)] with
        mem := cells 0xAFE000 [0xD] ++ cells 0xAFE002 [2]
        rings := [(0, { Ring.reset with ready := 1 })]
        isHead := true }, 0, [0x2000D], ⟨takesUp_of (by decide +kernel), by decide +kernel⟩⟩⟩

/-- States and operands that meet the hypotheses of the clauses of `Obligations.StartUpAndDomainTicks`. -/
theorem witness_StartUpAndDomainTicks :
  (∃ (s : State) (c : Nat) (b : Bool), c < 8 ∧ s.rst = some (0, c, b)) ∧
  (∃ (s : State) (k : TwoIx), s.bootSlot = some k.val ∧ s.isHead = true ∧ s.get SYS_STAT_BOOT_STATE = 2 ∧ s.load = none ∧ s.plTo = none ∧ s.bootReady k.val = true) ∧
  (∃ (s : State), s.plTo ≠ none) ∧
  (∃ (s : State), s.awake = true) ∧
  (∃ (s : State), s.get PWR_STAT_STATE ≠ 3) ∧
  (∃ (s : State), s.awake = false) ∧
  (∃ (s : State), s.get PWR_STAT_STATE = 3) :=
 ⟨⟨{ State.reset with rst := some (0, (1, true)) }, 1, true, by decide +kernel⟩,
  ⟨{ st [(SYS_STAT_BOOT_STATE, 2)] with frame := 160, isHead := true, bootSlot := some 1 }, 1, by decide +kernel⟩,
  ⟨{ State.reset with plTo := some 3 }, by decide +kernel⟩,
  ⟨State.reset, by decide +kernel⟩,
  ⟨State.reset, by decide +kernel⟩,
  ⟨st [(PWR_STAT_STATE, 2)], by decide +kernel⟩,
  ⟨st [(PWR_STAT_STATE, 3)], by decide +kernel⟩⟩

/-- States and operands that meet the hypotheses of the clauses of `Obligations.ResetRequestsAndReleases`. -/
theorem witness_ResetRequestsAndReleases :
  (∃ (s : State), s.rst = none) ∧
  (∃ (s : State) (d : Nat) (c : Nat), s.rst = some (d, c, false) ∧ d ≠ 0) ∧
  (∃ (s : State) (v : Word), bits (BitVec.toNat v) 48 16 = 50085 ∧ bitOf (BitVec.toNat v) 0 = true ∧ s.awake = true ∧ s.rst = none) ∧
  (∃ (v : Word), bits (BitVec.toNat v) 48 16 ≠ 50085 ∨ bitOf (BitVec.toNat v) 0 = false) ∧
  (∃ (v : Word), bitOf (BitVec.toNat v) 0 = true) ∧
  (∃ (v : Word), bitOf (BitVec.toNat v) 0 = false) ∧
  (∃ (s : State) (r : RingIx) (ws : List Nat), TakesUp s r.val ws ∧ ws.headD 0 % 256 = 26 ∧ s.rst = none ∧ bits (ws.headD 0) 16 2 = 1) ∧
  (∃ (s : State) (r : RingIx) (ws : List Nat), TakesUp s r.val ws ∧ ws.headD 0 % 256 = 26 ∧ s.rst = none ∧ bits (ws.headD 0) 16 2 = 2) ∧
  (∃ (s : State) (r : RingIx) (ws : List Nat), TakesUp s r.val ws ∧ ws.headD 0 % 256 = 26 ∧ s.rst = none ∧ (bits (ws.headD 0) 16 2 = 0 ∨ bits (ws.headD 0) 16 2 = 3)) ∧
  (∃ (s : State) (d : Nat) (c : Nat), (d = 1 ∨ d = 2) ∧ c < 8 ∧ s.rst = some (d, c, false) ∧ s.plTo = none) :=
 ⟨⟨State.reset, by decide +kernel⟩,
  ⟨{ State.reset with rst := some (1, (2, false)) }, 1, 2, by decide +kernel⟩,
  ⟨State.reset, 0xC3A5000000000001, by decide +kernel⟩,
  ⟨0x0, by decide +kernel⟩,
  ⟨0x4D, by decide +kernel⟩,
  ⟨0x0, by decide +kernel⟩,
  ⟨{ st [(MEM_BANK_STAT_STATE 6, 2)] with
        mem := cells 0xAFE000 [0x1A] ++ cells 0xAFE002 [1]
        rings := [(0, { Ring.reset with ready := 1 })] }, 0, [0x1001A], ⟨takesUp_of (by decide +kernel), by decide +kernel⟩⟩,
  ⟨{ st [(MEM_BANK_STAT_STATE 6, 2)] with
        mem := cells 0xAFE000 [0x1A] ++ cells 0xAFE002 [2]
        rings := [(0, { Ring.reset with ready := 1 })] }, 0, [0x2001A], ⟨takesUp_of (by decide +kernel), by decide +kernel⟩⟩,
  ⟨{ st [(MEM_BANK_STAT_STATE 6, 2)] with mem := cells 0xAFE000 [0x1A], rings := [(0, { Ring.reset with ready := 1 })] }, 0,
      [26], ⟨takesUp_of (by decide +kernel), by decide +kernel⟩⟩,
  ⟨{ State.reset with rst := some (1, (2, false)) }, 1, 2, by decide +kernel⟩⟩

/-- States and operands that meet the hypotheses of the clauses of `Obligations.RegisterWritesAndReadsClear`. -/
theorem witness_RegisterWritesAndReadsClear :
  (∃ (s : State) (a : Nat) (x : RegRow),
    let plain := decide (a / 4096 = 3601) || decide (a / 4096 = 3586) && decide (a ≠ 14688264) ||
          decide (a / 4096 = 3600) && decide (a ≠ 14745640) ||
        decide (a / 4096 = 3598) && decide (a ≠ 14737440);
    a % 8 = 0 ∧
      plain = true ∧
        rowAt a = some x ∧ (x.acc = Access.rw ∨ x.acc = Access.rws ∨ x.acc = Access.rwl ∧ s.on SYS_LOCK_LOCK = false)) ∧
  (∃ (a : Nat) (x : RegRow),
    let plain := decide (a / 4096 = 3601) || decide (a / 4096 = 3586) && decide (a ≠ 14688264) ||
          decide (a / 4096 = 3600) && decide (a ≠ 14745640) ||
        decide (a / 4096 = 3598) && decide (a ≠ 14737440);
    a % 8 = 0 ∧ plain = true ∧ rowAt a = some x ∧ x.acc = Access.w1c) ∧
  (∃ (s : State) (a : Nat) (x : RegRow),
    let plain := decide (a / 4096 = 3601) || decide (a / 4096 = 3586) && decide (a ≠ 14688264) ||
          decide (a / 4096 = 3600) && decide (a ≠ 14745640) ||
        decide (a / 4096 = 3598) && decide (a ≠ 14737440);
    a % 8 = 0 ∧
      plain = true ∧
        rowAt a = some x ∧
          (x.acc = Access.ro ∨ x.acc = Access.rc ∨ x.acc = Access.wo ∨ x.acc = Access.rwl ∧ s.on SYS_LOCK_LOCK = true)) ∧
  (∃ (a : Nat),
    let plain := decide (a / 4096 = 3601) || decide (a / 4096 = 3586) && decide (a ≠ 14688264) ||
          decide (a / 4096 = 3600) && decide (a ≠ 14745640) ||
        decide (a / 4096 = 3598) && decide (a ≠ 14737440);
    a % 8 = 0 ∧ plain = true ∧ rowAt a = none) ∧
  (∃ (a : Nat), a % 8 = 0) ∧
  (∃ (s : State) (a : Nat) (x : RegRow) (w : Nat), a % 8 = 0 ∧ rowAt a = some x ∧ s.busSnap = some (a, w)) :=
 ⟨⟨State.reset, 0xE11000, (rowAt 0xE11000).get (by decide), by decide +kernel⟩,
  ⟨0xE02028, (rowAt 0xE02028).get (by decide), by decide +kernel⟩,
  ⟨State.reset, 0xE11010, (rowAt 0xE11010).get (by decide), by decide +kernel⟩,
  ⟨0xE02030, by decide +kernel⟩,
  ⟨0, by decide +kernel⟩,
  ⟨{ State.reset with busSnap := some (0xE11000, 0x123450060700) }, 0xE11000, (rowAt 0xE11000).get (by decide),
      0x123450060700, by decide +kernel⟩⟩

/-- States and operands that meet the hypotheses of the clauses of `Obligations.FabricMemoryWrites`. -/
theorem witness_FabricMemoryWrites :
  (∃ (s : State) (a : Nat),
    let tile := a / 4096;
    a < 4194304 ∧ a % 8 = 0 ∧ s.loadCovers tile = false ∧ (1536 ≤ a % 4096 ∨ s.get (FAB_TILE_STAT_STATE tile) ≠ 2)) ∧
  (∃ (s : State) (a : Nat),
    let tile := a / 4096;
    a < 4194304 ∧ a % 8 = 0 ∧ s.loadCovers tile = false ∧ a % 4096 < 1536 ∧ s.get (FAB_TILE_STAT_STATE tile) = 2) ∧
  (∃ (s : State) (a : Nat), 12582912 ≤ a ∧ a < 14680064 ∧ a % 8 = 0 ∧ s.loadCovers ((a - 12582912) / 2048) = false) ∧
  (∃ (s : State) (a : Nat), (a < 4194304 ∨ 12582912 ≤ a ∧ a < 14680064) ∧ mapGet 0 s.wb (a / 8) = 1 ∧ s.mark a = 1) ∧
  (∃ (s : State) (v : Word),
    let pt := bits (BitVec.toNat v) 0 10;
    let q := s.shelfQueue (pt / 64);
    s.loadCovers pt = false ∧ q.length < 64) ∧
  (∃ (s : State) (v : Word),
    let pt := bits (BitVec.toNat v) 0 10;
    let q := s.shelfQueue (pt / 64);
    s.loadCovers pt = false ∧ 64 ≤ q.length) ∧
  (∃ (s : State),
    let t := s.get FAB_TILE_SEL_TILE;
    s.get (FAB_TILE_STAT_STATE t) = 2) ∧
  (∃ (s : State),
    let t := s.get FAB_TILE_SEL_TILE;
    s.get (FAB_TILE_STAT_STATE t) = 1) ∧
  (∃ (s : State),
    let t := s.get FAB_TILE_SEL_TILE;
    s.get (FAB_TILE_STAT_STATE t) = 3) :=
 ⟨⟨State.reset, 0, by decide +kernel⟩,
  ⟨st [(FAB_TILE_STAT_STATE 0, 2)], 0, by decide +kernel⟩,
  ⟨State.reset, 0xC00008, by decide +kernel⟩,
  ⟨{ State.reset with ecc := [(705, 1)], wb := [(705, 1)] }, 0x1608, by decide +kernel⟩,
  ⟨State.reset, 0x0, by decide +kernel⟩,
  ⟨{ State.reset with
        paramq := [(0, List.replicate 64 { tile := 3, idx := 5, val := 0x0000000000000007#64, cmd := none })] }, 0x0,
      by decide +kernel⟩,
  ⟨st [(FAB_TILE_STAT_STATE 0, 2)], by decide +kernel⟩,
  ⟨st [(FAB_TILE_STAT_STATE 0, 1)], by decide +kernel⟩,
  ⟨st [(FAB_TILE_STAT_STATE 0, 3)], by decide +kernel⟩⟩

/-- States and operands that meet the hypotheses of the clauses of `Obligations.CalibrationsRunAndInstall`. -/
theorem witness_CalibrationsRunAndInstall :
  (∃ (s : State) (r : RingIx) (ws : List Nat),
    let t := calArg ws;
    TakesUp s r.val ws ∧ ws.headD 0 % 256 = 14 ∧ t ≠ 0 ∧ t ∉ calTargets) ∧
  (∃ (s : State) (r : RingIx) (ws : List Nat),
    let t := calArg ws;
    TakesUp s r.val ws ∧ ws.headD 0 % 256 = 14 ∧ t ∈ calTargets ∧ s.cals = [] ∧ s.calOk t = false) ∧
  (∃ (s : State) (r : RingIx) (ws : List Nat),
    let t := calArg ws;
    TakesUp s r.val ws ∧ ws.headD 0 % 256 = 14 ∧ t ∈ calTargets ∧ s.cals = [] ∧ s.calOk t = true) ∧
  (∃ (s : State) (r : RingIx) (ws : List Nat),
    let t := calArg ws;
    let todo := List.dropWhile (fun k ↦ !s.calOk k) calTargets;
    TakesUp s r.val ws ∧ ws.headD 0 % 256 = 14 ∧ t = 0 ∧ s.cals = [] ∧ todo = []) ∧
  (∃ (s : State) (r : RingIx) (ws : List Nat),
    let t := calArg ws;
    let todo := List.dropWhile (fun k ↦ !s.calOk k) calTargets;
    TakesUp s r.val ws ∧ ws.headD 0 % 256 = 14 ∧ t = 0 ∧ s.cals = [] ∧ todo ≠ []) ∧
  (∃ (s : State) (r : RingIx) (ws : List Nat),
    let t := calArg ws;
    TakesUp s r.val ws ∧ ws.headD 0 % 256 = 14 ∧ (t = 0 ∨ t ∈ calTargets) ∧ s.cals ≠ []) ∧
  (∃ (s : State) (r : RingIx) (t : Nat) (e : Exec) (o : Int) (g : Int),
    let stage := decide (16 ≤ t) && decide (t < 32);
    s.cals = [{ ring := some r.val, all := false, todo := [t], saved := [] }] ∧
      t ∈ calTargets ∧
        (s.ring r.val).exec = some e ∧
          (t = 32 → s.on HKA_STAT_BUSY = false) ∧ o.natAbs ≤ 125829 ∧ (stage = true ∨ 1017119 ≤ g ∧ g ≤ 1080033)) ∧
  (∃ (s : State) (r : RingIx) (t : Nat) (e : Exec) (o : Int), s.cals = [{ ring := some r.val, all := false, todo := [t], saved := [] }] ∧
      t ∈ calTargets ∧ (s.ring r.val).exec = some e ∧ (t = 32 → s.on HKA_STAT_BUSY = false) ∧ 125829 < o) ∧
  (∃ (s : State) (r : RingIx) (t : Nat) (e : Exec) (g : Int),
    let stage := decide (16 ≤ t) && decide (t < 32);
    s.cals = [{ ring := some r.val, all := false, todo := [t], saved := [] }] ∧
      t ∈ calTargets ∧ (s.ring r.val).exec = some e ∧ (t = 32 → s.on HKA_STAT_BUSY = false) ∧ stage = false ∧ g < 1017119) ∧
  (∃ (s : State) (t : Nat) (o : Int), s.cals = [] ∧ s.calAtStart t = true ∧ o.natAbs ≤ 125829) ∧
  (∃ (s : State), s.on CUR_CTL_CAL_EN = true ∧
      s.get PWR_STAT_STATE = 0 ∧
        max 1 (s.get CUR_CTL_CAL_PERIOD) ≤ s.get (CUR_CAL_VAL_AGE 32) ∧ s.cals = [] ∧ s.calOk 32 = true) ∧
  (∃ (s : State), s.on CUR_CTL_CAL_EN = false ∨ s.get PWR_STAT_STATE ≠ 0) :=
 ⟨⟨{ st [(MEM_BANK_STAT_STATE 6, 2)] with
        mem := cells 0xAFE000 [0xE] ++ cells 0xAFE002 [7]
        rings := [(0, { Ring.reset with ready := 1 })] }, 0, [0x7000E], ⟨takesUp_of (by decide +kernel), by decide +kernel⟩⟩,
  ⟨{ st [(RING_CFG_EN 5, 1), (RING_CFG_BASE 5, 0x1000), (RING_STAT_STATE 5, 1), (HKA_STAT_REF_BAD, 1),
          (MEM_BANK_STAT_STATE 6, 2)] with
        mem := cells 0xA08000 [0xE] ++ cells 0xA08002 [1]
        rings := [(5, { Ring.reset with ready := 1 })] }, 5, [0x1000E], ⟨takesUp_of (by decide +kernel), by decide +kernel⟩⟩,
  ⟨{ st [(MEM_BANK_STAT_STATE 6, 2)] with
        mem := cells 0xAFE000 [0xE] ++ cells 0xAFE002 [1]
        rings := [(0, { Ring.reset with ready := 1 })] }, 0, [0x1000E], ⟨takesUp_of (by decide +kernel), by decide +kernel⟩⟩,
  ⟨{ st [(RING_CFG_EN 5, 1), (RING_CFG_BASE 5, 0x1000), (RING_STAT_STATE 5, 1), (HPO_STAT_CP_STATE, 3),
          (SPK_PVDD_STAT_UV, 1), (HKA_STAT_REF_BAD, 1), (MEM_BANK_STAT_STATE 6, 2)] with
        mem := cells 0xA08000 [0xE]
        rings := [(5, { Ring.reset with ready := 1 })] }, 5, [14], ⟨takesUp_of (by decide +kernel), by decide +kernel⟩⟩,
  ⟨{ st [(MEM_BANK_STAT_STATE 6, 2)] with mem := cells 0xAFE000 [0xE], rings := [(0, { Ring.reset with ready := 1 })] }, 0,
      [14], ⟨takesUp_of (by decide +kernel), by decide +kernel⟩⟩,
  ⟨{ st [(RING_CFG_EN 5, 1), (RING_CFG_BASE 5, 0x1000), (RING_STAT_STATE 5, 1), (MEM_BANK_STAT_STATE 6, 2)] with
        mem := cells 0xA08000 [0xE]
        rings := [(5, { Ring.reset with ready := 1 })]
        cals := [{ ring := some 5, all := false, todo := [1], saved := [] }] }, 5, [14],
      ⟨takesUp_of (by decide +kernel), by decide +kernel⟩⟩,
  ⟨{ State.reset with
        rings := [(5,
            { Ring.reset with
              exec := some { run0 with seq := 3, words := [14], committed := true, startFrame := 5, left := 1, result := 77 } })]
        cals := [{ ring := some 5, all := false, todo := [1], saved := [] }] }, 5, 1,
      { run0 with seq := 3, words := [14], committed := true, startFrame := 5, left := 1, result := 77 }, 0, 1048576,
      by decide +kernel⟩,
  ⟨{ State.reset with
        rings := [(5,
            { Ring.reset with
              exec := some { run0 with seq := 3, words := [14], committed := true, startFrame := 5, left := 1, result := 77 } })]
        cals := [{ ring := some 5, all := false, todo := [1], saved := [] }] }, 5, 1,
      { run0 with seq := 3, words := [14], committed := true, startFrame := 5, left := 1, result := 77 }, 125830,
      by decide +kernel⟩,
  ⟨{ State.reset with
        rings := [(5,
            { Ring.reset with
              exec := some { run0 with seq := 3, words := [14], committed := true, startFrame := 5, left := 1, result := 77 } })]
        cals := [{ ring := some 5, all := false, todo := [1], saved := [] }] }, 5, 1,
      { run0 with seq := 3, words := [14], committed := true, startFrame := 5, left := 1, result := 77 }, 0,
      by decide +kernel⟩,
  ⟨st [(AIN_STAT_STATE 0, 1)], 1, 0, by decide +kernel⟩,
  ⟨st [(CUR_CAL_VAL_AGE 32, 300)], by decide +kernel⟩,
  ⟨st [(CUR_CTL_CAL_EN, 0)], by decide +kernel⟩⟩

/-- States and operands that meet the hypotheses of the clauses of `Obligations.ConversionsScansAndTach`. -/
theorem witness_ConversionsScansAndTach :
  (∃ (s : State) (c : SixteenIx),
    let free := s.hkaConv = [] ∧ s.hkaScan = [] ∧ s.on HKA_STAT_BUSY = false ∧ s.calibrating 32 = false;
    s.awake = true ∧ free ∧ c ≠ 3) ∧
  (∃ (s : State) (c : SixteenIx), s.awake = true ∧ s.on HKA_STAT_BUSY = true ∧ s.hkaConv.contains c.val = false) ∧
  (∃ (s : State) (c : SixteenIx) (p : Nat),
    let free := s.hkaConv = [] ∧ s.hkaScan = [] ∧ s.on HKA_STAT_BUSY = false ∧ s.calibrating 32 = false;
    s.awake = true ∧ free ∧ c = 3 ∧ s.tachLast = some p) ∧
  (∃ (s : State) (c : SixteenIx),
    let free := s.hkaConv = [] ∧ s.hkaScan = [] ∧ s.on HKA_STAT_BUSY = false ∧ s.calibrating 32 = false;
    s.get PWR_STAT_STATE = 0 ∧
      free ∧ s.bit HKA_SCAN_EN_EN c.val = true ∧ c ≠ 3 ∧ ∀ (k : SixteenIx), k.val < c.val → s.bit HKA_SCAN_EN_EN k.val = false) ∧
  (∃ (s : State), s.get PWR_STAT_STATE = 0 ∧ s.hkaScan ≠ []) ∧
  (∃ (s : State), s.get PWR_STAT_STATE ≠ 0) ∧
  (∃ (s : State) (c : SixteenIx), s.on HKA_STAT_BUSY = true ∧ s.get HKA_STAT_CUR_CH = c.val) ∧
  (∃ (s : State), s.awake = true) ∧
  (∃ (s : State), s.awake = true ∧ s.tachLost = false) :=
 ⟨⟨State.reset, 0, by decide +kernel⟩,
  ⟨st [(SPK_IMP_Z12 60, 1)], 0, by decide +kernel⟩,
  ⟨{ State.reset with tachLast := some 0x1869F }, 3, 0x1869F, by decide +kernel⟩,
  ⟨st [(SPK_STAT_STATE 60, 1)], 0, by decide +kernel⟩,
  ⟨{ State.reset with hkaScan := [6] }, by decide +kernel⟩,
  ⟨st [(PWR_STAT_STATE, 1)], by decide +kernel⟩,
  ⟨st [(SPK_IMP_Z12 60, 1)], 0, by decide +kernel⟩,
  ⟨State.reset, by decide +kernel⟩,
  ⟨State.reset, by decide +kernel⟩⟩

/-- States and operands that meet the hypotheses of the clauses of `Obligations.CuratorScrubsAndTelemetry`. -/
theorem witness_CuratorScrubsAndTelemetry :
  (∃ (s : State) (b : EightIx) (x : Nat),
    let w := mapGet 0 s.scrubBank b.val;
    let a := bankAddr b.val w;
    s.on CUR_CTL_SCRUB_EN = true ∧
      s.get PWR_STAT_STATE = 0 ∧
        s.bankUp b.val = true ∧
          w < 131072 ∧ (b.val = 5 → w < 114688 ∨ 122880 ≤ w) ∧ x ≤ 2 ∧ s.mark a ≤ x ∧ mapGet 0 s.curUsed b.val < s.curCap) ∧
  (∃ (s : State) (b : EightIx) (x : Nat),
    let w := mapGet 0 s.scrubBank b.val;
    let a := bankAddr b.val w;
    s.on CUR_CTL_SCRUB_EN = true ∧
      s.get PWR_STAT_STATE = 0 ∧
        s.bankUp b.val = true ∧
          w < 131072 ∧
            (b.val = 5 → w < 114688 ∨ 122880 ≤ w) ∧
              x ≤ 2 ∧ s.mark a ≤ x ∧ s.curCap ≤ mapGet 0 s.curUsed b.val ∧ bitOf s.curHalt b.val = false) ∧
  (∃ (s : State) (x : Nat), s.on CUR_CTL_SCRUB_EN = true ∧ s.get PWR_STAT_STATE = 0 ∧ x ≤ 2 ∧ s.ecc = []) ∧
  (∃ (s : State), s.on CUR_CTL_SCRUB_EN = false ∨ s.get PWR_STAT_STATE ≠ 0) ∧
  (∃ (s : State) (a : Nat),
    let b := (a - 4194304) / 1048576;
    let bank := decide (4194304 ≤ a) && decide (a < 12582912);
    mapGet 0 s.wb (a / 8) = 2 ∧ s.mark a = 1 ∧ s.awake = true ∧ (bank = false ∨ mapGet 0 s.curUsed b < s.curCap)) ∧
  (∃ (s : State) (a : Nat),
    let b := (a - 4194304) / 1048576;
    let bank := decide (4194304 ≤ a) && decide (a < 12582912);
    mapGet 0 s.wb (a / 8) = 2 ∧ s.mark a = 1 ∧ s.awake = true ∧ bank = true ∧ s.curCap ≤ mapGet 0 s.curUsed b) ∧
  (∃ (s : State),
    let q := s.get CUR_TEL_CFG_RING;
    s.on CUR_CTL_TEL_EN = true ∧ s.awake = true ∧ s.ringIs q 2 = true) ∧
  (∃ (s : State),
    let q := s.get CUR_TEL_CFG_RING;
    let kinds := List.filter (fun k ↦ s.bit CUR_TEL_CFG_KINDS k) [0, 1];
    s.on CUR_CTL_TEL_EN = true ∧ s.awake = true ∧ s.ringIs q 2 = false ∧ kinds ≠ []) :=
 ⟨⟨st [(MEM_BANK_STAT_STATE 0, 2)], 0, 0, by decide +kernel⟩,
  ⟨{ st [(MEM_BANK_STAT_STATE 1, 3)] with curUsed := [(1, 20)] }, 1, 0, by decide +kernel⟩,
  ⟨State.reset, 0, by decide +kernel⟩,
  ⟨st [(CUR_CTL_SCRUB_EN, 0)], by decide +kernel⟩,
  ⟨{ State.reset with ecc := [(705, 1)], wb := [(705, 2)] }, 0x1608, by decide +kernel⟩,
  ⟨{ State.reset with ecc := [(0x80002, 1)], wb := [(0x80002, 2)], curUsed := [(0, 20)] }, 0x400010, by decide +kernel⟩,
  ⟨st [(CUR_CTL_TEL_EN, 1)], by decide +kernel⟩,
  ⟨st [(CUR_CTL_TEL_EN, 1), (CUR_TEL_CFG_RING, 0)], by decide +kernel⟩⟩

/-- States and operands that meet the hypotheses of the clauses of `Obligations.BanksReleaseTestAndRetire`. -/
theorem witness_BanksReleaseTestAndRetire :
  (∃ (s : State) (b : EightIx) (region : Nat) (r : RingIx) (ws : List Nat), TakesUp s r.val ws ∧
      ws.headD 0 % 256 = 15 ∧ bits (ws.headD 0) 16 3 = b.val ∧ bits (ws.headD 0) 32 11 = region ∧ s.bankUp b.val = false) ∧
  (∃ (s : State) (b : EightIx) (region : Nat) (r : RingIx) (ws : List Nat), TakesUp s r.val ws ∧
      ws.headD 0 % 256 = 15 ∧
        bits (ws.headD 0) 16 3 = b.val ∧ bits (ws.headD 0) 32 11 = region ∧ s.bankUp b.val = true ∧ mapFind s.tests b.val = none) ∧
  (∃ (s : State) (b : EightIx) (region : Nat) (r : RingIx) (ws : List Nat), TakesUp s r.val ws ∧
      ws.headD 0 % 256 = 15 ∧
        bits (ws.headD 0) 16 3 = b.val ∧
          bits (ws.headD 0) 32 11 = region ∧ s.bankUp b.val = true ∧ (mapFind s.tests b.val).isSome = true) ∧
  (∃ (s : State) (b : EightIx) (region : Nat), s.on MEM_CTL_TEST_EN = true ∧
      s.awake = true ∧
        s.bankUp b.val = true ∧
          mapFind s.tests b.val = none ∧
            region < 2048 ∧ (b.val, region) ∈ s.testq ∧ (s.testq.all fun p ↦ p.1 != b.val || p.2 == region) = true) ∧
  (∃ (s : State) (b : EightIx) (region : Nat), s.on MEM_CTL_TEST_EN = true ∧
      s.get PWR_STAT_STATE = 0 ∧
        s.bankUp b.val = true ∧ mapFind s.tests b.val = none ∧ region < 2048 ∧ (s.testq.all fun p ↦ p.1 != b.val) = true) ∧
  (∃ (s : State) (b : EightIx), s.on MEM_CTL_TEST_EN = false ∨ s.bankUp b.val = false) ∧
  (∃ (s : State) (b : EightIx) (region : Nat) (l : List Nat) (ring : Option Nat),
    let fails := List.filter (fun o ↦ l.contains o) (List.range 64);
    mapFind s.tests b.val = some { region := region, ring := ring } ∧ s.bankWaiter b.val = none ∧ region < 2048 ∧ fails = []) ∧
  (∃ (s : State) (b : EightIx) (region : Nat) (l : List Nat) (ring : Option Nat),
    let fails := List.filter (fun o ↦ l.contains o) (List.range 64);
    mapFind s.tests b.val = some { region := region, ring := ring } ∧
      s.bankWaiter b.val = none ∧ region < 2048 ∧ fails = [] ∧ ring = none) ∧
  (∃ (s : State) (b : EightIx) (region : Nat) (l : List Nat) (ring : Option Nat),
    let fails := List.filter (fun o ↦ l.contains o) (List.range 64);
    mapFind s.tests b.val = some { region := region, ring := ring } ∧
      s.bankWaiter b.val = none ∧ region < 2048 ∧ fails ≠ [] ∧ s.get (MEM_BANK_STAT_SPARES b.val) < 8) ∧
  (∃ (s : State) (b : EightIx) (region : Nat) (l : List Nat) (ring : Option Nat),
    let fails := List.filter (fun o ↦ l.contains o) (List.range 64);
    mapFind s.tests b.val = some { region := region, ring := ring } ∧
      s.bankWaiter b.val = none ∧ region < 2048 ∧ fails ≠ [] ∧ 8 ≤ s.get (MEM_BANK_STAT_SPARES b.val)) ∧
  (∃ (s : State) (b : EightIx), s.get (MEM_BANK_STAT_STATE b.val) = 1 ∧ (b = 6 → (s.ring 0).exec = none) ∧ mapFind s.canary b.val = none) ∧
  (∃ (s : State) (b : EightIx) (ok : Bool),
    let bad := s.marked b.val 0 131072 2;
    s.get (MEM_BANK_STAT_STATE b.val) = 1 ∧
      (b = 6 → (s.ring 0).exec = none) ∧ mapFind s.canary b.val = some (s.get PWR_SEQ_SLEEP_SEQ) ∧ ok = true ∧ bad = []) ∧
  (∃ (s : State) (b : EightIx) (ok : Bool),
    let bad := s.marked b.val 0 131072 2;
    s.get (MEM_BANK_STAT_STATE b.val) = 1 ∧
      (b = 6 → (s.ring 0).exec = none) ∧
        (mapFind s.canary b.val).isSome = true ∧ (mapFind s.canary b.val ≠ some (s.get PWR_SEQ_SLEEP_SEQ) ∨ ok = false ∨ bad ≠ [])) ∧
  (∃ (s : State) (b : EightIx), s.get (MEM_BANK_STAT_STATE b.val) ≠ 1) :=
 ⟨⟨{ st [(RING_CFG_EN 5, 1), (RING_CFG_BASE 5, 0x1000), (RING_STAT_STATE 5, 1), (MEM_BANK_STAT_STATE 6, 2)] with
        mem := cells 0xA08000 [0xF]
        rings := [(5, { Ring.reset with ready := 1 })] }, 0, 0, 5, [15], ⟨takesUp_of (by decide +kernel), by decide +kernel⟩⟩,
  ⟨{ st [(MEM_BANK_STAT_STATE 0, 2), (MEM_BANK_STAT_STATE 6, 2)] with
        mem := cells 0xAFE000 [0xF]
        rings := [(0, { Ring.reset with ready := 1 })] }, 0, 0, 0, [15], ⟨takesUp_of (by decide +kernel), by decide +kernel⟩⟩,
  ⟨{ st [(RING_CFG_EN 5, 1), (RING_CFG_BASE 5, 0x1000), (RING_STAT_STATE 5, 1), (MEM_BANK_STAT_STATE 1, 2),
          (MEM_BANK_STAT_STATE 6, 2)] with
        mem := cells 0xA08000 [0xF] ++ cells 0xA08002 [1]
        rings := [(5, { Ring.reset with ready := 1 })]
        tests := [(1, { region := 3, ring := none })] }, 1, 0, 5, [0x1000F],
      ⟨takesUp_of (by decide +kernel), by decide +kernel⟩⟩,
  ⟨{ st [(MEM_BANK_STAT_STATE 0, 2)] with testq := [(0, 8)] }, 0, 8, by decide +kernel⟩,
  ⟨st [(MEM_BANK_STAT_STATE 0, 2)], 0, 0, by decide +kernel⟩,
  ⟨State.reset, 0, by decide +kernel⟩,
  ⟨{ State.reset with tests := [(1, { region := 3, ring := none })] }, 1, 3, [], none, by decide +kernel⟩,
  ⟨{ State.reset with tests := [(1, { region := 3, ring := none })] }, 1, 3, [], none, by decide +kernel⟩,
  ⟨{ State.reset with tests := [(1, { region := 3, ring := none })] }, 1, 3, [0], none, by decide +kernel⟩,
  ⟨{ st [(MEM_BANK_STAT_SPARES 0, 8)] with tests := [(0, { region := 3, ring := none })] }, 0, 3, [0], none,
      by decide +kernel⟩,
  ⟨st [(MEM_BANK_STAT_STATE 0, 1)], 0, by decide +kernel⟩,
  ⟨{ st [(MEM_BANK_STAT_STATE 0, 1)] with canary := [(0, 0)] }, 0, true, by decide +kernel⟩,
  ⟨{ st [(MEM_BANK_STAT_STATE 0, 1)] with canary := [(0, 0)] }, 0, false, by decide +kernel⟩,
  ⟨State.reset, 0, by decide +kernel⟩⟩

/-- States and operands that meet the hypotheses of the clauses of `Obligations.AnnalsFlushAndFreeze`. -/
theorem witness_AnnalsFlushAndFreeze :
  (∃ (s : State) (r : RingIx) (ws : List Nat),
    let op := ws.headD 0 % 256;
    TakesUp s r.val ws ∧ op = 18 ∧ s.on NVS_STAT_FLUSHING = false ∧ s.on NVS_STAT_FROZEN = false) ∧
  (∃ (s : State) (r : RingIx) (ws : List Nat),
    let op := ws.headD 0 % 256;
    TakesUp s r.val ws ∧ op = 18 ∧ (s.on NVS_STAT_FLUSHING = true ∨ s.on NVS_STAT_FROZEN = true)) ∧
  (∃ (s : State), s.on NVS_STAT_FLUSHING = false ∧ s.on NVS_STAT_FROZEN = false) ∧
  (∃ (s : State), s.on NVS_STAT_FLUSHING = true ∨ s.on NVS_STAT_FROZEN = true) ∧
  (∃ (s : State),
    let a := s.annals;
    let n := a.buf.length;
    s.on NVS_STAT_FLUSHING = true ∧
      s.on NVS_STAT_READ_ONLY = false ∧
        4 ≤ s.get NVS_STAT_RING_SECTORS ∧
          s.get NVS_STAT_RING_SECTORS ≤ 60 ∧ s.get NVS_RING_STAT_NEXT < s.ringSlots ∧ n ≤ s.ringSlots ∧ a.flushReq = false) ∧
  (∃ (s : State), s.on NVS_STAT_FLUSHING = false) ∧
  (∃ (s : State) (r : RingIx) (ws : List Nat),
    let op := ws.headD 0 % 256;
    TakesUp s r.val ws ∧ op = 19 ∧ bitOf (ws.headD 0) 16 = true) ∧
  (∃ (s : State) (r : RingIx) (ws : List Nat),
    let op := ws.headD 0 % 256;
    let a := s.annals;
    TakesUp s r.val ws ∧ op = 19 ∧ bitOf (ws.headD 0) 16 = false ∧ (a.drops = 0 ∨ s.on NVS_STAT_FROZEN = false)) ∧
  (∃ (s : State) (r : RingIx) (ws : List Nat),
    let op := ws.headD 0 % 256;
    TakesUp s r.val ws ∧ op = 19 ∧ bitOf (ws.headD 0) 16 = false ∧ s.on NVS_STAT_FROZEN = true) ∧
  (∃ (s : State), s.on NVS_STAT_FROZEN = true) ∧
  (∃ (s : State), s.on NVS_STAT_FROZEN = false) :=
 ⟨⟨{ st [(MEM_BANK_STAT_STATE 6, 2)] with mem := cells 0xAFE000 [0x12], rings := [(0, { Ring.reset with ready := 1 })] }, 0,
      [18], ⟨takesUp_of (by decide +kernel), by decide +kernel⟩⟩,
  ⟨{ st [(MEM_BANK_STAT_STATE 6, 2), (NVS_STAT_FLUSHING, 1)] with
        mem := cells 0xAFE000 [0x12]
        rings := [(0, { Ring.reset with ready := 1 })] }, 0, [18], ⟨takesUp_of (by decide +kernel), by decide +kernel⟩⟩,
  ⟨State.reset, by decide +kernel⟩,
  ⟨st [(NVS_STAT_FLUSHING, 1)], by decide +kernel⟩,
  ⟨st [(NVS_STAT_FLUSHING, 1)], by decide +kernel⟩,
  ⟨State.reset, by decide +kernel⟩,
  ⟨{ st [(MEM_BANK_STAT_STATE 6, 2)] with
        mem := cells 0xAFE000 [0x13] ++ cells 0xAFE002 [1]
        rings := [(0, { Ring.reset with ready := 1 })] }, 0, [0x10013], ⟨takesUp_of (by decide +kernel), by decide +kernel⟩⟩,
  ⟨{ st [(MEM_BANK_STAT_STATE 6, 2)] with mem := cells 0xAFE000 [0x13], rings := [(0, { Ring.reset with ready := 1 })] }, 0,
      [19], ⟨takesUp_of (by decide +kernel), by decide +kernel⟩⟩,
  ⟨{ st [(MEM_BANK_STAT_STATE 6, 2), (NVS_STAT_FROZEN, 1)] with
        mem := cells 0xAFE000 [0x13]
        rings := [(0, { Ring.reset with ready := 1 })] }, 0, [19], ⟨takesUp_of (by decide +kernel), by decide +kernel⟩⟩,
  ⟨st [(NVS_STAT_FROZEN, 1)], by decide +kernel⟩,
  ⟨State.reset, by decide +kernel⟩⟩

/-- States and operands that meet the hypotheses of the clauses of `Obligations.NvsReadsWritesClearsAndMoves`. -/
theorem witness_NvsReadsWritesClearsAndMoves :
  (∃ (s : State) (r : RingIx) (ws : List Nat),
    let op := ws.headD 0 % 256;
    let n := (nvsArgs ws).1;
    let from_ := (nvsArgs ws).2.1;
    let dst := (nvsArgs ws).2.2;
    TakesUp s r.val ws ∧ op = 16 ∧ (n = 0 ∨ 4096 < n ∨ from_ % 8 ≠ 0 ∨ 131072 < dst + n ∨ 294912 < from_ + 8 * n)) ∧
  (∃ (s : State) (r : RingIx) (ws : List Nat),
    let op := ws.headD 0 % 256;
    let n := (nvsArgs ws).1;
    let from_ := (nvsArgs ws).2.1;
    let dst := (nvsArgs ws).2.2;
    let c := s.cplRing r.val;
    let tail := s.get (RING_TAIL_TAIL c);
    let apart := fun w ↦ w < dst ∨ dst + n ≤ w;
    TakesUp s r.val ws ∧
      op = 16 ∧
        nvsArgsOk ws = true ∧ from_ + 8 * n ≤ 294912 ∧ apart (s.ringWord c tail) ∧ apart (s.ringWord c ((tail + 1) % 65536))) ∧
  (∃ (s : State) (r : RingIx) (ws : List Nat),
    let op := ws.headD 0 % 256;
    TakesUp s r.val ws ∧ op = 17 ∧ nvsArgsOk ws = false) ∧
  (∃ (s : State) (r : RingIx) (ws : List Nat),
    let op := ws.headD 0 % 256;
    let n := (nvsArgs ws).1;
    let from_ := (nvsArgs ws).2.1;
    TakesUp s r.val ws ∧ op = 17 ∧ nvsArgsOk ws = true ∧ (from_ < 3072 ∨ 4096 < from_ + 8 * n)) ∧
  (∃ (s : State) (r : RingIx) (ws : List Nat),
    let op := ws.headD 0 % 256;
    let n := (nvsArgs ws).1;
    let from_ := (nvsArgs ws).2.1;
    let dst := (nvsArgs ws).2.2;
    TakesUp s r.val ws ∧
      op = 17 ∧ nvsArgsOk ws = true ∧ 3072 ≤ from_ ∧ from_ + 8 * n ≤ 4096 ∧ ∀ i < n, s.mark (bankAddr 6 (dst + i)) ≠ 2) ∧
  (∃ (s : State) (r : RingIx) (ws : List Nat) (st : Nat),
    let op := ws.headD 0 % 256;
    TakesUp s r.val ws ∧ s.keyStop = some st ∧ op = 20) ∧
  (∃ (s : State) (r : RingIx) (ws : List Nat) (st : Nat),
    let op := ws.headD 0 % 256;
    TakesUp s r.val ws ∧ s.keyStop = some st ∧ op = 21) ∧
  (∃ (s : State) (r : RingIx) (ws : List Nat),
    let op := ws.headD 0 % 256;
    TakesUp s r.val ws ∧
      s.keyStop = none ∧ s.keyUnset = false ∧ s.clearKey ≠ ws.getD 1 0 ∧ s.get NVS_STAT_KEY_TRIES ≤ 2 ∧ op = 20) ∧
  (∃ (s : State) (r : RingIx) (ws : List Nat),
    let op := ws.headD 0 % 256;
    TakesUp s r.val ws ∧
      s.keyStop = none ∧ s.keyUnset = false ∧ s.clearKey ≠ ws.getD 1 0 ∧ s.get NVS_STAT_KEY_TRIES ≤ 2 ∧ op = 21) ∧
  (∃ (s : State) (r : RingIx) (ws : List Nat),
    let op := ws.headD 0 % 256;
    TakesUp s r.val ws ∧ op = 20 ∧ s.keyStop = none ∧ s.keyUnset = false ∧ s.clearKey = ws.getD 1 0) ∧
  (∃ (s : State) (r : RingIx) (ws : List Nat),
    let copies := s.sectorsWhere fun v ↦ v.2.2 == 0;
    let op := ws.headD 0 % 256;
    TakesUp s r.val ws ∧ op = 21 ∧ s.keyStop = none ∧ (s.keyUnset = true ∨ s.clearKey = ws.getD 1 0) ∧ copies ≠ []) ∧
  (∃ (s : State) (x : Nat) (y : Nat) (l : Nat), s.on NVS_STAT_FLUSHING = false ∧
      (s.sectorsWhere fun v ↦ v.1 == 4) = [x] ∧
        s.sector x = (4, l, 2) ∧ (s.sectorsWhere fun v ↦ v.1 == 3).head? = some y ∧ s.get NVS_STAT_SPARES_LEFT ≠ 0) ∧
  (∃ (s : State), s.on NVS_STAT_FLUSHING = true ∨ (s.sectorsWhere fun v ↦ v.1 == 4) = []) :=
 ⟨⟨{ st [(MEM_BANK_STAT_STATE 6, 2)] with
        mem := cells 0xAFE000 [0x10, 1] ++ cells 0xAFE009 [0x30]
        rings := [(0, { Ring.reset with ready := 2 })] }, 0, [272, 0x3000],
      ⟨takesUp_of (by decide +kernel), by decide +kernel⟩⟩,
  ⟨{ st [(MEM_BANK_STAT_STATE 6, 2)] with
        mem := cells 0xAFE000 [0x10, 1, 3] ++ cells 0xAFE005 [0x40] ++ cells 0xAFE009 [0x30]
        rings := [(0, { Ring.reset with ready := 2 })] }, 0, [0x400000030110, 0x3000],
      ⟨takesUp_of (by decide +kernel), by decide +kernel⟩⟩,
  ⟨{ st [(MEM_BANK_STAT_STATE 6, 2)] with
        mem := cells 0xAFE000 [0x11, 1, 3] ++ cells 0xAFE004 [1, 0xC] ++ cells 0xAFE009 [0x30]
        rings := [(0, { Ring.reset with ready := 2 })] }, 0, [0xC0100030111, 0x3000],
      ⟨takesUp_of (by decide +kernel), by decide +kernel⟩⟩,
  ⟨{ st [(MEM_BANK_STAT_STATE 6, 2)] with
        mem := cells 0xAFE000 [0x11, 1, 3] ++ cells 0xAFE004 [0xF0, 0xF] ++ cells 0xAFE009 [0x30]
        rings := [(0, { Ring.reset with ready := 2 })] }, 0, [0xFF000030111, 0x3000],
      ⟨takesUp_of (by decide +kernel), by decide +kernel⟩⟩,
  ⟨{ st [(MEM_BANK_STAT_STATE 6, 2)] with
        mem := cells 0xAFE000 [0x11, 1, 3] ++ cells 0xAFE005 [0xC] ++ cells 0xAFE009 [0x30]
        rings := [(0, { Ring.reset with ready := 2 })] }, 0, [0xC0000030111, 0x3000],
      ⟨takesUp_of (by decide +kernel), by decide +kernel⟩⟩,
  ⟨{ st [(RING_CFG_EN 5, 1), (RING_CFG_BASE 5, 0x1000), (RING_STAT_STATE 5, 1), (MEM_BANK_STAT_STATE 6, 2),
          (NVS_STAT_KEY_LOCK, 1)] with
        mem := cells 0xA08000 [0x14, 1]
        rings := [(5, { Ring.reset with ready := 2 })] }, 5, [276, 0], 8, ⟨takesUp_of (by decide +kernel), by decide +kernel⟩⟩,
  ⟨{ st [(RING_CFG_EN 5, 1), (RING_CFG_BASE 5, 0x1000), (RING_STAT_STATE 5, 1), (MEM_BANK_STAT_STATE 6, 2),
          (NVS_STAT_KEY_LOCK, 1)] with
        mem := cells 0xA08000 [0x15, 2] ++ cells 0xA08008 [7] ++ cells 0xA08010 [8]
        rings := [(5, { Ring.reset with ready := 3 })] }, 5, [533, 7, 8], 8,
      ⟨takesUp_of (by decide +kernel), by decide +kernel⟩⟩,
  ⟨{ st [(MEM_BANK_STAT_STATE 6, 2)] with
        mem := cells 0xAFE000 [0x14, 1]
        rings := [(0, { Ring.reset with ready := 2 })]
        nvs := cells 512 [7] }, 0, [276, 0], ⟨takesUp_of (by decide +kernel), by decide +kernel⟩⟩,
  ⟨{ st [(MEM_BANK_STAT_STATE 6, 2)] with
        mem := cells 0xAFE000 [0x15, 2] ++ cells 0xAFE010 [9]
        rings := [(0, { Ring.reset with ready := 3 })]
        nvs := cells 512 [7] }, 0, [533, 0, 9], ⟨takesUp_of (by decide +kernel), by decide +kernel⟩⟩,
  ⟨{ st [(MEM_BANK_STAT_STATE 6, 2)] with
        mem := cells 0xAFE000 [0x14, 1] ++ cells 0xAFE008 [7]
        rings := [(0, { Ring.reset with ready := 2 })]
        nvs := cells 512 [7] }, 0, [276, 7], ⟨takesUp_of (by decide +kernel), by decide +kernel⟩⟩,
  ⟨{ st [(MEM_BANK_STAT_STATE 6, 2)] with
        mem := cells 0xAFE000 [0x15, 2] ++ cells 0xAFE008 [7] ++ cells 0xAFE010 [8]
        rings := [(0, { Ring.reset with ready := 3 })]
        nvs := cells 512 [7] }, 0, [533, 7, 8], ⟨takesUp_of (by decide +kernel), by decide +kernel⟩⟩,
  ⟨{ State.reset with sectors := [(8, (4, (4, 2)))] }, 8, 64, 4, by decide +kernel⟩,
  ⟨State.reset, by decide +kernel⟩⟩

/-- States and operands that meet the hypotheses of the clauses of `Obligations.HostBusGroups`. -/
theorem witness_HostBusGroups :
  (∃ (s : State), s.busAlive = false) ∧
  (∃ (s : State) (addr : Nat),
    let a := addr % 2 ^ 24;
    let bank := decide (4194304 ≤ a) && decide (a < 12582912);
    let good := bank || a % 8 == 0;
    s.busAlive = true ∧ good = false) ∧
  (∃ (s : State) (addr : Nat),
    let a := addr % 2 ^ 24;
    let bank := decide (4194304 ≤ a) && decide (a < 12582912);
    let good := bank || a % 8 == 0;
    s.busAlive = true ∧ good = true ∧ s.reachable a = false ∧ s.busAwake = false) ∧
  (∃ (s : State) (addr : Nat),
    let a := addr % 2 ^ 24;
    let bank := decide (4194304 ≤ a) && decide (a < 12582912);
    let good := bank || a % 8 == 0;
    s.busAlive = true ∧ good = true ∧ s.reachable a = false ∧ s.busAwake = true) ∧
  (∃ (s : State) (addr : Nat),
    let a := addr % 2 ^ 24;
    let bank := decide (4194304 ≤ a) && decide (a < 12582912);
    let good := bank || a % 8 == 0;
    let refused := s.resetRefuses a;
    s.busAlive = true ∧ good = true ∧ s.reachable a = true ∧ refused = true) ∧
  (∃ (s : State) (addr : Nat),
    let a := addr % 2 ^ 24;
    let bank := decide (4194304 ≤ a) && decide (a < 12582912);
    let good := bank || a % 8 == 0;
    let refused := s.resetRefuses a;
    s.busAlive = true ∧ (good = false ∨ s.reachable a = false ∨ refused = true)) ∧
  (∃ (s : State) (addr : Nat),
    let a := addr % 2 ^ 24;
    let bank := decide (4194304 ≤ a) && decide (a < 12582912);
    let good := bank || a % 8 == 0;
    let refused := s.resetRefuses a;
    let waits := s.groupWaits a;
    s.busAlive = true ∧ good = true ∧ s.reachable a = true ∧ refused = false ∧ waits = true) ∧
  (∃ (s : State) (addr : Nat),
    let a := addr % 2 ^ 24;
    let bank := decide (4194304 ≤ a) && decide (a < 12582912);
    let good := bank || a % 8 == 0;
    let refused := s.resetRefuses a;
    let waits := s.groupWaits a;
    let takes := s.busAlive = true ∧ good = true ∧ s.reachable a = true ∧ refused = false ∧ waits = false;
    takes ∧ a < 4194304 ∧ s.loadCovers (a / 4096) = false ∧ 1536 ≤ a % 4096) ∧
  (∃ (s : State) (addr : Nat),
    let a := addr % 2 ^ 24;
    let b := (a - 4194304) / 1048576;
    let bank := decide (4194304 ≤ a) && decide (a < 12582912);
    let good := bank || a % 8 == 0;
    let refused := s.resetRefuses a;
    let waits := s.groupWaits a;
    let takes := s.busAlive = true ∧ good = true ∧ s.reachable a = true ∧ refused = false ∧ waits = false;
    takes ∧ bank = true ∧ b ≠ 5 ∧ b ≠ 7 ∧ s.bankUp b = true ∧ a % 8 = 0) ∧
  (∃ (s : State) (addr : Nat),
    let a := addr % 2 ^ 24;
    let b := (a - 4194304) / 1048576;
    let bank := decide (4194304 ≤ a) && decide (a < 12582912);
    let good := bank || a % 8 == 0;
    let refused := s.resetRefuses a;
    let waits := s.groupWaits a;
    let takes := s.busAlive = true ∧ good = true ∧ s.reachable a = true ∧ refused = false ∧ waits = false;
    takes ∧
      bank = true ∧ b < 4 ∧ s.bankUp b = true ∧ s.bankUp (b + 1) = true ∧ a % 8 ≠ 0 ∧ s.mark a ≠ 2 ∧ s.mark (a + 8) ≠ 2) ∧
  (∃ (s : State) (addr : Nat),
    let a := addr % 2 ^ 24;
    let b := (a - 4194304) / 1048576;
    let bank := decide (4194304 ≤ a) && decide (a < 12582912);
    let good := bank || a % 8 == 0;
    let refused := s.resetRefuses a;
    let waits := s.groupWaits a;
    let takes := s.busAlive = true ∧ good = true ∧ s.reachable a = true ∧ refused = false ∧ waits = false;
    takes ∧ bank = true ∧ b ≠ 5 ∧ b ≠ 7 ∧ s.bankUp b = true ∧ (a % 8 = 0 ∨ (a + 7 - 4194304) / 1048576 = b)) ∧
  (∃ (s : State) (addr : Nat),
    let a := addr % 2 ^ 24;
    let bank := decide (4194304 ≤ a) && decide (a < 12582912);
    let good := bank || a % 8 == 0;
    let refused := s.resetRefuses a;
    let waits := s.groupWaits a;
    let takes := s.busAlive = true ∧ good = true ∧ s.reachable a = true ∧ refused = false ∧ waits = false;
    takes ∧ (a < 4194304 ∨ 12582912 ≤ a ∧ a < 14680064)) ∧
  (∃ (s : State) (addr : Nat) (x : RegRow),
    let a := addr % 2 ^ 24;
    let bank := decide (4194304 ≤ a) && decide (a < 12582912);
    let good := bank || a % 8 == 0;
    let refused := s.resetRefuses a;
    let waits := s.groupWaits a;
    let takes := s.busAlive = true ∧ good = true ∧ s.reachable a = true ∧ refused = false ∧ waits = false;
    takes ∧ a / 4096 = 3601 ∧ a ≠ 14749752 ∧ rowAt a = some x ∧ x.acc ≠ Access.wo) ∧
  (∃ (s : State) (addr : Nat) (x : RegRow),
    let a := addr % 2 ^ 24;
    let bank := decide (4194304 ≤ a) && decide (a < 12582912);
    let good := bank || a % 8 == 0;
    let refused := s.resetRefuses a;
    let waits := s.groupWaits a;
    let takes := s.busAlive = true ∧ good = true ∧ s.reachable a = true ∧ refused = false ∧ waits = false;
    takes ∧ a / 4096 = 3601 ∧ rowAt a = some x ∧ x.acc = Access.rw) :=
 ⟨⟨st [(PWR_STAT_STATE, 3)], by decide +kernel⟩,
  ⟨State.reset, 3, by decide +kernel⟩,
  ⟨st [(PWR_STAT_STATE, 2)], 0, by decide +kernel⟩,
  ⟨{ st [(PWR_STAT_STATE, 2)] with busAwake := true }, 0, by decide +kernel⟩,
  ⟨{ State.reset with rst := some (1, (2, false)) }, 0, by decide +kernel⟩,
  ⟨State.reset, 3, by decide +kernel⟩,
  ⟨State.reset, 0x400000, by decide +kernel⟩,
  ⟨State.reset, 0x1001608, by decide +kernel⟩,
  ⟨st [(MEM_BANK_STAT_STATE 0, 2)], 0x400000, by decide +kernel⟩,
  ⟨st [(MEM_BANK_STAT_STATE 0, 2), (MEM_BANK_STAT_STATE 1, 2)], 0x400003, by decide +kernel⟩,
  ⟨st [(MEM_BANK_STAT_STATE 0, 2)], 0x400000, by decide +kernel⟩,
  ⟨State.reset, 0, by decide +kernel⟩,
  ⟨State.reset, 0xE11000, (rowAt 0xE11000).get (by decide), by decide +kernel⟩,
  ⟨State.reset, 0xE11000, (rowAt 0xE11000).get (by decide), by decide +kernel⟩⟩

/-- States and operands that meet the hypotheses of the clauses of `Obligations.HostBusEndsAlertsAndWakes`. -/
theorem witness_HostBusEndsAlertsAndWakes :
  (∃ (s : State), s.get TWB_CFG_TIMEOUT = 0) ∧
  (∃ (s : State), s.get TWB_CFG_TIMEOUT ≠ 0) ∧
  (∃ (s : State), s.unanswered = 0) ∧
  (∃ (s : State), s.unanswered ≠ 0) ∧
  (∃ (s : State) (flag : Bool), s.get PWR_STAT_STATE = 3 ∧ (flag = true ∨ s.unanswered ≠ 0)) ∧
  (∃ (s : State) (flag : Bool), s.get PWR_STAT_STATE ≠ 3 ∨ flag = false ∧ s.unanswered = 0) ∧
  (∃ (s : State), s.get PWR_STAT_STATE = 3 ∧ s.on TWB_STAT_BUSY = false ∧ (s.on TWB_CFG_DORMANT_WAKE = false ∨ s.wakeReq = none)) ∧
  (∃ (s : State), s.get PWR_STAT_STATE ≠ 3 ∨ s.on TWB_STAT_BUSY = true ∨ s.on TWB_CFG_DORMANT_WAKE = true ∧ s.wakeReq ≠ none) :=
 ⟨⟨st [(TWB_CFG_TIMEOUT, 0)], by decide +kernel⟩,
  ⟨State.reset, by decide +kernel⟩,
  ⟨State.reset, by decide +kernel⟩,
  ⟨st [(TWB_ALERT_STAT_SRC, 1)], by decide +kernel⟩,
  ⟨st [(PWR_STAT_STATE, 3)], true, by decide +kernel⟩,
  ⟨State.reset, true, by decide +kernel⟩,
  ⟨st [(PWR_STAT_STATE, 3)], by decide +kernel⟩,
  ⟨State.reset, by decide +kernel⟩⟩

/-- States and operands that meet the hypotheses of the clauses of `Obligations.AuxiliaryBusTransfers`. -/
theorem witness_AuxiliaryBusTransfers :
  (∃ (s : State) (r : RingIx) (ws : List Nat),
    let op := ws.headD 0 % 256;
    let from_ := auxBuf ws;
    let dst := from_ + ceilDiv (auxWlen ws) 8;
    let fits := dst + ceilDiv (auxRlen ws) 8 ≤ 131072;
    TakesUp s r.val ws ∧ op = 24 ∧ ¬fits) ∧
  (∃ (s : State) (r : RingIx) (ws : List Nat),
    let op := ws.headD 0 % 256;
    let from_ := auxBuf ws;
    let dst := from_ + ceilDiv (auxWlen ws) 8;
    let fits := dst + ceilDiv (auxRlen ws) 8 ≤ 131072;
    let clean := ∀ j < ceilDiv (auxWlen ws) 8, s.mark (bankAddr 6 (from_ + j)) ≠ 2;
    TakesUp s r.val ws ∧ op = 24 ∧ fits ∧ ¬clean) ∧
  (∃ (s : State) (r : RingIx) (ws : List Nat),
    let op := ws.headD 0 % 256;
    let from_ := auxBuf ws;
    let dst := from_ + ceilDiv (auxWlen ws) 8;
    let fits := dst + ceilDiv (auxRlen ws) 8 ≤ 131072;
    let clean := ∀ j < ceilDiv (auxWlen ws) 8, s.mark (bankAddr 6 (from_ + j)) ≠ 2;
    TakesUp s r.val ws ∧ op = 24 ∧ fits ∧ clean ∧ s.auxq ≠ [] ∧ s.auxq.head? ≠ some r.val) ∧
  (∃ (s : State) (r : RingIx) (ws : List Nat) (read : List Nat),
    let op := ws.headD 0 % 256;
    let from_ := auxBuf ws;
    let dst := from_ + ceilDiv (auxWlen ws) 8;
    let fits := dst + ceilDiv (auxRlen ws) 8 ≤ 131072;
    let clean := ∀ j < ceilDiv (auxWlen ws) 8, s.mark (bankAddr 6 (from_ + j)) ≠ 2;
    let c := s.cplRing r.val;
    let tail := s.get (RING_TAIL_TAIL c);
    let apart := fun w ↦ w < dst ∨ dst + ceilDiv (auxRlen ws) 8 ≤ w;
    TakesUp s r.val ws ∧
      op = 24 ∧
        fits ∧
          clean ∧
            s.auxq = [] ∧ read.length = auxRlen ws ∧ apart (s.ringWord c tail) ∧ apart (s.ringWord c ((tail + 1) % 65536))) ∧
  (∃ (s : State) (r : RingIx) (ws : List Nat) (i : Nat),
    let op := ws.headD 0 % 256;
    let from_ := auxBuf ws;
    let dst := from_ + ceilDiv (auxWlen ws) 8;
    let fits := dst + ceilDiv (auxRlen ws) 8 ≤ 131072;
    let clean := ∀ j < ceilDiv (auxWlen ws) 8, s.mark (bankAddr 6 (from_ + j)) ≠ 2;
    TakesUp s r.val ws ∧ op = 24 ∧ fits ∧ clean ∧ s.auxq = [] ∧ i ≤ auxWlen ws) ∧
  (∃ (s : State) (r : RingIx) (ws : List Nat) (i : Nat) (k : Nat),
    let op := ws.headD 0 % 256;
    let from_ := auxBuf ws;
    let dst := from_ + ceilDiv (auxWlen ws) 8;
    let fits := dst + ceilDiv (auxRlen ws) 8 ≤ 131072;
    let clean := ∀ j < ceilDiv (auxWlen ws) 8, s.mark (bankAddr 6 (from_ + j)) ≠ 2;
    TakesUp s r.val ws ∧ op = 24 ∧ fits ∧ clean ∧ s.auxq = [] ∧ i ≤ auxWlen ws ∧ k ≤ 7 ∧ s.get TWB_AUX_CFG_ARB_RETRY = 0) ∧
  (∃ (s : State) (r : RingIx) (ws : List Nat) (i : Nat) (k : Nat),
    let op := ws.headD 0 % 256;
    let from_ := auxBuf ws;
    let dst := from_ + ceilDiv (auxWlen ws) 8;
    let fits := dst + ceilDiv (auxRlen ws) 8 ≤ 131072;
    let clean := ∀ j < ceilDiv (auxWlen ws) 8, s.mark (bankAddr 6 (from_ + j)) ≠ 2;
    TakesUp s r.val ws ∧ op = 24 ∧ fits ∧ clean ∧ s.auxq = [] ∧ i ≤ auxWlen ws ∧ k ≤ 7 ∧ s.get TWB_AUX_CFG_ARB_RETRY ≠ 0) ∧
  (∃ (s : State) (r : RingIx) (ws : List Nat),
    let op := ws.headD 0 % 256;
    let from_ := auxBuf ws;
    let dst := from_ + ceilDiv (auxWlen ws) 8;
    let fits := dst + ceilDiv (auxRlen ws) 8 ≤ 131072;
    let clean := ∀ j < ceilDiv (auxWlen ws) 8, s.mark (bankAddr 6 (from_ + j)) ≠ 2;
    TakesUp s r.val ws ∧ op = 24 ∧ fits ∧ clean ∧ s.auxq = []) ∧
  (∃ (s : State) (r : RingIx) (ws : List Nat) (k : Nat),
    let op := ws.headD 0 % 256;
    TakesUp s r.val ws ∧ op = 25 ∧ s.auxq = [] ∧ k ≤ 9) ∧
  (∃ (s : State) (r : RingIx) (ws : List Nat),
    let op := ws.headD 0 % 256;
    TakesUp s r.val ws ∧ op = 25 ∧ s.auxq = []) ∧
  (∃ (s : State) (r : RingIx) (ws : List Nat),
    let op := ws.headD 0 % 256;
    TakesUp s r.val ws ∧ op = 25 ∧ s.auxq ≠ [] ∧ s.auxq.head? ≠ some r.val) :=
 ⟨⟨{ st [(MEM_BANK_STAT_STATE 6, 2)] with
        mem := cells 0xAFE000 [0x18, 1, 0x22, 9, 0x30] ++ cells 0xAFE008 [0xFF, 0xFF, 1]
        rings := [(0, { Ring.reset with ready := 2 })] }, 0, [0x3009220118, 0x1FFFF],
      ⟨takesUp_of (by decide +kernel), by decide +kernel⟩⟩,
  ⟨{ st [(RING_CFG_EN 5, 1), (RING_CFG_BASE 5, 0x1000), (RING_STAT_STATE 5, 1), (MEM_BANK_STAT_STATE 6, 2)] with
        mem := cells 0xA08000 [0x18, 1, 0x22, 9, 0xA0] ++ cells 0xA08009 [0x30]
        ecc := [(0x143001, 2)]
        rings := [(5, { Ring.reset with ready := 2 })] }, 5, [0xA009220118, 0x3000],
      ⟨takesUp_of (by decide +kernel), by decide +kernel⟩⟩,
  ⟨{ st [(RING_CFG_EN 5, 1), (RING_CFG_BASE 5, 0x1000), (RING_STAT_STATE 5, 1), (MEM_BANK_STAT_STATE 6, 2)] with
        mem := cells 0xA08000 [0x18, 1, 0x22, 3] ++ cells 0xA08009 [0x30]
        rings := [(5, { Ring.reset with ready := 2 })]
        auxq := [7] }, 5, [0x3220118, 0x3000], ⟨takesUp_of (by decide +kernel), by decide +kernel⟩⟩,
  ⟨{ st [(MEM_BANK_STAT_STATE 6, 2)] with
        mem := cells 0xAFE000 [0x18, 1, 0x22, 3] ++ cells 0xAFE009 [0x30]
        rings := [(0, { Ring.reset with ready := 2 })] }, 0, [0x3220118, 0x3000], [],
      ⟨takesUp_of (by decide +kernel), by decide +kernel⟩⟩,
  ⟨{ st [(MEM_BANK_STAT_STATE 6, 2)] with
        mem := cells 0xAFE000 [0x18, 1, 0x22, 3] ++ cells 0xAFE009 [0x30]
        rings := [(0, { Ring.reset with ready := 2 })] }, 0, [0x3220118, 0x3000], 0,
      ⟨takesUp_of (by decide +kernel), by decide +kernel⟩⟩,
  ⟨{ st [(MEM_BANK_STAT_STATE 6, 2)] with
        mem := cells 0xAFE000 [0x18, 1, 0x22, 3] ++ cells 0xAFE009 [0x30]
        rings := [(0, { Ring.reset with ready := 2 })] }, 0, [0x3220118, 0x3000], 0, 0,
      ⟨takesUp_of (by decide +kernel), by decide +kernel⟩⟩,
  ⟨{ st [(RING_CFG_EN 5, 1), (RING_CFG_BASE 5, 0x1000), (RING_STAT_STATE 5, 1), (TWB_AUX_CFG_ARB_RETRY, 2),
          (MEM_BANK_STAT_STATE 6, 2)] with
        mem := cells 0xA08000 [0x18, 1, 0x22, 3] ++ cells 0xA08009 [0x30]
        rings := [(5, { Ring.reset with ready := 2 })] }, 5, [0x3220118, 0x3000], 0, 0,
      ⟨takesUp_of (by decide +kernel), by decide +kernel⟩⟩,
  ⟨{ st [(MEM_BANK_STAT_STATE 6, 2)] with
        mem := cells 0xAFE000 [0x18, 1, 0x22, 3] ++ cells 0xAFE009 [0x30]
        rings := [(0, { Ring.reset with ready := 2 })] }, 0, [0x3220118, 0x3000],
      ⟨takesUp_of (by decide +kernel), by decide +kernel⟩⟩,
  ⟨{ st [(MEM_BANK_STAT_STATE 6, 2)] with mem := cells 0xAFE000 [0x19], rings := [(0, { Ring.reset with ready := 1 })] }, 0,
      [25], 0, ⟨takesUp_of (by decide +kernel), by decide +kernel⟩⟩,
  ⟨{ st [(MEM_BANK_STAT_STATE 6, 2)] with mem := cells 0xAFE000 [0x19], rings := [(0, { Ring.reset with ready := 1 })] }, 0,
      [25], ⟨takesUp_of (by decide +kernel), by decide +kernel⟩⟩,
  ⟨{ st [(RING_CFG_EN 5, 1), (RING_CFG_BASE 5, 0x1000), (RING_STAT_STATE 5, 1), (MEM_BANK_STAT_STATE 6, 2)] with
        mem := cells 0xA08000 [0x19]
        rings := [(5, { Ring.reset with ready := 1 })]
        auxq := [7] }, 5, [25], ⟨takesUp_of (by decide +kernel), by decide +kernel⟩⟩⟩

/-- States and operands that meet the hypotheses of the clauses of `Obligations.PowerLevelsAndClockFailures`. -/
theorem witness_PowerLevelsAndClockFailures :
  (∃ (s : State) (v : Word),
    let t := BitVec.toNat v % 4;
    let idle := s.plTo = none ∧ s.awake = true;
    idle ∧ t < s.minPl) ∧
  (∃ (s : State) (v : Word),
    let cur := s.get PWR_STAT_CUR_PL;
    let t := BitVec.toNat v % 4;
    let idle := s.plTo = none ∧ s.awake = true;
    idle ∧ s.minPl ≤ t ∧ t = cur) ∧
  (∃ (s : State) (v : Word),
    let cur := s.get PWR_STAT_CUR_PL;
    let t := BitVec.toNat v % 4;
    let idle := s.plTo = none ∧ s.awake = true;
    idle ∧ s.minPl ≤ t ∧ cur < t) ∧
  (∃ (s : State) (v : Word),
    let cur := s.get PWR_STAT_CUR_PL;
    let t := BitVec.toNat v % 4;
    let idle := s.plTo = none ∧ s.awake = true;
    idle ∧ s.minPl ≤ t ∧ t < cur) ∧
  (∃ (s : State), s.plTo ≠ none ∨ s.awake = false) ∧
  (∃ (s : State), s.plTo = none) ∧
  (∃ (s : State) (t : Nat), s.plTo = some t ∧ s.plLate = false) ∧
  (∃ (s : State) (t : Nat), s.plTo = some t ∧ s.plLate = true ∧ s.plWait = none) ∧
  (∃ (s : State) (t : Nat),
    let cur := s.get PWR_STAT_CUR_PL;
    s.plTo = some t ∧ cur < t ∧ s.on PWR_STAT_PG = false ∧ s.plLate = false ∧ s.awake = true) ∧
  (∃ (s : State) (t : Nat),
    let cur := s.get PWR_STAT_CUR_PL;
    s.plTo = some t ∧ t < 4 ∧ (t < cur ∨ s.on PWR_STAT_PG = true ∧ s.plLate = false) ∧ s.plWait = none) ∧
  (∃ (s : State) (t : Nat),
    let cur := s.get PWR_STAT_CUR_PL;
    s.plTo = some t ∧ cur < t ∧ s.on PWR_STAT_PG = false) ∧
  (∃ (s : State), s.plTo = none ∧ s.awake = true) ∧
  (∃ (s : State), s.on PWR_STAT_XO_OK = true ∧ s.awake = true) ∧
  (∃ (s : State), s.on PWR_STAT_AON_SRC = false) ∧
  (∃ (s : State), s.on PWR_STAT_AON_SRC = true) :=
 ⟨⟨st [(FAB_STAT_MIN_PL, 2)], 0x0, by decide +kernel⟩,
  ⟨st [(PWR_STAT_CUR_PL, 0)], 0x0, by decide +kernel⟩,
  ⟨st [(PWR_STAT_CUR_PL, 0)], 0x1, by decide +kernel⟩,
  ⟨State.reset, 0x0, by decide +kernel⟩,
  ⟨{ State.reset with plTo := some 0 }, by decide +kernel⟩,
  ⟨State.reset, by decide +kernel⟩,
  ⟨{ State.reset with plTo := some 0 }, 0, by decide +kernel⟩,
  ⟨{ State.reset with plTo := some 0, plLate := true }, 0, by decide +kernel⟩,
  ⟨{ st [(PWR_STAT_CUR_PL, 0), (PWR_STAT_PG, 0)] with plTo := some 1 }, 1, by decide +kernel⟩,
  ⟨{ State.reset with plTo := some 0 }, 0, by decide +kernel⟩,
  ⟨{ st [(PWR_STAT_CUR_PL, 0), (PWR_STAT_PG, 0)] with plTo := some 1 }, 1, by decide +kernel⟩,
  ⟨State.reset, by decide +kernel⟩,
  ⟨State.reset, by decide +kernel⟩,
  ⟨State.reset, by decide +kernel⟩,
  ⟨st [(PWR_STAT_AON_SRC, 1)], by decide +kernel⟩⟩

/-- States and operands that meet the hypotheses of the clauses of `Obligations.SleepEntersAndLeaves`. -/
theorem witness_SleepEntersAndLeaves :
  (∃ (s : State) (e : Exec), (s.ring 0).exec = some e ∧
      e.words.headD 0 % 256 = 1 ∧
        waitMode e.words = 2 ∧ e.committed = false ∧ (e.mask = 2 ∨ e.mask = 3) ∧ s.sleepReady = true) ∧
  (∃ (s : State) (e : Exec), (s.ring 0).exec = some e ∧
      e.words.headD 0 % 256 = 1 ∧
        waitMode e.words = 2 ∧ e.committed = false ∧ (e.mask = 2 ∨ e.mask = 3) ∧ s.sleepReady = false) ∧
  (∃ (s : State) (e : Exec), (s.ring 0).exec = some e ∧
      e.words.headD 0 % 256 = 1 ∧
        waitMode e.words = 2 ∧ e.committed = false ∧ (e.mask = 2 ∨ e.mask = 3) ∧ s.sleepReady = false ∧ s.awake = true) ∧
  (∃ (s : State), (s.ring 0).exec = none) ∧
  (∃ (s : State),
    let st := s.get PWR_STAT_STATE;
    1 ≤ st ∧ st ≤ 4 ∧ s.wakeReq = none) ∧
  (∃ (s : State),
    let st := s.get PWR_STAT_STATE;
    st = 0 ∨ s.wakeReq ≠ none) ∧
  (∃ (s : State),
    let st := s.get PWR_STAT_STATE;
    1 ≤ st ∧ st ≤ 4 ∧ s.wakeReq = none ∧ s.on PWR_WAKE_EN_TIMER = true ∧ s.get PWR_TIMER_COUNT ≠ 0) ∧
  (∃ (s : State), s.on PWR_WAKE_EN_TIMER = false ∨ s.get PWR_TIMER_COUNT = 0) ∧
  (∃ (s : State) (cause : Nat),
    let st := s.get PWR_STAT_STATE;
    (st = 2 ∨ st = 3) ∧ s.wakeReq = some cause ∧ s.plTo = none ∧ s.plWait = none) ∧
  (∃ (s : State),
    let st := s.get PWR_STAT_STATE;
    s.wakeReq = none ∨ st ≠ 2 ∧ st ≠ 3) ∧
  (∃ (s : State) (e : Exec), (s.ring 0).exec = some e ∧
      e.words.headD 0 % 256 = 1 ∧
        waitMode e.words = 2 ∧
          e.committed = true ∧
            s.get (MEM_BANK_STAT_STATE 6) = 1 ∧
              mapFind s.canary 6 = some (s.get PWR_SEQ_SLEEP_SEQ) ∧ s.marked 6 0 131072 2 = []) :=
 ⟨⟨{ State.reset with
        rings := [(0,
            { Ring.reset with
              exec := some { run0 with seq := 3, words := [0x20101, 0], startFrame := 5, left := 1, result := 77, mask := 2 } })] },
      { run0 with seq := 3, words := [0x20101, 0], startFrame := 5, left := 1, result := 77, mask := 2 }, by decide +kernel⟩,
  ⟨{ st [(SPK_STAT_STATE 0, 2)] with
        rings := [(0,
            { Ring.reset with
              exec := some { run0 with seq := 3, words := [0x20101, 0], startFrame := 5, left := 1, result := 77, mask := 2 } })] },
      { run0 with seq := 3, words := [0x20101, 0], startFrame := 5, left := 1, result := 77, mask := 2 }, by decide +kernel⟩,
  ⟨{ st [(SPK_STAT_STATE 0, 2)] with
        rings := [(0,
            { Ring.reset with
              exec := some { run0 with seq := 3, words := [0x20101, 0], startFrame := 5, left := 1, result := 77, mask := 2 } })] },
      { run0 with seq := 3, words := [0x20101, 0], startFrame := 5, left := 1, result := 77, mask := 2 }, by decide +kernel⟩,
  ⟨State.reset, by decide +kernel⟩,
  ⟨st [(PWR_STAT_STATE, 1)], by decide +kernel⟩,
  ⟨State.reset, by decide +kernel⟩,
  ⟨st [(PWR_STAT_STATE, 1), (PWR_WAKE_EN_TIMER, 1), (PWR_TIMER_COUNT, 7)], by decide +kernel⟩,
  ⟨State.reset, by decide +kernel⟩,
  ⟨{ st [(PWR_STAT_STATE, 2)] with wakeReq := some 3 }, 3, by decide +kernel⟩,
  ⟨State.reset, by decide +kernel⟩,
  ⟨{ st [(MEM_BANK_STAT_STATE 6, 1)] with
        rings := [(0,
            { Ring.reset with
              exec := some { run0 with
                seq := 3
                words := [0x20101, 0]
                committed := true
                startFrame := 5
                left := 1
                result := 77
                mask := 2 } })]
        canary := [(6, 0)] },
      { run0 with seq := 3, words := [0x20101, 0], committed := true, startFrame := 5, left := 1, result := 77, mask := 2 },
      by decide +kernel⟩⟩

/-- States and operands that meet the hypotheses of the clauses of `Obligations.KeeperFoldsAndReleases`. -/
theorem witness_KeeperFoldsAndReleases :
  (∃ (s : State) (v : Word),
    let cause := s.get KEEP_STAT_CAUSE;
    s.awake = true ∧ cause = 0 ∧ bitOf (BitVec.toNat v) 0 = true) ∧
  (∃ (s : State) (v : Word),
    let cause := s.get KEEP_STAT_CAUSE;
    s.awake = true ∧ cause ≠ 0 ∧ bitOf (BitVec.toNat v) 0 = true) ∧
  (∃ (s : State) (v : Word), s.awake = false ∨ bitOf (BitVec.toNat v) 0 = false) ∧
  (∃ (s : State),
    let cause := s.get KEEP_STAT_CAUSE;
    s.awake = true ∧ cause = 0) ∧
  (∃ (s : State),
    let cause := s.get KEEP_STAT_CAUSE;
    s.awake = true ∧ cause ≠ 0) ∧
  (∃ (s : State), s.awake = false) ∧
  (∃ (s : State),
    let cause := s.get KEEP_STAT_CAUSE;
    s.on KEEP_CTL_FAULT_IN_EN = true ∧ s.on KEEP_STAT_DRIVING = false ∧ s.on KEEP_STAT_FAULT_IN = false ∧ cause = 0) ∧
  (∃ (s : State), s.on KEEP_CTL_FAULT_IN_EN = false ∨ s.on KEEP_STAT_DRIVING = true ∨ s.on KEEP_STAT_FAULT_IN = true) ∧
  (∃ (s : State), s.on KEEP_CTL_FAULT_LATCH = true) ∧
  (∃ (s : State), s.on KEEP_CTL_FAULT_LATCH = false) ∧
  (∃ (s : State),
    let cause := s.get KEEP_STAT_CAUSE;
    cause = 0) ∧
  (∃ (s : State),
    let cause := s.get KEEP_STAT_CAUSE;
    cause = 1 ∧ ∀ (n : FourIx), s.on (SAP_MUTE_TX_MUTE n.val) = false ∧ (s.port n.val).txRamp ≠ 0) ∧
  (∃ (s : State), s.get KEEP_STAT_STATE = 1 ∧ s.spkQuiet = true ∧ s.hpoQuiet = true ∧ s.wdtReset = false ∧ s.rst = none) ∧
  (∃ (s : State),
    let cause := s.get KEEP_STAT_CAUSE;
    s.get KEEP_STAT_STATE = 1 ∧ s.spkQuiet = true ∧ s.hpoQuiet = true ∧ s.wdtReset = true ∧ s.rst = none ∧ cause ≠ 0) ∧
  (∃ (s : State) (c : Nat), s.get KEEP_STAT_STATE = 2 ∧ s.rst = some (2, c, false)) ∧
  (∃ (s : State), s.rst = none ∧ (s.get KEEP_STAT_STATE ≠ 1 ∨ s.spkQuiet = false ∨ s.hpoQuiet = false)) ∧
  (∃ (s : State) (n : FourIx), s.get KEEP_STAT_STATE = 1 ∧ s.spkSwitching n.val = true) ∧
  (∃ (s : State) (n : FourIx), s.get KEEP_STAT_STATE = 1 ∧ 1 ≤ s.get (HPO_STAT_STATE n.val) ∧ s.get (HPO_STAT_STATE n.val) ≤ 3) ∧
  (∃ (s : State), s.get KEEP_STAT_STATE ≠ 1) :=
 ⟨⟨State.reset, 0x1, by decide +kernel⟩,
  ⟨st [(KEEP_STAT_CAUSE, 1)], 0x1, by decide +kernel⟩,
  ⟨State.reset, 0x0, by decide +kernel⟩,
  ⟨State.reset, by decide +kernel⟩,
  ⟨st [(KEEP_STAT_CAUSE, 1)], by decide +kernel⟩,
  ⟨st [(PWR_STAT_STATE, 2)], by decide +kernel⟩,
  ⟨State.reset, by decide +kernel⟩,
  ⟨st [(KEEP_STAT_FAULT_IN, 1)], by decide +kernel⟩,
  ⟨st [(KEEP_CTL_FAULT_LATCH, 1)], by decide +kernel⟩,
  ⟨State.reset, by decide +kernel⟩,
  ⟨State.reset, by decide +kernel⟩,
  ⟨{ st [(KEEP_STAT_CAUSE, 1)] with
        ports := [(0, { Port.reset with txRamp := 5 }), (1, { Port.reset with txRamp := 5 }),
          (2, { Port.reset with txRamp := 5 }), (3, { Port.reset with txRamp := 5 })] }, by decide +kernel⟩,
  ⟨st [(KEEP_STAT_STATE, 1)], by decide +kernel⟩,
  ⟨{ st [(KEEP_STAT_CAUSE, 1), (KEEP_STAT_STATE, 1)] with wdtReset := true }, by decide +kernel⟩,
  ⟨{ st [(KEEP_STAT_STATE, 2)] with rst := some (2, (3, false)) }, 3, by decide +kernel⟩,
  ⟨State.reset, by decide +kernel⟩,
  ⟨st [(SPK_STAT_STATE 0, 2), (KEEP_STAT_STATE, 1)], 0, by decide +kernel⟩,
  ⟨st [(HPO_STAT_STATE 1, 2), (KEEP_STAT_STATE, 1)], 1, by decide +kernel⟩,
  ⟨State.reset, by decide +kernel⟩⟩

/-- States and operands that meet the hypotheses of the clauses of `Obligations.HeartbeatAndThermalShutdown`. -/
theorem witness_HeartbeatAndThermalShutdown :
  (∃ (v : Word), BitVec.toNat v % 65536 = 23130) ∧
  (∃ (v : Word), BitVec.toNat v % 65536 ≠ 23130) ∧
  (∃ (s : State), s.wdtRuns = true) ∧
  (∃ (s : State), s.wdtRuns = false) ∧
  (∃ (s : State) (t : List Nat), (∀ (k : FourIx), t.getD k.val 0 < 256) ∧ 224 ≤ t.getD 0 0 ∧ s.bit KEEP_STAT_CAUSE 4 = false) ∧
  (∃ (s : State),
    let lim := max 100 (min 150 (s.get KEEP_CTL_THERM_CLR)) + 64;
    s.bit KEEP_STAT_CAUSE 4 = true ∧ ∀ (n : FourIx), s.get (SPK_THERM_STAT_TEMP n.val) ≤ lim) ∧
  (∃ (s : State) (n : FourIx),
    let lim := max 100 (min 150 (s.get KEEP_CTL_THERM_CLR)) + 64;
    s.bit KEEP_STAT_CAUSE 4 = false ∨ lim < s.get (SPK_THERM_STAT_TEMP n.val)) :=
 ⟨⟨0x5A5A, by decide +kernel⟩,
  ⟨0x0, by decide +kernel⟩,
  ⟨st [(KEEP_WDT_CFG_EN, 1)], by decide +kernel⟩,
  ⟨State.reset, by decide +kernel⟩,
  ⟨State.reset, [224], by decide +kernel⟩,
  ⟨st [(KEEP_STAT_CAUSE, 16)], by decide +kernel⟩,
  ⟨State.reset, 0, by decide +kernel⟩⟩

/-- States and operands that meet the hypotheses of the clauses of `Obligations.NewerWriteCancelsWriteBack`. -/
theorem witness_NewerWriteCancelsWriteBack :
  (∃ (s : State) (a : Nat), mapGet 0 s.wb (a / 8) = 2) ∧
  (∃ (s : State), s.Stored) ∧
  (∃ (s : State) (a : Nat), mapGet 0 s.wb (a / 8) ≠ 2) ∧
  (∃ (s : State) (a : Nat), 12582912 ≤ a ∧ a < 14680064 ∧ a % 8 = 0 ∧ s.loadCovers ((a - 12582912) / 2048) = false ∧ mapGet 0 s.wb (a / 8) = 2) :=
 ⟨⟨{ State.reset with wb := [(705, 2)] }, 0x1608, by decide +kernel⟩,
  ⟨State.reset, by decide +kernel⟩,
  ⟨State.reset, 0, by decide +kernel⟩,
  ⟨{ State.reset with wb := [(0x180001, 2)] }, 0xC00008, by decide +kernel⟩⟩

/-- States and operands that meet the hypotheses of the clauses of `Obligations.BypassAndIllegalSec`. -/
theorem witness_BypassAndIllegalSec :
  (∃ (s : State) (t : TileIx) (q : SecRun),
    let x := s.tile t.val;
    x.run = some q ∧
      s.tileState t.val = 2 ∧
        q.pos = 0 ∧
          q.count = 1 ∧ s.secKind t.val q.first = 3 ∧ s.mark (slotAddr t.val (5 * q.first)) ≠ 2 ∧ q.nextEnd ≤ x.budget) ∧
  (∃ (s : State) (t : TileIx) (m : Micro),
    let x := s.tile t.val;
    s.tileState t.val = 2 ∧
      s.fetchMicro t.val = some m ∧
        x.run = none ∧
          max x.cyc x.secEnd + 1 ≤ x.budget ∧
            m.opc.toNat = 34 ∧
              (m.imm.toNat / 64 % 64 = 0 ∨
                51 < m.imm.toNat % 64 + m.imm.toNat / 64 % 64 ∨
                  m.imm.toNat / 16384 % 4 = 3 ∨
                    m.imm.toNat / 8192 % 2 = 1 ∨ 65536 ≤ m.imm.toNat ∨ m.dst.toNat ≠ 49 ∨ m.srcb.toNat ≠ 49)) :=
 ⟨⟨{ st [(FAB_TILE_STAT_STATE 0, 2)] with
        mem := cells 1576 [3]
        tiles := [(0,
            { Tile.reset with
              budget := 500
              run := some { first := 1, count := 1, cell := 0x00075bcd15004d81#64, pos := 0, nextEnd := 20 } })] }, 0,
      { first := 1, count := 1, cell := 0x00075bcd15004d81#64, pos := 0, nextEnd := 20 }, by decide +kernel⟩,
  ⟨tileAt 0x8B10710000000000 1, 0, decodeMicro 0x8B10710000000000, by decide +kernel⟩⟩

/-- States and operands that meet the hypotheses of the clauses of `Obligations.FoldCommandCompletesFolded`. -/
theorem witness_FoldCommandCompletesFolded :
  (∃ (s : State) (r : RingIx) (ws : List Nat),
    let op := ws.headD 0 % 256;
    TakesUp s r.val ws ∧ op = 4 ∧ s.get KEEP_STAT_CAUSE = 0) ∧
  (∃ (s : State) (r : RingIx) (ws : List Nat),
    let op := ws.headD 0 % 256;
    TakesUp s r.val ws ∧ op = 4 ∧ s.get KEEP_STAT_STATE = 1) ∧
  (∃ (s : State) (r : RingIx) (ws : List Nat),
    let op := ws.headD 0 % 256;
    TakesUp s r.val ws ∧ op = 4 ∧ s.get KEEP_STAT_STATE = 2 ∧ s.get KEEP_STAT_CAUSE ≠ 0) ∧
  (∃ (s : State) (r : RingIx) (e : Exec), (s.ring r.val).exec = some e ∧
      s.executors 4 = [r.val] ∧
        s.get KEEP_STAT_STATE = 1 ∧ s.spkQuiet = true ∧ s.hpoQuiet = true ∧ s.wdtReset = false ∧ s.rst = none) ∧
  (∃ (s : State) (r : RingIx) (ws : List Nat) (e : Exec) (t : RingIx),
    let op := ws.headD 0 % 256;
    TakesUp s r.val ws ∧
      op = 3 ∧
        abortRing ws = t.val ∧
          t ≠ r ∧
            s.ringIs t.val 0 = true ∧
              (s.ring t.val).exec = some e ∧
                e.words.headD 0 % 256 = 4 ∧
                  abortSeq ws = e.seq ∧
                    (s.get (RING_STAT_NEXT_SEQ t.val) + 65535 - e.seq) % 65536 < 32768 ∧ (s.ring t.val).waiting = none) :=
 ⟨⟨{ st [(RING_CFG_EN 5, 1), (RING_CFG_BASE 5, 0x1000), (RING_STAT_STATE 5, 1), (MEM_BANK_STAT_STATE 6, 2)] with
        mem := cells 0xA08000 [4]
        rings := [(5, { Ring.reset with ready := 1 })] }, 5, [4], ⟨takesUp_of (by decide +kernel), by decide +kernel⟩⟩,
  ⟨{ st [(RING_CFG_EN 5, 1), (RING_CFG_BASE 5, 0x1000), (RING_STAT_STATE 5, 1), (MEM_BANK_STAT_STATE 6, 2),
          (KEEP_STAT_STATE, 1)] with
        mem := cells 0xA08000 [4]
        rings := [(5, { Ring.reset with ready := 1 })] }, 5, [4], ⟨takesUp_of (by decide +kernel), by decide +kernel⟩⟩,
  ⟨{ st [(RING_CFG_EN 5, 1), (RING_CFG_BASE 5, 0x1000), (RING_STAT_STATE 5, 1), (MEM_BANK_STAT_STATE 6, 2),
          (KEEP_STAT_CAUSE, 1), (KEEP_STAT_STATE, 2)] with
        mem := cells 0xA08000 [4]
        rings := [(5, { Ring.reset with ready := 1 })] }, 5, [4], ⟨takesUp_of (by decide +kernel), by decide +kernel⟩⟩,
  ⟨{ st [(KEEP_STAT_STATE, 1)] with
        rings := [(5,
            { Ring.reset with
              exec := some { run0 with words := [4], committed := true, startFrame := 5, left := 1, result := 77 } })] }, 5,
      { run0 with words := [4], committed := true, startFrame := 5, left := 1, result := 77 }, by decide +kernel⟩,
  ⟨{ st [(RING_CFG_EN 5, 1), (RING_CFG_BASE 5, 0x1000), (RING_STAT_STATE 5, 1), (RING_CFG_EN 6, 1),
          (RING_STAT_NEXT_SEQ 6, 4), (MEM_BANK_STAT_STATE 6, 2)] with
        mem := cells 0xA08000 [3] ++ cells 0xA08002 [6]
        rings := [(5, { Ring.reset with ready := 1 }),
          (6,
            { Ring.reset with
              exec := some { run0 with words := [4], committed := true, startFrame := 5, left := 1, result := 77 } })] }, 5,
      [0x60003], { run0 with words := [4], committed := true, startFrame := 5, left := 1, result := 77 }, 6,
      ⟨takesUp_of (by decide +kernel), by decide +kernel⟩⟩⟩

/-- States and operands that meet the hypotheses of the clauses of `Obligations.LevelRequestsWaitForChange`. -/
theorem witness_LevelRequestsWaitForChange :
  (∃ (s : State) (t : Nat), s.plTo = some t) ∧
  (∃ (s : State) (t : Nat) (w : Nat), s.plTo = some t ∧
      s.plWait = some w ∧
        s.awake = true ∧ t < 4 ∧ (t < s.get PWR_STAT_CUR_PL ∨ s.on PWR_STAT_PG = true ∧ s.plLate = false) ∧ w < s.minPl) ∧
  (∃ (s : State) (t : Nat) (w : Nat), s.plTo = some t ∧
      s.plWait = some w ∧
        s.awake = true ∧
          t < 4 ∧ (t < s.get PWR_STAT_CUR_PL ∨ s.on PWR_STAT_PG = true ∧ s.plLate = false) ∧ s.minPl ≤ w ∧ w = t) ∧
  (∃ (s : State) (t : Nat) (w : Nat), s.plTo = some t ∧
      s.plWait = some w ∧
        s.awake = true ∧
          t < 4 ∧ (t < s.get PWR_STAT_CUR_PL ∨ s.on PWR_STAT_PG = true ∧ s.plLate = false) ∧ s.minPl ≤ w ∧ w ≠ t) :=
 ⟨⟨{ State.reset with plTo := some 0 }, 0, by decide +kernel⟩,
  ⟨{ st [(FAB_STAT_MIN_PL, 1)] with plTo := some 0, plWait := some 0 }, 0, 0, by decide +kernel⟩,
  ⟨{ State.reset with plTo := some 0, plWait := some 0 }, 0, 0, by decide +kernel⟩,
  ⟨{ State.reset with plTo := some 0, plWait := some 1 }, 0, 1, by decide +kernel⟩⟩

/-- States and operands that meet the hypotheses of the clauses of `Obligations.UnassignedPagesReadZero`. -/
theorem witness_UnassignedPagesReadZero :
  (∃ (a : Nat), 14761984 ≤ a ∧ a < 2 ^ 24) ∧
  (∃ (s : State) (a : Nat),
    let reach := s.busAlive = true ∧ s.awake = true ∧ s.rst = none;
    14761984 ≤ a ∧ a < 2 ^ 24 ∧ reach ∧ a % 8 = 0) ∧
  (∃ (s : State) (a : Nat),
    let reach := s.busAlive = true ∧ s.awake = true ∧ s.rst = none;
    14761984 ≤ a ∧ a < 2 ^ 24 ∧ reach ∧ a % 8 ≠ 0) :=
 ⟨⟨0xE14000, by decide +kernel⟩,
  ⟨State.reset, 0xE14000, by decide +kernel⟩,
  ⟨State.reset, 0xFFFFFF, by decide +kernel⟩⟩
/-- States and operands that meet the hypotheses of the clauses of `Obligations.CodexLoadPhases`. -/
theorem witness_CodexLoadPhases :
  (∃ (s : State) (l : Load), s.load = some l ∧ l.kind = 0 ∧ l.phase = .teardown) ∧
  (∃ (s : State) (l : Load), let src := s.loadSource l
    let own := !s.isHead || bitOf l.units 0
    s.load = some l ∧ l.kind = 0 ∧ l.phase = .write ∧ s.isHead = true ∧ own = true ∧ src.2 = none ∧
      (s.writeFull l src.1).2 = none ∧ farUnits l.units = [] ∧ l.startF = none ∧ l.at_ = none) ∧
  (∃ (s : State) (l : Load) (st off : Nat), let src := s.loadSource l
    let own := !s.isHead || bitOf l.units 0
    s.load = some l ∧ l.kind = 0 ∧ l.phase = .write ∧ s.isHead = true ∧ own = true ∧ src.2 = some (st, off) ∧
      l.boot = false) ∧
  (∃ (s : State) (l : Load) (r : RingIx) (e : Exec), let src := s.loadSource l
    let own := !s.isHead || bitOf l.units 0
    s.load = some l ∧ l.kind = 2 ∧ l.phase = .scan ∧ s.isHead = true ∧ own = true ∧ src.2 = none ∧
      (s.writeFull l src.1).2 = none ∧ l.ring = some r.val ∧ (s.ring r.val).exec = some e ∧ farUnits l.units = [] ∧
      l.startF = none) ∧
  (∃ (s : State) (l : Load) (r : RingIx) (e : Exec) (st off : Nat), let src := s.loadSource l
    s.load = some l ∧ l.kind = 2 ∧ l.phase = .scan ∧ s.isHead = true ∧ src.2 = some (st, off) ∧ l.ring = some r.val ∧
      (s.ring r.val).exec = some e ∧ l.boot = false ∧ st < 256) ∧
  (∃ (s : State) (l : Load), let src := s.loadSource l
    let own := !s.isHead || bitOf l.units 0
    s.load = some l ∧ l.kind = 1 ∧ l.phase = .scan ∧ s.isHead = true ∧ own = true ∧ src.2 = none ∧
      (s.writeShelf l src.1).2 = none) ∧
  (∃ (s : State) (l : Load), s.load = some l ∧ l.kind = 1 ∧ l.phase = .wait ∧
    s.groups.any (fun g => g.touches l.shelf) = false ∧ l.shelf < 16) ∧
  (∃ (s : State) (l : Load) (r : RingIx) (e : Exec) (f : Nat), let own := !s.isHead || bitOf l.units 0
    s.load = some l ∧ l.ring = some r.val ∧ (s.ring r.val).exec = some e ∧ l.kind = 0 ∧ l.phase = .done ∧ s.isHead = true ∧
      own = true ∧ l.own = some stOk ∧ l.startF = some f ∧ later f s.frame = false ∧ s.lends = [] ∧ l.rings = [] ∧
      l.boot = false ∧ l.edition < 2 ^ 32 ∧ l.slot < 2) ∧
  (∃ (s : State) (l : Load) (f : Nat), let own := !s.isHead || bitOf l.units 0
    s.load = some l ∧ l.kind = 0 ∧ l.phase = .done ∧ s.isHead = true ∧ own = true ∧ l.own = some stOk ∧ l.startF = some f ∧
      later f s.frame = false ∧ s.lends = [] ∧ l.rings = [] ∧ l.boot = true) ∧
  (∃ (s : State) (l : Load) (r : RingIx) (e : Exec) (f : Nat), let own := !s.isHead || bitOf l.units 0
    s.load = some l ∧ l.ring = some r.val ∧ (s.ring r.val).exec = some e ∧ l.kind = 1 ∧ l.phase = .done ∧ s.isHead = true ∧
      own = true ∧ l.own = some stOk ∧ l.startF = some f ∧ later f s.frame = false ∧ s.lends = [] ∧ l.shelf < 16 ∧
      l.tiles.all (fun t => t / 64 == l.shelf) = true) :=
  let x : Exec := { run0 with words := [8] }
  ⟨⟨loading load0, load0, by decide +kernel⟩,
    ⟨loading { load0 with phase := .write }, { load0 with phase := .write }, by decide +kernel⟩,
    ⟨{ loading { load0 with phase := .write } with flash := image.map (fun (c : Host.Cell) => if c.1 = 24 then (24, 1) else c) }, { load0 with phase := .write }, stEcc, 0,
      by decide +kernel⟩,
    ⟨loading { load0 with ring := some 5, kind := 2, phase := .scan }, { load0 with ring := some 5, kind := 2, phase := .scan },
      5, x, by decide +kernel⟩,
    ⟨{ loading { load0 with ring := some 5, kind := 2, phase := .scan } with
        flash := image.map (fun (c : Host.Cell) => if c.1 = 24 then (24, 1) else c) },
      { load0 with ring := some 5, kind := 2, phase := .scan }, 5, x, stEcc, 0, by decide +kernel⟩,
    ⟨loading { load0 with kind := 1, phase := .scan }, { load0 with kind := 1, phase := .scan }, by decide +kernel⟩,
    ⟨loading { load0 with kind := 1, phase := .wait }, { load0 with kind := 1, phase := .wait }, by decide +kernel⟩,
    ⟨loading { load0 with ring := some 5, phase := .done, own := some 0, startF := some 0 },
      { load0 with ring := some 5, phase := .done, own := some 0, startF := some 0 }, 5, x, 0, by decide +kernel⟩,
    ⟨loading { load0 with boot := true, phase := .done, own := some 0, startF := some 0 },
      { load0 with boot := true, phase := .done, own := some 0, startF := some 0 }, 0, by decide +kernel⟩,
    ⟨loading { load0 with ring := some 5, kind := 1, shelf := 3, phase := .done, own := some 0, startF := some 0, tiles := [192] },
      { load0 with ring := some 5, kind := 1, shelf := 3, phase := .done, own := some 0, startF := some 0, tiles := [192] },
      5, x, 0, by decide +kernel⟩⟩

/-- States and operands that meet the hypotheses of the clauses of `Obligations.LendStreamsAndTheirMessages`. -/
theorem witness_LendStreamsAndTheirMessages :
  (∃ (s : State) (hdr : Nat) (ws : List Nat),
    let mine := decide (bits hdr 0 4 = s.get CHN_STAT_ADDR) && s.on CHN_STAT_ADDR_VALID
    let words := ws.take (bits hdr 8 8)
    let off := bits hdr 16 24
    s.isHead = false ∧ mine = true ∧ bitOf hdr 4 = true ∧ off = 0 ∧ words ≠ [] ∧ s.load = none) ∧
  (∃ (s : State) (hdr : Nat) (ws : List Nat),
    let mine := decide (bits hdr 0 4 = s.get CHN_STAT_ADDR) && s.on CHN_STAT_ADDR_VALID
    let words := ws.take (bits hdr 8 8)
    let off := bits hdr 16 24
    s.isHead = false ∧ mine = true ∧ bitOf hdr 4 = false ∧ s.load.isSome = true ∧ off = s.lendIn.length ∧ words ≠ []) ∧
  (∃ (s : State) (hdr : Nat) (ws : List Nat),
    let mine := decide (bits hdr 0 4 = s.get CHN_STAT_ADDR) && s.on CHN_STAT_ADDR_VALID
    let words := ws.take (bits hdr 8 8)
    let off := bits hdr 16 24
    s.isHead = false ∧ mine = true ∧ bitOf hdr 4 = false ∧ s.lendIn.length < off ∧ words ≠ []) ∧
  (∃ (s : State) (hdr : Nat) (ws : List Nat),
    let mine := decide (bits hdr 0 4 = s.get CHN_STAT_ADDR) && s.on CHN_STAT_ADDR_VALID
    let words := ws.take (bits hdr 8 8)
    let off := bits hdr 16 24
    s.isHead = false ∧ mine = true ∧ bitOf hdr 4 = false ∧ off < s.lendIn.length ∧ words ≠ []) ∧
  (∃ (s : State) (hdr : Nat) (ws : List Nat) (l : Load),
    let mine := decide (bits hdr 0 4 = s.get CHN_STAT_ADDR) && s.on CHN_STAT_ADDR_VALID
    let words := ws.take (bits hdr 8 8)
    s.isHead = false ∧ mine = true ∧ words = [] ∧ s.load = some l ∧ l.startF = none ∧ l.kind = 0 ∧ l.phase ≠ .teardown) ∧
  (∃ (s : State) (hdr : Nat) (ws : List Nat),
    let mine := decide (bits hdr 0 4 = s.get CHN_STAT_ADDR) && s.on CHN_STAT_ADDR_VALID
    let words := ws.take (bits hdr 8 8)
    s.isHead = false ∧ s.on CHN_STAT_ADDR_VALID = true ∧ mine = false ∧ s.relayFill + words.length ≤ 4096) ∧
  (∃ (s : State) (v : UnitIx) (d : Lend), mapFind s.lends v.val = some d ∧ d.status = none ∧ d.stream.length ≤ d.pos ∧
    d.fails < 2) ∧
  (∃ (s : State) (v : UnitIx) (d : Lend), mapFind s.lends v.val = some d ∧ d.status = none ∧ d.stream.length ≤ d.pos ∧
    2 ≤ d.fails ∧ d.auto = true) ∧
  (∃ (s : State) (v : UnitIx) (d : Lend), mapFind s.lends v.val = some d ∧ d.status = none ∧ d.stream.length ≤ d.pos ∧
    d.auto = true) ∧
  (∃ (s : State) (v : UnitIx), s.isHead = true ∧ s.on SYS_BOOT_LOADED = true ∧ v ≠ 0 ∧ s.unitGone v.val = false ∧
    mapFind s.lends v.val = none ∧ bitOf (s.imgMask (s.get SYS_BOOT_SLOT)) v.val = false) ∧
  (∃ (s : State) (v : UnitIx), s.isHead = true ∧ s.on SYS_BOOT_LOADED = true ∧ v ≠ 0 ∧ s.unitGone v.val = false ∧
    mapFind s.lends v.val = none ∧ bitOf (s.imgMask (s.get SYS_BOOT_SLOT)) v.val = true) :=
  let wr : Load := { load0 with phase := .write }
  let hd : State :=
    { st [(SYS_BOOT_LOADED, 1), (CHN_STAT_PRESENT, 2), (CHN_PORT_STAT_STATE 1, 5)] with isHead := true, flash := image }
  ⟨⟨sat1, 0x211, [1, 2], by decide +kernel⟩,
    ⟨{ sat1 with load := some load0, lendIn := [1, 2] }, 0x20101, [3], by decide +kernel⟩,
    ⟨sat1, 0x20101, [3], by decide +kernel⟩,
    ⟨{ sat1 with lendIn := [1, 2] }, 0x10101, [3], by decide +kernel⟩,
    ⟨{ sat1 with load := some wr }, 1, [], wr, by decide +kernel⟩,
    ⟨sat1, 0x102, [3], by decide +kernel⟩,
    ⟨{ hd with lends := [(1, lend0)] }, 1, lend0, by decide +kernel⟩,
    ⟨{ hd with lends := [(1, { lend0 with fails := 2 })] }, 1, { lend0 with fails := 2 }, by decide +kernel⟩,
    ⟨{ hd with lends := [(1, lend0)] }, 1, lend0, by decide +kernel⟩,
    ⟨hd, 1, by decide +kernel⟩,
    ⟨{ hd with flash := hd.flash.map (fun (c : Host.Cell) => if c.1 = 40 then (40, 3) else c) }, 1, by decide +kernel⟩⟩

end Sys2Proof.Tests
end

section
/-! The section engine: what a BYPASS section computes and leaves alone (R81), how the last section of a run ends it (R86), and how
an illegal SEC stops its tile (R68, R70, R84). -/

namespace Sys2Proof.Machine

/-! ### The AUDIO field of a cell -/

theorem satSigned_toSigned (n w : Nat) : satSigned n (toSigned n w) = toSigned n w := by
  cases n with
  | zero => simp [toSigned, satSigned, Nat.mod_one]
  | succ n =>
    have hw : w % 2 ^ (n + 1) < 2 ^ (n + 1) := Nat.mod_lt _ (Nat.two_pow_pos _)
    have hp : 2 ^ (n + 1) = 2 * 2 ^ n := Nat.pow_succ'
    simp only [toSigned, satSigned, Nat.add_sub_cancel]
    split <;> split <;> omega

/-- The AUDIO of a cell needs no saturation (R20). -/
theorem satAudio_audioOf (c : Word) : satAudio (audioOf c) = (audioOf c, 0) := by
  simp only [satAudio, audioOf, satSigned_toSigned, if_true]

theorem toSigned_fromSigned_toSigned (w : Nat) : toSigned 40 (fromSigned 40 (toSigned 40 w)) = toSigned 40 w := by
  unfold fromSigned toSigned
  omega

theorem audioOf_mkCell (a : Int) (tag flags : Nat) : audioOf (mkCell a tag flags) = toSigned 40 (fromSigned 40 a) := by
  have ha : fromSigned 40 a < 2 ^ 40 := by unfold fromSigned; omega
  simp only [audioOf, mkCell, BitVec.toNat_ofNat, Nat.shiftRight_eq_div_pow]
  congr 1
  omega

/-- A new cell with the AUDIO of another one (R16). -/
theorem audioOf_mkCell_audioOf (c : Word) (tag flags : Nat) : audioOf (mkCell (audioOf c) tag flags) = audioOf c := by
  rw [audioOf_mkCell]
  exact toSigned_fromSigned_toSigned _

/-! ### A counted read leaves the tile, its slots and the error marks alone -/

section NoteWord

variable (s : State) (a : Nat)

@[simp] theorem State.tile_noteWord (t : Nat) : (s.noteWord a).tile t = s.tile t := by
  unfold State.noteWord; split <;> rfl

@[simp] theorem State.mark_noteWord (b : Nat) : (s.noteWord a).mark b = s.mark b := by
  unfold State.noteWord; split <;> rfl

@[simp] theorem State.memWord_noteWord (b : Nat) : (s.noteWord a).memWord b = s.memWord b := by
  unfold State.noteWord; split <;> rfl

@[simp] theorem State.secKind_noteWord (t sec : Nat) : (s.noteWord a).secKind t sec = s.secKind t sec := by
  simp only [State.secKind, State.slotWord, State.tile_noteWord, State.memWord_noteWord]

end NoteWord

/-! ### A BYPASS section, and the end of a run -/

/-- Of a BYPASS section the engine reads the first slot alone (R89). -/
theorem State.engineSlots_bypass {s : State} {t sec : Nat} (hk : s.secKind t sec = 3) : s.engineSlots t sec = [5 * sec] := by
  simp only [State.engineSlots, hk, kindSlots, ite_self]

/-- R81, R88: a BYPASS section gives its input's AUDIO and flags, and S in its settle window; of the state only the count of a
corrected read of its slot may change. -/
theorem State.runSection_bypass {s : State} {t sec : Nat} (cell : Word) (hk : s.secKind t sec = 3)
    (hm : s.mark (slotAddr t (5 * sec)) ≠ 2) :
    s.runSection t sec cell =
      (mkCell (audioOf cell) (s.tile t).tickFrame (flagsOf cell ||| (s.tile t).settleS sec),
        s.noteWord (slotAddr t (5 * sec))) := by
  have hn : s.noteSlots t sec = s.noteWord (slotAddr t (5 * sec)) := by
    simp only [State.noteSlots, State.engineSlots_bypass hk, List.foldl_cons, List.foldl_nil]
  have hk' : (s.noteWord (slotAddr t (5 * sec))).secKind t sec = 3 := by rw [State.secKind_noteWord, hk]
  have hb : (s.noteWord (slotAddr t (5 * sec))).badSlots t sec = [] := by
    simp [State.badSlots, State.engineSlots_bypass hk', hm]
  simp [State.runSection, hn, hb, hk', sectionValue, satAudio_audioOf]

/-- A run whose last section is in progress ends with it (R86). -/
theorem State.runEnd_last (s : State) (t : Nat) {q : SecRun} (hq : q.count = q.pos + 1) : s.runEnd t q = q.nextEnd := by
  have hd : (List.range q.count).drop (q.pos + 1) = [] := List.drop_eq_nil_of_le (by simp [hq])
  simp only [State.runEnd, hd, List.foldl_nil]

/-- R86: the last section of a run ends it; SR takes its output, and the rest of the tile is as the section leaves it. -/
theorem tile_secRunDone_last {s : State} {t : Nat} {q : SecRun} (hr : (s.tile t).run = some q) (ht : s.tileState t = 2)
    (hq : q.count = q.pos + 1) (he : q.nextEnd ≤ (s.tile t).budget) :
    (secRunDone t s).tile t =
      { (s.runSection t (q.first + q.pos) q.cell).2.tile t with
        run := none, sr := (s.runSection t (q.first + q.pos) q.cell).1, secEnd := q.nextEnd } := by
  have hn : q.count - q.pos = 1 := by omega
  simp [secRunDone, hr, ht, s.runEnd_last t hq, he, hn, State.runSections]

/-- R81: a run that ends with a BYPASS section gives the section's input in SR, and the sections keep their states. -/
theorem secRunDone_bypass {s : State} {t : Nat} {q : SecRun} (hr : (s.tile t).run = some q) (ht : s.tileState t = 2)
    (hq : q.count = q.pos + 1) (he : q.nextEnd ≤ (s.tile t).budget) (hk : s.secKind t (q.first + q.pos) = 3)
    (hm : s.mark (slotAddr t (5 * (q.first + q.pos))) ≠ 2) :
    audioOf ((secRunDone t s).tile t).sr = audioOf q.cell ∧ ((secRunDone t s).tile t).secS = (s.tile t).secS := by
  rw [tile_secRunDone_last hr ht hq he, State.runSection_bypass q.cell hk hm]
  exact ⟨audioOf_mkCell_audioOf _ _ _, by rw [State.tile_noteWord]⟩

/-! ### A tile that stops -/

/-- The register fields that show a tile's state and stop are none of an event's. -/
theorem fldIn_eventFlds_tileStat {f : Fld} (t : Nat) (ha : f.addr = 0xE04028 + 0x1000000 * t) (hl : f.lo < 64) :
    fldIn eventFlds f = false := by
  have hev : ∀ g ∈ eventFlds, Fld.key g / 64 % 0x1000000 ≠ 0xE04028 := by decide
  refine List.any_eq_false.2 (fun g hg he => hev g hg ?_)
  rw [beq_iff_eq.1 he, Fld.key, ha]
  omega

/-- What a stop leaves in the fields that no event changes (R70). -/
theorem State.get_stopTile (s : State) (t reason pc : Nat) {f : Fld} (hf : fldIn eventFlds f = false) :
    (s.stopTile t reason pc).get f =
      (((s.put (FAB_TILE_STAT_STATE t) 3).put (FAB_TILE_STAT_STOP_PC t) pc).put (FAB_TILE_STAT_STOP_REASON t) reason).get f := by
  unfold State.stopTile
  dsimp only
  split
  · rfl
  · exact State.get_post hf

theorem State.tileState_stopTile (s : State) (t reason pc : Nat) : (s.stopTile t reason pc).tileState t = 3 := by
  rw [State.tileState, State.get_stopTile _ _ _ _ (fldIn_eventFlds_tileStat t rfl (by simp [FAB_TILE_STAT_STATE])),
    State.get_put_ne _ _ (by simp [Fld.key, FAB_TILE_STAT_STATE, FAB_TILE_STAT_STOP_REASON]),
    State.get_put_ne _ _ (by simp [Fld.key, FAB_TILE_STAT_STATE, FAB_TILE_STAT_STOP_PC]), State.get_put_same]
  rfl

theorem State.stopReason_stopTile (s : State) (t reason pc : Nat) :
    (s.stopTile t reason pc).get (FAB_TILE_STAT_STOP_REASON t) = reason % 8 := by
  rw [State.get_stopTile _ _ _ _ (fldIn_eventFlds_tileStat t rfl (by simp [FAB_TILE_STAT_STOP_REASON])), State.get_put_same]
  rfl

theorem State.stopPc_stopTile (s : State) (t reason pc : Nat) :
    (s.stopTile t reason pc).get (FAB_TILE_STAT_STOP_PC t) = pc % 256 := by
  rw [State.get_stopTile _ _ _ _ (fldIn_eventFlds_tileStat t rfl (by simp [FAB_TILE_STAT_STOP_PC])),
    State.get_put_ne _ _ (by simp [Fld.key, FAB_TILE_STAT_STOP_PC, FAB_TILE_STAT_STOP_REASON]), State.get_put_same]
  rfl

/-! ### Illegal SEC instructions -/

/-- The forms of SEC that R84 names, in the fields of its IMM (R83). -/
theorem secIllegal_iff (m : Micro) :
    secIllegal m = true ↔
      m.imm.toNat / 64 % 64 = 0 ∨ 51 < m.imm.toNat % 64 + m.imm.toNat / 64 % 64 ∨ m.imm.toNat / 16384 % 4 = 3 ∨
        m.imm.toNat / 8192 % 2 = 1 ∨ 65536 ≤ m.imm.toNat ∨ m.dst.toNat ≠ 0x31 ∨ m.srcb.toNat ≠ 0x31 := by
  have hw : m.imm.toNat < 2 ^ 32 := m.imm.isLt
  have hr : m.imm.toNat / 65536 % 65536 ≠ 0 ↔ 65536 ≤ m.imm.toNat := by omega
  simp [secIllegal, bits, Micro.i, Nat.shiftRight_eq_div_pow, or_assoc, ← hr]

/-- R68: a SEC that R84 names is an illegal instruction. -/
theorem Micro.illegal_of_secIllegal {m : Micro} (ho : m.opc.toNat = 0x22) (h : secIllegal m = true) : m.illegal = true := by
  simp [Micro.illegal, ho, h]

/-- R68: an illegal instruction that fits in the budget ends the tick and stops the tile with reason 2 at its PC. -/
theorem illegalInstruction_stops {s : State} {t : Nat} {m : Micro} (ht : s.tileState t = 2) (hf : s.fetchMicro t = some m)
    (hi : m.illegal = true) (hr : (s.tile t).run = none)
    (hc : max (s.tile t).cyc (s.tile t).secEnd + 1 ≤ (s.tile t).budget) :
    ∃ u : State, illegalInstruction t s = u.stopTile t 2 (s.tile t).pc := by
  have hpc : ((s.noteFetch t).tile t).pc = (s.tile t).pc := by rw [State.noteFetch, State.tile_noteWord]
  have hstop : illegalInstruction t s =
      (s.noteFetch t).commitTile t (max (s.tile t).cyc (s.tile t).secEnd + 1) (some 2) := by
    simp [illegalInstruction, ht, hf, hi, hr, hc]
  rw [hstop, ← hpc]
  exact ⟨_, rfl⟩

/-- Settles O57: SR takes the input of a BYPASS section (`secRunDone_bypass`), and each form of R84 is illegal (`secIllegal_iff`), so it
stops its tile (`illegalInstruction_stops`). -/
theorem bypassAndIllegalSec : Obligations.BypassAndIllegalSec := by
  unfold Obligations.BypassAndIllegalSec
  intro s t x
  refine ⟨fun q hr ht hpos hcount hk hm he => ?_, fun m ht hf hr hc ho hsec => ?_⟩
  · have hq : q.count = q.pos + 1 := by rw [hpos, hcount]
    rw [← Nat.add_zero q.first, ← hpos] at hk hm
    exact ⟨_, rfl, secRunDone_bypass hr ht hq he hk hm⟩
  · have hi : m.illegal = true := Micro.illegal_of_secIllegal ho ((secIllegal_iff m).2 hsec)
    obtain ⟨u, hu⟩ := illegalInstruction_stops ht hf hi hr hc
    refine ⟨illegalInstruction t s, rfl, ?_⟩
    rw [hu]
    exact ⟨u.tileState_stopTile t 2 x.pc, u.stopReason_stopTile t 2 x.pc, u.stopPc_stopTile t 2 x.pc⟩

end Sys2Proof.Machine
end

section
/-! Level requests that wait (R437, R453): what the end of a level change leaves of a waiting request outside ACTIVE and IDLE. -/

namespace Sys2Proof.Machine

/-- R453: where STATE reads neither ACTIVE nor IDLE, the end of a change judges no request, so the waiting one stays. -/
theorem State.plNext_plWait_of_two_le_state {s : State} (h : 2 ≤ s.get PWR_STAT_STATE) : s.plNext.plWait = s.plWait := by
  unfold State.plNext
  extract_lets +onlyGivenNames idle ended
  have hstate : ended.get PWR_STAT_STATE = s.get PWR_STAT_STATE := State.get_put_ne s (f := PWR_STAT_PL_BUSY) 0 (by decide)
  split
  · rw [if_neg (by omega)]
    rfl
  · rfl

/-- A new level in force leaves STATE as it is. -/
theorem State.get_setLevel_state (s : State) (l : Nat) : (s.setLevel l).get PWR_STAT_STATE = s.get PWR_STAT_STATE := by
  unfold State.setLevel
  rw [State.get_put_ne _ _ (by decide), State.get_put_ne _ _ (by decide), State.get_put_ne _ _ (by decide)]

/-- R453: where STATE reads neither ACTIVE nor IDLE, PL_CHANGE keeps the waiting request, whether a change ends with it or not. -/
theorem plChange_plWait_of_two_le_state {s : State} (h : 2 ≤ s.get PWR_STAT_STATE) : (plChange s).plWait = s.plWait := by
  unfold plChange
  split
  · rfl
  · dsimp only
    split
    · rfl
    · rw [State.plNext_plWait_of_two_le_state, State.post_plWait]
      · rfl
      · rw [State.get_post (by decide), State.bump_eq, State.get_put_ne _ _ (by decide), State.get_put_ne _ _ (by decide),
          State.get_setLevel_state]
        exact h

/-- Refutes O59: its clauses about PL_CHANGE ask only that the unit is awake, as it is in ENTERING too, where a request waits until the
wake (R453). So where a change from level 3 to level 0 ends in ENTERING, the waiting request for level 0, which is at the minimum and
equal to the new level, still waits. No command leads into that state, since an entry begins with no change in progress (R441): what
the statement lacks is the hypothesis that STATE reads ACTIVE or IDLE. -/
theorem not_levelRequestsWaitForChange : ¬ Obligations.LevelRequestsWaitForChange := by
  unfold Obligations.LevelRequestsWaitForChange
  intro holds
  let s : State := { State.reset.put PWR_STAT_STATE 4 with plTo := some 0, plWait := some 0 }
  have hstate : s.get PWR_STAT_STATE = 4 := by decide
  have hlevel : s.get PWR_STAT_CUR_PL = 3 := by decide
  have hmin : s.minPl = 0 := by decide
  have hawake : s.awake = true := by simp [State.awake, hstate]
  obtain ⟨-, judged⟩ := holds s 0 rfl
  obtain ⟨-, same, -⟩ := judged 0 rfl hawake (by omega) (Or.inl (by omega))
  obtain ⟨u, hu, -, -, hnone, -⟩ := same (by omega) rfl
  have hstays : (plChange s).plWait = some 0 := plChange_plWait_of_two_le_state (by omega)
  injection (hu : execPlChange s = .next u) with hu
  rw [← hu, hstays] at hnone
  cases hnone

end Sys2Proof.Machine
end

section
/-! Write-backs of corrected words: what a whole-word write does to the cells of a memory, to the word's marks and to its waiting
write-back (R49, R475), and that the curator's write-back changes no byte. -/

namespace Sys2Proof.Machine

/-! ### The cells of a memory after a write -/

/-- Little-endian bytes written at `a` leave the cells outside them alone. -/
theorem mapGet_cellsWrite_of_outside {d : Byte} (m : List Host.Cell) {a b n : Nat} (v : Nat) (h : b < a ∨ a + n ≤ b) :
    mapGet d (cellsWrite d m a v n) b = mapGet d m b := by
  induction n generalizing m a v with
  | zero => rfl
  | succ n ih => rw [cellsWrite, ih _ _ (by omega), mapGet_set_ne (by omega)]

/-- A read of the bytes just written gives as much of the value as they hold. -/
theorem cellsRead_cellsWrite_same (d : Byte) (m : List Host.Cell) (a v n : Nat) :
    cellsRead d (cellsWrite d m a v n) a n = v % 256 ^ n := by
  induction n generalizing m a v with
  | zero => simp [cellsRead, Nat.mod_one]
  | succ n ih =>
    rw [cellsRead, cellsWrite, ih, mapGet_cellsWrite_of_outside _ _ (Or.inl a.lt_succ_self), mapGet_set_same,
      BitVec.toNat_ofNat, Nat.pow_succ' (m := 256), Nat.mod_mul]

theorem mapGet_erase_same {α : Type} (d : α) (m : SMap α) (k : Nat) : mapGet d (mapErase m k) k = d := by
  simp [mapGet, mapFind_erase]

/-! ### A whole-word write -/

section MemPut

variable (s : State) (a : Nat) (v : Word)

theorem State.memPut_mem : (s.memPut a v).mem = cellsWrite 0 s.mem a v.toNat 8 := by
  unfold State.memPut; split <;> rfl

theorem State.memPut_wb : (s.memPut a v).wb = mapErase s.wb (a / 8) := by
  unfold State.memPut; split <;> rfl

theorem State.memPut_ecc : (s.memPut a v).ecc = mapErase s.ecc (a / 8) := by
  unfold State.memPut; split <;> rfl

@[simp] theorem State.memWord_memPut_same : (s.memPut a v).memWord a = v := by
  have hv : v.toNat % 256 ^ 8 = v.toNat := Nat.mod_eq_of_lt v.isLt
  rw [State.memWord, State.memPut_mem, cellsRead_cellsWrite_same, hv, BitVec.ofNat_toNat, BitVec.setWidth_eq]

theorem State.memPut_sameOutside : SameOutside a s (s.memPut a v) := fun b h => by
  rw [State.memByte, State.memPut_mem, mapGet_cellsWrite_of_outside _ _ h, State.memByte]

/-- R49: the word written is free of errors. -/
@[simp] theorem State.mark_memPut_same : (s.memPut a v).mark a = 0 := by
  rw [State.mark, State.memPut_ecc, mapGet_erase_same]

/-- R475: no write-back waits for the word written. -/
@[simp] theorem State.wb_memPut_same : mapGet 0 (s.memPut a v).wb (a / 8) = 0 := by
  rw [State.memPut_wb, mapGet_erase_same]

end MemPut

/-- R475: where the curator's write-back waited, the cancelled write-backs count up by one and saturate. -/
theorem State.wbCancel_memPut {s : State} {a : Nat} (v : Word) (h : mapGet 0 s.wb (a / 8) = 2) :
    (s.memPut a v).get CUR_CNT_WB_CANCEL = satNat 16 (s.get CUR_CNT_WB_CANCEL + 1) := by
  have hput : (s.memPut a v).get CUR_CNT_WB_CANCEL = (s.bump CUR_CNT_WB_CANCEL).get CUR_CNT_WB_CANCEL := by
    rw [State.memPut, if_pos h]; rfl
  rw [hput, State.bump_eq, State.get_put_same]
  exact Nat.mod_eq_of_lt (by simp only [satNat, CUR_CNT_WB_CANCEL]; omega)

/-- R48, R534: a write of an aligned cell of state RAM that no load covers is a whole-word write. -/
theorem stateRamWrite_eq_memPut {s : State} {a : Nat} (v : Word) (hlo : 0xC00000 ≤ a) (hhi : a < 0xE00000) (ha : a % 8 = 0)
    (hl : s.loadCovers ((a - 0xC00000) / 0x800) = false) : stateRamWrite a v s = s.memPut a v :=
  if_neg (by simp [hlo, hhi, ha, hl])

/-! ### The curator's write-back -/

/-- From `s` to `t` no byte of the three memories changes. -/
def SameMemories (s t : State) : Prop := t.mem = s.mem ∧ t.nvs = s.nvs ∧ t.flash = s.flash

theorem SameMemories.refl (s : State) : SameMemories s s := ⟨rfl, rfl, rfl⟩

theorem SameMemories.trans {s t u : State} (h : SameMemories s t) (k : SameMemories t u) : SameMemories s u := by
  obtain ⟨hmem, hnvs, hflash⟩ := h
  obtain ⟨kmem, knvs, kflash⟩ := k
  exact ⟨kmem.trans hmem, knvs.trans hnvs, kflash.trans hflash⟩

theorem State.curTake_sameMemories (s : State) (b : Nat) : SameMemories s (s.curTake b).2 := by
  unfold State.curTake
  dsimp only
  split
  · exact ⟨rfl, rfl, rfl⟩
  · split <;> exact ⟨rfl, rfl, rfl⟩

theorem State.landWb_sameMemories (s : State) (a k : Nat) : SameMemories s (s.landWb a k) := by
  unfold State.landWb
  split <;> exact ⟨rfl, rfl, rfl⟩

/-- Where no write-back of the curator's waits for the word, its landing does nothing. -/
theorem curatorWriteBack_of_not_waiting {s : State} {a : Nat} (h : mapGet 0 s.wb (a / 8) ≠ 2) : curatorWriteBack a s = s :=
  if_pos (Or.inl h)

/-- R475: whether the write-back lands, waits for a cycle of its bank or was cancelled, the memories hold what the last writer put
there. -/
theorem curatorWriteBack_sameMemories (s : State) (a : Nat) : SameMemories s (curatorWriteBack a s) := by
  unfold curatorWriteBack
  dsimp only
  split
  · exact .refl s
  · split
    · split
      · exact (s.curTake_sameMemories _).trans (State.landWb_sameMemories _ a 2)
      · exact s.curTake_sameMemories _
    · exact s.landWb_sameMemories a 2

/-- Settles O55: a whole-word write cancels the waiting write-back and counts it (`State.wb_memPut_same`, `State.wbCancel_memPut`), a
write of a state-RAM cell is one (`stateRamWrite_eq_memPut`), and the curator changes no byte (`curatorWriteBack_sameMemories`). -/
theorem newerWriteCancelsWriteBack : Obligations.NewerWriteCancelsWriteBack := by
  unfold Obligations.NewerWriteCancelsWriteBack
  intro s a v
  refine ⟨fun hwb => ⟨State.wbCancel_memPut v hwb, s.wb_memPut_same a v⟩, s.memWord_memPut_same a v, s.memPut_sameOutside a v,
    s.mark_memPut_same a v, (State.memPut_keeps (.refl s)).2, fun hwb => ⟨_, rfl, curatorWriteBack_of_not_waiting hwb⟩,
    ⟨_, rfl, curatorWriteBack_sameMemories s a⟩, fun hlo hhi ha hl hwb => ⟨stateRamWrite a v s, rfl, ?_⟩⟩
  rw [stateRamWrite_eq_memPut v hlo hhi ha hl]
  exact ⟨s.memWord_memPut_same a v, s.wb_memPut_same a v, State.wbCancel_memPut v hwb⟩

end Sys2Proof.Machine
end

section
/-! The host bus at the unassigned pages 0x14 to 0x1FF (R530): what taking part in a transaction and a NACK leave alone (R389, R390),
when the target takes a group of eight bytes, and that no register stands there. -/

namespace Sys2Proof.Machine

/-! ### States that agree in their memories or registers -/

/-- Where the three memories are the same, so is every byte. -/
theorem SameMemories.sameBytes {s t : State} (h : SameMemories s t) : SameBytes s t := by
  obtain ⟨hmem, hnvs, hflash⟩ := h
  intro a
  rw [State.memByte, hmem, hnvs, hflash]
  exact ⟨rfl, rfl, rfl⟩

/-- A change outside the registers leaves every register field as it was. -/
theorem SameRegs.of_regs_eq {l : List Fld} {s t u : State} (h : SameRegs l s t) (hregs : u.regs = t.regs) : SameRegs l s u :=
  fun f hf => (State.get_congr hregs f).trans (h f hf)

/-! ### Taking part in a transaction, and a NACK -/

section BusTakes

variable (s : State) (stretch : Nat)

/-- R390: a transaction shows in BUSY and STRETCH_MAX alone. -/
theorem State.busTakes_sameRegs : SameRegs [TWB_STAT_BUSY, TWB_STAT_STRETCH_MAX] s (s.busTakes stretch) := by
  intro f hf
  simp only [fldIn, List.any_cons, List.any_nil, Bool.or_false, Bool.or_eq_false_iff, beq_eq_false_iff_ne] at hf
  obtain ⟨hbusy, hmax⟩ := hf
  calc (s.busTakes stretch).get f
      = (s.put TWB_STAT_BUSY 1).get f := State.get_put_ne _ _ hmax.symm
    _ = s.get f := State.get_put_ne _ _ hbusy.symm

@[simp] theorem State.awake_busTakes : (s.busTakes stretch).awake = s.awake := by
  rw [State.awake, s.busTakes_sameRegs stretch PWR_STAT_STATE (by decide), State.awake]

/-- R389: a NACK is counted, and the count saturates. -/
@[simp] theorem State.get_nacks_nack : s.nack.get TWB_CNT_NACKS = satNat 16 (s.get TWB_CNT_NACKS + 1) := by
  have hput : s.nack.get TWB_CNT_NACKS = ((s.put TWB_STAT_BUSY 0).bump TWB_CNT_NACKS).get TWB_CNT_NACKS := rfl
  have hbusy : (s.put TWB_STAT_BUSY 0).get TWB_CNT_NACKS = s.get TWB_CNT_NACKS := State.get_put_ne _ _ (by decide)
  rw [hput, State.bump_eq, State.get_put_same, hbusy]
  exact Nat.mod_eq_of_lt (by simp only [satNat, TWB_CNT_NACKS]; omega)

end BusTakes

/-! ### When the target takes a group -/

theorem wholeWord_of_ge {a : Nat} (h : 0xC00000 ≤ a) : wholeWord a = true := by simp [wholeWord, h]

/-- R419: only a group of a bank waits. -/
theorem State.groupWaits_of_ge (s : State) {a : Nat} (h : 0xC00000 ≤ a) : s.groupWaits a = false := by
  simp [State.groupWaits, Nat.not_lt.2 h]

/-- Outside a reset no group is refused (R389). -/
theorem State.resetRefuses_of_no_reset {s : State} (a : Nat) (h : s.rst = none) : s.resetRefuses a = false := by
  simp [State.resetRefuses, h]

/-- The power state of an awake unit puts no address out of reach (R393). -/
theorem State.reachable_of_awake {s : State} (a : Nat) (h : s.awake = true) : s.reachable a = true := by
  simp [State.reachable, h]

/-- The state in which a read finds the device: the transaction shows, and no byte is on its way yet. -/
def State.readTakes (s : State) (stretch : Nat) : State := { s.busTakes stretch with busOut := [] }

section Groups

variable {s : State} {a : Nat} (v : Word) (stretch : Nat)

theorem State.readTakes_sameRegs (s : State) : SameRegs [TWB_STAT_BUSY, TWB_STAT_STRETCH_MAX] s (s.readTakes stretch) :=
  (s.busTakes_sameRegs stretch).of_regs_eq rfl

/-- R389: in a space of whole words the target refuses a group at an address that is no multiple of 8. -/
theorem hostBusWrite_misaligned (ha : a < 2 ^ 24) (hw : 0xC00000 ≤ a) (halive : s.busAlive = true) (hm : a % 8 ≠ 0) :
    hostBusWrite a v stretch s = (s.busTakes stretch).nack := by
  rw [hostBusWrite, Nat.mod_eq_of_lt ha]
  exact (if_neg (not_not.2 halive)).trans (if_pos (by simp [wholeWord_of_ge hw, hm]))

/-- R389: and it refuses a read there, of which no byte leaves. -/
theorem hostBusRead_misaligned (ha : a < 2 ^ 24) (hw : 0xC00000 ≤ a) (halive : s.busAlive = true) (hm : a % 8 ≠ 0) :
    hostBusRead a stretch s = (s.readTakes stretch).nack := by
  rw [hostBusRead, Nat.mod_eq_of_lt ha]
  exact (if_neg (not_not.2 halive)).trans (if_pos (by simp [wholeWord_of_ge hw, hm]))

/-- R385: an awake unit outside a reset writes an aligned group above the banks. -/
theorem hostBusWrite_aligned (ha : a < 2 ^ 24) (hw : 0xC00000 ≤ a) (halive : s.busAlive = true) (hawake : s.awake = true)
    (hrst : s.rst = none) (hm : a % 8 = 0) :
    hostBusWrite a v stretch s = { (s.busTakes stretch).hostWrite a v with busAddr := (a + 8) % 2 ^ 24 } := by
  have hreach : (s.busTakes stretch).reachable a = true := State.reachable_of_awake a (by rw [State.awake_busTakes, hawake])
  have hrefuse : (s.busTakes stretch).resetRefuses a = false := State.resetRefuses_of_no_reset a hrst
  have hwait : (s.busTakes stretch).groupWaits a = false := State.groupWaits_of_ge _ hw
  rw [hostBusWrite, Nat.mod_eq_of_lt ha]
  calc _ = _ := if_neg (not_not.2 halive)
    _ = _ := if_neg (by simp [hm])
    _ = _ := if_neg fun ⟨hout, _⟩ => hout hreach
    _ = _ := if_neg (not_not.2 hreach)
    _ = _ := if_neg (Bool.eq_false_iff.1 hrefuse)
    _ = _ := if_neg (Bool.eq_false_iff.1 hwait)

/-- R387: an awake unit outside a reset takes the snapshot of an aligned read above the banks. -/
theorem hostBusRead_aligned (ha : a < 2 ^ 24) (hw : 0xC00000 ≤ a) (halive : s.busAlive = true) (hawake : s.awake = true)
    (hrst : s.rst = none) (hm : a % 8 = 0) :
    hostBusRead a stretch s =
      let q := (s.readTakes stretch).hostRead a
      { q.2 with busOut := leBytes 8 q.1, busAddr := (a + 8) % 2 ^ 24, busSnap := if 0xE00000 ≤ a then some (a, q.1) else none } := by
  have hreach : (s.readTakes stretch).reachable a = true :=
    State.reachable_of_awake a ((s.awake_busTakes stretch).trans hawake)
  have hrefuse : (s.readTakes stretch).resetRefuses a = false := State.resetRefuses_of_no_reset a hrst
  have hwait : (s.readTakes stretch).groupWaits a = false := State.groupWaits_of_ge _ hw
  have htaken : ¬ ((wholeWord a && a % 8 != 0) || !(s.readTakes stretch).reachable a || (s.readTakes stretch).resetRefuses a) = true := by
    simp [hm, hreach, hrefuse]
  rw [hostBusRead, Nat.mod_eq_of_lt ha]
  calc _ = _ := if_neg (not_not.2 halive)
    _ = _ := if_neg htaken
    _ = _ := if_neg (Bool.eq_false_iff.1 hwait)

theorem answers_hostBusWrite {p : State → Prop} {u : State} (h : hostBusWrite a v stretch s = u) (hp : p u) :
    Answers (.hostBusWrite a v stretch) s p := ⟨u, congrArg Host.Outcome.next h, hp⟩

theorem answers_hostBusRead {p : State → Prop} {u : State} (h : hostBusRead a stretch s = u) (hp : p u) :
    Answers (.hostBusRead a stretch) s p := ⟨u, congrArg Host.Outcome.next h, hp⟩

end Groups

/-! ### The unassigned pages -/

/-- R532: every register and every member of a register set stands below page 0x14. -/
theorem regTable_below_page14 : ∀ r ∈ regTable, r.addr < 0xE14000 ∧ r.addr + r.stride * r.count ≤ 0xE14000 := by
  decide +kernel

section Unassigned

variable (s : State) {a : Nat} (h : 0xE14000 ≤ a)
include h

/-- R530: the table holds no register at page 0x14 or above. -/
theorem rowAt_unassigned : rowAt a = none := by
  refine List.find?_eq_none.2 fun r hr => ?_
  obtain ⟨hfirst, hend⟩ := regTable_below_page14 r hr
  split
  · simpa using (show a ≠ r.addr by omega)
  · simp [show ¬ a < r.addr + r.stride * r.count by omega]

/-- R530: a write there changes nothing. -/
theorem State.regWrite_unassigned (v : Nat) : s.regWrite a v = s := by
  have haudio : ¬ audioPage a = true := by simp [audioPage]; omega
  unfold State.regWrite
  by_cases hm : a % 8 ≠ 0
  · exact if_pos hm
  · refine (if_neg hm).trans ((if_neg haudio).trans ?_)
    split
    case h_13 => rfl
    all_goals omega

theorem State.regWord_unassigned : s.regWord a = 0 := by
  simp [State.regWord, rowAt_unassigned h]

theorem State.snapPeaks_unassigned : s.snapPeaks a = s := by
  simp [State.snapPeaks, State.fldsAt, rowAt_unassigned h]

theorem State.hostWrite_unassigned (v : Word) : s.hostWrite a v = s := by
  rw [State.hostWrite, if_neg (by omega), if_neg (by omega), if_neg (by omega), s.regWrite_unassigned h]

/-- R530: a read there returns 0, and collects no peak anew. -/
theorem State.hostRead_unassigned : s.hostRead a = (0, s) := by
  rw [State.hostRead, if_neg (by omega), if_neg (by omega), s.regWord_unassigned h, s.snapPeaks_unassigned h]

end Unassigned

/-- Settles O60: no register stands at page 0x14 or above, so a write there changes nothing (`State.regWrite_unassigned`,
`State.hostWrite_unassigned`) and a read returns 0 (`State.hostRead_unassigned`); the target takes every aligned group (`hostBusWrite_aligned`,
`hostBusRead_aligned`), of which the registers show BUSY and STRETCH_MAX alone (`State.busTakes_sameRegs`), and refuses the others
(`hostBusWrite_misaligned`, `hostBusRead_misaligned`). -/
theorem unassignedPagesReadZero : Obligations.UnassignedPagesReadZero := by
  unfold Obligations.UnassignedPagesReadZero
  intro s a stretch v hlo hhi
  refine ⟨⟨_, rfl, s.regWrite_unassigned hlo v.toNat⟩, fun ⟨halive, hawake, hrst⟩ hm => ?_, fun ⟨halive, hawake, hrst⟩ hm => ?_,
    fun ⟨halive, _, _⟩ hm => ⟨?_, ?_⟩⟩
  · have hwrite := hostBusWrite_aligned v stretch hhi (by omega) halive hawake hrst hm
    rw [State.hostWrite_unassigned _ hlo] at hwrite
    exact answers_hostBusWrite v stretch hwrite
      ⟨SameMemories.sameBytes ⟨rfl, rfl, rfl⟩, (s.busTakes_sameRegs stretch).of_regs_eq rfl, rfl, rfl, rfl⟩
  · have hread := hostBusRead_aligned stretch hhi (by omega) halive hawake hrst hm
    rw [State.hostRead_unassigned _ hlo] at hread
    have hzero : leBytes 8 0 = [0, 0, 0, 0, 0, 0, 0, 0] := by decide
    exact answers_hostBusRead stretch hread
      ⟨hzero, SameMemories.sameBytes ⟨rfl, rfl, rfl⟩, (s.busTakes_sameRegs stretch).of_regs_eq rfl, rfl⟩
  · refine answers_hostBusWrite v stretch (hostBusWrite_misaligned v stretch hhi (by omega) halive hm) ⟨?_, rfl⟩
    rw [State.get_nacks_nack, s.busTakes_sameRegs stretch _ (by decide)]
  · refine answers_hostBusRead stretch (hostBusRead_misaligned stretch hhi (by omega) halive hm) ⟨?_, rfl⟩
    rw [State.get_nacks_nack, s.readTakes_sameRegs stretch _ (by decide)]

end Sys2Proof.Machine
end

section
/-! The whole machine: every command answers a next state, which keeps the queue and the canonical form of the memories; the state after
reset; and the words that the block encodes. -/

namespace Sys2Proof.Machine

/-- The command has answered a next state, with the queue as it was and the memories still in canonical form. -/
inductive KeepsNext (s : State) : Host.Outcome State Fault Refusal → Prop
  | next {t : State} (h : Keeps s t) : KeepsNext s (.next t)

theorem KeepsNext.exists_next {s : State} {o : Host.Outcome State Fault Refusal} : KeepsNext s o → ∃ t, o = .next t ∧ Keeps s t
  | .next h => ⟨_, rfl, h⟩

/-- Every row of the table answers a next state, which keeps what its operation keeps (`Laws/Keeps*`). -/
theorem exec_keepsNext (c : Instr) (s : State) : KeepsNext s (exec c s) := by
  cases c with
  | powerOn _ => exact .next (powerOn_keeps (.refl s))
  | resetN => exact .next (resetN_keeps (.refl s))
  | resetRelease _ => exact .next (resetRelease_keeps (.refl s))
  | sysReset _ => exact .next (sysReset_keeps (.refl s))
  | bootLoad => exact .next (bootLoad_keeps (.refl s))
  | sysLock _ => exact .next (sysLock_keeps (.refl s))
  | foldNow _ => exact .next (foldNow_keeps (.refl s))
  | registerWrite _ _ => exact .next (State.regWrite_keeps (.refl s))
  | rcRegisterRead _ => exact .next (rcRegisterRead_keeps (.refl s))
  | frameBoundary _ => exact .next (frameBoundary_keeps (.refl s))
  | domainBStrobe _ => exact .next (domainBStrobe_keeps (.refl s))
  | domainCStrobe _ _ => exact .next (domainCStrobe_keeps (.refl s))
  | tileTick _ _ => exact .next (tileTick_keeps (.refl s))
  | nop _ => exact .next (State.runMicro_keeps (.refl s) fun _ _ _ _ => opNop_keeps)
  | endRun _ => exact .next (State.runMicro_keeps (.refl s) fun _ _ _ _ => opEnd_keeps)
  | mov _ => exact .next (State.runMicro_keeps (.refl s) fun _ _ _ _ => opMov_keeps)
  | movf _ => exact .next (State.runMicro_keeps (.refl s) fun _ _ _ _ => opMovf_keeps)
  | ldi _ => exact .next (State.runMicro_keeps (.refl s) fun _ _ _ _ => opLdi_keeps)
  | add _ => exact .next (State.runMicro_keeps (.refl s) fun _ _ _ _ => opAdd_keeps)
  | sub _ => exact .next (State.runMicro_keeps (.refl s) fun _ _ _ _ => opSub_keeps)
  | abs _ => exact .next (State.runMicro_keeps (.refl s) fun _ _ _ _ => opAbs_keeps)
  | max _ => exact .next (State.runMicro_keeps (.refl s) fun _ _ _ _ => opMax_keeps)
  | min _ => exact .next (State.runMicro_keeps (.refl s) fun _ _ _ _ => opMin_keeps)
  | muli _ => exact .next (State.runMicro_keeps (.refl s) fun _ _ _ _ => opMuli_keeps)
  | shl _ => exact .next (State.runMicro_keeps (.refl s) fun _ _ _ _ => opShl_keeps)
  | tstf _ => exact .next (State.runMicro_keeps (.refl s) fun _ _ _ _ => opTstf_keeps)
  | cmp _ => exact .next (State.runMicro_keeps (.refl s) fun _ _ _ _ => opCmp_keeps)
  | mul _ => exact .next (State.runMicro_keeps (.refl s) fun _ _ _ _ => opMul_keeps)
  | mac _ => exact .next (State.runMicro_keeps (.refl s) fun _ _ _ _ => opMac_keeps)
  | msu _ => exact .next (State.runMicro_keeps (.refl s) fun _ _ _ _ => opMsu_keeps)
  | maci _ => exact .next (State.runMicro_keeps (.refl s) fun _ _ _ _ => opMaci_keeps)
  | aclr _ => exact .next (State.runMicro_keeps (.refl s) fun _ _ _ _ => opAclr_keeps)
  | acrd _ => exact .next (State.runMicro_keeps (.refl s) fun _ _ _ _ => opAcrd_keeps)
  | acwr _ => exact .next (State.runMicro_keeps (.refl s) fun _ _ _ _ => opAcwr_keeps)
  | lds _ => exact .next (State.runMicro_keeps (.refl s) fun _ _ _ _ => opLds_keeps)
  | sts _ => exact .next (State.runMicro_keeps (.refl s) fun _ _ _ _ => opSts_keeps)
  | adda _ => exact .next (State.runMicro_keeps (.refl s) fun _ _ _ _ => opAdda_keeps)
  | ldb _ _ => exact .next (State.runMicro_keeps (.refl s) fun _ _ _ _ => opLdb_keeps)
  | stb _ _ => exact .next (State.runMicro_keeps (.refl s) fun _ _ _ _ => opStb_keeps)
  | recip _ => exact .next (State.runMicro_keeps (.refl s) fun _ _ _ _ => opRecip_keeps)
  | vfir _ => exact .next (State.runMicro_keeps (.refl s) fun _ _ _ _ => opVfir_keeps)
  | vlms _ => exact .next (State.runMicro_keeps (.refl s) fun _ _ _ _ => opVlms_keeps)
  | jmp _ => exact .next (State.runMicro_keeps (.refl s) fun _ _ _ _ => opJmp_keeps)
  | setlc _ => exact .next (State.runMicro_keeps (.refl s) fun _ _ _ _ => opSetlc_keeps)
  | sec _ => exact .next (State.runMicro_keeps (.refl s) fun _ _ _ _ => opSec_keeps)
  | secw _ => exact .next (State.runMicro_keeps (.refl s) fun _ _ _ _ => opSecw_keeps)
  | secRunDone _ => exact .next (secRunDone_keeps (.refl s))
  | illegalInstruction _ => exact .next (illegalInstruction_keeps (.refl s))
  | currRead _ _ => exact .next (currRead_keeps (.refl s))
  | tileOverrun _ _ => exact .next (tileOverrun_keeps (.refl s))
  | eccWriteBack _ => exact .next (eccWriteBack_keeps (.refl s))
  | stop => exact .next (stopCmd_keeps (.refl s))
  | restart => exact .next (restartCmd_keeps (.refl s))
  | fabParamWr _ => exact .next (fabParamWr_keeps (.refl s))
  | configMemoryWrite _ _ => exact .next (configWrite_keeps (.refl s))
  | stateRamWrite _ _ => exact .next (stateRamWrite_keeps (.refl s))
  | coefGroup _ => exact .next (coefGroup_keeps (.refl s))
  | coefGroupStage _ => exact .next (coefGroupStage_keeps (.refl s))
  | coefGroupFlip _ => exact .next (coefGroupFlip_keeps (.refl s))
  | routeSet _ => exact .next (routeSet_keeps (.refl s))
  | routeClear _ => exact .next (routeClear_keeps (.refl s))
  | routeQuery _ => exact .next (routeQuery_keeps (.refl s))
  | routeChangeBegin _ => exact .next (routeChangeBegin_keeps (.refl s))
  | routeFadeEnd _ => exact .next (routeFadeEnd_keeps (.refl s))
  | xpZcTimeout _ => exact .next (xpZcTimeout_keeps (.refl s))
  | gainRampEnd _ => exact .next (gainRampEnd_keeps (.refl s))
  | clkDombCfgWrite _ => exact .next (clkDombCfgWrite_keeps (.refl s))
  | dombLocked _ => exact .next (dombLocked_keeps (.refl s))
  | dombHoldEnd => exact .next (dombHoldEnd_keeps (.refl s))
  | clkStop _ => exact .next (clkStop_keeps (.refl s))
  | clkSlip _ _ => exact .next (clkSlip_keeps (.refl s))
  | clkResume _ _ _ => exact .next (clkResume_keeps (.refl s))
  | clkRate _ _ => exact .next (clkRate_keeps (.refl s))
  | brgCfgWrite _ _ => exact .next (brgCfgWrite_keeps (.refl s))
  | brgSettle _ _ => exact .next (brgSettle_keeps (.refl s))
  | brgLock _ => exact .next (brgLock_keeps (.refl s))
  | brgUnlock _ _ => exact .next (brgUnlock_keeps (.refl s))
  | bridgeHold _ => exact .next (bridgeHold_keeps (.refl s))
  | bridgeResume _ => exact .next (bridgeResume_keeps (.refl s))
  | brgSlip _ => exact .next (brgSlip_keeps (.refl s))
  | codexLoad _ _ _ => exact .next (codexLoad_keeps (.refl s))
  | codexLoadVerify _ _ _ => exact .next (codexLoadVerify_keeps (.refl s))
  | codexLoadShelf _ _ _ => exact .next (codexLoadShelf_keeps (.refl s))
  | loadTeardown => exact .next (loadTeardown_keeps (.refl s))
  | loadVerifyEnd => exact .next (loadVerifyEnd_keeps (.refl s))
  | shelfStop => exact .next (shelfStop_keeps (.refl s))
  | loadStart => exact .next (loadStart_keeps (.refl s))
  | lendChunk _ _ _ => exact .next (lendChunk_keeps (.refl s))
  | lendNak _ _ => exact .next (lendNak_keeps (.refl s))
  | lendPause _ => exact .next (lendPause_keeps (.refl s))
  | lendResume _ => exact .next (lendResume_keeps (.refl s))
  | lendDone _ _ => exact .next (lendDone_keeps (.refl s))
  | autoLend _ => exact .next (autoLend_keeps (.refl s))
  | slotErase _ _ => exact .next (slotErase_keeps (.refl s))
  | slotWrite _ _ => exact .next (slotWrite_keeps (.refl s))
  | slotCommit _ _ => exact .next (slotCommit_keeps (.refl s))
  | slotRevoke _ _ => exact .next (slotRevoke_keeps (.refl s))
  | sapCfgWrite _ _ => exact .next (sapCfgWrite_keeps (.refl s))
  | sapMuteWrite _ _ => exact .next (sapMuteWrite_keeps (.refl s))
  | portMuteRampEnd _ _ => exact .next (portMuteRampEnd_keeps (.refl s))
  | sapRxFrame _ _ => exact .next (sapRxFrame_keeps (.refl s))
  | sapTxFrame _ => exact .next (sapTxFrame_keeps (.refl s))
  | startBallEdge _ => exact .next (startBallEdge_keeps (.refl s))
  | sapStartGo _ => exact .next (sapStartGo_keeps (.refl s))
  | start _ => exact .next (start_keeps (.refl s))
  | portStart => exact .next (portStart_keeps (.refl s))
  | spdRxCfgWrite _ => exact .next (spdRxCfgWrite_keeps (.refl s))
  | spdLock _ => exact .next (spdLock_keeps (.refl s))
  | spdUnlock => exact .next (spdUnlock_keeps (.refl s))
  | spdSubframe _ _ _ _ => exact .next (spdSubframe_keeps (.refl s))
  | spdBlockEnd => exact .next (spdBlockEnd_keeps (.refl s))
  | txCsCommit _ => exact .next (txCsCommit_keeps (.refl s))
  | txUdCommit _ => exact .next (txUdCommit_keeps (.refl s))
  | spdTxBlockStart => exact .next (spdTxBlockStart_keeps (.refl s))
  | ainCfgWrite _ _ => exact .next (ainCfgWrite_keeps (.refl s))
  | ainStartingEnd _ => exact .next (ainStartingEnd_keeps (.refl s))
  | ainSettleEnd _ => exact .next (ainSettleEnd_keeps (.refl s))
  | ainZcTimeout _ => exact .next (ainZcTimeout_keeps (.refl s))
  | ainBiasCfgWrite _ => exact .next (biasCfgWrite_keeps (.refl s))
  | biasRampDone _ => exact .next (biasRampDone_keeps (.refl s))
  | ainBiasFault _ => exact .next (Keeps.ite (State.jackBiasFault_keeps (ainBiasFault_keeps (.refl s))) (.refl s))
  | pdmCfgWrite _ => exact .next (pdmCfgWrite_keeps (.refl s))
  | pdmClockChange _ => exact .next (pdmClockChange_keeps (.refl s))
  | pdmClockStart _ => exact .next (pdmClockStart_keeps (.refl s))
  | privEngage => exact .next (privEngage_keeps (.refl s))
  | privReleased => exact .next (privReleased_keeps (.refl s))
  | wakeArchCfgWrite _ => exact .next (wakeArchCfgWrite_keeps (.refl s))
  | wakeCtlWrite _ => exact .next (wakeCtlWrite_keeps (.refl s))
  | check => exact .next (State.modelCheck_keeps (.refl s))
  | modelCheckDone => exact .next (modelCheckDone_keeps (.refl s))
  | spotterHop _ _ => exact .next (spotterHop_keeps (.refl s))
  | handover _ => exact .next (handover_keeps (.refl s))
  | hoGo => exact .next (hoGo_keeps (.refl s))
  | hoStop => exact .next (hoStop_keeps (.refl s))
  | hoAuto => exact .next (hoAuto_keeps (.refl s))
  | spkCfgWrite _ _ => exact .next (spkCfgWrite_keeps (.refl s))
  | spkCtlWrite _ => exact .next (spkCtlWrite_keeps (.refl s))
  | spkStart _ => exact .next (spkStart_keeps (.refl s))
  | spkLoadCheck _ _ => exact .next (spkLoadCheck_keeps (.refl s))
  | spkRampDone _ => exact .next (spkRampDone_keeps (.refl s))
  | spkStop _ => exact .next (spkStop_keeps (.refl s))
  | spkRest _ => exact .next (spkRest_keeps (.refl s))
  | spkRelayRelease _ => exact .next (spkRelayRelease_keeps (.refl s))
  | spkRelayHeld _ _ _ => exact .next (spkRelayHeld_keeps (.refl s))
  | spkPvddUv _ => exact .next (spkPvddUv_keeps (.refl s))
  | spkPvddOv _ => exact .next (spkPvddOv_keeps (.refl s))
  | pvddRecovery _ => exact .next (pvddRecovery_keeps (.refl s))
  | spkDcFault _ _ => exact .next (spkDcFault_keeps (.refl s))
  | currentLimit _ _ _ => exact .next (currentLimit_keeps (.refl s))
  | spkRetry _ => exact .next (spkRetry_keeps (.refl s))
  | spkRecovered _ => exact .next (spkRecovered_keeps (.refl s))
  | spkClear _ => exact .next (spkClear_keeps (.refl s))
  | stageTempRead _ => exact .next (State.thermalCheck_keeps (stageTempRead_keeps (.refl s)))
  | pilotWindowEnd _ _ => exact .next (pilotWindowEnd_keeps (.refl s))
  | tweet _ => exact .next (tweet_keeps (.refl s))
  | tweetDone _ _ => exact .next (tweetDone_keeps (.refl s))
  | hpoCfgWrite _ _ => exact .next (hpoCfgWrite_keeps (.refl s))
  | hpoStart _ => exact .next (hpoStart_keeps (.refl s))
  | hpoRampDone _ => exact .next (hpoRampDone_keeps (.refl s))
  | hpoStopDone _ => exact .next (hpoStopDone_keeps (.refl s))
  | hpoShort _ => exact .next (hpoShort_keeps (.refl s))
  | hpoRestart _ => exact .next (hpoRestart_keeps (.refl s))
  | hpoRecovered _ => exact .next (hpoRecovered_keeps (.refl s))
  | hpoCpFault _ => exact .next (hpoCpFault_keeps (.refl s))
  | hpoClear _ => exact .next (hpoClear_keeps (.refl s))
  | detJackCfgWrite _ _ => exact .next (detJackCfgWrite_keeps (.refl s))
  | jackEdge _ _ => exact .next (jackEdge_keeps (.refl s))
  | detInsert _ => exact .next (detInsert_keeps (.refl s))
  | jackSeatEnd _ => exact .next (jackSeatEnd_keeps (.refl s))
  | detSample _ _ => exact .next (detSample_keeps (.refl s))
  | detRemove _ => exact .next (detRemove_keeps (.refl s))
  | reident _ => exact .next (reident_keeps (.refl s))
  | linkDetect _ => exact .next (linkDetect_keeps (.refl s))
  | chnLinkUp _ _ => exact .next (chnLinkUp_keeps (.refl s))
  | chnLinkDown _ _ => exact .next (chnLinkDown_keeps (.refl s))
  | retrainUp => exact .next (retrainUp_keeps (.refl s))
  | retrainDn => exact .next (retrainDn_keeps (.refl s))
  | chainFrameRx _ _ => exact .next (chainFrameRx_keeps (.refl s))
  | deal _ => exact .next (deal_keeps (.refl s))
  | dealRsp _ => exact .next (Keeps.ite (unitDealRsp_keeps (.refl s)) (.refl s))
  | chnDealDone => exact .next (chnDealDone_keeps (.refl s))
  | topoAttach _ => exact .next (Keeps.ite (unitAttach_keeps (.refl s)) (.refl s))
  | detachTimeout _ => exact .next (detachTimeout_keeps (.refl s))
  | topoDetach _ => exact .next (Keeps.ite (unitDetach_keeps (.refl s)) (.refl s))
  | idleUnit _ => exact .next (idleUnit_keeps (.refl s))
  | write _ => exact .next (Keeps.ite (unitWrite_keeps (.refl s)) (.refl s))
  | read _ => exact .next (Keeps.ite (unitRead_keeps (.refl s)) (.refl s))
  | readRsp _ => exact .next (Keeps.ite (unitReadRsp_keeps (.refl s)) (.refl s))
  | cmd _ => exact .next (Keeps.ite (unitCmd_keeps (.refl s)) (.refl s))
  | cpl _ => exact .next (Keeps.ite (unitCpl_keeps (.refl s)) (.refl s))
  | event _ => exact .next (Keeps.ite (unitEvent_keeps (.refl s)) (.refl s))
  | ack _ => exact .next (Keeps.ite (unitAck_keeps (.refl s)) (.refl s))
  | tunnelResend _ => exact .next (tunnelResend_keeps (.refl s))
  | resetRpt _ => exact .next (Keeps.ite (unitResetRpt_keeps (.refl s)) (.refl s))
  | chnTunGo => exact .next (chnTunGo_keeps (.refl s))
  | chnTunTimeout => exact .next (chnTunTimeout_keeps (.refl s))
  | ringCfgWrite _ _ => exact .next (ringCfgWrite_keeps (.refl s))
  | ringTailWrite _ _ => exact .next (ringTailWrite_keeps (.refl s))
  | ringHeadWrite _ _ => exact .next (ringHeadWrite_keeps (.refl s))
  | skip _ => exact .next (skip_keeps (.refl s))
  | retry _ => exact .next (retry_keeps (.refl s))
  | flush _ => exact .next (flush_keeps (.refl s))
  | ringNop _ => exact .next (ringNop_keeps (.refl s))
  | waitFrame _ => exact .next (waitFrame_keeps (.refl s))
  | waitFrames _ => exact .next (waitFrames_keeps (.refl s))
  | waitEvent _ => exact .next (waitEvent_keeps (.refl s))
  | waitPower _ => exact .next (waitPower_keeps (.refl s))
  | waitEnd _ => exact .next (waitEnd_keeps (.refl s))
  | fence _ => exact .next (fence_keeps (.refl s))
  | fenceEnd _ => exact .next (fenceEnd_keeps (.refl s))
  | abort _ => exact .next (abort_keeps (.refl s))
  | fold _ => exact .next (foldCmd_keeps (.refl s))
  | param _ => exact .next (param_keeps (.refl s))
  | calibrateAll _ => exact .next (calibrate_keeps (.refl s))
  | calibrateAin _ => exact .next (calibrate_keeps (.refl s))
  | calibrateSpk _ => exact .next (calibrate_keeps (.refl s))
  | calibrateHpo _ => exact .next (calibrate_keeps (.refl s))
  | calibrateHka _ => exact .next (calibrate_keeps (.refl s))
  | calInstall _ _ _ => exact .next (calInstall_keeps (.refl s))
  | hkaAutoCal => exact .next (hkaAutoCal_keeps (.refl s))
  | bankTest _ => exact .next (bankTest_keeps (.refl s))
  | nvsRead _ => exact .next (nvsRead_keeps (.refl s))
  | nvsWrite _ _ => exact .next (nvsWrite_keeps (.refl s))
  | annalsFlush _ => exact .next (annalsFlush_keeps (.refl s))
  | annalsFreeze _ => exact .next (annalsFreeze_keeps (.refl s))
  | annalsUnfreeze _ => exact .next (annalsUnfreeze_keeps (.refl s))
  | annalsClear _ => exact .next (annalsClear_keeps (.refl s))
  | clearKeySet _ _ => exact .next (clearKeySet_keeps (.refl s))
  | auxXfer _ _ _ => exact .next (auxXfer_keeps (.refl s))
  | auxClear _ _ => exact .next (auxClear_keeps (.refl s))
  | resetWarm _ => exact .next (resetCmd_keeps (.refl s))
  | resetFabric _ => exact .next (resetCmd_keeps (.refl s))
  | hostBusWrite _ _ _ => exact .next (hostBusWrite_keeps (.refl s))
  | hostBusRead _ _ => exact .next (hostBusRead_keeps (.refl s))
  | hostTransactionEnd _ _ _ => exact .next (hostTransactionEnd_keeps (.refl s))
  | twbTimeout _ _ _ => exact .next (twbTimeout_keeps (.refl s))
  | alertResponse _ => exact .next (alertResponse_keeps (.refl s))
  | dormantAddressMatch _ _ => exact .next (dormantAddressMatch_keeps (.refl s))
  | bankRelease _ _ => exact .next (bankRelease_keeps (.refl s))
  | regionTest _ _ => exact .next (regionTest_keeps (.refl s))
  | regionTestEnd _ _ => exact .next (regionTestEnd_keeps (.refl s))
  | pwrPlWrite _ => exact .next (pwrPlWrite_keeps (.refl s))
  | powerGood => exact .next (powerGood_keeps (.refl s))
  | plChange => exact .next (plChange_keeps (.refl s))
  | pwrPgTimeout => exact .next (pwrPgTimeout_keeps (.refl s))
  | pwrPgLost => exact .next (pwrPgLost_keeps (.refl s))
  | sleepEntry => exact .next (sleepEntry_keeps (.refl s))
  | pwrEntryTimeout => exact .next (pwrEntryTimeout_keeps (.refl s))
  | wake => exact .next (wake_keeps (.refl s))
  | wakeTimer => exact .next (wakeTimer_keeps (.refl s))
  | sleepExit _ _ => exact .next (sleepExit_keeps (.refl s))
  | pwrXoFail _ => exact .next (pwrXoFail_keeps (.refl s))
  | pwrLfxFail => exact .next (pwrLfxFail_keeps (.refl s))
  | pwrLfxResume _ => exact .next (pwrLfxResume_keeps (.refl s))
  | curatorWindow _ => exact .next (curatorWindow_keeps (.refl s))
  | scrubRead _ _ _ => exact .next (scrubRead_keeps (.refl s))
  | curatorWriteBack _ => exact .next (curatorWriteBack_keeps (.refl s))
  | telemetry => exact .next (telemetry_keeps (.refl s))
  | sectorMove _ => exact .next (sectorMove_keeps (.refl s))
  | hkaScan => exact .next (hkaScan_keeps (.refl s))
  | conv _ => exact .next (conv_keeps (.refl s))
  | hkaConversionDone _ _ _ => exact .next (hkaConversionDone_keeps (.refl s))
  | tachEdge _ => exact .next (tachEdge_keeps (.refl s))
  | hkaTachLost => exact .next (hkaTachLost_keeps (.refl s))
  | pfail => exact .next (pfail_keeps (.refl s))
  | pfailClear => exact .next (pfailClear_keeps (.refl s))
  | annalsAutoFlush => exact .next (annalsAutoFlush_keeps (.refl s))
  | flushDone _ _ => exact .next (flushDone_keeps (.refl s))
  | nvsFreezeTo => exact .next (nvsFreezeTo_keeps (.refl s))
  | nvsCalSet _ => exact .next (nvsCalSet_keeps (.refl s))
  | faultNLow => exact .next (faultNLow_keeps (.refl s))
  | faultNHigh => exact .next (faultNHigh_keeps (.refl s))
  | keepFolded => exact .next (Keeps.ite (State.resetApply_keeps (keepFolded_keeps (.refl s))) (keepFolded_keeps (.refl s)))
  | keepForced _ => exact .next (keepForced_keeps (.refl s))
  | release => exact .next (release_keeps (.refl s))
  | keepCmdFold => exact .next (keepCmdFold_keeps (.refl s))
  | kick _ => exact .next (kick_keeps (.refl s))
  | keepWdt => exact .next (keepWdt_keeps (.refl s))
  | keepThermClr => exact .next (keepThermClr_keeps (.refl s))
  | spdTxCfgWrite _ => exact .next (spdTxCfgWrite_keeps (.refl s))
  | powerLoss => exact .next (powerLoss_keeps (.refl s))
  | privNRise => exact .next (privNRise_keeps (.refl s))
  | spkZeroStateEnd _ => exact .next (spkZeroStateEnd_keeps (.refl s))
  | hpoServoEnd _ => exact .next (hpoServoEnd_keeps (.refl s))
  | trainingTimeout _ => exact .next (trainingTimeout_keeps (.refl s))
  | returnToDormant => exact .next (returnToDormant_keeps (.refl s))

/-- Settles O52: each row of the table answers a next state (`exec_keepsNext`). -/
theorem everyCommandAnswersNext : Obligations.EveryCommandAnswersNext := by
  unfold Obligations.EveryCommandAnswersNext
  intro c s
  obtain ⟨t, ht, -⟩ := (exec_keepsNext c s).exists_next
  exact ⟨t, ht⟩

/-- Settles O51: `step` is the case split on the queue. -/
theorem stepRunsCommandInFront : Obligations.StepRunsCommandInFront := by
  unfold Obligations.StepRunsCommandInFront
  refine ⟨fun s c rest hp => ?_, fun s hp => ?_⟩
  · rw [step, hp]
  · rw [step, hp]

/-- Settles O53: an idle step leaves the state as it was, and the command in front keeps the queue and the memories
(`exec_keepsNext`). -/
theorem stepKeepsMemoriesCanonical : Obligations.StepKeepsMemoriesCanonical := by
  unfold Obligations.StepKeepsMemoriesCanonical
  intro s t hstep
  cases hp : s.pending with
  | nil =>
    rw [step, hp] at hstep
    cases hstep
    exact ⟨hp, id⟩
  | cons c rest =>
    rw [step, hp] at hstep
    obtain ⟨u, hu, hkeeps⟩ := (exec_keepsNext c { s with pending := rest }).exists_next
    cases hu.symm.trans hstep
    exact hkeeps

/-- A field above the last one that `resetRegs` lists reads its table's reset value. -/
theorem State.get_reset_of_above {f : Fld} (h : 0x380DFE00 < Fld.key f) : State.reset.get f = f.rst := by
  have hall : ∀ p ∈ resetRegs, p.1 ≤ 0x380DFE00 := by decide
  have hfind : ∀ m : SMap Nat, (∀ p ∈ m, p.1 < Fld.key f) → mapFind m (Fld.key f) = none := by
    intro m
    induction m with
    | nil => intro _; rfl
    | cons p m ih =>
      intro hm
      rw [mapFind, if_neg (Nat.ne_of_gt (hm p List.mem_cons_self)), ih fun q hq => hm q (List.mem_cons_of_mem _ hq)]
  exact congrArg (Option.getD · f.rst) (hfind resetRegs fun p hp => Nat.lt_of_le_of_lt (hall p hp) h)

/-- Settles O54: the state after reset is closed, so each of its values is computed; the fields of the tiles lie above those that
`resetRegs` lists (`State.get_reset_of_above`). -/
theorem resetStateValues : Obligations.ResetStateValues := by
  unfold Obligations.ResetStateValues
  have htiles : ∀ t : TileIx, State.reset.get (FAB_TILE_STAT_STATE t) = 0 := fun t =>
    State.get_reset_of_above (by simp only [Fld.key, FAB_TILE_STAT_STATE]; omega)
  have hspks : ∀ n : FourIx, State.reset.get (SPK_STAT_STATE n) = 0 := by decide
  refine ⟨rfl, ⟨rfl, rfl, rfl⟩, ?_⟩
  refine ⟨by decide, by decide, by decide, by decide, by decide, by decide, by decide, by decide, by decide, by decide, by decide,
    by decide, by decide, by decide, by decide, by decide, by decide, by decide, by decide, by decide, by decide, by decide, by decide,
    htiles, hspks⟩

/-! ### Words that the block encodes -/

theorem decodeMicro_encodeMicro (m : Micro) : decodeMicro (encodeMicro m) = m := by
  obtain ⟨opc, dst, srca, srcb, cond, acs, mod, imm⟩ := m
  simp only [decodeMicro, encodeMicro, Micro.mk.injEq]
  refine ⟨?_, ?_, ?_, ?_, ?_, ?_, ?_, ?_⟩ <;> ext i hi <;> simp <;> grind

theorem encodeMicro_decodeMicro (w : Word) : encodeMicro (decodeMicro w) = w := by
  simp only [decodeMicro, encodeMicro]
  ext i hi
  simp
  grind

/-- R333: a header gives back its SEQ and the fields that it was made of. -/
theorem tunHdr_fields {unit type seq addr ring word nw status : Nat} (hu : unit < 16) (ht : type < 16) (hs : seq < 65536)
    (ha : addr < 2 ^ 24) (hr : ring < 64) (hw : word < 8) (hn : nw < 8) (hst : status < 16) :
    let h := withSeq (tunHdr unit type addr ring word nw status) seq
    tunUnit h = unit ∧ tunType h = type ∧ tunSeq h = seq ∧ tunAddr h = addr ∧ tunRing h = ring ∧ tunWord h = word ∧ tunNw h = nw ∧
      tunStatus h = status ∧ h < 2 ^ 64 := by
  simp only [withSeq, tunHdr, tunUnit, tunType, tunSeq, tunAddr, tunRing, tunWord, tunNw, tunStatus, bits, Nat.shiftRight_eq_div_pow]
  omega

/-- R354: the words of a completion give back what they were made of. -/
theorem cplWords_fields (s : State) {r seq opc status result : Nat} (retried : Bool) (hr : r < 64) (hs : seq < 65536)
    (ho : opc < 256) (hst : status < 256) (hres : result < 2 ^ 32) (hf : s.frame < 2 ^ 32) :
    let w := cplWords s r seq opc status result retried
    bits w.1 0 16 = seq ∧ bits w.1 16 8 = opc ∧ bits w.1 24 8 = status ∧ bits w.1 32 6 = r ∧ bitOf w.1 42 = retried ∧
      bits w.2 0 32 = s.frame ∧ bits w.2 32 32 = result ∧ w.1 < 2 ^ 64 ∧ w.2 < 2 ^ 64 := by
  cases retried <;>
    simp only [cplWords, bits, bitOf, b2n, Nat.shiftRight_eq_div_pow, beq_eq_false_iff_ne, beq_iff_eq, reduceIte, Bool.false_eq_true] <;>
    omega

/-- Settles O56, word by word. -/
theorem encodedWordsGiveBackTheirFields : Obligations.EncodedWordsGiveBackTheirFields := by
  unfold Obligations.EncodedWordsGiveBackTheirFields
  exact ⟨decodeMicro_encodeMicro, encodeMicro_decodeMicro, fun _ _ _ _ _ _ _ _ => tunHdr_fields,
    fun s _ _ _ _ _ retried => cplWords_fields s retried⟩

end Sys2Proof.Machine
end

section
/-! Register fields, memories and tiles under a chain of updates: what an operation leaves alone, said as a relation that its steps
compose to (`SameRegs`, `Quiet`), and what a tile's reads of its memories may change (`ReadOnly`; R49). -/

namespace Sys2Proof.Machine

variable {l : List Fld} {s t u : State}

/-! ### Register fields that an operation leaves alone -/

theorem fldIn_append (l k : List Fld) (f : Fld) : fldIn (l ++ k) f = (fldIn l f || fldIn k f) := by simp [fldIn]

theorem SameRegs.refl (l : List Fld) (s : State) : SameRegs l s s := fun _ _ => rfl

theorem SameRegs.trans (h : SameRegs l s t) (k : SameRegs l t u) : SameRegs l s u := fun f hf => (k f hf).trans (h f hf)

theorem SameRegs.mono {k : List Fld} (h : SameRegs l s t) (hk : ∀ f, fldIn l f = true → fldIn k f = true) : SameRegs k s t := by
  intro f hf
  refine h f (Bool.eq_false_iff.2 fun hl => ?_)
  rw [hk f hl] at hf
  cases hf

/-- A write of a field of `l`. -/
theorem SameRegs.put {f : Fld} (h : SameRegs l s t) (hf : fldIn l f = true) (v : Nat) : SameRegs l s (t.put f v) := by
  intro g hg
  refine (State.get_put_ne t v fun he => ?_).trans (h g hg)
  rw [fldIn, he, ← fldIn, hf] at hg
  cases hg

theorem SameRegsEv.of_eventFld {f : Fld} (hf : fldIn eventFlds f = true) : fldIn (l ++ eventFlds) f = true := by
  rw [fldIn_append, hf, Bool.or_true]

theorem fldIn_append_left {k : List Fld} {f : Fld} (hf : fldIn l f = true) : fldIn (l ++ k) f = true := by
  rw [fldIn_append, hf, Bool.true_or]

/-- A write of a field of `l`, where events may have come too. -/
theorem SameRegsEv.put {f : Fld} (h : SameRegsEv l s t) (hf : fldIn l f = true) (v : Nat) : SameRegsEv l s (t.put f v) :=
  SameRegs.put h (fldIn_append_left hf) v

/-- An event. -/
theorem SameRegsEv.post (h : SameRegsEv l s t) (c v p : Nat) : SameRegsEv l s (t.post c v p) :=
  SameRegs.trans h ((t.post_eventOnly c v p).regs.mono fun _ hf => SameRegsEv.of_eventFld hf)

theorem SameRegsEv.trans (h : SameRegsEv l s t) (k : SameRegsEv l t u) : SameRegsEv l s u := SameRegs.trans h k

/-- A change outside the registers. -/
theorem SameRegsEv.of_regs_eq (h : SameRegsEv l s t) (hregs : u.regs = t.regs) : SameRegsEv l s u := SameRegs.of_regs_eq h hregs

theorem SameRegsEv.get {f : Fld} (h : SameRegsEv l s t) (hf : fldIn l f = false) (he : fldIn eventFlds f = false) :
    t.get f = s.get f := h f (by rw [fldIn_append, hf, he]; rfl)

/-! ### What a tile's reads change -/

/-- From `s` to `u` reads have been counted in fields of `l`, events have come, and write-backs and tests have been queued. -/
structure ReadOnly (l : List Fld) (s u : State) : Prop where
  tiles : u.tiles = s.tiles
  memories : SameMemories s u
  ecc : u.ecc = s.ecc
  frame : u.frame = s.frame
  regs : SameRegsEv l s u

theorem ReadOnly.refl (l : List Fld) (s : State) : ReadOnly l s s := ⟨rfl, .refl s, rfl, rfl, .refl _ s⟩

theorem ReadOnly.trans (h : ReadOnly l s t) (k : ReadOnly l t u) : ReadOnly l s u :=
  ⟨k.tiles.trans h.tiles, h.memories.trans k.memories, k.ecc.trans h.ecc, k.frame.trans h.frame, h.regs.trans k.regs⟩

theorem ReadOnly.mono {k : List Fld} (h : ReadOnly l s t) (hk : ∀ f, fldIn l f = true → fldIn k f = true) : ReadOnly k s t :=
  ⟨h.tiles, h.memories, h.ecc, h.frame, SameRegs.mono h.regs fun f hf => by
    rw [fldIn_append] at hf ⊢
    rcases Bool.or_eq_true_iff.1 hf with hf | hf
    · rw [hk f hf, Bool.true_or]
    · rw [hf, Bool.or_true]⟩

theorem ReadOnly.put {f : Fld} (h : ReadOnly l s t) (hf : fldIn l f = true) (v : Nat) : ReadOnly l s (t.put f v) :=
  ⟨h.tiles, h.memories, h.ecc, h.frame, h.regs.put hf v⟩

theorem ReadOnly.bump {f : Fld} (h : ReadOnly l s t) (hf : fldIn l f = true) : ReadOnly l s (t.bump f) := h.put hf _

theorem ReadOnly.post (h : ReadOnly l s t) (c v p : Nat) : ReadOnly l s (t.post c v p) := by
  obtain ⟨htiles, ⟨hmem, hnvs, hflash⟩, hecc, hframe, hregs⟩ := h
  exact ⟨by rw [State.post_tiles, htiles], ⟨by rw [State.post_mem, hmem], by rw [State.post_nvs, hnvs], by rw [State.post_flash, hflash]⟩,
    by rw [State.post_ecc, hecc], by rw [State.post_frame, hframe], hregs.post c v p⟩

theorem ReadOnly.queueWb (h : ReadOnly l s t) (a k : Nat) : ReadOnly l s (t.queueWb a k) :=
  ⟨h.tiles, h.memories, h.ecc, h.frame, h.regs⟩

section Reads

variable (h : ReadOnly l s u)
include h

theorem ReadOnly.tile (t : Nat) : u.tile t = s.tile t := by rw [State.tile, h.tiles, State.tile]

theorem ReadOnly.memWord (a : Nat) : u.memWord a = s.memWord a := by rw [State.memWord, h.memories.1, State.memWord]

theorem ReadOnly.memByte (a : Nat) : u.memByte a = s.memByte a := by rw [State.memByte, h.memories.1, State.memByte]

theorem ReadOnly.mark (a : Nat) : u.mark a = s.mark a := by rw [State.mark, h.ecc, State.mark]

theorem ReadOnly.quiet : Quiet l s u := ⟨h.memories.sameBytes, h.regs⟩

theorem ReadOnly.get {f : Fld} (hf : fldIn l f = false) (he : fldIn eventFlds f = false) : u.get f = s.get f := h.regs.get hf he

theorem ReadOnly.tileOuts (t : Nat) : u.tileOuts t = s.tileOuts t := by rw [State.tileOuts, h.memWord, State.tileOuts]

theorem ReadOnly.areg (t n : Nat) : u.areg t n = s.areg t n := by rw [State.areg, h.memWord, State.areg]

theorem ReadOnly.aregCell (t n o : Nat) : u.aregCell t n o = s.aregCell t n o := by
  rw [State.aregCell, h.areg, h.tile, State.aregCell]

theorem ReadOnly.errCell : u.errCell = s.errCell := by rw [State.errCell, State.tag, h.frame, State.errCell, State.tag]

theorem ReadOnly.zeroCell : u.zeroCell = s.zeroCell := by rw [State.zeroCell, State.tag, h.frame, State.zeroCell, State.tag]

theorem ReadOnly.secKind (t sec : Nat) : u.secKind t sec = s.secKind t sec := by
  simp only [State.secKind, State.slotWord, h.tile, h.memWord]

end Reads

/-- What the tiles' reads of words of their frames and state RAMs count. -/
def correctedFld : List Fld := [FAB_ECC_CNT_CORRECTED]

theorem State.fabCorrected_readOnly (s : State) (a : Nat) : ReadOnly correctedFld s (s.fabCorrected a) :=
  ((ReadOnly.refl _ s).bump (by decide)).queueWb a 1

theorem State.noteWord_readOnly (s : State) (a : Nat) : ReadOnly correctedFld s (s.noteWord a) := by
  unfold State.noteWord
  split
  · exact s.fabCorrected_readOnly a
  · exact .refl _ s

theorem State.noteFetch_readOnly (s : State) (t : Nat) : ReadOnly correctedFld s (s.noteFetch t) := s.noteWord_readOnly _

theorem State.noteAreg_readOnly (s : State) (t n : Nat) : ReadOnly correctedFld s (s.noteAreg t n) := s.noteWord_readOnly _

theorem State.readParam_readOnly (s : State) (t p : Nat) : ReadOnly correctedFld s (s.readParam t p).2 := by
  unfold State.readParam
  dsimp only
  split
  · exact (ReadOnly.refl _ s).post 0x0408 sevWarn _
  · exact s.fabCorrected_readOnly _
  · exact .refl _ s

/-- R65: an operand read counts a corrected parameter word, or reports a damaged one. -/
theorem State.readOperand_readOnly (s : State) (t c : Nat) : ReadOnly correctedFld s (s.readOperand t c).2 := by
  unfold State.readOperand
  dsimp only
  split_ifs
  all_goals first | exact .refl _ s | exact s.readParam_readOnly t _

/-- The cell that an operand read delivers depends on the tiles, the memories, their marks and the frame alone. -/
theorem ReadOnly.operand (h : ReadOnly l s u) (t c : Nat) : (u.readOperand t c).1 = s.operand t c := by
  unfold State.operand State.readOperand State.readParam
  simp only [h.tile, h.mark, h.memWord, h.errCell]
  split_ifs
  all_goals first | rfl | skip
  split <;> rfl

end Sys2Proof.Machine
end

section
/-! Tile instructions: how a legal instruction that fits in the budget executes (R61 to R69), and what its effect leaves in the tile
(R65 to R67). -/

namespace Sys2Proof.Machine

variable {l : List Fld} {s u : State} {t o stalls : Nat} {m : Micro}

/-! ### The instruction at the PC executes -/

theorem foldl_eq_of_forall_mem {α β : Type} {f : α → β → α} {a : α} {l : List β} (h : ∀ b ∈ l, f a b = a) : l.foldl f a = a := by
  induction l with
  | nil => rfl
  | cons b l ih =>
    rw [List.foldl_cons, h b List.mem_cons_self]
    exact ih fun c hc => h c (List.mem_cons_of_mem _ hc)

theorem Tile.pendingIn_none_of_waitsFor {x : Tile} (h : x.waitsFor m = none) :
    (usesA m.opc.toNat = true → x.pendingIn m.srca.toNat = none) ∧ (usesB m.opc.toNat = true → x.pendingIn m.srcb.toNat = none) := by
  unfold Tile.waitsFor at h
  dsimp only at h
  split at h
  · cases h
  · next hA =>
    refine ⟨fun hu => by rwa [if_pos hu] at hA, fun hu => by rwa [if_pos hu] at h⟩

/-- An instruction that waits for no CURR input latches none (R55). -/
theorem State.readyCurrs_of_waitsFor (h : (s.tile t).waitsFor m = none) : s.readyCurrs t m = s := by
  obtain ⟨hA, hB⟩ := Tile.pendingIn_none_of_waitsFor h
  have hnone : ∀ c, c = m.srca.toNat ∨ c = m.srcb.toNat →
      (if (if c = m.srca.toNat then usesA m.opc.toNat || (usesB m.opc.toNat && m.srcb.toNat == c) else usesB m.opc.toNat) = true
        then (s.tile t).pendingIn c else none) = none := by
    grind
  refine foldl_eq_of_forall_mem fun c hc => ?_
  dsimp only
  rw [hnone c (by simpa using hc)]

/-- R61: a legal instruction whose condition holds, that waits for nothing and fits in the budget has its effect. -/
theorem State.runMicro_of_executes {k : Nat} (eff : Effect) (h : Executes s t o k m) (hk : stalls ≤ k) :
    s.runMicro t o stalls eff = eff t m ((s.tile t).doneCycle m + stalls) (s.noteFetch t) := by
  have hcurrs : s.readyCurrs t m = s := State.readyCurrs_of_waitsFor h.input
  have hcond : ¬ (m.opc.toNat ≠ 0x20 ∧ ¬ condHolds (s.tile t) m.cond.toNat = true) := by
    rw [h.opcode]
    exact fun ⟨ho, hc⟩ => hc (h.cond ho)
  have hfits : ¬ (s.tile t).budget < (s.tile t).doneCycle m + stalls := by have := h.budget; omega
  simp [State.runMicro, h.running, h.fetched, h.opcode, h.legal, hcurrs, h.input, h.engine, hfits]
  exact fun ho hc => absurd ⟨by rw [h.opcode]; exact ho, by simp [hc]⟩ hcond

/-! ### The next instruction -/

/-- R63: before instruction 191 the program goes on with the next instruction. -/
theorem State.advance_of_lt {c : Nat} (h : (s.tile t).pc < 191) :
    s.advance t c = s.setTile t { s.tile t with cyc := c, pc := (s.tile t).pc + 1 } := by
  simp [State.advance, State.nextInstr, Nat.ne_of_lt h]

/-- A tile that has taken the state `x` and gone on. -/
theorem State.advance_setTile {x : Tile} {c : Nat} (h : x.pc < 191) :
    (s.setTile t x).advance t c = (s.setTile t x).setTile t { x with cyc := c, pc := x.pc + 1 } := by
  rw [State.advance_of_lt (by rwa [State.tile_setTile_same]), State.tile_setTile_same]

@[simp] theorem Tile.pc_writeOperand (x : Tile) (c : Nat) (v : Word) : (x.writeOperand c v).pc = x.pc := by
  unfold Tile.writeOperand; split_ifs <;> rfl

/-- What an instruction leaves that reads its operands, gives the tile the state `x`, and ends. -/
theorem ReadOnly.tileRan {x : Tile} (h : ReadOnly l s u) (hx : x.pc = (s.tile t).pc) (hpc : (s.tile t).pc < 191) :
    TileRan s ((u.setTile t x).advance t ((s.tile t).doneCycle m + stalls)) t stalls m x ∧
      Quiet l s ((u.setTile t x).advance t ((s.tile t).doneCycle m + stalls)) := by
  rw [State.advance_setTile (by rw [hx]; exact hpc), hx]
  obtain ⟨hbytes, hregs⟩ := h.quiet
  refine ⟨⟨State.tile_setTile_same _ _ _, fun k hk => ?_⟩, fun a => hbytes a, hregs.of_regs_eq rfl⟩
  rw [State.tile_setTile_ne _ _ hk, State.tile_setTile_ne _ _ hk, h.tile]

/-- What an instruction leaves that reads its operands and leaves the tile as it was. -/
theorem ReadOnly.advanced (h : ReadOnly l s u) (hpc : (s.tile t).pc < 191) :
    TileRan s (u.advance t ((s.tile t).doneCycle m + stalls)) t stalls m (s.tile t) ∧
      Quiet l s (u.advance t ((s.tile t).doneCycle m + stalls)) := by
  rw [State.advance_of_lt (by rwa [h.tile]), h.tile]
  obtain ⟨hbytes, hregs⟩ := h.quiet
  refine ⟨⟨State.tile_setTile_same _ _ _, fun k hk => ?_⟩, fun a => hbytes a, hregs.of_regs_eq rfl⟩
  rw [State.tile_setTile_ne _ _ hk, h.tile]

/-- What an instruction leaves that reads its operands and writes the result `v` to DST (R65). -/
theorem ReadOnly.resultRan {v : Word} (h : ReadOnly l s u) (hpc : (s.tile t).pc < 191) :
    TileRan s ((u.writeResult t m.dst.toNat v).advance t ((s.tile t).doneCycle m + stalls)) t stalls m (s.resultTile t m v) ∧
      Quiet l s ((u.writeResult t m.dst.toNat v).advance t ((s.tile t).doneCycle m + stalls)) := by
  rw [State.writeResult, h.tile]
  exact h.tileRan (by simp [setZN]) hpc

/-- An operand is read once the fetch has been counted: its cell is the one read in `s`. -/
theorem State.operand_noteFetch (s : State) (t c : Nat) : ((s.noteFetch t).readOperand t c).1 = s.operand t c :=
  (s.noteFetch_readOnly t).operand t c

theorem State.readA (s : State) (t c : Nat) : ReadOnly correctedFld s ((s.noteFetch t).readOperand t c).2 :=
  (s.noteFetch_readOnly t).trans (State.readOperand_readOnly _ t c)

theorem State.readB (s : State) (t c d : Nat) : ReadOnly correctedFld s (((s.noteFetch t).readOperand t c).2.readOperand t d).2 :=
  (s.readA t c).trans (State.readOperand_readOnly _ t d)

theorem State.operand_readA (s : State) (t c d : Nat) : (((s.noteFetch t).readOperand t c).2.readOperand t d).1 = s.operand t d :=
  (s.readA t c).operand t d

/-- A command of a tile whose instruction executes: it is enough to look at the effect. -/
theorem answers_runMicro {i : Instr} {eff : Effect} {k : Nat} {p : State → Prop} (hi : exec i s = .next (s.runMicro t o stalls eff))
    (h : Executes s t o k m) (hk : stalls ≤ k) (hp : p (eff t m ((s.tile t).doneCycle m + stalls) (s.noteFetch t))) :
    Answers i s p := ⟨_, hi, by rwa [State.runMicro_of_executes eff h hk]⟩

/-- A two-operand instruction writes the result of `f` to DST, with the flags of both operands (R65, R67). -/
theorem alu2_ran {f : Int → Int → Int} {v : Int} (h : Executes s t o stalls m)
    (hv : f (audioOf (s.operand t m.srca.toNat)) (audioOf (s.operand t m.srcb.toNat)) = v) :
    TileRan s (alu2 f t m ((s.tile t).doneCycle m + stalls) (s.noteFetch t)) t stalls m (s.resultTile t m (aluCell (s.tile t) v
      (flagsOf (s.operand t m.srca.toNat) ||| flagsOf (s.operand t m.srcb.toNat)))) ∧
    TileQuiet s (alu2 f t m ((s.tile t).doneCycle m + stalls) (s.noteFetch t)) := by
  subst hv
  have hran := (s.readB t m.srca.toNat m.srcb.toNat).resultRan (m := m) (stalls := stalls) (v := aluCell (s.tile t)
      (f (audioOf (s.operand t m.srca.toNat)) (audioOf (s.operand t m.srcb.toNat)))
      (flagsOf (s.operand t m.srca.toNat) ||| flagsOf (s.operand t m.srcb.toNat))) h.before
  simpa only [alu2, State.operand_noteFetch, State.operand_readA, (s.noteFetch_readOnly t).tile] using! hran

/-- A one-operand instruction. -/
theorem alu1_ran {f : Micro → Int → Int} {v : Int} (h : Executes s t o stalls m)
    (hv : f m (audioOf (s.operand t m.srca.toNat)) = v) :
    TileRan s (alu1 f t m ((s.tile t).doneCycle m + stalls) (s.noteFetch t)) t stalls m (s.resultTile t m (aluCell (s.tile t) v
      (flagsOf (s.operand t m.srca.toNat)))) ∧
    TileQuiet s (alu1 f t m ((s.tile t).doneCycle m + stalls) (s.noteFetch t)) := by
  subst hv
  have hran := (s.readA t m.srca.toNat).resultRan (m := m) (stalls := stalls) (v := aluCell (s.tile t)
      (f m (audioOf (s.operand t m.srca.toNat))) (flagsOf (s.operand t m.srca.toNat))) h.before
  simpa only [alu1, State.operand_noteFetch, (s.noteFetch_readOnly t).tile] using! hran

end Sys2Proof.Machine
end

section
/-! The end of a tick (R51, R69, R70), and the results of the tile instructions (R62 to R67). -/

namespace Sys2Proof.Machine

variable {l : List Fld} {s u : State} {t o stalls c : Nat} {m : Micro}

/-! ### A whole-word write, host writes that land late, and peaks -/

section MemPutRegs

variable (s : State) (a : Nat) (v : Word)

theorem State.get_memPut {f : Fld} (h : Fld.key f ≠ Fld.key CUR_CNT_WB_CANCEL) : (s.memPut a v).get f = s.get f := by
  unfold State.memPut
  split
  · exact (State.get_congr rfl f).trans (State.get_put_ne s _ h)
  · rfl

@[simp] theorem State.tiles_memPut : (s.memPut a v).tiles = s.tiles := by unfold State.memPut; split <;> rfl

@[simp] theorem State.tile_memPut (t : Nat) : (s.memPut a v).tile t = s.tile t := by rw [State.tile, State.tiles_memPut, State.tile]

@[simp] theorem State.frame_memPut : (s.memPut a v).frame = s.frame := by unfold State.memPut; split <;> rfl

end MemPutRegs

theorem State.tile_foldl_memPut (l : List (Nat × Word)) (s : State) (k : Nat) :
    (l.foldl (fun s p => s.memPut p.1 p.2) s).tile k = s.tile k := by
  induction l generalizing s with
  | nil => rfl
  | cons p l ih => rw [List.foldl_cons, ih, State.tile_memPut]

theorem State.get_foldl_memPut (l : List (Nat × Word)) (s : State) {f : Fld} (h : Fld.key f ≠ Fld.key CUR_CNT_WB_CANCEL) :
    (l.foldl (fun s p => s.memPut p.1 p.2) s).get f = s.get f := by
  induction l generalizing s with
  | nil => rfl
  | cons p l ih => rw [List.foldl_cons, ih, State.get_memPut _ _ _ h]

/-- R71: the tile waits for no host write any more. -/
theorem State.tile_landLate (s : State) (t : Nat) : (s.landLate t).tile t = { s.tile t with late := [] } := by
  rw [State.landLate, State.tile_foldl_memPut, State.tile_setTile_same]

theorem State.get_landLate (s : State) (t : Nat) {f : Fld} (h : Fld.key f ≠ Fld.key CUR_CNT_WB_CANCEL) :
    (s.landLate t).get f = s.get f := by
  rw [State.landLate, State.get_foldl_memPut _ _ h, State.get_setTile]

theorem State.get_peak_ne (s : State) {f g : Fld} (v : Nat) (h : Fld.key g ≠ Fld.key f) : (s.peak f v).get g = s.get g :=
  State.get_put_ne s _ h

@[simp] theorem State.tile_peak (s : State) (f : Fld) (v t : Nat) : (s.peak f v).tile t = s.tile t := rfl

/-- The fields of FAB_TILE_STAT are not the count of cancelled write-backs. -/
theorem key_tileStat_ne_wbCancel {f : Fld} {t : Nat} (ha : f.addr = 0xE04028 + 0x1000000 * t) (hl : f.lo < 64) :
    Fld.key f ≠ Fld.key CUR_CNT_WB_CANCEL := by
  simp only [Fld.key, ha, CUR_CNT_WB_CANCEL]
  omega

/-! ### COMMIT -/

/-- The state in which COMMIT has published the outputs, before the tile becomes READY or STOPPED (R51). -/
def State.committed (s : State) (t c : Nat) : State :=
  let x := s.tile t
  let s := s.setTile t
    ({ x with ended := true, endCyc := c, com := some x.out, waitIn := none, cyc := c }.publish (outCells x.out (s.tileOuts t)))
  (((s.put (FAB_TILE_STAT_LAST_CYC t) (satNat 14 c)).peak (FAB_TILE_MAXCYC_MAX_CYC t) c).put (FAB_TILE_STAT_OVR_CONSEC t) 0).landLate t

theorem State.commitTile_some (s : State) (t c r : Nat) :
    s.commitTile t c (some r) = (s.committed t c).stopTile t r (s.tile t).pc := rfl

theorem State.commitTile_none (s : State) (t c : Nat) : s.commitTile t c none =
    if (s.tile t).stopReq then (s.committed t c).stopTile t 5 (s.tile t).pc else (s.committed t c).put (FAB_TILE_STAT_STATE t) 1 := rfl

theorem State.tile_committed (s : State) (t c : Nat) : (s.committed t c).tile t =
    { { s.tile t with ended := true, endCyc := c, com := some (s.tile t).out, waitIn := none, cyc := c }.publish
        (outCells (s.tile t).out (s.tileOuts t)) with late := [] } := by
  simp [State.committed, State.tile_landLate]

theorem State.get_committed_lastCyc (s : State) (t c : Nat) :
    (s.committed t c).get (FAB_TILE_STAT_LAST_CYC t) = min c 16383 := by
  rw [State.committed, State.get_landLate _ _ (key_tileStat_ne_wbCancel rfl (by simp [FAB_TILE_STAT_LAST_CYC])),
    State.get_put_ne _ _ (by simp [Fld.key, FAB_TILE_STAT_LAST_CYC, FAB_TILE_STAT_OVR_CONSEC]),
    State.get_peak_ne _ _ (by simp only [Fld.key, FAB_TILE_STAT_LAST_CYC, FAB_TILE_MAXCYC_MAX_CYC]; omega), State.get_put_same]
  exact Nat.mod_eq_of_lt (by simp only [satNat, FAB_TILE_STAT_LAST_CYC]; omega)

theorem State.get_committed_ovrConsec (s : State) (t c : Nat) : (s.committed t c).get (FAB_TILE_STAT_OVR_CONSEC t) = 0 := by
  rw [State.committed, State.get_landLate _ _ (key_tileStat_ne_wbCancel rfl (by simp [FAB_TILE_STAT_OVR_CONSEC])),
    State.get_put_same]
  exact Nat.zero_mod _

/-- A stop leaves the other fields of FAB_TILE_STAT as they were. -/
theorem State.get_stopTile_ne {r pc : Nat} {f : Fld} (ha : f.addr = 0xE04028 + 0x1000000 * t) (hl : f.lo < 64)
    (h : f.lo ≠ 0 ∧ f.lo ≠ 26 ∧ f.lo ≠ 34) : (s.stopTile t r pc).get f = s.get f := by
  obtain ⟨hstate, hpc, hreason⟩ := h
  rw [State.get_stopTile _ _ _ _ (fldIn_eventFlds_tileStat t ha hl),
    State.get_put_ne _ _ (by simp only [Fld.key, ha, FAB_TILE_STAT_STOP_REASON]; omega),
    State.get_put_ne _ _ (by simp only [Fld.key, ha, FAB_TILE_STAT_STOP_PC]; omega),
    State.get_put_ne _ _ (by simp only [Fld.key, ha, FAB_TILE_STAT_STATE]; omega)]

theorem State.tile_stopTile (s : State) (t r pc : Nat) : (s.stopTile t r pc).tile t = { s.tile t with stopReq := false } := by
  unfold State.stopTile
  dsimp only
  split
  · rw [State.tile_setTile_same]; rfl
  · rw [State.tile_post, State.tile_setTile_same]; rfl

/-- What COMMIT leaves in the tile's counters, whichever state the tile takes. -/
theorem State.get_commitTile_none {f : Fld} (ha : f.addr = 0xE04028 + 0x1000000 * t) (hl : f.lo < 64)
    (h : f.lo ≠ 0 ∧ f.lo ≠ 26 ∧ f.lo ≠ 34) : (s.commitTile t c none).get f = (s.committed t c).get f := by
  rw [State.commitTile_none]
  split
  · exact State.get_stopTile_ne ha hl h
  · exact State.get_put_ne _ _ (by simp only [Fld.key, ha, FAB_TILE_STAT_STATE]; omega)

/-- The tile that END leaves. -/
theorem State.tile_commitTile_none (s : State) (t c : Nat) : ∃ b, (s.commitTile t c none).tile t =
    { { s.tile t with ended := true, endCyc := c, com := some (s.tile t).out, waitIn := none, cyc := c }.publish
        (outCells (s.tile t).out (s.tileOuts t)) with late := [], stopReq := b } := by
  rw [State.commitTile_none]
  split
  · exact ⟨false, by rw [State.tile_stopTile, State.tile_committed]⟩
  · exact ⟨(s.tile t).stopReq, by rw [State.tile_put, State.tile_committed]; rfl⟩

theorem Tile.pubs_head_publish (x : Tile) (cells : List Word) : (x.publish cells).pubs.head? = some { tick := x.tickNo, cells := cells } :=
  rfl

/-! ### What END leaves -/

theorem endTick_spec (h : Executes s t 0x01 0 m) :
    let x := s.tile t
    let u := opEnd t m (x.doneCycle m + 0) (s.noteFetch t)
    u.tileState t = (if x.stopReq then 3 else 1) ∧
      (x.stopReq = true → u.get (FAB_TILE_STAT_STOP_REASON t) = 5 ∧ u.get (FAB_TILE_STAT_STOP_PC t) = x.pc) ∧
      (u.tile t).ended = true ∧ (u.tile t).com = some x.out ∧
      (u.tile t).pubs.head? = some { tick := x.tickNo, cells := outCells x.out (s.tileOuts t) } ∧
      u.get (FAB_TILE_STAT_LAST_CYC t) = min (x.doneCycle m) 16383 ∧ u.get (FAB_TILE_STAT_OVR_CONSEC t) = 0 := by
  dsimp only [opEnd, State.endTick, Nat.add_zero]
  have hread := s.noteFetch_readOnly t
  have htile := hread.tile t
  have hpc : (s.tile t).pc % 256 = (s.tile t).pc := Nat.mod_eq_of_lt (Nat.lt_trans h.before (by decide))
  obtain ⟨b, hx⟩ := (s.noteFetch t).tile_commitTile_none t ((s.tile t).doneCycle m)
  rw [htile, hread.tileOuts] at hx
  refine ⟨?_, fun hstop => ?_, by rw [hx]; rfl, by rw [hx]; rfl, by rw [hx]; exact Tile.pubs_head_publish _ _, ?_, ?_⟩
  · rw [State.commitTile_none, htile]
    split
    · exact State.tileState_stopTile _ _ _ _
    · rw [State.tileState, State.get_put_same]; rfl
  · rw [State.commitTile_none, htile, if_pos hstop]
    exact ⟨State.stopReason_stopTile _ _ _ _, (State.stopPc_stopTile _ _ _ _).trans hpc⟩
  · rw [State.get_commitTile_none rfl (by simp [FAB_TILE_STAT_LAST_CYC]) (by simp [FAB_TILE_STAT_LAST_CYC]),
      State.get_committed_lastCyc]
  · rw [State.get_commitTile_none rfl (by simp [FAB_TILE_STAT_OVR_CONSEC]) (by simp [FAB_TILE_STAT_OVR_CONSEC]),
      State.get_committed_ovrConsec]

/-! ### JMP -/

theorem jmp_notTaken (hc : condHolds (s.tile t) m.cond.toNat = false) :
    opJmp t m ((s.tile t).doneCycle m + 0) (s.noteFetch t) = (s.noteFetch t).advance t ((s.tile t).doneCycle m) := by
  simp [opJmp, (s.noteFetch_readOnly t).tile, hc]

/-- The next instruction of an instruction other than ACRD and SECW's kin comes in the next cycle. -/
theorem Tile.doneCycle_jmp (x : Tile) (h : m.opc.toNat = 0x20) : x.doneCycle m = x.cyc + 1 := by
  have hsr : usesA 0x20 = false ∧ usesB 0x20 = false := by decide
  obtain ⟨hA, hB⟩ := hsr
  simp [Tile.doneCycle, Tile.afterEngine, Micro.cost, h, hA, hB]

theorem jmp_taken (h : Executes s t 0x20 1 m) (hc : condHolds (s.tile t) m.cond.toNat = true) :
    (opJmp t m ((s.tile t).doneCycle m + 0) (s.noteFetch t)).tile t =
      { s.tile t with pc := m.imm.toNat % 256, cyc := (s.tile t).cyc + 2
                      lc := if m.cond.toNat = 7 then (s.tile t).lc - 1 else (s.tile t).lc } ∧
    TileQuiet s (opJmp t m ((s.tile t).doneCycle m + 0) (s.noteFetch t)) := by
  have hfits : ¬ (s.tile t).budget < (s.tile t).cyc + 1 + 1 := by
    have := h.budget
    rw [Tile.doneCycle_jmp _ h.opcode] at this
    omega
  obtain ⟨hbytes, hregs⟩ := (s.noteFetch_readOnly t).quiet
  simp only [opJmp, (s.noteFetch_readOnly t).tile, hc, if_true, Nat.add_zero, Tile.doneCycle_jmp _ h.opcode, hfits, if_false,
    State.nextInstr, not_true, and_false]
  refine ⟨?_, fun a => hbytes a, hregs.of_regs_eq rfl⟩
  rw [State.tile_setTile_same, State.tile_setTile_same]
  split <;> simp [bits, Micro.i]

end Sys2Proof.Machine
end

section
/-! The tile instructions that move cells, compute and control (R62 to R67). -/

namespace Sys2Proof.Machine

variable {s : State} {m : Micro}

/-- Settles O1: each instruction executes (`answers_runMicro`), counts its fetch and its operands' reads (`ReadOnly.resultRan`,
`ReadOnly.tileRan`), and END commits (`endTick_spec`). -/
theorem tileMovesControlAndEnd : Obligations.TileMovesControlAndEnd := by
  unfold Obligations.TileMovesControlAndEnd
  refine ⟨⟨fun s t m h => answers_runMicro rfl h le_rfl ?_, fun s t m h => answers_runMicro rfl h le_rfl ?_,
    fun s t m h => answers_runMicro rfl h le_rfl ?_⟩, fun s t m => ?_⟩
  · rw [← State.operand_noteFetch]
    exact (s.readA t _).resultRan h.before
  · rw [← State.operand_noteFetch]
    exact (s.readA t _).resultRan h.before
  · have hran := (s.noteFetch_readOnly t).resultRan (m := m) (stalls := 0)
      (v := mkCell (toSigned 32 m.imm.toNat * 2 ^ 8) (s.tile t).tickFrame flagV) h.before
    simpa only [opLdi, (s.noteFetch_readOnly t).tile] using! hran
  have hfetch := s.noteFetch_readOnly t
  have hnext : ∀ {o : Nat}, Executes s t o 0 m →
      TileRan s ((s.noteFetch t).advance t ((s.tile t).doneCycle m + 0)) t 0 m (s.tile t) ∧
        TileQuiet s ((s.noteFetch t).advance t ((s.tile t).doneCycle m + 0)) := fun h => hfetch.advanced h.before
  refine ⟨fun h => answers_runMicro rfl h le_rfl (hnext h), fun h => answers_runMicro rfl h le_rfl (hnext h),
    fun h => answers_runMicro rfl h le_rfl ?_, fun h => answers_runMicro rfl h le_rfl ?_,
    fun h => answers_runMicro rfl h le_rfl ?_, fun h hc => answers_runMicro rfl h le_rfl ?_,
    fun h hc => answers_runMicro rfl h (by decide) (jmp_taken h hc), fun h => answers_runMicro rfl h le_rfl (endTick_spec h)⟩
  · have hran := (s.readA t m.srca.toNat).tileRan (m := m) (stalls := 0) (x := { s.tile t with
      t := decide (flagsOf (s.operand t m.srca.toNat) &&& m.imm.toNat % 256 ≠ 0) }) rfl h.before
    simpa only [opTstf, State.operand_noteFetch, (s.readA t _).tile, ← bne_iff_ne, Bool.decide_eq_true] using! hran
  · have hran := (s.readB t m.srca.toNat m.srcb.toNat).tileRan (m := m) (stalls := 0) (x := setZN (s.tile t)
      (satSigned 40 (audioOf (s.operand t m.srca.toNat) - audioOf (s.operand t m.srcb.toNat)))) rfl h.before
    simpa only [opCmp, State.operand_noteFetch, State.operand_readA, (s.readB t _ _).tile] using! hran
  · have hran := hfetch.tileRan (m := m) (stalls := 0) (x := { s.tile t with lc := m.imm.toNat % 65536 }) rfl h.before
    simpa only [opSetlc, hfetch.tile, bits, Micro.i] using! hran
  · obtain ⟨⟨htile, -⟩, hquiet⟩ := hnext h
    rw [jmp_notTaken hc]
    rw [Tile.doneCycle_jmp _ h.opcode] at *
    exact ⟨htile, hquiet⟩
/-! ### SHL and RECIP -/

theorem shlValue_of_nonneg (r : Bool) (a : Int) {k : Int} (h : 0 ≤ k) : shlValue r a k = a * 2 ^ k.toNat := by
  rw [shlValue, if_pos h]
  push_cast
  rfl

/-- The bounds that `recipValue` keeps to hold a value between them: the open interval of length 2^41 holds a multiple of `n`. -/
theorem recip_bounds {n : Nat} (h0 : 0 < n) (h : n < 2 ^ 40) :
    2 ^ 64 - 2 ^ 40 < ((2 ^ 64 - 2 ^ 40) / n + 1) * n ∧ (2 ^ 64 + 2 ^ 40 - 1) / n * n < 2 ^ 64 + 2 ^ 40 ∧
      (2 ^ 64 - 2 ^ 40) / n + 1 ≤ (2 ^ 64 + 2 ^ 40 - 1) / n := by
  refine ⟨?_, ?_, ?_⟩
  · have := Nat.lt_div_mul_add (a := 2 ^ 64 - 2 ^ 40) h0
    rw [Nat.add_mul, Nat.one_mul]
    exact this
  · exact Nat.lt_of_le_of_lt (Nat.div_mul_le_self _ _) (by decide)
  · rw [Nat.le_div_iff_mul_le h0, Nat.add_mul, Nat.one_mul]
    have := Nat.div_mul_le_self (2 ^ 64 - 2 ^ 40) n
    omega

theorem natAbs_toSigned_lt (w : Nat) : (toSigned 40 w).natAbs < 2 ^ 40 := by
  unfold toSigned
  omega

/-- R66: the reciprocal of `a` times `a` lies within 2^-24 of one, in units of 2^-64. -/
theorem recipValue_near {a : Int} (h0 : a ≠ 0) (h : a.natAbs < 2 ^ 40) :
    (2 : Int) ^ 64 - 2 ^ 40 < recipValue a * a ∧ recipValue a * a < 2 ^ 64 + 2 ^ 40 := by
  obtain ⟨hlo, hhi, hle⟩ := recip_bounds (Int.natAbs_pos.2 h0) h
  have habs : recipValue a * a = max (((2 ^ 64 - 2 ^ 40) / a.natAbs + 1 : Nat) : Int)
      (min (((2 ^ 64 + 2 ^ 40 - 1) / a.natAbs : Nat) : Int) ((2 ^ 64 / a.natAbs : Nat) + Config.recipErr a)) * a.natAbs := by
    unfold recipValue
    dsimp only
    split
    · next hneg => rw [Int.ofNat_natAbs_of_nonpos hneg.le]; ring
    · next hpos => rw [Int.natAbs_of_nonneg (not_lt.1 hpos)]
  rw [habs]
  generalize ((2 ^ 64 / a.natAbs : Nat) : Int) + Config.recipErr a = q
  have hn : (0 : Int) < a.natAbs := by exact_mod_cast Int.natAbs_pos.2 h0
  constructor
  · calc (2 : Int) ^ 64 - 2 ^ 40 < (((2 ^ 64 - 2 ^ 40) / a.natAbs + 1 : Nat) : Int) * a.natAbs := by omega
      _ ≤ _ := Int.mul_le_mul_of_nonneg_right (le_max_left _ _) hn.le
  · calc _ ≤ (((2 ^ 64 + 2 ^ 40 - 1) / a.natAbs : Nat) : Int) * a.natAbs :=
          Int.mul_le_mul_of_nonneg_right (max_le (by exact_mod_cast hle) (min_le_left _ _)) hn.le
      _ < 2 ^ 64 + 2 ^ 40 := by exact_mod_cast hhi

/-- Settles O2: `alu2_ran` and `alu1_ran` for every operation; RECIP's value is bounded by `recipValue_near`. -/
theorem tileArithmeticResults : Obligations.TileArithmeticResults := by
  unfold Obligations.TileArithmeticResults
  refine ⟨fun s t m => ⟨fun h => ?_, fun h => ?_, fun h => ?_, fun h => ?_⟩,
    fun s t m => ⟨fun h => ?_, fun h => ?_, fun h hs => ?_, fun h hs => ?_, fun h h0 => ?_, fun h h0 => ?_⟩⟩
  · exact answers_runMicro rfl h le_rfl (alu2_ran h rfl)
  · exact answers_runMicro rfl h le_rfl (alu2_ran h rfl)
  · exact answers_runMicro rfl h le_rfl (alu2_ran h (max_def_lt _ _).symm)
  · exact answers_runMicro rfl h le_rfl (alu2_ran h ((min_comm _ _).trans (min_def_lt _ _)).symm)
  · exact answers_runMicro rfl h le_rfl (alu1_ran h rfl)
  · exact answers_runMicro rfl h le_rfl (alu1_ran h rfl)
  · exact answers_runMicro rfl h le_rfl (alu1_ran h (shlValue_of_nonneg _ _ hs))
  · exact answers_runMicro rfl h le_rfl (alu1_ran h (if_neg (not_le.2 hs)))
  · refine ⟨recipResult (audioOf (s.operand t m.srca.toNat)), answers_runMicro rfl h le_rfl (alu1_ran h rfl), ?_⟩
    rw [recipResult, if_neg h0]
    exact recipValue_near h0 (natAbs_toSigned_lt _)
  · refine ⟨recipResult (audioOf (s.operand t m.srca.toNat)), answers_runMicro rfl h le_rfl (alu1_ran h rfl), ?_⟩
    rw [recipResult, if_pos h0]
    split
    · exact Or.inr rfl
    · exact Or.inl rfl

/-! ### The accumulators -/

/-- What an instruction leaves in the accumulators, the tile and the machine that gives accumulator `n` the value `v` with the flags
`f` (R64, R67). -/
def AccRan (s : State) (t : Nat) (m : Micro) (n : Nat) (v : Int) (f : Nat) (w : State) : Prop :=
  let y := s.tile t
  (w.tile t).acc n = satSigned 96 v ∧ (w.tile t).accF n = ((f ||| (if satSigned 96 v = v then 0 else flagC)) % 256) ∧
    (w.tile t).acc (1 - n) = y.acc (1 - n) ∧ (w.tile t).accF (1 - n) = y.accF (1 - n) ∧
    (w.tile t).d = y.d ∧ (w.tile t).out = y.out ∧ (w.tile t).zf = y.zf ∧ (w.tile t).nf = y.nf ∧
    (w.tile t).pc = y.pc + 1 ∧ (w.tile t).cyc = y.doneCycle m ∧ (∀ k : Nat, k ≠ t → w.tile k = s.tile k) ∧ TileQuiet s w

/-- The cycle of a multiply is no part of what the accumulators hold. -/
theorem ReadOnly.accRan {u : State} {t n : Nat} {x : Tile} (h : ReadOnly correctedFld s u) (hpc : (s.tile t).pc < 191) (hn : n < 2)
    (v : Int) (f : Nat)
    (hx : x = (s.tile t).setAcc n v f ∨ x = ((s.tile t).setAcc n v f).noteMul n ((s.tile t).doneCycle m + 0)) :
    AccRan s t m n v f ((u.setTile t x).advance t ((s.tile t).doneCycle m + 0)) := by
  have hxpc : x.pc = (s.tile t).pc := by
    rcases hx with rfl | rfl <;> rcases (show n = 0 ∨ n = 1 by omega) with rfl | rfl <;> rfl
  obtain ⟨⟨htile, hothers⟩, hquiet⟩ := h.tileRan (m := m) (stalls := 0) hxpc hpc
  unfold AccRan
  rw [htile]
  refine ⟨?_, ?_, ?_, ?_, ?_, ?_, ?_, ?_, rfl, rfl, hothers, hquiet⟩ <;>
    rcases hx with rfl | rfl <;> rcases (show n = 0 ∨ n = 1 by omega) with rfl | rfl <;> rfl

/-- A multiply of two operands into the accumulator. -/
theorem macOp_ran {o t : Nat} {keep : Bool} {f : Int → Int → Int} (h : Executes s t o 0 m) :
    AccRan s t m m.acs.toNat
      (f ((s.tile t).acc m.acs.toNat) (audioOf (s.operand t m.srca.toNat) * audioOf (s.operand t m.srcb.toNat)))
      ((if keep then (s.tile t).accF m.acs.toNat else 0) ||| flagsOf (s.operand t m.srca.toNat) ||| flagsOf (s.operand t m.srcb.toNat))
      (macOp keep f t m ((s.tile t).doneCycle m + 0) (s.noteFetch t)) := by
  simp only [macOp, State.operand_noteFetch, State.operand_readA, (s.readB t _ _).tile]
  exact (s.readB t _ _).accRan h.before m.acs.isLt _ _ (Or.inr rfl)

/-- Settles O3: each instruction reads its operands, and the accumulator saturates (`ReadOnly.accRan`). -/
theorem tileAccumulatorResults : Obligations.TileAccumulatorResults := by
  unfold Obligations.TileAccumulatorResults
  intro s t m
  have hfetch := s.noteFetch_readOnly t
  have hn : m.acs.toNat < 2 := m.acs.isLt
  refine ⟨fun h => answers_runMicro rfl h le_rfl ?_, fun h => answers_runMicro rfl h le_rfl (macOp_ran h),
    fun h => answers_runMicro rfl h le_rfl (macOp_ran h), fun h => answers_runMicro rfl h le_rfl ?_,
    fun h => answers_runMicro rfl h le_rfl ?_, fun h => answers_runMicro rfl h le_rfl ?_, fun h => answers_runMicro rfl h le_rfl ?_⟩
  · have hran := macOp_ran (keep := false) (f := fun _ p => p) h
    rwa [if_neg Bool.false_ne_true, Nat.zero_or] at hran
  · have hran := (s.readA t m.srca.toNat).accRan (m := m) h.before hn
      ((s.tile t).acc m.acs.toNat + audioOf (s.operand t m.srca.toNat) * toSigned 32 m.imm.toNat * 2 ^ 8)
      ((s.tile t).accF m.acs.toNat ||| flagsOf (s.operand t m.srca.toNat)) (Or.inr rfl)
    simpa only [opMaci, maciValue, Micro.i, State.operand_noteFetch, (s.readA t _).tile] using! hran
  · have hran := hfetch.accRan (m := m) h.before hn 0 0 (Or.inl rfl)
    simpa only [opAclr, hfetch.tile] using! hran
  · have hran := (s.readA t m.srca.toNat).accRan (m := m) h.before hn (audioOf (s.operand t m.srca.toNat) * 2 ^ 32)
      (flagsOf (s.operand t m.srca.toNat)) (Or.inl rfl)
    simpa only [opAcwr, State.operand_noteFetch, (s.readA t _).tile] using! hran
  · have hran := hfetch.resultRan (m := m) (stalls := 0) (v := aluCell (s.tile t) (shiftRound (m.mod.getLsbD 0)
      ((s.tile t).acc m.acs.toNat) (32 - toSigned 6 m.imm.toNat).toNat) ((s.tile t).accF m.acs.toNat)) h.before
    simpa only [opAcrd, acrdValue, Micro.rnd, Micro.shift, Micro.i, hfetch.tile] using! hran

end Sys2Proof.Machine
end

section
/-! Loads and stores of a tile (R47, R49, R66, R419, R424). -/

namespace Sys2Proof.Machine

variable {l : List Fld} {s u : State} {t o stalls c : Nat} {m : Micro}

/-! ### Fields of different registers -/

theorem key_ne_of_addr_ne {f g : Fld} (hf : f.lo < 64) (hg : g.lo < 64) (h : f.addr ≠ g.addr) : Fld.key f ≠ Fld.key g := by
  unfold Fld.key
  omega

theorem fldIn_eq_false_of_addr {f : Fld} (hf : f.lo < 64) (hl : ∀ g ∈ l, g.lo < 64 ∧ g.addr ≠ f.addr) : fldIn l f = false := by
  refine List.any_eq_false.2 fun g hg he => ?_
  obtain ⟨hlo, haddr⟩ := hl g hg
  exact key_ne_of_addr_ne hlo hf haddr (beq_iff_eq.1 he)

/-! ### Reads of state RAM -/

/-- R49: a read without an uncorrectable error delivers the cell. -/
theorem State.readRam_of_mark_ne (s : State) (t i : Nat) (h : s.mark (ramAddr t i) ≠ 2) :
    (s.readRam t i).1 = (s.memWord (ramAddr t i), false) ∧ ReadOnly correctedFld s (s.readRam t i).2 := by
  unfold State.readRam
  dsimp only
  split
  · next h2 => exact absurd h2 h
  · exact ⟨rfl, s.fabCorrected_readOnly _⟩
  · exact ⟨rfl, .refl _ s⟩

/-- What a tile's reads count where a cell of state RAM is uncorrectable. -/
def stateUeFlds : List Fld := [FAB_ECC_CNT_STATE_UE, FAB_ECC_CNT_CORRECTED]

theorem correctedFld_le_stateUeFlds (f : Fld) (h : fldIn correctedFld f = true) : fldIn stateUeFlds f = true := by
  simp only [fldIn, correctedFld, stateUeFlds, List.any_cons, List.any_nil, Bool.or_false] at *
  simp [h]

theorem State.readRam_of_mark_eq (s : State) (t i : Nat) (h : s.mark (ramAddr t i) = 2) :
    (s.readRam t i).1 = (s.errCell, true) ∧ ReadOnly stateUeFlds s (s.readRam t i).2 := by
  unfold State.readRam
  simp only [h]
  exact ⟨trivial, ((ReadOnly.refl _ s).bump (by decide)).post _ _ _⟩

/-- A stop by an error ends in STOPPED, with its reason and the PC (R70). -/
theorem State.errorStop_shown (s : State) (t reason : Nat) :
    (s.errorStop t reason).tileState t = 3 ∧ (s.errorStop t reason).get (FAB_TILE_STAT_STOP_REASON t) = reason % 8 ∧
      (s.errorStop t reason).get (FAB_TILE_STAT_STOP_PC t) = (s.tile t).pc % 256 :=
  ⟨State.tileState_stopTile _ _ _ _, State.stopReason_stopTile _ _ _ _, State.stopPc_stopTile _ _ _ _⟩

/-- The cell of state RAM that an LDS, STS or ADDA names, in the fields of its IMM (R47, R66). -/
theorem State.microCell_eq (s : State) (t : Nat) (m : Micro) :
    s.microCell t m = ((s.areg t (m.imm.toNat / 256 % 4)).1 +
      (mapGet 0 (s.tile t).ptr (m.imm.toNat / 256 % 4) + m.imm.toNat % 256) % (s.areg t (m.imm.toNat / 256 % 4)).2) % 256 := by
  simp [State.microCell, State.aregCell, bits, Micro.i, Nat.shiftRight_eq_div_pow]

theorem ReadOnly.microCell (h : ReadOnly l s u) (t : Nat) (m : Micro) : u.microCell t m = s.microCell t m := h.aregCell _ _ _

theorem State.fetchAreg_readOnly (s : State) (t n : Nat) : ReadOnly correctedFld s ((s.noteFetch t).noteAreg t n) :=
  (s.noteFetch_readOnly t).trans (State.noteAreg_readOnly _ t n)

/-! ### LDS -/

theorem lds_of_mark_ne (h : Executes s t o 0 m) (hmark : s.mark (ramAddr t (s.microCell t m)) ≠ 2) :
    TileRan s (opLds t m ((s.tile t).doneCycle m + 0) (s.noteFetch t)) t 0 m
      (s.resultTile t m (s.memWord (ramAddr t (s.microCell t m)))) ∧
    TileQuiet s (opLds t m ((s.tile t).doneCycle m + 0) (s.noteFetch t)) := by
  have hread := s.fetchAreg_readOnly t (bits m.i 8 2)
  obtain ⟨hcell, hram⟩ := State.readRam_of_mark_ne _ t (s.microCell t m) (by rwa [hread.mark] : _ ≠ 2)
  have hran := (hread.trans hram).resultRan (m := m) (stalls := 0) (v := s.memWord (ramAddr t (s.microCell t m))) h.before
  simpa only [opLds, hread.microCell, hcell, hread.memWord, Bool.false_and, Bool.false_eq_true, if_false] using! hran

/-- An uncorrectable cell counts, and is replaced where it does not stop the tile (R24, R49). -/
theorem lds_of_mark_eq (h : Executes s t o 0 m) (hmark : s.mark (ramAddr t (s.microCell t m)) = 2) :
    let u := opLds t m ((s.tile t).doneCycle m + 0) (s.noteFetch t)
    (s.on FAB_CTL_STATE_ECC_STOP = false → TileRan s u t 0 m (s.resultTile t m s.errCell) ∧ SameBytes s u) ∧
    (s.on FAB_CTL_STATE_ECC_STOP = true →
      u.tileState t = 3 ∧ u.get (FAB_TILE_STAT_STOP_REASON t) = 4 ∧ u.get (FAB_TILE_STAT_STOP_PC t) = (s.tile t).pc) := by
  have hread := s.fetchAreg_readOnly t (bits m.i 8 2)
  obtain ⟨hcell, hram⟩ := State.readRam_of_mark_eq _ t (s.microCell t m) (by rwa [hread.mark] : _ = 2)
  have hboth := (hread.mono correctedFld_le_stateUeFlds).trans hram
  have hstops : (((s.noteFetch t).noteAreg t (bits m.i 8 2)).readRam t (s.microCell t m)).2.ramStops = s.on FAB_CTL_STATE_ECC_STOP := by
    rw [State.ramStops, State.on, hboth.get (by decide) (by decide), State.on]
  dsimp only [opLds]
  rw [hread.microCell, hcell, hstops, Bool.true_and]
  refine ⟨fun hs => ?_, fun hs => ?_⟩
  · rw [if_neg (by simp [hs]), hread.errCell]
    obtain ⟨hran, hbytes, -⟩ := hboth.resultRan (m := m) (stalls := 0) (v := s.errCell) h.before
    exact ⟨hran, hbytes⟩
  · rw [if_pos hs]
    obtain ⟨hstate, hreason, hpc⟩ := State.errorStop_shown _ t 4
    exact ⟨hstate, hreason, by rw [hpc, hboth.tile]; exact Nat.mod_eq_of_lt (Nat.lt_trans h.before (by decide))⟩

/-! ### The next instruction, after a write -/

/-- Where the tiles are as they were, the instruction ends as one that leaves its tile alone. -/
theorem tileRan_advance (h : u.tiles = s.tiles) (hpc : (s.tile t).pc < 191) :
    TileRan s (u.advance t ((s.tile t).doneCycle m + stalls)) t stalls m (s.tile t) := by
  have htile : ∀ k, u.tile k = s.tile k := fun k => by rw [State.tile, h, State.tile]
  rw [State.advance_of_lt (by rwa [htile]), htile]
  refine ⟨State.tile_setTile_same _ _ _, fun k hk => ?_⟩
  rw [State.tile_setTile_ne _ _ hk, htile]

/-- Going on to the next instruction leaves the memories and their marks alone. -/
theorem State.advance_sameMemories (h : (s.tile t).pc < 191) (c : Nat) :
    SameMemories s (s.advance t c) ∧ (s.advance t c).ecc = s.ecc := by
  rw [State.advance_of_lt h]
  exact ⟨⟨rfl, rfl, rfl⟩, rfl⟩

/-- A store of `v` at `a` by an instruction that has only read before; `w` may have changed besides, outside tiles and memory. -/
theorem ReadOnly.stored {w : State} {a : Nat} {v : Word} (h : ReadOnly l s u) (hpc : (s.tile t).pc < 191)
    (htiles : w.tiles = (u.memPut a v).tiles) (hmem : w.mem = (u.memPut a v).mem) (hecc : w.ecc = (u.memPut a v).ecc) :
    let z := w.advance t ((s.tile t).doneCycle m + stalls)
    TileRan s z t stalls m (s.tile t) ∧ z.memWord a = v ∧ z.mark a = 0 ∧ SameOutside a s z := by
  have hw : w.tiles = s.tiles := htiles.trans ((u.tiles_memPut a v).trans h.tiles)
  obtain ⟨⟨zmem, -, -⟩, zecc⟩ := State.advance_sameMemories (s := w) (t := t) (by rwa [State.tile, hw, ← State.tile])
    ((s.tile t).doneCycle m + stalls)
  refine ⟨tileRan_advance hw hpc, ?_, ?_, fun b hb => ?_⟩
  · rw [State.memWord, zmem, hmem, ← State.memWord, State.memWord_memPut_same]
  · rw [State.mark, zecc, hecc, ← State.mark, State.mark_memPut_same]
  · rw [State.memByte, zmem, hmem, ← State.memByte, u.memPut_sameOutside a v b hb, h.memByte]

theorem sts_stored (h : Executes s t o 0 m) :
    let u := opSts t m ((s.tile t).doneCycle m + 0) (s.noteFetch t)
    let cell := ramAddr t (s.microCell t m)
    TileRan s u t 0 m (s.tile t) ∧ u.memWord cell = s.operand t m.srca.toNat ∧ u.mark cell = 0 ∧ SameOutside cell s u := by
  have hread := s.fetchAreg_readOnly t (bits m.i 8 2)
  have hboth := hread.trans (State.readOperand_readOnly _ t m.srca.toNat)
  dsimp only [opSts]
  rw [hread.operand, hread.microCell]
  exact hboth.stored h.before rfl rfl rfl

theorem adda_ran (h : Executes s t o 0 m) :
    let n := m.imm.toNat / 256 % 4
    let x := s.tile t
    let u := opAdda t m (x.doneCycle m + 0) (s.noteFetch t)
    TileRan s u t 0 m { x with ptr := mapSet 0 x.ptr n ((mapGet 0 x.ptr n + m.imm.toNat % 256) % (s.areg t n).2) } ∧ TileQuiet s u := by
  have hread := s.fetchAreg_readOnly t (m.imm.toNat / 256 % 4)
  have hn : bits m.i 8 2 = m.imm.toNat / 256 % 4 := by simp [bits, Micro.i, Nat.shiftRight_eq_div_pow]
  have hoff : bits m.i 0 8 = m.imm.toNat % 256 := by simp [bits, Micro.i]
  intro n x u
  generalize hlen : (s.areg t n).2 = len
  dsimp only [u, opAdda]
  rw [hn, hoff, hread.tile, hread.areg, hlen]
  have hran := hread.tileRan (m := m) (stalls := 0) (x := { x with ptr := mapSet 0 x.ptr n ((mapGet 0 x.ptr n + m.imm.toNat % 256) % len) })
    rfl
    h.before
  exact hran

/-! ### LDB and STB -/

/-- What an access to bank `b` counts, of a tile of shelf `sh`. -/
def bankFlds (sh b : Nat) : List Fld := [FAB_GW_STAT_STALL_CYC sh, MEM_ECC_CNT_CORRECTED b, FAB_ECC_CNT_CORRECTED]

theorem correctedFld_le_bankFlds (sh b : Nat) (f : Fld) (h : fldIn correctedFld f = true) : fldIn (bankFlds sh b) f = true := by
  simp only [fldIn, correctedFld, bankFlds, List.any_cons, List.any_nil, Bool.or_false] at *
  simp [h]

/-- R60: the fetch and the stalls are counted. -/
theorem State.gatewayStall_readOnly (s : State) (t b stalls : Nat) :
    ReadOnly (bankFlds (t / 64) b) s ((s.noteFetch t).gatewayStall t stalls) :=
  ((s.noteFetch_readOnly t).mono (correctedFld_le_bankFlds _ _)).put (by simp [fldIn, bankFlds]) _

/-- A field of pages 0xF of the banks' states is none of those that an access counts. -/
theorem ReadOnly.get_bankStat {sh b : Nat} {f : Fld} (h : ReadOnly (bankFlds sh b) s u) (hlo : f.lo < 64)
    (ha : f.addr = 0xE0F010 ∨ f.addr = 0xE0F018) : u.get f = s.get f := by
  have hev : ∀ g ∈ eventFlds, g.lo < 64 ∧ g.addr ≠ 0xE0F010 ∧ g.addr ≠ 0xE0F018 := by decide
  refine h.get (fldIn_eq_false_of_addr hlo fun g hg => ?_) (fldIn_eq_false_of_addr hlo fun g hg => ?_)
  · simp only [bankFlds, List.mem_cons, List.not_mem_nil, or_false] at hg
    rcases hg with rfl | rfl | rfl <;>
      simp only [FAB_GW_STAT_STALL_CYC, MEM_ECC_CNT_CORRECTED, FAB_ECC_CNT_CORRECTED] <;> omega
  · obtain ⟨hg1, hg2, hg3⟩ := hev g hg
    rcases ha with ha | ha <;> rw [ha] <;> exact ⟨hg1, ‹_›⟩

theorem ReadOnly.bankUp {sh b k : Nat} (h : ReadOnly (bankFlds sh b) s u) (hk : k < 8) : u.bankUp k = s.bankUp k := by
  simp only [State.bankUp, h.get_bankStat (f := MEM_BANK_STAT_STATE k) (by simp only [MEM_BANK_STAT_STATE]; omega) (Or.inl rfl)]

theorem ReadOnly.lost {sh b : Nat} (h : ReadOnly (bankFlds sh b) s u) (k : Nat) :
    u.bit MEM_LOST_SUM_LOST k = s.bit MEM_LOST_SUM_LOST k := by
  rw [State.bit, h.get_bankStat (by decide) (Or.inr rfl), State.bit]

/-- R413: a corrected read of a bank is counted, and its region queued for a test. -/
theorem State.memCorrected_readOnly (s : State) (sh b w : Nat) : ReadOnly (bankFlds sh b) s (s.memCorrected b w) := by
  obtain ⟨htiles, hmem, hecc, hframe, hregs⟩ :=
    ((ReadOnly.refl (bankFlds sh b) s).bump (f := MEM_ECC_CNT_CORRECTED b) (by simp [fldIn, bankFlds])).queueWb (bankAddr b w) 2
  exact ⟨htiles, hmem, hecc, hframe, hregs⟩

/-- A read of a released bank that keeps its contents delivers the word (R419, R420), outside the exchange cells' back copies. -/
theorem State.bankTileRead_of_up {sh : Nat} (s : State) {b w : Nat} (hup : s.bankUp b = true) (hlost : s.bit MEM_LOST_SUM_LOST b = false)
    (hmark : s.mark (bankAddr b w) ≠ 2) (hback : ¬ (b = 5 ∧ 0x1C000 ≤ w ∧ w < 0x1E000)) :
    (s.bankTileRead b w).1 = s.memWord (bankAddr b w) ∧ ReadOnly (bankFlds sh b) s (s.bankTileRead b w).2 := by
  have hex : ¬ (b = 5 ∧ 0x1C000 ≤ w ∧ w < 0x1E000 ∧ (0 : Nat) ≠ 4) := fun ⟨h5, hlo, hhi, _⟩ => hback ⟨h5, hlo, hhi⟩
  simp only [State.bankTileRead, hup, hlost, State.bankWord, if_neg hex, hmark, not_true, Bool.false_eq_true, if_false]
  split
  · exact ⟨rfl, s.memCorrected_readOnly sh b w⟩
  · exact ⟨rfl, .refl _ s⟩

/-- R419, R420: any other bank reads as an inserted zero. -/
theorem State.bankTileRead_of_not_up (s : State) {b w : Nat} (h : s.bankUp b = false ∨ s.bit MEM_LOST_SUM_LOST b = true) :
    s.bankTileRead b w = (s.zeroCell, s) := by
  unfold State.bankTileRead
  by_cases hup : s.bankUp b = true
  · rw [if_neg (not_not.2 hup), if_pos (h.resolve_left (by simp [hup]))]
  · rw [if_pos hup]

/-- The bank address that an LDB or STB names, in the fields of its IMM (R66). -/
theorem microBank_eq (x : Tile) (m : Micro) :
    microBank x m = (m.imm.toNat % 2 ^ 20 + (if m.mod.getLsbD 1 then x.lc else 0)) % 2 ^ 20 := by
  simp [microBank, bits, Micro.i, Micro.bidx]

/-- R424: a store to a released bank, outside the exchange region, is a whole-word write; it may take the wake model out of use. -/
theorem State.bankWrite_of_up (s : State) {b w : Nat} (v : Word) (hup : s.bankUp b = true) (hback : ¬ (b = 5 ∧ 0x1C000 ≤ w)) :
    s.bankWrite b w v = (s.memPut (bankAddr b w) v).put WAKE_MODEL_STAT_STATE 0 ∨ s.bankWrite b w v = s.memPut (bankAddr b w) v := by
  unfold State.bankWrite
  rw [if_neg (not_not.2 hup), if_neg fun ⟨h5, hlo, _⟩ => hback ⟨h5, hlo⟩, if_neg fun ⟨h5, hlo⟩ => hback ⟨h5, by omega⟩]
  split
  · exact Or.inl rfl
  · exact Or.inr rfl

theorem State.readStall (s : State) (t b stalls c : Nat) :
    ReadOnly (bankFlds (t / 64) b) s (((s.noteFetch t).gatewayStall t stalls).readOperand t c).2 :=
  (s.gatewayStall_readOnly t b stalls).trans ((State.readOperand_readOnly _ t c).mono (correctedFld_le_bankFlds _ _))

theorem ldb_of_up (h : Executes s t o stalls m) {b w : Nat} (ha : microBank (s.tile t) m = b * 0x20000 + w) (hw : w < 0x20000) (hb : b < 8)
    (hup : s.bankUp b = true) (hlost : s.bit MEM_LOST_SUM_LOST b = false)
    (hmark : s.mark (bankAddr b w) ≠ 2) (hback : ¬ (b = 5 ∧ 0x1C000 ≤ w ∧ w < 0x1E000)) :
    TileRan s (opLdb stalls t m ((s.tile t).doneCycle m + stalls) (s.noteFetch t)) t stalls m
      (s.resultTile t m (s.memWord (bankAddr b w))) ∧
    SameBytes s (opLdb stalls t m ((s.tile t).doneCycle m + stalls) (s.noteFetch t)) := by
  have hstall := s.gatewayStall_readOnly t b stalls
  have hdiv : (b * 0x20000 + w) / 0x20000 = b ∧ (b * 0x20000 + w) % 0x20000 = w := by omega
  obtain ⟨hcell, hread⟩ := State.bankTileRead_of_up (sh := t / 64) ((s.noteFetch t).gatewayStall t stalls) (b := b) (w := w)
    (by rwa [hstall.bankUp hb]) (by rwa [hstall.lost]) (by rwa [hstall.mark]) hback
  obtain ⟨hran, hbytes, -⟩ := (hstall.trans hread).resultRan (m := m) (stalls := stalls) (v := s.memWord (bankAddr b w)) h.before
  simp only [opLdb, hstall.tile, ha, hdiv, hcell, hstall.memWord]
  exact ⟨hran, hbytes⟩

theorem ldb_of_not_up (h : Executes s t o stalls m) {b w : Nat} (ha : microBank (s.tile t) m = b * 0x20000 + w) (hw : w < 0x20000)
    (hb : b < 8) (hno : s.bankUp b = false ∨ s.bit MEM_LOST_SUM_LOST b = true) :
    TileRan s (opLdb stalls t m ((s.tile t).doneCycle m + stalls) (s.noteFetch t)) t stalls m (s.resultTile t m s.zeroCell) ∧
    SameBytes s (opLdb stalls t m ((s.tile t).doneCycle m + stalls) (s.noteFetch t)) := by
  have hstall := s.gatewayStall_readOnly t b stalls
  have hdiv : (b * 0x20000 + w) / 0x20000 = b ∧ (b * 0x20000 + w) % 0x20000 = w := by omega
  obtain ⟨hran, hbytes, -⟩ := hstall.resultRan (m := m) (stalls := stalls) (v := s.zeroCell) h.before
  simp only [opLdb, hstall.tile, ha, hdiv]
  rw [State.bankTileRead_of_not_up _ (by rwa [hstall.bankUp hb, hstall.lost]), hstall.zeroCell]
  exact ⟨hran, hbytes⟩

theorem stb_of_up (h : Executes s t o stalls m) {b w : Nat} (ha : microBank (s.tile t) m = b * 0x20000 + w) (hw : w < 0x20000)
    (hb : b < 8) (hup : s.bankUp b = true) (hback : ¬ (b = 5 ∧ 0x1C000 ≤ w)) :
    let u := opStb stalls t m ((s.tile t).doneCycle m + stalls) (s.noteFetch t)
    TileRan s u t stalls m (s.tile t) ∧ u.memWord (bankAddr b w) = s.operand t m.srca.toNat ∧ SameOutside (bankAddr b w) s u := by
  have hstall := s.gatewayStall_readOnly t b stalls
  have hread := s.readStall t b stalls m.srca.toNat
  have hdiv : (b * 0x20000 + w) / 0x20000 = b ∧ (b * 0x20000 + w) % 0x20000 = w := by omega
  simp only [opStb, hstall.tile, ha, hdiv, hstall.operand]
  generalize (((s.noteFetch t).gatewayStall t stalls).readOperand t m.srca.toNat).2 = r at hread ⊢
  have hwrite := r.bankWrite_of_up (s.operand t m.srca.toNat) (by rwa [hread.bankUp hb]) hback
  generalize r.bankWrite b w (s.operand t m.srca.toNat) = z at hwrite ⊢
  obtain ⟨hran, hword, -, hbytes⟩ := hread.stored (w := z) (m := m) (stalls := stalls) (a := bankAddr b w)
    (v := s.operand t m.srca.toNat) h.before (by rcases hwrite with rfl | rfl <;> rfl) (by rcases hwrite with rfl | rfl <;> rfl)
    (by rcases hwrite with rfl | rfl <;> rfl)
  exact ⟨hran, hword, hbytes⟩

theorem stb_of_not_up (h : Executes s t o stalls m) {b w : Nat} (ha : microBank (s.tile t) m = b * 0x20000 + w) (hw : w < 0x20000)
    (hb : b < 8) (hno : s.bankUp b = false) :
    let u := opStb stalls t m ((s.tile t).doneCycle m + stalls) (s.noteFetch t)
    TileRan s u t stalls m (s.tile t) ∧ SameBytes s u := by
  have hstall := s.gatewayStall_readOnly t b stalls
  have hread := s.readStall t b stalls m.srca.toNat
  have hdiv : (b * 0x20000 + w) / 0x20000 = b ∧ (b * 0x20000 + w) % 0x20000 = w := by omega
  obtain ⟨hran, hbytes, -⟩ := hread.advanced (m := m) (stalls := stalls) h.before
  simp only [opStb, hstall.tile, ha, hdiv, hstall.operand, State.bankWrite, hread.bankUp hb, hno]
  exact ⟨hran, hbytes⟩

/-- Settles O4: an instruction on state RAM reads its address register and its cell (`lds_of_mark_ne`, `lds_of_mark_eq`,
`ReadOnly.stored`); one on a bank counts its stalls (`ldb_of_up`, `ldb_of_not_up`, `stb_of_up`, `stb_of_not_up`). -/
theorem tileLoadsAndStores : Obligations.TileLoadsAndStores := by
  unfold Obligations.TileLoadsAndStores
  intro s t m stalls x n off cell bank b w
  have hcell : ramAddr t (s.microCell t m) = cell := congrArg (ramAddr t) (s.microCell_eq t m)
  have hbank : microBank (s.tile t) m = b * 0x20000 + w := (microBank_eq x m).trans (by change bank = _; omega)
  have hb : b < 8 := by omega
  have hw : w < 0x20000 := by omega
  refine ⟨fun h hm => ?_, fun h hm hs => ?_, fun h hm hs => ?_, fun h => ?_, fun h => ?_, fun h hup hlost hm hx => ?_,
    fun h hno => ?_, fun h hup hx => ?_, fun h hno => ?_⟩
  · rw [← hcell] at hm ⊢
    exact answers_runMicro rfl h le_rfl (lds_of_mark_ne h hm)
  · rw [← hcell] at hm
    exact answers_runMicro rfl h le_rfl ((lds_of_mark_eq h hm).1 hs)
  · rw [← hcell] at hm
    exact answers_runMicro rfl h le_rfl ((lds_of_mark_eq h hm).2 hs)
  · rw [← hcell]
    exact answers_runMicro rfl h le_rfl (sts_stored h)
  · exact answers_runMicro rfl h le_rfl (adda_ran h)
  · exact answers_runMicro rfl h le_rfl (ldb_of_up h hbank hw hb hup hlost hm hx)
  · exact answers_runMicro rfl h le_rfl (ldb_of_not_up h hbank hw hb hno)
  · exact answers_runMicro rfl h le_rfl (stb_of_up h hbank hw hb hup hx)
  · exact answers_runMicro rfl h le_rfl (stb_of_not_up h hbank hw hb hno)

end Sys2Proof.Machine
end

section
/-! The vector instructions (R62, R66): VFIR sums the products of two regions, and VLMS moves the cells of one. -/

namespace Sys2Proof.Machine

variable {s u : State} {t a b : Nat} {m : Micro}

/-! ### VFIR -/

/-- The products of the cells `i` to `i + n - 1` of two regions, added to `v` (R66). -/
def State.firSum (s : State) (t a b : Nat) (v : Int) (i n : Nat) : Int :=
  (List.range' i n).foldl
    (fun v i => v + audioOf (s.memWord (ramAddr t (s.aregCell t a i))) * audioOf (s.memWord (ramAddr t (s.aregCell t b i)))) v

/-- R49, R66: where no cell is uncorrectable the loop adds every product, and its reads are counted. -/
theorem ReadOnly.vfirLoop (h : ReadOnly correctedFld s u) (v : Int) (fl : Nat) {i n : Nat}
    (hm : ∀ j, j < i + n → s.mark (ramAddr t (s.aregCell t a j)) ≠ 2 ∧ s.mark (ramAddr t (s.aregCell t b j)) ≠ 2) :
    (u.vfirLoop t a b v fl i n).1.1 = s.firSum t a b v i n ∧ (u.vfirLoop t a b v fl i n).1.2.2 = false ∧
      ReadOnly correctedFld s (u.vfirLoop t a b v fl i n).2 := by
  induction n generalizing u v fl i with
  | zero => simp [State.vfirLoop, State.firSum, h]
  | succ n ih =>
    obtain ⟨hma, hmb⟩ := hm i (by omega)
    obtain ⟨hp, hread⟩ := u.readRam_of_mark_ne t (s.aregCell t a i) (by rw [h.mark]; exact hma)
    have h1 := h.trans hread
    obtain ⟨hq, hread'⟩ := (u.readRam t (s.aregCell t a i)).2.readRam_of_mark_ne t (s.aregCell t b i) (by rw [h1.mark]; exact hmb)
    have h2 := h1.trans hread'
    simp only [State.vfirLoop, h.aregCell, h1.aregCell, hp, hq, h.memWord, h1.memWord, Bool.or_self, Bool.false_and, Bool.false_eq_true,
      if_false]
    exact ih h2 _ _ fun j hj => hm j (by omega)

/-! ### The bytes of a word -/

theorem cellsRead_congr {d : Byte} {m m' : List Host.Cell} {a n : Nat} (h : ∀ k, a ≤ k → k < a + n → mapGet d m' k = mapGet d m k) :
    cellsRead d m' a n = cellsRead d m a n := by
  induction n generalizing a with
  | zero => rfl
  | succ n ih => rw [cellsRead, cellsRead, h a le_rfl (by omega), ih fun k hk hn => h k (by omega) (by omega)]

/-- A word whose bytes are the same reads the same. -/
theorem State.memWord_congr (h : ∀ k, a ≤ k → k < a + 8 → u.memByte k = s.memByte k) : u.memWord a = s.memWord a := by
  rw [State.memWord, cellsRead_congr h, State.memWord]

/-- A word that a write elsewhere does not meet. -/
theorem State.memWord_memPut_ne (s : State) (v : Word) (h : b + 8 ≤ a ∨ a + 8 ≤ b) : (s.memPut a v).memWord b = s.memWord b :=
  State.memWord_congr fun k hk hn => s.memPut_sameOutside a v k (by omega)

theorem State.mark_memPut (s : State) (a b : Nat) (v : Word) : (s.memPut a v).mark b = 0 ∨ (s.memPut a v).mark b = s.mark b := by
  rw [State.mark, State.memPut_ecc, mapGet, mapFind_erase]
  split
  · exact Or.inl rfl
  · exact Or.inr rfl

/-! ### The audio of an arithmetic result -/

theorem toSigned_fromSigned_satSigned (v : Int) : toSigned 40 (fromSigned 40 (satSigned 40 v)) = satSigned 40 v := by
  unfold toSigned fromSigned satSigned
  omega

/-- R67: the result is saturated to the AUDIO field. -/
theorem audioOf_aluCell (x : Tile) (v : Int) (f : Nat) : audioOf (aluCell x v f) = satSigned 40 v := by
  rw [aluCell, audioOf_mkCell]
  exact toSigned_fromSigned_satSigned v

/-! ### VLMS -/

/-- The coefficient cell `i` of a VLMS after its update (R66). -/
def State.lmsValue (s : State) (t a b : Nat) (rnd : Bool) (g : Int) (i : Nat) : Int :=
  satSigned 40 (audioOf (s.memWord (ramAddr t (s.aregCell t b i))) +
    shiftRound rnd (g * audioOf (s.memWord (ramAddr t (s.aregCell t a i)))) 32)

/-- The first `i` coefficient cells have been updated, and nothing else has changed in tiles, memory and damaged words (R66). -/
structure LmsDone (s : State) (t a b : Nat) (rnd : Bool) (g : Int) (i : Nat) (u : State) : Prop where
  tiles : u.tiles = s.tiles
  done : ∀ j, j < i → audioOf (u.memWord (ramAddr t (s.aregCell t b j))) = s.lmsValue t a b rnd g j
  bytes : ∀ k, (∀ j, j < i → k < ramAddr t (s.aregCell t b j) ∨ ramAddr t (s.aregCell t b j) + 8 ≤ k) → u.memByte k = s.memByte k
  marks : ∀ k, u.mark k = 0 ∨ u.mark k = s.mark k

section Lms

variable {rnd : Bool} {g : Int} {i n : Nat}

/-- Configuration memory lies below the state RAMs, so an update leaves the address registers alone (R45). -/
theorem LmsDone.aregCell (h : LmsDone s t a b rnd g i u) (ht : t < 1024) (k o : Nat) : u.aregCell t k o = s.aregCell t k o := by
  have hword : u.memWord (frameAddr t (0xE48 + 8 * (k % 4))) = s.memWord (frameAddr t (0xE48 + 8 * (k % 4))) :=
    State.memWord_congr fun c hlo hhi => h.bytes c fun j _ => Or.inl (by simp only [frameAddr, ramAddr] at *; omega)
  have htile : u.tile t = s.tile t := by rw [State.tile, h.tiles, State.tile]
  simp only [State.aregCell, State.areg, hword, htile]

theorem LmsDone.of_readOnly {l : List Fld} {w : State} (h : LmsDone s t a b rnd g i u) (k : ReadOnly l u w) :
    LmsDone s t a b rnd g i w :=
  ⟨k.tiles.trans h.tiles, fun j hj => by rw [k.memWord]; exact h.done j hj, fun c hc => by rw [k.memByte]; exact h.bytes c hc,
    fun c => by rw [k.mark]; exact h.marks c⟩

/-- A cell of state RAM that is none of those updated so far. -/
theorem LmsDone.memWord_ne (h : LmsDone s t a b rnd g i u) (c : Nat)
    (hc : ∀ j, j < i → ramAddr t c ≠ ramAddr t (s.aregCell t b j)) : u.memWord (ramAddr t c) = s.memWord (ramAddr t c) :=
  State.memWord_congr fun k hlo hhi => h.bytes k fun j hj => by
    have := hc j hj
    simp only [ramAddr] at *
    omega

/-- One more cell is updated. -/
theorem LmsDone.memPut (h : LmsDone s t a b rnd g i u) {v : Word} (hv : audioOf v = s.lmsValue t a b rnd g i)
    (hne : ∀ j, j < i → ramAddr t (s.aregCell t b j) ≠ ramAddr t (s.aregCell t b i)) :
    LmsDone s t a b rnd g (i + 1) (u.memPut (ramAddr t (s.aregCell t b i)) v) := by
  refine ⟨(u.tiles_memPut _ _).trans h.tiles, fun j hj => ?_, fun k hk => ?_, fun k => ?_⟩
  · rcases Nat.lt_succ_iff_lt_or_eq.1 hj with hj | rfl
    · rw [State.memWord_memPut_ne _ _ (by have := hne j hj; simp only [ramAddr] at *; omega)]
      exact h.done j hj
    · rw [State.memWord_memPut_same, hv]
  · rw [u.memPut_sameOutside _ _ _ (hk i i.lt_succ_self)]
    exact h.bytes k fun j hj => hk j (Nat.lt_succ_of_lt hj)
  · rcases u.mark_memPut (ramAddr t (s.aregCell t b i)) k v with hk | hk
    · exact Or.inl hk
    · rw [hk]; exact h.marks k

theorem LmsDone.mark_ne (h : LmsDone s t a b rnd g i u) {k : Nat} (hk : s.mark k ≠ 2) : u.mark k ≠ 2 := by
  rcases h.marks k with hu | hu <;> rw [hu]
  · decide
  · exact hk

/-- R66: where no cell is uncorrectable and the cells read and written are distinct, the loop updates every one of them. -/
theorem LmsDone.vlmsLoop (h : LmsDone s t a b rnd g i u) (ht : t < 1024) (gf : Nat)
    (hm : ∀ j, j < i + n → s.mark (ramAddr t (s.aregCell t a j)) ≠ 2 ∧ s.mark (ramAddr t (s.aregCell t b j)) ≠ 2)
    (hne : ∀ j k, j < i + n → k < i + n → ramAddr t (s.aregCell t a j) ≠ ramAddr t (s.aregCell t b k) ∧
      (ramAddr t (s.aregCell t b j) = ramAddr t (s.aregCell t b k) → j = k)) :
    (u.vlmsLoop t a b rnd g gf i n).1 = false ∧ LmsDone s t a b rnd g (i + n) (u.vlmsLoop t a b rnd g gf i n).2 := by
  induction n generalizing u i with
  | zero => exact ⟨rfl, h⟩
  | succ n ih =>
    obtain ⟨hma, hmb⟩ := hm i (by omega)
    have hdiff : ∀ j, j < i → ramAddr t (s.aregCell t b j) ≠ ramAddr t (s.aregCell t b i) := fun j hj he =>
      absurd ((hne j i (by omega) (by omega)).2 he) (by omega)
    obtain ⟨hp, hread⟩ := u.readRam_of_mark_ne t (s.aregCell t a i) (h.mark_ne hma)
    have h1 := h.of_readOnly hread
    obtain ⟨hq, hread'⟩ := (u.readRam t (s.aregCell t a i)).2.readRam_of_mark_ne t (s.aregCell t b i) (h1.mark_ne hmb)
    have h2 := h1.of_readOnly hread'
    simp only [State.vlmsLoop, h.aregCell ht, h1.aregCell ht, h2.aregCell ht, hp, hq, Bool.or_self, Bool.false_and, Bool.false_eq_true,
      if_false, h.memWord_ne _ fun j hj => (hne i j (by omega) (by omega)).1, h1.memWord_ne _ fun j hj => (hdiff j hj).symm]
    rw [show i + (n + 1) = i + 1 + n by omega]
    refine ih (h2.memPut (audioOf_aluCell _ _ _) hdiff) (fun j hj => hm j (by omega)) fun j k hj hk => hne j k (by omega) (by omega)

end Lms

/-- Settles O5: the loops read cells without uncorrectable errors (`ReadOnly.vfirLoop`, `LmsDone.vlmsLoop`). -/
theorem tileVectorResults : Obligations.TileVectorResults := by
  unfold Obligations.TileVectorResults
  intro s t m x n len ca cb sum
  have ha : bits m.i 8 2 = m.imm.toNat / 256 % 4 := by simp [bits, Micro.i, Nat.shiftRight_eq_div_pow]
  have hb : bits m.i 10 2 = m.imm.toNat / 1024 % 4 := by simp [bits, Micro.i, Nat.shiftRight_eq_div_pow]
  have hlen : m.vlen = len := by simp [Micro.vlen, bits, Micro.i, len]
  have hread := (s.fetchAreg_readOnly t (m.imm.toNat / 256 % 4)).trans (State.noteAreg_readOnly _ t (m.imm.toNat / 1024 % 4))
  refine ⟨fun h hm => answers_runMicro rfl h le_rfl ?_, fun h hm hne => answers_runMicro rfl h le_rfl ?_⟩
  · have hsum : s.firSum t (m.imm.toNat / 256 % 4) (m.imm.toNat / 1024 % 4) (x.acc n) 0 len = sum := by
      rw [State.firSum, ← List.range_eq_range']
    have hloop := hread.vfirLoop (a := m.imm.toNat / 256 % 4) (b := m.imm.toNat / 1024 % 4) (x.acc n) (x.accF n)
      (i := 0) (n := len) fun j hj => hm j (by omega)
    rw [hsum] at hloop
    simp only [opVfir, ha, hb, hlen, hread.tile]
    generalize State.vfirLoop _ _ _ _ _ _ _ _ = r at hloop ⊢
    obtain ⟨hacc, hstop, hloop⟩ := hloop
    rw [if_neg (by simp [hstop]), hloop.tile, hacc]
    obtain ⟨hv, -, hother, -, -, -, -, -, hpc, hcyc, -, hquiet⟩ := hloop.accRan (m := m) h.before m.acs.isLt sum r.1.2.1 (Or.inl rfl)
    exact ⟨hv, hother, hpc, hcyc, hquiet⟩
  · have hboth := hread.trans (State.readOperand_readOnly _ t m.srca.toNat)
    have hstart : LmsDone s t (m.imm.toNat / 256 % 4) (m.imm.toNat / 1024 % 4) m.rnd (audioOf (s.operand t m.srca.toNat)) 0
        ((((s.noteFetch t).noteAreg t (m.imm.toNat / 256 % 4)).noteAreg t (m.imm.toNat / 1024 % 4)).readOperand t m.srca.toNat).2 :=
      ⟨hboth.tiles, fun j hj => absurd hj (Nat.not_lt_zero j), fun k _ => hboth.memByte k, fun k => Or.inr (hboth.mark k)⟩
    obtain ⟨hgo, hdone⟩ := hstart.vlmsLoop t.isLt (flagsOf (s.operand t m.srca.toNat)) (n := len) (fun j hj => hm j (by omega))
      fun j k hj hk => hne j k (by omega) (by omega)
    obtain ⟨⟨hmem, -, -⟩, -⟩ := State.advance_sameMemories (t := t) (by rw [State.tile, hdone.tiles]; exact h.before)
      ((s.tile t).doneCycle m + 0)
    simp only [opVlms, ha, hb, hlen, hread.operand, hgo, Bool.false_eq_true, if_false]
    refine ⟨fun i hi => ?_, fun k hk => ?_, tileRan_advance hdone.tiles h.before⟩
    · rw [State.memWord, hmem, ← State.memWord]
      exact hdone.done i (by omega)
    · rw [State.memByte, hmem, ← State.memByte]
      exact hdone.bytes k fun j hj => hk j (by omega)

end Sys2Proof.Machine
end

section
/-! A tick of a tile: its start (R51 to R53), the section engine's run (R83, R86), the stops (R68 to R70) and a CURR input (R55). -/

namespace Sys2Proof.Machine

variable {l : List Fld} {s u : State} {t : Nat} {m : Micro}

/-! ### The section engine's run -/

theorem sec_started (h : Executes s t 0x22 0 m) (hinit : m.imm.toNat / 4096 % 2 = 0) (hpre : m.imm.toNat / 16384 % 4 = 0) :
    let x := s.tile t
    let u := opSec t m (x.doneCycle m + 0) (s.noteFetch t)
    (u.tile t).run = some { first := m.imm.toNat % 64, count := m.imm.toNat / 64 % 64, cell := s.operand t m.srca.toNat, pos := 0
                            nextEnd := x.doneCycle m + kindCycles (s.secKind t (m.imm.toNat % 64)) } ∧ (u.tile t).pc = x.pc + 1 := by
  have hread := s.readA t m.srca.toNat
  have h12 : bitOf m.i 12 = false := by simp [bitOf, Micro.i, Nat.shiftRight_eq_div_pow, hinit]
  have h14 : bits m.i 14 2 = 0 := by simp [bits, Micro.i, Nat.shiftRight_eq_div_pow, hpre]
  have hfirst : bits m.i 0 6 = m.imm.toNat % 64 := by simp [bits, Micro.i]
  have hcount : bits m.i 6 6 = m.imm.toNat / 64 % 64 := by simp [bits, Micro.i, Nat.shiftRight_eq_div_pow]
  simp only [opSec, State.startRun, h12, h14, hfirst, hcount, State.operand_noteFetch, hread.tile, hread.secKind, preOp, Bool.false_eq_true,
    if_false, Nat.zero_ne_one, OfNat.zero_ne_ofNat]
  rw [State.advance_of_lt (by rw [State.tile_setTile_same]; exact h.before), State.tile_setTile_same, State.tile_setTile_same]
  exact ⟨rfl, rfl⟩

theorem secRunDone_ends {q : SecRun} (hr : (s.tile t).run = some q) (ht : s.tileState t = 2) (he : s.runEnd t q ≤ (s.tile t).budget) :
    ((secRunDone t s).tile t).run = none ∧ ((secRunDone t s).tile t).secEnd = s.runEnd t q := by
  simp [secRunDone, hr, ht, he]

/-! ### An illegal instruction -/

theorem illegalInstruction_eq (ht : s.tileState t = 2) (hf : s.fetchMicro t = some m) (hi : m.illegal = true)
    (hr : (s.tile t).run = none) (hc : max (s.tile t).cyc (s.tile t).secEnd + 1 ≤ (s.tile t).budget) :
    illegalInstruction t s = ((s.noteFetch t).committed t (max (s.tile t).cyc (s.tile t).secEnd + 1)).stopTile t 2 (s.tile t).pc := by
  rw [← (s.noteFetch_readOnly t).tile t, ← State.commitTile_some]
  simp [illegalInstruction, ht, hf, hi, hr, hc, (s.noteFetch_readOnly t).tile]

theorem illegalInstruction_shown (ht : s.tileState t = 2) (hf : s.fetchMicro t = some m) (hi : m.illegal = true)
    (hr : (s.tile t).run = none) (hc : max (s.tile t).cyc (s.tile t).secEnd + 1 ≤ (s.tile t).budget) :
    let u := illegalInstruction t s
    u.tileState t = 3 ∧ u.get (FAB_TILE_STAT_STOP_REASON t) = 2 ∧ u.get (FAB_TILE_STAT_STOP_PC t) = (s.tile t).pc % 256 ∧
      (u.tile t).pubs.head? = some { tick := (s.tile t).tickNo, cells := outCells (s.tile t).out (s.tileOuts t) } := by
  dsimp only
  rw [illegalInstruction_eq ht hf hi hr hc]
  refine ⟨State.tileState_stopTile _ _ _ _, State.stopReason_stopTile _ _ _ _, State.stopPc_stopTile _ _ _ _, ?_⟩
  rw [State.tile_stopTile, State.tile_committed, (s.noteFetch_readOnly t).tile, (s.noteFetch_readOnly t).tileOuts]
  exact Tile.pubs_head_publish _ _

/-! ### A CURR input arrives -/

theorem pendingIn_latched {n : Nat} (x : Tile) {c : Option Word} (h : mapGet none x.inp n = c) (hc : c ≠ none) :
    x.pendingIn (0x10 + n) = none := by
  rw [Tile.pendingIn, if_neg]
  simp [h, hc]

/-- R55: once the input has arrived, the waiting MOV executes. -/
theorem executes_latchCurr {n e : Nat} {c : Word} (hn : n < 8) (hf : s.fetchMicro t = some m) (hi : m.illegal = false)
    (ho : m.opc.toNat = 0x02) (ha : m.srca.toNat = 0x10 + n) (hcond : m.cond.toNat = 0) (ht : s.tileState t = 2)
    (hpc : (s.tile t).pc < 191) (hb : max (s.tile t).cyc e + 1 ≤ (s.tile t).budget) :
    Executes (s.latchCurr t n c e) t 0x02 0 m ∧ ((s.latchCurr t n c e).tile t).doneCycle m = max (s.tile t).cyc e + 1 := by
  have htile : (s.latchCurr t n c e).tile t = { s.tile t with
      inp := mapSet none (s.tile t).inp n (some c), waitIn := none, cyc := max (s.tile t).cyc e } := State.tile_setTile_same _ _ _
  have huses : usesA 0x02 = true ∧ usesB 0x02 = false := by decide
  have hsr : ¬ m.srca.toNat = 0x30 := by omega
  have hdone : ((s.latchCurr t n c e).tile t).doneCycle m = max (s.tile t).cyc e + 1 := by
    simp [htile, Tile.doneCycle, Tile.afterEngine, Micro.cost, ho, huses, hsr]
  refine ⟨⟨ht, ?_, ho, hi, fun _ => by rw [hcond]; rfl, ?_, ?_, ?_, by rw [htile]; exact hpc⟩, hdone⟩
  · rw [← hf, State.fetchMicro, htile]; rfl
  · have hpend : ((s.latchCurr t n c e).tile t).pendingIn m.srca.toNat = none := by
      rw [ha]
      exact pendingIn_latched (c := some c) _ (by rw [htile]; exact mapGet_set_same none _ n (some c)) (by simp)
    simp [Tile.waitsFor, ho, huses, hpend]
  · simp [Tile.waitsEngine, ho, huses, hsr]
  · rw [hdone, htile]
    exact hb

theorem currRead_moves {n e stalls : Nat} {c : Word} (hn : n < 8) (hw : (s.tile t).waitIn = some n) (hcell : s.currCell t n = some (c, e))
    (hf : s.fetchMicro t = some m) (hi : m.illegal = false)
    (ho : m.opc.toNat = 0x02) (ha : m.srca.toNat = 0x10 + n) (hcond : m.cond.toNat = 0) (ht : s.tileState t = 2)
    (hpc : (s.tile t).pc < 191) (hb : max (s.tile t).cyc e + 1 ≤ (s.tile t).budget) :
    let u := currRead t stalls s
    (u.tile t).waitIn = none ∧ mapGet none (u.tile t).inp n = some c ∧ (u.tile t).cyc = max (s.tile t).cyc e + 1 ∧
      (u.tile t).pc = (s.tile t).pc + 1 := by
  obtain ⟨hexec, hdone⟩ := executes_latchCurr (c := c) hn hf hi ho ha hcond ht hpc hb
  have hrun : currRead t stalls s = (s.latchCurr t n c e).runMicro t 0x02 0 opMov := by
    have hf' : (s.latchCurr t n c e).fetchMicro t = some m := hexec.fetched
    simp only [currRead, hw, hcell, hf', ho]
    rfl
  have htile : (s.latchCurr t n c e).tile t = { s.tile t with
      inp := mapSet none (s.tile t).inp n (some c), waitIn := none, cyc := max (s.tile t).cyc e } := State.tile_setTile_same _ _ _
  have hfields : ∀ (x : Tile) (d : Nat) (v : Word), (x.writeOperand d v).waitIn = x.waitIn ∧ (x.writeOperand d v).inp = x.inp := by
    intro x d v
    unfold Tile.writeOperand
    split_ifs <;> exact ⟨rfl, rfl⟩
  obtain ⟨⟨hres, -⟩, -⟩ := (State.readA (s.latchCurr t n c e) t m.srca.toNat).resultRan (m := m) (stalls := 0)
    (v := (s.latchCurr t n c e).operand t m.srca.toNat) hexec.before
  dsimp only
  rw [hrun, State.runMicro_of_executes _ hexec le_rfl, opMov, State.operand_noteFetch, hres]
  obtain ⟨hwait, hinp⟩ := hfields (setZN ((s.latchCurr t n c e).tile t) (audioOf ((s.latchCurr t n c e).operand t m.srca.toNat)))
    m.dst.toNat ((s.latchCurr t n c e).operand t m.srca.toNat)
  refine ⟨hwait.trans (by rw [htile]; rfl), ?_, hdone, by rw [htile]⟩
  exact (congrArg (mapGet none · n) hinp).trans (by rw [htile]; exact mapGet_set_same none _ n (some c))

/-! ### An overrun -/

/-- R69: an instruction other than a vector instruction or an STB has done nothing where RUN stops. -/
theorem State.cutInstr_eq_self (h : ∀ m, s.fetchMicro t = some m → m.opc.toNat ≠ 0x1C ∧ m.opc.toNat ≠ 0x1E ∧ m.opc.toNat ≠ 0x1F)
    (c : Nat) : s.cutInstr t c = s := by
  unfold State.cutInstr
  split
  · rfl
  · next m hm =>
    obtain ⟨h1, h2, h3⟩ := h m hm
    dsimp only
    split
    · rfl
    · split <;> first | rfl | contradiction

theorem State.cutRun_of_idle (h : (s.tile t).run = none) (c : Nat) : s.cutRun t c = s := by
  simp [State.cutRun, h]

theorem State.tile_cutTick (s : State) (t c : Nat) : (s.cutTick t c).tile t =
    { { s.tile t with ended := true, endCyc := c, waitIn := none, out := (s.tile t).com.getD [] }.publish
        (fillCells (s.frame % 65536) (s.tile t).com (s.tileOuts t)) with late := [] } := by
  simp [State.cutTick, State.tile_landLate, State.tag]

theorem State.get_cutTick (s : State) (t c : Nat) {f : Fld} (h : Fld.key f ≠ Fld.key CUR_CNT_WB_CANCEL) :
    (s.cutTick t c).get f = s.get f := by
  rw [State.cutTick, State.get_landLate _ _ h, State.get_setTile]

section ItePost

variable {p : Prop} [Decidable p] (s : State) (c v d : Nat)

theorem State.get_ite_post {f : Fld} (hf : fldIn eventFlds f = false) : (if p then s.post c v d else s).get f = s.get f := by
  split
  · exact State.get_post hf
  · rfl

theorem State.tile_ite_post (t : Nat) : (if p then s.post c v d else s).tile t = s.tile t := by
  split
  · exact State.tile_post s c v d t
  · rfl

end ItePost

/-- The state in which an overrun in cycle `c` has been counted, and reported where FAB_CTL says so (R69). -/
def State.overrun (s : State) (t c : Nat) : State :=
  let x := s.tile t
  let now := s.domTick (s.tileDomain t)
  let s := s.cutTick t c
  let s := s.setTile t { s.tile t with cyc := c, tickNo := now, endCyc := if x.tickNo = now then c else 0 }
  let old := s.get (FAB_TILE_STAT_OVR_CONSEC t)
  let s := (s.bump (FAB_TILE_STAT_OVR_CONSEC t)).bump (FAB_TILE_OVRCNT_OVR_COUNT t)
  let s := (s.setBit FAB_OVR_SUM_SHELF_OVR (t / 64)).peak (FAB_TILE_MAXCYC_MAX_CYC t) c
  if old = 0 ∧ s.on FAB_CTL_OVR_EVT_EN then s.post 0x0401 sevWarn (pack [p16 t, p16 (s.get PWR_STAT_CUR_PL), p32 c]) else s

/-- What the count of an overrun leaves in a field that no event changes. -/
theorem State.get_overrun {f : Fld} (he : fldIn eventFlds f = false) (hc : Fld.key f ≠ Fld.key (FAB_TILE_MAXCYC_MAX_CYC t)) (c : Nat) :
    (s.overrun t c).get f = ((((s.cutTick t c).bump (FAB_TILE_STAT_OVR_CONSEC t)).bump (FAB_TILE_OVRCNT_OVR_COUNT t)).setBit
      FAB_OVR_SUM_SHELF_OVR (t / 64)).get f := by
  rw [State.overrun, State.get_ite_post _ _ _ _ he, State.get_peak_ne _ _ hc]
  rfl

theorem State.tile_overrun (s : State) (t c : Nat) : (s.overrun t c).tile t = { (s.cutTick t c).tile t with
    cyc := c, tickNo := s.domTick (s.tileDomain t)
    endCyc := if (s.tile t).tickNo = s.domTick (s.tileDomain t) then c else 0 } := by
  rw [State.overrun, State.tile_ite_post, State.tile_peak, State.setBit_eq, State.tile_put, State.bump_eq, State.tile_put, State.bump_eq,
    State.tile_put, State.tile_setTile_same]

theorem bitOf_setBitN (w i : Nat) : bitOf (setBitN w i) i = true := by
  unfold setBitN
  split
  · assumption
  · next h =>
    have h2 : (w >>> i) % 2 ≠ 1 := by simpa [bitOf] using h
    rw [Nat.shiftRight_eq_div_pow] at h2
    simp only [bitOf, Nat.shiftRight_eq_div_pow, beq_iff_eq]
    rw [Nat.add_div_right _ (Nat.two_pow_pos i)]
    omega

/-- A bit of the low `n` bits. -/
theorem bitOf_mod (w : Nat) {i n : Nat} (h : i < n) : bitOf (w % 2 ^ n) i = bitOf w i := by
  have hbit : ∀ v : Nat, bitOf v i = v.testBit i := fun v => by
    rw [bitOf, Nat.testBit_eq_decide_div_mod_eq, Nat.shiftRight_eq_div_pow]
    rfl
  rw [hbit, hbit, Nat.testBit_mod_two_pow]
  simp [h]

theorem State.bit_setBit_same (s : State) {f : Fld} {i : Nat} (h : i < f.width) : (s.setBit f i).bit f i = true := by
  rw [State.bit, State.setBit_eq, State.get_put_same, bitOf_mod _ h, bitOf_setBitN]

theorem tileOverrun_eq {at_ : Nat} (ht : s.tileState t = 2) (hlate : (s.tile t).tickNo ≠ s.domTick (s.tileDomain t))
    (hrun : (s.tile t).run = none) (hsec : (s.tile t).secEnd ≤ (s.tile t).cyc) (hstop : (s.tile t).stopReq = false)
    (hop : ∀ m, s.fetchMicro t = some m → m.opc.toNat ≠ 0x1C ∧ m.opc.toNat ≠ 0x1E ∧ m.opc.toNat ≠ 0x1F)
    (hlim : s.get FAB_CTL_OVR_LIMIT = 0) :
    tileOverrun t at_ s = (s.overrun t (min (s.tile t).budget (max (s.tile t).cyc at_))).put (FAB_TILE_STAT_STATE t) 1 := by
  have hmax : max (max (s.tile t).cyc (s.tile t).secEnd) at_ = max (s.tile t).cyc at_ := by omega
  have hlim' : (s.overrun t (min (s.tile t).budget (max (s.tile t).cyc at_))).get FAB_CTL_OVR_LIMIT = 0 := by
    rw [State.get_overrun (by decide) (by simp only [Fld.key, FAB_CTL_OVR_LIMIT, FAB_TILE_MAXCYC_MAX_CYC]; omega), State.setBit_eq,
      State.get_put_ne _ _ (by decide), State.bump_eq,
      State.get_put_ne _ _ (by simp only [Fld.key, FAB_CTL_OVR_LIMIT, FAB_TILE_OVRCNT_OVR_COUNT]; omega), State.bump_eq,
      State.get_put_ne _ _ (by simp only [Fld.key, FAB_CTL_OVR_LIMIT, FAB_TILE_STAT_OVR_CONSEC]; omega),
      State.get_cutTick _ _ _ (by decide), hlim]
  rw [tileOverrun, if_neg (by simp [ht, hlate])]
  extract_lets +onlyGivenNames c w
  have hc : c = min (s.tile t).budget (max (s.tile t).cyc at_) := by simp only [c, if_neg hlate, hmax]
  have hw : w = s := by simp only [w, State.cutInstr_eq_self hop, State.cutRun_of_idle hrun]
  clear_value c w
  subst c w
  rw [if_neg (not_not.2 ht)]
  extract_lets +onlyGivenNames cut src counted old bumped peaked shown lim
  have hshown : shown = s.overrun t (min (s.tile t).budget (max (s.tile t).cyc at_)) := rfl
  rw [if_neg (by simp [lim, hshown, hlim']), if_neg (by simp [hstop]), hshown]

theorem tileOverrun_shown {at_ : Nat} (hsh : t / 64 < 16) (ht : s.tileState t = 2) (hlate : (s.tile t).tickNo ≠ s.domTick (s.tileDomain t))
    (hrun : (s.tile t).run = none) (hsec : (s.tile t).secEnd ≤ (s.tile t).cyc) (hstop : (s.tile t).stopReq = false)
    (hop : ∀ m, s.fetchMicro t = some m → m.opc.toNat ≠ 0x1C ∧ m.opc.toNat ≠ 0x1E ∧ m.opc.toNat ≠ 0x1F)
    (hlim : s.get FAB_CTL_OVR_LIMIT = 0) :
    let x := s.tile t
    let u := tileOverrun t at_ s
    u.tileState t = 1 ∧ (u.tile t).cyc = min x.budget (max x.cyc at_) ∧
      u.get (FAB_TILE_STAT_OVR_CONSEC t) = min (s.get (FAB_TILE_STAT_OVR_CONSEC t) + 1) 255 ∧
      u.get (FAB_TILE_OVRCNT_OVR_COUNT t) = min (s.get (FAB_TILE_OVRCNT_OVR_COUNT t) + 1) (2 ^ 32 - 1) ∧
      u.bit FAB_OVR_SUM_SHELF_OVR (t / 64) = true ∧
      (u.tile t).pubs.head?.map (fun p => p.cells) = some (fillCells (s.frame % 65536) x.com (s.tileOuts t)) := by
  dsimp only
  rw [tileOverrun_eq ht hlate hrun hsec hstop hop hlim]
  generalize min (s.tile t).budget (max (s.tile t).cyc at_) = c
  refine ⟨?_, ?_, ?_, ?_, ?_, ?_⟩
  · rw [State.tileState, State.get_put_same]; rfl
  · rw [State.tile_put, State.tile_overrun]
  · rw [State.get_put_ne _ _ (by simp [Fld.key, FAB_TILE_STAT_OVR_CONSEC, FAB_TILE_STAT_STATE]),
      State.get_overrun (fldIn_eventFlds_tileStat t rfl (by simp [FAB_TILE_STAT_OVR_CONSEC]))
        (by simp only [Fld.key, FAB_TILE_STAT_OVR_CONSEC, FAB_TILE_MAXCYC_MAX_CYC]; omega),
      State.setBit_eq, State.get_put_ne _ _ (by simp only [Fld.key, FAB_TILE_STAT_OVR_CONSEC, FAB_OVR_SUM_SHELF_OVR]; omega),
      State.bump_eq, State.get_put_ne _ _ (by simp only [Fld.key, FAB_TILE_STAT_OVR_CONSEC, FAB_TILE_OVRCNT_OVR_COUNT]; omega),
      State.bump_eq, State.get_put_same, State.get_cutTick _ _ _ (key_tileStat_ne_wbCancel rfl (by simp [FAB_TILE_STAT_OVR_CONSEC]))]
    exact Nat.mod_eq_of_lt (by simp only [satNat, FAB_TILE_STAT_OVR_CONSEC]; omega)
  · have hne : ∀ g, g.lo < 64 → g.addr ≠ 0xE04038 + 0x1000000 * t → Fld.key (FAB_TILE_OVRCNT_OVR_COUNT t) ≠ Fld.key g :=
      fun g hlo ha => key_ne_of_addr_ne (by simp [FAB_TILE_OVRCNT_OVR_COUNT]) hlo ha.symm
    have hev : fldIn eventFlds (FAB_TILE_OVRCNT_OVR_COUNT t) = false := fldIn_eq_false_of_addr (by simp [FAB_TILE_OVRCNT_OVR_COUNT])
      fun g hg => by
        obtain ⟨hlo, ha⟩ := (by decide : ∀ g ∈ eventFlds, g.lo < 64 ∧ g.addr % 0x1000000 ≠ 0xE04038) g hg
        exact ⟨hlo, by simp only [FAB_TILE_OVRCNT_OVR_COUNT]; omega⟩
    rw [State.get_put_ne _ _ (hne _ (by simp [FAB_TILE_STAT_STATE]) (by simp only [FAB_TILE_STAT_STATE]; omega)),
      State.get_overrun hev (hne _ (by simp [FAB_TILE_MAXCYC_MAX_CYC]) (by simp only [FAB_TILE_MAXCYC_MAX_CYC]; omega)),
      State.setBit_eq, State.get_put_ne _ _ (hne _ (by decide) (by simp only [FAB_OVR_SUM_SHELF_OVR]; omega)),
      State.bump_eq, State.get_put_same, State.bump_eq,
      State.get_put_ne _ _ (hne _ (by simp [FAB_TILE_STAT_OVR_CONSEC]) (by simp only [FAB_TILE_STAT_OVR_CONSEC]; omega)),
      State.get_cutTick _ _ _ (hne _ (by decide) (by simp only [CUR_CNT_WB_CANCEL]; omega))]
    exact Nat.mod_eq_of_lt (by simp only [satNat, FAB_TILE_OVRCNT_OVR_COUNT]; omega)
  · rw [State.bit, State.get_put_ne _ _ (by simp only [Fld.key, FAB_OVR_SUM_SHELF_OVR, FAB_TILE_STAT_STATE]; omega),
      State.get_overrun (by decide) (by simp only [Fld.key, FAB_OVR_SUM_SHELF_OVR, FAB_TILE_MAXCYC_MAX_CYC]; omega), ← State.bit]
    exact State.bit_setBit_same _ hsh
  · rw [State.tile_put, State.tile_overrun, State.tile_cutTick]
    rfl

/-! ### The start of a tick -/

/-- From `s` to `u` nothing has changed but the tiles, and what `ReadOnly` reads count. -/
structure TilesOnly (s u : State) : Prop where
  mem : u.mem = s.mem
  frame : u.frame = s.frame
  regs : SameRegsEv correctedFld s u

theorem TilesOnly.trans {w : State} (h : TilesOnly s u) (k : TilesOnly u w) : TilesOnly s w :=
  ⟨k.mem.trans h.mem, k.frame.trans h.frame, h.regs.trans k.regs⟩

theorem ReadOnly.tilesOnly (h : ReadOnly correctedFld s u) : TilesOnly s u := ⟨h.memories.1, h.frame, h.regs⟩

theorem State.setTile_tilesOnly (s : State) (t : Nat) (x : Tile) : TilesOnly s (s.setTile t x) := ⟨rfl, rfl, .refl _ s⟩

theorem TilesOnly.get (h : TilesOnly s u) {f : Fld} (hf : fldIn correctedFld f = false) (he : fldIn eventFlds f = false) :
    u.get f = s.get f := h.regs.get hf he

/-- The tick budgets depend on registers that no flip and no read changes (R52). -/
theorem TilesOnly.budgetOf (h : TilesOnly s u) (d : Nat) : u.budgetOf d = s.budgetOf d := by
  have hlevel : u.fabKHz = s.fabKHz := by rw [State.fabKHz, h.get (by decide) (by decide), State.fabKHz]
  have hrate : u.rate96 = s.rate96 := by rw [State.rate96, State.on, h.get (by decide) (by decide), ← State.on, State.rate96]
  have hmax : u.maxRateB = s.maxRateB := by rw [State.maxRateB, h.get (by decide) (by decide), State.maxRateB]
  rw [State.budgetOf, hlevel, hrate, hmax, State.budgetOf]

theorem TilesOnly.hasBankIn (h : TilesOnly s u) (t : Nat) : u.hasBankIn t = s.hasBankIn t := by
  simp only [State.hasBankIn, State.inDesc, State.memWord, h.mem]

/-- R96: the flips of a tile change its sections' states, its settle windows and its slots alone. -/
theorem State.applyFlips_tilesOnly (s : State) (t : Nat) : TilesOnly s (s.applyFlips t) := by
  have hinit : ∀ (l : List Nat) (u : State), TilesOnly s u → TilesOnly s (l.foldl (fun s i => s.initSec t i) u) := by
    intro l
    induction l with
    | nil => exact fun u h => h
    | cons i l ih => exact fun u h => ih _ (h.trans (u.setTile_tilesOnly t _))
  exact hinit _ _ (s.setTile_tilesOnly t _)

/-- Without pending entries the PARAM phase does nothing (R72). -/
theorem State.applyParams_tilesOnly (h : (s.tile t).pend = []) : TilesOnly s (s.applyParams t) := by
  simp only [State.applyParams, h, List.foldl_nil]
  exact s.setTile_tilesOnly t _

/-- Where the tick of a tile stands: the PC, the cycles used, the tick, its frame and its budget. -/
def Tile.tickPart (x : Tile) : Nat × Nat × Nat × Nat × Nat := (x.pc, x.cyc, x.tickNo, x.tickFrame, x.budget)

theorem State.tile_memUe (s : State) (b w k t : Nat) : (s.memUe b w k).tile t = s.tile t := by
  simp [State.memUe, State.tile, State.bump_eq]

theorem State.tile_memCorrected (s : State) (b w t : Nat) : (s.memCorrected b w).tile t = s.tile t := rfl

theorem State.tile_bankWord (s : State) (k b w t : Nat) : (s.bankWord k b w).2.tile t = s.tile t := by
  unfold State.bankWord
  dsimp only
  split
  · rfl
  · split
    · exact s.tile_memUe b w k t
    · split
      · exact s.tile_memCorrected b w t
      · rfl

/-- A read of a bank word leaves the tiles alone. -/
theorem State.tile_bankTileRead (s : State) (b w t : Nat) : (s.bankTileRead b w).2.tile t = s.tile t := by
  unfold State.bankTileRead
  split
  · rfl
  · split
    · rfl
    · exact s.tile_bankWord 0 b w t

/-- FETCH latches inputs and moves BANK inputs on; the tick stands where it stood (R54). -/
theorem State.tickPart_fetchInput (s : State) (t k n : Nat) :
    ((s.fetchInput t k n).2.tile t).tickPart = (s.tile t).tickPart := by
  have hnote : ((s.noteWord (inAddr t n)).tile t).tickPart = (s.tile t).tickPart := by rw [State.tile_noteWord]
  unfold State.fetchInput
  dsimp only
  split
  · split_ifs <;> exact hnote
  · split_ifs <;> exact hnote
  · rw [State.tile_bankTileRead, State.tile_setTile_same]
    exact hnote
  · exact hnote

theorem State.tickPart_fetchInputs (s : State) (t k : Nat) (l : List Nat) :
    ((s.fetchInputs t k l).tile t).tickPart = (s.tile t).tickPart := by
  induction l generalizing s with
  | nil => rw [State.fetchInputs]
  | cons n l ih =>
    rw [State.fetchInputs, ih, State.tile_setTile_same, ← s.tickPart_fetchInput t k n]
    simp only [Tile.tickPart]

theorem tileTick_starts {fo : Nat} (ht : s.tileState t = 1) (hd : s.tileDomain t ≠ 0) (hk : (s.tile t).tickNo ≠ s.domTick (s.tileDomain t))
    (hpend : (s.tile t).pend = []) (hbank : s.hasBankIn t = false) :
    let d := s.tileDomain t
    let u := tileTick t fo s
    u.tileState t = 2 ∧ (u.tile t).pc = 0 ∧ (u.tile t).cyc = 0 ∧ (u.tile t).tickNo = s.domTick d ∧
      (u.tile t).tickFrame = s.frame % 65536 ∧ (u.tile t).budget = s.budgetOf d := by
  have hnote := s.noteWord_readOnly (frameAddr t 0xE00)
  have hstart : TilesOnly s (((s.noteWord (frameAddr t 0xE00)).applyParams t).applyFlips t) :=
    (hnote.tilesOnly.trans (State.applyParams_tilesOnly (by rw [hnote.tile]; exact hpend))).trans (State.applyFlips_tilesOnly _ t)
  dsimp only
  generalize hu : tileTick t fo s = u
  rw [tileTick, if_neg (by simp [ht, hd, hk])] at hu
  extract_lets +onlyGivenNames w src x at hu
  have hw : TilesOnly s w := hstart
  clear_value w
  rw [if_neg (by simp [ht])] at hu
  extract_lets +onlyGivenNames charged started fetched shown at hu
  have hcharged : charged = 0 := by simp only [charged, hw.hasBankIn, hbank, Bool.false_eq_true, if_false]
  clear_value charged
  have hshown : shown = fetched := if_pos hcharged
  have hpart : (fetched.tile t).tickPart = (0, 0, s.domTick (s.tileDomain t), s.frame % 65536, s.budgetOf (s.tileDomain t)) := by
    rw [State.tickPart_fetchInputs, State.tile_setTile_same]
    rw [Tile.tickPart, Prod.mk.injEq, Prod.mk.injEq, Prod.mk.injEq, Prod.mk.injEq]
    refine ⟨rfl, hcharged, by simp only [x], by simp only [x, State.tag, hw.frame], ?_⟩
    dsimp only
    rw [hw.budgetOf]
  simp only [Tile.tickPart, Prod.mk.injEq] at hpart
  clear_value fetched
  rw [← hu, hshown, State.tile_put]
  refine ⟨?_, hpart⟩
  rw [State.tileState, State.get_put_same]
  rfl

/-- Settles O6. -/
theorem tileTicksRunsAndStops : Obligations.TileTicksRunsAndStops := by
  unfold Obligations.TileTicksRunsAndStops
  intro s t x d
  refine ⟨fun m h hinit hpre => answers_runMicro rfl h le_rfl (sec_started h hinit hpre), fun q hr ht he => ⟨_, rfl, secRunDone_ends hr ht he⟩,
    fun m ht hf hi hr hc => ⟨_, rfl, illegalInstruction_shown ht hf hi hr hc⟩,
    fun n c e stalls m hw hcell hf hi ho ha hcond hn ht hpc hb =>
      ⟨_, rfl, currRead_moves hn hw hcell hf hi ho ha hcond ht hpc hb⟩,
    fun at_ ht hlate hrun hsec hstop hop hlim => ⟨_, rfl, tileOverrun_shown (by omega) ht hlate hrun hsec hstop hop hlim⟩,
    fun fo ht hd hk hpend hbank => ⟨_, rfl, tileTick_starts ht hd hk hpend hbank⟩⟩

end Sys2Proof.Machine
end

section
/-! Register fields and memories under the operations' updates: how a field is read after any of them, and `Quiet` as a relation that
an operation's steps compose to. -/

namespace Sys2Proof.Machine

variable {l : List Fld} {s t u : State}

/-! ### Reading a field after an update -/

/-- An update outside the registers. -/
theorem State.get_mk (s : State) (f : Fld) {v_pending : List Instr} {v_mem : List Host.Cell} {v_ecc : SMap Nat} {v_wb : SMap Nat}
    {v_peaks : SMap Nat} {v_fresh : Nat} {v_frame : Nat} {v_tickA : Nat} {v_tickB : Nat} {v_tickC : Nat} {v_evq : List Ev} {v_fwdq
    : List Ev} {v_occ : List Nat} {v_tiles : SMap Tile} {v_lanes : SMap Nat} {v_paramq : SMap (List ParamEntry)} {v_edgeIn : SMap
    Word} {v_edgeNew : SMap Word} {v_edgeNext : SMap Word} {v_edgeOut : SMap Word} {v_xpre : SMap Word} {v_lowSum : SMap (List
    Int)} {v_xback : SMap Word} {v_xps : SMap Xp} {v_xpEcc : SMap Nat} {v_rings : SMap Ring} {v_annals : Annals} {v_nvs : List
    Host.Cell} {v_isHead : Bool} {v_testq : List (Nat × Nat)} {v_loadAll : Bool} {v_loadShelf : Option Nat} {v_cplOut : List (Nat
    × Nat × Nat)} {v_groups : List Group} {v_frB : Nat} {v_frC : Nat} {v_ports : SMap Port} {v_spd : Spd} {v_brgs : SMap Brg}
    {v_holdSince : Nat} {v_dombFree : Bool} {v_monStop : SMap Nat} {v_monRate : SMap Nat} {v_slewTotal : Nat} {v_slewOffset : Int}
    {v_heldB : Nat} {v_ains : SMap Ain} {v_biasRamp : Nat} {v_biasLeft : SMap Nat} {v_hqOff : Nat} {v_micMute : Nat} {v_hqWin :
    SMap Nat} {v_lpWin : SMap Nat} {v_micAt : Nat} {v_wake : Wake} {v_carrier : Carrier} {v_spks : SMap Spk} {v_thermRed : Nat}
    {v_wakeReq : Option Nat} {v_detBias : Nat} {v_hpos : SMap Hpo} {v_jacks : SMap Jack} {v_chain : Chain} {v_busOut : List Nat}
    {v_busAddr : Nat} {v_busAwake : Bool} {v_busSnap : Option (Nat × Nat)} {v_fwdFatal : Bool} {v_auxq : List Nat} {v_sectors :
    SMap (Nat × Nat × Nat)} {v_sysSeq : Nat} {v_tlog : TimeLog} {v_keyUnset : Bool} {v_tests : SMap Test} {v_bankWait : List Nat}
    {v_repairs : SMap Nat} {v_retired : Nat} {v_canary : SMap Nat} {v_loadMute : Bool} {v_foldAt : Nat} {v_thermAt : Nat}
    {v_wdtCount : Nat} {v_wdtReset : Bool} {v_rst : Option (Nat × Nat × Bool)} {v_plTo : Option Nat} {v_plWait : Option Nat}
    {v_plLate : Bool} {v_loadMin : Nat} {v_idleAt : Nat} {v_dormBus : Bool} {v_scrubBank : SMap Nat} {v_hkaScan : List Nat}
    {v_hkaConv : List Nat} {v_hkaQueued : Bool} {v_cals : List CalRun} {v_calTemps : List Nat} {v_curUsed : SMap Nat} {v_curHalt :
    Nat} {v_clips : SMap Nat} {v_telq : List (Nat × Ev)} {v_telRun : Bool} {v_hkaLock : Bool} {v_tachLast : Option Nat}
    {v_tachGood : Option Nat} {v_tachLost : Bool} {v_hkaOut : Nat} {v_flash : List Host.Cell} {v_load : Option Load} {v_lends :
    SMap Lend} {v_lendOut : Option (Nat × List Nat)} {v_lendIn : List Nat} {v_lendRelay : List (Nat × List Nat)} {v_lendEnds :
    List (Nat × Bool)} {v_lendHeld : List Nat} {v_lendMsgs : List LendMsg} {v_bootSlot : Option Nat} {v_bootAt : Nat} {v_portHold
    : Bool} {v_chainSlots : SMap Word} {v_chainRamp : Nat} : (State.mk v_pending s.regs v_mem v_ecc v_wb v_peaks v_fresh v_frame
    v_tickA v_tickB v_tickC v_evq v_fwdq v_occ v_tiles v_lanes v_paramq v_edgeIn v_edgeNew v_edgeNext v_edgeOut v_xpre v_lowSum
    v_xback v_xps v_xpEcc v_rings v_annals v_nvs v_isHead v_testq v_loadAll v_loadShelf v_cplOut v_groups v_frB v_frC v_ports
    v_spd v_brgs v_holdSince v_dombFree v_monStop v_monRate v_slewTotal v_slewOffset v_heldB v_ains v_biasRamp v_biasLeft v_hqOff
    v_micMute v_hqWin v_lpWin v_micAt v_wake v_carrier v_spks v_thermRed v_wakeReq v_detBias v_hpos v_jacks v_chain v_busOut
    v_busAddr v_busAwake v_busSnap v_fwdFatal v_auxq v_sectors v_sysSeq v_tlog v_keyUnset v_tests v_bankWait v_repairs v_retired
    v_canary v_loadMute v_foldAt v_thermAt v_wdtCount v_wdtReset v_rst v_plTo v_plWait v_plLate v_loadMin v_idleAt v_dormBus
    v_scrubBank v_hkaScan v_hkaConv v_hkaQueued v_cals v_calTemps v_curUsed v_curHalt v_clips v_telq v_telRun v_hkaLock v_tachLast
    v_tachGood v_tachLost v_hkaOut v_flash v_load v_lends v_lendOut v_lendIn v_lendRelay v_lendEnds v_lendHeld v_lendMsgs
    v_bootSlot v_bootAt v_portHold v_chainSlots v_chainRamp).get f = s.get f := rfl

theorem State.get_bump_same (s : State) (f : Fld) : (s.bump f).get f = satNat f.width (s.get f + 1) := by
  rw [State.bump_eq, State.get_put_same, Nat.mod_eq_of_lt]
  unfold satNat
  have := Nat.two_pow_pos f.width
  omega

theorem State.get_bump_ne (s : State) {f g : Fld} (h : Fld.key g ≠ Fld.key f) : (s.bump f).get g = s.get g := s.get_put_ne _ h

theorem State.get_setBit_ne (s : State) {f g : Fld} (i : Nat) (h : Fld.key g ≠ Fld.key f) : (s.setBit f i).get g = s.get g :=
  s.get_put_ne _ h

theorem State.get_clrBit_ne (s : State) {f g : Fld} (i : Nat) (h : Fld.key g ≠ Fld.key f) : (s.clrBit f i).get g = s.get g :=
  s.get_put_ne _ h

/-- A write of a value that fits. -/
theorem State.get_put_of_lt (s : State) {f : Fld} {v : Nat} (h : v < 2 ^ f.width) : (s.put f v).get f = v := by
  rw [State.get_put_same, Nat.mod_eq_of_lt h]

theorem bits_lt (w a n : Nat) : bits w a n < 2 ^ n := Nat.mod_lt _ (Nat.two_pow_pos n)

/-! ### What an event leaves alone, beyond the laws of the events -/

@[simp] theorem State.post_dombFree (s : State) (c v p : Nat) : (s.post c v p).dombFree = s.dombFree := by rw [(s.post_eventOnly c v p).rest]
@[simp] theorem State.post_biasLeft (s : State) (c v p : Nat) : (s.post c v p).biasLeft = s.biasLeft := by rw [(s.post_eventOnly c v p).rest]
@[simp] theorem State.post_hqOff (s : State) (c v p : Nat) : (s.post c v p).hqOff = s.hqOff := by rw [(s.post_eventOnly c v p).rest]
@[simp] theorem State.post_micMute (s : State) (c v p : Nat) : (s.post c v p).micMute = s.micMute := by rw [(s.post_eventOnly c v p).rest]
@[simp] theorem State.post_carrier (s : State) (c v p : Nat) : (s.post c v p).carrier = s.carrier := by rw [(s.post_eventOnly c v p).rest]
@[simp] theorem State.post_busAwake (s : State) (c v p : Nat) : (s.post c v p).busAwake = s.busAwake := by rw [(s.post_eventOnly c v p).rest]
@[simp] theorem State.post_hkaLock (s : State) (c v p : Nat) : (s.post c v p).hkaLock = s.hkaLock := by rw [(s.post_eventOnly c v p).rest]
@[simp] theorem State.post_edgeNext (s : State) (c v p : Nat) : (s.post c v p).edgeNext = s.edgeNext := by rw [(s.post_eventOnly c v p).rest]
@[simp] theorem State.post_xpre (s : State) (c v p : Nat) : (s.post c v p).xpre = s.xpre := by rw [(s.post_eventOnly c v p).rest]
@[simp] theorem State.post_lowSum (s : State) (c v p : Nat) : (s.post c v p).lowSum = s.lowSum := by rw [(s.post_eventOnly c v p).rest]
@[simp] theorem State.post_lendEnds (s : State) (c v p : Nat) : (s.post c v p).lendEnds = s.lendEnds := by rw [(s.post_eventOnly c v p).rest]

/-! ### What steps leave alone -/

theorem Quiet.refl (l : List Fld) (s : State) : Quiet l s s := ⟨fun _ => ⟨rfl, rfl, rfl⟩, .refl _ s⟩

theorem Quiet.trans (h : Quiet l s t) (k : Quiet l t u) : Quiet l s u := by
  obtain ⟨hb, hr⟩ := h
  obtain ⟨kb, kr⟩ := k
  refine ⟨fun a => ?_, hr.trans kr⟩
  obtain ⟨hm, hn, hf⟩ := hb a
  obtain ⟨km, kn, kf⟩ := kb a
  exact ⟨km.trans hm, kn.trans hn, kf.trans hf⟩

theorem Quiet.mono {k : List Fld} (h : Quiet l s t) (hk : ∀ f, fldIn l f = true → fldIn k f = true) : Quiet k s t :=
  ⟨h.1, SameRegs.mono h.2 fun f hf => by
    rw [fldIn_append] at hf ⊢
    rcases Bool.or_eq_true_iff.1 hf with hf | hf
    · rw [hk f hf, Bool.true_or]
    · rw [hf, Bool.or_true]⟩

theorem fldIn_of_subset {k : List Fld} (h : l ⊆ k) {f : Fld} (hf : fldIn l f = true) : fldIn k f = true := by
  obtain ⟨g, hg, hkey⟩ := List.any_eq_true.1 hf
  exact List.any_eq_true.2 ⟨g, h hg, hkey⟩

/-- A longer list. -/
theorem Quiet.of_subset {k : List Fld} (h : Quiet l s t) (hk : l ⊆ k) : Quiet k s t := h.mono fun _ hf => fldIn_of_subset hk hf

theorem Quiet.put {f : Fld} (h : Quiet l s t) (hf : fldIn l f = true) (v : Nat) : Quiet l s (t.put f v) :=
  ⟨h.1, h.2.put hf v⟩

theorem Quiet.bump {f : Fld} (h : Quiet l s t) (hf : fldIn l f = true) : Quiet l s (t.bump f) := h.put hf _

theorem Quiet.setBit {f : Fld} (h : Quiet l s t) (hf : fldIn l f = true) (i : Nat) : Quiet l s (t.setBit f i) := h.put hf _

theorem Quiet.clrBit {f : Fld} (h : Quiet l s t) (hf : fldIn l f = true) (i : Nat) : Quiet l s (t.clrBit f i) := h.put hf _

/-- A change outside the registers and the memories. -/
theorem Quiet.other (h : Quiet l s t) (hregs : u.regs = t.regs) (hmem : u.mem = t.mem) (hnvs : u.nvs = t.nvs)
    (hflash : u.flash = t.flash) : Quiet l s u :=
  h.trans ⟨fun a => ⟨by rw [State.memByte, hmem, State.memByte], by rw [hnvs], by rw [hflash]⟩, (show SameRegsEv l t t from .refl _ t).of_regs_eq hregs⟩

/-- An update outside the registers and the memories, whatever the state updated. -/
theorem Quiet.update {v_pending : List Instr} {v_ecc : SMap Nat} {v_wb : SMap Nat} {v_peaks : SMap Nat} {v_fresh : Nat} {v_frame :
    Nat} {v_tickA : Nat} {v_tickB : Nat} {v_tickC : Nat} {v_evq : List Ev} {v_fwdq : List Ev} {v_occ : List Nat} {v_tiles : SMap
    Tile} {v_lanes : SMap Nat} {v_paramq : SMap (List ParamEntry)} {v_edgeIn : SMap Word} {v_edgeNew : SMap Word} {v_edgeNext :
    SMap Word} {v_edgeOut : SMap Word} {v_xpre : SMap Word} {v_lowSum : SMap (List Int)} {v_xback : SMap Word} {v_xps : SMap Xp}
    {v_xpEcc : SMap Nat} {v_rings : SMap Ring} {v_annals : Annals} {v_isHead : Bool} {v_testq : List (Nat × Nat)} {v_loadAll :
    Bool} {v_loadShelf : Option Nat} {v_cplOut : List (Nat × Nat × Nat)} {v_groups : List Group} {v_frB : Nat} {v_frC : Nat}
    {v_ports : SMap Port} {v_spd : Spd} {v_brgs : SMap Brg} {v_holdSince : Nat} {v_dombFree : Bool} {v_monStop : SMap Nat}
    {v_monRate : SMap Nat} {v_slewTotal : Nat} {v_slewOffset : Int} {v_heldB : Nat} {v_ains : SMap Ain} {v_biasRamp : Nat}
    {v_biasLeft : SMap Nat} {v_hqOff : Nat} {v_micMute : Nat} {v_hqWin : SMap Nat} {v_lpWin : SMap Nat} {v_micAt : Nat} {v_wake :
    Wake} {v_carrier : Carrier} {v_spks : SMap Spk} {v_thermRed : Nat} {v_wakeReq : Option Nat} {v_detBias : Nat} {v_hpos : SMap
    Hpo} {v_jacks : SMap Jack} {v_chain : Chain} {v_busOut : List Nat} {v_busAddr : Nat} {v_busAwake : Bool} {v_busSnap : Option
    (Nat × Nat)} {v_fwdFatal : Bool} {v_auxq : List Nat} {v_sectors : SMap (Nat × Nat × Nat)} {v_sysSeq : Nat} {v_tlog : TimeLog}
    {v_keyUnset : Bool} {v_tests : SMap Test} {v_bankWait : List Nat} {v_repairs : SMap Nat} {v_retired : Nat} {v_canary : SMap
    Nat} {v_loadMute : Bool} {v_foldAt : Nat} {v_thermAt : Nat} {v_wdtCount : Nat} {v_wdtReset : Bool} {v_rst : Option (Nat × Nat
    × Bool)} {v_plTo : Option Nat} {v_plWait : Option Nat} {v_plLate : Bool} {v_loadMin : Nat} {v_idleAt : Nat} {v_dormBus : Bool}
    {v_scrubBank : SMap Nat} {v_hkaScan : List Nat} {v_hkaConv : List Nat} {v_hkaQueued : Bool} {v_cals : List CalRun} {v_calTemps
    : List Nat} {v_curUsed : SMap Nat} {v_curHalt : Nat} {v_clips : SMap Nat} {v_telq : List (Nat × Ev)} {v_telRun : Bool}
    {v_hkaLock : Bool} {v_tachLast : Option Nat} {v_tachGood : Option Nat} {v_tachLost : Bool} {v_hkaOut : Nat} {v_load : Option
    Load} {v_lends : SMap Lend} {v_lendOut : Option (Nat × List Nat)} {v_lendIn : List Nat} {v_lendRelay : List (Nat × List Nat)}
    {v_lendEnds : List (Nat × Bool)} {v_lendHeld : List Nat} {v_lendMsgs : List LendMsg} {v_bootSlot : Option Nat} {v_bootAt :
    Nat} {v_portHold : Bool} {v_chainSlots : SMap Word} {v_chainRamp : Nat} (h : Quiet l s t) :  Quiet l s (State.mk v_pending
    t.regs t.mem v_ecc v_wb v_peaks v_fresh v_frame v_tickA v_tickB v_tickC v_evq v_fwdq v_occ v_tiles v_lanes v_paramq v_edgeIn
    v_edgeNew v_edgeNext v_edgeOut v_xpre v_lowSum v_xback v_xps v_xpEcc v_rings v_annals t.nvs v_isHead v_testq v_loadAll
    v_loadShelf v_cplOut v_groups v_frB v_frC v_ports v_spd v_brgs v_holdSince v_dombFree v_monStop v_monRate v_slewTotal
    v_slewOffset v_heldB v_ains v_biasRamp v_biasLeft v_hqOff v_micMute v_hqWin v_lpWin v_micAt v_wake v_carrier v_spks v_thermRed
    v_wakeReq v_detBias v_hpos v_jacks v_chain v_busOut v_busAddr v_busAwake v_busSnap v_fwdFatal v_auxq v_sectors v_sysSeq v_tlog
    v_keyUnset v_tests v_bankWait v_repairs v_retired v_canary v_loadMute v_foldAt v_thermAt v_wdtCount v_wdtReset v_rst v_plTo
    v_plWait v_plLate v_loadMin v_idleAt v_dormBus v_scrubBank v_hkaScan v_hkaConv v_hkaQueued v_cals v_calTemps v_curUsed
    v_curHalt v_clips v_telq v_telRun v_hkaLock v_tachLast v_tachGood v_tachLost v_hkaOut t.flash v_load v_lends v_lendOut
    v_lendIn v_lendRelay v_lendEnds v_lendHeld v_lendMsgs v_bootSlot v_bootAt v_portHold v_chainSlots v_chainRamp) := h.other rfl
    rfl rfl rfl

theorem Quiet.post (h : Quiet l s t) (c v p : Nat) : Quiet l s (t.post c v p) :=
  h.trans ⟨fun a => ⟨State.memByte_post t c v p a, by rw [State.post_nvs], by rw [State.post_flash]⟩, (show SameRegsEv l t t from .refl _ t).post c v p⟩

theorem Quiet.postRec (h : Quiet l s t) (c v p : Nat) : Quiet l s (t.postRec c v p) := by
  obtain ⟨hregs, -, hrest⟩ := t.postRec_eventOnly c v p
  refine h.trans ⟨fun a => ⟨?_, ?_, ?_⟩, hregs.mono fun _ hf => SameRegsEv.of_eventFld hf⟩
  all_goals rw [hrest]
  rfl

theorem Quiet.ite {p : Prop} [Decidable p] (h : Quiet l s t) (k : Quiet l s u) : Quiet l s (if p then t else u) := by
  split <;> assumption

theorem Quiet.foldl {α : Type} {f : State → α → State} (hf : ∀ t x, Quiet l s t → Quiet l s (f t x)) (xs : List α) (h : Quiet l s t) :
    Quiet l s (xs.foldl f t) := by
  induction xs generalizing t with
  | nil => exact h
  | cons x xs ih => exact ih (hf t x h)

theorem Quiet.get {f : Fld} (h : Quiet l s t) (hf : fldIn l f = false) (he : fldIn eventFlds f = false) : t.get f = s.get f :=
  h.2.get hf he

/-! ### Fields outside a list -/

theorem fldIn_cons_eq_false {f g : Fld} : fldIn (g :: l) f = false ↔ Fld.key g ≠ Fld.key f ∧ fldIn l f = false := by
  simp [fldIn]

theorem fldIn_nil (f : Fld) : fldIn [] f = false := rfl

/-- No event touches a register of another page than those of the annals and of the host bus. -/
theorem fldIn_eventFlds_of_page {f : Fld} (h : f.lo < 64 ∧ f.addr / 4096 ≠ 0xE0E ∧ f.addr / 4096 ≠ 0xE10) :
    fldIn eventFlds f = false := by
  obtain ⟨hlo, htwb, hnvs⟩ := h
  have hev : ∀ g ∈ eventFlds, g.lo < 64 ∧ (g.addr / 4096 = 0xE0E ∨ g.addr / 4096 = 0xE10) := by decide
  refine fldIn_eq_false_of_addr hlo fun g hg => ?_
  obtain ⟨h1, h2⟩ := hev g hg
  exact ⟨h1, fun he => by omega⟩

end Sys2Proof.Machine
end

section
/-! Domain B and the clock monitors (R134 to R137, R143, R151, R188): its configuration, lock and holdover, and what the monitors find. -/

namespace Sys2Proof.Machine

variable {l : List Fld} {s t : State} {m : Nat}

/-! ### Edges without a source -/

theorem State.foldl_edgeClear {α : Type} (g : α → Nat) (xs : List α) (s : State) :
    ∃ e, xs.foldl (fun s i => s.edgeClear (g i)) s = { s with edgeNew := e } := by
  induction xs generalizing s with
  | nil => exact ⟨_, rfl⟩
  | cons x xs ih => exact ih (s.edgeClear (g x))

/-- Port `n` left its run: only its hidden state and its edges have changed. -/
theorem State.sapQuiet_eq (s : State) (n : Nat) : ∃ p e, s.sapQuiet n = { s with ports := p, edgeNew := e } := by
  obtain ⟨e, he⟩ := State.foldl_edgeClear (fun i => 32 * n + i) (List.range 32) (s.setPort n
    { Port.reset with rxRamp := (s.port n).rxRamp, txRamp := (s.port n).txRamp, discards := (s.port n).discards
                      discardNow := (s.port n).discardNow, discardFrame := (s.port n).discardFrame })
  exact ⟨_, e, he⟩

@[simp] theorem State.get_setPort (s : State) (n : Nat) (p : Port) (f : Fld) : (s.setPort n p).get f = s.get f := rfl

@[simp] theorem State.get_sapQuiet (s : State) (n : Nat) (f : Fld) : (s.sapQuiet n).get f = s.get f := by
  obtain ⟨p, e, h⟩ := s.sapQuiet_eq n
  rw [h, State.get_mk]

theorem Quiet.sapQuiet (h : Quiet l s t) (n : Nat) : Quiet l s (t.sapQuiet n) := by
  obtain ⟨p, e, he⟩ := t.sapQuiet_eq n
  rw [he]
  exact h.other rfl rfl rfl rfl

theorem Quiet.sapReject {n : Nat} (h : Quiet l s t) (herr : fldIn l (SAP_STAT_CFG_ERR n) = true)
    (hstate : fldIn l (SAP_STAT_STATE n) = true) (hsum : fldIn l SAP_SUM_CFG_ERR = true) (v : Nat) : Quiet l s (t.sapReject n v) :=
  ((((h.put herr 1).put hstate 0).sapQuiet n).put hsum 1).post _ _ _

/-! ### What follows a monitored clock -/

theorem State.rxResume_eq (s : State) : ∃ r d e, s.rxResume = { s with regs := r, spd := d, edgeNew := e } ∧
    (r = s.regs ∨ r = (s.put SPD_RX_STAT_STATE 1).regs) := by
  unfold State.rxResume
  split
  · exact ⟨_, _, _, rfl, .inr rfl⟩
  · exact ⟨_, _, _, rfl, .inl rfl⟩

theorem Quiet.portHoldover {n : Nat} (h : Quiet l s t) (hstate : fldIn l (SAP_STAT_STATE n) = true) : Quiet l s (t.portHoldover n) :=
  .ite (h.put hstate 4) (h.other rfl rfl rfl rfl)

theorem Quiet.rxResume (h : Quiet l s t) (hstate : fldIn l SPD_RX_STAT_STATE = true) : Quiet l s t.rxResume :=
  .ite ((h.put hstate 1).other rfl rfl rfl rfl) h

/-- A clock that runs again changes the state of the receiver alone. -/
theorem Quiet.clockGo (h : Quiet l s t) (hstate : fldIn l SPD_RX_STAT_STATE = true) (m : Nat) : Quiet l s (t.clockGo m) :=
  .ite (.ite (h.other rfl rfl rfl rfl) h) (.ite (h.rxResume hstate) h)

theorem Quiet.sourceGo (h : Quiet l s t) (hstate : fldIn l SPD_RX_STAT_STATE = true) (o : Option Nat) : Quiet l s (t.sourceGo o) := by
  cases o with
  | none => exact h
  | some m => exact .ite (h.clockGo hstate m) h

theorem State.get_clockGo (s : State) (m : Nat) {f : Fld} (h : Fld.key f ≠ Fld.key SPD_RX_STAT_STATE) :
    (s.clockGo m).get f = s.get f := by
  obtain ⟨r, d, e, he, hr⟩ := s.rxResume_eq
  unfold State.clockGo State.portResume
  split_ifs
  · rfl
  · rfl
  · rw [he]
    rcases hr with rfl | rfl
    · rw [State.get_mk]
    · exact (State.get_mk (s.put SPD_RX_STAT_STATE 1) f).trans (State.get_put_ne _ _ h)
  · rfl

/-! ### Domain B's configuration -/

/-- The configuration `v` stands, and domain B goes on as its source says (R137). -/
def State.dombWritten (s : State) (v : Nat) : State :=
  let t := (((s.put CLK_DOMB_CFG_SRC (bits v 0 3)).put CLK_DOMB_CFG_RATE (bits v 4 3)).put CLK_DOMB_CFG_AUTO_RATE (bits v 12 1)).put
    CLK_DOMB_CFG_HOLD_MS (bits v 16 16)
  if bits v 0 3 = 0 then { t with dombFree := true }
  else { (t.put CLK_DOMB_STAT_RATE (bits v 4 3)).put CLK_DOMB_STAT_STATE 1 with dombFree := false }

theorem clkDombCfgWrite_eq {v : Nat} (hsrc : bits v 0 3 < 6) (hrate : bits v 4 3 < 5) :
    clkDombCfgWrite v s = ((s.dombWritten v).sourceGo s.sourceMon).sourceConflict (bits v 0 3) :=
  if_neg (by omega)

/-- The fields that a write of CLK_DOMB_CFG sets whatever the ports are. -/
def dombCfgFlds : List Fld :=
  [CLK_DOMB_CFG_SRC, CLK_DOMB_CFG_RATE, CLK_DOMB_CFG_AUTO_RATE, CLK_DOMB_CFG_HOLD_MS, CLK_DOMB_STAT_RATE, CLK_DOMB_STAT_STATE]

/-- The fields of port `n` that show an invalid configuration. -/
def sapErrFlds (n : Nat) : List Fld := [SAP_STAT_STATE n, SAP_STAT_CFG_ERR n, SAP_SUM_CFG_ERR]

theorem State.dombWritten_quiet (s : State) (v : Nat) : Quiet dombCfgFlds s (s.dombWritten v) := by
  have h := ((((Quiet.refl dombCfgFlds s).put (f := CLK_DOMB_CFG_SRC) (by decide) (bits v 0 3)).put (f := CLK_DOMB_CFG_RATE)
    (by decide) (bits v 4 3)).put (f := CLK_DOMB_CFG_AUTO_RATE) (by decide) (bits v 12 1)).put (f := CLK_DOMB_CFG_HOLD_MS)
    (by decide) (bits v 16 16)
  exact .ite (h.other rfl rfl rfl rfl) (((h.put (f := CLK_DOMB_STAT_RATE) (by decide) _).put (f := CLK_DOMB_STAT_STATE) (by decide) 1).other rfl rfl rfl rfl)

theorem State.get_dombWritten (s : State) (v : Nat) :
    let u := s.dombWritten v
    u.get CLK_DOMB_CFG_SRC = bits v 0 3 ∧ u.get CLK_DOMB_CFG_RATE = bits v 4 3 ∧ u.get CLK_DOMB_CFG_AUTO_RATE = bits v 12 1 ∧
      u.get CLK_DOMB_CFG_HOLD_MS = bits v 16 16 ∧ u.dombFree = decide (bits v 0 3 = 0) ∧
      (bits v 0 3 = 0 → u.get CLK_DOMB_STAT_RATE = s.get CLK_DOMB_STAT_RATE ∧ u.get CLK_DOMB_STAT_STATE = s.get CLK_DOMB_STAT_STATE) ∧
      (bits v 0 3 ≠ 0 → u.get CLK_DOMB_STAT_RATE = bits v 4 3 ∧ u.get CLK_DOMB_STAT_STATE = 1) := by
  have h0 : bits v 0 3 < 2 ^ CLK_DOMB_CFG_SRC.width := bits_lt v 0 3
  have h1 : bits v 4 3 < 2 ^ CLK_DOMB_CFG_RATE.width := bits_lt v 4 3
  have h2 : bits v 12 1 < 2 ^ CLK_DOMB_CFG_AUTO_RATE.width := bits_lt v 12 1
  have h3 : bits v 16 16 < 2 ^ CLK_DOMB_CFG_HOLD_MS.width := bits_lt v 16 16
  have h4 : bits v 4 3 < 2 ^ CLK_DOMB_STAT_RATE.width := bits_lt v 4 3
  unfold State.dombWritten
  dsimp only
  by_cases hv : bits v 0 3 = 0
  · rw [if_pos hv]
    simp (disch := decide) [hv, State.get_mk, State.get_put_ne, Nat.mod_eq_of_lt h1, Nat.mod_eq_of_lt h2, Nat.mod_eq_of_lt h3]
  · rw [if_neg hv]
    simp (disch := decide) [hv, State.get_mk, State.get_put_ne, Nat.mod_eq_of_lt h0, Nat.mod_eq_of_lt h1, Nat.mod_eq_of_lt h2,
      Nat.mod_eq_of_lt h3, Nat.mod_eq_of_lt h4]

theorem State.sourceConflict_quiet (s : State) (src : Nat) : Quiet (sapErrFlds (src - 1)) s (s.sourceConflict src) :=
  .ite ((Quiet.refl _ s).sapReject (by simp [fldIn, sapErrFlds]) (by simp [fldIn, sapErrFlds]) (by simp [fldIn, sapErrFlds]) _)
    (.refl _ s)

/-- Port `n` shows its configuration as invalid (R188). -/
theorem State.sapReject_shown (s : State) {n : Nat} (hn : n < 4) (v : Nat) :
    let u := s.sapReject n v
    u.get (SAP_STAT_CFG_ERR n) = 1 ∧ u.get (SAP_STAT_STATE n) = 0 ∧ u.get SAP_SUM_CFG_ERR = 1 ∧ 0x0506 ∈ u.occ := by
  have hev : fldIn eventFlds (SAP_STAT_CFG_ERR n) = false ∧ fldIn eventFlds (SAP_STAT_STATE n) = false :=
    ⟨fldIn_eventFlds_of_page (by simp only [SAP_STAT_CFG_ERR]; omega), fldIn_eventFlds_of_page (by simp only [SAP_STAT_STATE]; omega)⟩
  have herr : Fld.key (SAP_STAT_CFG_ERR n) ≠ Fld.key SAP_SUM_CFG_ERR ∧ Fld.key (SAP_STAT_STATE n) ≠ Fld.key SAP_SUM_CFG_ERR ∧
      Fld.key (SAP_STAT_CFG_ERR n) ≠ Fld.key (SAP_STAT_STATE n) := by
    simp only [Fld.key, SAP_STAT_CFG_ERR, SAP_STAT_STATE, SAP_SUM_CFG_ERR]
    omega
  obtain ⟨h1, h2, h3⟩ := herr
  unfold State.sapReject
  dsimp only
  refine ⟨?_, ?_, ?_, ?_⟩
  · rw [State.get_post hev.1, State.get_put_ne _ _ h1, State.get_sapQuiet, State.get_put_ne _ _ h3, State.get_put_same]
    rfl
  · rw [State.get_post hev.2, State.get_put_ne _ _ h2, State.get_sapQuiet, State.get_put_same]
    rfl
  · rw [State.get_post (by decide), State.get_put_same]
    rfl
  · rw [State.post_occ _ _ _ (by decide)]
    exact List.mem_append_right _ (List.mem_singleton.2 rfl)

@[simp] theorem State.dombFree_sapReject (s : State) (n v : Nat) : (s.sapReject n v).dombFree = s.dombFree := by
  obtain ⟨p, e, h⟩ := ((s.put (SAP_STAT_CFG_ERR n) 1).put (SAP_STAT_STATE n) 0).sapQuiet_eq n
  simp [State.sapReject, h]

theorem State.dombFree_sourceConflict (s : State) (src : Nat) : (s.sourceConflict src).dombFree = s.dombFree := by
  unfold State.sourceConflict
  dsimp only
  split
  · exact State.dombFree_sapReject _ _ _
  · rfl

theorem State.dombFree_sourceGo (s : State) (o : Option Nat) : (s.sourceGo o).dombFree = s.dombFree := by
  obtain ⟨r, d, e, he, -⟩ := s.rxResume_eq
  cases o with
  | none => rfl
  | some m =>
    unfold State.sourceGo State.clockGo State.portResume
    simp only
    split_ifs
    · rfl
    · rfl
    · rw [he]
    · rfl
    · rfl

theorem State.dombStrobe_of_free (h : s.dombFree = true) :
    s.dombStrobe.get CLK_DOMB_STAT_RATE = s.get CLK_DOMB_CFG_RATE % 8 ∧ s.dombStrobe.get CLK_DOMB_STAT_STATE = 0 := by
  unfold State.dombStrobe
  rw [if_pos h]
  simp (disch := decide) [State.get_mk, State.get_put_ne]
  rfl

/-- R134, R137, R188: a configuration with no reserved code. -/
theorem clkDombCfgWrite_taken {v : Nat} (hsrc : bits v 0 3 < 6) (hrate : bits v 4 3 < 5) :
    let src := bits v 0 3
    let rate := bits v 4 3
    let u := clkDombCfgWrite v s
    u.get CLK_DOMB_CFG_SRC = src ∧ u.get CLK_DOMB_CFG_RATE = rate ∧ u.get CLK_DOMB_CFG_AUTO_RATE = bits v 12 1 ∧
      u.get CLK_DOMB_CFG_HOLD_MS = bits v 16 16 ∧ u.dombFree = decide (src = 0) ∧
      (src = 0 → u.get CLK_DOMB_STAT_RATE = s.get CLK_DOMB_STAT_RATE ∧ u.get CLK_DOMB_STAT_STATE = s.get CLK_DOMB_STAT_STATE ∧
        u.dombStrobe.get CLK_DOMB_STAT_RATE = rate ∧ u.dombStrobe.get CLK_DOMB_STAT_STATE = 0) ∧
      (src ≠ 0 → u.get CLK_DOMB_STAT_RATE = rate ∧ u.get CLK_DOMB_STAT_STATE = 1) := by
  dsimp only
  rw [clkDombCfgWrite_eq hsrc hrate]
  obtain ⟨hs, hr, ha, hh, hf, h0, h1⟩ := s.get_dombWritten v
  have hgo : Quiet [SPD_RX_STAT_STATE] (s.dombWritten v) ((s.dombWritten v).sourceGo s.sourceMon) :=
    (Quiet.refl _ _).sourceGo (by decide) _
  have hread : ∀ {f : Fld}, (f ∈ dombCfgFlds) →
      (((s.dombWritten v).sourceGo s.sourceMon).sourceConflict (bits v 0 3)).get f = (s.dombWritten v).get f := by
    intro f hf
    have hpage : ∀ g ∈ dombCfgFlds, g.lo < 64 ∧ g.addr < 0xE05000 := by decide
    obtain ⟨hlo, haddr⟩ := hpage f hf
    have hev : fldIn eventFlds f = false := fldIn_eventFlds_of_page ⟨hlo, by omega, by omega⟩
    refine ((State.sourceConflict_quiet _ _).get ?_ hev).trans (hgo.get ?_ hev) <;> refine fldIn_eq_false_of_addr hlo ?_
    · simp only [sapErrFlds, List.forall_mem_cons, SAP_STAT_STATE, SAP_STAT_CFG_ERR, SAP_SUM_CFG_ERR, List.not_mem_nil, false_imp_iff,
        implies_true, and_true]
      omega
    · simp only [List.forall_mem_cons, SPD_RX_STAT_STATE, List.not_mem_nil, false_imp_iff, implies_true, and_true]
      omega
  have hfree : (((s.dombWritten v).sourceGo s.sourceMon).sourceConflict (bits v 0 3)).dombFree = decide (bits v 0 3 = 0) := by
    rw [State.dombFree_sourceConflict, State.dombFree_sourceGo, hf]
  refine ⟨(hread (by decide)).trans hs, (hread (by decide)).trans hr, (hread (by decide)).trans ha, (hread (by decide)).trans hh, hfree,
    fun hsrc => ?_, fun hsrc => ⟨(hread (by decide)).trans (h1 hsrc).1, (hread (by decide)).trans (h1 hsrc).2⟩⟩
  obtain ⟨h2, h3⟩ := State.dombStrobe_of_free (hfree.trans (decide_eq_true hsrc))
  refine ⟨(hread (by decide)).trans (h0 hsrc).1, (hread (by decide)).trans (h0 hsrc).2, h2.trans ?_, h3⟩
  rw [hread (by decide), hr]
  omega

/-- R188: the source is a port in controller role. -/
theorem clkDombCfgWrite_conflict {v : Nat} (hsrc : bits v 0 3 < 6) (hrate : bits v 4 3 < 5) (h1 : 1 ≤ bits v 0 3) (h4 : bits v 0 3 ≤ 4)
    (hrole : s.get (SAP_CFG_ROLE (bits v 0 3 - 1)) = 1) (herr : s.get (SAP_STAT_CFG_ERR (bits v 0 3 - 1)) = 0) :
    let u := clkDombCfgWrite v s
    u.get (SAP_STAT_CFG_ERR (bits v 0 3 - 1)) = 1 ∧ u.get (SAP_STAT_STATE (bits v 0 3 - 1)) = 0 ∧ u.get SAP_SUM_CFG_ERR = 1 ∧
      0x0506 ∈ u.occ := by
  dsimp only
  rw [clkDombCfgWrite_eq hsrc hrate]
  generalize bits v 0 3 = src at *
  have hq : Quiet (SPD_RX_STAT_STATE :: dombCfgFlds) s ((s.dombWritten v).sourceGo s.sourceMon) :=
    Quiet.sourceGo ((s.dombWritten_quiet v).mono fun f hf => (by simp only [fldIn, List.any_cons] at hf ⊢; rw [hf, Bool.or_true]))
      (by decide) _
  have hread : ∀ {f : Fld}, f.lo < 64 ∧ f.addr / 4096 = 0xE05 → ((s.dombWritten v).sourceGo s.sourceMon).get f = s.get f := by
    rintro f ⟨hlo, haddr⟩
    have hpage : ∀ g ∈ SPD_RX_STAT_STATE :: dombCfgFlds, g.lo < 64 ∧ g.addr / 4096 ≠ 0xE05 := by decide
    refine hq.get (fldIn_eq_false_of_addr hlo fun g hg => ?_) (fldIn_eventFlds_of_page ⟨hlo, by omega, by omega⟩)
    obtain ⟨h1, h2⟩ := hpage g hg
    exact ⟨h1, fun he => h2 (he ▸ haddr)⟩
  unfold State.sourceConflict
  dsimp only
  rw [if_pos]
  · exact State.sapReject_shown _ (by omega) _
  · refine ⟨h1, h4, ?_, ?_⟩ <;> rw [State.on, hread (by simp only [SAP_CFG_ROLE, SAP_STAT_CFG_ERR]; omega)]
    · rw [hrole]; rfl
    · rw [herr]; decide

/-! ### Domain B locks and ends its holdover -/

theorem dombLocked_spec {meas : Nat} (hm : meas < 2 ^ 32) (hs : s.get CLK_DOMB_STAT_STATE = 1) :
    let u := dombLocked meas s
    u.get CLK_DOMB_STAT_STATE = 2 ∧ u.get CLK_DOMB_STAT_MEAS = meas ∧ Quiet [CLK_DOMB_STAT_STATE, CLK_DOMB_STAT_MEAS] s u := by
  dsimp only
  rw [dombLocked, if_pos hs]
  refine ⟨?_, State.get_put_of_lt _ hm, ((Quiet.refl _ s).put (by decide) 2).put (by decide) meas⟩
  rw [State.get_put_ne _ _ (by decide), State.get_put_same]
  rfl

theorem dombHoldEnd_spec (hs : s.get CLK_DOMB_STAT_STATE = 3) (hms : s.get CLK_DOMB_CFG_HOLD_MS ≠ 0)
    (hend : s.framesOfMs (s.get CLK_DOMB_CFG_HOLD_MS) ≤ s.frameAgo s.holdSince) :
    let u := dombHoldEnd s
    u.get CLK_DOMB_STAT_STATE = 0 ∧ u.get CLK_EVT_SUM_HOLD_END = 1 ∧ 0x0206 ∈ u.occ ∧
      Quiet [CLK_DOMB_STAT_STATE, CLK_EVT_SUM_HOLD_END] s u := by
  dsimp only
  rw [dombHoldEnd, if_pos ⟨hs, hms, hend⟩]
  refine ⟨?_, ?_, ?_, (((Quiet.refl _ s).put (by decide) 0).put (by decide) 1).post _ _ _⟩
  · rw [State.get_post (by decide), State.get_put_ne _ _ (by decide), State.get_put_same]
    rfl
  · rw [State.get_post (by decide), State.get_put_same]
    rfl
  · rw [State.post_occ _ _ _ (by decide)]
    exact List.mem_append_right _ (List.mem_singleton.2 rfl)

/-! ### A clock stops -/

/-- The state in which the stop of monitor `m` is counted and posted (R143). -/
def State.stopPosted (s : State) (m : Nat) : State := (s.monStopped m).post 0x0201 sevWarn (pack [p16 m, p32 ((s.monStopped m).frameAgo 2)])

theorem clkStop_eq (h : s.monState m = 1 ∨ s.monState m = 3) :
    clkStop m s = if ((s.stopPosted m).clockHold m).sourceMon == some m then ((s.stopPosted m).clockHold m).dombHold
      else (s.stopPosted m).clockHold m :=
  if_neg (by omega)

/-- The fields of monitor `m` that a stop changes. -/
def stopFlds (m : Nat) : List Fld := [CLK_MON_STAT_STATE m, CLK_MON_CNT_STOPS m, CLK_EVT_SUM_STOP]

theorem Quiet.stopPosted (h : Quiet l s t) (hst : fldIn l (CLK_MON_STAT_STATE m) = true) (hcnt : fldIn l (CLK_MON_CNT_STOPS m) = true)
    (hsum : fldIn l CLK_EVT_SUM_STOP = true) : Quiet l s (t.stopPosted m) :=
  ((((h.put hst 2).bump hcnt).setBit hsum m).other (u := t.monStopped m) rfl rfl rfl rfl).post _ _ _

theorem State.stopPosted_quiet (s : State) (m : Nat) : Quiet (stopFlds m) s (s.stopPosted m) :=
  (Quiet.refl _ s).stopPosted (by simp [fldIn, stopFlds]) (by simp [fldIn, stopFlds]) (by simp [fldIn, stopFlds])

theorem State.stopPosted_shown (s : State) (hm : m < 6) :
    let u := s.stopPosted m
    u.get (CLK_MON_STAT_STATE m) = 2 ∧ u.bit CLK_EVT_SUM_STOP m = true ∧ 0x0201 ∈ u.occ ∧
      u.get (CLK_MON_CNT_STOPS m) = satNat 16 (s.get (CLK_MON_CNT_STOPS m) + 1) := by
  have hev : fldIn eventFlds (CLK_MON_STAT_STATE m) = false ∧ fldIn eventFlds (CLK_MON_CNT_STOPS m) = false :=
    ⟨fldIn_eventFlds_of_page (by simp only [CLK_MON_STAT_STATE]; omega), fldIn_eventFlds_of_page (by simp only [CLK_MON_CNT_STOPS]; omega)⟩
  have hkey : Fld.key (CLK_MON_STAT_STATE m) ≠ Fld.key CLK_EVT_SUM_STOP ∧ Fld.key (CLK_MON_CNT_STOPS m) ≠ Fld.key CLK_EVT_SUM_STOP ∧
      Fld.key (CLK_MON_STAT_STATE m) ≠ Fld.key (CLK_MON_CNT_STOPS m) := by
    simp only [Fld.key, CLK_MON_STAT_STATE, CLK_MON_CNT_STOPS, CLK_EVT_SUM_STOP]
    omega
  obtain ⟨h1, h2, h3⟩ := hkey
  dsimp only [State.stopPosted]
  refine ⟨?_, ?_, ?_, ?_⟩
  · rw [State.get_post hev.1, State.monStopped, State.get_mk, State.get_setBit_ne _ _ h1, State.get_bump_ne _ h3, State.get_put_same]
    rfl
  · rw [State.bit, State.get_post (by decide), State.monStopped, State.get_mk, ← State.bit]
    exact State.bit_setBit_same _ hm
  · rw [State.post_occ _ _ _ (by decide)]
    exact List.mem_append_right _ (List.mem_singleton.2 rfl)
  · rw [State.get_post hev.2, State.monStopped, State.get_mk, State.get_setBit_ne _ _ h2, State.get_bump_same, State.get_put_ne _ _ h3.symm]
    rfl

/-- The registers of the monitors and the ports lie apart from those of another page. -/
theorem State.stopPosted_get (s : State) (m : Nat) {f : Fld} (h : f.lo < 64 ∧ f.addr / 4096 ≠ 0xE02 ∧ f.addr / 4096 ≠ 0xE0E ∧
    f.addr / 4096 ≠ 0xE10) (hm : m < 6) : (s.stopPosted m).get f = s.get f := by
  obtain ⟨hlo, h2, h3, h4⟩ := h
  refine (s.stopPosted_quiet m).get (fldIn_eq_false_of_addr hlo ?_) (fldIn_eventFlds_of_page ⟨hlo, h3, h4⟩)
  simp only [stopFlds, List.forall_mem_cons, CLK_MON_STAT_STATE, CLK_MON_CNT_STOPS, CLK_EVT_SUM_STOP, List.not_mem_nil, false_imp_iff,
    implies_true, and_true]
  omega

theorem State.sourceMon_congr (h : t.get CLK_DOMB_CFG_SRC = s.get CLK_DOMB_CFG_SRC) : t.sourceMon = s.sourceMon := by
  unfold State.sourceMon
  rw [h]

/-- What follows a stopped clock holds: its own state, and what tells of it. -/
def holdFlds (m : Nat) : List Fld :=
  [SAP_STAT_STATE m, SPD_RX_STAT_STATE, SPD_SUM_UNLOCK, CLK_DOMA_STAT_STATE, CLK_EVT_SUM_DOMA_HOLD]

theorem Quiet.rxHoldover (h : Quiet l s t) (hst : fldIn l SPD_RX_STAT_STATE = true) (hsum : fldIn l SPD_SUM_UNLOCK = true) :
    Quiet l s t.rxHoldover :=
  .ite (Quiet.put (.ite (h.put hsum 1) h) hst 3) h

theorem State.clockHold_quiet (s : State) (m : Nat) : Quiet (holdFlds m) s (s.clockHold m) := by
  have h := Quiet.refl (holdFlds m) s
  exact .ite (h.portHoldover (by simp [fldIn, holdFlds])) (.ite (h.rxHoldover (by simp [fldIn, holdFlds]) (by simp [fldIn, holdFlds]))
    (.ite h (((h.put (f := CLK_DOMA_STAT_STATE) (by simp [fldIn, holdFlds]) 2).put (f := CLK_EVT_SUM_DOMA_HOLD)
      (by simp [fldIn, holdFlds]) 1).post _ _ _)))

theorem State.dombHold_quiet (s : State) : Quiet [CLK_DOMB_STAT_STATE] s s.dombHold :=
  .ite (((Quiet.refl _ s).put (f := CLK_DOMB_STAT_STATE) (by decide) 3).other rfl rfl rfl rfl) (.refl _ s)

/-! The occurred events and the frame number stay. -/

@[simp] theorem State.occ_portHoldover (s : State) (n : Nat) : (s.portHoldover n).occ = s.occ := by
  unfold State.portHoldover
  split <;> rfl

@[simp] theorem State.occ_rxHoldover (s : State) : s.rxHoldover.occ = s.occ := by
  unfold State.rxHoldover State.rxLeaves
  split_ifs <;> rfl

theorem State.rxHoldover_shown (s : State) :
    s.rxHoldover.get SPD_RX_STAT_STATE = (if s.get SPD_RX_STAT_STATE = 2 then 3 else s.get SPD_RX_STAT_STATE) ∧
      (s.get SPD_RX_STAT_STATE = 2 → s.rxHoldover.get SPD_SUM_UNLOCK = 1) ∧
      ∀ {f : Fld}, Fld.key f ≠ Fld.key SPD_RX_STAT_STATE → Fld.key f ≠ Fld.key SPD_SUM_UNLOCK → s.rxHoldover.get f = s.get f := by
  unfold State.rxHoldover State.rxLeaves
  by_cases hs : s.get SPD_RX_STAT_STATE = 2
  · simp only [if_pos hs]
    refine ⟨by rw [State.get_put_same]; rfl, fun _ => ?_, fun h1 h2 => ?_⟩
    · rw [State.get_put_ne _ _ (by decide), State.get_put_same]
      rfl
    · rw [State.get_put_ne _ _ h1, State.get_put_ne _ _ h2]
  · simp only [if_neg hs]
    exact ⟨trivial, fun h => absurd h hs, fun _ _ => trivial⟩

@[simp] theorem State.occ_dombHold (s : State) : s.dombHold.occ = s.occ := by
  unfold State.dombHold
  dsimp only
  split <;> rfl

theorem State.frame_clockHold (s : State) (m : Nat) : (s.clockHold m).frame = s.frame := by
  unfold State.clockHold State.portHoldover State.rxHoldover State.rxLeaves State.domaHold
  split_ifs
  all_goals first | rfl | exact State.post_frame _ _ _ _

/-- A register of domain B reads the same once a monitored clock has stopped and what follows it holds. -/
theorem State.get_clockHold_stopPosted (s : State) (hm : m < 6) {f : Fld} (h : f.lo < 64 ∧ 0xE02008 ≤ f.addr ∧ f.addr ≤ 0xE02010) :
    ((s.stopPosted m).clockHold m).get f = s.get f := by
  obtain ⟨hlo, h1, h2⟩ := h
  have hev := fldIn_eventFlds_of_page (f := f) ⟨hlo, by omega, by omega⟩
  refine ((State.clockHold_quiet _ m).get (fldIn_eq_false_of_addr hlo ?_) hev).trans ((s.stopPosted_quiet m).get
    (fldIn_eq_false_of_addr hlo ?_) hev)
  · simp only [holdFlds, List.forall_mem_cons, SAP_STAT_STATE, SPD_RX_STAT_STATE, SPD_SUM_UNLOCK, CLK_DOMA_STAT_STATE,
      CLK_EVT_SUM_DOMA_HOLD, List.not_mem_nil, false_imp_iff, implies_true, and_true]
    omega
  · simp only [stopFlds, List.forall_mem_cons, CLK_MON_STAT_STATE, CLK_MON_CNT_STOPS, CLK_EVT_SUM_STOP, List.not_mem_nil, false_imp_iff,
      implies_true, and_true]
    omega

theorem State.sourceMon_stopped (s : State) (hm : m < 6) : ((s.stopPosted m).clockHold m).sourceMon = s.sourceMon :=
  State.sourceMon_congr (s.get_clockHold_stopPosted hm (by decide))

/-- R143, R194: the clock of a port stops that does not source domain B. -/
theorem clkStop_port (h : s.monState m = 1 ∨ s.monState m = 3) (hsrc : s.sourceMon ≠ some m) (hm : m < 4) :
    let u := clkStop m s
    u.get (CLK_MON_STAT_STATE m) = 2 ∧ u.bit CLK_EVT_SUM_STOP m = true ∧ 0x0201 ∈ u.occ ∧
      u.get (SAP_STAT_STATE m) = (if s.get (SAP_STAT_STATE m) = 2 ∨ s.get (SAP_STAT_STATE m) = 3 then 4 else s.get (SAP_STAT_STATE m)) ∧
      u.get (CLK_MON_CNT_STOPS m) = satNat 16 (s.get (CLK_MON_CNT_STOPS m) + 1) ∧
      Quiet [CLK_MON_STAT_STATE m, CLK_MON_CNT_STOPS m, CLK_EVT_SUM_STOP, SAP_STAT_STATE m] s u := by
  have heq : clkStop m s = (s.stopPosted m).portHoldover m := by
    rw [clkStop_eq h, s.sourceMon_stopped (by omega), if_neg (by simpa using hsrc)]
    exact if_pos hm
  have hsap : (s.stopPosted m).get (SAP_STAT_STATE m) = s.get (SAP_STAT_STATE m) :=
    s.stopPosted_get m (by simp only [SAP_STAT_STATE]; omega) (by omega)
  obtain ⟨h1, h2, h3, h4⟩ := s.stopPosted_shown (m := m) (by omega)
  dsimp only
  rw [heq]
  have hq : Quiet [SAP_STAT_STATE m] (s.stopPosted m) ((s.stopPosted m).portHoldover m) :=
    (Quiet.refl _ _).portHoldover (by simp [fldIn])
  have hread : ∀ {f : Fld}, f.lo < 64 ∧ f.addr / 4096 = 0xE02 → ((s.stopPosted m).portHoldover m).get f = (s.stopPosted m).get f := by
    rintro f ⟨hlo, hpage⟩
    refine hq.get (fldIn_eq_false_of_addr hlo ?_) (fldIn_eventFlds_of_page ⟨hlo, by omega, by omega⟩)
    simp only [List.forall_mem_cons, SAP_STAT_STATE, List.not_mem_nil, false_imp_iff, implies_true, and_true]
    omega
  refine ⟨?_, ?_, ?_, ?_, ?_, ?_⟩
  · rw [hread (by simp only [CLK_MON_STAT_STATE]; omega), h1]
  · rw [State.bit, hread (by decide), ← State.bit, h2]
  · rw [State.occ_portHoldover]
    exact h3
  · unfold State.portHoldover State.sapState
    rw [hsap]
    split
    · rw [State.get_put_same]
      rfl
    · rw [State.get_setPort, hsap]
  · rw [hread (by simp only [CLK_MON_CNT_STOPS]; omega), h4]
  · exact ((Quiet.refl _ s).stopPosted (by simp [fldIn]) (by simp [fldIn]) (by simp [fldIn])).portHoldover (by simp [fldIn])

/-- R143, R206: the receiver's clock stops. -/
theorem clkStop_receiver (h : s.monState 4 = 1 ∨ s.monState 4 = 3) :
    let u := clkStop 4 s
    u.get (CLK_MON_STAT_STATE 4) = 2 ∧ 0x0201 ∈ u.occ ∧
      u.get SPD_RX_STAT_STATE = (if s.get SPD_RX_STAT_STATE = 2 then 3 else s.get SPD_RX_STAT_STATE) ∧
      (s.get SPD_RX_STAT_STATE = 2 → u.get SPD_SUM_UNLOCK = 1) := by
  have hrx : (s.stopPosted 4).get SPD_RX_STAT_STATE = s.get SPD_RX_STAT_STATE := s.stopPosted_get 4 (by decide) (by decide)
  obtain ⟨h1, -, h3, -⟩ := s.stopPosted_shown (m := 4) (by omega)
  have hclock : (s.stopPosted 4).clockHold 4 = (s.stopPosted 4).rxHoldover := rfl
  have hq : Quiet [CLK_DOMB_STAT_STATE] ((s.stopPosted 4).rxHoldover) (clkStop 4 s) := by
    rw [clkStop_eq h, hclock]
    exact .ite (State.dombHold_quiet _) (.refl _ _)
  have hocc : (clkStop 4 s).occ = (s.stopPosted 4).occ := by
    rw [clkStop_eq h, hclock]
    split
    · rw [State.occ_dombHold, State.occ_rxHoldover]
    · exact State.occ_rxHoldover _
  dsimp only
  rw [hocc, hq.get (by decide) (by decide), hq.get (by decide) (by decide), hq.get (by decide) (by decide)]
  obtain ⟨h5, h6, h7⟩ := (s.stopPosted 4).rxHoldover_shown
  rw [h7 (by decide) (by decide), h1, h5, ← hrx]
  exact ⟨rfl, h3, rfl, h6⟩

theorem State.domaHold_shown (hhead : s.isHead = false) (ha : s.get CLK_DOMA_STAT_STATE ≠ 2) :
    s.domaHold.get CLK_DOMA_STAT_STATE = 2 ∧ s.domaHold.get CLK_EVT_SUM_DOMA_HOLD = 1 ∧ s.domaHold.occ = s.occ ++ [0x0208] := by
  rw [State.domaHold, if_neg (by rw [hhead]; simpa using ha)]
  refine ⟨?_, ?_, State.post_occ _ _ _ (by decide)⟩
  · rw [State.get_post (by decide), State.get_put_ne _ _ (by decide), State.get_put_same]
    rfl
  · rw [State.get_post (by decide), State.get_put_same]
    rfl

theorem State.not_sourceMon_of_five_le (s : State) (hm : 5 ≤ m) : s.sourceMon ≠ some m := by
  unfold State.sourceMon
  dsimp only
  split_ifs
  · simp only [ne_eq, Option.some.injEq]
    omega
  · simp

/-- R133, R143, R151: the clock of a satellite's domain A stops. -/
theorem clkStop_domainA (h : s.monState 5 = 1 ∨ s.monState 5 = 3) (ha : s.get CLK_DOMA_STAT_STATE ≠ 2) :
    let u := clkStop 5 s
    u.get (CLK_MON_STAT_STATE 5) = 2 ∧ u.get CLK_DOMA_STAT_STATE = 2 ∧ u.get CLK_EVT_SUM_DOMA_HOLD = 1 ∧
      0x0201 ∈ u.occ ∧ 0x0208 ∈ u.occ := by
  have hhead : s.isHead = false := by
    by_contra hh
    have : s.monState 5 = 0 := by simp [State.monState, State.monActive, hh]
    omega
  have hhead' : (s.stopPosted 5).isHead = false := by
    rw [State.stopPosted, State.post_isHead]
    exact hhead
  have hdom : (s.stopPosted 5).get CLK_DOMA_STAT_STATE = s.get CLK_DOMA_STAT_STATE :=
    (s.stopPosted_quiet 5).get (by decide) (by decide)
  obtain ⟨h1, -, h3, -⟩ := s.stopPosted_shown (m := 5) (by omega)
  have heq : clkStop 5 s = (s.stopPosted 5).clockHold 5 := by
    rw [clkStop_eq h, s.sourceMon_stopped (by decide), if_neg (by simpa using s.not_sourceMon_of_five_le le_rfl)]
  have hmon : (clkStop 5 s).get (CLK_MON_STAT_STATE 5) = 2 := by
    rw [heq, ((s.stopPosted 5).clockHold_quiet 5).get (by decide) (by decide), h1]
  obtain ⟨h4, h5, h6⟩ := State.domaHold_shown hhead' (by rw [hdom]; exact ha)
  have hclock : clkStop 5 s = (s.stopPosted 5).domaHold := by
    rw [heq]
    generalize s.stopPosted 5 = t
    rfl
  refine ⟨hmon, ?_⟩
  rw [hclock, h6]
  exact ⟨h4, h5, List.mem_append_left _ h3, List.mem_append_right _ (List.mem_singleton.2 rfl)⟩

/-- R136, R137: the clock stops that sources a locked domain B. -/
theorem clkStop_source (h : s.monState m = 1 ∨ s.monState m = 3) (hm : m < 6) (hsrc : s.sourceMon = some m)
    (hlock : s.get CLK_DOMB_STAT_STATE = 2) (hmeas : s.get CLK_DOMB_STAT_MEAS ≠ 0) :
    let u := clkStop m s
    u.get CLK_DOMB_STAT_STATE = 3 ∧ u.heldB = s.get CLK_DOMB_STAT_MEAS ∧ u.holdSince = s.frame := by
  have hstate : ((s.stopPosted m).clockHold m).get CLK_DOMB_STAT_STATE = 2 := (s.get_clockHold_stopPosted hm (by decide)).trans hlock
  have hm' : ((s.stopPosted m).clockHold m).get CLK_DOMB_STAT_MEAS = s.get CLK_DOMB_STAT_MEAS :=
    s.get_clockHold_stopPosted hm (by decide)
  have hframe : ((s.stopPosted m).clockHold m).frame = s.frame := by
    rw [State.frame_clockHold, State.stopPosted, State.post_frame]
    rfl
  dsimp only
  rw [clkStop_eq h, s.sourceMon_stopped hm, if_pos (by simp [hsrc]), State.dombHold]
  dsimp only
  rw [if_pos (.inr hstate), if_neg (by rw [hm']; exact hmeas)]
  refine ⟨?_, hm', hframe⟩
  rw [State.get_mk, State.get_put_same]
  rfl

/-! ### A clock slips, resumes and changes its rate -/

theorem State.port_setPort_same (s : State) (n : Nat) (p : Port) : (s.setPort n p).port n = p :=
  (mapGet_set _ _ _ _ _).trans (if_pos rfl)

/-- The state in which a slip of monitor `m` is counted and posted (R143). -/
theorem State.monGlitch_shown (s : State) (hm : m < 6) (off : Nat) :
    let u := s.monGlitch m off
    u.get (CLK_MON_CNT_SLIPS m) = satNat 16 (s.get (CLK_MON_CNT_SLIPS m) + 1) ∧ u.bit CLK_EVT_SUM_SLIP m = true ∧ 0x0202 ∈ u.occ ∧
      Quiet [CLK_MON_CNT_SLIPS m, CLK_EVT_SUM_SLIP] s u := by
  have hev : fldIn eventFlds (CLK_MON_CNT_SLIPS m) = false := fldIn_eventFlds_of_page (by simp only [CLK_MON_CNT_SLIPS]; omega)
  have hkey : Fld.key (CLK_MON_CNT_SLIPS m) ≠ Fld.key CLK_EVT_SUM_SLIP := by
    simp only [Fld.key, CLK_MON_CNT_SLIPS, CLK_EVT_SUM_SLIP]
    omega
  dsimp only [State.monGlitch, State.countSlip]
  refine ⟨?_, ?_, ?_, (((Quiet.refl _ s).bump (by simp [fldIn])).setBit (by simp [fldIn]) m).post _ _ _⟩
  · rw [State.get_post hev, State.get_setBit_ne _ _ hkey, State.get_bump_same]
    rfl
  · rw [State.bit, State.get_post (by decide), ← State.bit]
    exact State.bit_setBit_same _ hm
  · rw [State.post_occ _ _ _ (by decide)]
    exact List.mem_append_right _ (List.mem_singleton.2 rfl)

/-- R143: a slip disrupts a frame of the port or of the receiver. -/
theorem clkSlip_spec (hs : s.monState m = 1) (hm : m < 6) (off : Nat) :
    let u := clkSlip m off s
    u.get (CLK_MON_CNT_SLIPS m) = satNat 16 (s.get (CLK_MON_CNT_SLIPS m) + 1) ∧ u.bit CLK_EVT_SUM_SLIP m = true ∧ 0x0202 ∈ u.occ ∧
      (m < 4 → (u.port m).slip = true) ∧ (m = 4 → u.spd.slip = true) ∧ Quiet [CLK_MON_CNT_SLIPS m, CLK_EVT_SUM_SLIP] s u := by
  obtain ⟨h1, h2, h3, h4⟩ := s.monGlitch_shown hm off
  dsimp only
  rw [clkSlip, if_neg (not_not_intro hs)]
  generalize s.monGlitch m off = t at *
  dsimp only
  split_ifs with hport hspd
  · exact ⟨h1, h2, h3, fun _ => by rw [State.port_setPort_same], fun h => by omega, h4.other rfl rfl rfl rfl⟩
  · exact ⟨h1, h2, h3, fun h => by omega, fun _ => rfl, h4.other rfl rfl rfl rfl⟩
  · exact ⟨h1, h2, h3, fun h => absurd h hport, fun h => absurd h hspd, h4⟩

@[simp] theorem mapFind_insert_same {α : Type} (x : SMap α) (k : Nat) (v : α) : mapFind (mapInsert x k v) k = some v := by
  rw [mapFind_insert, if_pos rfl]

/-- The state in which monitor `m` runs again at `rate` (R143). -/
def State.resumePosted (s : State) (m period rate : Nat) : State :=
  let t := ((s.put (CLK_MON_STAT_STATE m) 1).put (CLK_MON_STAT_PERIOD m) period).post 0x0204 sevInfo
    (pack [p16 m, p32 (((s.put (CLK_MON_STAT_STATE m) 1).put (CLK_MON_STAT_PERIOD m) period).frameAgo (mapGet 0 s.monStop m))])
  { t with monRate := mapInsert t.monRate m rate }

theorem State.resumePosted_shown (s : State) (hm : m < 6) {period : Nat} (hp : period < 2 ^ 32) (rate : Nat) :
    let u := s.resumePosted m period rate
    u.get (CLK_MON_STAT_STATE m) = 1 ∧ u.get (CLK_MON_STAT_PERIOD m) = period ∧ mapFind u.monRate m = some rate ∧ 0x0204 ∈ u.occ := by
  have hev : fldIn eventFlds (CLK_MON_STAT_STATE m) = false ∧ fldIn eventFlds (CLK_MON_STAT_PERIOD m) = false :=
    ⟨fldIn_eventFlds_of_page (by simp only [CLK_MON_STAT_STATE]; omega), fldIn_eventFlds_of_page (by simp only [CLK_MON_STAT_PERIOD]; omega)⟩
  have hkey : Fld.key (CLK_MON_STAT_STATE m) ≠ Fld.key (CLK_MON_STAT_PERIOD m) := by
    simp only [Fld.key, CLK_MON_STAT_STATE, CLK_MON_STAT_PERIOD]
    omega
  dsimp only [State.resumePosted]
  refine ⟨?_, ?_, mapFind_insert_same _ _ _, ?_⟩
  · rw [State.get_mk, State.get_post hev.1, State.get_put_ne _ _ hkey, State.get_put_same]
    rfl
  · rw [State.get_mk, State.get_post hev.2]
    exact State.get_put_of_lt _ hp
  · rw [State.post_occ _ _ _ (by decide)]
    exact List.mem_append_right _ (List.mem_singleton.2 rfl)

theorem Quiet.resumePosted (h : Quiet l s t) (hst : fldIn l (CLK_MON_STAT_STATE m) = true) (hper : fldIn l (CLK_MON_STAT_PERIOD m) = true)
    (period rate : Nat) : Quiet l s (t.resumePosted m period rate) :=
  (((h.put hst 1).put hper period).post _ _ _).update

/-- A register of another kind reads the same once a clock has resumed. -/
theorem State.get_resumePosted (s : State) (hm : m < 6) (period rate : Nat) {f : Fld}
    (h : f.lo < 64 ∧ (f.addr < 0xE02040 ∨ 0xE020A0 ≤ f.addr) ∧ f.addr / 4096 ≠ 0xE0E ∧ f.addr / 4096 ≠ 0xE10) :
    (s.resumePosted m period rate).get f = s.get f := by
  obtain ⟨hlo, h1, h2, h3⟩ := h
  refine ((Quiet.refl [CLK_MON_STAT_STATE m, CLK_MON_STAT_PERIOD m] s).resumePosted (by simp [fldIn]) (by simp [fldIn]) period rate).get
    (fldIn_eq_false_of_addr hlo ?_) (fldIn_eventFlds_of_page ⟨hlo, h2, h3⟩)
  simp only [List.forall_mem_cons, CLK_MON_STAT_STATE, CLK_MON_STAT_PERIOD, List.not_mem_nil, false_imp_iff, implies_true, and_true]
  omega

theorem clkResume_eq (h : s.monState m = 2 ∨ s.monState m = 3) (hm : m < 6) (period rate : Nat) :
    clkResume m period rate s =
      let t := s.resumePosted m period rate
      let v := if s.sourceMon = some m then t.dombResume rate else t
      if v.sourceMon = some m ∧ v.get CLK_DOMB_STAT_STATE = 4 then v else v.clockGo m := by
  have hsrc : (s.resumePosted m period rate).sourceMon = s.sourceMon :=
    State.sourceMon_congr (s.get_resumePosted hm period rate (by decide))
  rw [← hsrc]
  exact if_neg (by omega)

/-- What a clock that runs again does to what follows it (R143, R206). -/
theorem State.clockGo_shown (s : State) (m : Nat) :
    let u := s.clockGo m
    u.monRate = s.monRate ∧ u.occ = s.occ ∧ (m < 4 → s.get (SAP_STAT_STATE m) = 4 → (u.port m).resume = true) ∧
      (m = 4 → s.get SPD_RX_STAT_STATE = 3 → u.get SPD_RX_STAT_STATE = 1) := by
  obtain ⟨r, d, e, he, -⟩ := s.rxResume_eq
  dsimp only [State.clockGo]
  split_ifs with hport hspd
  · unfold State.portResume State.sapState
    split_ifs with hs
    · exact ⟨rfl, rfl, fun _ _ => by rw [State.port_setPort_same], fun h => by omega⟩
    · exact ⟨rfl, rfl, fun _ h => absurd h hs, fun h => by omega⟩
  · refine ⟨by rw [he], by rw [he], fun h => by omega, fun _ h => ?_⟩
    rw [State.rxResume, if_pos h]
    exact (State.get_mk (s.put SPD_RX_STAT_STATE 1) _).trans (by rw [State.get_put_same]; rfl)
  · exact ⟨rfl, rfl, fun h => absurd h hport, fun h => absurd h hspd⟩

/-- R143: the clock resumes of a monitor that does not source domain B. -/
theorem clkResume_other (h : s.monState m = 2 ∨ s.monState m = 3) (hm : m < 6) {period : Nat} (hp : period < 2 ^ 32) (rate : Nat)
    (hsrc : s.sourceMon ≠ some m) :
    let u := clkResume m period rate s
    u.get (CLK_MON_STAT_STATE m) = 1 ∧ u.get (CLK_MON_STAT_PERIOD m) = period ∧ mapFind u.monRate m = some rate ∧ 0x0204 ∈ u.occ ∧
      (m < 4 → s.get (SAP_STAT_STATE m) = 4 → u.get (SAP_STAT_STATE m) = 4 ∧ (u.port m).resume = true) ∧
      (m = 4 → s.get SPD_RX_STAT_STATE = 3 → u.get SPD_RX_STAT_STATE = 1) ∧
      Quiet [CLK_MON_STAT_STATE m, CLK_MON_STAT_PERIOD m, SPD_RX_STAT_STATE] s u := by
  obtain ⟨h1, h2, h3, h4⟩ := s.resumePosted_shown hm hp rate
  have heq : clkResume m period rate s = (s.resumePosted m period rate).clockGo m := by
    have hkeep : (s.resumePosted m period rate).sourceMon = s.sourceMon :=
      State.sourceMon_congr (s.get_resumePosted hm period rate (by decide))
    rw [clkResume_eq h hm]
    dsimp only
    rw [if_neg hsrc, hkeep, if_neg fun h => hsrc h.1]
  have hport : (s.resumePosted m period rate).get SPD_RX_STAT_STATE = s.get SPD_RX_STAT_STATE :=
    s.get_resumePosted hm period rate (by decide)
  have hsap : (s.resumePosted m period rate).get (SAP_STAT_STATE m) = s.get (SAP_STAT_STATE m) :=
    s.get_resumePosted hm period rate (by simp only [SAP_STAT_STATE]; omega)
  have hq : Quiet [CLK_MON_STAT_STATE m, CLK_MON_STAT_PERIOD m, SPD_RX_STAT_STATE] s ((s.resumePosted m period rate).clockGo m) :=
    ((Quiet.refl _ s).resumePosted (by simp [fldIn]) (by simp [fldIn]) period rate).clockGo (by simp [fldIn]) m
  have hkey : Fld.key (CLK_MON_STAT_STATE m) ≠ Fld.key SPD_RX_STAT_STATE ∧ Fld.key (CLK_MON_STAT_PERIOD m) ≠ Fld.key SPD_RX_STAT_STATE ∧
      Fld.key (SAP_STAT_STATE m) ≠ Fld.key SPD_RX_STAT_STATE := by
    simp only [Fld.key, CLK_MON_STAT_STATE, CLK_MON_STAT_PERIOD, SAP_STAT_STATE, SPD_RX_STAT_STATE]
    omega
  obtain ⟨k1, k2, k3⟩ := hkey
  dsimp only
  rw [heq]
  rw [← hport, ← hsap]
  generalize s.resumePosted m period rate = t at *
  obtain ⟨g1, g2, g3, g4⟩ := t.clockGo_shown m
  rw [State.get_clockGo _ _ k1, State.get_clockGo _ _ k2, State.get_clockGo _ _ k3, g1, g2]
  exact ⟨h1, h2, h3, h4, fun hm h => ⟨h, g3 hm h⟩, g4, hq⟩

/-- R137: the clock resumes that sources domain B in HOLDOVER, near the rate held. -/
theorem clkResume_source (h : s.monState m = 2 ∨ s.monState m = 3) (hm : m < 6) (period : Nat) {rate : Nat} (hr : rate < 2 ^ 32)
    (hsrc : s.sourceMon = some m) (hhold : s.get CLK_DOMB_STAT_STATE = 3) (hnear : nearRate rate s.heldB = true) :
    let u := clkResume m period rate s
    u.get CLK_DOMB_STAT_STATE = 2 ∧ u.get CLK_DOMB_STAT_MEAS = rate := by
  have hstate : (s.resumePosted m period rate).get CLK_DOMB_STAT_STATE = 3 :=
    (s.get_resumePosted hm period rate (by decide)).trans hhold
  have hheld : (s.resumePosted m period rate).heldB = s.heldB := by
    unfold State.resumePosted
    exact State.post_heldB _ _ _ _
  have hlocked : (s.resumePosted m period rate).dombResume rate =
      ((s.resumePosted m period rate).put CLK_DOMB_STAT_STATE 2).put CLK_DOMB_STAT_MEAS rate := by
    rw [State.dombResume, if_pos hstate, hheld, if_pos hnear]
  dsimp only
  rw [clkResume_eq h hm]
  dsimp only
  rw [if_pos hsrc, hlocked]
  generalize s.resumePosted m period rate = t at *
  have hlock : ((t.put CLK_DOMB_STAT_STATE 2).put CLK_DOMB_STAT_MEAS rate).get CLK_DOMB_STAT_STATE = 2 := by
    rw [State.get_put_ne _ _ (by decide), State.get_put_same]
    rfl
  rw [hlock, if_neg (by omega), State.get_clockGo _ _ (by decide), State.get_clockGo _ _ (by decide)]
  exact ⟨hlock, State.get_put_of_lt _ hr⟩

/-- R143: the clock of a monitor that does not source domain B changes its rate. -/
theorem clkRate_other {meas : Nat} (h : s.monState m = 1) (hm : m < 6) (hnear : nearRate meas (s.tracked m) = false)
    (hsrc : s.sourceMon ≠ some m) :
    let u := clkRate m meas s
    mapFind u.monRate m = some meas ∧ u.get (CLK_MON_CNT_RATE_CHG m) = satNat 16 (s.get (CLK_MON_CNT_RATE_CHG m) + 1) ∧
      u.bit CLK_EVT_SUM_RATE m = true ∧ 0x0203 ∈ u.occ ∧ Quiet [CLK_MON_CNT_RATE_CHG m, CLK_EVT_SUM_RATE] s u := by
  have hev : fldIn eventFlds (CLK_MON_CNT_RATE_CHG m) = false := fldIn_eventFlds_of_page (by simp only [CLK_MON_CNT_RATE_CHG]; omega)
  have hkey : Fld.key (CLK_MON_CNT_RATE_CHG m) ≠ Fld.key CLK_EVT_SUM_RATE ∧ Fld.key CLK_DOMB_CFG_SRC ≠ Fld.key (CLK_MON_CNT_RATE_CHG m) := by
    simp only [Fld.key, CLK_MON_CNT_RATE_CHG, CLK_EVT_SUM_RATE, CLK_DOMB_CFG_SRC]
    omega
  dsimp only
  rw [clkRate, if_neg (by simp [h, hnear]), State.rateChange]
  dsimp only
  rw [if_pos]
  · refine ⟨?_, ?_, ?_, ?_, Quiet.post (Quiet.update (((Quiet.refl _ s).bump (by simp [fldIn])).setBit (by simp [fldIn]) m)) _ _ _⟩
    · rw [State.post_monRate, mapFind_insert_same]
    · rw [State.get_post hev, State.get_mk, State.get_setBit_ne _ _ hkey.1, State.get_bump_same]
      rfl
    · rw [State.bit, State.get_post (by decide), State.get_mk, ← State.bit]
      exact State.bit_setBit_same _ hm
    · rw [State.post_occ _ _ _ (by decide)]
      exact List.mem_append_right _ (List.mem_singleton.2 rfl)
  · rw [State.sourceMon_congr (s := s)]
    · exact hsrc
    · rw [State.get_post (by decide), State.get_mk, State.get_setBit_ne _ _ (by decide), State.get_bump_ne _ hkey.2]

/-- Settles O7: what each command of the clock domains does, from the lemmas on domain B's configuration and on the monitors above. -/
theorem clockDomainsConfigureLockAndFail : Obligations.ClockDomainsConfigureLockAndFail := by
  unfold Obligations.ClockDomainsConfigureLockAndFail
  refine ⟨fun s v => ⟨fun h => ⟨_, rfl, if_pos h⟩, fun hsrc hrate => ⟨_, rfl, ?_⟩⟩, fun s m => ?_⟩
  · obtain ⟨h1, h2, h3, h4, h5, h6, h7⟩ := clkDombCfgWrite_taken (s := s) hsrc hrate
    refine ⟨h1, h2, h3, h4, h5, h6, h7, clkDombCfgWrite_conflict hsrc hrate, ?_⟩
    rw [clkDombCfgWrite_eq hsrc hrate]
    exact Quiet.trans (Quiet.sourceGo ((s.dombWritten_quiet v.toNat).of_subset (by simp [dombCfgFlds])) (by simp [fldIn]) _)
      ((State.sourceConflict_quiet _ _).of_subset (by simp [sapErrFlds]))
  · refine ⟨fun meas hm hs => ⟨_, rfl, dombLocked_spec hm hs⟩, fun hs hms hend => ⟨_, rfl, dombHoldEnd_spec hs hms hend⟩,
      fun h hsrc hm => ⟨_, rfl, clkStop_port h hsrc hm⟩, fun h hm => ⟨_, rfl, ?_⟩, fun h hm ha => ⟨_, rfl, ?_⟩,
      fun h hsrc hlock hmeas => ⟨_, rfl, clkStop_source h m.isLt hsrc hlock hmeas⟩,
      fun off h => ⟨_, rfl, clkSlip_spec h m.isLt off⟩, fun period rate hp h hsrc => ⟨_, rfl, clkResume_other h m.isLt hp rate hsrc⟩,
      fun period rate hr h hsrc hhold hnear => ⟨_, rfl, clkResume_source (.inl h) m.isLt period hr hsrc hhold hnear⟩,
      fun meas h hnear hsrc => ⟨_, rfl, clkRate_other h m.isLt hnear hsrc⟩⟩
    · rw [hm] at h ⊢
      exact clkStop_receiver h
    · rw [hm] at h ⊢
      exact clkStop_domainA h ha

end Sys2Proof.Machine
end

section
/-! The rate bridges (R145 to R148, R150): configuration, lock, hold and slips. -/

namespace Sys2Proof.Machine

variable {l : List Fld} {s t : State} {b : Nat}

theorem State.brg_setBrg_same (s : State) (b : Nat) (x : Brg) : (s.setBrg b x).brg b = x :=
  (mapGet_set _ _ _ _ _).trans (if_pos rfl)

@[simp] theorem State.get_setBrg (s : State) (b : Nat) (x : Brg) (f : Fld) : (s.setBrg b x).get f = s.get f := rfl

@[simp] theorem State.occ_setBrg (s : State) (b : Nat) (x : Brg) : (s.setBrg b x).occ = s.occ := rfl

@[simp] theorem State.brg_put (s : State) (f : Fld) (v b : Nat) : (s.put f v).brg b = s.brg b := rfl

@[simp] theorem State.brg_post (s : State) (c v p b : Nat) : (s.post c v p).brg b = s.brg b := by
  rw [State.brg, State.post_brgs, State.brg]

theorem Quiet.setBrg (h : Quiet l s t) (b : Nat) (x : Brg) : Quiet l s (t.setBrg b x) := h.other rfl rfl rfl rfl

/-- A bridge's registers, of which none is an event's. -/
theorem fldIn_eventFlds_bridge {f : Fld} (h : f.lo < 64 ∧ 0xE12000 ≤ f.addr ∧ f.addr ≤ 0xE12100) : fldIn eventFlds f = false :=
  fldIn_eventFlds_of_page (by omega)

theorem Quiet.brgLeaves (h : Quiet l s t) (hsum : fldIn l BRG_SUM_UNLOCK = true) (b : Nat) : Quiet l s (t.brgLeaves b) :=
  .ite (h.setBit hsum b) h

theorem State.get_brgLeaves (s : State) (b : Nat) {f : Fld} (h : Fld.key f ≠ Fld.key BRG_SUM_UNLOCK) : (s.brgLeaves b).get f = s.get f := by
  unfold State.brgLeaves
  split
  · exact State.get_setBit_ne _ _ h
  · rfl

/-- R154: a bridge that leaves SETTLE or LOCKED is counted as unlocked. -/
theorem State.brgLeaves_shown (hb : b < 8) (h : s.get (BRG_STAT_STATE b) = 2 ∨ s.get (BRG_STAT_STATE b) = 3) :
    (s.brgLeaves b).bit BRG_SUM_UNLOCK b = true := by
  rw [State.brgLeaves, State.brgState, if_pos h]
  exact State.bit_setBit_same _ hb

/-! ### The bridge is OFF, and its configuration written -/

theorem State.brgOff_eq (s : State) (b : Nat) : ∃ x e, s.brgOff b =
    { (((s.brgLeaves b).put (BRG_STAT_STATE b) 0).put (BRG_STAT_FILL b) 0).put (BRG_STAT_SETTLE_LEFT b) 0 with brgs := x, edgeNew := e } := by
  obtain ⟨e, he⟩ := State.foldl_edgeClear (fun c => 0x200 + 16 * b + c) (List.range 16)
    (((((s.brgLeaves b).put (BRG_STAT_STATE b) 0).put (BRG_STAT_FILL b) 0).put (BRG_STAT_SETTLE_LEFT b) 0).setBrg b Brg.reset)
  exact ⟨_, e, he⟩

/-- The fields that a bridge that goes OFF changes. -/
def brgOffFlds (b : Nat) : List Fld := [BRG_SUM_UNLOCK, BRG_STAT_STATE b, BRG_STAT_FILL b, BRG_STAT_SETTLE_LEFT b]

theorem State.brgOff_quiet (s : State) (b : Nat) : Quiet (brgOffFlds b) s (s.brgOff b) := by
  obtain ⟨x, e, h⟩ := s.brgOff_eq b
  rw [h]
  exact Quiet.update (Quiet.put (Quiet.put (Quiet.put ((Quiet.refl _ s).brgLeaves (by simp [fldIn, brgOffFlds]) b)
    (by simp [fldIn, brgOffFlds]) 0) (by simp [fldIn, brgOffFlds]) 0) (by simp [fldIn, brgOffFlds]) 0)

/-- R145, R147: a configuration is written. -/
theorem brgCfgWrite_spec (hb : b < 8) (v : Nat) :
    let u := brgCfgWrite b v s
    u.get (BRG_STAT_STATE b) = 0 ∧ u.get (BRG_STAT_CFG_ERR b) = b2n (brgInvalid v) ∧ u.get (BRG_CFG_EN b) = bits v 0 1 ∧
      u.get (BRG_CFG_IN_DOM b) = bits v 1 2 ∧ u.get (BRG_CFG_OUT_DOM b) = bits v 3 2 ∧ u.get (BRG_CFG_CHANS b) = bits v 5 5 ∧
      u.get (BRG_CFG_SETTLE b) = bits v 16 8 ∧
      (s.get (BRG_STAT_STATE b) = 2 ∨ s.get (BRG_STAT_STATE b) = 3 → u.bit BRG_SUM_UNLOCK b = true) ∧
      Quiet [BRG_SUM_UNLOCK, BRG_STAT_STATE b, BRG_STAT_FILL b, BRG_STAT_SETTLE_LEFT b, BRG_STAT_CFG_ERR b, BRG_CFG_EN b,
        BRG_CFG_IN_DOM b, BRG_CFG_OUT_DOM b, BRG_CFG_CHANS b, BRG_CFG_SETTLE b] s u := by
  have h0 : (s.brgOff b).get (BRG_STAT_STATE b) = 0 := by
    obtain ⟨x, e, h⟩ := s.brgOff_eq b
    rw [h, State.get_mk, State.get_put_ne, State.get_put_ne, State.get_put_same, Nat.zero_mod]
    all_goals
      simp only [Fld.key, BRG_STAT_STATE, BRG_STAT_FILL, BRG_STAT_SETTLE_LEFT]
      omega
  have hunlock : s.get (BRG_STAT_STATE b) = 2 ∨ s.get (BRG_STAT_STATE b) = 3 → (s.brgOff b).bit BRG_SUM_UNLOCK b = true := by
    intro hs
    obtain ⟨x, e, h⟩ := s.brgOff_eq b
    rw [State.bit, h, State.get_mk, State.get_put_ne, State.get_put_ne, State.get_put_ne, ← State.bit]
    · exact State.brgLeaves_shown hb hs
    all_goals
      simp only [Fld.key, BRG_STAT_STATE, BRG_STAT_FILL, BRG_STAT_SETTLE_LEFT, BRG_SUM_UNLOCK]
      omega
  have hq := s.brgOff_quiet b
  have herr : b2n (brgInvalid v) < 2 := by
    unfold b2n
    split <;> decide
  dsimp only
  unfold brgCfgWrite State.putBrgCfg
  generalize s.brgOff b = t at *
  simp (disch := (simp only [Fld.key, BRG_STAT_STATE, BRG_STAT_CFG_ERR, BRG_CFG_EN, BRG_CFG_IN_DOM, BRG_CFG_OUT_DOM, BRG_CFG_CHANS,
    BRG_CFG_SETTLE, BRG_SUM_UNLOCK]; omega)) only [State.bit, State.get_put_ne, State.get_put_same]
  refine ⟨h0, Nat.mod_eq_of_lt herr, Nat.mod_eq_of_lt (bits_lt _ _ _), Nat.mod_eq_of_lt (bits_lt _ _ _), Nat.mod_eq_of_lt (bits_lt _ _ _),
    Nat.mod_eq_of_lt (bits_lt _ _ _), Nat.mod_eq_of_lt (bits_lt _ _ _), hunlock, ?_⟩
  refine Quiet.put (Quiet.put (Quiet.put (Quiet.put (Quiet.put (Quiet.put (hq.of_subset (by simp [brgOffFlds])) ?_ _) ?_ _) ?_ _) ?_ _)
    ?_ _) ?_ _
  all_goals simp [fldIn]

/-! ### Lock and unlock -/

theorem brgSettle_spec {ratio : Nat} (hr : ratio < 2 ^ 48) (hs : s.get (BRG_STAT_STATE b) = 1) (hset : s.get (BRG_CFG_SETTLE b) < 256) :
    let u := brgSettle b ratio s
    u.get (BRG_STAT_STATE b) = 2 ∧ u.get (BRG_RATIO_RATIO b) = ratio ∧ (u.brg b).locked = ratio ∧
      u.get (BRG_STAT_SETTLE_LEFT b) = 16 * s.get (BRG_CFG_SETTLE b) ∧
      Quiet [BRG_STAT_STATE b, BRG_RATIO_RATIO b, BRG_STAT_SETTLE_LEFT b] s u := by
  have hr' : ratio % 2 ^ (BRG_RATIO_RATIO b).width = ratio := Nat.mod_eq_of_lt hr
  have hset' : 16 * s.get (BRG_CFG_SETTLE b) % 2 ^ (BRG_STAT_SETTLE_LEFT b).width = 16 * s.get (BRG_CFG_SETTLE b) :=
    Nat.mod_eq_of_lt (show _ < 4096 by omega)
  dsimp only
  rw [brgSettle, State.brgState, if_pos hs]
  simp (disch := (simp only [Fld.key, BRG_STAT_STATE, BRG_RATIO_RATIO, BRG_STAT_SETTLE_LEFT, BRG_CFG_SETTLE]; omega)) only
    [State.get_setBrg, State.get_put_ne, State.get_put_same, State.brg_setBrg_same, hr', hset']
  refine ⟨rfl, trivial, trivial, trivial, ?_⟩
  exact (((Quiet.refl _ s).put (by simp [fldIn]) 2).put (by simp [fldIn]) ratio).put (by simp [fldIn]) _ |>.setBrg b _

theorem brgLock_spec (hb : b < 8) (hs : s.get (BRG_STAT_STATE b) = 2) (hleft : s.get (BRG_STAT_SETTLE_LEFT b) = 0) :
    let u := brgLock b s
    u.get (BRG_STAT_STATE b) = 3 ∧ 0x1202 ∈ u.occ ∧ Quiet [BRG_STAT_STATE b] s u := by
  dsimp only
  rw [brgLock, if_pos ⟨hs, hleft⟩]
  refine ⟨?_, ?_, Quiet.post ((Quiet.refl _ s).put (by simp [fldIn]) 3) _ _ _⟩
  · rw [State.get_post (fldIn_eventFlds_bridge (by simp only [BRG_STAT_STATE]; omega)), State.get_put_same]
    rfl
  · rw [State.post_occ _ _ _ (by decide)]
    exact List.mem_append_right _ (List.mem_singleton.2 rfl)

/-- R147, R150: the ratio leaves the locked one by more than 0.5 %. -/
theorem brgUnlock_far (hb : b < 8) {ratio : Nat} (hr : ratio < 2 ^ 48) (hs : s.get (BRG_STAT_STATE b) = 2 ∨ s.get (BRG_STAT_STATE b) = 3)
    (hfar : nearRate ratio (s.brg b).locked = false) :
    let u := brgUnlock b ratio s
    u.get (BRG_STAT_STATE b) = 1 ∧ u.get (BRG_RATIO_RATIO b) = ratio ∧ u.bit BRG_SUM_UNLOCK b = true ∧
      u.get (BRG_CNT_RELOCKS b) = satNat 16 (s.get (BRG_CNT_RELOCKS b) + 1) ∧ 0x1201 ∈ u.occ ∧
      Quiet [BRG_STAT_STATE b, BRG_RATIO_RATIO b, BRG_STAT_SETTLE_LEFT b, BRG_SUM_UNLOCK, BRG_CNT_RELOCKS b] s u := by
  have hev : fldIn eventFlds (BRG_CNT_RELOCKS b) = false := fldIn_eventFlds_bridge (by simp only [BRG_CNT_RELOCKS]; omega)
  have h1 : s.brgState b ≠ 1 := by unfold State.brgState; omega
  have heq : brgUnlock b ratio s = ((((s.bump (BRG_CNT_RELOCKS b)).brgLeaves b).post 0x1201 sevWarn
      (pack [p16 b, (48, (s.brg b).locked), (48, ratio)])).put (BRG_RATIO_RATIO b) ratio).brgAcquire b := by
    rw [brgUnlock]
    dsimp only
    rw [if_neg (by unfold State.brgState; omega), if_neg h1, hfar, if_neg (by decide), Bool.false_or, if_neg (by simpa using h1)]
  have hleave : ((s.bump (BRG_CNT_RELOCKS b)).brgLeaves b).bit BRG_SUM_UNLOCK b = true := by
    refine State.brgLeaves_shown hb ?_
    rw [State.get_bump_ne]
    · exact hs
    · simp only [Fld.key, BRG_STAT_STATE, BRG_CNT_RELOCKS]
      omega
  dsimp only
  rw [heq, State.brgAcquire]
  simp (disch := (simp only [Fld.key, BRG_STAT_STATE, BRG_RATIO_RATIO, BRG_STAT_SETTLE_LEFT, BRG_CNT_RELOCKS, BRG_SUM_UNLOCK]; omega)) only
    [State.get_setBrg, State.get_put_ne, State.get_put_same, State.bit, State.get_post hev, State.get_brgLeaves, State.get_bump_same,
      State.get_post (show fldIn eventFlds BRG_SUM_UNLOCK = false by decide)]
  refine ⟨rfl, Nat.mod_eq_of_lt hr, hleave, rfl, ?_, ?_⟩
  · rw [State.occ_setBrg, State.put_occ, State.put_occ, State.put_occ, State.post_occ _ _ _ (by decide)]
    exact List.mem_append_right _ (List.mem_singleton.2 rfl)
  · refine Quiet.setBrg (Quiet.put (Quiet.put (Quiet.put (Quiet.post (Quiet.brgLeaves ((Quiet.refl _ s).bump ?_) ?_ b) _ _ _) ?_ _) ?_ _)
      ?_ _) b _
    all_goals simp [fldIn]

/-- R147: a smaller change is tracked. -/
theorem brgUnlock_near {ratio : Nat} (hr : ratio < 2 ^ 48) (hs : s.get (BRG_STAT_STATE b) = 2 ∨ s.get (BRG_STAT_STATE b) = 3)
    (hnear : nearRate ratio (s.brg b).locked = true) :
    let u := brgUnlock b ratio s
    u.get (BRG_STAT_STATE b) = s.get (BRG_STAT_STATE b) ∧ u.get (BRG_RATIO_RATIO b) = ratio ∧ Quiet [BRG_RATIO_RATIO b] s u := by
  have h1 : s.brgState b ≠ 1 := by unfold State.brgState; omega
  have heq : brgUnlock b ratio s = s.put (BRG_RATIO_RATIO b) ratio := by
    rw [brgUnlock]
    dsimp only
    rw [if_neg (by unfold State.brgState; omega), if_neg h1, hnear, if_pos rfl, Bool.true_or, if_pos rfl]
  dsimp only
  rw [heq]
  refine ⟨State.get_put_ne _ _ ?_, State.get_put_of_lt _ hr, (Quiet.refl _ s).put (by simp [fldIn]) _⟩
  simp only [Fld.key, BRG_STAT_STATE, BRG_RATIO_RATIO]
  omega

/-! ### Hold, resume and slip -/

theorem bridgeHold_spec (hb : b < 8) (h0 : s.get (BRG_STAT_STATE b) ≠ 0) (h4 : s.get (BRG_STAT_STATE b) ≠ 4) :
    let u := bridgeHold b s
    u.get (BRG_STAT_STATE b) = 4 ∧
      (s.get (BRG_STAT_STATE b) = 2 ∨ s.get (BRG_STAT_STATE b) = 3 → u.bit BRG_SUM_UNLOCK b = true) ∧
      Quiet [BRG_STAT_STATE b, BRG_STAT_SETTLE_LEFT b, BRG_SUM_UNLOCK] s u := by
  dsimp only
  rw [bridgeHold, if_neg (by unfold State.brgState; omega)]
  simp (disch := (simp only [Fld.key, BRG_STAT_STATE, BRG_STAT_SETTLE_LEFT, BRG_SUM_UNLOCK]; omega)) only
    [State.bit, State.get_put_ne, State.get_put_same]
  refine ⟨rfl, State.brgLeaves_shown hb, Quiet.put (Quiet.put ((Quiet.refl _ s).brgLeaves ?_ b) ?_ _) ?_ _⟩
  all_goals simp [fldIn]

theorem bridgeResume_spec (hs : s.get (BRG_STAT_STATE b) = 4) :
    let u := bridgeResume b s
    u.get (BRG_STAT_STATE b) = 1 ∧ (u.brg b).since = 0 ∧ (u.brg b).fifo = (s.brg b).fifo ∧
      Quiet [BRG_STAT_STATE b, BRG_STAT_SETTLE_LEFT b] s u := by
  dsimp only
  rw [bridgeResume, State.brgState, if_pos hs, State.brgAcquire]
  simp (disch := (simp only [Fld.key, BRG_STAT_STATE, BRG_STAT_SETTLE_LEFT]; omega)) only
    [State.get_setBrg, State.get_put_ne, State.get_put_same, State.brg_setBrg_same]
  exact ⟨rfl, trivial, trivial, (((Quiet.refl _ s).put (by simp [fldIn]) _).put (by simp [fldIn]) _).setBrg b _⟩

/-- What is left of a phase error once whole input periods have been dropped or repeated. -/
theorem natAbs_sub_round_le (e : Int) : (e - (e + 2 ^ 43) / 2 ^ 44 * 2 ^ 44).natAbs ≤ 2 ^ 43 := by
  omega

/-- R148: a phase step of more than 8 input periods re-centres the FIFO. -/
theorem brgSlip_spec (hb : b < 8) (hs : s.get (BRG_STAT_STATE b) = 2 ∨ s.get (BRG_STAT_STATE b) = 3)
    (herr : 8 * 2 ^ 44 < (s.brg b).phaseErr.natAbs) :
    let u := brgSlip b s
    u.get (BRG_STAT_STATE b) = s.get (BRG_STAT_STATE b) ∧ (u.brg b).phaseErr.natAbs ≤ 2 ^ 43 ∧ u.bit BRG_SUM_SLIP b = true ∧
      u.get (BRG_CNT_SLIPS b) = satNat 16 (s.get (BRG_CNT_SLIPS b) + 1) ∧ 0x1203 ∈ u.occ ∧
      Quiet [BRG_SUM_SLIP, BRG_CNT_SLIPS b, BRG_STAT_FILL b] s u := by
  have hev : fldIn eventFlds (BRG_CNT_SLIPS b) = false := fldIn_eventFlds_bridge (by simp only [BRG_CNT_SLIPS]; omega)
  have hev' : fldIn eventFlds (BRG_STAT_STATE b) = false := fldIn_eventFlds_bridge (by simp only [BRG_STAT_STATE]; omega)
  dsimp only
  unfold brgSlip State.brgFill
  dsimp only
  rw [if_pos ⟨hs, herr⟩]
  refine ⟨?_, ?_, ?_, ?_, ?_, ?_⟩
  · rw [State.get_post hev', State.get_setBit_ne, State.get_bump_ne, State.get_put_ne, State.get_setBrg]
    all_goals
      simp only [Fld.key, BRG_STAT_STATE, BRG_STAT_FILL, BRG_CNT_SLIPS, BRG_SUM_SLIP]
      omega
  · rw [State.brg_post, State.setBit_eq, State.brg_put, State.bump_eq, State.brg_put, State.brg_put, State.brg_setBrg_same]
    exact natAbs_sub_round_le _
  · rw [State.bit, State.get_post (by decide), ← State.bit]
    exact State.bit_setBit_same _ hb
  · rw [State.get_post hev, State.get_setBit_ne, State.get_bump_same, State.get_put_ne, State.get_setBrg]
    · rfl
    all_goals
      simp only [Fld.key, BRG_STAT_FILL, BRG_CNT_SLIPS, BRG_SUM_SLIP]
      omega
  · rw [State.post_occ _ _ _ (by decide)]
    exact List.mem_append_right _ (List.mem_singleton.2 rfl)
  · refine Quiet.post (Quiet.setBit (Quiet.bump (Quiet.put ((Quiet.refl _ s).setBrg b _) ?_ _) ?_) ?_ _) _ _ _
    all_goals simp [fldIn]

/-- Settles O8: each of the seven commands by its own lemma above. -/
theorem rateBridgeEffects : Obligations.RateBridgeEffects := by
  unfold Obligations.RateBridgeEffects
  intro s b
  exact ⟨fun v => ⟨_, rfl, brgCfgWrite_spec b.isLt v.toNat⟩, fun ratio hr hs hset => ⟨_, rfl, brgSettle_spec hr hs hset⟩,
    fun hs hleft => ⟨_, rfl, brgLock_spec b.isLt hs hleft⟩, fun ratio hr hs hfar => ⟨_, rfl, brgUnlock_far b.isLt hr hs hfar⟩,
    fun ratio hr hs hnear => ⟨_, rfl, brgUnlock_near hr hs hnear⟩, fun h0 h4 => ⟨_, rfl, bridgeHold_spec b.isLt h0 h4⟩,
    fun hs => ⟨_, rfl, bridgeResume_spec hs⟩, fun hs herr => ⟨_, rfl, brgSlip_spec b.isLt hs herr⟩⟩

end Sys2Proof.Machine
end

section
/-! The serial audio ports (R187 to R195, R199, R213): configuration and mutes, and the frames of a running port. -/

namespace Sys2Proof.Machine

variable {l : List Fld} {s t : State} {n : Nat}

/-! ### The configuration's fields -/

theorem mod_two_pow_add (v a k : Nat) : v % 2 ^ (a + k) = v % 2 ^ a + 2 ^ a * bits v a k := by
  rw [Nat.pow_add, Nat.mod_mul, bits, Nat.shiftRight_eq_div_pow]

/-- A SAP_CFG image, field by field (R216). -/
theorem sapImage_fields (v : Nat) :
    bits v 0 1 + 2 * bits v 1 1 + 2 ^ 2 * bits v 2 2 + 2 ^ 4 * bits v 4 1 + 2 ^ 5 * bits v 5 5 + 2 ^ 10 * bits v 10 2
      + 2 ^ 12 * bits v 12 2 + 2 ^ 14 * bits v 14 1 + 2 ^ 15 * bits v 15 1 + 2 ^ 16 * bits v 16 1 + 2 ^ 17 * bits v 17 1
      + 2 ^ 18 * bits v 18 1 + 2 ^ 19 * bits v 19 1 + 2 ^ 20 * bits v 20 1 + 2 ^ 21 * bits v 21 4 = v % 2 ^ 25 := by
  have h (a k : Nat) := mod_two_pow_add v a k
  rw [h 21 4, h 20 1, h 19 1, h 18 1, h 17 1, h 16 1, h 15 1, h 14 1, h 12 2, h 10 2, h 5 5, h 4 1, h 2 2, h 1 1, h 0 1, Nat.pow_zero,
    Nat.mod_one, Nat.zero_add, Nat.one_mul, Nat.pow_one]

theorem sapImage_congr (h : ∀ f ∈ sapCfgFlds n, t.get f = s.get f) : sapImage t n = sapImage s n := by
  simp only [sapCfgFlds, List.forall_mem_cons, List.not_mem_nil, false_imp_iff, implies_true, and_true] at h
  obtain ⟨h0, h1, h2, h3, h4, h5, h6, h7, h8, h9, h10, h11, h12, h13, h14⟩ := h
  rw [sapImage, h0, h1, h2, h3, h4, h5, h6, h7, h8, h9, h10, h11, h12, h13, h14, sapImage]

theorem State.get_putSapCfg (s : State) (n v : Nat) :
    let u := s.putSapCfg n v
    u.get (SAP_CFG_EN n) = bits v 0 1 ∧ u.get (SAP_CFG_START_MODE n) = bits v 18 1 ∧ sapImage u n = v % 2 ^ 25 := by
  have hmod (a k : Nat) : bits v a k % 2 ^ k = bits v a k := Nat.mod_eq_of_lt (bits_lt v a k)
  dsimp only
  unfold State.putSapCfg sapImage
  dsimp only
  simp (disch := (simp only [Fld.key, SAP_CFG_EN, SAP_CFG_ROLE, SAP_CFG_FMT, SAP_CFG_DOM, SAP_CFG_SLOTS, SAP_CFG_SWIDTH, SAP_CFG_WLEN,
    SAP_CFG_DELAY, SAP_CFG_FS_LONG, SAP_CFG_BCLK_INV, SAP_CFG_FS_INV, SAP_CFG_START_MODE, SAP_CFG_TX_UNUSED, SAP_CFG_ALIGN,
    SAP_CFG_ALIGN_LAG]; omega)) only [State.get_put_ne, State.get_put_same]
  refine ⟨hmod 0 1, hmod 18 1, Eq.trans ?_ (sapImage_fields v)⟩
  simp only [SAP_CFG_EN, SAP_CFG_ROLE, SAP_CFG_FMT, SAP_CFG_DOM, SAP_CFG_SLOTS, SAP_CFG_SWIDTH, SAP_CFG_WLEN, SAP_CFG_DELAY,
    SAP_CFG_FS_LONG, SAP_CFG_BCLK_INV, SAP_CFG_FS_INV, SAP_CFG_START_MODE, SAP_CFG_TX_UNUSED, SAP_CFG_ALIGN, SAP_CFG_ALIGN_LAG, hmod]

theorem Quiet.putSapCfg (h : Quiet l s t) (hl : sapCfgFlds n ⊆ l) (v : Nat) : Quiet l s (t.putSapCfg n v) := by
  have hf : ∀ f ∈ sapCfgFlds n, fldIn l f = true := fun f hf => List.any_eq_true.2 ⟨f, hl hf, beq_self_eq_true _⟩
  simp only [sapCfgFlds, List.forall_mem_cons, List.not_mem_nil, false_imp_iff, implies_true, and_true] at hf
  obtain ⟨h0, h1, h2, h3, h4, h5, h6, h7, h8, h9, h10, h11, h12, h13, h14⟩ := hf
  have a := Quiet.put (Quiet.put (Quiet.put (Quiet.put h h0 (bits v 0 1)) h1 (bits v 1 1)) h2 (bits v 2 2)) h3 (bits v 4 1)
  have b := Quiet.put (Quiet.put (Quiet.put (Quiet.put a h4 (bits v 5 5)) h5 (bits v 10 2)) h6 (bits v 12 2)) h7 (bits v 14 1)
  have c := Quiet.put (Quiet.put (Quiet.put (Quiet.put b h8 (bits v 15 1)) h9 (bits v 16 1)) h10 (bits v 17 1)) h11 (bits v 18 1)
  exact Quiet.put (Quiet.put (Quiet.put c h12 (bits v 19 1)) h13 (bits v 20 1)) h14 (bits v 21 4)

/-- A field outside SAP_CFG of port `n`. -/
theorem State.get_putSapCfg_ne (s : State) (v : Nat) {f : Fld} (h : f.lo < 64 ∧ f.addr ≠ 0xE05000 + 0x40 * n)
    (hev : fldIn eventFlds f = false) : (s.putSapCfg n v).get f = s.get f := by
  refine ((Quiet.refl (sapCfgFlds n) s).putSapCfg (List.Subset.refl _) v).get (fldIn_eq_false_of_addr h.1 ?_) hev
  simp only [sapCfgFlds, SAP_CFG_EN, SAP_CFG_ROLE, SAP_CFG_FMT, SAP_CFG_DOM, SAP_CFG_SLOTS, SAP_CFG_SWIDTH, SAP_CFG_WLEN, SAP_CFG_DELAY,
    SAP_CFG_FS_LONG, SAP_CFG_BCLK_INV, SAP_CFG_FS_INV, SAP_CFG_START_MODE, SAP_CFG_TX_UNUSED, SAP_CFG_ALIGN, SAP_CFG_ALIGN_LAG,
    List.forall_mem_cons, List.not_mem_nil, false_imp_iff, implies_true, and_true]
  omega

/-- The image stands once fields outside SAP_CFG have changed. -/
theorem sapImage_of_quiet (h : Quiet l s t) (hn : n < 4) (hl : ∀ g ∈ l, g.lo < 64 ∧ g.addr ≠ 0xE05000 + 0x40 * n) :
    sapImage t n = sapImage s n := by
  have hcfg : ∀ f ∈ sapCfgFlds n, f.lo < 64 ∧ f.addr = 0xE05000 + 0x40 * n := by
    simp [sapCfgFlds, SAP_CFG_EN, SAP_CFG_ROLE, SAP_CFG_FMT, SAP_CFG_DOM, SAP_CFG_SLOTS, SAP_CFG_SWIDTH, SAP_CFG_WLEN, SAP_CFG_DELAY,
      SAP_CFG_FS_LONG, SAP_CFG_BCLK_INV, SAP_CFG_FS_INV, SAP_CFG_START_MODE, SAP_CFG_TX_UNUSED, SAP_CFG_ALIGN, SAP_CFG_ALIGN_LAG]
  refine sapImage_congr fun f hf => ?_
  obtain ⟨hlo, haddr⟩ := hcfg f hf
  exact h.get (fldIn_eq_false_of_addr hlo fun g hg => ⟨(hl g hg).1, fun he => (hl g hg).2 (he.trans haddr)⟩)
    (fldIn_eventFlds_of_page ⟨hlo, by omega, by omega⟩)

/-! ### A configuration takes effect -/

theorem bitOf_eq_bits (v i : Nat) : bitOf v i = (bits v i 1 == 1) := rfl

theorem bits_one_eq_b2n (v i : Nat) : bits v i 1 = b2n (bitOf v i) := by
  have h := bits_lt v i 1
  rw [bitOf_eq_bits, b2n]
  split
  · next h1 => exact beq_iff_eq.1 h1
  · next h1 =>
    have h2 : bits v i 1 ≠ 1 := fun he => h1 (beq_iff_eq.2 he)
    omega

/-- Port `n` takes the configuration `v`, which is valid (R199, R213). -/
def State.sapApply (s : State) (n v : Nat) : State := (((s.putSapCfg n v).put (SAP_STAT_STATE n) 0).sapQuiet n).sapArm n

theorem Quiet.sapArm (h : Quiet l s t) (hst : fldIn l (SAP_STAT_STATE n) = true) : Quiet l s (t.sapArm n) :=
  .ite (.ite (h.put hst 1) (h.other rfl rfl rfl rfl)) h

theorem State.sapApply_quiet (s : State) (n v : Nat) : Quiet (sapCfgFlds n ++ [SAP_STAT_STATE n]) s (s.sapApply n v) := by
  have hst : fldIn (sapCfgFlds n ++ [SAP_STAT_STATE n]) (SAP_STAT_STATE n) = true := by simp [fldIn]
  exact (((Quiet.putSapCfg (Quiet.refl _ s) (List.subset_append_left _ _) v).put hst 0).sapQuiet n).sapArm hst

@[simp] theorem State.portHold_sapQuiet (s : State) (n : Nat) : (s.sapQuiet n).portHold = s.portHold := by
  obtain ⟨p, e, h⟩ := s.sapQuiet_eq n
  rw [h]

theorem State.port_edgeNew (s : State) (e : SMap Word) (n : Nat) : State.port { s with edgeNew := e } n = s.port n := rfl

theorem State.beginNext_sapQuiet (s : State) (n : Nat) : ((s.sapQuiet n).port n).beginNext = false := by
  obtain ⟨e, he⟩ := State.foldl_edgeClear (fun i => 32 * n + i) (List.range 32) (s.setPort n
    { Port.reset with rxRamp := (s.port n).rxRamp, txRamp := (s.port n).txRamp, discards := (s.port n).discards
                      discardNow := (s.port n).discardNow, discardFrame := (s.port n).discardFrame })
  rw [State.sapQuiet]
  dsimp only
  rw [he, State.port_edgeNew, State.port_setPort_same]
  rfl

theorem State.portHold_putSapCfg (s : State) (n v : Nat) : (s.putSapCfg n v).portHold = s.portHold := by
  simp only [State.putSapCfg, State.put_portHold]

theorem State.sapApply_shown (s : State) (hn : n < 4) (v : Nat) :
    let u := s.sapApply n v
    let go := bitOf v 0 && !s.on (SAP_STAT_CFG_ERR n) && !s.portHold
    u.get (SAP_STAT_STATE n) = b2n (go && bitOf v 18) ∧ (u.port n).beginNext = (go && !bitOf v 18) ∧
      u.get (SAP_STAT_CFG_ERR n) = s.get (SAP_STAT_CFG_ERR n) ∧ sapImage u n = v % 2 ^ 25 := by
  obtain ⟨hen, hmode, himage⟩ := s.get_putSapCfg n v
  have hkey : Fld.key (SAP_CFG_EN n) ≠ Fld.key (SAP_STAT_STATE n) ∧ Fld.key (SAP_CFG_START_MODE n) ≠ Fld.key (SAP_STAT_STATE n) ∧
      Fld.key (SAP_STAT_CFG_ERR n) ≠ Fld.key (SAP_STAT_STATE n) := by
    simp only [Fld.key, SAP_CFG_EN, SAP_CFG_START_MODE, SAP_STAT_STATE, SAP_STAT_CFG_ERR]
    omega
  obtain ⟨k1, k2, k3⟩ := hkey
  have herr : (s.putSapCfg n v).get (SAP_STAT_CFG_ERR n) = s.get (SAP_STAT_CFG_ERR n) :=
    s.get_putSapCfg_ne v (by simp only [SAP_STAT_CFG_ERR]; omega) (fldIn_eventFlds_of_page (by simp only [SAP_STAT_CFG_ERR]; omega))
  have hq : Quiet [SAP_STAT_STATE n] (s.putSapCfg n v) (s.sapApply n v) :=
    (((Quiet.refl _ _).put (by simp [fldIn]) 0).sapQuiet n).sapArm (by simp [fldIn])
  have himage' : sapImage (s.sapApply n v) n = v % 2 ^ 25 := by
    rw [sapImage_of_quiet hq hn, himage]
    simp [SAP_STAT_STATE]
  have herr' : (s.sapApply n v).get (SAP_STAT_CFG_ERR n) = s.get (SAP_STAT_CFG_ERR n) := by
    rw [hq.get, herr]
    · rw [fldIn_cons_eq_false]
      exact ⟨k3.symm, rfl⟩
    · exact fldIn_eventFlds_of_page (by simp only [SAP_STAT_CFG_ERR]; omega)
  have hquiet (f : Fld) (h : Fld.key f ≠ Fld.key (SAP_STAT_STATE n)) :
      (((s.putSapCfg n v).put (SAP_STAT_STATE n) 0).sapQuiet n).get f = (s.putSapCfg n v).get f := by
    rw [State.get_sapQuiet, State.get_put_ne _ _ h]
  have hzero : (((s.putSapCfg n v).put (SAP_STAT_STATE n) 0).sapQuiet n).get (SAP_STAT_STATE n) = 0 := by
    rw [State.get_sapQuiet, State.get_put_same]
    rfl
  have hnext := ((s.putSapCfg n v).put (SAP_STAT_STATE n) 0).beginNext_sapQuiet n
  have hhold : (((s.putSapCfg n v).put (SAP_STAT_STATE n) 0).sapQuiet n).portHold = s.portHold := by
    rw [State.portHold_sapQuiet, State.put_portHold, State.portHold_putSapCfg]
  refine ⟨?_, ?_, herr', himage'⟩ <;>
    simp only [State.sapApply, State.sapArm, State.on, hquiet _ k1, hquiet _ k2, hquiet _ k3, hhold, hen, hmode, herr, bitOf_eq_bits] <;>
    generalize ((s.putSapCfg n v).put (SAP_STAT_STATE n) 0).sapQuiet n = t at *
  · split_ifs with hgo hms
    · rw [State.get_put_same, hgo, hms]
      rfl
    · rw [State.get_setPort, hzero, hgo, Bool.eq_false_of_not_eq_true hms]
      rfl
    · rw [hzero, Bool.eq_false_of_not_eq_true hgo]
      rfl
  · split_ifs with hgo hms
    · rw [State.port, State.put_ports, ← State.port, hnext, hgo, hms]
      rfl
    · rw [State.port_setPort_same, hgo, Bool.eq_false_of_not_eq_true hms]
      rfl
    · rw [hnext, Bool.eq_false_of_not_eq_true hgo]
      rfl

/-! ### A write of SAP_CFG -/

/-- The fields that a write of SAP_CFG of port `n` may change. -/
def sapWriteFlds (n : Nat) : List Fld := sapCfgFlds n ++ [SAP_STAT_STATE n, SAP_STAT_CFG_ERR n, SAP_SUM_CFG_ERR]

theorem sapWriteFlds_mem (n : Nat) : fldIn (sapWriteFlds n) (SAP_STAT_STATE n) = true ∧ fldIn (sapWriteFlds n) (SAP_STAT_CFG_ERR n) = true ∧
    fldIn (sapWriteFlds n) SAP_SUM_CFG_ERR = true := by
  simp [sapWriteFlds, fldIn]

theorem sapCfgWrite_bad (hn : n < 4) {v : Nat} (hbad : s.sapBad n v = true) :
    let u := sapCfgWrite n v s
    u.get (SAP_STAT_CFG_ERR n) = 1 ∧ u.get (SAP_STAT_STATE n) = 0 ∧ u.get SAP_SUM_CFG_ERR = 1 ∧ 0x0506 ∈ u.occ ∧
      sapImage u n = v % 2 ^ 25 ∧ Quiet (sapWriteFlds n) s u := by
  obtain ⟨h1, h2, h3, h4⟩ := (s.putSapCfg n v).sapReject_shown hn v
  obtain ⟨m1, m2, m3⟩ := sapWriteFlds_mem n
  dsimp only
  rw [sapCfgWrite, if_pos hbad]
  refine ⟨h1, h2, h3, h4, ?_, ((Quiet.refl _ s).putSapCfg (List.subset_append_left _ _) v).sapReject m2 m1 m3 v⟩
  have hq : Quiet (sapErrFlds n) (s.putSapCfg n v) ((s.putSapCfg n v).sapReject n v) :=
    (Quiet.refl _ _).sapReject (by simp [fldIn, sapErrFlds]) (by simp [fldIn, sapErrFlds]) (by simp [fldIn, sapErrFlds]) v
  rw [sapImage_of_quiet hq hn, (s.get_putSapCfg n v).2.2]
  simp [sapErrFlds, SAP_STAT_STATE, SAP_STAT_CFG_ERR, SAP_SUM_CFG_ERR]
  omega

theorem State.get_put_cfgErr_state (s : State) (n v : Nat) :
    (s.put (SAP_STAT_CFG_ERR n) v).get (SAP_STAT_STATE n) = s.get (SAP_STAT_STATE n) := by
  refine State.get_put_ne _ _ ?_
  simp only [Fld.key, SAP_STAT_STATE, SAP_STAT_CFG_ERR]
  omega

/-- R213: a running port keeps its configuration to the boundary at which it stops. -/
theorem sapCfgWrite_waits (hn : n < 4) {v : Nat} (hgood : s.sapBad n v = false) (hrun : 3 ≤ s.get (SAP_STAT_STATE n)) :
    let u := sapCfgWrite n v s
    u.get (SAP_STAT_CFG_ERR n) = 0 ∧ u.get (SAP_STAT_STATE n) = s.get (SAP_STAT_STATE n) ∧ sapImage u n = sapImage s n ∧
      u.port n = { s.port n with pendCfg := some (v % 2 ^ 25) } ∧ Quiet [SAP_STAT_CFG_ERR n] s u ∧
      (u.portBoundary n).get (SAP_STAT_STATE n) = (if bitOf v 0 && bitOf v 18 && !s.portHold then 1 else 0) ∧
      sapImage (u.portBoundary n) n = v % 2 ^ 25 := by
  have heq : sapCfgWrite n v s =
      (s.put (SAP_STAT_CFG_ERR n) 0).setPort n { s.port n with pendCfg := some (sapFields v) } := by
    rw [sapCfgWrite, if_neg (by rw [hgood]; decide)]
    dsimp only
    rw [if_pos (by rw [State.sapState, State.get_put_cfgErr_state]; exact hrun)]
    rfl
  have hq : Quiet [SAP_STAT_CFG_ERR n] s (sapCfgWrite n v s) := by
    rw [heq]
    exact ((Quiet.refl _ s).put (f := SAP_STAT_CFG_ERR n) (by simp [fldIn]) 0).other rfl rfl rfl rfl
  have hport : (sapCfgWrite n v s).port n = { s.port n with pendCfg := some (v % 2 ^ 25) } := by
    rw [heq, State.port_setPort_same]
    rfl
  have herr : (sapCfgWrite n v s).get (SAP_STAT_CFG_ERR n) = 0 := by
    rw [heq, State.get_setPort, State.get_put_same, Nat.zero_mod]
  have hhold : (sapCfgWrite n v s).portHold = s.portHold := by
    rw [heq]
    rfl
  have hbound : (sapCfgWrite n v s).portBoundary n = (sapCfgWrite n v s).sapApply n (v % 2 ^ 25) := by
    rw [State.portBoundary, hport]
    rfl
  obtain ⟨happ, -, -, happly⟩ := (sapCfgWrite n v s).sapApply_shown hn (v % 2 ^ 25)
  refine ⟨herr, ?_, sapImage_of_quiet hq hn (by simp [SAP_STAT_CFG_ERR]), hport, hq, ?_, ?_⟩
  · rw [heq, State.get_setPort, State.get_put_cfgErr_state]
  · rw [hbound, happ, State.on, herr, hhold, bitOf_mod _ (by decide), bitOf_mod _ (by decide)]
    cases bitOf v 0 <;> cases bitOf v 18 <;> cases s.portHold <;> rfl
  · rw [hbound, happly, Nat.mod_mod]

/-- R199, R213: a port that does not run takes the configuration at once. -/
theorem sapCfgWrite_applies (hn : n < 4) {v : Nat} (hgood : s.sapBad n v = false) (hrun : s.get (SAP_STAT_STATE n) < 3)
    (hen : bitOf v 0 = true) (hhold : s.portHold = false) :
    let u := sapCfgWrite n v s
    u.get (SAP_STAT_CFG_ERR n) = 0 ∧ u.get (SAP_STAT_STATE n) = bits v 18 1 ∧ (u.port n).beginNext = !bitOf v 18 ∧
      sapImage u n = v % 2 ^ 25 ∧ Quiet (sapWriteFlds n) s u := by
  have heq : sapCfgWrite n v s = (s.put (SAP_STAT_CFG_ERR n) 0).sapApply n v := by
    rw [sapCfgWrite, if_neg (by rw [hgood]; decide)]
    dsimp only
    rw [if_neg (by rw [State.sapState, State.get_put_cfgErr_state]; omega)]
    rfl
  obtain ⟨hstate, hnext, herr, himage⟩ := (s.put (SAP_STAT_CFG_ERR n) 0).sapApply_shown hn v
  have hzero : (s.put (SAP_STAT_CFG_ERR n) 0).get (SAP_STAT_CFG_ERR n) = 0 := by rw [State.get_put_same, Nat.zero_mod]
  dsimp only
  rw [heq]
  refine ⟨herr.trans hzero, ?_, ?_, himage, ?_⟩
  · rw [hstate, State.on, hzero, State.put_portHold, hen, hhold, bits_one_eq_b2n]
    rfl
  · rw [hnext, State.on, hzero, State.put_portHold, hen, hhold]
    rfl
  · exact ((Quiet.refl _ s).put (sapWriteFlds_mem n).2.1 0).trans
      ((State.sapApply_quiet _ n v).of_subset (by simp [sapWriteFlds]))

theorem sapMuteWrite_spec (s : State) (n v : Nat) :
    let u := sapMuteWrite n v s
    u.get (SAP_MUTE_TX_MUTE n) = bits v 0 1 ∧ u.get (SAP_MUTE_RX_MUTE n) = bits v 1 1 ∧
      Quiet [SAP_MUTE_TX_MUTE n, SAP_MUTE_RX_MUTE n] s u := by
  have hkey : Fld.key (SAP_MUTE_TX_MUTE n) ≠ Fld.key (SAP_MUTE_RX_MUTE n) := by
    simp only [Fld.key, SAP_MUTE_TX_MUTE, SAP_MUTE_RX_MUTE]
    omega
  refine ⟨?_, State.get_put_of_lt _ (bits_lt v 1 1), ((Quiet.refl _ s).put (by simp [fldIn]) _).put (by simp [fldIn]) _⟩
  rw [sapMuteWrite, State.get_put_ne _ _ hkey]
  exact State.get_put_of_lt _ (bits_lt v 0 1)

/-! ### Mute ramps -/

/-- R195: a ramp to mute is complete, or a release is. -/
theorem portMuteRampEnd_spec (s : State) (n : Nat) :
    (s.on (SAP_MUTE_TX_MUTE n) = true → s.rampTicks (s.sapDom n) ≤ (s.port n).txRamp →
      portMuteRampEnd n true s = s.put (SAP_STAT_TX_MUTED n) 1) ∧
    (s.on (SAP_MUTE_TX_MUTE n) = false → s.forcedMute = false → portMuteRampEnd n true s = s.put (SAP_STAT_TX_MUTED n) 0) ∧
    (s.on (SAP_MUTE_RX_MUTE n) = true → s.rampTicks (s.sapDom n) ≤ (s.port n).rxRamp →
      portMuteRampEnd n false s = s.put (SAP_STAT_RX_MUTED n) 1) ∧
    (s.on (SAP_MUTE_RX_MUTE n) = false → portMuteRampEnd n false s = s.put (SAP_STAT_RX_MUTED n) 0) := by
  refine ⟨fun h hl => ?_, fun h hf => ?_, fun h hl => ?_, fun h => ?_⟩
  · simp [portMuteRampEnd, h, hl]
  · simp [portMuteRampEnd, h, hf]
  · simp [portMuteRampEnd, h, hl]
  · simp [portMuteRampEnd, h]

/-- A write of one field, as a statement about it. -/
theorem put_spec (s : State) {f : Fld} {v : Nat} (hv : v < 2 ^ f.width) : (s.put f v).get f = v ∧ Quiet [f] s (s.put f v) :=
  ⟨State.get_put_of_lt _ hv, (Quiet.refl _ s).put (by simp [fldIn]) v⟩

/-! ### A frame is received -/

theorem State.rxCell_setPort (s : State) (n : Nat) (p : Port) (m i : Nat) (din : List Bool) :
    (s.setPort n p).rxCell m i din = s.rxCell m i din := rfl

theorem State.setPort_setPort (s : State) (n : Nat) (p q : Port) : ((s.setPort n p).setPort n q).port n = q := State.port_setPort_same _ _ _

/-- R189 to R192: a frame of a running port without ALIGN, whose predecessor has been taken. -/
theorem sapRxFrame_taken {din : List Bool} (hs : s.get (SAP_STAT_STATE n) = 3) (hdue : (s.port n).rxDue = true)
    (halign : s.on (SAP_CFG_ALIGN n) = false) (hnew : (s.port n).rxNew = none) :
    let u := sapRxFrame n din s
    u.port n = { s.port n with
      rxDue := false, slip := false
      rxNew := some ((List.range (s.get (SAP_CFG_SLOTS n) + 1)).map (fun i =>
        if (s.port n).slip then repeatFill s.tag (mapFind (s.port n).rxLast i) else s.rxCell n i din)) } ∧ Quiet [] s u := by
  have halign' : (s.setPort n { s.port n with rxDue := false, slip := false }).on (SAP_CFG_ALIGN n) = false := halign
  have heq : sapRxFrame n din s = (s.setPort n { s.port n with rxDue := false, slip := false }).setPort n { s.port n with
      rxDue := false, slip := false
      rxNew := some ((List.range (s.get (SAP_CFG_SLOTS n) + 1)).map (fun i =>
        if (s.port n).slip then repeatFill s.tag (mapFind (s.port n).rxLast i) else s.rxCell n i din)) } := by
    rw [sapRxFrame, if_neg (by rw [State.sapState, hs, hdue]; simp)]
    dsimp only
    rw [if_neg (by rw [halign']; decide), State.port_setPort_same, hnew]
    rfl
  dsimp only
  rw [heq]
  exact ⟨State.port_setPort_same _ _ _, Quiet.other (Quiet.other (Quiet.refl _ s) rfl rfl rfl rfl) rfl rfl rfl rfl⟩

/-- R192: a frame that finds the one before it not yet taken is discarded. -/
theorem sapRxFrame_discarded (hn : n < 4) {din : List Bool} (hs : s.get (SAP_STAT_STATE n) = 3) (hdue : (s.port n).rxDue = true)
    (halign : s.on (SAP_CFG_ALIGN n) = false) (hnew : (s.port n).rxNew.isSome = true) (hgot : (s.port n).rxGot = true) :
    let u := sapRxFrame n din s
    u.port n = { s.port n with rxDue := false, slip := false } ∧
      u.get (SAP_CNT_RX_OVR n) = satNat 16 (s.get (SAP_CNT_RX_OVR n) + 1) ∧ u.bit SAP_SUM_RX_OVR n = true ∧
      Quiet [SAP_CNT_RX_OVR n, SAP_SUM_RX_OVR] s u := by
  have halign' : (s.setPort n { s.port n with rxDue := false, slip := false }).on (SAP_CFG_ALIGN n) = false := halign
  have heq : sapRxFrame n din s =
      ((s.setPort n { s.port n with rxDue := false, slip := false }).bump (SAP_CNT_RX_OVR n)).setBit SAP_SUM_RX_OVR n := by
    rw [sapRxFrame, if_neg (by rw [State.sapState, hs, hdue]; simp)]
    dsimp only
    rw [if_neg (by rw [halign']; decide), State.port_setPort_same, hnew, hgot]
    rfl
  have hkey : Fld.key (SAP_CNT_RX_OVR n) ≠ Fld.key SAP_SUM_RX_OVR := by
    simp only [Fld.key, SAP_CNT_RX_OVR, SAP_SUM_RX_OVR]
    omega
  dsimp only
  rw [heq]
  refine ⟨?_, ?_, State.bit_setBit_same _ hn, ?_⟩
  · rw [State.setBit_eq, State.bump_eq, State.port, State.put_ports, State.put_ports, ← State.port, State.port_setPort_same]
  · rw [State.get_setBit_ne _ _ hkey, State.get_bump_same]
    rfl
  · refine Quiet.setBit (Quiet.bump (Quiet.other (Quiet.refl _ s) rfl rfl rfl rfl) ?_) ?_ n
    all_goals simp [fldIn]

/-! ### A frame is sent -/

theorem State.sapSend_eq (s : State) (n : Nat) (d : List (Option Bool)) :
    ∃ p : Port, s.sapSend n d = s.setPort n p ∧ p.txSent = (s.port n).txSent ∧ p.txNew = (s.port n).txNew ∧
      p.txRun = (s.port n).txRun ∧ p.rxDue = (s.port n).rxDue ∧
      p.line.dout = ((((s.port n).carry ++ List.replicate (s.dataDelay n) (some false)).take (s.dataDelay n)) ++ d).take (s.frameBits n) :=
  ⟨_, rfl, rfl, rfl, rfl, rfl, rfl⟩

theorem State.dataDelay_setPort (s : State) (n : Nat) (p : Port) : (s.setPort n p).dataDelay n = s.dataDelay n := rfl

theorem State.frameBits_setPort (s : State) (n : Nat) (p : Port) : (s.setPort n p).frameBits n = s.frameBits n := rfl

/-- R193: a frame that sends the newest values, because they are new or the frame is the first. -/
theorem State.sapRunFrame_values (s : State) (n : Nat) (first : Bool) (h : ((s.port n).txNew || first) = true) :
    let u := s.sapRunFrame n first
    (u.port n).txSent = (s.port n).txVal ∧ (u.port n).txNew = false ∧ (u.port n).txRun = false ∧ (u.port n).rxDue = true ∧
      (u.port n).line.dout = ((((s.port n).carry ++ List.replicate (s.dataDelay n) (some false)).take (s.dataDelay n)) ++
        (List.range (s.get (SAP_CFG_SLOTS n) + 1)).flatMap (fun i => s.slotLine n i (mapFind (s.port n).txVal i))).take (s.frameBits n) ∧
      Quiet [] s u ∧ ∀ f, u.get f = s.get f := by
  have heq : s.sapRunFrame n first = (s.setPort n { s.port n with
      txNew := false, txRun := false, rxDue := true, txSent := (s.port n).txVal }).sapSend n
        ((List.range (s.get (SAP_CFG_SLOTS n) + 1)).flatMap (fun i => s.slotLine n i (mapFind (s.port n).txVal i))) := by
    rw [State.sapRunFrame]
    exact if_pos h
  obtain ⟨p, hp, h1, h2, h3, h4, h5⟩ := (s.setPort n { s.port n with
      txNew := false, txRun := false, rxDue := true, txSent := (s.port n).txVal }).sapSend_eq n
        ((List.range (s.get (SAP_CFG_SLOTS n) + 1)).flatMap (fun i => s.slotLine n i (mapFind (s.port n).txVal i)))
  rw [State.port_setPort_same] at h1 h2 h3 h4 h5
  dsimp only
  rw [heq, hp]
  rw [State.port_setPort_same]
  exact ⟨h1, h2, h3, h4, h5, Quiet.other (Quiet.other (Quiet.refl _ s) rfl rfl rfl rfl) rfl rfl rfl rfl, fun f => rfl⟩

/-- The fills of a frame that has no new values: of every slot up to the last (R193). -/
theorem mapFind_foldl_insert (g : Nat → Word) (k : Nat) (m : SMap Word) {i : Nat} (hi : i < k) :
    mapFind ((List.range k).foldl (fun m i => mapInsert m i (g i)) m) i = some (g i) := by
  induction k with
  | zero => omega
  | succ k ih =>
    rw [List.range_succ, List.foldl_append, List.foldl_cons, List.foldl_nil, mapFind_insert]
    split
    · next h => rw [h]
    · next h => exact ih (by omega)

theorem Quiet.followerSlip {m : Nat} (h : Quiet l s t) (hcnt : fldIn l (CLK_MON_CNT_SLIPS m) = true) (hsum : fldIn l CLK_EVT_SUM_SLIP = true) :
    Quiet l s (t.followerSlip m) :=
  .ite ((h.bump hcnt).setBit hsum m) h

@[simp] theorem State.ports_followerSlip (s : State) (m : Nat) : (s.followerSlip m).ports = s.ports := by
  unfold State.followerSlip State.countSlip
  split
  · rw [State.setBit_eq, State.bump_eq, State.put_ports, State.put_ports]
  · rfl

/-- The state in which an underrun of port `n` is counted and posted (R193, R198). -/
def State.underrun (s : State) (n : Nat) : State :=
  (((s.bump (SAP_CNT_TX_UNR n)).setBit SAP_SUM_TX_UNR n).followerSlip n).post 0x0502 sevWarn (pack [p16 n, p32
    (((s.bump (SAP_CNT_TX_UNR n)).setBit SAP_SUM_TX_UNR n).followerSlip n).frame])

theorem State.port_underrun (s : State) (n m : Nat) : (s.underrun n).port m = s.port m := by
  rw [State.underrun, State.port, State.post_ports, State.ports_followerSlip, State.setBit_eq, State.bump_eq, State.put_ports,
    State.put_ports, State.port]

theorem State.underrun_shown (s : State) (hn : n < 4) :
    (s.underrun n).get (SAP_CNT_TX_UNR n) = satNat 16 (s.get (SAP_CNT_TX_UNR n) + 1) ∧ (s.underrun n).bit SAP_SUM_TX_UNR n = true ∧
      0x0502 ∈ (s.underrun n).occ ∧ Quiet [SAP_CNT_TX_UNR n, SAP_SUM_TX_UNR, CLK_MON_CNT_SLIPS n, CLK_EVT_SUM_SLIP] s (s.underrun n) := by
  have hev : fldIn eventFlds (SAP_CNT_TX_UNR n) = false := fldIn_eventFlds_of_page (by simp only [SAP_CNT_TX_UNR]; omega)
  have hkey : Fld.key (SAP_CNT_TX_UNR n) ≠ Fld.key SAP_SUM_TX_UNR := by
    simp only [Fld.key, SAP_CNT_TX_UNR, SAP_SUM_TX_UNR]
    omega
  have hslip : ∀ {t : State} {f : Fld}, fldIn eventFlds f = false → f.lo < 64 ∧ f.addr / 4096 = 0xE05 →
      (t.followerSlip n).get f = t.get f := by
    rintro t f hf ⟨hlo, hpage⟩
    refine ((Quiet.refl [CLK_MON_CNT_SLIPS n, CLK_EVT_SUM_SLIP] t).followerSlip (by simp [fldIn]) (by simp [fldIn])).get
      (fldIn_eq_false_of_addr hlo ?_) hf
    simp only [List.forall_mem_cons, CLK_MON_CNT_SLIPS, CLK_EVT_SUM_SLIP, List.not_mem_nil, false_imp_iff, implies_true, and_true]
    omega
  unfold State.underrun
  refine ⟨?_, ?_, ?_, ?_⟩
  · rw [State.get_post hev, hslip hev (by simp only [SAP_CNT_TX_UNR]; omega), State.get_setBit_ne _ _ hkey, State.get_bump_same]
    rfl
  · rw [State.bit, State.get_post (by decide), hslip (by decide) (by decide), ← State.bit]
    exact State.bit_setBit_same _ hn
  · rw [State.post_occ _ _ _ (by decide)]
    exact List.mem_append_right _ (List.mem_singleton.2 rfl)
  · refine Quiet.post (Quiet.followerSlip (Quiet.setBit (Quiet.bump (Quiet.refl _ s) ?_) ?_ n) ?_ ?_) _ _ _
    all_goals simp [fldIn]

/-- R193: a frame that has no new values sends fills; the first of a run is posted. -/
theorem State.sapRunFrame_fills (s : State) (hn : n < 4) (hnew : (s.port n).txNew = false) (hrun : (s.port n).txRun = false) :
    let u := s.sapRunFrame n false
    u.get (SAP_CNT_TX_UNR n) = satNat 16 (s.get (SAP_CNT_TX_UNR n) + 1) ∧ u.bit SAP_SUM_TX_UNR n = true ∧ (u.port n).txRun = true ∧
      (∀ i : Nat, i ≤ s.get (SAP_CFG_SLOTS n) → mapFind (u.port n).txSent i = some (repeatFill s.tag (mapFind (s.port n).txSent i))) ∧
      0x0502 ∈ u.occ ∧ Quiet [SAP_CNT_TX_UNR n, SAP_SUM_TX_UNR, CLK_MON_CNT_SLIPS n, CLK_EVT_SUM_SLIP] s u := by
  obtain ⟨h1, h2, h3, h4⟩ := s.underrun_shown hn
  have heq : ∃ d, s.sapRunFrame n false = ((s.underrun n).setPort n { s.port n with
      txRun := true, rxDue := true
      txSent := (List.range (s.get (SAP_CFG_SLOTS n) + 1)).foldl (fun m i => mapInsert m i (repeatFill s.tag (mapFind (s.port n).txSent i)))
        [] }).sapSend n d := by
    refine ⟨(List.range (s.get (SAP_CFG_SLOTS n) + 1)).flatMap (fun i => (s.underrun n).slotLine n i (mapFind
      ((List.range (s.get (SAP_CFG_SLOTS n) + 1)).foldl (fun m i => mapInsert m i (repeatFill s.tag (mapFind (s.port n).txSent i)))
        []) i)), ?_⟩
    rw [State.sapRunFrame]
    dsimp only
    rw [if_neg (by rw [hnew]; decide), if_neg (by rw [hrun]; decide)]
    have hport := s.port_underrun n n
    unfold State.underrun at hport ⊢
    rw [hport]
    rfl
  obtain ⟨d, heq⟩ := heq
  generalize s.underrun n = t at *
  obtain ⟨p, hp, k1, k2, k3, k4, -⟩ := (t.setPort n { s.port n with
      txRun := true, rxDue := true
      txSent := (List.range (s.get (SAP_CFG_SLOTS n) + 1)).foldl (fun m i => mapInsert m i (repeatFill s.tag (mapFind (s.port n).txSent i)))
        [] }).sapSend_eq n d
  rw [State.port_setPort_same] at k1 k2 k3 k4
  dsimp only
  rw [heq, hp]
  rw [State.port_setPort_same]
  refine ⟨h1, h2, k3, fun i hi => ?_, h3, Quiet.other (Quiet.other h4 rfl rfl rfl rfl) rfl rfl rfl rfl⟩
  rw [k1]
  exact mapFind_foldl_insert (fun i => repeatFill s.tag (mapFind (s.port n).txSent i)) _ _ (by omega)

theorem sapTxFrame_target (hrole : s.on (SAP_CFG_ROLE n) = false) (hen : s.on (SAP_CFG_EN n) = true) (hawake : s.awake = true) :
    (s.get (SAP_STAT_STATE n) = 3 → sapTxFrame n s = s.sapRunFrame n false) ∧
    (s.get (SAP_STAT_STATE n) = 2 → sapTxFrame n s =
      ((s.put (SAP_STAT_STATE n) 3).put (SAP_STAT_START_FRAME n) s.frame).sapRunFrame n true) := by
  constructor
  all_goals
    intro hs
    rw [sapTxFrame, hrole, if_neg (by decide), State.sapFrameStart]
    dsimp only
    rw [if_neg (by rw [hen, hawake]; decide), State.sapState, hs]
    rfl

/-- R194, R202: a target port that waits begins with the frame. -/
theorem sapTxFrame_begins (hrole : s.on (SAP_CFG_ROLE n) = false) (hen : s.on (SAP_CFG_EN n) = true) (hawake : s.awake = true)
    (hs : s.get (SAP_STAT_STATE n) = 2) (hframe : s.frame < 2 ^ 32) :
    let u := sapTxFrame n s
    u.get (SAP_STAT_STATE n) = 3 ∧ u.get (SAP_STAT_START_FRAME n) = s.frame ∧ (u.port n).txSent = (s.port n).txVal ∧
      Quiet [SAP_STAT_STATE n, SAP_STAT_START_FRAME n] s u := by
  have hkey : Fld.key (SAP_STAT_STATE n) ≠ Fld.key (SAP_STAT_START_FRAME n) := by
    simp only [Fld.key, SAP_STAT_STATE, SAP_STAT_START_FRAME]
    omega
  obtain ⟨h1, -, -, -, -, h2, h3⟩ :=
    ((s.put (SAP_STAT_STATE n) 3).put (SAP_STAT_START_FRAME n) s.frame).sapRunFrame_values n true (Bool.or_true _)
  dsimp only
  rw [(sapTxFrame_target hrole hen hawake).2 hs, h3, h3]
  refine ⟨?_, State.get_put_of_lt _ hframe, h1, ?_⟩
  · rw [State.get_put_ne _ _ hkey, State.get_put_same]
    rfl
  · exact (((Quiet.refl _ s).put (by simp [fldIn]) 3).put (by simp [fldIn]) _).trans (h2.of_subset (by simp))

/-- Settles O9: the configuration's writes, the mute ramps and the frames, each by its lemmas above. -/
theorem serialPortsConfigureAndMoveFrames : Obligations.SerialPortsConfigureAndMoveFrames := by
  unfold Obligations.SerialPortsConfigureAndMoveFrames
  refine ⟨fun s p v => ⟨fun hbad => ⟨_, rfl, sapCfgWrite_bad p.isLt hbad⟩, fun hgood hrun => ⟨_, rfl, sapCfgWrite_waits p.isLt hgood hrun⟩,
    fun hgood hrun hen hhold => ⟨_, rfl, sapCfgWrite_applies p.isLt hgood hrun hen hhold⟩, ⟨_, rfl, sapMuteWrite_spec s p v.toNat⟩⟩,
    fun s p => ?_⟩
  obtain ⟨m1, m2, m3, m4⟩ := portMuteRampEnd_spec s p
  refine ⟨fun h hl => ⟨_, rfl, ?_⟩, fun h hf => ⟨_, rfl, ?_⟩, fun h hl => ⟨_, rfl, ?_⟩, fun h => ⟨_, rfl, ?_⟩,
    fun din hs hdue hslip halign hnew => ⟨_, rfl, ?_⟩, fun din hs hdue hslip halign hnew => ⟨_, rfl, ?_⟩,
    fun din hs hdue halign hnew hgot => ⟨_, rfl, sapRxFrame_discarded p.isLt hs hdue halign hnew hgot⟩, fun h => ⟨_, rfl, if_pos h⟩,
    fun ⟨hrole, hen, hawake⟩ hs hnew => ⟨_, rfl, ?_⟩, fun ⟨hrole, hen, hawake⟩ hs hnew hrun => ⟨_, rfl, ?_⟩,
    fun ⟨hrole, hen, hawake⟩ hs hframe => ⟨_, rfl, sapTxFrame_begins hrole hen hawake hs hframe⟩⟩
  · rw [m1 h hl]
    exact put_spec s (show 1 < 2 ^ 1 by decide)
  · rw [m2 h hf]
    exact put_spec s (show 0 < 2 ^ 1 by decide)
  · rw [m3 h hl]
    exact put_spec s (show 1 < 2 ^ 1 by decide)
  · rw [m4 h]
    exact put_spec s (show 0 < 2 ^ 1 by decide)
  · have hframe := sapRxFrame_taken (din := din) hs hdue halign hnew
    rw [hslip] at hframe
    obtain ⟨hport, hquiet⟩ := hframe
    exact ⟨hport.trans (by simp [hslip]), hquiet⟩
  · have hframe := sapRxFrame_taken (din := din) hs hdue halign hnew
    rw [hslip] at hframe
    exact hframe
  · obtain ⟨h1, h2, h3, h4, h5, h6, -⟩ := s.sapRunFrame_values p false (by rw [hnew]; rfl)
    rw [(sapTxFrame_target hrole hen hawake).1 hs]
    exact ⟨h1, h2, h3, h4, h5, h6⟩
  · rw [(sapTxFrame_target hrole hen hawake).1 hs]
    exact s.sapRunFrame_fills p.isLt hnew hrun

end Sys2Proof.Machine
end

section
/-! The command rings: a command is taken up at HEAD (R353, R359), completes (R354, R372), or is in execution. -/

namespace Sys2Proof.Machine

variable {l : List Fld} {s t : State} {r : Nat} {ws : List Nat}

theorem satNat_lt (n v : Nat) : satNat n v < 2 ^ n := by
  have := Nat.two_pow_pos n
  unfold satNat
  omega

/-! ### What a ring's registers depend on -/

/-- The field is no part of a ring's configuration and pointers. -/
def ApartFromRings (g : Fld) : Prop := g.lo < 64 ∧ (g.addr < 0xE03000 ∨ 0xE03800 ≤ g.addr ∨ g.addr % 32 = 24)

/-- A field of ring `c`'s configuration or pointers. -/
theorem Quiet.get_ring (h : Quiet l s t) (hl : ∀ g ∈ l, ApartFromRings g) {f : Fld}
    (hf : f.lo < 64 ∧ 0xE03000 ≤ f.addr ∧ f.addr < 0xE03800 ∧ f.addr % 32 ≠ 24) : t.get f = s.get f := by
  obtain ⟨hlo, h1, h2, h3⟩ := hf
  refine h.get (fldIn_eq_false_of_addr hlo fun g hg => ?_) (fldIn_eventFlds_of_page ⟨hlo, by omega, by omega⟩)
  obtain ⟨h4, h5⟩ := hl g hg
  exact ⟨h4, fun he => by omega⟩

/-- Whether the completion ring has space depends on the rings' configuration and pointers alone (R354). -/
theorem cplFull_of_quiet (h : Quiet l s t) (hl : ∀ g ∈ l, ApartFromRings g) (hr : r < 64) : t.cplFull r = s.cplFull r := by
  have hget {f : Fld} (hf : f.lo < 64 ∧ 0xE03000 ≤ f.addr ∧ f.addr < 0xE03800 ∧ f.addr % 32 ≠ 24) : t.get f = s.get f :=
    h.get_ring hl hf
  have hc : t.cplRing r = s.cplRing r := by
    rw [State.cplRing, hget (by simp only [RING_CFG_CPL_RING]; omega), State.cplRing]
  have hlt : s.cplRing r < 64 := Nat.mod_lt _ (by decide)
  unfold State.cplFull State.ringIs State.ringSize State.ringLevel State.on
  rw [hc]
  generalize s.cplRing r = c at hlt ⊢
  dsimp only
  rw [hget (f := RING_CFG_EN c), hget (f := RING_CFG_KIND c), hget (f := RING_CFG_SIZE c), hget (f := RING_TAIL_TAIL c),
    hget (f := RING_HEAD_HEAD c)]
  all_goals
    simp only [RING_CFG_EN, RING_CFG_KIND, RING_CFG_SIZE, RING_TAIL_TAIL, RING_HEAD_HEAD]
    omega

theorem cplWords_congr (h : t.frame = s.frame) (r seq opc st res : Nat) (b : Bool) :
    cplWords t r seq opc st res b = cplWords s r seq opc st res b := by
  unfold cplWords
  rw [h]

/-! ### A completion -/

/-- An event leaves a ring's state alone, whatever the ring's number. -/
theorem get_ringState_post (t : State) (r c v p : Nat) :
    (t.post c v p).get (RING_STAT_STATE r) = t.get (RING_STAT_STATE r) := by
  refine State.get_post ?_
  rw [fldIn, List.any_eq_false]
  intro g hg
  rw [beq_iff_eq]
  simp only [eventFlds, List.mem_cons, List.not_mem_nil, or_false] at hg
  rcases hg with rfl | rfl | rfl | rfl | rfl | rfl | rfl
  all_goals
    simp only [Fld.key, RING_STAT_STATE, NVS_STAT_BUF_LEVEL, NVS_STAT_FLUSHING, NVS_CNT_REPEATS, NVS_CNT_DROPPED, NVS_SUM_LOST,
      TWB_ALERT_STAT_SRC, TWB_STAT_ANSWERED]
    omega

theorem State.afterCpl_shown (t : State) (r : Nat) (w : Nat × Nat) :
    mapFind ((t.afterCpl r w).ring r).hist (w.1 % 65536) = some (bits w.1 24 8) ∧
      (t.afterCpl r w).get (RING_STAT_STATE r) = if halts (bits w.1 24 8) then 3 else 1 := by
  have hkey : Fld.key (RING_STAT_STATE r) ≠ Fld.key (RING_STAT_HALT_SEQ r) ∧
      Fld.key (RING_STAT_STATE r) ≠ Fld.key (RING_STAT_HALT_STATUS r) := by
    simp only [Fld.key, RING_STAT_STATE, RING_STAT_HALT_SEQ, RING_STAT_HALT_STATUS]
    omega
  unfold State.afterCpl
  extract_lets +onlyGivenNames w0 seq status h q nw done x y
  have hring : y.ring r = x.ring r := by
    unfold y
    split <;> rfl
  have hhist : mapFind (y.ring r).hist seq = some status := by
    rw [hring, State.ring_setRing_same]
    exact mapFind_insert_same _ _ _
  clear_value y
  split_ifs with hh
  · refine ⟨?_, ?_⟩
    · rw [State.ring_post, State.ring_put, State.ring_put, State.ring_put]
      exact hhist
    · rw [get_ringState_post, State.get_put_ne _ _ hkey.2, State.get_put_ne _ _ hkey.1, State.get_put_same]
      rfl
  · refine ⟨?_, ?_⟩
    · rw [State.ring_put, State.setHead, State.showLevel, State.ring_put, State.ring_put]
      exact hhist
    · rw [State.get_put_same]
      rfl

theorem cplWords_status (t : State) (r seq opc st res : Nat) (b : Bool) (hst : st < 256) :
    bits (cplWords t r seq opc st res b).1 24 8 = st ∧ (cplWords t r seq opc st res b).1 % 65536 = seq % 65536 := by
  have hb : b2n b < 2 := by cases b <;> decide
  simp only [cplWords, bits, Nat.shiftRight_eq_div_pow]
  omega

/-- R354, R359, R372: what a completion does, with and without space for it. -/
theorem State.complete_shown (t : State) (r seq opc : Nat) {st : Nat} (res : Nat) (hst : st < 256) :
    if t.cplFull r then (t.complete r seq opc st res).get (RING_STAT_STATE r) = 4 ∧
      ((t.complete r seq opc st res).ring r).waiting = some (cplWords t r seq opc st res (t.ring r).retrySeq.isSome)
    else mapFind ((t.complete r seq opc st res).ring r).hist (seq % 65536) = some st ∧
      (t.complete r seq opc st res).get (RING_STAT_STATE r) = if halts st then 3 else 1 := by
  unfold State.complete
  dsimp only
  by_cases hfull : t.cplFull r = true
  · rw [if_pos hfull, if_pos hfull]
    refine ⟨?_, ?_⟩
    · rw [State.get_put_same]
      rfl
    · rw [State.ring_put, State.ring_setRing_same]
  · rw [if_neg hfull, if_neg hfull]
    obtain ⟨h1, h2⟩ := cplWords_status t r seq opc st res (t.ring r).retrySeq.isSome hst
    obtain ⟨h3, h4⟩ := (t.ringPush (t.cplRing r) [(cplWords t r seq opc st res (t.ring r).retrySeq.isSome).1,
      (cplWords t r seq opc st res (t.ring r).retrySeq.isSome).2]).afterCpl_shown r (cplWords t r seq opc st res (t.ring r).retrySeq.isSome)
    rw [h1, h2] at h3
    rw [h1] at h4
    exact ⟨h3, h4⟩

/-! ### A command at HEAD -/

/-- The command in execution that ring `r` takes up at its HEAD. -/
def State.headExec (s : State) (r : Nat) : Exec :=
  { seq := s.headSeq r, words := s.headWords r, retried := (s.ring r).retrySeq.isSome, committed := false
    startFrame := s.frame, left := 0, result := 0, lost := false, mask := 0, snap := [] }

/-- The state in which ring `r` has taken up the command at its HEAD. -/
def State.takenUp (s : State) (r : Nat) : State :=
  (s.setRing r { s.ring r with exec := some (s.headExec r) }).put (RING_STAT_STATE r) 2

theorem State.takenUp_quiet (s : State) (r : Nat) : Quiet [RING_STAT_STATE r] s (s.takenUp r) :=
  Quiet.put (Quiet.other (Quiet.refl _ s) rfl rfl rfl rfl) (by simp [fldIn]) 2

theorem State.ring_takenUp (s : State) (r : Nat) : (s.takenUp r).ring r = { s.ring r with exec := some (s.headExec r) } := by
  rw [State.takenUp, State.ring_put, State.ring_setRing_same]

theorem State.get_takenUp_state (s : State) (r : Nat) : (s.takenUp r).get (RING_STAT_STATE r) = 2 := by
  rw [State.takenUp, State.get_put_same]
  rfl

theorem State.get_takenUp (s : State) (r : Nat) {f : Fld} (h : Fld.key f ≠ Fld.key (RING_STAT_STATE r)) : (s.takenUp r).get f = s.get f := by
  rw [State.takenUp, State.get_put_ne _ _ h, State.get_setRing]

theorem apartFromRings_ringState (r : Nat) : ApartFromRings (RING_STAT_STATE r) := by
  simp only [ApartFromRings, RING_STAT_STATE]
  omega

/-- R353, R360, R363: a command of opcode `opc` that may start, starts. -/
theorem State.command_of_takesUp (h : TakesUp s r ws) {opc : Nat} (ho : ws.headD 0 % 256 = opc) {sel : List Nat → Bool}
    (hsel : sel ws = true) (k : Nat → List Nat → State → State) : s.command r opc sel k = k (s.headSeq r) ws (s.takenUp r) := by
  obtain ⟨hstart, hwords, hmark, hclean, hsame, hform⟩ := h
  unfold State.command
  rw [if_neg (by rw [hstart]; decide)]
  dsimp only
  rw [hwords, if_neg (by rw [hmark]; decide), if_neg (by rw [hclean]; decide), if_neg, if_neg (by rw [hform]; decide),
    if_neg (by rw [hsel]; simpa using ho)]
  · rw [State.takenUp, State.headExec, hwords]
  · cases hretry : (s.ring r).retrySeq.isSome with
    | false => simp
    | true => simp [hsame hretry]

/-- State `t` has come from `s`, in which ring `r` took up the command at its HEAD, and leaves the rings as they were. -/
structure TakenFrom (s : State) (r : Nat) (t : State) : Prop where
  ring : t.ring r = (s.takenUp r).ring r
  full : t.cplFull r = s.cplFull r
  frame : t.frame = s.frame

theorem State.takenFrom_takenUp (s : State) (hr : r < 64) : TakenFrom s r (s.takenUp r) :=
  ⟨rfl, cplFull_of_quiet (s.takenUp_quiet r) (by simp [apartFromRings_ringState]) hr, rfl⟩

/-- R354, R372: a command that was taken up and completes. -/
theorem TakenFrom.completes (h : TakenFrom s r t) (hr : r < 64) {st : Nat} (res : Nat) (hst : st < 256) :
    Completes s r st res (t.finish r st res) := by
  obtain ⟨hring, hfull, hframe⟩ := h
  have hexec : (t.ring r).exec = some (s.headExec r) := by rw [hring, State.ring_takenUp]
  have hretry : (t.ring r).retrySeq = (s.ring r).retrySeq := by rw [hring, State.ring_takenUp]
  have hfin : t.finish r st res = t.complete r (s.headSeq r) ((s.headWords r).headD 0 % 256) st res := by
    rw [State.finish, hexec]
    rfl
  have h := t.complete_shown r (s.headSeq r) ((s.headWords r).headD 0 % 256) res hst
  rw [hfull, hretry, cplWords_congr hframe] at h
  rw [hfin]
  exact h

/-- R353: a command that was taken up and is in execution. -/
theorem TakenFrom.runs (h : TakenFrom s r t) (hstate : t.get (RING_STAT_STATE r) = 2) : Runs s r t :=
  ⟨hstate, by rw [h.ring, State.ring_takenUp]; rfl⟩

/-- The command in execution on ring `r` completes (R354, R372). -/
theorem State.finishes (s : State) {e : Exec} (he : (t.ring r).exec = some e) (hretry : (t.ring r).retrySeq = (s.ring r).retrySeq)
    (hfull : t.cplFull r = s.cplFull r) (hframe : t.frame = s.frame) {st : Nat} (res : Nat) (hst : st < 256) :
    Finishes s r e st res (t.finish r st res) := by
  have h := t.complete_shown r e.seq (e.words.headD 0 % 256) res hst
  rw [hfull, hretry, cplWords_congr hframe] at h
  rw [State.finish, he]
  exact h

theorem State.ring_setExec (s : State) (r : Nat) (f : Exec → Exec) :
    (s.setExec r f).ring r = { s.ring r with exec := (s.ring r).exec.map f } := State.ring_setRing_same _ _ _

@[simp] theorem State.get_setExec (s : State) (r : Nat) (f : Exec → Exec) (g : Fld) : (s.setExec r f).get g = s.get g := rfl

end Sys2Proof.Machine
end

section
/-! The common start (R199 to R205): its triggers, the START command, and the ports at boundary S. -/

namespace Sys2Proof.Machine

variable {l : List Fld} {s t : State} {n r : Nat} {ws : List Nat}

/-! ### Triggers -/

/-- R201: a trigger fixes the start frame. -/
theorem State.fixStart_shown (s : State) :
    let u := s.fixStart none
    (u.get SAP_START_STAT_PENDING = 1 ∧ u.get SAP_START_STAT_START_FRAME = (s.frame + s.startLead) % 2 ^ 32) ∧
      Quiet [SAP_START_STAT_PENDING, SAP_START_STAT_START_FRAME] s u := by
  refine ⟨⟨?_, ?_⟩, ((Quiet.refl _ s).put (by decide) _).put (by decide) 1⟩
  · rw [State.fixStart, State.get_put_same]
    rfl
  · rw [State.fixStart, State.get_put_ne _ _ (by decide)]
    exact State.get_put_of_lt _ (Nat.mod_lt _ (by decide))

theorem State.trigger_fixes (h : s.triggerOk = true) (hp : s.on SAP_START_STAT_PENDING = false) : s.trigger = s.fixStart none := by
  rw [State.trigger, if_neg (not_not_intro h), if_neg (by rw [hp]; decide)]

theorem State.trigger_ignored (h : s.triggerOk = true) (hp : s.on SAP_START_STAT_PENDING = true) :
    s.trigger.get SAP_START_STAT_IGNORED = satNat 8 (s.get SAP_START_STAT_IGNORED + 1) ∧ Quiet [SAP_START_STAT_IGNORED] s s.trigger := by
  rw [State.trigger, if_neg (not_not_intro h), if_pos hp]
  exact ⟨State.get_bump_same _ _, (Quiet.refl _ s).bump (by decide)⟩

/-- A wake cause is all that an edge of the START ball adds to its trigger (R445). -/
theorem State.wakeBy_eq (s : State) (c : Nat) : ∃ w, s.wakeBy c = { s with wakeReq := w } := by
  unfold State.wakeBy
  dsimp only
  split_ifs
  · exact ⟨_, rfl⟩
  · exact ⟨s.wakeReq, rfl⟩

theorem startBallEdge_eq {rising : Bool} (hit : s.on SAP_START_CFG_BALL_EDGE ≠ rising) (hen : s.on SAP_START_CFG_BALL_EN = true)
    (hawake : s.awake = true) : ∃ w, startBallEdge rising s = State.trigger { s with wakeReq := w } := by
  have hedge : (s.on SAP_START_CFG_BALL_EDGE != rising) = true := bne_iff_ne.2 hit
  have hgo (w : Option Nat) : (State.on { s with wakeReq := w } SAP_START_CFG_BALL_EN && State.awake { s with wakeReq := w }) = true := by
    show (s.on SAP_START_CFG_BALL_EN && s.awake) = true
    rw [hen, hawake]
    rfl
  obtain ⟨w, hw⟩ := s.wakeBy_eq 5
  unfold startBallEdge
  dsimp only
  rw [hedge, Bool.true_and, Bool.true_and]
  split_ifs with h1 h2 h2
  · exact ⟨w, by rw [hw]⟩
  · rw [hw, hgo] at h2
    exact absurd rfl h2
  · exact ⟨s.wakeReq, rfl⟩
  · exact absurd (hgo s.wakeReq) h2

/-! ### The START command -/

theorem State.startLead_takenUp (s : State) (hr : r < 64) : (s.takenUp r).startLead = s.startLead := by
  unfold State.startLead
  rw [State.get_takenUp, State.get_takenUp]
  · rfl
  all_goals
    simp only [Fld.key, SAP_START_CFG_LEAD, CHN_STAT_HIGHEST, RING_STAT_STATE]
    omega

theorem State.triggerOk_takenUp (s : State) (hr : r < 64) : (s.takenUp r).triggerOk = s.triggerOk := by
  unfold State.triggerOk State.on
  rw [State.get_takenUp]
  · rfl
  · simp only [Fld.key, SAP_START_CFG_LOCAL, RING_STAT_STATE]
    omega

theorem State.pending_takenUp (s : State) (hr : r < 64) : (s.takenUp r).on SAP_START_STAT_PENDING = s.on SAP_START_STAT_PENDING := by
  unfold State.on
  rw [State.get_takenUp]
  simp only [Fld.key, SAP_START_STAT_PENDING, RING_STAT_STATE]
  omega

/-- R201, R203: START fixes the start frame and stays in execution. -/
theorem start_fixes (h : TakesUp s r ws) (hr : r < 64) (ho : ws.headD 0 % 256 = 0x09) (hok : s.triggerOk = true)
    (hp : s.on SAP_START_STAT_PENDING = false) (hat : bitOf (ws.headD 0) 16 = false) :
    let u := start r s
    (u.get SAP_START_STAT_PENDING = 1 ∧ u.get SAP_START_STAT_START_FRAME = (s.frame + s.startLead) % 2 ^ 32) ∧ Runs s r u := by
  have heq : start r s = ((s.takenUp r).fixStart none).setExec r (fun e =>
      { e with committed := true, result := ((s.takenUp r).fixStart none).get SAP_START_STAT_START_FRAME
               mask := ((s.takenUp r).fixStart none).unlinked (bits (ws.headD 0) 32 16) }) := by
    rw [start, State.command_of_takesUp h ho rfl, if_neg (by rw [s.triggerOk_takenUp hr]; exact not_not_intro hok),
      if_neg (by rw [s.pending_takenUp hr, hp]; decide), State.startCmd, hat]
    rfl
  obtain ⟨⟨h1, h2⟩, -⟩ := (s.takenUp r).fixStart_shown
  have hring : ((s.takenUp r).fixStart none).ring r = (s.takenUp r).ring r := by
    rw [State.fixStart, State.ring_put, State.ring_put]
  have hkey : Fld.key (RING_STAT_STATE r) ≠ Fld.key SAP_START_STAT_PENDING ∧
      Fld.key (RING_STAT_STATE r) ≠ Fld.key SAP_START_STAT_START_FRAME := by
    simp only [Fld.key, RING_STAT_STATE, SAP_START_STAT_PENDING, SAP_START_STAT_START_FRAME]
    omega
  dsimp only
  rw [heq]
  refine ⟨⟨h1, h2.trans ?_⟩, ?_, ?_⟩
  · rw [s.startLead_takenUp hr]
    rfl
  · rw [State.get_setExec, State.fixStart, State.get_put_ne _ _ hkey.1, State.get_put_ne _ _ hkey.2, State.get_takenUp_state]
  · rw [State.ring_setExec, hring, State.ring_takenUp]
    rfl

theorem start_refused (h : TakesUp s r ws) (hr : r < 64) (ho : ws.headD 0 % 256 = 0x09) (hok : s.triggerOk = false) :
    Completes s r stNotPermitted 0 (start r s) := by
  rw [start, State.command_of_takesUp h ho rfl, if_pos (by rw [s.triggerOk_takenUp hr, hok]; decide)]
  exact (s.takenFrom_takenUp hr).completes hr 0 (by decide)

/-! ### Boundary S -/

/-- The state with which an armed port goes on at boundary S (R202, R213). -/
def State.startState (s : State) (n : Nat) : Nat :=
  if s.on (SAP_CFG_ROLE n) then (if s.on (SAP_CFG_DOM n) then s.get (SAP_STAT_STATE n) else 3) else if 2 ≤ s.monState n then 4 else 2

/-- The fields of port `n` that a start changes. -/
def startFlds (n : Nat) : List Fld := [SAP_STAT_STATE n, SAP_STAT_START_FRAME n]

theorem Quiet.sapBegin (h : Quiet l s t) (hst : fldIn l (SAP_STAT_STATE n) = true) (hf : fldIn l (SAP_STAT_START_FRAME n) = true) :
    Quiet l s (t.sapBegin n) := by
  have h0 : Quiet l s (t.setPort n { t.port n with beginNext := false, txNew := false }) := h.other rfl rfl rfl rfl
  exact .ite (.ite (h0.other rfl rfl rfl rfl) ((h0.put hst 3).put hf _)) (.ite ((h0.put hst 4).put hf _) (h0.put hst 2))

theorem monState_congr (h : ∀ f, Fld.key f ≠ Fld.key (SAP_STAT_STATE n) → Fld.key f ≠ Fld.key (SAP_STAT_START_FRAME n) →
    t.get f = s.get f) (hhead : t.isHead = s.isHead) (hn : n < 4) (m : Nat) : t.monState m = s.monState m := by
  have hget (f : Fld) (hf : f.lo < 64 ∧ f.addr ≠ 0xE05018 + 0x40 * n) : t.get f = s.get f := by
    apply h
    all_goals
      simp only [Fld.key, SAP_STAT_STATE, SAP_STAT_START_FRAME]
      omega
  unfold State.monState State.monActive State.awake State.bit State.on
  rw [hget CLK_MON_CFG_EN, hget PWR_STAT_STATE, hget (SAP_CFG_EN m), hget (SAP_CFG_ROLE m), hget SPD_RX_CFG_EN,
    hget (CLK_MON_STAT_STATE m), hhead]
  all_goals
    simp only [CLK_MON_CFG_EN, PWR_STAT_STATE, SAP_CFG_EN, SAP_CFG_ROLE, SPD_RX_CFG_EN, CLK_MON_STAT_STATE]
    omega

/-- R202, R213: an armed port starts. -/
theorem State.sapStartNow_shown (s : State) (n : Nat) :
    let u := s.sapStartNow n
    u.get (SAP_STAT_STATE n) = s.startState n ∧
      (s.on (SAP_CFG_ROLE n) = true → s.on (SAP_CFG_DOM n) = false → u.get (SAP_STAT_START_FRAME n) = s.frame % 2 ^ 32) ∧
      Quiet (startFlds n) s u ∧ (∀ f, Fld.key f ≠ Fld.key (SAP_STAT_STATE n) → Fld.key f ≠ Fld.key (SAP_STAT_START_FRAME n) →
        u.get f = s.get f) ∧ u.isHead = s.isHead ∧ u.frame = s.frame ∧ u.rings = s.rings := by
  have hkey : Fld.key (SAP_STAT_STATE n) ≠ Fld.key (SAP_STAT_START_FRAME n) := by
    simp only [Fld.key, SAP_STAT_STATE, SAP_STAT_START_FRAME]
    omega
  have hrun : ∀ t : State, (t.sapRunFrame n true).isHead = t.isHead ∧ (t.sapRunFrame n true).frame = t.frame ∧
      (t.sapRunFrame n true).rings = t.rings := fun t => by
    rw [State.sapRunFrame]
    dsimp only
    rw [Bool.or_true, if_pos rfl]
    exact ⟨rfl, rfl, rfl⟩
  have hbegin : (s.sapBegin n).get (SAP_STAT_STATE n) = s.startState n ∧
      (s.on (SAP_CFG_ROLE n) = true → s.on (SAP_CFG_DOM n) = false → (s.sapBegin n).get (SAP_STAT_START_FRAME n) = s.frame % 2 ^ 32) ∧
      (∀ f, Fld.key f ≠ Fld.key (SAP_STAT_STATE n) → Fld.key f ≠ Fld.key (SAP_STAT_START_FRAME n) → (s.sapBegin n).get f = s.get f) ∧
      (s.sapBegin n).isHead = s.isHead ∧ (s.sapBegin n).frame = s.frame ∧ (s.sapBegin n).rings = s.rings := by
    have hon (f : Fld) (p : Port) : (s.setPort n p).on f = s.on f := rfl
    have hmon (p : Port) : (s.setPort n p).monState n = s.monState n := rfl
    have hframe (p : Port) : (s.setPort n p).frame = s.frame := rfl
    unfold State.sapBegin State.startState
    dsimp only
    simp only [hon, hmon, hframe]
    split_ifs with h1 h2 h3
    · exact ⟨rfl, fun _ h => absurd (h2.symm.trans h) (by decide), fun f _ _ => rfl, rfl, rfl, rfl⟩
    · refine ⟨?_, fun _ _ => State.get_put_same _ _ _, fun f k1 k2 => ?_, rfl, rfl, rfl⟩
      · rw [State.get_put_ne _ _ hkey, State.get_put_same]
        rfl
      · rw [State.get_put_ne _ _ k2, State.get_put_ne _ _ k1, State.get_setPort]
    · refine ⟨?_, fun h => absurd h h1, fun f k1 k2 => ?_, rfl, rfl, rfl⟩
      · rw [State.get_put_ne _ _ hkey, State.get_put_same]
        rfl
      · rw [State.get_put_ne _ _ k2, State.get_put_ne _ _ k1, State.get_setPort]
    · refine ⟨?_, fun h => absurd h h1, fun f k1 k2 => ?_, rfl, rfl, rfl⟩
      · rw [State.get_put_same]
        rfl
      · rw [State.get_put_ne _ _ k1, State.get_setPort]
  have hq : Quiet (startFlds n) s (s.sapBegin n) :=
    (Quiet.refl _ s).sapBegin (by simp [fldIn, startFlds]) (by simp [fldIn, startFlds])
  obtain ⟨b1, b2, b3, b4, b5, b6⟩ := hbegin
  unfold State.sapStartNow
  dsimp only
  generalize s.sapBegin n = t at *
  split_ifs
  · obtain ⟨-, -, -, -, -, hquiet, hget⟩ := t.sapRunFrame_values n true (Bool.or_true _)
    obtain ⟨r1, r2, r3⟩ := hrun t
    refine ⟨(hget _).trans b1, fun h1 h2 => (hget _).trans (b2 h1 h2), hq.trans (hquiet.of_subset (by simp)),
      fun f k1 k2 => (hget f).trans (b3 f k1 k2), r1.trans b4, r2.trans b5, r3.trans b6⟩
  · exact ⟨b1, b2, hq, b3, b4, b5, b6⟩

theorem bitOf_eq_testBit (w i : Nat) : bitOf w i = w.testBit i := by
  rw [bitOf, Nat.testBit_eq_decide_div_mod_eq, Nat.shiftRight_eq_div_pow]
  rfl

theorem maskOf_succ (k : Nat) (p : Nat → Bool) : maskOf (k + 1) p = if p k then maskOf k p + 2 ^ k else maskOf k p := by
  rw [maskOf, List.range_succ, List.foldl_append]
  rfl

theorem maskOf_lt (k : Nat) (p : Nat → Bool) : maskOf k p < 2 ^ k := by
  induction k with
  | zero => exact Nat.one_pos
  | succ k ih =>
    rw [maskOf_succ, Nat.pow_succ]
    split <;> omega

theorem bitOf_maskOf {k i : Nat} (p : Nat → Bool) (hi : i < k) : bitOf (maskOf k p) i = p i := by
  rw [bitOf_eq_testBit]
  induction k with
  | zero => omega
  | succ k ih =>
    rw [maskOf_succ]
    rcases Nat.lt_succ_iff_lt_or_eq.1 hi with h | rfl
    · split
      · rw [Nat.add_comm, Nat.testBit_two_pow_add_gt h, ih h]
      · exact ih h
    · have hz := Nat.testBit_lt_two_pow (maskOf_lt i p)
      split
      · next hp => rw [Nat.add_comm, Nat.testBit_two_pow_add_eq, hz, hp]; rfl
      · next hp => rw [hz, Bool.eq_false_of_not_eq_true hp]

/-- The armed ports start one after the other: each comes to its own state, and the others keep theirs. -/
theorem foldl_sapStartNow (xs : List Nat) (hnd : xs.Nodup) (hlt : ∀ n ∈ xs, n < 4) (s : State) :
    let u := xs.foldl (fun s n => s.sapStartNow n) s
    (∀ n ∈ xs, u.get (SAP_STAT_STATE n) = s.startState n ∧ (s.on (SAP_CFG_ROLE n) = true → s.on (SAP_CFG_DOM n) = false →
        u.get (SAP_STAT_START_FRAME n) = s.frame % 2 ^ 32)) ∧
      (∀ f, (∀ n ∈ xs, Fld.key f ≠ Fld.key (SAP_STAT_STATE n) ∧ Fld.key f ≠ Fld.key (SAP_STAT_START_FRAME n)) → u.get f = s.get f) ∧
      SameBytes s u ∧ u.frame = s.frame ∧ u.rings = s.rings := by
  induction xs generalizing s with
  | nil => exact ⟨fun n hn => absurd hn List.not_mem_nil, fun f _ => rfl, fun a => ⟨rfl, rfl, rfl⟩, rfl, rfl⟩
  | cons x xs ih =>
    obtain ⟨hx, hnd⟩ := List.nodup_cons.1 hnd
    have hx4 : x < 4 := hlt x List.mem_cons_self
    obtain ⟨h1, h2, h3, h4, h5, h6, h7⟩ := s.sapStartNow_shown x
    obtain ⟨k1, k2, k3, k4, k5⟩ := ih hnd (fun n hn => hlt n (List.mem_cons_of_mem _ hn)) (s.sapStartNow x)
    rw [List.foldl_cons]
    refine ⟨fun n hn => ?_, fun f hf => ?_, fun a => ?_, k4.trans h6, k5.trans h7⟩
    · rcases List.mem_cons.1 hn with rfl | hn
      · have hne : ∀ m ∈ xs, m < 4 ∧ m ≠ n := fun m hm => ⟨hlt m (List.mem_cons_of_mem _ hm), fun he => hx (he ▸ hm)⟩
        rw [k2 (SAP_STAT_STATE n) fun m hm => ?_, k2 (SAP_STAT_START_FRAME n) fun m hm => ?_]
        · exact ⟨h1, h2⟩
        all_goals
          obtain ⟨h8, h9⟩ := hne m hm
          simp only [Fld.key, SAP_STAT_STATE, SAP_STAT_START_FRAME]
          omega
      · obtain ⟨g1, g2⟩ := k1 n hn
        have hne : n ≠ x := fun he => hx (he ▸ hn)
        have hget (f : Fld) (hf : f.lo < 64 ∧ f.addr ≠ 0xE05018 + 0x40 * x) : (s.sapStartNow x).get f = s.get f := by
          apply h4
          all_goals
            simp only [Fld.key, SAP_STAT_STATE, SAP_STAT_START_FRAME]
            omega
        have hrole : (s.sapStartNow x).on (SAP_CFG_ROLE n) = s.on (SAP_CFG_ROLE n) := by
          rw [State.on, hget _ (by simp only [SAP_CFG_ROLE]; omega), State.on]
        have hdom : (s.sapStartNow x).on (SAP_CFG_DOM n) = s.on (SAP_CFG_DOM n) := by
          rw [State.on, hget _ (by simp only [SAP_CFG_DOM]; omega), State.on]
        rw [hrole, hdom, h6] at g2
        refine ⟨g1.trans ?_, g2⟩
        unfold State.startState
        rw [hrole, hdom, monState_congr h4 h5 hx4, hget _ (by simp only [SAP_STAT_STATE]; omega)]
    · exact (k2 f fun n hn => hf n (List.mem_cons_of_mem _ hn)).trans (h4 f (hf x List.mem_cons_self).1 (hf x List.mem_cons_self).2)
    · obtain ⟨b1, b2, b3⟩ := h3.1 a
      obtain ⟨c1, c2, c3⟩ := k3 a
      exact ⟨c1.trans b1, c2.trans b2, c3.trans b3⟩

/-- The ports that START_STAT shows as armed. -/
theorem mem_armed (s : State) (n : Nat) : n ∈ bitList 4 s.armedMask ↔ n < 4 ∧ s.get (SAP_STAT_STATE n) = 1 := by
  rw [bitList, List.mem_filter, List.mem_range]
  refine and_congr_right fun hn => ?_
  rw [State.armedMask, bitOf_maskOf _ (by omega), if_pos hn, State.sapState, beq_iff_eq]

/-- The state in which the armed ports have started (R202). -/
def State.portsStarted (s : State) : State := (bitList 4 s.armedMask).foldl (fun s n => s.sapStartNow n) s

theorem State.startArmed_eq (s : State) : ∃ d, s.startArmed = State.post { s.portsStarted with spd := d } 0x0504 sevInfo
    (pack [p32 (s.portsStarted.get SAP_START_STAT_START_FRAME), p16 s.armedMask]) := by
  unfold State.startArmed
  dsimp only
  split_ifs
  · exact ⟨_, rfl⟩
  · exact ⟨_, rfl⟩
  · exact ⟨_, rfl⟩
  · exact ⟨s.portsStarted.spd, rfl⟩

theorem executors_congr (h : t.rings = s.rings) (o : Nat) : t.executors o = s.executors o := by
  unfold State.executors State.executing State.ring
  rw [h]

/-- R202, R205: boundary S has come, and no START is in execution. -/
theorem portStart_eq (hp : s.on SAP_START_STAT_PENDING = true) (hlate : later (s.get SAP_START_STAT_START_FRAME) s.frame = false)
    (hex : s.executors 0x09 = []) : portStart s = s.startArmed.put SAP_START_STAT_PENDING 0 := by
  obtain ⟨d, hd⟩ := s.startArmed_eq
  obtain ⟨-, -, -, -, hrings⟩ := foldl_sapStartNow (bitList 4 s.armedMask) (List.nodup_range.filter _)
    (fun n hn => ((mem_armed s n).1 hn).1) s
  have hnone : (s.startArmed.put SAP_START_STAT_PENDING 0).executors 0x09 = [] := by
    rw [← hex]
    refine executors_congr ?_ _
    rw [State.put_rings, hd, State.post_rings]
    exact hrings
  unfold portStart
  rw [if_neg (by rw [hp, hlate]; decide)]
  dsimp only
  rw [hnone, List.foldl_nil, State.startWaiting, hnone]
  rfl

theorem portStart_spec (hp : s.on SAP_START_STAT_PENDING = true) (hlate : later (s.get SAP_START_STAT_START_FRAME) s.frame = false)
    (hex : s.executors 0x09 = []) (hframe : s.frame < 2 ^ 32) :
    let u := portStart s
    u.get SAP_START_STAT_PENDING = 0 ∧ 0x0504 ∈ u.occ ∧
      (∀ n : FourIx, s.get (SAP_STAT_STATE n) = 1 → s.on (SAP_CFG_ROLE n) = false →
        u.get (SAP_STAT_STATE n) = (if 2 ≤ s.monState n then 4 else 2)) ∧
      (∀ n : FourIx, s.get (SAP_STAT_STATE n) = 1 → s.on (SAP_CFG_ROLE n) = true → s.on (SAP_CFG_DOM n) = false →
        u.get (SAP_STAT_STATE n) = 3 ∧ u.get (SAP_STAT_START_FRAME n) = s.frame) ∧
      (∀ n : FourIx, s.get (SAP_STAT_STATE n) ≠ 1 → u.get (SAP_STAT_STATE n) = s.get (SAP_STAT_STATE n)) ∧ SameBytes s u := by
  obtain ⟨d, hd⟩ := s.startArmed_eq
  obtain ⟨hstarted, hothers, hbytes, -, -⟩ := foldl_sapStartNow (bitList 4 s.armedMask) (List.nodup_range.filter _)
    (fun n hn => ((mem_armed s n).1 hn).1) s
  have hev (n : FourIx) : fldIn eventFlds (SAP_STAT_STATE n) = false ∧ fldIn eventFlds (SAP_STAT_START_FRAME n) = false :=
    ⟨fldIn_eventFlds_of_page (by simp only [SAP_STAT_STATE]; omega), fldIn_eventFlds_of_page (by simp only [SAP_STAT_START_FRAME]; omega)⟩
  have hport (n : FourIx) : (portStart s).get (SAP_STAT_STATE n) = s.portsStarted.get (SAP_STAT_STATE n) ∧
      (portStart s).get (SAP_STAT_START_FRAME n) = s.portsStarted.get (SAP_STAT_START_FRAME n) := by
    rw [portStart_eq hp hlate hex, hd, State.get_put_ne, State.get_put_ne, State.get_post (hev n).1, State.get_post (hev n).2,
      State.get_mk, State.get_mk]
    · exact ⟨rfl, rfl⟩
    all_goals
      simp only [Fld.key, SAP_STAT_STATE, SAP_STAT_START_FRAME, SAP_START_STAT_PENDING]
      omega
  refine ⟨?_, ?_, fun n hn hrole => ?_, fun n hn hrole hdom => ?_, fun n hn => ?_, fun a => ?_⟩
  · rw [portStart_eq hp hlate hex, State.get_put_same, Nat.zero_mod]
  · rw [portStart_eq hp hlate hex, State.put_occ, hd, State.post_occ _ _ _ (by decide)]
    exact List.mem_append_right _ (List.mem_singleton.2 rfl)
  · rw [(hport n).1]
    refine (hstarted n ((mem_armed s n).2 ⟨n.isLt, hn⟩)).1.trans ?_
    rw [State.startState, hrole]
    rfl
  · obtain ⟨h1, h2⟩ := hstarted n ((mem_armed s n).2 ⟨n.isLt, hn⟩)
    rw [(hport n).1, (hport n).2]
    refine ⟨h1.trans ?_, (h2 hrole hdom).trans (Nat.mod_eq_of_lt hframe)⟩
    rw [State.startState, hrole, hdom]
    rfl
  · rw [(hport n).1]
    refine hothers _ fun m hm => ?_
    have hne : (n : Nat) ≠ m := fun he => hn (he ▸ ((mem_armed s m).1 hm).2)
    simp only [Fld.key, SAP_STAT_STATE, SAP_STAT_START_FRAME]
    omega
  · have hq : Quiet [SAP_START_STAT_PENDING] s.portsStarted (portStart s) := by
      rw [portStart_eq hp hlate hex, hd]
      exact Quiet.put (Quiet.post (Quiet.update (Quiet.refl _ s.portsStarted)) _ _ _) (by decide) 0
    obtain ⟨b1, b2, b3⟩ := hbytes a
    obtain ⟨c1, c2, c3⟩ := hq.1 a
    exact ⟨c1.trans b1, c2.trans b2, c3.trans b3⟩

/-- Settles O10: the triggers, the START command and boundary S, by the lemmas above. -/
theorem commonStartBeginsPorts : Obligations.CommonStartBeginsPorts := by
  unfold Obligations.CommonStartBeginsPorts
  intro s fixed frame ignored
  refine ⟨fun rising hit hen hawake hok hp => ⟨_, rfl, ?_⟩, fun rising hit hen hawake hok hp => ⟨_, rfl, ?_⟩,
    fun v hgo hok hp => ⟨_, rfl, ?_⟩, fun v hgo hok hp => ⟨_, rfl, ?_⟩,
    fun r ws h ho hok hp hat => ⟨_, rfl, start_fixes h r.isLt ho hok hp hat⟩, fun r ws h ho hok => ⟨_, rfl, start_refused h r.isLt ho hok⟩,
    fun hp hlate hex hframe => ⟨_, rfl, portStart_spec hp hlate hex hframe⟩⟩
  · obtain ⟨w, hw⟩ := startBallEdge_eq hit hen hawake
    rw [hw, State.trigger_fixes (s := { s with wakeReq := w }) hok hp]
    obtain ⟨h1, h2⟩ := State.fixStart_shown { s with wakeReq := w }
    exact ⟨h1, Quiet.trans (Quiet.update (Quiet.refl _ s)) h2⟩
  · obtain ⟨w, hw⟩ := startBallEdge_eq hit hen hawake
    rw [hw]
    obtain ⟨h1, h2⟩ := State.trigger_ignored (s := { s with wakeReq := w }) hok hp
    exact ⟨h1, Quiet.trans (Quiet.update (Quiet.refl _ s)) h2⟩
  · rw [sapStartGo, if_pos hgo, State.trigger_fixes hok hp]
    exact s.fixStart_shown
  · rw [sapStartGo, if_pos hgo]
    exact State.trigger_ignored hok hp

end Sys2Proof.Machine
end

section
/-! The IEC 60958 receiver and transmitter (R199, R206 to R212). -/

namespace Sys2Proof.Machine

variable {l : List Fld} {s t : State}

/-! ### The receiver's configuration and lock -/

theorem State.rxQuiet_eq (s : State) : ∃ e, s.rxQuiet = { s with
    spd := { s.spd with half := none, rxNew := none, rxGot := false, last := none, slip := false, capPos := none }, edgeNew := e } :=
  ⟨_, rfl⟩

@[simp] theorem State.get_rxQuiet (s : State) (f : Fld) : s.rxQuiet.get f = s.get f := rfl

theorem Quiet.rxQuiet (h : Quiet l s t) : Quiet l s t.rxQuiet := h.other rfl rfl rfl rfl

theorem State.last_rxQuiet (s : State) : s.rxQuiet.spd.last = none := rfl

theorem State.rxLeaves_shown (s : State) :
    s.rxLeaves.get SPD_SUM_UNLOCK = (if s.get SPD_RX_STAT_STATE = 2 then 1 else s.get SPD_SUM_UNLOCK) ∧
      (∀ f, Fld.key f ≠ Fld.key SPD_SUM_UNLOCK → s.rxLeaves.get f = s.get f) := by
  unfold State.rxLeaves
  split
  · exact ⟨by rw [State.get_put_same]; rfl, fun f hf => State.get_put_ne _ _ hf⟩
  · exact ⟨rfl, fun _ _ => rfl⟩

theorem Quiet.rxLeaves (h : Quiet l s t) (hsum : fldIn l SPD_SUM_UNLOCK = true) : Quiet l s t.rxLeaves := .ite (h.put hsum 1) h

/-- The receiver's configuration fields written. -/
def State.putRxCfg (s : State) (v : Nat) : State :=
  ((s.put SPD_RX_CFG_EN (bits v 0 1)).put SPD_RX_CFG_MUTE_NONPCM (bits v 1 1)).put SPD_RX_CFG_START_MODE (bits v 2 1)

theorem State.putRxCfg_shown (s : State) (v : Nat) :
    (s.putRxCfg v).get SPD_RX_CFG_EN = bits v 0 1 ∧ (s.putRxCfg v).get SPD_RX_CFG_MUTE_NONPCM = bits v 1 1 ∧
      (s.putRxCfg v).get SPD_RX_STAT_STATE = s.get SPD_RX_STAT_STATE ∧ (s.putRxCfg v).get SPD_SUM_UNLOCK = s.get SPD_SUM_UNLOCK ∧
      Quiet [SPD_RX_CFG_EN, SPD_RX_CFG_MUTE_NONPCM, SPD_RX_CFG_START_MODE] s (s.putRxCfg v) := by
  have hmod (k : Nat) : bits v k 1 % 2 ^ 1 = bits v k 1 := Nat.mod_eq_of_lt (bits_lt v k 1)
  refine ⟨?_, ?_, ?_, ?_, (((Quiet.refl _ s).put (by decide) _).put (by decide) _).put (by decide) _⟩
  all_goals simp (disch := decide) only [State.putRxCfg, State.get_put_ne, State.get_put_same]
  · exact hmod 0
  · exact hmod 1

/-- R206: the receiver is disabled. -/
theorem spdRxCfgWrite_off {v : Nat} (hen : bitOf v 0 = false) :
    let u := spdRxCfgWrite v s
    u.get SPD_RX_STAT_STATE = 0 ∧ u.get SPD_RX_CFG_EN = 0 ∧ u.spd.last = none ∧
      u.get SPD_SUM_UNLOCK = (if s.get SPD_RX_STAT_STATE = 2 then 1 else s.get SPD_SUM_UNLOCK) ∧
      Quiet [SPD_SUM_UNLOCK, SPD_RX_CFG_EN, SPD_RX_CFG_MUTE_NONPCM, SPD_RX_CFG_START_MODE, SPD_RX_STAT_STATE] s u := by
  obtain ⟨h1, -, h3, h4, h5⟩ := s.putRxCfg_shown v
  obtain ⟨h6, h7⟩ := (s.putRxCfg v).rxLeaves_shown
  have heq : spdRxCfgWrite v s = { ((s.putRxCfg v).rxLeaves.put SPD_RX_STAT_STATE 0).rxQuiet with
      spd := { ((s.putRxCfg v).rxLeaves.put SPD_RX_STAT_STATE 0).rxQuiet.spd with armed := false } } := by
    unfold spdRxCfgWrite
    dsimp only
    rw [if_pos (by rw [hen]; decide)]
    rfl
  have hq : Quiet [SPD_SUM_UNLOCK, SPD_RX_CFG_EN, SPD_RX_CFG_MUTE_NONPCM, SPD_RX_CFG_START_MODE, SPD_RX_STAT_STATE] s (spdRxCfgWrite v s) := by
    rw [heq]
    exact Quiet.update (Quiet.rxQuiet (Quiet.put (Quiet.rxLeaves (h5.of_subset (by simp)) (by decide)) (by decide) 0))
  dsimp only
  refine ⟨?_, ?_, ?_, ?_, hq⟩
  all_goals rw [heq]
  · rw [State.get_mk, State.get_rxQuiet, State.get_put_same, Nat.zero_mod]
  · rw [State.get_mk, State.get_rxQuiet, State.get_put_ne _ _ (by decide), h7 _ (by decide), h1, bits_one_eq_b2n, hen]
    rfl
  · rfl
  · rw [State.get_mk, State.get_rxQuiet, State.get_put_ne _ _ (by decide), h6, h3, h4]

/-- R199, R206: an idle receiver is enabled. -/
theorem spdRxCfgWrite_on {v : Nat} (hen : bitOf v 0 = true) (hs : s.get SPD_RX_STAT_STATE = 0) (hhold : s.portHold = false) :
    let u := spdRxCfgWrite v s
    u.get SPD_RX_STAT_STATE = 1 ∧ u.get SPD_RX_CFG_EN = 1 ∧ u.get SPD_RX_CFG_MUTE_NONPCM = bits v 1 1 ∧ u.spd.armed = bitOf v 2 ∧
      Quiet [SPD_RX_CFG_EN, SPD_RX_CFG_MUTE_NONPCM, SPD_RX_CFG_START_MODE, SPD_RX_STAT_STATE] s u := by
  obtain ⟨h1, h2, h3, -, h5⟩ := s.putRxCfg_shown v
  have hhold' : (s.putRxCfg v).portHold = false := hhold
  have heq : spdRxCfgWrite v s = { (s.putRxCfg v).put SPD_RX_STAT_STATE 1 with spd := { (s.putRxCfg v).spd with armed := bitOf v 2 } } := by
    unfold spdRxCfgWrite
    dsimp only
    rw [if_neg (not_not_intro hen), if_pos]
    · rfl
    · exact ⟨h3.trans hs, by rw [State.put_portHold, State.put_portHold, State.put_portHold, hhold]; decide⟩
  have hq : Quiet [SPD_RX_CFG_EN, SPD_RX_CFG_MUTE_NONPCM, SPD_RX_CFG_START_MODE, SPD_RX_STAT_STATE] s (spdRxCfgWrite v s) := by
    rw [heq]
    exact Quiet.update (Quiet.put (h5.of_subset (by simp)) (by decide) 1)
  dsimp only
  refine ⟨?_, ?_, ?_, ?_, hq⟩
  all_goals rw [heq]
  · rw [State.get_mk, State.get_put_same]
    rfl
  · rw [State.get_mk, State.get_put_ne _ _ (by decide), h1, bits_one_eq_b2n, hen]
    rfl
  · rw [State.get_mk, State.get_put_ne _ _ (by decide), h2]

theorem spdLock_spec {rate : Nat} (hr : rate ≤ 4) (hs : s.get SPD_RX_STAT_STATE = 1) :
    let u := spdLock rate s
    u.get SPD_RX_STAT_STATE = 2 ∧ u.get SPD_RX_STAT_RATE = rate ∧ u.get SPD_SUM_LOCK = 1 ∧ 0x0601 ∈ u.occ ∧
      Quiet [SPD_RX_STAT_STATE, SPD_RX_STAT_RATE, SPD_SUM_LOCK] s u := by
  dsimp only
  rw [spdLock, if_pos ⟨hs, hr⟩]
  refine ⟨?_, ?_, ?_, ?_, Quiet.post ((((Quiet.refl _ s).put (by decide) 2).put (by decide) rate).put (by decide) 1) _ _ _⟩
  · rw [State.get_post (by decide), State.get_put_ne _ _ (by decide), State.get_put_ne _ _ (by decide), State.get_put_same]
    rfl
  · rw [State.get_post (by decide), State.get_put_ne _ _ (by decide)]
    exact State.get_put_of_lt _ (show rate < 8 by omega)
  · rw [State.get_post (by decide), State.get_put_same]
    rfl
  · rw [State.post_occ _ _ _ (by decide)]
    exact List.mem_append_right _ (List.mem_singleton.2 rfl)

theorem spdUnlock_spec (hs : s.get SPD_RX_STAT_STATE = 2) :
    let u := spdUnlock s
    u.get SPD_RX_STAT_STATE = 1 ∧ u.get SPD_SUM_UNLOCK = 1 ∧ u.spd.last = none ∧ 0x0602 ∈ u.occ ∧
      Quiet [SPD_RX_STAT_STATE, SPD_SUM_UNLOCK] s u := by
  obtain ⟨h1, -⟩ := s.rxLeaves_shown
  dsimp only
  rw [spdUnlock, if_pos hs]
  refine ⟨?_, ?_, ?_, ?_, Quiet.post (Quiet.rxQuiet (Quiet.put (Quiet.rxLeaves (Quiet.refl _ s) (by decide)) (by decide) 1)) _ _ _⟩
  · rw [State.get_post (by decide), State.get_rxQuiet, State.get_put_same]
    rfl
  · rw [State.get_post (by decide), State.get_rxQuiet, State.get_put_ne _ _ (by decide), h1, if_pos hs]
  · rw [State.post_spd, State.last_rxQuiet]
  · rw [State.post_occ _ _ _ (by decide)]
    exact List.mem_append_right _ (List.mem_singleton.2 rfl)

/-! ### Subframes -/

theorem Spd.capture_keeps (d : Spd) (ch : Bool) (slots : Nat) (start : Bool) :
    (d.capture ch slots start).armed = d.armed ∧ (d.capture ch slots start).half = d.half ∧ (d.capture ch slots start).slip = d.slip ∧
      (d.capture ch slots start).rxNew = d.rxNew := by
  unfold Spd.capture
  dsimp only
  split <;> split <;> (try split) <;> exact ⟨rfl, rfl, rfl, rfl⟩

/-- The cell of a subframe without an error (R35, R207). -/
def State.spdCell (s : State) (w : Nat) : Word := mkCell (widen 24 (bits w 4 24)) s.tag (if bitOf w 28 then 0 else flagV)

/-- R207: the first subframe of a frame waits for the second. -/
theorem spdSubframe_first {w : Nat} (hs : s.get SPD_RX_STAT_STATE = 2) (harm : s.spd.armed = false)
    (hpar : popCount 28 (bits w 4 28) % 2 = 0) :
    let u := spdSubframe false w false none s
    u.spd.half = some (s.spdCell w) ∧ Quiet [] s u := by
  obtain ⟨h1, -⟩ := s.spd.capture_keeps false w false
  have heq : spdSubframe false w false none s = { s with spd := { s.spd.capture false w false with half := some (s.spdCell w) } } := by
    unfold spdSubframe
    rw [if_neg (not_not_intro hs), hpar]
    dsimp only
    simp only [beq_self_eq_true, if_true, h1, harm]
    rfl
  dsimp only
  rw [heq]
  exact ⟨rfl, Quiet.update (Quiet.refl _ s)⟩

/-- R192, R207: the second subframe completes a frame. -/
theorem spdSubframe_second {w : Nat} {a : Word} (hs : s.get SPD_RX_STAT_STATE = 2) (harm : s.spd.armed = false)
    (hslip : s.spd.slip = false) (hpar : popCount 28 (bits w 4 28) % 2 = 0) (hhalf : s.spd.half = some a) (hnew : s.spd.rxNew = none) :
    let u := spdSubframe true w false none s
    u.spd.rxNew = some (a, s.spdCell w) ∧ u.spd.half = none ∧ Quiet [] s u := by
  obtain ⟨h1, h2, h3, h4⟩ := s.spd.capture_keeps true w false
  have heq : spdSubframe true w false none s = { s with
      spd := { s.spd.capture true w false with half := none, slip := false, rxNew := some (a, s.spdCell w) } } := by
    unfold spdSubframe
    rw [if_neg (not_not_intro hs), hpar]
    dsimp only
    simp only [beq_self_eq_true, if_true, h1, h2, h3, harm, hhalf, hslip, State.spdFrame, h4, hnew]
    rfl
  dsimp only
  rw [heq]
  exact ⟨rfl, rfl, Quiet.update (Quiet.refl _ s)⟩

/-- A subframe of wrong parity counted, and posted where it begins a run (R207). -/
theorem State.parityError_shown (s : State) :
    s.parityError.get SPD_RX_CNT_PARITY = satNat 16 (s.get SPD_RX_CNT_PARITY + 1) ∧ s.parityError.get SPD_SUM_PARITY = 1 ∧
      Quiet [SPD_RX_CNT_PARITY, SPD_SUM_PARITY] s s.parityError := by
  have hq : Quiet [SPD_RX_CNT_PARITY, SPD_SUM_PARITY] s ((s.bump SPD_RX_CNT_PARITY).put SPD_SUM_PARITY 1) :=
    ((Quiet.refl _ s).bump (by decide)).put (by decide) 1
  have h1 : ((s.bump SPD_RX_CNT_PARITY).put SPD_SUM_PARITY 1).get SPD_RX_CNT_PARITY = satNat 16 (s.get SPD_RX_CNT_PARITY + 1) := by
    rw [State.get_put_ne _ _ (by decide)]
    exact State.get_bump_same _ _
  have h2 : ((s.bump SPD_RX_CNT_PARITY).put SPD_SUM_PARITY 1).get SPD_SUM_PARITY = 1 := by
    rw [State.get_put_same]
    rfl
  unfold State.parityError
  dsimp only
  refine ⟨?_, ?_, Quiet.update (Quiet.ite (Quiet.post hq _ _ _) hq)⟩
  · rw [State.get_mk, State.get_ite_post _ _ _ _ (by decide), h1]
  · rw [State.get_mk, State.get_ite_post _ _ _ _ (by decide), h2]

/-- R207: a subframe of wrong parity is counted. -/
theorem spdSubframe_parity {w : Nat} (hs : s.get SPD_RX_STAT_STATE = 2) (hpar : popCount 28 (bits w 4 28) % 2 = 1) :
    let u := spdSubframe false w false none s
    u.get SPD_RX_CNT_PARITY = satNat 16 (s.get SPD_RX_CNT_PARITY + 1) ∧ u.get SPD_SUM_PARITY = 1 ∧
      Quiet [SPD_RX_CNT_PARITY, SPD_SUM_PARITY] s u := by
  have heq : ∃ d, spdSubframe false w false none s =
      { State.parityError { s with spd := s.spd.capture false w false } with spd := d } := by
    unfold spdSubframe
    rw [if_neg (not_not_intro hs), hpar]
    generalize hv : State.parityError { s with spd := s.spd.capture false w false } = v
    dsimp only
    simp only [beq_iff_eq, one_ne_zero, if_false, hv, Bool.false_eq_true, not_false_eq_true, if_true]
    split_ifs
    all_goals exact ⟨_, rfl⟩
  obtain ⟨h1, h2, h3⟩ := State.parityError_shown { s with spd := s.spd.capture false w false }
  obtain ⟨d, hd⟩ := heq
  dsimp only
  rw [hd, State.get_mk, State.get_mk]
  exact ⟨h1, h2, Quiet.update (Quiet.trans (Quiet.update (Quiet.refl _ s)) h3)⟩

@[simp] theorem State.spd_monGlitch (s : State) (m off : Nat) : (s.monGlitch m off).spd = s.spd := by
  rw [State.monGlitch, State.post_spd, State.countSlip, State.setBit_eq, State.put_spd, State.bump_eq, State.put_spd]

/-- R143, R207: a biphase or preamble error is counted as a slip of the receiver's clock. -/
theorem State.biphaseError_shown (s : State) (off : Nat) :
    let u := s.biphaseError off
    u.get SPD_RX_CNT_BIPHASE = satNat 16 (s.get SPD_RX_CNT_BIPHASE + 1) ∧ u.bit CLK_EVT_SUM_SLIP 4 = true ∧
      u.get (CLK_MON_CNT_SLIPS 4) = satNat 16 (s.get (CLK_MON_CNT_SLIPS 4) + 1) ∧ u.spd.slip = true ∧ u.spd.capPos = none ∧
      0x0202 ∈ u.occ ∧ Quiet [SPD_RX_CNT_BIPHASE, CLK_MON_CNT_SLIPS 4, CLK_EVT_SUM_SLIP] s u := by
  obtain ⟨h1, h2, h3, h4⟩ := (s.bump SPD_RX_CNT_BIPHASE).monGlitch_shown (m := 4) (by omega) off
  have hq : Quiet [SPD_RX_CNT_BIPHASE, CLK_MON_CNT_SLIPS 4, CLK_EVT_SUM_SLIP] s ((s.bump SPD_RX_CNT_BIPHASE).monGlitch 4 off) :=
    ((Quiet.refl _ s).bump (by decide)).trans (h4.of_subset (by simp))
  have hcnt : ((s.bump SPD_RX_CNT_BIPHASE).monGlitch 4 off).get SPD_RX_CNT_BIPHASE = satNat 16 (s.get SPD_RX_CNT_BIPHASE + 1) := by
    rw [h4.get (by decide) (by decide)]
    exact State.get_bump_same _ _
  rw [State.get_bump_ne _ (by decide)] at h1
  unfold State.biphaseError
  generalize (s.bump SPD_RX_CNT_BIPHASE).monGlitch 4 off = t at *
  dsimp only
  rw [State.bit, State.get_mk, State.get_mk, State.get_mk, ← State.bit]
  exact ⟨hcnt, h2, h1, rfl, rfl, h3, Quiet.update hq⟩

theorem spdSubframe_error {w off : Nat} {ch start : Bool} (hs : s.get SPD_RX_STAT_STATE = 2) (h : s.spd.armed = true ∨ ch = false) :
    let u := spdSubframe ch w start (some off) s
    u.get SPD_RX_CNT_BIPHASE = satNat 16 (s.get SPD_RX_CNT_BIPHASE + 1) ∧ u.bit CLK_EVT_SUM_SLIP 4 = true ∧
      u.get (CLK_MON_CNT_SLIPS 4) = satNat 16 (s.get (CLK_MON_CNT_SLIPS 4) + 1) ∧ u.spd.slip = true ∧ u.spd.capPos = none ∧
      0x0202 ∈ u.occ ∧ Quiet [SPD_RX_CNT_BIPHASE, CLK_MON_CNT_SLIPS 4, CLK_EVT_SUM_SLIP] s u := by
  obtain ⟨h1, h2, h3, h4, h5, h6, h7⟩ := s.biphaseError_shown off
  have harm : (s.biphaseError off).spd.armed = s.spd.armed := by
    rw [State.biphaseError]
    dsimp only
    rw [State.spd_monGlitch, State.bump_eq, State.put_spd]
  have heq : ∃ d : Spd, spdSubframe ch w start (some off) s = { s.biphaseError off with spd := d } ∧ d.slip = true ∧ d.capPos = none := by
    generalize hv : s.biphaseError off = v at *
    unfold spdSubframe
    rw [if_neg (not_not_intro hs)]
    dsimp only
    rw [hv, harm]
    rcases h with h | h
    · rw [if_pos h]
      exact ⟨v.spd, rfl, h4, h5⟩
    · by_cases ha : s.spd.armed = true
      · rw [if_pos ha]
        exact ⟨v.spd, rfl, h4, h5⟩
      · rw [if_neg ha, h, if_pos (by decide)]
        exact ⟨_, rfl, h4, h5⟩
  obtain ⟨d, hd, hslip, hcap⟩ := heq
  dsimp only
  rw [hd]
  generalize s.biphaseError off = v at *
  rw [State.bit, State.get_mk, State.get_mk, State.get_mk, ← State.bit]
  exact ⟨h1, h2, h3, hslip, hcap, h6, Quiet.update h7⟩

/-! ### A block ends -/

theorem foldl_put_get_ne {f : Nat → Fld} (g : Nat → Nat) (xs : List Nat) {h : Fld} (hne : ∀ i ∈ xs, Fld.key h ≠ Fld.key (f i)) (s : State) :
    (xs.foldl (fun s k => s.put (f k) (g k)) s).get h = s.get h := by
  induction xs generalizing s with
  | nil => rfl
  | cons x xs ih =>
    rw [List.foldl_cons, ih (fun i hi => hne i (List.mem_cons_of_mem _ hi)), State.get_put_ne _ _ (hne x List.mem_cons_self)]

theorem foldl_put_get {f : Nat → Fld} (g : Nat → Nat) (xs : List Nat) (hinj : ∀ i ∈ xs, ∀ j ∈ xs, Fld.key (f i) = Fld.key (f j) → i = j)
    (hnd : xs.Nodup) (s : State) {i : Nat} (hi : i ∈ xs) :
    (xs.foldl (fun s k => s.put (f k) (g k)) s).get (f i) = g i % 2 ^ (f i).width := by
  induction xs generalizing s with
  | nil => exact absurd hi List.not_mem_nil
  | cons x xs ih =>
    obtain ⟨hx, hnd⟩ := List.nodup_cons.1 hnd
    rw [List.foldl_cons]
    by_cases hix : i ∈ xs
    · exact ih (fun a ha b hb => hinj a (List.mem_cons_of_mem _ ha) b (List.mem_cons_of_mem _ hb)) hnd _ hix
    · obtain rfl := (List.mem_cons.1 hi).resolve_right hix
      rw [foldl_put_get_ne _ _ fun j hj he => hix (hinj _ hi j (List.mem_cons_of_mem _ hj) he ▸ hj), State.get_put_same]

/-- A family of six 64-bit registers. -/
structure SixRegs (f : Nat → Fld) : Prop where
  width : ∀ i, (f i).width = 64
  key : ∀ i j, Fld.key (f i) = Fld.key (f j) → i = j

theorem sixRegs_rxCs : SixRegs SPD_RX_CS_DATA := ⟨fun _ => rfl, fun i j h => by simp only [Fld.key, SPD_RX_CS_DATA] at h; omega⟩

theorem sixRegs_rxUd : SixRegs SPD_RX_UD_DATA := ⟨fun _ => rfl, fun i j h => by simp only [Fld.key, SPD_RX_UD_DATA] at h; omega⟩

theorem State.get_putSix {f : Nat → Fld} (hf : SixRegs f) (s : State) (ws : List Nat) {i : Nat} (hi : i < 6) :
    (s.putSix f ws).get (f i) = ws.getD i 0 % 2 ^ 64 := by
  rw [State.putSix, foldl_put_get _ _ (fun a _ b _ h => hf.key a b h) List.nodup_range _ (List.mem_range.2 hi), hf.width]

theorem State.get_putSix_ne {f : Nat → Fld} (s : State) (ws : List Nat) {g : Fld} (hg : ∀ i < 6, Fld.key g ≠ Fld.key (f i)) :
    (s.putSix f ws).get g = s.get g :=
  foldl_put_get_ne _ _ (fun i hi => hg i (List.mem_range.1 hi)) s

theorem State.putSix_eq (f : Nat → Fld) (s : State) (ws : List Nat) : ∃ r, s.putSix f ws = { s with regs := r } := by
  unfold State.putSix
  generalize List.range 6 = xs
  induction xs generalizing s with
  | nil => exact ⟨s.regs, rfl⟩
  | cons x xs ih => exact ih (s.put (f x) (ws.getD x 0))

theorem sixWords_getD (c : Nat × Nat) (k : Fin 3) :
    (sixWords c).getD k 0 = bits c.1 (64 * k) 64 ∧ (sixWords c).getD (k + 3) 0 = bits c.2 (64 * k) 64 := by
  unfold sixWords
  fin_cases k <;> exact ⟨rfl, rfl⟩

/-- The state in which the captured block has been latched (R208). -/
def State.blockLatched (s : State) : State :=
  let t := (s.putSix SPD_RX_CS_DATA (sixWords s.spd.capC)).putSix SPD_RX_UD_DATA (sixWords s.spd.capU)
  { t.put SPD_RX_STAT_BLOCK_SEQ (t.get SPD_RX_STAT_BLOCK_SEQ + 1) with
      spd := { t.spd with latched := true, parPrev := t.spd.parNow, parNow := false, capPos := none } }

theorem State.blockLatched_shown (s : State) :
    let u := s.blockLatched
    (∀ k : Fin 3, u.get (SPD_RX_CS_DATA k) = bits s.spd.capC.1 (64 * k) 64 ∧ u.get (SPD_RX_CS_DATA (k + 3)) = bits s.spd.capC.2 (64 * k) 64 ∧
      u.get (SPD_RX_UD_DATA k) = bits s.spd.capU.1 (64 * k) 64 ∧ u.get (SPD_RX_UD_DATA (k + 3)) = bits s.spd.capU.2 (64 * k) 64) ∧
      u.spd.capPos = none ∧ u.get SPD_RX_STAT_BLOCK_SEQ = (s.get SPD_RX_STAT_BLOCK_SEQ + 1) % 2 ^ 16 ∧ SameBytes s u := by
  obtain ⟨r1, h1⟩ := State.putSix_eq SPD_RX_CS_DATA s (sixWords s.spd.capC)
  obtain ⟨r2, h2⟩ := State.putSix_eq SPD_RX_UD_DATA (s.putSix SPD_RX_CS_DATA (sixWords s.spd.capC)) (sixWords s.spd.capU)
  have hseq : ((s.putSix SPD_RX_CS_DATA (sixWords s.spd.capC)).putSix SPD_RX_UD_DATA (sixWords s.spd.capU)).get SPD_RX_STAT_BLOCK_SEQ =
      s.get SPD_RX_STAT_BLOCK_SEQ := by
    rw [State.get_putSix_ne, State.get_putSix_ne]
    all_goals
      intro i hi
      simp only [Fld.key, SPD_RX_STAT_BLOCK_SEQ, SPD_RX_CS_DATA, SPD_RX_UD_DATA]
      omega
  have hcs {i : Nat} (hi : i < 6) : s.blockLatched.get (SPD_RX_CS_DATA i) = (sixWords s.spd.capC).getD i 0 % 2 ^ 64 := by
    unfold State.blockLatched
    dsimp only
    rw [State.get_mk, State.get_put_ne, State.get_putSix_ne, State.get_putSix sixRegs_rxCs _ _ hi]
    · intro j hj
      simp only [Fld.key, SPD_RX_CS_DATA, SPD_RX_UD_DATA]
      omega
    · simp only [Fld.key, SPD_RX_CS_DATA, SPD_RX_STAT_BLOCK_SEQ]
      omega
  have hud {i : Nat} (hi : i < 6) : s.blockLatched.get (SPD_RX_UD_DATA i) = (sixWords s.spd.capU).getD i 0 % 2 ^ 64 := by
    unfold State.blockLatched
    dsimp only
    rw [State.get_mk, State.get_put_ne, State.get_putSix sixRegs_rxUd _ _ hi]
    simp only [Fld.key, SPD_RX_UD_DATA, SPD_RX_STAT_BLOCK_SEQ]
    omega
  refine ⟨fun k => ?_, rfl, ?_, fun a => ?_⟩
  · obtain ⟨c1, c2⟩ := sixWords_getD s.spd.capC k
    obtain ⟨d1, d2⟩ := sixWords_getD s.spd.capU k
    have hk := k.isLt
    rw [hcs (by omega), hcs (by omega), hud (by omega), hud (by omega), c1, c2, d1, d2]
    have hm (w : Nat) : bits w (64 * k) 64 % 2 ^ 64 = bits w (64 * k) 64 := Nat.mod_eq_of_lt (bits_lt _ _ _)
    exact ⟨hm _, hm _, hm _, hm _⟩
  · unfold State.blockLatched
    dsimp only
    rw [State.get_mk, State.get_put_same, hseq]
    rfl
  · unfold State.blockLatched
    dsimp only
    rw [State.memByte, State.put_mem, State.put_nvs, State.put_flash, h2, h1]
    exact ⟨rfl, rfl, rfl⟩

/-- R208, R209: what follows the latched words tells of their change. -/
theorem spdBlockEnd_latches (hs : s.get SPD_RX_STAT_STATE = 2) (hcap : s.spd.capPos = some 192) :
    let u := spdBlockEnd s
    u.get SPD_RX_STAT_NONPCM = bits s.spd.capC.1 1 1 ∧ u.spd.capPos = none ∧
      Quiet [SPD_SUM_CS_CHG, SPD_RX_STAT_NONPCM, SPD_SUM_NONPCM_CHG] s.blockLatched u := by
  obtain ⟨-, hpos, -, -⟩ := s.blockLatched_shown
  have hq0 := Quiet.refl [SPD_SUM_CS_CHG, SPD_RX_STAT_NONPCM, SPD_SUM_NONPCM_CHG] s.blockLatched
  have hword : bits ((sixWords s.spd.capC).getD 0 0) 1 1 = bits s.spd.capC.1 1 1 := by
    have h0 := (sixWords_getD s.spd.capC 0).1
    simp only [Fin.val_zero, Nat.mul_zero] at h0
    rw [h0]
    simp only [bits, Nat.shiftRight_eq_div_pow]
    omega
  unfold spdBlockEnd
  rw [if_neg (by rw [hs, hcap]; simp)]
  extract_lets +onlyGivenNames ws changed old s1 s2 src s3 s4 n s5
  have h3 : s3 = s.blockLatched := rfl
  rw [← h3] at hq0 hpos ⊢
  clear_value s3
  have hq4 : Quiet [SPD_SUM_CS_CHG, SPD_RX_STAT_NONPCM, SPD_SUM_NONPCM_CHG] s3 s4 ∧ s4.spd.capPos = none := by
    unfold s4
    split
    · exact ⟨Quiet.post (hq0.put (by decide) 1) _ _ _, by rw [State.post_spd, State.put_spd, hpos]⟩
    · exact ⟨hq0, hpos⟩
  clear_value s4
  have hn : s5.get SPD_RX_STAT_NONPCM = bits s.spd.capC.1 1 1 := by
    unfold s5
    rw [State.get_put_same, ← hword]
    exact Nat.mod_eq_of_lt (bits_lt _ _ _)
  have hq5 : Quiet [SPD_SUM_CS_CHG, SPD_RX_STAT_NONPCM, SPD_SUM_NONPCM_CHG] s3 s5 ∧ s5.spd.capPos = none :=
    ⟨hq4.1.put (by decide) n, hq4.2⟩
  clear_value s5
  dsimp only
  split_ifs
  · exact ⟨hn, hq5.2, hq5.1⟩
  · refine ⟨?_, by rw [State.post_spd, State.put_spd, hq5.2], Quiet.post (hq5.1.put (by decide) 1) _ _ _⟩
    rw [State.get_post (by decide), State.get_put_ne _ _ (by decide), hn]

theorem spdBlockEnd_spec (hs : s.get SPD_RX_STAT_STATE = 2) (hcap : s.spd.capPos = some 192) :
    let u := spdBlockEnd s
    (∀ k : Fin 3, u.get (SPD_RX_CS_DATA k) = bits s.spd.capC.1 (64 * k) 64 ∧ u.get (SPD_RX_CS_DATA (k + 3)) = bits s.spd.capC.2 (64 * k) 64 ∧
      u.get (SPD_RX_UD_DATA k) = bits s.spd.capU.1 (64 * k) 64 ∧ u.get (SPD_RX_UD_DATA (k + 3)) = bits s.spd.capU.2 (64 * k) 64) ∧
      u.spd.capPos = none ∧ u.get SPD_RX_STAT_BLOCK_SEQ = (s.get SPD_RX_STAT_BLOCK_SEQ + 1) % 2 ^ 16 ∧
      u.get SPD_RX_STAT_NONPCM = bits s.spd.capC.1 1 1 ∧ SameBytes s u := by
  obtain ⟨h1, -, h3, h4⟩ := s.blockLatched_shown
  obtain ⟨h5, h6, h7⟩ := spdBlockEnd_latches hs hcap
  have hread {f : Fld} (hf : f.lo < 64 ∧ 0xE06018 ≤ f.addr ∧ f.addr < 0xE06078) : (spdBlockEnd s).get f = s.blockLatched.get f := by
    refine h7.get (fldIn_eq_false_of_addr hf.1 ?_) (fldIn_eventFlds_of_page ⟨hf.1, by omega, by omega⟩)
    simp only [List.forall_mem_cons, SPD_SUM_CS_CHG, SPD_RX_STAT_NONPCM, SPD_SUM_NONPCM_CHG, List.not_mem_nil, false_imp_iff, implies_true,
      and_true]
    omega
  refine ⟨fun k => ?_, h6, ?_, h5, fun a => ?_⟩
  · obtain ⟨k1, k2, k3, k4⟩ := h1 k
    have hk := k.isLt
    rw [hread, hread, hread, hread]
    · exact ⟨k1, k2, k3, k4⟩
    all_goals
      simp only [SPD_RX_CS_DATA, SPD_RX_UD_DATA]
      omega
  · rw [h7.get (by decide) (by decide), h3]
  · obtain ⟨b1, b2, b3⟩ := h4 a
    obtain ⟨c1, c2, c3⟩ := h7.1 a
    exact ⟨c1.trans b1, c2.trans b2, c3.trans b3⟩

/-! ### The transmitter -/

/-- The transmitter's configuration fields written. -/
def State.putTxCfg (s : State) (v : Nat) : State :=
  (((((s.put SPD_TX_CFG_EN (bits v 0 1)).put SPD_TX_CFG_CS_SRC (bits v 1 1)).put SPD_TX_CFG_UD_SRC (bits v 2 1)).put
    SPD_TX_CFG_CS_AUTO_FS (bits v 3 1)).put SPD_TX_CFG_START_MODE (bits v 4 1)).put SPD_TX_CFG_MUTE (bits v 5 1)

/-- The fields that a write of SPD_TX_CFG may change. -/
def txCfgFlds : List Fld :=
  [SPD_TX_CFG_EN, SPD_TX_CFG_CS_SRC, SPD_TX_CFG_UD_SRC, SPD_TX_CFG_CS_AUTO_FS, SPD_TX_CFG_START_MODE, SPD_TX_CFG_MUTE, SPD_TX_STAT_STATE]

theorem State.putTxCfg_shown (s : State) (v : Nat) :
    let u := s.putTxCfg v
    u.get SPD_TX_CFG_EN = bits v 0 1 ∧ u.get SPD_TX_CFG_CS_SRC = bits v 1 1 ∧ u.get SPD_TX_CFG_UD_SRC = bits v 2 1 ∧
      u.get SPD_TX_CFG_CS_AUTO_FS = bits v 3 1 ∧ u.get SPD_TX_CFG_MUTE = bits v 5 1 ∧ u.get SPD_TX_STAT_STATE = s.get SPD_TX_STAT_STATE ∧
      u.spd = s.spd ∧ u.portHold = s.portHold ∧ Quiet txCfgFlds s u := by
  have hmod (k : Nat) : bits v k 1 % 2 ^ 1 = bits v k 1 := Nat.mod_eq_of_lt (bits_lt v k 1)
  have hq : Quiet txCfgFlds s (s.putTxCfg v) := Quiet.put (Quiet.put (Quiet.put (Quiet.put (Quiet.put (Quiet.put (Quiet.refl _ s)
    (by decide) _) (by decide) _) (by decide) _) (by decide) _) (by decide) _) (by decide) _
  refine ⟨?_, ?_, ?_, ?_, ?_, ?_, ?_, ?_, hq⟩
  all_goals simp (disch := decide) only [State.putTxCfg, State.get_put_ne, State.get_put_same, State.put_spd, State.put_portHold]
  · exact hmod 0
  · exact hmod 1
  · exact hmod 2
  · exact hmod 3
  · exact hmod 5

theorem spdTxCfgWrite_off {v : Nat} (hen : bitOf v 0 = false) :
    let u := spdTxCfgWrite v s
    u.get SPD_TX_STAT_STATE = 0 ∧ u.get SPD_TX_CFG_EN = 0 ∧ u.get SPD_TX_CFG_MUTE = bits v 5 1 ∧ Quiet txCfgFlds s u := by
  obtain ⟨h1, -, -, -, h5, -, -, -, hq⟩ := s.putTxCfg_shown v
  have heq : ∃ d, spdTxCfgWrite v s = { (s.putTxCfg v).put SPD_TX_STAT_STATE 0 with spd := d } := by
    unfold spdTxCfgWrite
    dsimp only
    rw [if_pos (by rw [hen]; decide)]
    exact ⟨_, rfl⟩
  obtain ⟨d, hd⟩ := heq
  dsimp only
  rw [hd]
  generalize s.putTxCfg v = t at *
  refine ⟨?_, ?_, ?_, Quiet.update (hq.put (by decide) 0)⟩
  all_goals rw [State.get_mk]
  · rw [State.get_put_same, Nat.zero_mod]
  · rw [State.get_put_ne _ _ (by decide), h1, bits_one_eq_b2n, hen]
    rfl
  · rw [State.get_put_ne _ _ (by decide), h5]

/-- R199: an idle transmitter is enabled. -/
theorem spdTxCfgWrite_on {v : Nat} (hen : bitOf v 0 = true) (hs : s.get SPD_TX_STAT_STATE = 0) (hhold : s.portHold = false)
    (hb : s.spd.beginB = false) :
    let u := spdTxCfgWrite v s
    u.get SPD_TX_STAT_STATE = bits v 4 1 ∧ u.get SPD_TX_CFG_EN = 1 ∧ u.get SPD_TX_CFG_CS_SRC = bits v 1 1 ∧
      u.get SPD_TX_CFG_UD_SRC = bits v 2 1 ∧ u.get SPD_TX_CFG_CS_AUTO_FS = bits v 3 1 ∧
      (bitOf v 4 = false → u.spd.beginNext = true) ∧ Quiet txCfgFlds s u := by
  obtain ⟨h1, h2, h3, h4, -, h6, h7, h8, hq⟩ := s.putTxCfg_shown v
  have heq : ∃ d : Spd, spdTxCfgWrite v s = { (s.putTxCfg v).put SPD_TX_STAT_STATE (bits v 4 1) with spd := d } ∧
      (bitOf v 4 = false → d.beginNext = true) := by
    have hgo : ¬ ((s.putTxCfg v).get SPD_TX_STAT_STATE = 2 ∨ (s.putTxCfg v).portHold = true) := by
      rw [h6, h8, hs, hhold]
      decide
    unfold spdTxCfgWrite
    rw [if_neg (not_not_intro hen)]
    show ∃ d : Spd, (if (s.putTxCfg v).get SPD_TX_STAT_STATE = 2 ∨ (s.putTxCfg v).portHold = true then s.putTxCfg v else
      if bitOf v 4 = true then { (s.putTxCfg v).put SPD_TX_STAT_STATE 1 with spd := { (s.putTxCfg v).spd with beginNext := false } }
      else { (s.putTxCfg v).put SPD_TX_STAT_STATE 0 with spd := { (s.putTxCfg v).spd with beginNext := !(s.putTxCfg v).spd.beginB } }) = _ ∧ _
    rw [if_neg hgo, bits_one_eq_b2n]
    cases h : bitOf v 4 with
    | false => exact ⟨_, rfl, fun _ => by rw [h7, hb]; rfl⟩
    | true => exact ⟨_, rfl, fun h => absurd h (by decide)⟩
  obtain ⟨d, hd, hnext⟩ := heq
  dsimp only
  rw [hd]
  generalize s.putTxCfg v = t at *
  refine ⟨?_, ?_, ?_, ?_, ?_, hnext, Quiet.update (hq.put (by decide) _)⟩
  all_goals rw [State.get_mk]
  · rw [State.get_put_of_lt]
    have := bits_lt v 4 1
    exact Nat.lt_trans this (by decide)
  · rw [State.get_put_ne _ _ (by decide), h1, bits_one_eq_b2n, hen]
    rfl
  · rw [State.get_put_ne _ _ (by decide), h2]
  · rw [State.get_put_ne _ _ (by decide), h3]
  · rw [State.get_put_ne _ _ (by decide), h4]

/-- R211: the six words that a write of the last one commits. -/
theorem State.getSix_committed {f : Nat → Fld} (hf : SixRegs f) (hpend : ∀ i, Fld.key (f i) ≠ Fld.key SPD_TX_STAT_CS_PEND) (s : State)
    (v : Word) :
    ((s.put (f 5) v.toNat).put SPD_TX_STAT_CS_PEND 1).getSix f =
      [s.get (f 0), s.get (f 1), s.get (f 2), s.get (f 3), s.get (f 4), v.toNat] := by
  have hne {i : Nat} (hi : i ≠ 5) : ((s.put (f 5) v.toNat).put SPD_TX_STAT_CS_PEND 1).get (f i) = s.get (f i) := by
    rw [State.get_put_ne _ _ (hpend i), State.get_put_ne _ _ fun he => hi (hf.key i 5 he)]
  have hlast : ((s.put (f 5) v.toNat).put SPD_TX_STAT_CS_PEND 1).get (f 5) = v.toNat := by
    rw [State.get_put_ne _ _ (hpend 5), State.get_put_same, hf.width]
    exact Nat.mod_eq_of_lt v.isLt
  simp only [State.getSix, List.range, List.range.loop, List.map_cons, List.map_nil, hlast]
  rw [hne (by decide), hne (by decide), hne (by decide), hne (by decide), hne (by decide)]

theorem State.get_committed (s : State) {f : Fld} (hf : f.width = 64) (hpend : Fld.key f ≠ Fld.key SPD_TX_STAT_CS_PEND) (v : Word) :
    ((s.put f v.toNat).put SPD_TX_STAT_CS_PEND 1).get SPD_TX_STAT_CS_PEND = 1 ∧
      ((s.put f v.toNat).put SPD_TX_STAT_CS_PEND 1).get f = v.toNat ∧
      Quiet [f, SPD_TX_STAT_CS_PEND] s ((s.put f v.toNat).put SPD_TX_STAT_CS_PEND 1) := by
  refine ⟨?_, ?_, ((Quiet.refl _ s).put (by simp [fldIn]) _).put (by simp [fldIn]) 1⟩
  · rw [State.get_put_same]
    rfl
  · rw [State.get_put_ne _ _ hpend, State.get_put_same, hf]
    exact Nat.mod_eq_of_lt v.isLt

theorem sixRegs_txCs : SixRegs SPD_TX_CS_DATA := ⟨fun _ => rfl, fun i j h => by simp only [Fld.key, SPD_TX_CS_DATA] at h; omega⟩

theorem sixRegs_txUd : SixRegs SPD_TX_UD_DATA := ⟨fun _ => rfl, fun i j h => by simp only [Fld.key, SPD_TX_UD_DATA] at h; omega⟩

theorem key_txData_ne (i : Nat) : Fld.key (SPD_TX_CS_DATA i) ≠ Fld.key SPD_TX_STAT_CS_PEND ∧
    Fld.key (SPD_TX_UD_DATA i) ≠ Fld.key SPD_TX_STAT_CS_PEND := by
  simp only [Fld.key, SPD_TX_CS_DATA, SPD_TX_UD_DATA, SPD_TX_STAT_CS_PEND]
  omega

theorem txCsCommit_spec (s : State) (v : Word) :
    let u := txCsCommit v.toNat s
    u.get SPD_TX_STAT_CS_PEND = 1 ∧ u.get (SPD_TX_CS_DATA 5) = v.toNat ∧
      u.spd.csPend = some [s.get (SPD_TX_CS_DATA 0), s.get (SPD_TX_CS_DATA 1), s.get (SPD_TX_CS_DATA 2), s.get (SPD_TX_CS_DATA 3),
        s.get (SPD_TX_CS_DATA 4), v.toNat] ∧ Quiet [SPD_TX_CS_DATA 5, SPD_TX_STAT_CS_PEND] s u := by
  obtain ⟨h1, h2, h3⟩ := s.get_committed (f := SPD_TX_CS_DATA 5) rfl (key_txData_ne 5).1 v
  have h4 := State.getSix_committed sixRegs_txCs (fun i => (key_txData_ne i).1) s v
  dsimp only [txCsCommit]
  rw [State.get_mk, State.get_mk]
  exact ⟨h1, h2, congrArg some h4, Quiet.update h3⟩

theorem txUdCommit_spec (s : State) (v : Word) :
    let u := txUdCommit v.toNat s
    u.get SPD_TX_STAT_CS_PEND = 1 ∧ u.get (SPD_TX_UD_DATA 5) = v.toNat ∧
      u.spd.udPend = some [s.get (SPD_TX_UD_DATA 0), s.get (SPD_TX_UD_DATA 1), s.get (SPD_TX_UD_DATA 2), s.get (SPD_TX_UD_DATA 3),
        s.get (SPD_TX_UD_DATA 4), v.toNat] ∧ Quiet [SPD_TX_UD_DATA 5, SPD_TX_STAT_CS_PEND] s u := by
  obtain ⟨h1, h2, h3⟩ := s.get_committed (f := SPD_TX_UD_DATA 5) rfl (key_txData_ne 5).2 v
  have h4 := State.getSix_committed sixRegs_txUd (fun i => (key_txData_ne i).2) s v
  dsimp only [txUdCommit]
  rw [State.get_mk, State.get_mk]
  exact ⟨h1, h2, congrArg some h4, Quiet.update h3⟩

/-- R210 to R212: a block starts with the committed or the received words. -/
theorem spdTxBlockStart_spec (hs : s.get SPD_TX_STAT_STATE = 2) (hpos : 192 ≤ s.spd.pos) :
    let u := spdTxBlockStart s
    u.spd.pos = 0 ∧ u.get SPD_TX_STAT_BLOCK_SEQ = (s.get SPD_TX_STAT_BLOCK_SEQ + 1) % 2 ^ 16 ∧ u.get SPD_TX_STAT_CS_PEND = 0 ∧
      u.spd.cs = (if s.on SPD_TX_CFG_CS_SRC then s.getSix SPD_RX_CS_DATA else s.spd.csPend.getD s.spd.csReg) ∧
      u.spd.ud = (if s.on SPD_TX_CFG_UD_SRC then s.getSix SPD_RX_UD_DATA else s.spd.udPend.getD s.spd.udReg) ∧
      Quiet [SPD_TX_STAT_BLOCK_SEQ, SPD_TX_STAT_CS_PEND] s u := by
  dsimp only
  unfold spdTxBlockStart
  dsimp only
  rw [if_neg (by rw [hs]; omega)]
  refine ⟨rfl, ?_, ?_, rfl, rfl, Quiet.update (((Quiet.refl _ s).put (by decide) _).put (by decide) 0)⟩
  · rw [State.get_mk, State.get_put_ne _ _ (by decide), State.get_put_same]
    rfl
  · rw [State.get_mk, State.get_put_same, Nat.zero_mod]

/-- Settles O11: the receiver and the transmitter, command by command, by the lemmas above. -/
theorem spdifReceivesAndTransmits : Obligations.SpdifReceivesAndTransmits := by
  unfold Obligations.SpdifReceivesAndTransmits
  refine ⟨fun s => ⟨fun v hen => ⟨_, rfl, spdRxCfgWrite_off hen⟩, fun v hen hs hhold => ⟨_, rfl, spdRxCfgWrite_on hen hs hhold⟩,
    fun rate hr hs => ⟨_, rfl, spdLock_spec hr hs⟩, fun hs => ⟨_, rfl, spdUnlock_spec hs⟩,
    fun w hs harm hpar => ⟨_, rfl, spdSubframe_first hs harm hpar⟩,
    fun w a hs harm hslip hpar hhalf hnew => ⟨_, rfl, spdSubframe_second hs harm hslip hpar hhalf hnew⟩,
    fun w hs hpar => ⟨_, rfl, spdSubframe_parity hs hpar⟩, fun w off ch start hs h => ⟨_, rfl, spdSubframe_error hs h⟩,
    fun hs hcap => ⟨_, rfl, if_pos (.inr hcap)⟩, fun hs hcap => ⟨_, rfl, spdBlockEnd_spec hs hcap⟩⟩, fun s v => ?_⟩
  exact ⟨fun hen => ⟨_, rfl, spdTxCfgWrite_off hen⟩, fun hen hs hhold hb => ⟨_, rfl, spdTxCfgWrite_on hen hs hhold hb⟩,
    ⟨_, rfl, txCsCommit_spec s v⟩, ⟨_, rfl, txUdCommit_spec s v⟩, fun hs hpos => ⟨_, rfl, spdTxBlockStart_spec hs hpos⟩⟩

end Sys2Proof.Machine
end

section
/-! Analog inputs (R219, R224, R229, R230, R232): configuration, start, settling and gain steps. -/

namespace Sys2Proof.Machine

variable {l : List Fld} {s t : State} {n : Nat}

/-- An event that occurs is among those that occurred. -/
theorem State.mem_occ_post (s : State) {c : Nat} (v p : Nat) (h : c / 256 ≠ 0x13) : c ∈ (s.post c v p).occ := by
  rw [State.post_occ _ _ _ h]
  exact List.mem_append_right _ (List.mem_singleton.2 rfl)

/-- A register at another address than those of the list, and on no page of the events', keeps its value. -/
theorem Quiet.get_of_addr {f : Fld} (h : Quiet l s t) (hf : f.lo < 64 ∧ f.addr / 4096 ≠ 0xE0E ∧ f.addr / 4096 ≠ 0xE10)
    (hl : ∀ g ∈ l, g.lo < 64 ∧ g.addr ≠ f.addr) : t.get f = s.get f :=
  h.get (fldIn_eq_false_of_addr hf.1 hl) (fldIn_eventFlds_of_page hf)

/-! ### A channel's hidden state -/

@[simp] theorem State.ain_setAin_same (s : State) (n : Nat) (x : Ain) : (s.setAin n x).ain n = x := mapGet_set_same _ _ _ _

@[simp] theorem State.get_setAin (s : State) (n : Nat) (x : Ain) (f : Fld) : (s.setAin n x).get f = s.get f := rfl

@[simp] theorem State.ain_put (s : State) (f : Fld) (v n : Nat) : (s.put f v).ain n = s.ain n := rfl

@[simp] theorem State.ain_post (s : State) (c v p n : Nat) : (s.post c v p).ain n = s.ain n := by
  rw [State.ain, State.post_ains, State.ain]

theorem Quiet.setAin (h : Quiet l s t) (n : Nat) (x : Ain) : Quiet l s (t.setAin n x) := h.other rfl rfl rfl rfl

/-! ### Settling -/

/-- What settling shows of channel `n`: a RUNNING channel is SETTLING, and no other register than SETTLE_LEFT changes. -/
structure AinSettles (n : Nat) (s u : State) : Prop where
  state : u.get (AIN_STAT_STATE n) = if s.get (AIN_STAT_STATE n) = 3 then 2 else s.get (AIN_STAT_STATE n)
  other : ∀ f, Fld.key f ≠ Fld.key (AIN_STAT_STATE n) → Fld.key f ≠ Fld.key (AIN_STAT_SETTLE_LEFT n) → u.get f = s.get f
  sel : (u.ain n).sel = (s.ain n).sel
  pend : (u.ain n).pend = (s.ain n).pend
  quiet : Quiet [AIN_STAT_STATE n, AIN_STAT_SETTLE_LEFT n] s u
  occ : u.occ = s.occ

theorem State.get_showSettle (s : State) (n : Nat) {f : Fld} (h : Fld.key f ≠ Fld.key (AIN_STAT_SETTLE_LEFT n)) :
    (s.showSettle n).get f = s.get f := State.get_put_ne _ _ h

theorem Quiet.showSettle (h : Quiet l s t) (hf : fldIn l (AIN_STAT_SETTLE_LEFT n) = true) : Quiet l s (t.showSettle n) := h.put hf _

theorem ainState_ne_settleLeft : Fld.key (AIN_STAT_STATE n) ≠ Fld.key (AIN_STAT_SETTLE_LEFT n) := by
  simp only [Fld.key, AIN_STAT_STATE, AIN_STAT_SETTLE_LEFT]
  omega

theorem State.ainUnsettled_settles (s : State) (n : Nat) : AinSettles n s (s.ainUnsettled n) ∧ (s.ainUnsettled n).ain n = s.ain n := by
  unfold State.ainUnsettled State.ainState
  split
  · next h =>
    exact ⟨⟨by rw [State.get_put_same, if_pos h]; rfl, fun f h1 h2 => by rw [State.get_put_ne _ _ h1, State.get_showSettle _ _ h2], rfl, rfl,
      Quiet.put (Quiet.showSettle (Quiet.refl _ s) (by simp [fldIn])) (by simp [fldIn]) 2, rfl⟩, rfl⟩
  · next h =>
    exact ⟨⟨by rw [State.get_showSettle _ _ ainState_ne_settleLeft, if_neg h], fun f _ h2 => State.get_showSettle _ _ h2, rfl, rfl,
      Quiet.showSettle (Quiet.refl _ s) (by simp [fldIn]), rfl⟩, rfl⟩

/-- A window of a channel that changes in its hidden state only what the windows are. -/
theorem State.ainUnsettled_setAin (s : State) (n : Nat) {x : Ain} (hsel : x.sel = (s.ain n).sel) (hpend : x.pend = (s.ain n).pend) :
    AinSettles n s ((s.setAin n x).ainUnsettled n) ∧ ((s.setAin n x).ainUnsettled n).ain n = x := by
  obtain ⟨h, hx⟩ := (s.setAin n x).ainUnsettled_settles n
  rw [State.ain_setAin_same] at hx
  refine ⟨⟨h.state, h.other, by rw [hx, hsel], by rw [hx, hpend], Quiet.trans ((Quiet.refl _ s).setAin n x) h.quiet, h.occ⟩, hx⟩

theorem State.ainSettle_settles (s : State) (n z a : Nat) : AinSettles n s (s.ainSettle n z a) :=
  (s.ainUnsettled_setAin n (x := { s.ain n with zeros := max (s.ain n).zeros z, win := max (s.ain n).win (z + a) }) rfl rfl).1

theorem State.ainBiasSettle_settles (s : State) (n ramp : Nat) :
    AinSettles n s (s.ainBiasSettle n ramp) ∧ ((s.ainBiasSettle n ramp).ain n).win = (s.ain n).win := by
  obtain ⟨h, hx⟩ := s.ainUnsettled_setAin n (x := { s.ain n with
    biasWin := max (s.ain n).biasWin (ramp + s.spanF (s.get (AIN_CFG_FILT n))) }) rfl rfl
  exact ⟨h, (congrArg Ain.win hx).trans rfl⟩

/-- The registers of a channel's state that a gain step or a change may write. -/
def ainStatFlds (n : Nat) : List Fld :=
  [AIN_STAT_STATE n, AIN_STAT_CFG_ERR n, AIN_STAT_OVR n, AIN_STAT_ZC_WAIT n, AIN_STAT_PGA_APPLIED n, AIN_STAT_SETTLE_LEFT n]

/-- The registers of a channel's configuration. -/
def ainCfgFlds (n : Nat) : List Fld :=
  [AIN_CFG_EN n, AIN_CFG_INMODE n, AIN_CFG_PGA n, AIN_CFG_FILT n, AIN_CFG_HPF n, AIN_CFG_PGA_ZC n, AIN_CFG_ZC_TO n, AIN_CFG_BIAS_SEL n]

theorem AinSettles.of_subset {u : State} (h : AinSettles n t u) (hq : Quiet l s t) (hl : [AIN_STAT_STATE n, AIN_STAT_SETTLE_LEFT n] ⊆ l) :
    Quiet l s u := hq.trans (h.quiet.of_subset hl)

/-- No register of the analog inputs is an event's. -/
theorem fldIn_eventFlds_ain {f : Fld} (h : f.lo < 64 ∧ 0xE07000 ≤ f.addr ∧ f.addr ≤ 0xE07118) : fldIn eventFlds f = false :=
  fldIn_eventFlds_of_page (by omega)

/-! ### A gain step -/

/-- R219: a gain step is taken. -/
theorem State.ainStep_shown (s : State) (n : Nat) :
    let u := s.ainStep n
    u.get (AIN_STAT_PGA_APPLIED n) = s.get (AIN_CFG_PGA n) % 2 ^ 7 ∧ u.get (AIN_STAT_ZC_WAIT n) = 0 ∧ (u.ain n).pend = none ∧
      u.get (AIN_CNT_GAIN_STEPS n) = satNat 16 (s.get (AIN_CNT_GAIN_STEPS n) + 1) ∧
      u.get (AIN_STAT_STATE n) = (if s.get (AIN_STAT_STATE n) = 3 then 2 else s.get (AIN_STAT_STATE n)) ∧
      (∀ f, f.lo < 64 → f.addr ≠ 0xE07008 + 0x20 * n → Fld.key f ≠ Fld.key (AIN_CNT_GAIN_STEPS n) → u.get f = s.get f) ∧
      u.occ = s.occ ∧
      Quiet (AIN_CNT_GAIN_STEPS n :: ainStatFlds n) s u := by
  unfold State.ainStep
  extract_lets +onlyGivenNames s1 x s2
  have hq : Quiet (AIN_CNT_GAIN_STEPS n :: ainStatFlds n) s s2 :=
    Quiet.setAin (Quiet.put (Quiet.bump (Quiet.put (Quiet.refl _ s) (by simp [fldIn, ainStatFlds]) _) (by simp [fldIn, ainStatFlds]))
      (by simp [fldIn, ainStatFlds]) 0) _ _
  have hkeys : Fld.key (AIN_STAT_PGA_APPLIED n) ≠ Fld.key (AIN_STAT_ZC_WAIT n) ∧
      Fld.key (AIN_STAT_PGA_APPLIED n) ≠ Fld.key (AIN_CNT_GAIN_STEPS n) ∧
      Fld.key (AIN_CNT_GAIN_STEPS n) ≠ Fld.key (AIN_STAT_ZC_WAIT n) ∧
      Fld.key (AIN_CNT_GAIN_STEPS n) ≠ Fld.key (AIN_STAT_PGA_APPLIED n) := by
    simp only [Fld.key, AIN_STAT_PGA_APPLIED, AIN_STAT_ZC_WAIT, AIN_CNT_GAIN_STEPS]
    omega
  have hother : ∀ f, Fld.key f ≠ Fld.key (AIN_STAT_PGA_APPLIED n) → Fld.key f ≠ Fld.key (AIN_CNT_GAIN_STEPS n) →
      Fld.key f ≠ Fld.key (AIN_STAT_ZC_WAIT n) → s2.get f = s.get f := fun f h1 h2 h3 => by
    rw [State.get_setAin, State.get_put_ne _ _ h3, State.get_bump_ne _ h2, State.get_put_ne _ _ h1]
  obtain ⟨k1, k2, k3, k4⟩ := hkeys
  have hpga : s2.get (AIN_STAT_PGA_APPLIED n) = s.get (AIN_CFG_PGA n) % 2 ^ 7 := by
    rw [State.get_setAin, State.get_put_ne _ _ k1, State.get_bump_ne _ k2, State.get_put_same]
    rfl
  have hzc : s2.get (AIN_STAT_ZC_WAIT n) = 0 := by
    rw [State.get_setAin, State.get_put_same, Nat.zero_mod]
  have hcnt : s2.get (AIN_CNT_GAIN_STEPS n) = satNat 16 (s.get (AIN_CNT_GAIN_STEPS n) + 1) := by
    rw [State.get_setAin, State.get_put_ne _ _ k3, State.get_bump_same, State.get_put_ne _ _ k4]
    rfl
  have hst : s2.get (AIN_STAT_STATE n) = s.get (AIN_STAT_STATE n) := by
    apply hother <;> simp only [Fld.key, AIN_STAT_PGA_APPLIED, AIN_STAT_ZC_WAIT, AIN_CNT_GAIN_STEPS, AIN_STAT_STATE] <;> omega
  have hp : (s2.ain n).pend = none := by rw [State.ain_setAin_same]
  have ho : s2.occ = s.occ := rfl
  clear_value s2
  have h := s2.ainSettle_settles n 0 (s2.spanF (s2.get (AIN_CFG_FILT n)))
  dsimp only
  refine ⟨?_, ?_, h.pend.trans hp, ?_, by rw [h.state, hst], fun f hlo h1 h2 => ?_, h.occ.trans ho,
    h.of_subset hq (by simp [ainStatFlds])⟩
  · rw [h.other _ _ _, hpga] <;> simp only [Fld.key, AIN_STAT_PGA_APPLIED, AIN_STAT_STATE, AIN_STAT_SETTLE_LEFT] <;> omega
  · rw [h.other _ _ _, hzc] <;> simp only [Fld.key, AIN_STAT_ZC_WAIT, AIN_STAT_STATE, AIN_STAT_SETTLE_LEFT] <;> omega
  · rw [h.other _ _ _, hcnt] <;> simp only [Fld.key, AIN_CNT_GAIN_STEPS, AIN_STAT_STATE, AIN_STAT_SETTLE_LEFT] <;> omega
  · have hk {g : Fld} (hg : g.lo < 64 ∧ g.addr = 0xE07008 + 0x20 * n) : Fld.key f ≠ Fld.key g := by
      simp only [Fld.key]
      omega
    rw [h.other _ (hk ⟨show 0 < 64 by decide, rfl⟩) (hk ⟨show 32 < 64 by decide, rfl⟩),
      hother _ (hk ⟨show 8 < 64 by decide, rfl⟩) h2 (hk ⟨show 5 < 64 by decide, rfl⟩)]

/-- R219: a gain step that has waited for its zero crossing is taken. -/
theorem ainZcTimeout_spec (hn : n < 6) {f : Nat} (hp : (s.ain n).pend = some f)
    (ht : s.framesOfMs (s.get (AIN_CFG_ZC_TO n) + 1) ≤ s.frameAgo f) :
    let u := ainZcTimeout n s
    u.get (AIN_CNT_ZC_TIMEOUTS n) = satNat 16 (s.get (AIN_CNT_ZC_TIMEOUTS n) + 1) ∧ u.bit AIN_SUM_ZC_TO n = true ∧
      u.get (AIN_STAT_PGA_APPLIED n) = s.get (AIN_CFG_PGA n) % 2 ^ 7 ∧ u.get (AIN_STAT_ZC_WAIT n) = 0 ∧ (u.ain n).pend = none ∧
      0x0703 ∈ u.occ ∧ Quiet (ainStatFlds n ++ [AIN_CNT_ZC_TIMEOUTS n, AIN_CNT_GAIN_STEPS n, AIN_SUM_ZC_TO]) s u := by
  have heq : ainZcTimeout n s = (((s.bump (AIN_CNT_ZC_TIMEOUTS n)).setBit AIN_SUM_ZC_TO n).post 0x0703 sevInfo
      (pack [p16 n, p16 (((s.bump (AIN_CNT_ZC_TIMEOUTS n)).setBit AIN_SUM_ZC_TO n).get (AIN_CFG_PGA n))])).ainStep n := by
    unfold ainZcTimeout
    rw [hp]
    exact if_pos ht
  have hq : Quiet (ainStatFlds n ++ [AIN_CNT_ZC_TIMEOUTS n, AIN_CNT_GAIN_STEPS n, AIN_SUM_ZC_TO]) s
      ((s.bump (AIN_CNT_ZC_TIMEOUTS n)).setBit AIN_SUM_ZC_TO n) :=
    Quiet.setBit (Quiet.bump (Quiet.refl _ s) (by simp [fldIn, ainStatFlds])) (by simp [fldIn, ainStatFlds]) n
  have hcnt : ((s.bump (AIN_CNT_ZC_TIMEOUTS n)).setBit AIN_SUM_ZC_TO n).get (AIN_CNT_ZC_TIMEOUTS n) =
      satNat 16 (s.get (AIN_CNT_ZC_TIMEOUTS n) + 1) := by
    rw [State.get_setBit_ne _ _ (by simp only [Fld.key, AIN_CNT_ZC_TIMEOUTS, AIN_SUM_ZC_TO]; omega), State.get_bump_same]
    rfl
  have hsum : ((s.bump (AIN_CNT_ZC_TIMEOUTS n)).setBit AIN_SUM_ZC_TO n).bit AIN_SUM_ZC_TO n = true := State.bit_setBit_same _ hn
  have hpga : ((s.bump (AIN_CNT_ZC_TIMEOUTS n)).setBit AIN_SUM_ZC_TO n).get (AIN_CFG_PGA n) = s.get (AIN_CFG_PGA n) := by
    rw [State.get_setBit_ne, State.get_bump_ne] <;> simp only [Fld.key, AIN_CNT_ZC_TIMEOUTS, AIN_SUM_ZC_TO, AIN_CFG_PGA] <;> omega
  dsimp only
  rw [heq]
  generalize (s.bump (AIN_CNT_ZC_TIMEOUTS n)).setBit AIN_SUM_ZC_TO n = t at *
  obtain ⟨h1, h2, h3, -, -, h4, h5, h6⟩ := (t.post 0x0703 sevInfo (pack [p16 n, p16 (t.get (AIN_CFG_PGA n))])).ainStep_shown n
  refine ⟨?_, ?_, ?_, h2, h3, ?_, Quiet.trans (hq.post _ _ _) (h6.of_subset (by simp [ainStatFlds]))⟩
  · rw [h4 _ (show 16 < 64 by decide) (by simp only [AIN_CNT_ZC_TIMEOUTS]; omega) (by simp only [Fld.key, AIN_CNT_ZC_TIMEOUTS, AIN_CNT_GAIN_STEPS]; omega),
      State.get_post (fldIn_eventFlds_ain (by simp only [AIN_CNT_ZC_TIMEOUTS]; omega)), hcnt]
  · rw [State.bit, h4 _ (by decide) (by simp only [AIN_SUM_ZC_TO]; omega) (by simp only [Fld.key, AIN_SUM_ZC_TO, AIN_CNT_GAIN_STEPS]; omega),
      State.get_post (by decide)]
    exact hsum
  · rw [h1, State.get_post (fldIn_eventFlds_ain (by simp only [AIN_CFG_PGA]; omega)), hpga]
  · rw [h5]
    exact State.mem_occ_post _ _ _ (by decide)

/-! ### Configuration -/

theorem State.ainOff_shown (s : State) (n : Nat) :
    let u := s.ainOff n
    u.get (AIN_STAT_STATE n) = 0 ∧ u.get (AIN_STAT_SETTLE_LEFT n) = 0 ∧
      (∀ f, f.lo < 64 → f.addr ≠ 0xE07008 + 0x20 * n → u.get f = s.get f) ∧ Quiet (ainStatFlds n) s u ∧
      u.get (AIN_STAT_CFG_ERR n) = s.get (AIN_STAT_CFG_ERR n) := by
  have hq : Quiet (ainStatFlds n) s (s.ainOff n) :=
    Quiet.other (u := s.ainOff n) (Quiet.setAin (Quiet.put (Quiet.put (Quiet.put (Quiet.put (Quiet.refl _ s)
      (f := AIN_STAT_STATE n) (by simp [fldIn, ainStatFlds]) 0)
      (f := AIN_STAT_SETTLE_LEFT n) (by simp [fldIn, ainStatFlds]) 0) (f := AIN_STAT_ZC_WAIT n) (by simp [fldIn, ainStatFlds]) 0)
      (f := AIN_STAT_OVR n) (by simp [fldIn, ainStatFlds]) 0) n Ain.reset) rfl rfl rfl rfl
  have hget (f : Fld) : (s.ainOff n).get f = ((((s.put (AIN_STAT_STATE n) 0).put (AIN_STAT_SETTLE_LEFT n) 0).put
      (AIN_STAT_ZC_WAIT n) 0).put (AIN_STAT_OVR n) 0).get f := rfl
  refine ⟨?_, ?_, fun f h1 h2 => ?_, hq, ?_⟩
  · rw [hget]
    simp (disch := simp only [Fld.key, AIN_STAT_STATE, AIN_STAT_SETTLE_LEFT, AIN_STAT_ZC_WAIT, AIN_STAT_OVR]; omega) only
      [State.get_put_ne, State.get_put_same, Nat.zero_mod]
  · rw [hget]
    simp (disch := simp only [Fld.key, AIN_STAT_STATE, AIN_STAT_SETTLE_LEFT, AIN_STAT_ZC_WAIT, AIN_STAT_OVR]; omega) only
      [State.get_put_ne, State.get_put_same, Nat.zero_mod]
  · rw [hget]
    simp (disch := simp only [Fld.key, AIN_STAT_STATE, AIN_STAT_SETTLE_LEFT, AIN_STAT_ZC_WAIT, AIN_STAT_OVR]; omega) only
      [State.get_put_ne]
  · rw [hget]
    simp (disch := simp only [Fld.key, AIN_STAT_STATE, AIN_STAT_SETTLE_LEFT, AIN_STAT_ZC_WAIT, AIN_STAT_OVR, AIN_STAT_CFG_ERR]; omega)
      only [State.get_put_ne]

/-- The fields of a channel's configuration hold the image `v`. -/
def AinTaken (n v : Nat) (u : State) : Prop :=
  u.get (AIN_CFG_EN n) = bits v 0 1 ∧ u.get (AIN_CFG_INMODE n) = bits v 1 2 ∧ u.get (AIN_CFG_PGA n) = bits v 3 7 ∧
    u.get (AIN_CFG_FILT n) = bits v 10 1 ∧ u.get (AIN_CFG_HPF n) = bits v 11 3 ∧ u.get (AIN_CFG_PGA_ZC n) = bits v 14 1 ∧
    u.get (AIN_CFG_ZC_TO n) = bits v 15 5 ∧ u.get (AIN_CFG_BIAS_SEL n) = bits v 20 2

theorem State.putAinCfg_taken (s : State) (n v : Nat) :
    AinTaken n v (s.putAinCfg n v) ∧ Quiet (ainCfgFlds n) s (s.putAinCfg n v) ∧
      (∀ f, f.lo < 64 → f.addr ≠ 0xE07000 + 0x20 * n → (s.putAinCfg n v).get f = s.get f) := by
  unfold AinTaken State.putAinCfg
  dsimp only
  refine ⟨?_, ?_, fun f h1 h2 => ?_⟩
  · simp (disch := simp only [Fld.key, AIN_CFG_EN, AIN_CFG_INMODE, AIN_CFG_PGA, AIN_CFG_FILT, AIN_CFG_HPF, AIN_CFG_PGA_ZC, AIN_CFG_ZC_TO,
      AIN_CFG_BIAS_SEL]; omega) only [State.get_put_ne, State.get_put_same]
    exact ⟨Nat.mod_eq_of_lt (bits_lt _ _ _), Nat.mod_eq_of_lt (bits_lt _ _ _), Nat.mod_eq_of_lt (bits_lt _ _ _),
      Nat.mod_eq_of_lt (bits_lt _ _ _), Nat.mod_eq_of_lt (bits_lt _ _ _), Nat.mod_eq_of_lt (bits_lt _ _ _),
      Nat.mod_eq_of_lt (bits_lt _ _ _), Nat.mod_eq_of_lt (bits_lt _ _ _)⟩
  · exact Quiet.put (Quiet.put (Quiet.put (Quiet.put (Quiet.put (Quiet.put (Quiet.put (Quiet.put (Quiet.refl _ s)
      (by simp [fldIn, ainCfgFlds]) _) (by simp [fldIn, ainCfgFlds]) _) (by simp [fldIn, ainCfgFlds]) _) (by simp [fldIn, ainCfgFlds]) _)
      (by simp [fldIn, ainCfgFlds]) _) (by simp [fldIn, ainCfgFlds]) _) (by simp [fldIn, ainCfgFlds]) _) (by simp [fldIn, ainCfgFlds]) _
  · simp (disch := simp only [Fld.key, AIN_CFG_EN, AIN_CFG_INMODE, AIN_CFG_PGA, AIN_CFG_FILT, AIN_CFG_HPF, AIN_CFG_PGA_ZC, AIN_CFG_ZC_TO,
      AIN_CFG_BIAS_SEL]; omega) only [State.get_put_ne]

theorem AinTaken.congr {v : Nat} (h : AinTaken n v s) (hget : ∀ f, f.lo < 64 → f.addr = 0xE07000 + 0x20 * n → t.get f = s.get f) :
    AinTaken n v t := by
  unfold AinTaken at *
  rwa [hget _ (show 0 < 64 by decide) rfl, hget _ (show 1 < 64 by decide) rfl, hget _ (show 3 < 64 by decide) rfl,
    hget _ (show 10 < 64 by decide) rfl, hget _ (show 11 < 64 by decide) rfl, hget _ (show 14 < 64 by decide) rfl,
    hget _ (show 15 < 64 by decide) rfl, hget _ (show 20 < 64 by decide) rfl]

/-- R224, R234: an invalid configuration turns the channel off. -/
theorem ainCfgWrite_invalid (hn : n < 6) {v : Nat} (hv : ainInvalid v = true) :
    let u := ainCfgWrite n v s
    u.get (AIN_STAT_STATE n) = 0 ∧ u.get (AIN_STAT_CFG_ERR n) = 1 ∧ u.bit AIN_SUM_CFG_ERR n = true ∧ 0x0704 ∈ u.occ ∧
      Quiet (ainCfgFlds n ++ ainStatFlds n ++ [AIN_SUM_CFG_ERR]) s u := by
  obtain ⟨-, hq, -⟩ := s.putAinCfg_taken n v
  obtain ⟨h1, -, -, h4, -⟩ := (s.putAinCfg n v).ainOff_shown n
  have h3 : Quiet (ainCfgFlds n ++ ainStatFlds n ++ [AIN_SUM_CFG_ERR]) s ((s.putAinCfg n v).ainOff n) :=
    (hq.of_subset (by simp)).trans (h4.of_subset (by simp))
  dsimp only
  rw [ainCfgWrite, if_pos hv]
  generalize (s.putAinCfg n v).ainOff n = t at *
  refine ⟨?_, ?_, ?_, State.mem_occ_post _ _ _ (by decide), Quiet.post (Quiet.setBit (Quiet.put h3 (by simp [fldIn, ainStatFlds]) 1)
    (by simp [fldIn]) n) _ _ _⟩
  · rw [State.get_post (fldIn_eventFlds_ain (by simp only [AIN_STAT_STATE]; omega)), State.get_setBit_ne, State.get_put_ne, h1]
    all_goals
      simp only [Fld.key, AIN_STAT_STATE, AIN_SUM_CFG_ERR, AIN_STAT_CFG_ERR]
      omega
  · rw [State.get_post (fldIn_eventFlds_ain (by simp only [AIN_STAT_CFG_ERR]; omega)), State.get_setBit_ne, State.get_put_same]
    · rfl
    · simp only [Fld.key, AIN_SUM_CFG_ERR, AIN_STAT_CFG_ERR]
      omega
  · rw [State.bit, State.get_post (by decide)]
    exact State.bit_setBit_same _ hn

/-- The state in which a valid configuration has been taken. -/
def State.ainTaken (s : State) (n v : Nat) : State := (s.putAinCfg n v).put (AIN_STAT_CFG_ERR n) 0

theorem State.ainTaken_shown (s : State) (n v : Nat) :
    AinTaken n v (s.ainTaken n v) ∧ Quiet (AIN_STAT_CFG_ERR n :: ainCfgFlds n) s (s.ainTaken n v) ∧
      (s.ainTaken n v).get (AIN_STAT_CFG_ERR n) = 0 ∧
      (∀ f, f.lo < 64 → f.addr ≠ 0xE07000 + 0x20 * n → Fld.key f ≠ Fld.key (AIN_STAT_CFG_ERR n) → (s.ainTaken n v).get f = s.get f) := by
  obtain ⟨h1, h2, h3⟩ := s.putAinCfg_taken n v
  refine ⟨h1.congr fun f hlo ha => ?_, Quiet.put (h2.of_subset (by simp)) (by simp [fldIn]) 0, ?_, fun f hlo ha hk => ?_⟩
  · rw [State.ainTaken, State.get_put_ne]
    simp only [Fld.key, AIN_STAT_CFG_ERR]
    omega
  · rw [State.ainTaken, State.get_put_same, Nat.zero_mod]
  · rw [State.ainTaken, State.get_put_ne _ _ hk, h3 _ hlo ha]

/-- A valid configuration. -/
theorem ainCfgWrite_eq {v : Nat} (hv : ainInvalid v = false) :
    ainCfgWrite n v s = if ¬ bitOf v 0 then (s.ainTaken n v).ainOff n
      else if (s.ainTaken n v).ainState n = 0 then (s.ainTaken n v).setAin n { (s.ainTaken n v).ain n with begin_ := true }
      else if (s.ainTaken n v).ainState n = 1 then s.ainTaken n v else (s.ainTaken n v).ainChanges s n := by
  rw [ainCfgWrite, if_neg (by rw [hv]; decide)]
  rfl

theorem State.ainState_ainTaken (s : State) (n v : Nat) : (s.ainTaken n v).ainState n = s.get (AIN_STAT_STATE n) := by
  obtain ⟨-, -, -, h⟩ := s.ainTaken_shown n v
  refine h _ (show 0 < 64 by decide) ?_ ?_ <;> simp only [Fld.key, AIN_STAT_STATE, AIN_STAT_CFG_ERR] <;> omega

/-- R224: a channel that is not enabled goes OFF. -/
theorem ainCfgWrite_off {v : Nat} (hv : ainInvalid v = false) (hen : bitOf v 0 = false) :
    let u := ainCfgWrite n v s
    u.get (AIN_STAT_STATE n) = 0 ∧ u.get (AIN_STAT_CFG_ERR n) = 0 ∧ u.get (AIN_STAT_SETTLE_LEFT n) = 0 ∧ AinTaken n v u ∧
      Quiet (ainCfgFlds n ++ ainStatFlds n) s u := by
  obtain ⟨h1, h2, h3, -⟩ := s.ainTaken_shown n v
  obtain ⟨h4, h5, h6, h7, h8⟩ := (s.ainTaken n v).ainOff_shown n
  dsimp only
  rw [ainCfgWrite_eq hv, if_pos (by rw [hen]; decide)]
  exact ⟨h4, h8.trans h3, h5, h1.congr fun f hlo ha => h6 f hlo (by omega),
    (h2.of_subset (by simp [ainStatFlds])).trans (h7.of_subset (by simp))⟩

/-- R224: an enabled channel that is OFF is to start. -/
theorem ainCfgWrite_begins {v : Nat} (hv : ainInvalid v = false) (hen : bitOf v 0 = true) (hs : s.get (AIN_STAT_STATE n) = 0) :
    let u := ainCfgWrite n v s
    u.get (AIN_STAT_STATE n) = 0 ∧ (u.ain n).begin_ = true ∧ AinTaken n v u ∧ Quiet (ainCfgFlds n ++ [AIN_STAT_CFG_ERR n]) s u := by
  obtain ⟨h1, h2, -, -⟩ := s.ainTaken_shown n v
  have h3 := s.ainState_ainTaken n v
  dsimp only
  rw [ainCfgWrite_eq hv, if_neg (not_not_intro hen), if_pos (h3.trans hs)]
  exact ⟨h3.trans hs, by rw [State.ain_setAin_same], h1.congr fun f _ _ => rfl, Quiet.setAin (h2.of_subset (by simp)) _ _⟩

/-- `u` follows from `s` by changes of channel `n`, which is in state `c`. -/
structure AinFollows (n c : Nat) (s u : State) : Prop where
  state : u.get (AIN_STAT_STATE n) = c
  applied : u.get (AIN_STAT_PGA_APPLIED n) = s.get (AIN_STAT_PGA_APPLIED n)
  steps : u.get (AIN_CNT_GAIN_STEPS n) = s.get (AIN_CNT_GAIN_STEPS n)
  cfg : ∀ f, f.lo < 64 → f.addr = 0xE07000 + 0x20 * n → u.get f = s.get f
  quiet : Quiet (AIN_CNT_GAIN_STEPS n :: ainStatFlds n) s u

theorem AinFollows.settles {u : State} {c : Nat} (h : AinFollows n c s t) (hc : c = 2 ∨ c = 3) (k : AinSettles n t u) : AinFollows n 2 s u := by
  obtain ⟨h1, h2, h3, h4, h5⟩ := h
  refine ⟨?_, ?_, ?_, fun f hlo ha => ?_, k.of_subset h5 (by simp [ainStatFlds])⟩
  · rw [k.state, h1]
    rcases hc with rfl | rfl <;> rfl
  · rw [k.other, h2] <;> simp only [Fld.key, AIN_STAT_PGA_APPLIED, AIN_STAT_STATE, AIN_STAT_SETTLE_LEFT] <;> omega
  · rw [k.other, h3] <;> simp only [Fld.key, AIN_CNT_GAIN_STEPS, AIN_STAT_STATE, AIN_STAT_SETTLE_LEFT] <;> omega
  · rw [k.other, h4 f hlo ha] <;> simp only [Fld.key, AIN_STAT_STATE, AIN_STAT_SETTLE_LEFT] <;> omega

/-- A change that may or may not have happened on a SETTLING channel. -/
theorem AinFollows.settles_ite {u : State} {p : Prop} [Decidable p] (h : AinFollows n 2 s t) (k : AinSettles n t u) :
    AinFollows n 2 s (if p then u else t) := by
  split
  · exact h.settles (.inl rfl) k
  · exact h

/-- The gain changes of a RUNNING channel, without a wait for a zero crossing (R219). -/
theorem State.ainChanges_gain (s old : State) (n : Nat) (hs : s.get (AIN_STAT_STATE n) = 3)
    (hpga : (old.get (AIN_CFG_PGA n) != s.get (AIN_CFG_PGA n)) = true) (hzc : s.on (AIN_CFG_PGA_ZC n) = false) :
    let u := s.ainChanges old n
    u.get (AIN_STAT_STATE n) = 2 ∧ u.get (AIN_STAT_PGA_APPLIED n) = s.get (AIN_CFG_PGA n) % 2 ^ 7 ∧
      u.get (AIN_CNT_GAIN_STEPS n) = satNat 16 (s.get (AIN_CNT_GAIN_STEPS n) + 1) ∧
      (∀ f, f.lo < 64 → f.addr = 0xE07000 + 0x20 * n → u.get f = s.get f) ∧ Quiet (AIN_CNT_GAIN_STEPS n :: ainStatFlds n) s u := by
  unfold State.ainChanges
  extract_lets +onlyGivenNames was f s1 x s2 s3 s4 y u
  have h0 : AinFollows n 3 s s := ⟨hs, rfl, rfl, fun _ _ _ => rfl, .refl _ s⟩
  have h1 : ∃ c, (c = 2 ∨ c = 3) ∧ AinFollows n c s s1 := by
    unfold s1
    split
    · exact ⟨2, .inl rfl, h0.settles (.inr rfl) (s.ainSettle_settles n _ _)⟩
    · exact ⟨3, .inr rfl, h0⟩
  clear_value s1
  obtain ⟨c, hc, h1⟩ := h1
  have hs2 : s2 = s1.ainStep n := by
    unfold s2
    rw [if_pos hpga, if_neg]
    rw [State.on, h1.cfg _ (show 14 < 64 by decide) rfl, ← State.on, hzc]
    decide
  clear_value s2
  obtain ⟨k1, -, -, k4, k5, k6, -, k8⟩ := s1.ainStep_shown n
  rw [← hs2] at k1 k4 k5 k6 k8
  have h2 : AinFollows n 2 s2 s2 := ⟨by rw [k5, h1.state]; rcases hc with rfl | rfl <;> rfl, rfl, rfl, fun _ _ _ => rfl, .refl _ s2⟩
  have h3 : AinFollows n 2 s2 s3 := h2.settles_ite (s2.ainSettle_settles n _ _)
  clear_value s3
  have h4 : AinFollows n 2 s2 s4 := h3.settles_ite (s3.ainSettle_settles n _ _)
  clear_value s4
  have h5 : AinFollows n 2 s2 u := by
    unfold u
    split
    · obtain ⟨k1, k2, k3, k4, k5⟩ := h4
      exact AinFollows.settles (t := s4.setAin n _) ⟨k1, k2, k3, k4, k5.setAin n _⟩ (.inl rfl) (State.ainBiasSettle_settles _ n _).1
    · exact h4
  clear_value u
  refine ⟨h5.state, h5.applied.trans ?_, h5.steps.trans ?_, fun f hlo ha => ?_, (h1.quiet.trans k8).trans h5.quiet⟩
  · rw [k1, h1.cfg _ (show 3 < 64 by decide) rfl]
  · rw [k4, h1.steps]
  · rw [h5.cfg _ hlo ha, k6 _ hlo (by omega), h1.cfg _ hlo ha]
    simp only [Fld.key, AIN_CNT_GAIN_STEPS]
    omega

/-- R219: a gain change of a RUNNING channel without zero-cross wait. -/
theorem ainCfgWrite_gain {v : Nat} (hv : ainInvalid v = false) (hen : bitOf v 0 = true) (hs : s.get (AIN_STAT_STATE n) = 3)
    (hpga : s.get (AIN_CFG_PGA n) ≠ bits v 3 7) (hzc : bitOf v 14 = false) :
    let u := ainCfgWrite n v s
    u.get (AIN_STAT_STATE n) = 2 ∧ u.get (AIN_STAT_PGA_APPLIED n) = bits v 3 7 ∧
      u.get (AIN_CNT_GAIN_STEPS n) = satNat 16 (s.get (AIN_CNT_GAIN_STEPS n) + 1) ∧ AinTaken n v u ∧
      Quiet (ainCfgFlds n ++ ainStatFlds n ++ [AIN_CNT_GAIN_STEPS n]) s u := by
  obtain ⟨h1, h2, -, h4⟩ := s.ainTaken_shown n v
  obtain ⟨-, -, hp, -, -, hz, -, -⟩ := id h1
  have h3 := s.ainState_ainTaken n v
  obtain ⟨k1, k2, k3, k4, k5⟩ := (s.ainTaken n v).ainChanges_gain s n (h3.trans hs) (by rw [hp]; simpa using hpga)
    (by rw [State.on, hz, bits_one_eq_b2n, hzc]; decide)
  dsimp only
  rw [ainCfgWrite_eq hv, if_neg (not_not_intro hen), if_neg (by rw [h3]; omega), if_neg (by rw [h3]; omega)]
  refine ⟨k1, by rw [k2, hp]; exact Nat.mod_eq_of_lt (bits_lt _ _ _), ?_,
    h1.congr k4, Quiet.trans (h2.of_subset (by simp [ainStatFlds])) (k5.of_subset (by simp))⟩
  rw [k3, h4 _ (show 32 < 64 by decide)] <;> simp only [AIN_CNT_GAIN_STEPS, Fld.key, AIN_STAT_CFG_ERR] <;> omega

/-! ### The start of a channel ends -/

/-- R224, R229, R232: the inserted zeros have elapsed. -/
theorem ainStartingEnd_spec (hs : s.get (AIN_STAT_STATE n) = 1) (hz : (s.ain n).zeros = 0) :
    let u := ainStartingEnd n s
    u.get (AIN_STAT_STATE n) = 2 ∧ u.get (AIN_STAT_PGA_APPLIED n) = s.get (AIN_CFG_PGA n) % 2 ^ 7 ∧
      (u.ain n).win = s.spanFH n ∧ (u.ain n).sel = s.get (AIN_CFG_BIAS_SEL n) ∧ Quiet (ainStatFlds n) s u := by
  unfold ainStartingEnd
  rw [if_pos ⟨hs, hz⟩]
  extract_lets +onlyGivenNames s1 changed x s2 u
  have hkey : Fld.key (AIN_STAT_STATE n) ≠ Fld.key (AIN_STAT_PGA_APPLIED n) := by
    simp only [Fld.key, AIN_STAT_STATE, AIN_STAT_PGA_APPLIED]
    omega
  have hcfg (f : Fld) (hlo : f.lo < 64) (ha : f.addr ≠ 0xE07008 + 0x20 * n) : s1.get f = s.get f := by
    unfold s1
    rw [State.get_put_ne, State.get_put_ne] <;> simp only [Fld.key, AIN_STAT_STATE, AIN_STAT_PGA_APPLIED] <;> omega
  have hspan : s1.spanFH n = s.spanFH n := by
    have hrate : s1.rate96 = s.rate96 := by
      rw [State.rate96, State.on, hcfg _ (by decide) (by simp only [CLK_DOMA_STAT_RATE]; omega), ← State.on, ← State.rate96]
    unfold State.spanFH State.spanF State.spanH State.atRate
    rw [hcfg (AIN_CFG_FILT n) (show 10 < 64 by decide) (by simp only [AIN_CFG_FILT]; omega),
      hcfg (AIN_CFG_HPF n) (show 11 < 64 by decide) (by simp only [AIN_CFG_HPF]; omega), hrate]
  have h2 : s2.get (AIN_STAT_STATE n) = 2 ∧ s2.get (AIN_STAT_PGA_APPLIED n) = s.get (AIN_CFG_PGA n) % 2 ^ 7 ∧
      (s2.ain n).win = s.spanFH n ∧ (s2.ain n).sel = s.get (AIN_CFG_BIAS_SEL n) ∧ Quiet (ainStatFlds n) s s2 := by
    refine ⟨?_, ?_, ?_, ?_, Quiet.setAin (Quiet.put (Quiet.put (Quiet.refl _ s) (by simp [fldIn, ainStatFlds]) 2)
      (by simp [fldIn, ainStatFlds]) _) _ _⟩
    · exact (State.get_put_ne _ _ hkey).trans (State.get_put_same _ _ _)
    · exact State.get_put_same _ _ _
    · unfold s2
      rw [State.ain_setAin_same, hspan]
    · unfold s2
      rw [State.ain_setAin_same, hcfg _ (show 20 < 64 by decide) (by simp only [AIN_CFG_BIAS_SEL]; omega)]
  clear_value s2
  obtain ⟨k1, k2, k3, k4, k5⟩ := h2
  have hsettle (ramp : Nat) : (s2.ainBiasSettle n ramp).get (AIN_STAT_STATE n) = 2 ∧
      (s2.ainBiasSettle n ramp).get (AIN_STAT_PGA_APPLIED n) = s.get (AIN_CFG_PGA n) % 2 ^ 7 ∧
      ((s2.ainBiasSettle n ramp).ain n).win = s.spanFH n ∧ ((s2.ainBiasSettle n ramp).ain n).sel = s.get (AIN_CFG_BIAS_SEL n) ∧
      Quiet (ainStatFlds n) s (s2.ainBiasSettle n ramp) := by
    obtain ⟨h, hwin⟩ := s2.ainBiasSettle_settles n ramp
    refine ⟨by rw [h.state, k1]; rfl, ?_, hwin.trans k3, h.sel.trans k4, h.of_subset k5 (by simp [ainStatFlds])⟩
    rw [h.other _ hkey.symm, k2]
    simp only [Fld.key, AIN_STAT_PGA_APPLIED, AIN_STAT_SETTLE_LEFT]
    omega
  unfold u
  split_ifs
  · exact hsettle _
  · exact hsettle _
  · refine ⟨(s2.get_showSettle n ainState_ne_settleLeft).trans k1, (s2.get_showSettle n ?_).trans k2, k3, k4,
      k5.showSettle (by simp [fldIn, ainStatFlds])⟩
    simp only [Fld.key, AIN_STAT_PGA_APPLIED, AIN_STAT_SETTLE_LEFT]
    omega

theorem ainSettleEnd_spec (hs : s.get (AIN_STAT_STATE n) = 2) (hz : (s.ain n).zeros = 0) (hw : (s.ain n).win = 0) (hb : (s.ain n).biasWin = 0) :
    let u := ainSettleEnd n s
    u.get (AIN_STAT_STATE n) = 3 ∧ Quiet [AIN_STAT_STATE n] s u := by
  dsimp only
  rw [ainSettleEnd, if_pos ⟨hs, hz, hw, hb⟩]
  exact ⟨State.get_put_same _ _ _, (Quiet.refl _ s).put (by simp [fldIn]) 3⟩

end Sys2Proof.Machine
end

section
/-! Bias outputs and the jacks' detectors, as privacy mute takes and returns them (R220, R229, R231, R255, R303 to R307). -/

namespace Sys2Proof.Machine

variable {l : List Fld} {s t u : State}

/-! ### One bit of a word -/

/-- The words differ in bit `i`, which is clear in the first. -/
theorem testBit_add_two_pow_ne {w i j : Nat} (hw : w.testBit i = false) (hj : j ≠ i) : (w + 2 ^ i).testBit j = w.testBit j := by
  rcases Nat.lt_or_gt_of_ne hj with h | h
  · rw [Nat.add_comm, Nat.testBit_two_pow_add_gt h]
  · obtain ⟨k, rfl⟩ := Nat.exists_eq_add_of_lt h
    have hdiv : (w + 2 ^ i) / 2 ^ i / 2 = w / 2 ^ i / 2 := by
      rw [Nat.testBit_eq_decide_div_mod_eq, decide_eq_false_iff_not] at hw
      rw [Nat.add_div_right _ (Nat.two_pow_pos i)]
      omega
    have hsplit (v : Nat) : v / 2 ^ (i + k + 1) = v / 2 ^ i / 2 / 2 ^ k := by
      rw [Nat.div_div_eq_div_mul, Nat.div_div_eq_div_mul, ← Nat.mul_assoc, ← Nat.pow_succ, ← Nat.pow_add]
      congr 2
      omega
    rw [Nat.testBit_eq_decide_div_mod_eq, Nat.testBit_eq_decide_div_mod_eq, hsplit, hsplit, hdiv]

theorem bitOf_setBitN_ne (w : Nat) {i j : Nat} (hj : j ≠ i) : bitOf (setBitN w i) j = bitOf w j := by
  unfold setBitN
  split
  · rfl
  · next h =>
    rw [bitOf_eq_testBit] at h
    rw [bitOf_eq_testBit, bitOf_eq_testBit, testBit_add_two_pow_ne (Bool.eq_false_of_not_eq_true h) hj]

/-- A word with bit `i` set is more than a power of two, above a word with that bit clear. -/
theorem exists_add_two_pow {w i : Nat} (h : bitOf w i = true) : ∃ v, w = v + 2 ^ i ∧ v.testBit i = false := by
  rw [bitOf_eq_testBit] at h
  refine ⟨w - 2 ^ i, (Nat.sub_add_cancel (Nat.ge_two_pow_of_testBit h)).symm, ?_⟩
  have h2 := Nat.testBit_two_pow_add_eq (w - 2 ^ i) i
  rw [Nat.add_comm, Nat.sub_add_cancel (Nat.ge_two_pow_of_testBit h), h] at h2
  cases hb : (w - 2 ^ i).testBit i
  · rfl
  · rw [hb] at h2
    exact absurd h2 (by decide)

theorem bitOf_clrBitN (w i j : Nat) : bitOf (clrBitN w i) j = (bitOf w j && j != i) := by
  unfold clrBitN
  by_cases hb : bitOf w i = true
  · obtain ⟨v, rfl, hv⟩ := exists_add_two_pow hb
    rw [if_pos hb, Nat.add_sub_cancel, bitOf_eq_testBit, bitOf_eq_testBit]
    by_cases hj : j = i
    · rw [hj, hv, bne_self_eq_false, Bool.and_false]
    · rw [testBit_add_two_pow_ne hv hj, bne_iff_ne.2 hj, Bool.and_true]
  · rw [if_neg hb]
    by_cases hj : j = i
    · rw [hj, Bool.eq_false_of_not_eq_true hb, Bool.false_and]
    · rw [bne_iff_ne.2 hj, Bool.and_true]

theorem bitOf_setBitN_of (w i j : Nat) (h : bitOf w j = true) : bitOf (setBitN w i) j = true := by
  by_cases hj : j = i
  · rw [hj, bitOf_setBitN]
  · rw [bitOf_setBitN_ne w hj, h]

/-! ### Bias outputs -/

/-- The registers that a bias output's start or stop changes: its state, and the state of every channel that settles with it. -/
def biasFlds : List Fld :=
  AIN_BIAS_STAT_ON :: (List.range 6).flatMap (fun n => [AIN_STAT_STATE n, AIN_STAT_SETTLE_LEFT n])

/-- Bias `k` is enabled and in its ramp. -/
def Ramps (k : Nat) (s : State) : Prop := s.on (AIN_BIAS_CFG_EN k) = true ∧ bitOf s.biasRamp k = true

theorem State.biasOff_quiet (s : State) (k : Nat) : Quiet [AIN_BIAS_STAT_ON] s (s.biasOff k) :=
  Quiet.update ((Quiet.refl _ s).clrBit (by decide) k)

theorem State.biasOff_biasRamp (s : State) (k : Nat) : (s.biasOff k).biasRamp = clrBitN s.biasRamp k := rfl

theorem Quiet.ainBiasSettle {n : Nat} (h : Quiet l s t) (hst : fldIn l (AIN_STAT_STATE n) = true)
    (hleft : fldIn l (AIN_STAT_SETTLE_LEFT n) = true) (ramp : Nat) : Quiet l s (t.ainBiasSettle n ramp) :=
  .ite (((h.setAin n _).showSettle hleft).put hst 2) ((h.setAin n _).showSettle hleft)

theorem State.biases_ainBiasSettle (s : State) (n ramp : Nat) :
    (s.ainBiasSettle n ramp).biasRamp = s.biasRamp ∧ (s.ainBiasSettle n ramp).detBias = s.detBias ∧ (s.ainBiasSettle n ramp).occ = s.occ := by
  unfold State.ainBiasSettle State.ainUnsettled
  dsimp only
  split <;> exact ⟨rfl, rfl, rfl⟩

theorem fldIn_biasFlds {n : Nat} (hn : n < 6) : fldIn biasFlds (AIN_STAT_STATE n) = true ∧ fldIn biasFlds (AIN_STAT_SETTLE_LEFT n) = true := by
  have h (f : Fld) (hf : f ∈ biasFlds) : fldIn biasFlds f = true := List.any_eq_true.2 ⟨f, hf, beq_self_eq_true _⟩
  constructor <;> refine h _ (List.mem_cons_of_mem _ (List.mem_flatMap.2 ⟨n, List.mem_range.2 hn, by simp⟩))

theorem State.biasStart_shown (s : State) (k : Nat) :
    Quiet biasFlds s (s.biasStart k) ∧ (s.biasStart k).biasRamp = setBitN s.biasRamp k ∧ (s.biasStart k).detBias = s.detBias ∧
      (s.biasStart k).occ = s.occ := by
  unfold State.biasStart
  extract_lets +onlyGivenNames s0 s1
  have h1 : Quiet biasFlds s s1 := Quiet.update ((Quiet.refl _ s).clrBit (by decide) k)
  have h2 : s1.biasRamp = setBitN s.biasRamp k := rfl
  have h3 : s1.detBias = s.detBias ∧ s1.occ = s.occ := ⟨rfl, rfl⟩
  clear_value s1
  refine List.foldlRecOn (motive := fun u => Quiet biasFlds s u ∧ u.biasRamp = setBitN s.biasRamp k ∧ u.detBias = s.detBias ∧
    u.occ = s.occ) _ _ ⟨h1, h2, h3⟩ fun t ⟨k1, k2, k3, k4⟩ n hn => ?_
  obtain ⟨hst, hleft⟩ := fldIn_biasFlds (List.mem_range.1 hn)
  obtain ⟨h4, h5, h6⟩ := t.biases_ainBiasSettle n (t.atRate 240)
  split
  · exact ⟨k1.ainBiasSettle hst hleft _, h4.trans k2, h5.trans k3, h6.trans k4⟩
  · exact ⟨k1, k2, k3, k4⟩

/-! ### The jacks -/

/-- The registers that jack `j` changes where it is identified, released or paused. -/
def jackFlds (j : Nat) : List Fld :=
  [DET_JACK_STAT_STATE j, DET_JACK_STAT_TYPE j, DET_JACK_STAT_BTN j, DET_JACK_STAT_CODE j, DET_SUM_ID, DET_SUM_BTN, HPO_STAT_JACK_MUTED] ++
    biasFlds

theorem mem_fldIn {f : Fld} (h : f ∈ l) : fldIn l f = true := List.any_eq_true.2 ⟨f, h, beq_self_eq_true _⟩

/-- The addresses of what jack `j` changes. -/
theorem jackFlds_addr {j : Nat} {g : Fld} (h : g ∈ jackFlds j) :
    g.lo < 64 ∧ (g.addr = 0xE0C108 + 0x20 * j ∨ g.addr = 0xE0C018 ∨ g.addr = 0xE09008 ∨ g.addr = 0xE07108 ∨
      (0xE07008 ≤ g.addr ∧ g.addr ≤ 0xE070A8 ∧ g.addr % 0x20 = 8)) := by
  rcases List.mem_append.1 h with h | h
  · simp only [List.mem_cons, List.not_mem_nil, or_false] at h
    rcases h with rfl | rfl | rfl | rfl | rfl | rfl | rfl <;>
      simp [DET_JACK_STAT_STATE, DET_JACK_STAT_TYPE, DET_JACK_STAT_BTN, DET_JACK_STAT_CODE, DET_SUM_ID, DET_SUM_BTN, HPO_STAT_JACK_MUTED]
  · have hb : ∀ g ∈ biasFlds, g.lo < 64 ∧ (g.addr = 0xE07108 ∨ (0xE07008 ≤ g.addr ∧ g.addr ≤ 0xE070A8 ∧ g.addr % 0x20 = 8)) := by
      decide
    obtain ⟨h1, h2⟩ := hb g h
    exact ⟨h1, .inr (.inr (.inr h2))⟩

/-- What an operation of jack `j` keeps: the registers but the jack's, and every enabled bias in its ramp. -/
structure JackMoves (j : Nat) (s u : State) : Prop where
  quiet : Quiet (jackFlds j) s u
  ramps : ∀ k < 3, Ramps k s → Ramps k u
  occ : s.occ ⊆ u.occ

theorem JackMoves.refl (j : Nat) (s : State) : JackMoves j s s := ⟨.refl _ s, fun _ _ h => h, List.Subset.refl _⟩

theorem JackMoves.trans {j : Nat} (h : JackMoves j s t) (k : JackMoves j t u) : JackMoves j s u :=
  ⟨h.quiet.trans k.quiet, fun i hi hr => k.ramps i hi (h.ramps i hi hr), List.Subset.trans h.occ k.occ⟩

/-- The enables of the bias outputs are none of a jack's registers. -/
theorem JackMoves.of_ramp {j : Nat} (h : Quiet (jackFlds j) s u)
    (hr : ∀ k < 3, s.on (AIN_BIAS_CFG_EN k) = true → bitOf s.biasRamp k = true → bitOf u.biasRamp k = true) (ho : s.occ ⊆ u.occ) :
    JackMoves j s u := by
  refine ⟨h, fun k hk ⟨hen, hb⟩ => ⟨?_, hr k hk hen hb⟩, ho⟩
  rw [State.on, h.get_of_addr (by simp only [AIN_BIAS_CFG_EN]; omega) fun g hg => ?_]
  · exact hen
  · obtain ⟨h1, h2⟩ := jackFlds_addr hg
    simp only [AIN_BIAS_CFG_EN]
    omega

theorem JackMoves.of_same {j : Nat} (h : Quiet (jackFlds j) s u) (hr : u.biasRamp = s.biasRamp) (ho : s.occ ⊆ u.occ) : JackMoves j s u :=
  .of_ramp h (fun k _ _ hb => by rw [hr]; exact hb) ho

theorem Quiet.setJack (h : Quiet l s t) (j : Nat) (x : Jack) : Quiet l s (t.setJack j x) := h.other rfl rfl rfl rfl

theorem State.setJack_moves (s : State) (j : Nat) (x : Jack) : JackMoves j s (s.setJack j x) := .of_same ((Quiet.refl _ s).setJack j x) rfl (List.Subset.refl _)

theorem State.jackMute_moves (s : State) (j : Nat) (on fast : Bool) : JackMoves j s (s.jackMute j on fast) :=
  .of_same (Quiet.put (Quiet.setJack (Quiet.refl _ s) j _) (mem_fldIn (by simp [jackFlds])) _) rfl (List.Subset.refl _)

theorem occ_subset_post (h : t.occ = s.occ) (c v p : Nat) : s.occ ⊆ (t.post c v p).occ :=
  fun _ hc => State.mem_post_occ t v p (h.symm ▸ hc)

theorem State.btnRelease_quiet (s : State) (j : Nat) :
    Quiet [DET_JACK_STAT_BTN j, DET_SUM_BTN] s (s.btnRelease j) ∧ (s.btnRelease j).biasRamp = s.biasRamp ∧ s.occ ⊆ (s.btnRelease j).occ := by
  unfold State.btnRelease
  dsimp only
  split
  · refine ⟨Quiet.post (Quiet.setBit (Quiet.put (Quiet.setJack (Quiet.refl _ s) j _) (mem_fldIn (by simp)) 0)
      (mem_fldIn (by simp)) j) _ _ _, ?_, occ_subset_post (by rfl) _ _ _⟩
    rw [State.post_biasRamp]
    rfl
  · exact ⟨(Quiet.refl _ s).setJack j _, rfl, List.Subset.refl _⟩

theorem State.btnRelease_moves (s : State) (j : Nat) : JackMoves j s (s.btnRelease j) :=
  .of_same ((s.btnRelease_quiet j).1.of_subset (by simp [jackFlds])) (s.btnRelease_quiet j).2.1 (s.btnRelease_quiet j).2.2

theorem State.detBiasOff_moves (s : State) (j b : Nat) : JackMoves j s (s.detBiasOff b) := by
  unfold State.detBiasOff
  split
  · exact .refl j s
  · dsimp only
    split
    · exact .of_same (Quiet.update (.refl _ s)) rfl (List.Subset.refl _)
    · next hb hen =>
      refine .of_ramp (Quiet.trans (Quiet.update (.refl _ s)) ((State.biasOff_quiet _ (b - 1)).of_subset (by simp [jackFlds, biasFlds])))
        (fun k hk he hr => ?_) (List.Subset.refl _)
      rw [State.biasOff_biasRamp, bitOf_clrBitN, Bool.and_eq_true]
      refine ⟨hr, bne_iff_ne.2 ?_⟩
      rintro rfl
      exact hen he

theorem State.detBiasOn_moves (s : State) (j b : Nat) : JackMoves j s (s.detBiasOn b) := by
  unfold State.detBiasOn
  split
  · exact .refl j s
  · extract_lets +onlyGivenNames was s1
    have h1 : JackMoves j s s1 := .of_same (Quiet.update (.refl _ s)) rfl (List.Subset.refl _)
    clear_value s1
    split
    · obtain ⟨h2, h3, -, h4⟩ := s1.biasStart_shown (b - 1)
      exact h1.trans (.of_ramp (h2.of_subset (List.subset_append_right _ _))
        (fun k _ _ hr => by rw [h3]; exact bitOf_setBitN_of _ _ _ hr) (fun _ hc => by rw [h4]; exact hc))
    · exact h1

theorem State.detReady_moves (s : State) (j type code : Nat) : JackMoves j s (s.detReady j type code) := by
  unfold State.detReady
  extract_lets +onlyGivenNames s1 s2 s3
  have h2 : JackMoves j s s2 := by
    refine .of_same (Quiet.post (Quiet.setBit (Quiet.put (Quiet.put (Quiet.put (Quiet.refl _ s) (mem_fldIn ?_) 5) (mem_fldIn ?_) type)
      (mem_fldIn ?_) code) (mem_fldIn ?_) j) _ _ _) ?_ (occ_subset_post (by rfl) _ _ _)
    · simp [jackFlds]
    · simp [jackFlds]
    · simp [jackFlds]
    · simp [jackFlds]
    · unfold s2 s1
      rw [State.post_biasRamp]
      rfl
  clear_value s2
  have h3 : JackMoves j s s3 := by
    unfold s3
    split
    · exact h2
    · exact h2.trans (s2.detBiasOff_moves j _)
  exact h3.trans (s3.jackMute_moves j _ _)

theorem State.identify_moves (s : State) (j : Nat) : JackMoves j s (s.identify j) := by
  unfold State.identify
  dsimp only
  split_ifs
  · exact s.detReady_moves j _ _
  · exact .of_same (Quiet.put (Quiet.refl _ s) (mem_fldIn (by simp [jackFlds])) 6) rfl (List.Subset.refl _)
  · exact JackMoves.trans (.of_same (Quiet.setJack (Quiet.put (Quiet.refl _ s) (f := DET_JACK_STAT_STATE j) (mem_fldIn (by simp [jackFlds])) 4) j _) rfl
      (List.Subset.refl _))
      (State.detBiasOn_moves _ j _)

/-! ### Microphone power -/

/-- The registers of MIC_PWR and of the microphones' clocks. -/
def pdmStatFlds : List Fld := [PDM_STAT_MIC_PWR_ON, PDM_STAT_CLK0_STATE, PDM_STAT_CLK1_STATE]

/-- MIC_PWR follows its condition (R237). -/
def State.micSwitched (s : State) : State :=
  if s.micWant && !s.on PDM_STAT_MIC_PWR_ON then { s.put PDM_STAT_MIC_PWR_ON 1 with micAt := s.tickC }
  else if !s.micWant && s.on PDM_STAT_MIC_PWR_ON then s.put PDM_STAT_MIC_PWR_ON 0 else s

/-- A clock that is not to run stops. -/
def State.clkStopped (s : State) (c : Nat) : State := if s.pdmWant c then s else s.put (pdmState c) 0

theorem State.pdmRefresh_eq (s : State) : s.pdmRefresh = (s.micSwitched.clkStopped 0).clkStopped 1 := rfl

theorem State.on_micSwitched (s : State) : s.micSwitched.on PDM_STAT_MIC_PWR_ON = s.micWant := by
  have hput (v : Nat) : (s.put PDM_STAT_MIC_PWR_ON v).get PDM_STAT_MIC_PWR_ON = v % 2 := State.get_put_same _ _ _
  unfold State.micSwitched
  cases hw : s.micWant <;> cases ho : s.on PDM_STAT_MIC_PWR_ON
  · exact ho
  · exact congrArg (· == 1) (hput 0)
  · exact congrArg (· == 1) (hput 1)
  · exact ho

theorem State.clkStopped_quiet (s : State) (c : Nat) : Quiet [pdmState c] s (s.clkStopped c) ∧ (s.clkStopped c).biasRamp = s.biasRamp ∧
    (s.clkStopped c).occ = s.occ ∧ (s.clkStopped c).tickC = s.tickC := by
  unfold State.clkStopped
  split
  · exact ⟨.refl _ s, rfl, rfl, rfl⟩
  · exact ⟨(Quiet.refl _ s).put (mem_fldIn (by simp)) 0, rfl, rfl, rfl⟩

theorem State.get_clkStopped_same (s : State) (c : Nat) : (s.clkStopped c).get (pdmState c) = if s.pdmWant c then s.get (pdmState c) else 0 := by
  unfold State.clkStopped
  split
  · rfl
  · rw [State.get_put_same, Nat.zero_mod]

theorem State.clkStopped_on (s : State) (c : Nat) : (s.clkStopped c).on PDM_STAT_MIC_PWR_ON = s.on PDM_STAT_MIC_PWR_ON := by
  rw [State.on, (s.clkStopped_quiet c).1.get _ (by decide), State.on]
  unfold pdmState
  split <;> decide

theorem State.pdmRefresh_quiet (s : State) : Quiet pdmStatFlds s s.pdmRefresh ∧ s.pdmRefresh.biasRamp = s.biasRamp ∧ s.pdmRefresh.occ = s.occ := by
  have h1 : Quiet pdmStatFlds s s.micSwitched ∧ s.micSwitched.biasRamp = s.biasRamp ∧ s.micSwitched.occ = s.occ := by
    unfold State.micSwitched
    split_ifs
    · exact ⟨Quiet.update ((Quiet.refl _ s).put (by decide) 1), rfl, rfl⟩
    · exact ⟨(Quiet.refl _ s).put (by decide) 0, rfl, rfl⟩
    · exact ⟨.refl _ s, rfl, rfl⟩
  rw [State.pdmRefresh_eq]
  generalize s.micSwitched = t at *
  obtain ⟨h2, h3, h4⟩ := h1
  obtain ⟨h5, h6, h7, -⟩ := t.clkStopped_quiet 0
  obtain ⟨h8, h9, h10, -⟩ := (t.clkStopped 0).clkStopped_quiet 1
  exact ⟨(h2.trans (h5.of_subset (by simp [pdmState, pdmStatFlds]))).trans (h8.of_subset (by simp [pdmState, pdmStatFlds])),
    (h9.trans h6).trans h3, (h10.trans h7).trans h4⟩

/-- R237: MIC_PWR is on where it is to be. -/
theorem State.pdmRefresh_on (s : State) : s.pdmRefresh.on PDM_STAT_MIC_PWR_ON = s.micWant := by
  rw [State.pdmRefresh_eq, State.clkStopped_on, State.clkStopped_on, State.on_micSwitched]

/-- R235: without MIC_PWR no clock runs. -/
theorem State.pdmRefresh_stops (s : State) (h : s.micWant = false) :
    s.pdmRefresh.get PDM_STAT_CLK0_STATE = 0 ∧ s.pdmRefresh.get PDM_STAT_CLK1_STATE = 0 := by
  have hoff : s.micSwitched.on PDM_STAT_MIC_PWR_ON = false := s.on_micSwitched.trans h
  have hwant {t : State} (c : Nat) (ht : t.on PDM_STAT_MIC_PWR_ON = false) : t.pdmWant c = false := by
    rw [State.pdmWant, ht]
    simp
  rw [State.pdmRefresh_eq]
  generalize s.micSwitched = t at *
  have h0 : (t.clkStopped 0).get (pdmState 0) = 0 := by rw [State.get_clkStopped_same, hwant 0 hoff]; rfl
  have h1 : ((t.clkStopped 0).clkStopped 1).get (pdmState 1) = 0 := by
    rw [State.get_clkStopped_same, hwant 1 ((t.clkStopped_on 0).trans hoff)]
    rfl
  exact ⟨(((t.clkStopped 0).clkStopped_quiet 1).1.get (by decide) (by decide)).trans h0, h1⟩

/-! ### Privacy mute (R255, R307) -/

/-- Jack `j` pauses if it is being identified or READY (R307). -/
def State.jackPaused (s : State) (j : Nat) : State :=
  if s.jackState j = 4 ∨ s.jackState j = 5 then (s.btnRelease j).put (DET_JACK_STAT_STATE j) 6 else s

/-- A PAUSED jack identifies anew, and one whose seat time has ended (R307). -/
def State.jackResumed (s : State) (j : Nat) : State :=
  if s.jackState j = 6 ∨ (s.jackState j = 3 ∧ (s.jack j).seated) then (s.setJack j { s.jack j with seated := false }).identify j else s

theorem State.jackPause_eq (s : State) : s.jackPause = (s.jackPaused 0).jackPaused 1 := rfl

theorem State.jackResume_eq (s : State) : s.jackResume = (s.jackResumed 0).jackResumed 1 := rfl

theorem State.jackPaused_quiet (s : State) (j : Nat) :
    Quiet [DET_JACK_STAT_STATE j, DET_JACK_STAT_BTN j, DET_SUM_BTN] s (s.jackPaused j) := by
  unfold State.jackPaused
  split
  · exact Quiet.put ((s.btnRelease_quiet j).1.of_subset (by simp)) (mem_fldIn (by simp)) 6
  · exact .refl _ s

theorem State.jackResumed_moves (s : State) (j : Nat) : JackMoves j s (s.jackResumed j) := by
  unfold State.jackResumed
  split
  · exact (s.setJack_moves j _).trans (State.identify_moves _ j)
  · exact .refl j s

theorem State.get_jackPaused_same (s : State) (j : Nat) (h : s.get (DET_JACK_STAT_STATE j) = 4 ∨ s.get (DET_JACK_STAT_STATE j) = 5) :
    (s.jackPaused j).get (DET_JACK_STAT_STATE j) = 6 := by
  rw [State.jackPaused, State.jackState, if_pos h, State.get_put_same]
  rfl

/-- The registers that both jacks' pauses change. -/
def pauseFlds : List Fld :=
  [DET_JACK_STAT_STATE 0, DET_JACK_STAT_BTN 0, DET_SUM_BTN, DET_JACK_STAT_STATE 1, DET_JACK_STAT_BTN 1]

theorem State.occ_jackPaused (s : State) (j : Nat) {c : Nat} (h : c ∈ s.occ) : c ∈ (s.jackPaused j).occ := by
  unfold State.jackPaused State.btnRelease
  dsimp only
  split
  · rw [State.put_occ]
    split
    · exact State.mem_post_occ _ _ _ h
    · exact h
  · exact h

theorem State.jackPause_shown (s : State) :
    Quiet pauseFlds s s.jackPause ∧ (∀ c ∈ s.occ, c ∈ s.jackPause.occ) ∧
      ∀ j < 2, s.get (DET_JACK_STAT_STATE j) = 4 ∨ s.get (DET_JACK_STAT_STATE j) = 5 → s.jackPause.get (DET_JACK_STAT_STATE j) = 6 := by
  have h0 := s.jackPaused_quiet 0
  have h1 := (s.jackPaused 0).jackPaused_quiet 1
  rw [State.jackPause_eq]
  refine ⟨(h0.of_subset (by simp [pauseFlds])).trans (h1.of_subset (by simp [pauseFlds])),
    fun c hc => State.occ_jackPaused _ 1 (s.occ_jackPaused 0 hc), fun j hj h => ?_⟩
  rcases Nat.lt_succ_iff_lt_or_eq.1 hj with hj | rfl
  · obtain rfl : j = 0 := by omega
    rw [h1.get (by decide) (by decide)]
    exact s.get_jackPaused_same 0 h
  · refine State.get_jackPaused_same _ 1 ?_
    rwa [h0.get (by decide) (by decide)]

/-- The registers that either jack changes. -/
def jacksFlds : List Fld := jackFlds 0 ++ jackFlds 1

theorem State.jackResume_shown (s : State) :
    Quiet jacksFlds s s.jackResume ∧ s.occ ⊆ s.jackResume.occ ∧ ∀ k < 3, Ramps k s → Ramps k s.jackResume := by
  have h0 := s.jackResumed_moves 0
  have h1 := (s.jackResumed 0).jackResumed_moves 1
  rw [State.jackResume_eq]
  exact ⟨(h0.quiet.of_subset (List.subset_append_left _ _)).trans (h1.quiet.of_subset (List.subset_append_right _ _)),
    List.Subset.trans h0.occ h1.occ, fun k hk h => h1.ramps k hk (h0.ramps k hk h)⟩

/-- Bias `k` ramps again if it may run. -/
def State.biasRestarted (s : State) (k : Nat) : State := if s.biasMay k then s.biasStart k else s

theorem foldl_range_three {α : Type} (f : α → Nat → α) (x : α) : (List.range 3).foldl f x = f (f (f x 0) 1) 2 := rfl

theorem State.biasRestart_eq (s : State) : s.biasRestart = ((s.biasRestarted 0).biasRestarted 1).biasRestarted 2 :=
  foldl_range_three State.biasRestarted s

/-- What the restart of a bias output keeps of all of them. -/
structure BiasRestarts (s u : State) : Prop where
  quiet : Quiet biasFlds s u
  det : u.detBias = s.detBias
  ramp : ∀ k, bitOf s.biasRamp k = true → bitOf u.biasRamp k = true
  occ : u.occ = s.occ

theorem BiasRestarts.trans (h : BiasRestarts s t) (k : BiasRestarts t u) : BiasRestarts s u :=
  ⟨h.quiet.trans k.quiet, k.det.trans h.det, fun i hi => k.ramp i (h.ramp i hi), k.occ.trans h.occ⟩

theorem BiasRestarts.may (h : BiasRestarts s u) {k : Nat} (hk : k < 3) : u.biasMay k = s.biasMay k := by
  have hread (f : Fld) (hf : f.lo < 64 ∧ (f.addr = 0xE07100 ∨ f.addr = 0xE08070 ∨ f.addr = PWR_STAT_STATE.addr)) : u.get f = s.get f := by
    refine h.quiet.get_of_addr (by simp only [PWR_STAT_STATE] at hf; omega) fun g hg => ?_
    have hall : ∀ g ∈ biasFlds, g.lo < 64 ∧ g.addr ≠ 0xE07100 ∧ g.addr ≠ 0xE08070 ∧ g.addr ≠ PWR_STAT_STATE.addr := by decide
    obtain ⟨h1, h2⟩ := hall g hg
    omega
  unfold State.biasMay State.privacy State.awake State.on State.bit
  rw [hread _ ⟨show 0 + 4 * k < 64 by omega, .inl rfl⟩, hread WAKE_PRIV_STAT_ENGAGED (by decide), hread PWR_STAT_STATE (by decide),
    h.det, h.quiet.get (f := AIN_BIAS_STAT_FAULT) (by decide) (by decide)]

theorem State.biasRestarted_shown (s : State) (k : Nat) :
    BiasRestarts s (s.biasRestarted k) ∧ (s.biasMay k = true → bitOf (s.biasRestarted k).biasRamp k = true) := by
  obtain ⟨h1, h2, h3, h4⟩ := s.biasStart_shown k
  unfold State.biasRestarted
  split
  · exact ⟨⟨h1, h3, fun i hi => by rw [h2, bitOf_setBitN_of _ _ _ hi], h4⟩, fun _ => by rw [h2, bitOf_setBitN]⟩
  · next hmay => exact ⟨⟨.refl _ s, rfl, fun _ h => h, rfl⟩, fun h => absurd h hmay⟩

/-- R224, R231: every bias output that may run ramps again. -/
theorem State.biasRestart_shown (s : State) :
    BiasRestarts s s.biasRestart ∧ ∀ k < 3, s.biasMay k = true → bitOf s.biasRestart.biasRamp k = true := by
  obtain ⟨h0, k0⟩ := s.biasRestarted_shown 0
  obtain ⟨h1, k1⟩ := (s.biasRestarted 0).biasRestarted_shown 1
  obtain ⟨h2, k2⟩ := ((s.biasRestarted 0).biasRestarted 1).biasRestarted_shown 2
  rw [State.biasRestart_eq]
  refine ⟨h0.trans (h1.trans h2), fun k hk hmay => ?_⟩
  obtain rfl | rfl | rfl : k = 0 ∨ k = 1 ∨ k = 2 := by omega
  · exact h2.ramp 0 (h1.ramp 0 (k0 hmay))
  · exact h2.ramp 1 (k1 ((h0.may (by decide)).trans hmay))
  · exact k2 (((h0.trans h1).may (by decide)).trans hmay)

theorem jacksFlds_addr {g : Fld} (h : g ∈ jacksFlds) :
    g.lo < 64 ∧ (g.addr = 0xE0C108 ∨ g.addr = 0xE0C128 ∨ g.addr = 0xE0C018 ∨ g.addr = 0xE09008 ∨ g.addr = 0xE07108 ∨
      (0xE07008 ≤ g.addr ∧ g.addr ≤ 0xE070A8 ∧ g.addr % 0x20 = 8)) := by
  rcases List.mem_append.1 h with h | h <;> have := jackFlds_addr h <;> omega



/-- The state in which privacy mute is engaged. -/
def State.privEngaged (s : State) : State :=
  let t := ((s.put WAKE_PRIV_STAT_ENGAGED 1).put WAKE_PRIV_STAT_LED 1).put WAKE_PRIV_STAT_RELEASING 0
  { t with wake := { t.wake with privAt := t.get NVS_OPTIME_OP_SEC }, micMute := 3 }

theorem State.privEngaged_shown (s : State) :
    let u := s.privEngaged
    u.get WAKE_PRIV_STAT_ENGAGED = 1 ∧ u.get WAKE_PRIV_STAT_LED = 1 ∧ u.get WAKE_PRIV_STAT_RELEASING = 0 ∧
      Quiet [WAKE_PRIV_STAT_ENGAGED, WAKE_PRIV_STAT_LED, WAKE_PRIV_STAT_RELEASING] s u := by
  unfold State.privEngaged
  dsimp only
  refine ⟨?_, ?_, ?_, Quiet.update (Quiet.put (Quiet.put (Quiet.put (Quiet.refl _ s) (by decide) 1) (by decide) 1) (by decide) 0)⟩
  all_goals
    simp (disch := decide) only [State.get_mk, State.get_put_ne, State.get_put_same]
    decide

/-- With its three bits cleared the register of the biases that are on reads 0. -/
theorem clrBitN_three (w : Nat) : clrBitN (clrBitN (clrBitN w 0 % 8) 1 % 8) 2 % 8 = 0 := by
  refine Nat.eq_of_testBit_eq fun i => ?_
  rw [Nat.zero_testBit]
  by_cases hi : i < 3
  · have hmod (v : Nat) : bitOf (v % 8) i = bitOf v i := bitOf_mod v hi
    rw [← bitOf_eq_testBit, hmod, bitOf_clrBitN, hmod, bitOf_clrBitN, hmod, bitOf_clrBitN]
    obtain rfl | rfl | rfl : i = 0 ∨ i = 1 ∨ i = 2 := by omega
    all_goals simp
  · exact Nat.testBit_lt_two_pow ((Nat.mod_lt _ (by decide)).trans_le (Nat.pow_le_pow_right (show 2 > 0 by decide) (show 3 ≤ i by omega)))

/-- Privacy mute has taken the bias outputs. -/
theorem State.biasesOff_shown (s : State) :
    ((List.range 3).foldl State.biasOff s).get AIN_BIAS_STAT_ON = 0 ∧ Quiet [AIN_BIAS_STAT_ON] s ((List.range 3).foldl State.biasOff s) := by
  have hget (t : State) (k : Nat) : (t.biasOff k).get AIN_BIAS_STAT_ON = clrBitN (t.get AIN_BIAS_STAT_ON) k % 8 := by
    rw [State.biasOff, State.get_mk, State.clrBit_eq, State.get_put_same]
    rfl
  rw [foldl_range_three]
  refine ⟨?_, ((s.biasOff_quiet 0).trans (State.biasOff_quiet _ 1)).trans (State.biasOff_quiet _ 2)⟩
  rw [hget, hget, hget, clrBitN_three]

/-- The state in which all but the jacks follows privacy mute. -/
def State.privTaken (s : State) : State :=
  (((((List.range 3).foldl State.biasOff s.privEngaged).put AIN_BIAS_STAT_PRIV 7).pdmRefresh.bump WAKE_CNT_PRIV_ENGAGES).put
    WAKE_SUM_PRIV_CHG 1)

theorem State.privTaken_shown (s : State) :
    let u := s.privTaken
    u.get WAKE_PRIV_STAT_ENGAGED = 1 ∧ u.get WAKE_PRIV_STAT_LED = 1 ∧ u.get WAKE_PRIV_STAT_RELEASING = 0 ∧
      u.get AIN_BIAS_STAT_ON = 0 ∧ u.get AIN_BIAS_STAT_PRIV = 7 ∧ u.on PDM_STAT_MIC_PWR_ON = false ∧
      u.get PDM_STAT_CLK0_STATE = 0 ∧ u.get PDM_STAT_CLK1_STATE = 0 ∧ u.get WAKE_SUM_PRIV_CHG = 1 ∧
      u.get WAKE_CNT_PRIV_ENGAGES = satNat 16 (s.get WAKE_CNT_PRIV_ENGAGES + 1) ∧
      Quiet ([WAKE_PRIV_STAT_ENGAGED, WAKE_PRIV_STAT_LED, WAKE_PRIV_STAT_RELEASING, AIN_BIAS_STAT_ON, AIN_BIAS_STAT_PRIV,
        WAKE_SUM_PRIV_CHG, WAKE_CNT_PRIV_ENGAGES] ++ pdmStatFlds) s u := by
  obtain ⟨h1, h2, h3, h4⟩ := s.privEngaged_shown
  obtain ⟨h5, h6⟩ := s.privEngaged.biasesOff_shown
  unfold State.privTaken
  have hq : Quiet [WAKE_PRIV_STAT_ENGAGED, WAKE_PRIV_STAT_LED, WAKE_PRIV_STAT_RELEASING, AIN_BIAS_STAT_ON] s
      ((List.range 3).foldl State.biasOff s.privEngaged) := (h4.of_subset (by simp)).trans (h6.of_subset (by simp))
  replace h1 := (h6.get (f := WAKE_PRIV_STAT_ENGAGED) (by decide) (by decide)).trans h1
  replace h2 := (h6.get (f := WAKE_PRIV_STAT_LED) (by decide) (by decide)).trans h2
  replace h3 := (h6.get (f := WAKE_PRIV_STAT_RELEASING) (by decide) (by decide)).trans h3
  have hcnt := hq.get (f := WAKE_CNT_PRIV_ENGAGES) (by decide) (by decide)
  generalize (List.range 3).foldl State.biasOff s.privEngaged = t at *
  have hwant : (t.put AIN_BIAS_STAT_PRIV 7).micWant = false := by
    rw [State.micWant, State.privacy, State.on, State.on, State.get_put_ne (f := AIN_BIAS_STAT_PRIV) (g := WAKE_PRIV_STAT_ENGAGED) _ _ (by decide), h1]
    simp
  obtain ⟨k1, -, -⟩ := (t.put AIN_BIAS_STAT_PRIV 7).pdmRefresh_quiet
  obtain ⟨k2, k3⟩ := (t.put AIN_BIAS_STAT_PRIV 7).pdmRefresh_stops hwant
  have k4 := (t.put AIN_BIAS_STAT_PRIV 7).pdmRefresh_on.trans hwant
  have hread (f : Fld) (hf : fldIn pdmStatFlds f = false ∧ fldIn eventFlds f = false ∧ Fld.key f ≠ Fld.key AIN_BIAS_STAT_PRIV) :
      (t.put AIN_BIAS_STAT_PRIV 7).pdmRefresh.get f = t.get f :=
    (k1.get hf.1 hf.2.1).trans (State.get_put_ne _ _ hf.2.2)
  have hpriv : (t.put AIN_BIAS_STAT_PRIV 7).pdmRefresh.get AIN_BIAS_STAT_PRIV = 7 :=
    (k1.get (by decide) (by decide)).trans (State.get_put_same _ _ _)
  have hq2 := (Quiet.put (hq.of_subset (List.subset_append_left _ (AIN_BIAS_STAT_PRIV :: WAKE_SUM_PRIV_CHG :: WAKE_CNT_PRIV_ENGAGES :: pdmStatFlds)))
    (f := AIN_BIAS_STAT_PRIV) (by decide) 7).trans (k1.of_subset (List.subset_append_right [WAKE_PRIV_STAT_ENGAGED, WAKE_PRIV_STAT_LED,
      WAKE_PRIV_STAT_RELEASING, AIN_BIAS_STAT_ON, AIN_BIAS_STAT_PRIV, WAKE_SUM_PRIV_CHG, WAKE_CNT_PRIV_ENGAGES] _))
  replace h1 := (hread WAKE_PRIV_STAT_ENGAGED (by decide)).trans h1
  replace h2 := (hread WAKE_PRIV_STAT_LED (by decide)).trans h2
  replace h3 := (hread WAKE_PRIV_STAT_RELEASING (by decide)).trans h3
  replace h5 := (hread AIN_BIAS_STAT_ON (by decide)).trans h5
  replace hcnt := (hread WAKE_CNT_PRIV_ENGAGES (by decide)).trans hcnt
  generalize (t.put AIN_BIAS_STAT_PRIV 7).pdmRefresh = v at *
  unfold State.on at *
  simp (disch := decide) only [State.get_put_ne, State.get_put_same, State.get_bump_ne, State.get_bump_same]
  refine ⟨h1, h2, h3, h5, hpriv, k4, k2, k3, rfl, by rw [hcnt]; rfl, ?_⟩
  exact Quiet.of_subset (Quiet.put (Quiet.bump hq2 (by decide)) (by decide) 1) (by simp)

theorem privEngage_engages (h : s.on WAKE_PRIV_STAT_ENGAGED = false) :
    let u := privEngage s
    u.get WAKE_PRIV_STAT_ENGAGED = 1 ∧ u.get WAKE_PRIV_STAT_LED = 1 ∧ u.get WAKE_PRIV_STAT_RELEASING = 0 ∧
      u.get AIN_BIAS_STAT_ON = 0 ∧ u.get AIN_BIAS_STAT_PRIV = 7 ∧ u.on PDM_STAT_MIC_PWR_ON = false ∧
      u.get PDM_STAT_CLK0_STATE = 0 ∧ u.get PDM_STAT_CLK1_STATE = 0 ∧ u.get WAKE_SUM_PRIV_CHG = 1 ∧
      u.get WAKE_CNT_PRIV_ENGAGES = satNat 16 (s.get WAKE_CNT_PRIV_ENGAGES + 1) ∧ 0x0807 ∈ u.occ ∧
      (∀ j < 2, s.get (DET_JACK_STAT_STATE j) = 4 ∨ s.get (DET_JACK_STAT_STATE j) = 5 → u.get (DET_JACK_STAT_STATE j) = 6) ∧
      SameBytes s u := by
  obtain ⟨h1, h2, h3, h4, h5, h6, h7, h8, h9, h10, h11⟩ := s.privTaken_shown
  have heq : privEngage s = (s.privTaken.post 0x0807 sevInfo (pack [p32 s.privTaken.frame])).jackPause := by
    rw [privEngage, if_neg (by rw [h]; decide)]
    rfl
  dsimp only
  rw [heq]
  generalize s.privTaken = t at *
  have hpost (f : Fld) (hf : fldIn eventFlds f = false) := State.get_post (s := t) (c := 0x0807) (v := sevInfo) (p := pack [p32 t.frame]) hf
  have hocc := t.mem_occ_post (c := 0x0807) sevInfo (pack [p32 t.frame]) (by decide)
  have hq := h11.post 0x0807 sevInfo (pack [p32 t.frame])
  generalize t.post 0x0807 sevInfo (pack [p32 t.frame]) = v at *
  obtain ⟨k1, k2, k3⟩ := v.jackPause_shown
  have hread (f : Fld) (hf : fldIn pauseFlds f = false ∧ fldIn eventFlds f = false) : v.jackPause.get f = t.get f :=
    (k1.get hf.1 hf.2).trans (hpost f hf.2)
  unfold State.on at *
  refine ⟨(hread _ (by decide)).trans h1, (hread _ (by decide)).trans h2, (hread _ (by decide)).trans h3, (hread _ (by decide)).trans h4,
    (hread _ (by decide)).trans h5, by rw [hread _ (by decide)]; exact h6, (hread _ (by decide)).trans h7, (hread _ (by decide)).trans h8,
    (hread _ (by decide)).trans h9, (hread _ (by decide)).trans h10, k2 _ hocc, fun j hj hs => k3 j hj ?_,
    fun a => ⟨(k1.1 a).1.trans (hq.1 a).1, (k1.1 a).2.1.trans (hq.1 a).2.1, (k1.1 a).2.2.trans (hq.1 a).2.2⟩⟩
  rw [hpost _ (fldIn_eventFlds_of_page (by simp only [DET_JACK_STAT_STATE]; omega)),
    h11.get_of_addr (by simp only [DET_JACK_STAT_STATE]; omega)]
  · exact hs
  · simp only [pdmStatFlds, List.forall_mem_append, List.forall_mem_cons, DET_JACK_STAT_STATE, WAKE_PRIV_STAT_ENGAGED, WAKE_PRIV_STAT_LED,
      WAKE_PRIV_STAT_RELEASING, AIN_BIAS_STAT_ON, AIN_BIAS_STAT_PRIV, WAKE_SUM_PRIV_CHG, WAKE_CNT_PRIV_ENGAGES, PDM_STAT_MIC_PWR_ON,
      PDM_STAT_CLK0_STATE, PDM_STAT_CLK1_STATE, List.not_mem_nil, false_imp_iff, implies_true, and_true]
    omega

theorem privEngage_again (h : s.on WAKE_PRIV_STAT_ENGAGED = true) :
    let u := privEngage s
    u.get WAKE_PRIV_STAT_RELEASING = 0 ∧ Quiet [WAKE_PRIV_STAT_RELEASING] s u := by
  dsimp only
  rw [privEngage, if_pos h]
  exact ⟨State.get_put_same _ _ _, (Quiet.refl _ s).put (by decide) 0⟩

theorem privNRise_spec (h : s.on WAKE_PRIV_STAT_ENGAGED = true) :
    let u := privNRise s
    u.get WAKE_PRIV_STAT_RELEASING = 1 ∧ Quiet [WAKE_PRIV_STAT_RELEASING] s u := by
  dsimp only
  rw [privNRise, if_pos h]
  exact ⟨State.get_put_same _ _ _, (Quiet.refl _ s).put (by decide) 1⟩

/-- The state in which the release of privacy mute is posted. -/
def State.privFreed (s : State) : State :=
  ((((s.put WAKE_PRIV_STAT_ENGAGED 0).put WAKE_PRIV_STAT_LED 0).put WAKE_PRIV_STAT_RELEASING 0).put AIN_BIAS_STAT_PRIV 0).put
    WAKE_SUM_PRIV_CHG 1

theorem State.privFreed_shown (s : State) :
    let u := s.privFreed
    u.get WAKE_PRIV_STAT_ENGAGED = 0 ∧ u.get WAKE_PRIV_STAT_LED = 0 ∧ u.get WAKE_PRIV_STAT_RELEASING = 0 ∧
      u.get AIN_BIAS_STAT_PRIV = 0 ∧ u.get WAKE_SUM_PRIV_CHG = 1 ∧
      Quiet [WAKE_PRIV_STAT_ENGAGED, WAKE_PRIV_STAT_LED, WAKE_PRIV_STAT_RELEASING, AIN_BIAS_STAT_PRIV, WAKE_SUM_PRIV_CHG] s u := by
  unfold State.privFreed
  refine ⟨?_, ?_, ?_, ?_, ?_, Quiet.put (Quiet.put (Quiet.put (Quiet.put (Quiet.put (Quiet.refl _ s) (by decide) 0) (by decide) 0)
    (by decide) 0) (by decide) 0) (by decide) 1⟩
  all_goals
    simp (disch := decide) only [State.get_put_ne, State.get_put_same]
    decide

/-- R237, R255: privacy mute is released. -/
theorem privReleased_spec (h : s.on WAKE_PRIV_STAT_ENGAGED = true) (hr : s.on WAKE_PRIV_STAT_RELEASING = true) :
    let u := privReleased s
    u.get WAKE_PRIV_STAT_ENGAGED = 0 ∧ u.get WAKE_PRIV_STAT_LED = 0 ∧ u.get WAKE_PRIV_STAT_RELEASING = 0 ∧
      u.get AIN_BIAS_STAT_PRIV = 0 ∧ u.get WAKE_SUM_PRIV_CHG = 1 ∧ 0x0808 ∈ u.occ ∧
      u.on PDM_STAT_MIC_PWR_ON = (s.on PDM_CFG_MIC_PWR_EN && !s.dormant) ∧
      (∀ k < 3, s.on (AIN_BIAS_CFG_EN k) = true → s.bit AIN_BIAS_STAT_FAULT k = false → s.awake = true → bitOf u.biasRamp k = true) ∧
      SameBytes s u := by
  obtain ⟨h1, h2, h3, h4, h5, h6⟩ := s.privFreed_shown
  have heq : ∃ p, privReleased s = (s.privFreed.post 0x0808 sevInfo p).pdmRefresh.biasRestart.jackResume := by
    rw [privReleased, if_pos (by rw [h, hr]; rfl)]
    exact ⟨_, rfl⟩
  obtain ⟨p, hp⟩ := heq
  dsimp only
  rw [hp]
  generalize s.privFreed = t at *
  have hocc := t.mem_occ_post (c := 0x0808) sevInfo p (by decide)
  have hpost (f : Fld) (hf : fldIn eventFlds f = false) := State.get_post (s := t) (c := 0x0808) (v := sevInfo) (p := p) hf
  have hq := h6.post 0x0808 sevInfo p
  generalize t.post 0x0808 sevInfo p = v at *
  obtain ⟨k1, -, k2⟩ := v.pdmRefresh_quiet
  have hmic := v.pdmRefresh_on
  obtain ⟨⟨m1, -, -, m2⟩, m3⟩ := v.pdmRefresh.biasRestart_shown
  obtain ⟨n1, n2, n3⟩ := v.pdmRefresh.biasRestart.jackResume_shown
  have hread (f : Fld) (hf : fldIn jacksFlds f = false ∧ fldIn biasFlds f = false ∧ fldIn eventFlds f = false) :
      v.pdmRefresh.biasRestart.jackResume.get f = v.pdmRefresh.get f := (n1.get hf.1 hf.2.2).trans (m1.get hf.2.1 hf.2.2)
  have hread2 (f : Fld) (hf : fldIn jacksFlds f = false ∧ fldIn biasFlds f = false ∧ fldIn eventFlds f = false)
      (hf2 : fldIn pdmStatFlds f = false) : v.pdmRefresh.biasRestart.jackResume.get f = t.get f :=
    (hread f hf).trans ((k1.get hf2 hf.2.2).trans (hpost f hf.2.2))
  refine ⟨(hread2 _ (by decide) (by decide)).trans h1, (hread2 _ (by decide) (by decide)).trans h2,
    (hread2 _ (by decide) (by decide)).trans h3, (hread2 _ (by decide) (by decide)).trans h4,
    (hread2 _ (by decide) (by decide)).trans h5, n2 (by rw [m2, k2]; exact hocc), ?_, fun k hk hen hfault haw => ?_, fun a => ?_⟩
  · rw [State.on, hread _ (by decide), ← State.on, hmic]
    have hengaged : v.get WAKE_PRIV_STAT_ENGAGED = 0 := (hpost _ (by decide)).trans h1
    unfold State.micWant State.privacy State.dormant State.on
    rw [hengaged, hq.get (by decide) (by decide), hq.get (by decide) (by decide)]
    simp
  · have hv : Quiet (pdmStatFlds ++ [WAKE_PRIV_STAT_ENGAGED, WAKE_PRIV_STAT_LED, WAKE_PRIV_STAT_RELEASING, AIN_BIAS_STAT_PRIV,
        WAKE_SUM_PRIV_CHG]) s v.pdmRefresh :=
      (hq.of_subset (List.subset_append_right _ _)).trans (k1.of_subset (List.subset_append_left _ _))
    have hcfg : v.pdmRefresh.on (AIN_BIAS_CFG_EN k) = true := by
      rw [State.on, hv.get_of_addr (by simp only [AIN_BIAS_CFG_EN]; omega), ← State.on, hen]
      exact show ∀ g : Fld, g ∈ pdmStatFlds ++ _ → g.lo < 64 ∧ g.addr ≠ 0xE07100 by decide
    have hmay : v.pdmRefresh.biasMay k = true := by
      unfold State.biasMay State.privacy State.awake State.bit
      rw [hcfg, State.on, k1.get (f := WAKE_PRIV_STAT_ENGAGED) (by decide) (by decide), hpost WAKE_PRIV_STAT_ENGAGED (by decide), h1,
        hv.get (f := AIN_BIAS_STAT_FAULT) (by decide) (by decide), hv.get (f := PWR_STAT_STATE) (by decide) (by decide)]
      rw [State.bit] at hfault
      rw [State.awake] at haw
      rw [hfault, haw]
      rfl
    refine (n3 k hk ⟨?_, m3 k hk hmay⟩).2
    rw [State.on, m1.get_of_addr (by simp only [AIN_BIAS_CFG_EN]; omega), ← State.on, hcfg]
    exact show ∀ g ∈ biasFlds, g.lo < 64 ∧ g.addr ≠ 0xE07100 by decide
  · obtain ⟨a1, a2, a3⟩ := hq.1 a
    obtain ⟨b1, b2, b3⟩ := k1.1 a
    obtain ⟨c1, c2, c3⟩ := m1.1 a
    obtain ⟨d1, d2, d3⟩ := n1.1 a
    exact ⟨d1.trans (c1.trans (b1.trans a1)), d2.trans (c2.trans (b2.trans a2)), d3.trans (c3.trans (b3.trans a3))⟩

/-- Settles O12: each clause is the lemma about its command. -/
theorem analogInputsStartAndPrivacyMutes : Obligations.AnalogInputsStartAndPrivacyMutes := by
  unfold Obligations.AnalogInputsStartAndPrivacyMutes
  refine ⟨fun s n v => ?_, fun s => ?_⟩
  · intro fields stats taken
    exact ⟨fun hv => ⟨_, rfl, ainCfgWrite_invalid n.isLt hv⟩, fun hv hen => ⟨_, rfl, ainCfgWrite_off hv hen⟩,
      fun hv hen hs => ⟨_, rfl, ainCfgWrite_begins hv hen hs⟩, fun hv hen hs hp hz => ⟨_, rfl, ainCfgWrite_gain hv hen hs hp hz⟩,
      fun hs hz => ⟨_, rfl, ainStartingEnd_spec hs hz⟩, fun hs hz hw hb => ⟨_, rfl, ainSettleEnd_spec hs hz hw hb⟩,
      fun f hp ht => ⟨_, rfl, ainZcTimeout_spec n.isLt hp ht⟩⟩
  · refine ⟨fun h => ⟨_, rfl, ?_⟩, fun h => ⟨_, rfl, privEngage_again h⟩, fun h => ⟨_, rfl, privNRise_spec h⟩, fun h hr => ⟨_, rfl, ?_⟩⟩
    · obtain ⟨h1, h2, h3, h4, h5, h6, h7, h8, h9, h10, h11, h12, h13⟩ := privEngage_engages h
      exact ⟨h1, h2, h3, h4, h5, h6, h7, h8, h9, h10, h11, fun j => h12 j j.isLt, h13⟩
    · obtain ⟨h1, h2, h3, h4, h5, h6, h7, h8, h9⟩ := privReleased_spec h hr
      exact ⟨h1, h2, h3, h4, h5, h6, h7, fun k => h8 k k.isLt, h9⟩

end Sys2Proof.Machine
end

section
/-! The clock of the microphones in sleep (R226, R227, R229): the high-quality decimators are off, and no window opens on them. -/

namespace Sys2Proof.Machine

/-- The unit in STANDBY, with a microphone's high-quality decimator enabled and its clock still at the rate of operation. -/
def standbyClock : State :=
  ((((State.reset.put PDM_CFG_HQ_EN 1).put PDM_STAT_MIC_PWR_ON 1).put PWR_STAT_STATE 2).put PDM_STAT_CLK0_STATE 1)

theorem standbyClock_changes :
    standbyClock.get (pdmState 0) ≠ 0 ∧ standbyClock.pdmWant 0 = true ∧ standbyClock.get (pdmState 0) ≠ standbyClock.pdmRate 0 ∧
      standbyClock.get (pdmAct 0) < 2 ∧ standbyClock.get (pdmStby 0) < 2 ∧ standbyClock.bit PDM_CFG_HQ_EN 0 = true ∧
      standbyClock.awake = false := by decide

/-- In sleep a clock change opens no window on the high-quality decimators. -/
theorem standbyClock_hqWin : mapGet 0 (pdmClockChange 0 standbyClock).hqWin 0 = 0 := by decide

/-- Refutes O13: in STANDBY a clock changes its rate, and the window of an enabled high-quality decimator does not open, which is off
in sleep. -/
theorem not_biasOutputsAndPdmClocksFollow : ¬ Obligations.BiasOutputsAndPdmClocksFollow := by
  unfold Obligations.BiasOutputsAndPdmClocksFollow
  rintro ⟨-, h⟩
  obtain ⟨-, -, hchange, -⟩ := h standbyClock
  obtain ⟨h1, h2, h3, h4, h5, h6, -⟩ := standbyClock_changes
  obtain ⟨u, hu, -, hwin, -⟩ := hchange 0 h1 h2 h3 h4 h5
  obtain rfl : pdmClockChange 0 standbyClock = u := by injection hu
  have hle : 480 + 44 ≤ mapGet 0 (pdmClockChange 0 standbyClock).hqWin 0 := hwin 0 h6
  rw [standbyClock_hqWin] at hle
  exact absurd hle (by decide)

end Sys2Proof.Machine
end

section
/-! The archive's lanes, the model and the spotter (R236, R238, R240, R242 to R244). -/

namespace Sys2Proof.Machine

variable {l : List Fld} {s t : State}

theorem SameBytes.put (h : SameBytes s t) (f : Fld) (v : Nat) : SameBytes s (t.put f v) := h

theorem SameBytes.trans {u : State} (h : SameBytes s t) (k : SameBytes t u) : SameBytes s u := fun a => by
  obtain ⟨a1, a2, a3⟩ := h a
  obtain ⟨b1, b2, b3⟩ := k a
  exact ⟨b1.trans a1, b2.trans a2, b3.trans a3⟩

/-! ### The archive's configuration -/

theorem State.pdmCfgErr_shown (s : State) (addr v : Nat) :
    let u := s.pdmCfgErr addr v
    u.get PDM_STAT_CFG_ERR = 1 ∧ u.get WAKE_SUM_CFG_ERR = 1 ∧ 0x0809 ∈ u.occ ∧ Quiet [PDM_STAT_CFG_ERR, WAKE_SUM_CFG_ERR] s u := by
  unfold State.pdmCfgErr
  dsimp only
  refine ⟨?_, ?_, State.mem_occ_post _ _ _ (by decide), Quiet.post (((Quiet.refl _ s).put (by decide) 1).put (by decide) 1) _ _ _⟩
  all_goals
    rw [State.get_post (by decide)]
    simp (disch := decide) only [State.get_put_ne, State.get_put_same]
    decide

theorem wakeArchCfgWrite_rejected {v : Nat}
    (h : pdmReject (s.get PDM_CFG_LP_EN + 2 ^ 8 * s.get PDM_CFG_HQ_EN + 2 ^ 16 * s.get PDM_CFG_CLK0_ACT + 2 ^ 18 * s.get PDM_CFG_CLK1_ACT) v = true ∨
      s.on WAKE_CTL_EN = true ∨ s.hoRunning = true) :
    let u := wakeArchCfgWrite v s
    u.get PDM_STAT_CFG_ERR = 1 ∧ u.get WAKE_SUM_CFG_ERR = 1 ∧ 0x0809 ∈ u.occ ∧ Quiet [PDM_STAT_CFG_ERR, WAKE_SUM_CFG_ERR] s u := by
  unfold wakeArchCfgWrite
  dsimp only
  rw [if_pos (by simpa [or_assoc] using h)]
  exact s.pdmCfgErr_shown _ _

/-- The lanes' microphones are written. -/
def State.putLaneMics (s : State) (v : Nat) : State :=
  (List.range 4).foldl (fun s j => s.put (WAKE_ARCH_CFG_LANE_MIC j) (laneMic v j)) s

/-- The lanes of the archive are configured (R238). -/
def State.lanesTaken (s : State) (v : Nat) : State :=
  let t := ((s.put PDM_STAT_CFG_ERR 0).put WAKE_ARCH_CFG_LANES (bits v 0 2)).putLaneMics v
  t.put WAKE_MODEL_STAT_REGION t.modelRegion

theorem State.putLaneMics_shown (s : State) (v : Nat) :
    (∀ j < 4, (s.putLaneMics v).get (WAKE_ARCH_CFG_LANE_MIC j) = laneMic v j) ∧
      (∀ f, f.lo < 64 → (f.addr = 0xE08020 → f.lo < 4) → (s.putLaneMics v).get f = s.get f) ∧ SameBytes s (s.putLaneMics v) := by
  refine ⟨fun j hj => ?_, fun f hlo hf => ?_, ?_⟩
  · unfold State.putLaneMics
    rw [foldl_put_get _ _ _ List.nodup_range _ (List.mem_range.2 hj)]
    · exact Nat.mod_eq_of_lt (bits_lt v _ 3)
    · intro a ha b hb hk
      simp only [Fld.key, WAKE_ARCH_CFG_LANE_MIC] at hk
      omega
  · refine foldl_put_get_ne _ _ (fun j hj => ?_) s
    have := List.mem_range.1 hj
    simp only [Fld.key, WAKE_ARCH_CFG_LANE_MIC]
    omega
  · exact List.foldlRecOn (motive := SameBytes s) _ _ (fun _ => ⟨rfl, rfl, rfl⟩) fun t ht j _ => ht

/-- The low four bits of the archive's image are its count of lanes (R236). -/
theorem State.archImage_mod (s : State) : s.archImage % 16 = s.get WAKE_ARCH_CFG_LANES % 16 := by
  have h (j : Nat) : 2 ^ (4 * j + 4) = 16 * 2 ^ (4 * j) := by rw [Nat.pow_add, Nat.mul_comm]
  have hsum : (((List.range 4).map (fun j => s.get (WAKE_ARCH_CFG_LANE_MIC j) * 2 ^ (4 * j + 4))).sum) % 16 = 0 := by
    refine Nat.mod_eq_zero_of_dvd (List.dvd_sum fun x hx => ?_)
    obtain ⟨j, -, rfl⟩ := List.mem_map.1 hx
    rw [h]
    exact Dvd.dvd.mul_left (Nat.dvd_mul_right _ _) _
  rw [State.archImage, Nat.add_mod, hsum, Nat.add_zero, Nat.mod_mod]

theorem State.lanesTaken_shown (s : State) (v : Nat) :
    let u := s.lanesTaken v
    u.get WAKE_ARCH_CFG_LANES = bits v 0 2 ∧ (∀ j < 4, u.get (WAKE_ARCH_CFG_LANE_MIC j) = bits v (4 * j + 4) 3) ∧
      u.get WAKE_MODEL_STAT_REGION = 1048576 - 256000 * (bits v 0 2 + 1) ∧ u.get WAKE_ARCH_STAT_POS = s.get WAKE_ARCH_STAT_POS ∧
      SameBytes s u := by
  unfold State.lanesTaken
  obtain ⟨h1, h2, h3⟩ := ((s.put PDM_STAT_CFG_ERR 0).put WAKE_ARCH_CFG_LANES (bits v 0 2)).putLaneMics_shown v
  have hl : (((s.put PDM_STAT_CFG_ERR 0).put WAKE_ARCH_CFG_LANES (bits v 0 2)).putLaneMics v).get WAKE_ARCH_CFG_LANES = bits v 0 2 := by
    rw [h2 _ (by decide) (by decide), State.get_put_same]
    exact Nat.mod_eq_of_lt (bits_lt v 0 2)
  have hp : (((s.put PDM_STAT_CFG_ERR 0).put WAKE_ARCH_CFG_LANES (bits v 0 2)).putLaneMics v).get WAKE_ARCH_STAT_POS = s.get WAKE_ARCH_STAT_POS := by
    rw [h2 _ (by decide) (by decide), State.get_put_ne _ _ (by decide), State.get_put_ne _ _ (by decide)]
  have hb : SameBytes s (((s.put PDM_STAT_CFG_ERR 0).put WAKE_ARCH_CFG_LANES (bits v 0 2)).putLaneMics v) := h3
  generalize ((s.put PDM_STAT_CFG_ERR 0).put WAKE_ARCH_CFG_LANES (bits v 0 2)).putLaneMics v = t at *
  have hregion : t.modelRegion = 1048576 - 256000 * (bits v 0 2 + 1) := by rw [State.modelRegion, State.lanes_, hl]
  dsimp only
  rw [hregion]
  refine ⟨?_, fun j hj => ?_, ?_, ?_, hb.put _ _⟩
  · rw [State.get_put_ne _ _ (by decide), hl]
  · rw [State.get_put_ne, h1 j hj, laneMic]
    simp only [Fld.key, WAKE_ARCH_CFG_LANE_MIC, WAKE_MODEL_STAT_REGION]
    omega
  · rw [State.get_put_same]
    refine Nat.mod_eq_of_lt ?_
    simp only [WAKE_MODEL_STAT_REGION]
    omega
  · rw [State.get_put_ne _ _ (by decide), hp]

/-- R240: a gap follows. -/
theorem State.archGap_shown (s : State) (cause : Nat) :
    let u := s.archGap cause
    u.get WAKE_ARCH_GAP_GAP_POS = archNext (s.get WAKE_ARCH_STAT_POS) % 2 ^ 32 ∧ u.get WAKE_ARCH_GAP_GAP_VALID = 1 ∧ 0x0806 ∈ u.occ ∧
      Quiet [WAKE_ARCH_GAP_GAP_POS, WAKE_ARCH_GAP_GAP_VALID, WAKE_SUM_GAP] s u := by
  unfold State.archGap
  dsimp only
  refine ⟨?_, ?_, State.mem_occ_post _ _ _ (by decide), Quiet.post (((Quiet.refl _ s).put (by decide) _).put (by decide) 1 |>.put (by decide) 1) _ _ _⟩
  all_goals
    rw [State.get_post (by decide)]
    simp (disch := decide) only [State.get_put_ne, State.get_put_same]
    rfl

/-- R236, R238, R240: the archive's lanes change, which makes a gap. -/
theorem wakeArchCfgWrite_taken {v : Nat}
    (hrej : pdmReject (s.get PDM_CFG_LP_EN + 2 ^ 8 * s.get PDM_CFG_HQ_EN + 2 ^ 16 * s.get PDM_CFG_CLK0_ACT + 2 ^ 18 * s.get PDM_CFG_CLK1_ACT) v = false)
    (hen : s.on WAKE_CTL_EN = false) (hho : s.hoRunning = false) (hl : s.get WAKE_ARCH_CFG_LANES % 16 ≠ bits v 0 2) :
    let u := wakeArchCfgWrite v s
    u.get WAKE_ARCH_CFG_LANES = bits v 0 2 ∧ (∀ j < 4, u.get (WAKE_ARCH_CFG_LANE_MIC j) = bits v (4 * j + 4) 3) ∧
      u.get WAKE_MODEL_STAT_REGION = 1048576 - 256000 * (bits v 0 2 + 1) ∧
      u.get WAKE_ARCH_GAP_GAP_POS = archNext (s.get WAKE_ARCH_STAT_POS) % 2 ^ 32 ∧ u.get WAKE_ARCH_GAP_GAP_VALID = 1 ∧ 0x0806 ∈ u.occ ∧
      SameBytes s u := by
  obtain ⟨h1, h2, h3, h4, h5⟩ := s.lanesTaken_shown v
  have heq : wakeArchCfgWrite v s = (s.lanesTaken v).archGap 1 := by
    unfold wakeArchCfgWrite
    dsimp only
    rw [if_neg (by rw [hrej, hen, hho]; decide)]
    refine if_neg (fun he => hl ?_)
    have hm : (s.lanesTaken v).archImage = s.archImage := he
    have hb : bits v 0 2 < 2 ^ 2 := bits_lt v 0 2
    rw [← s.archImage_mod, ← hm, State.archImage_mod, h1]
    omega
  dsimp only
  rw [heq]
  generalize s.lanesTaken v = t at *
  obtain ⟨k1, k2, k3, k4⟩ := t.archGap_shown 1
  refine ⟨(k4.get (by decide) (by decide)).trans h1, fun j hj => (k4.get_of_addr ?_ ?_).trans (h2 j hj),
    (k4.get (by decide) (by decide)).trans h3, by rw [k1, h4], k2, k3, h5.trans k4.1⟩
  · simp only [WAKE_ARCH_CFG_LANE_MIC]
    omega
  · exact show ∀ g ∈ [WAKE_ARCH_GAP_GAP_POS, WAKE_ARCH_GAP_GAP_VALID, WAKE_SUM_GAP], g.lo < 64 ∧ g.addr ≠ 0xE08020 by decide

/-! ### The model -/

/-- R243: a check of the model begins. -/
theorem State.modelCheck_shown (s : State) :
    s.modelCheck.get WAKE_MODEL_STAT_STATE = 1 ∧ Quiet [WAKE_MODEL_STAT_STATE, WAKE_MODEL_STAT_REGION] s s.modelCheck :=
  ⟨State.get_put_same _ _ _, ((Quiet.refl _ s).put (by decide) _).put (by decide) 1⟩

/-- R243, R246: the spotter is enabled. -/
theorem wakeCtlWrite_enables {v : Nat} (hv : bitOf v 0 = true) (hen : s.on WAKE_CTL_EN = false) :
    let u := wakeCtlWrite v s
    u.get WAKE_CTL_EN = 1 ∧ u.get WAKE_CTL_WAKE_EN = bits v 1 1 ∧ u.get WAKE_CTL_HO_AUTO = bits v 2 1 ∧
      u.get WAKE_CTL_ALERT_EN = bits v 3 1 ∧ u.get WAKE_CTL_EVT_EN = bits v 8 1 ∧ u.get WAKE_MODEL_STAT_STATE = 1 ∧ SameBytes s u := by
  unfold wakeCtlWrite
  extract_lets +onlyGivenNames rise s1 s2
  have hrise : rise = true := by
    unfold rise
    rw [hv, hen]
    rfl
  have hb : SameBytes s s2 := fun _ => ⟨rfl, rfl, rfl⟩
  have h2 : s2.get WAKE_CTL_EN = bits v 0 1 ∧ s2.get WAKE_CTL_WAKE_EN = bits v 1 1 ∧ s2.get WAKE_CTL_HO_AUTO = bits v 2 1 ∧
      s2.get WAKE_CTL_ALERT_EN = bits v 3 1 ∧ s2.get WAKE_CTL_EVT_EN = bits v 8 1 := by
    have hm (k : Nat) : bits v k 1 % 2 ^ 1 = bits v k 1 := Nat.mod_eq_of_lt (bits_lt v k 1)
    unfold s2 s1
    simp (disch := decide) only [State.get_put_ne, State.get_put_same]
    exact ⟨hm 0, hm 1, hm 2, hm 3, hm 8⟩
  clear_value s2
  obtain ⟨h3, h4, h5, h6, h7⟩ := h2
  obtain ⟨k1, k2⟩ := s2.modelCheck_shown
  rw [if_pos hrise]
  refine ⟨?_, (k2.get (by decide) (by decide)).trans h4, (k2.get (by decide) (by decide)).trans h5,
    (k2.get (by decide) (by decide)).trans h6, (k2.get (by decide) (by decide)).trans h7, k1, hb.trans k2.1⟩
  rw [k2.get (by decide) (by decide), h3, bits_one_eq_b2n, hv]
  rfl

/-- What is wrong with the model depends on the lanes and the memory alone. -/
theorem State.modelFault_put (s : State) {f : Fld} (v : Nat) (hf : Fld.key WAKE_ARCH_CFG_LANES ≠ Fld.key f) :
    (s.put f v).modelFault = s.modelFault := by
  have hl : (s.put f v).lanes_ = s.lanes_ := by rw [State.lanes_, State.get_put_ne _ _ hf, State.lanes_]
  have hbytes (n : Nat) : (s.put f v).modelBytes n = s.modelBytes n := by
    unfold State.modelBytes
    rw [hl]
    rfl
  unfold State.modelFault State.modelRegion
  simp only [hl, hbytes]
  rfl

/-- The state in which the model's length is shown. -/
def State.modelRead (s : State) : State :=
  s.put WAKE_MODEL_STAT_LEN (bits (s.memWord (bankAddr 7 (32000 * s.lanes_ + 1))).toNat 0 32)

theorem modelCheckDone_eq (hs : s.get WAKE_MODEL_STAT_STATE = 1) (hup : s.bankUp 7 = true) :
    modelCheckDone s = match s.modelFault with
      | none => s.modelRead.put WAKE_MODEL_STAT_STATE 2
      | some r => ((s.modelRead.put WAKE_MODEL_STAT_STATE 3).put WAKE_SUM_MODEL_BAD 1).post 0x0802 sevFault (pack [p16 r]) := by
  unfold modelCheckDone
  rw [if_neg (by simp [hs, hup])]
  dsimp only
  rw [State.modelFault_put _ _ (by decide)]
  generalize s.modelFault = m
  cases m <;> rfl

/-- R243: a sound model. -/
theorem modelCheckDone_sound (hs : s.get WAKE_MODEL_STAT_STATE = 1) (hup : s.bankUp 7 = true) (hf : s.modelFault = none) :
    let u := modelCheckDone s
    u.get WAKE_MODEL_STAT_STATE = 2 ∧ Quiet [WAKE_MODEL_STAT_STATE, WAKE_MODEL_STAT_LEN] s u := by
  dsimp only
  rw [modelCheckDone_eq hs hup, hf]
  exact ⟨State.get_put_same _ _ _, ((Quiet.refl _ s).put (by decide) _).put (by decide) 2⟩

/-- R243, R258: a bad model. -/
theorem modelCheckDone_bad (hs : s.get WAKE_MODEL_STAT_STATE = 1) (hup : s.bankUp 7 = true) (hf : s.modelFault.isSome = true) :
    let u := modelCheckDone s
    u.get WAKE_MODEL_STAT_STATE = 3 ∧ u.get WAKE_SUM_MODEL_BAD = 1 ∧ 0x0802 ∈ u.occ ∧
      Quiet [WAKE_MODEL_STAT_STATE, WAKE_MODEL_STAT_LEN, WAKE_SUM_MODEL_BAD] s u := by
  obtain ⟨r, hr⟩ := Option.isSome_iff_exists.1 hf
  dsimp only
  rw [modelCheckDone_eq hs hup, hr]
  refine ⟨?_, ?_, State.mem_occ_post _ _ _ (by decide),
    Quiet.post (Quiet.put (Quiet.put (Quiet.put (Quiet.refl _ s) (by decide) _) (by decide) 3) (by decide) 1) _ _ _⟩
  all_goals
    rw [State.get_post (by decide)]
    simp (disch := decide) only [State.get_put_ne, State.get_put_same]
    decide

/-! ### The spotter -/

/-- The registers that a word read of bank `b` may count and show (R413). -/
def eccFlds (b : Nat) : List Fld :=
  [MEM_ECC_CNT_UNCORR b, MEM_ECC_CNT_CORRECTED b, MEM_ECC_LAST_WORD b, MEM_ECC_LAST_CLASS b, MEM_ECC_LAST_VALID b, MEM_SUM_UE]

theorem State.bankWord_quiet (s : State) (cls b w : Nat) : Quiet (eccFlds b) s (s.bankWord cls b w).2 := by
  have hm {f : Fld} (hf : f ∈ eccFlds b) : fldIn (eccFlds b) f = true := mem_fldIn hf
  unfold State.bankWord State.memUe State.memCorrected
  dsimp only
  split_ifs
  · exact .refl _ s
  · exact Quiet.update (Quiet.post (Quiet.put (Quiet.put (Quiet.put (Quiet.put (Quiet.bump (.refl _ s) (hm (by simp [eccFlds])))
      (hm (by simp [eccFlds])) w) (hm (by simp [eccFlds])) cls) (hm (by simp [eccFlds])) 1) (hm (by simp [eccFlds])) 1) _ _ _)
  · exact Quiet.update (Quiet.other (t := s.bump (MEM_ECC_CNT_CORRECTED b)) (Quiet.bump (.refl _ s) (hm (by simp [eccFlds]))) rfl rfl rfl rfl)
  · exact .refl _ s

theorem State.hopReads_quiet (s : State) (t j : Nat) : Quiet (eccFlds 7) s (s.hopReads t j) :=
  Quiet.foldl (fun u i h => h.trans (u.bankWord_quiet 0 7 (u.halfAt ((t + archMod - i) % archMod) j).1)) _ (.refl _ s)

/-- What makes the spotter score the hop that ends at the archive's position, with a sound in it (R244). -/
structure Hop (s : State) : Prop where
  on : s.on WAKE_CTL_EN = true
  model : s.get WAKE_MODEL_STAT_STATE = 2
  awake : s.dormant = false
  ends : s.get WAKE_ARCH_STAT_POS % 160 = 0
  fresh : s.wake.lastHop ≠ s.get WAKE_ARCH_STAT_POS
  mode : s.on WAKE_CFG_SPOT_MODE = false
  sound : s.hopSilent (s.get WAKE_ARCH_STAT_POS) (s.get WAKE_CFG_SPOT_LANE) = false

/-- The state in which the hop is scored: `run` hops in a row have reached the threshold (R244). -/
def State.hopScored (s : State) (run : Nat) : State :=
  { s.hopReads (s.get WAKE_ARCH_STAT_POS) (s.get WAKE_CFG_SPOT_LANE) with
    wake := { s.wake with run := run, lastHop := s.get WAKE_ARCH_STAT_POS } }

theorem State.hopScored_quiet (s : State) (run : Nat) : Quiet (eccFlds 7) s (s.hopScored run) := Quiet.update (s.hopReads_quiet _ _)

theorem Hop.guard (h : Hop s) : ¬¬(s.on WAKE_CTL_EN && s.get WAKE_MODEL_STAT_STATE == 2 && !s.dormant &&
    s.get WAKE_ARCH_STAT_POS % 160 == 0 && s.wake.lastHop != s.get WAKE_ARCH_STAT_POS) = true := by
  obtain ⟨h1, h2, h3, h4, h5, -, -⟩ := h
  simp [h1, h2, h3, h4, h5]

/-- R244: the threshold is reached once more than HOLD asks for. -/
theorem spotterHop_detects (h : Hop s) {score lane : Nat} (hth : s.get WAKE_CFG_THRESH ≤ min 255 score)
    (hhold : s.get WAKE_CFG_HOLD ≤ s.wake.run) (hlast : s.wake.lastHop = (s.get WAKE_ARCH_STAT_POS + archMod - 160) % archMod)
    (href : s.wake.refract = 0) :
    spotterHop score lane s = (s.hopScored 0).detect (s.get WAKE_ARCH_STAT_POS) (min 255 score) (s.get WAKE_CFG_SPOT_LANE) := by
  unfold spotterHop
  dsimp only
  rw [if_neg h.guard]
  simp only [h.mode, Bool.false_and, Bool.false_eq_true, if_false, h.sound, hth, not_false_eq_true, and_self, if_true, if_pos hlast]
  rw [decide_eq_true (by omega), if_neg (by decide), if_neg (by rw [href]; decide)]
  rfl

/-- R244: the threshold is missed. -/
theorem spotterHop_misses (h : Hop s) {score lane : Nat} (hth : min 255 score < s.get WAKE_CFG_THRESH) :
    spotterHop score lane s = s.hopScored 0 := by
  unfold spotterHop
  dsimp only
  rw [if_neg h.guard]
  simp only [h.mode, Bool.false_and, Bool.false_eq_true, if_false, h.sound, Nat.not_le.2 hth, false_and]
  rw [decide_eq_false (by omega), if_pos (by decide)]
  rfl

/-- An alert changes nothing but what events change. -/
theorem Quiet.alert (h : Quiet l s t) (src : Nat) : Quiet l s (t.alert src) := by
  have hev {f : Fld} (hf : fldIn eventFlds f = true) {u : State} (hu : Quiet l s u) (v : Nat) : Quiet l s (u.put f v) := by
    refine ⟨hu.1, SameRegs.put hu.2 ?_ v⟩
    rw [fldIn_append, hf, Bool.or_true]
  unfold State.alert
  split
  · rw [State.setBit_eq, State.clrBit_eq]
    exact hev (by decide) (hev (by decide) h _) _
  · exact h

theorem Quiet.wakeBy (h : Quiet l s t) (c : Nat) : Quiet l s (t.wakeBy c) := by
  obtain ⟨w, hw⟩ := t.wakeBy_eq c
  rw [hw]
  exact Quiet.update h

/-- A detection's registers (R244, R246). -/
def detFlds : List Fld := [WAKE_DET_TRIG_POS, WAKE_DET_SCORE, WAKE_DET_LANE, WAKE_CNT_DETECTS, WAKE_SUM_DETECT]

/-- The state in which a detection is counted and posted. -/
def State.detPosted (s : State) (t score lane : Nat) : State :=
  let u := ((s.put WAKE_DET_TRIG_POS t).put WAKE_DET_SCORE score).put WAKE_DET_LANE lane
  ((u.bump WAKE_CNT_DETECTS).put WAKE_SUM_DETECT 1).post 0x0801 sevInfo (pack [p32 t, p16 score, p16 lane, p32 u.frame])

theorem State.detPosted_shown (s : State) {t score lane : Nat} (hsc : score < 256) :
    let u := s.detPosted t score lane
    u.get WAKE_DET_TRIG_POS = t % 2 ^ 32 ∧ u.get WAKE_DET_SCORE = score ∧
      u.get WAKE_CNT_DETECTS = satNat 16 (s.get WAKE_CNT_DETECTS + 1) ∧ u.get WAKE_SUM_DETECT = 1 ∧ 0x0801 ∈ u.occ ∧ u.wake = s.wake ∧
      Quiet detFlds s u := by
  unfold State.detPosted
  dsimp only
  refine ⟨?_, ?_, ?_, ?_, State.mem_occ_post _ _ _ (by decide), by rw [State.post_wake]; rfl,
    Quiet.post (Quiet.put (Quiet.bump (Quiet.put (Quiet.put (Quiet.put (.refl _ s) (by decide) t) (by decide) score) (by decide) lane)
      (by decide)) (by decide) 1) _ _ _⟩
  all_goals
    rw [State.get_post (by decide)]
    simp (disch := decide) only [State.get_put_ne, State.get_put_same, State.get_bump_ne, State.get_bump_same]
  · rfl
  · exact Nat.mod_eq_of_lt hsc
  · rfl
  · decide

/-- The sources that a detection alerts and wakes (R246). -/
def State.detTold (s : State) : State :=
  let t := if s.on WAKE_CTL_ALERT_EN then s.alert 3 else s
  if t.on WAKE_CTL_WAKE_EN then t.wakeBy 1 else t

theorem State.detTold_shown (s : State) : Quiet [] s s.detTold ∧ s.detTold.wake = s.wake ∧ s.detTold.occ = s.occ := by
  unfold State.detTold
  have h1 : Quiet [] s (if s.on WAKE_CTL_ALERT_EN then s.alert 3 else s) ∧
      (if s.on WAKE_CTL_ALERT_EN then s.alert 3 else s).wake = s.wake ∧
      (if s.on WAKE_CTL_ALERT_EN then s.alert 3 else s).occ = s.occ := by
    refine ⟨.ite (Quiet.alert (.refl _ s) 3) (.refl _ s), ?_⟩
    unfold State.alert
    split_ifs <;> exact ⟨rfl, rfl⟩
  generalize (if s.on WAKE_CTL_ALERT_EN then s.alert 3 else s) = t at *
  obtain ⟨k1, k2, k3⟩ := h1
  obtain ⟨w, hw⟩ := t.wakeBy_eq 1
  dsimp only
  refine ⟨.ite (k1.wakeBy 1) k1, ?_⟩
  rw [hw]
  split <;> exact ⟨k2, k3⟩

theorem State.detect_eq (s : State) (t score lane : Nat) : ∃ due, s.detect t score lane = { (s.detPosted t score lane).detTold with
    wake := { (s.detPosted t score lane).detTold.wake with
      run := 0, refract := (s.detPosted t score lane).detTold.get WAKE_CFG_REFRACT + 1, detected := true, hoDue := due } } := by
  unfold State.detect
  extract_lets +onlyGivenNames s1 s2 s3 s4 w
  have h2 : s2 = s.detPosted t score lane := rfl
  clear_value s2
  have h4 : s4 = s2.detTold := rfl
  clear_value s4 s3
  rw [← h2, ← h4]
  exact ⟨_, rfl⟩

theorem State.detect_shown (s : State) {t score lane : Nat} (hsc : score < 256) :
    let u := s.detect t score lane
    u.get WAKE_DET_TRIG_POS = t % 2 ^ 32 ∧ u.get WAKE_DET_SCORE = score ∧
      u.get WAKE_CNT_DETECTS = satNat 16 (s.get WAKE_CNT_DETECTS + 1) ∧ u.get WAKE_SUM_DETECT = 1 ∧ 0x0801 ∈ u.occ ∧
      u.wake.detected = true ∧ u.wake.refract = s.get WAKE_CFG_REFRACT + 1 ∧ u.wake.lastHop = s.wake.lastHop ∧ Quiet detFlds s u := by
  obtain ⟨h1, h2, h3, h4, h5, h6, h7⟩ := s.detPosted_shown (t := t) (lane := lane) hsc
  obtain ⟨k1, k2, k3⟩ := (s.detPosted t score lane).detTold_shown
  obtain ⟨due, heq⟩ := s.detect_eq t score lane
  have href : (s.detPosted t score lane).detTold.get WAKE_CFG_REFRACT = s.get WAKE_CFG_REFRACT :=
    (k1.get (by decide) (by decide)).trans (h7.get (by decide) (by decide))
  dsimp only
  rw [heq, href]
  have hread (f : Fld) (hf : fldIn eventFlds f = false) := k1.get (f := f) (fldIn_nil f) hf
  have hq := Quiet.trans h7 (k1.of_subset (List.nil_subset _))
  generalize (s.detPosted t score lane).detTold = v at *
  generalize s.detPosted t score lane = w at *
  simp only [State.get_mk]
  exact ⟨(hread _ (by decide)).trans h1, (hread _ (by decide)).trans h2, (hread _ (by decide)).trans h3, (hread _ (by decide)).trans h4,
    by rw [k3]; exact h5, trivial, trivial, by rw [k2, h6], Quiet.update hq⟩

/-- R244, R246: a hop that ends a run of hops at the threshold is a detection. -/
theorem spotterHop_detected (h : Hop s) {score lane : Nat} (hth : s.get WAKE_CFG_THRESH ≤ min 255 score)
    (hhold : s.get WAKE_CFG_HOLD ≤ s.wake.run) (hlast : s.wake.lastHop = (s.get WAKE_ARCH_STAT_POS + archMod - 160) % archMod)
    (href : s.wake.refract = 0) :
    let u := spotterHop score lane s
    u.get WAKE_DET_TRIG_POS = s.get WAKE_ARCH_STAT_POS % 2 ^ 32 ∧ u.get WAKE_DET_SCORE = min 255 score ∧
      u.get WAKE_CNT_DETECTS = satNat 16 (s.get WAKE_CNT_DETECTS + 1) ∧ u.get WAKE_SUM_DETECT = 1 ∧ 0x0801 ∈ u.occ ∧
      u.wake.detected = true ∧ u.wake.refract = s.get WAKE_CFG_REFRACT + 1 ∧ u.wake.lastHop = s.get WAKE_ARCH_STAT_POS ∧
      Quiet (eccFlds 7 ++ detFlds) s u := by
  dsimp only
  rw [spotterHop_detects h hth hhold hlast href]
  have hq := s.hopScored_quiet 0
  have hlast : (s.hopScored 0).wake.lastHop = s.get WAKE_ARCH_STAT_POS := rfl
  generalize s.hopScored 0 = v at *
  obtain ⟨k1, k2, k3, k4, k5, k6, k7, k8, k9⟩ := v.detect_shown (t := s.get WAKE_ARCH_STAT_POS) (score := min 255 score)
    (lane := s.get WAKE_CFG_SPOT_LANE) (by omega)
  rw [hq.get (by decide) (by decide)] at k3 k7
  exact ⟨k1, k2, k3, k4, k5, k6, k7, k8.trans hlast,
    Quiet.trans (hq.of_subset (List.subset_append_left _ _)) (k9.of_subset (List.subset_append_right _ _))⟩

/-- Settles O14: each clause is the lemma about its command. -/
theorem wakeSpotterHopsAndModel : Obligations.WakeSpotterHopsAndModel := by
  unfold Obligations.WakeSpotterHopsAndModel
  intro s pdm pos ecc hop
  refine ⟨fun v h => ⟨_, rfl, wakeArchCfgWrite_rejected h⟩, fun v h1 h2 h3 h4 => ⟨_, rfl, ?_⟩,
    fun v h1 h2 => ⟨_, rfl, wakeCtlWrite_enables h1 h2⟩, ⟨_, rfl, s.modelCheck_shown⟩,
    fun h1 h2 h3 => ⟨_, rfl, modelCheckDone_sound h1 h2 h3⟩, fun h1 h2 h3 => ⟨_, rfl, modelCheckDone_bad h1 h2 h3⟩,
    fun score lane ⟨h1, h2, h3, h4, h5, h6, h7⟩ hth hhold hlast href => ⟨_, rfl, ?_⟩,
    fun score lane ⟨h1, h2, h3, h4, h5, h6, h7⟩ hth => ⟨_, rfl, ?_⟩⟩
  · obtain ⟨k1, k2, k3, k4, k5, k6, k7⟩ := wakeArchCfgWrite_taken h1 h2 h3 h4
    exact ⟨k1, fun j => k2 j j.isLt, k3, k4, k5, k6, k7⟩
  · exact spotterHop_detected ⟨h1, h2, h3, h4, h5, h6, h7⟩ hth hhold hlast href
  · rw [spotterHop_misses ⟨h1, h2, h3, h4, h5, h6, h7⟩ hth]
    exact ⟨rfl, rfl, rfl, s.hopScored_quiet 0⟩

end Sys2Proof.Machine
end

section
/-! A handover while bank 7 is retired (R254, R424): it ends LOST as it starts, whatever WAKE_ARCH_STAT.LOST read. -/

namespace Sys2Proof.Machine

/-- The state after reset, with bank 7 retired and no loss of the archive shown. -/
def bankSevenRetired : State := State.reset.put (MEM_BANK_STAT_STATE 7) 4

theorem bankSevenRetired_mayStart :
    bankSevenRetired.hoRunning = false ∧
      bankSevenRetired.hoBad true (bankSevenRetired.get WAKE_HO_CFG_LOOKBACK) (bankSevenRetired.get WAKE_HO_CFG_LANES) = false ∧
      bankSevenRetired.on WAKE_ARCH_STAT_LOST = false := by decide

theorem hoGo_bankSevenRetired : (hoGo bankSevenRetired).get WAKE_HO_STAT_STATE = 3 := by decide

/-- Refutes O15: with bank 7 retired a handover has ended as soon as it starts, although the archive is not shown as lost. -/
theorem not_handoversBeginAndEnd : ¬ Obligations.HandoversBeginAndEnd := by
  unfold Obligations.HandoversBeginAndEnd
  intro h
  obtain ⟨-, -, hgo, -, -⟩ := h bankSevenRetired
  obtain ⟨h1, h2, h3⟩ := bankSevenRetired_mayStart
  obtain ⟨u, hu, hstate, -⟩ := hgo h1 h2 h3
  obtain rfl : hoGo bankSevenRetired = u := by injection hu
  rw [hoGo_bankSevenRetired] at hstate
  exact absurd hstate (by decide)

end Sys2Proof.Machine
end

section
/-! The relay at a channel's start (R268): SPK_STAT.RELAY has one bit, whatever the field RLY_EN holds. -/

namespace Sys2Proof.Machine

/-- Channel 0 is to start, and its field RLY_EN holds a value that its one bit cannot. -/
def wideRelay : State :=
  let s := State.reset.put (SPK_CFG_EN 0) 1
  { s with regs := mapInsert s.regs (Fld.key (SPK_CFG_RLY_EN 0)) 3, spks := [(0, { Spk.reset with startReq := true })] }

theorem wideRelay_starts :
    (wideRelay.spk 0).startReq = true ∧ wideRelay.get (SPK_STAT_STATE 0) = 0 ∧ wideRelay.on (SPK_CFG_EN 0) = true ∧
      wideRelay.folded = false ∧ wideRelay.awake = true ∧ wideRelay.spkUpper 0 = false ∧ wideRelay.calibrating 0x10 = false ∧
      wideRelay.on SPK_PVDD_STAT_UV = false ∧ wideRelay.on SPK_PVDD_STAT_OV = false ∧ wideRelay.on (SPK_CFG_RLY_EN 0) = false := by
  decide

theorem wideRelay_relay : (spkStart 0 wideRelay).on (SPK_STAT_RELAY 0) = true := by decide

/-- Refutes O16: a state in which RLY_EN holds 3 does not read it as on, and the start closes the relay. -/
theorem not_speakerStartReachesFullGain : ¬ Obligations.SpeakerStartReachesFullGain := by
  unfold Obligations.SpeakerStartReachesFullGain
  intro h
  obtain ⟨-, -, -, -, -, hstart, -⟩ := h wideRelay 0
  obtain ⟨h1, h2, h3, h4, h5, h6, h7, h8, h9, h10⟩ := wideRelay_starts
  obtain ⟨u, hu, -, hrelay, -⟩ := hstart h1 h2 h3 h4 h5 h6 h7 h8 h9
  obtain rfl : spkStart 0 wideRelay = u := by injection hu
  exact absurd (wideRelay_relay.symm.trans (hrelay.trans h10)) (by decide)

end Sys2Proof.Machine
end

section
/-! The speaker channels' stops, trips, faults and retries (R268, R269, R271, R273, R276 to R278, R287). -/

namespace Sys2Proof.Machine

variable {l : List Fld} {s t : State} {n : Nat}

/-! ### A channel's hidden state -/

@[simp] theorem State.spk_setSpk_same (s : State) (n : Nat) (x : Spk) : (s.setSpk n x).spk n = x := mapGet_set_same _ _ _ _

theorem State.spk_setSpk_ne (s : State) {n k : Nat} (x : Spk) (h : k ≠ n) : (s.setSpk n x).spk k = s.spk k := mapGet_set_ne h

@[simp] theorem State.get_setSpk (s : State) (n : Nat) (x : Spk) (f : Fld) : (s.setSpk n x).get f = s.get f := rfl

@[simp] theorem State.spk_put (s : State) (f : Fld) (v n : Nat) : (s.put f v).spk n = s.spk n := rfl

@[simp] theorem State.spk_post (s : State) (c v p n : Nat) : (s.post c v p).spk n = s.spk n := by
  rw [State.spk, State.post_spks, State.spk]

@[simp] theorem State.occ_setSpk (s : State) (n : Nat) (x : Spk) : (s.setSpk n x).occ = s.occ := rfl

theorem Quiet.setSpk (h : Quiet l s t) (n : Nat) (x : Spk) : Quiet l s (t.setSpk n x) := h.other rfl rfl rfl rfl

/-- No register of the speaker stages is an event's. -/
theorem fldIn_eventFlds_spk {f : Fld} (h : f.lo < 64 ∧ 0xE0A000 ≤ f.addr ∧ f.addr ≤ 0xE0A200) : fldIn eventFlds f = false :=
  fldIn_eventFlds_of_page (by omega)

/-! ### Stops -/

theorem spkStop_spec (hs : s.get (SPK_STAT_STATE n) = 3) (hp : (s.spk n).phase = .stop) (hr : (s.spk n).rampPos = 0) :
    let u := spkStop n s
    (u.spk n).phase = .rest ∧ Quiet [] s u := by
  dsimp only
  rw [spkStop, if_pos ⟨hs, hp, .inl hr⟩, State.spk_setSpk_same]
  exact ⟨rfl, (Quiet.refl _ s).setSpk _ _⟩

theorem spkRest_spec (hp : (s.spk n).phase = .rest) :
    let u := spkRest n s
    (u.spk n).phase = .release ∧ Quiet [] s u := by
  dsimp only
  rw [spkRest, if_pos hp, State.spk_setSpk_same]
  exact ⟨rfl, (Quiet.refl _ s).setSpk _ _⟩

/-- R269, R271: the relay is released, and the channel is OFF or FOLDED. -/
theorem spkRelayRelease_spec (hp : (s.spk n).phase = .release) (hw : (s.spk n).wait = 0) (hs : s.get (SPK_STAT_STATE n) = 3) :
    let u := spkRelayRelease n s
    u.get (SPK_STAT_RELAY n) = 0 ∧ u.get (SPK_STAT_HIZ n) = 1 ∧ u.get (SPK_STAT_STATE n) = (if (s.spk n).folding then 6 else 0) ∧
      (u.spk n).phase = .idle ∧ ((s.spk n).folding = false → (u.spk n).startReq = s.on (SPK_CFG_EN n)) ∧ Quiet (spkShown n) s u := by
  unfold spkRelayRelease
  dsimp only
  have hst : ((((s.put (SPK_STAT_RELAY n) 0).spkHiz n).setSpk n { s.spk n with phase := .idle, folding := false, mutePos := 0 })).spkState n = 3 := by
    rw [State.spkState, State.get_setSpk, State.spkHiz, State.get_put_ne, State.get_put_ne, hs] <;>
      simp only [Fld.key, SPK_STAT_STATE, SPK_STAT_RELAY, SPK_STAT_HIZ] <;> omega
  rw [if_neg (by rw [hp, hw]; decide), if_pos hst]
  have hq : Quiet (spkShown n) s (((s.put (SPK_STAT_RELAY n) 0).spkHiz n).setSpk n { s.spk n with phase := .idle, folding := false, mutePos := 0 }) :=
    Quiet.setSpk (Quiet.put (Quiet.put (.refl _ s) (mem_fldIn (by simp [spkShown])) 0) (mem_fldIn (by simp [spkShown])) 1) _ _
  have hstate : fldIn (spkShown n) (SPK_STAT_STATE n) = true := mem_fldIn (by simp [spkShown])
  cases hf : (s.spk n).folding
  · simp only [Bool.false_eq_true, if_false]
    refine ⟨?_, ?_, ?_, ?_, fun _ => ?_, Quiet.setSpk (hq.put hstate 0) _ _⟩
    all_goals simp (disch := simp only [Fld.key, SPK_STAT_STATE, SPK_STAT_RELAY, SPK_STAT_HIZ, SPK_CFG_EN]; omega) [State.on,
      State.spkHiz, State.get_put_ne]
  · simp only [if_true]
    refine ⟨?_, ?_, ?_, ?_, nofun, hq.put hstate 6⟩
    all_goals simp (disch := simp only [Fld.key, SPK_STAT_STATE, SPK_STAT_RELAY, SPK_STAT_HIZ]; omega) [State.spkHiz, State.get_put_ne]
    rfl

theorem spkRelayHeld_spec (hn : n < 4) (a b : Nat) (hp : (s.spk n).phase = .rest) (ha : s.rampFrames ≤ (s.spk n).age)
    (hr : s.on (SPK_STAT_RELAY n) = true) (hc : s.get (SPK_STAT_FAULT_CAUSE n) ≠ 7) :
    let u := spkRelayHeld n a b s
    u.get (SPK_STAT_FAULT_CAUSE n) = 7 ∧ u.bit SPK_SUM_RELAY_HELD n = true ∧ u.on (SPK_STAT_RELAY n) = true ∧ 0x0A0E ∈ u.occ ∧
      Quiet [SPK_STAT_FAULT_CAUSE n, SPK_SUM_RELAY_HELD] s u := by
  dsimp only
  rw [spkRelayHeld, if_pos ⟨hp, ha, hr, hc⟩]
  refine ⟨?_, ?_, ?_, State.mem_occ_post _ _ _ (by decide),
    Quiet.post (Quiet.setBit (Quiet.put (.refl _ s) (mem_fldIn (by simp)) 7) (mem_fldIn (by simp)) n) _ _ _⟩
  · rw [State.get_post (fldIn_eventFlds_spk (by simp only [SPK_STAT_FAULT_CAUSE]; omega)), State.get_setBit_ne, State.get_put_same]
    · rfl
    · simp only [Fld.key, SPK_STAT_FAULT_CAUSE, SPK_SUM_RELAY_HELD]
      omega
  · rw [State.bit, State.get_post (by decide)]
    exact State.bit_setBit_same _ hn
  · rw [State.on, State.get_post (fldIn_eventFlds_spk (by simp only [SPK_STAT_RELAY]; omega)), State.get_setBit_ne, State.get_put_ne]
    · exact hr
    · simp only [Fld.key, SPK_STAT_FAULT_CAUSE, SPK_STAT_RELAY]
      omega
    · simp only [Fld.key, SPK_STAT_RELAY, SPK_SUM_RELAY_HELD]
      omega

/-! ### The channels one after the other -/

/-- An operation on channel `n`: of the registers only its STATE, RELAY, HIZ and FAULT_CAUSE change, and no other channel. -/
structure ChannelStep (n : Nat) (s u : State) : Prop where
  quiet : Quiet [SPK_STAT_STATE n, SPK_STAT_RELAY n, SPK_STAT_HIZ n, SPK_STAT_FAULT_CAUSE n] s u
  spk : ∀ k, k ≠ n → u.spk k = s.spk k
  occ : u.occ = s.occ

theorem ChannelStep.refl (n : Nat) (s : State) : ChannelStep n s s := ⟨.refl _ s, fun _ _ => rfl, rfl⟩

theorem ChannelStep.put {f : Fld} (h : ChannelStep n s t)
    (hf : f ∈ [SPK_STAT_STATE n, SPK_STAT_RELAY n, SPK_STAT_HIZ n, SPK_STAT_FAULT_CAUSE n]) (v : Nat) : ChannelStep n s (t.put f v) :=
  ⟨h.quiet.put (mem_fldIn hf) v, h.spk, h.occ⟩

theorem ChannelStep.setSpk (h : ChannelStep n s t) (x : Spk) : ChannelStep n s (t.setSpk n x) :=
  ⟨h.quiet.setSpk n x, fun k hk => (State.spk_setSpk_ne t x hk).trans (h.spk k hk), h.occ⟩

/-- What the other channels' operations keep of channel `k`, and of the rest: everything but their own registers. -/
structure Apart (k : Nat) (s u : State) : Prop where
  spk : u.spk k = s.spk k
  get : ∀ f : Fld, f.lo < 64 → f.addr / 4096 ≠ 0xE0E → f.addr / 4096 ≠ 0xE10 → (∀ n < 4, n ≠ k → f.addr ≠ 0xE0A108 + 0x40 * n) → u.get f = s.get f
  bytes : SameBytes s u
  occ : u.occ = s.occ

theorem Apart.refl (k : Nat) (s : State) : Apart k s s := ⟨rfl, fun _ _ _ _ _ => rfl, fun _ => ⟨rfl, rfl, rfl⟩, rfl⟩

theorem Apart.trans {k : Nat} {u : State} (h : Apart k s t) (i : Apart k t u) : Apart k s u :=
  ⟨i.spk.trans h.spk, fun f h1 h2 h3 h4 => (i.get f h1 h2 h3 h4).trans (h.get f h1 h2 h3 h4), h.bytes.trans i.bytes, i.occ.trans h.occ⟩

theorem ChannelStep.apart {k : Nat} (h : ChannelStep n s t) (hn : n < 4) (hk : k ≠ n) : Apart k s t := by
  refine ⟨h.spk k hk, fun f h1 h2 h3 h4 => h.quiet.get_of_addr ⟨h1, h2, h3⟩ ?_, h.quiet.1, h.occ⟩
  have := h4 n hn hk.symm
  simp only [List.forall_mem_cons, SPK_STAT_STATE, SPK_STAT_RELAY, SPK_STAT_HIZ, SPK_STAT_FAULT_CAUSE, List.not_mem_nil, false_imp_iff,
    implies_true, and_true]
  omega

/-- An operation of every channel in turn does to channel `k` what its own step does, between steps that leave it alone. -/
theorem foldl_channels {f : State → Nat → State} (hf : ∀ t n, n < 4 → ChannelStep n t (f t n)) {k : Nat} (hk : k < 4) (s : State) :
    ∃ v, Apart k s v ∧ Apart k (f v k) ((List.range 4).foldl f s) := by
  have hstep (n : Nat) (hn : n < 4) (t : State) (hne : k ≠ n) : Apart k t (f t n) := (hf t n hn).apart hn hne
  have heq : (List.range 4).foldl f s = f (f (f (f s 0) 1) 2) 3 := rfl
  rw [heq]
  obtain rfl | rfl | rfl | rfl : k = 0 ∨ k = 1 ∨ k = 2 ∨ k = 3 := by omega
  · exact ⟨s, .refl 0 s, ((hstep 1 (by decide) _ (by decide)).trans (hstep 2 (by decide) _ (by decide))).trans (hstep 3 (by decide) _ (by decide))⟩
  · exact ⟨f s 0, hstep 0 (by decide) _ (by decide), (hstep 2 (by decide) _ (by decide)).trans (hstep 3 (by decide) _ (by decide))⟩
  · exact ⟨f (f s 0) 1, (hstep 0 (by decide) _ (by decide)).trans (hstep 1 (by decide) _ (by decide)), hstep 3 (by decide) _ (by decide)⟩
  · exact ⟨f (f (f s 0) 1) 2, ((hstep 0 (by decide) _ (by decide)).trans (hstep 1 (by decide) _ (by decide))).trans
      (hstep 2 (by decide) _ (by decide)), .refl 3 _⟩

/-! ### PVDD -/

/-- PVDD's trip of one channel (R273). -/
def State.spkTripOne (cause : Nat) (s : State) (n : Nat) : State :=
  let x := s.spk n
  match s.spkState n with
  | 1 | 2 =>
    if x.phase = .check ∨ x.phase = .trip then s.put (SPK_STAT_FAULT_CAUSE n) cause
    else ((s.put (SPK_STAT_FAULT_CAUSE n) cause).setSpk n { x with phase := .trip, limRun := 0, tweet := false, rampPos := 0 }).spkHiz n
  | 3 =>
    let s := (s.put (SPK_STAT_FAULT_CAUSE n) cause).spkHiz n
    if x.phase = .stop then s.spkToRest n x.folding else s
  | _ => s

theorem State.spkTrip_eq (s : State) (cause : Nat) : s.spkTrip cause = (List.range 4).foldl (State.spkTripOne cause) s := rfl

theorem State.spkTripOne_step (s : State) (cause n : Nat) : ChannelStep n s (s.spkTripOne cause n) := by
  unfold State.spkTripOne State.spkHiz State.spkToRest
  dsimp only
  have h0 := (ChannelStep.refl n s).put (f := SPK_STAT_FAULT_CAUSE n) (by simp) cause
  split
  · split
    · exact h0
    · exact (h0.setSpk _).put (by simp) 1
  · split
    · exact h0
    · exact (h0.setSpk _).put (by simp) 1
  · split
    · exact ((h0.put (f := SPK_STAT_HIZ n) (by simp) 1).put (by simp) 3).setSpk _
    · exact h0.put (by simp) 1
  · exact .refl n s

/-- R273: a channel that plays trips. -/
theorem State.spkTripOne_play (s : State) {cause : Nat} (hc : cause < 8) (hs : s.get (SPK_STAT_STATE n) = 2) (hp : (s.spk n).phase = .play) :
    let u := s.spkTripOne cause n
    u.get (SPK_STAT_FAULT_CAUSE n) = cause ∧ u.get (SPK_STAT_HIZ n) = 1 ∧ (u.spk n).phase = .trip ∧ u.get (SPK_STAT_STATE n) = 2 := by
  unfold State.spkTripOne State.spkState State.spkHiz
  simp only [hs, hp, reduceCtorEq, or_self, if_false]
  refine ⟨?_, ?_, ?_, ?_⟩
  · rw [State.get_put_ne, State.get_setSpk, State.get_put_same]
    · exact Nat.mod_eq_of_lt hc
    · simp only [Fld.key, SPK_STAT_FAULT_CAUSE, SPK_STAT_HIZ]
      omega
  · rw [State.get_put_same]
    rfl
  · rw [State.spk_put, State.spk_setSpk_same]
  · rw [State.get_put_ne, State.get_setSpk, State.get_put_ne, hs] <;>
      simp only [Fld.key, SPK_STAT_FAULT_CAUSE, SPK_STAT_HIZ, SPK_STAT_STATE] <;> omega

theorem State.spkTripOne_off (s : State) (cause : Nat) (hs : s.get (SPK_STAT_STATE n) = 0) : s.spkTripOne cause n = s := by
  unfold State.spkTripOne State.spkState
  simp only [hs]

/-- What a trip for `cause` does to the channels (R273). -/
def Trips (cause : Nat) (s u : State) : Prop :=
  (∀ k < 4, s.get (SPK_STAT_STATE k) = 2 → (s.spk k).phase = .play →
    u.get (SPK_STAT_FAULT_CAUSE k) = cause ∧ u.get (SPK_STAT_HIZ k) = 1 ∧ (u.spk k).phase = .trip ∧ u.get (SPK_STAT_STATE k) = 2) ∧
  (∀ k < 4, s.get (SPK_STAT_STATE k) = 0 → u.get (SPK_STAT_STATE k) = 0 ∧ u.spk k = s.spk k) ∧ SameBytes s u

/-- Channel `k`'s own status register lies apart from the other channels'. -/
theorem Apart.get_stat {k : Nat} (h : Apart k s t) {f : Fld} (hf : f.lo < 64 ∧ f.addr = 0xE0A108 + 0x40 * k) (hk : k < 4) :
    t.get f = s.get f :=
  h.get f hf.1 (by omega) (by omega) fun n hn hne => by omega

theorem State.spkTrip_trips (s : State) {cause : Nat} (hc : cause < 8) : Trips cause s (s.spkTrip cause) := by
  rw [State.spkTrip_eq]
  refine ⟨fun k hk hs hp => ?_, fun k hk hs => ?_, ?_⟩
  · obtain ⟨v, hv, hu⟩ := foldl_channels (fun t n _ => t.spkTripOne_step cause n) hk s
    obtain ⟨h1, h2, h3, h4⟩ := v.spkTripOne_play hc ((hv.get_stat ⟨show 0 < 64 by decide, rfl⟩ hk).trans hs) (by rw [hv.spk, hp])
    exact ⟨(hu.get_stat ⟨show 25 < 64 by decide, rfl⟩ hk).trans h1, (hu.get_stat ⟨show 4 < 64 by decide, rfl⟩ hk).trans h2,
      by rw [hu.spk, h3], (hu.get_stat ⟨show 0 < 64 by decide, rfl⟩ hk).trans h4⟩
  · obtain ⟨v, hv, hu⟩ := foldl_channels (fun t n _ => t.spkTripOne_step cause n) hk s
    have hvs := (hv.get_stat (f := SPK_STAT_STATE k) ⟨show 0 < 64 by decide, rfl⟩ hk).trans hs
    rw [v.spkTripOne_off cause hvs] at hu
    exact ⟨(hu.get_stat ⟨show 0 < 64 by decide, rfl⟩ hk).trans hvs, hu.spk.trans hv.spk⟩
  · obtain ⟨v, hv, hu⟩ := foldl_channels (fun t n _ => t.spkTripOne_step cause n) (show 0 < 4 by decide) s
    exact (hv.bytes.trans (v.spkTripOne_step cause 0).quiet.1).trans hu.bytes

/-- The registers outside the channels, as a trip leaves them. -/
theorem State.get_spkTrip (s : State) (cause : Nat) {f : Fld} (hf : f.lo < 64 ∧ 0xE0A000 ≤ f.addr ∧ f.addr < 0xE0A100) :
    (s.spkTrip cause).get f = s.get f := by
  rw [State.spkTrip_eq]
  obtain ⟨v, hv, hu⟩ := foldl_channels (fun t n _ => t.spkTripOne_step cause n) (show 0 < 4 by decide) s
  have hq := (v.spkTripOne_step cause 0).apart (k := 4) (by decide) (by decide)
  have hg {a b : State} (h : ∀ f : Fld, f.lo < 64 → f.addr / 4096 ≠ 0xE0E → f.addr / 4096 ≠ 0xE10 →
      (∀ n < 4, n ≠ 0 → f.addr ≠ 0xE0A108 + 0x40 * n) → b.get f = a.get f) : b.get f = a.get f :=
    h f hf.1 (by omega) (by omega) fun n _ _ => by omega
  rw [hg hu.get, hq.get f hf.1 (by omega) (by omega) fun n _ _ => by omega, hg hv.get]

/-- The trips of the channels after PVDD's own flag and summary bit, and before the event. -/
theorem trips_after_flag {cause : Nat} (hc : cause < 8) {f g : Fld} (hf : f.lo < 64 ∧ 0xE0A000 ≤ f.addr ∧ f.addr < 0xE0A100)
    (hg : g.lo < 64 ∧ 0xE0A000 ≤ g.addr ∧ g.addr < 0xE0A100) (hfg : Fld.key f ≠ Fld.key g) (hw : 0 < f.width ∧ 0 < g.width) {c : Nat}
    (hcode : c / 256 ≠ 0x13) (v p : Nat) :
    let u := (((s.put f 1).put g 1).spkTrip cause).post c v p
    u.get f = 1 ∧ u.get g = 1 ∧ c ∈ u.occ ∧ Trips cause s u := by
  have hone {w : Nat} (h : 0 < w) : 1 % 2 ^ w = 1 := Nat.mod_eq_of_lt (Nat.one_lt_two_pow (by omega))
  have hstat {k : Nat} {h : Fld} (hk : k < 4) (hh : h.lo < 64 ∧ h.addr = 0xE0A108 + 0x40 * k) : ((s.put f 1).put g 1).get h = s.get h := by
    rw [State.get_put_ne, State.get_put_ne] <;> simp only [Fld.key] <;> omega
  obtain ⟨h1, h2, h3⟩ := ((s.put f 1).put g 1).spkTrip_trips hc
  have hevent {k : Nat} {h : Fld} (hk : k < 4) (hh : h.lo < 64 ∧ h.addr = 0xE0A108 + 0x40 * k) : fldIn eventFlds h = false :=
    fldIn_eventFlds_spk (by omega)
  dsimp only
  refine ⟨?_, ?_, State.mem_occ_post _ _ _ hcode, fun k hk hs hp => ?_, fun k hk hs => ?_, ?_⟩
  · rw [State.get_post (fldIn_eventFlds_spk (by omega)), State.get_spkTrip _ _ hf, State.get_put_ne _ _ hfg, State.get_put_same, hone hw.1]
  · rw [State.get_post (fldIn_eventFlds_spk (by omega)), State.get_spkTrip _ _ hg, State.get_put_same, hone hw.2]
  · obtain ⟨k1, k2, k3, k4⟩ := h1 k hk ((hstat hk ⟨show 0 < 64 by decide, rfl⟩).trans hs) hp
    exact ⟨(State.get_post (hevent hk ⟨show 25 < 64 by decide, rfl⟩)).trans k1, (State.get_post (hevent hk ⟨show 4 < 64 by decide, rfl⟩)).trans k2,
      by rw [State.spk_post, k3], (State.get_post (hevent hk ⟨show 0 < 64 by decide, rfl⟩)).trans k4⟩
  · obtain ⟨k1, k2⟩ := h2 k hk ((hstat hk ⟨show 0 < 64 by decide, rfl⟩).trans hs)
    exact ⟨(State.get_post (hevent hk ⟨show 0 < 64 by decide, rfl⟩)).trans k1, by rw [State.spk_post, k2]; rfl⟩
  · exact SameBytes.trans (((SameBytes.put (f := f) (v := 1) (fun _ => ⟨rfl, rfl, rfl⟩)).put g 1).trans h3)
      (Quiet.post (Quiet.refl [] _) c v p).1

theorem spkPvddUv_spec {mv : Nat} (hmv : mv < 5500) (hs : s.on SPK_PVDD_STAT_UV = false) :
    let u := spkPvddUv mv s
    u.get SPK_PVDD_STAT_UV = 1 ∧ u.get SPK_SUM_PVDD_UV = 1 ∧ 0x0A0C ∈ u.occ ∧ Trips 3 s u := by
  dsimp only
  rw [spkPvddUv, if_pos ⟨hmv, by rw [hs]; decide⟩]
  exact trips_after_flag (by decide) (by decide) (by decide) (by decide) (by decide) (by decide) _ _

theorem spkPvddOv_spec {mv : Nat} (hmv : 19000 < mv) (hs : s.on SPK_PVDD_STAT_OV = false) :
    let u := spkPvddOv mv s
    u.get SPK_PVDD_STAT_OV = 1 ∧ u.get SPK_SUM_PVDD_OV = 1 ∧ 0x0A0D ∈ u.occ ∧ Trips 4 s u := by
  dsimp only
  rw [spkPvddOv, if_pos ⟨hmv, by rw [hs]; decide⟩]
  exact trips_after_flag (by decide) (by decide) (by decide) (by decide) (by decide) (by decide) _ _

/-- Start steps 2 and 3 are a step of the channel (R268). -/
theorem State.spkRelay_step (s : State) (n : Nat) : ChannelStep n s (s.spkRelay n) := by
  unfold State.spkRelay
  exact ((((((ChannelStep.refl n s).setSpk _).put (f := SPK_STAT_STATE n) (by simp) 1).put (f := SPK_STAT_FAULT_CAUSE n) (by simp) 0).put
    (f := SPK_STAT_RELAY n) (by simp) _).setSpk _).put (by simp) _

theorem State.spkRelay_shown (s : State) (n : Nat) :
    (s.spkRelay n).get (SPK_STAT_STATE n) = 1 ∧ ((s.spkRelay n).spk n).phase = .zero := by
  unfold State.spkRelay
  dsimp only
  refine ⟨?_, by rw [State.spk_put, State.spk_setSpk_same, State.spk_put, State.spk_put, State.spk_put, State.spk_setSpk_same]⟩
  rw [State.get_put_ne, State.get_setSpk, State.get_put_ne, State.get_put_ne, State.get_put_same]
  · rfl
  all_goals
    simp only [Fld.key, SPK_STAT_STATE, SPK_STAT_RELAY, SPK_STAT_HIZ, SPK_STAT_FAULT_CAUSE]
    omega

/-- A PVDD cause is no longer shown. -/
def State.pvddCleared (s : State) (n : Nat) : State :=
  if s.get (SPK_STAT_FAULT_CAUSE n) = 3 ∨ s.get (SPK_STAT_FAULT_CAUSE n) = 4 then s.put (SPK_STAT_FAULT_CAUSE n) 0 else s

/-- PVDD's recovery of one channel (R273). -/
def State.pvddRecoverOne (s : State) (n : Nat) : State :=
  let s := s.pvddCleared n
  match (s.spk n).phase with
  | .check => if s.folded then s else s.spkRelay n
  | .trip =>
    if s.on (SPK_CFG_EN n) && !s.folded then
      ((s.put (SPK_STAT_STATE n) 1).put (SPK_STAT_HIZ n) 0).setSpk n { s.spk n with
        phase := .zero, wait := 0, hist := [], demand := [], out := [] }
    else s
  | _ => s

theorem State.pvddCleared_step (s : State) (n : Nat) : ChannelStep n s (s.pvddCleared n) ∧ (s.pvddCleared n).spk n = s.spk n := by
  unfold State.pvddCleared
  split
  · exact ⟨(ChannelStep.refl n s).put (by simp) 0, rfl⟩
  · exact ⟨.refl n s, rfl⟩

theorem ChannelStep.trans {u : State} (h : ChannelStep n s t) (k : ChannelStep n t u) : ChannelStep n s u :=
  ⟨h.quiet.trans k.quiet, fun i hi => (k.spk i hi).trans (h.spk i hi), k.occ.trans h.occ⟩

theorem State.pvddRecoverOne_step (s : State) (n : Nat) : ChannelStep n s (s.pvddRecoverOne n) := by
  unfold State.pvddRecoverOne
  refine (s.pvddCleared_step n).1.trans ?_
  generalize s.pvddCleared n = t
  dsimp only
  split
  · split
    · exact .refl n t
    · exact t.spkRelay_step n
  · split
    · exact (((ChannelStep.refl n t).put (f := SPK_STAT_STATE n) (by simp) 1).put (by simp) 0).setSpk _
    · exact .refl n t
  · exact .refl n t

/-- R273: a tripped channel goes on with its zero state. -/
theorem State.pvddRecoverOne_trip (s : State) (hn : n < 4) (hp : (s.spk n).phase = .trip) (hen : s.on (SPK_CFG_EN n) = true) (hf : s.folded = false) :
    let u := s.pvddRecoverOne n
    u.get (SPK_STAT_STATE n) = 1 ∧ u.get (SPK_STAT_HIZ n) = 0 ∧ (u.spk n).phase = .zero ∧ (u.spk n).wait = 0 := by
  obtain ⟨h1, h2⟩ := s.pvddCleared_step n
  have hread {f : Fld} (hlo : f.lo < 64) (h : f.addr / 4096 ≠ 0xE0E ∧ f.addr / 4096 ≠ 0xE10 ∧ f.addr ≠ 0xE0A108 + 0x40 * n) :
      (s.pvddCleared n).get f = s.get f := by
    refine h1.quiet.get_of_addr ⟨hlo, h.1, h.2.1⟩ ?_
    simp only [List.forall_mem_cons, SPK_STAT_STATE, SPK_STAT_RELAY, SPK_STAT_HIZ, SPK_STAT_FAULT_CAUSE, List.not_mem_nil, false_imp_iff,
      implies_true, and_true]
    omega
  have hen' : (s.pvddCleared n).on (SPK_CFG_EN n) = true := by
    rw [State.on, hread (show 0 < 64 by decide) (by simp only [SPK_CFG_EN]; omega)]
    exact hen
  have hf' : (s.pvddCleared n).folded = false := by
    rw [State.folded, hread (f := KEEP_STAT_STATE) (by decide) (by simp only [KEEP_STAT_STATE]; omega)]
    exact hf
  unfold State.pvddRecoverOne
  rw [← h2] at hp
  generalize s.pvddCleared n = t at *
  simp only [hp, hen', hf', Bool.not_false, Bool.and_self, if_true]
  refine ⟨?_, ?_, by rw [State.spk_setSpk_same], by rw [State.spk_setSpk_same]⟩
  · rw [State.get_setSpk, State.get_put_ne, State.get_put_same]
    · rfl
    · simp only [Fld.key, SPK_STAT_STATE, SPK_STAT_HIZ]
      omega
  · rw [State.get_setSpk, State.get_put_same]
    rfl

theorem pvddRecovery_spec {mv : Nat} (hs : s.on SPK_PVDD_STAT_UV = true ∨ s.on SPK_PVDD_STAT_OV = true) (h1 : 5800 ≤ mv) (h2 : mv ≤ 18500)
    (hf : s.folded = false) :
    let u := pvddRecovery mv s
    u.get SPK_PVDD_STAT_UV = 0 ∧ u.get SPK_PVDD_STAT_OV = 0 ∧
      (∀ k < 4, (s.spk k).phase = .trip → s.on (SPK_CFG_EN k) = true →
        u.get (SPK_STAT_STATE k) = 1 ∧ u.get (SPK_STAT_HIZ k) = 0 ∧ (u.spk k).phase = .zero ∧ (u.spk k).wait = 0) ∧ SameBytes s u := by
  have heq : pvddRecovery mv s = (List.range 4).foldl State.pvddRecoverOne ((s.put SPK_PVDD_STAT_UV 0).put SPK_PVDD_STAT_OV 0) := by
    unfold pvddRecovery
    rw [if_pos (by rw [decide_eq_true h1, decide_eq_true h2, Bool.and_true, Bool.and_true, Bool.or_eq_true]; exact hs)]
    rfl
  have hget {f : Fld} (hlo : f.lo < 64) (hf : f.addr ≠ 0xE0A010) : ((s.put SPK_PVDD_STAT_UV 0).put SPK_PVDD_STAT_OV 0).get f = s.get f := by
    rw [State.get_put_ne, State.get_put_ne] <;> simp only [Fld.key, SPK_PVDD_STAT_UV, SPK_PVDD_STAT_OV] <;> omega
  have huv : ((s.put SPK_PVDD_STAT_UV 0).put SPK_PVDD_STAT_OV 0).get SPK_PVDD_STAT_UV = 0 ∧
      ((s.put SPK_PVDD_STAT_UV 0).put SPK_PVDD_STAT_OV 0).get SPK_PVDD_STAT_OV = 0 := by
    simp (disch := decide) only [State.get_put_ne, State.get_put_same, Nat.zero_mod, and_self]
  have hb : SameBytes s ((s.put SPK_PVDD_STAT_UV 0).put SPK_PVDD_STAT_OV 0) := fun _ => ⟨rfl, rfl, rfl⟩
  have hsp (k : Nat) : ((s.put SPK_PVDD_STAT_UV 0).put SPK_PVDD_STAT_OV 0).spk k = s.spk k := rfl
  dsimp only
  rw [heq]
  generalize (s.put SPK_PVDD_STAT_UV 0).put SPK_PVDD_STAT_OV 0 = t at *
  have hfold {k : Nat} (hk : k < 4) := foldl_channels (fun (t : State) n _ => t.pvddRecoverOne_step n) hk t
  obtain ⟨v, hv, hu⟩ := hfold (show 0 < 4 by decide)
  have h0 := (v.pvddRecoverOne_step 0).apart (k := 4) (by decide) (by decide)
  have hglobal {f : Fld} (hf : f.lo < 64 ∧ f.addr = 0xE0A010) : ((List.range 4).foldl State.pvddRecoverOne t).get f = t.get f := by
    rw [hu.get f hf.1 (by omega) (by omega) fun n _ _ => by omega, h0.get f hf.1 (by omega) (by omega) fun n _ _ => by omega,
      hv.get f hf.1 (by omega) (by omega) fun n _ _ => by omega]
  refine ⟨(hglobal (by decide)).trans huv.1, (hglobal (by decide)).trans huv.2, fun k hk hp hen => ?_,
    ((hb.trans hv.bytes).trans h0.bytes).trans hu.bytes⟩
  obtain ⟨w, hw, hx⟩ := hfold hk
  have hcfg : w.on (SPK_CFG_EN k) = true := by
    rw [State.on, hw.get _ (show 0 < 64 by decide) (by simp only [SPK_CFG_EN]; omega) (by simp only [SPK_CFG_EN]; omega)
      (fun n _ _ => by simp only [SPK_CFG_EN]; omega), hget (show 0 < 64 by decide) (by simp only [SPK_CFG_EN]; omega)]
    exact hen
  have hfolded : w.folded = false := by
    rw [State.folded, hw.get KEEP_STAT_STATE (by decide) (by decide) (by decide) (fun n _ _ => by simp only [KEEP_STAT_STATE]; omega),
      hget (f := KEEP_STAT_STATE) (by decide) (by decide)]
    exact hf
  obtain ⟨k1, k2, k3, k4⟩ := w.pvddRecoverOne_trip hk (by rw [hw.spk, hsp, hp]) hcfg hfolded
  exact ⟨(hx.get_stat ⟨show 0 < 64 by decide, rfl⟩ hk).trans k1, (hx.get_stat ⟨show 4 < 64 by decide, rfl⟩ hk).trans k2,
    by rw [hx.spk, k3], by rw [hx.spk, k4]⟩

/-! ### Faults -/

theorem State.spkOwner_lt (s : State) (hn : n < 4) : s.spkOwner n < 4 := by
  unfold State.spkOwner
  split <;> omega

/-- R276: a fault of the output's mean. -/
theorem spkDcFault_spec (hn : n < 4) {mean : Int} (hs : s.spkSwitching (s.spkOwner n) = true) (hm : 1500 < mean.natAbs) :
    let k := s.spkOwner n
    let u := spkDcFault n mean s
    u.get (SPK_STAT_STATE k) = 5 ∧ u.get (SPK_STAT_FAULT_CAUSE k) = 2 ∧ u.get (SPK_STAT_HIZ k) = 1 ∧ u.bit SPK_SUM_DC k = true ∧
      (u.spk k).retryAt = none ∧ 0x0A05 ∈ u.occ ∧ Quiet (SPK_SUM_DC :: spkShown k) s u := by
  have hk := s.spkOwner_lt hn
  unfold spkDcFault
  generalize s.spkOwner n = k at *
  dsimp only
  rw [if_pos ⟨hs, hm⟩]
  refine ⟨?_, ?_, ?_, ?_, ?_, State.mem_occ_post _ _ _ (by decide), Quiet.post (Quiet.setSpk (Quiet.put (Quiet.setBit (Quiet.put (Quiet.put
    (.refl _ s) (mem_fldIn (by simp [spkShown])) 5) (mem_fldIn (by simp [spkShown])) 2) (mem_fldIn (by simp)) k)
    (mem_fldIn (by simp [spkShown])) 1) _ _) _ _ _⟩
  · rw [State.get_post (fldIn_eventFlds_spk (by simp only [SPK_STAT_STATE]; omega)), State.get_setSpk, State.spkHiz, State.get_put_ne,
      State.get_setBit_ne, State.get_put_ne, State.get_put_same]
    · rfl
    all_goals
      simp only [Fld.key, SPK_STAT_STATE, SPK_STAT_HIZ, SPK_STAT_FAULT_CAUSE, SPK_SUM_DC]
      omega
  · rw [State.get_post (fldIn_eventFlds_spk (by simp only [SPK_STAT_FAULT_CAUSE]; omega)), State.get_setSpk, State.spkHiz, State.get_put_ne,
      State.get_setBit_ne, State.get_put_same]
    · rfl
    all_goals
      simp only [Fld.key, SPK_STAT_HIZ, SPK_STAT_FAULT_CAUSE, SPK_SUM_DC]
      omega
  · rw [State.get_post (fldIn_eventFlds_spk (by simp only [SPK_STAT_HIZ]; omega)), State.get_setSpk, State.spkHiz, State.get_put_same]
    rfl
  · rw [State.bit, State.get_post (by decide), State.get_setSpk, State.spkHiz, State.get_put_ne]
    · exact State.bit_setBit_same _ hk
    · simp only [Fld.key, SPK_STAT_HIZ, SPK_SUM_DC]
      omega
  · rw [State.spk_post, State.spk_setSpk_same]

/-- A limited carrier period is counted (R277). -/
def State.limited (s : State) (k run : Nat) : State :=
  (s.bump (SPK_CNT_ILIM k)).setSpk k { s.spk k with limRun := run, dirty := true }

theorem currentLimit_eq (leg : Nat) (again : Bool) (hs : s.spkSwitching (s.spkOwner n) = true) :
    let k := s.spkOwner n
    let run := if again then (s.spk k).limRun + 1 else 1
    currentLimit n leg again s = if 4 ≤ run then (s.limited k run).spkLatch k leg else s.limited k run := by
  unfold currentLimit
  dsimp only
  rw [if_pos hs]
  rfl

theorem currentLimit_first (leg : Nat) (hs : s.spkSwitching (s.spkOwner n) = true) :
    let k := s.spkOwner n
    let u := currentLimit n leg false s
    u.get (SPK_CNT_ILIM k) = satNat 16 (s.get (SPK_CNT_ILIM k) + 1) ∧ (u.spk k).limRun = 1 ∧
      u.get (SPK_STAT_STATE k) = s.get (SPK_STAT_STATE k) ∧ Quiet [SPK_CNT_ILIM k] s u := by
  dsimp only
  rw [currentLimit_eq leg false hs, if_neg (show ¬4 ≤ (if false = true then (s.spk (s.spkOwner n)).limRun + 1 else 1) by
    rw [if_neg Bool.false_ne_true]; decide)]
  unfold State.limited
  refine ⟨?_, by rw [State.spk_setSpk_same]; rfl, ?_, Quiet.setSpk ((Quiet.refl _ s).bump (mem_fldIn (by simp))) _ _⟩
  · rw [State.get_setSpk, State.get_bump_same]
    rfl
  · rw [State.get_setSpk, State.get_bump_ne]
    simp only [Fld.key, SPK_STAT_STATE, SPK_CNT_ILIM]
    omega

/-- The state of a channel latched by a short, before it is FAULTED for good (R277). -/
def State.shortLatched (s : State) (n leg : Nat) : State :=
  let rt := s.get (SPK_STAT_RETRY n)
  let s := (((s.put (SPK_STAT_STATE n) 4).put (SPK_STAT_FAULT_CAUSE n) 1).bump (SPK_CNT_SHORTS n)).setBit SPK_SUM_SHORT n
  let s := (s.spkHiz n).setSpk n { s.spk n with
    phase := .rest, age := 0, retryAt := some s.frame, limRun := 0, tweet := false, rampPos := 0, startReq := false, folding := false }
  s.post 0x0A01 sevFault (pack [p16 n, p16 leg, p16 rt])

theorem State.spkLatch_eq (s : State) (n leg : Nat) : s.spkLatch n leg =
    if (s.shortLatched n leg).get SPK_CTL_RETRIES ≤ s.get (SPK_STAT_RETRY n) then
      (((s.shortLatched n leg).put (SPK_STAT_STATE n) 5).setSpk n { (s.shortLatched n leg).spk n with retryAt := none }).post 0x0A04 sevFault
        (pack [p16 n, p16 1])
    else s.shortLatched n leg := rfl

theorem State.shortLatched_shown (s : State) (hn : n < 4) (leg : Nat) :
    let u := s.shortLatched n leg
    u.get (SPK_STAT_STATE n) = 4 ∧ u.get (SPK_STAT_FAULT_CAUSE n) = 1 ∧ u.get (SPK_STAT_HIZ n) = 1 ∧
      u.get (SPK_CNT_SHORTS n) = satNat 16 (s.get (SPK_CNT_SHORTS n) + 1) ∧ (u.spk n).retryAt = some s.frame ∧ 0x0A01 ∈ u.occ ∧
      u.get SPK_CTL_RETRIES = s.get SPK_CTL_RETRIES := by
  unfold State.shortLatched State.spkHiz
  dsimp only
  refine ⟨?_, ?_, ?_, ?_, ?_, State.mem_occ_post _ _ _ (by decide), ?_⟩
  · rw [State.get_post (fldIn_eventFlds_spk (by simp only [SPK_STAT_STATE]; omega)), State.get_setSpk, State.get_put_ne,
      State.get_setBit_ne, State.get_bump_ne, State.get_put_ne, State.get_put_same]
    · rfl
    all_goals
      simp only [Fld.key, SPK_STAT_STATE, SPK_STAT_HIZ, SPK_STAT_FAULT_CAUSE, SPK_CNT_SHORTS, SPK_SUM_SHORT]
      omega
  · rw [State.get_post (fldIn_eventFlds_spk (by simp only [SPK_STAT_FAULT_CAUSE]; omega)), State.get_setSpk, State.get_put_ne,
      State.get_setBit_ne, State.get_bump_ne, State.get_put_same]
    · rfl
    all_goals
      simp only [Fld.key, SPK_STAT_HIZ, SPK_STAT_FAULT_CAUSE, SPK_CNT_SHORTS, SPK_SUM_SHORT]
      omega
  · rw [State.get_post (fldIn_eventFlds_spk (by simp only [SPK_STAT_HIZ]; omega)), State.get_setSpk, State.get_put_same]
    rfl
  · rw [State.get_post (fldIn_eventFlds_spk (by simp only [SPK_CNT_SHORTS]; omega)), State.get_setSpk, State.get_put_ne,
      State.get_setBit_ne, State.get_bump_same, State.get_put_ne, State.get_put_ne]
    · rfl
    all_goals
      simp only [Fld.key, SPK_STAT_STATE, SPK_STAT_HIZ, SPK_STAT_FAULT_CAUSE, SPK_CNT_SHORTS, SPK_SUM_SHORT]
      omega
  · rw [State.spk_post, State.spk_setSpk_same]
    rfl
  · rw [State.get_post (by decide), State.get_setSpk, State.get_put_ne, State.get_setBit_ne, State.get_bump_ne, State.get_put_ne, State.get_put_ne]
    all_goals
      simp only [Fld.key, SPK_STAT_STATE, SPK_STAT_HIZ, SPK_STAT_FAULT_CAUSE, SPK_CNT_SHORTS, SPK_SUM_SHORT, SPK_CTL_RETRIES]
      omega

theorem State.limited_shown (s : State) (k run : Nat) :
    (s.limited k run).get (SPK_CNT_SHORTS k) = s.get (SPK_CNT_SHORTS k) ∧ (s.limited k run).get (SPK_STAT_RETRY k) = s.get (SPK_STAT_RETRY k) ∧
      (s.limited k run).get SPK_CTL_RETRIES = s.get SPK_CTL_RETRIES ∧ (s.limited k run).frame = s.frame := by
  unfold State.limited
  refine ⟨?_, ?_, ?_, rfl⟩
  all_goals
    rw [State.get_setSpk, State.get_bump_ne]
    simp only [Fld.key, SPK_CNT_SHORTS, SPK_CNT_ILIM, SPK_STAT_RETRY, SPK_CTL_RETRIES]
    omega

/-- The fourth limited carrier period in a row latches the channel. -/
theorem currentLimit_fourth (leg : Nat) (hs : s.spkSwitching (s.spkOwner n) = true) (hrun : 3 ≤ (s.spk (s.spkOwner n)).limRun) :
    currentLimit n leg true s =
      (s.limited (s.spkOwner n) ((s.spk (s.spkOwner n)).limRun + 1)).spkLatch (s.spkOwner n) leg := by
  have heq := currentLimit_eq leg true hs
  dsimp only at heq
  rw [heq, if_pos rfl, if_pos (by omega)]

/-- R277: four limited carrier periods in a row are a short, which is tried again. -/
theorem currentLimit_retries (hn : n < 4) (leg : Nat) (hs : s.spkSwitching (s.spkOwner n) = true) (hrun : 3 ≤ (s.spk (s.spkOwner n)).limRun)
    (hretry : s.get (SPK_STAT_RETRY (s.spkOwner n)) < s.get SPK_CTL_RETRIES) :
    let k := s.spkOwner n
    let u := currentLimit n leg true s
    u.get (SPK_STAT_STATE k) = 4 ∧ u.get (SPK_STAT_FAULT_CAUSE k) = 1 ∧ u.get (SPK_STAT_HIZ k) = 1 ∧
      u.get (SPK_CNT_SHORTS k) = satNat 16 (s.get (SPK_CNT_SHORTS k) + 1) ∧ (u.spk k).retryAt = some s.frame ∧ 0x0A01 ∈ u.occ := by
  have hk := s.spkOwner_lt hn
  dsimp only
  rw [currentLimit_fourth leg hs hrun]
  generalize s.spkOwner n = k at *
  obtain ⟨l1, l2, l3, l4⟩ := s.limited_shown k ((s.spk k).limRun + 1)
  generalize s.limited k ((s.spk k).limRun + 1) = t at *
  obtain ⟨h1, h2, h3, h4, h5, h6, h7⟩ := t.shortLatched_shown hk leg
  rw [State.spkLatch_eq, if_neg (by rw [h7, l2, l3]; omega)]
  exact ⟨h1, h2, h3, by rw [h4, l1], by rw [h5, l4], h6⟩

/-- R277: a short with no retry left is a fault for good. -/
theorem currentLimit_faults (hn : n < 4) (leg : Nat) (hs : s.spkSwitching (s.spkOwner n) = true) (hrun : 3 ≤ (s.spk (s.spkOwner n)).limRun)
    (hretry : s.get SPK_CTL_RETRIES ≤ s.get (SPK_STAT_RETRY (s.spkOwner n))) :
    let k := s.spkOwner n
    let u := currentLimit n leg true s
    u.get (SPK_STAT_STATE k) = 5 ∧ (u.spk k).retryAt = none ∧ 0x0A01 ∈ u.occ ∧ 0x0A04 ∈ u.occ := by
  have hk := s.spkOwner_lt hn
  dsimp only
  rw [currentLimit_fourth leg hs hrun]
  generalize s.spkOwner n = k at *
  obtain ⟨-, l2, l3, -⟩ := s.limited_shown k ((s.spk k).limRun + 1)
  generalize s.limited k ((s.spk k).limRun + 1) = t at *
  obtain ⟨-, -, -, -, -, h6, h7⟩ := t.shortLatched_shown hk leg
  rw [State.spkLatch_eq, if_pos (by rw [h7, l2, l3]; exact hretry)]
  generalize t.shortLatched k leg = v at *
  refine ⟨?_, ?_, State.mem_post_occ _ _ _ h6, State.mem_occ_post _ _ _ (by decide)⟩
  · rw [State.get_post (fldIn_eventFlds_spk (by simp only [SPK_STAT_STATE]; omega)), State.get_setSpk, State.get_put_same]
    rfl
  · rw [State.spk_post, State.spk_setSpk_same]

/-! ### Retries -/

/-- The registers of a channel's step are among the shown ones. -/
theorem ChannelStep.shown (h : ChannelStep n s t) : Quiet (spkShown n) s t :=
  h.quiet.of_subset fun f hf => by
    simp only [List.mem_cons, List.not_mem_nil, or_false] at hf
    rcases hf with rfl | rfl | rfl | rfl <;> simp [spkShown]

/-- A start leaves the retry counter. -/
theorem State.spkRelay_retry (s : State) (hn : n < 4) : (s.spkRelay n).get (SPK_STAT_RETRY n) = s.get (SPK_STAT_RETRY n) := by
  refine (s.spkRelay_step n).quiet.get ?_ (fldIn_eventFlds_spk (by simp only [SPK_STAT_RETRY]; omega))
  simp [fldIn, Fld.key, SPK_STAT_RETRY, SPK_STAT_STATE, SPK_STAT_RELAY, SPK_STAT_HIZ, SPK_STAT_FAULT_CAUSE]

/-- R277, step 5: a latched channel starts once more. -/
theorem spkRetry_spec (hn : n < 4) {f : Nat} (hf : (s.spk n).retryAt = some f) (hs : s.get (SPK_STAT_STATE n) = 4) (hen : s.on (SPK_CFG_EN n) = true)
    (h4 : s.get SPK_CTL_RETRIES < 4) (hr : s.get (SPK_STAT_RETRY n) < s.get SPK_CTL_RETRIES) (hfold : s.folded = false)
    (huv : s.on SPK_PVDD_STAT_UV = false) (hov : s.on SPK_PVDD_STAT_OV = false) (hage : s.framesOfMs 500 ≤ s.frameAgo f) :
    let u := spkRetry n s
    u.get (SPK_STAT_RETRY n) = s.get (SPK_STAT_RETRY n) + 1 ∧ u.get (SPK_STAT_STATE n) = 1 ∧ (u.spk n).phase = .zero ∧
      0x0A02 ∈ u.occ ∧ Quiet (SPK_STAT_RETRY n :: spkShown n) s u := by
  unfold spkRetry State.spkState
  dsimp only
  rw [hf]
  dsimp only
  rw [if_pos ⟨hs, hen, hr, by rw [hfold]; rfl, by rw [huv]; rfl, by rw [hov]; rfl, hage⟩]
  set t := (s.put (SPK_STAT_RETRY n) (s.get (SPK_STAT_RETRY n) + 1)).post 0x0A02 sevInfo (pack [p16 n, p16 (s.get (SPK_STAT_RETRY n) + 1)])
    with ht
  have hq : Quiet (SPK_STAT_RETRY n :: spkShown n) s t := Quiet.post (Quiet.put (.refl _ s) (mem_fldIn (by simp)) _) _ _ _
  have hget : t.get (SPK_STAT_RETRY n) = s.get (SPK_STAT_RETRY n) + 1 := by
    rw [ht, State.get_post (fldIn_eventFlds_spk (by simp only [SPK_STAT_RETRY]; omega)), State.get_put_same]
    exact Nat.mod_eq_of_lt (show _ < 4 by omega)
  have hocc : 0x0A02 ∈ t.occ := State.mem_occ_post _ _ _ (by decide)
  clear_value t
  refine ⟨?_, (t.spkRelay_shown n).1, (t.spkRelay_shown n).2, ?_, hq.trans ((t.spkRelay_step n).shown.of_subset
    (List.subset_cons_self _ _))⟩
  · rw [State.spkRelay_retry _ hn, hget]
  · rw [(t.spkRelay_step n).occ]
    exact hocc

/-- R278: half a second of play takes the retries back. -/
theorem spkRecovered_spec (hn : n < 4) (hr : s.get (SPK_STAT_RETRY n) ≠ 0) (hp : (s.spk n).phase = .play) (hage : s.framesOfMs 500 ≤ (s.spk n).played) :
    let u := spkRecovered n s
    u.get (SPK_STAT_RETRY n) = 0 ∧ 0x0A03 ∈ u.occ ∧ Quiet [SPK_STAT_RETRY n] s u := by
  dsimp only
  rw [spkRecovered, if_pos ⟨hr, hp, hage⟩]
  refine ⟨?_, State.mem_occ_post _ _ _ (by decide), Quiet.post (Quiet.put (.refl _ s) (mem_fldIn (by simp)) 0) _ _ _⟩
  rw [State.get_post (fldIn_eventFlds_spk (by simp only [SPK_STAT_RETRY]; omega)), State.get_put_same, Nat.zero_mod]

/-- R278: SPK_CMD.CLEAR takes a latched or faulted channel back to OFF. -/
theorem spkClear_spec (hn : n < 4) (hs : s.get (SPK_STAT_STATE n) = 4 ∨ s.get (SPK_STAT_STATE n) = 5) (hf : s.folded = false) (hu : s.spkUpper n = false) :
    let u := spkClear n s
    u.get (SPK_STAT_STATE n) = 0 ∧ u.get (SPK_STAT_RETRY n) = 0 ∧ u.get (SPK_STAT_FAULT_CAUSE n) = 0 ∧
      (u.spk n).startReq = ((s.spk n).startReq || s.on (SPK_CFG_EN n)) ∧
      Quiet [SPK_STAT_STATE n, SPK_STAT_RETRY n, SPK_STAT_FAULT_CAUSE n] s u := by
  have heq : spkClear n s =
      let t := (((s.put (SPK_STAT_RETRY n) 0).put (SPK_STAT_FAULT_CAUSE n) 0).put (SPK_STAT_STATE n) 0).setSpk n
        { s.spk n with retryAt := none }
      if t.on (SPK_CFG_EN n) then t.spkEnable n else t := by
    unfold spkClear State.spkState
    rw [if_pos hs]
    rfl
  have hq : Quiet [SPK_STAT_STATE n, SPK_STAT_RETRY n, SPK_STAT_FAULT_CAUSE n] s
      (((s.put (SPK_STAT_RETRY n) 0).put (SPK_STAT_FAULT_CAUSE n) 0).put (SPK_STAT_STATE n) 0) :=
    Quiet.put (Quiet.put (Quiet.put (.refl _ s) (mem_fldIn (by simp)) 0) (mem_fldIn (by simp)) 0) (mem_fldIn (by simp)) 0
  have hkeep {f : Fld} (hf : f.addr ≠ 0xE0A108 + 0x40 * n) (hlo : f.lo < 64) :
      (((s.put (SPK_STAT_RETRY n) 0).put (SPK_STAT_FAULT_CAUSE n) 0).put (SPK_STAT_STATE n) 0).get f = s.get f := by
    rw [State.get_put_ne, State.get_put_ne, State.get_put_ne] <;>
      simp only [Fld.key, SPK_STAT_STATE, SPK_STAT_RETRY, SPK_STAT_FAULT_CAUSE] <;> omega
  have hshown : (((s.put (SPK_STAT_RETRY n) 0).put (SPK_STAT_FAULT_CAUSE n) 0).put (SPK_STAT_STATE n) 0).get (SPK_STAT_STATE n) = 0 ∧
      (((s.put (SPK_STAT_RETRY n) 0).put (SPK_STAT_FAULT_CAUSE n) 0).put (SPK_STAT_STATE n) 0).get (SPK_STAT_RETRY n) = 0 ∧
      (((s.put (SPK_STAT_RETRY n) 0).put (SPK_STAT_FAULT_CAUSE n) 0).put (SPK_STAT_STATE n) 0).get (SPK_STAT_FAULT_CAUSE n) = 0 := by
    simp (disch := (simp only [Fld.key, SPK_STAT_STATE, SPK_STAT_RETRY, SPK_STAT_FAULT_CAUSE]; omega)) only [State.get_put_ne,
      State.get_put_same, Nat.zero_mod, and_self]
  have hen : (((s.put (SPK_STAT_RETRY n) 0).put (SPK_STAT_FAULT_CAUSE n) 0).put (SPK_STAT_STATE n) 0).on (SPK_CFG_EN n) =
      s.on (SPK_CFG_EN n) := by
    rw [State.on, hkeep (f := SPK_CFG_EN n) (by simp only [SPK_CFG_EN]; omega) (show 0 < 64 by decide)]
    rfl
  have hfold : (((s.put (SPK_STAT_RETRY n) 0).put (SPK_STAT_FAULT_CAUSE n) 0).put (SPK_STAT_STATE n) 0).folded = false := by
    rw [State.folded, hkeep (f := KEEP_STAT_STATE) (by simp only [KEEP_STAT_STATE]; omega) (by decide)]
    exact hf
  have hupper : (((s.put (SPK_STAT_RETRY n) 0).put (SPK_STAT_FAULT_CAUSE n) 0).put (SPK_STAT_STATE n) 0).spkUpper n = false := by
    rw [State.spkUpper, State.on, State.on, hkeep (f := SPK_CTL_PAIR01) (by simp only [SPK_CTL_PAIR01]; omega) (by decide),
      hkeep (f := SPK_CTL_PAIR23) (by simp only [SPK_CTL_PAIR23]; omega) (by decide)]
    exact hu
  dsimp only at heq ⊢
  rw [heq]
  generalize ((s.put (SPK_STAT_RETRY n) 0).put (SPK_STAT_FAULT_CAUSE n) 0).put (SPK_STAT_STATE n) 0 = t at *
  have hupper' (x : Spk) : (t.setSpk n x).spkUpper n = false := hupper
  have hen' (x : Spk) : (t.setSpk n x).on (SPK_CFG_EN n) = s.on (SPK_CFG_EN n) := hen
  have hfold' (x : Spk) : (t.setSpk n x).folded = false := hfold
  obtain ⟨h1, h2, h3⟩ := hshown
  rw [hen']
  cases hc : s.on (SPK_CFG_EN n)
  · simp only [Bool.false_eq_true, if_false, State.spk_setSpk_same, Bool.or_false]
    exact ⟨h1, h2, h3, trivial, hq.setSpk _ _⟩
  · have hstate (x : Spk) : (t.setSpk n x).spkState n = 0 := h1
    simp only [if_true, State.spkEnable, hupper', Bool.false_eq_true, if_false, hstate, hfold', and_false, true_or, State.spk_setSpk_same,
      Bool.or_true]
    exact ⟨h1, h2, h3, trivial, Quiet.setSpk (hq.setSpk _ _) _ _⟩

/-- Settles O17: each command is its operation, and the operations do what the lemmas above say; PVDD's trip and recovery pass over
the channels one after the other, and a channel's own step is all that changes its registers. -/
theorem speakerStopsTripsAndRetries : Obligations.SpeakerStopsTripsAndRetries := by
  unfold Obligations.SpeakerStopsTripsAndRetries
  refine ⟨fun s n => ⟨fun h1 h2 h3 => ?_, fun h1 => ?_, fun h1 h2 h3 => ?_, fun a b h1 h2 h3 h4 => ?_, fun mv h1 h2 => ?_, fun mv h1 h2 => ?_,
    fun mv h1 h2 h3 h4 => ?_⟩, fun s n => ⟨fun mean h1 h2 => ?_, fun leg h1 => ?_, fun leg h1 h2 h3 => ?_, fun leg h1 h2 h3 => ?_,
    fun f h1 h2 h3 h4 h5 h6 h7 h8 h9 => ?_, fun h1 h2 h3 => ?_, fun h1 h2 h3 => ?_⟩⟩
  · exact ⟨_, rfl, spkStop_spec h1 h2 h3⟩
  · exact ⟨_, rfl, spkRest_spec h1⟩
  · exact ⟨_, rfl, spkRelayRelease_spec h1 h2 h3⟩
  · exact ⟨_, rfl, spkRelayHeld_spec n.isLt a b h1 h2 h3 h4⟩
  · obtain ⟨k1, k2, k3, k4, k5, k6⟩ := spkPvddUv_spec h1 h2
    exact ⟨_, rfl, k1, k2, k3, fun k => k4 k k.isLt, fun k => k5 k k.isLt, k6⟩
  · obtain ⟨k1, k2, k3, k4, k5, k6⟩ := spkPvddOv_spec h1 h2
    exact ⟨_, rfl, k1, k2, k3, fun k => k4 k k.isLt, fun k => k5 k k.isLt, k6⟩
  · obtain ⟨k1, k2, k3, k4⟩ := pvddRecovery_spec h1 h2 h3 h4
    exact ⟨_, rfl, k1, k2, fun k => k3 k k.isLt, k4⟩
  · exact ⟨_, rfl, spkDcFault_spec n.isLt h1 h2⟩
  · exact ⟨_, rfl, currentLimit_first leg h1⟩
  · exact ⟨_, rfl, currentLimit_retries n.isLt leg h1 h2 h3⟩
  · exact ⟨_, rfl, currentLimit_faults n.isLt leg h1 h2 h3⟩
  · exact ⟨_, rfl, spkRetry_spec n.isLt h1 h2 h3 h4 h5 h6 h7 h8 h9⟩
  · exact ⟨_, rfl, spkRecovered_spec n.isLt h1 h2 h3⟩
  · exact ⟨_, rfl, spkClear_spec n.isLt h1 h2 h3⟩

end Sys2Proof.Machine
end

section
/-! The speaker stages' temperatures, pilot windows and tweeter check (R279, R281 to R286); a thermal shutdown leaves the limiter's
own registers. -/

namespace Sys2Proof.Machine

variable {l : List Fld} {s t u : State} {n : Nat}

/-! ### What a fold leaves of the thermal limiter -/

/-- A field that is none of the limiter's: WARN, FOLDBACK and the summary bit THERM_WARN. -/
def OffLimiter (f : Fld) : Prop := f.lo < 64 ∧ (f.lo ≠ 17 ∧ f.lo ≠ 32 ∧ f.lo ≠ 33 ∨ f.addr < 0xE0A000 ∨ 0xE0A100 ≤ f.addr)

/-- From `s` to `u` the limiter's state, its registers, and the events that occurred are kept. -/
structure LimiterKept (s u : State) : Prop where
  red : u.thermRed = s.thermRed
  occ : s.occ ⊆ u.occ
  warn : u.get SPK_THERM_STAT_WARN = s.get SPK_THERM_STAT_WARN
  foldback : u.get SPK_THERM_STAT_FOLDBACK = s.get SPK_THERM_STAT_FOLDBACK
  sum : u.get SPK_SUM_THERM_WARN = s.get SPK_SUM_THERM_WARN

theorem LimiterKept.refl (s : State) : LimiterKept s s := ⟨rfl, fun _ h => h, rfl, rfl, rfl⟩

theorem LimiterKept.trans (h : LimiterKept s t) (k : LimiterKept t u) : LimiterKept s u :=
  ⟨k.red.trans h.red, fun _ hc => k.occ (h.occ hc), k.warn.trans h.warn, k.foldback.trans h.foldback, k.sum.trans h.sum⟩

/-- An update outside all that is kept. -/
theorem LimiterKept.other (h : LimiterKept s t) (hr : u.regs = t.regs) (hred : u.thermRed = t.thermRed) (hocc : u.occ = t.occ) :
    LimiterKept s u := by
  have hget (f : Fld) : u.get f = t.get f := by rw [State.get, State.get, hr]
  exact ⟨hred.trans h.red, hocc ▸ h.occ, (hget _).trans h.warn, (hget _).trans h.foldback, (hget _).trans h.sum⟩

theorem LimiterKept.put (h : LimiterKept s t) {f : Fld} (hf : OffLimiter f) (v : Nat) : LimiterKept s (t.put f v) := by
  obtain ⟨h1, h2⟩ := hf
  refine ⟨h.red, h.occ, ?_, ?_, ?_⟩
  · rw [State.get_put_ne, h.warn]
    simp only [Fld.key, SPK_THERM_STAT_WARN]
    omega
  · rw [State.get_put_ne, h.foldback]
    simp only [Fld.key, SPK_THERM_STAT_FOLDBACK]
    omega
  · rw [State.get_put_ne, h.sum]
    simp only [Fld.key, SPK_SUM_THERM_WARN]
    omega

theorem LimiterKept.bump (h : LimiterKept s t) {f : Fld} (hf : OffLimiter f) : LimiterKept s (t.bump f) := by
  rw [State.bump_eq]
  exact h.put hf _

theorem LimiterKept.setBit (h : LimiterKept s t) {f : Fld} (hf : OffLimiter f) (i : Nat) : LimiterKept s (t.setBit f i) := h.put hf _

theorem LimiterKept.ite {c : Prop} [Decidable c] (h : LimiterKept s t) (k : LimiterKept s u) : LimiterKept s (if c then t else u) := by
  split <;> assumption

theorem LimiterKept.foldl {β : Type} {f : State → β → State} {l : List β} (hf : ∀ t x, x ∈ l → LimiterKept t (f t x)) (h : LimiterKept s t) :
    LimiterKept s (l.foldl f t) := by
  induction l generalizing t with
  | nil => exact h
  | cons x l ih => exact ih (fun t y hy => hf t y (List.mem_cons_of_mem _ hy)) (h.trans (hf t x List.mem_cons_self))

theorem State.post_limiterKept (s : State) (c v p : Nat) : LimiterKept s (s.post c v p) :=
  ⟨s.post_thermRed c v p, fun _ hc => State.mem_post_occ s v p hc, State.get_post (by decide), State.get_post (by decide), State.get_post (by decide)⟩

theorem State.record_limiterKept (s : State) (c v p : Nat) : LimiterKept s (s.record c v p) := by
  have h := s.record_eventOnly c v p
  exact ⟨by rw [h.rest], by rw [s.record_occ]; exact fun _ hc => hc, h.regs _ (by decide), h.regs _ (by decide), h.regs _ (by decide)⟩

theorem State.keepPost_limiterKept (s : State) (c v p : Nat) : LimiterKept s (s.keepPost c v p) := by
  unfold State.keepPost State.postRec
  dsimp only
  exact .ite (.ite ((s.post_limiterKept c v p).trans (State.record_limiterKept _ c v p)) (s.post_limiterKept c v p)) (.refl s)

theorem State.memPut_limiterKept (s : State) (a : Nat) (v : Word) : LimiterKept s (s.memPut a v) := by
  unfold State.memPut
  dsimp only
  refine LimiterKept.other (t := if mapGet 0 s.wb (a / 8) = 2 then s.bump CUR_CNT_WB_CANCEL else s) ?_ rfl rfl rfl
  exact .ite ((LimiterKept.refl s).bump (by simp [OffLimiter, CUR_CNT_WB_CANCEL])) (.refl s)

theorem State.bankWrite_limiterKept (s : State) (b w : Nat) (v : Word) : LimiterKept s (s.bankWrite b w v) := by
  have hmem := s.memPut_limiterKept (bankAddr b w) v
  unfold State.bankWrite
  exact .ite (.refl s) (.ite (.refl s) (.ite (.ite (.refl s) ((LimiterKept.refl s).other rfl rfl rfl))
    (.ite (hmem.put (by simp [OffLimiter, WAKE_MODEL_STAT_STATE]) 0) hmem)))

/-! The ring engine. -/

theorem LimiterKept.setRing (h : LimiterKept s t) (r : Nat) (q : Ring) : LimiterKept s (t.setRing r q) := h.other rfl rfl rfl

theorem LimiterKept.setPointers (h : LimiterKept s t) (r v : Nat) :
    LimiterKept s (t.setHead r v) ∧ LimiterKept s (t.setTail r v) :=
  ⟨(h.put (by simp [OffLimiter, RING_HEAD_HEAD]) v).put (by simp [OffLimiter, RING_STAT_LEVEL]) _,
    (h.put (by simp [OffLimiter, RING_TAIL_TAIL]) v).put (by simp [OffLimiter, RING_STAT_LEVEL]) _⟩

theorem State.ringPush_limiterKept (s : State) (r : Nat) (ws : List Nat) : LimiterKept s (s.ringPush r ws) := by
  induction ws generalizing s with
  | nil => exact .refl s
  | cons v ws ih =>
    rw [State.ringPush]
    exact ((s.bankWrite_limiterKept _ _ _).setPointers r _).2.trans (ih _)

theorem State.afterCpl_limiterKept (s : State) (r : Nat) (w : Nat × Nat) : LimiterKept s (s.afterCpl r w) := by
  unfold State.afterCpl
  extract_lets w0 seq status h q nw done s1 s2
  have h1 : LimiterKept s s1 := (LimiterKept.refl s).setRing _ _
  have h2 : LimiterKept s s2 := .ite h1 (h1.other rfl rfl rfl)
  clear_value s1 s2
  refine .ite (LimiterKept.trans ?_ (State.post_limiterKept _ _ _ _)) (((h2.setPointers r _).1).put (by simp [OffLimiter, RING_STAT_STATE]) 1)
  exact ((h2.put (by simp [OffLimiter, RING_STAT_STATE]) 3).put (by simp [OffLimiter, RING_STAT_HALT_SEQ]) _).put
    (by simp [OffLimiter, RING_STAT_HALT_STATUS]) _

theorem State.complete_limiterKept (s : State) (r seq opc status result : Nat) : LimiterKept s (s.complete r seq opc status result) := by
  unfold State.complete
  refine .ite (((LimiterKept.refl s).setRing _ _).put (by simp [OffLimiter, RING_STAT_STATE]) 4) ?_
  exact LimiterKept.trans (State.ringPush_limiterKept s _ _) (State.afterCpl_limiterKept _ _ _)

theorem State.finish_limiterKept (s : State) (r status result : Nat) : LimiterKept s (s.finish r status result) := by
  unfold State.finish
  split
  · exact s.complete_limiterKept _ _ _ _ _
  · exact .refl s

/-! The calibrations and the converter. -/

theorem State.calEnd_limiterKept (s : State) (c : CalRun) (status : Nat) : LimiterKept s (s.calEnd c status) := by
  unfold State.calEnd
  extract_lets s1
  have h1 : LimiterKept s s1 := (LimiterKept.refl s).other rfl rfl rfl
  clear_value s1
  split
  · exact h1.trans (State.finish_limiterKept _ _ _ _)
  · exact h1

theorem State.pumpStart_limiterKept (s : State) : LimiterKept s s.pumpStart :=
  .ite ((LimiterKept.refl s).put (by simp [OffLimiter, HPO_STAT_CP_STATE]) 1) (.refl s)

theorem State.pumpCheck_limiterKept (s : State) : LimiterKept s s.pumpCheck :=
  .ite ((LimiterKept.refl s).put (by simp [OffLimiter, HPO_STAT_CP_STATE]) 0) (.refl s)

theorem State.calNext_limiterKept (s : State) (k : Nat) : LimiterKept s (s.calNext k) := by
  induction k generalizing s with
  | zero => exact .refl s
  | succ k ih =>
    rw [State.calNext]
    split
    · exact .refl s
    · split
      · exact (s.calEnd_limiterKept _ _).trans (ih _)
      · refine .ite (.ite s.pumpStart_limiterKept (.refl s)) (.ite (LimiterKept.trans ?_ (ih _)) ((s.calEnd_limiterKept _ _).trans (ih _)))
        exact (LimiterKept.refl s).other rfl rfl rfl

/-- A field of a page other than the speaker stages'. -/
theorem offLimiter_of_addr {f : Fld} (hlo : f.lo < 64) (h : f.addr < 0xE0A000 ∨ 0xE0A100 ≤ f.addr) : OffLimiter f := ⟨hlo, .inr h⟩

theorem State.supplyCheck_limiterKept (s : State) (c : Nat) : LimiterKept s (s.supplyCheck c) := by
  unfold State.supplyCheck
  have h1 : LimiterKept s { s with hkaOut := setBitN s.hkaOut c } := (LimiterKept.refl s).other rfl rfl rfl
  exact .ite (.refl s) (.ite ((LimiterKept.refl s).other rfl rfl rfl) (.ite (.refl s)
    ((h1.put (offLimiter_of_addr (f := HKA_SUM_SUPPLY) (by decide) (by decide)) 1).trans (State.post_limiterKept _ _ _ _))))

theorem State.hkaResult_limiterKept (s : State) (c : Nat) (code : Int) (locked : Bool) : LimiterKept s (s.hkaResult c code locked) := by
  unfold State.hkaResult
  extract_lets k ovr s1 s2 s3 s4
  have h1 : LimiterKept s s1 := ((LimiterKept.refl s).put (by simp [OffLimiter, HKA_RES_CODE]) _).put (by simp [OffLimiter, HKA_RES_VALUE]) _
  have h2 : LimiterKept s s2 := ((h1.put (by simp [OffLimiter, HKA_RES_VALID]) _).put (by simp [OffLimiter, HKA_RES_LOCKED]) _).put
    (by simp [OffLimiter, HKA_RES_OVR]) _
  have h3 : LimiterKept s s3 := (h2.put (by simp [OffLimiter, HKA_RES_SEQ]) _).bump (by simp [OffLimiter, HKA_CNT_CONVS])
  have h4 : LimiterKept s s4 := .ite (h3.put (by simp [OffLimiter, HKA_SUM_OVR]) 1) h3
  exact h4.trans (State.supplyCheck_limiterKept s4 c)

theorem State.hkaTach_limiterKept (s : State) : LimiterKept s s.hkaTach := by
  unfold State.hkaTach
  split
  · exact s.hkaResult_limiterKept _ _ _
  · exact LimiterKept.trans (t := s.free.2) ((LimiterKept.refl s).other rfl rfl rfl) (State.hkaResult_limiterKept _ _ _ _)

theorem State.hkaNext_limiterKept (s : State) (k : Nat) : LimiterKept s (s.hkaNext k) := by
  induction k generalizing s with
  | zero => exact .refl s
  | succ k ih =>
    rw [State.hkaNext]
    refine .ite (.refl s) ?_
    split
    · exact .ite (.refl s) ((LimiterKept.refl s).put (by simp [OffLimiter, HKA_STAT_POWERED]) 0)
    · next c _ _ =>
      extract_lets s1
      have h1 : LimiterKept s s1 := .ite ((LimiterKept.refl s).other rfl rfl rfl) ((LimiterKept.refl s).other rfl rfl rfl)
      clear_value s1
      refine .ite ((h1.trans s1.hkaTach_limiterKept).trans (ih _)) (LimiterKept.other (t := ((s1.put HKA_STAT_BUSY 1).put HKA_STAT_POWERED
        1).put HKA_STAT_CUR_CH c) ?_ rfl rfl rfl)
      exact ((h1.put (by simp [OffLimiter, HKA_STAT_BUSY]) 1).put (by simp [OffLimiter, HKA_STAT_POWERED]) 1).put
        (by simp [OffLimiter, HKA_STAT_CUR_CH]) c

theorem State.calGo_limiterKept (s : State) : LimiterKept s s.calGo := by
  unfold State.calGo State.showCal State.hkaGo
  exact ((((s.calNext_limiterKept 2048).put (by simp [OffLimiter, CUR_STAT_CAL_BUSY]) _).put (by simp [OffLimiter, CUR_STAT_CAL_TARGET])
    _).trans (State.pumpCheck_limiterKept _)).trans (State.hkaNext_limiterKept _ _)

theorem State.calFold_limiterKept (s : State) : LimiterKept s s.calFold := by
  unfold State.calFold State.calStop
  split
  · split
    · exact .ite ((s.calEnd_limiterKept _ _).trans (State.calGo_limiterKept _)) (.refl s)
    · exact .refl s
  · exact .refl s

/-! The fold itself. -/

theorem LimiterKept.setSpk (h : LimiterKept s t) (n : Nat) (x : Spk) : LimiterKept s (t.setSpk n x) := h.other rfl rfl rfl

theorem State.spkFold_limiterKept (s : State) (cause : Nat) : LimiterKept s (s.spkFold cause) := by
  refine LimiterKept.foldl (fun t n _ => ?_) (.refl s)
  have hcause : LimiterKept t (t.put (SPK_STAT_FAULT_CAUSE n) cause) := (LimiterKept.refl t).put (by simp [OffLimiter, SPK_STAT_FAULT_CAUSE]) _
  have hstate (u : State) (h : LimiterKept t u) (v : Nat) : LimiterKept t (u.put (SPK_STAT_STATE n) v) :=
    h.put (by simp [OffLimiter, SPK_STAT_STATE]) v
  have hrun : LimiterKept t (let s := t.put (SPK_STAT_FAULT_CAUSE n) cause
      if (t.spk n).phase = .rest ∨ (t.spk n).phase = .release then s.setSpk n { t.spk n with folding := true, startReq := false }
      else if s.spkState n = 1 ∨ (t.spk n).phase = .trip then s.spkToRest n true
      else (s.put (SPK_STAT_STATE n) 3).setSpk n { t.spk n with phase := .stop, folding := true, tweet := false, startReq := false }) :=
    .ite (hcause.setSpk _ _) (.ite ((hstate _ hcause 3).setSpk _ _) ((hstate _ hcause 3).setSpk _ _))
  dsimp only
  refine .ite (.refl t) ?_
  split
  · exact hrun
  · exact hrun
  · exact hrun
  · exact .ite (((hstate _ (.refl t) 6).put (by simp [OffLimiter, SPK_STAT_FAULT_CAUSE]) _).setSpk _ _) (.refl t)
  · exact .refl t

theorem State.hpoFold_limiterKept (s : State) : LimiterKept s s.hpoFold := by
  refine LimiterKept.foldl (fun t n _ => ?_) (.refl s)
  have hstate (v : Nat) (x : Hpo) : LimiterKept t ((t.put (HPO_STAT_STATE n) v).setHpo n x) :=
    LimiterKept.other ((LimiterKept.refl t).put (by simp [OffLimiter, HPO_STAT_STATE]) v) rfl rfl rfl
  dsimp only
  split
  · exact hstate _ _
  · exact hstate _ _
  · exact hstate _ _
  · exact .ite (hstate _ _) (.refl t)
  · exact .refl t

theorem State.showFoldCause_limiterKept (s : State) : LimiterKept s s.showFoldCause :=
  LimiterKept.foldl (fun t n _ => .ite ((LimiterKept.refl t).put (by simp [OffLimiter, SPK_STAT_FAULT_CAUSE]) _) (.refl t)) (.refl s)

/-- A fold, whatever its cause, leaves the thermal limiter as it was. -/
theorem State.fold_limiterKept (s : State) (c : Nat) : LimiterKept s (s.fold c) := by
  unfold State.fold State.showDrive
  extract_lets first s1 s2 s3
  have h1 : LimiterKept s s1 := (((LimiterKept.refl s).setBit (by simp [OffLimiter, KEEP_STAT_CAUSE]) c).setBit
    (by simp [OffLimiter, KEEP_SUM_CAUSE]) c).put (by simp [OffLimiter, KEEP_STAT_DRIVING]) _
  have h2 : LimiterKept s s2 := ((h1.put (by simp [OffLimiter, KEEP_STAT_STATE]) 1).put (by simp [OffLimiter, KEEP_STAT_FORCED]) 0).bump
    (by simp [OffLimiter, KEEP_CNT_FOLDS])
  have h2' : LimiterKept s { s2 with foldAt := s2.frame } := h2.other rfl rfl rfl
  have h3 : LimiterKept s s3 := h2'.trans (State.calFold_limiterKept _)
  clear_value s1 s3
  exact .ite ((((h3.trans (State.spkFold_limiterKept _ _)).trans (State.hpoFold_limiterKept _)).trans
    (State.showFoldCause_limiterKept _)).trans (State.keepPost_limiterKept _ _ _ _)) (h1.trans (State.showFoldCause_limiterKept _))

theorem State.thermalCheck_limiterKept (s : State) : LimiterKept s s.thermalCheck := by
  unfold State.thermalCheck
  split
  · next n _ =>
    refine .ite (.refl s) ?_
    extract_lets s1
    have h1 : LimiterKept s s1 := s.keepPost_limiterKept _ _ _
    have h2 : LimiterKept s { s1 with thermAt := s1.frame } := h1.other rfl rfl rfl
    exact h2.trans (State.fold_limiterKept _ 4)
  · exact .refl s

/-! ### Stage temperatures -/

/-- The sensor of the highest code, the first of equals. -/
def hottest (t : Nat → Nat) : Nat := (List.range 4).foldl (fun b n => if t b < t n then n else b) 0

/-- The index of the largest value of a list's indices and `b`. -/
theorem foldl_argmax (t : Nat → Nat) (l : List Nat) (b : Nat) :
    let h := l.foldl (fun b n => if t b < t n then n else b) b
    h ∈ b :: l ∧ ∀ n ∈ b :: l, t n ≤ t h := by
  induction l generalizing b with
  | nil => exact ⟨List.mem_cons_self, fun n hn => by rw [List.mem_singleton.1 hn]; exact le_refl _⟩
  | cons x l ih =>
    obtain ⟨h1, h2⟩ := ih (if t b < t x then x else b)
    refine ⟨?_, fun n hn => ?_⟩
    · rcases List.mem_cons.1 h1 with h | h
      · rw [List.foldl_cons, h]
        split <;> simp
      · exact List.mem_cons_of_mem _ (List.mem_cons_of_mem _ h)
    · have hb := h2 _ List.mem_cons_self
      rw [List.foldl_cons]
      rcases List.mem_cons.1 hn with rfl | hn
      · refine le_trans ?_ hb
        split <;> omega
      · rcases List.mem_cons.1 hn with rfl | hn
        · refine le_trans ?_ hb
          split <;> omega
        · exact h2 n (List.mem_cons_of_mem _ hn)

theorem hottest_lt (t : Nat → Nat) : hottest t < 4 := by
  have h := (foldl_argmax t (List.range 4) 0).1
  rcases List.mem_cons.1 h with h | h
  · rw [hottest, h]
    decide
  · exact List.mem_range.1 h

theorem le_hottest (t : Nat → Nat) (hn : n < 4) : t n ≤ t (hottest t) :=
  (foldl_argmax t (List.range 4) 0).2 n (List.mem_cons_of_mem _ (List.mem_range.2 hn))

/-- The registers that a read of the stage temperatures may write. -/
def thermFlds : List Fld :=
  [SPK_THERM_STAT_TEMP 0, SPK_THERM_STAT_TEMP 1, SPK_THERM_STAT_TEMP 2, SPK_THERM_STAT_TEMP 3, SPK_THERM_STAT_WARN, SPK_THERM_STAT_FOLDBACK,
    SPK_THERM_STAT_FOLD_GAIN, SPK_SUM_THERM_WARN]

/-- The limiter's next reduction (R279). -/
def State.nextRed (s : State) (code : Nat) : Nat :=
  if 199 ≤ code then max (min (1000 * min 24 (s.get SPK_THERM_CFG_FOLD_FLOOR)) (s.thermRed + 10)) s.thermRed
  else if code ≤ 194 then s.thermRed - 1 else s.thermRed

/-- The limiter shows the reduction `red`; `hot` says that a stage is at 135 °C or more. -/
def State.showRed (s : State) (red : Nat) (hot : Bool) : State :=
  ((({ s with thermRed := red }).put SPK_THERM_STAT_WARN (b2n hot)).put SPK_THERM_STAT_FOLDBACK (b2n (red != 0))).put
    SPK_THERM_STAT_FOLD_GAIN (red * 8 / 1000)

/-- The four codes are shown. -/
def State.showTemps (s : State) (t : Nat → Nat) : State := (List.range 4).foldl (fun s n => s.put (SPK_THERM_STAT_TEMP n) (t n)) s

/-- The rest of a read of the temperatures: the reduction becomes `red`, and a first excess is an event (R279). -/
def State.limit (s : State) (code hot red : Nat) : State :=
  let u := s.showRed red (decide (199 ≤ code))
  let u := if red ≠ s.thermRed then u.spkDirtyAll else u
  if decide (199 ≤ code) && s.thermRed == 0 && !s.on SPK_THERM_STAT_WARN then
    (u.put SPK_SUM_THERM_WARN 1).post 0x0A0B sevWarn (pack [p16 hot, p16i ((code : Int) - 64)])
  else u

theorem stageTempRead_eq (temps : List Nat) (s : State) :
    stageTempRead temps s =
      let t := fun n => temps.getD n 0 % 256
      (s.showTemps t).limit (t (hottest t)) (hottest t) ((s.showTemps t).nextRed (t (hottest t))) := by
  have hred (s1 : State) (c : Nat) : s1.nextRed c =
      (if 199 ≤ c then max (if 199 ≤ c then min (1000 * min 24 (s1.get SPK_THERM_CFG_FOLD_FLOOR)) (s1.thermRed + 10)
        else if c ≤ 194 then s1.thermRed - 1 else s1.thermRed) s1.thermRed
      else if 199 ≤ c then min (1000 * min 24 (s1.get SPK_THERM_CFG_FOLD_FLOOR)) (s1.thermRed + 10)
        else if c ≤ 194 then s1.thermRed - 1 else s1.thermRed) := by
    unfold State.nextRed
    by_cases h : 199 ≤ c
    · rw [if_pos h, if_pos h, if_pos h]
    · rw [if_neg h, if_neg h, if_neg h]
  dsimp only
  rw [hred]
  rfl

theorem State.spkDirtyAll_kept (s : State) : Quiet [] s s.spkDirtyAll ∧ s.spkDirtyAll.thermRed = s.thermRed :=
  ⟨Quiet.foldl (fun _ _ h => h.setSpk _ _) _ (.refl _ s), by
    have h (l : List Nat) (s : State) : (l.foldl (fun s n => s.setSpk n { s.spk n with dirty := true }) s).thermRed = s.thermRed := by
      induction l generalizing s with
      | nil => rfl
      | cons n l ih => exact (ih _).trans rfl
    exact h _ s⟩

theorem State.showTemps_get (s : State) (t : Nat → Nat) (ht : ∀ n, t n < 256) :
    (∀ n < 4, (s.showTemps t).get (SPK_THERM_STAT_TEMP n) = t n) ∧
      (∀ f, fldIn [SPK_THERM_STAT_TEMP 0, SPK_THERM_STAT_TEMP 1, SPK_THERM_STAT_TEMP 2, SPK_THERM_STAT_TEMP 3] f = false →
        (s.showTemps t).get f = s.get f) ∧ (s.showTemps t).thermRed = s.thermRed ∧ SameBytes s (s.showTemps t) := by
  have heq : s.showTemps t = (((s.put (SPK_THERM_STAT_TEMP 0) (t 0)).put (SPK_THERM_STAT_TEMP 1) (t 1)).put (SPK_THERM_STAT_TEMP 2) (t 2)).put
    (SPK_THERM_STAT_TEMP 3) (t 3) := rfl
  rw [heq]
  refine ⟨fun n hn => ?_, fun f hf => ?_, rfl, fun _ => ⟨rfl, rfl, rfl⟩⟩
  · have hm (n : Nat) : t n % 2 ^ (SPK_THERM_STAT_TEMP n).width = t n := Nat.mod_eq_of_lt (ht n)
    obtain rfl | rfl | rfl | rfl : n = 0 ∨ n = 1 ∨ n = 2 ∨ n = 3 := by omega
    all_goals simp (disch := decide) only [State.get_put_ne, State.get_put_same, hm]
  · simp only [fldIn, List.any_cons, List.any_nil, Bool.or_false, Bool.or_eq_false_iff, beq_eq_false_iff_ne, ne_eq] at hf
    rw [State.get_put_ne, State.get_put_ne, State.get_put_ne, State.get_put_ne] <;> tauto

theorem State.showRed_shown (s : State) (red : Nat) (hot : Bool) :
    (s.showRed red hot).thermRed = red ∧ (s.showRed red hot).get SPK_THERM_STAT_WARN = b2n hot ∧
      (s.showRed red hot).get SPK_THERM_STAT_FOLDBACK = b2n (red != 0) ∧
      (∀ n < 4, (s.showRed red hot).get (SPK_THERM_STAT_TEMP n) = s.get (SPK_THERM_STAT_TEMP n)) ∧ Quiet thermFlds s (s.showRed red hot) := by
  have hb (b : Bool) : b2n b % 2 ^ 1 = b2n b := by cases b <;> rfl
  have h0 (f : Fld) : ({ s with thermRed := red } : State).get f = s.get f := rfl
  have hq : Quiet thermFlds s { s with thermRed := red } := Quiet.other (.refl _ s) rfl rfl rfl rfl
  unfold State.showRed
  refine ⟨rfl, ?_, ?_, fun n hn => ?_, Quiet.put (Quiet.put (Quiet.put hq (by decide) _) (by decide) _) (by decide) _⟩
  · simp (disch := decide) only [State.get_put_ne, State.get_put_same]
    exact hb hot
  · simp (disch := decide) only [State.get_put_ne, State.get_put_same]
    exact hb _
  · rw [State.get_put_ne, State.get_put_ne, State.get_put_ne, h0] <;>
      simp only [Fld.key, SPK_THERM_STAT_TEMP, SPK_THERM_STAT_WARN, SPK_THERM_STAT_FOLDBACK, SPK_THERM_STAT_FOLD_GAIN] <;> omega

theorem State.limit_shown (s : State) (code hot red : Nat) :
    let u := s.limit code hot red
    u.thermRed = red ∧ u.get SPK_THERM_STAT_WARN = b2n (decide (199 ≤ code)) ∧ u.get SPK_THERM_STAT_FOLDBACK = b2n (red != 0) ∧
      (∀ n < 4, u.get (SPK_THERM_STAT_TEMP n) = s.get (SPK_THERM_STAT_TEMP n)) ∧ Quiet thermFlds s u ∧
      (199 ≤ code → s.thermRed = 0 → s.on SPK_THERM_STAT_WARN = false → u.get SPK_SUM_THERM_WARN = 1 ∧ 0x0A0B ∈ u.occ) := by
  obtain ⟨h1, h2, h3, h4, h5⟩ := s.showRed_shown red (decide (199 ≤ code))
  unfold State.limit
  extract_lets u1 u2 u
  have hu1 : u1 = s.showRed red (decide (199 ≤ code)) := rfl
  rw [← hu1] at h1 h2 h3 h4 h5
  clear_value u1
  have hu : Quiet [] u1 u2 ∧ u2.thermRed = u1.thermRed := by
    unfold u2
    split
    · exact u1.spkDirtyAll_kept
    · exact ⟨.refl _ u1, rfl⟩
  clear_value u2
  obtain ⟨hq, hr⟩ := hu
  have hget {f : Fld} (hf : fldIn eventFlds f = false) : u2.get f = u1.get f := hq.get rfl hf
  have hq' : Quiet thermFlds s u2 := h5.trans (hq.of_subset (List.nil_subset _))
  have htemp (n : Nat) (hn : n < 4) : fldIn eventFlds (SPK_THERM_STAT_TEMP n) = false :=
    fldIn_eventFlds_spk (by simp only [SPK_THERM_STAT_TEMP]; omega)
  unfold u
  split
  · have hp {f : Fld} (hf : fldIn eventFlds f = false) (hne : Fld.key f ≠ Fld.key SPK_SUM_THERM_WARN) (v p : Nat) :
        ((u2.put SPK_SUM_THERM_WARN 1).post 0x0A0B v p).get f = u1.get f := by
      rw [State.get_post hf, State.get_put_ne _ _ hne, hget hf]
    refine ⟨?_, ?_, ?_, fun n hn => ?_, Quiet.post (hq'.put (by decide) 1) _ _ _, fun _ _ _ => ⟨?_, State.mem_occ_post _ _ _ (by decide)⟩⟩
    · rw [State.post_thermRed]
      exact hr.trans h1
    · rw [hp (by decide) (by decide), h2]
    · rw [hp (by decide) (by decide), h3]
    · rw [hp (htemp n hn) (by simp only [Fld.key, SPK_THERM_STAT_TEMP, SPK_SUM_THERM_WARN]; omega), h4 n hn]
    · rw [State.get_post (by decide), State.get_put_same]
      rfl
  · next hfirst =>
    refine ⟨hr.trans h1, (hget (by decide)).trans h2, (hget (by decide)).trans h3, fun n hn => (hget (htemp n hn)).trans (h4 n hn), hq',
      fun k1 k2 k3 => absurd ?_ hfirst⟩
    rw [decide_eq_true k1, k2, k3]
    rfl

/-- Below 131 °C the reduction falls by a step, and no sensor reaches the keeper's limit (R279, R524). -/
theorem stageTempRead_cool {temps : List Nat} (ht : ∀ k < 4, temps.getD k 0 < 195) :
    let u := (stageTempRead temps s).thermalCheck
    (∀ k < 4, u.get (SPK_THERM_STAT_TEMP k) = temps.getD k 0) ∧ u.thermRed = s.thermRed - 1 ∧ u.get SPK_THERM_STAT_WARN = 0 ∧
      u.get SPK_THERM_STAT_FOLDBACK = b2n (s.thermRed - 1 != 0) ∧ SameBytes s u := by
  set t := fun n => temps.getD n 0 % 256 with htdef
  have htk (k : Nat) (hk : k < 4) : t k = temps.getD k 0 := Nat.mod_eq_of_lt (by have := ht k hk; omega)
  have hhot : t (hottest t) < 195 := htk _ (hottest_lt t) ▸ ht _ (hottest_lt t)
  obtain ⟨k1, k2, k3, hb⟩ := s.showTemps_get t fun n => Nat.mod_lt _ (by decide)
  have hred : (s.showTemps t).nextRed (t (hottest t)) = s.thermRed - 1 := by
    rw [State.nextRed, if_neg (by omega), if_pos (by omega), k3]
  obtain ⟨h1, h2, h3, h4, h5, -⟩ := (s.showTemps t).limit_shown (t (hottest t)) (hottest t) (s.thermRed - 1)
  dsimp only
  rw [stageTempRead_eq]
  dsimp only
  rw [← htdef, hred]
  set u := (s.showTemps t).limit (t (hottest t)) (hottest t) (s.thermRed - 1)
  have htemps (k : Nat) (hk : k < 4) : u.get (SPK_THERM_STAT_TEMP k) = temps.getD k 0 := by rw [h4 k hk, k1 k hk, htk k hk]
  have hcheck : u.thermalCheck = u := by
    have hnone : (List.range 4).find? (fun n => decide (224 ≤ u.get (SPK_THERM_STAT_TEMP n))) = none := by
      refine List.find?_eq_none.2 fun n hn => ?_
      have hn := List.mem_range.1 hn
      rw [htemps n hn, decide_eq_true_iff]
      have := ht n hn
      omega
    rw [State.thermalCheck, hnone]
  rw [hcheck]
  refine ⟨htemps, h1, ?_, h3, hb.trans h5.1⟩
  rw [h2, decide_eq_false (by omega)]
  rfl

/-- At 135 °C or more the reduction grows by a step up to its floor, and a first excess is an event (R279). -/
theorem stageTempRead_hot {temps : List Nat} (ht : ∀ k < 4, temps.getD k 0 < 256) (hn : n < 4) (hn' : 199 ≤ temps.getD n 0)
    (hfloor : s.thermRed + 10 ≤ 1000 * min 24 (s.get SPK_THERM_CFG_FOLD_FLOOR)) :
    let u := (stageTempRead temps s).thermalCheck
    u.thermRed = s.thermRed + 10 ∧ u.get SPK_THERM_STAT_WARN = 1 ∧ u.get SPK_THERM_STAT_FOLDBACK = 1 ∧
      (s.thermRed = 0 → s.on SPK_THERM_STAT_WARN = false → u.get SPK_SUM_THERM_WARN = 1 ∧ 0x0A0B ∈ u.occ) := by
  set t := fun n => temps.getD n 0 % 256 with htdef
  have hhot : 199 ≤ t (hottest t) := by
    refine le_trans ?_ (le_hottest t hn)
    rw [show t n = temps.getD n 0 from Nat.mod_eq_of_lt (ht n hn)]
    exact hn'
  obtain ⟨-, k2, k3, -⟩ := s.showTemps_get t fun n => Nat.mod_lt _ (by decide)
  have hred : (s.showTemps t).nextRed (t (hottest t)) = s.thermRed + 10 := by
    rw [State.nextRed, if_pos hhot, k2 _ (by decide), k3]
    omega
  obtain ⟨h1, h2, h3, -, -, h6⟩ := (s.showTemps t).limit_shown (t (hottest t)) (hottest t) (s.thermRed + 10)
  rw [k3, State.on, k2 _ (by decide)] at h6
  dsimp only
  rw [stageTempRead_eq]
  dsimp only
  rw [← htdef, hred]
  set u := (s.showTemps t).limit (t (hottest t)) (hottest t) (s.thermRed + 10)
  have hk := u.thermalCheck_limiterKept
  refine ⟨hk.red.trans h1, ?_, ?_, fun r1 r2 => ?_⟩
  · rw [hk.warn, h2, decide_eq_true hhot]
    rfl
  · rw [hk.foldback, h3, bne_iff_ne.2 (by omega)]
    rfl
  · obtain ⟨q1, q2⟩ := h6 hhot r1 r2
    exact ⟨hk.sum.trans q1, hk.occ q2⟩

/-! ### Pilot windows and the tweeter check -/

/-- A spoilt window is dropped (R282). -/
theorem pilotWindowEnd_dropped (z : Nat) (hs : s.get (SPK_STAT_STATE n) = 2) (hp : s.on (SPK_CFG_PILOT_EN n) = true)
    (hw : s.windowFrames n ≤ (s.spk n).winPos) (hd : (s.spk n).dirty = true) :
    let u := pilotWindowEnd n z s
    u.get (SPK_IMP_DROPPED n) = satNat 8 (s.get (SPK_IMP_DROPPED n) + 1) ∧ (u.spk n).dirty = (s.spk n).tweet ∧ (u.spk n).winPos = 0 ∧
      Quiet [SPK_IMP_DROPPED n] s u := by
  have heq : pilotWindowEnd n z s = (s.spkWindow n).bump (SPK_IMP_DROPPED n) := by
    unfold pilotWindowEnd State.spkState
    dsimp only
    rw [if_neg (by rw [hs, hp]; simpa using hw), if_pos hd]
  dsimp only
  rw [heq]
  unfold State.spkWindow
  refine ⟨?_, ?_, ?_, Quiet.bump (Quiet.setSpk (.refl _ s) _ _) (mem_fldIn (by simp))⟩
  · rw [State.get_bump_same]
    rfl
  all_goals
    rw [State.bump_eq, State.spk_put, State.spk_setSpk_same]

theorem tweet_spec (hs : s.get (SPK_STAT_STATE n) = 2) (hp : (s.spk n).phase = .play) (ht : (s.spk n).tweet = false) :
    let u := tweet n s
    (u.spk n).tweet = true ∧ (u.spk n).dirty = true ∧ Quiet [] s u := by
  dsimp only
  rw [tweet, if_pos ⟨hs, by rw [hp]; decide, by rw [ht]; decide⟩, State.spk_setSpk_same]
  exact ⟨rfl, rfl, (Quiet.refl _ s).setSpk _ _⟩

/-- R286: the tweeter's impedance, and whether it is open. -/
theorem tweetDone_spec (hn : n < 4) (z : Nat) (ht : (s.spk n).tweet = true) (ha : tweetCycles ≤ (s.spk n).tweetAt) :
    let u := tweetDone n z s
    (u.spk n).tweet = false ∧ u.get (SPK_IMP_TW_Z n) = satNat 16 z ∧ u.get (SPK_IMP_TW_VALID n) = 1 ∧
      u.get (SPK_IMP_TW_OPEN n) = b2n (decide (1000 * s.get (SPK_DIAG_TW_OPEN_Z n) < z)) ∧
      (1000 * s.get (SPK_DIAG_TW_OPEN_Z n) < z → u.bit SPK_SUM_TWEETER_OPEN n = true ∧ 0x0A09 ∈ u.occ) ∧
      Quiet [SPK_IMP_TW_Z n, SPK_IMP_TW_VALID n, SPK_IMP_TW_OPEN n, SPK_SUM_TWEETER_OPEN] s u := by
  have hb (b : Bool) : b2n b % 2 ^ 1 = b2n b := by cases b <;> rfl
  unfold tweetDone
  rw [if_pos ⟨ht, ha⟩]
  extract_lets op src s1 s2 u
  have hspk : (s2.spk n).tweet = false := by
    unfold s2 s1
    rw [State.spk_put, State.spk_put, State.spk_put, State.spk_setSpk_same]
  have hget : s2.get (SPK_IMP_TW_Z n) = satNat 16 z ∧ s2.get (SPK_IMP_TW_VALID n) = 1 ∧ s2.get (SPK_IMP_TW_OPEN n) = b2n op := by
    unfold s2
    refine ⟨?_, ?_, ?_⟩
    all_goals
      simp (disch := (simp only [Fld.key, SPK_IMP_TW_Z, SPK_IMP_TW_VALID, SPK_IMP_TW_OPEN]; omega)) only [State.get_put_ne, State.get_put_same]
    · exact Nat.mod_eq_of_lt (satNat_lt 16 z)
    · rfl
    · exact hb op
  have hq : Quiet [SPK_IMP_TW_Z n, SPK_IMP_TW_VALID n, SPK_IMP_TW_OPEN n, SPK_SUM_TWEETER_OPEN] s s2 :=
    Quiet.put (Quiet.put (Quiet.put (Quiet.setSpk (.refl _ s) _ _) (mem_fldIn (by simp)) _) (mem_fldIn (by simp)) 1) (mem_fldIn (by simp)) _
  clear_value s2
  obtain ⟨g1, g2, g3⟩ := hget
  cases ho : op
  · unfold u
    rw [ho, if_neg Bool.false_ne_true]
    refine ⟨hspk, g1, g2, g3, fun h => ?_, hq⟩
    exact absurd (decide_eq_true h) (by rw [show decide _ = op from rfl, ho]; decide)
  · unfold u
    rw [ho, if_pos rfl]
    have hread {f : Fld} (hlo : f.lo < 64) (hf : f.addr = 0xE0A118 + 0x40 * n) (v p : Nat) :
        ((s2.setBit SPK_SUM_TWEETER_OPEN n).post 0x0A09 v p).get f = s2.get f := by
      rw [State.get_post (fldIn_eventFlds_spk (by omega)), State.get_setBit_ne]
      simp only [Fld.key, SPK_SUM_TWEETER_OPEN]
      omega
    refine ⟨by rw [State.spk_post]; exact hspk, ?_, ?_, ?_, fun _ => ⟨?_, State.mem_occ_post _ _ _ (by decide)⟩,
      Quiet.post (hq.setBit (mem_fldIn (by simp)) n) _ _ _⟩
    · rw [hread (show 32 < 64 by decide) rfl, g1]
    · rw [hread (show 49 < 64 by decide) rfl, g2]
    · rw [hread (show 50 < 64 by decide) rfl, g3]
    · rw [State.bit, State.get_post (by decide)]
      exact State.bit_setBit_same _ hn

/-- Both judgements set the same summary bit (R285). -/
theorem State.pilotJudge_shown (s : State) (hn : n < 4) (z : Nat) :
    let u := s.pilotJudge n z
    (1000 * s.get (SPK_DIAG_OPEN_Z n) < z → u.bit SPK_SUM_OPEN n = true ∧ 0x0A06 ∈ u.occ) ∧
      (16 * z < 1000 * s.get (SPK_DIAG_LOW_Z n) → u.bit SPK_SUM_OPEN n = true ∧ 0x0A07 ∈ u.occ) ∧ Quiet [SPK_SUM_OPEN] s u := by
  unfold State.pilotJudge
  extract_lets s1 u
  have hset (t : State) (c v p : Nat) : ((t.setBit SPK_SUM_OPEN n).post c v p).bit SPK_SUM_OPEN n = true := by
    rw [State.bit, State.get_post (by decide)]
    exact State.bit_setBit_same _ hn
  have h1 : (1000 * s.get (SPK_DIAG_OPEN_Z n) < z → s1.bit SPK_SUM_OPEN n = true ∧ 0x0A06 ∈ s1.occ) ∧ Quiet [SPK_SUM_OPEN] s s1 := by
    unfold s1
    split
    · exact ⟨fun _ => ⟨hset _ _ _ _, State.mem_occ_post _ _ _ (by decide)⟩, Quiet.post (Quiet.setBit (.refl _ s) (mem_fldIn (by simp)) n) _ _ _⟩
    · next h => exact ⟨fun k => absurd k h, .refl _ s⟩
  have hlow : s1.get (SPK_DIAG_LOW_Z n) = s.get (SPK_DIAG_LOW_Z n) := by
    refine h1.2.get ?_ (fldIn_eventFlds_spk (by simp only [SPK_DIAG_LOW_Z]; omega))
    simp [fldIn, Fld.key, SPK_SUM_OPEN, SPK_DIAG_LOW_Z]
    omega
  clear_value s1
  obtain ⟨k1, k2⟩ := h1
  unfold u
  split
  · refine ⟨fun h => ⟨hset _ _ _ _, State.mem_post_occ _ _ _ (k1 h).2⟩, fun _ => ⟨hset _ _ _ _, State.mem_occ_post _ _ _ (by decide)⟩,
      Quiet.post (k2.setBit (mem_fldIn (by simp)) n) _ _ _⟩
  · next h =>
    refine ⟨k1, fun k => absurd k ?_, k2⟩
    rw [← hlow]
    exact h

/-- The coil temperature that an accepted window shows: the model's, or a free value where the model divides by 0 (R283). -/
def State.windowTemp (s : State) (n z : Nat) : Int × State :=
  match s.coilTemp n z with
  | some v => (v, s)
  | none => (toSigned 16 s.free.1.toNat, s.free.2)

theorem State.windowTemp_spec (s : State) (n z : Nat) :
    (∀ vc, s.coilTemp n z = some vc → (s.windowTemp n z).1 = vc) ∧ Quiet [] s (s.windowTemp n z).2 := by
  unfold State.windowTemp
  split
  · next v h => exact ⟨fun vc hvc => by rw [h] at hvc; exact Option.some.inj hvc, .refl _ s⟩
  · next h => exact ⟨fun vc hvc => (by rw [h] at hvc; cases hvc), Quiet.other (.refl _ s) rfl rfl rfl rfl⟩

theorem fromSigned_lt (n : Nat) (i : Int) : fromSigned n i < 2 ^ n := by
  have hpos : (0 : Int) < (2 ^ n : Nat) := by exact_mod_cast Nat.two_pow_pos n
  have h1 := Int.emod_nonneg i hpos.ne'
  have h2 := Int.emod_lt_of_pos i hpos
  rw [fromSigned]
  omega

/-- An accepted window (R281 to R285). -/
def State.windowShown (s : State) (n z : Nat) (old vc : Int) : State :=
  let s := ((s.put (SPK_IMP_Z12 n) (satNat 16 z)).put (SPK_IMP_VC_TEMP n) (fromSigned 16 vc)).put (SPK_IMP_IMP_VALID n) 1
  let tmax : Int := 16 * (s.get (SPK_VC_TMAX n) : Nat)
  if old < tmax ∧ tmax ≤ vc then (s.setBit SPK_SUM_VC_HOT n).post 0x0A08 sevWarn (pack [p16 n, p16i vc]) else s

theorem State.windowShown_shown (s : State) (hn : n < 4) (z : Nat) (old vc : Int) :
    let u := s.windowShown n z old vc
    u.get (SPK_IMP_Z12 n) = satNat 16 z ∧ u.get (SPK_IMP_VC_TEMP n) = fromSigned 16 vc ∧ u.get (SPK_IMP_IMP_VALID n) = 1 ∧
      Quiet [SPK_IMP_Z12 n, SPK_IMP_VC_TEMP n, SPK_IMP_IMP_VALID n, SPK_SUM_VC_HOT] s u := by
  unfold State.windowShown
  extract_lets s1 tmax u
  have h1 : s1.get (SPK_IMP_Z12 n) = satNat 16 z ∧ s1.get (SPK_IMP_VC_TEMP n) = fromSigned 16 vc ∧ s1.get (SPK_IMP_IMP_VALID n) = 1 := by
    unfold s1
    refine ⟨?_, ?_, ?_⟩
    all_goals
      simp (disch := (simp only [Fld.key, SPK_IMP_Z12, SPK_IMP_VC_TEMP, SPK_IMP_IMP_VALID]; omega)) only [State.get_put_ne, State.get_put_same]
    · exact Nat.mod_eq_of_lt (satNat_lt 16 z)
    · exact Nat.mod_eq_of_lt (fromSigned_lt 16 vc)
    · rfl
  have hq : Quiet [SPK_IMP_Z12 n, SPK_IMP_VC_TEMP n, SPK_IMP_IMP_VALID n, SPK_SUM_VC_HOT] s s1 :=
    Quiet.put (Quiet.put (Quiet.put (.refl _ s) (mem_fldIn (by simp)) _) (mem_fldIn (by simp)) _) (mem_fldIn (by simp)) 1
  clear_value s1
  obtain ⟨g1, g2, g3⟩ := h1
  unfold u
  split
  · have hread {f : Fld} (hlo : f.lo < 64) (hf : f.addr = 0xE0A118 + 0x40 * n) (v p : Nat) :
        ((s1.setBit SPK_SUM_VC_HOT n).post 0x0A08 v p).get f = s1.get f := by
      rw [State.get_post (fldIn_eventFlds_spk (by omega)), State.get_setBit_ne]
      simp only [Fld.key, SPK_SUM_VC_HOT]
      omega
    exact ⟨(hread (show 0 < 64 by decide) rfl _ _).trans g1, (hread (show 16 < 64 by decide) rfl _ _).trans g2,
      (hread (show 48 < 64 by decide) rfl _ _).trans g3, Quiet.post (hq.setBit (mem_fldIn (by simp)) n) _ _ _⟩
  · exact ⟨g1, g2, g3, hq⟩

theorem pilotWindowEnd_accepted (hn : n < 4) (z : Nat) (hs : s.get (SPK_STAT_STATE n) = 2) (hp : s.on (SPK_CFG_PILOT_EN n) = true)
    (hw : s.windowFrames n ≤ (s.spk n).winPos) (hd : (s.spk n).dirty = false) :
    let u := pilotWindowEnd n z s
    u.get (SPK_IMP_Z12 n) = satNat 16 z ∧ u.get (SPK_IMP_IMP_VALID n) = 1 ∧
      (∀ vc : Int, s.coilTemp n z = some vc → u.get (SPK_IMP_VC_TEMP n) = fromSigned 16 vc) ∧
      (1000 * s.get (SPK_DIAG_OPEN_Z n) < z → u.bit SPK_SUM_OPEN n = true ∧ 0x0A06 ∈ u.occ) ∧
      (16 * z < 1000 * s.get (SPK_DIAG_LOW_Z n) → u.bit SPK_SUM_OPEN n = true ∧ 0x0A07 ∈ u.occ) ∧
      Quiet [SPK_IMP_Z12 n, SPK_IMP_VC_TEMP n, SPK_IMP_IMP_VALID n, SPK_SUM_VC_HOT, SPK_SUM_OPEN] s u := by
  have heq : pilotWindowEnd n z s =
      let s1 := s.spkWindow n
      let old := if s1.on (SPK_IMP_IMP_VALID n) then toSigned 16 (s1.get (SPK_IMP_VC_TEMP n)) else -32768
      ((s1.windowTemp n z).2.windowShown n z old (s1.windowTemp n z).1).pilotJudge n z := by
    unfold pilotWindowEnd State.spkState
    dsimp only
    rw [if_neg (by rw [hs, hp]; simpa using hw), if_neg (by rw [hd]; decide)]
    rfl
  have hw1 : Quiet [] s (s.spkWindow n) ∧ (s.spkWindow n).coilTemp n z = s.coilTemp n z := ⟨Quiet.setSpk (.refl _ s) _ _, rfl⟩
  dsimp only at heq ⊢
  rw [heq]
  generalize s.spkWindow n = s1 at *
  obtain ⟨h1, h2⟩ := hw1
  obtain ⟨k1, k2⟩ := s1.windowTemp_spec n z
  generalize s1.windowTemp n z = p at *
  generalize (if s1.on (SPK_IMP_IMP_VALID n) then toSigned 16 (s1.get (SPK_IMP_VC_TEMP n)) else -32768) = old
  obtain ⟨g1, g2, g3, g4⟩ := p.2.windowShown_shown hn z old p.1
  generalize p.2.windowShown n z old p.1 = v at *
  have hq : Quiet [SPK_IMP_Z12 n, SPK_IMP_VC_TEMP n, SPK_IMP_IMP_VALID n, SPK_SUM_VC_HOT] s v :=
    ((h1.trans k2).of_subset (List.nil_subset _)).trans g4
  have hdiag {f : Fld} (hlo : f.lo < 64) (hf : f.addr = 0xE0A128 + 0x40 * n) : v.get f = s.get f := by
    refine hq.get ?_ (fldIn_eventFlds_spk (by omega))
    simp only [fldIn, List.any_cons, List.any_nil, Fld.key, SPK_IMP_Z12, SPK_IMP_VC_TEMP, SPK_IMP_IMP_VALID, SPK_SUM_VC_HOT, Bool.or_false,
      Bool.or_eq_false_iff, beq_eq_false_iff_ne]
    omega
  obtain ⟨j1, j2, j3⟩ := v.pilotJudge_shown hn z
  rw [hdiag (f := SPK_DIAG_OPEN_Z n) (show 0 < 64 by decide) rfl] at j1
  rw [hdiag (f := SPK_DIAG_LOW_Z n) (show 8 < 64 by decide) rfl] at j2
  have hread {f : Fld} (hlo : f.lo < 64) (hf : f.addr = 0xE0A118 + 0x40 * n) : (v.pilotJudge n z).get f = v.get f := by
    refine j3.get ?_ (fldIn_eventFlds_spk (by omega))
    simp only [fldIn, List.any_cons, List.any_nil, Fld.key, SPK_SUM_OPEN, Bool.or_false, beq_eq_false_iff_ne]
    omega
  refine ⟨(hread (show 0 < 64 by decide) rfl).trans g1, (hread (show 48 < 64 by decide) rfl).trans g3,
    fun vc hvc => (hread (show 16 < 64 by decide) rfl).trans (g2.trans ?_), j1, j2,
    (hq.of_subset ?_).trans (j3.of_subset ?_)⟩
  · rw [k1 vc (h2.trans hvc)]
  · simp
  · simp

/-- Settles O18: each command is its operation; a thermal shutdown in the same read folds the unit and leaves the limiter. -/
theorem speakerMeasurements : Obligations.SpeakerMeasurements := by
  unfold Obligations.SpeakerMeasurements
  refine fun s n => ⟨fun t h1 => ?_, fun t h1 h2 h3 => ?_, fun z h1 h2 h3 h4 => ?_, fun z h1 h2 h3 h4 => ?_, fun h1 h2 h3 => ?_,
    fun z h1 h2 => ?_⟩
  · obtain ⟨k1, k2⟩ := stageTempRead_cool (s := s) (temps := t) fun k hk => h1 ⟨k, hk⟩
    exact ⟨_, rfl, fun k => k1 k k.isLt, k2⟩
  · exact ⟨_, rfl, stageTempRead_hot (fun k hk => h1 ⟨k, hk⟩) n.isLt h2 h3⟩
  · exact ⟨_, rfl, pilotWindowEnd_dropped z h1 h2 h3 h4⟩
  · exact ⟨_, rfl, pilotWindowEnd_accepted n.isLt z h1 h2 h3 h4⟩
  · exact ⟨_, rfl, tweet_spec h1 h2 h3⟩
  · exact ⟨_, rfl, tweetDone_spec n.isLt z h1 h2⟩

end Sys2Proof.Machine
end

section
/-! The headphone channels (R296 to R299). -/

namespace Sys2Proof.Machine

variable {l : List Fld} {s t u : State} {n : Nat}

/-! ### A channel's hidden state and registers -/

@[simp] theorem State.hpo_setHpo_same (s : State) (n : Nat) (x : Hpo) : (s.setHpo n x).hpo n = x := mapGet_set_same _ _ _ _

theorem State.hpo_setHpo_ne (s : State) {n k : Nat} (x : Hpo) (h : k ≠ n) : (s.setHpo n x).hpo k = s.hpo k := mapGet_set_ne h

@[simp] theorem State.get_setHpo (s : State) (n : Nat) (x : Hpo) (f : Fld) : (s.setHpo n x).get f = s.get f := rfl

@[simp] theorem State.hpo_put (s : State) (f : Fld) (v n : Nat) : (s.put f v).hpo n = s.hpo n := rfl

@[simp] theorem State.hpo_post (s : State) (c v p n : Nat) : (s.post c v p).hpo n = s.hpo n := by
  rw [State.hpo, State.post_hpos, State.hpo]

theorem Quiet.setHpo (h : Quiet l s t) (n : Nat) (x : Hpo) : Quiet l s (t.setHpo n x) := h.other rfl rfl rfl rfl

/-- An event leaves the registers of every page but those of the two-wire bus and of the annals. -/
theorem State.get_post_of_page (s : State) (c v p : Nat) {f : Fld} (h : f.lo < 64 ∧ f.addr / 4096 ≠ 0xE0E ∧ f.addr / 4096 ≠ 0xE10) :
    (s.post c v p).get f = s.get f := State.get_post (fldIn_eventFlds_of_page h)

theorem State.pumpStart_shown (s : State) :
    s.pumpStart.get HPO_STAT_CP_STATE = (if s.get HPO_STAT_CP_STATE = 0 then 1 else s.get HPO_STAT_CP_STATE) ∧
      (∀ f, Fld.key f ≠ Fld.key HPO_STAT_CP_STATE → s.pumpStart.get f = s.get f) ∧ (∀ n, s.pumpStart.hpo n = s.hpo n) ∧
      Quiet [HPO_STAT_CP_STATE] s s.pumpStart := by
  unfold State.pumpStart
  split
  · exact ⟨State.get_put_same _ _ _, fun f hf => State.get_put_ne _ _ hf, fun _ => rfl, Quiet.put (.refl _ s) (by decide) 1⟩
  · exact ⟨rfl, fun _ _ => rfl, fun _ => rfl, .refl _ s⟩

theorem State.pumpCheck_shown (s : State) :
    (∀ f, Fld.key f ≠ Fld.key HPO_STAT_CP_STATE → s.pumpCheck.get f = s.get f) ∧ (∀ n, s.pumpCheck.hpo n = s.hpo n) ∧
      Quiet [HPO_STAT_CP_STATE] s s.pumpCheck ∧ s.pumpCheck.occ = s.occ := by
  unfold State.pumpCheck
  split
  · exact ⟨fun f hf => State.get_put_ne _ _ hf, fun _ => rfl, Quiet.put (.refl _ s) (by decide) 0, rfl⟩
  · exact ⟨fun _ _ => rfl, fun _ => rfl, .refl _ s, rfl⟩

/-- The pump stops when no channel needs it (R296). -/
theorem State.pumpCheck_stops (h3 : s.get HPO_STAT_CP_STATE ≠ 3)
    (h : ∀ n < 4, (s.get (HPO_STAT_STATE n) = 0 ∨ 4 ≤ s.get (HPO_STAT_STATE n)) ∧ s.calibrating (0x18 + n) = false) :
    s.pumpCheck.get HPO_STAT_CP_STATE = 0 := by
  have hall : (List.range 4).all (fun n => (s.hpoState n == 0 || decide (4 ≤ s.hpoState n)) && !s.calibrating (0x18 + n)) = true := by
    refine List.all_eq_true.2 fun n hn => ?_
    obtain ⟨h1, h2⟩ := h n (List.mem_range.1 hn)
    rw [h2]
    rw [Bool.not_false, Bool.and_true, Bool.or_eq_true, beq_iff_eq, decide_eq_true_iff]
    exact h1
  rw [State.pumpCheck, if_pos ⟨h3, hall⟩, State.get_put_same, Nat.zero_mod]

/-! ### Configuration and start -/

theorem hpoCfgWrite_rejects (hn : n < 4) {v : Nat} (hv : volOk (bits v 16 16) = false) :
    let u := hpoCfgWrite n v s
    u.get (HPO_STAT_CFG_ERR n) = 1 ∧ u.get HPO_SUM_CFG_ERR = 1 ∧ 0x0904 ∈ u.occ ∧ Quiet [HPO_STAT_CFG_ERR n, HPO_SUM_CFG_ERR] s u := by
  dsimp only
  rw [hpoCfgWrite, if_pos (by rw [hv]; decide)]
  refine ⟨?_, ?_, State.mem_occ_post _ _ _ (by decide), Quiet.post (Quiet.put (Quiet.put (.refl _ s) (mem_fldIn (by simp)) 1)
    (mem_fldIn (by simp)) 1) _ _ _⟩
  all_goals
    simp (disch := (simp only [Fld.key, HPO_STAT_CFG_ERR, HPO_SUM_CFG_ERR]; omega)) only [State.get_post_of_page, State.get_put_ne,
      State.get_put_same]
    rfl

/-- The fields of a configuration that is taken. -/
def State.hpoTaken (s : State) (n v : Nat) : State :=
  ((((s.put (HPO_CFG_EN n) (bits v 0 1)).put (HPO_CFG_MODE n) (bits v 1 1)).put (HPO_CFG_MUTE n) (bits v 2 1)).put
    (HPO_CFG_VOL n) (bits v 16 16)).put (HPO_STAT_CFG_ERR n) 0

theorem State.hpoTaken_shown (s : State) (n v : Nat) :
    let u := s.hpoTaken n v
    u.get (HPO_CFG_EN n) = bits v 0 1 ∧ u.get (HPO_CFG_MODE n) = bits v 1 1 ∧ u.get (HPO_CFG_MUTE n) = bits v 2 1 ∧
      u.get (HPO_CFG_VOL n) = bits v 16 16 ∧ u.get (HPO_STAT_STATE n) = s.get (HPO_STAT_STATE n) ∧ u.hpo n = s.hpo n ∧
      (n < 4 → u.folded = s.folded) ∧
      Quiet [HPO_CFG_EN n, HPO_CFG_MODE n, HPO_CFG_MUTE n, HPO_CFG_VOL n, HPO_STAT_CFG_ERR n] s u := by
  unfold State.hpoTaken
  refine ⟨?_, ?_, ?_, ?_, ?_, rfl, fun hn => ?_, Quiet.put (Quiet.put (Quiet.put (Quiet.put (Quiet.put (.refl _ s) (mem_fldIn (by simp)) _)
    (mem_fldIn (by simp)) _) (mem_fldIn (by simp)) _) (mem_fldIn (by simp)) _) (mem_fldIn (by simp)) _⟩
  on_goal 6 => simp only [State.folded]
  all_goals
    simp (disch := (simp only [Fld.key, HPO_CFG_EN, HPO_CFG_MODE, HPO_CFG_MUTE, HPO_CFG_VOL, HPO_STAT_CFG_ERR, HPO_STAT_STATE,
      KEEP_STAT_STATE]; omega)) only [State.get_put_ne, State.get_put_same]
  all_goals exact Nat.mod_eq_of_lt (bits_lt _ _ _)

theorem hpoCfgWrite_eq {v : Nat} (hv : volOk (bits v 16 16) = true) :
    hpoCfgWrite n v s =
      let t := s.hpoTaken n v
      if s.on (HPO_CFG_EN n) && !bitOf v 0 then
        let u := t.setHpo n { t.hpo n with startReq := false }
        if u.hpoState n = 1 ∨ u.hpoState n = 2 then (u.put (HPO_STAT_STATE n) 3).setHpo n { u.hpo n with ramping := false } else u
      else if bitOf v 0 && !s.on (HPO_CFG_EN n) then
        (if t.hpoState n = 0 ∧ t.folded then t.put (HPO_STAT_STATE n) 6
         else if t.hpoState n = 0 ∨ t.hpoState n = 3 then t.setHpo n { t.hpo n with startReq := true }
         else t)
      else t := by
  unfold hpoCfgWrite
  rw [if_neg (by rw [hv]; decide)]
  rfl

theorem hpoCfgWrite_enables (hn : n < 4) {v : Nat} (hv : volOk (bits v 16 16) = true) (hen : bitOf v 0 = true)
    (hwas : s.on (HPO_CFG_EN n) = false) (hs : s.get (HPO_STAT_STATE n) = 0) (hf : s.folded = false) :
    let u := hpoCfgWrite n v s
    (u.hpo n).startReq = true ∧ u.get (HPO_CFG_EN n) = 1 ∧ u.get (HPO_CFG_MODE n) = bits v 1 1 ∧
      u.get (HPO_CFG_MUTE n) = bits v 2 1 ∧ u.get (HPO_CFG_VOL n) = bits v 16 16 ∧
      Quiet [HPO_CFG_EN n, HPO_CFG_MODE n, HPO_CFG_MUTE n, HPO_CFG_VOL n, HPO_STAT_CFG_ERR n] s u := by
  obtain ⟨h1, h2, h3, h4, h5, -, h7, h8⟩ := s.hpoTaken_shown n v
  dsimp only
  rw [hpoCfgWrite_eq hv, hwas, hen, if_neg (by decide), if_pos (by decide)]
  generalize s.hpoTaken n v = t at *
  rw [if_neg (by rw [h7 hn, hf]; simp), if_pos (.inl (h5.trans hs))]
  refine ⟨by rw [State.hpo_setHpo_same], ?_, h2, h3, h4, h8.setHpo _ _⟩
  rw [State.get_setHpo, h1, bits_one_eq_b2n, hen]
  rfl

theorem hpoCfgWrite_disables {v : Nat} (hv : volOk (bits v 16 16) = true) (hen : bitOf v 0 = false)
    (hwas : s.on (HPO_CFG_EN n) = true) (hs : s.get (HPO_STAT_STATE n) = 2) :
    let u := hpoCfgWrite n v s
    u.get (HPO_STAT_STATE n) = 3 ∧ u.get (HPO_CFG_EN n) = 0 ∧
      Quiet [HPO_STAT_STATE n, HPO_CFG_EN n, HPO_CFG_MODE n, HPO_CFG_MUTE n, HPO_CFG_VOL n, HPO_STAT_CFG_ERR n] s u := by
  obtain ⟨h1, -, -, -, h5, -, -, h8⟩ := s.hpoTaken_shown n v
  dsimp only
  rw [hpoCfgWrite_eq hv, hwas, hen, if_pos (by decide)]
  generalize s.hpoTaken n v = t at *
  dsimp only
  rw [if_pos (.inr (h5.trans hs))]
  refine ⟨?_, ?_, Quiet.setHpo (Quiet.put (Quiet.setHpo (h8.of_subset (List.subset_cons_self _ _)) _ _) (mem_fldIn (by simp)) 3) _ _⟩
  · rw [State.get_setHpo, State.get_put_same]
    rfl
  · rw [State.get_setHpo, State.get_put_ne, State.get_setHpo, h1, bits_one_eq_b2n, hen]
    · rfl
    · simp only [Fld.key, HPO_CFG_EN, HPO_STAT_STATE]
      omega

theorem hpoStart_spec (hr : (s.hpo n).startReq = true) (hs : s.get (HPO_STAT_STATE n) = 0) (hen : s.on (HPO_CFG_EN n) = true)
    (hf : s.folded = false) (ha : s.awake = true) (hcp : s.get HPO_STAT_CP_STATE ≠ 3) (hc : s.calibrating (0x18 + n) = false) :
    let u := hpoStart n s
    u.get (HPO_STAT_STATE n) = 1 ∧ u.get HPO_STAT_CP_STATE = (if s.get HPO_STAT_CP_STATE = 0 then 1 else s.get HPO_STAT_CP_STATE) ∧
      (u.hpo n).mode = s.get (HPO_CFG_MODE n) ∧ Quiet [HPO_STAT_STATE n, HPO_STAT_CP_STATE] s u := by
  dsimp only
  rw [hpoStart, if_pos (by simp [State.hpoState, hr, hs, hen, hf, ha, hcp, hc])]
  generalize hx : ({ s.hpo n with
      startReq := false, folding := false, mode := s.get (HPO_CFG_MODE n), ramping := false, rampPos := 0, limRun := 0
      played := 0, foldLeft := hpoRamp, hist := [], out := [] } : Hpo) = x
  have hmode : x.mode = s.get (HPO_CFG_MODE n) := hx ▸ rfl
  obtain ⟨h1, h2, h3, h4⟩ := ((s.put (HPO_STAT_STATE n) 1).setHpo n x).pumpStart_shown
  have hcpne : Fld.key HPO_STAT_CP_STATE ≠ Fld.key (HPO_STAT_STATE n) := by
    simp only [Fld.key, HPO_STAT_STATE, HPO_STAT_CP_STATE]
    omega
  refine ⟨?_, ?_, by rw [h3, State.hpo_setHpo_same]; exact hmode,
    (Quiet.setHpo (Quiet.put (.refl _ s) (mem_fldIn (by simp)) 1) _ _).trans (h4.of_subset (by simp))⟩
  · rw [h2 _ (Ne.symm hcpne), State.get_setHpo, State.get_put_same]
    rfl
  · rw [h1, State.get_setHpo, State.get_put_ne _ _ hcpne]

theorem hpoServoEnd_spec (hs : s.get (HPO_STAT_STATE n) = 1) (hcp : s.get HPO_STAT_CP_STATE ≠ 3) :
    let u := hpoServoEnd n s
    u.get (HPO_STAT_STATE n) = 2 ∧ u.get HPO_STAT_CP_STATE = 2 ∧ (u.hpo n).ramping = true ∧
      Quiet [HPO_STAT_STATE n, HPO_STAT_CP_STATE] s u := by
  dsimp only
  rw [hpoServoEnd, if_pos ⟨hs, hcp⟩]
  refine ⟨?_, ?_, by rw [State.hpo_setHpo_same],
    Quiet.setHpo (Quiet.put (Quiet.put (.refl _ s) (mem_fldIn (by simp)) 2) (mem_fldIn (by simp)) 2) _ _⟩
  all_goals
    simp (disch := (simp only [Fld.key, HPO_STAT_STATE, HPO_STAT_CP_STATE]; omega)) only [State.get_setHpo, State.get_put_ne, State.get_put_same]
    rfl

theorem hpoRampDone_spec (hs : s.get (HPO_STAT_STATE n) = 2) (hr : (s.hpo n).ramping = true) (hp : hpoRamp ≤ (s.hpo n).rampPos) :
    let u := hpoRampDone n s
    (u.hpo n).ramping = false ∧ (u.hpo n).played = 0 ∧ Quiet [] s u := by
  dsimp only
  rw [hpoRampDone, if_pos ⟨hs, hr, hp⟩, State.hpo_setHpo_same]
  exact ⟨rfl, rfl, (Quiet.refl _ s).setHpo _ _⟩

/-! ### Stop and short circuit -/

theorem hpoStopDone_spec (hs : s.get (HPO_STAT_STATE n) = 3) (hp : (s.hpo n).rampPos = 0) :
    let u := hpoStopDone n s
    u.get (HPO_STAT_STATE n) = (if (s.hpo n).folding then 6 else 0) ∧
      ((∀ k < 4, k ≠ n → s.get (HPO_STAT_STATE k) = 0) → (∀ k < 4, s.calibrating (0x18 + k) = false) →
        s.get HPO_STAT_CP_STATE ≠ 3 → u.get HPO_STAT_CP_STATE = 0) ∧
      Quiet [HPO_STAT_STATE n, HPO_STAT_CP_STATE] s u := by
  have hcpne (k : Nat) : Fld.key HPO_STAT_CP_STATE ≠ Fld.key (HPO_STAT_STATE k) := by
    simp only [Fld.key, HPO_STAT_STATE, HPO_STAT_CP_STATE]
    omega
  dsimp only
  rw [hpoStopDone, if_pos ⟨hs, .inl hp⟩]
  generalize hx : ({ s.hpo n with folding := false, startReq := !(s.hpo n).folding && s.on (HPO_CFG_EN n) } : Hpo) = x
  set w := if (s.hpo n).folding then 6 else 0 with hw
  set t := (s.put (HPO_STAT_STATE n) w).setHpo n x with ht
  have hstate : t.get (HPO_STAT_STATE n) = w := by
    rw [ht, State.get_setHpo, State.get_put_same, hw]
    split <;> rfl
  have hq : Quiet [HPO_STAT_STATE n, HPO_STAT_CP_STATE] s t := Quiet.setHpo (Quiet.put (.refl _ s) (mem_fldIn (by simp)) _) _ _
  obtain ⟨h1, -, h3, -⟩ := t.pumpCheck_shown
  refine ⟨(h1 _ (hcpne n).symm).trans hstate, fun k1 k2 k3 => ?_, hq.trans (h3.of_subset (by simp))⟩
  refine t.pumpCheck_stops ?_ fun k hk => ⟨?_, k2 k hk⟩
  · rw [ht, State.get_setHpo, State.get_put_ne _ _ (hcpne n)]
    exact k3
  · by_cases hkn : k = n
    · rw [hkn, hstate, hw]
      split
      · exact .inr (by decide)
      · exact .inl rfl
    · rw [ht, State.get_setHpo, State.get_put_ne, k1 k hk hkn]
      · exact .inl rfl
      · simp only [Fld.key, HPO_STAT_STATE]
        omega

/-- A channel latched by a short circuit, before its third one faults it (R297). -/
def State.hpoLatched (s : State) (n : Nat) : State :=
  let rt := s.get (HPO_STAT_RETRY n) + 1
  ((((((s.put (HPO_STAT_STATE n) 4).put (HPO_STAT_RETRY n) (min 3 rt)).bump (HPO_CNT_SHORTS n)).setBit HPO_SUM_SHORT n).setHpo n
    { s.hpo n with limRun := 0, latchAt := s.frame, rampPos := 0, ramping := false })).post 0x0901 sevFault (pack [p16 n, p16 (min 3 rt)])

theorem State.hpoLatched_shown (s : State) (hn : n < 4) :
    let u := s.hpoLatched n
    u.get (HPO_STAT_STATE n) = 4 ∧ u.get (HPO_STAT_RETRY n) = min 3 (s.get (HPO_STAT_RETRY n) + 1) ∧ u.bit HPO_SUM_SHORT n = true ∧
      u.get (HPO_CNT_SHORTS n) = satNat 16 (s.get (HPO_CNT_SHORTS n) + 1) ∧ 0x0901 ∈ u.occ ∧
      Quiet [HPO_STAT_STATE n, HPO_STAT_RETRY n, HPO_CNT_SHORTS n, HPO_SUM_SHORT, HPO_STAT_CP_STATE] s u := by
  unfold State.hpoLatched
  refine ⟨?_, ?_, ?_, ?_, State.mem_occ_post _ _ _ (by decide), Quiet.post (Quiet.setHpo (Quiet.setBit (Quiet.bump (Quiet.put (Quiet.put
    (.refl _ s) (mem_fldIn (by simp)) 4) (mem_fldIn (by simp)) _) (mem_fldIn (by simp))) (mem_fldIn (by simp)) n) _ _) _ _ _⟩
  on_goal 3 =>
    rw [State.bit, State.get_post (by decide), State.get_setHpo]
    exact State.bit_setBit_same _ hn
  all_goals
    simp (disch := (simp only [Fld.key, HPO_STAT_STATE, HPO_STAT_RETRY, HPO_CNT_SHORTS, HPO_SUM_SHORT]; omega)) only [State.get_post_of_page,
      State.get_setHpo, State.get_setBit_ne, State.get_bump_ne, State.get_bump_same, State.get_put_ne, State.get_put_same]
  · rfl
  · exact Nat.mod_eq_of_lt (show _ < 4 by omega)
  · rfl

theorem hpoShort_spec (hn : n < 4) (hs : s.get (HPO_STAT_STATE n) = 2) (hl : s.rampFrames ≤ (s.hpo n).limRun) (hj : s.jackNotReady n = false) :
    let u := hpoShort n s
    u.get (HPO_STAT_STATE n) = (if s.get (HPO_STAT_RETRY n) < 2 then 4 else 5) ∧
      u.get (HPO_STAT_RETRY n) = min 3 (s.get (HPO_STAT_RETRY n) + 1) ∧ u.bit HPO_SUM_SHORT n = true ∧
      u.get (HPO_CNT_SHORTS n) = satNat 16 (s.get (HPO_CNT_SHORTS n) + 1) ∧ 0x0901 ∈ u.occ ∧
      Quiet [HPO_STAT_STATE n, HPO_STAT_RETRY n, HPO_CNT_SHORTS n, HPO_SUM_SHORT, HPO_STAT_CP_STATE] s u := by
  have heq : hpoShort n s = (if 3 ≤ s.get (HPO_STAT_RETRY n) + 1 then ((s.hpoLatched n).put (HPO_STAT_STATE n) 5).post 0x0902 sevFault (pack [p16 n])
      else s.hpoLatched n).pumpCheck := by
    unfold hpoShort
    rw [if_pos ⟨hs, hl, by rw [hj]; decide⟩]
    rfl
  obtain ⟨h1, h2, h3, h4, h5, h6⟩ := s.hpoLatched_shown hn
  dsimp only
  rw [heq]
  generalize s.hpoLatched n = t at *
  have hcp {f : Fld} (hlo : f.lo < 64) (hf : f.addr ≠ 0xE09008) (w : State) : w.pumpCheck.get f = w.get f :=
    w.pumpCheck_shown.1 f (by simp only [Fld.key, HPO_STAT_CP_STATE]; omega)
  have hcase {w : State} (k1 : w.get (HPO_STAT_STATE n) = if s.get (HPO_STAT_RETRY n) < 2 then 4 else 5)
      (k2 : w.get (HPO_STAT_RETRY n) = t.get (HPO_STAT_RETRY n)) (k3 : w.get HPO_SUM_SHORT = t.get HPO_SUM_SHORT)
      (k4 : w.get (HPO_CNT_SHORTS n) = t.get (HPO_CNT_SHORTS n)) (k5 : 0x0901 ∈ w.occ)
      (k6 : Quiet [HPO_STAT_STATE n, HPO_STAT_RETRY n, HPO_CNT_SHORTS n, HPO_SUM_SHORT, HPO_STAT_CP_STATE] s w) :
      w.pumpCheck.get (HPO_STAT_STATE n) = (if s.get (HPO_STAT_RETRY n) < 2 then 4 else 5) ∧
        w.pumpCheck.get (HPO_STAT_RETRY n) = min 3 (s.get (HPO_STAT_RETRY n) + 1) ∧ w.pumpCheck.bit HPO_SUM_SHORT n = true ∧
        w.pumpCheck.get (HPO_CNT_SHORTS n) = satNat 16 (s.get (HPO_CNT_SHORTS n) + 1) ∧ 0x0901 ∈ w.pumpCheck.occ ∧
        Quiet [HPO_STAT_STATE n, HPO_STAT_RETRY n, HPO_CNT_SHORTS n, HPO_SUM_SHORT, HPO_STAT_CP_STATE] s w.pumpCheck := by
    obtain ⟨-, -, p3, p4⟩ := w.pumpCheck_shown
    refine ⟨?_, ?_, ?_, ?_, by rw [p4]; exact k5, k6.trans (p3.of_subset (by simp))⟩
    · rw [hcp (show 0 < 64 by decide) (by simp only [HPO_STAT_STATE]; omega), k1]
    · rw [hcp (show 5 < 64 by decide) (by simp only [HPO_STAT_RETRY]; omega), k2, h2]
    · rw [State.bit, hcp (by decide) (by decide), k3]
      exact h3
    · rw [hcp (show 32 < 64 by decide) (by simp only [HPO_CNT_SHORTS]; omega), k4, h4]
  by_cases hr : 3 ≤ s.get (HPO_STAT_RETRY n) + 1
  · rw [if_pos hr]
    refine hcase ?_ ?_ ?_ ?_ (State.mem_post_occ _ _ _ h5) (Quiet.post (h6.put (mem_fldIn (by simp)) 5) _ _ _)
    all_goals
      simp (disch := (simp only [Fld.key, HPO_STAT_STATE, HPO_STAT_RETRY, HPO_CNT_SHORTS, HPO_SUM_SHORT]; omega)) only
        [State.get_post_of_page, State.get_put_ne, State.get_put_same]
    rw [if_neg (by omega)]
    rfl
  · rw [if_neg hr]
    exact hcase (by rw [h1, if_pos (by omega)]) rfl rfl rfl h5 h6

/-! ### Restart, recovery, charge pump and clear -/

theorem hpoRestart_spec (hs : s.get (HPO_STAT_STATE n) = 4) (hen : s.on (HPO_CFG_EN n) = true) (hf : s.folded = false)
    (hcp : s.get HPO_STAT_CP_STATE ≠ 3) (ha : s.framesOfMs 500 ≤ s.frameAgo (s.hpo n).latchAt) :
    let u := hpoRestart n s
    u.get (HPO_STAT_STATE n) = 1 ∧ (u.hpo n).mode = s.get (HPO_CFG_MODE n) ∧ Quiet [HPO_STAT_STATE n, HPO_STAT_CP_STATE] s u := by
  dsimp only
  rw [hpoRestart, if_pos ⟨hs, hen, by rw [hf]; rfl, hcp, ha⟩]
  obtain ⟨-, h2, h3, h4⟩ := ((s.put (HPO_STAT_STATE n) 1).setHpo n { s.hpo n with
    mode := s.get (HPO_CFG_MODE n), rampPos := 0, played := 0, foldLeft := hpoRamp, hist := [], out := [] }).pumpStart_shown
  refine ⟨?_, by rw [h3, State.hpo_setHpo_same],
    (Quiet.setHpo (Quiet.put (.refl _ s) (mem_fldIn (by simp)) 1) _ _).trans (h4.of_subset (by simp))⟩
  rw [h2, State.get_setHpo, State.get_put_same]
  · rfl
  · simp only [Fld.key, HPO_STAT_STATE, HPO_STAT_CP_STATE]
    omega

theorem hpoRecovered_spec (hn : n < 4) (hr : s.get (HPO_STAT_RETRY n) ≠ 0) (hs : s.get (HPO_STAT_STATE n) = 2) (hra : (s.hpo n).ramping = false)
    (ha : s.framesOfMs 500 ≤ (s.hpo n).played) :
    let u := hpoRecovered n s
    u.get (HPO_STAT_RETRY n) = 0 ∧ 0x0905 ∈ u.occ ∧ Quiet [HPO_STAT_RETRY n] s u := by
  dsimp only
  rw [hpoRecovered, if_pos ⟨hr, hs, by rw [hra]; rfl, ha⟩]
  refine ⟨?_, State.mem_occ_post _ _ _ (by decide), Quiet.post (Quiet.put (.refl _ s) (mem_fldIn (by simp)) 0) _ _ _⟩
  rw [State.get_post_of_page _ _ _ _ (by simp only [HPO_STAT_RETRY]; omega), State.get_put_same, Nat.zero_mod]

/-- A charge-pump fault at one channel (R298). -/
def State.hpoPumpFault (s : State) (n : Nat) : State :=
  if s.hpoState n = 0 then s
  else (s.put (HPO_STAT_STATE n) 5).setHpo n { s.hpo n with ramping := false, rampPos := 0, folding := false }

theorem State.hpoPumpFault_shown (s : State) (n : Nat) :
    (s.hpoPumpFault n).get (HPO_STAT_STATE n) = (if s.get (HPO_STAT_STATE n) = 0 then 0 else 5) ∧
      (∀ f, Fld.key f ≠ Fld.key (HPO_STAT_STATE n) → (s.hpoPumpFault n).get f = s.get f) ∧ Quiet [HPO_STAT_STATE n] s (s.hpoPumpFault n) := by
  unfold State.hpoPumpFault State.hpoState
  split
  · next h => exact ⟨h, fun _ _ => rfl, .refl _ s⟩
  · next h => exact ⟨by rw [State.get_setHpo, State.get_put_same]; rfl, fun f hf => by rw [State.get_setHpo, State.get_put_ne _ _ hf],
      Quiet.setHpo (Quiet.put (.refl _ s) (mem_fldIn (by simp)) 5) _ _⟩

theorem hpoCpFault_spec (hn : n < 4) (mv : Int) (hcp : s.get HPO_STAT_CP_STATE = 1 ∨ s.get HPO_STAT_CP_STATE = 2) :
    let u := hpoCpFault mv s
    u.get HPO_STAT_CP_STATE = 3 ∧ u.get HPO_SUM_CP_FAULT = 1 ∧ 0x0903 ∈ u.occ ∧
      u.get (HPO_STAT_STATE n) = (if s.get (HPO_STAT_STATE n) = 0 then 0 else 5) ∧
      Quiet [HPO_STAT_CP_STATE, HPO_SUM_CP_FAULT, HPO_STAT_STATE 0, HPO_STAT_STATE 1, HPO_STAT_STATE 2, HPO_STAT_STATE 3] s u := by
  have heq : hpoCpFault mv s = ((((((s.put HPO_STAT_CP_STATE 3).put HPO_SUM_CP_FAULT 1).hpoPumpFault 0).hpoPumpFault 1).hpoPumpFault
      2).hpoPumpFault 3).post 0x0903 sevFault (pack [p16i mv]) := by
    rw [hpoCpFault, if_pos hcp]
    rfl
  have hcp1 : ((s.put HPO_STAT_CP_STATE 3).put HPO_SUM_CP_FAULT 1).get HPO_STAT_CP_STATE = 3 ∧
      ((s.put HPO_STAT_CP_STATE 3).put HPO_SUM_CP_FAULT 1).get HPO_SUM_CP_FAULT = 1 := by
    simp (disch := decide) only [State.get_put_ne, State.get_put_same]
    exact ⟨rfl, rfl⟩
  have hst : ((s.put HPO_STAT_CP_STATE 3).put HPO_SUM_CP_FAULT 1).get (HPO_STAT_STATE n) = s.get (HPO_STAT_STATE n) := by
    rw [State.get_put_ne, State.get_put_ne] <;> simp only [Fld.key, HPO_STAT_STATE, HPO_STAT_CP_STATE, HPO_SUM_CP_FAULT] <;> omega
  have hq : Quiet [HPO_STAT_CP_STATE, HPO_SUM_CP_FAULT, HPO_STAT_STATE 0, HPO_STAT_STATE 1, HPO_STAT_STATE 2, HPO_STAT_STATE 3] s
      ((s.put HPO_STAT_CP_STATE 3).put HPO_SUM_CP_FAULT 1) := Quiet.put (Quiet.put (.refl _ s) (by decide) 3) (by decide) 1
  dsimp only
  rw [heq]
  generalize (s.put HPO_STAT_CP_STATE 3).put HPO_SUM_CP_FAULT 1 = t at *
  obtain ⟨a1, a2, a3⟩ := t.hpoPumpFault_shown 0
  obtain ⟨b1, b2, b3⟩ := (t.hpoPumpFault 0).hpoPumpFault_shown 1
  obtain ⟨c1, c2, c3⟩ := ((t.hpoPumpFault 0).hpoPumpFault 1).hpoPumpFault_shown 2
  obtain ⟨d1, d2, d3⟩ := (((t.hpoPumpFault 0).hpoPumpFault 1).hpoPumpFault 2).hpoPumpFault_shown 3
  refine ⟨?_, ?_, State.mem_occ_post _ _ _ (by decide), ?_, Quiet.post ((((hq.trans (a3.of_subset (by simp))).trans
    (b3.of_subset (by simp))).trans (c3.of_subset (by simp))).trans (d3.of_subset (by simp))) _ _ _⟩
  · rw [State.get_post (by decide), d2 _ (by decide), c2 _ (by decide), b2 _ (by decide), a2 _ (by decide), hcp1.1]
  · rw [State.get_post (by decide), d2 _ (by decide), c2 _ (by decide), b2 _ (by decide), a2 _ (by decide), hcp1.2]
  · obtain rfl | rfl | rfl | rfl : n = 0 ∨ n = 1 ∨ n = 2 ∨ n = 3 := by omega
    · rw [State.get_post (by decide), d2 _ (by decide), c2 _ (by decide), b2 _ (by decide), a1, hst]
    · rw [State.get_post (by decide), d2 _ (by decide), c2 _ (by decide), b1, a2 _ (by decide), hst]
    · rw [State.get_post (by decide), d2 _ (by decide), c1, b2 _ (by decide), a2 _ (by decide), hst]
    · rw [State.get_post (by decide), d1, c2 _ (by decide), b2 _ (by decide), a2 _ (by decide), hst]

theorem hpoClear_spec (hn : n < 4) (hs : s.get (HPO_STAT_STATE n) = 4 ∨ s.get (HPO_STAT_STATE n) = 5) (hf : s.folded = false) :
    let u := hpoClear n s
    u.get (HPO_STAT_STATE n) = 0 ∧ u.get (HPO_STAT_RETRY n) = 0 ∧
      u.get HPO_STAT_CP_STATE = (if s.get HPO_STAT_CP_STATE = 3 then 0 else s.get HPO_STAT_CP_STATE) ∧
      (s.on (HPO_CFG_EN n) = true → (u.hpo n).startReq = true) ∧
      Quiet [HPO_STAT_STATE n, HPO_STAT_RETRY n, HPO_STAT_CP_STATE] s u := by
  unfold hpoClear
  extract_lets s1 s2 src u
  have h1 : s1.get HPO_STAT_CP_STATE = (if s.get HPO_STAT_CP_STATE = 3 then 0 else s.get HPO_STAT_CP_STATE) ∧
      (∀ f, Fld.key f ≠ Fld.key HPO_STAT_CP_STATE → s1.get f = s.get f) ∧ Quiet [HPO_STAT_STATE n, HPO_STAT_RETRY n, HPO_STAT_CP_STATE] s s1 := by
    unfold s1
    split
    · exact ⟨by rw [State.get_put_same]; rfl, fun f hf => State.get_put_ne _ _ hf, Quiet.put (.refl _ s) (mem_fldIn (by simp)) 0⟩
    · exact ⟨rfl, fun _ _ => rfl, .refl _ s⟩
  obtain ⟨k1, k2, k3⟩ := h1
  have hne {f : Fld} (hlo : f.lo < 64) (hf : f.addr ≠ 0xE09008) : s1.get f = s.get f :=
    k2 f (by simp only [Fld.key, HPO_STAT_CP_STATE]; omega)
  have hstate : s1.hpoState n = 4 ∨ s1.hpoState n = 5 := by
    rw [State.hpoState, hne (show 0 < 64 by decide) (by simp only [HPO_STAT_STATE]; omega)]
    exact hs
  have h2 : s2.get (HPO_STAT_STATE n) = 0 ∧ s2.get (HPO_STAT_RETRY n) = 0 ∧ s2.get HPO_STAT_CP_STATE = s1.get HPO_STAT_CP_STATE ∧
      s2.get (HPO_CFG_EN n) = s.get (HPO_CFG_EN n) ∧ s2.get KEEP_STAT_STATE = s.get KEEP_STAT_STATE := by
    rw [← hne (f := HPO_CFG_EN n) (show 0 < 64 by decide) (by simp only [HPO_CFG_EN]; omega), ← hne (f := KEEP_STAT_STATE) (by decide) (by decide)]
    unfold s2
    refine ⟨?_, ?_, ?_, ?_, ?_⟩
    all_goals
      simp (disch := (simp only [Fld.key, HPO_STAT_STATE, HPO_STAT_RETRY, HPO_STAT_CP_STATE, HPO_CFG_EN, KEEP_STAT_STATE]; omega)) only
        [State.get_put_ne, State.get_put_same, Nat.zero_mod]
  have hq : Quiet [HPO_STAT_STATE n, HPO_STAT_RETRY n, HPO_STAT_CP_STATE] s s2 :=
    Quiet.put (k3.put (mem_fldIn (by simp)) 0) (mem_fldIn (by simp)) 0
  clear_value s2
  obtain ⟨g1, g2, g3, g4, g5⟩ := h2
  have hfo : s2.folded = false := by
    rw [State.folded, g5]
    exact hf
  have hon : s2.on (HPO_CFG_EN n) = s.on (HPO_CFG_EN n) := by rw [State.on, State.on, g4]
  unfold u
  rw [if_pos hstate]
  cases hc : s.on (HPO_CFG_EN n)
  · rw [if_pos (by rw [hon, hc]; decide)]
    exact ⟨g1, g2, g3.trans k1, nofun, hq⟩
  · rw [if_neg (by rw [hon, hc]; decide), if_neg (by rw [hfo]; decide)]
    exact ⟨g1, g2, g3.trans k1, fun _ => by rw [State.hpo_setHpo_same], hq.setHpo _ _⟩

/-- Settles O19: each command is its operation, and the lemmas above say what the operations do. -/
theorem headphoneChannelEffects : Obligations.HeadphoneChannelEffects := by
  unfold Obligations.HeadphoneChannelEffects
  refine fun s n => ⟨fun v h1 => ?_, fun v h1 h2 h3 h4 h5 => ?_, fun v h1 h2 h3 h4 => ?_, fun h1 h2 h3 h4 h5 h6 h7 => ?_, fun h1 h2 => ?_,
    fun h1 h2 h3 => ?_, fun h1 h2 => ?_, fun h1 h2 h3 => ?_, fun h1 h2 h3 h4 h5 => ?_, fun h1 h2 h3 h4 => ?_, fun mv h1 => ?_, fun h1 h2 => ?_⟩
  · exact ⟨_, rfl, hpoCfgWrite_rejects n.isLt h1⟩
  · exact ⟨_, rfl, hpoCfgWrite_enables n.isLt h1 h2 h3 h4 h5⟩
  · exact ⟨_, rfl, hpoCfgWrite_disables h1 h2 h3 h4⟩
  · exact ⟨_, rfl, hpoStart_spec h1 h2 h3 h4 h5 h6 h7⟩
  · exact ⟨_, rfl, hpoServoEnd_spec h1 h2⟩
  · exact ⟨_, rfl, hpoRampDone_spec h1 h2 h3⟩
  · obtain ⟨k1, k2, k3⟩ := hpoStopDone_spec h1 h2
    exact ⟨_, rfl, k1, fun j1 j2 j3 => k2 (fun k hk hne => j1 ⟨k, hk⟩ fun e => hne (congrArg Fin.val e)) (fun k hk => j2 ⟨k, hk⟩) j3, k3⟩
  · exact ⟨_, rfl, hpoShort_spec n.isLt h1 h2 h3⟩
  · exact ⟨_, rfl, hpoRestart_spec h1 h2 h3 h4 h5⟩
  · exact ⟨_, rfl, hpoRecovered_spec n.isLt h1 h2 h3 h4⟩
  · exact ⟨_, rfl, hpoCpFault_spec n.isLt mv h1⟩
  · exact ⟨_, rfl, hpoClear_spec n.isLt h1 h2⟩

end Sys2Proof.Machine
end

section
/-! The jacks: configuration, plug, identification and buttons (R301 to R307). -/

namespace Sys2Proof.Machine

variable {l : List Fld} {s t u : State} {j : Nat}

/-! ### A jack's hidden state -/

@[simp] theorem State.jack_setJack_same (s : State) (j : Nat) (x : Jack) : (s.setJack j x).jack j = x := mapGet_set_same _ _ _ _

@[simp] theorem State.get_setJack (s : State) (j : Nat) (x : Jack) (f : Fld) : (s.setJack j x).get f = s.get f := rfl

@[simp] theorem State.jack_put (s : State) (f : Fld) (v j : Nat) : (s.put f v).jack j = s.jack j := rfl

@[simp] theorem State.jack_setBit (s : State) (f : Fld) (i j : Nat) : (s.setBit f i).jack j = s.jack j := rfl

@[simp] theorem State.jack_post (s : State) (c v p j : Nat) : (s.post c v p).jack j = s.jack j := by
  rw [State.jack, State.post_jacks, State.jack]

theorem State.wakeBy_kept (s : State) (c : Nat) :
    (∀ f, (s.wakeBy c).get f = s.get f) ∧ (∀ j, (s.wakeBy c).jack j = s.jack j) ∧ (s.wakeBy c).occ = s.occ ∧ Quiet [] s (s.wakeBy c) := by
  have hq := (Quiet.refl [] s).wakeBy c
  obtain ⟨w, hw⟩ := s.wakeBy_eq c
  rw [hw] at hq ⊢
  exact ⟨fun _ => rfl, fun _ => rfl, rfl, hq⟩

theorem State.jackMute_shown (s : State) (j : Nat) (on fast : Bool) :
    (s.jackMute j on fast).jack j = { s.jack j with mute := on && s.on (DET_JACK_CFG_AUTO_MUTE j), fast := on && fast } ∧
      Quiet [HPO_STAT_JACK_MUTED] s (s.jackMute j on fast) ∧ (s.jackMute j on fast).occ = s.occ ∧ (s.jackMute j on fast).detBias = s.detBias := by
  unfold State.jackMute State.showJackMute
  exact ⟨by rw [State.jack_put, State.jack_setJack_same], Quiet.put (Quiet.setJack (.refl _ s) _ _) (by decide) _, rfl, rfl⟩

theorem State.jackHold_shown (s : State) (j : Nat) :
    (∃ m f, (s.jackHold j).jack j = { s.jack j with mute := m, fast := f }) ∧ Quiet [HPO_STAT_JACK_MUTED] s (s.jackHold j) := by
  unfold State.jackHold
  extract_lets t
  obtain ⟨h1, h2, -, -⟩ := s.jackMute_shown j true false
  have ht : t = s.jackMute j true false := rfl
  rw [← ht] at h1 h2
  clear_value t
  split
  · refine ⟨⟨true && s.on (DET_JACK_CFG_AUTO_MUTE j), true && false, ?_⟩,
      Quiet.foldl (fun _ _ h => .ite (h.setHpo _ _) h) _ h2⟩
    have hj (l : List Nat) (t : State) : (l.foldl (fun s n => if s.bit (DET_JACK_CFG_HPO_MASK j) n then
        s.setHpo n { s.hpo n with mutePos := hpoRamp } else s) t).jack j = t.jack j := by
      induction l generalizing t with
      | nil => rfl
      | cons n l ih =>
        rw [List.foldl_cons, ih]
        split <;> rfl
    rw [hj, h1]
  · exact ⟨⟨_, _, h1⟩, h2⟩

theorem State.debounce_shown (s : State) (hj : j < 2) :
    (s.debounce j).get (DET_JACK_STAT_STATE j) = 2 ∧ ((s.debounce j).jack j).bias = s.get (DET_JACK_CFG_BIAS j) ∧
      ((s.debounce j).jack j).level = (s.jack j).level ∧ Quiet [DET_JACK_STAT_STATE j, HPO_STAT_JACK_MUTED] s (s.debounce j) := by
  unfold State.debounce
  extract_lets s1 s2
  obtain ⟨⟨m, f, h1⟩, h2⟩ := (s2.put (DET_JACK_STAT_STATE j) 2).jackHold_shown j
  refine ⟨?_, ?_, ?_, (Quiet.put (Quiet.setJack (.refl _ s) _ _) (mem_fldIn (by simp)) 2).trans (h2.of_subset (by simp))⟩
  · rw [h2.get_of_addr (f := DET_JACK_STAT_STATE j) (by simp only [DET_JACK_STAT_STATE]; omega) (by
      simp only [List.forall_mem_cons, DET_JACK_STAT_STATE, HPO_STAT_JACK_MUTED, List.not_mem_nil, false_imp_iff, implies_true, and_true]
      omega), State.get_put_same]
    rfl
  · rw [h1, State.jack_put]
    change (s2.jack j).bias = _
    unfold s2
    rw [State.jack_setJack_same]
  · rw [h1, State.jack_put]
    change (s2.jack j).level = _
    unfold s2
    rw [State.jack_setJack_same]

/-! ### Configuration and edges -/

theorem detJackCfgWrite_rejects (hj : j < 2) {v : Nat} (hb : bits v 16 2 ≠ 0) (he : bits v 16 2 = s.get (DET_JACK_CFG_BIAS (1 - j))) :
    let u := detJackCfgWrite j v s
    u.get (DET_JACK_STAT_CFG_ERR j) = 1 ∧ u.get DET_SUM_CFG_ERR = 1 ∧ 0x0C06 ∈ u.occ ∧
      Quiet [DET_JACK_STAT_CFG_ERR j, DET_SUM_CFG_ERR] s u := by
  dsimp only
  rw [detJackCfgWrite, if_pos ⟨hb, he⟩]
  refine ⟨?_, ?_, State.mem_occ_post _ _ _ (by decide), Quiet.post (Quiet.put (Quiet.put (.refl _ s) (mem_fldIn (by simp)) 1)
    (mem_fldIn (by simp)) 1) _ _ _⟩
  all_goals
    simp (disch := (simp only [Fld.key, DET_JACK_STAT_CFG_ERR, DET_SUM_CFG_ERR]; omega)) only [State.get_post_of_page, State.get_put_ne,
      State.get_put_same]
    rfl

/-- The fields of a configuration that is taken. -/
def jackCfgFlds (j : Nat) : List Fld :=
  [DET_JACK_CFG_EN j, DET_JACK_CFG_POL j, DET_JACK_CFG_INS_DB j, DET_JACK_CFG_REM_DB j, DET_JACK_CFG_ID_DELAY j,
    DET_JACK_CFG_BIAS j, DET_JACK_CFG_HPO_MASK j, DET_JACK_CFG_AUTO_MUTE j, DET_JACK_CFG_BTN_EN j]

/-- The state after the fields of a configuration have been taken. -/
def State.jackTaken (s : State) (j v : Nat) : State :=
  let s := ((((s.put (DET_JACK_CFG_EN j) (bits v 0 1)).put (DET_JACK_CFG_POL j) (bits v 1 1)).put (DET_JACK_CFG_INS_DB j)
    (bits v 4 4)).put (DET_JACK_CFG_REM_DB j) (bits v 8 4)).put (DET_JACK_CFG_ID_DELAY j) (bits v 12 4)
  let s := (((s.put (DET_JACK_CFG_BIAS j) (bits v 16 2)).put (DET_JACK_CFG_HPO_MASK j) (bits v 20 4)).put
    (DET_JACK_CFG_AUTO_MUTE j) (bits v 24 1)).put (DET_JACK_CFG_BTN_EN j) (bits v 25 1)
  s.put (DET_JACK_STAT_CFG_ERR j) 0

theorem State.jackTaken_shown (s : State) (j v : Nat) :
    let u := s.jackTaken j v
    u.get (DET_JACK_CFG_EN j) = bits v 0 1 ∧ u.get (DET_JACK_CFG_POL j) = bits v 1 1 ∧ u.get (DET_JACK_CFG_BIAS j) = bits v 16 2 ∧
      u.get (DET_JACK_CFG_HPO_MASK j) = bits v 20 4 ∧ u.get (DET_JACK_CFG_INS_DB j) = bits v 4 4 ∧ u.jack j = s.jack j ∧
      Quiet (jackCfgFlds j ++ [DET_JACK_STAT_STATE j, DET_JACK_STAT_CFG_ERR j, HPO_STAT_JACK_MUTED]) s u := by
  unfold State.jackTaken
  refine ⟨?_, ?_, ?_, ?_, ?_, rfl, ?_⟩
  on_goal 6 =>
    refine Quiet.put (Quiet.put (Quiet.put (Quiet.put (Quiet.put (Quiet.put (Quiet.put (Quiet.put (Quiet.put (Quiet.put (.refl _ s) ?_ _) ?_ _)
      ?_ _) ?_ _) ?_ _) ?_ _) ?_ _) ?_ _) ?_ _) ?_ _
    all_goals exact mem_fldIn (by simp [jackCfgFlds])
  all_goals
    simp (disch := (simp only [Fld.key, DET_JACK_CFG_EN, DET_JACK_CFG_POL, DET_JACK_CFG_INS_DB, DET_JACK_CFG_REM_DB, DET_JACK_CFG_ID_DELAY,
      DET_JACK_CFG_BIAS, DET_JACK_CFG_HPO_MASK, DET_JACK_CFG_AUTO_MUTE, DET_JACK_CFG_BTN_EN, DET_JACK_STAT_CFG_ERR]; omega)) only
      [State.get_put_ne, State.get_put_same]
    exact Nat.mod_eq_of_lt (bits_lt _ _ _)

theorem detJackCfgWrite_enables (hj : j < 2) {v : Nat} (hb : bits v 16 2 = 0 ∨ bits v 16 2 ≠ s.get (DET_JACK_CFG_BIAS (1 - j)))
    (hen : bitOf v 0 = true) (hwas : s.on (DET_JACK_CFG_EN j) = false) :
    let u := detJackCfgWrite j v s
    u.get (DET_JACK_STAT_STATE j) = (if (s.jack j).level = bitOf v 1 then 2 else 1) ∧ u.get (DET_JACK_CFG_EN j) = 1 ∧
      u.get (DET_JACK_CFG_POL j) = bits v 1 1 ∧ u.get (DET_JACK_CFG_BIAS j) = bits v 16 2 ∧
      u.get (DET_JACK_CFG_HPO_MASK j) = bits v 20 4 ∧ u.get (DET_JACK_CFG_INS_DB j) = bits v 4 4 ∧
      Quiet (jackCfgFlds j ++ [DET_JACK_STAT_STATE j, DET_JACK_STAT_CFG_ERR j, HPO_STAT_JACK_MUTED]) s u := by
  have heq : detJackCfgWrite j v s =
      let t := (s.jackTaken j v).put (DET_JACK_STAT_STATE j) 1
      if t.plugged j then t.debounce j else t := by
    unfold detJackCfgWrite
    rw [if_neg (by tauto)]
    change (if (bitOf v 0 && !s.on (DET_JACK_CFG_EN j)) = true then _ else _) = _
    rw [hen, hwas, if_pos (by decide)]
    rfl
  obtain ⟨h1, h2, h3, h4, h5, h6, h7⟩ := s.jackTaken_shown j v
  dsimp only at heq ⊢
  rw [heq]
  generalize s.jackTaken j v = t at *
  set w := t.put (DET_JACK_STAT_STATE j) 1 with hw
  have hcfg {f : Fld} (hlo : f.lo < 64) (hf : f.addr = 0xE0C100 + 0x20 * j) : w.get f = t.get f :=
    State.get_put_ne _ _ (by simp only [Fld.key, DET_JACK_STAT_STATE]; omega)
  have hst : w.get (DET_JACK_STAT_STATE j) = 1 := State.get_put_same _ _ _
  have hq : Quiet (jackCfgFlds j ++ [DET_JACK_STAT_STATE j, DET_JACK_STAT_CFG_ERR j, HPO_STAT_JACK_MUTED]) s w :=
    h7.put (mem_fldIn (by simp)) 1
  have hpol : w.on (DET_JACK_CFG_POL j) = bitOf v 1 := by
    rw [State.on, hcfg (f := DET_JACK_CFG_POL j) (show 1 < 64 by decide) rfl, h2, bits_one_eq_b2n]
    cases bitOf v 1 <;> rfl
  have hplug : w.plugged j = decide ((s.jack j).level = bitOf v 1) := by
    unfold State.plugged State.jackState
    rw [hst]
    dsimp only
    rw [if_pos (by decide), hpol, show w.jack j = s.jack j from h6]
    cases (s.jack j).level <;> cases bitOf v 1 <;> rfl
  have hcase {u : State} (k1 : u.get (DET_JACK_STAT_STATE j) = if (s.jack j).level = bitOf v 1 then 2 else 1)
      (k2 : Quiet [DET_JACK_STAT_STATE j, HPO_STAT_JACK_MUTED] w u) :
      u.get (DET_JACK_STAT_STATE j) = (if (s.jack j).level = bitOf v 1 then 2 else 1) ∧ u.get (DET_JACK_CFG_EN j) = 1 ∧
        u.get (DET_JACK_CFG_POL j) = bits v 1 1 ∧ u.get (DET_JACK_CFG_BIAS j) = bits v 16 2 ∧
        u.get (DET_JACK_CFG_HPO_MASK j) = bits v 20 4 ∧ u.get (DET_JACK_CFG_INS_DB j) = bits v 4 4 ∧
        Quiet (jackCfgFlds j ++ [DET_JACK_STAT_STATE j, DET_JACK_STAT_CFG_ERR j, HPO_STAT_JACK_MUTED]) s u := by
    have hu {f : Fld} (hlo : f.lo < 64) (hf : f.addr = 0xE0C100 + 0x20 * j) : u.get f = t.get f := by
      rw [k2.get_of_addr (by omega), hcfg hlo hf]
      simp only [List.forall_mem_cons, DET_JACK_STAT_STATE, HPO_STAT_JACK_MUTED, List.not_mem_nil, false_imp_iff, implies_true, and_true]
      omega
    refine ⟨k1, ?_, ?_, ?_, ?_, ?_, hq.trans (k2.of_subset (by simp))⟩
    · rw [hu (f := DET_JACK_CFG_EN j) (show 0 < 64 by decide) rfl, h1, bits_one_eq_b2n, hen]
      rfl
    · rw [hu (f := DET_JACK_CFG_POL j) (show 1 < 64 by decide) rfl, h2]
    · rw [hu (f := DET_JACK_CFG_BIAS j) (show 16 < 64 by decide) rfl, h3]
    · rw [hu (f := DET_JACK_CFG_HPO_MASK j) (show 20 < 64 by decide) rfl, h4]
    · rw [hu (f := DET_JACK_CFG_INS_DB j) (show 4 < 64 by decide) rfl, h5]
  by_cases hl : (s.jack j).level = bitOf v 1
  · rw [if_pos (by rw [hplug]; exact decide_eq_true hl)]
    obtain ⟨d1, -, -, d4⟩ := w.debounce_shown hj
    exact hcase (by rw [d1, if_pos hl]) d4
  · rw [if_neg (by rw [hplug]; simpa using hl)]
    exact hcase (by rw [hst, if_neg hl]) (.refl _ w)

/-- R303: a plug goes into an empty jack. -/
theorem jackEdge_in (hj : j < 2) (hs : s.get (DET_JACK_STAT_STATE j) = 1) :
    let u := jackEdge j (s.on (DET_JACK_CFG_POL j)) s
    u.get (DET_JACK_STAT_STATE j) = 2 ∧ (u.jack j).level = s.on (DET_JACK_CFG_POL j) ∧
      (u.jack j).bias = s.get (DET_JACK_CFG_BIAS j) ∧ Quiet [DET_JACK_STAT_STATE j, HPO_STAT_JACK_MUTED] s u := by
  set t := s.setJack j { s.jack j with level := s.on (DET_JACK_CFG_POL j) } with ht
  have hlevel : (t.jack j).level = s.on (DET_JACK_CFG_POL j) := by rw [ht, State.jack_setJack_same]
  have hst : t.jackState j = 1 := hs
  have hplug : t.plugged j = true := by
    unfold State.plugged
    dsimp only
    rw [hst, if_pos (by decide), hlevel]
    exact beq_self_eq_true _
  have heq : jackEdge j (s.on (DET_JACK_CFG_POL j)) s = t.debounce j := by
    unfold jackEdge
    dsimp only
    rw [← ht, hst, if_neg (by decide), if_pos hplug, if_pos (by decide)]
  obtain ⟨d1, d2, d3, d4⟩ := t.debounce_shown hj
  dsimp only
  rw [heq]
  exact ⟨d1, d3.trans hlevel, d2, (Quiet.setJack (.refl _ s) _ _).trans d4⟩

/-- The jack's level shows no plug after an edge against the insertion's polarity. -/
theorem jackEdge_out_eq (hs : 2 ≤ s.get (DET_JACK_STAT_STATE j)) :
    jackEdge j (!(s.jack j).pol) s =
      let t := s.setJack j { s.jack j with level := !(s.jack j).pol }
      if s.get (DET_JACK_STAT_STATE j) = 2 then (t.put (DET_JACK_STAT_STATE j) 1).jackMute j false false
      else t.setJack j { t.jack j with removing := true } := by
  unfold jackEdge
  dsimp only
  set t := s.setJack j { s.jack j with level := !(s.jack j).pol } with ht
  have hst : t.jackState j = s.get (DET_JACK_STAT_STATE j) := rfl
  have hplug : t.plugged j = false := by
    unfold State.plugged
    dsimp only
    rw [hst, if_neg (by omega), ht, State.jack_setJack_same]
    cases (s.jack j).pol <;> rfl
  rw [hst, if_neg (by omega), if_neg (by rw [hplug]; decide), if_neg (by omega)]

theorem jackEdge_out (hs : s.get (DET_JACK_STAT_STATE j) = 2) :
    let u := jackEdge j (!(s.jack j).pol) s
    u.get (DET_JACK_STAT_STATE j) = 1 ∧ (u.jack j).mute = false ∧ Quiet [DET_JACK_STAT_STATE j, HPO_STAT_JACK_MUTED] s u := by
  dsimp only
  rw [jackEdge_out_eq (by omega)]
  dsimp only
  rw [if_pos hs]
  have hq : Quiet [DET_JACK_STAT_STATE j, HPO_STAT_JACK_MUTED] s (s.setJack j { s.jack j with level := !(s.jack j).pol }) :=
    Quiet.setJack (.refl _ s) _ _
  generalize s.setJack j { s.jack j with level := !(s.jack j).pol } = t at *
  obtain ⟨m1, m2, -, -⟩ := (t.put (DET_JACK_STAT_STATE j) 1).jackMute_shown j false false
  refine ⟨?_, by rw [m1]; rfl, (hq.put (mem_fldIn (by simp)) 1).trans (m2.of_subset (by simp))⟩
  rw [State.jackMute, State.showJackMute, State.get_put_ne, State.get_setJack, State.get_put_same]
  · rfl
  · simp only [Fld.key, DET_JACK_STAT_STATE, HPO_STAT_JACK_MUTED]
    omega

theorem jackEdge_removing (hs : 3 ≤ s.get (DET_JACK_STAT_STATE j)) :
    let u := jackEdge j (!(s.jack j).pol) s
    (u.jack j).removing = true ∧ Quiet [] s u := by
  dsimp only
  rw [jackEdge_out_eq (by omega)]
  dsimp only
  rw [if_neg (by omega), State.jack_setJack_same]
  exact ⟨rfl, Quiet.setJack (Quiet.setJack (.refl _ s) _ _) _ _⟩

theorem detInsert_spec (hj : j < 2) (hs : s.get (DET_JACK_STAT_STATE j) = 2) (hl : (s.jack j).level = (s.jack j).pol) :
    let u := detInsert j s
    u.get (DET_JACK_STAT_STATE j) = 3 ∧ u.bit DET_SUM_INSERT j = true ∧ 0x0C01 ∈ u.occ ∧ Quiet [DET_JACK_STAT_STATE j, DET_SUM_INSERT] s u := by
  have hplug : s.plugged j = true := by
    unfold State.plugged State.jackState
    dsimp only
    rw [hs, if_neg (by decide), hl]
    exact beq_self_eq_true _
  unfold detInsert
  rw [if_pos ⟨hs, hplug⟩]
  extract_lets t u
  have h1 : t.get (DET_JACK_STAT_STATE j) = 3 ∧ t.bit DET_SUM_INSERT j = true ∧ 0x0C01 ∈ t.occ ∧ Quiet [DET_JACK_STAT_STATE j, DET_SUM_INSERT] s t := by
    refine ⟨?_, ?_, State.mem_occ_post _ _ _ (by decide), Quiet.post (Quiet.setBit (Quiet.put (.refl _ s) (mem_fldIn (by simp)) 3)
      (mem_fldIn (by simp)) j) _ _ _⟩
    · unfold t
      rw [State.get_post_of_page _ _ _ _ (by simp only [DET_JACK_STAT_STATE]; omega), State.get_setBit_ne, State.get_put_same]
      · rfl
      · simp only [Fld.key, DET_JACK_STAT_STATE, DET_SUM_INSERT]
        omega
    · unfold t
      rw [State.bit, State.get_post (by decide)]
      exact State.bit_setBit_same _ hj
  clear_value t
  unfold u
  split
  · obtain ⟨k1, k2, k3, k4⟩ := t.wakeBy_kept 2
    obtain ⟨g1, g2, g3, g4⟩ := h1
    exact ⟨(k1 _).trans g1, by rw [State.bit, k1]; exact g2, by rw [k3]; exact g3, g4.trans (k4.of_subset (List.nil_subset _))⟩
  · exact h1

/-! ### Identification -/

/-- What a bias output's switching leaves: the jacks, the events, and the registers but those of the analog inputs. -/
structure BiasOnly (s u : State) : Prop where
  quiet : Quiet biasFlds s u
  jacks : u.jacks = s.jacks
  occ : u.occ = s.occ

theorem BiasOnly.refl (s : State) : BiasOnly s s := ⟨.refl _ s, rfl, rfl⟩

theorem BiasOnly.jack (h : BiasOnly s u) (j : Nat) : u.jack j = s.jack j := by rw [State.jack, h.jacks, State.jack]

/-- No register of the analog inputs is the detector's or the wake page's. -/
theorem BiasOnly.get (h : BiasOnly s u) {f : Fld} (hf : f.lo < 64 ∧ (f.addr < 0xE07000 ∨ 0xE07200 ≤ f.addr) ∧ f.addr / 4096 ≠ 0xE0E ∧
    f.addr / 4096 ≠ 0xE10) : u.get f = s.get f := by
  have hb : ∀ g ∈ biasFlds, g.lo < 64 ∧ 0xE07000 ≤ g.addr ∧ g.addr < 0xE07200 := by decide
  refine h.quiet.get_of_addr ⟨hf.1, hf.2.2⟩ fun g hg => ?_
  obtain ⟨h1, h2⟩ := hb g hg
  omega

theorem State.biasStart_only (s : State) (k : Nat) : BiasOnly s (s.biasStart k) := by
  obtain ⟨h1, -, -, h4⟩ := s.biasStart_shown k
  refine ⟨h1, ?_, h4⟩
  unfold State.biasStart
  extract_lets t
  have ht : t.jacks = s.jacks := rfl
  clear_value t
  refine List.foldlRecOn (motive := fun u : State => u.jacks = s.jacks) _ _ ht fun v hv n _ => ?_
  have hset : (v.ainBiasSettle n (v.atRate 240)).jacks = v.jacks := by
    unfold State.ainBiasSettle State.ainUnsettled
    dsimp only
    split <;> rfl
  split
  · exact hset.trans hv
  · exact hv

theorem State.detBiasOn_only (s : State) {b : Nat} (hb : b ≠ 0) : BiasOnly s (s.detBiasOn b) ∧ bitOf (s.detBiasOn b).detBias (b - 1) = true := by
  unfold State.detBiasOn
  split
  · next h => exact ⟨.refl s, h.resolve_left hb⟩
  · extract_lets was t
    have ht : BiasOnly s t ∧ bitOf t.detBias (b - 1) = true := ⟨⟨Quiet.update (.refl _ s), rfl, rfl⟩, bitOf_setBitN _ _⟩
    clear_value t
    obtain ⟨k1, k2⟩ := ht
    split
    · have hs := t.biasStart_only (b - 1)
      exact ⟨⟨k1.quiet.trans hs.quiet, hs.jacks.trans k1.jacks, hs.occ.trans k1.occ⟩, by rw [(t.biasStart_shown (b - 1)).2.2.1]; exact k2⟩
    · exact ⟨k1, k2⟩

theorem State.detBiasOff_only (s : State) (b : Nat) : BiasOnly s (s.detBiasOff b) := by
  unfold State.detBiasOff
  split
  · exact .refl s
  · extract_lets t
    have ht : BiasOnly s t := ⟨Quiet.update (.refl _ s), rfl, rfl⟩
    clear_value t
    split
    · exact ht
    · exact ⟨ht.quiet.trans ((t.biasOff_quiet (b - 1)).of_subset (by simp [biasFlds])), ht.jacks, ht.occ⟩

theorem State.identify_bias (s : State) (hj : j < 2) (hb : (s.jack j).bias ≠ 0) (hp : s.privacy = false) :
    (s.identify j).get (DET_JACK_STAT_STATE j) = 4 ∧ bitOf (s.identify j).detBias ((s.jack j).bias - 1) = true ∧
      ((s.identify j).jack j).samples = [] ∧ ((s.identify j).jack j).attempts = 0 ∧ ((s.identify j).jack j).btn = (s.jack j).btn := by
  unfold State.identify
  dsimp only
  rw [if_neg hb, if_neg (by rw [hp]; decide)]
  obtain ⟨h1, h2⟩ := ((s.put (DET_JACK_STAT_STATE j) 4).setJack j { s.jack j with settle := 5, samples := [], attempts := 0 }).detBiasOn_only hb
  refine ⟨?_, h2, ?_, ?_, ?_⟩
  · rw [h1.get (f := DET_JACK_STAT_STATE j) (by simp only [DET_JACK_STAT_STATE]; omega), State.get_setJack, State.get_put_same]
    rfl
  all_goals rw [h1.jack, State.jack_setJack_same]

theorem jackSeatEnd_identifies (hj : j < 2) (hs : s.get (DET_JACK_STAT_STATE j) = 3) (ha : s.awake = true) (hp : s.privacy = false)
    (hb : (s.jack j).bias ≠ 0) :
    let u := jackSeatEnd j s
    u.get (DET_JACK_STAT_STATE j) = 4 ∧ bitOf u.detBias ((s.jack j).bias - 1) = true ∧ (u.jack j).samples = [] ∧ SameBytes s u := by
  dsimp only
  rw [jackSeatEnd, State.jackState, if_neg (not_not.2 hs), if_pos ha]
  obtain ⟨h1, h2, h3, -, -⟩ := s.identify_bias hj hb hp
  exact ⟨h1, h2, h3, (s.identify_moves j).quiet.1⟩

theorem jackSeatEnd_pauses (hs : s.get (DET_JACK_STAT_STATE j) = 3) (ha : s.awake = true) (hp : s.privacy = true) (hb : (s.jack j).bias ≠ 0) :
    let u := jackSeatEnd j s
    u.get (DET_JACK_STAT_STATE j) = 6 ∧ Quiet [DET_JACK_STAT_STATE j] s u := by
  dsimp only
  rw [jackSeatEnd, State.jackState, if_neg (not_not.2 hs), if_pos ha, State.identify]
  rw [if_neg hb, if_pos hp, State.get_put_same]
  exact ⟨rfl, Quiet.put (.refl _ s) (mem_fldIn (by simp)) 6⟩

theorem State.detReady_shown (s : State) (hj : j < 2) {type : Nat} (ht : type < 8) (code : Nat) :
    let u := s.detReady j type code
    u.get (DET_JACK_STAT_STATE j) = 5 ∧ u.get (DET_JACK_STAT_TYPE j) = type ∧ u.get (DET_JACK_STAT_CODE j) = code % 1024 ∧
      u.bit DET_SUM_ID j = true ∧ 0x0C03 ∈ u.occ ∧ (u.jack j).mute = false := by
  unfold State.detReady
  extract_lets s1 s2 s3 u
  have h2 : s2.get (DET_JACK_STAT_STATE j) = 5 ∧ s2.get (DET_JACK_STAT_TYPE j) = type ∧ s2.get (DET_JACK_STAT_CODE j) = code % 1024 ∧
      s2.bit DET_SUM_ID j = true ∧ 0x0C03 ∈ s2.occ := by
    unfold s2 s1
    refine ⟨?_, ?_, ?_, ?_, State.mem_occ_post _ _ _ (by decide)⟩
    on_goal 4 =>
      rw [State.bit, State.get_post (by decide)]
      exact State.bit_setBit_same _ hj
    all_goals
      simp (disch := (simp only [Fld.key, DET_JACK_STAT_STATE, DET_JACK_STAT_TYPE, DET_JACK_STAT_CODE, DET_SUM_ID]; omega)) only
        [State.get_post_of_page, State.get_setBit_ne, State.get_put_ne, State.get_put_same]
    · rfl
    · exact Nat.mod_eq_of_lt ht
    · rfl
  clear_value s2
  have h3 : BiasOnly s2 s3 := by
    unfold s3
    split
    · exact .refl s2
    · exact s2.detBiasOff_only _
  clear_value s3
  obtain ⟨m1, m2, m3, -⟩ := s3.jackMute_shown j false false
  have hread {f : Fld} (hlo : f.lo < 64) (hf : 0xE0C000 ≤ f.addr ∧ f.addr < 0xE0C200) : u.get f = s2.get f := by
    rw [m2.get_of_addr (by omega), h3.get (by omega)]
    simp only [List.forall_mem_cons, HPO_STAT_JACK_MUTED, List.not_mem_nil, false_imp_iff, implies_true, and_true]
    omega
  obtain ⟨g1, g2, g3, g4, g5⟩ := h2
  refine ⟨(hread (f := DET_JACK_STAT_STATE j) (show 0 < 64 by decide) (by simp only [DET_JACK_STAT_STATE]; omega)).trans g1,
    (hread (f := DET_JACK_STAT_TYPE j) (show 4 < 64 by decide) (by simp only [DET_JACK_STAT_TYPE]; omega)).trans g2,
    (hread (f := DET_JACK_STAT_CODE j) (show 16 < 64 by decide) (by simp only [DET_JACK_STAT_CODE]; omega)).trans g3, ?_, ?_, ?_⟩
  · rw [State.bit, hread (by decide) (by decide)]
    exact g4
  · rw [m3, h3.occ]
    exact g5
  · rw [m1]
    rfl

theorem jackType_lt (code : Nat) : jackType code < 8 := by
  unfold jackType
  split_ifs <;> omega

theorem detSample_identifies (hj : j < 2) {code : Nat} (ha : s.awake = true) (hs : s.get (DET_JACK_STAT_STATE j) = 4) (hset : (s.jack j).settle = 0)
    (hlen : (s.jack j).samples.length = 15) (hc : code < 1024)
    (hr : (code :: (s.jack j).samples).foldl max 0 - (code :: (s.jack j).samples).foldl min 1023 ≤ 32) :
    let u := detSample j code s
    u.get (DET_JACK_STAT_STATE j) = 5 ∧ u.get (DET_JACK_STAT_TYPE j) = jackType ((code :: (s.jack j).samples).sum / 16) ∧
      u.get (DET_JACK_STAT_CODE j) = (code :: (s.jack j).samples).sum / 16 % 1024 ∧ u.bit DET_SUM_ID j = true ∧ 0x0C03 ∈ u.occ ∧
      (u.jack j).mute = false ∧ SameBytes s u := by
  have heq : detSample j code s = (s.setJack j { s.jack j with samples := [] }).detReady j (jackType ((code :: (s.jack j).samples).sum / 16))
      ((code :: (s.jack j).samples).sum / 16) := by
    unfold detSample State.identSample State.jackState
    dsimp only
    rw [if_neg (not_not.2 ha), if_pos hs, min_eq_right (show code ≤ 1023 by omega), if_neg (not_not.2 hset),
      if_neg (by rw [List.length_cons, hlen]; decide), if_pos hr]
  dsimp only
  rw [heq]
  generalize (code :: (s.jack j).samples).sum / 16 = mean
  have hb : SameBytes s (s.setJack j { s.jack j with samples := [] }) := fun _ => ⟨rfl, rfl, rfl⟩
  generalize s.setJack j { s.jack j with samples := [] } = t at *
  obtain ⟨h1, h2, h3, h4, h5, h6⟩ := t.detReady_shown hj (jackType_lt mean) mean
  exact ⟨h1, h2, h3, h4, h5, h6, hb.trans (t.detReady_moves j _ _).quiet.1⟩

/-! ### Buttons, removal and a new identification -/

theorem State.btnOf_lt {code k : Nat} (h : s.btnOf code = some k) : k < 4 := by
  unfold State.btnOf at h
  split_ifs at h <;> cases h <;> decide

theorem State.btnRelease_jack (s : State) (j : Nat) :
    ((s.btnRelease j).jack j).btn = none ∧ ((s.btnRelease j).jack j).bias = (s.jack j).bias ∧ (s.btnRelease j).detBias = s.detBias := by
  unfold State.btnRelease
  dsimp only
  split
  · rw [State.jack_post, State.jack_setBit, State.jack_put, State.jack_setJack_same, State.post_detBias]
    exact ⟨rfl, rfl, rfl⟩
  · next h => exact ⟨by rw [State.jack_setJack_same]; exact h, by rw [State.jack_setJack_same], rfl⟩

theorem detSample_presses (hj : j < 2) {code k : Nat} (ha : s.awake = true) (hs : s.get (DET_JACK_STAT_STATE j) = 5)
    (ht : s.get (DET_JACK_STAT_TYPE j) = 2) (hen : s.on (DET_JACK_CFG_BTN_EN j) = true)
    (hon : s.bit AIN_BIAS_STAT_ON ((s.jack j).bias - 1) = true) (hc : code < 1024) (hk : s.btnOf code = some k) (hbtn : (s.jack j).btn = none)
    (hcand : (s.jack j).cand = some k) (hdb : s.get DET_BTN_CFG_PRESS_DB ≤ (s.jack j).count + 1) :
    let u := detSample j code s
    (u.jack j).btn = some k ∧ u.get (DET_JACK_STAT_BTN j) = 2 ^ k ∧ u.bit DET_SUM_BTN j = true ∧ 0x0C04 ∈ u.occ ∧
      Quiet [DET_JACK_STAT_BTN j, DET_SUM_BTN] s u := by
  have heq : ∃ x, detSample j code s =
      let t := (s.setJack j x).btnRelease j
      (((t.setJack j { t.jack j with btn := some k, heldMs := 0 }).put (DET_JACK_STAT_BTN j) (2 ^ k)).setBit DET_SUM_BTN j).post
          0x0C04 sevInfo (pack [p16 j, p16 k]) := by
    refine ⟨{ s.jack j with heldMs := 0, cand := some k, count := (s.jack j).count + 1 }, ?_⟩
    unfold detSample State.btnSample State.jackState
    dsimp only
    rw [if_neg (not_not.2 ha), if_neg (by rw [hs]; decide), if_pos ⟨hs, hen, .inl ht, hon⟩, min_eq_right (show code ≤ 1023 by omega), hk, hbtn,
      if_neg (by simp), hcand, if_pos rfl, if_neg (by simp only [Option.isSome_some, if_true]; omega)]
    rfl
  obtain ⟨x, heq⟩ := heq
  dsimp only at heq ⊢
  rw [heq]
  have hq : Quiet [DET_JACK_STAT_BTN j, DET_SUM_BTN] s ((s.setJack j x).btnRelease j) :=
    (Quiet.setJack (.refl _ s) j x).trans (State.btnRelease_quiet _ j).1
  generalize (s.setJack j x).btnRelease j = t at *
  have hk4 := State.btnOf_lt hk
  refine ⟨?_, ?_, ?_, State.mem_occ_post _ _ _ (by decide), Quiet.post (Quiet.setBit (Quiet.put (hq.setJack j _) (mem_fldIn (by simp)) _)
    (mem_fldIn (by simp)) j) _ _ _⟩
  · rw [State.jack_post, State.jack_setBit, State.jack_put, State.jack_setJack_same]
  · rw [State.get_post_of_page _ _ _ _ (by simp only [DET_JACK_STAT_BTN]; omega), State.get_setBit_ne, State.get_put_same]
    · exact Nat.mod_eq_of_lt (Nat.pow_lt_pow_right (by decide) hk4)
    · simp only [Fld.key, DET_JACK_STAT_BTN, DET_SUM_BTN]
      omega
  · rw [State.bit, State.get_post (by decide)]
    exact State.bit_setBit_same _ hj

theorem State.jackEmpty_shown (s : State) (j : Nat) :
    (s.jackEmpty j).get (DET_JACK_STAT_STATE j) = 1 ∧ (s.jackEmpty j).get (DET_JACK_STAT_TYPE j) = 0 ∧ ((s.jackEmpty j).jack j).btn = none ∧
      SameBytes s (s.jackEmpty j) := by
  unfold State.jackEmpty
  extract_lets t v x
  have ht : (t.jack j).btn = none ∧ SameBytes s t := by
    unfold t
    refine ⟨?_, (s.btnRelease_moves j).quiet.1.trans (State.detBiasOff_only _ _).quiet.1⟩
    rw [(State.detBiasOff_only _ _).jack]
    exact (s.btnRelease_jack j).1
  clear_value t
  have hv : v.get (DET_JACK_STAT_STATE j) = 1 ∧ v.get (DET_JACK_STAT_TYPE j) = 0 := by
    unfold v
    simp (disch := (simp only [Fld.key, DET_JACK_STAT_STATE, DET_JACK_STAT_TYPE]; omega)) only [State.get_put_ne, State.get_put_same]
    exact ⟨rfl, rfl⟩
  exact ⟨hv.1, hv.2, by rw [State.jack_setJack_same]; exact ht.1, ht.2.trans fun _ => ⟨rfl, rfl, rfl⟩⟩

theorem detRemove_spec (hj : j < 2) (hs : 3 ≤ s.get (DET_JACK_STAT_STATE j)) (hr : (s.jack j).removing = true) :
    let u := detRemove j s
    u.get (DET_JACK_STAT_STATE j) = 1 ∧ u.get (DET_JACK_STAT_TYPE j) = 0 ∧ u.bit DET_SUM_REMOVE j = true ∧
      (u.jack j).btn = none ∧ 0x0C02 ∈ u.occ ∧ SameBytes s u := by
  unfold detRemove
  rw [if_pos ⟨hs, hr⟩]
  extract_lets t v u
  have hv : v.get (DET_JACK_STAT_STATE j) = 1 ∧ v.get (DET_JACK_STAT_TYPE j) = 0 ∧ v.bit DET_SUM_REMOVE j = true ∧ (v.jack j).btn = none ∧
      0x0C02 ∈ v.occ ∧ SameBytes s v := by
    have hm := (s.jackMute_shown j true true).2.1.1
    obtain ⟨k1, k2, k3, k4⟩ := (s.jackMute j true true).jackEmpty_shown j
    unfold v t
    generalize (s.jackMute j true true).jackEmpty j = w at *
    refine ⟨?_, ?_, ?_, ?_, State.mem_occ_post _ _ _ (by decide),
      (hm.trans k4).trans (Quiet.post (Quiet.setBit (l := [DET_SUM_REMOVE]) (.refl _ w) (mem_fldIn (by simp)) j) _ _ _).1⟩
    · rw [State.get_post_of_page _ _ _ _ (by simp only [DET_JACK_STAT_STATE]; omega), State.get_setBit_ne, k1]
      simp only [Fld.key, DET_JACK_STAT_STATE, DET_SUM_REMOVE]
      omega
    · rw [State.get_post_of_page _ _ _ _ (by simp only [DET_JACK_STAT_TYPE]; omega), State.get_setBit_ne, k2]
      simp only [Fld.key, DET_JACK_STAT_TYPE, DET_SUM_REMOVE]
      omega
    · rw [State.bit, State.get_post (by decide)]
      exact State.bit_setBit_same _ hj
    · rw [State.jack_post, State.jack_setBit]
      exact k3
  clear_value v
  unfold u
  split
  · obtain ⟨k1, k2, k3, k4⟩ := v.wakeBy_kept 2
    obtain ⟨g1, g2, g3, g4, g5, g6⟩ := hv
    exact ⟨(k1 _).trans g1, (k1 _).trans g2, by rw [State.bit, k1]; exact g3, by rw [k2]; exact g4, by rw [k3]; exact g5, g6.trans k4.1⟩
  · exact hv

theorem reident_spec (hj : j < 2) (hs : s.get (DET_JACK_STAT_STATE j) = 5) (hp : s.privacy = false) (hb : (s.jack j).bias ≠ 0) :
    let u := reident j s
    u.get (DET_JACK_STAT_STATE j) = 4 ∧ (u.jack j).attempts = 0 ∧ (u.jack j).btn = none ∧ SameBytes s u := by
  obtain ⟨b1, b2, -⟩ := s.btnRelease_jack j
  have b3 := (s.btnRelease_quiet j).1
  dsimp only
  rw [reident, State.jackState, if_pos hs]
  generalize s.btnRelease j = t at *
  obtain ⟨m1, m2, -, -⟩ := t.jackMute_shown j true false
  have hpriv : (t.jackMute j true false).privacy = false := by
    have hread : (t.jackMute j true false).get WAKE_PRIV_STAT_ENGAGED = s.get WAKE_PRIV_STAT_ENGAGED := by
      rw [m2.get (by decide) (by decide), b3.get_of_addr (by decide)]
      simp only [List.forall_mem_cons, DET_JACK_STAT_BTN, DET_SUM_BTN, WAKE_PRIV_STAT_ENGAGED, List.not_mem_nil, false_imp_iff, implies_true,
        and_true]
      omega
    rw [State.privacy, State.on, hread]
    exact hp
  have hbytes := b3.1.trans m2.1
  have hbias : ((t.jackMute j true false).jack j).bias ≠ 0 := by
    rw [m1]
    exact b2 ▸ hb
  have hbtn : ((t.jackMute j true false).jack j).btn = none := by
    rw [m1]
    exact b1
  generalize t.jackMute j true false = v at *
  obtain ⟨h1, -, -, h4, h5⟩ := v.identify_bias hj hbias hpriv
  exact ⟨h1, h4, h5.trans hbtn, hbytes.trans (v.identify_moves j).quiet.1⟩

/-- Settles O20: each command is its operation, and the lemmas above say what the operations do. -/
theorem jackDetectionEffects : Obligations.JackDetectionEffects := by
  unfold Obligations.JackDetectionEffects
  refine fun s j => ⟨fun v h1 h2 => ?_, fun v h1 h2 h3 => ?_, fun h1 => ?_, fun h1 => ?_, fun h1 => ?_, fun h1 h2 => ?_,
    fun h1 h2 h3 h4 => ?_, fun h1 h2 h3 h4 => ?_, fun code h1 h2 h3 h4 h5 h6 => ?_, fun code k h1 h2 h3 h4 h5 h6 h7 h8 h9 h10 => ?_,
    fun h1 h2 => ?_, fun h1 h2 h3 => ?_⟩
  · exact ⟨_, rfl, detJackCfgWrite_rejects j.isLt h1 h2⟩
  · exact ⟨_, rfl, detJackCfgWrite_enables j.isLt h1 h2 h3⟩
  · exact ⟨_, rfl, jackEdge_in j.isLt h1⟩
  · exact ⟨_, rfl, jackEdge_out h1⟩
  · exact ⟨_, rfl, jackEdge_removing h1⟩
  · exact ⟨_, rfl, detInsert_spec j.isLt h1 h2⟩
  · exact ⟨_, rfl, jackSeatEnd_identifies j.isLt h1 h2 h3 h4⟩
  · exact ⟨_, rfl, jackSeatEnd_pauses h1 h2 h3 h4⟩
  · exact ⟨_, rfl, detSample_identifies j.isLt h1 h2 h3 h4 h5 h6⟩
  · exact ⟨_, rfl, detSample_presses j.isLt h1 h2 h3 h4 h5 h6 h7 h8 h9 h10⟩
  · exact ⟨_, rfl, detRemove_spec j.isLt h1 h2⟩
  · exact ⟨_, rfl, reident_spec j.isLt h1 h2 h3⟩

end Sys2Proof.Machine
end

section
/-! The fold while an output stage measures (R488): its calibration ends, and the command that asked for it completes, into a completion
ring in bank 6. -/

namespace Sys2Proof.Machine

/-- After reset with bank 6 up, while a calibration of speaker channel 0 for ring 0 is in front. -/
def stageMeasures : State :=
  { (State.reset.put (MEM_BANK_STAT_STATE 6) 2).put (RING_STAT_STATE 0) 1 with
    cals := [{ ring := some 0, all := false, todo := [0x10], saved := [] }] }

/-- The same with the CALIBRATE itself in execution on ring 0. -/
def calibrateRuns : State :=
  stageMeasures.setRing 0 { stageMeasures.ring 0 with
    exec := some { seq := 0, words := [0x10000E], retried := false, committed := false, startFrame := 0, left := 0, result := 0
                   lost := false, mask := 0, snap := [] } }

/-- The first byte that the completion writes: the opcode of CALIBRATE, in the first entry of ring 1. -/
def cplByte : Nat := 0x400000 + 6 * 0x100000 + 8 * calibrateRuns.ringWord 1 0 + 2

theorem calibrateRuns_start :
    calibrateRuns.awake = true ∧ calibrateRuns.get KEEP_STAT_CAUSE = 0 ∧ calibrateRuns.plTo = none := by decide

theorem foldNow_writes : (foldNow 1 calibrateRuns).memByte cplByte ≠ calibrateRuns.memByte cplByte := by decide +kernel

theorem pwrPgLost_writes : (pwrPgLost calibrateRuns).memByte cplByte ≠ calibrateRuns.memByte cplByte := by decide +kernel

/-- Refutes O47: the core supply is lost while a CALIBRATE of an output stage runs, and its completion is written to bank 6. -/
theorem not_powerLevelsAndClockFailures : ¬ Obligations.PowerLevelsAndClockFailures := by
  unfold Obligations.PowerLevelsAndClockFailures
  intro h
  obtain ⟨-, -, -, hlost, -⟩ := h calibrateRuns
  obtain ⟨hawake, -, hpl⟩ := calibrateRuns_start
  obtain ⟨u, hu, -, -, -, -, hbytes⟩ := hlost hpl hawake
  obtain rfl : pwrPgLost calibrateRuns = u := by injection hu
  exact pwrPgLost_writes (hbytes cplByte).1

/-- Refutes O49: FOLD_NOW ends a CALIBRATE of an output stage, and its completion is written to bank 6. -/
theorem not_keeperFoldsAndReleases : ¬ Obligations.KeeperFoldsAndReleases := by
  unfold Obligations.KeeperFoldsAndReleases
  intro h
  obtain ⟨hfold, -⟩ := h calibrateRuns 1
  obtain ⟨hawake, hcause, -⟩ := calibrateRuns_start
  obtain ⟨u, hu, -, -, -, -, -, -, -, -, -, hbytes⟩ := hfold hawake hcause (by decide)
  obtain rfl : foldNow 1 calibrateRuns = u := by injection hu
  exact foldNow_writes (hbytes cplByte).1

/-- The same with a sensor at 160 °C. -/
theorem calibrateRuns_cool : calibrateRuns.bit KEEP_STAT_CAUSE 4 = false := by decide

theorem hotStage_writes :
    ((stageTempRead [224] calibrateRuns).thermalCheck).memByte cplByte ≠ calibrateRuns.memByte cplByte := by decide +kernel

/-- Refutes O50: the thermal shutdown ends a CALIBRATE of an output stage, and its completion is written to bank 6. -/
theorem not_heartbeatAndThermalShutdown : ¬ Obligations.HeartbeatAndThermalShutdown := by
  unfold Obligations.HeartbeatAndThermalShutdown
  intro h
  obtain ⟨-, -, -, -, hhot, -⟩ := h calibrateRuns 0
  obtain ⟨u, hu, -, -, -, hbytes⟩ := hhot [224] (by decide) (by decide) calibrateRuns_cool
  obtain rfl : (stageTempRead [224] calibrateRuns).thermalCheck = u := by injection hu
  exact hotStage_writes (hbytes cplByte).1

/-! The reset that ring 0 requests while a calibration is recorded as its own: the fold ends the command that has just begun. -/

/-- A RESET of depth WARM waits at HEAD of ring 0. -/
def resetAtHead : State :=
  let s := stageMeasures.memPut (bankAddr 6 (stageMeasures.ringWord 0 0)) 0x1001A
  s.setRing 0 { s.ring 0 with ready := 1 }

theorem resetAtHead_takesUp : TakesUp resetAtHead (0 : RingIx).val [0x1001A] where
  start := by decide
  words := by decide
  unmarked := by decide
  clean := by decide
  same := by decide
  form := by decide

theorem resetAtHead_halts : (resetCmd 0 1 resetAtHead).get (RING_STAT_STATE 0) = 3 := by decide +kernel

/-- Refutes O35: the command that requests the reset is not in execution afterwards, as the fold has ended it. -/
theorem not_resetRequestsAndReleases : ¬ Obligations.ResetRequestsAndReleases := by
  unfold Obligations.ResetRequestsAndReleases
  intro h
  obtain ⟨-, -, -, -, -, -, hreset, -⟩ := h resetAtHead
  obtain ⟨hwarm, -⟩ := hreset 0 [0x1001A] resetAtHead_takesUp (by decide) (by decide)
  obtain ⟨u, hu, -, hstate, -⟩ := hwarm (by decide)
  obtain rfl : resetCmd 0 1 resetAtHead = u := by injection hu
  exact absurd (resetAtHead_halts.symm.trans hstate) (by decide)

end Sys2Proof.Machine
end

section
/-! The entry of a sleep state with a wake source of the entry (R447): the source stays. -/

namespace Sys2Proof.Machine

/-- A WAIT POWER for STANDBY is in execution on ring 0, and a wake source has come. -/
def wakenEntry : State :=
  { State.reset.setRing 0 { State.reset.ring 0 with
      exec := some { seq := 0, words := [0x20001, 0], retried := false, committed := false, startFrame := 0, left := 0, result := 0
                     lost := false, mask := 2, snap := [] } } with wakeReq := some 0 }

theorem wakenEntry_ready : wakenEntry.sleepReady = true := by decide

theorem sleepEntry_keeps_wake : (sleepEntry wakenEntry).wakeReq = some 0 := by decide +kernel

/-- Refutes O48: the entry of STANDBY keeps a wake source that has come before it. -/
theorem not_sleepEntersAndLeaves : ¬ Obligations.SleepEntersAndLeaves := by
  unfold Obligations.SleepEntersAndLeaves
  intro h
  obtain ⟨hentry, -⟩ := h wakenEntry
  obtain ⟨hready, -⟩ := hentry _ rfl (by decide) (by decide) rfl (.inl rfl)
  obtain ⟨u, hu, -, -, -, -, -, hwake, -⟩ := hready wakenEntry_ready
  obtain rfl : sleepEntry wakenEntry = u := by injection hu
  rw [sleepEntry_keeps_wake] at hwake
  cases hwake

end Sys2Proof.Machine
end

section
/-! Tunnel answers and ring configurations that the statements do not reckon with: a READ_RSP whose STATUS R15 does not define, a
STREAM ring whose pointer words hold something, and a TAIL beyond its sixteen bits. -/

namespace Sys2Proof.Machine

/-- A head that waits for the answer to a register read. -/
def awaitsAnswer : State := { State.reset with isHead := true, chain := { Chain.reset with access := some (0, 0, 1, 0) } }

/-- A READ_RSP with STATUS 15. -/
def undefinedAnswer : TunUnit := { hdr := tunHdr 0 3 0 0 0 0 15, data := [(0 : Word).toNat] }

theorem undefinedAnswer_inOrder : awaitsAnswer.inOrder (tunUnit undefinedAnswer.hdr) undefinedAnswer = true := by decide

theorem undefinedAnswer_kept : (unitReadRsp undefinedAnswer awaitsAnswer).chain.access = some (0, 0, 1, 0) := by decide

/-- Refutes O23: an answer whose STATUS is 15 does not end the access. -/
theorem not_tunnelUnitsActAndAnswer : ¬ Obligations.TunnelUnitsActAndAnswer := by
  unfold Obligations.TunnelUnitsActAndAnswer
  intro h
  obtain ⟨hrsp, -⟩ := h.2 awaitsAnswer undefinedAnswer 0 rfl rfl
  obtain ⟨u, hu, -, -, -, haccess, -⟩ := hrsp 0 0 (by decide) undefinedAnswer_inOrder rfl
  obtain rfl : unitReadRsp undefinedAnswer awaitsAnswer = u := by injection hu
  rw [undefinedAnswer_kept] at haccess
  cases haccess

/-- Bank 6 is up, and its word 0 is not 0. -/
def wordZeroSet : State := (State.reset.put (MEM_BANK_STAT_STATE 6) 2).memPut (bankAddr 6 0) 5

/-- The image of RING_CFG that enables a STREAM ring of BASE 0 and PTRW 0. -/
def streamImage : Word := 7

theorem wordZeroSet_takes :
    wordZeroSet.ringOpen (5 : RingIx).val = true ∧ wordZeroSet.ringInvalid (5 : RingIx).val streamImage.toNat = false := by
  decide

theorem wordZeroSet_cleared :
    (ringCfgWrite 5 streamImage.toNat wordZeroSet).memByte (bankAddr 6 0) ≠ wordZeroSet.memByte (bankAddr 6 0) := by
  decide

/-- Refutes O25: enabling a STREAM ring writes 0 to its two pointer words in bank 6. -/
theorem not_ringConfigurationAndPointers : ¬ Obligations.RingConfigurationAndPointers := by
  unfold Obligations.RingConfigurationAndPointers
  intro h
  obtain ⟨hcfg, -⟩ := h wordZeroSet 5 streamImage
  obtain ⟨u, hu, -, -, -, -, -, -, -, -, -, -, -, hbytes, -⟩ := hcfg wordZeroSet_takes.1 wordZeroSet_takes.2
  obtain rfl : ringCfgWrite 5 streamImage.toNat wordZeroSet = u := by injection hu
  exact wordZeroSet_cleared (hbytes _).1

/-- Ring 0 is halted with nothing behind the failed command, and its field TAIL holds a value that its sixteen bits cannot. -/
def wideTail : State :=
  let s := State.reset.put (RING_STAT_STATE 0) 3
  { s with regs := mapInsert s.regs (Fld.key (RING_TAIL_TAIL 0)) 65536 }

theorem wideTail_halted :
    wideTail.get (RING_STAT_STATE (0 : RingIx).val) = 3 ∧ wideTail.proxy (0 : RingIx).val = false ∧
      (wideTail.ring (0 : RingIx).val).ready =
        (wideTail.get (RING_HEAD_HEAD (0 : RingIx).val) + (wideTail.ring (0 : RingIx).val).haltNw) % 65536 := by decide

theorem wideTail_head : (flush 0 wideTail).get (RING_HEAD_HEAD 0) = 0 := by decide

theorem wideTail_tail : wideTail.get (RING_TAIL_TAIL 0) = 65536 := by decide

/-- Refutes O26: the sixteen bits of HEAD do not take a TAIL of 65536. -/
theorem not_ringResumeAbortAndParam : ¬ Obligations.RingResumeAbortAndParam := by
  unfold Obligations.RingResumeAbortAndParam
  intro h
  obtain ⟨h3, hproxy, hready⟩ := wideTail_halted
  obtain ⟨-, -, hflush, -⟩ := h.1 wideTail 0 h3
  obtain ⟨u, hu, hhead, -⟩ := hflush hproxy hready
  obtain rfl : flush 0 wideTail = u := by injection hu
  exact absurd (wideTail_head.symm.trans (hhead.trans wideTail_tail)) (by decide)

end Sys2Proof.Machine
end

section
/-! A load that is cancelled before its teardown (R173), recorded for a ring that does not exist: the completion moves that ring's HEAD,
whose place among the registers is that of a tile's state. -/

namespace Sys2Proof.Machine

/-- The load of a CODEX_LOAD that ABORT has cancelled, of ring 0x81. -/
def strayLoad : Load :=
  { ring := some 0x81, kind := 0, shelf := 0, slot := 0, boot := false, units := 1, edition := 0, minPl := 0, at_ := none, phase := .teardown
    cancel := true, own := none, startF := none, tiles := [], xps := [], rings := [] }

/-- A head with that load, whose command is in execution on ring 0x81, with ring 1 for its completions. -/
def strayLoads : State :=
  { (State.reset.put (RING_CFG_CPL_RING 0x81) 1).setRing 0x81 { Ring.reset with
      exec := some { seq := 0, words := [0x00010008, 0], retried := false, committed := false, startFrame := 0, left := 0, result := 0
                     lost := false, mask := 0, snap := [] } } with
    isHead := true, load := some strayLoad }

theorem strayLoads_tile : (loadTeardown strayLoads).get (FAB_TILE_STAT_STATE 0) = 1 := by decide +kernel

/-- Refutes O31: after the teardown of a cancelled load tile 0 is not EMPTY. -/
theorem not_codexLoadPhases : ¬ Obligations.CodexLoadPhases := by
  unfold Obligations.CodexLoadPhases
  intro h
  obtain ⟨hteardown, -⟩ := h strayLoads strayLoad rfl
  obtain ⟨u, hu, htiles, -⟩ := hteardown rfl rfl
  obtain rfl : loadTeardown strayLoads = u := by injection hu
  exact absurd (strayLoads_tile.symm.trans (htiles 0)) (by decide)

end Sys2Proof.Machine
end

section
/-! Four statements that leave out what else the state may hold: a section whose flip is still to be applied, a trim wider than its field,
a region test that waits for the scrub, and a handover that ends when bank 7 is retired. -/

namespace Sys2Proof.Machine

/-- A command in execution on a ring. -/
def standing : Exec :=
  { seq := 0, words := [0x00010006, 0], retried := false, committed := false, startFrame := 0, left := 0, result := 0, lost := false
    mask := 0, snap := [] }

/-- A group of one section of tile 0, staged in an earlier frame, with SETTLE 0. -/
def dueGroup : Group :=
  { ring := 0, seq := 0, settle := 0, at_ := none, staged := true, stagedAt := 1, words := [], secs := [(0, 0)] }

/-- That group is due, and the previous flip of its section asks for a settling of 5 ticks that no tick has begun. -/
def twiceFlipped : State :=
  (({ State.reset with groups := [dueGroup] }).setTile 0 { State.reset.tile 0 with applySettle := [(0, 5)] }).setRing 0
    { Ring.reset with exec := some standing }

theorem twiceFlipped_settle : mapFind ((coefGroupFlip 0 twiceFlipped).tile 0).applySettle 0 = some 5 := by decide

/-- Refutes O28: a section that flips twice before a tick settles for the longer of the two times. -/
theorem not_coefficientGroupsAndRouteCommands : ¬ Obligations.CoefficientGroupsAndRouteCommands := by
  unfold Obligations.CoefficientGroupsAndRouteCommands
  intro h
  obtain ⟨-, -, -, -, hflip⟩ := h.1 twiceFlipped 0
  obtain ⟨u, hu, -, -, -, hsettle, -⟩ := hflip dueGroup standing 0 0 (by decide) rfl (by decide) (by intro f hf; cases hf) rfl (by decide)
    (by decide) (by decide)
  obtain rfl : coefGroupFlip 0 twiceFlipped = u := by injection hu
  exact absurd (twiceFlipped_settle.symm.trans hsettle) (by decide)

/-- Ring 0 calibrates the stages' first channel, whose GAIN holds a value that its 24 bits cannot. -/
def wideGain : State :=
  { State.reset.setRing 0 { Ring.reset with exec := some standing } with
    regs := mapInsert State.reset.regs (Fld.key (CUR_CAL_VAL_GAIN 0x10)) (2 ^ 24)
    cals := [{ ring := some 0, all := false, todo := [0x10], saved := [] }] }

theorem wideGain_cut :
    (calInstall 0x10 0 0 wideGain).get (CUR_CAL_VAL_GAIN 0x10) = 0 ∧ wideGain.get (CUR_CAL_VAL_GAIN 0x10) = 2 ^ 24 := by
  decide

/-- Refutes O38: a GAIN of a stage that is wider than its field does not stay as it was. -/
theorem not_calibrationsRunAndInstall : ¬ Obligations.CalibrationsRunAndInstall := by
  unfold Obligations.CalibrationsRunAndInstall
  intro h
  obtain ⟨-, hinstall, -⟩ := h wideGain 0
  obtain ⟨hin, -⟩ := hinstall 0x10 standing 0 0 rfl (by decide) (by decide) (by intro ht; cases ht)
  obtain ⟨u, hu, -, hgain, -⟩ := hin (by decide) (Or.inl rfl)
  obtain rfl : calInstall 0x10 0 0 wideGain = u := by injection hu
  obtain ⟨hcut, hwide⟩ := wideGain_cut
  rw [hcut, if_pos (by decide), hwide] at hgain
  exact absurd hgain (by decide)

/-- The scrub is on and bank 0 is up, and a region of it waits for its test. -/
def testWaits : State :=
  { ((State.reset.put CUR_CTL_SCRUB_EN 1).put (MEM_BANK_STAT_STATE 0) 2).put MEM_CTL_TEST_EN 1 with testq := [(0, 0)] }

theorem testWaits_scrubs :
    testWaits.on CUR_CTL_SCRUB_EN = true ∧ testWaits.get PWR_STAT_STATE = 0 ∧ testWaits.bankUp (0 : EightIx).val = true ∧
      mapGet 0 testWaits.scrubBank (0 : EightIx).val = 0 ∧ testWaits.mark (bankAddr (0 : EightIx).val 0) = 0 ∧
      mapGet 0 testWaits.curUsed (0 : EightIx).val < testWaits.curCap := by decide

theorem testWaits_stays : mapGet 0 (scrubRead 0 0 0 testWaits).scrubBank 0 = 0 := by decide

/-- Refutes O40: the scrub of a bank does not read while a region of the bank waits for its test. -/
theorem not_curatorScrubsAndTelemetry : ¬ Obligations.CuratorScrubsAndTelemetry := by
  unfold Obligations.CuratorScrubsAndTelemetry
  intro h
  obtain ⟨-, hscrub, -⟩ := h testWaits
  obtain ⟨hen, hon, hup, hw, hmark, hcap⟩ := testWaits_scrubs
  have hread := hscrub 0 0 0
  rw [hw] at hread
  obtain ⟨u, hu, hnext, -⟩ := (hread hen hon hup (by decide) (by decide) (by decide) (by rw [hmark])).1 hcap
  obtain rfl : scrubRead 0 0 0 testWaits = u := by injection hu
  exact absurd (testWaits_stays.symm.trans hnext) (by decide)

/-- A BANK_TEST of bank 7 ends on ring 0, the bank's spares are used up, and a handover with its command on ring 0 runs. -/
def testedInHandover : State :=
  { (State.reset.put (MEM_BANK_STAT_SPARES 7) 8).setRing 0 { Ring.reset with exec := some standing } with
    tests := [(7, { region := 0, ring := some 0 })]
    wake := { Wake.reset with ho := some { ring := some 0, lanes := [], size := 0, base := 0, ctrl := 0, next := 0, wcount := 0, seamLeft := 0 } } }

theorem testedInHandover_ready :
    mapFind testedInHandover.tests (7 : EightIx).val = some { region := 0, ring := some 0 } ∧
      testedInHandover.bankWaiter (7 : EightIx).val = none ∧ 8 ≤ testedInHandover.get (MEM_BANK_STAT_SPARES (7 : EightIx).val) ∧
      testedInHandover.cplFull (0 : RingIx).val = false := by decide

theorem testedInHandover_lost :
    mapFind ((regionTestEnd 7 [0] testedInHandover).ring 0).hist 0 = some stArchiveLost := by decide

/-- Refutes O41: the handover that the retirement of bank 7 ends completes first, with ARCHIVE_LOST. -/
theorem not_banksReleaseTestAndRetire : ¬ Obligations.BanksReleaseTestAndRetire := by
  unfold Obligations.BanksReleaseTestAndRetire
  intro h
  obtain ⟨-, -, -, -, hend, -⟩ := h testedInHandover 7 0
  obtain ⟨htest, hwait, hspares, hcpl⟩ := testedInHandover_ready
  obtain ⟨-, -, -, hretire⟩ := hend [0] (some 0) htest hwait (by decide)
  obtain ⟨u, hu, ⟨-, -, -, hfinish⟩, -⟩ := hretire (by decide) hspares
  obtain rfl : regionTestEnd 7 [0] testedInHandover = u := by injection hu
  have hdone := hfinish 0 standing rfl (by decide)
  rw [Finishes, hcpl, if_neg (by decide)] at hdone
  exact absurd (testedInHandover_lost.symm.trans hdone.1) (by decide)

end Sys2Proof.Machine
end

section
/-! A converter that reports the end of a conversion of the TACH channel, which has none (R484), while another request of it waits. -/

namespace Sys2Proof.Machine

/-- The converter shows channel 3 in conversion, and a CONV of channel 3 waits. -/
def tachConverts : State :=
  { (State.reset.put HKA_STAT_BUSY 1).put HKA_STAT_CUR_CH 3 with hkaConv := [3], tachLast := some 5 }

theorem tachConverts_code : (hkaConversionDone 3 0 false tachConverts).get (HKA_RES_CODE 3) = 5 := by decide

/-- Refutes O39: the waiting request writes the period over the result of the conversion that ends. -/
theorem not_conversionsScansAndTach : ¬ Obligations.ConversionsScansAndTach := by
  unfold Obligations.ConversionsScansAndTach
  intro h
  obtain ⟨-, -, -, -, -, -, hdone, -⟩ := h tachConverts 3
  obtain ⟨u, hu, hcode, -⟩ := hdone 0 false (by decide) (by decide)
  obtain rfl : hkaConversionDone 3 0 false tachConverts = u := by injection hu
  exact absurd (tachConverts_code.symm.trans hcode) (by decide)

end Sys2Proof.Machine
end

section
/-! A freeze of the annals that ends while their buffer has no room for the NVS_LOST entry (R502). -/

namespace Sys2Proof.Machine

/-- Frozen, read-only annals with 255 buffered entries and a dropped occurrence. -/
def fullFreeze : State :=
  let e : Entry := { code := 1, sev := 0, tsel := false, tq := 0, rep := 0, bound := 0, time := 0, payload := 0 }
  { (State.reset.put NVS_STAT_FROZEN 1).put NVS_STAT_READ_ONLY 1 with
    annals := { State.reset.annals with buf := List.replicate 255 (0, e), drops := 1 } }

theorem fullFreeze_drops : (nvsFreezeTo fullFreeze).annals.drops = 1 := by decide +kernel

/-- Refutes O42: the entry that records the dropped occurrences is itself dropped, and counts again. -/
theorem not_annalsFlushAndFreeze : ¬ Obligations.AnnalsFlushAndFreeze := by
  unfold Obligations.AnnalsFlushAndFreeze
  intro h
  obtain ⟨-, -, -, -, -, -, -, -, -, hfreeze, -⟩ := h fullFreeze 0 []
  obtain ⟨u, hu, -, -, -, hlost, -⟩ := hfreeze (by decide)
  obtain rfl : nvsFreezeTo fullFreeze = u := by injection hu
  exact absurd (fullFreeze_drops.symm.trans (hlost (by decide)).2) (by decide)

end Sys2Proof.Machine
end

section
/-! A count of spare sectors that is wider than its field. -/

namespace Sys2Proof.Machine

/-- Sector 4 of the ring is FAILING, and SPARES_LEFT holds a value that its field cannot. -/
def wideSpares : State :=
  { State.reset with sectors := [(4, (4, 0, 2))], regs := mapInsert State.reset.regs (Fld.key NVS_STAT_SPARES_LEFT) (2 ^ 32 + 1) }

theorem wideSpares_failing :
    wideSpares.sectorsWhere (fun v => v.1 == 4) = [4] ∧ wideSpares.sector 4 = (4, 0, 2) ∧
      (wideSpares.sectorsWhere (fun v => v.1 == 3)).head? = some 64 ∧ wideSpares.get NVS_STAT_SPARES_LEFT = 2 ^ 32 + 1 := by
  decide

theorem wideSpares_cut : (sectorMove [] wideSpares).get NVS_STAT_SPARES_LEFT = 0 := by decide +kernel

/-- Refutes O43: the count that the move of a sector leaves is cut to its field. -/
theorem not_nvsReadsWritesClearsAndMoves : ¬ Obligations.NvsReadsWritesClearsAndMoves := by
  unfold Obligations.NvsReadsWritesClearsAndMoves
  intro h
  obtain ⟨-, hmove, -⟩ := h wideSpares
  obtain ⟨hfailing, hsector, hspare, hleft⟩ := wideSpares_failing
  obtain ⟨u, hu, -, -, hcount, -⟩ := hmove 4 64 0 (by decide) hfailing hsector hspare (by rw [hleft]; decide)
  obtain rfl : sectorMove [] wideSpares = u := by injection hu
  rw [wideSpares_cut, hleft] at hcount
  exact absurd hcount (by decide)

end Sys2Proof.Machine
end

section
/-! A longest stretch that is wider than its field. -/

namespace Sys2Proof.Machine

/-- Bank 0 is up, and STRETCH_MAX holds a value that its sixteen bits cannot. -/
def wideStretch : State :=
  let s := State.reset.put (MEM_BANK_STAT_STATE 0) 2
  { s with regs := mapInsert s.regs (Fld.key TWB_STAT_STRETCH_MAX) (2 ^ 16) }

theorem wideStretch_reads :
    wideStretch.busAlive = true ∧ wideStretch.reachable 0x400000 = true ∧ wideStretch.resetRefuses 0x400000 = false ∧
      wideStretch.groupWaits 0x400000 = false ∧ wideStretch.bankUp 0 = true ∧ wideStretch.get TWB_STAT_STRETCH_MAX = 2 ^ 16 := by
  decide

theorem wideStretch_cut : (hostBusRead 0x400000 0 wideStretch).get TWB_STAT_STRETCH_MAX = 0 := by decide

/-- Refutes O44: a read of a bank word cuts the longest stretch to its field. -/
theorem not_hostBusGroups : ¬ Obligations.HostBusGroups := by
  unfold Obligations.HostBusGroups
  intro h
  obtain ⟨-, -, -, -, -, -, -, -, -, -, hread, -⟩ := h wideStretch 0x400000 0 0
  obtain ⟨halive, hreach, hrefuses, hwaits, hup, hwide⟩ := wideStretch_reads
  obtain ⟨u, hu, -, -, hstretch, -⟩ :=
    hread ⟨halive, by decide, hreach, hrefuses, hwaits⟩ (by decide) (by decide) (by decide) hup (Or.inl (by decide))
  obtain rfl : hostBusRead 0x400000 0 wideStretch = u := by injection hu
  rw [wideStretch_cut, hwide] at hstretch
  exact absurd hstretch (by decide)

end Sys2Proof.Machine
end

section
/-! The end of a host transaction, the bus timeout, the alert response and a dormant unit's address (R386, R392, R394, R396, R397). -/

namespace Sys2Proof.Machine

variable {l : List Fld} {s t u : State} {addr n : Nat}

/-! ### An incomplete group (R386) -/

/-- The fields that an incomplete group of `n` bytes changes. -/
def partialFlds (n : Nat) : List Fld :=
  if (decide (1 ≤ n) && decide (n ≤ 7)) = true then [TWB_SUM_PARTIAL, TWB_CNT_PARTIALS] else []

theorem State.partialGroup_shown (s : State) (addr n : Nat) :
    let u := s.partialGroup addr n
    ((decide (1 ≤ n) && decide (n ≤ 7)) = true →
      u.get TWB_SUM_PARTIAL = 1 ∧ u.get TWB_CNT_PARTIALS = satNat 16 (s.get TWB_CNT_PARTIALS + 1) ∧ 0x0E01 ∈ u.occ) ∧
      (∀ f, fldIn eventFlds f = false → fldIn [TWB_SUM_PARTIAL, TWB_CNT_PARTIALS] f = false → u.get f = s.get f) ∧
      Quiet (partialFlds n) s u := by
  dsimp only
  unfold State.partialGroup partialFlds
  by_cases hn : 1 ≤ n ∧ n ≤ 7
  · have hd : (decide (1 ≤ n) && decide (n ≤ 7)) = true := by simpa using hn
    rw [if_pos hn, if_pos hd]
    have hq : Quiet [TWB_SUM_PARTIAL, TWB_CNT_PARTIALS] s
        (((s.put TWB_SUM_PARTIAL 1).bump TWB_CNT_PARTIALS).post 0x0E01 sevWarn (pack [p32 addr, p32 n])) :=
      Quiet.post (Quiet.bump (Quiet.put (.refl _ s) (by decide) _) (by decide)) _ _ _
    refine ⟨fun _ => ⟨?_, ?_, State.mem_occ_post _ _ _ (by decide)⟩, fun f he hf => hq.get hf he, hq⟩
    · simp (disch := decide) only [State.get_post, State.get_bump_ne, State.get_put_same]
      rfl
    · simp (disch := decide) only [State.get_post, State.get_bump_same, State.get_put_ne]
      rfl
  · have hd : ¬ (decide (1 ≤ n) && decide (n ≤ 7)) = true := by simpa using hn
    rw [if_neg hn, if_neg hd]
    exact ⟨fun h => absurd h hd, fun _ _ _ => rfl, .refl _ s⟩

theorem hostTransactionEnd_shown (s : State) (addr n : Nat) (hs : Bool) :
    let u := hostTransactionEnd addr n hs s
    u.get TWB_STAT_BUSY = 0 ∧ u.get TWB_STAT_HS = b2n (hs && s.on TWB_CFG_HS_EN) ∧ u.busSnap = none ∧
      ((decide (1 ≤ n) && decide (n ≤ 7)) = true →
        u.get TWB_SUM_PARTIAL = 1 ∧ u.get TWB_CNT_PARTIALS = satNat 16 (s.get TWB_CNT_PARTIALS + 1) ∧ 0x0E01 ∈ u.occ) ∧
      Quiet (TWB_STAT_BUSY :: TWB_STAT_HS :: partialFlds n) s u := by
  obtain ⟨hparts, -, hq⟩ := s.partialGroup_shown addr n
  unfold hostTransactionEnd
  dsimp only
  simp only [State.get_mk]
  refine ⟨?_, ?_, trivial, fun hn => ?_, Quiet.update (Quiet.put (Quiet.put (hq.of_subset ?_) (mem_fldIn (by simp)) _) (mem_fldIn (by simp)) _)⟩
  · rw [State.get_put_ne _ _ (by decide), State.get_put_same]
    rfl
  · rw [State.get_put_same]
    cases hs && s.on TWB_CFG_HS_EN <;> rfl
  · obtain ⟨h1, h2, h3⟩ := hparts hn
    exact ⟨by rw [State.get_put_ne _ _ (by decide), State.get_put_ne _ _ (by decide), h1],
      by rw [State.get_put_ne _ _ (by decide), State.get_put_ne _ _ (by decide), h2], h3⟩
  · exact fun f hf => List.mem_cons_of_mem _ (List.mem_cons_of_mem _ hf)

theorem twbTimeout_shown (s : State) (addr n : Nat) (sda : Bool) (hto : s.get TWB_CFG_TIMEOUT ≠ 0) :
    let u := twbTimeout addr n sda s
    u.get TWB_STAT_BUSY = 0 ∧ u.get TWB_SUM_TIMEOUT = 1 ∧ u.get TWB_CNT_TIMEOUTS = satNat 16 (s.get TWB_CNT_TIMEOUTS + 1) ∧
      0x0E02 ∈ u.occ ∧
      ((decide (1 ≤ n) && decide (n ≤ 7)) = true →
        u.get TWB_SUM_PARTIAL = 1 ∧ u.get TWB_CNT_PARTIALS = satNat 16 (s.get TWB_CNT_PARTIALS + 1) ∧ 0x0E01 ∈ u.occ) ∧
      Quiet (TWB_STAT_BUSY :: TWB_SUM_TIMEOUT :: TWB_CNT_TIMEOUTS :: partialFlds n) s u := by
  obtain ⟨hparts, hget, hq⟩ := s.partialGroup_shown addr n
  dsimp only
  rw [twbTimeout, if_neg hto]
  dsimp only
  generalize s.partialGroup addr n = t at *
  refine ⟨?_, ?_, ?_, State.mem_occ_post _ _ _ (by decide), fun hn => ?_, Quiet.post (Quiet.bump (Quiet.put (Quiet.update (Quiet.put
    (hq.of_subset ?_) (mem_fldIn (by simp)) _)) (mem_fldIn (by simp)) _) (mem_fldIn (by simp))) _ _ _⟩
  · simp (disch := decide) only [State.get_post, State.get_bump_ne, State.get_put_ne, State.get_mk, State.get_put_same]
    rfl
  · simp (disch := decide) only [State.get_post, State.get_bump_ne, State.get_put_same]
    rfl
  · simp (disch := decide) only [State.get_post, State.get_bump_same, State.get_put_ne, State.get_mk, hget]
    rfl
  · obtain ⟨h1, h2, h3⟩ := hparts hn
    refine ⟨?_, ?_, occ_subset_post rfl _ _ _ h3⟩
    · simp (disch := decide) only [State.get_post, State.get_bump_ne, State.get_put_ne, State.get_mk, h1]
    · simp (disch := decide) only [State.get_post, State.get_bump_ne, State.get_put_ne, State.get_mk, h2]
  · exact fun f hf => List.mem_cons_of_mem _ (List.mem_cons_of_mem _ (List.mem_cons_of_mem _ hf))

/-! ### The alert response (R396, R397) -/

theorem alertResponse_lost (h : s.unanswered ≠ 0) :
    let u := alertResponse false s
    u.busOut = [] ∧ u.alertN = s.alertN ∧ Quiet [] s u := by
  dsimp only
  rw [alertResponse, if_neg h, if_pos (by decide)]
  exact ⟨rfl, rfl, Quiet.update (.refl _ s)⟩

theorem bitOf_lor (a b i : Nat) : bitOf (a ||| b) i = (bitOf a i || bitOf b i) := by
  rw [bitOf_eq_testBit, bitOf_eq_testBit, bitOf_eq_testBit, Nat.testBit_lor]

theorem alertResponse_won (h : s.unanswered ≠ 0) :
    let u := alertResponse true s
    u.get TWB_STAT_ANSWERED = (s.get TWB_STAT_ANSWERED ||| s.get TWB_ALERT_STAT_SRC) % 32 ∧ u.busOut = [s.alertByte] ∧
      u.alertN = true ∧ SameBytes s u ∧ SameRegs [TWB_STAT_ANSWERED] s u := by
  dsimp only
  rw [alertResponse, if_neg h, if_neg (by decide)]
  have hans : (s.put TWB_STAT_ANSWERED (s.get TWB_STAT_ANSWERED ||| s.get TWB_ALERT_STAT_SRC)).get TWB_STAT_ANSWERED =
      (s.get TWB_STAT_ANSWERED ||| s.get TWB_ALERT_STAT_SRC) % 32 := State.get_put_same _ _ _
  refine ⟨hans, rfl, ?_, fun _ => ⟨rfl, rfl, rfl⟩, SameRegs.put (.refl _ s) (by decide) _⟩
  unfold State.alertN
  refine List.all_eq_true.2 fun i hi => ?_
  have hi := List.mem_range.1 hi
  simp only [State.bit, State.get_mk]
  rw [hans, State.get_put_ne _ _ (by decide), show (32 : Nat) = 2 ^ 5 from rfl, bitOf_mod _ hi, bitOf_lor]
  cases bitOf (s.get TWB_ALERT_STAT_SRC) i <;> simp

theorem b2n_lt_two (b : Bool) : b2n b < 2 := by cases b <;> decide

theorem State.alertByte_half (s : State) : s.alertByte / 2 = s.get TWB_STAT_ADDR := by
  have h := b2n_lt_two (bitOf s.unanswered 0 || (bitOf s.unanswered 2 && s.fwdFatal))
  unfold State.alertByte
  omega

theorem State.alertByte_parity (s : State) :
    s.alertByte % 2 = b2n (bitOf s.unanswered 0 || (bitOf s.unanswered 2 && s.fwdFatal)) := by
  have h := b2n_lt_two (bitOf s.unanswered 0 || (bitOf s.unanswered 2 && s.fwdFatal))
  unfold State.alertByte
  omega

/-! ### A dormant unit (R390, R394) -/

theorem dormantAddressMatch_shown {own : Bool} (hd : s.get PWR_STAT_STATE = 3) (hown : own = true ∨ s.unanswered ≠ 0) :
    let u := dormantAddressMatch own n s
    u.get TWB_STAT_BUSY = 1 ∧ u.dormBus = true ∧
      u.get TWB_STAT_STRETCH_MAX = max (s.get TWB_STAT_STRETCH_MAX) (satNat 16 n) % 2 ^ 16 ∧
      (own = true → s.on TWB_CFG_DORMANT_WAKE = true → s.wakeReq = none → u.wakeReq = some 3) ∧
      Quiet [TWB_STAT_BUSY, TWB_STAT_STRETCH_MAX] s u := by
  let t : State := { (s.put TWB_STAT_BUSY 1).peak TWB_STAT_STRETCH_MAX n with dormBus := true }
  have ht : dormantAddressMatch own n s = if own && s.on TWB_CFG_DORMANT_WAKE then t.wakeBy 3 else t := by
    rw [dormantAddressMatch, if_neg (by simp only [State.dormant, hd]; rcases hown with h | h <;> simp [h])]
    have hon : t.on TWB_CFG_DORMANT_WAKE = s.on TWB_CFG_DORMANT_WAKE := by
      simp (disch := decide) only [t, State.on, State.peak, State.get_mk, State.get_put_ne]
    rw [← hon]
  have hbusy : t.get TWB_STAT_BUSY = 1 := by
    simp (disch := decide) only [t, State.peak, State.get_mk, State.get_put_ne, State.get_put_same]
    rfl
  have hmax : t.get TWB_STAT_STRETCH_MAX = max (s.get TWB_STAT_STRETCH_MAX) (satNat 16 n) % 2 ^ 16 := by
    simp (disch := decide) only [t, State.peak, State.get_mk, State.get_put_ne, State.get_put_same]
    rfl
  have hstate : t.get PWR_STAT_STATE = 3 := by
    simp (disch := decide) only [t, State.peak, State.get_mk, State.get_put_ne, hd]
  have hq : Quiet [TWB_STAT_BUSY, TWB_STAT_STRETCH_MAX] s t :=
    Quiet.update (Quiet.put (Quiet.put (.refl _ s) (by decide) _) (by decide) _)
  have hreq : t.wakeReq = s.wakeReq := rfl
  have hdorm : t.dormBus = true := rfl
  dsimp only
  rw [ht]
  clear_value t
  by_cases hw : (own && s.on TWB_CFG_DORMANT_WAKE) = true
  · obtain ⟨w, hwake⟩ := t.wakeBy_eq 3
    refine ⟨?_, ?_, ?_, fun _ _ hnone => ?_, ?_⟩
    all_goals rw [if_pos hw]
    · rw [hwake, State.get_mk, hbusy]
    · rw [hwake, hdorm]
    · rw [hwake, State.get_mk, hmax]
    · simp [State.wakeBy, hstate, hreq, hnone]
    · exact Quiet.wakeBy hq 3
  · rw [if_neg hw]
    refine ⟨hbusy, hdorm, hmax, fun h1 h2 => absurd (by rw [h1, h2]; rfl) hw, hq⟩

/-- Settles O45: each clause is what the command's two or three register writes leave. -/
theorem hostBusEndsAlertsAndWakes : Obligations.HostBusEndsAlertsAndWakes := by
  unfold Obligations.HostBusEndsAlertsAndWakes
  intro s addr n flag
  refine ⟨?_, fun h => ?_, fun h => ?_, fun h => ?_, fun h => ?_, fun h => ?_, fun hd h => ?_, fun h => ?_, fun hd hb hw => ?_, fun h => ?_⟩
  · exact ⟨_, rfl, hostTransactionEnd_shown s addr n flag⟩
  · exact ⟨_, rfl, by rw [Unmoved, twbTimeout, if_pos h]⟩
  · exact ⟨_, rfl, twbTimeout_shown s addr n flag h⟩
  · exact ⟨_, rfl, by rw [Unmoved, alertResponse, if_pos h]⟩
  · obtain ⟨hans, hout, hn, hbytes, hregs⟩ := alertResponse_won h
    refine ⟨_, rfl, hans, by rw [hout]; simp [State.alertByte_half], fun h0 => ?_, fun h0 h2 => ?_, fun _ => hn, hbytes, hregs⟩
    · rw [hout, List.map_singleton, State.alertByte_parity, h0]
      rfl
    · have h0' : bitOf s.unanswered 0 = false := by
        unfold bitOf
        simpa using h0
      rw [hout, List.map_singleton, State.alertByte_parity, h0', h2]
      rfl
  · exact ⟨_, rfl, alertResponse_lost h⟩
  · exact ⟨_, rfl, dormantAddressMatch_shown hd h⟩
  · refine ⟨_, rfl, ?_⟩
    rw [Unmoved, dormantAddressMatch, if_pos]
    rcases h with h | ⟨hf, hu⟩
    · left
      simpa [State.dormant] using h
    · right
      simp [hf, hu]
  · refine ⟨_, rfl, ?_⟩
    have hgo : s.dormant = true ∧ ¬ s.on TWB_STAT_BUSY = true ∧ (¬ s.on TWB_CFG_DORMANT_WAKE = true ∨ s.wakeReq.isNone = true) := by
      refine ⟨by simp [State.dormant, hd], by simp [hb], ?_⟩
      rcases hw with hw | hw
      · left
        simp [hw]
      · right
        simp [hw]
    rw [returnToDormant, if_pos hgo]
    exact ⟨rfl, Quiet.update (.refl _ s)⟩
  · refine ⟨_, rfl, ?_⟩
    rw [Unmoved, returnToDormant, if_neg]
    rintro ⟨hd, hb, hw⟩
    rcases h with h | h | ⟨h1, h2⟩
    · exact h (by simpa [State.dormant] using hd)
    · exact hb h
    · rcases hw with hw | hw
      · exact hw h1
      · exact h2 (by simpa using hw)

end Sys2Proof.Machine
end

section
/-! Host writes to the fabric's memories, write-backs, parameters, and STOP and RESTART of a tile (R48, R49, R70 to R73, R534). -/

namespace Sys2Proof.Machine

variable {l : List Fld} {s t u : State} {a : Nat} {v : Word}

/-! ### Writes of configuration memory and state RAM -/

@[simp] theorem State.rewarn_regs (s : State) (a : Nat) : (s.rewarn a).regs = s.regs := by unfold State.rewarn; dsimp only; split <;> rfl

@[simp] theorem State.rewarn_mem (s : State) (a : Nat) : (s.rewarn a).mem = s.mem := by unfold State.rewarn; dsimp only; split <;> rfl

theorem State.get_rewarn (s : State) (a : Nat) (f : Fld) : (s.rewarn a).get f = s.get f := State.get_congr (s.rewarn_regs a) f

/-- What a whole-word write changes of the registers. -/
theorem State.memPut_sameRegs (s : State) (a : Nat) (v : Word) : SameRegs [CUR_CNT_WB_CANCEL] s (s.memPut a v) :=
  fun _ hf => State.get_memPut s a v (fun h => (fldIn_cons_eq_false.1 hf).1 h.symm)

theorem configWrite_stored (hlo : a < 0x400000) (ha : a % 8 = 0) (hl : s.loadCovers (a / 0x1000) = false)
    (hw : 0x600 ≤ a % 0x1000 ∨ s.get (FAB_TILE_STAT_STATE (a / 0x1000)) ≠ 2) :
    let u := configWrite a v s
    (u.memWord a = v ∧ SameOutside a s u) ∧ u.get SYS_BOOT_MODIFIED = 1 ∧
      SameRegs [SYS_BOOT_MODIFIED, CUR_CNT_WB_CANCEL] s u := by
  dsimp only
  have htile : (s.put SYS_BOOT_MODIFIED 1).tileState (a / 0x1000) = s.get (FAB_TILE_STAT_STATE (a / 0x1000)) :=
    State.get_put_ne _ _ (by simp only [Fld.key, FAB_TILE_STAT_STATE, SYS_BOOT_MODIFIED]; omega)
  have hnow : ¬ (a % 0x1000 < 0x600 ∧ (s.put SYS_BOOT_MODIFIED 1).tileState (a / 0x1000) = 2) := by
    rw [htile]
    rintro ⟨h1, h2⟩
    rcases hw with hw | hw
    · exact absurd h1 (Nat.not_lt.2 hw)
    · exact hw h2
  rw [configWrite, if_neg (by omega)]
  dsimp only
  rw [if_neg (by rw [hl]; decide), if_neg hnow]
  refine ⟨⟨?_, fun b hb => ?_⟩, ?_, fun f hf => ?_⟩
  · rw [State.memWord, State.rewarn_mem]
    exact State.memWord_memPut_same _ a v
  · rw [State.memByte, State.rewarn_mem]
    exact State.memPut_sameOutside _ a v b hb
  · rw [State.get_rewarn, State.get_memPut _ _ _ (by decide), State.get_put_same]
    rfl
  · obtain ⟨h1, h2⟩ := fldIn_cons_eq_false.1 hf
    rw [State.get_rewarn, State.memPut_sameRegs _ _ _ _ h2, State.get_put_ne _ _ h1.symm]

theorem configWrite_late (hlo : a < 0x400000) (ha : a % 8 = 0) (hl : s.loadCovers (a / 0x1000) = false) (ho : a % 0x1000 < 0x600)
    (hrun : s.get (FAB_TILE_STAT_STATE (a / 0x1000)) = 2) :
    let u := configWrite a v s
    (u.tile (a / 0x1000)).late = (s.tile (a / 0x1000)).late ++ [(a, v)] ∧ u.get SYS_BOOT_MODIFIED = 1 ∧
      Quiet [SYS_BOOT_MODIFIED] s u := by
  dsimp only
  have htile : (s.put SYS_BOOT_MODIFIED 1).tileState (a / 0x1000) = 2 :=
    (State.get_put_ne _ _ (by simp only [Fld.key, FAB_TILE_STAT_STATE, SYS_BOOT_MODIFIED]; omega)).trans hrun
  rw [configWrite, if_neg (by omega)]
  dsimp only
  rw [if_neg (by rw [hl]; decide), if_pos ⟨ho, htile⟩]
  refine ⟨?_, ?_, Quiet.other (Quiet.put (f := SYS_BOOT_MODIFIED) (.refl _ s) (by decide) 1) rfl rfl rfl rfl⟩
  · rw [State.tile_setTile_same]
    rfl
  · rw [State.get_setTile, State.get_put_same]
    rfl

theorem eccWriteBack_shown (ha : a < 0x400000 ∨ (0xC00000 ≤ a ∧ a < 0xE00000)) (hwb : mapGet 0 s.wb (a / 8) = 1) (hm : s.mark a = 1) :
    let u := eccWriteBack a s
    u.mark a = 0 ∧ mapGet 0 u.wb (a / 8) = 0 ∧ Quiet [] s u := by
  dsimp only
  rw [eccWriteBack, if_pos ha, State.landWb, if_pos hwb, if_pos (by exact hm)]
  exact ⟨mapGet_erase_same _ _ _, mapGet_erase_same _ _ _, Quiet.update (.refl _ s)⟩

/-! ### Parameters (R72, R73) -/

theorem fabParamWr_queued {w : Nat} (hl : s.loadCovers (bits w 0 10) = false) (hq : (s.shelfQueue (bits w 0 10 / 64)).length < 64) :
    let u := fabParamWr w s
    let h := bits w 0 10 / 64
    u.shelfQueue h = s.shelfQueue h ++ [{ tile := bits w 0 10, idx := bits w 16 4, val := BitVec.ofNat 64 (s.get FAB_PARAM_DATA_DATA)
                                          cmd := none }] ∧
      u.get (FAB_PARAM_LVL_LEVEL h) = (s.shelfQueue h).length + 1 ∧ Quiet [FAB_PARAM_LVL_LEVEL h] s u := by
  dsimp only
  unfold fabParamWr
  dsimp only
  rw [if_neg (by rw [hl]; simpa using hq)]
  refine ⟨mapGet_set_same _ _ _ _, ?_, Quiet.update (Quiet.put (.refl _ s) (mem_fldIn (by simp)) _)⟩
  unfold State.setShelfQueue
  rw [State.get_mk, State.get_put_of_lt _ (by simp only [List.length_append, List.length_singleton, FAB_PARAM_LVL_LEVEL]; omega)]
  simp

theorem fabParamWr_dropped {w : Nat} (hq : 64 ≤ (s.shelfQueue (bits w 0 10 / 64)).length) :
    let u := fabParamWr w s
    u.bit FAB_PARAM_DROP_SHELF_DROP (bits w 0 10 / 64) = true ∧ 0x0404 ∈ u.occ ∧ u.paramq = s.paramq ∧
      Quiet [FAB_PARAM_DROP_SHELF_DROP] s u := by
  have hshelf : bits w 0 10 / 64 < 16 := by
    have := bits_lt w 0 10
    omega
  dsimp only
  unfold fabParamWr State.paramDrop
  dsimp only
  rw [if_pos (Or.inr hq)]
  refine ⟨?_, State.mem_occ_post _ _ _ (by decide), ?_, Quiet.post (Quiet.setBit (.refl _ s) (by decide) _) _ _ _⟩
  · rw [State.bit, State.get_post (by decide)]
    exact State.bit_setBit_same _ hshelf
  · rw [State.post_paramq]
    rfl

/-! ### STOP and RESTART (R70) -/

theorem stopCmd_running {n : Nat} (h : s.get (FAB_TILE_STAT_STATE n) = 2) :
    let u := stopCmd n s
    (u.tile n).stopReq = true ∧ (∀ k : Nat, k ≠ n → u.tile k = s.tile k) ∧ Quiet [] s u := by
  have hu : stopCmd n s = s.setTile n { s.tile n with stopReq := true } := by
    simp only [stopCmd, State.tileState, h]
  dsimp only
  rw [hu]
  exact ⟨by rw [State.tile_setTile_same], fun k hk => State.tile_setTile_ne s _ hk, Quiet.other (.refl _ s) rfl rfl rfl rfl⟩

theorem stopCmd_ready {n : Nat} (h : s.get (FAB_TILE_STAT_STATE n) = 1) :
    let u := stopCmd n s
    u.get (FAB_TILE_STAT_STATE n) = 3 ∧ u.get (FAB_TILE_STAT_STOP_REASON n) = 5 ∧ SameBytes s u := by
  have hu : stopCmd n s = s.stopTile n 5 (s.tile n).pc := by
    simp only [stopCmd, State.tileState, h]
  dsimp only
  rw [hu]
  refine ⟨State.tileState_stopTile _ _ _ _, ?_, ?_⟩
  · unfold State.stopTile
    dsimp only
    rw [if_pos rfl, State.get_setTile, State.get_put_same]
    rfl
  · unfold State.stopTile
    exact fun _ => ⟨rfl, rfl, rfl⟩

/-- The registers of a tile that RESTART readies. -/
def State.restarted (s : State) (n : Nat) : State :=
  ((s.put (FAB_TILE_STAT_STATE n) 1).put (FAB_TILE_STAT_OVR_CONSEC n) 0).put (FAB_TILE_STAT_STOP_REASON n) 0

theorem State.restarted_shown (s : State) (n : Nat) :
    let u := s.restarted n
    u.get (FAB_TILE_STAT_STATE n) = 1 ∧ u.get (FAB_TILE_STAT_OVR_CONSEC n) = 0 ∧ u.get (FAB_TILE_STAT_STOP_REASON n) = 0 ∧
      Quiet [FAB_TILE_STAT_STATE n, FAB_TILE_STAT_OVR_CONSEC n, FAB_TILE_STAT_STOP_REASON n] s u := by
  dsimp only
  unfold State.restarted
  refine ⟨?_, ?_, ?_, Quiet.put (Quiet.put (Quiet.put (.refl _ s) (mem_fldIn (by simp)) _) (mem_fldIn (by simp)) _) (mem_fldIn (by simp)) _⟩
  all_goals
    simp (disch := (simp only [Fld.key, FAB_TILE_STAT_STATE, FAB_TILE_STAT_OVR_CONSEC, FAB_TILE_STAT_STOP_REASON]; omega)) only
      [State.get_put_ne, State.get_put_same]
    rfl

theorem restartCmd_shown {n : Nat} (h : s.get (FAB_TILE_STAT_STATE n) = 3) :
    let u := restartCmd n s
    u.get (FAB_TILE_STAT_STATE n) = 1 ∧ u.get (FAB_TILE_STAT_OVR_CONSEC n) = 0 ∧ u.get (FAB_TILE_STAT_STOP_REASON n) = 0 ∧
      (u.tile n).warned = 0 ∧ 0x0405 ∈ u.occ ∧
      Quiet [FAB_TILE_STAT_STATE n, FAB_TILE_STAT_OVR_CONSEC n, FAB_TILE_STAT_STOP_REASON n] s u := by
  obtain ⟨h1, h2, h3, hq⟩ := s.restarted_shown n
  have hu : restartCmd n s = (((s.restarted n).setTile n { (s.restarted n).tile n with warned := 0 }).post 0x0405 sevInfo (pack [p16 n])) := by
    rw [restartCmd, State.tileState, if_neg (by rw [h]; decide)]
    rfl
  dsimp only
  rw [hu]
  generalize s.restarted n = w at *
  have hset (x : Tile) : Quiet [FAB_TILE_STAT_STATE n, FAB_TILE_STAT_OVR_CONSEC n, FAB_TILE_STAT_STOP_REASON n] s (w.setTile n x) :=
    hq.other rfl rfl rfl rfl
  have hev {f : Fld} (ha : f.addr = 0xE04028 + 0x1000000 * n) (hlo : f.lo < 64) (x : Tile) :
      ((w.setTile n x).post 0x0405 sevInfo (pack [p16 n])).get f = w.get f := by
    rw [State.get_post (fldIn_eventFlds_tileStat n ha hlo), State.get_setTile]
  refine ⟨?_, ?_, ?_, ?_, State.mem_occ_post _ _ _ (by decide), Quiet.post (hset _) _ _ _⟩
  · rw [hev rfl (by simp [FAB_TILE_STAT_STATE]), h1]
  · rw [hev rfl (by simp [FAB_TILE_STAT_OVR_CONSEC]), h2]
  · rw [hev rfl (by simp [FAB_TILE_STAT_STOP_REASON]), h3]
  · rw [State.tile_post, State.tile_setTile_same]

/-- Settles O37: each write, landing, parameter and tile command by its own equation. -/
theorem fabricMemoryWrites : Obligations.FabricMemoryWrites := by
  unfold Obligations.FabricMemoryWrites
  intro s a v
  refine ⟨fun h1 h2 h3 h4 => ⟨_, rfl, configWrite_stored h1 h2 h3 h4⟩, fun h1 h2 h3 h4 h5 => ⟨_, rfl, configWrite_late h1 h2 h3 h4 h5⟩,
    fun h1 h2 h3 h4 => ⟨_, rfl, ?_⟩, fun h1 h2 h3 => ⟨_, rfl, eccWriteBack_shown h1 h2 h3⟩,
    fun h1 h2 => ⟨_, rfl, fabParamWr_queued h1 h2⟩, fun _ h2 => ⟨_, rfl, fabParamWr_dropped h2⟩,
    fun h => ⟨_, rfl, stopCmd_running h⟩, fun h => ⟨_, rfl, stopCmd_ready h⟩, fun h => ⟨_, rfl, restartCmd_shown h⟩⟩
  rw [stateRamWrite_eq_memPut v h1 h2 h3 h4]
  exact ⟨⟨State.memWord_memPut_same s a v, State.memPut_sameOutside s a v⟩, State.memPut_sameRegs s a v⟩

end Sys2Proof.Machine
end

section
/-! The sending side of the tunnel: register access, its timeout, and units sent again (R335, R339). -/

namespace Sys2Proof.Machine

variable {l : List Fld} {s t u : State} {k n : Nat}

/-! ### A unit that leaves at once (R335) -/

theorem Quiet.setChain (h : Quiet l s t) (f : Chain → Chain) : Quiet l s (t.setChain f) := h.other rfl rfl rfl rfl

@[simp] theorem State.get_setChain (s : State) (f : Chain → Chain) (g : Fld) : (s.setChain f).get g = s.get g := rfl

theorem State.txFill_of_empty (h : mapGet [] s.chain.sendq k = []) (n : Nat) : s.txFill k n = s := by
  cases n with
  | zero => rfl
  | succ n => simp only [State.txFill, h]

/-- The tunnel's queues once unit `x` has left for partner `k`, whose queue had been empty. -/
def Chain.sent (c : Chain) (k frame : Nat) (x : TunUnit) : Chain :=
  let q := mapGet [] c.replay k
  let seq := mapGet 0 c.txSeq k
  let y : TunUnit := { x with hdr := withSeq x.hdr seq }
  { c with sendq := mapSet [] (mapSet [] c.sendq k [x]) k [], replay := mapSet [] c.replay k (q ++ [y]), outbox := c.outbox ++ [y]
           txSeq := mapSet 0 c.txSeq k ((seq + 1) % 65536)
           ackFrame := if q.isEmpty then mapSet 0 c.ackFrame k frame else c.ackFrame }

theorem State.txUnit_eq_sent {x : TunUnit} (hk : s.tunKey (tunUnit x.hdr) = k) (hfree : TunnelFree s k) :
    s.txUnit x = s.setChain (fun c => c.sent k s.frame x) := by
  obtain ⟨hq, hroom⟩ := hfree
  have hempty : mapGet [] (s.setChain (fun c => c.sent k s.frame x)).chain.sendq k = [] :=
    mapGet_set_same [] (mapSet [] s.chain.sendq k [x]) k []
  unfold State.txUnit
  rw [hk]
  dsimp only [State.setChain]
  rw [hq, List.nil_append, State.txFill]
  simp only [State.setChain, mapGet_set_same]
  rw [if_neg (Nat.not_le.2 hroom)]
  exact State.txFill_of_empty hempty 63

theorem State.sends_sent {x : TunUnit} : Sends k x s (s.setChain (fun c => c.sent k s.frame x)) :=
  ⟨rfl, mapGet_set_same _ _ _ _, mapGet_set_same _ _ _ _⟩

theorem tunUnit_tunHdr {v type addr ring word nw status : Nat} (hv : v < 16) : tunUnit (tunHdr v type addr ring word nw status) = v := by
  simp only [tunHdr, tunUnit, bits, Nat.shiftRight_eq_div_pow]
  omega

/-! ### Register access through the tunnel (R339) -/

theorem chnTunGo_sends {v : Nat} (hv : s.get CHN_TUN_ADDR_UNIT = v) (hhead : s.isHead = true) (hbusy : s.on CHN_TUN_STAT_BUSY = false)
    (h0 : v ≠ 0) (h16 : v < 16) (hp : s.bit CHN_STAT_PRESENT v = true) (hfree : TunnelFree s v) (hseq : mapGet 0 s.chain.txSeq v < 65536) :
    let u := chnTunGo s
    u.get CHN_TUN_STAT_BUSY = 1 ∧ u.get CHN_TUN_STAT_SEQ = mapGet 0 s.chain.txSeq v ∧
      u.chain.access = some (v, mapGet 0 s.chain.txSeq v, b2n !s.on CHN_TUN_ADDR_OP, s.frame) ∧
      Sends v { hdr := tunHdr v (if s.on CHN_TUN_ADDR_OP then 1 else 2) (s.get CHN_TUN_ADDR_ADDR) 0 0 0 0
                data := [if s.on CHN_TUN_ADDR_OP then s.get CHN_TUN_WDATA_DATA else 0] } s u ∧
      Quiet [CHN_TUN_STAT_BUSY, CHN_TUN_STAT_SEQ] s u := by
  have hnum : (mapGet 0 s.chain.txSeq v + (mapGet [] s.chain.sendq v).length) % 65536 = mapGet 0 s.chain.txSeq v := by
    rw [hfree.1]
    exact Nat.mod_eq_of_lt hseq
  dsimp only
  unfold chnTunGo
  dsimp only
  rw [hv, if_neg (by rw [hhead]; decide), if_neg (by rw [hbusy]; decide), if_neg (by rw [hp]; simpa using h0), hnum]
  generalize hn : mapGet 0 s.chain.txSeq v = q at *
  have hwd : ((s.put CHN_TUN_STAT_BUSY 1).put CHN_TUN_STAT_SEQ q).get CHN_TUN_WDATA_DATA = s.get CHN_TUN_WDATA_DATA := by
    rw [State.get_put_ne _ _ (by decide), State.get_put_ne _ _ (by decide)]
  have hbusy' : ((s.put CHN_TUN_STAT_BUSY 1).put CHN_TUN_STAT_SEQ q).get CHN_TUN_STAT_BUSY = 1 := by
    rw [State.get_put_ne _ _ (by decide), State.get_put_same]
    rfl
  have hseq' : ((s.put CHN_TUN_STAT_BUSY 1).put CHN_TUN_STAT_SEQ q).get CHN_TUN_STAT_SEQ = q := State.get_put_of_lt _ hseq
  have hq : Quiet [CHN_TUN_STAT_BUSY, CHN_TUN_STAT_SEQ] s ((s.put CHN_TUN_STAT_BUSY 1).put CHN_TUN_STAT_SEQ q) :=
    Quiet.put (Quiet.put (.refl _ s) (by decide) _) (by decide) _
  have hchain : ((s.put CHN_TUN_STAT_BUSY 1).put CHN_TUN_STAT_SEQ q).chain = s.chain := rfl
  have hframe : ((s.put CHN_TUN_STAT_BUSY 1).put CHN_TUN_STAT_SEQ q).frame = s.frame := rfl
  have hkey : ((s.put CHN_TUN_STAT_BUSY 1).put CHN_TUN_STAT_SEQ q).isHead = true := hhead
  rw [State.get_setChain, hwd]
  generalize (s.put CHN_TUN_STAT_BUSY 1).put CHN_TUN_STAT_SEQ q = t at *
  rw [State.txUnit_eq_sent (k := v)]
  · refine ⟨hbusy', hseq', by rw [← hframe]; rfl, ?_, (hq.setChain _).setChain _⟩
    unfold Sends
    rw [← hchain]
    exact State.sends_sent
  · rw [State.tunKey, show (State.setChain t _).isHead = true from hkey, if_pos rfl, tunUnit_tunHdr h16]
  · unfold TunnelFree at hfree ⊢
    rw [← hchain] at hfree
    exact hfree

theorem chnTunGo_refuses {v : Nat} (hv : s.get CHN_TUN_ADDR_UNIT = v) (hhead : s.isHead = true) (hbusy : s.on CHN_TUN_STAT_BUSY = false)
    (h : v = 0 ∨ s.bit CHN_STAT_PRESENT v = false) :
    let u := chnTunGo s
    u.get CHN_TUN_STAT_STATUS = stBadArg ∧ Quiet [CHN_TUN_STAT_STATUS] s u := by
  dsimp only
  unfold chnTunGo
  dsimp only
  rw [hv, if_neg (by rw [hhead]; decide), if_neg (by rw [hbusy]; decide), if_pos (by simpa using h)]
  exact ⟨State.get_put_same _ _ _, Quiet.put (.refl _ s) (by decide) _⟩

theorem State.accessEnd_shown (s : State) {st : Nat} (hst : st < 256) :
    let u := s.accessEnd st
    u.get CHN_TUN_STAT_BUSY = 0 ∧ u.get CHN_TUN_STAT_STATUS = st ∧ u.chain.access = none ∧ u.chain.replay = s.chain.replay ∧
      Quiet [CHN_TUN_STAT_BUSY, CHN_TUN_STAT_STATUS] s u := by
  refine ⟨?_, ?_, rfl, rfl, (Quiet.put (Quiet.put (.refl _ s) (by decide) _) (by decide) _).setChain _⟩
  · rw [State.accessEnd, State.get_setChain, State.get_put_ne _ _ (by decide), State.get_put_same]
    rfl
  · rw [State.accessEnd, State.get_setChain, State.get_put_of_lt _ hst]

theorem chnTunTimeout_ends {w seq rd f : Nat} (ha : s.chain.access = some (w, seq, rd, f))
    (hd : s.framesOfMs (max 1 (s.get CHN_CTL_TUN_TO)) ≤ s.frameAgo f) :
    let u := chnTunTimeout s
    u.get CHN_TUN_STAT_BUSY = 0 ∧ u.get CHN_TUN_STAT_STATUS = stTimeout ∧ u.chain.access = none ∧ 0x0D0B ∈ u.occ ∧
      u.chain.replay = s.chain.replay ∧ Quiet [CHN_TUN_STAT_BUSY, CHN_TUN_STAT_STATUS] s u := by
  obtain ⟨h1, h2, h3, h4, hq⟩ := s.accessEnd_shown (st := stTimeout) (by decide)
  dsimp only
  unfold chnTunTimeout
  rw [ha]
  dsimp only
  rw [if_pos hd]
  generalize s.accessEnd stTimeout = t at *
  refine ⟨?_, ?_, ?_, State.mem_occ_post _ _ _ (by decide), ?_, hq.post _ _ _⟩
  · rw [State.get_post (by decide), h1]
  · rw [State.get_post (by decide), h2]
  · rw [(t.post_eventOnly _ _ _).chain]
    exact h3
  · rw [(t.post_eventOnly _ _ _).chain]
    exact h4

/-! ### Units sent again (R335) -/

theorem State.resend_shown (s : State) (k : Nat) :
    let u := s.resend k
    u.chain.outbox = s.chain.outbox ++ mapGet [] s.chain.replay k ∧ u.chain.replay = s.chain.replay ∧
      mapGet 0 u.chain.ackFrame k = s.frame ∧ Quiet [] s u :=
  ⟨rfl, rfl, mapGet_set_same _ _ _ _, (Quiet.refl _ s).setChain _⟩

theorem tunnelResend_eq {w p : Nat} (hkey : s.tunKey w = k)
    (hp : (if s.isHead then s.unitPos w else s.get CHN_STAT_POS) = p) (hr : mapGet [] s.chain.replay k ≠ [])
    (hd : 2 * p + 8 ≤ s.frameAgo (mapGet 0 s.chain.ackFrame k)) : tunnelResend w s = s.resend k := by
  unfold tunnelResend
  dsimp only
  rw [hkey, hp, if_neg]
  rw [List.isEmpty_iff]
  exact not_or.2 ⟨hr, Nat.not_lt.2 hd⟩

/-- Settles O24: the partner's queue is empty, so a unit leaves at once (`State.txUnit_eq_sent`). -/
theorem tunnelAccessAndReplay : Obligations.TunnelAccessAndReplay := by
  unfold Obligations.TunnelAccessAndReplay
  intro s
  refine ⟨fun h1 h2 h3 h4 h5 h6 h7 => ⟨_, rfl, chnTunGo_sends rfl h1 h2 h3 h4 h5 h6 h7⟩,
    fun h1 h2 h3 => ⟨_, rfl, chnTunGo_refuses rfl h1 h2 h3⟩, fun w seq rd f h1 h2 => ⟨_, rfl, chnTunTimeout_ends h1 h2⟩,
    fun w h1 h2 h3 => ⟨_, rfl, ?_⟩, fun w h1 h2 h3 => ⟨_, rfl, ?_⟩⟩
  · rw [tunnelResend_eq (k := w) (by rw [State.tunKey, if_pos h1]) (if_pos h1) h2 h3]
    exact s.resend_shown w
  · rw [tunnelResend_eq (k := 0) (by rw [State.tunKey, h1]; rfl) (by rw [h1]; rfl) h2 h3]
    obtain ⟨hout, hrep, -, hq⟩ := s.resend_shown 0
    exact ⟨hout, hrep, hq⟩

end Sys2Proof.Machine
end

section
/-! Lend chunks at a satellite, and a satellite's messages about its lend at the head (R174 to R177, R342, R343). -/

namespace Sys2Proof.Machine

variable {l : List Fld} {s t u : State} {hdr v n : Nat} {ws : List Nat} {scope : LendScope}

/-! ### Chunks for this satellite (R343) -/

/-- The hypotheses of a chunk with words for this satellite. -/
structure ChunkForMe (s : State) (hdr : Nat) : Prop where
  sat : s.isHead = false
  valid : s.on CHN_STAT_ADDR_VALID = true
  own : bits hdr 0 4 = s.get CHN_STAT_ADDR

theorem ChunkForMe.of_mine (h : s.isHead = false)
    (hm : (decide (bits hdr 0 4 = s.get CHN_STAT_ADDR) && s.on CHN_STAT_ADDR_VALID) = true) : ChunkForMe s hdr := by
  rw [Bool.and_eq_true, decide_eq_true_iff] at hm
  exact ⟨h, hm.2, hm.1⟩

theorem lendChunk_mine (h : ChunkForMe s hdr) : lendChunk hdr ws scope s =
    let w := ws.take (bits hdr 8 8)
    if w = [] then s.farLoadStop (bitOf hdr 4)
    else if bitOf hdr 4 ∧ bits hdr 16 24 = 0 then s.lendFirst w scope
    else if s.load.isSome ∧ bits hdr 16 24 = s.lendIn.length then { s with lendIn := s.lendIn ++ w }
    else if s.lendIn.length < bits hdr 16 24 then { s with lendMsgs := s.lendMsgs ++ [.nak s.lendIn.length] }
    else s := by
  unfold lendChunk
  dsimp only
  rw [if_neg (by rw [h.sat, h.valid]; decide), if_neg (by rw [State.ownAddr, h.own]; exact fun k => k rfl)]

theorem lendChunk_first (h : ChunkForMe s hdr) (hf : bitOf hdr 4 = true) (ho : bits hdr 16 24 = 0) (hw : ws.take (bits hdr 8 8) ≠ [])
    (hl : s.load = none) :
    let u := lendChunk hdr ws scope s
    let w := ws.take (bits hdr 8 8)
    u.lendIn = w ∧ u.load.map (fun l => (l.kind, l.edition, l.minPl)) =
        some ((scopeKind scope).1, bits (w.headD 0) 32 32, bits (w.getD 1 0) 34 2) ∧
      u.load.map Load.phase = some (if (scopeKind scope).1 = 0 then .teardown else .scan) ∧ Quiet [] s u := by
  dsimp only
  rw [lendChunk_mine h]
  dsimp only
  rw [if_neg hw, if_pos ⟨hf, ho⟩]
  unfold State.lendFirst
  dsimp only
  rw [hl]
  exact ⟨rfl, rfl, rfl, Quiet.update (.refl _ s)⟩

theorem lendChunk_next (h : ChunkForMe s hdr) (hf : bitOf hdr 4 = false) (hl : s.load.isSome = true)
    (ho : bits hdr 16 24 = s.lendIn.length) (hw : ws.take (bits hdr 8 8) ≠ []) :
    lendChunk hdr ws scope s = { s with lendIn := s.lendIn ++ ws.take (bits hdr 8 8) } := by
  rw [lendChunk_mine h]
  dsimp only
  rw [if_neg hw, if_neg (by rw [hf]; simp), if_pos ⟨hl, ho⟩]

theorem lendChunk_gap (h : ChunkForMe s hdr) (hf : bitOf hdr 4 = false) (ho : s.lendIn.length < bits hdr 16 24)
    (hw : ws.take (bits hdr 8 8) ≠ []) :
    lendChunk hdr ws scope s = { s with lendMsgs := s.lendMsgs ++ [.nak s.lendIn.length] } := by
  rw [lendChunk_mine h]
  dsimp only
  rw [if_neg hw, if_neg (by rw [hf]; simp), if_neg (fun k => by omega), if_pos ho]

theorem lendChunk_old (h : ChunkForMe s hdr) (hf : bitOf hdr 4 = false) (ho : bits hdr 16 24 < s.lendIn.length)
    (hw : ws.take (bits hdr 8 8) ≠ []) : lendChunk hdr ws scope s = s := by
  rw [lendChunk_mine h]
  dsimp only
  rw [if_neg hw, if_neg (by rw [hf]; simp), if_neg (fun k => by omega), if_neg (by omega)]

theorem lendChunk_ends {d : Load} (h : ChunkForMe s hdr) (hw : ws.take (bits hdr 8 8) = []) (hl : s.load = some d)
    (hs : d.startF = none) (hk : d.kind = 0) (hp : d.phase ≠ .teardown) :
    let u := lendChunk hdr ws scope s
    u.load = none ∧ u.lendIn = [] ∧ u.get FAB_STAT_FAB_STATE = 0 ∧ u.get SYS_STAT_BOOT_STATE = 5 ∧
      Quiet [FAB_STAT_FAB_STATE, SYS_STAT_BOOT_STATE] s u := by
  have hu : lendChunk hdr ws scope s =
      { ((s.put FAB_STAT_FAB_STATE 0).put SYS_STAT_BOOT_STATE 5).loadClear with lendIn := [] } := by
    rw [lendChunk_mine h]
    dsimp only
    rw [if_pos hw, State.farLoadStop, hl]
    dsimp only
    rw [if_neg (by rw [h.sat, hs]; simp), if_neg (fun k => hp k.2), State.farLoadEnd, if_pos hk]
  dsimp only
  rw [hu]
  refine ⟨rfl, rfl, ?_, ?_, Quiet.update (Quiet.update (Quiet.put (Quiet.put (.refl _ s) (by decide) _) (by decide) _))⟩
  all_goals
    simp (disch := decide) only [State.loadClear, State.get_mk, State.get_put_ne, State.get_put_same]
    rfl

/-! ### Chunks for another unit (R342, R343) -/

/-- One more stream is held back. -/
def State.holdStream (s : State) (v : Nat) : State :=
  if s.lendHeld.contains v then s else { s with lendHeld := s.lendHeld ++ [v], lendMsgs := s.lendMsgs ++ [.pause v] }

/-- What the holding back of streams keeps, and whom it holds back. -/
theorem State.foldl_holdStream (l : List Nat) (s : State) :
    let u := l.foldl State.holdStream s
    u.lendRelay = s.lendRelay ∧ u.lendIn = s.lendIn ∧ Quiet [] s u ∧ (∀ v, v ∈ l ∨ v ∈ s.lendHeld → v ∈ u.lendHeld) := by
  induction l generalizing s with
  | nil => exact ⟨rfl, rfl, .refl _ s, fun v h => h.resolve_left List.not_mem_nil⟩
  | cons w l ih =>
    have hstep : (s.holdStream w).lendRelay = s.lendRelay ∧ (s.holdStream w).lendIn = s.lendIn ∧ Quiet [] s (s.holdStream w) ∧
        (∀ v, v = w ∨ v ∈ s.lendHeld → v ∈ (s.holdStream w).lendHeld) := by
      unfold State.holdStream
      split
      · next hin =>
        exact ⟨rfl, rfl, .refl _ s, fun v h => h.elim (fun e => by rw [e]; exact List.contains_iff_mem.1 hin) id⟩
      · exact ⟨rfl, rfl, Quiet.update (.refl _ s), fun v h => h.elim (fun e => by simp [e]) (fun m => List.mem_append_left _ m)⟩
    obtain ⟨h1, h2, h3, h4⟩ := hstep
    obtain ⟨k1, k2, k3, k4⟩ := ih (s.holdStream w)
    refine ⟨k1.trans h1, k2.trans h2, h3.trans k3, fun v hv => k4 v ?_⟩
    rcases hv with hv | hv
    · rcases List.mem_cons.1 hv with e | hv
      · exact Or.inr (h4 v (Or.inl e))
      · exact Or.inl hv
    · exact Or.inr (h4 v (Or.inr hv))

theorem lendChunk_relays (hsat : s.isHead = false) (hv : s.on CHN_STAT_ADDR_VALID = true)
    (hm : (decide (bits hdr 0 4 = s.get CHN_STAT_ADDR) && s.on CHN_STAT_ADDR_VALID) = false)
    (hroom : s.relayFill + (ws.take (bits hdr 8 8)).length ≤ 4096) :
    let u := lendChunk hdr ws scope s
    u.lendRelay = s.lendRelay ++ [(hdr, ws.take (bits hdr 8 8))] ∧ u.lendIn = s.lendIn ∧
      (2048 < s.relayFill + (ws.take (bits hdr 8 8)).length → ∀ p ∈ u.lendRelay, bits p.1 0 4 ∈ u.lendHeld) ∧ Quiet [] s u := by
  have hother : bits hdr 0 4 ≠ s.ownAddr := fun e => by
    rw [hv, Bool.and_true, decide_eq_false_iff_not] at hm
    exact hm e
  dsimp only
  unfold lendChunk
  dsimp only
  rw [if_neg (by rw [hsat, hv]; decide), if_pos hother, State.lendRelayIn, if_neg (Nat.not_lt.2 hroom)]
  generalize ws.take (bits hdr 8 8) = w at *
  dsimp only
  have hfill : State.relayFill { s with lendRelay := s.lendRelay ++ [(hdr, w)] } = s.relayFill + w.length := by
    simp [State.relayFill]
  rw [hfill]
  split
  · next hle => exact ⟨rfl, rfl, fun hlt => absurd hle (Nat.not_le.2 hlt), Quiet.update (.refl _ s)⟩
  · obtain ⟨h1, h2, h3, h4⟩ := State.foldl_holdStream ((s.lendRelay ++ [(hdr, w)]).map (fun p => bits p.1 0 4))
      { s with lendRelay := s.lendRelay ++ [(hdr, w)] }
    refine ⟨h1, h2, fun _ p hp => h4 _ (Or.inl ?_), (Quiet.update (.refl _ s)).trans h3⟩
    exact List.mem_map_of_mem (Eq.mp (congrArg (p ∈ ·) h1) hp)

/-! ### A lend at the head (R176, R177, R343) -/

theorem State.setLend_eq {d : Lend} (h : mapFind s.lends v = some d) (f : Lend → Lend) :
    s.setLend v f = { s with lends := mapInsert s.lends v (f d) } := by
  unfold State.setLend
  rw [h]

theorem State.setLend_shown {d : Lend} (h : mapFind s.lends v = some d) (f : Lend → Lend) :
    mapFind (s.setLend v f).lends v = some (f d) ∧ (∀ k, k ≠ v → mapFind (s.setLend v f).lends k = mapFind s.lends k) ∧
      Quiet [] s (s.setLend v f) := by
  rw [State.setLend_eq h]
  exact ⟨mapFind_insert_same _ _ _, fun k hk => by rw [mapFind_insert, if_neg hk], Quiet.update (.refl _ s)⟩

theorem State.unitLoaded_shown (s : State) {v st ed : Nat} (hv : v < 16) (hst : st < 256) (hne : st ≠ stOk) :
    let u := s.unitLoaded 0 v st ed
    u.get (SYS_UNIT_STAT_STATUS v) = st ∧ u.get (SYS_UNIT_STAT_LOADED v) = 0 ∧ u.get (SYS_UNIT_STAT_EDITION v) = ed % 2 ^ 32 ∧
      u.lends = s.lends ∧ u.occ = s.occ ∧
      Quiet [SYS_UNIT_STAT_STATUS v, SYS_UNIT_STAT_LOADED v, SYS_UNIT_STAT_EDITION v] s u := by
  dsimp only
  rw [State.unitLoaded, if_neg (by decide), beq_eq_false_iff_ne.2 hne]
  refine ⟨?_, ?_, ?_, rfl, rfl, Quiet.put (Quiet.put (Quiet.put (.refl _ s) (mem_fldIn (by simp)) _) (mem_fldIn (by simp)) _)
    (mem_fldIn (by simp)) _⟩
  all_goals
    simp (disch := (simp only [Fld.key, SYS_UNIT_STAT_STATUS, SYS_UNIT_STAT_LOADED, SYS_UNIT_STAT_EDITION]; omega)) only
      [State.get_put_ne, State.get_put_same]
  · exact Nat.mod_eq_of_lt hst
  · rfl
  · rfl

/-- A lend without a command that the given-up unit `v` ends with (R177). -/
theorem lendDone_gives_up_eq {d : Lend} (h : mapFind s.lends v = some d) (hst : d.status = none)
    (hpos : d.stream.length ≤ d.pos) (hf : 2 ≤ d.fails) (ha : d.auto = true) :
    let w := (s.post 0x0425 sevFault (pack [p16 v, p16 1])).setLend v (fun l => { l with status := some stEcc })
    lendDone v stEcc s = { w.unitLoaded 0 v stEcc d.edition with lends := mapErase w.lends v } := by
  have ht : mapFind (s.post 0x0425 sevFault (pack [p16 v, p16 1])).lends v = some d := by rw [State.post_lends, h]
  unfold lendDone
  rw [h]
  dsimp only
  rw [if_neg (by rw [hst]; simp [stDefined, stEcc, stArbCondition, hpos]), if_pos rfl, if_pos hf, State.lendFailed, ha,
    if_neg (by simp), State.lendSettled]
  dsimp only
  rw [State.lendFail, show mapFind (State.setLend _ v _).lends v = some { d with status := some stEcc } from
    (State.setLend_shown ht _).1]
  dsimp only
  rw [if_neg (by rw [ha]; decide), if_neg (by decide)]

theorem lendDone_gives_up {d : Lend} (hv : v < 16) (h : mapFind s.lends v = some d) (hst : d.status = none)
    (hpos : d.stream.length ≤ d.pos) (hf : 2 ≤ d.fails) (ha : d.auto = true) :
    let u := lendDone v stEcc s
    mapFind u.lends v = none ∧ 0x0425 ∈ u.occ ∧ u.get (SYS_UNIT_STAT_STATUS v) = stEcc ∧
      u.get (SYS_UNIT_STAT_LOADED v) = 0 ∧ u.get (SYS_UNIT_STAT_EDITION v) = d.edition % 2 ^ 32 ∧
      Quiet [SYS_UNIT_STAT_STATUS v, SYS_UNIT_STAT_LOADED v, SYS_UNIT_STAT_EDITION v] s u := by
  have hu := lendDone_gives_up_eq h hst hpos hf ha
  have hocc : 0x0425 ∈ (s.post 0x0425 sevFault (pack [p16 v, p16 1])).occ := State.mem_occ_post _ _ _ (by decide)
  have hq : Quiet [] s (s.post 0x0425 sevFault (pack [p16 v, p16 1])) := Quiet.post (.refl _ s) _ _ _
  have ht : mapFind (s.post 0x0425 sevFault (pack [p16 v, p16 1])).lends v = some d := by rw [State.post_lends, h]
  generalize s.post 0x0425 sevFault (pack [p16 v, p16 1]) = t at *
  have hqw := hq.trans (State.setLend_shown ht (fun l => { l with status := some stEcc })).2.2
  have hoccw : 0x0425 ∈ (t.setLend v (fun l => { l with status := some stEcc })).occ := by
    rw [State.setLend_eq ht]
    exact hocc
  generalize t.setLend v (fun l => { l with status := some stEcc }) = w at *
  obtain ⟨h1, h2, h3, -, h5, h6⟩ := w.unitLoaded_shown (ed := d.edition) hv (st := stEcc) (by decide) (by decide)
  rw [← h5] at hoccw
  dsimp only at hu ⊢
  rw [hu]
  generalize w.unitLoaded 0 v stEcc d.edition = x at *
  exact ⟨by rw [mapFind_erase, if_pos rfl], hoccw, h1, h2, h3, Quiet.update ((hqw.of_subset (List.nil_subset _)).trans h6)⟩

theorem lendDone_starts {d : Lend} (h : mapFind s.lends v = some d) (hst : d.status = none)
    (hpos : d.stream.length ≤ d.pos) (ha : d.auto = true) :
    let u := lendDone v stOk s
    mapFind u.lends v = some { d with status := some stOk
                                      startF := some ((s.frame + s.get (CHN_ROSTER_STAT_POS v) + 2) % 2 ^ 32) } ∧ Quiet [] s u := by
  let w := s.setLend v (fun l => { l with status := some stOk })
  have hw : w = { s with lends := mapInsert s.lends v { d with status := some stOk } } := State.setLend_eq h _
  obtain ⟨hfind, -, hq⟩ := State.setLend_shown h (fun l => { l with status := some stOk })
  have hu : lendDone v stOk s = (w.setLend v (fun l => { l with startF := some ((w.frame + w.unitPos v + 2) % 2 ^ 32) })).setChain
      (fun c => { c with loadS := some ((w.frame + w.unitPos v + 2) % 2 ^ 32) }) := by
    unfold lendDone
    rw [h]
    dsimp only
    rw [if_neg (by rw [hst]; simp [stDefined, stOk, stArbCondition, hpos]), if_neg (by decide), State.lendSettled]
    dsimp only
    rw [hfind]
    dsimp only
    rw [if_neg (by rw [ha]; decide), if_pos rfl]
  have hframe : w.frame = s.frame ∧ w.unitPos v = s.get (CHN_ROSTER_STAT_POS v) := by
    rw [hw]
    exact ⟨rfl, rfl⟩
  obtain ⟨kfind, -, kq⟩ := State.setLend_shown hfind (fun l => { l with startF := some ((w.frame + w.unitPos v + 2) % 2 ^ 32) })
  dsimp only
  rw [hu]
  refine ⟨?_, (hq.trans kq).setChain _⟩
  rw [← hframe.1, ← hframe.2]
  exact kfind

theorem lendDone_again {d : Lend} (h : mapFind s.lends v = some d) (hst : d.status = none) (hpos : d.stream.length ≤ d.pos)
    (hf : d.fails < 2) : lendDone v stEcc s = s.setLend v (fun l => { l with fails := l.fails + 1, pos := 0 }) := by
  unfold lendDone
  rw [h]
  dsimp only
  rw [if_neg (by rw [hst]; simp [stDefined, stEcc, stArbCondition, hpos]), if_pos rfl, if_neg (Nat.not_le.2 hf)]

/-! ### A lend without a command (R177) -/

theorem State.lendBegin_unkeyed (hm : bitOf (s.imgMask n) v = false) :
    let u := s.lendBegin n true v
    u.lends = s.lends ∧ 0x0425 ∈ u.occ ∧ Quiet [] s u := by
  dsimp only
  unfold State.lendBegin
  dsimp only
  rw [if_pos (by rw [show State.imgMask { s with lendEnds := s.lendEnds.filter (fun p => p.1 != v) } n = s.imgMask n from rfl, hm]; decide)]
  rw [if_neg (by simp), State.lendFail]
  exact ⟨by rw [State.post_lends], State.mem_occ_post _ _ _ (by decide), Quiet.post (Quiet.update (.refl _ s)) _ _ _⟩

theorem State.lendBegin_begins (hm : bitOf (s.imgMask n) v = true) :
    let u := s.lendBegin n true v
    (mapFind u.lends v).map (fun d => (d.auto, d.edition, d.pos)) = some (true, s.imgEdition n, 0) ∧ Quiet [] s u := by
  dsimp only
  unfold State.lendBegin
  dsimp only
  rw [if_neg (by rw [show State.imgMask { s with lendEnds := s.lendEnds.filter (fun p => p.1 != v) } n = s.imgMask n from rfl, hm]; decide)]
  split
  · exact ⟨by rw [mapFind_insert_same]; rfl, Quiet.update (.refl _ s)⟩
  · rw [if_neg (by simp)]
    exact ⟨by rw [State.post_lends, mapFind_insert_same]; rfl, Quiet.post (Quiet.update (.refl _ s)) _ _ _⟩

theorem autoLend_eq (hh : s.isHead = true) (hl : s.on SYS_BOOT_LOADED = true) (h0 : v ≠ 0) (hg : s.unitGone v = false)
    (hf : mapFind s.lends v = none) : autoLend v s = s.lendBegin (s.get SYS_BOOT_SLOT) true v := by
  rw [autoLend, if_pos (by rw [hh, hl, hg, hf]; simpa using h0)]

/-- Settles O32: chunks by where they are for (`lendChunk_mine`, `lendChunk_relays`), messages by what they do to the unit's lend. -/
theorem lendStreamsAndTheirMessages : Obligations.LendStreamsAndTheirMessages := by
  unfold Obligations.LendStreamsAndTheirMessages
  intro s hdr ws scope
  refine ⟨fun h1 h2 h3 h4 h5 h6 => ⟨_, rfl, lendChunk_first (.of_mine h1 h2) h3 h4 h5 h6⟩, fun h1 h2 h3 h4 h5 h6 => ⟨_, rfl, ?_⟩,
    fun h1 h2 h3 h4 h5 => ⟨_, rfl, ?_⟩, fun h1 h2 h3 h4 h5 => ⟨_, rfl, ?_⟩,
    fun d h1 h2 h3 h4 h5 h6 h7 => ⟨_, rfl, lendChunk_ends (.of_mine h1 h2) h3 h4 h5 h6 h7⟩,
    fun h1 h2 h3 h4 => ⟨_, rfl, lendChunk_relays h1 h2 h3 h4⟩, fun v d h => ⟨fun m hst => ⟨_, rfl, ?_⟩, ⟨_, rfl, ?_⟩, ⟨_, rfl, ?_⟩,
    fun hst hpos hf => ⟨_, rfl, ?_⟩, fun hst hpos hf ha => ⟨_, rfl, lendDone_gives_up v.isLt h hst hpos hf ha⟩,
    fun hst hpos ha => ⟨_, rfl, lendDone_starts h hst hpos ha⟩⟩, fun v h1 h2 h3 h4 h5 => ?_⟩
  · rw [lendChunk_next (.of_mine h1 h2) h3 h4 h5 h6]
    exact ⟨rfl, rfl, Quiet.update (.refl _ s)⟩
  · rw [lendChunk_gap (.of_mine h1 h2) h3 h4 h5]
    exact ⟨rfl, rfl, Quiet.update (.refl _ s)⟩
  · exact lendChunk_old (.of_mine h1 h2) h3 h4 h5
  · obtain ⟨k1, k2, k3⟩ := State.setLend_shown h (fun l => if l.status.isNone then { l with pos := m } else l)
    rw [if_pos (by rw [hst]; rfl)] at k1
    exact ⟨k1, k2, k3⟩
  · obtain ⟨k1, -, k3⟩ := State.setLend_shown h (fun l => { l with paused := true })
    exact ⟨k1, k3⟩
  · obtain ⟨k1, -, k3⟩ := State.setLend_shown h (fun l => { l with paused := false })
    exact ⟨k1, k3⟩
  · rw [lendDone_again h hst hpos hf]
    obtain ⟨k1, -, k3⟩ := State.setLend_shown h (fun l => { l with fails := l.fails + 1, pos := 0 })
    exact ⟨k1, k3⟩
  · have hv : v.val ≠ 0 := fun e => h3 (Fin.ext e)
    refine ⟨fun hm => ⟨_, rfl, ?_⟩, fun hm => ⟨_, rfl, ?_⟩⟩
    all_goals rw [autoLend_eq h1 h2 hv h4 h5]
    · obtain ⟨k1, k2, k3⟩ := State.lendBegin_unkeyed hm
      exact ⟨by rw [k1, h5], k2, k3⟩
    · exact State.lendBegin_begins hm

end Sys2Proof.Machine
end

section
/-! NOP, WAIT and FENCE start, run and complete (R354, R360, R361, R440); the two words of a completion in bank 6 (R354). -/

namespace Sys2Proof.Machine

variable {l : List Fld} {s t u : State} {r : Nat} {ws : List Nat}

/-! ### The rings as other blocks leave them -/

/-- The command processor's own state, and the registers of the rings, are kept. -/
structure RingsKept (s u : State) : Prop where
  rings : u.rings = s.rings
  frame : u.frame = s.frame
  get : ∀ f : Fld, f.lo < 64 → 0xE03000 ≤ f.addr → f.addr < 0xE03800 → u.get f = s.get f

theorem RingsKept.refl (s : State) : RingsKept s s := ⟨rfl, rfl, fun _ _ _ _ => rfl⟩

theorem RingsKept.trans (h : RingsKept s t) (k : RingsKept t u) : RingsKept s u :=
  ⟨k.rings.trans h.rings, k.frame.trans h.frame, fun f h1 h2 h3 => (k.get f h1 h2 h3).trans (h.get f h1 h2 h3)⟩

/-- An update outside all that is kept. -/
theorem RingsKept.other (h : RingsKept s t) (hr : u.regs = t.regs) (hrings : u.rings = t.rings) (hframe : u.frame = t.frame) : RingsKept s u :=
  ⟨hrings.trans h.rings, hframe.trans h.frame, fun f h1 h2 h3 => by rw [State.get, hr, ← State.get, h.get f h1 h2 h3]⟩

/-- A field of another page than the rings'. -/
def OffRings (f : Fld) : Prop := f.lo < 64 ∧ (f.addr < 0xE03000 ∨ 0xE03800 ≤ f.addr)

theorem RingsKept.put (h : RingsKept s t) {f : Fld} (hf : OffRings f) (v : Nat) : RingsKept s (t.put f v) := by
  refine ⟨h.rings, h.frame, fun g h1 h2 h3 => ?_⟩
  obtain ⟨h4, h5⟩ := hf
  rw [State.get_put_ne _ _ (key_ne_of_addr_ne h1 h4 (by omega)), h.get g h1 h2 h3]

theorem RingsKept.ite {c : Prop} [Decidable c] (h : RingsKept s t) (k : RingsKept s u) : RingsKept s (if c then t else u) := by
  split <;> assumption

theorem RingsKept.foldl {β : Type} {f : State → β → State} {l : List β} (hf : ∀ t x, x ∈ l → RingsKept t (f t x)) (h : RingsKept s t) :
    RingsKept s (l.foldl f t) := by
  induction l generalizing t with
  | nil => exact h
  | cons x l ih => exact ih (fun t y hy => hf t y (List.mem_cons_of_mem _ hy)) (h.trans (hf t x List.mem_cons_self))

theorem RingsKept.setSpk (h : RingsKept s t) (n : Nat) (x : Spk) : RingsKept s (t.setSpk n x) := h.other rfl rfl rfl

theorem RingsKept.ring (h : RingsKept s u) (r : Nat) : u.ring r = s.ring r := by rw [State.ring, h.rings, State.ring]

/-- R289: a fold of the speaker stages leaves the rings as they are. -/
theorem State.spkFold_ringsKept (s : State) (cause : Nat) : RingsKept s (s.spkFold cause) := by
  refine RingsKept.foldl (fun t n hn => ?_) (.refl s)
  have hn : n < 4 := List.mem_range.1 hn
  have hc (u : State) (h : RingsKept t u) (v : Nat) : RingsKept t (u.put (SPK_STAT_FAULT_CAUSE n) v) :=
    h.put (by simp only [OffRings, SPK_STAT_FAULT_CAUSE]; omega) _
  have hstate (u : State) (h : RingsKept t u) (v : Nat) : RingsKept t (u.put (SPK_STAT_STATE n) v) :=
    h.put (by simp only [OffRings, SPK_STAT_STATE]; omega) v
  have hrun : RingsKept t (let s := t.put (SPK_STAT_FAULT_CAUSE n) cause
      if (t.spk n).phase = .rest ∨ (t.spk n).phase = .release then s.setSpk n { t.spk n with folding := true, startReq := false }
      else if s.spkState n = 1 ∨ (t.spk n).phase = .trip then s.spkToRest n true
      else (s.put (SPK_STAT_STATE n) 3).setSpk n { t.spk n with phase := .stop, folding := true, tweet := false, startReq := false }) :=
    .ite ((hc _ (.refl t) _).setSpk _ _)
      (.ite ((hstate _ (hc _ (.refl t) _) 3).setSpk _ _) ((hstate _ (hc _ (.refl t) _) 3).setSpk _ _))
  dsimp only
  refine .ite (.refl t) ?_
  split
  · exact hrun
  · exact hrun
  · exact hrun
  · exact .ite ((hc _ (hstate _ (.refl t) 6) _).setSpk _ _) (.refl t)
  · exact .refl t

/-- R299: a fold of the headphone outputs leaves the rings as they are. -/
theorem State.hpoFold_ringsKept (s : State) : RingsKept s s.hpoFold := by
  refine RingsKept.foldl (fun t n hn => ?_) (.refl s)
  have hn : n < 4 := List.mem_range.1 hn
  have hstate (v : Nat) (x : Hpo) : RingsKept t ((t.put (HPO_STAT_STATE n) v).setHpo n x) :=
    RingsKept.other ((RingsKept.refl t).put (by simp only [OffRings, HPO_STAT_STATE]; omega) v) rfl rfl rfl
  dsimp only
  split
  · exact hstate _ _
  · exact hstate _ _
  · exact hstate _ _
  · exact .ite (hstate _ _) (.refl t)
  · exact .refl t

theorem State.entryBegin_ringsKept (s : State) : RingsKept s s.entryBegin := by
  unfold State.entryBegin
  split
  · exact .ite ((RingsKept.refl s).put (by simp [OffRings, PWR_STAT_STATE]) 4) (.refl s)
  · exact .refl s

/-! ### The words of a completion (R354) -/

/-- R424: a store to bank 6, where it is released, is a whole-word write. -/
theorem State.bankWrite_six (s : State) (hup : s.bankUp 6 = true) (w : Nat) (v : Word) : s.bankWrite 6 w v = s.memPut (bankAddr 6 w) v := by
  unfold State.bankWrite
  rw [if_neg (not_not.2 hup), if_neg (by simp), if_neg (by simp), if_neg (by simp)]

theorem State.ringWord_lt (s : State) (c i : Nat) : s.ringWord c i < 0x20000 := Nat.mod_lt _ (by decide)

/-- Two counts next to each other name two words of their ring: they differ below bit 4. -/
theorem State.ringWord_succ_ne (s : State) (c i : Nat) : s.ringWord c ((i + 1) % 65536) ≠ s.ringWord c i := by
  have hmod (x : Nat) : s.ringWord c x % 16 = (s.get (RING_CFG_BASE c) + x) % 16 := by
    have hsize : x % s.ringSize c % 16 = x % 16 := Nat.mod_mod_of_dvd _ (Nat.pow_dvd_pow 2 (Nat.le_add_left 4 _))
    unfold State.ringWord
    omega
  have h1 := hmod i
  have h2 := hmod ((i + 1) % 65536)
  omega

theorem State.ringWord_congr {c : Nat} (hb : t.get (RING_CFG_BASE c) = s.get (RING_CFG_BASE c))
    (hs : t.get (RING_CFG_SIZE c) = s.get (RING_CFG_SIZE c)) (i : Nat) : t.ringWord c i = s.ringWord c i := by
  rw [State.ringWord, State.ringSize, hb, hs, State.ringWord, State.ringSize]

/-- A word written to ring `c` at TAIL (R349, R350). -/
def State.pushWord (s : State) (c v : Nat) : State :=
  (s.bankWrite 6 (s.ringWord c (s.get (RING_TAIL_TAIL c))) (BitVec.ofNat 64 v)).setTail c (s.get (RING_TAIL_TAIL c) + 1)

theorem State.pushWord_shown (s : State) (hup : s.bankUp 6 = true) {c : Nat} (hc : c < 64) (v : Nat) :
    let u := s.pushWord c v
    let w := s.ringWord c (s.get (RING_TAIL_TAIL c))
    u.peek6 w = v % 2 ^ 64 ∧ SameOutside (bankAddr 6 w) s u ∧ u.get (RING_TAIL_TAIL c) = (s.get (RING_TAIL_TAIL c) + 1) % 65536 ∧
      u.bankUp 6 = true ∧ ∀ i, u.ringWord c i = s.ringWord c i := by
  have hget {f : Fld} (hw : Fld.key f ≠ Fld.key CUR_CNT_WB_CANCEL) (h1 : Fld.key f ≠ Fld.key (RING_TAIL_TAIL c))
      (h2 : Fld.key f ≠ Fld.key (RING_STAT_LEVEL c)) : (s.pushWord c v).get f = s.get f := by
    rw [State.pushWord, s.bankWrite_six hup, State.setTail, State.showLevel, State.get_put_ne _ _ h2, State.get_put_ne _ _ h1,
      State.get_memPut _ _ _ hw]
  refine ⟨?_, ?_, ?_, ?_, State.ringWord_congr (hget ?_ ?_ ?_) (hget ?_ ?_ ?_)⟩
  · rw [State.pushWord, s.bankWrite_six hup, State.setTail, State.showLevel, State.peek6, State.memWord_put, State.memWord_put,
      State.memWord_memPut_same]
    rfl
  · rw [State.pushWord, s.bankWrite_six hup]
    exact State.memPut_sameOutside _ _ _
  · rw [State.pushWord, State.setTail, State.showLevel, State.get_put_ne, State.get_put_same]
    · rfl
    · simp only [Fld.key, RING_TAIL_TAIL, RING_STAT_LEVEL]; omega
  · rw [State.bankUp, hget, ← State.bankUp, hup]
    all_goals simp only [Fld.key, MEM_BANK_STAT_STATE, CUR_CNT_WB_CANCEL, RING_TAIL_TAIL, RING_STAT_LEVEL]; omega
  all_goals simp only [Fld.key, RING_CFG_BASE, RING_CFG_SIZE, CUR_CNT_WB_CANCEL, RING_TAIL_TAIL, RING_STAT_LEVEL]; omega

/-- R349, R350: two words go to a ring in bank 6. -/
theorem State.ringPush_two (s : State) (hup : s.bankUp 6 = true) {c : Nat} (hc : c < 64) (v w : Nat) :
    let u := s.ringPush c [v, w]
    let a := s.ringWord c (s.get (RING_TAIL_TAIL c))
    let b := s.ringWord c ((s.get (RING_TAIL_TAIL c) + 1) % 65536)
    u.peek6 a = v % 2 ^ 64 ∧ u.peek6 b = w % 2 ^ 64 ∧ u.get (RING_TAIL_TAIL c) = (s.get (RING_TAIL_TAIL c) + 2) % 65536 ∧
      ∀ x, (x < bankAddr 6 a ∨ bankAddr 6 a + 8 ≤ x) → (x < bankAddr 6 b ∨ bankAddr 6 b + 8 ≤ x) → u.memByte x = s.memByte x := by
  have hu : s.ringPush c [v, w] = (s.pushWord c v).pushWord c w := rfl
  dsimp only
  rw [hu]
  obtain ⟨h1, h2, h3, h4, h5⟩ := s.pushWord_shown hup hc v
  generalize s.pushWord c v = t at *
  obtain ⟨k1, k2, k3, -, -⟩ := t.pushWord_shown h4 hc w
  rw [h3, h5] at k1 k2
  rw [h3] at k3
  have hne := s.ringWord_succ_ne c (s.get (RING_TAIL_TAIL c))
  generalize s.ringWord c (s.get (RING_TAIL_TAIL c)) = a at *
  generalize s.ringWord c ((s.get (RING_TAIL_TAIL c) + 1) % 65536) = b at *
  refine ⟨?_, k1, by rw [k3]; omega, fun x ha hb => (k2 x hb).trans (h2 x ha)⟩
  rw [← h1, State.peek6, State.peek6, State.memWord_congr fun k hk hn => k2 k ?_]
  unfold bankAddr at *
  omega

/-- What follows a completion writes no byte, and no TAIL. -/
theorem State.afterCpl_tail (s : State) (r : Nat) (w : Nat × Nat) {c : Nat} (hc : c < 64) :
    (∀ a, (s.afterCpl r w).memByte a = s.memByte a) ∧ (s.afterCpl r w).get (RING_TAIL_TAIL c) = s.get (RING_TAIL_TAIL c) := by
  unfold State.afterCpl
  extract_lets +onlyGivenNames w0 seq status h q nw done x y
  have hy : y.regs = s.regs ∧ y.mem = s.mem := by
    unfold y
    split <;> exact ⟨rfl, rfl⟩
  have hbyte (a : Nat) : y.memByte a = s.memByte a := by rw [State.memByte, hy.2, State.memByte]
  have hget (f : Fld) : y.get f = s.get f := by rw [State.get, hy.1, State.get]
  clear_value y
  split_ifs
  · refine ⟨fun a => ?_, ?_⟩
    · rw [State.memByte_post]
      exact hbyte a
    · rw [State.get_post (fldIn_eventFlds_of_page (by simp only [RING_TAIL_TAIL]; omega)), State.get_put_ne, State.get_put_ne,
        State.get_put_ne, hget]
      all_goals
        simp only [Fld.key, RING_TAIL_TAIL, RING_STAT_STATE, RING_STAT_HALT_SEQ, RING_STAT_HALT_STATUS]
        omega
  · refine ⟨hbyte, ?_⟩
    rw [State.setHead, State.showLevel, State.get_put_ne, State.get_put_ne, State.get_put_ne, hget]
    all_goals
      simp only [Fld.key, RING_TAIL_TAIL, RING_STAT_STATE, RING_STAT_LEVEL, RING_HEAD_HEAD]
      omega

theorem cplWords_lt (t : State) (r seq opc st res : Nat) (b : Bool) :
    (cplWords t r seq opc st res b).1 < 2 ^ 64 ∧ (cplWords t r seq opc st res b).2 < 2 ^ 64 := by
  have hb : b2n b < 2 := b2n_lt_two b
  simp only [cplWords]
  omega

/-- R354: where the completion ring has space, the two words of the completion are in bank 6. -/
theorem State.complete_written (t : State) (hup : t.bankUp 6 = true) (hfull : t.cplFull r = false) (seq opc st res : Nat) :
    let u := t.complete r seq opc st res
    let c := t.cplRing r
    let a := t.ringWord c (t.get (RING_TAIL_TAIL c))
    let b := t.ringWord c ((t.get (RING_TAIL_TAIL c) + 1) % 65536)
    let w := cplWords t r seq opc st res (t.ring r).retrySeq.isSome
    u.peek6 a = w.1 ∧ u.peek6 b = w.2 ∧ u.get (RING_TAIL_TAIL c) = (t.get (RING_TAIL_TAIL c) + 2) % 65536 ∧
      ∀ x, (x < bankAddr 6 a ∨ bankAddr 6 a + 8 ≤ x) → (x < bankAddr 6 b ∨ bankAddr 6 b + 8 ≤ x) → u.memByte x = t.memByte x := by
  have hc : t.cplRing r < 64 := Nat.mod_lt _ (by decide)
  rw [State.complete]
  dsimp only
  rw [if_neg (by rw [hfull]; decide)]
  have hlt := cplWords_lt t r seq opc st res (t.ring r).retrySeq.isSome
  generalize cplWords t r seq opc st res (t.ring r).retrySeq.isSome = w at *
  obtain ⟨h1, h2, h3, h4⟩ := t.ringPush_two hup hc w.1 w.2
  generalize t.ringPush (t.cplRing r) [w.1, w.2] = v at *
  obtain ⟨k1, k2⟩ := v.afterCpl_tail r w hc
  have hpeek (i : Nat) : (v.afterCpl r w).peek6 i = v.peek6 i := by
    rw [State.peek6, State.memWord_congr fun k _ _ => k1 k, State.peek6]
  refine ⟨?_, ?_, k2.trans h3, fun x ha hb => (k1 x).trans (h4 x ha hb)⟩
  · rw [hpeek, h1, Nat.mod_eq_of_lt hlt.1]
  · rw [hpeek, h2, Nat.mod_eq_of_lt hlt.2]

end Sys2Proof.Machine
end

section
/-! NOP, WAIT and FENCE of a ring (R360, R361, R440). -/

namespace Sys2Proof.Machine

variable {l : List Fld} {s t u : State} {r : Nat} {ws : List Nat}

/-! ### A command that was taken up -/

theorem State.takenUp_completes (s : State) (hr : r < 64) {st : Nat} (res : Nat) (hst : st < 256) :
    Completes s r st res ((s.takenUp r).finish r st res) := (s.takenFrom_takenUp hr).completes hr res hst

/-- A command that was taken up and is in execution, with `f` of what its ring keeps of it. -/
theorem State.takenUp_runs (s : State) (f : Exec → Exec) (hseq : ∀ e, (f e).seq = e.seq) (hwords : ∀ e, (f e).words = e.words) :
    Runs s r ((s.takenUp r).setExec r f) ∧ (((s.takenUp r).setExec r f).ring r).exec = some (f (s.headExec r)) ∧
      Quiet [RING_STAT_STATE r] s ((s.takenUp r).setExec r f) := by
  have hexec : (((s.takenUp r).setExec r f).ring r).exec = some (f (s.headExec r)) := by
    rw [State.ring_setExec, State.ring_takenUp]
    rfl
  refine ⟨⟨?_, ?_⟩, hexec, (s.takenUp_quiet r).other rfl rfl rfl rfl⟩
  · rw [State.get_setExec, State.get_takenUp_state]
  · rw [hexec, Option.map_some, hseq, hwords]
    rfl

/-- R354: the command at HEAD completes, and its completion is in bank 6. -/
theorem State.takenUp_written (h : TakesUp s r ws) (hr : r < 64) (hfull : s.cplFull r = false) (st res : Nat) :
    let u := (s.takenUp r).finish r st res
    let c := s.cplRing r
    let a := s.ringWord c (s.get (RING_TAIL_TAIL c))
    let b := s.ringWord c ((s.get (RING_TAIL_TAIL c) + 1) % 65536)
    let w := cplWords s r (s.headSeq r) (ws.headD 0 % 256) st res (s.ring r).retrySeq.isSome
    u.peek6 a = w.1 ∧ u.peek6 b = w.2 ∧ u.get (RING_TAIL_TAIL c) = (s.get (RING_TAIL_TAIL c) + 2) % 65536 ∧
      ∀ x, (x < bankAddr 6 a ∨ bankAddr 6 a + 8 ≤ x) → (x < bankAddr 6 b ∨ bankAddr 6 b + 8 ≤ x) → u.memByte x = s.memByte x := by
  obtain ⟨-, hfull', hframe⟩ := s.takenFrom_takenUp hr
  have hget {f : Fld} (hf : f.lo < 64 ∧ f.addr % 32 ≠ 24) : (s.takenUp r).get f = s.get f :=
    s.get_takenUp r (key_ne_of_addr_ne hf.1 (by simp [RING_STAT_STATE]) (by simp only [RING_STAT_STATE]; omega))
  have hcpl : (s.takenUp r).cplRing r = s.cplRing r := by
    rw [State.cplRing, hget (by simp only [RING_CFG_CPL_RING]; omega), State.cplRing]
  have hup : (s.takenUp r).bankUp 6 = true := by
    have := h.start
    simp only [State.canStart, Bool.and_eq_true] at this
    rw [State.bankUp, hget (by decide)]
    exact this.1.1.1.1.1.2
  have hword (c i : Nat) : (s.takenUp r).ringWord c i = s.ringWord c i :=
    State.ringWord_congr (hget (by simp only [RING_CFG_BASE]; omega)) (hget (by simp only [RING_CFG_SIZE]; omega)) i
  have htail (c : Nat) : (s.takenUp r).get (RING_TAIL_TAIL c) = s.get (RING_TAIL_TAIL c) :=
    hget (by simp only [RING_TAIL_TAIL]; omega)
  have key := (s.takenUp r).complete_written hup (hfull'.trans hfull) (s.headSeq r) (ws.headD 0 % 256) st res
  have hretry : ((s.takenUp r).ring r).retrySeq = (s.ring r).retrySeq := by rw [State.ring_takenUp]
  simp only [hcpl, hword, htail, hretry, cplWords_congr hframe] at key
  have hfin : (s.takenUp r).finish r st res = (s.takenUp r).complete r (s.headSeq r) (ws.headD 0 % 256) st res := by
    rw [State.finish, State.ring_takenUp]
    dsimp only
    rw [State.headExec, h.words]
  dsimp only
  rw [hfin]
  exact key

/-! ### WAIT -/

theorem State.waitStart_of (h : TakesUp s r ws) (ho : ws.headD 0 % 256 = 0x01) {mode : Nat} (hm : waitMode ws = mode) :
    s.waitStart r mode = if waitCode ws ≠ 0 then (s.takenUp r).finish r stBadArg 0
      else if (if mode = 0 then later (waitArg ws) s.frame else waitArg ws != 0) then
        (s.takenUp r).setExec r (fun e => { e with left := waitArg ws })
      else (s.takenUp r).finish r stOk s.frame := by
  rw [State.waitStart, State.command_of_takesUp h ho (by simpa using hm)]
  rfl

theorem waitPower_of (h : TakesUp s r ws) (ho : ws.headD 0 % 256 = 0x01) (hm : waitMode ws = 2) :
    waitPower r s = if waitCode ws ≠ 0 then (s.takenUp r).finish r stBadArg 0
      else if r ≠ 0 then (s.takenUp r).finish r stNotPermitted 0
      else if s.get PWR_MODE_MODE = 0 then (s.takenUp r).finish r stOk s.frame
      else
        let t := (s.takenUp r).setExec r (fun e => { e with mask := s.get PWR_MODE_MODE })
        if 2 ≤ s.get PWR_MODE_MODE then ((t.spkFold 6).hpoFold).entryBegin else t := by
  have hmode : (s.takenUp r).get PWR_MODE_MODE = s.get PWR_MODE_MODE := s.get_takenUp r (by
    simp only [Fld.key, PWR_MODE_MODE, RING_STAT_STATE]; omega)
  rw [waitPower, State.command_of_takesUp h ho (by simpa using hm), hmode]
  rfl

theorem RingsKept.runs (h : RingsKept t u) (hr : r < 64) (ht : Runs s r t) : Runs s r u := by
  obtain ⟨h1, h2⟩ := ht
  refine ⟨(h.get _ ?_ ?_ ?_).trans h1, by rw [h.ring, h2]⟩
  all_goals
    simp only [RING_STAT_STATE]
    omega

theorem waitPower_runs (h : TakesUp s r ws) (ho : ws.headD 0 % 256 = 0x01) (hm : waitMode ws = 2) (hc : waitCode ws = 0) (hr : r = 0)
    (hmode : s.get PWR_MODE_MODE ≠ 0) : Runs s r (waitPower r s) := by
  rw [waitPower_of h ho hm, if_neg (not_not.2 hc), if_neg (not_not.2 hr), if_neg hmode]
  have hruns := (s.takenUp_runs (r := r) (fun e => { e with mask := s.get PWR_MODE_MODE }) (fun _ => rfl) (fun _ => rfl)).1
  dsimp only
  generalize (s.takenUp r).setExec r (fun e => { e with mask := s.get PWR_MODE_MODE }) = t at *
  split
  · exact (((t.spkFold_ringsKept 6).trans (State.hpoFold_ringsKept _)).trans (State.entryBegin_ringsKept _)).runs (by omega) hruns
  · exact hruns

/-! ### FENCE -/

theorem State.fenceOpen_congr {snap : List (Nat × Nat)} (hd : ∀ q, (t.ring q).doneSeq = (s.ring q).doneSeq)
    (hn : ∀ q, t.get (RING_STAT_NEXT_SEQ q) = s.get (RING_STAT_NEXT_SEQ q)) : t.fenceOpen snap = s.fenceOpen snap := by
  unfold State.fenceOpen
  simp only [hd, hn]

theorem State.ring_takenUp_doneSeq (s : State) (r q : Nat) : ((s.takenUp r).ring q).doneSeq = (s.ring q).doneSeq := by
  by_cases hq : q = r
  · rw [hq, State.ring_takenUp]
  · rw [State.takenUp, State.ring_put, State.ring_setRing_ne _ _ hq]

/-- The commands that a FENCE of words `ws` on ring `r` waits for. -/
def State.fenceSnap (s : State) (r : Nat) (ws : List Nat) : List (Nat × Nat) :=
  ((bitList 64 (ws.getD 1 0)).filter (fun q => q != r && s.ringIs q 0)).map (fun q => (q, s.get (RING_STAT_NEXT_SEQ q)))

theorem fence_of (h : TakesUp s r ws) (ho : ws.headD 0 % 256 = 0x02) :
    fence r s = if (s.fenceOpen (s.fenceSnap r ws)).isEmpty then (s.takenUp r).finish r stOk 0
      else (s.takenUp r).setExec r (fun e => { e with snap := s.fenceSnap r ws, left := bits (ws.headD 0) 32 16 }) := by
  have hget {f : Fld} (hf : f.lo < 64 ∧ (f.addr % 32 ≠ 24 ∨ 3 ≤ f.lo)) : (s.takenUp r).get f = s.get f := by
    refine s.get_takenUp r ?_
    simp only [Fld.key, RING_STAT_STATE]
    omega
  have hnext (q : Nat) : (s.takenUp r).get (RING_STAT_NEXT_SEQ q) = s.get (RING_STAT_NEXT_SEQ q) :=
    hget (by simp only [RING_STAT_NEXT_SEQ]; omega)
  have hsnap : (s.takenUp r).fenceSnap r ws = s.fenceSnap r ws := by
    unfold State.fenceSnap State.ringIs State.on
    have hen (q : Nat) : (s.takenUp r).get (RING_CFG_EN q) = s.get (RING_CFG_EN q) := hget (by simp only [RING_CFG_EN]; omega)
    have hkind (q : Nat) : (s.takenUp r).get (RING_CFG_KIND q) = s.get (RING_CFG_KIND q) := hget (by simp only [RING_CFG_KIND]; omega)
    simp only [hnext, hen, hkind]
  have hopen : (s.takenUp r).fenceOpen (s.fenceSnap r ws) = s.fenceOpen (s.fenceSnap r ws) :=
    State.fenceOpen_congr (s.ring_takenUp_doneSeq r) hnext
  rw [fence, State.command_of_takesUp h ho rfl, ← hopen, ← hsnap]
  rfl

/-! ### The end of a command in execution -/

theorem State.finishes_here (s : State) {e : Exec} (he : (s.ring r).exec = some e) {st : Nat} (res : Nat) (hst : st < 256) :
    Finishes s r e st res (s.finish r st res) := State.finishes s he rfl rfl rfl res hst

theorem stTimeout_or_ok_lt (lost : Bool) : (if lost then stTimeout else stOk) < 256 := by
  cases lost <;> decide

/-- Settles O27: a command that is taken up completes (`State.takenUp_completes`) or runs (`State.takenUp_runs`), and one in
execution finishes (`State.finishes_here`). -/
theorem ringWaitsAndFencesComplete : Obligations.RingWaitsAndFencesComplete := by
  unfold Obligations.RingWaitsAndFencesComplete
  intro s r ws
  have hr : r.val < 64 := r.isLt
  dsimp only
  refine ⟨fun h ho => ⟨_, rfl, ?_⟩, fun h ho hf => ⟨_, rfl, ?_⟩, fun h ho hm hc => ⟨fun hl => ⟨_, rfl, ?_⟩, fun hl => ⟨_, rfl, ?_⟩⟩,
    fun h ho hm hc => ⟨fun hl => ⟨_, rfl, ?_⟩, fun hl => ⟨_, rfl, ?_⟩⟩,
    fun h ho hc => ⟨fun hm => ⟨_, rfl, ?_⟩, fun hm => ⟨_, rfl, ?_⟩, fun hm => ⟨_, rfl, ?_⟩, fun hm => ⟨_, rfl, ?_⟩⟩,
    fun h ho hm hc => ⟨fun h0 => ⟨_, rfl, ?_⟩, fun h0 h1 => ⟨_, rfl, ?_⟩,
      fun h0 h1 => ⟨_, rfl, waitPower_runs h ho hm hc (by rw [h0]; rfl) h1⟩⟩,
    fun h ho => ⟨fun hl => ⟨_, rfl, ?_⟩, fun hl => ⟨_, rfl, ?_⟩⟩,
    fun e he ho => ⟨fun hc => ⟨_, rfl, ?_⟩, fun hc hs => ⟨_, rfl, ?_⟩⟩,
    fun e he ho => ⟨fun hc => ⟨_, rfl, ?_⟩, fun hc hs => ⟨_, rfl, ?_⟩⟩⟩
  · rw [ringNop, State.command_of_takesUp h ho rfl]
    exact s.takenUp_completes hr 0 (by decide)
  · rw [ringNop, State.command_of_takesUp h ho rfl]
    obtain ⟨h1, h2, h3, -⟩ := State.takenUp_written h hr hf stOk 0
    rw [ho] at h1 h2
    exact ⟨h1, h2, h3⟩
  · rw [waitFrame, State.waitStart_of h ho hm, if_neg (not_not.2 hc), if_pos (by simpa using hl)]
    exact (s.takenUp_runs (r := r.val) (fun e => { e with left := waitArg ws }) (fun _ => rfl) (fun _ => rfl)).1
  · rw [waitFrame, State.waitStart_of h ho hm, if_neg (not_not.2 hc), if_neg (by simp [hl])]
    exact s.takenUp_completes hr _ (by decide)
  · rw [waitFrames, State.waitStart_of h ho hm, if_neg (not_not.2 hc), if_pos (by simpa using hl)]
    obtain ⟨h1, h2, -⟩ := s.takenUp_runs (r := r.val) (fun e => { e with left := waitArg ws }) (fun _ => rfl) (fun _ => rfl)
    exact ⟨h1, by rw [h2]; rfl⟩
  · rw [waitFrames, State.waitStart_of h ho hm, if_neg (not_not.2 hc), if_neg (by simp [hl])]
    exact s.takenUp_completes hr _ (by decide)
  · rw [waitFrame, State.waitStart_of h ho hm, if_pos hc]
    exact s.takenUp_completes hr _ (by decide)
  · rw [waitFrames, State.waitStart_of h ho hm, if_pos hc]
    exact s.takenUp_completes hr _ (by decide)
  · rw [waitPower_of h ho hm, if_pos hc]
    exact s.takenUp_completes hr _ (by decide)
  · rw [waitEvent, State.command_of_takesUp h ho (by simpa using hm)]
    obtain ⟨h1, h2, h3⟩ := s.takenUp_runs (r := r.val) (fun e => { e with left := waitArg ws, mask := (s.takenUp r.val).occ.length })
      (fun _ => rfl) (fun _ => rfl)
    exact ⟨h1, by rw [h2]; rfl, h3⟩
  · have h0' : r.val ≠ 0 := fun e => h0 (Fin.ext e)
    rw [waitPower_of h ho hm, if_neg (not_not.2 hc), if_pos h0']
    exact s.takenUp_completes hr _ (by decide)
  · rw [waitPower_of h ho hm, if_neg (not_not.2 hc), if_neg (by rw [h0]; simp), if_pos h1]
    exact s.takenUp_completes hr _ (by decide)
  · rw [fence_of h ho, if_pos (by rw [State.fenceSnap, hl]; rfl)]
    exact s.takenUp_completes hr _ (by decide)
  · rw [fence_of h ho, if_neg (by rwa [List.isEmpty_iff])]
    obtain ⟨h1, h2, -⟩ := s.takenUp_runs (r := r.val)
      (fun e => { e with snap := s.fenceSnap r ws, left := bits (ws.headD 0) 32 16 }) (fun _ => rfl) (fun _ => rfl)
    exact ⟨h1, by rw [h2]; rfl⟩
  · rw [waitEnd, he]
    dsimp only
    rw [if_neg (not_not.2 ho), if_pos hc]
    exact s.finishes_here he _ (stTimeout_or_ok_lt _)
  · rw [waitEnd, he]
    dsimp only
    rw [if_neg (not_not.2 ho), if_neg (by rw [hc]; decide), if_pos hs]
    exact s.finishes_here he _ (by decide)
  · rw [fenceEnd, he]
    dsimp only
    rw [if_neg (not_not.2 ho), if_pos hc]
    exact s.finishes_here he _ (stTimeout_or_ok_lt _)
  · rw [fenceEnd, he]
    dsimp only
    rw [if_neg (not_not.2 ho), if_neg (by rw [hc]; decide), if_pos (by rw [hs]; rfl)]
    exact s.finishes_here he _ (by decide)

end Sys2Proof.Machine
end

section
/-! What a completion may change (R350, R354, R372): the rings and their registers, bank 6, and what an event changes. -/

namespace Sys2Proof.Machine

variable {P : Fld → Prop} {s t u : State} {r : Nat}

/-- The fields that the operations of ring `r` write. -/
def ringWrites (r : Nat) : List Fld :=
  [RING_STAT_STATE r, RING_STAT_HALT_SEQ r, RING_STAT_HALT_STATUS r, RING_HEAD_HEAD r, RING_TAIL_TAIL r, RING_STAT_LEVEL r]

/-- No field of `P` is one that ring `r`'s operations, an event or a store to bank 6 write. -/
structure Spared (P : Fld → Prop) (r : Nat) : Prop where
  event : ∀ f, P f → fldIn eventFlds f = false
  cancel : ∀ f, P f → Fld.key f ≠ Fld.key CUR_CNT_WB_CANCEL
  ring : ∀ f, P f → ∀ g ∈ ringWrites r, Fld.key f ≠ Fld.key g

/-- From `s` to `u` only what the ring engine's operations may change has changed, and no field of `P`. -/
structure RingOpsOnly (P : Fld → Prop) (s u : State) : Prop where
  regs : ∀ f, P f → u.get f = s.get f
  occ : s.occ ⊆ u.occ
  chain : u.chain = { s.chain with fwdOut := u.chain.fwdOut }
  rest : u = { s with regs := u.regs, mem := u.mem, ecc := u.ecc, wb := u.wb, occ := u.occ, evq := u.evq, chain := u.chain
                      annals := u.annals, rings := u.rings, cplOut := u.cplOut, testq := u.testq }

theorem RingOpsOnly.refl (s : State) : RingOpsOnly P s s := ⟨fun _ _ => rfl, fun _ h => h, rfl, rfl⟩

theorem RingOpsOnly.trans (h : RingOpsOnly P s t) (k : RingOpsOnly P t u) : RingOpsOnly P s u := by
  refine ⟨fun f hf => (k.regs f hf).trans (h.regs f hf), fun _ hc => k.occ (h.occ hc), ?_, ?_⟩
  · rw [k.chain, h.chain]
  · rw [k.rest, h.rest]

theorem RingOpsOnly.ite {c : Prop} [Decidable c] (h : RingOpsOnly P s t) (k : RingOpsOnly P s u) : RingOpsOnly P s (if c then t else u) := by
  split <;> assumption

theorem RingOpsOnly.fwd (h : RingOpsOnly P s u) : u.frame = s.frame ∧ u.xps = s.xps ∧ u.auxq = s.auxq ∧ u.tiles = s.tiles := by
  rw [h.rest]
  exact ⟨rfl, rfl, rfl, rfl⟩

theorem State.put_ringOpsOnly (s : State) {f : Fld} (hf : ∀ g, P g → Fld.key g ≠ Fld.key f) (v : Nat) : RingOpsOnly P s (s.put f v) :=
  ⟨fun g hg => State.get_put_ne _ _ (hf g hg), fun _ h => h, rfl, rfl⟩

theorem State.setRing_ringOpsOnly (s : State) (r : Nat) (q : Ring) : RingOpsOnly P s (s.setRing r q) := ⟨fun _ _ => rfl, fun _ h => h, rfl, rfl⟩

theorem State.setExec_ringOpsOnly (s : State) (r : Nat) (f : Exec → Exec) : RingOpsOnly P s (s.setExec r f) := s.setRing_ringOpsOnly r _

theorem Spared.putRing (hP : Spared P r) (s : State) {f : Fld} (hf : f ∈ ringWrites r) (v : Nat) : RingOpsOnly P s (s.put f v) :=
  s.put_ringOpsOnly (fun g hg => hP.ring g hg f hf) v

theorem Spared.post (hP : Spared P r) (s : State) (c v p : Nat) : RingOpsOnly P s (s.post c v p) := by
  have h := s.post_eventOnly c v p
  refine ⟨fun f hf => h.regs f (hP.event f hf), fun _ hc => State.mem_post_occ s v p hc, h.chain, ?_⟩
  rw [h.rest]

theorem Spared.memPut (hP : Spared P r) (s : State) (a : Nat) (v : Word) : RingOpsOnly P s (s.memPut a v) := by
  refine ⟨fun f hf => State.get_memPut _ _ _ (hP.cancel f hf), ?_, ?_, ?_⟩
  all_goals
    unfold State.memPut
    split
  · exact fun _ h => h
  · exact fun _ h => h
  all_goals rfl

theorem Spared.bankWrite (hP : Spared P r) (s : State) (w : Nat) (v : Word) : RingOpsOnly P s (s.bankWrite 6 w v) := by
  by_cases hup : s.bankUp 6 = true
  · rw [s.bankWrite_six hup]
    exact hP.memPut s _ v
  · rw [State.bankWrite, if_pos hup]
    exact .refl s

theorem Spared.setPointer (hP : Spared P r) (s : State) (v : Nat) :
    RingOpsOnly P s (s.setHead r v) ∧ RingOpsOnly P s (s.setTail r v) :=
  ⟨(hP.putRing s (by simp [ringWrites]) v).trans (hP.putRing _ (by simp [ringWrites]) _),
    (hP.putRing s (by simp [ringWrites]) v).trans (hP.putRing _ (by simp [ringWrites]) _)⟩

theorem Spared.ringPush (hP : Spared P r) (s : State) (ws : List Nat) : RingOpsOnly P s (s.ringPush r ws) := by
  induction ws generalizing s with
  | nil => exact .refl s
  | cons v l ih => exact ((hP.bankWrite s _ _).trans (hP.setPointer _ _).2).trans (ih _)

theorem Spared.afterCpl (hP : Spared P r) (s : State) (w : Nat × Nat) : RingOpsOnly P s (s.afterCpl r w) := by
  unfold State.afterCpl
  extract_lets +onlyGivenNames w0 seq status h q nw done x y
  have hy : RingOpsOnly P s y := (s.setRing_ringOpsOnly r _).trans (.ite (.refl x) ⟨fun _ _ => rfl, fun _ h => h, rfl, rfl⟩)
  clear_value y
  refine .ite ?_ ((hy.trans (hP.setPointer y _).1).trans (hP.putRing _ (by simp [ringWrites]) 1))
  refine RingOpsOnly.trans ?_ (hP.post _ _ _ _)
  exact ((hy.trans (hP.putRing y (by simp [ringWrites]) 3)).trans (hP.putRing _ (by simp [ringWrites]) _)).trans
    (hP.putRing _ (by simp [ringWrites]) _)

theorem Spared.complete (hP : Spared P r) (hc : ∀ c < 64, Spared P c) (s : State) (seq opc st res : Nat) :
    RingOpsOnly P s (s.complete r seq opc st res) := by
  unfold State.complete
  exact .ite ((s.setRing_ringOpsOnly r _).trans (hP.putRing _ (by simp [ringWrites]) 4))
    (((hc _ (Nat.mod_lt _ (by decide))).ringPush s _).trans (hP.afterCpl _ _))

theorem Spared.finish (hP : Spared P r) (hc : ∀ c < 64, Spared P c) (s : State) (st res : Nat) : RingOpsOnly P s (s.finish r st res) := by
  unfold State.finish
  split
  · exact hP.complete hc s _ _ _ _
  · exact .refl s

/-- A field outside the pages of the rings and the annals that neither an event nor a store to bank 6 changes. -/
def OffRingOps (f : Fld) : Prop :=
  f.lo < 64 ∧ (f.addr < 0xE03000 ∨ 0xE03800 ≤ f.addr) ∧ (f.addr < 0xE10000 ∨ 0xE10100 ≤ f.addr) ∧ f.addr ≠ 0xE0E008 ∧
    f.addr ≠ 0xE0E020 ∧ f.addr ≠ 0xE11048

theorem spared_offRingOps (hr : r < 64) : Spared OffRingOps r := by
  refine ⟨fun f ⟨h1, h2, h3, h4, h5, h6⟩ => fldIn_eq_false_of_addr h1 fun g hg => ?_, fun f ⟨h1, h2, h3, h4, h5, h6⟩ =>
    key_ne_of_addr_ne h1 (by decide) h6, fun f ⟨h1, h2, _⟩ g hg => ?_⟩
  · simp only [eventFlds, List.mem_cons, List.not_mem_nil, or_false] at hg
    rcases hg with rfl | rfl | rfl | rfl | rfl | rfl | rfl
    all_goals
      refine ⟨by decide, ?_⟩
      simp only [NVS_STAT_BUF_LEVEL, NVS_STAT_FLUSHING, NVS_CNT_REPEATS, NVS_CNT_DROPPED, NVS_SUM_LOST, TWB_ALERT_STAT_SRC, TWB_STAT_ANSWERED]
      omega
  · simp only [ringWrites, List.mem_cons, List.not_mem_nil, or_false] at hg
    rcases hg with rfl | rfl | rfl | rfl | rfl | rfl
    all_goals
      simp only [Fld.key, RING_STAT_STATE, RING_STAT_HALT_SEQ, RING_STAT_HALT_STATUS, RING_HEAD_HEAD, RING_TAIL_TAIL, RING_STAT_LEVEL]
      omega

/-- A field that no ring's operations write, whatever the ring's number. -/
def OffEveryRing (f : Fld) : Prop :=
  f.lo < 64 ∧ f.lo ≠ 0 ∧ f.lo ≠ 8 ∧ f.lo ≠ 10 ∧ f.lo ≠ 16 ∧ f.lo ≠ 48 ∧ (f.lo ≠ 32 ∨ f.addr < 0xE10000)

theorem spared_offEveryRing (r : Nat) : Spared OffEveryRing r := by
  refine ⟨fun f ⟨h1, h2, h3, h4, h5, h6, h7⟩ => ?_, fun f ⟨h1, h2, h3, h4, h5, h6, h7⟩ => ?_, fun f ⟨h1, h2, h3, h4, h5, h6, h7⟩ g hg => ?_⟩
  · rw [fldIn, List.any_eq_false]
    intro g hg
    rw [beq_iff_eq]
    simp only [eventFlds, List.mem_cons, List.not_mem_nil, or_false] at hg
    rcases hg with rfl | rfl | rfl | rfl | rfl | rfl | rfl
    all_goals
      simp only [Fld.key, NVS_STAT_BUF_LEVEL, NVS_STAT_FLUSHING, NVS_CNT_REPEATS, NVS_CNT_DROPPED, NVS_SUM_LOST, TWB_ALERT_STAT_SRC,
        TWB_STAT_ANSWERED]
      omega
  · simp only [Fld.key, CUR_CNT_WB_CANCEL]
    omega
  · simp only [ringWrites, List.mem_cons, List.not_mem_nil, or_false] at hg
    rcases hg with rfl | rfl | rfl | rfl | rfl | rfl
    all_goals
      simp only [Fld.key, RING_STAT_STATE, RING_STAT_HALT_SEQ, RING_STAT_HALT_STATUS, RING_HEAD_HEAD, RING_TAIL_TAIL, RING_STAT_LEVEL]
      omega

theorem State.finish_ringOpsOnly (s : State) (hr : r < 64) (st res : Nat) : RingOpsOnly OffRingOps s (s.finish r st res) :=
  (spared_offRingOps hr).finish (fun _ hc => spared_offRingOps hc) s st res

/-- A completion, whatever the ring's number. -/
theorem State.finish_offEveryRing (s : State) (r st res : Nat) : RingOpsOnly OffEveryRing s (s.finish r st res) :=
  (spared_offEveryRing r).finish (fun c _ => spared_offEveryRing c) s st res

/-- A ring that a command has completed on has none in execution. -/
theorem State.afterCpl_exec (s : State) (r : Nat) (w : Nat × Nat) : ((s.afterCpl r w).ring r).exec = none := by
  unfold State.afterCpl
  extract_lets +onlyGivenNames w0 seq status h q nw done x y
  have hring : y.ring r = x.ring r := by
    unfold y
    split <;> rfl
  have hexec : (y.ring r).exec = none := by
    rw [hring, State.ring_setRing_same]
  clear_value y
  split_ifs
  · rw [State.ring_post, State.ring_put, State.ring_put, State.ring_put]
    exact hexec
  · rw [State.ring_put, State.setHead, State.showLevel, State.ring_put, State.ring_put]
    exact hexec

theorem State.finish_exec (s : State) (r st res : Nat) : ((s.finish r st res).ring r).exec = none := by
  unfold State.finish
  split
  · unfold State.complete
    dsimp only
    split
    · rw [State.ring_put, State.ring_setRing_same]
    · exact State.afterCpl_exec _ r _
  · next h => exact h

/-! ### A command in execution while its engine works -/

/-- In `u`, the command that ring `r` took up at its HEAD in `s` is in execution, and the rings' registers are as they were. -/
structure InExecution (s : State) (r : Nat) (u : State) : Prop where
  exec : (u.ring r).exec.map (fun e => (e.seq, e.words)) = some (s.headSeq r, s.headWords r)
  retry : (u.ring r).retrySeq = (s.ring r).retrySeq
  frame : u.frame = s.frame
  busy : u.get (RING_STAT_STATE r) = 2
  regs : ∀ f : Fld, f.lo < 64 → 0xE03000 ≤ f.addr → f.addr < 0xE03800 → f.addr % 32 ≠ 24 → u.get f = s.get f

theorem State.takenUp_inExecution (s : State) (r : Nat) : InExecution s r (s.takenUp r) := by
  refine ⟨?_, ?_, rfl, s.get_takenUp_state r, fun f h1 h2 h3 h4 =>
    s.get_takenUp r (key_ne_of_addr_ne h1 (by simp [RING_STAT_STATE]) (by simp only [RING_STAT_STATE]; omega))⟩
  · rw [State.ring_takenUp]
    rfl
  · rw [State.ring_takenUp]

theorem InExecution.kept (h : InExecution s r t) (hr : r < 64) (k : RingsKept t u) : InExecution s r u := by
  obtain ⟨h1, h2, h3, h4, h5⟩ := h
  refine ⟨by rw [k.ring, h1], by rw [k.ring, h2], k.frame.trans h3, ?_, fun f hlo ha hb hc => (k.get f hlo ha hb).trans (h5 f hlo ha hb hc)⟩
  rw [k.get _ (by simp [RING_STAT_STATE]) (by simp only [RING_STAT_STATE]; omega) (by simp only [RING_STAT_STATE]; omega), h4]

theorem InExecution.setExec (h : InExecution s r t) {f : Exec → Exec} (hseq : ∀ e, (f e).seq = e.seq) (hwords : ∀ e, (f e).words = e.words) :
    InExecution s r (t.setExec r f) := by
  obtain ⟨h1, h2, h3, h4, h5⟩ := h
  refine ⟨?_, by rw [State.ring_setExec, h2], h3, h4, h5⟩
  rw [State.ring_setExec, ← h1, Option.map_map]
  refine congrArg (Option.map · (t.ring r).exec) (funext fun e => ?_)
  rw [Function.comp_apply, hseq, hwords]

theorem InExecution.runs (h : InExecution s r u) : Runs s r u := ⟨h.busy, h.exec⟩

theorem cplFull_congr (hr : r < 64) (h : ∀ f : Fld, f.lo < 64 → 0xE03000 ≤ f.addr → f.addr < 0xE03800 → f.addr % 32 ≠ 24 → t.get f = s.get f) :
    t.cplFull r = s.cplFull r ∧ t.cplRing r = s.cplRing r ∧ (∀ c i, c < 64 → t.ringWord c i = s.ringWord c i) := by
  have hget {f : Fld} (hf : f.lo < 64 ∧ 0xE03000 ≤ f.addr ∧ f.addr < 0xE03800 ∧ f.addr % 32 ≠ 24) : t.get f = s.get f :=
    h f hf.1 hf.2.1 hf.2.2.1 hf.2.2.2
  have hc : t.cplRing r = s.cplRing r := by
    rw [State.cplRing, hget (by simp only [RING_CFG_CPL_RING]; omega), State.cplRing]
  refine ⟨?_, hc, fun c i hlt => State.ringWord_congr (hget (by simp only [RING_CFG_BASE]; omega))
    (hget (by simp only [RING_CFG_SIZE]; omega)) i⟩
  have hlt : s.cplRing r < 64 := Nat.mod_lt _ (by decide)
  unfold State.cplFull State.ringIs State.ringSize State.ringLevel State.on
  rw [hc]
  generalize s.cplRing r = c at hlt ⊢
  dsimp only
  rw [hget (f := RING_CFG_EN c), hget (f := RING_CFG_KIND c), hget (f := RING_CFG_SIZE c), hget (f := RING_TAIL_TAIL c),
    hget (f := RING_HEAD_HEAD c)]
  all_goals
    simp only [RING_CFG_EN, RING_CFG_KIND, RING_CFG_SIZE, RING_TAIL_TAIL, RING_HEAD_HEAD]
    omega

theorem InExecution.finish_eq (h : InExecution s r u) (st res : Nat) :
    u.finish r st res = u.complete r (s.headSeq r) ((s.headWords r).headD 0 % 256) st res := by
  obtain ⟨e, he, hw⟩ := Option.map_eq_some_iff.1 h.exec
  obtain ⟨hseq, hwords⟩ := Prod.mk.inj hw
  rw [State.finish, he]
  dsimp only at hseq hwords ⊢
  rw [hseq, hwords]

theorem InExecution.completes (h : InExecution s r u) (hr : r < 64) {st : Nat} (res : Nat) (hst : st < 256) :
    Completes s r st res (u.finish r st res) := by
  have key := u.complete_shown r (s.headSeq r) ((s.headWords r).headD 0 % 256) res hst
  rw [(cplFull_congr hr h.regs).1, h.retry, cplWords_congr h.frame] at key
  rw [h.finish_eq]
  exact key

/-- The completion changes no byte of bank 6 but those of its own two words. -/
theorem InExecution.finish_bytes (h : InExecution s r u) (hr : r < 64) (hup : u.bankUp 6 = true) (st res : Nat) {x : Nat}
    (ha : x < bankAddr 6 (s.ringWord (s.cplRing r) (s.get (RING_TAIL_TAIL (s.cplRing r)))) ∨
      bankAddr 6 (s.ringWord (s.cplRing r) (s.get (RING_TAIL_TAIL (s.cplRing r)))) + 8 ≤ x)
    (hb : x < bankAddr 6 (s.ringWord (s.cplRing r) ((s.get (RING_TAIL_TAIL (s.cplRing r)) + 1) % 65536)) ∨
      bankAddr 6 (s.ringWord (s.cplRing r) ((s.get (RING_TAIL_TAIL (s.cplRing r)) + 1) % 65536)) + 8 ≤ x) :
    (u.finish r st res).memByte x = u.memByte x := by
  rw [h.finish_eq]
  cases hfull : u.cplFull r with
  | true =>
    rw [State.complete]
    dsimp only
    rw [if_pos hfull]
    rfl
  | false =>
    obtain ⟨-, hc, hword⟩ := cplFull_congr hr h.regs
    have hlt : s.cplRing r < 64 := Nat.mod_lt _ (by decide)
    obtain ⟨-, -, -, hbytes⟩ := u.complete_written hup hfull (s.headSeq r) ((s.headWords r).headD 0 % 256) st res
    have htail : u.get (RING_TAIL_TAIL (s.cplRing r)) = s.get (RING_TAIL_TAIL (s.cplRing r)) := by
      apply h.regs
      all_goals
        simp only [RING_TAIL_TAIL]
        omega
    simp only [hc, htail, hword _ _ hlt] at hbytes
    exact hbytes x ha hb

end Sys2Proof.Machine
end

section
/-! Bytes of bank 6 (R400): one byte at a time into a word, and the words that a command reads. -/

namespace Sys2Proof.Machine

variable {s t u : State} {r : Nat}

/-! ### The bytes of a word -/

theorem cellsRead_lt (d : Byte) (m : List Host.Cell) (a n : Nat) : cellsRead d m a n < 256 ^ n := by
  induction n generalizing a with
  | zero => exact Nat.one_pos
  | succ n ih =>
    have hb : (mapGet d m a).toNat < 256 := (mapGet d m a).isLt
    have := ih (a + 1)
    rw [cellsRead, pow_succ]
    omega

/-- Byte `i` of a little-endian value. -/
theorem cellsRead_byte (d : Byte) (m : List Host.Cell) (a : Nat) {n i : Nat} (h : i < n) :
    cellsRead d m a n / 256 ^ i % 256 = (mapGet d m (a + i)).toNat := by
  induction n generalizing a i with
  | zero => omega
  | succ n ih =>
    have hb : (mapGet d m a).toNat < 256 := (mapGet d m a).isLt
    cases i with
    | zero =>
      simp only [cellsRead, pow_zero, Nat.add_zero, Nat.div_one]
      omega
    | succ i =>
      have hdiv : ((mapGet d m a).toNat + 256 * cellsRead d m (a + 1) n) / 256 = cellsRead d m (a + 1) n := by omega
      rw [cellsRead, pow_succ', ← Nat.div_div_eq_div_mul, hdiv, ih (a + 1) (by omega)]
      congr 2
      omega

theorem State.memWord_byte (s : State) (a : Nat) {i : Nat} (h : i < 8) : (s.memWord a).toNat / 256 ^ i % 256 = (s.memByte (a + i)).toNat := by
  have hlt : cellsRead 0 s.mem a 8 < 2 ^ 64 := cellsRead_lt 0 s.mem a 8
  rw [State.memWord, BitVec.toNat_ofNat, Nat.mod_eq_of_lt hlt, cellsRead_byte _ _ _ h, State.memByte]

/-- A word with byte `q` replaced by `v` (R400). -/
def withByte (old q v : Nat) : Nat := old % 2 ^ (8 * q) + 2 ^ (8 * q) * (v % 256) + old / 2 ^ (8 * q + 8) * 2 ^ (8 * q + 8)

theorem withByte_eq (old q v : Nat) : withByte old q v = old % 256 ^ q + 256 ^ q * (v % 256 + 256 * (old / 256 ^ (q + 1))) := by
  have h1 : 2 ^ (8 * q) = 256 ^ q := by rw [pow_mul]; rfl
  have h2 : 2 ^ (8 * q + 8) = 256 ^ q * 256 := by rw [pow_add, h1]; rfl
  rw [withByte, h1, h2, pow_succ]
  ring

theorem withByte_lt {old q : Nat} (hold : old < 2 ^ 64) (hq : q < 8) (v : Nat) : withByte old q v < 2 ^ 64 := by
  have hv : v % 256 < 256 := Nat.mod_lt _ (by decide)
  rw [withByte]
  interval_cases q <;> omega

theorem withByte_byte (old q v i : Nat) : withByte old q v / 256 ^ i % 256 = if i = q then v % 256 else old / 256 ^ i % 256 := by
  have hpos : 0 < 256 ^ q := Nat.pow_pos (by decide)
  have hlow : old % 256 ^ q < 256 ^ q := Nat.mod_lt _ hpos
  have hdiv : withByte old q v / 256 ^ q = v % 256 + 256 * (old / 256 ^ (q + 1)) := by
    rw [withByte_eq, Nat.add_mul_div_left _ _ hpos, Nat.div_eq_of_lt hlow, Nat.zero_add]
  rcases Nat.lt_trichotomy i q with h | h | h
  · have hdvd : 256 ^ i * 256 ∣ 256 ^ q := by
      rw [← pow_succ]
      exact Nat.pow_dvd_pow 256 h
    have hmod : withByte old q v % (256 ^ i * 256) = old % (256 ^ i * 256) := by
      rw [withByte_eq, ← Nat.mod_mod_of_dvd old hdvd, Nat.add_mod, Nat.mod_mod_of_dvd _ hdvd,
        Nat.mod_eq_zero_of_dvd (Dvd.dvd.mul_right hdvd _), Nat.add_zero, Nat.mod_mod]
    rw [if_neg (by omega), ← Nat.mod_mul_right_div_self, hmod, Nat.mod_mul_right_div_self]
  · rw [h, if_pos rfl, hdiv]
    omega
  · obtain ⟨k, rfl⟩ : ∃ k, i = q + 1 + k := ⟨i - q - 1, by omega⟩
    have hsucc : (v % 256 + 256 * (old / 256 ^ (q + 1))) / 256 = old / 256 ^ (q + 1) := by omega
    rw [if_neg (by omega), pow_add, ← Nat.div_div_eq_div_mul, ← Nat.div_div_eq_div_mul, pow_succ, ← Nat.div_div_eq_div_mul, hdiv, hsucc,
      pow_succ]

/-! ### Bytes stored in bank 6 (R400) -/

/-- One byte of a transfer goes into its word of bank 6. -/
def State.auxStoreByte (s : State) (w : Nat) (p : Nat × Nat) : State :=
  s.bankWrite 6 (w + p.2 / 8) (BitVec.ofNat 64 (withByte (s.peek6 (w + p.2 / 8)) (p.2 % 8) p.1))

theorem State.auxStore_eq (s : State) (w : Nat) (l : List Nat) :
    s.auxStore w l = l.zipIdx.foldl (fun s p => s.auxStoreByte w p) s := rfl

theorem State.auxStoreByte_shown (s : State) (hup : s.bankUp 6 = true) (w v i x : Nat) :
    ((s.auxStoreByte w (v, i)).memByte x).toNat = if x = bankAddr 6 w + i then v % 256 else (s.memByte x).toNat := by
  rw [State.auxStoreByte, s.bankWrite_six hup]
  dsimp only
  have haddr : bankAddr 6 (w + i / 8) + i % 8 = bankAddr 6 w + i := by
    unfold bankAddr
    omega
  have hold : (s.peek6 (w + i / 8)) < 2 ^ 64 := (s.memWord _).isLt
  have hbyte {k : Nat} (hk : k < 8) := s.memWord_byte (bankAddr 6 (w + i / 8)) hk
  change ∀ {k : Nat}, k < 8 → s.peek6 (w + i / 8) / 256 ^ k % 256 = _ at hbyte
  generalize s.peek6 (w + i / 8) = old at *
  generalize bankAddr 6 (w + i / 8) = a at *
  by_cases hx : a ≤ x ∧ x < a + 8
  · obtain ⟨k, hk, rfl⟩ : ∃ k, k < 8 ∧ x = a + k := ⟨x - a, by omega, by omega⟩
    rw [← State.memWord_byte _ a hk, State.memWord_memPut_same, BitVec.toNat_ofNat,
      Nat.mod_eq_of_lt (withByte_lt hold (Nat.mod_lt _ (by decide)) v), withByte_byte, hbyte hk]
    by_cases h : k = i % 8
    · rw [if_pos h, if_pos (by omega)]
    · rw [if_neg h, if_neg (by omega)]
  · rw [State.memPut_sameOutside _ _ _ x (by omega), if_neg (by omega)]

/-! ### What the auxiliary controller's accesses to bank 6 keep -/

/-- The rings, the auxiliary controller's registers and queue, and the states of the banks are kept. -/
structure AuxKept (s u : State) : Prop where
  rings : RingsKept s u
  auxq : u.auxq = s.auxq
  get : ∀ f : Fld, f.lo < 64 → (0xE0E028 ≤ f.addr ∧ f.addr < 0xE0E048 ∨ f.addr = 0xE0F010) → u.get f = s.get f

theorem AuxKept.refl (s : State) : AuxKept s s := ⟨.refl s, rfl, fun _ _ _ => rfl⟩

theorem AuxKept.trans (h : AuxKept s t) (k : AuxKept t u) : AuxKept s u :=
  ⟨h.rings.trans k.rings, k.auxq.trans h.auxq, fun f h1 h2 => (k.get f h1 h2).trans (h.get f h1 h2)⟩

theorem AuxKept.put (h : AuxKept s t) {f : Fld} (hf : OffRings f) (ha : f.addr < 0xE0E028 ∨ 0xE0E048 ≤ f.addr) (hb : f.addr ≠ 0xE0F010)
    (v : Nat) : AuxKept s (t.put f v) := by
  refine ⟨h.rings.put hf v, h.auxq, fun g h1 h2 => ?_⟩
  rw [State.get_put_ne _ _ (key_ne_of_addr_ne h1 hf.1 (by omega)), h.get g h1 h2]

theorem AuxKept.other (h : AuxKept s t) (hr : u.regs = t.regs) (hrings : u.rings = t.rings) (hframe : u.frame = t.frame)
    (hq : u.auxq = t.auxq) : AuxKept s u :=
  ⟨h.rings.other hr hrings hframe, hq.trans h.auxq, fun f h1 h2 => by rw [State.get, hr, ← State.get, h.get f h1 h2]⟩

theorem AuxKept.bankUp (h : AuxKept s u) {b : Nat} (hb : b < 8) : u.bankUp b = s.bankUp b ∧ u.bankRetired b = s.bankRetired b := by
  have hget : u.get (MEM_BANK_STAT_STATE b) = s.get (MEM_BANK_STAT_STATE b) :=
    h.get _ (by simp only [MEM_BANK_STAT_STATE]; omega) (Or.inr rfl)
  rw [State.bankUp, State.bankRetired, hget, ← State.bankUp, ← State.bankRetired]
  exact ⟨rfl, rfl⟩

theorem State.post_ringsKept (s : State) (c v p : Nat) : RingsKept s (s.post c v p) := by
  have h := s.post_eventOnly c v p
  refine ⟨by rw [h.rest], by rw [h.rest], fun f h1 h2 h3 => h.regs f (fldIn_eventFlds_of_page ⟨h1, by omega, by omega⟩)⟩

theorem State.post_auxKept (s : State) (c v p : Nat) : AuxKept s (s.post c v p) := by
  refine ⟨s.post_ringsKept c v p, by rw [(s.post_eventOnly c v p).rest], fun f h1 h2 => State.get_post ?_⟩
  refine fldIn_eq_false_of_addr h1 fun g hg => ?_
  simp only [eventFlds, List.mem_cons, List.not_mem_nil, or_false] at hg
  rcases hg with rfl | rfl | rfl | rfl | rfl | rfl | rfl
  all_goals
    refine ⟨by decide, ?_⟩
    simp only [NVS_STAT_BUF_LEVEL, NVS_STAT_FLUSHING, NVS_CNT_REPEATS, NVS_CNT_DROPPED, NVS_SUM_LOST, TWB_ALERT_STAT_SRC, TWB_STAT_ANSWERED]
    omega

theorem State.memPut_auxKept (s : State) (a : Nat) (v : Word) : AuxKept s (s.memPut a v) := by
  unfold State.memPut
  refine AuxKept.other (t := if mapGet 0 s.wb (a / 8) = 2 then s.bump CUR_CNT_WB_CANCEL else s) ?_ rfl rfl rfl rfl
  split
  · exact (AuxKept.refl s).put (by simp [OffRings, CUR_CNT_WB_CANCEL]) (by simp [CUR_CNT_WB_CANCEL]) (by simp [CUR_CNT_WB_CANCEL]) _
  · exact .refl s

theorem State.auxStoreByte_auxKept (s : State) (hup : s.bankUp 6 = true) (w : Nat) (p : Nat × Nat) : AuxKept s (s.auxStoreByte w p) := by
  rw [State.auxStoreByte, s.bankWrite_six hup]
  exact s.memPut_auxKept _ _

/-- R400: the bytes are in bank 6, one after another from byte `n` of word `w` on. -/
theorem State.auxStore_shown (l : List Nat) (s : State) (hup : s.bankUp 6 = true) (w n : Nat) :
    let u := (l.zipIdx n).foldl (fun s p => s.auxStoreByte w p) s
    (∀ j, j < l.length → (u.memByte (bankAddr 6 w + (n + j))).toNat = l.getD j 0 % 256) ∧
      (∀ x, x < bankAddr 6 w + n → u.memByte x = s.memByte x) ∧ AuxKept s u := by
  induction l generalizing s n with
  | nil => exact ⟨fun j hj => absurd hj (Nat.not_lt_zero j), fun _ _ => rfl, .refl s⟩
  | cons v l ih =>
    have hkept := s.auxStoreByte_auxKept hup w (v, n)
    obtain ⟨h1, h2, h3⟩ := ih (s.auxStoreByte w (v, n)) ((hkept.bankUp (by decide)).1.trans hup) (n + 1)
    have hshown := s.auxStoreByte_shown hup w v n
    dsimp only at h1 h2 h3 ⊢
    rw [List.zipIdx_cons, List.foldl_cons]
    refine ⟨fun j hj => ?_, fun x hx => ?_, hkept.trans h3⟩
    · cases j with
      | zero => rw [h2 _ (by omega), hshown, if_pos (by omega), List.getD_cons_zero]
      | succ j =>
        rw [List.getD_cons_succ, ← h1 j (by simpa using hj)]
        congr 2
        omega
    · rw [h2 x (by omega)]
      apply BitVec.eq_of_toNat_eq
      rw [hshown, if_neg (by omega)]

/-! ### The words that a command reads -/

theorem State.memUe_auxKept (s : State) {b : Nat} (hb : b < 8) (w cls : Nat) : AuxKept s (s.memUe b w cls) ∧ (s.memUe b w cls).ecc = s.ecc := by
  unfold State.memUe
  extract_lets s1 s2 s3
  have hput {t : State} (h : AuxKept s t) {f : Fld} (hlo : f.lo < 64) (ha : 0xE0F018 ≤ f.addr) (v : Nat) : AuxKept s (t.put f v) :=
    h.put ⟨hlo, Or.inr (by omega)⟩ (Or.inr (by omega)) (by omega) v
  have h1 : AuxKept s s1 := hput (.refl s) (by simp [MEM_ECC_CNT_UNCORR]) (by simp only [MEM_ECC_CNT_UNCORR]; omega) _
  have h2 : AuxKept s s2 := hput (hput (hput h1 (by simp [MEM_ECC_LAST_WORD]) (by simp only [MEM_ECC_LAST_WORD]; omega) _)
    (by simp [MEM_ECC_LAST_CLASS]) (by simp only [MEM_ECC_LAST_CLASS]; omega) _) (by simp [MEM_ECC_LAST_VALID])
    (by simp only [MEM_ECC_LAST_VALID]; omega) _
  have h3 : AuxKept s s3 := (hput h2 (f := MEM_SUM_UE) (by decide) (by decide) 1).trans (State.post_auxKept _ _ _ _)
  have hecc : s3.ecc = s.ecc := by
    unfold s3
    rw [(State.post_eventOnly _ _ _ _).rest]
    rfl
  exact ⟨h3.other rfl rfl rfl rfl, hecc⟩

theorem State.memCorrected_auxKept (s : State) (b w : Nat) : AuxKept s (s.memCorrected b w) ∧ (s.memCorrected b w).ecc = s.ecc := by
  unfold State.memCorrected State.queueWb
  refine ⟨AuxKept.other (t := s.bump (MEM_ECC_CNT_CORRECTED b)) ?_ rfl rfl rfl rfl, rfl⟩
  refine (AuxKept.refl s).put ⟨by simp [MEM_ECC_CNT_CORRECTED], Or.inr ?_⟩ (Or.inr ?_) ?_ _
  all_goals
    simp only [MEM_ECC_CNT_CORRECTED]
    omega

/-- R413: a command's read of a word of bank 6 is an error exactly where the word is uncorrectable. -/
theorem State.read6_shown (s : State) (hup : s.bankUp 6 = true) (w : Nat) :
    ((s.read6 w).1.2 = true ↔ s.mark (bankAddr 6 w) = 2) ∧ AuxKept s (s.read6 w).2 ∧ (s.read6 w).2.ecc = s.ecc := by
  have hretired : s.bankRetired 6 = false := by
    rw [State.bankUp, Bool.or_eq_true, beq_iff_eq, beq_iff_eq] at hup
    rw [State.bankRetired, beq_eq_false_iff_ne]
    omega
  rw [State.read6, State.bankCmdRead, if_neg (by rw [hretired]; decide), State.bankWord, if_neg (by simp)]
  dsimp only
  split_ifs with h2 h1
  · obtain ⟨k1, k2⟩ := s.memUe_auxKept (b := 6) (by decide) w 2
    exact ⟨iff_of_true rfl h2, k1, k2⟩
  · obtain ⟨k1, k2⟩ := s.memCorrected_auxKept 6 w
    exact ⟨iff_of_false (by decide) h2, k1, k2⟩
  · exact ⟨iff_of_false (by decide) h2, .refl s, rfl⟩

theorem State.read6s_shown (n : Nat) (s : State) (hup : s.bankUp 6 = true) (w : Nat) :
    ((s.read6s w n).1.2 = true ↔ ∃ j, j < n ∧ s.mark (bankAddr 6 (w + j)) = 2) ∧ AuxKept s (s.read6s w n).2 ∧
      (s.read6s w n).2.ecc = s.ecc := by
  induction n generalizing s w with
  | zero => exact ⟨iff_of_false Bool.false_ne_true fun ⟨j, hj, _⟩ => absurd hj (Nat.not_lt_zero j), .refl s, rfl⟩
  | succ n ih =>
    obtain ⟨h1, h2, h3⟩ := s.read6_shown hup w
    obtain ⟨k1, k2, k3⟩ := ih (s.read6 w).2 ((h2.bankUp (by decide)).1.trans hup) (w + 1)
    refine ⟨?_, h2.trans k2, k3.trans h3⟩
    have hmark (a : Nat) : (s.read6 w).2.mark a = s.mark a := by rw [State.mark, h3, State.mark]
    simp only [State.read6s, Bool.or_eq_true, h1, k1, hmark]
    constructor
    · rintro (h | ⟨j, hj, h⟩)
      · exact ⟨0, by omega, h⟩
      · exact ⟨j + 1, by omega, by rwa [Nat.add_assoc, Nat.add_comm 1 j] at h⟩
    · rintro ⟨j, hj, h⟩
      cases j with
      | zero => exact Or.inl h
      | succ j => exact Or.inr ⟨j, by omega, by rwa [Nat.add_assoc, Nat.add_comm 1 j]⟩

end Sys2Proof.Machine
end

section
/-! AUX_XFER and AUX_CLEAR (R399 to R405). -/

namespace Sys2Proof.Machine

variable {s t u : State} {r : Nat} {ws read : List Nat}

/-! ### A command that joins the auxiliary queue -/

/-- In `u`, ring `r`'s auxiliary command, taken up in `s`, waits for the bus or has it. -/
structure Joined (s : State) (r : Nat) (u : State) : Prop where
  running : InExecution s r u
  exec : (u.ring r).exec = some (s.headExec r)
  auxq : u.auxq = s.auxq ++ [r]
  up : u.bankUp 6 = true
  waiting : u.get TWB_AUX_STAT_STATE = 1
  get : ∀ f : Fld, f.lo < 64 → 0xE0E028 ≤ f.addr → f.addr < 0xE0E048 → Fld.key f ≠ Fld.key TWB_AUX_STAT_STATE → u.get f = s.get f

theorem State.takenUp_bankUp (h : TakesUp s r ws) : (s.takenUp r).bankUp 6 = true := by
  have hstart := h.start
  simp only [State.canStart, Bool.and_eq_true] at hstart
  obtain ⟨⟨⟨⟨⟨⟨-, hup⟩, -⟩, -⟩, -⟩, -⟩, -⟩ := hstart
  rw [State.bankUp, s.get_takenUp r (by simp only [Fld.key, MEM_BANK_STAT_STATE, RING_STAT_STATE]; omega), ← State.bankUp, hup]

theorem AuxKept.auxJoin (h : AuxKept (s.takenUp r) t) (hr : r < 64) (hup : (s.takenUp r).bankUp 6 = true) : Joined s r (t.auxJoin r) := by
  have hrings : RingsKept (s.takenUp r) (t.auxJoin r) :=
    (h.rings.other (u := { t with auxq := t.auxq ++ [r] }) rfl rfl rfl).put (by simp [OffRings, TWB_AUX_STAT_STATE]) _
  refine ⟨(s.takenUp_inExecution r).kept hr hrings, ?_, ?_, ?_, ?_, fun f h1 h2 h3 h4 => ?_⟩
  · rw [hrings.ring, State.ring_takenUp]
  · change t.auxq ++ [r] = _
    rw [h.auxq]
    rfl
  · rw [← hup, ← (h.bankUp (b := 6) (by decide)).1, State.auxJoin, State.showAux, State.bankUp, State.get_put_ne _ _ (by decide)]
    rfl
  · rw [State.auxJoin, State.showAux, State.get_put_same]
    simp [b2n, TWB_AUX_STAT_STATE]
  · rw [State.auxJoin, State.showAux, State.get_put_ne _ _ h4, ← s.get_takenUp r (f := f) ?_, ← h.get f h1 (Or.inl ⟨h2, h3⟩)]
    · rfl
    · simp only [Fld.key, RING_STAT_STATE]
      omega

theorem State.not_auxTurn (h : Joined s r u) (hq : s.auxq ≠ []) (hhead : s.auxq.head? ≠ some r) (opc : Nat) : u.auxTurn r opc = false := by
  obtain ⟨x, l, hl⟩ := List.exists_cons_of_ne_nil hq
  rw [State.auxTurn, h.auxq, hl, List.cons_append, List.head?_cons]
  rw [hl, List.head?_cons] at hhead
  rw [beq_eq_false_iff_ne.2 hhead, Bool.false_and]

theorem Joined.auxTurn (h : Joined s r u) (hq : s.auxq = []) (hws : s.headWords r = ws) {opc : Nat} (ho : ws.headD 0 % 256 = opc) :
    u.auxTurn r opc = true := by
  rw [State.auxTurn, h.auxq, hq, List.nil_append, List.head?_cons, State.executing, h.exec]
  simp only [State.headExec, hws, ho, beq_self_eq_true, Bool.and_self]

/-! ### The end of an auxiliary command -/

/-- State `y` has come from the joined state `u`: ring `r`'s command has the bus to itself. -/
structure OnBus (s : State) (r : Nat) (y : State) : Prop where
  running : InExecution s r y
  auxq : y.auxq = [r]
  up : y.bankUp 6 = true

theorem OnBus.kept (h : OnBus s r t) (hr : r < 64) (k : RingsKept t u) (hq : u.auxq = t.auxq) (hup : u.bankUp 6 = t.bankUp 6) : OnBus s r u :=
  ⟨h.running.kept hr k, hq.trans h.auxq, hup.trans h.up⟩

/-- A field of the auxiliary controller. -/
def OnAux (f : Fld) : Prop := f.lo < 64 ∧ 0xE0E028 ≤ f.addr ∧ f.addr < 0xE0E048

theorem OnBus.put (h : OnBus s r t) (hr : r < 64) {f : Fld} (hf : OnAux f) (v : Nat) : OnBus s r (t.put f v) := by
  obtain ⟨h1, h2, h3⟩ := hf
  refine h.kept hr ((RingsKept.refl t).put ⟨h1, Or.inr (by omega)⟩ v) rfl ?_
  rw [State.bankUp, State.get_put_ne _ _ (key_ne_of_addr_ne (by decide) h1 (by simp only [MEM_BANK_STAT_STATE]; omega)), State.bankUp]

theorem OnBus.auxLines (h : OnBus s r t) (hr : r < 64) (scl sda busy : Nat) : OnBus s r (t.auxLines scl sda busy) :=
  ((h.put hr (f := TWB_AUX_STAT_SCL) (by simp [OnAux, TWB_AUX_STAT_SCL]) scl).put hr (f := TWB_AUX_STAT_SDA)
    (by simp [OnAux, TWB_AUX_STAT_SDA]) sda).put hr (f := TWB_AUX_STAT_BUS_BUSY) (by simp [OnAux, TWB_AUX_STAT_BUS_BUSY]) busy

theorem OnBus.post (h : OnBus s r t) (hr : r < 64) (c v p : Nat) : OnBus s r (t.post c v p) := by
  have k := t.post_auxKept c v p
  exact h.kept hr k.rings k.auxq (k.bankUp (by decide)).1

theorem OnBus.drop (h : OnBus s r t) (hr : r < 64) : InExecution s r (t.auxDrop r) ∧ (t.auxDrop r).auxq = [] ∧
    (t.auxDrop r).get TWB_AUX_STAT_STATE = 0 := by
  have hq : (t.auxDrop r).auxq = [] := by
    change t.auxq.filter (fun q => q != r) = []
    rw [h.auxq]
    simp
  refine ⟨h.running.kept hr (((RingsKept.refl t).other (u := { t with auxq := t.auxq.filter (fun q => q != r) }) rfl rfl rfl).put
    (by simp [OffRings, TWB_AUX_STAT_STATE]) _), hq, ?_⟩
  rw [State.auxDrop, State.showAux, State.get_put_same]
  change b2n (!(t.auxq.filter (fun q => q != r)).isEmpty) % _ = 0
  rw [h.auxq]
  simp [b2n]

theorem offRingOps_of_onAux {f : Fld} (hf : OnAux f) : OffRingOps f := by
  obtain ⟨h1, h2, h3⟩ := hf
  exact ⟨h1, by omega, by omega, by omega, by omega, by omega⟩

/-- R399: the command completes and leaves the bus; the controller's other registers are as the transfer left them. -/
theorem OnBus.auxFinish (h : OnBus s r t) (hr : r < 64) {st : Nat} (res : Nat) (hst : st < 256) :
    let u := t.auxFinish r st res
    Completes s r st res u ∧ u.get TWB_AUX_STAT_STATE = 0 ∧ u.auxq = [] ∧ t.occ ⊆ u.occ ∧
      ∀ f, OnAux f → Fld.key f ≠ Fld.key TWB_AUX_STAT_STATE → u.get f = t.get f := by
  obtain ⟨h1, h2, h3⟩ := h.drop hr
  have k := (t.auxDrop r).finish_ringOpsOnly hr st res
  have hocc : t.occ ⊆ (t.auxDrop r).occ := fun _ hc => hc
  have hget (f : Fld) (hf : Fld.key f ≠ Fld.key TWB_AUX_STAT_STATE) : (t.auxDrop r).get f = t.get f := State.get_put_ne _ _ hf
  rw [State.auxFinish]
  have hc := h1.completes hr res hst
  generalize t.auxDrop r = y at *
  dsimp only
  generalize y.finish r st res = u at *
  refine ⟨hc, (k.regs _ (offRingOps_of_onAux ?_)).trans h3, ?_, fun _ hc => k.occ (hocc hc), fun f hf hne =>
    (k.regs f (offRingOps_of_onAux hf)).trans (hget f hne)⟩
  · simp [OnAux, TWB_AUX_STAT_STATE]
  · rw [k.fwd.2.2.1, h2]

theorem Joined.onBus (h : Joined s r u) (hq : s.auxq = []) : OnBus s r u := ⟨h.running, by rw [h.auxq, hq, List.nil_append], h.up⟩

/-! ### AUX_XFER -/

theorem auxXfer_of (h : TakesUp s r ws) (ho : ws.headD 0 % 256 = 0x18) (o : AuxOutcome) :
    auxXfer r read o s =
      let t := if 0x20000 < auxBuf ws + ceilDiv (auxWlen ws) 8 + ceilDiv (auxRlen ws) 8 then (s.takenUp r).finish r stBadArg 0
        else if ((s.takenUp r).auxSource ws).1.2 then ((s.takenUp r).auxSource ws).2.finish r stEcc 0
        else ((s.takenUp r).auxSource ws).2.auxJoin r
      match (t.ring r).exec with
      | some e => if t.auxTurn r 0x18 && auxPossible e.words read o then t.auxEnd r e.words read o else t
      | none => t := by
  rw [auxXfer, State.command_of_takesUp h ho rfl] <;> rfl

theorem auxXfer_bad (h : TakesUp s r ws) (ho : ws.headD 0 % 256 = 0x18) (o : AuxOutcome)
    (hfit : ¬ auxBuf ws + ceilDiv (auxWlen ws) 8 + ceilDiv (auxRlen ws) 8 ≤ 0x20000) :
    auxXfer r read o s = (s.takenUp r).finish r stBadArg 0 := by
  rw [auxXfer_of h ho, if_pos (Nat.not_le.1 hfit)]
  dsimp only
  rw [State.finish_exec]

/-- The words that an AUX_XFER writes, as the command that was taken up reads them. -/
theorem State.auxSource_shown (h : TakesUp s r ws) :
    (((s.takenUp r).auxSource ws).1.2 = true ↔ ∃ j, j < ceilDiv (auxWlen ws) 8 ∧ s.mark (bankAddr 6 (auxBuf ws + j)) = 2) ∧
      AuxKept (s.takenUp r) ((s.takenUp r).auxSource ws).2 := by
  obtain ⟨h1, h2, -⟩ := State.read6s_shown (ceilDiv (auxWlen ws) 8) (s.takenUp r) (State.takenUp_bankUp h) (auxBuf ws)
  exact ⟨h1, h2⟩

theorem auxXfer_ecc (h : TakesUp s r ws) (hr : r < 64) (ho : ws.headD 0 % 256 = 0x18) (o : AuxOutcome)
    (hfit : auxBuf ws + ceilDiv (auxWlen ws) 8 + ceilDiv (auxRlen ws) 8 ≤ 0x20000)
    (hbad : ¬ ∀ j : Nat, j < ceilDiv (auxWlen ws) 8 → s.mark (bankAddr 6 (auxBuf ws + j)) ≠ 2) :
    Completes s r stEcc 0 (auxXfer r read o s) := by
  obtain ⟨h1, h2⟩ := State.auxSource_shown h
  have hmark : ((s.takenUp r).auxSource ws).1.2 = true := h1.2 (by simpa using hbad)
  rw [auxXfer_of h ho, if_neg (Nat.not_lt.2 hfit), if_pos hmark]
  dsimp only
  rw [State.finish_exec]
  exact ((s.takenUp_inExecution r).kept hr h2.rings).completes hr 0 (by decide)

theorem auxXfer_joins (h : TakesUp s r ws) (hr : r < 64) (ho : ws.headD 0 % 256 = 0x18) (o : AuxOutcome)
    (hfit : auxBuf ws + ceilDiv (auxWlen ws) 8 + ceilDiv (auxRlen ws) 8 ≤ 0x20000)
    (hclean : ∀ j : Nat, j < ceilDiv (auxWlen ws) 8 → s.mark (bankAddr 6 (auxBuf ws + j)) ≠ 2) :
    ∃ t, Joined s r t ∧
      auxXfer r read o s = if t.auxTurn r 0x18 && auxPossible ws read o then t.auxEnd r ws read o else t := by
  obtain ⟨h1, h2⟩ := State.auxSource_shown h
  have hmark : ¬ ((s.takenUp r).auxSource ws).1.2 = true := fun k => by
    obtain ⟨j, hj, hm⟩ := h1.1 k
    exact hclean j hj hm
  have hjoin := h2.auxJoin hr (State.takenUp_bankUp h)
  refine ⟨_, hjoin, ?_⟩
  rw [auxXfer_of h ho, if_neg (Nat.not_lt.2 hfit), if_neg hmark]
  dsimp only
  rw [hjoin.exec, State.headExec, h.words]

/-- The command has begun: it counts as committed, unless the bus was never free. -/
def State.auxBegun (s : State) (r : Nat) (o : AuxOutcome) : State :=
  s.setExec r (fun e => { e with committed := e.committed || o != .timeout false })

theorem OnBus.auxBegun (h : OnBus s r t) (o : AuxOutcome) : OnBus s r (t.auxBegun r o) := by
  obtain ⟨h1, h2, h3⟩ := h
  exact ⟨h1.setExec (fun _ => rfl) (fun _ => rfl), h2, h3⟩

theorem auxEnd_nothing_read (t : State) (r : Nat) (ws : List Nat) (o : AuxOutcome) (hread : o ≠ .done) (hto : o ≠ .timeout false) :
    t.auxEnd r ws [] o = match o with
      | .nack i => ((((t.auxBegun r o).auxLines 1 1 0).bump TWB_AUX_CNT_NACKS).put TWB_SUM_AUX_NACK 1).auxFinish r stNoResource
          (i % 65536 + 2 ^ 19)
      | .arbLost i b =>
        let made := match ((t.auxBegun r o).ring r).exec with | some e => e.left | none => 0
        let s := (((t.auxBegun r o).auxLines 1 0 1).bump TWB_AUX_CNT_ARB_LOST).put TWB_SUM_AUX_ARB 1
        if made < s.get TWB_AUX_CFG_ARB_RETRY then s.setExec r (fun e => { e with left := e.left + 1 })
        else
          (s.post 0x0E05 sevWarn (pack [p16 (bits (ws.headD 0) 16 7), p16 i, p16 b, p32 made])).auxFinish r stArbLost
            (i % 65536 + 2 ^ 16 * b)
      | .arbCond i =>
        ((((t.auxBegun r o).auxLines 1 0 1).bump TWB_AUX_CNT_ARB_COND).put TWB_SUM_AUX_COND 1).auxFinish r stArbCondition i
      | _ => ((t.auxBegun r o).auxLines 0 ((t.auxBegun r o).get TWB_AUX_STAT_SDA) 1).auxFinish r stTimeout 0 := by
  cases o with
  | done => exact absurd rfl hread
  | nack i => rfl
  | arbLost i b => rfl
  | arbCond i => rfl
  | timeout started =>
    cases started with
    | false => exact absurd rfl hto
    | true => rfl

/-- The bus lines that a transfer leaves. -/
def AuxLinesAre (scl sda busy : Nat) (u : State) : Prop :=
  u.get TWB_AUX_STAT_SCL = scl ∧ u.get TWB_AUX_STAT_SDA = sda ∧ u.get TWB_AUX_STAT_BUS_BUSY = busy

theorem State.auxLines_shown (t : State) (scl sda busy : Nat) :
    AuxLinesAre (scl % 2) (sda % 2) (busy % 2) (t.auxLines scl sda busy) ∧
      ∀ f, Fld.key f ∉ [TWB_AUX_STAT_SCL, TWB_AUX_STAT_SDA, TWB_AUX_STAT_BUS_BUSY].map Fld.key → (t.auxLines scl sda busy).get f = t.get f := by
  refine ⟨⟨?_, ?_, ?_⟩, fun f hf => ?_⟩
  · rw [State.auxLines, State.get_put_ne _ _ (by decide), State.get_put_ne _ _ (by decide), State.get_put_same]
    rfl
  · rw [State.auxLines, State.get_put_ne _ _ (by decide), State.get_put_same]
    rfl
  · rw [State.auxLines, State.get_put_same]
    rfl
  · simp only [List.map_cons, List.map_nil, List.mem_cons, List.not_mem_nil, or_false, not_or] at hf
    obtain ⟨h1, h2, h3⟩ := hf
    rw [State.auxLines, State.get_put_ne _ _ h3, State.get_put_ne _ _ h2, State.get_put_ne _ _ h1]

/-- A transfer's end that counts in field `cnt` and shows in field `sum`. -/
def State.auxCount (s : State) (cnt sum : Fld) (scl sda busy : Nat) : State := ((s.auxLines scl sda busy).bump cnt).put sum 1

/-- Two fields of the controller besides the lines. -/
structure AuxCounts (cnt sum : Fld) : Prop where
  onCnt : OnAux cnt ∧ 0xE0E038 ≤ cnt.addr
  onSum : OnAux sum ∧ 0xE0E038 ≤ sum.addr
  ne : Fld.key cnt ≠ Fld.key sum
  one : 1 < 2 ^ sum.width

theorem key_ne_of_aux {f g : Fld} (hf : OnAux f ∧ 0xE0E038 ≤ f.addr) (hg : g.lo < 64 ∧ g.addr < 0xE0E038) : Fld.key f ≠ Fld.key g :=
  key_ne_of_addr_ne hf.1.1 hg.1 (by omega)

theorem State.auxCount_shown (t : State) {cnt sum : Fld} (h : AuxCounts cnt sum) (scl sda busy : Nat) :
    let u := t.auxCount cnt sum scl sda busy
    AuxLinesAre (scl % 2) (sda % 2) (busy % 2) u ∧ u.get sum = 1 ∧ u.get cnt = satNat cnt.width (t.get cnt + 1) ∧
      u.get TWB_AUX_CFG_ARB_RETRY = t.get TWB_AUX_CFG_ARB_RETRY := by
  obtain ⟨hcnt, hsum, hne, hone⟩ := h
  obtain ⟨⟨h1, h2, h3⟩, h4⟩ := t.auxLines_shown scl sda busy
  have hkeep {f : Fld} (hf : f.lo < 64 ∧ f.addr < 0xE0E038) :
      (t.auxCount cnt sum scl sda busy).get f = (t.auxLines scl sda busy).get f := by
    rw [State.auxCount, State.get_put_ne _ _ (key_ne_of_aux hsum hf).symm, State.get_bump_ne _ (key_ne_of_aux hcnt hf).symm]
  refine ⟨⟨(hkeep (by decide)).trans h1, (hkeep (by decide)).trans h2, (hkeep (by decide)).trans h3⟩, ?_, ?_,
    (hkeep (by decide)).trans (h4 _ (by decide))⟩
  · rw [State.auxCount, State.get_put_same, Nat.mod_eq_of_lt hone]
  · rw [State.auxCount, State.get_put_ne _ _ hne, State.get_bump_same, h4]
    simp only [List.map_cons, List.map_nil, List.mem_cons, List.not_mem_nil, or_false, not_or]
    exact ⟨key_ne_of_aux hcnt (by decide), key_ne_of_aux hcnt (by decide), key_ne_of_aux hcnt (by decide)⟩

theorem OnBus.auxCount (h : OnBus s r t) (hr : r < 64) {cnt sum : Fld} (hc : AuxCounts cnt sum) (scl sda busy : Nat) :
    OnBus s r (t.auxCount cnt sum scl sda busy) := ((h.auxLines hr scl sda busy).put hr hc.onCnt.1 _).put hr hc.onSum.1 1

/-- The command completes after a transfer's end that counts. -/
theorem OnBus.auxCount_finish (h : OnBus s r t) (hr : r < 64) {cnt sum : Fld} (hc : AuxCounts cnt sum) (scl sda busy : Nat) {st : Nat} (res : Nat)
    (hst : st < 256) :
    let u := (t.auxCount cnt sum scl sda busy).auxFinish r st res
    Completes s r st res u ∧ AuxLinesAre (scl % 2) (sda % 2) (busy % 2) u ∧ u.get TWB_AUX_STAT_STATE = 0 ∧ u.auxq = [] ∧
      u.get sum = 1 ∧ u.get cnt = satNat cnt.width (t.get cnt + 1) := by
  obtain ⟨⟨h1, h2, h3⟩, h4, h5, -⟩ := t.auxCount_shown hc scl sda busy
  obtain ⟨k1, k2, k3, -, k5⟩ := (h.auxCount hr hc scl sda busy).auxFinish hr res hst
  refine ⟨k1, ⟨(k5 _ ?_ (by decide)).trans h1, (k5 _ ?_ (by decide)).trans h2, (k5 _ ?_ (by decide)).trans h3⟩, k2, k3,
    (k5 _ hc.onSum.1 (key_ne_of_aux hc.onSum (by decide))).trans h4, (k5 _ hc.onCnt.1 (key_ne_of_aux hc.onCnt (by decide))).trans h5⟩
  all_goals exact ⟨by decide, by decide, by decide⟩

theorem OnBus.finish_posted (h : OnBus s r t) (hr : r < 64) {cnt sum : Fld} (hc : AuxCounts cnt sum) (scl sda busy : Nat) {st : Nat} (res : Nat)
    (hst : st < 256) {c : Nat} (hcode : c / 256 ≠ 0x13) (v p : Nat) :
    let u := ((t.auxCount cnt sum scl sda busy).post c v p).auxFinish r st res
    Completes s r st res u ∧ AuxLinesAre (scl % 2) (sda % 2) (busy % 2) u ∧ u.get TWB_AUX_STAT_STATE = 0 ∧ u.auxq = [] ∧
      u.get sum = 1 ∧ u.get cnt = satNat cnt.width (t.get cnt + 1) ∧ c ∈ u.occ := by
  obtain ⟨⟨h1, h2, h3⟩, h4, h5, -⟩ := t.auxCount_shown hc scl sda busy
  have hbus := h.auxCount hr hc scl sda busy
  generalize t.auxCount cnt sum scl sda busy = y at *
  obtain ⟨k1, k2, k3, k4, k5⟩ := (hbus.post hr c v p).auxFinish hr res hst
  have hget {f : Fld} (hf : OnAux f) (hne : Fld.key f ≠ Fld.key TWB_AUX_STAT_STATE) :
      ((y.post c v p).auxFinish r st res).get f = y.get f :=
    (k5 f hf hne).trans ((y.post_auxKept c v p).get f hf.1 (Or.inl hf.2))
  refine ⟨k1, ⟨(hget ?_ (by decide)).trans h1, (hget ?_ (by decide)).trans h2, (hget ?_ (by decide)).trans h3⟩, k2, k3,
    (hget hc.onSum.1 (key_ne_of_aux hc.onSum (by decide))).trans h4, (hget hc.onCnt.1 (key_ne_of_aux hc.onCnt (by decide))).trans h5,
    k4 (State.mem_occ_post _ _ _ hcode)⟩
  all_goals exact ⟨by decide, by decide, by decide⟩

theorem auxCounts_nacks : AuxCounts TWB_AUX_CNT_NACKS TWB_SUM_AUX_NACK := by
  refine ⟨⟨⟨?_, ?_, ?_⟩, ?_⟩, ⟨⟨?_, ?_, ?_⟩, ?_⟩, ?_, ?_⟩ <;> decide

theorem auxCounts_arbLost : AuxCounts TWB_AUX_CNT_ARB_LOST TWB_SUM_AUX_ARB := by
  refine ⟨⟨⟨?_, ?_, ?_⟩, ?_⟩, ⟨⟨?_, ?_, ?_⟩, ?_⟩, ?_, ?_⟩ <;> decide

theorem auxCounts_arbCond : AuxCounts TWB_AUX_CNT_ARB_COND TWB_SUM_AUX_COND := by
  refine ⟨⟨⟨?_, ?_, ?_⟩, ?_⟩, ⟨⟨?_, ?_, ?_⟩, ?_⟩, ?_, ?_⟩ <;> decide

theorem auxCounts_stuck : AuxCounts TWB_AUX_CNT_STUCK TWB_SUM_AUX_STUCK := by
  refine ⟨⟨⟨?_, ?_, ?_⟩, ?_⟩, ⟨⟨?_, ?_, ?_⟩, ?_⟩, ?_, ?_⟩ <;> decide

/-- A transfer that ends without a count leaves its lines. -/
theorem OnBus.lines_finish (h : OnBus s r t) (hr : r < 64) (scl sda busy : Nat) {st : Nat} (res : Nat) (hst : st < 256) :
    let u := (t.auxLines scl sda busy).auxFinish r st res
    Completes s r st res u ∧ AuxLinesAre (scl % 2) (sda % 2) (busy % 2) u ∧ u.get TWB_AUX_STAT_STATE = 0 ∧ u.auxq = [] := by
  obtain ⟨⟨h1, h2, h3⟩, -⟩ := t.auxLines_shown scl sda busy
  obtain ⟨k1, k2, k3, -, k5⟩ := (h.auxLines hr scl sda busy).auxFinish hr res hst
  refine ⟨k1, ⟨(k5 _ ?_ (by decide)).trans h1, (k5 _ ?_ (by decide)).trans h2, (k5 _ ?_ (by decide)).trans h3⟩, k2, k3⟩
  all_goals exact ⟨by decide, by decide, by decide⟩

/-- R400: the bytes read are in bank 6, whatever the completion writes elsewhere. -/
theorem OnBus.auxStore_finish (h : OnBus s r t) (hr : r < 64) {dst len : Nat} (hread : read.length = len)
    (ha : s.ringWord (s.cplRing r) (s.get (RING_TAIL_TAIL (s.cplRing r))) < dst ∨
      dst + ceilDiv len 8 ≤ s.ringWord (s.cplRing r) (s.get (RING_TAIL_TAIL (s.cplRing r))))
    (hb : s.ringWord (s.cplRing r) ((s.get (RING_TAIL_TAIL (s.cplRing r)) + 1) % 65536) < dst ∨
      dst + ceilDiv len 8 ≤ s.ringWord (s.cplRing r) ((s.get (RING_TAIL_TAIL (s.cplRing r)) + 1) % 65536)) :
    let u := (((t.auxStore dst read).auxBegun r .done).auxLines 1 1 0).auxFinish r stOk 0
    (Completes s r stOk 0 u ∧ AuxLinesAre 1 1 0 u ∧ u.get TWB_AUX_STAT_STATE = 0 ∧ u.auxq = []) ∧
      ∀ j : Nat, j < len → (u.memByte (bankAddr 6 dst + j)).toNat = read.getD j 0 % 256 := by
  obtain ⟨h1, -, h3⟩ := State.auxStore_shown read t h.up dst 0
  have hbus : OnBus s r (t.auxStore dst read) := h.kept hr h3.rings h3.auxq (h3.bankUp (by decide)).1
  change ∀ j, j < read.length → ((t.auxStore dst read).memByte _).toNat = _ at h1
  generalize t.auxStore dst read = y at *
  refine ⟨(hbus.auxBegun .done).lines_finish hr 1 1 0 0 (by decide), fun j hj => ?_⟩
  have hlines := (hbus.auxBegun .done).auxLines hr 1 1 0
  have hbyte : (((y.auxBegun r .done).auxLines 1 1 0).auxDrop r).memByte (bankAddr 6 dst + j) = y.memByte (bankAddr 6 dst + j) := rfl
  have hup : (((y.auxBegun r .done).auxLines 1 1 0).auxDrop r).bankUp 6 = true := by
    rw [State.bankUp, State.auxDrop, State.showAux, State.get_put_ne _ _ (by decide)]
    exact hlines.up
  have hlen : j < 8 * ceilDiv len 8 := by
    unfold ceilDiv
    omega
  rw [State.auxFinish, (hlines.drop hr).1.finish_bytes hr hup, hbyte, ← Nat.zero_add j, h1 j (by omega), Nat.zero_add]
  all_goals
    unfold bankAddr
    omega

/-! ### AUX_CLEAR -/

theorem auxClear_joins (h : TakesUp s r ws) (hr : r < 64) (ho : ws.headD 0 % 256 = 0x19) (o : ClearOutcome) :
    ∃ t, Joined s r t ∧ auxClear r o s = if ¬ t.auxTurn r 0x19 then t else match o with
      | .released p => if p ≤ 9 then (t.auxLines 1 1 0).auxFinish r stOk p else t
      | .stuck => ((t.auxCount TWB_AUX_CNT_STUCK TWB_SUM_AUX_STUCK 1 0 1).post 0x0E06 sevFault (pack [p32 9])).auxFinish r stBusStuck 9
      | .timeout p => if p ≤ 9 then (t.auxLines 0 (t.get TWB_AUX_STAT_SDA) 1).auxFinish r stTimeout p else t := by
  refine ⟨_, (AuxKept.refl (s.takenUp r)).auxJoin hr (State.takenUp_bankUp h), ?_⟩
  unfold auxClear
  rw [State.command_of_takesUp h ho rfl]
  rfl

/-! ### The arbitration of a transfer (R403) -/

theorem Joined.begun (h : Joined s r t) (hq : s.auxq = []) (o : AuxOutcome) :
    OnBus s r (t.auxBegun r o) ∧ ((t.auxBegun r o).ring r).exec.map Exec.left = some 0 ∧
      ∀ f : Fld, OnAux f → Fld.key f ≠ Fld.key TWB_AUX_STAT_STATE → (t.auxBegun r o).get f = s.get f := by
  refine ⟨(h.onBus hq).auxBegun o, ?_, fun f hf hne => h.get f hf.1 hf.2.1 hf.2.2 hne⟩
  rw [State.auxBegun, State.ring_setExec, h.exec]
  rfl

/-- An attempt that loses arbitration on a data bit: the next attempt follows, or the command completes. -/
theorem Joined.arbLost_eq (h : Joined s r t) (hq : s.auxq = []) (ws : List Nat) (i b : Nat) :
    let y := (t.auxBegun r (.arbLost i b)).auxCount TWB_AUX_CNT_ARB_LOST TWB_SUM_AUX_ARB 1 0 1
    t.auxEnd r ws [] (.arbLost i b) = if 0 < s.get TWB_AUX_CFG_ARB_RETRY then y.setExec r (fun e => { e with left := e.left + 1 })
      else (y.post 0x0E05 sevWarn (pack [p16 (bits (ws.headD 0) 16 7), p16 i, p16 b, p32 0])).auxFinish r stArbLost
        (i % 65536 + 2 ^ 16 * b) := by
  obtain ⟨-, hleft, hget⟩ := h.begun hq (.arbLost i b)
  obtain ⟨e, he, hzero⟩ := Option.map_eq_some_iff.1 hleft
  rw [auxEnd_nothing_read t r ws _ (by simp) (by simp)]
  dsimp only
  obtain ⟨-, -, -, hretry⟩ := (t.auxBegun r (.arbLost i b)).auxCount_shown auxCounts_arbLost 1 0 1
  rw [hget _ ⟨by decide, by decide, by decide⟩ (by decide)] at hretry
  rw [he, ← hretry]
  dsimp only
  simp only [hzero]
  rfl

theorem Joined.arbLost_ends (h : Joined s r t) (hq : s.auxq = []) (hr : r < 64) (ws : List Nat) (i b : Nat)
    (hretry : s.get TWB_AUX_CFG_ARB_RETRY = 0) :
    let u := t.auxEnd r ws [] (.arbLost i b)
    Completes s r stArbLost (i % 65536 + 2 ^ 16 * b) u ∧ AuxLinesAre 1 0 1 u ∧ u.get TWB_AUX_STAT_STATE = 0 ∧ u.auxq = [] ∧
      u.get TWB_SUM_AUX_ARB = 1 ∧ u.get TWB_AUX_CNT_ARB_LOST = satNat 16 (s.get TWB_AUX_CNT_ARB_LOST + 1) ∧ 0x0E05 ∈ u.occ := by
  obtain ⟨hbus, -, hget⟩ := h.begun hq (.arbLost i b)
  dsimp only
  rw [h.arbLost_eq hq, if_neg (by omega), ← hget TWB_AUX_CNT_ARB_LOST ⟨by decide, by decide, by decide⟩ (by decide)]
  exact hbus.finish_posted hr auxCounts_arbLost 1 0 1 _ (by decide) (by decide) _ _

theorem Joined.arbLost_again (h : Joined s r t) (hq : s.auxq = []) (hr : r < 64) (ws : List Nat) (i b : Nat)
    (hretry : s.get TWB_AUX_CFG_ARB_RETRY ≠ 0) :
    let u := t.auxEnd r ws [] (.arbLost i b)
    Runs s r u ∧ u.auxq = [r] ∧ (u.ring r).exec.map Exec.left = some 1 ∧
      u.get TWB_AUX_CNT_ARB_LOST = satNat 16 (s.get TWB_AUX_CNT_ARB_LOST + 1) := by
  obtain ⟨hbus, hleft, hget⟩ := h.begun hq (.arbLost i b)
  dsimp only
  rw [h.arbLost_eq hq, if_pos (by omega), ← hget TWB_AUX_CNT_ARB_LOST ⟨by decide, by decide, by decide⟩ (by decide)]
  have hcount := hbus.auxCount hr auxCounts_arbLost 1 0 1
  have hexec : (((t.auxBegun r (.arbLost i b)).auxCount TWB_AUX_CNT_ARB_LOST TWB_SUM_AUX_ARB 1 0 1).ring r).exec.map Exec.left = some 0 :=
    hleft
  obtain ⟨-, -, k2, -⟩ := (t.auxBegun r (.arbLost i b)).auxCount_shown auxCounts_arbLost 1 0 1
  generalize (t.auxBegun r (.arbLost i b)).auxCount TWB_AUX_CNT_ARB_LOST TWB_SUM_AUX_ARB 1 0 1 = y at *
  refine ⟨(hcount.running.setExec (f := fun e => { e with left := e.left + 1 }) (fun _ => rfl) (fun _ => rfl)).runs, hcount.auxq, ?_, k2⟩
  obtain ⟨e, he, hzero⟩ := Option.map_eq_some_iff.1 hexec
  rw [State.ring_setExec, he]
  simp [hzero]

/-! ### Every end of an attempt -/

/-- A transfer that has the bus at once ends as its outcome says. -/
theorem auxXfer_own (h : TakesUp s r ws) (hr : r < 64) (ho : ws.headD 0 % 256 = 0x18) (o : AuxOutcome)
    (hfit : auxBuf ws + ceilDiv (auxWlen ws) 8 + ceilDiv (auxRlen ws) 8 ≤ 0x20000)
    (hclean : ∀ j : Nat, j < ceilDiv (auxWlen ws) 8 → s.mark (bankAddr 6 (auxBuf ws + j)) ≠ 2) (hq : s.auxq = [])
    (hposs : auxPossible ws read o = true) : ∃ t, Joined s r t ∧ auxXfer r read o s = t.auxEnd r ws read o := by
  obtain ⟨t, ht, hu⟩ := auxXfer_joins (read := read) h hr ho o hfit hclean
  exact ⟨t, ht, by rw [hu, ht.auxTurn hq h.words ho, hposs]; rfl⟩

/-- A bus clear that has the bus at once ends as its outcome says. -/
theorem auxClear_own (h : TakesUp s r ws) (hr : r < 64) (ho : ws.headD 0 % 256 = 0x19) (o : ClearOutcome) (hq : s.auxq = []) :
    ∃ t, Joined s r t ∧ auxClear r o s = match o with
      | .released p => if p ≤ 9 then (t.auxLines 1 1 0).auxFinish r stOk p else t
      | .stuck => ((t.auxCount TWB_AUX_CNT_STUCK TWB_SUM_AUX_STUCK 1 0 1).post 0x0E06 sevFault (pack [p32 9])).auxFinish r stBusStuck 9
      | .timeout p => if p ≤ 9 then (t.auxLines 0 (t.get TWB_AUX_STAT_SDA) 1).auxFinish r stTimeout p else t := by
  obtain ⟨t, ht, hu⟩ := auxClear_joins h hr ho o
  exact ⟨t, ht, by rw [hu, if_neg (not_not.2 (ht.auxTurn hq h.words ho))]⟩

/-- An attempt's index stays within the address and data bytes that an outcome names (R401). -/
theorem auxPossible_nothing_read {i k : Nat} (hi : i ≤ auxWlen ws) (hk : k ≤ 7) :
    auxPossible ws [] (.nack i) = true ∧ auxPossible ws [] (.arbLost i k) = true ∧ auxPossible ws [] (.arbCond i) = true ∧
      auxPossible ws [] (.timeout true) = true := by
  have hadr : i ≤ (if auxWlen ws = 0 ∨ auxRlen ws = 0 then auxWlen ws else auxWlen ws + 1) := by
    split <;> omega
  refine ⟨?_, ?_, ?_, ?_⟩
  · simpa [auxPossible] using hadr
  · simpa [auxPossible, hk] using hadr.trans (Nat.le_add_right _ _)
  · simpa [auxPossible] using hadr.trans (Nat.le_add_right _ _)
  · simp [auxPossible]

/-- Settles O46: the command joins the queue (`auxXfer_joins`, `auxClear_joins`), and with the bus its own its attempt ends. -/
theorem auxiliaryBusTransfers : Obligations.AuxiliaryBusTransfers := by
  unfold Obligations.AuxiliaryBusTransfers
  intro s r ws read i k h
  have hr : r.val < 64 := r.isLt
  dsimp only
  refine ⟨fun ho hf => ⟨_, rfl, ?_⟩, fun ho hf hc => ⟨_, rfl, auxXfer_ecc h hr ho .done hf hc⟩, fun ho hf hc hq hh => ⟨_, rfl, ?_⟩,
    fun ho hf hc hq hlen ha hb => ⟨_, rfl, ?_⟩, fun ho hf hc hq hi => ⟨_, rfl, ?_⟩, fun ho hf hc hq hi hk hretry => ⟨_, rfl, ?_⟩,
    fun ho hf hc hq hi hk hretry => ⟨_, rfl, ?_⟩, fun ho hf hc hq hi => ⟨_, rfl, ?_⟩, fun ho hf hc hq => ⟨_, rfl, ?_⟩,
    fun ho hq hk => ⟨_, rfl, ?_⟩, fun ho hq => ⟨_, rfl, ?_⟩, fun ho hq hk => ⟨_, rfl, ?_⟩, fun ho hq hh => ⟨_, rfl, ?_⟩⟩
  · rw [auxXfer_bad h ho .done hf]
    exact s.takenUp_completes hr 0 (by decide)
  · obtain ⟨t, ht, hu⟩ := auxXfer_joins (read := read) h hr ho .done hf hc
    rw [hu, State.not_auxTurn ht hq hh]
    exact ⟨ht.running.runs, ht.auxq, ht.waiting⟩
  · obtain ⟨t, ht, hu⟩ := auxXfer_own (read := read) h hr ho .done hf hc hq (by simpa [auxPossible] using hlen)
    obtain ⟨⟨k1, ⟨k2, k3, k4⟩, k5, k6⟩, k7⟩ := (ht.onBus hq).auxStore_finish hr hlen ha hb
    rw [hu]
    exact ⟨k1, ⟨k2, k3, k4, k5, k6⟩, k7⟩
  · obtain ⟨t, ht, hu⟩ := auxXfer_own h hr ho (.nack i) hf hc hq (auxPossible_nothing_read hi (Nat.zero_le 7)).1
    obtain ⟨hbus, -, hget⟩ := ht.begun hq (.nack i)
    rw [hu, auxEnd_nothing_read t r ws _ (by simp) (by simp), ← hget TWB_AUX_CNT_NACKS ⟨by decide, by decide, by decide⟩ (by decide)]
    obtain ⟨k1, ⟨k2, k3, k4⟩, k5, k6, k7, k8⟩ :=
      hbus.auxCount_finish hr auxCounts_nacks 1 1 0 (st := stNoResource) (i % 65536 + 2 ^ 19) (by decide)
    exact ⟨k1, ⟨k2, k3, k4, k5, k6⟩, k7, k8⟩
  · obtain ⟨t, ht, hu⟩ := auxXfer_own h hr ho (.arbLost i k) hf hc hq (auxPossible_nothing_read hi hk).2.1
    rw [hu]
    obtain ⟨k1, ⟨k2, k3, k4⟩, k5, k6, k7, k8, k9⟩ := ht.arbLost_ends hq hr ws i k hretry
    exact ⟨k1, ⟨k2, k3, k4, k5, k6⟩, k7, k9, k8⟩
  · obtain ⟨t, ht, hu⟩ := auxXfer_own h hr ho (.arbLost i k) hf hc hq (auxPossible_nothing_read hi hk).2.1
    rw [hu]
    exact ht.arbLost_again hq hr ws i k hretry
  · obtain ⟨t, ht, hu⟩ := auxXfer_own h hr ho (.arbCond i) hf hc hq (auxPossible_nothing_read hi (Nat.zero_le 7)).2.2.1
    obtain ⟨hbus, -, hget⟩ := ht.begun hq (.arbCond i)
    rw [hu, auxEnd_nothing_read t r ws _ (by simp) (by simp), ← hget TWB_AUX_CNT_ARB_COND ⟨by decide, by decide, by decide⟩ (by decide)]
    obtain ⟨k1, ⟨k2, k3, k4⟩, k5, k6, k7, k8⟩ :=
      hbus.auxCount_finish hr auxCounts_arbCond 1 0 1 (st := stArbCondition) i (by decide)
    exact ⟨k1, ⟨k2, k3, k4, k5, k6⟩, k7, k8⟩
  · obtain ⟨t, ht, hu⟩ := auxXfer_own h hr ho (.timeout true) hf hc hq (auxPossible_nothing_read (Nat.zero_le _) (Nat.zero_le 7)).2.2.2
    obtain ⟨hbus, -, hget⟩ := ht.begun hq (.timeout true)
    rw [hu, auxEnd_nothing_read t r ws _ (by simp) (by simp), ← hget TWB_AUX_STAT_SDA ⟨by decide, by decide, by decide⟩ (by decide)]
    obtain ⟨k1, ⟨k2, k3, k4⟩, k5, k6⟩ :=
      hbus.lines_finish hr 0 ((t.auxBegun r (.timeout true)).get TWB_AUX_STAT_SDA) 1 (st := stTimeout) 0 (by decide)
    exact ⟨k1, ⟨k2, k3, k4, k5, k6⟩⟩
  · obtain ⟨t, ht, hu⟩ := auxClear_own h hr ho (.released k) hq
    dsimp only at hu
    rw [hu, if_pos hk]
    obtain ⟨k1, ⟨k2, k3, k4⟩, k5, k6⟩ := (ht.onBus hq).lines_finish hr 1 1 0 (st := stOk) k (by decide)
    exact ⟨k1, ⟨k2, k3, k4, k5, k6⟩⟩
  · obtain ⟨t, ht, hu⟩ := auxClear_own h hr ho .stuck hq
    have hcnt : t.get TWB_AUX_CNT_STUCK = s.get TWB_AUX_CNT_STUCK := ht.get _ (by decide) (by decide) (by decide) (by decide)
    dsimp only at hu
    rw [hu, ← hcnt]
    obtain ⟨k1, ⟨k2, k3, k4⟩, k5, k6, k7, k8, k9⟩ :=
      (ht.onBus hq).finish_posted hr auxCounts_stuck 1 0 1 (st := stBusStuck) 9 (by decide) (c := 0x0E06) (by decide) sevFault (pack [p32 9])
    exact ⟨k1, ⟨k2, k3, k4, k5, k6⟩, k7, k9, k8⟩
  · obtain ⟨t, ht, hu⟩ := auxClear_own h hr ho (.timeout k) hq
    dsimp only at hu
    rw [hu, if_pos hk]
    obtain ⟨k1, ⟨k2, -, k4⟩, -, -⟩ := (ht.onBus hq).lines_finish hr 0 (t.get TWB_AUX_STAT_SDA) 1 (st := stTimeout) k (by decide)
    exact ⟨k1, k2, k4⟩
  · obtain ⟨t, ht, hu⟩ := auxClear_joins h hr ho .stuck
    rw [hu, if_pos (by rw [State.not_auxTurn ht hq hh]; decide)]
    exact ⟨ht.running.runs, ht.auxq⟩

end Sys2Proof.Machine
end

section
/-! CODEX_LOAD is refused or begins (R170, R172, R178). -/

namespace Sys2Proof.Machine

variable {l : List Fld} {s t u : State} {r : Nat} {ws : List Nat}

/-! ### What depends on the flash alone -/

/-- The reset state with the flash of `s`. -/
def State.flashOnly (s : State) : State := { State.reset with flash := s.flash }

theorem State.classify_flashOnly (s : State) (k : Nat) : s.classify k = s.flashOnly.classify k := rfl

theorem State.classify_congr (h : t.flash = s.flash) (k : Nat) : t.classify k = s.classify k := by
  rw [t.classify_flashOnly, s.classify_flashOnly, State.flashOnly, h, State.flashOnly]

theorem State.imgEdition_congr (h : t.flash = s.flash) (k : Nat) : t.imgEdition k = s.imgEdition k := by
  rw [State.imgEdition, State.flashWord, h, State.imgEdition, State.flashWord]

theorem State.classify_lt (s : State) (k : Nat) : s.classify k < 6 := by
  unfold State.classify
  dsimp only
  split_ifs <;> decide

/-! ### The source's classification (R167, R168) -/

/-- A slot's reason is noted, and reported where it is no candidate. -/
def State.noteSlot (s : State) (k : Nat) : State :=
  if s.classify k = 0 then s.setReason k (s.classify k)
  else (s.setReason k (s.classify k)).post 0x0421 sevWarn (pack [p16 k, p16 (s.classify k)])

theorem State.classifySlots_eq (s : State) (l : List Nat) : s.classifySlots l = l.foldl State.noteSlot s := rfl

/-- From `s` to `u` only the reasons of the slots have changed, and what events change. -/
structure SlotsOnly (s u : State) : Prop where
  quiet : Quiet [SYS_BOOT_REASON_A, SYS_BOOT_REASON_B] s u
  rings : RingsKept s u
  flash : u.flash = s.flash
  load : u.load = s.load ∧ u.loadMute = s.loadMute

theorem SlotsOnly.refl (s : State) : SlotsOnly s s := ⟨.refl _ s, .refl s, rfl, rfl, rfl⟩

theorem SlotsOnly.trans (h : SlotsOnly s t) (k : SlotsOnly t u) : SlotsOnly s u :=
  ⟨h.quiet.trans k.quiet, h.rings.trans k.rings, k.flash.trans h.flash, k.load.1.trans h.load.1, k.load.2.trans h.load.2⟩

theorem State.setReason_slotsOnly (s : State) (k v : Nat) : SlotsOnly s (s.setReason k v) := by
  unfold State.setReason
  split
  · exact ⟨.put (.refl _ s) (by decide) v, (RingsKept.refl s).put (by simp [OffRings, SYS_BOOT_REASON_A]) v, rfl, rfl, rfl⟩
  · exact ⟨.put (.refl _ s) (by decide) v, (RingsKept.refl s).put (by simp [OffRings, SYS_BOOT_REASON_B]) v, rfl, rfl, rfl⟩

theorem State.post_slotsOnly (s : State) (c v p : Nat) : SlotsOnly s (s.post c v p) := by
  have h := s.post_eventOnly c v p
  exact ⟨.post (.refl _ s) c v p, s.post_ringsKept c v p, by rw [h.rest], by rw [h.rest], by rw [h.rest]⟩

theorem State.reason_setReason (s : State) {j k v : Nat} (hj : j < 2) (hk : k < 2) (hv : v < 6) :
    (s.setReason k v).reason j = if j = k then v else s.reason j := by
  have hw : v % 8 = v := Nat.mod_eq_of_lt (by omega)
  interval_cases j <;> interval_cases k
  all_goals
    simp (disch := decide) only [State.reason, State.setReason, State.get_put_same, State.get_put_ne, if_true, if_false, one_ne_zero,
      zero_ne_one]
  · exact hw
  · exact hw

theorem State.noteSlot_shown (s : State) {k : Nat} (hk : k < 2) :
    SlotsOnly s (s.noteSlot k) ∧ ∀ j, j < 2 → (s.noteSlot k).reason j = if j = k then s.classify k else s.reason j := by
  unfold State.noteSlot
  split
  · exact ⟨s.setReason_slotsOnly k _, fun j hj => s.reason_setReason hj hk (s.classify_lt k)⟩
  · refine ⟨(s.setReason_slotsOnly k _).trans (State.post_slotsOnly _ _ _ _), fun j hj => ?_⟩
    rw [← s.reason_setReason hj hk (s.classify_lt k), State.reason, State.reason]
    refine State.get_post ?_
    split <;> decide

/-- The candidate of R168, from the reasons and editions of both slots. -/
def newerOf (a b ea eb : Nat) : Option Nat :=
  match a == 0, b == 0 with
  | true, true => if later eb ea then some 1 else some 0
  | true, false => some 0
  | false, true => some 1
  | false, false => none

theorem State.candidate_eq (s : State) : s.candidate = newerOf (s.reason 0) (s.reason 1) (s.imgEdition 0) (s.imgEdition 1) := rfl

/-- R167, R168: the source that a CODEX_LOAD names is found by the flash alone. -/
theorem State.codexSource_shown (s : State) {src : Nat} (h : src < 3) :
    (s.codexSource src).1 = (if src = 0 then newerOf (s.classify 0) (s.classify 1) (s.imgEdition 0) (s.imgEdition 1) else if s.classify (src - 1) = 0 then some (src - 1) else none) ∧ SlotsOnly s (s.codexSource src).2 := by
  unfold State.codexSource
  by_cases h0 : src = 0
  · rw [if_pos h0, if_pos h0, State.classifySlots_eq, List.foldl_cons, List.foldl_cons, List.foldl_nil]
    dsimp only
    obtain ⟨h1, h2⟩ := s.noteSlot_shown (k := 0) (by decide)
    obtain ⟨k1, k2⟩ := (s.noteSlot 0).noteSlot_shown (k := 1) (by decide)
    have hall := h1.trans k1
    refine ⟨?_, hall⟩
    rw [State.candidate_eq, k2 0 (by decide), k2 1 (by decide), if_neg (by decide), if_pos rfl, h2 0 (by decide), if_pos rfl,
      State.classify_congr h1.flash, State.imgEdition_congr hall.flash, State.imgEdition_congr hall.flash]
  · rw [if_neg h0, if_neg h0, State.classifySlots_eq, List.foldl_cons, List.foldl_nil]
    dsimp only
    obtain ⟨h1, h2⟩ := s.noteSlot_shown (k := src - 1) (by omega)
    refine ⟨?_, h1⟩
    rw [h2 _ (by omega), if_pos rfl]

theorem State.codexSource_congr (h : t.flash = s.flash) {src : Nat} (hs : src < 3) : (t.codexSource src).1 = (s.codexSource src).1 := by
  rw [(t.codexSource_shown hs).1, (s.codexSource_shown hs).1, State.classify_congr h, State.classify_congr h, State.classify_congr h,
    State.imgEdition_congr h, State.imgEdition_congr h]

theorem State.codexImage_congr (h : t.flash = s.flash) (hp : t.get CHN_STAT_PRESENT = s.get CHN_STAT_PRESENT)
    (hl : t.get PWR_STAT_CUR_PL = s.get PWR_STAT_CUR_PL) (hr : t.get CLK_DOMA_STAT_RATE = s.get CLK_DOMA_STAT_RATE) (k units kind low : Nat) :
    t.codexImage k units kind low = s.codexImage k units kind low := by
  unfold State.codexImage State.imgMinPl State.imgRate State.flashWord
  rw [h, hp, hl, hr]

theorem State.codexImage_lt {k units kind low st : Nat} (h : s.codexImage k units kind low = some st) : st < 256 := by
  unfold State.codexImage at h
  dsimp only at h
  split_ifs at h
  · obtain rfl := Option.some.inj h
    decide
  · obtain rfl := Option.some.inj h
    decide

/-! ### The load begins (R170, R174) -/

theorem State.lendBegin_keepsLoad (s : State) (k : Nat) (auto : Bool) (v : Nat) :
    Quiet [] s (s.lendBegin k auto v) ∧ RingsKept s (s.lendBegin k auto v) ∧ (s.lendBegin k auto v).load = s.load ∧
      (s.lendBegin k auto v).loadMute = s.loadMute := by
  have hpost (t : State) (h : SlotsOnly s t) (hq : Quiet [] s t) (c p : Nat) :
      Quiet [] s (t.post c sevFault p) ∧ RingsKept s (t.post c sevFault p) ∧ (t.post c sevFault p).load = s.load ∧
        (t.post c sevFault p).loadMute = s.loadMute := by
    have k := h.trans (t.post_slotsOnly c sevFault p)
    exact ⟨hq.post _ _ _, k.rings, k.load.1, k.load.2⟩
  have hhidden (t : State) (hr : t.regs = s.regs) (hm : t.mem = s.mem) (hn : t.nvs = s.nvs) (hf : t.flash = s.flash) (hq : t.rings = s.rings)
      (hfr : t.frame = s.frame) (hl : t.load = s.load) (hmu : t.loadMute = s.loadMute) : SlotsOnly s t ∧ Quiet [] s t :=
    ⟨⟨(Quiet.refl _ s).other hr hm hn hf, (RingsKept.refl s).other hr hq hfr, hf, hl, hmu⟩, (Quiet.refl _ s).other hr hm hn hf⟩
  unfold State.lendBegin State.lendFail
  dsimp only
  split
  · split
    · exact ⟨.update (.refl _ s), (RingsKept.refl s).other rfl rfl rfl, rfl, rfl⟩
    · obtain ⟨k1, k2⟩ := hhidden { s with lendEnds := s.lendEnds.filter (fun p => p.1 != v) } rfl rfl rfl rfl rfl rfl rfl rfl
      exact hpost _ k1 k2 _ _
  · split
    · exact ⟨.update (.refl _ s), (RingsKept.refl s).other rfl rfl rfl, rfl, rfl⟩
    · split
      · exact ⟨.update (.refl _ s), (RingsKept.refl s).other rfl rfl rfl, rfl, rfl⟩
      · refine hpost _ ?_ ?_ _ _
        · exact ⟨.update (.refl _ s), (RingsKept.refl s).other rfl rfl rfl, rfl, rfl, rfl⟩
        · exact .update (.refl _ s)

theorem State.lendBegins_keepLoad (l : List Nat) (s : State) (k : Nat) :
    let u := l.foldl (fun s v => s.lendBegin k false v) s
    Quiet [] s u ∧ RingsKept s u ∧ u.load = s.load ∧ u.loadMute = s.loadMute := by
  induction l generalizing s with
  | nil => exact ⟨.refl _ s, .refl s, rfl, rfl⟩
  | cons v l ih =>
    obtain ⟨h1, h2, h3, h4⟩ := s.lendBegin_keepsLoad k false v
    obtain ⟨k1, k2, k3, k4⟩ := ih (s.lendBegin k false v)
    exact ⟨h1.trans k1, h2.trans k2, k3.trans h3, k4.trans h4⟩

theorem State.loadBegin_shown (s : State) (d : Load) :
    let u := s.loadBegin d
    u.load = some { d with phase := if d.kind ≠ 0 then .scan else if bitOf d.units 0 then .teardown else .write } ∧
      u.loadMute = (s.loadMute || (bitOf d.units 0 && d.kind == 0)) ∧ Quiet [] s u ∧ RingsKept s u := by
  unfold State.loadBegin
  extract_lets own t
  obtain ⟨h1, h2, h3, h4⟩ := State.lendBegins_keepLoad (farUnits d.units) t d.slot
  have hq : Quiet [] s t := .update (.refl _ s)
  have hr : RingsKept s t := (RingsKept.refl s).other rfl rfl rfl
  exact ⟨h3, h4, hq.trans h1, hr.trans h2⟩

/-! ### Step 1 of a CODEX_LOAD (R170, R172, R178) -/

/-- The three rows of a CODEX_LOAD are one step, each of its own kind. -/
theorem codexRow_exec {r : RingIx} (h : TakesUp s r ws) (ho : ws.headD 0 % 256 = 0x08) (busy low : Nat) :
    exec (codexRow r busy low (codexKind ws)) s = .next ((s.takenUp r).codexStart r (codexKind ws) busy low ws) := by
  cases h23 : bitOf (ws.headD 0) 23 with
  | true =>
    have hk : codexKind ws = 2 := by rw [codexKind, if_pos h23]
    rw [hk]
    refine (show exec (codexRow r busy low 2) s = .next (codexLoadVerify r busy low s) from rfl).trans ?_
    rw [codexLoadVerify, State.command_of_takesUp h ho h23]
  | false =>
    cases h18 : bitOf (ws.headD 0) 18 with
    | true =>
      have hk : codexKind ws = 1 := by rw [codexKind, if_neg (by rw [h23]; decide), if_pos h18]
      rw [hk]
      refine (show exec (codexRow r busy low 1) s = .next (codexLoadShelf r busy low s) from rfl).trans ?_
      rw [codexLoadShelf, State.command_of_takesUp h ho (by rw [h23, h18]; rfl)]
    | false =>
      have hk : codexKind ws = 0 := by rw [codexKind, if_neg (by rw [h23]; decide), if_neg (by rw [h18]; decide)]
      rw [hk]
      refine (show exec (codexRow r busy low 0) s = .next (codexLoad r busy low s) from rfl).trans ?_
      rw [codexLoad, State.command_of_takesUp h ho (by rw [h23, h18]; rfl)]

/-- Whether a CODEX_LOAD names a source and units (R363). -/
def codexKnown (ws : List Nat) : Bool := decide (codexSrc ws ≠ 3) && decide (codexUnits ws ≠ 0)

/-- Whether a CODEX_LOAD finds its units busy (R170). -/
def State.codexBusy (s : State) (ws : List Nat) (routing : Nat) : Bool :=
  s.load.isSome || (bitOf (codexUnits ws) 0 && s.routesBusy) || (farUnits (codexUnits ws)).any (bitOf routing)

/-- Whether a unit that a CODEX_LOAD names is not dealt and linked (R170). -/
def State.codexGone (s : State) (ws : List Nat) : Bool := (bitList 16 (codexUnits ws)).any s.unitGone

theorem State.codexStart_eq (t : State) (r kind busy low : Nat) (ws : List Nat) :
    t.codexStart r kind busy low ws =
      if t.isHead = false then t.finish r stNotPermitted 0
      else if codexKnown ws = false then t.finish r stBadArg 0
      else if t.codexBusy ws busy = true then t.finish r stNoResource 0
      else if t.codexGone ws = true then t.finish r stLinkDown 0
      else
        let q := t.codexSource (codexSrc ws)
        match q.1 with
        | none => q.2.finish r stBadArg 0
        | some k =>
          match q.2.codexImage k (codexUnits ws) kind low with
          | some st => q.2.finish r st 0
          | none =>
            q.2.loadBegin { ring := some r, kind := kind, shelf := bits (ws.headD 0) 19 4, slot := k, boot := false, units := codexUnits ws
                            edition := q.2.imgEdition k, minPl := q.2.imgMinPl k 0
                            at_ := if bitOf (ws.headD 0) 24 then some (bits (ws.getD 1 0) 0 32) else none, phase := .teardown
                            cancel := false, own := none, startF := none, tiles := [], xps := [], rings := [] } := by
  have h1 : (t.isHead = false) = ¬ (t.isHead = true) := by simp
  have h2 : (codexKnown ws = false) = (codexSrc ws = 3 ∨ codexUnits ws = 0) := by
    simp [codexKnown, -Bool.not_eq_true, Decidable.imp_iff_not_or]
  have h3 : (t.codexBusy ws busy = true) =
      (t.load.isSome = true ∨ (bitOf (codexUnits ws) 0 = true ∧ t.routesBusy = true) ∨ (farUnits (codexUnits ws)).any (bitOf busy) = true) := by
    simp only [State.codexBusy, Bool.or_eq_true, Bool.and_eq_true, or_assoc]
  unfold State.codexStart
  simp only [h1, h2, h3, State.codexGone]
  rfl

/-- What step 1 reads of a unit is what it reads before the command is taken up. -/
theorem State.takenUp_codex (s : State) (r : Nat) (ws : List Nat) (routing : Nat) :
    (s.takenUp r).codexBusy ws routing = s.codexBusy ws routing ∧ (s.takenUp r).codexGone ws = s.codexGone ws := by
  have hget {f : Fld} (hf : f.lo < 64 ∧ (f.addr < 0xE03000 ∨ 0xE04000 ≤ f.addr ∧ f.addr % 32 ≠ 24)) : (s.takenUp r).get f = s.get f :=
    s.get_takenUp r (key_ne_of_addr_ne hf.1 (by simp [RING_STAT_STATE]) (by simp only [RING_STAT_STATE]; omega))
  have hgone (v : Nat) : (s.takenUp r).unitGone v = s.unitGone v := by
    rw [State.unitGone, State.bit, hget (by decide), hget (by decide), State.unitGone, State.bit]
  refine ⟨rfl, ?_⟩
  rw [State.codexGone, State.codexGone]
  exact congrArg (List.any _) (funext hgone)

theorem SlotsOnly.inExecution (h : SlotsOnly (s.takenUp r) u) (hr : r < 64) : InExecution s r u :=
  (s.takenUp_inExecution r).kept hr h.rings

theorem State.finish_load (t : State) (hr : r < 64) (st res : Nat) : (t.finish r st res).load = t.load := by
  rw [(t.finish_ringOpsOnly hr st res).rest]

theorem State.load_of_not_busy {routing : Nat} (h : s.codexBusy ws routing = false) : s.load = none := by
  simp only [State.codexBusy, Bool.or_eq_false_iff] at h
  obtain ⟨⟨h1, -⟩, -⟩ := h
  exact Option.isNone_iff_eq_none.1 (by rw [← Option.not_isSome, h1]; rfl)

/-- The source and its image, as the command that was taken up finds them. -/
theorem State.codexSource_takenUp (s : State) (r : Nat) (h : codexKnown ws = true) (kind low : Nat) :
    let q := (s.takenUp r).codexSource (codexSrc ws)
    SlotsOnly (s.takenUp r) q.2 ∧ q.1 = (s.codexSource (codexSrc ws)).1 ∧
      (∀ k, q.2.codexImage k (codexUnits ws) kind low = s.codexImage k (codexUnits ws) kind low) ∧
      ∀ k, q.2.imgEdition k = s.imgEdition k := by
  have hsrc : codexSrc ws < 3 := by
    have hlt : codexSrc ws < 2 ^ 2 := bits_lt _ 16 2
    rw [codexKnown, Bool.and_eq_true, decide_eq_true_iff] at h
    omega
  have hflash : (s.takenUp r).flash = s.flash := rfl
  have hq := s.takenUp_quiet r
  have hk := State.codexSource_congr hflash hsrc
  obtain ⟨-, hs⟩ := (s.takenUp r).codexSource_shown hsrc
  dsimp only
  generalize (s.takenUp r).codexSource (codexSrc ws) = q at *
  generalize s.takenUp r = t at *
  have hq : Quiet [RING_STAT_STATE r, SYS_BOOT_REASON_A, SYS_BOOT_REASON_B] s q.2 :=
    (hq.of_subset (by simp)).trans (hs.quiet.of_subset (by simp))
  have hget {f : Fld} (hf : f.lo < 64 ∧ (f.addr < 0xE00020 ∨ 0xE00020 < f.addr ∧ f.addr < 0xE03000 ∨ 0xE04000 ≤ f.addr ∧ f.addr < 0xE0E000 ∧
      f.addr % 32 ≠ 24)) : q.2.get f = s.get f := by
    refine hq.get (fldIn_eq_false_of_addr hf.1 fun g hg => ?_) (fldIn_eventFlds_of_page ⟨hf.1, by omega, by omega⟩)
    simp only [List.mem_cons, List.not_mem_nil, or_false] at hg
    rcases hg with rfl | rfl | rfl
    all_goals
      simp only [RING_STAT_STATE, SYS_BOOT_REASON_A, SYS_BOOT_REASON_B]
      omega
  have hf := hs.flash.trans hflash
  exact ⟨hs, hk, fun k => State.codexImage_congr hf (hget (by decide)) (hget (by decide)) (hget (by decide)) k _ kind low,
    State.imgEdition_congr hf⟩

/-- Settles O30: the refusals in their order (`State.codexStart_eq`), and the begin of the load (`State.loadBegin_shown`). -/
theorem codexLoadIsTakenOrRefused : Obligations.CodexLoadIsTakenOrRefused := by
  unfold Obligations.CodexLoadIsTakenOrRefused
  intro s r ws routing low h ho
  have hr : r.val < 64 := r.isLt
  have hexec := codexRow_exec h ho routing low
  obtain ⟨hbusy, hgone⟩ := s.takenUp_codex r ws routing
  have heq := (s.takenUp r).codexStart_eq r (codexKind ws) routing low ws
  rw [hbusy, hgone] at heq
  have hhead : (s.takenUp r).isHead = s.isHead := rfl
  rw [hhead] at heq
  have hfin {st : Nat} (hst : st < 256) := s.takenUp_completes hr 0 hst
  refine ⟨fun h1 => ⟨_, hexec, ?_⟩, fun h1 (h2 : codexKnown ws = false) => ⟨_, hexec, ?_⟩,
    fun h1 (h2 : codexKnown ws = true) (h3 : s.codexBusy ws routing = true) => ⟨_, hexec, ?_⟩,
    fun h1 (h2 : codexKnown ws = true) (h3 : s.codexBusy ws routing = false) (h4 : s.codexGone ws = true) => ⟨_, hexec, ?_⟩,
    fun h1 (h2 : codexKnown ws = true) (h3 : s.codexBusy ws routing = false) (h4 : s.codexGone ws = false) h5 => ⟨_, hexec, ?_⟩,
    fun k h1 (h2 : codexKnown ws = true) (h3 : s.codexBusy ws routing = false) (h4 : s.codexGone ws = false) h5 h6 => ⟨_, hexec, ?_⟩,
    fun k h1 (h2 : codexKnown ws = true) (h3 : s.codexBusy ws routing = false) (h4 : s.codexGone ws = false) h5 h6 => ⟨_, hexec, ?_⟩⟩
  · rw [heq, if_pos h1]
    exact hfin (by decide)
  · rw [heq, if_neg (by rw [h1]; decide), if_pos h2]
    exact hfin (by decide)
  · rw [heq, if_neg (by rw [h1]; decide), if_neg (by rw [h2]; decide), if_pos h3]
    exact hfin (by decide)
  · rw [heq, if_neg (by rw [h1]; decide), if_neg (by rw [h2]; decide), if_neg (by rw [h3]; decide), if_pos h4]
    exact hfin (by decide)
  · obtain ⟨hs, hk, -⟩ := s.codexSource_takenUp r h2 (codexKind ws) low
    rw [heq, if_neg (by rw [h1]; decide), if_neg (by rw [h2]; decide), if_neg (by rw [h3]; decide), if_neg (by rw [h4]; decide)]
    dsimp only
    rw [hk, h5]
    exact (hs.inExecution hr).completes hr 0 (by decide)
  · obtain ⟨hs, hk, himg, -⟩ := s.codexSource_takenUp r h2 (codexKind ws) low
    rw [heq, if_neg (by rw [h1]; decide), if_neg (by rw [h2]; decide), if_neg (by rw [h3]; decide), if_neg (by rw [h4]; decide)]
    dsimp only
    obtain ⟨st, hst⟩ := Option.isSome_iff_exists.1 h6
    rw [hk, h5]
    dsimp only
    rw [himg, hst]
    refine ⟨(hs.inExecution hr).completes hr 0 (State.codexImage_lt hst), ?_⟩
    rw [State.finish_load _ hr, hs.load.1]
    exact State.load_of_not_busy h3
  · obtain ⟨hs, hk, himg, hed⟩ := s.codexSource_takenUp r h2 (codexKind ws) low
    rw [heq, if_neg (by rw [h1]; decide), if_neg (by rw [h2]; decide), if_neg (by rw [h3]; decide), if_neg (by rw [h4]; decide)]
    dsimp only
    rw [hk, h5]
    dsimp only
    rw [himg, h6]
    dsimp only
    generalize ((s.takenUp r).codexSource (codexSrc ws)).2 = t at *
    obtain ⟨k1, k2, k3, k4⟩ := t.loadBegin_shown
      { ring := some r, kind := codexKind ws, shelf := bits (ws.headD 0) 19 4, slot := k, boot := false, units := codexUnits ws
        edition := t.imgEdition k, minPl := t.imgMinPl k 0, at_ := if bitOf (ws.headD 0) 24 then some (bits (ws.getD 1 0) 0 32) else none
        phase := .teardown, cancel := false, own := none, startF := none, tiles := [], xps := [], rings := [] }
    refine ⟨((hs.inExecution hr).kept hr k4).runs, ?_, ?_, fun hz hb => ?_, ?_⟩
    · rw [k1, ← hed]
      rfl
    · rw [k1]
      rfl
    · rw [k2, hz, hb]
      simp
    · exact ((s.takenUp_quiet r).of_subset (by simp)).trans ((hs.quiet.of_subset (by simp)).trans (k3.of_subset (List.nil_subset _)))

end Sys2Proof.Machine
end

section
/-! Route changes begin and end, and gain changes ramp or step (R113, R115, R116, R120 to R122). -/

namespace Sys2Proof.Machine

variable {l : List Fld} {s t u : State} {n : Nat} {c : XpChange} {isEnd : Bool}

/-! ### The command of a change (R115, R122) -/

theorem State.routeProgress_still (h : (s.ring c.ring).exec = none) : s.routeProgress c isEnd = s := by
  rw [State.routeProgress, h]

theorem State.routeProgress_setXp_still (h : (s.ring c.ring).exec = none) (x : Xp) :
    (s.setXp n x).routeProgress c isEnd = s.setXp n x := State.routeProgress_still h

/-- The progress of a ROUTE changes nothing but its ring. -/
theorem State.routeProgress_ringOpsOnly (s : State) (c : XpChange) (isEnd : Bool) : RingOpsOnly OffEveryRing s (s.routeProgress c isEnd) := by
  unfold State.routeProgress
  split
  · exact .ite (.ite ((s.setExec_ringOpsOnly _ _).trans (State.finish_offEveryRing _ _ _ _)) (s.setExec_ringOpsOnly _ _)) (.refl s)
  · exact .refl s

theorem State.xp_routeProgress (s : State) (c : XpChange) (isEnd : Bool) (m : Nat) : (s.routeProgress c isEnd).xp m = s.xp m := by
  rw [State.xp, (s.routeProgress_ringOpsOnly c isEnd).fwd.2.1, State.xp]

/-- The last change of a ROUTE completes its command. -/
theorem State.routeProgress_finishes {e : Exec} (he : (t.ring c.ring).exec = some e) (hseq : e.seq = c.seq)
    (hop : e.words.headD 0 % 256 = 0x07) (hbit : bitOf (e.words.headD 0) 25 = isEnd) (hleft : e.left = 1)
    (hretry : (t.ring c.ring).retrySeq = (s.ring c.ring).retrySeq) (hregs : t.regs = s.regs) (hframe : t.frame = s.frame) :
    Finishes s c.ring e stOk e.result (t.routeProgress c isEnd) := by
  have hexec : ((t.setExec c.ring (fun e => { e with left := e.left - 1 })).ring c.ring).exec = some { e with left := e.left - 1 } := by
    rw [State.ring_setExec, he]
    rfl
  have hfull : (t.setExec c.ring (fun e => { e with left := e.left - 1 })).cplFull c.ring = s.cplFull c.ring := by
    have hget (f : Fld) : (t.setExec c.ring (fun e => { e with left := e.left - 1 })).get f = s.get f := by
      rw [State.get_setExec, State.get, hregs, State.get]
    unfold State.cplFull State.cplRing State.ringIs State.ringSize State.ringLevel State.on
    simp only [hget]
  have hprog : t.routeProgress c isEnd = (t.setExec c.ring (fun e => { e with left := e.left - 1 })).finish c.ring stOk e.result := by
    rw [State.routeProgress, he]
    dsimp only
    rw [if_pos ⟨hseq, hop, hbit, by omega⟩, if_pos hleft]
  rw [hprog]
  exact State.finishes (e := { e with left := e.left - 1 }) s hexec (by rw [State.ring_setExec]; exact hretry) hfull hframe e.result (by decide)

theorem Quiet.setXp (h : Quiet l s t) (m : Nat) (x : Xp) : Quiet l s (t.setXp m x) := h.other rfl rfl rfl rfl

/-! ### A change begins (R115 step 3) -/

/-- The command of change `c` notes the frame of its begin. -/
def State.noteBegin (s : State) (c : XpChange) : State :=
  match (s.ring c.ring).exec with
  | some e => if e.seq = c.seq then s.setExec c.ring (fun e => { e with result := s.frame }) else s
  | none => s

theorem State.noteBegin_still (h : (s.ring c.ring).exec = none) : s.noteBegin c = s := by
  rw [State.noteBegin, h]

/-- A change of one crosspoint alone, at the head of its queue, begins. -/
theorem routeChangeBegin_alone (hq : (s.xp n).queue.head? = some c) (hg : c.group = [n]) (hr : s.changeReady n = true) :
    routeChangeBegin n s = (s.noteBegin c).beginChange n c := by
  obtain ⟨rest, hqueue⟩ : ∃ rest, (s.xp n).queue = c :: rest := by
    cases h : (s.xp n).queue with
    | nil => rw [h] at hq; simp at hq
    | cons d rest =>
      rw [h, List.head?_cons] at hq
      exact ⟨rest, by rw [Option.some.inj hq]⟩
  have hxp : (s.noteBegin c).xp n = s.xp n := by
    unfold State.noteBegin
    split
    · split <;> rfl
    · rfl
  unfold routeChangeBegin
  rw [hqueue]
  dsimp only
  rw [hg, if_pos (by simp [hqueue, hr]), List.foldl_cons, List.foldl_nil]
  change (match ((s.noteBegin c).xp n).queue with | d :: _ => (s.noteBegin c).beginChange n d | [] => s.noteBegin c) = _
  rw [hxp, hqueue]

/-- The crosspoint's new route, from nothing (R113, R116). -/
def Xp.fresh (x : Xp) (c : XpChange) (d : Nat × Nat) : Xp :=
  { x with queue := x.queue.tail, desc := some d, dom := c.dom, old := none, gainFrom := xpGain d, applied := xpGain d
           gainTo := xpGain d, phase := .fading, pos := 0, posOld := 0, fadeK := c.fadeK, power := c.power, zcTimeouts := 0, cur := some c }

/-- The crosspoint's new route, over one that fades out (R116). -/
def Xp.over (x : Xp) (c : XpChange) (d e : Nat × Nat) : Xp :=
  { x with queue := x.queue.tail, desc := some d, dom := c.dom, old := some e, oldDom := x.dom, gainFrom := x.applied
           applied := xpGain d, gainTo := xpGain d, phase := .fading, pos := 0, posOld := 0, fadeK := c.fadeK
           power := c.power, zcTimeouts := 0, cur := some c }

/-- The crosspoint's gain, on its way to that of `d` (R120, R121). -/
def Xp.regain (x : Xp) (c : XpChange) (d : Nat × Nat) : Xp :=
  { x with queue := x.queue.tail, desc := some d, gainFrom := x.applied, gainTo := xpGain d, pos := 0, cur := some c
           phase := if xpGmode d = 2 then .ramping else .zcWait }

/-- The crosspoint without its route, which fades out (R116). -/
def Xp.cleared (x : Xp) (c : XpChange) (e : Nat × Nat) : Xp :=
  { x with queue := x.queue.tail, desc := none, old := some e, oldDom := x.dom, gainFrom := x.applied, phase := .fading, pos := 0
           posOld := 0, fadeK := c.fadeK, power := c.power, cur := some c }

theorem State.beginChange_fresh {d : Nat × Nat} (hx : (s.xp n).desc = none) (hc : c.desc = some d) :
    s.beginChange n c = (s.setXp n ((s.xp n).fresh c d)).routeProgress c false := by
  unfold State.beginChange
  dsimp only
  rw [hx, hc]
  rfl

theorem State.beginChange_over {d e : Nat × Nat} (hx : (s.xp n).desc = some e) (hc : c.desc = some d) (hg : gainOnly d e = false) :
    s.beginChange n c = (s.setXp n ((s.xp n).over c d e)).routeProgress c false := by
  unfold State.beginChange
  dsimp only
  rw [hx, hc]
  dsimp only
  rw [if_neg (by rw [hg]; decide)]
  rfl

theorem State.beginChange_regain {d e : Nat × Nat} (hx : (s.xp n).desc = some e) (hc : c.desc = some d) (hg : gainOnly d e = true)
    (hstill : (s.ring c.ring).exec = none) : s.beginChange n c = s.setXp n ((s.xp n).regain c d) := by
  unfold State.beginChange Xp.regain
  dsimp only
  rw [hx, hc]
  dsimp only
  rw [if_pos hg]
  by_cases hm : xpGmode d = 2
  · simp only [if_pos hm]
    split
    · exact State.routeProgress_still hstill
    · rfl
  · simp only [if_neg hm]

theorem State.beginChange_cleared {e : Nat × Nat} (hx : (s.xp n).desc = some e) (hc : c.desc = none) :
    s.beginChange n c = (s.setXp n ((s.xp n).cleared c e)).routeProgress c false := by
  unfold State.beginChange
  dsimp only
  rw [hx, hc]
  rfl

/-- A change that begins on a crosspoint without a command in execution moves that crosspoint alone. -/
theorem State.setXp_shown (s : State) (n : Nat) (x : Xp) :
    (s.setXp n x).xp n = x ∧ (∀ y, y ≠ n → (s.setXp n x).xp y = s.xp y) ∧ Quiet [] s (s.setXp n x) :=
  ⟨s.xp_setXp_same n x, fun _ hy => s.xp_setXp_ne x hy, (Quiet.refl _ s).setXp n x⟩

/-! ### A change ends (R115 step 5, R120 to R122) -/

/-- Crosspoint `n` becomes `x`, and the change that ends with it reports to its command. -/
def State.endWith (s : State) (n : Nat) (x : Xp) : State :=
  match (s.xp n).cur with
  | some c => (s.setXp n x).routeProgress c true
  | none => s.setXp n x

theorem State.endWith_shown (s : State) (n : Nat) (x : Xp) :
    (s.endWith n x).xp n = x ∧ (∀ y, y ≠ n → (s.endWith n x).xp y = s.xp y) ∧
      ((∀ c, (s.xp n).cur = some c → (s.ring c.ring).exec = none) → Quiet [] s (s.endWith n x)) := by
  obtain ⟨h1, h2, h3⟩ := s.setXp_shown n x
  unfold State.endWith
  split
  · next c hc =>
    refine ⟨(State.xp_routeProgress _ _ _ _).trans h1, fun y hy => (State.xp_routeProgress _ _ _ _).trans (h2 y hy), fun hstill => ?_⟩
    rw [State.routeProgress_setXp_still (hstill c hc)]
    exact h3
  · exact ⟨h1, h2, fun _ => h3⟩

theorem routeFadeEnd_steady (hp : (s.xp n).phase = .fading) (hd : (s.xp n).desc.isSome = true) (hpos : 2 ^ (s.xp n).fadeK ≤ (s.xp n).pos)
    (hold : (s.xp n).old.isSome = true → 2 ^ (s.xp n).fadeK ≤ (s.xp n).posOld) :
    routeFadeEnd n s = s.endWith n { s.xp n with phase := .steady, old := none, pos := 0, posOld := 0, cur := none } := by
  have hnone : (s.xp n).desc.isNone = false := by rw [← Option.not_isSome, hd]; rfl
  have hold' : ((s.xp n).old.isNone || decide (2 ^ (s.xp n).fadeK ≤ (s.xp n).posOld)) = true := by
    cases h : (s.xp n).old with
    | none => rfl
    | some e => simpa using hold (by rw [h]; rfl)
  unfold routeFadeEnd
  dsimp only
  rw [if_pos (by rw [hp, hnone, hold']; simpa using hpos), if_neg (by rw [hnone]; decide)]
  rfl

theorem routeFadeEnd_empty (hp : (s.xp n).phase = .fading) (hd : (s.xp n).desc = none)
    (hold : (s.xp n).old.isSome = true → 2 ^ (s.xp n).fadeK ≤ (s.xp n).posOld) :
    routeFadeEnd n s = s.endWith n { Xp.reset with queue := (s.xp n).queue } := by
  have hold' : ((s.xp n).old.isNone || decide (2 ^ (s.xp n).fadeK ≤ (s.xp n).posOld)) = true := by
    cases h : (s.xp n).old with
    | none => rfl
    | some e => simpa using hold (by rw [h]; rfl)
  unfold routeFadeEnd
  dsimp only
  rw [if_pos (by rw [hp, hd, hold']; rfl), if_pos (by rw [hd]; rfl)]
  rfl

theorem gainRampEnd_ends {d : Nat × Nat} (hp : (s.xp n).phase = .ramping) (hd : (s.xp n).desc = some d) (hpos : 2 ^ xpRampK d ≤ (s.xp n).pos) :
    gainRampEnd n s = s.endWith n { s.xp n with phase := .steady, applied := (s.xp n).gainTo, gainFrom := (s.xp n).gainTo, pos := 0, cur := none } := by
  unfold gainRampEnd
  dsimp only
  rw [hp, hd]
  dsimp only
  rw [if_pos hpos]
  rfl

/-- R120: the step taken at the timeout. -/
theorem State.zcTimeoutStep_shown (s : State) (n : Nat) :
    let u := s.zcTimeoutStep n
    (u.xp n).phase = .steady ∧ (u.xp n).applied = (s.xp n).gainTo ∧ (u.xp n).zcTimeouts = satNat 16 ((s.xp n).zcTimeouts + 1) ∧
      (u.xp n).stepS = true ∧ 0x0410 ∈ u.occ ∧ (∀ y, y ≠ n → u.xp y = s.xp y) ∧
      ((∀ c, (s.xp n).cur = some c → (s.ring c.ring).exec = none) → Quiet [] s u) := by
  unfold State.zcTimeoutStep
  dsimp only
  obtain ⟨h1, h2, h3⟩ := s.setXp_shown n { s.xp n with zcTimeouts := satNat 16 ((s.xp n).zcTimeouts + 1) }
  have hring (r : Nat) : (s.setXp n { s.xp n with zcTimeouts := satNat 16 ((s.xp n).zcTimeouts + 1) }).ring r = s.ring r := rfl
  generalize s.setXp n { s.xp n with zcTimeouts := satNat 16 ((s.xp n).zcTimeouts + 1) } = v at *
  have hxp (y : Nat) : (v.post 0x0410 sevInfo (pack [p16 n, p32 (s.xp n).pos])).xp y = v.xp y := by
    have hxps : (v.post 0x0410 sevInfo (pack [p16 n, p32 (s.xp n).pos])).xps = v.xps := by rw [(v.post_eventOnly _ _ _).rest]
    rw [State.xp, hxps, State.xp]
  have hocc : 0x0410 ∈ (v.post 0x0410 sevInfo (pack [p16 n, p32 (s.xp n).pos])).occ := State.mem_occ_post _ _ _ (by decide)
  have hq : Quiet [] s (v.post 0x0410 sevInfo (pack [p16 n, p32 (s.xp n).pos])) := h3.post _ _ _
  have hring' (r : Nat) : (v.post 0x0410 sevInfo (pack [p16 n, p32 (s.xp n).pos])).ring r = s.ring r := by
    rw [State.ring_post, hring]
  generalize v.post 0x0410 sevInfo (pack [p16 n, p32 (s.xp n).pos]) = w at *
  obtain ⟨k1, k2, k3⟩ := w.setXp_shown n { (w.xp n).step with cur := none }
  have hw : w.xp n = { s.xp n with zcTimeouts := satNat 16 ((s.xp n).zcTimeouts + 1) } := (hxp n).trans h1
  unfold State.takeStep
  dsimp only
  generalize hx : w.setXp n { (w.xp n).step with cur := none } = x at *
  have hxocc : x.occ = w.occ := by rw [← hx]; rfl
  have hxring (r : Nat) : x.ring r = w.ring r := by rw [← hx]; rfl
  have hcur : (w.xp n).cur = (s.xp n).cur := by rw [hw]
  have hfacts (u : State) (hu : ∀ y, u.xp y = x.xp y) (ho : x.occ ⊆ u.occ) :
      (u.xp n).phase = .steady ∧ (u.xp n).applied = (s.xp n).gainTo ∧ (u.xp n).zcTimeouts = satNat 16 ((s.xp n).zcTimeouts + 1) ∧
      (u.xp n).stepS = true ∧ 0x0410 ∈ u.occ ∧ (∀ y, y ≠ n → u.xp y = s.xp y) := by
    rw [hu n, k1, hw]
    exact ⟨rfl, rfl, rfl, rfl, ho (hxocc ▸ hocc), fun y hy => by rw [hu y, k2 y hy, hxp, h2 y hy]⟩
  split
  · next c hc =>
    obtain ⟨f1, f2, f3, f4, f5, f6⟩ := hfacts ((x.routeProgress c false).routeProgress c true)
      (fun y => by rw [State.xp_routeProgress, State.xp_routeProgress])
      (fun _ ho => (State.routeProgress_ringOpsOnly _ _ _).occ ((State.routeProgress_ringOpsOnly _ _ _).occ ho))
    refine ⟨f1, f2, f3, f4, f5, f6, fun hstill => ?_⟩
    have hnone : (x.ring c.ring).exec = none := by rw [hxring, hring', hstill c (hcur ▸ hc)]
    rw [State.routeProgress_still hnone, State.routeProgress_still hnone]
    exact hq.trans k3
  · obtain ⟨f1, f2, f3, f4, f5, f6⟩ := hfacts x (fun _ => rfl) (fun _ ho => ho)
    exact ⟨f1, f2, f3, f4, f5, f6, fun _ => hq.trans k3⟩

/-- Settles O29: a change begins by what it replaces (`State.beginChange_fresh` and its kin), and ends with its report
(`State.endWith_shown`, `State.routeProgress_finishes`). -/
theorem routeChangesBeginAndEnd : Obligations.RouteChangesBeginAndEnd := by
  unfold Obligations.RouteChangesBeginAndEnd
  intro s n
  dsimp only
  refine ⟨fun c d hq hg hr hx hc hstill => ⟨_, rfl, ?_⟩, fun c d e hq hg hr hx hc hgain hstill => ⟨_, rfl, ?_⟩,
    fun c d e hq hg hr hx hc hgain hstill => ⟨_, rfl, ?_⟩, fun c e hq hg hr hx hc hstill => ⟨_, rfl, ?_⟩,
    fun c d e hq hg hr hx hc he hseq hop hbit hleft => ⟨_, rfl, ?_⟩, fun hp hd hpos hold => ⟨_, rfl, ?_⟩,
    fun hp hd hold => ⟨_, rfl, ?_⟩, fun c e hp hd hpos hold hcur he hseq hop hbit hleft => ⟨_, rfl, ?_⟩,
    fun d hp hd hm hpos => ⟨_, rfl, ?_⟩, fun d hp hd hpos => ⟨_, rfl, ?_⟩⟩
  · have hnone := hstill c rfl
    rw [routeChangeBegin_alone hq hg hr, State.noteBegin_still hnone, State.beginChange_fresh hx hc, State.routeProgress_setXp_still hnone]
    obtain ⟨h1, h2, h3⟩ := s.setXp_shown n ((s.xp n).fresh c d)
    dsimp only
    rw [h1]
    exact ⟨rfl, rfl, rfl, rfl, rfl, rfl, rfl, h2, h3⟩
  · have hnone := hstill c rfl
    rw [routeChangeBegin_alone hq hg hr, State.noteBegin_still hnone, State.beginChange_over hx hc hgain, State.routeProgress_setXp_still hnone]
    obtain ⟨h1, h2, h3⟩ := s.setXp_shown n ((s.xp n).over c d e)
    dsimp only
    rw [h1]
    exact ⟨rfl, rfl, rfl, rfl, rfl, rfl, rfl, h2, h3⟩
  · have hnone := hstill c rfl
    rw [routeChangeBegin_alone hq hg hr, State.noteBegin_still hnone, State.beginChange_regain hx hc hgain hnone]
    obtain ⟨h1, h2, h3⟩ := s.setXp_shown n ((s.xp n).regain c d)
    dsimp only
    rw [h1]
    exact ⟨rfl, rfl, rfl, rfl, rfl, h2, h3⟩
  · have hnone := hstill c rfl
    rw [routeChangeBegin_alone hq hg hr, State.noteBegin_still hnone, State.beginChange_cleared hx hc, State.routeProgress_setXp_still hnone]
    obtain ⟨h1, h2, h3⟩ := s.setXp_shown n ((s.xp n).cleared c e)
    dsimp only
    rw [h1]
    exact ⟨rfl, rfl, rfl, rfl, rfl, h2, h3⟩
  · have hnote : s.noteBegin c = s.setExec c.ring (fun e => { e with result := s.frame }) := by
      rw [State.noteBegin, he]
      dsimp only
      rw [if_pos hseq]
    rw [routeChangeBegin_alone hq hg hr, hnote, State.beginChange_fresh (by exact hx) hc]
    exact State.routeProgress_finishes (e := { e with result := s.frame }) (s := s)
      (by
        change ((s.setExec c.ring (fun e => { e with result := s.frame })).ring c.ring).exec = _
        rw [State.ring_setExec, he]
        rfl) hseq hop hbit hleft
      (by
        change ((s.setExec c.ring (fun e => { e with result := s.frame })).ring c.ring).retrySeq = _
        rw [State.ring_setExec]) rfl rfl
  · rw [routeFadeEnd_steady hp hd hpos hold]
    obtain ⟨h1, h2, h3⟩ := s.endWith_shown n { s.xp n with phase := .steady, old := none, pos := 0, posOld := 0, cur := none }
    rw [h1]
    exact ⟨rfl, rfl, rfl, rfl, h2, h3⟩
  · rw [routeFadeEnd_empty hp hd hold]
    exact s.endWith_shown n _
  · rw [routeFadeEnd_steady hp hd hpos (fun h => by rw [hold] at h; exact absurd h (by decide)), State.endWith, hcur]
    exact State.routeProgress_finishes he hseq hop hbit hleft rfl rfl rfl
  · have hu : xpZcTimeout n s = s.zcTimeoutStep n := by
      unfold xpZcTimeout
      dsimp only
      rw [hp, hd]
      dsimp only
      rw [if_pos ⟨hm, hpos⟩]
    rw [hu]
    exact s.zcTimeoutStep_shown n
  · rw [gainRampEnd_ends hp hd hpos]
    obtain ⟨h1, h2, h3⟩ := s.endWith_shown n
      { s.xp n with phase := .steady, applied := (s.xp n).gainTo, gainFrom := (s.xp n).gainTo, pos := 0, cur := none }
    rw [h1]
    exact ⟨rfl, rfl, hd, h2, h3⟩

end Sys2Proof.Machine
end

section
/-! The flash: erased, programmed and committed (R158, R179). -/

namespace Sys2Proof.Machine

variable {s t u : State} {r : Nat} {ws : List Nat}

/-! ### Bytes of words -/

theorem leBytes_getElem? (n w i : Nat) : (leBytes n w)[i]? = if i < n then some (w / 256 ^ i % 256) else none := by
  induction n generalizing w i with
  | zero => simp [leBytes]
  | succ n ih =>
    cases i with
    | zero => simp [leBytes]
    | succ i => simp only [leBytes, List.getElem?_cons_succ, ih, Nat.add_lt_add_iff_right, pow_succ', ← Nat.div_div_eq_div_mul]

theorem length_leBytes (n w : Nat) : (leBytes n w).length = n := by
  induction n generalizing w with
  | zero => rfl
  | succ n ih => rw [leBytes, List.length_cons, ih]

/-- Byte `j` of words of eight bytes each. -/
theorem flatMap_leBytes_getElem? (l : List Nat) (j : Nat) :
    (l.flatMap (leBytes 8))[j]? = if j < 8 * l.length then some (l.getD (j / 8) 0 / 256 ^ (j % 8) % 256) else none := by
  induction l generalizing j with
  | nil => simp
  | cons w l ih =>
    rw [List.flatMap_cons, List.getElem?_append, length_leBytes, List.length_cons]
    by_cases h : j < 8
    · have h0 : j / 8 = 0 := by omega
      rw [if_pos h, leBytes_getElem?, if_pos h, if_pos (by omega), h0, Nat.mod_eq_of_lt h]
      rfl
    · have h1 : j / 8 = (j - 8) / 8 + 1 := by omega
      have h2 : j % 8 = (j - 8) % 8 := by omega
      rw [if_neg h, ih, h1, h2, List.getD_cons_succ]
      by_cases hlt : j - 8 < 8 * l.length
      · rw [if_pos hlt, if_pos (by omega)]
      · rw [if_neg hlt, if_neg (by omega)]

/-- A word is known by its bytes. -/
theorem cellsRead_of_bytes {d : Byte} {m : List Host.Cell} {a n v : Nat} (h : ∀ i, i < n → (mapGet d m (a + i)).toNat = v / 256 ^ i % 256) :
    cellsRead d m a n = v % 256 ^ n := by
  induction n generalizing a v with
  | zero => rw [cellsRead, pow_zero, Nat.mod_one]
  | succ n ih =>
    have h0 := h 0 (Nat.succ_pos n)
    rw [pow_zero, Nat.div_one, Nat.add_zero] at h0
    rw [cellsRead, h0, ih (v := v / 256), pow_succ', Nat.mod_mul]
    intro i hi
    have hstep := h (i + 1) (Nat.succ_lt_succ hi)
    rw [pow_succ', ← Nat.div_div_eq_div_mul] at hstep
    rw [← hstep]
    congr 2
    omega

/-! ### The flash alone (R155, R158, R179) -/

/-- From `s` to `u` the rings and the registers are kept, and every byte of the flash outside `n` bytes from `a` on. -/
structure FlashOnly (a n : Nat) (s u : State) : Prop where
  rings : RingsKept s u
  flash : ∀ b, (b < a ∨ a + n ≤ b) → u.flashAt b = s.flashAt b

theorem FlashOnly.trans {a n : Nat} (h : FlashOnly a n s t) (k : FlashOnly a n t u) : FlashOnly a n s u :=
  ⟨h.rings.trans k.rings, fun b hb => (k.flash b hb).trans (h.flash b hb)⟩

theorem FlashOnly.mono {a n a' n' : Nat} (h : FlashOnly a n s u) (hlo : a' ≤ a) (hhi : a + n ≤ a' + n') : FlashOnly a' n' s u :=
  ⟨h.rings, fun b hb => h.flash b (by omega)⟩

theorem State.flashErase_shown (s : State) (a n : Nat) :
    FlashOnly a n s (s.flashErase a n) ∧ ∀ b, a ≤ b → b < a + n → (s.flashErase a n).flashAt b = 0xFF := by
  have hget (b : Nat) : (s.flashErase a n).flashAt b = if (decide (b < a) || decide (a + n ≤ b)) = true then s.flashAt b else 0xFF :=
    mapGet_filter 0xFF s.flash (fun x => decide (x < a) || decide (a + n ≤ x)) b
  refine ⟨⟨(RingsKept.refl s).other rfl rfl rfl, fun b hb => ?_⟩, fun b hlo hhi => ?_⟩
  · rw [hget, if_pos (by simpa using hb)]
  · rw [hget, if_neg (by simp; omega)]

theorem State.flashFree_flashOnly (s : State) (f : Byte → Byte → Byte) (a n : Nat) : FlashOnly a n s (s.flashFree f a n) := by
  induction n generalizing s a with
  | zero => exact ⟨.refl s, fun _ _ => rfl⟩
  | succ n ih =>
    have hstep (t : State) (hr : RingsKept s t) (hf : ∀ b, b ≠ a → t.flashAt b = s.flashAt b) :
        FlashOnly a (n + 1) s (t.flashFree f (a + 1) n) :=
      FlashOnly.trans ⟨hr, fun b hb => hf b (by omega)⟩ ((ih t (a + 1)).mono (by omega) (by omega))
    exact hstep _ ((RingsKept.refl s).other rfl rfl rfl) fun b hb => mapGet_set_ne hb

theorem State.flashProgram_shown (s : State) (a v : Nat) :
    FlashOnly a 1 s (s.flashProgram a v) ∧ (s.flashProgram a v).flashAt a = s.flashAt a &&& BitVec.ofNat 8 v :=
  ⟨⟨(RingsKept.refl s).other rfl rfl rfl, fun b hb => mapGet_set_ne (show b ≠ a by omega)⟩, mapGet_set_same _ _ _ _⟩

/-- Bytes programmed at distinct addresses. -/
theorem State.flashPrograms_shown (l : List (Nat × Nat)) (s : State) (hnd : (l.map Prod.fst).Nodup) :
    let u := l.foldl (fun s p => s.flashProgram p.1 p.2) s
    (∀ p ∈ l, u.flashAt p.1 = s.flashAt p.1 &&& BitVec.ofNat 8 p.2) ∧ (∀ b, b ∉ l.map Prod.fst → u.flashAt b = s.flashAt b) ∧
      RingsKept s u := by
  induction l generalizing s with
  | nil => exact ⟨fun p hp => absurd hp List.not_mem_nil, fun _ _ => rfl, .refl s⟩
  | cons q l ih =>
    rw [List.map_cons, List.nodup_cons] at hnd
    obtain ⟨hq, hnd⟩ := hnd
    obtain ⟨⟨hr, hout⟩, hin⟩ := s.flashProgram_shown q.1 q.2
    obtain ⟨h1, h2, h3⟩ := ih (s.flashProgram q.1 q.2) hnd
    refine ⟨fun p hp => ?_, fun b hb => ?_, hr.trans h3⟩
    · rw [List.foldl_cons]
      rcases List.mem_cons.1 hp with rfl | hp
      · exact (h2 _ hq).trans hin
      · have hne : p.1 ≠ q.1 := fun e => hq (e ▸ List.mem_map_of_mem hp)
        rw [h1 p hp, hout p.1 (by omega)]
    · rw [List.map_cons, List.mem_cons, not_or] at hb
      rw [List.foldl_cons, h2 b hb.2, hout b (by omega)]

/-! ### The bytes of a SLOT_WRITE (R179) -/

theorem mem_slotWriteBytes {k off : Nat} {l : List Nat} {p : Nat × Nat} :
    p ∈ slotWriteBytes k off l ↔ ∃ j, j < 8 * l.length ∧ (off + j < 8 ∨ 16 ≤ off + j) ∧
      p = (k * slotBytes + (off + j), l.getD (j / 8) 0 / 256 ^ (j % 8) % 256) := by
  simp only [slotWriteBytes, List.mem_map, List.mem_filter, Bool.or_eq_true, decide_eq_true_iff]
  constructor
  · rintro ⟨q, ⟨⟨⟨v, j⟩, hmem, rfl⟩, hq⟩, rfl⟩
    rw [List.mem_zipIdx_iff_getElem?, flatMap_leBytes_getElem?] at hmem
    split at hmem
    · next hj => exact ⟨j, hj, hq, by rw [Option.some.inj hmem]⟩
    · cases hmem
  · rintro ⟨j, hj, hq, rfl⟩
    refine ⟨_, ⟨⟨(l.getD (j / 8) 0 / 256 ^ (j % 8) % 256, j), ?_, rfl⟩, hq⟩, rfl⟩
    rw [List.mem_zipIdx_iff_getElem?, flatMap_leBytes_getElem?, if_pos hj]

theorem nodup_slotWriteBytes (k off : Nat) (l : List Nat) : ((slotWriteBytes k off l).map Prod.fst).Nodup := by
  have hinj : Function.Injective (fun i => k * slotBytes + (off + i)) := fun a b h => by
    dsimp only at h
    omega
  have hall := ((l.flatMap (leBytes 8)).nodup_zipIdx_map_snd).map hinj
  rw [slotWriteBytes, List.map_map]
  rw [List.map_map] at hall
  refine List.Nodup.sublist (List.filter_sublist.map _) ?_
  rw [List.map_map]
  exact hall

/-- R158: the eight bytes of a commit word are programmed. -/
theorem State.commit_shown (s : State) (k v : Nat) :
    let u := s.commit k v false
    (∀ i, i < 8 → u.flashAt (k * slotBytes + 8 + i) = s.flashAt (k * slotBytes + 8 + i) &&& BitVec.ofNat 8 (v / 256 ^ i % 256)) ∧
      FlashOnly (k * slotBytes + 8) 8 s u := by
  have hcommit : s.commit k v false = ((leBytes 8 v).zipIdx.map (fun p => (k * slotBytes + 8 + p.2, p.1))).foldl
      (fun s p => s.flashProgram p.1 p.2) s := by
    rw [List.foldl_map]
    rfl
  have hinj : Function.Injective (fun i => k * slotBytes + 8 + i) := fun a b h => by
    dsimp only at h
    omega
  have hnd := ((leBytes 8 v).nodup_zipIdx_map_snd).map hinj
  rw [List.map_map] at hnd
  have hmem (p : Nat × Nat) : p ∈ (leBytes 8 v).zipIdx.map (fun p => (k * slotBytes + 8 + p.2, p.1)) ↔
      ∃ i, i < 8 ∧ p = (k * slotBytes + 8 + i, v / 256 ^ i % 256) := by
    rw [List.mem_map]
    constructor
    · rintro ⟨⟨b, i⟩, hb, rfl⟩
      rw [List.mem_zipIdx_iff_getElem?, leBytes_getElem?] at hb
      split at hb
      · next hi => exact ⟨i, hi, by rw [Option.some.inj hb]⟩
      · cases hb
    · rintro ⟨i, hi, rfl⟩
      refine ⟨(v / 256 ^ i % 256, i), ?_, rfl⟩
      rw [List.mem_zipIdx_iff_getElem?, leBytes_getElem?, if_pos hi]
  obtain ⟨h1, h2, h3⟩ := State.flashPrograms_shown ((leBytes 8 v).zipIdx.map (fun p => (k * slotBytes + 8 + p.2, p.1))) s (by
    rw [List.map_map]
    exact hnd)
  dsimp only
  rw [hcommit]
  refine ⟨fun i hi => h1 _ ((hmem _).2 ⟨i, hi, rfl⟩), h3, fun b hb => h2 b fun hin => ?_⟩
  obtain ⟨p, hp, rfl⟩ := List.mem_map.1 hin
  obtain ⟨i, hi, rfl⟩ := (hmem p).1 hp
  dsimp only at hb
  omega

theorem State.flashWord_of_bytes {k o v : Nat} (h : ∀ i, i < 8 → (s.flashAt (k * slotBytes + o + i)).toNat = v / 256 ^ i % 256) :
    s.flashWord k o = v % 2 ^ 64 := cellsRead_of_bytes h

theorem commitWord_lt (e : Nat) : commitWord e < 2 ^ 64 := by
  have h : e % 2 ^ 32 ^^^ 0xFFFFFFFF < 2 ^ 32 := Nat.xor_lt_two_pow (Nat.mod_lt _ (by decide)) (by decide)
  unfold commitWord
  omega

/-- R158: an erased commit word takes the value programmed. -/
theorem State.commit_erased (s : State) {k v : Nat} (hv : v < 2 ^ 64) (he : s.flashWord k 8 = 2 ^ 64 - 1) :
    (s.commit k v false).flashWord k 8 = v := by
  obtain ⟨h1, -⟩ := s.commit_shown k v
  rw [State.flashWord_of_bytes (v := v), Nat.mod_eq_of_lt hv]
  intro i hi
  have hones : s.flashAt (k * slotBytes + 8 + i) = 0xFF := by
    have := cellsRead_byte 0xFF s.flash (k * slotBytes + 8) hi
    change s.flashWord k 8 / 256 ^ i % 256 = _ at this
    rw [he] at this
    apply BitVec.eq_of_toNat_eq
    rw [State.flashAt, ← this]
    interval_cases i <;> rfl
  rw [h1 i hi, hones]
  have hall : (0xFF : Byte) &&& BitVec.ofNat 8 (v / 256 ^ i % 256) = BitVec.ofNat 8 (v / 256 ^ i % 256) := BitVec.allOnes_and
  rw [hall, BitVec.toNat_ofNat]
  exact Nat.mod_mod _ _

/-- R158: a commit word programmed with 0 reads 0. -/
theorem State.commit_zero (s : State) (k : Nat) : (s.commit k 0 false).flashWord k 8 = 0 := by
  obtain ⟨h1, -⟩ := s.commit_shown k 0
  refine State.flashWord_of_bytes (v := 0) fun i hi => ?_
  rw [h1 i hi]
  simp

/-! ### The words that a command reads without error -/

theorem State.read6s_clean (n : Nat) (s : State) (hup : s.bankUp 6 = true) (w : Nat)
    (hclean : ∀ i, i < n → s.mark (bankAddr 6 (w + i)) = 0) :
    s.read6s w n = (((List.range n).map (fun i => s.peek6 (w + i)), false), s) := by
  have hretired : s.bankRetired 6 = false := by
    rw [State.bankUp, Bool.or_eq_true, beq_iff_eq, beq_iff_eq] at hup
    rw [State.bankRetired, beq_eq_false_iff_ne]
    omega
  induction n generalizing w with
  | zero => rfl
  | succ n ih =>
    have h0 : s.mark (bankAddr 6 w) = 0 := hclean 0 (Nat.succ_pos n)
    have hread : s.read6 w = ((s.memWord (bankAddr 6 w), false), s) := by
      rw [State.read6, State.bankCmdRead, if_neg (by rw [hretired]; decide), State.bankWord, if_neg (by simp)]
      dsimp only
      rw [h0, if_neg (by decide), if_neg (by decide)]
    rw [State.read6s, hread]
    dsimp only
    rw [ih (w + 1) fun i hi => by rw [Nat.add_assoc, Nat.add_comm 1 i]; exact hclean (i + 1) (by omega), List.range_succ_eq_map,
      List.map_cons, List.map_map]
    dsimp only
    simp only [Nat.add_zero, Bool.or_false, Prod.mk.injEq, and_true, List.cons.injEq]
    refine ⟨rfl, List.map_congr_left fun i _ => ?_⟩
    rw [Function.comp_apply, Nat.succ_eq_add_one, Nat.add_assoc, Nat.add_comm 1 i]

/-! ### The slot commands (R158, R179) -/

/-- The refusals of a slot command are those before it is taken up. -/
theorem State.takenUp_slotStop (s : State) (r k : Nat) (guard : Bool) : (s.takenUp r).slotStop k guard = s.slotStop k guard := by
  have hget {f : Fld} (hf : f.lo < 64 ∧ f.addr % 32 ≠ 24) : (s.takenUp r).get f = s.get f :=
    s.get_takenUp r (key_ne_of_addr_ne hf.1 (by simp [RING_STAT_STATE]) (by simp only [RING_STAT_STATE]; omega))
  have hforce : (s.takenUp r).slotInForce k = s.slotInForce k := by
    rw [State.slotInForce, State.on, hget (by decide), hget (by decide), State.slotInForce, State.on]
  have hread : (s.takenUp r).slotRead k = s.slotRead k := by
    unfold State.slotRead
    dsimp only
    rw [hget (by decide)]
    rfl
  unfold State.slotStop
  rw [hforce, hread]
  rfl

theorem State.slotStop_lt {k st : Nat} {guard : Bool} (h : s.slotStop k guard = some st) : st < 256 := by
  unfold State.slotStop at h
  split_ifs at h
  all_goals
    obtain rfl := Option.some.inj h
    decide

/-- A command that works on the flash alone completes, and its completion leaves the flash as it is. -/
theorem FlashOnly.completes {a n : Nat} (h : FlashOnly a n (s.takenUp r) t) (hr : r < 64) {st : Nat} (res : Nat) (hst : st < 256) :
    Completes s r st res (t.finish r st res) ∧ (t.finish r st res).flash = t.flash ∧
      ∀ b, (b < a ∨ a + n ≤ b) → (t.finish r st res).flashAt b = s.flashAt b := by
  have hflash : (t.finish r st res).flash = t.flash := by rw [(t.finish_ringOpsOnly hr st res).rest]
  refine ⟨((s.takenUp_inExecution r).kept hr h.rings).completes hr res hst, hflash, fun b hb => ?_⟩
  rw [State.flashAt, hflash]
  exact h.flash b hb

theorem slotErase_of (h : TakesUp s r ws) (ho : ws.headD 0 % 256 = 0x0B) (busy : Option Nat) :
    slotErase r busy s = match s.slotStop (bits (ws.headD 0) 16 1) true with
      | some st => (s.takenUp r).finish r st 0
      | none => match busy with
        | some n =>
          if n < 64 then
            (((s.takenUp r).flashErase (bits (ws.headD 0) 16 1 * slotBytes) (0x10000 * n)).flashFree (fun o f => o ||| f)
              (bits (ws.headD 0) 16 1 * slotBytes + 0x10000 * n) 0x10000).finish r stTimeout 0
          else ((s.takenUp r).flashErase (bits (ws.headD 0) 16 1 * slotBytes) slotBytes).finish r stOk 0
        | none => ((s.takenUp r).flashErase (bits (ws.headD 0) 16 1 * slotBytes) slotBytes).finish r stOk 0 := by
  rw [slotErase, State.command_of_takesUp h ho rfl]
  dsimp only
  rw [s.takenUp_slotStop] <;> rfl

theorem slotErase_whole (h : TakesUp s r ws) (hr : r < 64) (ho : ws.headD 0 % 256 = 0x0B)
    (hstop : s.slotStop (bits (ws.headD 0) 16 1) true = none) :
    let base := bits (ws.headD 0) 16 1 * slotBytes
    let u := slotErase r none s
    Completes s r stOk 0 u ∧ (∀ b : Nat, base ≤ b → b < base + slotBytes → u.flashAt b = 0xFF) ∧
      ∀ b : Nat, (b < base ∨ base + slotBytes ≤ b) → u.flashAt b = s.flashAt b := by
  dsimp only
  rw [slotErase_of h ho, hstop]
  dsimp only
  obtain ⟨h1, h2⟩ := (s.takenUp r).flashErase_shown (bits (ws.headD 0) 16 1 * slotBytes) slotBytes
  obtain ⟨k1, k2, k3⟩ := h1.completes hr (st := stOk) 0 (by decide)
  refine ⟨k1, fun b hlo hhi => ?_, k3⟩
  rw [State.flashAt, k2]
  exact h2 b hlo hhi

theorem slotErase_busy (h : TakesUp s r ws) (hr : r < 64) (ho : ws.headD 0 % 256 = 0x0B)
    (hstop : s.slotStop (bits (ws.headD 0) 16 1) true = none) {m : Nat} (hm : m < 64) :
    let base := bits (ws.headD 0) 16 1 * slotBytes
    let u := slotErase r (some m) s
    Completes s r stTimeout 0 u ∧ (∀ b : Nat, base ≤ b → b < base + 0x10000 * m → u.flashAt b = 0xFF) ∧
      ∀ b : Nat, (b < base ∨ base + 0x10000 * (m + 1) ≤ b) → u.flashAt b = s.flashAt b := by
  dsimp only
  rw [slotErase_of h ho, hstop]
  dsimp only
  rw [if_pos hm]
  generalize bits (ws.headD 0) 16 1 * slotBytes = base
  obtain ⟨h1, h2⟩ := (s.takenUp r).flashErase_shown base (0x10000 * m)
  generalize (s.takenUp r).flashErase base (0x10000 * m) = t at *
  have hfree := t.flashFree_flashOnly (fun o f => o ||| f) (base + 0x10000 * m) 0x10000
  generalize t.flashFree (fun o f => o ||| f) (base + 0x10000 * m) 0x10000 = v at *
  have hall : FlashOnly base (0x10000 * (m + 1)) (s.takenUp r) v := (h1.mono (by omega) (by omega)).trans (hfree.mono (by omega) (by omega))
  obtain ⟨k1, k2, k3⟩ := hall.completes hr (st := stTimeout) 0 (by decide)
  refine ⟨k1, fun b hlo hhi => ?_, k3⟩
  rw [State.flashAt, k2]
  exact (hfree.flash b (by omega)).trans (h2 b hlo hhi)

/-! ### SLOT_WRITE -/

/-- The arguments of a SLOT_WRITE lie in the slot and in bank 6 (R179). -/
def slotFits (ws : List Nat) : Bool :=
  decide (bits (ws.headD 0) 17 13 ≠ 0) && decide (bits (ws.headD 0) 17 13 ≤ 4096) && decide (bits (ws.getD 1 0) 0 22 % 8 = 0) &&
    decide (bits (ws.getD 1 0) 0 22 + 8 * bits (ws.headD 0) 17 13 ≤ slotBytes) &&
    decide (bits (ws.headD 0) 36 17 + bits (ws.headD 0) 17 13 ≤ 0x20000)

theorem slotFits_iff : slotFits ws = true ↔ ¬ (bits (ws.headD 0) 17 13 = 0 ∨ 4096 < bits (ws.headD 0) 17 13 ∨
    bits (ws.getD 1 0) 0 22 % 8 ≠ 0 ∨ slotBytes < bits (ws.getD 1 0) 0 22 + 8 * bits (ws.headD 0) 17 13 ∨
    0x20000 < bits (ws.headD 0) 36 17 + bits (ws.headD 0) 17 13) := by
  simp only [slotFits, Bool.and_eq_true, decide_eq_true_iff]
  omega

theorem slotWrite_unfit (h : TakesUp s r ws) (ho : ws.headD 0 % 256 = 0x0C) (hfit : slotFits ws = false) :
    slotWrite r none s = (s.takenUp r).finish r stBadArg 0 := by
  rw [slotWrite, State.command_of_takesUp h ho rfl]
  dsimp only
  rw [if_pos]
  by_contra hno
  exact absurd (slotFits_iff.2 hno) (by rw [hfit]; decide)

theorem slotWrite_programs (h : TakesUp s r ws) (ho : ws.headD 0 % 256 = 0x0C) (hfit : slotFits ws = true)
    (hstop : s.slotStop (bits (ws.headD 0) 16 1) true = none)
    (hclean : ∀ i, i < bits (ws.headD 0) 17 13 → s.mark (bankAddr 6 (bits (ws.headD 0) 36 17 + i)) = 0) :
    slotWrite r none s = ((slotWriteBytes (bits (ws.headD 0) 16 1) (bits (ws.getD 1 0) 0 22)
      ((List.range (bits (ws.headD 0) 17 13)).map (fun i => s.peek6 (bits (ws.headD 0) 36 17 + i)))).foldl
        (fun s p => s.flashProgram p.1 p.2) (s.takenUp r)).finish r stOk (bits (ws.headD 0) 17 13) := by
  have hread := State.read6s_clean (bits (ws.headD 0) 17 13) (s.takenUp r) (State.takenUp_bankUp h) (bits (ws.headD 0) 36 17) hclean
  rw [slotWrite, State.command_of_takesUp h ho rfl]
  dsimp only
  rw [if_neg (slotFits_iff.1 hfit), s.takenUp_slotStop, hstop]
  dsimp only
  rw [hread]
  rfl

/-- Byte `i` of words in bank 6 from word `a` on, as the statement of R179 names it. -/
theorem bankByte_eq (s : State) (a i : Nat) :
    (BitVec.ofNat 64 (s.peek6 (a + i / 8)) >>> (8 * (i % 8))).setWidth 8 = BitVec.ofNat 8 (s.peek6 (a + i / 8) / 256 ^ (i % 8) % 256) := by
  have hlt : s.peek6 (a + i / 8) < 2 ^ 64 := (s.memWord _).isLt
  apply BitVec.eq_of_toNat_eq
  rw [BitVec.toNat_setWidth, BitVec.toNat_ushiftRight, BitVec.toNat_ofNat, BitVec.toNat_ofNat, Nat.mod_eq_of_lt hlt,
    Nat.shiftRight_eq_div_pow, pow_mul]
  exact (Nat.mod_mod _ _).symm

theorem slotWrite_shown (h : TakesUp s r ws) (hr : r < 64) (ho : ws.headD 0 % 256 = 0x0C) (hfit : slotFits ws = true)
    (hstop : s.slotStop (bits (ws.headD 0) 16 1) true = none)
    (hclean : ∀ i, i < bits (ws.headD 0) 17 13 → s.mark (bankAddr 6 (bits (ws.headD 0) 36 17 + i)) = 0) :
    let base := bits (ws.headD 0) 16 1 * slotBytes
    let n := bits (ws.headD 0) 17 13
    let a := bits (ws.headD 0) 36 17
    let off := bits (ws.getD 1 0) 0 22
    let u := slotWrite r none s
    Completes s r stOk n u ∧
      (∀ i : Nat, i < 8 * n → off + i < 8 ∨ 16 ≤ off + i → u.flashAt (base + off + i) =
        s.flashAt (base + off + i) &&& (BitVec.ofNat 64 (s.peek6 (a + i / 8)) >>> (8 * (i % 8))).setWidth 8) ∧
      (∀ b : Nat, (b < base + off ∨ base + off + 8 * n ≤ b ∨ (base + 8 ≤ b ∧ b < base + 16)) → u.flashAt b = s.flashAt b) := by
  dsimp only
  rw [slotWrite_programs h ho hfit hstop hclean]
  generalize bits (ws.headD 0) 17 13 = n
  generalize bits (ws.headD 0) 36 17 = a
  generalize bits (ws.getD 1 0) 0 22 = off
  generalize bits (ws.headD 0) 16 1 = k
  have hlen : ((List.range n).map (fun i => s.peek6 (a + i))).length = n := by rw [List.length_map, List.length_range]
  obtain ⟨h1, h2, h3⟩ := State.flashPrograms_shown (slotWriteBytes k off ((List.range n).map (fun i => s.peek6 (a + i)))) (s.takenUp r)
    (nodup_slotWriteBytes _ _ _)
  generalize (slotWriteBytes k off ((List.range n).map (fun i => s.peek6 (a + i)))).foldl (fun s p => s.flashProgram p.1 p.2)
    (s.takenUp r) = t at *
  have hflash : (t.finish r stOk n).flash = t.flash := by rw [(t.finish_ringOpsOnly hr stOk n).rest]
  refine ⟨((s.takenUp_inExecution r).kept hr h3).completes hr n (by decide), fun i hi hc => ?_, fun b hb => ?_⟩
  · have hbyte : ((List.range n).map (fun i => s.peek6 (a + i))).getD (i / 8) 0 = s.peek6 (a + i / 8) := by
      have hlt : i / 8 < n := by omega
      rw [List.getD_eq_getElem?_getD, List.getElem?_map, List.getElem?_range hlt]
      rfl
    have hkey := h1 _ (mem_slotWriteBytes.2 ⟨i, by rw [hlen]; exact hi, hc, rfl⟩)
    dsimp only at hkey
    rw [hbyte, ← Nat.add_assoc] at hkey
    rw [State.flashAt, hflash, bankByte_eq]
    exact hkey
  · rw [State.flashAt, hflash]
    refine h2 b fun hin => ?_
    obtain ⟨p, hp, rfl⟩ := List.mem_map.1 hin
    obtain ⟨j, hj, hc, rfl⟩ := mem_slotWriteBytes.1 hp
    rw [hlen] at hj
    dsimp only at hb
    omega

/-! ### SLOT_COMMIT and SLOT_REVOKE -/

theorem slotCommit_of (h : TakesUp s r ws) (ho : ws.headD 0 % 256 = 0x0D) (hrev : bitOf (ws.headD 0) 17 = false)
    (hstop : s.slotStop (bits (ws.headD 0) 16 1) true = none) :
    slotCommit r false s = if ¬ s.headerOk (bits (ws.headD 0) 16 1) then (s.takenUp r).finish r stBadArg 0
      else if ¬ s.imgCrcOk (bits (ws.headD 0) 16 1) then (s.takenUp r).finish r stEcc 0
      else ((s.takenUp r).commit (bits (ws.headD 0) 16 1) (commitWord (s.imgEdition (bits (ws.headD 0) 16 1))) false).finish r stOk 0 := by
  rw [slotCommit, State.command_of_takesUp h ho (by rw [hrev]; rfl)]
  dsimp only
  rw [s.takenUp_slotStop, hstop]
  rfl

/-- A commit word that was programmed, and the completion of the command. -/
theorem State.commit_completes (s : State) (hr : r < 64) (k v : Nat) :
    let u := ((s.takenUp r).commit k v false).finish r stOk 0
    Completes s r stOk 0 u ∧ u.flashWord k 8 = ((s.takenUp r).commit k v false).flashWord k 8 ∧
      ∀ b : Nat, (b < k * slotBytes + 8 ∨ k * slotBytes + 16 ≤ b) → u.flashAt b = s.flashAt b := by
  obtain ⟨-, h2⟩ := (s.takenUp r).commit_shown k v
  obtain ⟨k1, k2, k3⟩ := h2.completes hr (st := stOk) 0 (by decide)
  refine ⟨k1, ?_, fun b hb => k3 b (by omega)⟩
  rw [State.flashWord, k2, State.flashWord]

theorem slotRevoke_of (h : TakesUp s r ws) (ho : ws.headD 0 % 256 = 0x0D) (hrev : bitOf (ws.headD 0) 17 = true)
    (hstop : s.slotStop (bits (ws.headD 0) 16 1) false = none) :
    slotRevoke r false s = ((s.takenUp r).commit (bits (ws.headD 0) 16 1) 0 false).finish r stOk 0 := by
  rw [slotRevoke, State.command_of_takesUp h ho hrev]
  dsimp only
  rw [s.takenUp_slotStop, hstop]
  rfl

/-- Settles O33: erasing (`State.flashErase_shown`), programming (`State.flashPrograms_shown`) and the commit word
(`State.commit_erased`, `State.commit_zero`). -/
theorem flashSlotsEraseWriteCommit : Obligations.FlashSlotsEraseWriteCommit := by
  unfold Obligations.FlashSlotsEraseWriteCommit
  intro s r ws h
  have hr : r.val < 64 := r.isLt
  refine ⟨fun st ho hs => ⟨_, rfl, ?_⟩, fun ho hs => ⟨_, rfl, slotErase_whole h hr ho hs⟩,
    fun m ho hs hm => ⟨_, rfl, slotErase_busy h hr ho hs hm⟩, fun ho (hf : slotFits ws = false) => ⟨_, rfl, ?_⟩,
    fun ho (hf : slotFits ws = true) hs hc => ⟨_, rfl, slotWrite_shown h hr ho hf hs ?_⟩, fun ho hrev hs hh => ⟨_, rfl, ?_⟩,
    fun ho hrev hs hh hc => ⟨_, rfl, ?_⟩, fun ho hrev hs hh hc he => ⟨_, rfl, ?_⟩, fun ho hrev hs => ⟨_, rfl, ?_⟩⟩
  · rw [slotErase_of h ho, hs]
    exact s.takenUp_completes hr 0 (State.slotStop_lt hs)
  · rw [slotWrite_unfit h ho hf]
    exact s.takenUp_completes hr 0 (by decide)
  · intro i hi
    exact beq_iff_eq.1 (List.all_eq_true.1 hc i (List.mem_range.2 hi))
  · rw [slotCommit_of h ho hrev hs, if_pos (by rw [hh]; decide)]
    exact s.takenUp_completes hr 0 (by decide)
  · rw [slotCommit_of h ho hrev hs, if_neg (by rw [hh]; decide), if_pos (by rw [hc]; decide)]
    exact s.takenUp_completes hr 0 (by decide)
  · rw [slotCommit_of h ho hrev hs, if_neg (by rw [hh]; decide), if_neg (by rw [hc]; decide)]
    obtain ⟨k1, k2, k3⟩ := s.commit_completes hr (bits (ws.headD 0) 16 1) (commitWord (s.imgEdition (bits (ws.headD 0) 16 1)))
    exact ⟨k1, k2.trans ((s.takenUp r).commit_erased (commitWord_lt _) he), k3⟩
  · rw [slotRevoke_of h ho hrev hs]
    obtain ⟨k1, k2, k3⟩ := s.commit_completes hr (bits (ws.headD 0) 16 1) 0
    exact ⟨k1, k2.trans ((s.takenUp r).commit_zero _), k3⟩

end Sys2Proof.Machine
end

section
/-! Register writes by access code, and the complete read of an RC register (R9 to R12, R388). -/

namespace Sys2Proof.Machine

variable {l : List Fld} {s t u : State} {a : Nat} {x : RegRow}

/-! ### The rows of the register tables -/

theorem mem_regTable_of_rowAt (h : rowAt a = some x) : x ∈ regTable := List.mem_of_find?_eq_some h

/-- The fields of a register lie apart. -/
theorem regTable_nodup : ∀ x ∈ regTable, (x.flds.map Fld.key).Nodup := by decide +kernel

theorem key_fldAt (f : Fld) (off : Nat) : Fld.key (fldAt f off) = Fld.key f + off * 64 := by
  simp only [Fld.key, fldAt]
  omega

/-- The fields of a copy of a register lie apart. -/
theorem nodup_fldAt (h : rowAt a = some x) (off : Nat) : ((x.flds.map (fun f => fldAt f off)).map Fld.key).Nodup := by
  have hkeys := (regTable_nodup x (mem_regTable_of_rowAt h)).map (f := fun k => k + off * 64) fun i j hij => Nat.add_right_cancel hij
  rw [List.map_map] at hkeys ⊢
  rw [show Fld.key ∘ (fun f => fldAt f off) = (fun k => k + off * 64) ∘ Fld.key from funext fun f => key_fldAt f off]
  exact hkeys

/-! ### Fields written one after another -/

/-- `φ` finds the value that field `f` is to take in a state, which no write of another field changes. -/
def Local (φ : State → Fld → Nat) : Prop := ∀ s f g v, Fld.key f ≠ Fld.key g → φ (s.put g v) f = φ s f

theorem Quiet.foldl_mem {α : Type} {f : State → α → State} {xs : List α} (hf : ∀ t y, y ∈ xs → Quiet l t (f t y)) (s : State) :
    Quiet l s (xs.foldl f s) := by
  induction xs generalizing s with
  | nil => exact .refl _ s
  | cons y xs ih => exact (hf s y List.mem_cons_self).trans (ih (fun t z hz => hf t z (List.mem_cons_of_mem _ hz)) _)

/-- Fields that lie apart, each written with its own value. -/
theorem State.foldl_put_shown {φ : State → Fld → Nat} (hφ : Local φ) (l : List Fld) (hnd : (l.map Fld.key).Nodup) (s : State) :
    (∀ f ∈ l, (l.foldl (fun s f => s.put f (φ s f)) s).get f = φ s f % 2 ^ f.width) ∧ Quiet l s (l.foldl (fun s f => s.put f (φ s f)) s) := by
  refine ⟨?_, Quiet.foldl_mem (fun t f hf => Quiet.put (.refl _ t) (mem_fldIn hf) _) s⟩
  have hother (l : List Fld) (s : State) {g : Fld} (hg : ∀ f ∈ l, Fld.key g ≠ Fld.key f) :
      (l.foldl (fun s f => s.put f (φ s f)) s).get g = s.get g ∧ φ (l.foldl (fun s f => s.put f (φ s f)) s) g = φ s g := by
    induction l generalizing s with
    | nil => exact ⟨rfl, rfl⟩
    | cons h l ih =>
      obtain ⟨h1, h2⟩ := ih (s.put h (φ s h)) fun f hf => hg f (List.mem_cons_of_mem _ hf)
      have hne := hg h List.mem_cons_self
      exact ⟨h1.trans (State.get_put_ne _ _ hne), h2.trans (hφ s g h _ hne)⟩
  induction l generalizing s with
  | nil => exact fun f hf => absurd hf List.not_mem_nil
  | cons h l ih =>
    rw [List.map_cons, List.nodup_cons] at hnd
    obtain ⟨hh, hnd⟩ := hnd
    have hapart (f : Fld) (hf : f ∈ l) : Fld.key h ≠ Fld.key f := fun e => hh (e ▸ List.mem_map_of_mem hf)
    intro f hf
    rw [List.foldl_cons]
    rcases List.mem_cons.1 hf with rfl | hf
    · rw [(hother l _ hapart).1, State.get_put_same]
    · rw [ih hnd _ f hf, hφ s f h _ (hapart f hf).symm]

/-- The bits of a write. -/
def writtenBits (v : Nat) (_ : State) (f : Fld) : Nat := bits v f.lo f.width

/-- What a write of 1 clears. -/
def clearedBits (v : Nat) (s : State) (f : Fld) : Nat := maskOf f.width (fun i => bitOf (s.get f) i && !bitOf v (f.lo + i))

/-- What a complete read of an RC register leaves. -/
def leftBits (w : Nat) (s : State) (f : Fld) : Nat := if peakField f then mapGet 0 s.peaks (Fld.key f) else s.get f - bits w f.lo f.width

theorem local_writtenBits (v : Nat) : Local (writtenBits v) := fun _ _ _ _ _ => rfl

theorem local_clearedBits (v : Nat) : Local (clearedBits v) := fun s f g w h => by rw [clearedBits, State.get_put_ne s w h, clearedBits]

theorem local_leftBits (w : Nat) : Local (leftBits w) := fun s f g v h => by
  rw [leftBits, State.get_put_ne s v h, leftBits]
  rfl

theorem State.putFields_eq (s : State) (x : RegRow) (off v : Nat) :
    s.putFields x off v = (x.flds.map (fun f => fldAt f off)).foldl (fun s f => s.put f (writtenBits v s f)) s := by
  rw [List.foldl_map]
  rfl

theorem State.clearFields_eq (s : State) (x : RegRow) (off v : Nat) :
    s.clearFields x off v = (x.flds.map (fun f => fldAt f off)).foldl (fun s f => s.put f (clearedBits v s f)) s := by
  rw [List.foldl_map]
  rfl

theorem State.putFields_shown (s : State) (h : rowAt a = some x) (off v : Nat) :
    (∀ f ∈ x.flds, (s.putFields x off v).get (fldAt f off) = bits v f.lo f.width) ∧
      Quiet (x.flds.map (fun f => fldAt f off)) s (s.putFields x off v) := by
  obtain ⟨h1, h2⟩ := State.foldl_put_shown (local_writtenBits v) _ (nodup_fldAt h off) s
  rw [State.putFields_eq]
  refine ⟨fun f hf => (h1 _ (List.mem_map_of_mem hf)).trans ?_, h2⟩
  exact Nat.mod_eq_of_lt (bits_lt v f.lo f.width)

theorem State.clearFields_shown (s : State) (h : rowAt a = some x) (off v : Nat) :
    (∀ f ∈ x.flds, ∀ i, i < f.width → (s.clearFields x off v).bit (fldAt f off) i = (s.bit (fldAt f off) i && !bitOf v (f.lo + i))) ∧
      Quiet (x.flds.map (fun f => fldAt f off)) s (s.clearFields x off v) := by
  obtain ⟨h1, h2⟩ := State.foldl_put_shown (local_clearedBits v) _ (nodup_fldAt h off) s
  rw [State.clearFields_eq]
  refine ⟨fun f hf i hi => ?_, h2⟩
  have hget := h1 _ (List.mem_map_of_mem (f := fun f => fldAt f off) hf)
  have hlt : clearedBits v s (fldAt f off) < 2 ^ (fldAt f off).width := maskOf_lt _ _
  rw [Nat.mod_eq_of_lt hlt] at hget
  rw [State.bit, hget, State.bit]
  exact bitOf_maskOf _ hi

/-! ### A write that acts by its access code (R9 to R12) -/

/-- The register acts by its access code alone: one of the pages CLK, TWB, NVS and CUR, and no row of its own. -/
def plainAddr (a : Nat) : Bool :=
  decide (a / 0x1000 = 0xE11) || (decide (a / 0x1000 = 0xE02) && decide (a ≠ 0xE02008)) ||
    (decide (a / 0x1000 = 0xE10) && decide (a ≠ 0xE10028)) || (decide (a / 0x1000 = 0xE0E) && decide (a ≠ 0xE0E020))

theorem State.regWrite_plain (s : State) (h8 : a % 8 = 0) (hp : plainAddr a = true) (v : Nat) : s.regWrite a v = s.plainWrite a v := by
  have haudio : audioPage a = false := by
    simp only [plainAddr, Bool.or_eq_true, Bool.and_eq_true, decide_eq_true_iff] at hp
    simp only [audioPage, Bool.and_eq_false_iff, decide_eq_false_iff_not]
    omega
  unfold State.regWrite
  dsimp only
  rw [if_neg (not_not.2 h8), if_neg (by rw [haudio]; decide)]
  simp only [plainAddr, Bool.or_eq_true, Bool.and_eq_true, decide_eq_true_iff] at hp
  rcases hp with ((hp | ⟨hp, hne⟩) | ⟨hp, hne⟩) | ⟨hp, hne⟩
  · rw [hp]
    rfl
  · rw [hp]
    change s.clkPageWrite (a % 0x1000) v = _
    rw [State.clkPageWrite, if_neg (by omega), show 0xE02000 + a % 0x1000 = a by omega]
  · rw [hp]
    exact if_neg (by omega)
  · rw [hp]
    exact if_neg (by omega)

theorem State.plainWrite_of (s : State) (h : rowAt a = some x) (v : Nat) :
    s.plainWrite a v = match x.acc with
      | .rw | .rws => s.putFields x (a - x.addr) v
      | .rwl => if s.on SYS_LOCK_LOCK then s else s.putFields x (a - x.addr) v
      | .w1c => s.clearFields x (a - x.addr) v
      | .ro | .wo | .rc => s := by
  rw [State.plainWrite, h] <;> rfl

/-! ### The complete read of an RC register (R388) -/

theorem State.rcRemove_rc (s : State) (h : rowAt a = some x) (hacc : x.acc = .rc) (w : Nat) :
    s.rcRemove a w = (s.fldsAt a).foldl (fun s f => s.put f (leftBits w s f)) s := by
  unfold State.rcRemove
  rw [h]
  dsimp only
  rw [hacc]
  refine List.foldl_ext _ _ _ fun t f _ => ?_
  unfold State.fldRemove leftBits
  split <;> rfl

theorem State.rcRemove_quiet (s : State) (a w : Nat) : Quiet (s.fldsAt a) s (s.rcRemove a w) := by
  unfold State.rcRemove
  refine Quiet.foldl_mem (fun t f hf => ?_) s
  unfold State.fldRemove
  exact .ite (.put (.refl _ t) (mem_fldIn hf) _) (.ite (.put (.refl _ t) (mem_fldIn hf) _) (.refl _ t))

theorem State.fldsAt_of (s : State) (h : rowAt a = some x) : s.fldsAt a = x.flds.map (fun f => fldAt f (a - x.addr + s.selOff a)) := by
  rw [State.fldsAt, h]

/-- Settles O36: writes by access code (`State.putFields_shown`, `State.clearFields_shown`) and the read that clears
(`State.rcRemove_rc`). -/
theorem registerWritesAndReadsClear : Obligations.RegisterWritesAndReadsClear := by
  unfold Obligations.RegisterWritesAndReadsClear
  intro s a v h8
  refine ⟨fun x (hp : plainAddr a = true) hx => ?_, fun (hp : plainAddr a = true) hx => ⟨_, rfl, ?_⟩, ⟨rfl, rfl, rfl, rfl, rfl, rfl, rfl⟩,
    fun x w hx hsnap => ⟨_, rfl, ?_⟩⟩
  · have hplain := (s.regWrite_plain h8 hp v.toNat).trans (s.plainWrite_of hx v.toNat)
    have hput := s.putFields_shown hx (a - x.addr) v.toNat
    refine ⟨fun hacc => ⟨_, rfl, ?_⟩, fun hacc => ⟨_, rfl, ?_⟩, fun hacc => ⟨_, rfl, ?_⟩⟩
    · rw [hplain]
      rcases hacc with hacc | hacc | ⟨hacc, hlock⟩
      · rw [hacc]
        exact hput
      · rw [hacc]
        exact hput
      · rw [hacc]
        dsimp only
        rw [if_neg (by rw [hlock]; decide)]
        exact hput
    · rw [hplain, hacc]
      exact s.clearFields_shown hx (a - x.addr) v.toNat
    · refine hplain.trans ?_
      rcases hacc with hacc | hacc | hacc | ⟨hacc, hlock⟩
      · rw [hacc]
      · rw [hacc]
      · rw [hacc]
      · rw [hacc]
        exact if_pos hlock
  · refine (s.regWrite_plain h8 hp v.toNat).trans ?_
    rw [State.plainWrite, hx]
  · have hu : rcRegisterRead a s = { s.rcRemove a w with busSnap := none } := by
      rw [rcRegisterRead, hsnap]
      exact if_pos rfl
    rw [hu]
    refine ⟨rfl, fun hacc f hf => ?_, Quiet.update (s.rcRemove_quiet a w)⟩
    change (s.rcRemove a w).get f = _
    rw [s.rcRemove_rc hx hacc]
    rw [s.fldsAt_of hx] at hf ⊢
    exact (State.foldl_put_shown (local_leftBits w) _ (nodup_fldAt hx _) s).1 f hf

end Sys2Proof.Machine
end

section
/-! The links of a chain port: it detects, trains, comes up and goes down (R321, R322, R330, R331). -/

namespace Sys2Proof.Machine

variable {l : List Fld} {s t u : State} {p k n : Nat}

/-! ### Training (R321) -/

/-- A wake request changes nothing else (R445). -/
theorem linkDetect_of_awake (hp : s.isHead = true → p ≠ 0) (ha : s.awake = true) :
    ∃ w, linkDetect p s =
      if s.linkState p = 1 then ({ s with wakeReq := w }.put (CHN_PORT_STAT_SIGNAL p) 1).put (CHN_PORT_STAT_STATE p) 2
      else if s.linkState p = 6 then { s with wakeReq := w }.put (CHN_PORT_STAT_SIGNAL p) 1 else { s with wakeReq := w } := by
  have hout : ¬ (s.isHead = true ∧ p = 0) := fun h => hp h.1 h.2
  have step (w : Option Nat) : (if ¬ ({ s with wakeReq := w } : State).awake = true then { s with wakeReq := w }
      else if ({ s with wakeReq := w } : State).linkState p = 1 then
        ({ s with wakeReq := w }.put (CHN_PORT_STAT_SIGNAL p) 1).put (CHN_PORT_STAT_STATE p) 2
      else if ({ s with wakeReq := w } : State).linkState p = 6 then { s with wakeReq := w }.put (CHN_PORT_STAT_SIGNAL p) 1
      else { s with wakeReq := w }) = if s.linkState p = 1 then
          ({ s with wakeReq := w }.put (CHN_PORT_STAT_SIGNAL p) 1).put (CHN_PORT_STAT_STATE p) 2
        else if s.linkState p = 6 then { s with wakeReq := w }.put (CHN_PORT_STAT_SIGNAL p) 1 else { s with wakeReq := w } :=
    if_neg (not_not.2 ha)
  unfold linkDetect
  rw [if_neg hout]
  dsimp only
  by_cases hw : s.on PWR_WAKE_EN_CHAIN = true
  · obtain ⟨w, h⟩ := s.wakeBy_eq 6
    rw [if_pos hw, h]
    exact ⟨w, step w⟩
  · rw [if_neg hw]
    exact ⟨s.wakeReq, step s.wakeReq⟩

theorem linkDetect_trains (hp : s.isHead = true → p ≠ 0) (ha : s.awake = true) (hst : s.linkState p = 1) :
    let u := linkDetect p s
    u.get (CHN_PORT_STAT_STATE p) = 2 ∧ u.get (CHN_PORT_STAT_SIGNAL p) = 1 ∧
      Quiet [CHN_PORT_STAT_STATE p, CHN_PORT_STAT_SIGNAL p] s u := by
  obtain ⟨w, h⟩ := linkDetect_of_awake hp ha
  dsimp only
  rw [h, if_pos hst]
  refine ⟨State.get_put_same _ _ _, ?_, Quiet.put (Quiet.put (Quiet.update (Quiet.refl _ s)) (by simp [fldIn]) _) (by simp [fldIn]) _⟩
  rw [State.get_put_ne _ _ (by simp [Fld.key, CHN_PORT_STAT_STATE, CHN_PORT_STAT_SIGNAL]), State.get_put_same]
  rfl

theorem linkDetect_signals (hp : s.isHead = true → p ≠ 0) (ha : s.awake = true) (hst : s.linkState p = 6) :
    let u := linkDetect p s
    u.get (CHN_PORT_STAT_SIGNAL p) = 1 ∧ Quiet [CHN_PORT_STAT_SIGNAL p] s u := by
  obtain ⟨w, h⟩ := linkDetect_of_awake hp ha
  dsimp only
  rw [h, if_neg (by rw [hst]; decide), if_pos hst]
  exact ⟨State.get_put_same _ _ _, Quiet.put (Quiet.update (Quiet.refl _ s)) (by simp [fldIn]) _⟩

/-- A chain field is at no address of the events'. -/
theorem fldIn_eventFlds_chain {f : Fld} (h : f.lo < 64 ∧ 0xE0D000 ≤ f.addr ∧ f.addr < 0xE0E000) : fldIn eventFlds f = false :=
  fldIn_eventFlds_of_page (by omega)

theorem trainingTimeout_shown (p : TwoIx) (h : s.linkState p = 2 ∨ s.linkState p = 4 ∨ s.linkState p = 6) :
    let u := trainingTimeout p s
    u.get (CHN_PORT_STAT_STATE p) = 1 ∧ 0x0D02 ∈ u.occ ∧ Quiet [CHN_PORT_STAT_STATE p] s u := by
  dsimp only
  unfold trainingTimeout
  rw [if_pos h]
  refine ⟨?_, State.mem_occ_post _ _ _ (by decide), (Quiet.put (.refl _ s) (by simp [fldIn]) _).post _ _ _⟩
  rw [State.get_post (fldIn_eventFlds_chain (by simp only [CHN_PORT_STAT_STATE]; omega)), State.get_put_same]
  rfl

/-- A port field that the post of an event follows. -/
theorem State.get_post_chain (s : State) {c v q : Nat} {f : Fld} (h : f.lo < 64 ∧ 0xE0D000 ≤ f.addr ∧ f.addr < 0xE0E000) :
    (s.post c v q).get f = s.get f := State.get_post (fldIn_eventFlds_chain h)

/-! ### A link comes up (R321, R326, R327, R330, R336) -/

/-- A port in training has its signal (R321). -/
def State.trains (s : State) (p : Nat) : Prop :=
  (s.linkState p = 2 ∨ s.linkState p = 4 ∨ s.linkState p = 6) ∧ s.on (CHN_PORT_STAT_SIGNAL p) = true

theorem State.trains.go (h : s.trains p) : ¬ (¬ (s.linkState p = 2 ∨ s.linkState p = 4 ∨ s.linkState p = 6) ∨ ¬ s.on (CHN_PORT_STAT_SIGNAL p) = true) :=
  not_or.2 ⟨not_not.2 h.1, not_not.2 h.2⟩

theorem chnLinkUp_refuses (p : TwoIx) {x : LinkInfo} (h : s.trains p) (hd : 625 < x.delay) :
    let u := chnLinkUp p x s
    u.get (CHN_PORT_STAT_STATE p) = 3 ∧ u.get CHN_SUM_DELAY_RANGE = 1 ∧ 0x0D09 ∈ u.occ ∧
      Quiet [CHN_PORT_STAT_STATE p, CHN_PORT_STAT_DELAY p, CHN_SUM_DELAY_RANGE] s u := by
  dsimp only
  unfold chnLinkUp
  rw [if_neg h.go]
  dsimp only
  rw [if_pos hd]
  refine ⟨?_, ?_, State.mem_occ_post _ _ _ (by decide), ?_⟩
  · rw [State.get_post_chain _ (by simp only [CHN_PORT_STAT_STATE]; omega), State.get_setChain,
      State.get_put_ne _ _ (by simp only [Fld.key, CHN_PORT_STAT_STATE, CHN_SUM_DELAY_RANGE]; omega), State.get_put_same]
    rfl
  · rw [State.get_post_chain _ (by decide), State.get_setChain, State.get_put_same]
    rfl
  · exact (Quiet.setChain (Quiet.put (Quiet.put (Quiet.put (Quiet.refl _ s) (by simp [fldIn]) _) (by simp [fldIn]) _) (by simp [fldIn]) _) _).post _ _ _

/-- What units that are sent again leave as it was. -/
structure Replayed (s u : State) : Prop where
  quiet : Quiet [] s u
  occ : s.occ ⊆ u.occ
  deal : u.chain.dealReq = s.chain.dealReq
  frame : u.frame = s.frame

theorem Replayed.refl (s : State) : Replayed s s := ⟨.refl _ s, fun _ h => h, rfl, rfl⟩

theorem Replayed.resend (h : Replayed s t) (k : Nat) : Replayed s (t.resend k) := ⟨h.quiet.setChain _, h.occ, h.deal, h.frame⟩

theorem Replayed.post (h : Replayed s t) (c v q : Nat) : Replayed s (t.post c v q) := by
  refine ⟨h.quiet.post _ _ _, fun _ hc => State.mem_post_occ t v q (h.occ hc), ?_, ?_⟩
  · rw [(t.post_eventOnly _ _ _).chain]
    exact h.deal
  · rw [← h.frame, (t.post_eventOnly _ _ _).rest]

theorem Replayed.ite {c : Prop} [Decidable c] (h : Replayed s t) (k : Replayed s u) : Replayed s (if c then t else u) := by
  split <;> assumption

theorem State.replayAll_replayed (s : State) : Replayed s s.replayAll := by
  unfold State.replayAll
  have step : ∀ (ks : List Nat) (t : State), Replayed s t → Replayed s (ks.foldl (fun s k =>
      let n := (mapGet [] s.chain.replay k).length
      if n = 0 then s
      else if s.isHead then (s.resend k).post 0x0D0C sevInfo (pack [p16 k, p32 n])
      else s.resend k) t) := by
    intro ks
    induction ks with
    | nil => exact fun t h => h
    | cons k ks ih => exact fun t h => ih _ (.ite h (.ite ((h.resend k).post _ _ _) (h.resend k)))
  exact step _ s (.refl s)

/-- The state once port `p`, whose hop takes `d` bit times, is UP. -/
def State.linkUp (s : State) (p d : Nat) : State :=
  ((s.put (CHN_PORT_STAT_DELAY p) d).put (CHN_PORT_STAT_STATE p) 5).setChain (fun c => { c with
    crcBad := mapErase c.crcBad p, missing := mapErase c.missing p, downAt := mapErase c.downAt p })

theorem State.linkUp_shown (s : State) (p : TwoIx) {d : Nat} (hd : d ≤ 625) :
    let u := s.linkUp p d
    u.get (CHN_PORT_STAT_STATE p) = 5 ∧ u.get (CHN_PORT_STAT_DELAY p) = d ∧ Quiet [CHN_PORT_STAT_STATE p, CHN_PORT_STAT_DELAY p] s u := by
  refine ⟨?_, ?_, Quiet.setChain (Quiet.put (Quiet.put (Quiet.refl _ s) (by simp [fldIn]) _) (by simp [fldIn]) _) _⟩
  · rw [State.linkUp, State.get_setChain, State.get_put_same]
    rfl
  rw [State.linkUp, State.get_setChain, State.get_put_ne _ _ (by simp [Fld.key, CHN_PORT_STAT_STATE, CHN_PORT_STAT_DELAY]), State.get_put_of_lt]
  exact Nat.lt_of_le_of_lt hd (by decide : 625 < 2 ^ 16)

theorem chnLinkUp_eq {x : LinkInfo} (h : s.trains p) (hd : x.delay ≤ 625) :
    Replayed (((if p = 0 then (s.linkUp p x.delay).upstreamUp x else (s.linkUp p x.delay).downstreamUp x)).post 0x0D01 sevInfo
      (pack [p16 p, p16 x.delay])) (chnLinkUp p x s) := by
  unfold chnLinkUp
  rw [if_neg h.go]
  dsimp only
  rw [if_neg (Nat.not_lt.2 hd)]
  exact .ite (State.replayAll_replayed _) (.refl _)

/-- What the post of an event and units sent again leave of a chain field. -/
theorem Replayed.get_post {c v q : Nat} {f : Fld} (h : Replayed (s.post c v q) u) (hf : f.lo < 64 ∧ 0xE0D000 ≤ f.addr ∧ f.addr < 0xE0E000) :
    u.get f = s.get f := by
  rw [h.quiet.get rfl (fldIn_eventFlds_chain hf), State.get_post_chain _ hf]

theorem State.attach_shown (s : State) (v : Nat) (hh : s.isHead = true) :
    let u := s.attach v
    u.get CHN_SUM_ATTACH = 1 ∧ 0x0D03 ∈ u.occ ∧ (s.chain.dealReq.isSome = true → u.chain.dealReq.isSome = true) ∧
      (s.on CHN_CTL_AUTO_DEAL = true → u.chain.dealReq = some false) ∧ u.isHead = true ∧ Quiet [CHN_SUM_ATTACH] s u := by
  have hq : Quiet [CHN_SUM_ATTACH] s ((s.put CHN_SUM_ATTACH 1).post 0x0D03 sevInfo (pack [p16 v])) :=
    (Quiet.put (.refl _ s) (by decide) _).post _ _ _
  have h1 : ((s.put CHN_SUM_ATTACH 1).post 0x0D03 sevInfo (pack [p16 v])).get CHN_SUM_ATTACH = 1 := by
    rw [State.get_post_chain _ (by decide), State.get_put_same]
    rfl
  have hocc : 0x0D03 ∈ ((s.put CHN_SUM_ATTACH 1).post 0x0D03 sevInfo (pack [p16 v])).occ := State.mem_occ_post _ _ _ (by decide)
  have hauto : ((s.put CHN_SUM_ATTACH 1).post 0x0D03 sevInfo (pack [p16 v])).get CHN_CTL_AUTO_DEAL = s.get CHN_CTL_AUTO_DEAL :=
    hq.get rfl (by decide)
  have hdeal : ((s.put CHN_SUM_ATTACH 1).post 0x0D03 sevInfo (pack [p16 v])).chain.dealReq = s.chain.dealReq := by
    rw [(State.post_eventOnly _ _ _ _).chain]
    rfl
  have hhead : ((s.put CHN_SUM_ATTACH 1).post 0x0D03 sevInfo (pack [p16 v])).isHead = true := by
    rw [(State.post_eventOnly _ _ _ _).rest]
    exact hh
  dsimp only
  unfold State.attach
  dsimp only
  generalize (s.put CHN_SUM_ATTACH 1).post 0x0D03 sevInfo (pack [p16 v]) = t at *
  have hon : t.on CHN_CTL_AUTO_DEAL = s.on CHN_CTL_AUTO_DEAL := by rw [State.on, hauto, State.on]
  rw [hon]
  by_cases ha : s.on CHN_CTL_AUTO_DEAL = true
  · rw [if_pos ha, State.dealStart, if_pos hhead]
    exact ⟨h1, hocc, fun _ => rfl, fun _ => rfl, hhead, hq.setChain _⟩
  · rw [if_neg ha, hdeal]
    exact ⟨h1, hocc, id, fun h => absurd h ha, hhead, hq⟩

theorem State.downstreamUp_shown (s : State) (x : LinkInfo) (hh : s.isHead = true) :
    let u := s.downstreamUp x
    (s.chain.wasUp = false → u.chain.dealReq.isSome = true) ∧ (x.addrValid = false → u.get CHN_SUM_ATTACH = 1 ∧ 0x0D03 ∈ u.occ) ∧
      Quiet [CHN_SUM_ATTACH] s u := by
  have hfirst : ∃ t, (if s.chain.wasUp then s else s.dealStart false).setChain (fun c => { c with wasUp := true }) = t ∧
      (s.chain.wasUp = false → t.chain.dealReq.isSome = true) ∧ t.isHead = true ∧ Quiet [CHN_SUM_ATTACH] s t := by
    refine ⟨_, rfl, ?_⟩
    by_cases hw : s.chain.wasUp = true
    · rw [if_pos hw]
      exact ⟨fun h => absurd (hw.symm.trans h) (by decide), hh, (Quiet.refl _ s).setChain _⟩
    · rw [if_neg hw, State.dealStart, if_pos hh]
      exact ⟨fun _ => rfl, hh, ((Quiet.refl _ s).setChain _).setChain _⟩
  obtain ⟨t, ht, hdeal, hhead, hq⟩ := hfirst
  dsimp only
  unfold State.downstreamUp
  dsimp only
  rw [if_pos hh, ht]
  by_cases hx : x.addrValid = true
  · rw [if_pos hx]
    exact ⟨hdeal, fun h => absurd (hx.symm.trans h) (by decide), hq⟩
  · rw [if_neg hx]
    obtain ⟨h1, h2, h3, -, -, h4⟩ := t.attach_shown 0 hhead
    exact ⟨fun h => h3 (hdeal h), fun _ => ⟨h1, h2⟩, hq.trans h4⟩

theorem chnLinkUp_head {x : LinkInfo} (h : s.trains (1 : TwoIx)) (hd : x.delay ≤ 625) (hh : s.isHead = true) :
    let u := chnLinkUp (1 : TwoIx) x s
    u.get (CHN_PORT_STAT_STATE (1 : TwoIx)) = 5 ∧ u.get (CHN_PORT_STAT_DELAY (1 : TwoIx)) = x.delay ∧ 0x0D01 ∈ u.occ ∧
      (s.chain.wasUp = false → u.chain.dealReq.isSome = true) ∧
      (x.addrValid = false → u.get CHN_SUM_ATTACH = 1 ∧ 0x0D03 ∈ u.occ) ∧
      Quiet [CHN_PORT_STAT_STATE (1 : TwoIx), CHN_PORT_STAT_DELAY (1 : TwoIx), CHN_SUM_ATTACH] s u := by
  obtain ⟨h5, hdel, hq⟩ := s.linkUp_shown (1 : TwoIx) hd
  have hw : (s.linkUp (1 : TwoIx) x.delay).chain.wasUp = s.chain.wasUp := rfl
  obtain ⟨hdeal, hatt, hq'⟩ := (s.linkUp (1 : TwoIx) x.delay).downstreamUp_shown x hh
  have hr := chnLinkUp_eq h hd
  rw [if_neg (by decide)] at hr
  dsimp only
  rw [hw] at hdeal
  generalize s.linkUp (1 : TwoIx) x.delay = t at *
  generalize t.downstreamUp x = v at *
  refine ⟨?_, ?_, hr.occ (State.mem_occ_post _ _ _ (by decide)), fun hu => ?_, fun hu => ?_, ?_⟩
  · rw [hr.get_post (by decide), hq'.get (by decide) (by decide), h5]
  · rw [hr.get_post (by decide), hq'.get (by decide) (by decide), hdel]
  · rw [hr.deal, (v.post_eventOnly _ _ _).chain]
    exact hdeal hu
  · obtain ⟨h1, h2⟩ := hatt hu
    exact ⟨by rw [hr.get_post (by decide), h1], hr.occ (State.mem_post_occ v _ _ h2)⟩
  · refine Quiet.trans (Quiet.trans (hq.of_subset ?_) (hq'.of_subset ?_)) (Quiet.trans ((Quiet.refl _ v).post 0x0D01 sevInfo _) (hr.quiet.of_subset ?_))
    · simp
    · simp
    · simp

theorem State.domcSlew_shown (s : State) :
    Quiet [CLK_DOMC_STAT_STATE, CLK_DOMC_STAT_SLEW_LEFT] s s.domcSlew ∧ s.domcSlew.frame = s.frame := by
  have hq (v : State) (hv : Quiet [CLK_DOMC_STAT_STATE, CLK_DOMC_STAT_SLEW_LEFT] s v) (hf : v.frame = s.frame) (n : Nat) :
      Quiet [CLK_DOMC_STAT_STATE, CLK_DOMC_STAT_SLEW_LEFT] s
        (if n = 0 then v.domcLocked else (v.put CLK_DOMC_STAT_STATE 2).put CLK_DOMC_STAT_SLEW_LEFT n) ∧
      (if n = 0 then v.domcLocked else (v.put CLK_DOMC_STAT_STATE 2).put CLK_DOMC_STAT_SLEW_LEFT n).frame = s.frame := by
    split
    · refine ⟨Quiet.post (Quiet.put (Quiet.put hv (by decide) _) (by decide) _) _ _ _, ?_⟩
      unfold State.domcLocked
      rw [(State.post_eventOnly _ _ _ _).rest]
      exact hf
    · exact ⟨Quiet.put (Quiet.put hv (by decide) _) (by decide) _, hf⟩
  unfold State.domcSlew
  extract_lets +onlyGivenNames w v0 off n v
  exact hq v (Quiet.update (Quiet.refl _ s)) rfl n

theorem chnLinkUp_satellite {x : LinkInfo} (h : s.trains (0 : TwoIx)) (hd : x.delay ≤ 625) (ha : s.get CLK_DOMA_STAT_STATE = 1) (hx : x.pos < 15) :
    let u := chnLinkUp (0 : TwoIx) x s
    u.get (CHN_PORT_STAT_STATE (0 : TwoIx)) = 5 ∧ u.get (CHN_PORT_STAT_DELAY (0 : TwoIx)) = x.delay ∧ 0x0D01 ∈ u.occ ∧
      u.get CHN_STAT_POS = x.pos + 1 ∧ u.frame = x.headFrame % 2 ^ 32 ∧ u.get CLK_DOMA_STAT_STATE = 0 ∧
      Quiet [CHN_PORT_STAT_STATE (0 : TwoIx), CHN_PORT_STAT_DELAY (0 : TwoIx), CHN_STAT_POS, CLK_DOMA_STAT_STATE, CLK_DOMC_STAT_STATE,
        CLK_DOMC_STAT_SLEW_LEFT] s u := by
  obtain ⟨h5, hdel, hq⟩ := s.linkUp_shown (0 : TwoIx) hd
  have hr := chnLinkUp_eq h hd
  rw [if_pos (by decide)] at hr
  have hdoma : ((s.linkUp (0 : TwoIx) x.delay).put CHN_STAT_POS (x.pos + 1)).get CLK_DOMA_STAT_STATE = 1 := by
    rw [State.get_put_ne _ _ (by decide), hq.get (by decide) (by decide), ha]
  dsimp only
  generalize s.linkUp (0 : TwoIx) x.delay = t at *
  rw [State.upstreamUp, State.domaAlign, if_pos hdoma] at hr
  have h0 : ({ t.put CHN_STAT_POS (x.pos + 1) with frame := x.headFrame % 2 ^ 32 }.put CLK_DOMA_STAT_STATE 0).get CLK_DOMA_STAT_STATE = 0 :=
    State.get_put_same _ _ _
  have hpos : ({ t.put CHN_STAT_POS (x.pos + 1) with frame := x.headFrame % 2 ^ 32 }.put CLK_DOMA_STAT_STATE 0).get CHN_STAT_POS = x.pos + 1 := by
    rw [State.get_put_ne _ _ (by decide)]
    exact State.get_put_of_lt t (by simp only [CHN_STAT_POS]; omega)
  have hqv : Quiet [CHN_STAT_POS, CLK_DOMA_STAT_STATE] t
      ({ t.put CHN_STAT_POS (x.pos + 1) with frame := x.headFrame % 2 ^ 32 }.put CLK_DOMA_STAT_STATE 0) :=
    Quiet.put (Quiet.update (Quiet.put (.refl _ t) (by decide) _)) (by decide) _
  have hfv : ({ t.put CHN_STAT_POS (x.pos + 1) with frame := x.headFrame % 2 ^ 32 }.put CLK_DOMA_STAT_STATE 0).frame = x.headFrame % 2 ^ 32 := rfl
  generalize { t.put CHN_STAT_POS (x.pos + 1) with frame := x.headFrame % 2 ^ 32 }.put CLK_DOMA_STAT_STATE 0 = v at *
  obtain ⟨hqc, hfc⟩ := v.domcSlew_shown
  generalize v.domcSlew = w at *
  have hport {f : Fld} (hf : f.lo < 64 ∧ 0xE0D000 ≤ f.addr ∧ f.addr < 0xE0E000) (hn : fldIn [CLK_DOMC_STAT_STATE, CLK_DOMC_STAT_SLEW_LEFT] f = false) :
      (chnLinkUp (0 : TwoIx) x s).get f = v.get f := by
    rw [hr.get_post hf]
    exact hqc.get hn (fldIn_eventFlds_chain hf)
  refine ⟨?_, ?_, hr.occ (State.mem_occ_post _ _ _ (by decide)), ?_, ?_, ?_, ?_⟩
  · rw [hport (by decide) (by decide), hqv.get (by decide) (by decide), h5]
  · rw [hport (by decide) (by decide), hqv.get (by decide) (by decide), hdel]
  · rw [hport (by decide) (by decide), hpos]
  · rw [hr.frame, (State.post_eventOnly _ _ _ _).rest, ← hfv]
    exact hfc
  · rw [hr.quiet.get (by decide) (by decide), State.get_post (by decide), State.get_setChain, hqc.get (by decide) (by decide), h0]
  · refine Quiet.trans (Quiet.trans (hq.of_subset ?_) (hqv.of_subset ?_))
      (Quiet.trans ((hqc.of_subset ?_).setChain (fun c => { c with wasUp := true }))
        (Quiet.trans ((Quiet.refl _ _).post 0x0D01 sevInfo _) (hr.quiet.of_subset ?_)))
    all_goals simp

/-! ### A link goes down (R133, R320, R322) -/

theorem mapFind_foldl_edgeClear {α : Type} (g : α → Nat) {x : α} (xs : List α) (s : State) (h : x ∈ xs ∨ mapFind s.edgeNew (g x) = none) :
    mapFind (xs.foldl (fun s i => s.edgeClear (g i)) s).edgeNew (g x) = none := by
  induction xs generalizing s with
  | nil => exact h.resolve_left List.not_mem_nil
  | cons y ys ih =>
    refine ih _ ?_
    change x ∈ ys ∨ mapFind (mapErase s.edgeNew (g y)) (g x) = none
    rw [mapFind_erase]
    by_cases hy : g x = g y
    · exact .inr (if_pos hy)
    · rw [if_neg hy]
      exact h.imp_left fun hx => (List.mem_cons.1 hx).resolve_left fun e => hy (congrArg g e)

theorem State.linkQuiet_eq (s : State) (p : Nat) : ∃ e, s.linkQuiet p = { s with edgeNew := e } ∧ ∀ i < 128, mapFind e (0x100 + 128 * p + i) = none := by
  obtain ⟨e, he⟩ := State.foldl_edgeClear (fun i => 0x100 + 128 * p + i) (List.range 128) s
  refine ⟨e, he, fun i hi => ?_⟩
  have := mapFind_foldl_edgeClear (fun i => 0x100 + 128 * p + i) (List.range 128) s (.inl (List.mem_range.2 hi))
  rw [he] at this
  exact this

theorem State.domaHold_quietly (s : State) :
    Quiet [CLK_DOMA_STAT_STATE, CLK_EVT_SUM_DOMA_HOLD] s s.domaHold ∧ s.domaHold.edgeNew = s.edgeNew ∧ s.occ ⊆ s.domaHold.occ := by
  have hq : Quiet [CLK_DOMA_STAT_STATE, CLK_EVT_SUM_DOMA_HOLD] s ((s.put CLK_DOMA_STAT_STATE 2).put CLK_EVT_SUM_DOMA_HOLD 1) :=
    Quiet.put (Quiet.put (.refl _ s) (by decide) _) (by decide) _
  have he : ((s.put CLK_DOMA_STAT_STATE 2).put CLK_EVT_SUM_DOMA_HOLD 1).edgeNew = s.edgeNew := rfl
  have ho : ((s.put CLK_DOMA_STAT_STATE 2).put CLK_EVT_SUM_DOMA_HOLD 1).occ = s.occ := rfl
  unfold State.domaHold
  generalize (s.put CLK_DOMA_STAT_STATE 2).put CLK_EVT_SUM_DOMA_HOLD 1 = t at *
  split
  · exact ⟨.refl _ s, rfl, fun _ h => h⟩
  · refine ⟨hq.post _ _ _, ?_, occ_subset_post ho _ _ _⟩
    rw [← he, (t.post_eventOnly _ _ _).rest]

theorem State.leaveUp_shown (s : State) (p : TwoIx) (cause : Nat) :
    let u := s.leaveUp p cause
    u.get (CHN_PORT_STAT_STATE p) = 6 ∧ u.get (CHN_PORT_STAT_SIGNAL p) = b2n (cause != 0) ∧
      u.get (CHN_PORT_CNT_RETRAINS p) = satNat 16 (s.get (CHN_PORT_CNT_RETRAINS p) + 1) ∧ u.bit CHN_SUM_LINK_DOWN p = true ∧
      0x0D02 ∈ u.occ ∧ (∀ i : Nat, i < 128 → mapFind u.edgeNew (0x100 + 128 * p.val + i) = none) ∧
      Quiet [CHN_PORT_STAT_STATE p, CHN_PORT_STAT_SIGNAL p, CHN_PORT_CNT_RETRAINS p, CHN_SUM_LINK_DOWN, CLK_DOMA_STAT_STATE,
        CLK_EVT_SUM_DOMA_HOLD] s u := by
  have hp : (p : Nat) < 2 := p.isLt
  let a := (s.put (CHN_PORT_STAT_STATE p) 6).put (CHN_PORT_STAT_SIGNAL p) (b2n (cause != 0))
  let b := (a.bump (CHN_PORT_CNT_RETRAINS p)).setBit CHN_SUM_LINK_DOWN p
  have hb : Quiet [CHN_PORT_STAT_STATE p, CHN_PORT_STAT_SIGNAL p, CHN_PORT_CNT_RETRAINS p, CHN_SUM_LINK_DOWN, CLK_DOMA_STAT_STATE,
      CLK_EVT_SUM_DOMA_HOLD] s b :=
    Quiet.setBit (Quiet.bump (Quiet.put (Quiet.put (Quiet.refl _ s) (by simp [fldIn]) _) (by simp [fldIn]) _) (by simp [fldIn])) (by simp [fldIn]) _
  have hret : a.get (CHN_PORT_CNT_RETRAINS p) = s.get (CHN_PORT_CNT_RETRAINS p) := by
    rw [State.get_put_ne _ _ (by simp only [Fld.key, CHN_PORT_CNT_RETRAINS, CHN_PORT_STAT_SIGNAL]; omega),
      State.get_put_ne _ _ (by simp only [Fld.key, CHN_PORT_CNT_RETRAINS, CHN_PORT_STAT_STATE]; omega)]
  have hcnt : b.get (CHN_PORT_CNT_RETRAINS p) = satNat 16 (s.get (CHN_PORT_CNT_RETRAINS p) + 1) := by
    rw [State.get_setBit_ne _ _ (by simp only [Fld.key, CHN_PORT_CNT_RETRAINS, CHN_SUM_LINK_DOWN]; omega), State.get_bump_same, hret]
    rfl
  have hstate : b.get (CHN_PORT_STAT_STATE p) = 6 := by
    rw [State.get_setBit_ne _ _ (by simp only [Fld.key, CHN_PORT_STAT_STATE, CHN_SUM_LINK_DOWN]; omega),
      State.get_bump_ne _ (by simp only [Fld.key, CHN_PORT_STAT_STATE, CHN_PORT_CNT_RETRAINS]; omega),
      State.get_put_ne _ _ (by simp only [Fld.key, CHN_PORT_STAT_STATE, CHN_PORT_STAT_SIGNAL]; omega), State.get_put_same]
    rfl
  have hsig : b.get (CHN_PORT_STAT_SIGNAL p) = b2n (cause != 0) := by
    rw [State.get_setBit_ne _ _ (by simp only [Fld.key, CHN_PORT_STAT_SIGNAL, CHN_SUM_LINK_DOWN]; omega),
      State.get_bump_ne _ (by simp only [Fld.key, CHN_PORT_STAT_SIGNAL, CHN_PORT_CNT_RETRAINS]; omega), State.get_put_same]
    cases cause != 0 <;> rfl
  have hdown : b.bit CHN_SUM_LINK_DOWN p = true := State.bit_setBit_same _ hp
  obtain ⟨e, he, hnone⟩ := b.linkQuiet_eq p
  dsimp only
  unfold State.leaveUp
  dsimp only
  rw [show ((((s.put (CHN_PORT_STAT_STATE p) 6).put (CHN_PORT_STAT_SIGNAL p) (b2n (cause != 0))).bump (CHN_PORT_CNT_RETRAINS p)).setBit
    CHN_SUM_LINK_DOWN p).linkQuiet p = { b with edgeNew := e } from he]
  clear_value b
  have hc : Quiet [] b (({ b with edgeNew := e } : State).setChain (fun c => { c with
      crcBad := mapErase c.crcBad p, missing := mapErase c.missing p, downAt := mapInsert c.downAt p (({ b with edgeNew := e } : State).frame + 1) })) :=
    Quiet.setChain (Quiet.update (Quiet.refl _ b)) _
  have hce : (({ b with edgeNew := e } : State).setChain (fun c => { c with
      crcBad := mapErase c.crcBad p, missing := mapErase c.missing p, downAt := mapInsert c.downAt p (({ b with edgeNew := e } : State).frame + 1) })).edgeNew = e := rfl
  generalize ({ b with edgeNew := e } : State).setChain _ = c at *
  have hd : Quiet [] b (c.post 0x0D02 sevWarn (pack [p16 p, p16 cause])) := hc.post _ _ _
  have hde : (c.post 0x0D02 sevWarn (pack [p16 p, p16 cause])).edgeNew = e := by rw [(State.post_eventOnly _ _ _ _).rest]; exact hce
  have hocc : 0x0D02 ∈ (c.post 0x0D02 sevWarn (pack [p16 p, p16 cause])).occ := State.mem_occ_post _ _ _ (by decide)
  generalize c.post 0x0D02 sevWarn (pack [p16 p, p16 cause]) = d at *
  have hu : Quiet [CLK_DOMA_STAT_STATE, CLK_EVT_SUM_DOMA_HOLD] b (if (p : Nat) = 0 then d.domaHold else d) ∧
      (if (p : Nat) = 0 then d.domaHold else d).edgeNew = e ∧ 0x0D02 ∈ (if (p : Nat) = 0 then d.domaHold else d).occ := by
    obtain ⟨h1, h2, h3⟩ := d.domaHold_quietly
    have hd' : Quiet [CLK_DOMA_STAT_STATE, CLK_EVT_SUM_DOMA_HOLD] b d := hd.of_subset (by simp)
    split
    · exact ⟨hd'.trans h1, h2.trans hde, h3 hocc⟩
    · exact ⟨hd', hde, hocc⟩
  generalize (if (p : Nat) = 0 then d.domaHold else d) = u at *
  obtain ⟨hq, hedge, hposted⟩ := hu
  have keep {f : Fld} (hf : f.lo < 64 ∧ 0xE0D000 ≤ f.addr ∧ f.addr < 0xE0E000) : u.get f = b.get f := by
    refine hq.get (fldIn_eq_false_of_addr hf.1 fun g hg => ?_) (fldIn_eventFlds_chain hf)
    simp only [List.mem_cons, List.not_mem_nil, or_false] at hg
    rcases hg with rfl | rfl
    · exact ⟨by decide, by simp only [CLK_DOMA_STAT_STATE]; omega⟩
    · exact ⟨by decide, by simp only [CLK_EVT_SUM_DOMA_HOLD]; omega⟩
  refine ⟨?_, ?_, ?_, ?_, hposted, fun i hi => by rw [hedge]; exact hnone i hi, hb.trans (hq.of_subset (by simp))⟩
  · rw [keep (by simp only [CHN_PORT_STAT_STATE]; omega), hstate]
  · rw [keep (by simp only [CHN_PORT_STAT_SIGNAL]; omega), hsig]
  · rw [keep (by simp only [CHN_PORT_CNT_RETRAINS]; omega), hcnt]
  · rw [State.bit, keep (by decide), ← hdown, State.bit]

theorem chnLinkDown_of {p cause : Nat} (hup : s.linkState p = 5)
    (h : cause = 0 ∨ (cause = 1 ∧ 2 ≤ mapGet 0 s.chain.missing p) ∨ (cause = 2 ∧ 8 ≤ s.crcFails p)) : chnLinkDown p cause s = s.leaveUp p cause := by
  unfold chnLinkDown
  dsimp only
  refine if_pos ⟨hup, ?_⟩
  rcases h with rfl | ⟨rfl, h⟩ | ⟨rfl, h⟩
  · rfl
  · simp [h]
  · simp [h]

/-! ### A unit is gone (R331, R337, R338, R176) -/

/-- What the loss of a unit leaves as it was: the head's sum and presence of the units, and when its link went down. -/
structure LossKept (s u : State) : Prop where
  sum : u.get CHN_SUM_DETACH = s.get CHN_SUM_DETACH
  present : u.get CHN_STAT_PRESENT = s.get CHN_STAT_PRESENT
  occ : s.occ ⊆ u.occ
  down : u.chain.downAt = s.chain.downAt

theorem LossKept.refl (s : State) : LossKept s s := ⟨rfl, rfl, fun _ h => h, rfl⟩

theorem LossKept.trans (h : LossKept s t) (k : LossKept t u) : LossKept s u :=
  ⟨k.sum.trans h.sum, k.present.trans h.present, fun _ hc => k.occ (h.occ hc), k.down.trans h.down⟩

theorem LossKept.ite {c : Prop} [Decidable c] (h : LossKept s t) (k : LossKept s u) : LossKept s (if c then t else u) := by
  split <;> assumption

theorem LossKept.foldl {α : Type} {f : State → α → State} (hf : ∀ t x, LossKept t (f t x)) (xs : List α) (s : State) :
    LossKept s (xs.foldl f s) := by
  induction xs generalizing s with
  | nil => exact .refl s
  | cons x xs ih => exact (hf s x).trans (ih _)

theorem LossKept.put (h : LossKept s t) {f : Fld} (hd : Fld.key CHN_SUM_DETACH ≠ Fld.key f) (hp : Fld.key CHN_STAT_PRESENT ≠ Fld.key f) (v : Nat) :
    LossKept s (t.put f v) :=
  h.trans ⟨State.get_put_ne _ _ hd, State.get_put_ne _ _ hp, fun _ h => h, rfl⟩

theorem LossKept.post (h : LossKept s t) (c v q : Nat) : LossKept s (t.post c v q) :=
  h.trans ⟨State.get_post_chain _ (by decide), State.get_post_chain _ (by decide), occ_subset_post rfl _ _ _, by
    rw [(t.post_eventOnly _ _ _).chain]⟩

/-- A change outside the registers, the events and the chain. -/
theorem LossKept.other (h : LossKept s t) (hregs : u.regs = t.regs) (hocc : u.occ = t.occ) (hdown : u.chain.downAt = t.chain.downAt) :
    LossKept s u :=
  h.trans ⟨by rw [State.get, hregs, State.get], by rw [State.get, hregs, State.get], fun _ hc => hocc ▸ hc, hdown⟩

theorem LossKept.setChain (h : LossKept s t) {f : Chain → Chain} (hf : ∀ c, (f c).downAt = c.downAt) : LossKept s (t.setChain f) :=
  h.other rfl rfl (hf _)

theorem offEveryRing_detach : OffEveryRing CHN_SUM_DETACH ∧ OffEveryRing CHN_STAT_PRESENT := by
  simp [OffEveryRing, CHN_SUM_DETACH, CHN_STAT_PRESENT]

theorem LossKept.of_ringOps (h : RingOpsOnly OffEveryRing s u) : LossKept s u :=
  ⟨h.regs _ offEveryRing_detach.1, h.regs _ offEveryRing_detach.2, h.occ, by rw [h.chain]⟩

theorem State.proxyPost_lossKept (s : State) (r : Nat) (w : Nat × Nat) (last : Bool) : LossKept s (s.proxyPost r w last) := by
  have hP := spared_offEveryRing r
  have hc := spared_offEveryRing (s.cplRing r)
  unfold State.proxyPost
  extract_lets +onlyGivenNames a seq status h nw q b c
  have hb : RingOpsOnly OffEveryRing s b := (hc.ringPush s _).trans (State.setRing_ringOpsOnly _ r _)
  have hcc : RingOpsOnly OffEveryRing s c := hb.trans (hP.setPointer b _).1
  refine LossKept.of_ringOps (.ite ?_ (hcc.trans (hP.putRing c (by simp [ringWrites]) _)))
  exact ((((hb.trans (hP.putRing b (by simp [ringWrites]) 3)).trans (hP.putRing _ (by simp [ringWrites]) _)).trans
    (hP.putRing _ (by simp [ringWrites]) _)).trans (hP.post _ _ _ _))

theorem State.proxyCpl_lossKept (s : State) (r : Nat) (w : Nat × Nat) (last : Bool) : LossKept s (s.proxyCpl r w last) := by
  have hput (t : State) : LossKept t (t.put (RING_STAT_STATE r) 4) :=
    .of_ringOps ((spared_offEveryRing r).putRing t (by simp [ringWrites]) 4)
  unfold State.proxyCpl
  refine .ite (.trans ?_ (hput _)) (s.proxyPost_lossKept r w last)
  exact .setChain (.refl s) fun _ => rfl

theorem State.accessEnd_lossKept (s : State) (st : Nat) : LossKept s (s.accessEnd st) :=
  .other (.put (.put (.refl s) (by decide) (by decide) 0) (by decide) (by decide) st) rfl rfl rfl

theorem State.dropUnit_lossKept (s : State) (v : Nat) : LossKept s (s.dropUnit v).2 := by
  unfold State.dropUnit
  extract_lets +onlyGivenNames n a b
  have ha : LossKept s a := .other (.refl s) rfl rfl rfl
  have hb : LossKept s b := by
    refine ha.trans (.foldl (fun t r => .ite (.foldl (fun t q => ?_) _ t) (.refl t)) _ a)
    exact t.proxyCpl_lossKept _ _ _
  dsimp only
  split
  · exact hb.trans (.ite (b.accessEnd_lossKept _) (.refl b))
  · exact hb

theorem State.setLend_lossKept (s : State) (v : Nat) (f : Lend → Lend) : LossKept s (s.setLend v f) := by
  unfold State.setLend
  split
  · exact .other (.refl s) rfl rfl rfl
  · exact .refl s

theorem State.loadFinish_lossKept (s : State) (x : Load) (st res : Nat) : LossKept s (s.loadFinish x st res) := by
  unfold State.loadFinish
  dsimp only
  have hc : LossKept s s.loadClear := .other (.refl s) rfl rfl rfl
  split
  · exact hc.trans (.of_ringOps (State.finish_offEveryRing _ _ _ _))
  · exact hc

theorem State.loadSettle_lossKept (s : State) : LossKept s s.loadSettle := by
  unfold State.loadSettle
  split
  · rename_i x _
    refine .ite (.refl s) ?_
    have hr : LossKept s (s.setReason x.slot (s.settledReason x)) := by
      unfold State.setReason
      split
      · exact .put (.refl s) (by decide) (by decide) _
      · exact .put (.refl s) (by decide) (by decide) _
    have ha : LossKept s ((s.setReason x.slot (s.settledReason x)).loadCommit x) := by
      unfold State.loadCommit
      split
      · exact .other hr rfl rfl rfl
      · exact hr
    exact .ite (ha.trans (State.loadFinish_lossKept _ _ _ _)) (.other ha rfl rfl rfl)
  · exact .refl s

theorem State.unitLoaded_lossKept (s : State) (kind v st edition : Nat) : LossKept s (s.unitLoaded kind v st edition) := by
  have hput (t : State) {f : Fld} (hf : f = SYS_UNIT_STAT_STATUS v ∨ f = SYS_UNIT_STAT_EDITION v ∨ f = SYS_UNIT_STAT_LOADED v) (x : Nat) :
      LossKept t (t.put f x) := by
    refine .put (.refl t) ?_ ?_ x
    all_goals
      rcases hf with rfl | rfl | rfl
      all_goals
        simp only [Fld.key, CHN_SUM_DETACH, CHN_STAT_PRESENT, SYS_UNIT_STAT_STATUS, SYS_UNIT_STAT_EDITION, SYS_UNIT_STAT_LOADED]
        omega
  unfold State.unitLoaded
  have h1 := hput s (.inl rfl) st
  exact .ite h1 ((h1.trans (hput _ (.inr (.inl rfl)) _)).trans (hput _ (.inr (.inr rfl)) _))

theorem State.lendSettled_lossKept (s : State) (v st : Nat) : LossKept s (s.lendSettled v st) := by
  unfold State.lendSettled
  extract_lets +onlyGivenNames a
  have ha : LossKept s a := s.setLend_lossKept v _
  clear_value a
  dsimp only
  split
  · exact ha
  · refine .ite (ha.trans a.loadSettle_lossKept) (.ite ?_ ?_)
    · exact .other (ha.trans (a.setLend_lossKept v _)) rfl rfl rfl
    · exact .other (ha.trans (a.unitLoaded_lossKept 0 v st _)) rfl rfl rfl

theorem State.lendLost_lossKept (s : State) (v : Nat) : LossKept s (s.lendLost v) := by
  unfold State.lendLost
  split
  · refine .ite (.refl s) (.trans ?_ (State.lendSettled_lossKept _ v _))
    exact .ite (.refl s) (.post (.refl s) _ _ _)
  · exact .refl s

/-- The units that are gone are no longer present (R331). -/
theorem bit_foldl_absent (ks : List Nat) (s : State) {v : Nat} (hv : v < 16) :
    ((ks.foldl (fun s u => (s.clrBit CHN_STAT_PRESENT u).put (CHN_ROSTER_STAT_PRESENT u) 0) s).bit CHN_STAT_PRESENT v) =
      (s.bit CHN_STAT_PRESENT v && !ks.contains v) := by
  induction ks generalizing s with
  | nil => simp
  | cons k ks ih =>
    have hget : ((s.clrBit CHN_STAT_PRESENT k).put (CHN_ROSTER_STAT_PRESENT k) 0).bit CHN_STAT_PRESENT v =
        (s.bit CHN_STAT_PRESENT v && !(v == k)) := by
      rw [State.bit, State.get_put_ne _ _ (by simp only [Fld.key, CHN_STAT_PRESENT, CHN_ROSTER_STAT_PRESENT]; omega), State.clrBit,
        State.get_put_same, bitOf_mod _ (show v < Fld.width CHN_STAT_PRESENT from hv), bitOf_clrBitN, State.bit]
      rfl
    rw [List.foldl_cons, ih, hget, List.contains_cons, Bool.and_assoc, Bool.not_or]

theorem chain_foldl_absent (ks : List Nat) (s : State) :
    (ks.foldl (fun s u => (s.clrBit CHN_STAT_PRESENT u).put (CHN_ROSTER_STAT_PRESENT u) 0) s).chain = s.chain := by
  induction ks generalizing s with
  | nil => rfl
  | cons k ks ih => exact ih _

theorem State.detach_shown (s : State) (r : Nat) :
    let u := s.detach r
    u.get CHN_SUM_DETACH = 1 ∧ 0x0D04 ∈ u.occ ∧ u.chain.downAt = s.chain.downAt ∧
      ∀ v : UnitIx, (if r = 0 then 0 else s.unitPos r) < s.unitPos v → u.bit CHN_STAT_PRESENT v = false := by
  unfold State.detach
  extract_lets +onlyGivenNames p l mask a b
  have hc : a.chain = s.chain := chain_foldl_absent l s
  have habsent (v : UnitIx) : a.bit CHN_STAT_PRESENT v = (s.bit CHN_STAT_PRESENT v && !l.contains v.val) := bit_foldl_absent l s v.isLt
  have hb : b = (a.put CHN_SUM_DETACH 1).post 0x0D04 sevFault (pack [p16 r, p16 mask]) := rfl
  clear_value b a mask
  have hb : b.get CHN_SUM_DETACH = 1 ∧ 0x0D04 ∈ b.occ ∧ b.chain.downAt = s.chain.downAt ∧ ∀ v, b.bit CHN_STAT_PRESENT v = a.bit CHN_STAT_PRESENT v := by
    subst hb
    refine ⟨?_, State.mem_occ_post _ _ _ (by decide), ?_, fun v => ?_⟩
    · rw [State.get_post_chain _ (by decide), State.get_put_same]
      rfl
    · rw [(State.post_eventOnly _ _ _ _).chain]
      exact congrArg (fun c => c.downAt) hc
    · rw [State.bit, State.get_post_chain _ (by decide), State.get_put_ne _ _ (by decide), State.bit]
  obtain ⟨h1, h2, h3, h4⟩ := hb
  have hk : LossKept b (l.foldl (fun s u => ((s.dropUnit u).2).lendLost u) b) :=
    .foldl (fun t u => (t.dropUnit_lossKept u).trans (State.lendLost_lossKept _ u)) l b
  refine ⟨hk.sum.trans h1, hk.occ h2, hk.down.trans h3, fun v hv => ?_⟩
  rw [State.bit, hk.present, ← State.bit, h4, habsent v, Bool.and_eq_false_iff]
  by_cases hs : s.bit CHN_STAT_PRESENT v = true
  · have hmem : (v : Nat) ∈ l := List.mem_filter.2 ⟨List.mem_range.2 v.isLt, by rw [hs, Bool.true_and]; exact decide_eq_true hv⟩
    exact .inr (by rw [List.contains_iff_mem.2 hmem]; rfl)
  · exact .inl (Bool.eq_false_iff.2 hs)

theorem detachTimeout_of {p f : Nat} (h : mapFind s.chain.downAt p = some f) (ha : s.awake = true) (hst : s.linkState p ≠ 5)
    (hd : s.framesOfMs (10 * max 1 (s.get CHN_CTL_DETACH_T)) ≤ s.frameAgo (f - 1)) (hp : p ≠ 0) :
    detachTimeout p s = (fun t : State => if t.isHead then t.detach 0
      else if t.on CHN_STAT_ADDR_VALID then t.txUnit { hdr := tunHdr t.ownAddr 0xA 0 0 0 0 0, data := [1] }
      else t) (s.setChain (fun c => { c with downAt := mapErase c.downAt p })) := by
  have hgo : ¬ (¬ s.awake = true ∨ s.linkState p = 5 ∨ s.frameAgo (f - 1) < s.framesOfMs (10 * max 1 (s.get CHN_CTL_DETACH_T))) :=
    not_or.2 ⟨not_not.2 ha, not_or.2 ⟨hst, Nat.not_lt.2 hd⟩⟩
  unfold detachTimeout
  rw [h]
  dsimp only
  rw [if_neg hgo, if_neg hp]

theorem detachTimeout_head {f : Nat} (h : mapFind s.chain.downAt 1 = some f) (ha : s.awake = true) (hst : s.linkState 1 ≠ 5)
    (hd : s.framesOfMs (10 * max 1 (s.get CHN_CTL_DETACH_T)) ≤ s.frameAgo (f - 1)) (hh : s.isHead = true) :
    let u := detachTimeout 1 s
    u.get CHN_SUM_DETACH = 1 ∧ 0x0D04 ∈ u.occ ∧ mapFind u.chain.downAt 1 = none ∧
      ∀ v : UnitIx, 0 < s.get (CHN_ROSTER_STAT_POS v) → u.bit CHN_STAT_PRESENT v = false := by
  dsimp only
  rw [detachTimeout_of h ha hst hd (by decide)]
  have hhead : (s.setChain (fun c => { c with downAt := mapErase c.downAt 1 })).isHead = true := hh
  have hpos (v : Nat) : (s.setChain (fun c => { c with downAt := mapErase c.downAt 1 })).unitPos v = s.get (CHN_ROSTER_STAT_POS v) := rfl
  have hdown : (s.setChain (fun c => { c with downAt := mapErase c.downAt 1 })).chain.downAt = mapErase s.chain.downAt 1 := rfl
  dsimp only
  generalize s.setChain (fun c => { c with downAt := mapErase c.downAt 1 }) = t at *
  rw [if_pos hhead]
  obtain ⟨h1, h2, h3, h4⟩ := t.detach_shown 0
  refine ⟨h1, h2, ?_, fun v hv => h4 v (by rw [if_pos rfl, hpos]; exact hv)⟩
  rw [h3, hdown, mapFind_erase, if_pos rfl]

theorem detachTimeout_satellite {f : Nat} (h : mapFind s.chain.downAt 1 = some f) (ha : s.awake = true) (hst : s.linkState 1 ≠ 5)
    (hd : s.framesOfMs (10 * max 1 (s.get CHN_CTL_DETACH_T)) ≤ s.frameAgo (f - 1)) (hh : s.isHead = false)
    (hv : s.on CHN_STAT_ADDR_VALID = true) (hfree : TunnelFree s 0) :
    let u := detachTimeout 1 s
    Sends 0 { hdr := tunHdr s.ownAddr 0xA 0 0 0 0 0, data := [1] } s u ∧ Quiet [] s u := by
  dsimp only
  rw [detachTimeout_of h ha hst hd (by decide)]
  have hhead : (s.setChain (fun c => { c with downAt := mapErase c.downAt 1 })).isHead = false := hh
  have hon : (s.setChain (fun c => { c with downAt := mapErase c.downAt 1 })).on CHN_STAT_ADDR_VALID = true := hv
  have haddr : (s.setChain (fun c => { c with downAt := mapErase c.downAt 1 })).ownAddr = s.ownAddr := rfl
  have hchain : (s.setChain (fun c => { c with downAt := mapErase c.downAt 1 })).chain = { s.chain with downAt := mapErase s.chain.downAt 1 } := rfl
  have hq : Quiet [] s (s.setChain (fun c => { c with downAt := mapErase c.downAt 1 })) := (Quiet.refl _ s).setChain _
  dsimp only
  generalize s.setChain (fun c => { c with downAt := mapErase c.downAt 1 }) = t at *
  rw [if_neg (by rw [hhead]; decide), if_pos hon, haddr, State.txUnit_eq_sent (k := 0)]
  · refine ⟨?_, hq.setChain _⟩
    have := State.sends_sent (s := t) (k := 0) (x := { hdr := tunHdr s.ownAddr 0xA 0 0 0 0 0, data := [1] })
    unfold Sends at this ⊢
    rw [hchain] at this
    exact this
  · rw [State.tunKey, hhead]
    rfl
  · unfold TunnelFree
    rw [hchain]
    exact hfree

/-- Settles O21: each command changes the port's state, posts its event, and acts on the units behind the link. -/
theorem chainLinkStates : Obligations.ChainLinkStates := by
  unfold Obligations.ChainLinkStates
  intro s p
  have outer (h : s.isHead = true → p = 1) : s.isHead = true → (p : Nat) ≠ 0 := fun hh => by rw [h hh]; decide
  refine ⟨fun ha hst hp => ⟨_, rfl, linkDetect_trains (outer hp) ha hst⟩, fun ha hst hp => ⟨_, rfl, linkDetect_signals (outer hp) ha hst⟩,
    fun k hst hs hd => ⟨_, rfl, chnLinkUp_refuses p ⟨hst, hs⟩ hd⟩, fun k hst hs hd hh hp => ?_, fun k hst hs hd _ hp ha hx => ?_,
    fun cause hup hc => ⟨_, rfl, ?_⟩, fun hup => ⟨_, rfl, ?_⟩, fun hup => ⟨_, rfl, ?_⟩, fun hst => ⟨_, rfl, trainingTimeout_shown p hst⟩,
    fun f h ha hst hd hh => ⟨_, rfl, detachTimeout_head h ha hst hd hh⟩, fun f h ha hst hd hh hv hfree => ⟨_, rfl, ?_⟩⟩
  · subst hp
    exact ⟨_, rfl, chnLinkUp_head ⟨hst, hs⟩ hd hh⟩
  · subst hp
    exact ⟨_, rfl, chnLinkUp_satellite ⟨hst, hs⟩ hd ha hx⟩
  · rw [chnLinkDown_of hup hc]
    exact s.leaveUp_shown p cause
  · rw [retrainUp, State.retrain, if_pos (show s.linkState 0 = 5 from hup)]
    exact s.leaveUp_shown 0 3
  · rw [retrainDn, State.retrain, if_pos (show s.linkState 1 = 5 from hup)]
    exact s.leaveUp_shown 1 3
  · exact detachTimeout_satellite h ha hst hd hh hv hfree

end Sys2Proof.Machine
end

section
/-! What a chain port receives (R315 to R320), the deal of addresses (R327 to R329), and units that attach and detach (R330, R331). -/

namespace Sys2Proof.Machine

variable {l : List Fld} {s t u : State} {p k n : Nat}

/-! ### The slots of a frame (R316, R320) -/

theorem State.slotsIn_eq (s : State) (p : Nat) (f : ChainFrame) :
    ∃ e, s.slotsIn p f = { s with edgeNew := e } ∧
      ∀ i < 128, mapFind e (0x100 + 128 * p + i) = if i < s.chainWidth then some (s.slotCell f i) else none := by
  have step : ∀ n, ∃ e, (List.range n).foldl (fun s i =>
      if i < s.chainWidth then s.edgePut (0x100 + 128 * p + i) (s.slotCell f i) else s.edgeClear (0x100 + 128 * p + i)) s =
        { s with edgeNew := e } ∧
      ∀ i < n, mapFind e (0x100 + 128 * p + i) = if i < s.chainWidth then some (s.slotCell f i) else none := by
    intro n
    induction n with
    | zero => exact ⟨s.edgeNew, rfl, fun i hi => absurd hi (Nat.not_lt_zero i)⟩
    | succ n ih =>
      obtain ⟨e, he, hcell⟩ := ih
      rw [List.range_succ, List.foldl_append, he]
      by_cases hn : n < s.chainWidth
      · refine ⟨mapInsert e (0x100 + 128 * p + n) (s.slotCell f n), if_pos hn, fun i hi => ?_⟩
        rw [mapFind_insert]
        by_cases hin : i = n
        · rw [if_pos (by rw [hin]), hin, if_pos hn]
        · rw [if_neg (by omega), hcell i (by omega)]
      · refine ⟨mapErase e (0x100 + 128 * p + n), if_neg hn, fun i hi => ?_⟩
        rw [mapFind_erase]
        by_cases hin : i = n
        · rw [if_pos (by rw [hin]), hin, if_neg hn]
        · rw [if_neg (by omega), hcell i (by omega)]
  exact step 128

/-- The frames missing and the CRC results of port `p` once a frame has come (R322). -/
def Chain.counted (c : Chain) (p : Nat) (f : ChainFrame) : Chain :=
  { c with missing := mapSet 0 c.missing p (if f.missing then mapGet 0 c.missing p + 1 else 0)
           crcBad := mapSet [] c.crcBad p ((!f.missing && !f.crcOk) :: (mapGet [] c.crcBad p).take 63) }

theorem State.frameErrors_of_missing {f : ChainFrame} (hm : f.missing = true) :
    s.frameErrors p f = (s.setChain (fun c => c.counted p f)).bump (CHN_PORT_CNT_GRP_CRC p) := if_pos hm

/-- The counts of a frame that came: bad codes and groups (R320). -/
def State.countErrors (s : State) (p : Nat) (f : ChainFrame) : State :=
  ((s.setChain (fun c => c.counted p f)).bumpBy (CHN_PORT_CNT_CODE_ERR p) (popCount 128 f.badSlots)).bumpBy (CHN_PORT_CNT_GRP_CRC p)
    (popCount 8 f.badGroups)

theorem State.frameErrors_of_came {f : ChainFrame} (hm : f.missing = false) :
    s.frameErrors p f = if f.crcOk then s.countErrors p f else (s.countErrors p f).bump (CHN_PORT_CNT_CTRL_CRC p) :=
  if_neg (by rw [hm]; decide)

theorem State.get_bumpBy_same (s : State) (f : Fld) (n : Nat) : (s.bumpBy f n).get f = satNat f.width (s.get f + n) := by
  rw [State.bumpBy, State.get_put_of_lt _ (satNat_lt _ _)]

/-- A count of port `p` and the other counts are registers of their own. -/
theorem port_counts_apart (p : Nat) :
    Fld.key (CHN_PORT_CNT_CODE_ERR p) ≠ Fld.key (CHN_PORT_CNT_GRP_CRC p) ∧ Fld.key (CHN_PORT_CNT_CTRL_CRC p) ≠ Fld.key (CHN_PORT_CNT_GRP_CRC p) ∧
      Fld.key (CHN_PORT_CNT_CTRL_CRC p) ≠ Fld.key (CHN_PORT_CNT_CODE_ERR p) := by
  simp only [Fld.key, CHN_PORT_CNT_CODE_ERR, CHN_PORT_CNT_GRP_CRC, CHN_PORT_CNT_CTRL_CRC]
  omega

theorem State.countErrors_shown (s : State) (p : Nat) (f : ChainFrame) :
    let u := s.countErrors p f
    u.get (CHN_PORT_CNT_CODE_ERR p) = satNat 16 (s.get (CHN_PORT_CNT_CODE_ERR p) + popCount 128 f.badSlots) ∧
      u.get (CHN_PORT_CNT_GRP_CRC p) = satNat 16 (s.get (CHN_PORT_CNT_GRP_CRC p) + popCount 8 f.badGroups) ∧
      u.get (CHN_PORT_CNT_CTRL_CRC p) = s.get (CHN_PORT_CNT_CTRL_CRC p) ∧
      Quiet [CHN_PORT_CNT_CODE_ERR p, CHN_PORT_CNT_GRP_CRC p] s u := by
  obtain ⟨h1, h2, h3⟩ := port_counts_apart p
  refine ⟨?_, ?_, ?_, Quiet.put (Quiet.put ((Quiet.refl _ s).setChain _) (by simp [fldIn]) _) (by simp [fldIn]) _⟩
  · rw [State.countErrors, State.bumpBy, State.get_put_ne _ _ h1, State.get_bumpBy_same, State.get_setChain]
    rfl
  · rw [State.countErrors, State.get_bumpBy_same, State.bumpBy, State.get_put_ne _ _ h1.symm, State.get_setChain]
    rfl
  · rw [State.countErrors, State.bumpBy, State.get_put_ne _ _ h2, State.bumpBy, State.get_put_ne _ _ h3, State.get_setChain]

theorem State.countErrors_hidden (s : State) (p : Nat) (f : ChainFrame) :
    (s.countErrors p f).chain = s.chain.counted p f ∧ (s.countErrors p f).frame = s.frame ∧ (s.countErrors p f).isHead = s.isHead := by
  unfold State.countErrors
  generalize popCount 128 f.badSlots = a
  generalize popCount 8 f.badGroups = b
  exact ⟨rfl, rfl, rfl⟩

/-- What a frame's counts leave alone (R320, R322). -/
theorem State.frameErrors_shown (s : State) (p : Nat) (f : ChainFrame) :
    let u := s.frameErrors p f
    u.chain = s.chain.counted p f ∧ u.frame = s.frame ∧ u.isHead = s.isHead ∧
      Quiet [CHN_PORT_CNT_CTRL_CRC p, CHN_PORT_CNT_CODE_ERR p, CHN_PORT_CNT_GRP_CRC p] s u := by
  dsimp only
  by_cases hm : f.missing = true
  · rw [State.frameErrors_of_missing hm]
    exact ⟨rfl, rfl, rfl, Quiet.bump ((Quiet.refl _ s).setChain _) (by simp [fldIn])⟩
  · rw [State.frameErrors_of_came (Bool.eq_false_iff.2 hm)]
    obtain ⟨-, -, -, hq⟩ := s.countErrors_shown p f
    obtain ⟨h1, h2, h3⟩ := s.countErrors_hidden p f
    have hq' : Quiet [CHN_PORT_CNT_CTRL_CRC p, CHN_PORT_CNT_CODE_ERR p, CHN_PORT_CNT_GRP_CRC p] s (s.countErrors p f) := hq.of_subset (by simp)
    generalize s.countErrors p f = t at *
    split
    · exact ⟨h1, h2, h3, hq'⟩
    · exact ⟨h1, h2, h3, hq'.bump (by simp [fldIn])⟩

/-- The unit once a frame's counts and slots have come in. -/
def State.frameIn (s : State) (p : Nat) (f : ChainFrame) : State := (s.frameErrors p f).slotsIn p f

theorem State.frameIn_eq (s : State) (p : TwoIx) (f : ChainFrame) :
    ∃ e, s.frameIn p f = { s.frameErrors p f with edgeNew := e } ∧
      ∀ i < 128, mapFind e (0x100 + 128 * p.val + i) = if i < s.chainWidth then some (s.slotCell f i) else none := by
  obtain ⟨e, he, hcell⟩ := (s.frameErrors p f).slotsIn_eq p f
  obtain ⟨-, hframe, -, hq⟩ := s.frameErrors_shown p f
  have hp := p.isLt
  have hrate : (s.frameErrors p f).get CLK_DOMA_STAT_RATE = s.get CLK_DOMA_STAT_RATE := by
    refine hq.get_of_addr (by decide) fun g hg => ?_
    simp only [List.mem_cons, List.not_mem_nil, or_false] at hg
    rcases hg with rfl | rfl | rfl
    all_goals
      simp only [CHN_PORT_CNT_CTRL_CRC, CHN_PORT_CNT_CODE_ERR, CHN_PORT_CNT_GRP_CRC, CLK_DOMA_STAT_RATE]
      omega
  have hwidth : (s.frameErrors p f).chainWidth = s.chainWidth := by
    rw [State.chainWidth, State.rate96, State.on, hrate, State.chainWidth, State.rate96, State.on]
  have hslot (i : Nat) : (s.frameErrors p f).slotCell f i = s.slotCell f i := by
    rw [State.slotCell, State.errCell, State.tag, hframe, State.slotCell, State.errCell, State.tag]
  refine ⟨e, he, fun i hi => ?_⟩
  rw [hcell i hi, hwidth, hslot]

theorem chainFrameRx_of_up {f : ChainFrame} (h : s.linkState p = 5) :
    chainFrameRx p f s = if f.missing ∨ ¬ f.crcOk then s.frameIn p f
      else if p = 1 then (s.frameIn p f).ctlUp f.ctl else if (s.frameIn p f).isHead then s.frameIn p f else (s.frameIn p f).ctlDown f.ctl :=
  if_neg (not_not.2 h)

theorem chainFrameRx_missing (p : TwoIx) {f : ChainFrame} (h : s.linkState p = 5) (hm : f.missing = true) :
    let u := chainFrameRx p f s
    u.get (CHN_PORT_CNT_GRP_CRC p) = satNat 16 (s.get (CHN_PORT_CNT_GRP_CRC p) + 1) ∧
      mapGet 0 u.chain.missing p = mapGet 0 s.chain.missing p + 1 ∧
      (∀ i : Nat, i < s.chainWidth → i < 128 → mapFind u.edgeNew (0x100 + 128 * p.val + i) = some s.errCell) ∧ Quiet [CHN_PORT_CNT_GRP_CRC p] s u := by
  dsimp only
  obtain ⟨e, he, hcell⟩ := s.frameIn_eq p f
  rw [chainFrameRx_of_up h, if_pos (.inl hm), he, State.frameErrors_of_missing hm]
  refine ⟨State.get_bump_same _ _, ?_, fun i hw hi => ?_, ?_⟩
  · change mapGet 0 (mapSet 0 s.chain.missing p (if f.missing then mapGet 0 s.chain.missing p + 1 else 0)) p = _
    rw [mapGet_set_same, if_pos hm]
  · refine (hcell i hi).trans ?_
    rw [if_pos hw, State.slotCell, hm]
    rfl
  · exact Quiet.other (Quiet.bump ((Quiet.refl _ s).setChain _) (by simp [fldIn])) rfl rfl rfl rfl

theorem chainFrameRx_damaged (p : TwoIx) {f : ChainFrame} (h : s.linkState p = 5) (hm : f.missing = false) (hc : f.crcOk = false)
    (hs : f.badSlots = 0) (hg : f.badGroups = 0) :
    let u := chainFrameRx p f s
    u.get (CHN_PORT_CNT_CTRL_CRC p) = satNat 16 (s.get (CHN_PORT_CNT_CTRL_CRC p) + 1) ∧ mapGet 0 u.chain.missing p = 0 ∧
      u.crcFails p = 1 + ((((mapGet [] s.chain.crcBad p).take 63).filter id).length) ∧
      (∀ i : Nat, i < s.chainWidth → i < 128 → mapFind u.edgeNew (0x100 + 128 * p.val + i) = some (BitVec.ofNat 64 (f.slots.getD i 0))) ∧
      Quiet [CHN_PORT_CNT_CTRL_CRC p, CHN_PORT_CNT_CODE_ERR p, CHN_PORT_CNT_GRP_CRC p] s u := by
  dsimp only
  obtain ⟨e, he, hcell⟩ := s.frameIn_eq p f
  obtain ⟨-, -, hcnt, -⟩ := s.countErrors_shown p f
  obtain ⟨hchain, -, -, hq⟩ := s.frameErrors_shown p f
  rw [chainFrameRx_of_up h, if_pos (.inr (by rw [hc]; decide)), he]
  have herr := State.frameErrors_of_came (s := s) (p := p) hm
  rw [hc, if_neg (by decide)] at herr
  have hctrl : (s.frameErrors p f).get (CHN_PORT_CNT_CTRL_CRC p) = satNat 16 (s.get (CHN_PORT_CNT_CTRL_CRC p) + 1) := by
    rw [herr, State.get_bump_same, hcnt]
    rfl
  generalize s.frameErrors p f = t at *
  refine ⟨hctrl, ?_, ?_, fun i hw hi => ?_, Quiet.update hq⟩
  · change mapGet 0 t.chain.missing p = 0
    rw [hchain, Chain.counted]
    dsimp only
    rw [mapGet_set_same, hm]
    rfl
  · change ((mapGet [] t.chain.crcBad p).filter id).length = _
    rw [hchain, Chain.counted]
    dsimp only
    rw [mapGet_set_same, hm, hc, List.filter_cons_of_pos (by decide), List.length_cons, Nat.add_comm]
  · refine (hcell i hi).trans ?_
    rw [if_pos hw, State.slotCell, hm, hs, hg]
    simp [bitOf]

/-- A frame whose control field is whole has its counts and its slots (R316, R320). -/
theorem State.frameIn_whole (s : State) (p : TwoIx) {f : ChainFrame} (hm : f.missing = false) (hc : f.crcOk = true) :
    let u := s.frameIn p f
    (∀ i : Nat, i < s.chainWidth → i < 128 → mapFind u.edgeNew (0x100 + 128 * p.val + i) =
        some (if bitOf f.badSlots i || bitOf f.badGroups (i / 16) then s.errCell else BitVec.ofNat 64 (f.slots.getD i 0))) ∧
      (∀ i : Nat, s.chainWidth ≤ i → i < 128 → mapFind u.edgeNew (0x100 + 128 * p.val + i) = none) ∧
      u.get (CHN_PORT_CNT_CODE_ERR p) = satNat 16 (s.get (CHN_PORT_CNT_CODE_ERR p) + popCount 128 f.badSlots) ∧
      u.get (CHN_PORT_CNT_GRP_CRC p) = satNat 16 (s.get (CHN_PORT_CNT_GRP_CRC p) + popCount 8 f.badGroups) ∧
      Quiet [CHN_PORT_CNT_CODE_ERR p, CHN_PORT_CNT_GRP_CRC p] s u := by
  dsimp only
  obtain ⟨e, he, hcell⟩ := s.frameIn_eq p f
  obtain ⟨hcode, hgrp, -, hq⟩ := s.countErrors_shown p f
  rw [he, State.frameErrors_of_came hm, hc, if_pos rfl]
  generalize s.countErrors p f = t at *
  refine ⟨fun i hw hi => ?_, fun i hw hi => (hcell i hi).trans (if_neg (Nat.not_lt.2 hw)), hcode, hgrp, Quiet.update hq⟩
  refine (hcell i hi).trans ?_
  rw [if_pos hw, State.slotCell, hm, Bool.false_or]

/-! ### The control field from downstream (R317) -/

theorem State.unitRx_idle (s : State) (up : Bool) {x : TunUnit} (h : tunType x.hdr = 0) : s.unitRx up x = s := by
  rw [State.unitRx, h]
  rfl

theorem foldl_unitRx_idle (up : Bool) (xs : List TunUnit) (s : State) (h : xs.all (fun x => tunType x.hdr == 0) = true) :
    xs.foldl (fun s u => s.unitRx up u) s = s := by
  induction xs with
  | nil => rfl
  | cons x xs ih =>
    rw [List.all_cons, Bool.and_eq_true, beq_iff_eq] at h
    rw [List.foldl_cons, s.unitRx_idle up h.1, ih h.2]

/-- A field with fewer units has the first of them. -/
theorem unitsOf_one_sublist (n : Nat) (ws : List Nat) : ∀ x ∈ unitsOf 1 ws, x ∈ unitsOf (n + 1) ws := by
  match ws with
  | [] => simp [unitsOf]
  | [_] => simp [unitsOf]
  | _ :: _ :: _ => simp [unitsOf]

theorem chainFrameRx_downstream {f : ChainFrame} (h : s.linkState (1 : TwoIx) = 5) (hm : f.missing = false) (hc : f.crcOk = true)
    (hidle : (unitsOf 7 (f.ctl.drop 2)).all (fun x => tunType x.hdr == 0) = true) : chainFrameRx (1 : TwoIx) f s = s.frameIn (1 : TwoIx) f := by
  rw [chainFrameRx_of_up h, if_neg (by rw [hm, hc]; decide), if_pos (by decide)]
  exact foldl_unitRx_idle true _ _ hidle

theorem State.chainWidth_le (s : State) : s.chainWidth ≤ 128 := by
  unfold State.chainWidth
  split <;> decide

/-! ### The control field from upstream (R317 to R319, R327, R328) -/

/-- What a change of domain A's rate leaves as it was. -/
structure RateKept (s u : State) : Prop where
  idLo : u.get SYS_ID0_ID_LO = s.get SYS_ID0_ID_LO
  idHi : u.get SYS_ID1_ID_HI = s.get SYS_ID1_ID_HI
  chain : u.chain = s.chain

theorem RateKept.refl (s : State) : RateKept s s := ⟨rfl, rfl, rfl⟩

theorem RateKept.put (h : RateKept s t) {f : Fld} (hf : f.lo < 64 ∧ 0xE01000 ≤ f.addr) (v : Nat) : RateKept s (t.put f v) := by
  obtain ⟨hlo, haddr⟩ := hf
  refine ⟨?_, ?_, h.chain⟩
  · rw [State.get_put_ne _ _ (key_ne_of_addr_ne (by decide) hlo (by simp only [SYS_ID0_ID_LO]; omega)), h.idLo]
  · rw [State.get_put_ne _ _ (key_ne_of_addr_ne (by decide) hlo (by simp only [SYS_ID1_ID_HI]; omega)), h.idHi]

theorem RateKept.other (h : RateKept s t) (hregs : u.regs = t.regs) (hchain : u.chain = t.chain) : RateKept s u :=
  ⟨by rw [State.get, hregs, ← State.get, h.idLo], by rw [State.get, hregs, ← State.get, h.idHi], hchain.trans h.chain⟩

theorem RateKept.ainOff (h : RateKept s t) (n : Nat) : RateKept s (t.ainOff n) := by
  have h1 := h.put (f := AIN_STAT_STATE n) (by simp only [AIN_STAT_STATE]; omega) 0
  have h2 := h1.put (f := AIN_STAT_SETTLE_LEFT n) (by simp only [AIN_STAT_SETTLE_LEFT]; omega) 0
  have h3 := h2.put (f := AIN_STAT_ZC_WAIT n) (by simp only [AIN_STAT_ZC_WAIT]; omega) 0
  have h4 := h3.put (f := AIN_STAT_OVR n) (by simp only [AIN_STAT_OVR]; omega) 0
  exact h4.other rfl rfl

theorem RateKept.foldl {α : Type} {f : State → α → State} (hf : ∀ t x, RateKept s t → RateKept s (f t x)) (xs : List α) (h : RateKept s t) :
    RateKept s (xs.foldl f t) := by
  induction xs generalizing t with
  | nil => exact h
  | cons x xs ih => exact ih (hf t x h)

theorem State.setRateA_rateKept (s : State) (r : Nat) : RateKept s (s.setRateA r) := by
  unfold State.setRateA
  split
  · exact .refl s
  · refine .foldl (fun t n h => ?_) _ (.put (.put (.put (.put (.refl s) (by decide) r) (by decide) _) (by decide) _) (by decide) _)
    split
    · exact h
    · exact (h.ainOff n).other rfl rfl

theorem State.domcSlew_tunnel (s : State) : s.domcSlew.chain.outbox = s.chain.outbox ∧ s.domcSlew.chain.held = s.chain.held := by
  have hv (v : State) (hc : v.chain = s.chain) (n : Nat) :
      (if n = 0 then v.domcLocked else (v.put CLK_DOMC_STAT_STATE 2).put CLK_DOMC_STAT_SLEW_LEFT n).chain.outbox = s.chain.outbox ∧
      (if n = 0 then v.domcLocked else (v.put CLK_DOMC_STAT_STATE 2).put CLK_DOMC_STAT_SLEW_LEFT n).chain.held = s.chain.held := by
    rw [← hc]
    split
    · unfold State.domcLocked
      rw [(State.post_eventOnly _ _ _ _).chain]
      exact ⟨rfl, rfl⟩
    · exact ⟨rfl, rfl⟩
  unfold State.domcSlew
  extract_lets +onlyGivenNames w v0 off n v
  exact hv v rfl n

/-- The control field from upstream without a start, a load or a unit: the rate, the deal and domain C (R317 to R319, R327). -/
theorem State.ctlDown_quiet (s : State) {ws : List Nat} (hs : bitOf (ws.getD 0 0) 34 = false) (hl : bitOf (ws.getD 0 0) 35 = false)
    (hidle : (unitsOf 7 (ws.drop 2)).all (fun x => tunType x.hdr == 0) = true) :
    let d := (s.setRateA (bits (ws.getD 0 0) 37 1)).ctlDeal (ws.getD 0 0)
    let u := s.ctlDown ws
    Quiet [CLK_DOMC_STAT_STATE, CLK_DOMC_STAT_SLEW_LEFT] d u ∧ u.chain.outbox = d.chain.outbox ∧ u.chain.held = d.chain.held := by
  have hunits (up : Bool) (t : State) (b : Bool) : (unitsOf (if b then 1 else 7) (ws.drop 2)).foldl (fun s u => s.unitRx up u) t = t := by
    refine foldl_unitRx_idle up _ _ ?_
    cases b with
    | false => exact hidle
    | true => exact List.all_eq_true.2 fun x hx => List.all_eq_true.1 hidle x (unitsOf_one_sublist 6 _ x hx)
  dsimp only
  unfold State.ctlDown
  dsimp only
  rw [hunits]
  generalize (s.setRateA (bits (ws.getD 0 0) 37 1)).ctlDeal (ws.getD 0 0) = d
  rw [State.ctlStart, if_pos (by rw [hs]; decide), State.ctlLoad, if_pos (by rw [hl]; decide), State.ctlDomc]
  have hq : Quiet [CLK_DOMC_STAT_STATE, CLK_DOMC_STAT_SLEW_LEFT] d
      ((d.setChain (fun c => { c with sapS := none })).setChain (fun c => { c with loadS := none })) := ((Quiet.refl _ d).setChain _).setChain _
  have ho : ((d.setChain (fun c => { c with sapS := none })).setChain (fun c => { c with loadS := none })).chain.outbox = d.chain.outbox := rfl
  have hh : ((d.setChain (fun c => { c with sapS := none })).setChain (fun c => { c with loadS := none })).chain.held = d.chain.held := rfl
  generalize (d.setChain (fun c => { c with sapS := none })).setChain (fun c => { c with loadS := none }) = e at *
  split
  · exact ⟨hq.trans e.domcSlew_shown.1, e.domcSlew_tunnel.1.trans ho, e.domcSlew_tunnel.2.trans hh⟩
  · exact ⟨hq, ho, hh⟩

theorem State.txPlain_two (s : State) (x y : TunUnit) :
    let u := (s.txPlain x).txPlain y
    (∀ f : Fld, u.get f = s.get f) ∧ u.chain.held = s.chain.held ∧ u.chain.outbox = s.chain.outbox ++ [x] ++ [y] := ⟨fun _ => rfl, rfl, rfl⟩

theorem State.dealTake_full (s : State) (seq : Nat) (force : Bool) :
    (s.dealTake 15 seq force).get CHN_STAT_ADDR_VALID = 0 ∧ (s.dealTake 15 seq force).chain.outbox = s.chain.outbox :=
  ⟨State.get_put_same _ _ _, rfl⟩

theorem State.dealTake_new (s : State) {a : Nat} (ha : a < 15) (hheld : s.chain.held = none) (seq : Nat) (force : Bool) :
    let u := s.dealTake a seq force
    u.get CHN_STAT_ADDR = a + 1 ∧ u.get CHN_STAT_ADDR_VALID = 1 ∧ u.chain.held = some (a + 1) ∧
      u.chain.outbox.map TunUnit.data = s.chain.outbox.map TunUnit.data ++ [[s.identity % 2 ^ 64], [s.identity / 2 ^ 64]] := by
  dsimp only
  unfold State.dealTake
  extract_lets +onlyGivenNames e
  have hheld' : e.chain.held = none := hheld
  have hout : e.chain.outbox = s.chain.outbox := rfl
  have hid : e.identity = s.identity := rfl
  clear_value e
  rw [if_neg (by omega), hheld']
  dsimp only
  rw [if_neg (by decide)]
  have haddr : ((e.put CHN_STAT_ADDR (a + 1)).put CHN_STAT_ADDR_VALID 1).get CHN_STAT_ADDR = a + 1 := by
    rw [State.get_put_ne _ _ (by decide)]
    exact State.get_put_of_lt e (by simp only [CHN_STAT_ADDR]; omega)
  have hvalid : ((e.put CHN_STAT_ADDR (a + 1)).put CHN_STAT_ADDR_VALID 1).get CHN_STAT_ADDR_VALID = 1 := State.get_put_same _ _ _
  have hid' : ((e.put CHN_STAT_ADDR (a + 1)).put CHN_STAT_ADDR_VALID 1).identity = s.identity := by
    rw [← hid, State.identity, State.get_put_ne _ _ (by decide), State.get_put_ne _ _ (by decide), State.get_put_ne _ _ (by decide),
      State.get_put_ne _ _ (by decide), State.identity]
  have hout' : ((e.put CHN_STAT_ADDR (a + 1)).put CHN_STAT_ADDR_VALID 1).chain.outbox = s.chain.outbox := hout
  generalize (e.put CHN_STAT_ADDR (a + 1)).put CHN_STAT_ADDR_VALID 1 = g at *
  have hheld : (g.setChain (fun c => { c with held := some (a + 1) })).chain.held = some (a + 1) := rfl
  have haddr : (g.setChain (fun c => { c with held := some (a + 1) })).get CHN_STAT_ADDR = a + 1 := haddr
  have hvalid : (g.setChain (fun c => { c with held := some (a + 1) })).get CHN_STAT_ADDR_VALID = 1 := hvalid
  have hid' : (g.setChain (fun c => { c with held := some (a + 1) })).identity = s.identity := hid'
  have hout' : (g.setChain (fun c => { c with held := some (a + 1) })).chain.outbox = s.chain.outbox := hout'
  generalize g.setChain (fun c => { c with held := some (a + 1) }) = h at *
  obtain ⟨h1, h2, h3⟩ := h.txPlain_two
    { hdr := tunHdr (a + 1) 8 (a + 1 + 2 ^ 4 * h.get CHN_STAT_POS + 2 ^ 8 * b2n (h.linkState 1 != 5) + 2 ^ 9 * seq) 0 0 0 0
      data := [h.identity % 2 ^ 64] }
    { hdr := tunHdr (a + 1) 8 (a + 1 + 2 ^ 4 * h.get CHN_STAT_POS + 2 ^ 8 * b2n (h.linkState 1 != 5) + 2 ^ 9 * seq) 0 1 0 0
      data := [h.identity / 2 ^ 64] }
  refine ⟨(h1 _).trans haddr, (h1 _).trans hvalid, h2.trans hheld, (congrArg (List.map TunUnit.data) h3).trans ?_⟩
  rw [hout', hid', List.map_append, List.map_append, List.append_assoc]
  rfl

/-- A satellite's control field from upstream with no start, load or unit, in a deal that it has not answered (R318, R327). -/
theorem chainFrameRx_deals {f : ChainFrame} (h : s.linkState (0 : TwoIx) = 5) (hm : f.missing = false) (hc : f.crcOk = true)
    (hh : s.isHead = false) (hidle : (unitsOf 7 (f.ctl.drop 2)).all (fun x => tunType x.hdr == 0) = true)
    (hdeal : bitOf (f.ctl.getD 0 0) 32 = true) (hseen : s.chain.seenDeal ≠ some (bits (f.ctl.getD 0 0) 45 3))
    (hs : bitOf (f.ctl.getD 0 0) 34 = false) (hl : bitOf (f.ctl.getD 0 0) 35 = false) :
    ∃ e : State, (e.chain.held = s.chain.held ∧ e.chain.outbox = s.chain.outbox ∧ e.identity = s.identity) ∧
      let d := e.dealTake (bits (f.ctl.getD 0 0) 41 4) (bits (f.ctl.getD 0 0) 45 3) (bitOf (f.ctl.getD 0 0) 33)
      let u := chainFrameRx (0 : TwoIx) f s
      Quiet [CLK_DOMC_STAT_STATE, CLK_DOMC_STAT_SLEW_LEFT] d u ∧ u.chain.outbox = d.chain.outbox ∧ u.chain.held = d.chain.held := by
  obtain ⟨e, he, -⟩ := s.frameIn_eq (0 : TwoIx) f
  obtain ⟨hchain, -, hhead, hq⟩ := s.frameErrors_shown (0 : TwoIx) f
  have hid : (s.frameIn (0 : TwoIx) f).identity = s.identity := by
    have hlo : (s.frameIn (0 : TwoIx) f).get SYS_ID0_ID_LO = s.get SYS_ID0_ID_LO := by
      rw [he]
      exact hq.get (by decide) (by decide)
    have hhi : (s.frameIn (0 : TwoIx) f).get SYS_ID1_ID_HI = s.get SYS_ID1_ID_HI := by
      rw [he]
      exact hq.get (by decide) (by decide)
    rw [State.identity, hlo, hhi, State.identity]
  have hchain' : (s.frameIn (0 : TwoIx) f).chain = s.chain.counted (0 : TwoIx) f := by
    rw [he]
    exact hchain
  have hhead' : (s.frameIn (0 : TwoIx) f).isHead = false := by
    rw [he]
    exact hhead.trans hh
  rw [chainFrameRx_of_up h, if_neg (by rw [hm, hc]; decide), if_neg (by decide), if_neg (by rw [hhead']; decide)]
  generalize s.frameIn (0 : TwoIx) f = t at *
  obtain ⟨k1, k2, k3⟩ := t.setRateA_rateKept (bits (f.ctl.getD 0 0) 37 1)
  have hdown := t.ctlDown_quiet hs hl hidle
  generalize t.setRateA (bits (f.ctl.getD 0 0) 37 1) = r at *
  have hr : r.chain = s.chain.counted (0 : TwoIx) f := k3.trans hchain'
  have hseen' : r.chain.seenDeal ≠ some (bits (f.ctl.getD 0 0) 45 3) := by
    rw [hr]
    exact hseen
  rw [State.ctlDeal, if_neg (by rw [hdeal]; decide), if_neg hseen'] at hdown
  refine ⟨r, ⟨?_, ?_, ?_⟩, hdown⟩
  · rw [hr]
    rfl
  · rw [hr]
    rfl
  · rw [← hid, State.identity, k1, k2, State.identity]

theorem chainFrameRx_full {f : ChainFrame} (h : s.linkState (0 : TwoIx) = 5) (hm : f.missing = false) (hc : f.crcOk = true)
    (hh : s.isHead = false) (hidle : (unitsOf 7 (f.ctl.drop 2)).all (fun x => tunType x.hdr == 0) = true)
    (hdeal : bitOf (f.ctl.getD 0 0) 32 = true) (hseen : s.chain.seenDeal ≠ some (bits (f.ctl.getD 0 0) 45 3))
    (ha : bits (f.ctl.getD 0 0) 41 4 = 15) (hs : bitOf (f.ctl.getD 0 0) 34 = false) (hl : bitOf (f.ctl.getD 0 0) 35 = false) :
    let u := chainFrameRx (0 : TwoIx) f s
    u.get CHN_STAT_ADDR_VALID = 0 ∧ u.chain.outbox = s.chain.outbox := by
  obtain ⟨e, ⟨-, ho, -⟩, hq, hout, -⟩ := chainFrameRx_deals h hm hc hh hidle hdeal hseen hs hl
  obtain ⟨h1, h2⟩ := e.dealTake_full (bits (f.ctl.getD 0 0) 45 3) (bitOf (f.ctl.getD 0 0) 33)
  rw [ha] at hq hout
  exact ⟨(hq.get (by decide) (by decide)).trans h1, (hout.trans h2).trans ho⟩

theorem chainFrameRx_dealt {f : ChainFrame} (h : s.linkState (0 : TwoIx) = 5) (hm : f.missing = false) (hc : f.crcOk = true)
    (hh : s.isHead = false) (hidle : (unitsOf 7 (f.ctl.drop 2)).all (fun x => tunType x.hdr == 0) = true)
    (hdeal : bitOf (f.ctl.getD 0 0) 32 = true) (hseen : s.chain.seenDeal ≠ some (bits (f.ctl.getD 0 0) 45 3))
    (ha : bits (f.ctl.getD 0 0) 41 4 < 15) (hheld : s.chain.held = none) (hs : bitOf (f.ctl.getD 0 0) 34 = false)
    (hl : bitOf (f.ctl.getD 0 0) 35 = false) :
    let u := chainFrameRx (0 : TwoIx) f s
    u.get CHN_STAT_ADDR = bits (f.ctl.getD 0 0) 41 4 + 1 ∧ u.get CHN_STAT_ADDR_VALID = 1 ∧
      u.chain.held = some (bits (f.ctl.getD 0 0) 41 4 + 1) ∧
      u.chain.outbox.map TunUnit.data = s.chain.outbox.map TunUnit.data ++ [[s.identity % 2 ^ 64], [s.identity / 2 ^ 64]] := by
  obtain ⟨e, ⟨hk, ho, hid⟩, hq, hout, hheld'⟩ := chainFrameRx_deals h hm hc hh hidle hdeal hseen hs hl
  obtain ⟨h1, h2, h3, h4⟩ := e.dealTake_new ha (hk.trans hheld) (bits (f.ctl.getD 0 0) 45 3) (bitOf (f.ctl.getD 0 0) 33)
  rw [hid, ho] at h4
  exact ⟨(hq.get (by decide) (by decide)).trans h1, (hq.get (by decide) (by decide)).trans h2, hheld'.trans h3, by rw [hout]; exact h4⟩

/-! ### The head's deal (R327 to R329) -/

theorem tunHdr_addr {unit type addr ring word nw status : Nat} (ht : type < 16) (ha : addr < 2 ^ 24) (hw : word < 8) :
    tunType (tunHdr unit type addr ring word nw status) = type ∧ tunAddr (tunHdr unit type addr ring word nw status) = addr ∧
      tunWord (tunHdr unit type addr ring word nw status) = word := by
  simp only [tunHdr, tunType, tunAddr, tunWord, bits, Nat.shiftRight_eq_div_pow]
  omega

theorem dealAnswer_first {a : Nat} (v : Word) (hh : s.isHead = true) (h0 : 0 < a) (h16 : a < 16) (hd : s.chain.dealing = true)
    (hseq : s.chain.dealSeq < 8) :
    let u := s.dealAnswer { hdr := tunHdr a 8 (a + 2 ^ 9 * s.chain.dealSeq) 0 0 0 0, data := [v.toNat] }
    (mapFind u.chain.rsps a).map DealRsp.idLo = some v.toNat ∧ Quiet [] s u := by
  obtain ⟨-, haddr, hword⟩ := tunHdr_addr (unit := a) (type := 8) (addr := a + 2 ^ 9 * s.chain.dealSeq) (ring := 0) (word := 0) (nw := 0)
    (status := 0) (by decide) (by omega) (by decide)
  have hnum : bits (a + 2 ^ 9 * s.chain.dealSeq) 9 3 = s.chain.dealSeq := by
    simp only [bits, Nat.shiftRight_eq_div_pow]
    omega
  have hunit : (a + 2 ^ 9 * s.chain.dealSeq) % 16 = a := by omega
  have hgo : ¬ (¬ s.isHead = true ∨ ¬ s.chain.dealing = true ∨ s.chain.dealSeq ≠ s.chain.dealSeq ∨ a = 0 ∨ 2 ≤ 0) := by
    rw [hh, hd]
    simp only [not_true_eq_false, ne_eq, false_or]
    omega
  dsimp only
  unfold State.dealAnswer
  dsimp only
  rw [haddr, hword, hnum, hunit, if_neg hgo]
  refine ⟨?_, (Quiet.refl _ s).setChain _⟩
  change (mapFind (mapInsert s.chain.rsps a _) a).map DealRsp.idLo = some v.toNat
  rw [mapFind_insert_same, Option.map_some]
  exact congrArg some (Nat.mod_eq_of_lt v.isLt)

/-- The fields of the roster entry of address `a` that a deal's answer fills (R329). -/
def rosterFlds (a : Nat) : List Fld :=
  [CHN_ROSTER_ID0_ID_LO a, CHN_ROSTER_ID1_ID_HI a, CHN_ROSTER_STAT_POS a, CHN_ROSTER_STAT_EVER a, CHN_ROSTER_STAT_STICKY a,
   CHN_ROSTER_STAT_CHANGED a, CHN_SUM_ROSTER_CHG]

/-- The entry of address `a` once an answer has filled it. -/
def State.rosterFill (s : State) (a : Nat) (r : DealRsp) (kept : Bool) : State :=
  ((((s.put (CHN_ROSTER_ID0_ID_LO a) r.idLo).put (CHN_ROSTER_ID1_ID_HI a) r.idHi).put (CHN_ROSTER_STAT_POS a) r.pos).put
    (CHN_ROSTER_STAT_EVER a) 1).put (CHN_ROSTER_STAT_STICKY a) (b2n kept)

theorem rosterFlds_apart (a : Nat) :
    Fld.key (CHN_ROSTER_ID0_ID_LO a) ≠ Fld.key (CHN_ROSTER_ID1_ID_HI a) ∧ Fld.key (CHN_ROSTER_ID0_ID_LO a) ≠ Fld.key (CHN_ROSTER_STAT_POS a) ∧
      Fld.key (CHN_ROSTER_ID0_ID_LO a) ≠ Fld.key (CHN_ROSTER_STAT_EVER a) ∧ Fld.key (CHN_ROSTER_ID0_ID_LO a) ≠ Fld.key (CHN_ROSTER_STAT_STICKY a) ∧
      Fld.key (CHN_ROSTER_ID1_ID_HI a) ≠ Fld.key (CHN_ROSTER_STAT_POS a) ∧ Fld.key (CHN_ROSTER_ID1_ID_HI a) ≠ Fld.key (CHN_ROSTER_STAT_EVER a) ∧
      Fld.key (CHN_ROSTER_ID1_ID_HI a) ≠ Fld.key (CHN_ROSTER_STAT_STICKY a) ∧ Fld.key (CHN_ROSTER_STAT_POS a) ≠ Fld.key (CHN_ROSTER_STAT_EVER a) ∧
      Fld.key (CHN_ROSTER_STAT_POS a) ≠ Fld.key (CHN_ROSTER_STAT_STICKY a) ∧ Fld.key (CHN_ROSTER_STAT_EVER a) ≠ Fld.key (CHN_ROSTER_STAT_STICKY a) := by
  simp only [Fld.key, CHN_ROSTER_ID0_ID_LO, CHN_ROSTER_ID1_ID_HI, CHN_ROSTER_STAT_POS, CHN_ROSTER_STAT_EVER, CHN_ROSTER_STAT_STICKY]
  omega

theorem State.rosterFill_shown (s : State) (a : Nat) {r : DealRsp} (kept : Bool) (hpos : r.pos < 16) (hlo : r.idLo < 2 ^ 64) (hhi : r.idHi < 2 ^ 64) :
    let u := s.rosterFill a r kept
    u.get (CHN_ROSTER_ID0_ID_LO a) = r.idLo ∧ u.get (CHN_ROSTER_ID1_ID_HI a) = r.idHi ∧ u.get (CHN_ROSTER_STAT_POS a) = r.pos ∧
      u.get (CHN_ROSTER_STAT_EVER a) = 1 ∧ Quiet (rosterFlds a) s u := by
  obtain ⟨h01, h02, h03, h04, h12, h13, h14, h23, h24, h34⟩ := rosterFlds_apart a
  dsimp only
  unfold State.rosterFill
  refine ⟨?_, ?_, ?_, ?_, ?_⟩
  · rw [State.get_put_ne _ _ h04, State.get_put_ne _ _ h03, State.get_put_ne _ _ h02, State.get_put_ne _ _ h01]
    exact State.get_put_of_lt s hlo
  · rw [State.get_put_ne _ _ h14, State.get_put_ne _ _ h13, State.get_put_ne _ _ h12]
    exact State.get_put_of_lt _ hhi
  · rw [State.get_put_ne _ _ h24, State.get_put_ne _ _ h23]
    exact State.get_put_of_lt _ hpos
  · rw [State.get_put_ne _ _ h34, State.get_put_same]
    rfl
  · exact Quiet.put (Quiet.put (Quiet.put (Quiet.put (Quiet.put (Quiet.refl _ s) (by simp [fldIn, rosterFlds]) _) (by simp [fldIn, rosterFlds]) _)
      (by simp [fldIn, rosterFlds]) _) (by simp [fldIn, rosterFlds]) _) (by simp [fldIn, rosterFlds]) _

/-- An entry that shows another unit or another place is reported besides (R329). -/
theorem State.rosterPut_eq (s : State) (a : Nat) (r : DealRsp) (kept : Bool) :
    Quiet [CHN_ROSTER_STAT_CHANGED a, CHN_SUM_ROSTER_CHG] (s.rosterFill a r kept) (s.rosterPut a r kept) := by
  unfold State.rosterPut
  extract_lets +onlyGivenNames moved old t v
  change Quiet _ v _
  clear_value v
  exact .ite (Quiet.post (Quiet.put (Quiet.put (.refl _ v) (by simp [fldIn]) 1) (by simp [fldIn]) 1) _ _ _) (.refl _ v)

theorem State.rosterPut_shown (s : State) (a : Nat) {r : DealRsp} (kept : Bool) (hpos : r.pos < 16) (hlo : r.idLo < 2 ^ 64)
    (hhi : r.idHi < 2 ^ 64) :
    let u := s.rosterPut a r kept
    u.get (CHN_ROSTER_ID0_ID_LO a) = r.idLo ∧ u.get (CHN_ROSTER_ID1_ID_HI a) = r.idHi ∧ u.get (CHN_ROSTER_STAT_POS a) = r.pos ∧
      u.get (CHN_ROSTER_STAT_EVER a) = 1 ∧ SameBytes s u := by
  obtain ⟨h1, h2, h3, h4, hq⟩ := s.rosterFill_shown a kept hpos hlo hhi
  have hq' := s.rosterPut_eq a r kept
  have keep {f : Fld} (hf : f.lo < 64 ∧ f.addr / 4096 ≠ 0xE0E ∧ f.addr / 4096 ≠ 0xE10) (h1 : Fld.key f ≠ Fld.key (CHN_ROSTER_STAT_CHANGED a))
      (h2 : Fld.key f ≠ Fld.key CHN_SUM_ROSTER_CHG) : (s.rosterPut a r kept).get f = (s.rosterFill a r kept).get f :=
    hq'.get (by simp [fldIn, h1.symm, h2.symm]) (fldIn_eventFlds_of_page hf)
  refine ⟨?_, ?_, ?_, ?_, fun b => ?_⟩
  · rw [keep, h1]
    all_goals
      simp only [Fld.key, CHN_ROSTER_ID0_ID_LO, CHN_ROSTER_STAT_CHANGED, CHN_SUM_ROSTER_CHG]
      omega
  · rw [keep, h2]
    all_goals
      simp only [Fld.key, CHN_ROSTER_ID1_ID_HI, CHN_ROSTER_STAT_CHANGED, CHN_SUM_ROSTER_CHG]
      omega
  · rw [keep, h3]
    all_goals
      simp only [Fld.key, CHN_ROSTER_STAT_POS, CHN_ROSTER_STAT_CHANGED, CHN_SUM_ROSTER_CHG]
      omega
  · rw [keep, h4]
    all_goals
      simp only [Fld.key, CHN_ROSTER_STAT_EVER, CHN_ROSTER_STAT_CHANGED, CHN_SUM_ROSTER_CHG]
      omega
  · exact (hq.trans (l := rosterFlds a) (hq'.of_subset (by simp [rosterFlds]))).1 b

/-- What the head shows of a deal that gave the units of mask `present` their addresses (R327, R329). -/
def State.dealShown (s : State) (present high : Nat) : State :=
  let s := (List.range 16).foldl (fun s u => s.put (CHN_ROSTER_STAT_PRESENT u) (b2n (bitOf present u))) s
  let s := ((s.put CHN_STAT_PRESENT present).put CHN_STAT_HIGHEST high).put CHN_STAT_DEAL_STATE 2
  (s.setChain (fun c => { c with dealing := false, rsps := [], lastRpt := [] })).put CHN_SUM_DEAL_DONE 1

theorem State.dealEnd_eq {xs : SMap DealRsp} (h : s.chain.rsps.filter (fun x => x.2.got == 3) = xs) :
    s.dealEnd = (((xs.foldl (fun s x => s.rosterPut x.1 x.2 (x.1 != addrAt xs (x.2.pos - 1) + 1)) s).dealShown
      (maskOf 16 (fun u => (mapFind xs u).isSome)) ((xs.getLast?.map (fun x => x.1)).getD 0)).post 0x0D05 sevInfo
        (pack [p16 ((xs.getLast?.map (fun x => x.1)).getD 0), p16 (maskOf 16 (fun u => (mapFind xs u).isSome))])).dealFull xs := by
  subst h
  rfl

theorem foldl_put_bytes {f : Nat → Fld} (g : Nat → Nat) (xs : List Nat) (s : State) : SameBytes s (xs.foldl (fun s k => s.put (f k) (g k)) s) := by
  induction xs generalizing s with
  | nil => exact fun _ => ⟨rfl, rfl, rfl⟩
  | cons x xs ih => exact ih (s.put (f x) (g x))

/-- A field that the end of a deal does not write. -/
def OffDeal (f : Fld) : Prop :=
  (∀ v : Nat, Fld.key f ≠ Fld.key (CHN_ROSTER_STAT_PRESENT v)) ∧ Fld.key f ≠ Fld.key CHN_STAT_PRESENT ∧ Fld.key f ≠ Fld.key CHN_STAT_HIGHEST ∧
    Fld.key f ≠ Fld.key CHN_STAT_DEAL_STATE ∧ Fld.key f ≠ Fld.key CHN_SUM_DEAL_DONE

theorem offDeal_roster (a : Nat) : OffDeal (CHN_ROSTER_ID0_ID_LO a) ∧ OffDeal (CHN_ROSTER_ID1_ID_HI a) ∧ OffDeal (CHN_ROSTER_STAT_POS a) ∧
    OffDeal (CHN_ROSTER_STAT_EVER a) := by
  refine ⟨⟨fun v => ?_, ?_, ?_, ?_, ?_⟩, ⟨fun v => ?_, ?_, ?_, ?_, ?_⟩, ⟨fun v => ?_, ?_, ?_, ?_, ?_⟩, ⟨fun v => ?_, ?_, ?_, ?_, ?_⟩⟩
  all_goals
    simp only [Fld.key, CHN_ROSTER_ID0_ID_LO, CHN_ROSTER_ID1_ID_HI, CHN_ROSTER_STAT_POS, CHN_ROSTER_STAT_EVER, CHN_ROSTER_STAT_PRESENT,
      CHN_STAT_PRESENT, CHN_STAT_HIGHEST, CHN_STAT_DEAL_STATE, CHN_SUM_DEAL_DONE]
    omega

theorem State.dealShown_shown (s : State) {present high : Nat} (hp : present < 2 ^ 16) (hh : high < 16) :
    let u := s.dealShown present high
    u.get CHN_STAT_PRESENT = present ∧ u.get CHN_STAT_HIGHEST = high ∧ u.get CHN_STAT_DEAL_STATE = 2 ∧ u.get CHN_SUM_DEAL_DONE = 1 ∧
      u.chain.dealing = false ∧ (∀ v < 16, u.get (CHN_ROSTER_STAT_PRESENT v) = b2n (bitOf present v)) ∧ (∀ f, OffDeal f → u.get f = s.get f) ∧
      SameBytes s u := by
  have hroster (v : Nat) (hv : v < 16) : ((List.range 16).foldl (fun s u => s.put (CHN_ROSTER_STAT_PRESENT u) (b2n (bitOf present u))) s).get
      (CHN_ROSTER_STAT_PRESENT v) = b2n (bitOf present v) := by
    rw [foldl_put_get (f := CHN_ROSTER_STAT_PRESENT) (fun u => b2n (bitOf present u)) _
      (fun i _ j _ h => by simp only [Fld.key, CHN_ROSTER_STAT_PRESENT] at h; omega) List.nodup_range s (List.mem_range.2 hv)]
    cases bitOf present v <;> rfl
  have hoff (f : Fld) (h : ∀ v : Nat, Fld.key f ≠ Fld.key (CHN_ROSTER_STAT_PRESENT v)) :
      ((List.range 16).foldl (fun s u => s.put (CHN_ROSTER_STAT_PRESENT u) (b2n (bitOf present u))) s).get f = s.get f :=
    foldl_put_get_ne (f := CHN_ROSTER_STAT_PRESENT) (fun u => b2n (bitOf present u)) _ (fun i _ => h i) s
  have hbytes : SameBytes s ((List.range 16).foldl (fun s u => s.put (CHN_ROSTER_STAT_PRESENT u) (b2n (bitOf present u))) s) :=
    foldl_put_bytes (f := CHN_ROSTER_STAT_PRESENT) (fun u => b2n (bitOf present u)) _ s
  dsimp only
  unfold State.dealShown
  dsimp only
  generalize (List.range 16).foldl (fun s u => s.put (CHN_ROSTER_STAT_PRESENT u) (b2n (bitOf present u))) s = t at *
  refine ⟨?_, ?_, ?_, State.get_put_same _ _ _, rfl, fun v hv => ?_, fun f ⟨h0, h1, h2, h3, h4⟩ => ?_, hbytes⟩
  · rw [State.get_put_ne _ _ (by decide), State.get_setChain, State.get_put_ne _ _ (by decide), State.get_put_ne _ _ (by decide)]
    exact State.get_put_of_lt t hp
  · rw [State.get_put_ne _ _ (by decide), State.get_setChain, State.get_put_ne _ _ (by decide)]
    exact State.get_put_of_lt _ hh
  · rw [State.get_put_ne _ _ (by decide), State.get_setChain, State.get_put_same]
    rfl
  · rw [State.get_put_ne, State.get_setChain, State.get_put_ne, State.get_put_ne, State.get_put_ne, hroster v hv]
    all_goals
      simp only [Fld.key, CHN_ROSTER_STAT_PRESENT, CHN_STAT_PRESENT, CHN_STAT_HIGHEST, CHN_STAT_DEAL_STATE, CHN_SUM_DEAL_DONE]
      omega
  · rw [State.get_put_ne _ _ h4, State.get_setChain, State.get_put_ne _ _ h3, State.get_put_ne _ _ h2, State.get_put_ne _ _ h1, hoff f h0]

/-- The end of a deal of whose answers none came from a unit behind address 15 (R328). -/
theorem State.dealEnd_shown (s : State) {xs : SMap DealRsp} (h : s.chain.rsps.filter (fun x => x.2.got == 3) = xs)
    (hfull : ∀ t : State, t.dealFull xs = t) {t : State}
    (ht : xs.foldl (fun s x => s.rosterPut x.1 x.2 (x.1 != addrAt xs (x.2.pos - 1) + 1)) s = t) {present high : Nat}
    (hp : maskOf 16 (fun u => (mapFind xs u).isSome) = present) (hp16 : present < 2 ^ 16)
    (hh : (xs.getLast?.map (fun x => x.1)).getD 0 = high) (hh16 : high < 16) (hb : SameBytes s t) :
    let u := s.dealEnd
    u.get CHN_STAT_PRESENT = present ∧ u.get CHN_STAT_HIGHEST = high ∧ u.get CHN_STAT_DEAL_STATE = 2 ∧ u.get CHN_SUM_DEAL_DONE = 1 ∧
      0x0D05 ∈ u.occ ∧ u.chain.dealing = false ∧ (∀ v < 16, u.get (CHN_ROSTER_STAT_PRESENT v) = b2n (bitOf present v)) ∧
      (∀ f, OffDeal f → fldIn eventFlds f = false → u.get f = t.get f) ∧ SameBytes s u := by
  obtain ⟨h1, h2, h3, h4, h5, h6, h7, h8⟩ := t.dealShown_shown hp16 hh16
  dsimp only
  rw [s.dealEnd_eq h, ht, hp, hh, hfull]
  generalize t.dealShown present high = v at *
  refine ⟨?_, ?_, ?_, ?_, State.mem_occ_post _ _ _ (by decide), ?_, fun w hw => ?_, fun f hf he => ?_, fun b => ?_⟩
  · rw [State.get_post_chain _ (by decide), h1]
  · rw [State.get_post_chain _ (by decide), h2]
  · rw [State.get_post_chain _ (by decide), h3]
  · rw [State.get_post_chain _ (by decide), h4]
  · rw [(v.post_eventOnly _ _ _).chain]
    exact h5
  · rw [State.get_post (fldIn_eventFlds_of_page (by simp only [CHN_ROSTER_STAT_PRESENT]; omega)), h6 w hw]
  · rw [State.get_post he, h7 f hf]
  · exact (hb.trans (h8.trans ((Quiet.refl [] v).post 0x0D05 sevInfo (pack [p16 high, p16 present])).1)) b

theorem chnDealDone_late (hh : s.isHead = true) (hd : s.chain.dealing = true) (hr : s.chain.rsps = []) (hf : 34 ≤ s.frameAgo s.chain.dealFrame) :
    let u := chnDealDone s
    u.get CHN_STAT_PRESENT = 0 ∧ u.get CHN_STAT_HIGHEST = 0 ∧ u.get CHN_STAT_DEAL_STATE = 2 ∧ u.get CHN_SUM_DEAL_DONE = 1 ∧
      0x0D05 ∈ u.occ ∧ u.chain.dealing = false ∧ (∀ v : UnitIx, u.get (CHN_ROSTER_STAT_PRESENT v) = 0) ∧ SameBytes s u := by
  have hl : s.chain.rsps.filter (fun x => x.2.got == 3) = [] := by rw [hr]; rfl
  obtain ⟨h1, h2, h3, h4, h5, h6, h7, -, h8⟩ := s.dealEnd_shown hl (fun _ => rfl) (t := s) rfl (present := 0) (by decide) (by decide)
    (high := 0) rfl (by decide) (fun _ => ⟨rfl, rfl, rfl⟩)
  dsimp only
  rw [chnDealDone, if_pos ⟨hh, hd, .inr hf⟩]
  refine ⟨h1, h2, h3, h4, h5, h6, fun v => (h7 v v.isLt).trans ?_, h8⟩
  rw [bitOf_eq_testBit, Nat.zero_testBit]
  rfl

/-- The units dealt where a single one has answered. -/
theorem maskOf_single {a : Nat} (ha : a < 16) (x : DealRsp) : maskOf 16 (fun u => (mapFind [(a, x)] u).isSome) = 2 ^ a := by
  refine Nat.eq_of_testBit_eq fun i => ?_
  rw [Nat.testBit_two_pow]
  by_cases hi : i < 16
  · rw [← bitOf_eq_testBit, bitOf_maskOf _ hi, mapFind]
    by_cases hia : a = i
    · simp [hia]
    · simp [hia, Ne.symm hia, mapFind]
  · rw [Nat.testBit_lt_two_pow (Nat.lt_of_lt_of_le (maskOf_lt 16 _) (Nat.pow_le_pow_right (by decide) (Nat.le_of_not_lt hi)))]
    exact (decide_eq_false (by omega)).symm

theorem chnDealDone_tail {a : Nat} {x : DealRsp} (hh : s.isHead = true) (ha : a < 16) (hd : s.chain.dealing = true)
    (hr : s.chain.rsps = [(a, x)]) (hgot : x.got = 3) (htail : x.tail = true) (hpos : x.pos < 16) (hlo : x.idLo < 2 ^ 64) (hhi : x.idHi < 2 ^ 64) :
    let u := chnDealDone s
    u.get CHN_STAT_PRESENT = 2 ^ a ∧ u.get CHN_STAT_HIGHEST = a ∧ u.get CHN_STAT_DEAL_STATE = 2 ∧ 0x0D05 ∈ u.occ ∧
      u.get (CHN_ROSTER_ID0_ID_LO a) = x.idLo ∧ u.get (CHN_ROSTER_ID1_ID_HI a) = x.idHi ∧
      u.get (CHN_ROSTER_STAT_POS a) = x.pos ∧ u.get (CHN_ROSTER_STAT_EVER a) = 1 ∧ u.get (CHN_ROSTER_STAT_PRESENT a) = 1 ∧
      SameBytes s u := by
  have hl : s.chain.rsps.filter (fun y => y.2.got == 3) = [(a, x)] := by
    rw [hr]
    exact List.filter_cons_of_pos (beq_iff_eq.2 hgot)
  have hfull (t : State) : t.dealFull [(a, x)] = t := by
    rw [State.dealFull, mapFind]
    by_cases h15 : 15 = a
    · rw [if_pos h15]
      exact if_pos htail
    · rw [if_neg h15]
      rfl
  obtain ⟨o0, o1, o2, o3⟩ := offDeal_roster a
  obtain ⟨r1, r2, r3, r4, r5⟩ := s.rosterPut_shown a (r := x) (a != addrAt [(a, x)] (x.pos - 1) + 1) hpos hlo hhi
  obtain ⟨h1, h2, h3, -, h5, -, h7, h8, h9⟩ := s.dealEnd_shown hl hfull (t := s.rosterPut a x (a != addrAt [(a, x)] (x.pos - 1) + 1)) rfl
    (present := 2 ^ a) (maskOf_single ha x) (Nat.pow_lt_pow_right (by decide) ha) (high := a) rfl ha r5
  dsimp only
  rw [chnDealDone, if_pos ⟨hh, hd, .inl (by rw [hr]; simp [hgot, htail])⟩]
  refine ⟨h1, h2, h3, h5, ?_, ?_, ?_, ?_, ?_, h9⟩
  · rw [h8 _ o0 (fldIn_eventFlds_of_page (by simp only [CHN_ROSTER_ID0_ID_LO]; omega)), r1]
  · rw [h8 _ o1 (fldIn_eventFlds_of_page (by simp only [CHN_ROSTER_ID1_ID_HI]; omega)), r2]
  · rw [h8 _ o2 (fldIn_eventFlds_of_page (by simp only [CHN_ROSTER_STAT_POS]; omega)), r3]
  · rw [h8 _ o3 (fldIn_eventFlds_of_page (by simp only [CHN_ROSTER_STAT_EVER]; omega)), r4]
  · rw [h7 a ha, bitOf_eq_testBit, Nat.testBit_two_pow_self]
    rfl

/-! ### Units attach and detach (R330, R331) -/

theorem State.taken_acks (s : State) (k : Nat) (x : TunUnit) : Acks k x (s.taken k x) := by
  have hseq : tunSeq x.hdr < 65536 := Nat.mod_lt _ (by decide)
  have hrx : mapGet 0 (mapSet 0 s.chain.rxSeq k ((tunSeq x.hdr + 1) % 65536)) k = (tunSeq x.hdr + 1) % 65536 := mapGet_set_same _ _ _ _
  refine ⟨hrx, ?_⟩
  change ((s.chain.outbox ++ [_]).getLast?).map _ = _
  rw [List.getLast?_concat, Option.map_some]
  refine congrArg some (Prod.ext ?_ (congrArg (fun n => [n]) ?_))
  · simp only [tunHdr, tunType, bits, Nat.shiftRight_eq_div_pow]
    omega
  · change (mapGet 0 (mapSet 0 s.chain.rxSeq k ((tunSeq x.hdr + 1) % 65536)) k + 65535) % 65536 + 2 ^ 16 * b2n false = _
    rw [hrx]
    rw [show b2n false = 0 from rfl]
    omega

theorem Quiet.taken (h : Quiet l s t) (k : Nat) (x : TunUnit) : Quiet l s (t.taken k x) := (h.setChain _).setChain _

theorem topoAttach_taken {x : TunUnit} (hh : s.isHead = true) (ho : s.inOrder (tunUnit x.hdr) x = true) :
    let u := unitAttach x s
    u.get CHN_SUM_ATTACH = 1 ∧ 0x0D03 ∈ u.occ ∧ (s.on CHN_CTL_AUTO_DEAL = true → u.chain.dealReq = some false) ∧
      Acks (tunUnit x.hdr) x u ∧ Quiet [CHN_SUM_ATTACH] s u := by
  obtain ⟨h1, h2, -, h4, -, h6⟩ := s.attach_shown (tunUnit x.hdr) hh
  dsimp only
  rw [unitAttach, State.upUnit, if_neg (not_not.2 hh), if_pos ho]
  generalize s.attach (tunUnit x.hdr) = t at *
  exact ⟨h1, h2, h4, t.taken_acks _ x, h6.taken _ x⟩

theorem topoDetach_taken {x : TunUnit} (hh : s.isHead = true) (ho : s.inOrder (tunUnit x.hdr) x = true) :
    let u := unitDetach x s
    u.get CHN_SUM_DETACH = 1 ∧ 0x0D04 ∈ u.occ ∧ Acks (tunUnit x.hdr) x u ∧
      (tunUnit x.hdr ≠ 0 → ∀ v : UnitIx, s.get (CHN_ROSTER_STAT_POS (tunUnit x.hdr)) < s.get (CHN_ROSTER_STAT_POS v) →
        u.bit CHN_STAT_PRESENT v = false) := by
  obtain ⟨h1, h2, -, h4⟩ := s.detach_shown (tunUnit x.hdr)
  dsimp only
  rw [unitDetach, State.upUnit, if_neg (not_not.2 hh), if_pos ho]
  generalize s.detach (tunUnit x.hdr) = t at *
  exact ⟨h1, h2, t.taken_acks _ x, fun hn v hv => h4 v (by rw [if_neg hn]; exact hv)⟩

/-- Settles O22: a frame's slots and counts first, then its control field; the head's deal by its answers. -/
theorem chainFramesAndDeal : Obligations.ChainFramesAndDeal := by
  unfold Obligations.ChainFramesAndDeal
  refine ⟨fun s p f h => ⟨fun hm => ⟨_, rfl, ?_⟩, fun hm hc hs hg => ⟨_, rfl, ?_⟩, fun hm hc hp hidle => ?_,
      fun hm hc hp hh hidle hd hseen ha hheld hs hl => ?_, fun hm hc hp hh hidle hd hseen ha hs hl => ?_⟩,
    fun s hh => ⟨fun force => ⟨_, rfl, ?_⟩, fun a v h0 h16 hd hseq => ?_, fun hd hr hf => ⟨_, rfl, chnDealDone_late hh hd hr hf⟩,
      fun a x _ ha hd hr hgot htail hpos hlo hhi => ⟨_, rfl, chnDealDone_tail hh ha hd hr hgot htail hpos hlo hhi⟩,
      fun x ht hdata ho => ⟨_, rfl, ?_⟩, fun x ht hdata ho => ⟨_, rfl, ?_⟩⟩⟩
  · obtain ⟨h1, h2, h3, h4⟩ := chainFrameRx_missing p h hm
    exact ⟨h1, h2, fun i hi => h3 i hi (Nat.lt_of_lt_of_le hi s.chainWidth_le), h4⟩
  · obtain ⟨h1, h2, h3, h4, h5⟩ := chainFrameRx_damaged p h hm hc hs hg
    exact ⟨h1, h2, h3, fun i hi => h4 i hi (Nat.lt_of_lt_of_le hi s.chainWidth_le), h5⟩
  · subst hp
    obtain ⟨h1, h2, h3, h4, h5⟩ := s.frameIn_whole (1 : TwoIx) hm hc
    rw [← chainFrameRx_downstream h hm hc hidle] at h1 h2 h3 h4 h5
    exact ⟨_, rfl, fun i hi => h1 i hi (Nat.lt_of_lt_of_le hi s.chainWidth_le), h2, h3, h4, h5⟩
  · subst hp
    exact ⟨_, rfl, chainFrameRx_dealt h hm hc hh hidle hd hseen ha hheld hs hl⟩
  · subst hp
    exact ⟨_, rfl, chainFrameRx_full h hm hc hh hidle hd hseen ha hs hl⟩
  · rw [deal, State.dealStart, if_pos hh]
    exact ⟨rfl, (Quiet.refl _ s).setChain _⟩
  · obtain ⟨htype, -⟩ := tunHdr_addr (unit := a) (type := 8) (addr := a + 2 ^ 9 * s.chain.dealSeq) (ring := 0) (word := 0) (nw := 0)
      (status := 0) (by decide) (by omega) (by decide)
    refine ⟨_, rfl, ?_⟩
    rw [if_pos htype, unitDealRsp, if_pos hh]
    exact dealAnswer_first v hh h0 h16 hd hseq
  · rw [if_pos ⟨ht, by rw [hdata]; rfl⟩]
    exact topoAttach_taken hh ho
  · rw [if_pos ⟨ht, by rw [hdata]; rfl⟩]
    exact topoDetach_taken hh ho

end Sys2Proof.Machine
end

section
/-! The cause of a cold reset (R458, R461): SYS_STAT.RST_CAUSE has two bits and shows no cause above 3. -/

namespace Sys2Proof.Machine

variable {l : List Fld} {s t u : State}

/-- The fields of the boot's selection of a slot (R167, R168, R462). -/
def bootFlds : List Fld := [SYS_STAT_BOOT_STATE, SYS_BOOT_REASON_A, SYS_BOOT_REASON_B, SYS_SUM_BOOT_EMPTY]

theorem Quiet.setReason (h : Quiet bootFlds s t) (k v : Nat) : Quiet bootFlds s (t.setReason k v) := by
  unfold State.setReason
  split
  · exact h.put (by decide) v
  · exact h.put (by decide) v

theorem Quiet.classifySlots (h : Quiet bootFlds s t) (ks : List Nat) : Quiet bootFlds s (t.classifySlots ks) :=
  .foldl (fun _ _ h => .ite (h.setReason _ _) ((h.setReason _ _).post _ _ _)) ks h

theorem Quiet.bootDone (h : Quiet bootFlds s t) (units : Nat) : Quiet bootFlds s (t.bootDone 5 units) := by
  have h1 : Quiet bootFlds s ((t.put SYS_STAT_BOOT_STATE 5).put SYS_SUM_BOOT_EMPTY 1) := Quiet.put (h.put (by decide) 5) (by decide) 1
  unfold State.bootDone
  dsimp only
  rw [if_pos rfl]
  generalize (t.put SYS_STAT_BOOT_STATE 5).put SYS_SUM_BOOT_EMPTY 1 = v at *
  exact Quiet.update (h1.post _ _ _)

theorem State.bootSelect_quiet (s : State) : Quiet bootFlds s s.bootSelect := by
  unfold State.bootSelect
  extract_lets +onlyGivenNames t v
  have h0 : Quiet bootFlds s t := Quiet.update (.refl _ s)
  have h1 : Quiet bootFlds s v := (h0.put (by decide) 1).classifySlots _
  refine .ite (h0.put (by decide) 6) ?_
  clear_value v
  split
  · exact Quiet.update (h1.put (by decide) 2)
  · exact Quiet.bootDone (h1.post _ _ _) 0

theorem State.coldStart_cause (s : State) (p : PowerInputs) (c : Nat) : (s.coldStart p c).get SYS_STAT_RST_CAUSE = c % 4 := by
  unfold State.coldStart
  dsimp only
  rw [(State.bootSelect_quiet _).get (by decide) (by decide), State.get_put_same]
  rfl

theorem resetRelease_cause (p : PowerInputs) {c : Nat} {b : Bool} (h : s.rst = some (0, c, b)) :
    (resetRelease p s).get SYS_STAT_RST_CAUSE = c % 4 := by
  have hcold : resetRelease p s = (s.coldStart p c).reportReset 0 := by
    simp only [resetRelease, h]
  rw [hcold, ← s.coldStart_cause p c]
  generalize s.coldStart p c = t
  unfold State.reportReset
  split
  · rfl
  · rw [State.get_setChain]

/-- A COLD reset of cause 4 is about to be released. -/
def fourthCause : State := { State.reset with rst := some (0, 4, true) }

/-- A satellite's pins, with a crystal that starts and no fuse blown. -/
def satellitePins : PowerInputs := { head := false, strap := 0, margin := false, addrMv := 0, xoOk := true, fuses := 0, sysBad := 0 }

/-- Refutes O34: a released COLD reset of cause 4 shows cause 0, for RST_CAUSE has two bits. -/
theorem not_startUpAndDomainTicks : ¬ Obligations.StartUpAndDomainTicks := by
  unfold Obligations.StartUpAndDomainTicks
  intro h
  obtain ⟨hstart, -⟩ := h
  obtain ⟨-, hrelease, -⟩ := hstart fourthCause satellitePins
  obtain ⟨u, hu, -, -, -, -, -, -, -, hcause, -⟩ := hrelease 4 true (by decide) rfl
  obtain rfl : resetRelease satellitePins fourthCause = u := by injection hu
  rw [resetRelease_cause satellitePins (show fourthCause.rst = some (0, 4, true) from rfl)] at hcause
  exact absurd hcause (by decide)

end Sys2Proof.Machine
end
